-- ==== Sys2Proof/Word.lean ====
section
/-! DEFINITION. The word types of the PRX-FZ1 (R4, R109). -/

namespace Sys2Proof

/-- A byte of any memory. -/
abbrev Byte := BitVec 8
/-- A scalar register (R109). -/
abbrev W64 := BitVec 64
/-- A vector register (R109). -/
abbrev VReg := BitVec 1024
/-- A predicate register (R109). -/
abbrev PReg := BitVec 128
/-- A 7-bit cause code (R292). -/
abbrev Cause := BitVec 7

end Sys2Proof
end

