-- ==== Sys2Proof/Machine/Bits.lean ====
section
/-! DEFINITION. Bit fields, byte order and counting, shared by every unit (R4). -/

namespace Sys2Proof.Machine

/-- len bits of x from bit lo up, as a number. -/
def bits (x lo len : Nat) : Nat := (x >>> lo) % 2 ^ len

/-- The field [lo + len - 1 : lo] of a bit vector. -/
def fld {n : Nat} (x : BitVec n) (lo len : Nat) : Nat := bits x.toNat lo len

/-- Bit i of a number. -/
def bit (x i : Nat) : Bool := decide (bits x i 1 = 1)

/-- x with its field of len bits at lo replaced by v. -/
def setBits (x lo len v : Nat) : Nat := x - (bits x lo len) <<< lo + (v % 2 ^ len) <<< lo

/-- Two's complement reading of the low n bits of x. -/
def signed (n x : Nat) : Int :=
  let y := x % 2 ^ n
  if 2 ^ (n - 1) ≤ y then (y : Int) - (2 ^ n : Nat) else (y : Int)

/-- The low n bits of an integer, as a number. -/
def wrap (n : Nat) (x : Int) : Nat := (x % ((2 ^ n : Nat) : Int)).toNat

/-- Bytes to a number, the first byte lowest (R4). -/
def ofBytes : List Byte → Nat
  | [] => 0
  | b :: t => b.toNat + 256 * ofBytes t

/-- n bytes of a number, the lowest first (R4). -/
def toBytes : Nat → Nat → List Byte
  | 0, _ => []
  | n + 1, x => BitVec.ofNat 8 x :: toBytes n (x / 256)

/-- Bytes to a number, the first byte highest. -/
def ofBytesBE (l : List Byte) : Nat := l.foldl (fun a b => a * 256 + b.toNat) 0

/-- n bytes of a number, the highest first. -/
def toBytesBE (n x : Nat) : List Byte := (toBytes n x).reverse

/-- Number of bits up to the highest 1. -/
def blen (x : Nat) : Nat := if x = 0 then 0 else Nat.log2 x + 1

/-- Ones among the low n bits. -/
def popc : Nat → Nat → Nat
  | 0, _ => 0
  | n + 1, x => x % 2 + popc n (x / 2)

/-- Zeros below the lowest 1 of the low n bits; n when there is none. -/
def ctz : Nat → Nat → Nat
  | 0, _ => 0
  | n + 1, x => if x % 2 = 1 then 0 else 1 + ctz n (x / 2)

/-- Zeros above the highest 1 of n bits. -/
def clz (n x : Nat) : Nat := n - blen (x % 2 ^ n)

/-- The low w bits of x in reverse order. -/
def revBits : Nat → Nat → Nat
  | 0, _ => 0
  | w + 1, x => (x % 2) * 2 ^ w + revBits w (x / 2)

/-- Residue from 0 to m - 1 of an integer; 0 when m is 0. -/
def floorMod (x : Int) (m : Nat) : Nat := if m = 0 then 0 else (x % (m : Int)).toNat

/-- A run of n ones at bit lo. -/
def onesAt (lo n : Nat) : Nat := (2 ^ n - 1) <<< lo

/-- The numbers lo to lo + n - 1. -/
def upto (lo : Nat) : Nat → List Nat
  | 0 => []
  | n + 1 => lo :: upto (lo + 1) n

/-- Rounds n up to a multiple of m. -/
def roundUp (n m : Nat) : Nat := (n + m - 1) / m * m

/-- Element i of a list, with a default. -/
def nth {α : Type} (d : α) : List α → Nat → α
  | [], _ => d
  | x :: _, 0 => x
  | _ :: t, i + 1 => nth d t i

/-- A list with element i replaced. -/
def setNth {α : Type} : List α → Nat → α → List α
  | [], _, _ => []
  | _ :: t, 0, y => y :: t
  | x :: t, i + 1, y => x :: setNth t i y

/-- A list without element i. -/
def dropNth {α : Type} : List α → Nat → List α
  | [], _ => []
  | _ :: t, 0 => t
  | x :: t, i + 1 => x :: dropNth t i

/-- The greatest of a list. -/
def maxOf (l : List Nat) : Nat := l.foldl max 0

end Sys2Proof.Machine
end

