-- ==== Sys2Proof/Config.lean ====
section
/-! DEFINITION. What an implementation fixes: the figures of R1, and the free values, opaque constants of which nothing can be proved. -/

namespace Sys2Proof.Config

/-- Tiles of the package (R1). -/
abbrev tiles : Nat := 2304
/-- Clusters of the package (R1). -/
abbrev clusters : Nat := 144
/-- Compute dies (R1). -/
abbrev dies : Nat := 8
/-- Control cores (R1). -/
abbrev cores : Nat := 32
/-- Scratchpad bytes of a tile (R125). -/
abbrev spadSize : Nat := 0x100000
/-- Inkwell bytes of a tile (R131). -/
abbrev inkwellSize : Nat := 0x40000
/-- Spill bytes of a context (R130). -/
abbrev spillSize : Nat := 4096

/-- FREE VALUE: the units by which a special-function result lies off the correctly rounded one, kept within the bound of R174
where it is used; function number and argument (log entry 4). -/
opaque fnOffset : Nat → BitVec 32 → Int
/-- FREE VALUE: the signature the identity key makes over a digest (R19): the private half is readable only by the security processor
(log entry 5). -/
opaque identitySign : BitVec 256 → BitVec 512
/-- FREE VALUE: the session key the two security processors agree (R41), by port and agreement number (log entry 6). -/
opaque sessionKey : Nat → Nat → BitVec 256
/-- FREE VALUE: what a byte of physical memory reads as that cannot be delivered, by address: outside the interleave (R32 gives no result), and for a
reader without an error phase behind a link that failed or in a poisoned line (log entry 7). -/
opaque beyondCapacity : Nat → Byte
/-- FREE VALUE: the bytes of an element of a reserved type code, which the spec does not size, by code (log entry 16). -/
opaque reservedTypeBytes : Nat → Nat
/-- FREE VALUE: the layout of a Weathervane page that the spec does not lay out (pages 1 and 12): a byte by page, what the page tells, and offset (log
entry 17). -/
opaque wvByte : Nat → List Nat → Nat → Byte
/-- FREE VALUE: a fresh choice the spec leaves arbitrary, by the counter of State that numbers it (log entry 8). -/
opaque choice : Nat → Nat
/-- FREE VALUE: a fresh unstated byte, by the counter of State that numbers it (log entry 8). -/
opaque freeByte : Nat → Byte
/-- FREE VALUE: a fresh unstated word, by the counter of State that numbers it (log entry 8). -/
opaque freeWord : Nat → W64

end Sys2Proof.Config
end

