-- ==== Sys2Proof/Syntax.lean ====
section
/-! DEFINITION. The steps of the PRX-FZ1 as syntax: one constructor of Instr per row of spec/opcode_table.json. A slot operation
carries the fields of its slot as chapter 12 lays them out (R319, R325-R333); a device step carries the unit it happens at and what
arrives with it. -/

namespace Sys2Proof

/-- An issuing unit: a context of a tile, or a control core (R2, R45). -/
inductive UnitId where
  | ctx (tile c : Nat)
  | core (k : Nat)
deriving DecidableEq, Repr

/-- Where a merge stage or a control core issues (R91). -/
inductive Site where
  | tile (t : Nat)
  | core (k : Nat)
deriving DecidableEq, Repr

/-- A management datagram (R73): the header, where it came from, and its body. -/
structure MgmtReq where
  port  : Nat
  src   : Nat
  magic : BitVec 16
  ver   : BitVec 8
  op    : BitVec 8
  tag   : BitVec 16
  arg0  : BitVec 32
  arg1  : BitVec 32
  body  : List Byte
deriving DecidableEq, Repr

/-- Why an Ethernet port discards a datagram (R24, R26, R43). -/
inductive Discard where
  | unclaimedPort (udp : Nat)
  | managementInBringup
  | fragment
  | badFrame
  | roceSend
  | roceAtomic
  | roceDatagram
deriving DecidableEq, Repr

/-- What becomes of a supply rail, by its place in R9's table, VDD_AUX being 11: it leaves its window, or the board removes or applies it (R9, R10). -/
inductive RailEvent where
  | leaves (rail : Nat)
  | removed (rail : Nat)
  | applied (rail : Nat)
deriving DecidableEq, Repr

/-- What a check of R43 finds: a state or parity error; a word of on-die SRAM that SECDED corrects; one that it cannot, read by a context of a tile or
(ctx 2) by its engines. -/
inductive Check where
  | state
  | sramCorrected (tile : Nat)
  | sramUncorrectable (tile ctx : Nat)
deriving DecidableEq, Repr

/-- One step of the machine: a row of the opcode table. -/
inductive Instr where
  /-- RESET (R20). -/
  | reset
  /-- POWER_FAULT (R9). -/
  | powerFault (e : RailEvent)
  /-- THERMAL_TRIP (R292). -/
  | thermalTrip (die : Nat)
  /-- MACHINE_CHECK (R43). -/
  | machineCheck (e : Check)
  /-- SELF_CHECK_FAIL (R20). -/
  | selfCheckFail
  /-- STAGE1_VERIFY (R15). -/
  | stage1Verify
  /-- MEMORY_LINK_TRAINING (R32). -/
  | memoryLinkTraining (trained : BitVec 48)
  /-- STAGE2_VERIFY (R17). -/
  | stage2Verify
  /-- IMAGE_CHUNK (R17). -/
  | imageChunk (r : MgmtReq)
  /-- IMAGE_COMMIT (R17). -/
  | imageCommit (r : MgmtReq)
  /-- MEASUREMENT_EXTEND (R19). -/
  | measurementExtend (bodyHash : BitVec 256) (version : BitVec 32)
  /-- QUOTE (R19). -/
  | quote (r : MgmtReq)
  /-- READ_PAGE (R74). -/
  | readPage (r : MgmtReq)
  /-- MGMT_DRAIN (R76). -/
  | mgmtDrain (r : MgmtReq)
  /-- MGMT_RESUME (R77). -/
  | mgmtResume (r : MgmtReq)
  /-- SETCAP (R74). -/
  | setcap (r : MgmtReq)
  /-- MGMT_UNKNOWN_OPERATION (R74). -/
  | mgmtUnknownOperation (r : MgmtReq)
  /-- DATAGRAM_DISCARD (R26). -/
  | datagramDiscard (port : Nat) (d : Discard)
  /-- SOCKET_DATAGRAM (R270). -/
  | socketDatagram (core : Nat) (data : List Byte)
  /-- ROCE_WRITE (R25). -/
  | roceWrite (port : Nat) (rkey : BitVec 32) (va : BitVec 64) (data : List Byte)
  /-- ROCE_READ (R25). -/
  | roceRead (port : Nat) (rkey : BitVec 32) (va : BitVec 64) (len : Nat)
  /-- DEVCMD_START (R288). -/
  | devcmdStart
  /-- DEVCMD_DRAIN (R76). -/
  | devcmdDrain
  /-- DEVCMD_RESUME (R77). -/
  | devcmdResume
  /-- CAPSET (R55). -/
  | capset (v : BitVec 64)
  /-- CAP_EFFECTIVE (R11). -/
  | capEffective
  /-- MKCTL_INSTALL (R54). -/
  | mkctlInstall
  /-- MKCTL_REMOVE (R54). -/
  | mkctlRemove
  /-- TTSYNC (R52). -/
  | ttsync (v : BitVec 64)
  /-- TENANT_TABLE_RELOAD (R52). -/
  | tenantTableReload
  /-- WINSYNC (R53). -/
  | winsync (v : BitVec 64)
  /-- WINDOW_DEREGISTER_COMPLETE (R65). -/
  | windowDeregisterComplete
  /-- CTXDISP_RESUME (R263). -/
  | ctxdispResume (tile ctx : Nat)
  /-- CTXDISP_ABANDON (R263). -/
  | ctxdispAbandon (tile ctx : Nat) (cause : BitVec 7)
  /-- NANSTAT_CLEAR (R173). -/
  | nanstatClear (tile : Nat) (mask : BitVec 64)
  /-- REGISTER_WRITE (R50). -/
  | registerWrite (off : Nat) (v : BitVec 64)
  /-- CC_COMPARE (R270). -/
  | ccCompare (core : Nat)
  /-- INTERRUPT_TAKEN (R270). -/
  | interruptTaken (core : Nat)
  /-- WEATHERVANE_UPDATE (R68). -/
  | weathervaneUpdate (page : Nat)
  /-- MEMLINK_REQUEST (R29). -/
  | memlinkRequest (link : Nat) (atModule : Bool) (flit : BitVec 512)
  /-- MEMLINK_DATA (R29). -/
  | memlinkData (link : Nat) (atModule : Bool) (flit : BitVec 512)
  /-- MEMLINK_ACK (R29). -/
  | memlinkAck (link : Nat) (atModule : Bool) (flit : BitVec 512)
  /-- MEMLINK_NAK (R29). -/
  | memlinkNak (link : Nat) (atModule : Bool) (flit : BitVec 512)
  /-- MEMLINK_IDLE (R27). -/
  | memlinkIdle (link : Nat) (atModule : Bool) (flit : BitVec 512)
  /-- MEMLINK_RETRAIN (R29). -/
  | memlinkRetrain (link : Nat) (ok : Bool)
  /-- MEMLINK_RETRAIN_TIMEOUT (R29). -/
  | memlinkRetrainTimeout (link : Nat)
  /-- DRAM_SCRUB (R30). -/
  | dramScrub (link : Nat)
  /-- REMOTE_STORE (R35). -/
  | remoteStore (port : Nat) (flits : List (BitVec 512))
  /-- REMOTE_LOAD_REQUEST (R35). -/
  | remoteLoadRequest (port : Nat) (flits : List (BitVec 512))
  /-- REMOTE_LOAD_RETURN (R35). -/
  | remoteLoadReturn (port : Nat) (flits : List (BitVec 512))
  /-- COPY_DATA (R35). -/
  | copyData (port : Nat) (flits : List (BitVec 512))
  /-- BARRIER_ARRIVAL (R144). -/
  | barrierArrival (port : Nat) (flits : List (BitVec 512))
  /-- SEND (R462). -/
  | send (port : Nat) (flits : List (BitVec 512))
  /-- RECEIVE_CREDIT (R462). -/
  | receiveCredit (port : Nat) (flits : List (BitVec 512))
  /-- DEDUPLICATION_REFERENCE (R40). -/
  | deduplicationReference (port : Nat) (flits : List (BitVec 512))
  /-- DEDUPLICATION_NAK (R40). -/
  | deduplicationNak (port : Nat) (flits : List (BitVec 512))
  /-- RETRACTION_NOTICE (R286). -/
  | retractionNotice (port : Nat) (flits : List (BitVec 512))
  /-- HOP_ACK (R36). -/
  | hopAck (port : Nat) (flit : BitVec 512)
  /-- HOP_NAK (R36). -/
  | hopNak (port : Nat) (flit : BitVec 512)
  /-- ATOMIC_REQUEST (R35). -/
  | atomicRequest (port : Nat) (flits : List (BitVec 512))
  /-- ATOMIC_RETURN (R35). -/
  | atomicReturn (port : Nat) (flits : List (BitVec 512))
  /-- FABRIC_RESERVED_KIND (R35). -/
  | fabricReservedKind (port : Nat) (flit : BitVec 512)
  /-- FABRIC_RETRAIN (R36). -/
  | fabricRetrain (port : Nat) (peer : BitVec 64)
  /-- FABRIC_RETRAIN_FAIL (R36). -/
  | fabricRetrainFail (port : Nat)
  /-- SESSION_KEY_AGREEMENT (R41). -/
  | sessionKeyAgreement (port : Nat)
  /-- ENQ_ACCEPTANCE (R58). -/
  | enqAcceptance (core : Nat)
  /-- SELECTION_ROUND (R82). -/
  | selectionRound (die : Nat)
  /-- AGE_PERIOD (R83). -/
  | agePeriod (tenant queue : Nat)
  /-- KERNEL_DESCRIPTOR_LOAD (R87). -/
  | kernelDescriptorLoad (tile ctx : Nat)
  /-- TILE_CUT (R104). -/
  | tileCut (tile : Nat)
  /-- TILE_RESTORE (R274). -/
  | tileRestore (tile : Nat)
  /-- STEAL_REQUEST (R99). -/
  | stealRequest (tile ctx : Nat)
  /-- STEAL_ANSWER (R101). -/
  | stealAnswer (tile : Nat)
  /-- NODE_DONE (R60). -/
  | nodeDone (graph node : Nat)
  /-- GRAPH_COMPLETE (R61). -/
  | graphComplete (graph : Nat)
  /-- GRAPH_KILL_COMPLETE (R62). -/
  | graphKillComplete (graph : Nat)
  /-- JOIN_DECREMENT (R385). -/
  | joinDecrement (tile ctx : Nat)
  /-- BUNDLE_ISSUE (R91). -/
  | bundleIssue (site : Site)
  /-- CODE_FETCH (R311). -/
  | codeFetch (u : UnitId)
  /-- RESULT_LANDING (R120). -/
  | resultLanding (u : UnitId)
  /-- HOPEN_EXECUTE (R377). -/
  | hopenExecute (tile ctx : Nat)
  /-- HPUB_EXECUTE (R377). -/
  | hpubExecute (tile ctx : Nat)
  /-- HREL_EXECUTE (R377). -/
  | hrelExecute (tile ctx : Nat)
  /-- HFREE_COMPLETE (R376). -/
  | hfreeComplete (tile handle : Nat)
  /-- COPY_ADMISSION (R450). -/
  | copyAdmission (tile ctx : Nat)
  /-- COPY_ACCEPT (R450). -/
  | copyAccept (tile ctx : Nat)
  /-- COPY_PARK (R252). -/
  | copyPark (tile slot : Nat)
  /-- COPY_COMPLETE (R451). -/
  | copyComplete (tile slot : Nat)
  /-- REMOTE_ACCESS_PERFORM (R468). -/
  | remoteAccessPerform (tile ctx idx : Nat)
  /-- LDX_RETURN (R367). -/
  | ldxReturn (tile ctx q : Nat)
  /-- MATRIX_COMMAND_START (R417). -/
  | matrixCommandStart (tile : Nat)
  /-- NIB_BEAT (R179). -/
  | nibBeat (tile : Nat)
  /-- ARRAY_BEAT (R427). -/
  | arrayBeat (tile : Nat)
  /-- DRAIN_ROW_PUSH (R430). -/
  | drainRowPush (tile : Nat)
  /-- CBLD_BUILD (R440). -/
  | cbldBuild (tile : Nat)
  /-- TRDEF_EXECUTE (R192). -/
  | trdefExecute (tile : Nat)
  /-- BRUSH_UNIT_ACCEPT (R200). -/
  | brushUnitAccept (cluster : Nat)
  /-- BRUSH_UNIT_COMPLETE (R205). -/
  | brushUnitComplete (cluster : Nat)
  /-- XLD_EXECUTE (R215). -/
  | xldExecute (tile ctx : Nat)
  /-- XINV_STEP (R220). -/
  | xinvStep (tile ctx : Nat)
  /-- XINV_COMPLETE (R220). -/
  | xinvComplete (tile ctx : Nat)
  /-- GATHER_ACCEPT (R216). -/
  | gatherAccept (tile ctx : Nat)
  /-- GATHER_BLOCK (R217). -/
  | gatherBlock (tile ctx : Nat)
  /-- GATHER_COMPLETE (R218). -/
  | gatherComplete (tile ctx : Nat)
  /-- SPLICE_EXECUTE (R223). -/
  | spliceExecute (tile ctx : Nat)
  /-- RETOUCH_JOB_ACCEPT (R227). -/
  | retouchJobAccept (tile ctx : Nat)
  /-- REPAIR_REPORT (R229). -/
  | repairReport (tile ctx : Nat)
  /-- RETOUCH_WRITEBACK (R229). -/
  | retouchWriteback (die place : Nat)
  /-- PREFIX_BUCKET_STEP (R236). -/
  | prefixBucketStep (tile ctx : Nat)
  /-- WINNOW_PASS_ACCEPT (R258). -/
  | winnowPassAccept (die : Nat)
  /-- WINNOW_PASS_END (R258). -/
  | winnowPassEnd (die : Nat)
  /-- WINNOW_PARK (R258). -/
  | winnowPark (die : Nat)
  /-- FSEND_ACCEPT (R461). -/
  | fsendAccept (tile ctx : Nat)
  /-- FRECV_POST (R461). -/
  | frecvPost (tile ctx : Nat)
  /-- TIMING_REPLAY (R276). -/
  | timingReplay (tile : Nat) (again : Bool)
  /-- REPLAY_WINDOW_END (R276). -/
  | replayWindowEnd (tile : Nat)
  /-- REDUNDANT_COMPARE (R279). -/
  | redundantCompare (tile ctx : Nat)
  /-- REDUNDANT_TIMEOUT (R280). -/
  | redundantTimeout (tile ctx : Nat)
  /-- FIELD_TEST_START (R281). -/
  | fieldTestStart (die : Nat)
  /-- FIELD_TEST_PASS (R284). -/
  | fieldTestPass (cluster : Nat)
  /-- FIELD_TEST_FAIL (R285). -/
  | fieldTestFail (cluster : Nat)
  /-- NOP (R348). -/
  | nop (p : BitVec 4)
  /-- BR (R339). -/
  | br (p : BitVec 4) (off : BitVec 11)
  /-- BRP (R339). -/
  | brp (p : BitVec 4) (off : BitVec 11)
  /-- JR (R339). -/
  | jr (p : BitVec 4) (g : BitVec 6)
  /-- CALL (R339). -/
  | call (p : BitVec 4) (off : BitVec 11)
  /-- CALLR (R339). -/
  | callr (p : BitVec 4) (g : BitVec 6)
  /-- RET (R339). -/
  | ret (p : BitVec 4)
  /-- LOOP (R342). -/
  | loop (n : BitVec 4) (off : BitVec 11)
  /-- END (R346). -/
  | endTask (p : BitVec 4)
  /-- END_LOOP (R345). -/
  | endLoop (p : BitVec 4)
  /-- TRAP (R347). -/
  | trap (p : BitVec 4) (code : BitVec 3)
  /-- WAITH (R349). -/
  | waith (p : BitVec 4) (h : BitVec 5) (cond : BitVec 6)
  /-- WAITB (R350). -/
  | waitb (p : BitVec 4) (g : BitVec 6)
  /-- ADD (R351). -/
  | add (p : BitVec 4) (d a b : BitVec 6)
  /-- ADDI (R351). -/
  | addi (p : BitVec 4) (d a : BitVec 6) (imm : BitVec 8)
  /-- SUB (R351). -/
  | sub (p : BitVec 4) (d a b : BitVec 6)
  /-- MUL (R351). -/
  | mul (p : BitVec 4) (d a b : BitVec 6)
  /-- MULH (R351). -/
  | mulh (p : BitVec 4) (d a b : BitVec 6)
  /-- MULHU (R351). -/
  | mulhu (p : BitVec 4) (d a b : BitVec 6)
  /-- DIV (R352). -/
  | div (p : BitVec 4) (d a b : BitVec 6)
  /-- DIVU (R352). -/
  | divu (p : BitVec 4) (d a b : BitVec 6)
  /-- REM (R352). -/
  | rem (p : BitVec 4) (d a b : BitVec 6)
  /-- REMU (R352). -/
  | remu (p : BitVec 4) (d a b : BitVec 6)
  /-- AND (R351). -/
  | and (p : BitVec 4) (d a b : BitVec 6)
  /-- OR (R351). -/
  | or (p : BitVec 4) (d a b : BitVec 6)
  /-- XOR (R351). -/
  | xor (p : BitVec 4) (d a b : BitVec 6)
  /-- ANDN (R351). -/
  | andn (p : BitVec 4) (d a b : BitVec 6)
  /-- SHL (R351). -/
  | shl (p : BitVec 4) (d a b : BitVec 6)
  /-- SHR (R351). -/
  | shr (p : BitVec 4) (d a b : BitVec 6)
  /-- SAR (R351). -/
  | sar (p : BitVec 4) (d a b : BitVec 6)
  /-- ROTR (R351). -/
  | rotr (p : BitVec 4) (d a b : BitVec 6)
  /-- SHL_IMM (R351). -/
  | shlImm (p : BitVec 4) (d a n : BitVec 6)
  /-- SHR_IMM (R351). -/
  | shrImm (p : BitVec 4) (d a n : BitVec 6)
  /-- SAR_IMM (R351). -/
  | sarImm (p : BitVec 4) (d a n : BitVec 6)
  /-- ROTR_IMM (R351). -/
  | rotrImm (p : BitVec 4) (d a n : BitVec 6)
  /-- CLZ (R351). -/
  | clz (p : BitVec 4) (d a : BitVec 6)
  /-- CTZ (R351). -/
  | ctz (p : BitVec 4) (d a : BitVec 6)
  /-- POPC (R351). -/
  | popc (p : BitVec 4) (d a : BitVec 6)
  /-- MIN (R351). -/
  | min (p : BitVec 4) (d a b : BitVec 6)
  /-- MAX (R351). -/
  | max (p : BitVec 4) (d a b : BitVec 6)
  /-- MINU (R351). -/
  | minu (p : BitVec 4) (d a b : BitVec 6)
  /-- MAXU (R351). -/
  | maxu (p : BitVec 4) (d a b : BitVec 6)
  /-- SEL (R354). -/
  | sel (p : BitVec 4) (d a b : BitVec 6)
  /-- MOV (R354). -/
  | mov (p : BitVec 4) (d a : BitVec 6)
  /-- MOV_FROM_A (R354). -/
  | movFromA (p : BitVec 4) (d : BitVec 6) (an : BitVec 4)
  /-- MOV_TO_A (R354). -/
  | movToA (p : BitVec 4) (an : BitVec 4) (a : BitVec 6)
  /-- MOV_FROM_Q (R354). -/
  | movFromQ (p : BitVec 4) (d : BitVec 6) (q : BitVec 3)
  /-- LIW (R355). -/
  | liw (ext : BitVec 2) (d : BitVec 6) (imm : BitVec 48)
  /-- CMP_EQ (R353). -/
  | cmpEq (p pd : BitVec 4) (a b : BitVec 6)
  /-- CMP_NE (R353). -/
  | cmpNe (p pd : BitVec 4) (a b : BitVec 6)
  /-- CMP_LT (R353). -/
  | cmpLt (p pd : BitVec 4) (a b : BitVec 6)
  /-- CMP_GE (R353). -/
  | cmpGe (p pd : BitVec 4) (a b : BitVec 6)
  /-- CMP_LTU (R353). -/
  | cmpLtu (p pd : BitVec 4) (a b : BitVec 6)
  /-- CMP_GEU (R353). -/
  | cmpGeu (p pd : BitVec 4) (a b : BitVec 6)
  /-- CMP_FEQ (R353). -/
  | cmpFeq (p pd : BitVec 4) (a b : BitVec 6)
  /-- CMP_FLT (R353). -/
  | cmpFlt (p pd : BitVec 4) (a b : BitVec 6)
  /-- CMP_FLE (R353). -/
  | cmpFle (p pd : BitVec 4) (a b : BitVec 6)
  /-- CMP_FUN (R353). -/
  | cmpFun (p pd : BitVec 4) (a b : BitVec 6)
  /-- FADD (R356). -/
  | fadd (p : BitVec 4) (d a b : BitVec 6)
  /-- FMUL (R356). -/
  | fmul (p : BitVec 4) (d a b : BitVec 6)
  /-- FMA (R356). -/
  | fma (p : BitVec 4) (d a b : BitVec 6)
  /-- FCVT_TO_F32 (R357). -/
  | fcvtToF32 (p : BitVec 4) (d a : BitVec 6) (ty : BitVec 4) (sat : BitVec 1)
  /-- FCVT_FROM_F32 (R357). -/
  | fcvtFromF32 (p : BitVec 4) (d a : BitVec 6) (ty : BitVec 4) (sat : BitVec 1)
  /-- MIN_F32 (R356). -/
  | minF32 (p : BitVec 4) (d a b : BitVec 6)
  /-- MAX_F32 (R356). -/
  | maxF32 (p : BitVec 4) (d a b : BitVec 6)
  /-- PAND (R358). -/
  | pand (p d a b : BitVec 4)
  /-- POR (R358). -/
  | por (p d a b : BitVec 4)
  /-- PXOR (R358). -/
  | pxor (p d a b : BitVec 4)
  /-- PNOT (R358). -/
  | pnot (p d a : BitVec 4)
  /-- RDSR (R359). -/
  | rdsr (p : BitVec 4) (d sr : BitVec 6)
  /-- WRSR (R359). -/
  | wrsr (p : BitVec 4) (sr a : BitVec 6)
  /-- ALI (R360). -/
  | ali (imm gs ad : BitVec 4)
  /-- AADD (R360). -/
  | aadd (imm am src ad : BitVec 4)
  /-- AMOD (R360). -/
  | amod (imm am src ad : BitVec 4)
  /-- ABRV (R360). -/
  | abrv (imm am src ad : BitVec 4)
  /-- ACIR (R360). -/
  | acir (imm am src ad : BitVec 4)
  /-- AMSET (R360). -/
  | amset (am gs : BitVec 4)
  /-- LD_B (R365). -/
  | ldB (p : BitVec 4) (off : BitVec 12) (m : BitVec 4) (r : BitVec 6)
  /-- LD_H (R365). -/
  | ldH (p : BitVec 4) (off : BitVec 12) (m : BitVec 4) (r : BitVec 6)
  /-- LD_W (R365). -/
  | ldW (p : BitVec 4) (off : BitVec 12) (m : BitVec 4) (r : BitVec 6)
  /-- LD_D (R365). -/
  | ldD (p : BitVec 4) (off : BitVec 12) (m : BitVec 4) (r : BitVec 6)
  /-- ST_B (R365). -/
  | stB (p : BitVec 4) (off : BitVec 12) (m : BitVec 4) (r : BitVec 6)
  /-- ST_H (R365). -/
  | stH (p : BitVec 4) (off : BitVec 12) (m : BitVec 4) (r : BitVec 6)
  /-- ST_W (R365). -/
  | stW (p : BitVec 4) (off : BitVec 12) (m : BitVec 4) (r : BitVec 6)
  /-- ST_D (R365). -/
  | stD (p : BitVec 4) (off : BitVec 12) (m : BitVec 4) (r : BitVec 6)
  /-- VLD_256 (R365). -/
  | vld256 (p : BitVec 4) (off : BitVec 12) (m : BitVec 4) (r : BitVec 6)
  /-- VLD_512 (R365). -/
  | vld512 (p : BitVec 4) (off : BitVec 12) (m : BitVec 4) (r : BitVec 6)
  /-- VLD_1024 (R365). -/
  | vld1024 (p : BitVec 4) (off : BitVec 12) (m : BitVec 4) (r : BitVec 6)
  /-- VST_256 (R365). -/
  | vst256 (p : BitVec 4) (off : BitVec 12) (m : BitVec 4) (r : BitVec 6)
  /-- VST_512 (R365). -/
  | vst512 (p : BitVec 4) (off : BitVec 12) (m : BitVec 4) (r : BitVec 6)
  /-- VST_1024 (R365). -/
  | vst1024 (p : BitVec 4) (off : BitVec 12) (m : BitVec 4) (r : BitVec 6)
  /-- LDS_B (R366). -/
  | ldsB (p : BitVec 4) (off : BitVec 12) (r : BitVec 6)
  /-- LDS_H (R366). -/
  | ldsH (p : BitVec 4) (off : BitVec 12) (r : BitVec 6)
  /-- LDS_W (R366). -/
  | ldsW (p : BitVec 4) (off : BitVec 12) (r : BitVec 6)
  /-- LDS_D (R366). -/
  | ldsD (p : BitVec 4) (off : BitVec 12) (r : BitVec 6)
  /-- STS_B (R366). -/
  | stsB (p : BitVec 4) (off : BitVec 12) (r : BitVec 6)
  /-- STS_H (R366). -/
  | stsH (p : BitVec 4) (off : BitVec 12) (r : BitVec 6)
  /-- STS_W (R366). -/
  | stsW (p : BitVec 4) (off : BitVec 12) (r : BitVec 6)
  /-- STS_D (R366). -/
  | stsD (p : BitVec 4) (off : BitVec 12) (r : BitVec 6)
  /-- LDX_D (R367). -/
  | ldxD (p : BitVec 4) (off : BitVec 12) (m : BitVec 4) (q : BitVec 3)
  /-- LDX_V256 (R367). -/
  | ldxV256 (p : BitVec 4) (off : BitVec 12) (m : BitVec 4) (q : BitVec 3)
  /-- LDX_V512 (R367). -/
  | ldxV512 (p : BitVec 4) (off : BitVec 12) (m : BitVec 4) (q : BitVec 3)
  /-- LDX_V1024 (R367). -/
  | ldxV1024 (p : BitVec 4) (off : BitVec 12) (m : BitVec 4) (q : BitVec 3)
  /-- STX_D (R368). -/
  | stxD (p : BitVec 4) (off : BitVec 12) (m : BitVec 4) (r : BitVec 6)
  /-- STX_V256 (R368). -/
  | stxV256 (p : BitVec 4) (off : BitVec 12) (m : BitVec 4) (r : BitVec 6)
  /-- STX_V512 (R368). -/
  | stxV512 (p : BitVec 4) (off : BitVec 12) (m : BitVec 4) (r : BitVec 6)
  /-- STX_V1024 (R368). -/
  | stxV1024 (p : BitVec 4) (off : BitVec 12) (m : BitVec 4) (r : BitVec 6)
  /-- ATM_ADD_W (R370). -/
  | atmAddW (p : BitVec 4) (off : BitVec 12) (m : BitVec 4) (r : BitVec 6)
  /-- ATM_AND_W (R370). -/
  | atmAndW (p : BitVec 4) (off : BitVec 12) (m : BitVec 4) (r : BitVec 6)
  /-- ATM_OR_W (R370). -/
  | atmOrW (p : BitVec 4) (off : BitVec 12) (m : BitVec 4) (r : BitVec 6)
  /-- ATM_XOR_W (R370). -/
  | atmXorW (p : BitVec 4) (off : BitVec 12) (m : BitVec 4) (r : BitVec 6)
  /-- ATM_SWP_W (R370). -/
  | atmSwpW (p : BitVec 4) (off : BitVec 12) (m : BitVec 4) (r : BitVec 6)
  /-- ATM_CAS_W (R370). -/
  | atmCasW (p : BitVec 4) (off : BitVec 12) (m : BitVec 4) (r : BitVec 6)
  /-- ATM_MIN_W (R370). -/
  | atmMinW (p : BitVec 4) (off : BitVec 12) (m : BitVec 4) (r : BitVec 6)
  /-- ATM_MAX_W (R370). -/
  | atmMaxW (p : BitVec 4) (off : BitVec 12) (m : BitVec 4) (r : BitVec 6)
  /-- ATM_ADD (R370). -/
  | atmAdd (p : BitVec 4) (off : BitVec 12) (m : BitVec 4) (r : BitVec 6)
  /-- ATM_AND (R370). -/
  | atmAnd (p : BitVec 4) (off : BitVec 12) (m : BitVec 4) (r : BitVec 6)
  /-- ATM_OR (R370). -/
  | atmOr (p : BitVec 4) (off : BitVec 12) (m : BitVec 4) (r : BitVec 6)
  /-- ATM_XOR (R370). -/
  | atmXor (p : BitVec 4) (off : BitVec 12) (m : BitVec 4) (r : BitVec 6)
  /-- ATM_SWP (R370). -/
  | atmSwp (p : BitVec 4) (off : BitVec 12) (m : BitVec 4) (r : BitVec 6)
  /-- ATM_CAS (R370). -/
  | atmCas (p : BitVec 4) (off : BitVec 12) (m : BitVec 4) (r : BitVec 6)
  /-- ATM_MIN (R370). -/
  | atmMin (p : BitVec 4) (off : BitVec 12) (m : BitVec 4) (r : BitVec 6)
  /-- ATM_MAX (R370). -/
  | atmMax (p : BitVec 4) (off : BitVec 12) (m : BitVec 4) (r : BitVec 6)
  /-- ATM_FMAX_F32 (R370). -/
  | atmFmaxF32 (p : BitVec 4) (off : BitVec 12) (m : BitVec 4) (r : BitVec 6)
  /-- ATM_FMAX_BF16 (R370). -/
  | atmFmaxBf16 (p : BitVec 4) (off : BitVec 12) (m : BitVec 4) (r : BitVec 6)
  /-- ATM_FMAX_F16 (R370). -/
  | atmFmaxF16 (p : BitVec 4) (off : BitVec 12) (m : BitVec 4) (r : BitVec 6)
  /-- ATM_DEC (R372). -/
  | atmDec (p : BitVec 4) (off : BitVec 12) (m : BitVec 4) (r : BitVec 6)
  /-- VADD (R394). -/
  | vadd (p : BitVec 4) (vb va vd : BitVec 6) (ty : BitVec 4) (wid : BitVec 2)
  /-- VSUB (R394). -/
  | vsub (p : BitVec 4) (vb va vd : BitVec 6) (ty : BitVec 4) (wid : BitVec 2)
  /-- VMUL (R394). -/
  | vmul (p : BitVec 4) (vb va vd : BitVec 6) (ty : BitVec 4) (wid : BitVec 2)
  /-- VFMA (R394). -/
  | vfma (p : BitVec 4) (vb va vd : BitVec 6) (ty : BitVec 4) (wid : BitVec 2)
  /-- VFMS (R394). -/
  | vfms (p : BitVec 4) (vb va vd : BitVec 6) (ty : BitVec 4) (wid : BitVec 2)
  /-- VMIN (R395). -/
  | vmin (p : BitVec 4) (vb va vd : BitVec 6) (ty : BitVec 4) (wid : BitVec 2)
  /-- VMAX (R395). -/
  | vmax (p : BitVec 4) (vb va vd : BitVec 6) (ty : BitVec 4) (wid : BitVec 2)
  /-- VABS (R395). -/
  | vabs (p : BitVec 4) (va vd : BitVec 6) (ty : BitVec 4) (wid : BitVec 2)
  /-- VNEG (R395). -/
  | vneg (p : BitVec 4) (va vd : BitVec 6) (ty : BitVec 4) (wid : BitVec 2)
  /-- VCMP (R399). -/
  | vcmp (p : BitVec 4) (vb va : BitVec 6) (cc : BitVec 2) (pd ty : BitVec 4) (wid : BitVec 2)
  /-- VSEL (R400). -/
  | vsel (p : BitVec 4) (vb va vd : BitVec 6) (ty : BitVec 4) (wid : BitVec 2)
  /-- VIADD (R396). -/
  | viadd (p : BitVec 4) (vb va vd : BitVec 6) (ty : BitVec 4) (wid : BitVec 2)
  /-- VISUB (R396). -/
  | visub (p : BitVec 4) (vb va vd : BitVec 6) (ty : BitVec 4) (wid : BitVec 2)
  /-- VIMUL (R396). -/
  | vimul (p : BitVec 4) (vb va vd : BitVec 6) (ty : BitVec 4) (wid : BitVec 2)
  /-- VIMAC (R397). -/
  | vimac (p : BitVec 4) (vb va vd : BitVec 6) (ty : BitVec 4) (wid : BitVec 2)
  /-- VSAT (R398). -/
  | vsat (p : BitVec 4) (va vd : BitVec 6) (ty : BitVec 4) (wid : BitVec 2)
  /-- VSHL (R396). -/
  | vshl (p : BitVec 4) (vb va vd : BitVec 6) (ty : BitVec 4) (wid : BitVec 2)
  /-- VSHR (R396). -/
  | vshr (p : BitVec 4) (vb va vd : BitVec 6) (ty : BitVec 4) (wid : BitVec 2)
  /-- VSAR (R396). -/
  | vsar (p : BitVec 4) (vb va vd : BitVec 6) (ty : BitVec 4) (wid : BitVec 2)
  /-- VAND (R396). -/
  | vand (p : BitVec 4) (vb va vd : BitVec 6) (ty : BitVec 4) (wid : BitVec 2)
  /-- VOR (R396). -/
  | vor (p : BitVec 4) (vb va vd : BitVec 6) (ty : BitVec 4) (wid : BitVec 2)
  /-- VXOR (R396). -/
  | vxor (p : BitVec 4) (vb va vd : BitVec 6) (ty : BitVec 4) (wid : BitVec 2)
  /-- VNOT (R396). -/
  | vnot (p : BitVec 4) (va vd : BitVec 6) (ty : BitVec 4) (wid : BitVec 2)
  /-- VCVT (R401). -/
  | vcvt (p : BitVec 4) (sat : BitVec 1) (src : BitVec 4) (va vd : BitVec 6) (ty : BitVec 4) (wid : BitVec 2)
  /-- VQNT (R404). -/
  | vqnt (p : BitVec 4) (sat : BitVec 1) (va vd : BitVec 6) (ty : BitVec 4) (wid : BitVec 2)
  /-- VDQNT (R404). -/
  | vdqnt (p : BitVec 4) (va vd : BitVec 6) (ty : BitVec 4) (wid : BitVec 2)
  /-- VIMG (R405). -/
  | vimg (p : BitVec 4) (inv : BitVec 1) (va vd : BitVec 6) (ty : BitVec 4) (wid : BitVec 2)
  /-- VLSE (R408). -/
  | vlse (p : BitVec 4) (vb va vd : BitVec 6) (ty : BitVec 4) (wid : BitVec 2)
  /-- VROPE (R409). -/
  | vrope (p : BitVec 4) (vb va vd : BitVec 6) (ty : BitVec 4) (wid : BitVec 2)
  /-- VNANP (R410). -/
  | vnanp (p pd : BitVec 4)
  /-- VRSUM (R406). -/
  | vrsum (p : BitVec 4) (va vd : BitVec 6) (ty : BitVec 4) (wid : BitVec 2)
  /-- VRMAX (R406). -/
  | vrmax (p : BitVec 4) (va vd : BitVec 6) (ty : BitVec 4) (wid : BitVec 2)
  /-- VRMIN (R406). -/
  | vrmin (p : BitVec 4) (va vd : BitVec 6) (ty : BitVec 4) (wid : BitVec 2)
  /-- VBCST (R407). -/
  | vbcst (p : BitVec 4) (g vd : BitVec 6) (ty : BitVec 4) (wid : BitVec 2)
  /-- VMOV (R407). -/
  | vmov (p : BitVec 4) (va vd : BitVec 6) (ty : BitVec 4) (wid : BitVec 2)
  /-- VEXP2 (R411). -/
  | vexp2 (p : BitVec 4) (va vd : BitVec 6) (ty : BitVec 4) (wid : BitVec 2)
  /-- VLOG2 (R411). -/
  | vlog2 (p : BitVec 4) (va vd : BitVec 6) (ty : BitVec 4) (wid : BitVec 2)
  /-- VRCP (R411). -/
  | vrcp (p : BitVec 4) (va vd : BitVec 6) (ty : BitVec 4) (wid : BitVec 2)
  /-- VRSQ (R411). -/
  | vrsq (p : BitVec 4) (va vd : BitVec 6) (ty : BitVec 4) (wid : BitVec 2)
  /-- VSQRT (R411). -/
  | vsqrt (p : BitVec 4) (va vd : BitVec 6) (ty : BitVec 4) (wid : BitVec 2)
  /-- VSIN (R411). -/
  | vsin (p : BitVec 4) (va vd : BitVec 6) (ty : BitVec 4) (wid : BitVec 2)
  /-- VCOS (R411). -/
  | vcos (p : BitVec 4) (va vd : BitVec 6) (ty : BitVec 4) (wid : BitVec 2)
  /-- VTANH (R411). -/
  | vtanh (p : BitVec 4) (va vd : BitVec 6) (ty : BitVec 4) (wid : BitVec 2)
  /-- VPERM (R412). -/
  | vperm (p : BitVec 4) (vb va vd : BitVec 6) (ty : BitVec 4) (wid : BitVec 2)
  /-- VTRN (R414). -/
  | vtrn (p : BitVec 4) (va vd : BitVec 6) (ty : BitVec 4) (wid : BitVec 2)
  /-- VSHUF (R413). -/
  | vshuf (p : BitVec 4) (vb va vd : BitVec 6) (ty : BitVec 4) (wid : BitVec 2)
  /-- VZIP (R413). -/
  | vzip (p : BitVec 4) (vb va vd : BitVec 6) (ty : BitVec 4) (wid : BitVec 2)
  /-- VADD_STREAM (R331). -/
  | vaddStream (p : BitVec 4) (q : BitVec 3) (va vd : BitVec 6) (ty : BitVec 4) (wid : BitVec 2)
  /-- VSUB_STREAM (R331). -/
  | vsubStream (p : BitVec 4) (q : BitVec 3) (va vd : BitVec 6) (ty : BitVec 4) (wid : BitVec 2)
  /-- VMUL_STREAM (R331). -/
  | vmulStream (p : BitVec 4) (q : BitVec 3) (va vd : BitVec 6) (ty : BitVec 4) (wid : BitVec 2)
  /-- VFMA_STREAM (R331). -/
  | vfmaStream (p : BitVec 4) (q : BitVec 3) (va vd : BitVec 6) (ty : BitVec 4) (wid : BitVec 2)
  /-- VFMS_STREAM (R331). -/
  | vfmsStream (p : BitVec 4) (q : BitVec 3) (va vd : BitVec 6) (ty : BitVec 4) (wid : BitVec 2)
  /-- VMIN_STREAM (R331). -/
  | vminStream (p : BitVec 4) (q : BitVec 3) (va vd : BitVec 6) (ty : BitVec 4) (wid : BitVec 2)
  /-- VMAX_STREAM (R331). -/
  | vmaxStream (p : BitVec 4) (q : BitVec 3) (va vd : BitVec 6) (ty : BitVec 4) (wid : BitVec 2)
  /-- VABS_STREAM (R331). -/
  | vabsStream (p : BitVec 4) (q : BitVec 3) (vd : BitVec 6) (ty : BitVec 4) (wid : BitVec 2)
  /-- VNEG_STREAM (R331). -/
  | vnegStream (p : BitVec 4) (q : BitVec 3) (vd : BitVec 6) (ty : BitVec 4) (wid : BitVec 2)
  /-- VCMP_STREAM (R331). -/
  | vcmpStream (p : BitVec 4) (q : BitVec 3) (va : BitVec 6) (cc : BitVec 2) (pd ty : BitVec 4) (wid : BitVec 2)
  /-- VSEL_STREAM (R331). -/
  | vselStream (p : BitVec 4) (q : BitVec 3) (va vd : BitVec 6) (ty : BitVec 4) (wid : BitVec 2)
  /-- VIADD_STREAM (R331). -/
  | viaddStream (p : BitVec 4) (q : BitVec 3) (va vd : BitVec 6) (ty : BitVec 4) (wid : BitVec 2)
  /-- VISUB_STREAM (R331). -/
  | visubStream (p : BitVec 4) (q : BitVec 3) (va vd : BitVec 6) (ty : BitVec 4) (wid : BitVec 2)
  /-- VIMUL_STREAM (R331). -/
  | vimulStream (p : BitVec 4) (q : BitVec 3) (va vd : BitVec 6) (ty : BitVec 4) (wid : BitVec 2)
  /-- VIMAC_STREAM (R331). -/
  | vimacStream (p : BitVec 4) (q : BitVec 3) (va vd : BitVec 6) (ty : BitVec 4) (wid : BitVec 2)
  /-- VSAT_STREAM (R331). -/
  | vsatStream (p : BitVec 4) (q : BitVec 3) (vd : BitVec 6) (ty : BitVec 4) (wid : BitVec 2)
  /-- VSHL_STREAM (R331). -/
  | vshlStream (p : BitVec 4) (q : BitVec 3) (va vd : BitVec 6) (ty : BitVec 4) (wid : BitVec 2)
  /-- VSHR_STREAM (R331). -/
  | vshrStream (p : BitVec 4) (q : BitVec 3) (va vd : BitVec 6) (ty : BitVec 4) (wid : BitVec 2)
  /-- VSAR_STREAM (R331). -/
  | vsarStream (p : BitVec 4) (q : BitVec 3) (va vd : BitVec 6) (ty : BitVec 4) (wid : BitVec 2)
  /-- VAND_STREAM (R331). -/
  | vandStream (p : BitVec 4) (q : BitVec 3) (va vd : BitVec 6) (ty : BitVec 4) (wid : BitVec 2)
  /-- VOR_STREAM (R331). -/
  | vorStream (p : BitVec 4) (q : BitVec 3) (va vd : BitVec 6) (ty : BitVec 4) (wid : BitVec 2)
  /-- VXOR_STREAM (R331). -/
  | vxorStream (p : BitVec 4) (q : BitVec 3) (va vd : BitVec 6) (ty : BitVec 4) (wid : BitVec 2)
  /-- VNOT_STREAM (R331). -/
  | vnotStream (p : BitVec 4) (q : BitVec 3) (vd : BitVec 6) (ty : BitVec 4) (wid : BitVec 2)
  /-- VCVT_STREAM (R331). -/
  | vcvtStream (p : BitVec 4) (sat : BitVec 1) (src : BitVec 4) (q : BitVec 3) (vd : BitVec 6) (ty : BitVec 4) (wid : BitVec 2)
  /-- VQNT_STREAM (R331). -/
  | vqntStream (p : BitVec 4) (sat : BitVec 1) (q : BitVec 3) (vd : BitVec 6) (ty : BitVec 4) (wid : BitVec 2)
  /-- VDQNT_STREAM (R331). -/
  | vdqntStream (p : BitVec 4) (q : BitVec 3) (vd : BitVec 6) (ty : BitVec 4) (wid : BitVec 2)
  /-- VIMG_STREAM (R331). -/
  | vimgStream (p : BitVec 4) (inv : BitVec 1) (q : BitVec 3) (vd : BitVec 6) (ty : BitVec 4) (wid : BitVec 2)
  /-- VLSE_STREAM (R331). -/
  | vlseStream (p : BitVec 4) (q : BitVec 3) (va vd : BitVec 6) (ty : BitVec 4) (wid : BitVec 2)
  /-- VROPE_STREAM (R331). -/
  | vropeStream (p : BitVec 4) (q : BitVec 3) (va vd : BitVec 6) (ty : BitVec 4) (wid : BitVec 2)
  /-- VRSUM_STREAM (R331). -/
  | vrsumStream (p : BitVec 4) (q : BitVec 3) (vd : BitVec 6) (ty : BitVec 4) (wid : BitVec 2)
  /-- VRMAX_STREAM (R331). -/
  | vrmaxStream (p : BitVec 4) (q : BitVec 3) (vd : BitVec 6) (ty : BitVec 4) (wid : BitVec 2)
  /-- VRMIN_STREAM (R331). -/
  | vrminStream (p : BitVec 4) (q : BitVec 3) (vd : BitVec 6) (ty : BitVec 4) (wid : BitVec 2)
  /-- VMOV_STREAM (R331). -/
  | vmovStream (p : BitVec 4) (q : BitVec 3) (vd : BitVec 6) (ty : BitVec 4) (wid : BitVec 2)
  /-- VEXP2_STREAM (R331). -/
  | vexp2Stream (p : BitVec 4) (q : BitVec 3) (vd : BitVec 6) (ty : BitVec 4) (wid : BitVec 2)
  /-- VLOG2_STREAM (R331). -/
  | vlog2Stream (p : BitVec 4) (q : BitVec 3) (vd : BitVec 6) (ty : BitVec 4) (wid : BitVec 2)
  /-- VRCP_STREAM (R331). -/
  | vrcpStream (p : BitVec 4) (q : BitVec 3) (vd : BitVec 6) (ty : BitVec 4) (wid : BitVec 2)
  /-- VRSQ_STREAM (R331). -/
  | vrsqStream (p : BitVec 4) (q : BitVec 3) (vd : BitVec 6) (ty : BitVec 4) (wid : BitVec 2)
  /-- VSQRT_STREAM (R331). -/
  | vsqrtStream (p : BitVec 4) (q : BitVec 3) (vd : BitVec 6) (ty : BitVec 4) (wid : BitVec 2)
  /-- VSIN_STREAM (R331). -/
  | vsinStream (p : BitVec 4) (q : BitVec 3) (vd : BitVec 6) (ty : BitVec 4) (wid : BitVec 2)
  /-- VCOS_STREAM (R331). -/
  | vcosStream (p : BitVec 4) (q : BitVec 3) (vd : BitVec 6) (ty : BitVec 4) (wid : BitVec 2)
  /-- VTANH_STREAM (R331). -/
  | vtanhStream (p : BitVec 4) (q : BitVec 3) (vd : BitVec 6) (ty : BitVec 4) (wid : BitVec 2)
  /-- VPERM_STREAM (R331). -/
  | vpermStream (p : BitVec 4) (q : BitVec 3) (va vd : BitVec 6) (ty : BitVec 4) (wid : BitVec 2)
  /-- VTRN_STREAM (R331). -/
  | vtrnStream (p : BitVec 4) (q : BitVec 3) (vd : BitVec 6) (ty : BitVec 4) (wid : BitVec 2)
  /-- VSHUF_STREAM (R331). -/
  | vshufStream (p : BitVec 4) (q : BitVec 3) (va vd : BitVec 6) (ty : BitVec 4) (wid : BitVec 2)
  /-- VZIP_STREAM (R331). -/
  | vzipStream (p : BitVec 4) (q : BitVec 3) (va vd : BitVec 6) (ty : BitVec 4) (wid : BitVec 2)
  /-- MCFG (R422). -/
  | mcfg (imm : BitVec 16)
  /-- MLDW (R424). -/
  | mldw
  /-- MSWAP (R425). -/
  | mswap
  /-- MPUSH (R427). -/
  | mpush (acc : BitVec 1) (bank : BitVec 3) (row : BitVec 6) (h : BitVec 5)
  /-- MACW (R427). -/
  | macw (acc : BitVec 1) (bank : BitVec 3) (row : BitVec 6) (h : BitVec 5)
  /-- MSHIFT_ZERO (R429). -/
  | mshiftZero (h : BitVec 5)
  /-- MSHIFT_BACK (R429). -/
  | mshiftBack (h : BitVec 5)
  /-- MSHIFT_FWD (R429). -/
  | mshiftFwd (h : BitVec 5)
  /-- MDRAIN (R430). -/
  | mdrain (bank : BitVec 3) (row : BitVec 6) (n1 : BitVec 5)
  /-- MZERO (R431). -/
  | mzero (bank : BitVec 3) (row : BitVec 6) (n1 : BitVec 5)
  /-- SQSET (R447). -/
  | sqset (reg g : BitVec 6)
  /-- SQGO (R450). -/
  | sqgo (slot : BitVec 3)
  /-- SQBIND (R453). -/
  | sqbind (q : BitVec 3) (g : BitVec 6)
  /-- ACCPY (R454). -/
  | accpy (bank : BitVec 3) (g : BitVec 6)
  /-- HALLOC (R374). -/
  | halloc (h : BitVec 5) (g : BitVec 6)
  /-- HFREE (R376). -/
  | hfree (h : BitVec 5)
  /-- HOPEN (R377). -/
  | hopen (h : BitVec 5)
  /-- HPUB (R377). -/
  | hpub (h : BitVec 5) (g : BitVec 6)
  /-- HREL (R377). -/
  | hrel (h : BitVec 5) (g : BitVec 6)
  /-- HSET (R375). -/
  | hset (h : BitVec 5) (g : BitVec 6)
  /-- BINIT (R379). -/
  | binit (gv ga : BitVec 6)
  /-- BINIT_REL (R380). -/
  | binitRel (g : BitVec 6)
  /-- BARR (R381). -/
  | barr (g : BitVec 6)
  /-- DRN (R382). -/
  | drn
  /-- FORK (R384). -/
  | fork (pd : BitVec 4) (g : BitVec 6)
  /-- JOIN (R385). -/
  | join (gr gb : BitVec 6)
  /-- ENQ (R386). -/
  | enq (queue : BitVec 4) (g : BitVec 6)
  /-- NIBSET (R437). -/
  | nibset (g : BitVec 6)
  /-- NIBSET_ST (R438). -/
  | nibsetSt (g : BitVec 6)
  /-- CBLD (R439). -/
  | cbld (h : BitVec 5) (g : BitVec 6)
  /-- TRDEF (R441). -/
  | trdef (h : BitVec 5) (slot : BitVec 3)
  /-- TRENC (R442). -/
  | trenc (h : BitVec 5) (g : BitVec 6)
  /-- TWUPD (R442). -/
  | twupd (h : BitVec 5) (g : BitVec 6)
  /-- XLD (R455). -/
  | xld (gb g : BitVec 6)
  /-- XINV (R455). -/
  | xinv (gb g : BitVec 6)
  /-- KVG (R456). -/
  | kvg (h : BitVec 5) (g : BitVec 6)
  /-- SPLC (R221). -/
  | splc (h : BitVec 5) (g : BitVec 6)
  /-- RPRSET (R457). -/
  | rprset (g : BitVec 6)
  /-- RPR (R226). -/
  | rpr (h : BitVec 5) (g : BitVec 6)
  /-- RPR_REP (R457). -/
  | rprRep (gx ga : BitVec 6)
  /-- PXLK (R458). -/
  | pxlk (gb g : BitVec 6)
  /-- PXIN (R458). -/
  | pxin (gb g : BitVec 6)
  /-- PXIN_RM (R458). -/
  | pxinRm (gb g : BitVec 6)
  /-- WNSEL (R459). -/
  | wnsel (h : BitVec 5) (g : BitVec 6)
  /-- FSEND (R460). -/
  | fsend (h : BitVec 5) (g : BitVec 6)
  /-- FRECV_HANDLE (R461). -/
  | frecvHandle (h : BitVec 5) (g : BitVec 6)
  /-- FRECV_STREAM (R461). -/
  | frecvStream (q : BitVec 3) (g : BitVec 6)
  /-- SYSC (R387). -/
  | sysc (n : BitVec 6)
  /-- ERET (R388). -/
  | eret
  /-- TLBI (R389). -/
  | tlbi (g : BitVec 6)
  /-- WFE (R390). -/
  | wfe
  /-- SAHETH_LINK_PORT_TRAINING (R41). -/
  | sahethLinkPortTraining (port : Nat) (peer : BitVec 64)
  /-- PAGE_WALK_COMPLETE (R149). -/
  | pageWalkComplete (die walk : Nat)
deriving DecidableEq, Repr

end Sys2Proof
end

