-- ==== Sys2Proof/WellFormed.lean ====
section
/-! DEFINITION. Which operands a slot operation accepts, and which unit numbers a device step may name. A slot operation that is not
well-formed faults RESERVED_FIELD at decode (R319-R323, R335), or STREAM_DEST where it sends to q6 or q7. -/

namespace Sys2Proof

/-- A PRED field that guards or selects is not 0b1000 (R320). -/
def guardOk (p : BitVec 4) : Bool := decide (p ≠ 8#4)
/-- Type set F: .f32, .bf16, .f16 (R393). -/
def tyF (t : BitVec 4) : Bool := decide (t.toNat ≤ 2)
/-- Type set I: the integer types 6 to 13 (R393). -/
def tyI (t : BitVec 4) : Bool := decide (6 ≤ t.toNat) && decide (t.toNat ≤ 13)
/-- Types F and I (R393). -/
def tyFI (t : BitVec 4) : Bool := tyF t || tyI t
/-- Type set A: element size of 8 bits or more (R393). -/
def tyA (t : BitVec 4) : Bool := decide (t.toNat ≤ 4) || tyI t
/-- Type set B: every type, 0 to 14 (R393). -/
def tyB (t : BitVec 4) : Bool := decide (t.toNat ≤ 14)
/-- VIMAC's types: .i8, .w8, .i16, .w16 (R397). -/
def tyMac (t : BitVec 4) : Bool := decide (t.toNat = 6 ∨ t.toNat = 7 ∨ t.toNat = 10 ∨ t.toNat = 11)
/-- VSAT's types (R398). -/
def tySat (t : BitVec 4) : Bool := tyI t && decide (t.toNat ≠ 6) && decide (t.toNat ≠ 10)
/-- VQNT's and VDQNT's types: .e4m3, .e5m2, .i8 (R404). -/
def tyQ (t : BitVec 4) : Bool := decide (t.toNat = 3 ∨ t.toNat = 4 ∨ t.toNat = 6)
/-- VIMG's types: 0 to 13 (R405). -/
def tyImg (t : BitVec 4) : Bool := decide (t.toNat ≤ 13)
/-- .f32 only (R408). -/
def tyF32 (t : BitVec 4) : Bool := decide (t.toNat = 0)
/-- The 16-bit types of VTRN (R414). -/
def tyTrn16 (t : BitVec 4) : Bool := decide (t.toNat = 1 ∨ t.toNat = 2 ∨ t.toNat = 7 ∨ t.toNat = 11)
/-- The 32-bit types of VTRN (R414). -/
def tyTrn32 (t : BitVec 4) : Bool := decide (t.toNat = 0 ∨ t.toNat = 8 ∨ t.toNat = 12)
/-- FCVT's source types (R357). -/
def tyCvtTo (t : BitVec 4) : Bool := (decide (1 ≤ t.toNat) && decide (t.toNat ≤ 4)) || tyI t
/-- FCVT's destination types (R357). -/
def tyCvtFrom (t : BitVec 4) : Bool := decide (t.toNat ≤ 4) || tyI t
/-- WID is 0, 1 or 2 (R319). -/
def widOk (w : BitVec 2) : Bool := decide (w ≠ 3#2)
/-- A special register that R110 or R269 lists. -/
def srListed (n : BitVec 6) : Bool := decide (n.toNat ≤ 8) || (decide (0x0C ≤ n.toNat) && decide (n.toNat ≤ 0x18))
/-- A configuration register that R446 lists. -/
def sqregListed (n : BitVec 6) : Bool := decide (n.toNat ≤ 0x0A) || (decide (0x10 ≤ n.toNat) && decide (n.toNat ≤ 0x1B))
/-- A tile and a context exist (R1, R2). -/
def ctxExists (t c : Nat) : Bool := decide (t < Config.tiles) && decide (c < 2)
/-- An issuing unit exists. -/
def unitExists : UnitId → Bool
  | .ctx t c => ctxExists t c
  | .core k => decide (k < Config.cores)
/-- A Saheth Link port exists (R34). -/
def portExists (n : Nat) : Bool := decide (n < 48)

/-- The fields hold values that the instruction's entry accepts; for a device step, the unit exists. -/
def Instr.fieldsOk : Instr → Bool
  | .reset => true
  | .powerFault (.leaves n) => decide (n < 12)
  | .powerFault (.removed n) => decide (n < 12)
  | .powerFault (.applied n) => decide (n < 12)
  | .thermalTrip die => decide (die < Config.dies)
  | .machineCheck (.sramCorrected t) => decide (t < Config.tiles)
  | .machineCheck (.sramUncorrectable t c) => decide (t < Config.tiles) && decide (c < 3)
  | .machineCheck .state => true
  | .selfCheckFail => true
  | .stage1Verify => true
  | .memoryLinkTraining _ => true
  | .stage2Verify => true
  | .imageChunk r => decide (r.port < 2)
  | .imageCommit r => decide (r.port < 2)
  | .measurementExtend _ _ => true
  | .quote r => decide (r.port < 2)
  | .readPage r => decide (r.port < 2)
  | .mgmtDrain r => decide (r.port < 2)
  | .mgmtResume r => decide (r.port < 2)
  | .setcap r => decide (r.port < 2)
  | .mgmtUnknownOperation r => decide (r.port < 2)
  | .datagramDiscard port _ => decide (port < 2)
  | .socketDatagram core _ => decide (core < Config.cores)
  | .roceWrite port _ _ _ => decide (port < 2)
  | .roceRead port _ _ _ => decide (port < 2)
  | .devcmdStart => true
  | .devcmdDrain => true
  | .devcmdResume => true
  | .capset _ => true
  | .capEffective => true
  | .mkctlInstall => true
  | .mkctlRemove => true
  | .ttsync _ => true
  | .tenantTableReload => true
  | .winsync _ => true
  | .windowDeregisterComplete => true
  | .ctxdispResume tile ctx => ctxExists tile ctx
  | .ctxdispAbandon tile ctx _ => ctxExists tile ctx
  | .nanstatClear tile _ => decide (tile < Config.tiles)
  | .registerWrite _ _ => true
  | .ccCompare core => decide (core < Config.cores)
  | .interruptTaken core => decide (core < Config.cores)
  | .weathervaneUpdate page => decide (page < 14)
  | .memlinkRequest link _ _ => decide (link < 48)
  | .memlinkData link _ _ => decide (link < 48)
  | .memlinkAck link _ _ => decide (link < 48)
  | .memlinkNak link _ _ => decide (link < 48)
  | .memlinkIdle link _ _ => decide (link < 48)
  | .memlinkRetrain link _ => decide (link < 48)
  | .memlinkRetrainTimeout link => decide (link < 48)
  | .dramScrub link => decide (link < 48)
  | .remoteStore port _ => portExists port
  | .remoteLoadRequest port _ => portExists port
  | .remoteLoadReturn port _ => portExists port
  | .copyData port _ => portExists port
  | .barrierArrival port _ => portExists port
  | .send port _ => portExists port
  | .receiveCredit port _ => portExists port
  | .deduplicationReference port _ => portExists port
  | .deduplicationNak port _ => portExists port
  | .retractionNotice port _ => portExists port
  | .hopAck port _ => portExists port
  | .hopNak port _ => portExists port
  | .atomicRequest port _ => portExists port
  | .atomicReturn port _ => portExists port
  | .fabricReservedKind port _ => portExists port
  | .fabricRetrain port _ => portExists port
  | .fabricRetrainFail port => portExists port
  | .sessionKeyAgreement port => portExists port
  | .enqAcceptance core => decide (core < Config.cores)
  | .selectionRound die => decide (die < Config.dies)
  | .agePeriod tenant queue => decide (tenant < 64) && decide (queue < 16)
  | .kernelDescriptorLoad tile ctx => ctxExists tile ctx
  | .tileCut tile => decide (tile < Config.tiles)
  | .tileRestore tile => decide (tile < Config.tiles)
  | .stealRequest tile ctx => ctxExists tile ctx
  | .stealAnswer tile => decide (tile < Config.tiles)
  | .nodeDone _ _ => true
  | .graphComplete _ => true
  | .graphKillComplete _ => true
  | .joinDecrement tile ctx => ctxExists tile ctx
  | .bundleIssue site => unitExists (match site with | .tile t => .ctx t 0 | .core k => .core k)
  | .codeFetch u => unitExists u
  | .resultLanding u => unitExists u
  | .hopenExecute tile ctx => ctxExists tile ctx
  | .hpubExecute tile ctx => ctxExists tile ctx
  | .hrelExecute tile ctx => ctxExists tile ctx
  | .hfreeComplete tile handle => decide (tile < Config.tiles) && decide (handle < 32)
  | .copyAdmission tile ctx => ctxExists tile ctx
  | .copyAccept tile ctx => ctxExists tile ctx
  | .copyPark tile slot => decide (tile < Config.tiles) && decide (slot < 8)
  | .copyComplete tile slot => decide (tile < Config.tiles) && decide (slot < 8)
  | .remoteAccessPerform tile ctx _ => ctxExists tile ctx
  | .ldxReturn tile ctx _ => ctxExists tile ctx
  | .matrixCommandStart tile => decide (tile < Config.tiles)
  | .nibBeat tile => decide (tile < Config.tiles)
  | .arrayBeat tile => decide (tile < Config.tiles)
  | .drainRowPush tile => decide (tile < Config.tiles)
  | .cbldBuild tile => decide (tile < Config.tiles)
  | .trdefExecute tile => decide (tile < Config.tiles)
  | .brushUnitAccept cluster => decide (cluster < Config.clusters)
  | .brushUnitComplete cluster => decide (cluster < Config.clusters)
  | .xldExecute tile ctx => ctxExists tile ctx
  | .xinvStep tile ctx => ctxExists tile ctx
  | .xinvComplete tile ctx => ctxExists tile ctx
  | .gatherAccept tile ctx => ctxExists tile ctx
  | .gatherBlock tile ctx => ctxExists tile ctx
  | .gatherComplete tile ctx => ctxExists tile ctx
  | .spliceExecute tile ctx => ctxExists tile ctx
  | .retouchJobAccept tile ctx => ctxExists tile ctx
  | .repairReport tile ctx => ctxExists tile ctx
  | .retouchWriteback die _ => decide (die < Config.dies)
  | .prefixBucketStep tile ctx => ctxExists tile ctx
  | .winnowPassAccept die => decide (die < Config.dies)
  | .winnowPassEnd die => decide (die < Config.dies)
  | .winnowPark die => decide (die < Config.dies)
  | .fsendAccept tile ctx => ctxExists tile ctx
  | .frecvPost tile ctx => ctxExists tile ctx
  | .timingReplay tile _ => decide (tile < Config.tiles)
  | .replayWindowEnd tile => decide (tile < Config.tiles)
  | .redundantCompare tile ctx => ctxExists tile ctx
  | .redundantTimeout tile ctx => ctxExists tile ctx
  | .fieldTestStart die => decide (die < Config.dies)
  | .fieldTestPass cluster => decide (cluster < Config.clusters)
  | .fieldTestFail cluster => decide (cluster < Config.clusters)
  | .nop p => guardOk p
  | .br p _ => guardOk p
  | .brp p _ => guardOk p
  | .jr p _ => guardOk p
  | .call p _ => guardOk p
  | .callr p _ => guardOk p
  | .ret p => guardOk p
  | .loop _ off => decide (1 ≤ off.toNat) && decide (off.toNat ≤ 1023)
  | .endTask p => guardOk p
  | .endLoop p => guardOk p
  | .trap p _ => guardOk p
  | .waith p _ cond => guardOk p && (decide (cond.toNat ≤ 3) || decide (0x20 ≤ cond.toNat))
  | .waitb p _ => guardOk p
  | .add p _ _ _ => guardOk p
  | .addi p _ _ _ => guardOk p
  | .sub p _ _ _ => guardOk p
  | .mul p _ _ _ => guardOk p
  | .mulh p _ _ _ => guardOk p
  | .mulhu p _ _ _ => guardOk p
  | .div p _ _ _ => guardOk p
  | .divu p _ _ _ => guardOk p
  | .rem p _ _ _ => guardOk p
  | .remu p _ _ _ => guardOk p
  | .and p _ _ _ => guardOk p
  | .or p _ _ _ => guardOk p
  | .xor p _ _ _ => guardOk p
  | .andn p _ _ _ => guardOk p
  | .shl p _ _ _ => guardOk p
  | .shr p _ _ _ => guardOk p
  | .sar p _ _ _ => guardOk p
  | .rotr p _ _ _ => guardOk p
  | .shlImm p _ _ _ => guardOk p
  | .shrImm p _ _ _ => guardOk p
  | .sarImm p _ _ _ => guardOk p
  | .rotrImm p _ _ _ => guardOk p
  | .clz p _ _ => guardOk p
  | .ctz p _ _ => guardOk p
  | .popc p _ _ => guardOk p
  | .min p _ _ _ => guardOk p
  | .max p _ _ _ => guardOk p
  | .minu p _ _ _ => guardOk p
  | .maxu p _ _ _ => guardOk p
  | .sel p _ _ _ => guardOk p
  | .mov p _ _ => guardOk p
  | .movFromA p _ _ => guardOk p
  | .movToA p _ _ => guardOk p
  | .movFromQ p _ _ => guardOk p
  | .liw ext _ _ => decide (ext ≠ 3#2)
  | .cmpEq p _ _ _ => guardOk p
  | .cmpNe p _ _ _ => guardOk p
  | .cmpLt p _ _ _ => guardOk p
  | .cmpGe p _ _ _ => guardOk p
  | .cmpLtu p _ _ _ => guardOk p
  | .cmpGeu p _ _ _ => guardOk p
  | .cmpFeq p _ _ _ => guardOk p
  | .cmpFlt p _ _ _ => guardOk p
  | .cmpFle p _ _ _ => guardOk p
  | .cmpFun p _ _ _ => guardOk p
  | .fadd p _ _ _ => guardOk p
  | .fmul p _ _ _ => guardOk p
  | .fma p _ _ _ => guardOk p
  | .fcvtToF32 p _ _ ty _ => guardOk p && tyCvtTo ty
  | .fcvtFromF32 p _ _ ty _ => guardOk p && tyCvtFrom ty
  | .minF32 p _ _ _ => guardOk p
  | .maxF32 p _ _ _ => guardOk p
  | .pand p _ _ _ => guardOk p
  | .por p _ _ _ => guardOk p
  | .pxor p _ _ _ => guardOk p
  | .pnot p _ _ => guardOk p
  | .rdsr p _ sr => guardOk p && srListed sr
  | .wrsr p sr _ => guardOk p && srListed sr
  | .ali _ _ _ => true
  | .aadd _ _ _ _ => true
  | .amod _ _ _ _ => true
  | .abrv _ _ _ _ => true
  | .acir _ _ _ _ => true
  | .amset _ _ => true
  | .ldB p _ _ _ => guardOk p
  | .ldH p _ _ _ => guardOk p
  | .ldW p _ _ _ => guardOk p
  | .ldD p _ _ _ => guardOk p
  | .stB p _ _ _ => guardOk p
  | .stH p _ _ _ => guardOk p
  | .stW p _ _ _ => guardOk p
  | .stD p _ _ _ => guardOk p
  | .vld256 p _ _ _ => guardOk p
  | .vld512 p _ _ _ => guardOk p
  | .vld1024 p _ _ _ => guardOk p
  | .vst256 p _ _ _ => guardOk p
  | .vst512 p _ _ _ => guardOk p
  | .vst1024 p _ _ _ => guardOk p
  | .ldsB p _ _ => guardOk p
  | .ldsH p _ _ => guardOk p
  | .ldsW p _ _ => guardOk p
  | .ldsD p _ _ => guardOk p
  | .stsB p _ _ => guardOk p
  | .stsH p _ _ => guardOk p
  | .stsW p _ _ => guardOk p
  | .stsD p _ _ => guardOk p
  | .ldxD p _ _ _ => guardOk p
  | .ldxV256 p _ _ _ => guardOk p
  | .ldxV512 p _ _ _ => guardOk p
  | .ldxV1024 p _ _ _ => guardOk p
  | .stxD p _ _ _ => guardOk p
  | .stxV256 p _ _ _ => guardOk p
  | .stxV512 p _ _ _ => guardOk p
  | .stxV1024 p _ _ _ => guardOk p
  | .atmAddW p _ _ _ => guardOk p
  | .atmAndW p _ _ _ => guardOk p
  | .atmOrW p _ _ _ => guardOk p
  | .atmXorW p _ _ _ => guardOk p
  | .atmSwpW p _ _ _ => guardOk p
  | .atmCasW p _ _ r => guardOk p && decide (r.toNat % 2 = 0)
  | .atmMinW p _ _ _ => guardOk p
  | .atmMaxW p _ _ _ => guardOk p
  | .atmAdd p _ _ _ => guardOk p
  | .atmAnd p _ _ _ => guardOk p
  | .atmOr p _ _ _ => guardOk p
  | .atmXor p _ _ _ => guardOk p
  | .atmSwp p _ _ _ => guardOk p
  | .atmCas p _ _ r => guardOk p && decide (r.toNat % 2 = 0)
  | .atmMin p _ _ _ => guardOk p
  | .atmMax p _ _ _ => guardOk p
  | .atmFmaxF32 p _ _ _ => guardOk p
  | .atmFmaxBf16 p _ _ _ => guardOk p
  | .atmFmaxF16 p _ _ _ => guardOk p
  | .atmDec p _ _ _ => guardOk p
  | .vadd p _ _ _ ty wid => guardOk p && widOk wid && tyF ty
  | .vsub p _ _ _ ty wid => guardOk p && widOk wid && tyF ty
  | .vmul p _ _ _ ty wid => guardOk p && widOk wid && tyF ty
  | .vfma p _ _ _ ty wid => guardOk p && widOk wid && tyF ty
  | .vfms p _ _ _ ty wid => guardOk p && widOk wid && tyF ty
  | .vmin p _ _ _ ty wid => guardOk p && widOk wid && tyFI ty
  | .vmax p _ _ _ ty wid => guardOk p && widOk wid && tyFI ty
  | .vabs p _ _ ty wid => guardOk p && widOk wid && tyFI ty
  | .vneg p _ _ ty wid => guardOk p && widOk wid && tyFI ty
  | .vcmp p _ _ _ _ ty wid => guardOk p && widOk wid && tyFI ty
  | .vsel p _ _ _ ty wid => guardOk p && widOk wid && tyB ty
  | .viadd p _ _ _ ty wid => guardOk p && widOk wid && tyI ty
  | .visub p _ _ _ ty wid => guardOk p && widOk wid && tyI ty
  | .vimul p _ _ _ ty wid => guardOk p && widOk wid && tyI ty
  | .vimac p _ _ _ ty wid => guardOk p && widOk wid && tyMac ty
  | .vsat p _ _ ty wid => guardOk p && widOk wid && tySat ty
  | .vshl p _ _ _ ty wid => guardOk p && widOk wid && tyI ty
  | .vshr p _ _ _ ty wid => guardOk p && widOk wid && tyI ty
  | .vsar p _ _ _ ty wid => guardOk p && widOk wid && tyI ty
  | .vand p _ _ _ ty wid => guardOk p && widOk wid && tyB ty
  | .vor p _ _ _ ty wid => guardOk p && widOk wid && tyB ty
  | .vxor p _ _ _ ty wid => guardOk p && widOk wid && tyB ty
  | .vnot p _ _ ty wid => guardOk p && widOk wid && tyB ty
  | .vcvt p _ src _ _ ty wid => guardOk p && widOk wid && decide (ty.toNat ≤ 13) && decide (src.toNat ≤ 14)
  | .vqnt p _ _ _ ty wid => guardOk p && widOk wid && tyQ ty
  | .vdqnt p _ _ ty wid => guardOk p && widOk wid && tyQ ty
  | .vimg p _ _ _ ty wid => guardOk p && widOk wid && tyImg ty
  | .vlse p _ _ _ ty wid => guardOk p && widOk wid && tyF32 ty
  | .vrope p _ _ _ ty wid => guardOk p && widOk wid && tyF ty
  | .vnanp p _ => guardOk p
  | .vrsum p _ _ ty wid => guardOk p && widOk wid && tyFI ty
  | .vrmax p _ _ ty wid => guardOk p && widOk wid && tyFI ty
  | .vrmin p _ _ ty wid => guardOk p && widOk wid && tyFI ty
  | .vbcst p _ _ ty wid => guardOk p && widOk wid && tyB ty
  | .vmov p _ _ ty wid => guardOk p && widOk wid && tyB ty
  | .vexp2 p _ _ ty wid => guardOk p && widOk wid && tyF ty
  | .vlog2 p _ _ ty wid => guardOk p && widOk wid && tyF ty
  | .vrcp p _ _ ty wid => guardOk p && widOk wid && tyF ty
  | .vrsq p _ _ ty wid => guardOk p && widOk wid && tyF ty
  | .vsqrt p _ _ ty wid => guardOk p && widOk wid && tyF ty
  | .vsin p _ _ ty wid => guardOk p && widOk wid && tyF ty
  | .vcos p _ _ ty wid => guardOk p && widOk wid && tyF ty
  | .vtanh p _ _ ty wid => guardOk p && widOk wid && tyF ty
  | .vperm p _ _ _ ty wid => guardOk p && widOk wid && tyA ty
  | .vtrn p va vd ty wid => guardOk p && widOk wid && decide (wid = 2#2) && (tyTrn16 ty || (tyTrn32 ty && decide (va.toNat % 2 = 0) && decide (vd.toNat % 2 = 0)))
  | .vshuf p _ _ _ ty wid => guardOk p && widOk wid && tyA ty
  | .vzip p _ _ _ ty wid => guardOk p && widOk wid && tyA ty
  | .vaddStream p _ _ _ ty wid => guardOk p && widOk wid && tyF ty
  | .vsubStream p _ _ _ ty wid => guardOk p && widOk wid && tyF ty
  | .vmulStream p _ _ _ ty wid => guardOk p && widOk wid && tyF ty
  | .vfmaStream p _ _ _ ty wid => guardOk p && widOk wid && tyF ty
  | .vfmsStream p _ _ _ ty wid => guardOk p && widOk wid && tyF ty
  | .vminStream p _ _ _ ty wid => guardOk p && widOk wid && tyFI ty
  | .vmaxStream p _ _ _ ty wid => guardOk p && widOk wid && tyFI ty
  | .vabsStream p _ _ ty wid => guardOk p && widOk wid && tyFI ty
  | .vnegStream p _ _ ty wid => guardOk p && widOk wid && tyFI ty
  | .vcmpStream p _ _ _ _ ty wid => guardOk p && widOk wid && tyFI ty
  | .vselStream p _ _ _ ty wid => guardOk p && widOk wid && tyB ty
  | .viaddStream p _ _ _ ty wid => guardOk p && widOk wid && tyI ty
  | .visubStream p _ _ _ ty wid => guardOk p && widOk wid && tyI ty
  | .vimulStream p _ _ _ ty wid => guardOk p && widOk wid && tyI ty
  | .vimacStream p _ _ _ ty wid => guardOk p && widOk wid && tyMac ty
  | .vsatStream p _ _ ty wid => guardOk p && widOk wid && tySat ty
  | .vshlStream p _ _ _ ty wid => guardOk p && widOk wid && tyI ty
  | .vshrStream p _ _ _ ty wid => guardOk p && widOk wid && tyI ty
  | .vsarStream p _ _ _ ty wid => guardOk p && widOk wid && tyI ty
  | .vandStream p _ _ _ ty wid => guardOk p && widOk wid && tyB ty
  | .vorStream p _ _ _ ty wid => guardOk p && widOk wid && tyB ty
  | .vxorStream p _ _ _ ty wid => guardOk p && widOk wid && tyB ty
  | .vnotStream p _ _ ty wid => guardOk p && widOk wid && tyB ty
  | .vcvtStream p _ src _ _ ty wid => guardOk p && widOk wid && decide (ty.toNat ≤ 13) && decide (src.toNat ≤ 14)
  | .vqntStream p _ _ _ ty wid => guardOk p && widOk wid && tyQ ty
  | .vdqntStream p _ _ ty wid => guardOk p && widOk wid && tyQ ty
  | .vimgStream p _ _ _ ty wid => guardOk p && widOk wid && tyImg ty
  | .vlseStream p _ _ _ ty wid => guardOk p && widOk wid && tyF32 ty
  | .vropeStream p _ _ _ ty wid => guardOk p && widOk wid && tyF ty
  | .vrsumStream p _ _ ty wid => guardOk p && widOk wid && tyFI ty
  | .vrmaxStream p _ _ ty wid => guardOk p && widOk wid && tyFI ty
  | .vrminStream p _ _ ty wid => guardOk p && widOk wid && tyFI ty
  | .vmovStream p _ _ ty wid => guardOk p && widOk wid && tyB ty
  | .vexp2Stream p _ _ ty wid => guardOk p && widOk wid && tyF ty
  | .vlog2Stream p _ _ ty wid => guardOk p && widOk wid && tyF ty
  | .vrcpStream p _ _ ty wid => guardOk p && widOk wid && tyF ty
  | .vrsqStream p _ _ ty wid => guardOk p && widOk wid && tyF ty
  | .vsqrtStream p _ _ ty wid => guardOk p && widOk wid && tyF ty
  | .vsinStream p _ _ ty wid => guardOk p && widOk wid && tyF ty
  | .vcosStream p _ _ ty wid => guardOk p && widOk wid && tyF ty
  | .vtanhStream p _ _ ty wid => guardOk p && widOk wid && tyF ty
  | .vpermStream p _ _ _ ty wid => guardOk p && widOk wid && tyA ty
  | .vtrnStream p _ _ ty wid => guardOk p && widOk wid && decide (wid = 2#2) && tyTrn16 ty
  | .vshufStream p _ _ _ ty wid => guardOk p && widOk wid && tyA ty
  | .vzipStream p _ _ _ ty wid => guardOk p && widOk wid && tyA ty
  | .mcfg imm => decide (imm.toNat < 0x2000) && decide (imm.toNat % 8 ≤ 3)
  | .mldw => true
  | .mswap => true
  | .mpush _ _ _ _ => true
  | .macw _ _ _ _ => true
  | .mshiftZero _ => true
  | .mshiftBack _ => true
  | .mshiftFwd _ => true
  | .mdrain _ _ _ => true
  | .mzero _ _ _ => true
  | .sqset reg _ => sqregListed reg
  | .sqgo _ => true
  | .sqbind _ _ => true
  | .accpy _ _ => true
  | .halloc _ _ => true
  | .hfree _ => true
  | .hopen _ => true
  | .hpub _ _ => true
  | .hrel _ _ => true
  | .hset _ _ => true
  | .binit _ _ => true
  | .binitRel _ => true
  | .barr _ => true
  | .drn => true
  | .fork _ _ => true
  | .join _ _ => true
  | .enq _ _ => true
  | .nibset g => decide (g.toNat % 2 = 0)
  | .nibsetSt _ => true
  | .cbld _ _ => true
  | .trdef _ _ => true
  | .trenc _ _ => true
  | .twupd _ _ => true
  | .xld _ _ => true
  | .xinv _ _ => true
  | .kvg _ _ => true
  | .splc _ _ => true
  | .rprset g => decide (g.toNat ≤ 61)
  | .rpr _ _ => true
  | .rprRep _ _ => true
  | .pxlk _ _ => true
  | .pxin _ _ => true
  | .pxinRm _ _ => true
  | .wnsel _ _ => true
  | .fsend _ _ => true
  | .frecvHandle _ _ => true
  | .frecvStream _ _ => true
  | .sysc _ => true
  | .eret => true
  | .tlbi _ => true
  | .wfe => true
  | .sahethLinkPortTraining port _ => portExists port
  | .pageWalkComplete die _ => decide (die < Config.dies)

/-- A stream destination is q0 to q5 (R323). -/
def Instr.streamOk : Instr → Bool
  | .ldxD _ _ _ q => decide (q.toNat < 6)
  | .ldxV256 _ _ _ q => decide (q.toNat < 6)
  | .ldxV512 _ _ _ q => decide (q.toNat < 6)
  | .ldxV1024 _ _ _ q => decide (q.toNat < 6)
  | .sqbind q _ => decide (q.toNat < 6)
  | .frecvStream q _ => decide (q.toNat < 6)
  | _ => true

/-- Decode accepts the operands of the instruction. -/
def Instr.wellFormed (i : Instr) : Bool := i.fieldsOk && i.streamOk

end Sys2Proof
end

