-- ==== Sys2Proof/Decode.lean ====
section
/-! DEFINITION. From bits to instructions: the fields and opcode maps of every slot (R319-R333), literals and dictionary entries
(R310-R316), stop-chains (R317); then the encoder, written from the same tables. -/

namespace Sys2Proof

open Machine (nth setNth)

/-! ## One slot -/

/-- n bits of a word from bit lo up. -/
def slice (n w lo : Nat) : BitVec n := BitVec.ofNat n (w / 2 ^ lo)

/-- len bits of a word from bit lo hold v. -/
def holds (w lo len v : Nat) : Bool := decide (w / 2 ^ lo % 2 ^ len = v)

/-- The operation that a present slot word names, its unused bits not judged: CT slot (R325). -/
def rawCT (w : Nat) : Option Instr :=
  match w % 32 with
  | 0x00 => some (.nop (slice 4 w 5))
  | 0x01 => some (.br (slice 4 w 5) (slice 11 w 9))
  | 0x02 => some (.brp (slice 4 w 5) (slice 11 w 9))
  | 0x03 => some (.jr (slice 4 w 5) (slice 6 w 9))
  | 0x04 => some (.call (slice 4 w 5) (slice 11 w 9))
  | 0x05 => some (.callr (slice 4 w 5) (slice 6 w 9))
  | 0x06 => some (.ret (slice 4 w 5))
  | 0x07 => some (.loop (slice 4 w 5) (slice 11 w 9))
  | 0x08 => some (.endTask (slice 4 w 5))
  | 0x09 => some (.endLoop (slice 4 w 5))
  | 0x0A => some (.trap (slice 4 w 5) (slice 3 w 9))
  | 0x0B => some (.waith (slice 4 w 5) (slice 5 w 9) (slice 6 w 14))
  | 0x0C => some (.waitb (slice 4 w 5) (slice 6 w 9))
  | _ => none

/-- The bits of the word that carry nothing in its operation hold zero, and a narrowed field its one value (R321). -/
def unusedCT (w : Nat) : Bool :=
  match w % 32 with
  | 0x00 | 0x06 | 0x08 | 0x09 => holds w 9 11 0
  | 0x03 | 0x05 | 0x0C => holds w 15 5 0
  | 0x0A => holds w 12 8 0
  | _ => true

/-- The operation that a present slot word names, its unused bits not judged: S slot (R326, R327); hi is the word of S1, which carries the upper bits of a LIW. -/
def rawS (w hi : Nat) : Option Instr :=
  match w % 256 with
  | 0x01 => some (.add (slice 4 w 26) (slice 6 w 8) (slice 6 w 14) (slice 6 w 20))
  | 0x02 => some (.addi (slice 4 w 26) (slice 6 w 8) (slice 6 w 14) (slice 2 w 30 ++ slice 6 w 20))
  | 0x03 => some (.sub (slice 4 w 26) (slice 6 w 8) (slice 6 w 14) (slice 6 w 20))
  | 0x04 => some (.mul (slice 4 w 26) (slice 6 w 8) (slice 6 w 14) (slice 6 w 20))
  | 0x05 => some (.mulh (slice 4 w 26) (slice 6 w 8) (slice 6 w 14) (slice 6 w 20))
  | 0x06 => some (.mulhu (slice 4 w 26) (slice 6 w 8) (slice 6 w 14) (slice 6 w 20))
  | 0x07 => some (.div (slice 4 w 26) (slice 6 w 8) (slice 6 w 14) (slice 6 w 20))
  | 0x08 => some (.divu (slice 4 w 26) (slice 6 w 8) (slice 6 w 14) (slice 6 w 20))
  | 0x09 => some (.rem (slice 4 w 26) (slice 6 w 8) (slice 6 w 14) (slice 6 w 20))
  | 0x0A => some (.remu (slice 4 w 26) (slice 6 w 8) (slice 6 w 14) (slice 6 w 20))
  | 0x10 => some (.and (slice 4 w 26) (slice 6 w 8) (slice 6 w 14) (slice 6 w 20))
  | 0x11 => some (.or (slice 4 w 26) (slice 6 w 8) (slice 6 w 14) (slice 6 w 20))
  | 0x12 => some (.xor (slice 4 w 26) (slice 6 w 8) (slice 6 w 14) (slice 6 w 20))
  | 0x13 => some (.andn (slice 4 w 26) (slice 6 w 8) (slice 6 w 14) (slice 6 w 20))
  | 0x14 => some (.shl (slice 4 w 26) (slice 6 w 8) (slice 6 w 14) (slice 6 w 20))
  | 0x15 => some (.shr (slice 4 w 26) (slice 6 w 8) (slice 6 w 14) (slice 6 w 20))
  | 0x16 => some (.sar (slice 4 w 26) (slice 6 w 8) (slice 6 w 14) (slice 6 w 20))
  | 0x17 => some (.rotr (slice 4 w 26) (slice 6 w 8) (slice 6 w 14) (slice 6 w 20))
  | 0x18 => some (.shlImm (slice 4 w 26) (slice 6 w 8) (slice 6 w 14) (slice 6 w 20))
  | 0x19 => some (.shrImm (slice 4 w 26) (slice 6 w 8) (slice 6 w 14) (slice 6 w 20))
  | 0x1A => some (.sarImm (slice 4 w 26) (slice 6 w 8) (slice 6 w 14) (slice 6 w 20))
  | 0x1B => some (.rotrImm (slice 4 w 26) (slice 6 w 8) (slice 6 w 14) (slice 6 w 20))
  | 0x1C => some (.clz (slice 4 w 26) (slice 6 w 8) (slice 6 w 14))
  | 0x1D => some (.ctz (slice 4 w 26) (slice 6 w 8) (slice 6 w 14))
  | 0x1E => some (.popc (slice 4 w 26) (slice 6 w 8) (slice 6 w 14))
  | 0x20 => some (.min (slice 4 w 26) (slice 6 w 8) (slice 6 w 14) (slice 6 w 20))
  | 0x21 => some (.max (slice 4 w 26) (slice 6 w 8) (slice 6 w 14) (slice 6 w 20))
  | 0x22 => some (.minu (slice 4 w 26) (slice 6 w 8) (slice 6 w 14) (slice 6 w 20))
  | 0x23 => some (.maxu (slice 4 w 26) (slice 6 w 8) (slice 6 w 14) (slice 6 w 20))
  | 0x24 => some (.sel (slice 4 w 26) (slice 6 w 8) (slice 6 w 14) (slice 6 w 20))
  | 0x25 => some (.mov (slice 4 w 26) (slice 6 w 8) (slice 6 w 14))
  | 0x26 => some (.movFromA (slice 4 w 26) (slice 6 w 8) (slice 4 w 14))
  | 0x27 => some (.movToA (slice 4 w 26) (slice 4 w 8) (slice 6 w 14))
  | 0x28 => some (.movFromQ (slice 4 w 26) (slice 6 w 8) (slice 3 w 14))
  | 0x29 => some (.liw (slice 2 w 30) (slice 6 w 8) (slice 32 hi 0 ++ slice 16 w 14))
  | 0x30 => some (.cmpEq (slice 4 w 26) (slice 4 w 8) (slice 6 w 14) (slice 6 w 20))
  | 0x31 => some (.cmpNe (slice 4 w 26) (slice 4 w 8) (slice 6 w 14) (slice 6 w 20))
  | 0x32 => some (.cmpLt (slice 4 w 26) (slice 4 w 8) (slice 6 w 14) (slice 6 w 20))
  | 0x33 => some (.cmpGe (slice 4 w 26) (slice 4 w 8) (slice 6 w 14) (slice 6 w 20))
  | 0x34 => some (.cmpLtu (slice 4 w 26) (slice 4 w 8) (slice 6 w 14) (slice 6 w 20))
  | 0x35 => some (.cmpGeu (slice 4 w 26) (slice 4 w 8) (slice 6 w 14) (slice 6 w 20))
  | 0x38 => some (.cmpFeq (slice 4 w 26) (slice 4 w 8) (slice 6 w 14) (slice 6 w 20))
  | 0x39 => some (.cmpFlt (slice 4 w 26) (slice 4 w 8) (slice 6 w 14) (slice 6 w 20))
  | 0x3A => some (.cmpFle (slice 4 w 26) (slice 4 w 8) (slice 6 w 14) (slice 6 w 20))
  | 0x3B => some (.cmpFun (slice 4 w 26) (slice 4 w 8) (slice 6 w 14) (slice 6 w 20))
  | 0x40 => some (.fadd (slice 4 w 26) (slice 6 w 8) (slice 6 w 14) (slice 6 w 20))
  | 0x41 => some (.fmul (slice 4 w 26) (slice 6 w 8) (slice 6 w 14) (slice 6 w 20))
  | 0x42 => some (.fma (slice 4 w 26) (slice 6 w 8) (slice 6 w 14) (slice 6 w 20))
  | 0x43 => some (.fcvtToF32 (slice 4 w 26) (slice 6 w 8) (slice 6 w 14) (slice 4 w 20) (slice 1 w 24))
  | 0x44 => some (.fcvtFromF32 (slice 4 w 26) (slice 6 w 8) (slice 6 w 14) (slice 4 w 20) (slice 1 w 24))
  | 0x46 => some (.minF32 (slice 4 w 26) (slice 6 w 8) (slice 6 w 14) (slice 6 w 20))
  | 0x47 => some (.maxF32 (slice 4 w 26) (slice 6 w 8) (slice 6 w 14) (slice 6 w 20))
  | 0x50 => some (.pand (slice 4 w 26) (slice 4 w 8) (slice 4 w 14) (slice 4 w 20))
  | 0x51 => some (.por (slice 4 w 26) (slice 4 w 8) (slice 4 w 14) (slice 4 w 20))
  | 0x52 => some (.pxor (slice 4 w 26) (slice 4 w 8) (slice 4 w 14) (slice 4 w 20))
  | 0x53 => some (.pnot (slice 4 w 26) (slice 4 w 8) (slice 4 w 14))
  | 0x60 => some (.rdsr (slice 4 w 26) (slice 6 w 8) (slice 6 w 14))
  | 0x61 => some (.wrsr (slice 4 w 26) (slice 6 w 8) (slice 6 w 14))
  | _ => none

/-- The bits of the word that carry nothing in its operation hold zero, and a narrowed field its one value (R321). -/
def unusedS (w : Nat) : Bool :=
  match w % 256 with
  | 0x01 | 0x03 | 0x04 | 0x05 | 0x06 | 0x07 | 0x08 | 0x09 | 0x0A | 0x10 | 0x11 | 0x12 | 0x13 | 0x14 | 0x15 | 0x16 | 0x17 | 0x18 | 0x19 | 0x1A | 0x1B | 0x20 | 0x21 | 0x22 | 0x23 | 0x24 | 0x40 | 0x41 | 0x42 | 0x46 | 0x47 => holds w 30 2 0
  | 0x1C | 0x1D | 0x1E | 0x25 | 0x60 | 0x61 => holds w 20 6 0 && holds w 30 2 0
  | 0x26 => holds w 18 8 0 && holds w 30 2 0
  | 0x27 => holds w 12 2 0 && holds w 20 6 0 && holds w 30 2 0
  | 0x28 => holds w 17 9 0 && holds w 30 2 0
  | 0x30 | 0x31 | 0x32 | 0x33 | 0x34 | 0x35 | 0x38 | 0x39 | 0x3A | 0x3B => holds w 12 2 0 && holds w 30 2 0
  | 0x43 | 0x44 => holds w 25 1 0 && holds w 30 2 0
  | 0x50 | 0x51 | 0x52 => holds w 12 2 0 && holds w 18 2 0 && holds w 24 2 0 && holds w 30 2 0
  | 0x53 => holds w 12 2 0 && holds w 18 8 0 && holds w 30 2 0
  | _ => true

/-- The operation that a present slot word names, its unused bits not judged: AG slot (R328). -/
def rawAG (w : Nat) : Option Instr :=
  match w % 16 with
  | 0x00 => some (.ali (slice 4 w 16) (slice 4 w 8) (slice 4 w 4))
  | 0x01 => some (.aadd (slice 4 w 16) (slice 4 w 12) (slice 4 w 8) (slice 4 w 4))
  | 0x02 => some (.amod (slice 4 w 16) (slice 4 w 12) (slice 4 w 8) (slice 4 w 4))
  | 0x03 => some (.abrv (slice 4 w 16) (slice 4 w 12) (slice 4 w 8) (slice 4 w 4))
  | 0x04 => some (.acir (slice 4 w 16) (slice 4 w 12) (slice 4 w 8) (slice 4 w 4))
  | 0x05 => some (.amset (slice 4 w 12) (slice 4 w 8))
  | _ => none

/-- The bits of the word that carry nothing in its operation hold zero, and a narrowed field its one value (R321). -/
def unusedAG (w : Nat) : Bool :=
  match w % 16 with
  | 0x00 => holds w 12 4 0
  | 0x05 => holds w 4 4 0 && holds w 16 4 0
  | _ => true

/-- The operation that a present slot word names, its unused bits not judged: L slot (R329). -/
noncomputable def rawL (w : Nat) : Option Instr :=
  match w % 64 with
  | 0x00 => some (.ldB (slice 4 w 28) (slice 12 w 16) (slice 4 w 12) (slice 6 w 6))
  | 0x01 => some (.ldH (slice 4 w 28) (slice 12 w 16) (slice 4 w 12) (slice 6 w 6))
  | 0x02 => some (.ldW (slice 4 w 28) (slice 12 w 16) (slice 4 w 12) (slice 6 w 6))
  | 0x03 => some (.ldD (slice 4 w 28) (slice 12 w 16) (slice 4 w 12) (slice 6 w 6))
  | 0x04 => some (.stB (slice 4 w 28) (slice 12 w 16) (slice 4 w 12) (slice 6 w 6))
  | 0x05 => some (.stH (slice 4 w 28) (slice 12 w 16) (slice 4 w 12) (slice 6 w 6))
  | 0x06 => some (.stW (slice 4 w 28) (slice 12 w 16) (slice 4 w 12) (slice 6 w 6))
  | 0x07 => some (.stD (slice 4 w 28) (slice 12 w 16) (slice 4 w 12) (slice 6 w 6))
  | 0x08 => some (.vld256 (slice 4 w 28) (slice 12 w 16) (slice 4 w 12) (slice 6 w 6))
  | 0x09 => some (.vld512 (slice 4 w 28) (slice 12 w 16) (slice 4 w 12) (slice 6 w 6))
  | 0x0A => some (.vld1024 (slice 4 w 28) (slice 12 w 16) (slice 4 w 12) (slice 6 w 6))
  | 0x0C => some (.vst256 (slice 4 w 28) (slice 12 w 16) (slice 4 w 12) (slice 6 w 6))
  | 0x0D => some (.vst512 (slice 4 w 28) (slice 12 w 16) (slice 4 w 12) (slice 6 w 6))
  | 0x0E => some (.vst1024 (slice 4 w 28) (slice 12 w 16) (slice 4 w 12) (slice 6 w 6))
  | 0x18 => some (.ldxD (slice 4 w 28) (slice 12 w 16) (slice 4 w 12) (slice 3 w 6))
  | 0x19 => some (.ldxV256 (slice 4 w 28) (slice 12 w 16) (slice 4 w 12) (slice 3 w 6))
  | 0x1A => some (.ldxV512 (slice 4 w 28) (slice 12 w 16) (slice 4 w 12) (slice 3 w 6))
  | 0x1B => some (.ldxV1024 (slice 4 w 28) (slice 12 w 16) (slice 4 w 12) (slice 3 w 6))
  | 0x1C => some (.stxD (slice 4 w 28) (slice 12 w 16) (slice 4 w 12) (slice 6 w 6))
  | 0x1D => some (.stxV256 (slice 4 w 28) (slice 12 w 16) (slice 4 w 12) (slice 6 w 6))
  | 0x1E => some (.stxV512 (slice 4 w 28) (slice 12 w 16) (slice 4 w 12) (slice 6 w 6))
  | 0x1F => some (.stxV1024 (slice 4 w 28) (slice 12 w 16) (slice 4 w 12) (slice 6 w 6))
  | 0x20 => some (.atmAddW (slice 4 w 28) (slice 12 w 16) (slice 4 w 12) (slice 6 w 6))
  | 0x21 => some (.atmAndW (slice 4 w 28) (slice 12 w 16) (slice 4 w 12) (slice 6 w 6))
  | 0x22 => some (.atmOrW (slice 4 w 28) (slice 12 w 16) (slice 4 w 12) (slice 6 w 6))
  | 0x23 => some (.atmXorW (slice 4 w 28) (slice 12 w 16) (slice 4 w 12) (slice 6 w 6))
  | 0x24 => some (.atmSwpW (slice 4 w 28) (slice 12 w 16) (slice 4 w 12) (slice 6 w 6))
  | 0x25 => some (.atmCasW (slice 4 w 28) (slice 12 w 16) (slice 4 w 12) (slice 6 w 6))
  | 0x26 => some (.atmMinW (slice 4 w 28) (slice 12 w 16) (slice 4 w 12) (slice 6 w 6))
  | 0x27 => some (.atmMaxW (slice 4 w 28) (slice 12 w 16) (slice 4 w 12) (slice 6 w 6))
  | 0x28 => some (.atmAdd (slice 4 w 28) (slice 12 w 16) (slice 4 w 12) (slice 6 w 6))
  | 0x29 => some (.atmAnd (slice 4 w 28) (slice 12 w 16) (slice 4 w 12) (slice 6 w 6))
  | 0x2A => some (.atmOr (slice 4 w 28) (slice 12 w 16) (slice 4 w 12) (slice 6 w 6))
  | 0x2B => some (.atmXor (slice 4 w 28) (slice 12 w 16) (slice 4 w 12) (slice 6 w 6))
  | 0x2C => some (.atmSwp (slice 4 w 28) (slice 12 w 16) (slice 4 w 12) (slice 6 w 6))
  | 0x2D => some (.atmCas (slice 4 w 28) (slice 12 w 16) (slice 4 w 12) (slice 6 w 6))
  | 0x2E => some (.atmMin (slice 4 w 28) (slice 12 w 16) (slice 4 w 12) (slice 6 w 6))
  | 0x2F => some (.atmMax (slice 4 w 28) (slice 12 w 16) (slice 4 w 12) (slice 6 w 6))
  | 0x30 => some (.atmFmaxF32 (slice 4 w 28) (slice 12 w 16) (slice 4 w 12) (slice 6 w 6))
  | 0x31 => some (.atmFmaxBf16 (slice 4 w 28) (slice 12 w 16) (slice 4 w 12) (slice 6 w 6))
  | 0x32 => some (.atmFmaxF16 (slice 4 w 28) (slice 12 w 16) (slice 4 w 12) (slice 6 w 6))
  | 0x33 => some (.atmDec (slice 4 w 28) (slice 12 w 16) (slice 4 w 12) (slice 6 w 6))
  | 0x10 => some (.ldsB (slice 4 w 28) (slice 12 w 16) (slice 6 w 6))
  | 0x11 => some (.ldsH (slice 4 w 28) (slice 12 w 16) (slice 6 w 6))
  | 0x12 => some (.ldsW (slice 4 w 28) (slice 12 w 16) (slice 6 w 6))
  | 0x13 => some (.ldsD (slice 4 w 28) (slice 12 w 16) (slice 6 w 6))
  | 0x14 => some (.stsB (slice 4 w 28) (slice 12 w 16) (slice 6 w 6))
  | 0x15 => some (.stsH (slice 4 w 28) (slice 12 w 16) (slice 6 w 6))
  | 0x16 => some (.stsW (slice 4 w 28) (slice 12 w 16) (slice 6 w 6))
  | 0x17 => some (.stsD (slice 4 w 28) (slice 12 w 16) (slice 6 w 6))
  | _ => none

/-- The bits of the word that carry nothing in its operation hold zero, and a narrowed field its one value (R321). -/
def unusedL (w : Nat) : Bool :=
  match w % 64 with
  | 0x18 | 0x19 | 0x1A | 0x1B => holds w 9 3 0
  | 0x10 | 0x11 | 0x12 | 0x13 | 0x14 | 0x15 | 0x16 | 0x17 => holds w 12 4 0
  | _ => true

/-- The operation that a present slot word names, its unused bits not judged: V slot (R330, R331). -/
noncomputable def rawV (w : Nat) : Option Instr :=
  match w % 256 with
  | 0x01 => some (.vadd (slice 4 w 32) (slice 6 w 26) (slice 6 w 20) (slice 6 w 14) (slice 4 w 10) (slice 2 w 8))
  | 0x81 => some (.vaddStream (slice 4 w 32) (slice 3 w 26) (slice 6 w 20) (slice 6 w 14) (slice 4 w 10) (slice 2 w 8))
  | 0x02 => some (.vsub (slice 4 w 32) (slice 6 w 26) (slice 6 w 20) (slice 6 w 14) (slice 4 w 10) (slice 2 w 8))
  | 0x82 => some (.vsubStream (slice 4 w 32) (slice 3 w 26) (slice 6 w 20) (slice 6 w 14) (slice 4 w 10) (slice 2 w 8))
  | 0x03 => some (.vmul (slice 4 w 32) (slice 6 w 26) (slice 6 w 20) (slice 6 w 14) (slice 4 w 10) (slice 2 w 8))
  | 0x83 => some (.vmulStream (slice 4 w 32) (slice 3 w 26) (slice 6 w 20) (slice 6 w 14) (slice 4 w 10) (slice 2 w 8))
  | 0x04 => some (.vfma (slice 4 w 32) (slice 6 w 26) (slice 6 w 20) (slice 6 w 14) (slice 4 w 10) (slice 2 w 8))
  | 0x84 => some (.vfmaStream (slice 4 w 32) (slice 3 w 26) (slice 6 w 20) (slice 6 w 14) (slice 4 w 10) (slice 2 w 8))
  | 0x05 => some (.vfms (slice 4 w 32) (slice 6 w 26) (slice 6 w 20) (slice 6 w 14) (slice 4 w 10) (slice 2 w 8))
  | 0x85 => some (.vfmsStream (slice 4 w 32) (slice 3 w 26) (slice 6 w 20) (slice 6 w 14) (slice 4 w 10) (slice 2 w 8))
  | 0x06 => some (.vmin (slice 4 w 32) (slice 6 w 26) (slice 6 w 20) (slice 6 w 14) (slice 4 w 10) (slice 2 w 8))
  | 0x86 => some (.vminStream (slice 4 w 32) (slice 3 w 26) (slice 6 w 20) (slice 6 w 14) (slice 4 w 10) (slice 2 w 8))
  | 0x07 => some (.vmax (slice 4 w 32) (slice 6 w 26) (slice 6 w 20) (slice 6 w 14) (slice 4 w 10) (slice 2 w 8))
  | 0x87 => some (.vmaxStream (slice 4 w 32) (slice 3 w 26) (slice 6 w 20) (slice 6 w 14) (slice 4 w 10) (slice 2 w 8))
  | 0x08 => some (.vabs (slice 4 w 32) (slice 6 w 20) (slice 6 w 14) (slice 4 w 10) (slice 2 w 8))
  | 0x88 => some (.vabsStream (slice 4 w 32) (slice 3 w 20) (slice 6 w 14) (slice 4 w 10) (slice 2 w 8))
  | 0x09 => some (.vneg (slice 4 w 32) (slice 6 w 20) (slice 6 w 14) (slice 4 w 10) (slice 2 w 8))
  | 0x89 => some (.vnegStream (slice 4 w 32) (slice 3 w 20) (slice 6 w 14) (slice 4 w 10) (slice 2 w 8))
  | 0x0A => some (.vcmp (slice 4 w 32) (slice 6 w 26) (slice 6 w 20) (slice 2 w 18) (slice 4 w 14) (slice 4 w 10) (slice 2 w 8))
  | 0x8A => some (.vcmpStream (slice 4 w 32) (slice 3 w 26) (slice 6 w 20) (slice 2 w 18) (slice 4 w 14) (slice 4 w 10) (slice 2 w 8))
  | 0x0B => some (.vsel (slice 4 w 32) (slice 6 w 26) (slice 6 w 20) (slice 6 w 14) (slice 4 w 10) (slice 2 w 8))
  | 0x8B => some (.vselStream (slice 4 w 32) (slice 3 w 26) (slice 6 w 20) (slice 6 w 14) (slice 4 w 10) (slice 2 w 8))
  | 0x10 => some (.viadd (slice 4 w 32) (slice 6 w 26) (slice 6 w 20) (slice 6 w 14) (slice 4 w 10) (slice 2 w 8))
  | 0x90 => some (.viaddStream (slice 4 w 32) (slice 3 w 26) (slice 6 w 20) (slice 6 w 14) (slice 4 w 10) (slice 2 w 8))
  | 0x11 => some (.visub (slice 4 w 32) (slice 6 w 26) (slice 6 w 20) (slice 6 w 14) (slice 4 w 10) (slice 2 w 8))
  | 0x91 => some (.visubStream (slice 4 w 32) (slice 3 w 26) (slice 6 w 20) (slice 6 w 14) (slice 4 w 10) (slice 2 w 8))
  | 0x12 => some (.vimul (slice 4 w 32) (slice 6 w 26) (slice 6 w 20) (slice 6 w 14) (slice 4 w 10) (slice 2 w 8))
  | 0x92 => some (.vimulStream (slice 4 w 32) (slice 3 w 26) (slice 6 w 20) (slice 6 w 14) (slice 4 w 10) (slice 2 w 8))
  | 0x13 => some (.vimac (slice 4 w 32) (slice 6 w 26) (slice 6 w 20) (slice 6 w 14) (slice 4 w 10) (slice 2 w 8))
  | 0x93 => some (.vimacStream (slice 4 w 32) (slice 3 w 26) (slice 6 w 20) (slice 6 w 14) (slice 4 w 10) (slice 2 w 8))
  | 0x14 => some (.vsat (slice 4 w 32) (slice 6 w 20) (slice 6 w 14) (slice 4 w 10) (slice 2 w 8))
  | 0x94 => some (.vsatStream (slice 4 w 32) (slice 3 w 20) (slice 6 w 14) (slice 4 w 10) (slice 2 w 8))
  | 0x15 => some (.vshl (slice 4 w 32) (slice 6 w 26) (slice 6 w 20) (slice 6 w 14) (slice 4 w 10) (slice 2 w 8))
  | 0x95 => some (.vshlStream (slice 4 w 32) (slice 3 w 26) (slice 6 w 20) (slice 6 w 14) (slice 4 w 10) (slice 2 w 8))
  | 0x16 => some (.vshr (slice 4 w 32) (slice 6 w 26) (slice 6 w 20) (slice 6 w 14) (slice 4 w 10) (slice 2 w 8))
  | 0x96 => some (.vshrStream (slice 4 w 32) (slice 3 w 26) (slice 6 w 20) (slice 6 w 14) (slice 4 w 10) (slice 2 w 8))
  | 0x17 => some (.vsar (slice 4 w 32) (slice 6 w 26) (slice 6 w 20) (slice 6 w 14) (slice 4 w 10) (slice 2 w 8))
  | 0x97 => some (.vsarStream (slice 4 w 32) (slice 3 w 26) (slice 6 w 20) (slice 6 w 14) (slice 4 w 10) (slice 2 w 8))
  | 0x18 => some (.vand (slice 4 w 32) (slice 6 w 26) (slice 6 w 20) (slice 6 w 14) (slice 4 w 10) (slice 2 w 8))
  | 0x98 => some (.vandStream (slice 4 w 32) (slice 3 w 26) (slice 6 w 20) (slice 6 w 14) (slice 4 w 10) (slice 2 w 8))
  | 0x19 => some (.vor (slice 4 w 32) (slice 6 w 26) (slice 6 w 20) (slice 6 w 14) (slice 4 w 10) (slice 2 w 8))
  | 0x99 => some (.vorStream (slice 4 w 32) (slice 3 w 26) (slice 6 w 20) (slice 6 w 14) (slice 4 w 10) (slice 2 w 8))
  | 0x1A => some (.vxor (slice 4 w 32) (slice 6 w 26) (slice 6 w 20) (slice 6 w 14) (slice 4 w 10) (slice 2 w 8))
  | 0x9A => some (.vxorStream (slice 4 w 32) (slice 3 w 26) (slice 6 w 20) (slice 6 w 14) (slice 4 w 10) (slice 2 w 8))
  | 0x1B => some (.vnot (slice 4 w 32) (slice 6 w 20) (slice 6 w 14) (slice 4 w 10) (slice 2 w 8))
  | 0x9B => some (.vnotStream (slice 4 w 32) (slice 3 w 20) (slice 6 w 14) (slice 4 w 10) (slice 2 w 8))
  | 0x20 => some (.vcvt (slice 4 w 32) (slice 1 w 30) (slice 4 w 26) (slice 6 w 20) (slice 6 w 14) (slice 4 w 10) (slice 2 w 8))
  | 0xA0 => some (.vcvtStream (slice 4 w 32) (slice 1 w 30) (slice 4 w 26) (slice 3 w 20) (slice 6 w 14) (slice 4 w 10) (slice 2 w 8))
  | 0x21 => some (.vqnt (slice 4 w 32) (slice 1 w 30) (slice 6 w 20) (slice 6 w 14) (slice 4 w 10) (slice 2 w 8))
  | 0xA1 => some (.vqntStream (slice 4 w 32) (slice 1 w 30) (slice 3 w 20) (slice 6 w 14) (slice 4 w 10) (slice 2 w 8))
  | 0x22 => some (.vdqnt (slice 4 w 32) (slice 6 w 20) (slice 6 w 14) (slice 4 w 10) (slice 2 w 8))
  | 0xA2 => some (.vdqntStream (slice 4 w 32) (slice 3 w 20) (slice 6 w 14) (slice 4 w 10) (slice 2 w 8))
  | 0x23 => some (.vimg (slice 4 w 32) (slice 1 w 26) (slice 6 w 20) (slice 6 w 14) (slice 4 w 10) (slice 2 w 8))
  | 0xA3 => some (.vimgStream (slice 4 w 32) (slice 1 w 26) (slice 3 w 20) (slice 6 w 14) (slice 4 w 10) (slice 2 w 8))
  | 0x24 => some (.vlse (slice 4 w 32) (slice 6 w 26) (slice 6 w 20) (slice 6 w 14) (slice 4 w 10) (slice 2 w 8))
  | 0xA4 => some (.vlseStream (slice 4 w 32) (slice 3 w 26) (slice 6 w 20) (slice 6 w 14) (slice 4 w 10) (slice 2 w 8))
  | 0x25 => some (.vrope (slice 4 w 32) (slice 6 w 26) (slice 6 w 20) (slice 6 w 14) (slice 4 w 10) (slice 2 w 8))
  | 0xA5 => some (.vropeStream (slice 4 w 32) (slice 3 w 26) (slice 6 w 20) (slice 6 w 14) (slice 4 w 10) (slice 2 w 8))
  | 0x26 => some (.vnanp (slice 4 w 32) (slice 4 w 14))
  | 0x28 => some (.vrsum (slice 4 w 32) (slice 6 w 20) (slice 6 w 14) (slice 4 w 10) (slice 2 w 8))
  | 0xA8 => some (.vrsumStream (slice 4 w 32) (slice 3 w 20) (slice 6 w 14) (slice 4 w 10) (slice 2 w 8))
  | 0x29 => some (.vrmax (slice 4 w 32) (slice 6 w 20) (slice 6 w 14) (slice 4 w 10) (slice 2 w 8))
  | 0xA9 => some (.vrmaxStream (slice 4 w 32) (slice 3 w 20) (slice 6 w 14) (slice 4 w 10) (slice 2 w 8))
  | 0x2A => some (.vrmin (slice 4 w 32) (slice 6 w 20) (slice 6 w 14) (slice 4 w 10) (slice 2 w 8))
  | 0xAA => some (.vrminStream (slice 4 w 32) (slice 3 w 20) (slice 6 w 14) (slice 4 w 10) (slice 2 w 8))
  | 0x2B => some (.vbcst (slice 4 w 32) (slice 6 w 20) (slice 6 w 14) (slice 4 w 10) (slice 2 w 8))
  | 0x2C => some (.vmov (slice 4 w 32) (slice 6 w 20) (slice 6 w 14) (slice 4 w 10) (slice 2 w 8))
  | 0xAC => some (.vmovStream (slice 4 w 32) (slice 3 w 20) (slice 6 w 14) (slice 4 w 10) (slice 2 w 8))
  | 0x40 => some (.vexp2 (slice 4 w 32) (slice 6 w 20) (slice 6 w 14) (slice 4 w 10) (slice 2 w 8))
  | 0xC0 => some (.vexp2Stream (slice 4 w 32) (slice 3 w 20) (slice 6 w 14) (slice 4 w 10) (slice 2 w 8))
  | 0x41 => some (.vlog2 (slice 4 w 32) (slice 6 w 20) (slice 6 w 14) (slice 4 w 10) (slice 2 w 8))
  | 0xC1 => some (.vlog2Stream (slice 4 w 32) (slice 3 w 20) (slice 6 w 14) (slice 4 w 10) (slice 2 w 8))
  | 0x42 => some (.vrcp (slice 4 w 32) (slice 6 w 20) (slice 6 w 14) (slice 4 w 10) (slice 2 w 8))
  | 0xC2 => some (.vrcpStream (slice 4 w 32) (slice 3 w 20) (slice 6 w 14) (slice 4 w 10) (slice 2 w 8))
  | 0x43 => some (.vrsq (slice 4 w 32) (slice 6 w 20) (slice 6 w 14) (slice 4 w 10) (slice 2 w 8))
  | 0xC3 => some (.vrsqStream (slice 4 w 32) (slice 3 w 20) (slice 6 w 14) (slice 4 w 10) (slice 2 w 8))
  | 0x44 => some (.vsqrt (slice 4 w 32) (slice 6 w 20) (slice 6 w 14) (slice 4 w 10) (slice 2 w 8))
  | 0xC4 => some (.vsqrtStream (slice 4 w 32) (slice 3 w 20) (slice 6 w 14) (slice 4 w 10) (slice 2 w 8))
  | 0x45 => some (.vsin (slice 4 w 32) (slice 6 w 20) (slice 6 w 14) (slice 4 w 10) (slice 2 w 8))
  | 0xC5 => some (.vsinStream (slice 4 w 32) (slice 3 w 20) (slice 6 w 14) (slice 4 w 10) (slice 2 w 8))
  | 0x46 => some (.vcos (slice 4 w 32) (slice 6 w 20) (slice 6 w 14) (slice 4 w 10) (slice 2 w 8))
  | 0xC6 => some (.vcosStream (slice 4 w 32) (slice 3 w 20) (slice 6 w 14) (slice 4 w 10) (slice 2 w 8))
  | 0x47 => some (.vtanh (slice 4 w 32) (slice 6 w 20) (slice 6 w 14) (slice 4 w 10) (slice 2 w 8))
  | 0xC7 => some (.vtanhStream (slice 4 w 32) (slice 3 w 20) (slice 6 w 14) (slice 4 w 10) (slice 2 w 8))
  | 0x48 => some (.vperm (slice 4 w 32) (slice 6 w 26) (slice 6 w 20) (slice 6 w 14) (slice 4 w 10) (slice 2 w 8))
  | 0xC8 => some (.vpermStream (slice 4 w 32) (slice 3 w 26) (slice 6 w 20) (slice 6 w 14) (slice 4 w 10) (slice 2 w 8))
  | 0x49 => some (.vtrn (slice 4 w 32) (slice 6 w 20) (slice 6 w 14) (slice 4 w 10) (slice 2 w 8))
  | 0xC9 => some (.vtrnStream (slice 4 w 32) (slice 3 w 20) (slice 6 w 14) (slice 4 w 10) (slice 2 w 8))
  | 0x4A => some (.vshuf (slice 4 w 32) (slice 6 w 26) (slice 6 w 20) (slice 6 w 14) (slice 4 w 10) (slice 2 w 8))
  | 0xCA => some (.vshufStream (slice 4 w 32) (slice 3 w 26) (slice 6 w 20) (slice 6 w 14) (slice 4 w 10) (slice 2 w 8))
  | 0x4B => some (.vzip (slice 4 w 32) (slice 6 w 26) (slice 6 w 20) (slice 6 w 14) (slice 4 w 10) (slice 2 w 8))
  | 0xCB => some (.vzipStream (slice 4 w 32) (slice 3 w 26) (slice 6 w 20) (slice 6 w 14) (slice 4 w 10) (slice 2 w 8))
  | _ => none

/-- The bits of the word that carry nothing in its operation hold zero, and a narrowed field its one value (R321). -/
def unusedV (w : Nat) : Bool :=
  match w % 256 with
  | 0x81 | 0x82 | 0x83 | 0x84 | 0x85 | 0x86 | 0x87 | 0x8A | 0x8B | 0x90 | 0x91 | 0x92 | 0x93 | 0x95 | 0x96 | 0x97 | 0x98 | 0x99 | 0x9A | 0xA4 | 0xA5 | 0xC8 | 0xCA | 0xCB => holds w 29 3 0
  | 0x08 | 0x09 | 0x14 | 0x1B | 0x22 | 0x28 | 0x29 | 0x2A | 0x2B | 0x2C | 0x40 | 0x41 | 0x42 | 0x43 | 0x44 | 0x45 | 0x46 | 0x47 | 0x49 => holds w 26 6 0
  | 0x88 | 0x89 | 0x94 | 0x9B | 0xA2 | 0xA8 | 0xA9 | 0xAA | 0xAC | 0xC0 | 0xC1 | 0xC2 | 0xC3 | 0xC4 | 0xC5 | 0xC6 | 0xC7 | 0xC9 => holds w 23 9 0
  | 0x20 => holds w 31 1 0
  | 0xA0 => holds w 23 3 0 && holds w 31 1 0
  | 0x21 => holds w 26 4 0 && holds w 31 1 0
  | 0xA1 => holds w 23 7 0 && holds w 31 1 0
  | 0x23 => holds w 27 5 0
  | 0xA3 => holds w 23 3 0 && holds w 27 5 0
  | 0x26 => holds w 10 4 0 && holds w 18 14 0 && holds w 8 2 2
  | _ => true

/-- The operation that a present slot word names, its unused bits not judged: MX slot (R332). -/
noncomputable def rawMX (w : Nat) : Option Instr :=
  match w % 16 with
  | 0x00 => some (.mcfg (slice 16 w 4))
  | 0x01 => some .mldw
  | 0x02 => some .mswap
  | 0x03 => some (.mpush (slice 1 w 18) (slice 3 w 15) (slice 6 w 9) (slice 5 w 4))
  | 0x06 => some (.macw (slice 1 w 18) (slice 3 w 15) (slice 6 w 9) (slice 5 w 4))
  | 0x04 => some (if holds w 18 2 0 then .mshiftZero (slice 5 w 4) else if holds w 18 2 1 then .mshiftBack (slice 5 w 4) else .mshiftFwd (slice 5 w 4))
  | 0x05 => some (.mdrain (slice 3 w 15) (slice 6 w 9) (slice 5 w 4))
  | 0x07 => some (.mzero (slice 3 w 15) (slice 6 w 9) (slice 5 w 4))
  | _ => none

/-- The bits of the word that carry nothing in its operation hold zero, and a narrowed field its one value (R321). -/
def unusedMX (w : Nat) : Bool :=
  match w % 16 with
  | 0x01 | 0x02 => holds w 4 16 0
  | 0x03 | 0x06 => holds w 19 1 0
  | 0x04 => holds w 9 9 0 && !holds w 18 2 3
  | 0x05 | 0x07 => holds w 18 2 0
  | _ => true

/-- The operation that a present slot word names, its unused bits not judged: EN slot (R333). -/
noncomputable def rawEN (w : Nat) : Option Instr :=
  match w % 256 with
  | 0x01 => some (.sqset (slice 6 w 14) (slice 6 w 8))
  | 0x02 => some (.sqgo (slice 3 w 14))
  | 0x03 => some (.sqbind (slice 3 w 14) (slice 6 w 8))
  | 0x04 => some (.accpy (slice 3 w 14) (slice 6 w 8))
  | 0x10 => some (.halloc (slice 5 w 14) (slice 6 w 8))
  | 0x11 => some (.hfree (slice 5 w 14))
  | 0x12 => some (.hopen (slice 5 w 14))
  | 0x13 => some (.hpub (slice 5 w 14) (slice 6 w 8))
  | 0x14 => some (.hrel (slice 5 w 14) (slice 6 w 8))
  | 0x15 => some (.hset (slice 5 w 14) (slice 6 w 8))
  | 0x16 => some (.binit (slice 6 w 14) (slice 6 w 8))
  | 0x17 => some (.binitRel (slice 6 w 8))
  | 0x18 => some (.barr (slice 6 w 8))
  | 0x19 => some .drn
  | 0x20 => some (.fork (slice 4 w 14) (slice 6 w 8))
  | 0x21 => some (.join (slice 6 w 14) (slice 6 w 8))
  | 0x22 => some (.enq (slice 4 w 14) (slice 6 w 8))
  | 0x30 => some (.nibset (slice 6 w 8))
  | 0x31 => some (.nibsetSt (slice 6 w 8))
  | 0x32 => some (.cbld (slice 5 w 14) (slice 6 w 8))
  | 0x33 => some (.trdef (slice 5 w 14) (slice 3 w 8))
  | 0x34 => some (.trenc (slice 5 w 14) (slice 6 w 8))
  | 0x35 => some (.twupd (slice 5 w 14) (slice 6 w 8))
  | 0x40 => some (.xld (slice 6 w 14) (slice 6 w 8))
  | 0x41 => some (.xinv (slice 6 w 14) (slice 6 w 8))
  | 0x42 => some (.kvg (slice 5 w 14) (slice 6 w 8))
  | 0x43 => some (.splc (slice 5 w 14) (slice 6 w 8))
  | 0x44 => some (.rprset (slice 6 w 8))
  | 0x45 => some (.rpr (slice 5 w 14) (slice 6 w 8))
  | 0x46 => some (.rprRep (slice 6 w 14) (slice 6 w 8))
  | 0x47 => some (.pxlk (slice 6 w 14) (slice 6 w 8))
  | 0x48 => some (.pxin (slice 6 w 14) (slice 6 w 8))
  | 0x49 => some (.pxinRm (slice 6 w 14) (slice 6 w 8))
  | 0x50 => some (.wnsel (slice 5 w 14) (slice 6 w 8))
  | 0x60 => some (.fsend (slice 5 w 14) (slice 6 w 8))
  | 0x61 => some (.frecvHandle (slice 5 w 14) (slice 6 w 8))
  | 0x62 => some (.frecvStream (slice 3 w 14) (slice 6 w 8))
  | 0xF0 => some (.sysc (slice 6 w 14))
  | 0xF1 => some .eret
  | 0xF2 => some (.tlbi (slice 6 w 8))
  | 0xF3 => some .wfe
  | _ => none

/-- The bits of the word that carry nothing in its operation hold zero, and a narrowed field its one value (R321). -/
def unusedEN (w : Nat) : Bool :=
  match w % 256 with
  | 0x02 => holds w 8 6 0 && holds w 17 3 0
  | 0x03 | 0x04 | 0x62 => holds w 17 3 0
  | 0x10 | 0x13 | 0x14 | 0x15 | 0x32 | 0x34 | 0x35 | 0x42 | 0x43 | 0x45 | 0x50 | 0x60 | 0x61 => holds w 19 1 0
  | 0x11 | 0x12 => holds w 8 6 0 && holds w 19 1 0
  | 0x17 | 0x18 | 0x30 | 0x31 | 0x44 | 0xF2 => holds w 14 6 0
  | 0x19 | 0xF1 | 0xF3 => holds w 8 12 0
  | 0x20 | 0x22 => holds w 18 2 0
  | 0x33 => holds w 11 3 0 && holds w 19 1 0
  | 0xF0 => holds w 8 6 0
  | _ => true

/-- A slot by its header bit (R316): the operation its word names. hi: S1's word, for a LIW in S0. LIW is valid only in S0 (R326), the
codes 0x40 to 0x4B and their stream forms only in V3 (R330). -/
noncomputable def rawSlot (slot w hi : Nat) : Option Instr :=
  if slot = 0 then rawCT w
  else if slot = 1 then rawS w hi
  else if slot = 2 then (if w % 256 = 0x29 then none else rawS w 0)
  else if slot = 3 then rawAG w
  else if slot ≤ 5 then rawL w
  else if slot ≤ 8 then (if 0x40 ≤ w % 128 ∧ w % 128 ≤ 0x4B then none else rawV w)
  else if slot = 9 then rawV w
  else if slot = 10 then rawMX w
  else rawEN w

/-- The bits that carry nothing in the slot's operation hold zero (R321). -/
def unusedSlot (slot w : Nat) : Bool :=
  if slot = 0 then unusedCT w
  else if slot ≤ 2 then unusedS w
  else if slot = 3 then unusedAG w
  else if slot ≤ 5 then unusedL w
  else if slot ≤ 9 then unusedV w
  else if slot = 10 then unusedMX w
  else unusedEN w

/-- A slot word that decode accepts as it stands: its operation, every field in range (R335). -/
noncomputable def decodeSlot (slot w hi : Nat) : Option Instr :=
  match rawSlot slot w hi with
  | some i => if unusedSlot slot w && i.wellFormed then some i else none
  | none => none

/-- The width in bits of a slot's field, by header bit (R315). -/
def slotWidth (slot : Nat) : Nat :=
  if slot = 0 then 20
  else if slot ≤ 2 then 32
  else if slot = 3 then 20
  else if slot ≤ 5 then 32
  else if slot ≤ 9 then 36
  else 20

/-- Where a slot's field lies in the expanded bundle (R315). -/
def slotBase : Nat → Nat
  | 0 => 32
  | n + 1 => slotBase n + slotWidth n

/-! ## Bundles -/

/-- An expanded bundle before its slots are judged (R315, R316). words: by header bit, absent slots zero. bad: a whole-bundle check of
R335 failed. -/
structure Bundle where
  scope   : Nat
  stall   : Nat
  stop    : Bool
  present : Nat
  words   : List Nat
  bad     : Bool
deriving DecidableEq, Repr

/-- Slot s is present. -/
def slotIn (present s : Nat) : Bool := decide (present / 2 ^ s % 2 = 1)

/-- Header checks of R316. -/
def headerBad (h : Nat) : Bool := decide (h / 2 ^ 20 ≠ 0) || decide (5 ≤ h / 2 ^ 17 % 8)

/-- The words of the present slots of a field stream, from slot s up, and the bits left over (R313). -/
def takeFields (present : Nat) : Nat → Nat → Nat → List Nat × Nat
  | 0, _, x => ([], x)
  | n + 1, s, x =>
    if slotIn present s then
      let r := takeFields present n (s + 1) (x / 2 ^ slotWidth s)
      ((x % 2 ^ slotWidth s) :: r.1, r.2)
    else
      let r := takeFields present n (s + 1) x
      (0 :: r.1, r.2)

/-- Total width of the present slots from slot s up. -/
def fieldBits (present : Nat) : Nat → Nat → Nat
  | 0, _ => 0
  | n + 1, s => (if slotIn present s then slotWidth s else 0) + fieldBits present n (s + 1)

/-- The bundle of a literal: its header and its field stream (R313); a padding bit that is 1 faults. -/
def literalBundle (h x : Nat) : Bundle :=
  let r := takeFields (h % 2 ^ 12) 12 0 x
  { scope := h / 2 ^ 17 % 8, stall := h / 2 ^ 13 % 16, stop := decide (h / 2 ^ 12 % 2 = 1), present := h % 2 ^ 12, words := r.1,
    bad := headerBad h || decide (r.2 ≠ 0) }

/-- The words of an expanded bundle, from slot s up. -/
def entryWords (e : Nat) : Nat → Nat → List Nat
  | 0, _ => []
  | n + 1, s => (e / 2 ^ slotBase s % 2 ^ slotWidth s) :: entryWords e n (s + 1)

/-- An absent slot whose field is not zero, from slot s up (R314). -/
def absentBad (present : Nat) : Nat → List Nat → Bool
  | _, [] => false
  | s, w :: t => (!slotIn present s && decide (w ≠ 0)) || absentBad present (s + 1) t

/-- The bundle of a dictionary entry (R314). -/
def entryBundle (e : Nat) : Bundle :=
  let h := e % 2 ^ 32
  let ws := entryWords e 12 0
  { scope := h / 2 ^ 17 % 8, stall := h / 2 ^ 13 % 16, stop := decide (h / 2 ^ 12 % 2 = 1), present := h % 2 ^ 12, words := ws,
    bad := headerBad h || absentBad (h % 2 ^ 12) 0 ws }

/-- The bundle of the NOP unit (R310). -/
def nopBundle : Bundle := { scope := 0, stall := 0, stop := true, present := 0, words := [0, 0, 0, 0, 0, 0, 0, 0, 0, 0, 0, 0], bad := false }

/-! ## Stop-chains -/

/-- What fetching one code unit gives (R311). -/
inductive UnitR where
  | unit (u : Nat)
  | wait
  | fault (c : Cause) (faddr : Nat)
deriving DecidableEq, Repr

/-- An issued chain (R317). len: code units. whole: the cause of a whole-bundle check that failed; clash: the slots present twice. -/
structure Chain where
  len     : Nat
  count   : Nat
  scope   : Nat
  stall   : Nat
  present : Nat
  words   : List Nat
  clash   : Nat
  whole   : Option Cause
deriving DecidableEq, Repr

/-- What fetching a chain gives. -/
inductive ChainR where
  | chain (c : Chain)
  | wait
  | fault (c : Cause) (faddr : Nat)
deriving DecidableEq, Repr

/-- No bundle yet. -/
def Chain.empty : Chain :=
  { len := 0, count := 0, scope := 0, stall := 0, present := 0, words := [0, 0, 0, 0, 0, 0, 0, 0, 0, 0, 0, 0], clash := 0, whole := none }

/-- The whole-bundle cause that stands: the checks of R335 in table order, RESERVED_UNIT, DICT_RANGE, RESERVED_FIELD. -/
def wholeOf (old : Option Cause) (new : Cause) : Option Cause :=
  match old with
  | none => some new
  | some c =>
    if c = 0x04#7 ∨ new = 0x04#7 then some 0x04#7
    else if c = 0x03#7 ∨ new = 0x03#7 then some 0x03#7
    else some 0x06#7

/-- Slot words joined: a slot of either bundle. -/
def joinWords : List Nat → List Nat → List Nat
  | x :: xs, y :: ys => (if x = 0 then y else x) :: joinWords xs ys
  | _, _ => []

/-- One nonzero value of SCOPE or STALL along the chain, and whether two differ (R317). -/
def joinField (a b : Nat) : Nat × Bool := (if a = 0 then b else a, decide (a ≠ 0 ∧ b ≠ 0 ∧ a ≠ b))

/-- The chain with one more bundle of n units (R317). A slot present twice keeps its first word; the clash is its fault. -/
def Chain.join (c : Chain) (n : Nat) (b : Bundle) : Chain :=
  let sc := joinField c.scope b.scope
  let st := joinField c.stall b.stall
  let bad := b.bad || sc.2 || st.2 || decide (12 ≤ c.count)
  { len := c.len + n, count := c.count + 1, scope := sc.1, stall := st.1, present := c.present ||| b.present,
    words := joinWords c.words b.words, clash := c.clash ||| (c.present &&& b.present),
    whole := if bad then wholeOf c.whole 0x06#7 else c.whole }

/-- n units from offset off, as one number, the first lowest. -/
def fetchUnits (unit : Nat → UnitR) : Nat → Nat → UnitR
  | 0, _ => .unit 0
  | n + 1, off =>
    match unit off with
    | .wait => .wait
    | .fault c a => .fault c a
    | .unit u =>
      match fetchUnits unit n (off + 1) with
      | .unit v => .unit (u + 65536 * v)
      | r => r

/-- One bundle of the code stream at offset off: its length and content, or the whole-bundle cause of a unit that names none (R310). -/
inductive BundleR where
  | bundle (len : Nat) (b : Bundle)
  | none (c : Cause)
  | wait
  | fault (c : Cause) (faddr : Nat)
deriving DecidableEq, Repr

/-- Fetch one bundle: unit reads a code unit, dict a dictionary entry (R310, R313, R314). -/
def fetchBundle (unit : Nat → UnitR) (dict : Nat → Option Nat) (off : Nat) : BundleR :=
  match unit off with
  | .wait => .wait
  | .fault c a => .fault c a
  | .unit u =>
    if u = 0xFFFE then .bundle 1 nopBundle
    else if u = 0xFFFF then
      match fetchUnits unit 2 (off + 1) with
      | .wait => .wait
      | .fault c a => .fault c a
      | .unit h =>
        let n := (fieldBits (h % 2 ^ 12) 12 0 + 15) / 16
        match fetchUnits unit n (off + 3) with
        | .wait => .wait
        | .fault c a => .fault c a
        | .unit x => .bundle (3 + n) (literalBundle h x)
    else if 0xFFF0 ≤ u then .none 0x04#7
    else
      match dict u with
      | some e => .bundle 1 (entryBundle e)
      | Option.none => .none 0x03#7

/-- The chain from offset off. A unit that names no bundle ends it, since it carries no STOP bit; a thirteenth bundle shows that the
chain is too long (R317). -/
def fetchChainFrom (unit : Nat → UnitR) (dict : Nat → Option Nat) : Nat → Nat → Chain → ChainR
  | 0, _, c => .chain c
  | n + 1, off, c =>
    match fetchBundle unit dict off with
    | .wait => .wait
    | .fault x a => .fault x a
    | .none x => .chain { c with len := c.len + 1, whole := wholeOf c.whole x }
    | .bundle k b =>
      let c' := c.join k b
      if b.stop then .chain c' else fetchChainFrom unit dict n (off + k) c'

/-- The stop-chain whose first unit is at offset off. -/
def fetchChain (unit : Nat → UnitR) (dict : Nat → Option Nat) (off : Nat) : ChainR := fetchChainFrom unit dict 13 off Chain.empty

/-- The slots of a chain that hold no operation of the opcode maps, as a header mask (R324). -/
def slotsBy (p : Nat → Nat → Bool) (present : Nat) : Nat → List Nat → Nat
  | _, [] => 0
  | s, w :: t => (if slotIn present s && p s w then 2 ^ s else 0) + slotsBy p present (s + 1) t

/-- The present slots of a chain with the operations they name, by rising header bit. S1 belongs to S0's LIW (R327). -/
noncomputable def chainOps (c : Chain) : List (Nat × Option Instr) :=
  let w := fun s => nth 0 c.words s
  let liw := slotIn c.present 1 && decide (w 1 % 256 = 0x29)
  (List.range 12).filterMap (fun s =>
    if slotIn c.present s && !(liw && decide (s = 2)) then some (s, rawSlot s (w s) (w 2)) else none)

/-! ## Encoding -/

/-- A field at bit lo of a word. -/
def put {n : Nat} (x : BitVec n) (lo : Nat) : Nat := x.toNat * 2 ^ lo

/-- The words of a slot operation, a LIW's two words S0 first; a device step has none. -/
def encode : Instr → List Nat
  | .reset => []
  | .powerFault _ => []
  | .thermalTrip _ => []
  | .machineCheck _ => []
  | .selfCheckFail => []
  | .stage1Verify => []
  | .memoryLinkTraining _ => []
  | .stage2Verify => []
  | .imageChunk _ => []
  | .imageCommit _ => []
  | .measurementExtend _ _ => []
  | .quote _ => []
  | .readPage _ => []
  | .mgmtDrain _ => []
  | .mgmtResume _ => []
  | .setcap _ => []
  | .mgmtUnknownOperation _ => []
  | .datagramDiscard _ _ => []
  | .socketDatagram _ _ => []
  | .roceWrite _ _ _ _ => []
  | .roceRead _ _ _ _ => []
  | .devcmdStart => []
  | .devcmdDrain => []
  | .devcmdResume => []
  | .capset _ => []
  | .capEffective => []
  | .mkctlInstall => []
  | .mkctlRemove => []
  | .ttsync _ => []
  | .tenantTableReload => []
  | .winsync _ => []
  | .windowDeregisterComplete => []
  | .ctxdispResume _ _ => []
  | .ctxdispAbandon _ _ _ => []
  | .nanstatClear _ _ => []
  | .registerWrite _ _ => []
  | .ccCompare _ => []
  | .interruptTaken _ => []
  | .weathervaneUpdate _ => []
  | .memlinkRequest _ _ _ => []
  | .memlinkData _ _ _ => []
  | .memlinkAck _ _ _ => []
  | .memlinkNak _ _ _ => []
  | .memlinkIdle _ _ _ => []
  | .memlinkRetrain _ _ => []
  | .memlinkRetrainTimeout _ => []
  | .dramScrub _ => []
  | .remoteStore _ _ => []
  | .remoteLoadRequest _ _ => []
  | .remoteLoadReturn _ _ => []
  | .copyData _ _ => []
  | .barrierArrival _ _ => []
  | .send _ _ => []
  | .receiveCredit _ _ => []
  | .deduplicationReference _ _ => []
  | .deduplicationNak _ _ => []
  | .retractionNotice _ _ => []
  | .hopAck _ _ => []
  | .hopNak _ _ => []
  | .atomicRequest _ _ => []
  | .atomicReturn _ _ => []
  | .fabricReservedKind _ _ => []
  | .fabricRetrain _ _ => []
  | .fabricRetrainFail _ => []
  | .sessionKeyAgreement _ => []
  | .enqAcceptance _ => []
  | .selectionRound _ => []
  | .agePeriod _ _ => []
  | .kernelDescriptorLoad _ _ => []
  | .tileCut _ => []
  | .tileRestore _ => []
  | .stealRequest _ _ => []
  | .stealAnswer _ => []
  | .nodeDone _ _ => []
  | .graphComplete _ => []
  | .graphKillComplete _ => []
  | .joinDecrement _ _ => []
  | .bundleIssue _ => []
  | .codeFetch _ => []
  | .resultLanding _ => []
  | .hopenExecute _ _ => []
  | .hpubExecute _ _ => []
  | .hrelExecute _ _ => []
  | .hfreeComplete _ _ => []
  | .copyAdmission _ _ => []
  | .copyAccept _ _ => []
  | .copyPark _ _ => []
  | .copyComplete _ _ => []
  | .remoteAccessPerform _ _ _ => []
  | .ldxReturn _ _ _ => []
  | .matrixCommandStart _ => []
  | .nibBeat _ => []
  | .arrayBeat _ => []
  | .drainRowPush _ => []
  | .cbldBuild _ => []
  | .trdefExecute _ => []
  | .brushUnitAccept _ => []
  | .brushUnitComplete _ => []
  | .xldExecute _ _ => []
  | .xinvStep _ _ => []
  | .xinvComplete _ _ => []
  | .gatherAccept _ _ => []
  | .gatherBlock _ _ => []
  | .gatherComplete _ _ => []
  | .spliceExecute _ _ => []
  | .retouchJobAccept _ _ => []
  | .repairReport _ _ => []
  | .retouchWriteback _ _ => []
  | .prefixBucketStep _ _ => []
  | .winnowPassAccept _ => []
  | .winnowPassEnd _ => []
  | .winnowPark _ => []
  | .fsendAccept _ _ => []
  | .frecvPost _ _ => []
  | .timingReplay _ _ => []
  | .replayWindowEnd _ => []
  | .redundantCompare _ _ => []
  | .redundantTimeout _ _ => []
  | .fieldTestStart _ => []
  | .fieldTestPass _ => []
  | .fieldTestFail _ => []
  | .nop p => [0x00 + put p 5]
  | .br p off => [0x01 + put p 5 + put off 9]
  | .brp p off => [0x02 + put p 5 + put off 9]
  | .jr p g => [0x03 + put p 5 + put g 9]
  | .call p off => [0x04 + put p 5 + put off 9]
  | .callr p g => [0x05 + put p 5 + put g 9]
  | .ret p => [0x06 + put p 5]
  | .loop n off => [0x07 + put n 5 + put off 9]
  | .endTask p => [0x08 + put p 5]
  | .endLoop p => [0x09 + put p 5]
  | .trap p code => [0x0A + put p 5 + put code 9]
  | .waith p h cond => [0x0B + put p 5 + put h 9 + put cond 14]
  | .waitb p g => [0x0C + put p 5 + put g 9]
  | .add p d a b => [0x01 + put p 26 + put d 8 + put a 14 + put b 20]
  | .addi p d a imm => [0x02 + (imm.toNat % 64) * 2 ^ 20 + imm.toNat / 64 * 2 ^ 30 + put p 26 + put d 8 + put a 14]
  | .sub p d a b => [0x03 + put p 26 + put d 8 + put a 14 + put b 20]
  | .mul p d a b => [0x04 + put p 26 + put d 8 + put a 14 + put b 20]
  | .mulh p d a b => [0x05 + put p 26 + put d 8 + put a 14 + put b 20]
  | .mulhu p d a b => [0x06 + put p 26 + put d 8 + put a 14 + put b 20]
  | .div p d a b => [0x07 + put p 26 + put d 8 + put a 14 + put b 20]
  | .divu p d a b => [0x08 + put p 26 + put d 8 + put a 14 + put b 20]
  | .rem p d a b => [0x09 + put p 26 + put d 8 + put a 14 + put b 20]
  | .remu p d a b => [0x0A + put p 26 + put d 8 + put a 14 + put b 20]
  | .and p d a b => [0x10 + put p 26 + put d 8 + put a 14 + put b 20]
  | .or p d a b => [0x11 + put p 26 + put d 8 + put a 14 + put b 20]
  | .xor p d a b => [0x12 + put p 26 + put d 8 + put a 14 + put b 20]
  | .andn p d a b => [0x13 + put p 26 + put d 8 + put a 14 + put b 20]
  | .shl p d a b => [0x14 + put p 26 + put d 8 + put a 14 + put b 20]
  | .shr p d a b => [0x15 + put p 26 + put d 8 + put a 14 + put b 20]
  | .sar p d a b => [0x16 + put p 26 + put d 8 + put a 14 + put b 20]
  | .rotr p d a b => [0x17 + put p 26 + put d 8 + put a 14 + put b 20]
  | .shlImm p d a n => [0x18 + put p 26 + put d 8 + put a 14 + put n 20]
  | .shrImm p d a n => [0x19 + put p 26 + put d 8 + put a 14 + put n 20]
  | .sarImm p d a n => [0x1A + put p 26 + put d 8 + put a 14 + put n 20]
  | .rotrImm p d a n => [0x1B + put p 26 + put d 8 + put a 14 + put n 20]
  | .clz p d a => [0x1C + put p 26 + put d 8 + put a 14]
  | .ctz p d a => [0x1D + put p 26 + put d 8 + put a 14]
  | .popc p d a => [0x1E + put p 26 + put d 8 + put a 14]
  | .min p d a b => [0x20 + put p 26 + put d 8 + put a 14 + put b 20]
  | .max p d a b => [0x21 + put p 26 + put d 8 + put a 14 + put b 20]
  | .minu p d a b => [0x22 + put p 26 + put d 8 + put a 14 + put b 20]
  | .maxu p d a b => [0x23 + put p 26 + put d 8 + put a 14 + put b 20]
  | .sel p d a b => [0x24 + put p 26 + put d 8 + put a 14 + put b 20]
  | .mov p d a => [0x25 + put p 26 + put d 8 + put a 14]
  | .movFromA p d an => [0x26 + put p 26 + put d 8 + put an 14]
  | .movToA p an a => [0x27 + put p 26 + put an 8 + put a 14]
  | .movFromQ p d q => [0x28 + put p 26 + put d 8 + put q 14]
  | .liw ext d imm => [0x29 + put d 8 + (imm.toNat % 65536) * 2 ^ 14 + put ext 30, imm.toNat / 65536]
  | .cmpEq p pd a b => [0x30 + put p 26 + put pd 8 + put a 14 + put b 20]
  | .cmpNe p pd a b => [0x31 + put p 26 + put pd 8 + put a 14 + put b 20]
  | .cmpLt p pd a b => [0x32 + put p 26 + put pd 8 + put a 14 + put b 20]
  | .cmpGe p pd a b => [0x33 + put p 26 + put pd 8 + put a 14 + put b 20]
  | .cmpLtu p pd a b => [0x34 + put p 26 + put pd 8 + put a 14 + put b 20]
  | .cmpGeu p pd a b => [0x35 + put p 26 + put pd 8 + put a 14 + put b 20]
  | .cmpFeq p pd a b => [0x38 + put p 26 + put pd 8 + put a 14 + put b 20]
  | .cmpFlt p pd a b => [0x39 + put p 26 + put pd 8 + put a 14 + put b 20]
  | .cmpFle p pd a b => [0x3A + put p 26 + put pd 8 + put a 14 + put b 20]
  | .cmpFun p pd a b => [0x3B + put p 26 + put pd 8 + put a 14 + put b 20]
  | .fadd p d a b => [0x40 + put p 26 + put d 8 + put a 14 + put b 20]
  | .fmul p d a b => [0x41 + put p 26 + put d 8 + put a 14 + put b 20]
  | .fma p d a b => [0x42 + put p 26 + put d 8 + put a 14 + put b 20]
  | .fcvtToF32 p d a ty sat => [0x43 + put p 26 + put d 8 + put a 14 + put ty 20 + put sat 24]
  | .fcvtFromF32 p d a ty sat => [0x44 + put p 26 + put d 8 + put a 14 + put ty 20 + put sat 24]
  | .minF32 p d a b => [0x46 + put p 26 + put d 8 + put a 14 + put b 20]
  | .maxF32 p d a b => [0x47 + put p 26 + put d 8 + put a 14 + put b 20]
  | .pand p d a b => [0x50 + put p 26 + put d 8 + put a 14 + put b 20]
  | .por p d a b => [0x51 + put p 26 + put d 8 + put a 14 + put b 20]
  | .pxor p d a b => [0x52 + put p 26 + put d 8 + put a 14 + put b 20]
  | .pnot p d a => [0x53 + put p 26 + put d 8 + put a 14]
  | .rdsr p d sr => [0x60 + put p 26 + put d 8 + put sr 14]
  | .wrsr p sr a => [0x61 + put p 26 + put sr 8 + put a 14]
  | .ali imm gs ad => [0x00 + put imm 16 + put gs 8 + put ad 4]
  | .aadd imm am src ad => [0x01 + put imm 16 + put am 12 + put src 8 + put ad 4]
  | .amod imm am src ad => [0x02 + put imm 16 + put am 12 + put src 8 + put ad 4]
  | .abrv imm am src ad => [0x03 + put imm 16 + put am 12 + put src 8 + put ad 4]
  | .acir imm am src ad => [0x04 + put imm 16 + put am 12 + put src 8 + put ad 4]
  | .amset am gs => [0x05 + put am 12 + put gs 8]
  | .ldB p off m r => [0x00 + put p 28 + put off 16 + put m 12 + put r 6]
  | .ldH p off m r => [0x01 + put p 28 + put off 16 + put m 12 + put r 6]
  | .ldW p off m r => [0x02 + put p 28 + put off 16 + put m 12 + put r 6]
  | .ldD p off m r => [0x03 + put p 28 + put off 16 + put m 12 + put r 6]
  | .stB p off m r => [0x04 + put p 28 + put off 16 + put m 12 + put r 6]
  | .stH p off m r => [0x05 + put p 28 + put off 16 + put m 12 + put r 6]
  | .stW p off m r => [0x06 + put p 28 + put off 16 + put m 12 + put r 6]
  | .stD p off m r => [0x07 + put p 28 + put off 16 + put m 12 + put r 6]
  | .vld256 p off m r => [0x08 + put p 28 + put off 16 + put m 12 + put r 6]
  | .vld512 p off m r => [0x09 + put p 28 + put off 16 + put m 12 + put r 6]
  | .vld1024 p off m r => [0x0A + put p 28 + put off 16 + put m 12 + put r 6]
  | .vst256 p off m r => [0x0C + put p 28 + put off 16 + put m 12 + put r 6]
  | .vst512 p off m r => [0x0D + put p 28 + put off 16 + put m 12 + put r 6]
  | .vst1024 p off m r => [0x0E + put p 28 + put off 16 + put m 12 + put r 6]
  | .ldsB p off r => [0x10 + put p 28 + put off 16 + put r 6]
  | .ldsH p off r => [0x11 + put p 28 + put off 16 + put r 6]
  | .ldsW p off r => [0x12 + put p 28 + put off 16 + put r 6]
  | .ldsD p off r => [0x13 + put p 28 + put off 16 + put r 6]
  | .stsB p off r => [0x14 + put p 28 + put off 16 + put r 6]
  | .stsH p off r => [0x15 + put p 28 + put off 16 + put r 6]
  | .stsW p off r => [0x16 + put p 28 + put off 16 + put r 6]
  | .stsD p off r => [0x17 + put p 28 + put off 16 + put r 6]
  | .ldxD p off m q => [0x18 + put p 28 + put off 16 + put m 12 + put q 6]
  | .ldxV256 p off m q => [0x19 + put p 28 + put off 16 + put m 12 + put q 6]
  | .ldxV512 p off m q => [0x1A + put p 28 + put off 16 + put m 12 + put q 6]
  | .ldxV1024 p off m q => [0x1B + put p 28 + put off 16 + put m 12 + put q 6]
  | .stxD p off m r => [0x1C + put p 28 + put off 16 + put m 12 + put r 6]
  | .stxV256 p off m r => [0x1D + put p 28 + put off 16 + put m 12 + put r 6]
  | .stxV512 p off m r => [0x1E + put p 28 + put off 16 + put m 12 + put r 6]
  | .stxV1024 p off m r => [0x1F + put p 28 + put off 16 + put m 12 + put r 6]
  | .atmAddW p off m r => [0x20 + put p 28 + put off 16 + put m 12 + put r 6]
  | .atmAndW p off m r => [0x21 + put p 28 + put off 16 + put m 12 + put r 6]
  | .atmOrW p off m r => [0x22 + put p 28 + put off 16 + put m 12 + put r 6]
  | .atmXorW p off m r => [0x23 + put p 28 + put off 16 + put m 12 + put r 6]
  | .atmSwpW p off m r => [0x24 + put p 28 + put off 16 + put m 12 + put r 6]
  | .atmCasW p off m r => [0x25 + put p 28 + put off 16 + put m 12 + put r 6]
  | .atmMinW p off m r => [0x26 + put p 28 + put off 16 + put m 12 + put r 6]
  | .atmMaxW p off m r => [0x27 + put p 28 + put off 16 + put m 12 + put r 6]
  | .atmAdd p off m r => [0x28 + put p 28 + put off 16 + put m 12 + put r 6]
  | .atmAnd p off m r => [0x29 + put p 28 + put off 16 + put m 12 + put r 6]
  | .atmOr p off m r => [0x2A + put p 28 + put off 16 + put m 12 + put r 6]
  | .atmXor p off m r => [0x2B + put p 28 + put off 16 + put m 12 + put r 6]
  | .atmSwp p off m r => [0x2C + put p 28 + put off 16 + put m 12 + put r 6]
  | .atmCas p off m r => [0x2D + put p 28 + put off 16 + put m 12 + put r 6]
  | .atmMin p off m r => [0x2E + put p 28 + put off 16 + put m 12 + put r 6]
  | .atmMax p off m r => [0x2F + put p 28 + put off 16 + put m 12 + put r 6]
  | .atmFmaxF32 p off m r => [0x30 + put p 28 + put off 16 + put m 12 + put r 6]
  | .atmFmaxBf16 p off m r => [0x31 + put p 28 + put off 16 + put m 12 + put r 6]
  | .atmFmaxF16 p off m r => [0x32 + put p 28 + put off 16 + put m 12 + put r 6]
  | .atmDec p off m r => [0x33 + put p 28 + put off 16 + put m 12 + put r 6]
  | .vadd p vb va vd ty wid => [0x01 + put p 32 + put vb 26 + put va 20 + put vd 14 + put ty 10 + put wid 8]
  | .vsub p vb va vd ty wid => [0x02 + put p 32 + put vb 26 + put va 20 + put vd 14 + put ty 10 + put wid 8]
  | .vmul p vb va vd ty wid => [0x03 + put p 32 + put vb 26 + put va 20 + put vd 14 + put ty 10 + put wid 8]
  | .vfma p vb va vd ty wid => [0x04 + put p 32 + put vb 26 + put va 20 + put vd 14 + put ty 10 + put wid 8]
  | .vfms p vb va vd ty wid => [0x05 + put p 32 + put vb 26 + put va 20 + put vd 14 + put ty 10 + put wid 8]
  | .vmin p vb va vd ty wid => [0x06 + put p 32 + put vb 26 + put va 20 + put vd 14 + put ty 10 + put wid 8]
  | .vmax p vb va vd ty wid => [0x07 + put p 32 + put vb 26 + put va 20 + put vd 14 + put ty 10 + put wid 8]
  | .vabs p va vd ty wid => [0x08 + put p 32 + put va 20 + put vd 14 + put ty 10 + put wid 8]
  | .vneg p va vd ty wid => [0x09 + put p 32 + put va 20 + put vd 14 + put ty 10 + put wid 8]
  | .vcmp p vb va cc pd ty wid => [0x0A + put p 32 + put vb 26 + put va 20 + put cc 18 + put pd 14 + put ty 10 + put wid 8]
  | .vsel p vb va vd ty wid => [0x0B + put p 32 + put vb 26 + put va 20 + put vd 14 + put ty 10 + put wid 8]
  | .viadd p vb va vd ty wid => [0x10 + put p 32 + put vb 26 + put va 20 + put vd 14 + put ty 10 + put wid 8]
  | .visub p vb va vd ty wid => [0x11 + put p 32 + put vb 26 + put va 20 + put vd 14 + put ty 10 + put wid 8]
  | .vimul p vb va vd ty wid => [0x12 + put p 32 + put vb 26 + put va 20 + put vd 14 + put ty 10 + put wid 8]
  | .vimac p vb va vd ty wid => [0x13 + put p 32 + put vb 26 + put va 20 + put vd 14 + put ty 10 + put wid 8]
  | .vsat p va vd ty wid => [0x14 + put p 32 + put va 20 + put vd 14 + put ty 10 + put wid 8]
  | .vshl p vb va vd ty wid => [0x15 + put p 32 + put vb 26 + put va 20 + put vd 14 + put ty 10 + put wid 8]
  | .vshr p vb va vd ty wid => [0x16 + put p 32 + put vb 26 + put va 20 + put vd 14 + put ty 10 + put wid 8]
  | .vsar p vb va vd ty wid => [0x17 + put p 32 + put vb 26 + put va 20 + put vd 14 + put ty 10 + put wid 8]
  | .vand p vb va vd ty wid => [0x18 + put p 32 + put vb 26 + put va 20 + put vd 14 + put ty 10 + put wid 8]
  | .vor p vb va vd ty wid => [0x19 + put p 32 + put vb 26 + put va 20 + put vd 14 + put ty 10 + put wid 8]
  | .vxor p vb va vd ty wid => [0x1A + put p 32 + put vb 26 + put va 20 + put vd 14 + put ty 10 + put wid 8]
  | .vnot p va vd ty wid => [0x1B + put p 32 + put va 20 + put vd 14 + put ty 10 + put wid 8]
  | .vcvt p sat src va vd ty wid => [0x20 + put p 32 + put sat 30 + put src 26 + put va 20 + put vd 14 + put ty 10 + put wid 8]
  | .vqnt p sat va vd ty wid => [0x21 + put p 32 + put sat 30 + put va 20 + put vd 14 + put ty 10 + put wid 8]
  | .vdqnt p va vd ty wid => [0x22 + put p 32 + put va 20 + put vd 14 + put ty 10 + put wid 8]
  | .vimg p inv va vd ty wid => [0x23 + put p 32 + put inv 26 + put va 20 + put vd 14 + put ty 10 + put wid 8]
  | .vlse p vb va vd ty wid => [0x24 + put p 32 + put vb 26 + put va 20 + put vd 14 + put ty 10 + put wid 8]
  | .vrope p vb va vd ty wid => [0x25 + put p 32 + put vb 26 + put va 20 + put vd 14 + put ty 10 + put wid 8]
  | .vnanp p pd => [0x26 + put p 32 + put pd 14 + 2 * 2 ^ 8]
  | .vrsum p va vd ty wid => [0x28 + put p 32 + put va 20 + put vd 14 + put ty 10 + put wid 8]
  | .vrmax p va vd ty wid => [0x29 + put p 32 + put va 20 + put vd 14 + put ty 10 + put wid 8]
  | .vrmin p va vd ty wid => [0x2A + put p 32 + put va 20 + put vd 14 + put ty 10 + put wid 8]
  | .vbcst p g vd ty wid => [0x2B + put p 32 + put g 20 + put vd 14 + put ty 10 + put wid 8]
  | .vmov p va vd ty wid => [0x2C + put p 32 + put va 20 + put vd 14 + put ty 10 + put wid 8]
  | .vexp2 p va vd ty wid => [0x40 + put p 32 + put va 20 + put vd 14 + put ty 10 + put wid 8]
  | .vlog2 p va vd ty wid => [0x41 + put p 32 + put va 20 + put vd 14 + put ty 10 + put wid 8]
  | .vrcp p va vd ty wid => [0x42 + put p 32 + put va 20 + put vd 14 + put ty 10 + put wid 8]
  | .vrsq p va vd ty wid => [0x43 + put p 32 + put va 20 + put vd 14 + put ty 10 + put wid 8]
  | .vsqrt p va vd ty wid => [0x44 + put p 32 + put va 20 + put vd 14 + put ty 10 + put wid 8]
  | .vsin p va vd ty wid => [0x45 + put p 32 + put va 20 + put vd 14 + put ty 10 + put wid 8]
  | .vcos p va vd ty wid => [0x46 + put p 32 + put va 20 + put vd 14 + put ty 10 + put wid 8]
  | .vtanh p va vd ty wid => [0x47 + put p 32 + put va 20 + put vd 14 + put ty 10 + put wid 8]
  | .vperm p vb va vd ty wid => [0x48 + put p 32 + put vb 26 + put va 20 + put vd 14 + put ty 10 + put wid 8]
  | .vtrn p va vd ty wid => [0x49 + put p 32 + put va 20 + put vd 14 + put ty 10 + put wid 8]
  | .vshuf p vb va vd ty wid => [0x4A + put p 32 + put vb 26 + put va 20 + put vd 14 + put ty 10 + put wid 8]
  | .vzip p vb va vd ty wid => [0x4B + put p 32 + put vb 26 + put va 20 + put vd 14 + put ty 10 + put wid 8]
  | .vaddStream p q va vd ty wid => [0x81 + put p 32 + put q 26 + put va 20 + put vd 14 + put ty 10 + put wid 8]
  | .vsubStream p q va vd ty wid => [0x82 + put p 32 + put q 26 + put va 20 + put vd 14 + put ty 10 + put wid 8]
  | .vmulStream p q va vd ty wid => [0x83 + put p 32 + put q 26 + put va 20 + put vd 14 + put ty 10 + put wid 8]
  | .vfmaStream p q va vd ty wid => [0x84 + put p 32 + put q 26 + put va 20 + put vd 14 + put ty 10 + put wid 8]
  | .vfmsStream p q va vd ty wid => [0x85 + put p 32 + put q 26 + put va 20 + put vd 14 + put ty 10 + put wid 8]
  | .vminStream p q va vd ty wid => [0x86 + put p 32 + put q 26 + put va 20 + put vd 14 + put ty 10 + put wid 8]
  | .vmaxStream p q va vd ty wid => [0x87 + put p 32 + put q 26 + put va 20 + put vd 14 + put ty 10 + put wid 8]
  | .vabsStream p q vd ty wid => [0x88 + put p 32 + put q 20 + put vd 14 + put ty 10 + put wid 8]
  | .vnegStream p q vd ty wid => [0x89 + put p 32 + put q 20 + put vd 14 + put ty 10 + put wid 8]
  | .vcmpStream p q va cc pd ty wid => [0x8A + put p 32 + put q 26 + put va 20 + put cc 18 + put pd 14 + put ty 10 + put wid 8]
  | .vselStream p q va vd ty wid => [0x8B + put p 32 + put q 26 + put va 20 + put vd 14 + put ty 10 + put wid 8]
  | .viaddStream p q va vd ty wid => [0x90 + put p 32 + put q 26 + put va 20 + put vd 14 + put ty 10 + put wid 8]
  | .visubStream p q va vd ty wid => [0x91 + put p 32 + put q 26 + put va 20 + put vd 14 + put ty 10 + put wid 8]
  | .vimulStream p q va vd ty wid => [0x92 + put p 32 + put q 26 + put va 20 + put vd 14 + put ty 10 + put wid 8]
  | .vimacStream p q va vd ty wid => [0x93 + put p 32 + put q 26 + put va 20 + put vd 14 + put ty 10 + put wid 8]
  | .vsatStream p q vd ty wid => [0x94 + put p 32 + put q 20 + put vd 14 + put ty 10 + put wid 8]
  | .vshlStream p q va vd ty wid => [0x95 + put p 32 + put q 26 + put va 20 + put vd 14 + put ty 10 + put wid 8]
  | .vshrStream p q va vd ty wid => [0x96 + put p 32 + put q 26 + put va 20 + put vd 14 + put ty 10 + put wid 8]
  | .vsarStream p q va vd ty wid => [0x97 + put p 32 + put q 26 + put va 20 + put vd 14 + put ty 10 + put wid 8]
  | .vandStream p q va vd ty wid => [0x98 + put p 32 + put q 26 + put va 20 + put vd 14 + put ty 10 + put wid 8]
  | .vorStream p q va vd ty wid => [0x99 + put p 32 + put q 26 + put va 20 + put vd 14 + put ty 10 + put wid 8]
  | .vxorStream p q va vd ty wid => [0x9A + put p 32 + put q 26 + put va 20 + put vd 14 + put ty 10 + put wid 8]
  | .vnotStream p q vd ty wid => [0x9B + put p 32 + put q 20 + put vd 14 + put ty 10 + put wid 8]
  | .vcvtStream p sat src q vd ty wid => [0xA0 + put p 32 + put sat 30 + put src 26 + put q 20 + put vd 14 + put ty 10 + put wid 8]
  | .vqntStream p sat q vd ty wid => [0xA1 + put p 32 + put sat 30 + put q 20 + put vd 14 + put ty 10 + put wid 8]
  | .vdqntStream p q vd ty wid => [0xA2 + put p 32 + put q 20 + put vd 14 + put ty 10 + put wid 8]
  | .vimgStream p inv q vd ty wid => [0xA3 + put p 32 + put inv 26 + put q 20 + put vd 14 + put ty 10 + put wid 8]
  | .vlseStream p q va vd ty wid => [0xA4 + put p 32 + put q 26 + put va 20 + put vd 14 + put ty 10 + put wid 8]
  | .vropeStream p q va vd ty wid => [0xA5 + put p 32 + put q 26 + put va 20 + put vd 14 + put ty 10 + put wid 8]
  | .vrsumStream p q vd ty wid => [0xA8 + put p 32 + put q 20 + put vd 14 + put ty 10 + put wid 8]
  | .vrmaxStream p q vd ty wid => [0xA9 + put p 32 + put q 20 + put vd 14 + put ty 10 + put wid 8]
  | .vrminStream p q vd ty wid => [0xAA + put p 32 + put q 20 + put vd 14 + put ty 10 + put wid 8]
  | .vmovStream p q vd ty wid => [0xAC + put p 32 + put q 20 + put vd 14 + put ty 10 + put wid 8]
  | .vexp2Stream p q vd ty wid => [0xC0 + put p 32 + put q 20 + put vd 14 + put ty 10 + put wid 8]
  | .vlog2Stream p q vd ty wid => [0xC1 + put p 32 + put q 20 + put vd 14 + put ty 10 + put wid 8]
  | .vrcpStream p q vd ty wid => [0xC2 + put p 32 + put q 20 + put vd 14 + put ty 10 + put wid 8]
  | .vrsqStream p q vd ty wid => [0xC3 + put p 32 + put q 20 + put vd 14 + put ty 10 + put wid 8]
  | .vsqrtStream p q vd ty wid => [0xC4 + put p 32 + put q 20 + put vd 14 + put ty 10 + put wid 8]
  | .vsinStream p q vd ty wid => [0xC5 + put p 32 + put q 20 + put vd 14 + put ty 10 + put wid 8]
  | .vcosStream p q vd ty wid => [0xC6 + put p 32 + put q 20 + put vd 14 + put ty 10 + put wid 8]
  | .vtanhStream p q vd ty wid => [0xC7 + put p 32 + put q 20 + put vd 14 + put ty 10 + put wid 8]
  | .vpermStream p q va vd ty wid => [0xC8 + put p 32 + put q 26 + put va 20 + put vd 14 + put ty 10 + put wid 8]
  | .vtrnStream p q vd ty wid => [0xC9 + put p 32 + put q 20 + put vd 14 + put ty 10 + put wid 8]
  | .vshufStream p q va vd ty wid => [0xCA + put p 32 + put q 26 + put va 20 + put vd 14 + put ty 10 + put wid 8]
  | .vzipStream p q va vd ty wid => [0xCB + put p 32 + put q 26 + put va 20 + put vd 14 + put ty 10 + put wid 8]
  | .mcfg imm => [0x00 + put imm 4]
  | .mldw => [0x01]
  | .mswap => [0x02]
  | .mpush acc bank row h => [0x03 + put acc 18 + put bank 15 + put row 9 + put h 4]
  | .macw acc bank row h => [0x06 + put acc 18 + put bank 15 + put row 9 + put h 4]
  | .mshiftZero h => [0x04 + put h 4]
  | .mshiftBack h => [0x04 + put h 4 + 1 * 2 ^ 18]
  | .mshiftFwd h => [0x04 + put h 4 + 2 * 2 ^ 18]
  | .mdrain bank row n1 => [0x05 + put bank 15 + put row 9 + put n1 4]
  | .mzero bank row n1 => [0x07 + put bank 15 + put row 9 + put n1 4]
  | .sqset reg g => [0x01 + put reg 14 + put g 8]
  | .sqgo slot => [0x02 + put slot 14]
  | .sqbind q g => [0x03 + put q 14 + put g 8]
  | .accpy bank g => [0x04 + put bank 14 + put g 8]
  | .halloc h g => [0x10 + put h 14 + put g 8]
  | .hfree h => [0x11 + put h 14]
  | .hopen h => [0x12 + put h 14]
  | .hpub h g => [0x13 + put h 14 + put g 8]
  | .hrel h g => [0x14 + put h 14 + put g 8]
  | .hset h g => [0x15 + put h 14 + put g 8]
  | .binit gv ga => [0x16 + put gv 14 + put ga 8]
  | .binitRel g => [0x17 + put g 8]
  | .barr g => [0x18 + put g 8]
  | .drn => [0x19]
  | .fork pd g => [0x20 + put pd 14 + put g 8]
  | .join gr gb => [0x21 + put gr 14 + put gb 8]
  | .enq queue g => [0x22 + put queue 14 + put g 8]
  | .nibset g => [0x30 + put g 8]
  | .nibsetSt g => [0x31 + put g 8]
  | .cbld h g => [0x32 + put h 14 + put g 8]
  | .trdef h slot => [0x33 + put h 14 + put slot 8]
  | .trenc h g => [0x34 + put h 14 + put g 8]
  | .twupd h g => [0x35 + put h 14 + put g 8]
  | .xld gb g => [0x40 + put gb 14 + put g 8]
  | .xinv gb g => [0x41 + put gb 14 + put g 8]
  | .kvg h g => [0x42 + put h 14 + put g 8]
  | .splc h g => [0x43 + put h 14 + put g 8]
  | .rprset g => [0x44 + put g 8]
  | .rpr h g => [0x45 + put h 14 + put g 8]
  | .rprRep gx ga => [0x46 + put gx 14 + put ga 8]
  | .pxlk gb g => [0x47 + put gb 14 + put g 8]
  | .pxin gb g => [0x48 + put gb 14 + put g 8]
  | .pxinRm gb g => [0x49 + put gb 14 + put g 8]
  | .wnsel h g => [0x50 + put h 14 + put g 8]
  | .fsend h g => [0x60 + put h 14 + put g 8]
  | .frecvHandle h g => [0x61 + put h 14 + put g 8]
  | .frecvStream q g => [0x62 + put q 14 + put g 8]
  | .sysc n => [0xF0 + put n 14]
  | .eret => [0xF1]
  | .tlbi g => [0xF2 + put g 8]
  | .wfe => [0xF3]
  | .sahethLinkPortTraining _ _ => []
  | .pageWalkComplete _ _ => []

/-- The header bit of the slot that an operation can stand in, of several the one that admits every form: V3 for a vector operation. -/
def homeSlot : Instr → Nat
  | .reset => 12
  | .powerFault _ => 12
  | .thermalTrip _ => 12
  | .machineCheck _ => 12
  | .selfCheckFail => 12
  | .stage1Verify => 12
  | .memoryLinkTraining _ => 12
  | .stage2Verify => 12
  | .imageChunk _ => 12
  | .imageCommit _ => 12
  | .measurementExtend _ _ => 12
  | .quote _ => 12
  | .readPage _ => 12
  | .mgmtDrain _ => 12
  | .mgmtResume _ => 12
  | .setcap _ => 12
  | .mgmtUnknownOperation _ => 12
  | .datagramDiscard _ _ => 12
  | .socketDatagram _ _ => 12
  | .roceWrite _ _ _ _ => 12
  | .roceRead _ _ _ _ => 12
  | .devcmdStart => 12
  | .devcmdDrain => 12
  | .devcmdResume => 12
  | .capset _ => 12
  | .capEffective => 12
  | .mkctlInstall => 12
  | .mkctlRemove => 12
  | .ttsync _ => 12
  | .tenantTableReload => 12
  | .winsync _ => 12
  | .windowDeregisterComplete => 12
  | .ctxdispResume _ _ => 12
  | .ctxdispAbandon _ _ _ => 12
  | .nanstatClear _ _ => 12
  | .registerWrite _ _ => 12
  | .ccCompare _ => 12
  | .interruptTaken _ => 12
  | .weathervaneUpdate _ => 12
  | .memlinkRequest _ _ _ => 12
  | .memlinkData _ _ _ => 12
  | .memlinkAck _ _ _ => 12
  | .memlinkNak _ _ _ => 12
  | .memlinkIdle _ _ _ => 12
  | .memlinkRetrain _ _ => 12
  | .memlinkRetrainTimeout _ => 12
  | .dramScrub _ => 12
  | .remoteStore _ _ => 12
  | .remoteLoadRequest _ _ => 12
  | .remoteLoadReturn _ _ => 12
  | .copyData _ _ => 12
  | .barrierArrival _ _ => 12
  | .send _ _ => 12
  | .receiveCredit _ _ => 12
  | .deduplicationReference _ _ => 12
  | .deduplicationNak _ _ => 12
  | .retractionNotice _ _ => 12
  | .hopAck _ _ => 12
  | .hopNak _ _ => 12
  | .atomicRequest _ _ => 12
  | .atomicReturn _ _ => 12
  | .fabricReservedKind _ _ => 12
  | .fabricRetrain _ _ => 12
  | .fabricRetrainFail _ => 12
  | .sessionKeyAgreement _ => 12
  | .enqAcceptance _ => 12
  | .selectionRound _ => 12
  | .agePeriod _ _ => 12
  | .kernelDescriptorLoad _ _ => 12
  | .tileCut _ => 12
  | .tileRestore _ => 12
  | .stealRequest _ _ => 12
  | .stealAnswer _ => 12
  | .nodeDone _ _ => 12
  | .graphComplete _ => 12
  | .graphKillComplete _ => 12
  | .joinDecrement _ _ => 12
  | .bundleIssue _ => 12
  | .codeFetch _ => 12
  | .resultLanding _ => 12
  | .hopenExecute _ _ => 12
  | .hpubExecute _ _ => 12
  | .hrelExecute _ _ => 12
  | .hfreeComplete _ _ => 12
  | .copyAdmission _ _ => 12
  | .copyAccept _ _ => 12
  | .copyPark _ _ => 12
  | .copyComplete _ _ => 12
  | .remoteAccessPerform _ _ _ => 12
  | .ldxReturn _ _ _ => 12
  | .matrixCommandStart _ => 12
  | .nibBeat _ => 12
  | .arrayBeat _ => 12
  | .drainRowPush _ => 12
  | .cbldBuild _ => 12
  | .trdefExecute _ => 12
  | .brushUnitAccept _ => 12
  | .brushUnitComplete _ => 12
  | .xldExecute _ _ => 12
  | .xinvStep _ _ => 12
  | .xinvComplete _ _ => 12
  | .gatherAccept _ _ => 12
  | .gatherBlock _ _ => 12
  | .gatherComplete _ _ => 12
  | .spliceExecute _ _ => 12
  | .retouchJobAccept _ _ => 12
  | .repairReport _ _ => 12
  | .retouchWriteback _ _ => 12
  | .prefixBucketStep _ _ => 12
  | .winnowPassAccept _ => 12
  | .winnowPassEnd _ => 12
  | .winnowPark _ => 12
  | .fsendAccept _ _ => 12
  | .frecvPost _ _ => 12
  | .timingReplay _ _ => 12
  | .replayWindowEnd _ => 12
  | .redundantCompare _ _ => 12
  | .redundantTimeout _ _ => 12
  | .fieldTestStart _ => 12
  | .fieldTestPass _ => 12
  | .fieldTestFail _ => 12
  | .nop _ => 0
  | .br _ _ => 0
  | .brp _ _ => 0
  | .jr _ _ => 0
  | .call _ _ => 0
  | .callr _ _ => 0
  | .ret _ => 0
  | .loop _ _ => 0
  | .endTask _ => 0
  | .endLoop _ => 0
  | .trap _ _ => 0
  | .waith _ _ _ => 0
  | .waitb _ _ => 0
  | .add _ _ _ _ => 1
  | .addi _ _ _ _ => 1
  | .sub _ _ _ _ => 1
  | .mul _ _ _ _ => 1
  | .mulh _ _ _ _ => 1
  | .mulhu _ _ _ _ => 1
  | .div _ _ _ _ => 1
  | .divu _ _ _ _ => 1
  | .rem _ _ _ _ => 1
  | .remu _ _ _ _ => 1
  | .and _ _ _ _ => 1
  | .or _ _ _ _ => 1
  | .xor _ _ _ _ => 1
  | .andn _ _ _ _ => 1
  | .shl _ _ _ _ => 1
  | .shr _ _ _ _ => 1
  | .sar _ _ _ _ => 1
  | .rotr _ _ _ _ => 1
  | .shlImm _ _ _ _ => 1
  | .shrImm _ _ _ _ => 1
  | .sarImm _ _ _ _ => 1
  | .rotrImm _ _ _ _ => 1
  | .clz _ _ _ => 1
  | .ctz _ _ _ => 1
  | .popc _ _ _ => 1
  | .min _ _ _ _ => 1
  | .max _ _ _ _ => 1
  | .minu _ _ _ _ => 1
  | .maxu _ _ _ _ => 1
  | .sel _ _ _ _ => 1
  | .mov _ _ _ => 1
  | .movFromA _ _ _ => 1
  | .movToA _ _ _ => 1
  | .movFromQ _ _ _ => 1
  | .liw _ _ _ => 1
  | .cmpEq _ _ _ _ => 1
  | .cmpNe _ _ _ _ => 1
  | .cmpLt _ _ _ _ => 1
  | .cmpGe _ _ _ _ => 1
  | .cmpLtu _ _ _ _ => 1
  | .cmpGeu _ _ _ _ => 1
  | .cmpFeq _ _ _ _ => 1
  | .cmpFlt _ _ _ _ => 1
  | .cmpFle _ _ _ _ => 1
  | .cmpFun _ _ _ _ => 1
  | .fadd _ _ _ _ => 1
  | .fmul _ _ _ _ => 1
  | .fma _ _ _ _ => 1
  | .fcvtToF32 _ _ _ _ _ => 1
  | .fcvtFromF32 _ _ _ _ _ => 1
  | .minF32 _ _ _ _ => 1
  | .maxF32 _ _ _ _ => 1
  | .pand _ _ _ _ => 1
  | .por _ _ _ _ => 1
  | .pxor _ _ _ _ => 1
  | .pnot _ _ _ => 1
  | .rdsr _ _ _ => 1
  | .wrsr _ _ _ => 1
  | .ali _ _ _ => 3
  | .aadd _ _ _ _ => 3
  | .amod _ _ _ _ => 3
  | .abrv _ _ _ _ => 3
  | .acir _ _ _ _ => 3
  | .amset _ _ => 3
  | .ldB _ _ _ _ => 4
  | .ldH _ _ _ _ => 4
  | .ldW _ _ _ _ => 4
  | .ldD _ _ _ _ => 4
  | .stB _ _ _ _ => 4
  | .stH _ _ _ _ => 4
  | .stW _ _ _ _ => 4
  | .stD _ _ _ _ => 4
  | .vld256 _ _ _ _ => 4
  | .vld512 _ _ _ _ => 4
  | .vld1024 _ _ _ _ => 4
  | .vst256 _ _ _ _ => 4
  | .vst512 _ _ _ _ => 4
  | .vst1024 _ _ _ _ => 4
  | .ldsB _ _ _ => 4
  | .ldsH _ _ _ => 4
  | .ldsW _ _ _ => 4
  | .ldsD _ _ _ => 4
  | .stsB _ _ _ => 4
  | .stsH _ _ _ => 4
  | .stsW _ _ _ => 4
  | .stsD _ _ _ => 4
  | .ldxD _ _ _ _ => 4
  | .ldxV256 _ _ _ _ => 4
  | .ldxV512 _ _ _ _ => 4
  | .ldxV1024 _ _ _ _ => 4
  | .stxD _ _ _ _ => 4
  | .stxV256 _ _ _ _ => 4
  | .stxV512 _ _ _ _ => 4
  | .stxV1024 _ _ _ _ => 4
  | .atmAddW _ _ _ _ => 4
  | .atmAndW _ _ _ _ => 4
  | .atmOrW _ _ _ _ => 4
  | .atmXorW _ _ _ _ => 4
  | .atmSwpW _ _ _ _ => 4
  | .atmCasW _ _ _ _ => 4
  | .atmMinW _ _ _ _ => 4
  | .atmMaxW _ _ _ _ => 4
  | .atmAdd _ _ _ _ => 4
  | .atmAnd _ _ _ _ => 4
  | .atmOr _ _ _ _ => 4
  | .atmXor _ _ _ _ => 4
  | .atmSwp _ _ _ _ => 4
  | .atmCas _ _ _ _ => 4
  | .atmMin _ _ _ _ => 4
  | .atmMax _ _ _ _ => 4
  | .atmFmaxF32 _ _ _ _ => 4
  | .atmFmaxBf16 _ _ _ _ => 4
  | .atmFmaxF16 _ _ _ _ => 4
  | .atmDec _ _ _ _ => 4
  | .vadd _ _ _ _ _ _ => 9
  | .vsub _ _ _ _ _ _ => 9
  | .vmul _ _ _ _ _ _ => 9
  | .vfma _ _ _ _ _ _ => 9
  | .vfms _ _ _ _ _ _ => 9
  | .vmin _ _ _ _ _ _ => 9
  | .vmax _ _ _ _ _ _ => 9
  | .vabs _ _ _ _ _ => 9
  | .vneg _ _ _ _ _ => 9
  | .vcmp _ _ _ _ _ _ _ => 9
  | .vsel _ _ _ _ _ _ => 9
  | .viadd _ _ _ _ _ _ => 9
  | .visub _ _ _ _ _ _ => 9
  | .vimul _ _ _ _ _ _ => 9
  | .vimac _ _ _ _ _ _ => 9
  | .vsat _ _ _ _ _ => 9
  | .vshl _ _ _ _ _ _ => 9
  | .vshr _ _ _ _ _ _ => 9
  | .vsar _ _ _ _ _ _ => 9
  | .vand _ _ _ _ _ _ => 9
  | .vor _ _ _ _ _ _ => 9
  | .vxor _ _ _ _ _ _ => 9
  | .vnot _ _ _ _ _ => 9
  | .vcvt _ _ _ _ _ _ _ => 9
  | .vqnt _ _ _ _ _ _ => 9
  | .vdqnt _ _ _ _ _ => 9
  | .vimg _ _ _ _ _ _ => 9
  | .vlse _ _ _ _ _ _ => 9
  | .vrope _ _ _ _ _ _ => 9
  | .vnanp _ _ => 9
  | .vrsum _ _ _ _ _ => 9
  | .vrmax _ _ _ _ _ => 9
  | .vrmin _ _ _ _ _ => 9
  | .vbcst _ _ _ _ _ => 9
  | .vmov _ _ _ _ _ => 9
  | .vexp2 _ _ _ _ _ => 9
  | .vlog2 _ _ _ _ _ => 9
  | .vrcp _ _ _ _ _ => 9
  | .vrsq _ _ _ _ _ => 9
  | .vsqrt _ _ _ _ _ => 9
  | .vsin _ _ _ _ _ => 9
  | .vcos _ _ _ _ _ => 9
  | .vtanh _ _ _ _ _ => 9
  | .vperm _ _ _ _ _ _ => 9
  | .vtrn _ _ _ _ _ => 9
  | .vshuf _ _ _ _ _ _ => 9
  | .vzip _ _ _ _ _ _ => 9
  | .vaddStream _ _ _ _ _ _ => 9
  | .vsubStream _ _ _ _ _ _ => 9
  | .vmulStream _ _ _ _ _ _ => 9
  | .vfmaStream _ _ _ _ _ _ => 9
  | .vfmsStream _ _ _ _ _ _ => 9
  | .vminStream _ _ _ _ _ _ => 9
  | .vmaxStream _ _ _ _ _ _ => 9
  | .vabsStream _ _ _ _ _ => 9
  | .vnegStream _ _ _ _ _ => 9
  | .vcmpStream _ _ _ _ _ _ _ => 9
  | .vselStream _ _ _ _ _ _ => 9
  | .viaddStream _ _ _ _ _ _ => 9
  | .visubStream _ _ _ _ _ _ => 9
  | .vimulStream _ _ _ _ _ _ => 9
  | .vimacStream _ _ _ _ _ _ => 9
  | .vsatStream _ _ _ _ _ => 9
  | .vshlStream _ _ _ _ _ _ => 9
  | .vshrStream _ _ _ _ _ _ => 9
  | .vsarStream _ _ _ _ _ _ => 9
  | .vandStream _ _ _ _ _ _ => 9
  | .vorStream _ _ _ _ _ _ => 9
  | .vxorStream _ _ _ _ _ _ => 9
  | .vnotStream _ _ _ _ _ => 9
  | .vcvtStream _ _ _ _ _ _ _ => 9
  | .vqntStream _ _ _ _ _ _ => 9
  | .vdqntStream _ _ _ _ _ => 9
  | .vimgStream _ _ _ _ _ _ => 9
  | .vlseStream _ _ _ _ _ _ => 9
  | .vropeStream _ _ _ _ _ _ => 9
  | .vrsumStream _ _ _ _ _ => 9
  | .vrmaxStream _ _ _ _ _ => 9
  | .vrminStream _ _ _ _ _ => 9
  | .vmovStream _ _ _ _ _ => 9
  | .vexp2Stream _ _ _ _ _ => 9
  | .vlog2Stream _ _ _ _ _ => 9
  | .vrcpStream _ _ _ _ _ => 9
  | .vrsqStream _ _ _ _ _ => 9
  | .vsqrtStream _ _ _ _ _ => 9
  | .vsinStream _ _ _ _ _ => 9
  | .vcosStream _ _ _ _ _ => 9
  | .vtanhStream _ _ _ _ _ => 9
  | .vpermStream _ _ _ _ _ _ => 9
  | .vtrnStream _ _ _ _ _ => 9
  | .vshufStream _ _ _ _ _ _ => 9
  | .vzipStream _ _ _ _ _ _ => 9
  | .mcfg _ => 10
  | .mldw => 10
  | .mswap => 10
  | .mpush _ _ _ _ => 10
  | .macw _ _ _ _ => 10
  | .mshiftZero _ => 10
  | .mshiftBack _ => 10
  | .mshiftFwd _ => 10
  | .mdrain _ _ _ => 10
  | .mzero _ _ _ => 10
  | .sqset _ _ => 11
  | .sqgo _ => 11
  | .sqbind _ _ => 11
  | .accpy _ _ => 11
  | .halloc _ _ => 11
  | .hfree _ => 11
  | .hopen _ => 11
  | .hpub _ _ => 11
  | .hrel _ _ => 11
  | .hset _ _ => 11
  | .binit _ _ => 11
  | .binitRel _ => 11
  | .barr _ => 11
  | .drn => 11
  | .fork _ _ => 11
  | .join _ _ => 11
  | .enq _ _ => 11
  | .nibset _ => 11
  | .nibsetSt _ => 11
  | .cbld _ _ => 11
  | .trdef _ _ => 11
  | .trenc _ _ => 11
  | .twupd _ _ => 11
  | .xld _ _ => 11
  | .xinv _ _ => 11
  | .kvg _ _ => 11
  | .splc _ _ => 11
  | .rprset _ => 11
  | .rpr _ _ => 11
  | .rprRep _ _ => 11
  | .pxlk _ _ => 11
  | .pxin _ _ => 11
  | .pxinRm _ _ => 11
  | .wnsel _ _ => 11
  | .fsend _ _ => 11
  | .frecvHandle _ _ => 11
  | .frecvStream _ _ => 11
  | .sysc _ => 11
  | .eret => 11
  | .tlbi _ => 11
  | .wfe => 11
  | .sahethLinkPortTraining _ _ => 12
  | .pageWalkComplete _ _ => 12

/-- The slots that take an operation, by header bit: S0 and S1, LIW only S0 (R326); L0 and L1; V0 to V3, the codes 0x40 to 0x4B only V3
(R330). -/
def slotTakes (k : Nat) (i : Instr) : Bool :=
  match homeSlot i with
  | 1 => decide (k = 1) || (decide (k = 2) && decide ((encode i).length = 1))
  | 4 => decide (k = 4) || decide (k = 5)
  | 9 => decide (k = 9) || (decide (6 ≤ k ∧ k ≤ 8) && !decide (0x40 ≤ (encode i).headD 0 % 128 ∧ (encode i).headD 0 % 128 ≤ 0x4B))
  | 12 => false
  | n => decide (k = n)

/-- Decode what encode wrote. -/
noncomputable def decodeWords (slot : Nat) : List Nat → Option Instr
  | [w] => decodeSlot slot w 0
  | [w, hi] => decodeSlot slot w hi
  | _ => none

/-- The instruction the decoder reads from a slot field of nbits bits, in whole bytes: 32 bits are a scalar field or, where no scalar
operation has the word, a load and store field; 24 bits a CT, AG, MX or EN field, 40 bits a vector field (log entry 10). -/
noncomputable def decodeTableWord (nbits w : Nat) : Option Instr :=
  if nbits ≤ 24 then
    match decodeSlot 0 w 0 with
    | some i => some i
    | none =>
      match decodeSlot 3 w 0 with
      | some i => some i
      | none =>
        match decodeSlot 10 w 0 with
        | some i => some i
        | none => decodeSlot 11 w 0
  else if nbits ≤ 32 then
    match decodeSlot 1 w 0 with
    | some i => some i
    | none => decodeSlot 4 w 0
  else decodeSlot 9 w 0

end Sys2Proof
end

