-- ==== Sys2Proof/Machine/Map.lean ====
section
/-! DEFINITION. Sparse maps: a collection indexed by a number, held as the list of the entries that differ from what an unlisted
index reads as, keys strictly rising. Memories, register files and the arrays of units are kept so. -/

namespace Sys2Proof.Machine

/-- Entries by rising key; an unlisted key reads as the default given to mget. -/
abbrev SMap (β : Type) := List (Nat × β)

/-- What key i reads as. -/
def mget {β : Type} (d : β) : SMap β → Nat → β
  | [], _ => d
  | (k, v) :: t, i => if i = k then v else mget d t i

/-- Entry n of a map whose entries may be absent. -/
def mfind {β : Type} (m : SMap β) (n : Nat) : Option β := (m.find? (fun e => decide (e.1 = n))).map Prod.snd

/-- Remove key i. -/
def merase {β : Type} : SMap β → Nat → SMap β
  | [], _ => []
  | (k, v) :: t, i => if i = k then merase t i else (k, v) :: merase t i

/-- Put an entry at its place in the order. -/
def minsert {β : Type} : SMap β → Nat → β → SMap β
  | [], i, x => [(i, x)]
  | (k, v) :: t, i, x => if i < k then (i, x) :: (k, v) :: t else (k, v) :: minsert t i x

/-- Write key i, listing the entry whatever the value. -/
def mput {β : Type} (m : SMap β) (i : Nat) (x : β) : SMap β := minsert (merase m i) i x

/-- Write key i in canonical form: the default value is never listed. -/
def mset {β : Type} [DecidableEq β] (d : β) (m : SMap β) (i : Nat) (x : β) : SMap β :=
  if x = d then merase m i else mput m i x

/-- Keys strictly rise from lo. -/
def mrising {β : Type} : Nat → SMap β → Bool
  | _, [] => true
  | lo, (k, _) :: t => decide (lo ≤ k) && mrising (k + 1) t

/-- The canonical form: strictly rising keys and no entry equal to the default. -/
def mwf {β : Type} [DecidableEq β] (d : β) (m : SMap β) : Bool :=
  mrising 0 m && m.all (fun e => decide (e.2 ≠ d))

/-- The entries with lo ≤ key < hi removed. -/
def mclear {β : Type} (m : SMap β) (lo hi : Nat) : SMap β :=
  m.filter (fun e => decide (e.1 < lo) || decide (hi ≤ e.1))

/-- Every key moved up by n. -/
def mshift {β : Type} (m : SMap β) (n : Nat) : SMap β := m.map (fun e => (e.1 + n, e.2))

/-- The region [base, base + size) replaced by the entries of src below size, moved up by base, in canonical form. -/
def mregion {β : Type} [DecidableEq β] (d : β) (m : SMap β) (base size : Nat) (src : SMap β) : SMap β :=
  (src.filter (fun e => decide (e.1 < size))).foldl (fun m e => mset d m (base + e.1) e.2) (mclear m base (base + size))

/-- The entries of the region [base, base + size), moved down to 0. -/
def mslice {β : Type} (m : SMap β) (base size : Nat) : SMap β :=
  (m.filter (fun e => decide (base ≤ e.1) && decide (e.1 < base + size))).map (fun e => (e.1 - base, e.2))

/-- n values from key i up. -/
def mread {β : Type} (d : β) (m : SMap β) (i : Nat) : Nat → List β
  | 0 => []
  | n + 1 => mget d m i :: mread d m (i + 1) n

/-- Write values from key i up, canonically. -/
def mwrite {β : Type} [DecidableEq β] (d : β) (m : SMap β) (i : Nat) : List β → SMap β
  | [] => m
  | x :: xs => mwrite d (mset d m i x) (i + 1) xs

/-- The canonical form of a memory: rising addresses, and no byte listed that reads as an unlisted one does, which is zero (log entry 2). -/
def Memory.wf (m : SMap Byte) : Bool := mwf 0 m

end Sys2Proof.Machine
end

