-- ==== Sys2Proof/Machine/State.lean ====
section
/-! DEFINITION. The state of one PRX-FZ1 as plain data: the device level, memory, tiles with their two contexts, clusters, dies,
control cores, links and ports, and the schedule that says which step happens next. -/

namespace Sys2Proof.Machine

/-! ## Threads: what a tile context and a control core have in common -/

/-- The register a pending result lands in (R120, R336). -/
inductive Dest where
  /-- g register -/
  | g (n : Nat)
  /-- address register -/
  | a (n : Nat)
  /-- address mode register -/
  | am (n : Nat)
  /-- predicate -/
  | p (n : Nat)
  /-- vector register -/
  | v (n : Nat)
  /-- loop counter -/
  | lc (n : Nat)
  /-- special register by number (R110, R269) -/
  | sr (n : Nat)
deriving DecidableEq, Repr

/-- A fixed-latency result that has not landed (R118, R120). mask: the bits it writes; flags: the sticky flags it raises, bit i being
FPCSR bit 8 + i (R111). -/
structure Pend where
  dest  : Dest
  value : VReg
  mask  : VReg
  due   : Nat
  flags : BitVec 6
deriving DecidableEq, Repr

/-- An active hardware loop level (R342). -/
structure LoopLevel where
  start : Nat
  stop  : Nat
deriving DecidableEq, Repr

/-- A pending branch: the delay slots still to run, and the target if it is taken (R123, R124). -/
structure Branch where
  target : Nat
  taken  : Bool
  left   : Nat
deriving DecidableEq, Repr

/-- What an access wants of a page. update: an atomic, which reads and writes (R370). -/
inductive Acc where
  | read | write | update | fetch
deriving DecidableEq, Repr

/-- Why a thread is held before its next bundle (R117, R371, R390). twin: it waits at the comparator, which sees the EQ of its command and the
bundle's scope, slots and operands (R279); agreed: its twin has come to the same commit point with the same
operands, and it may issue (R279). -/
inductive Hold where
  | none
  | fetch
  | stream (q : Nat)
  | full (q : Nat)
  | handle (h : Nat)
  | waith
  | waitb
  | drn
  | matrixQueue
  | nibStatus
  | walk (va : Nat) (a : Acc)
  | enq (va : W64) (queue : Nat)
  | wfe
  | twin (eq : Nat) (seen : List Nat)
  | agreed
  | tlbi
deriving DecidableEq, Repr

/-- The registers and issue state of a thread (R109). pc counts code units; on a control core it is the virtual address halved. -/
structure Thread where
  g         : SMap W64
  a         : SMap W64
  am        : SMap W64
  v         : SMap VReg
  p         : SMap PReg
  lc0       : BitVec 32
  lc1       : BitVec 32
  fpcsr     : W64
  check     : Bool
  fmask     : W64
  ccycle    : Nat
  pend      : List Pend
  loop0     : Option LoopLevel
  loop1     : Option LoopLevel
  pc        : Nat
  branch    : Option Branch
  stallLeft : Nat
  hold      : Hold
  units     : SMap (BitVec 16)
  walkFault : Option (Nat × Cause)
deriving DecidableEq, Repr

/-! ## Tasks and kernels -/

/-- A task record (R94). zeroOk: its zero fields are zero. -/
structure TaskRec where
  gid    : Nat
  node   : Nat
  entry  : BitVec 32
  x      : BitVec 16
  y      : BitVec 16
  z      : BitVec 16
  arg0   : W64
  arg1   : W64
  arg2   : W64
  arg3   : W64
  zeroOk : Bool
deriving DecidableEq, Repr

/-- A kernel descriptor as read (R87). -/
structure KDesc where
  va      : W64
  code    : W64
  codelen : Nat
  entry   : Nat
  dict    : W64
  dictn   : Nat
deriving DecidableEq, Repr

/-- The task a context runs (R86, R88). seq: the cycle in which its context was bound (R90, R103); entry: the start of a task made from a record, whose zero fields are zero when zeroOk; none starts
at the kernel's ENTRY. -/
structure Task where
  tenant    : Nat
  gid       : Nat
  node      : Nat
  x         : BitVec 16
  y         : BitVec 16
  z         : BitVec 16
  bprio     : BitVec 3
  seq       : Nat
  array     : Bool
  redundant : Bool
  twin      : Option (Nat × Nat)
  entry     : Option Nat
  zeroOk    : Bool
  loaded    : Bool
  kernel    : KDesc
deriving DecidableEq, Repr

/-- A resident dictionary (R133). -/
structure DictRes where
  va      : W64
  base    : Nat
  entries : List (BitVec 384)
deriving DecidableEq, Repr

/-- A stop record (R267). -/
structure StopRec where
  area     : BitVec 46
  faddr    : W64
  pc       : BitVec 32
  slotmask : BitVec 12
  grade    : BitVec 2
  dslot    : BitVec 2
  engine   : Bool
  eq       : BitVec 3
  stopped  : Bool
  cause    : Cause
deriving DecidableEq, Repr

/-! ## Streams, remote accesses, engine commands -/

/-- A stream element (R136): width in bits, value, the accumulator marks that travel with a drained row (R170: bit 0 NV, 1 OF, 2 SAT),
and the poison mark of a failed LDX (R364). -/
structure Elem where
  width  : Nat
  val    : VReg
  marks  : BitVec 3
  poison : Option (Cause × W64)
deriving DecidableEq, Repr

/-- A stream register (R134). kind: 0 unbound, 1 copies, 2 LDX returns, 3 fabric receives (R453). -/
structure Stream where
  kind    : BitVec 2
  elems   : List Elem
  backlog : List Elem
deriving DecidableEq, Repr

/-- The operation of an atomic (R370). -/
inductive AtmOp where
  | add | and | or | xor | swp | cas | min | max | fmaxF32 | fmaxBf16 | fmaxF16 | dec
deriving DecidableEq, Repr

/-- What a remote access does at its home (R468). -/
inductive RKind where
  | ldx (q : Nat)
  | stx
  | atm (op : AtmOp) (reg : Nat)
  | arrival
  | cont
  | joinDec
  | report
deriving DecidableEq, Repr

/-- A remote access issued and not yet retired (R468). lanes: the byte lanes it reads or writes. sent: its message has left for another
package; done: it has performed at its home; twinOf: the twin's access that stands for it (R279); ended: its task has ended (R346). -/
structure Remote where
  id     : Nat
  kind   : RKind
  addr   : W64
  pa     : Nat
  size   : Nat
  data   : VReg
  data2  : W64
  lanes  : PReg
  tscope : Nat
  due    : Nat
  tenant : Nat
  gid    : Nat
  node   : Nat
  sent   : Bool
  done   : Bool
  twinOf : Option Nat
  ended  : Bool
  result : Elem
deriving DecidableEq, Repr

/-- A command of the handle queue (R378). inst names the handle instance a command was issued for; seq its place in the tile's issue order
(R420). joinCont holds the 64 bytes of its record as they were read (R97). -/
inductive HCmd where
  | hopen (inst seq : Nat)
  | hpub (inst n seq : Nat)
  | hrel (inst n seq : Nat)
  | binit (addr : Nat) (v : W64)
  | binitRel (addr : Nat)
  | barr (addr : W64) (tscope id : Nat)
  | fork (r : TaskRec)
  | joinCont (addr : W64) (tscope : Nat) (pa : Nat) (r : BitVec 512)
  | joinDec (addr : W64) (tscope : Nat) (pa : Nat)
deriving DecidableEq, Repr

/-- A command of the copy queue (R447, R450, R454). clear: a task has started, and its staging file reads zero (R445). The SQGO that has been admitted waits at the head with its slot. run: the words of 16 bytes that an accepted ACCPY has moved (R470). -/
inductive CCmd where
  | clear
  | sqset (reg : Nat) (v : W64)
  | sqgo (slot scope id gid node src dst : Nat)
  | admitted (slot : Nat)
  | accpy (bank : Nat) (cmd : W64) (inst id gid node : Nat) (run : Option Nat)
deriving DecidableEq, Repr

/-- A command of the key-value queue (R219). An XINV that has made its step keeps its number in step; len is CODELEN of the task that issued an RPR (R227); clear: a task has
started, and its repair registers read zero (R88, R226); rep: a report with its job tag, which leaves the queue as a remote access (R333, R457). -/
inductive KCmd where
  | clear
  | rep (tag word : W64) (id gid node : Nat)
  | xld (desc : W64) (bw id : Nat)
  | xinv (desc : W64) (bw scope id : Nat) (step : Option Nat)
  | kvg (block : BitVec 256) (inst id gid node : Nat)
  | splc (inst bw id : Nat)
  | rprset (entry : BitVec 32) (lc : BitVec 6) (thr : BitVec 32)
  | rpr (inst bw id gid node len : Nat)
  | pfx (op : Nat) (block : BitVec 512) (va : W64) (bw id : Nat)
deriving DecidableEq, Repr

/-- What a splice is to do: its record, both sequences, the insertion position, the destination entries it uses, the new extents, the frequencies
(R221-R224). -/
structure Splice where
  record : BitVec 512
  seq   : BitVec 512
  exts  : List (BitVec 128)
  doc   : BitVec 512
  docEx : List (BitVec 128)
  pos   : Nat
  dest  : List Nat
  new   : List (BitVec 128)
  theta : List Nat
deriving DecidableEq, Repr

/-- Bytes that an engine writes at a virtual address in one piece. -/
abbrev Piece := Nat × List Byte

/-- How far an accepted command of the key-value queue has come: accepted; with its job's place at the Retouch; a splice with the part it reads next, the
elements clamped and the pieces still to write; the pieces still to write, then the result, then the end with its cause (R470). -/
inductive KRun where
  | taken
  | place (p : Nat)
  | splice (p : Splice) (u sat : Nat) (l : List Piece)
  | puts (l : List Piece) (res : Option Piece) (err : Option Cause)
deriving DecidableEq, Repr

/-- A command of the fabric queue (R460). -/
inductive FCmd where
  | fsend (block : BitVec 256) (inst tscope id : Nat)
  | frecvHandle (block : BitVec 256) (va : W64) (inst id : Nat)
  | frecvStream (block : BitVec 256) (va : W64) (q id : Nat)
deriving DecidableEq, Repr

/-- A matrix command (R417). -/
inductive MOp where
  | mcfg (imm : BitVec 16)
  | mldw
  | mswap
  | run (swap acc : Bool) (bank row inst h : Nat)
  | mshift (mode inst h : Nat)
  | mdrain (bank row n : Nat)
  | mzero (bank row n : Nat)
  | nibset (cfg : BitVec 128)
  | cbld (cmd : W64) (inst src : Nat)
  | trdef (slot inst : Nat)
deriving DecidableEq, Repr

/-- A queued matrix command with the context that issued it and its place in the tile's issue order. -/
structure MCmd where
  op  : MOp
  ctx : Nat
  seq : Nat
deriving DecidableEq, Repr

/-- Rows of a ring held by an accepted engine command (R141): rows not yet counted, those of them done, and whether it has ended. -/
structure Resv where
  id    : Nat
  rows  : Nat
  done  : Nat
  ended : Bool
deriving DecidableEq, Repr

/-- A handle-table entry with the engine's own bookkeeping (R138). kind 0 unallocated, 1 BLOCK, 2 RING; state 0 FREE, 1 FILLING,
2 FULL, 3 DRAINING. cmds: engine commands issued and not completed that name it; wq: engine writers issued and not accepted, oldest first. -/
structure HEntry where
  inst    : Nat
  kind    : BitVec 2
  base    : Nat
  size    : Nat
  rows    : Nat
  state   : BitVec 2
  b       : Bool
  sel     : Bool
  pcount  : BitVec 32
  ccount  : BitVec 32
  writers : List Nat
  readers : List Nat
  ctxW    : List Nat
  wres    : List Resv
  rres    : List Resv
  cmds    : List Nat
  wq      : List Nat
deriving DecidableEq, Repr

/-- How far a copy has come (R252): the element and, for a decode, the compressed byte at which it restarts, the destination bytes before
that element and those complete, in emission order, its counts, the first element clamped or marked NV, the lowest error, and whether
decoding has stopped short. -/
structure CProg where
  pos   : Nat
  cpos  : Nat
  base  : Nat
  skip  : Nat
  sat   : Nat
  nv    : Nat
  first : Option Nat
  err   : Option (Nat × Cause)
  dend  : Bool
deriving DecidableEq, Repr

/-- A copy command in its slot (R450, R252). st: 0 admitted, 1 running, 2 parked, 3 with every byte sent and messages to another package
outstanding. prog: the unit it has come to; rows: destination rows already counted; fail: why a message failed there; wrote: bytes have been written there; asked, got: the reads
of another package, asked for and returned (a value, and a cause or 0); word: values of the source word in hand, by number of their read (R466); olds: what
device bytes that overlap the source held before it wrote them, by physical address, and pick: which of old and new value its reads take (R252); acc: its place in acceptance order; out: bytes emitted by whole units; sent:
bytes delivered; buf: bytes in hand between the two; mark: where it restarts once it has parked; hist: the units begun since then, the latest first;
srows: source rows already counted; held: bytes by physical address for poisoned lines that it will write whole (R507). -/
structure CopyCmd where
  regs     : SMap W64
  ctx      : Nat
  tenant   : Nat
  gid      : Nat
  node     : Nat
  scope    : Nat
  tscope   : Nat
  st       : Nat
  prog     : CProg
  mark     : CProg
  hist     : List CProg
  out      : Nat
  sent     : Nat
  buf      : List Byte
  held     : List (Nat × Byte)
  rows     : Nat
  srows    : Nat
  fail     : Option Cause
  wrote    : Bool
  asked    : Bool
  got      : SMap (Nat × Cause)
  word     : SMap Nat
  olds     : SMap Byte
  pick     : Nat
  srcInst  : Nat
  dstInst  : Nat
  seq      : Nat
  acc      : Nat
deriving DecidableEq, Repr

/-- The command in the Nib pipe (R417): an MLDW with its next K-row, the weight cursor at its start, the lowest table block not consumed
(R190), the handle instances it reads and whether it has taken them; or a CBLD or TRDEF, with the pieces of the table row that
the CBLD still has to write. -/
structure NibRun where
  cmd     : MCmd
  k       : Nat
  wpos    : Nat
  mb      : Nat
  smooth  : Option Nat
  table   : Option Nat
  taken   : Bool
  out     : List Piece
deriving DecidableEq, Repr

/-- A running beat-pipe command (R427, R430): the command, its next row and whether its handle has been taken. -/
structure BeatRun where
  cmd   : MCmd
  r     : Nat
  taken : Bool
deriving DecidableEq, Repr

/-- A weight plane (R273): PE (k, j) at key 32k + j, its elements in 32 bits, and the block scale of the PE. -/
structure Plane where
  valid  : Bool
  amode  : BitVec 3
  wf8    : Bool
  elems  : SMap (BitVec 32)
  scales : SMap Byte
deriving DecidableEq, Repr

/-- A trellis definition (R192): the record and the table widened to FP32. -/
structure TrDef where
  record : W64
  table  : List (BitVec 32)
deriving DecidableEq, Repr

/-- A key-value translation entry (R150, R215): descriptor bytes, extents as 128-bit words, the gathers that hold it, its last use, and the
XINV whose step retired it (R220). -/
structure TEntry where
  tag      : W64
  tenant   : Nat
  retiring : Bool
  desc     : BitVec 512
  extents  : List (BitVec 128)
  holders  : List Nat
  stamp    : Nat
  waiter   : Option Nat
deriving DecidableEq, Repr

/-- A gather in flight (R216-R218). next: the block reached, as an offset of positions from P0. -/
structure Gather where
  id     : Nat
  ctx    : Nat
  tenant : Nat
  block  : BitVec 256
  inst   : Nat
  desc   : BitVec 512
  exts   : List (BitVec 128)
  next   : Nat
  held   : Bool
  fail   : Option Cause
  done   : Bool
  gid    : Nat
  node   : Nat
deriving DecidableEq, Repr

/-- A send request that has arrived unmatched (R462). peer 0: the sender is in this package. ctx: the sending context. -/
structure SendReq where
  tile   : Nat
  peer   : Nat
  ctx    : Nat
  sendId : Nat
  len    : Nat
  tag    : BitVec 16
  tenant : Nat
deriving DecidableEq, Repr

/-- A posted receive (R461). stream: its stream when it is bound for one; met: the request it has matched; got: bytes that have come; fed: bytes
that have gone to the stream; buf: the bytes that have come. -/
structure Recv where
  id     : Nat
  ctx    : Nat
  block  : BitVec 256
  va     : W64
  inst   : Nat
  stream : Option Nat
  tenant : Nat
  met    : Option SendReq
  got    : Nat
  fed    : Nat
  buf    : SMap Byte
deriving DecidableEq, Repr

/-- A send accepted and not completed (R461). -/
structure SendRun where
  id      : Nat
  ctx     : Nat
  block   : BitVec 256
  inst    : Nat
  tenant  : Nat
  scope   : Nat
  written : Bool
deriving DecidableEq, Repr

/-- How a command ended that counts for two (R279): its error, and what a receive has met and taken in. -/
structure Over where
  err  : Option Cause
  req  : Option SendReq
  data : List Byte
deriving DecidableEq, Repr

/-- A command of a redundant pair's second copy that the first copy performs for both (R279). ctx: the context of the second copy; lead: the number of
the command that proceeds; id: that of this one, once it has issued; how: how the other has ended. -/
structure Follow where
  ctx  : Nat
  lead : Nat
  id   : Option Nat
  how  : Option Over
deriving DecidableEq, Repr

/-- A first-level or second-level TLB entry (R149): log2 of the page size, page base, physical base, permission bits X, W, RD, K. -/
structure TlbE where
  tenant : Nat
  lg     : Nat
  va     : Nat
  pa     : Nat
  x      : Bool
  w      : Bool
  rd     : Bool
  k      : Bool
deriving DecidableEq, Repr

/-- A Brush job (R200-R209). started: its first unit has been accepted, and then defn is its copy of the definition; words: the words of the blocks it has
written, by physical address, which nobody sees before its barrier word changes phase (R204). -/
structure BJob where
  twupd   : Bool
  inst    : Nat
  bw      : Nat
  ctx     : Nat
  tenant  : Nat
  gid     : Nat
  node    : Nat
  seq     : Nat
  started : Bool
  record  : BitVec 512
  defn    : TrDef
  bdone   : Nat
  words   : List (Nat × List Byte)
  cost    : BitVec 32
  sat     : Bool
  fail    : Option Cause
deriving DecidableEq, Repr

/-- A Winnow job (R254-R258). -/
structure WJob where
  id      : Nat
  inst    : Nat
  bw      : Nat
  ctx     : Nat
  tenant  : Nat
  gid     : Nat
  node    : Nat
  started : Bool
  record  : BitVec 512
  srcInst : Nat
  mskInst : Nat
  pass    : Nat
  pref    : Nat
  rem     : Nat
  plane   : Nat
  total   : Nat
  nancnt  : Nat
  fchunk  : Nat
  parked  : Bool
  fail    : Option Cause
deriving DecidableEq, Repr

/-! ## Contexts, tiles, clusters, dies -/

/-- A context of a tile (R109). asked: the cycle in which its steal request left (R102); disp: a CTXDISP written while its tile was being cut, which is
applied after the restore (R275); kruns: how far the accepted commands of the key-value queue have come, by number (R470). -/
structure Ctx where
  x        : Thread
  task     : Option Task
  spill    : SMap Byte
  q        : SMap Stream
  nanRow   : BitVec 32
  deque    : List TaskRec
  lfsr     : BitVec 16
  draws    : Nat
  stealing : Option Nat
  asked    : Nat
  disp     : Option W64
  ending   : Bool
  stop     : StopRec
  fail     : Option (Cause × W64)
  remote   : List Remote
  hq       : List HCmd
  cq       : List CCmd
  kq       : List KCmd
  kruns    : SMap KRun
  fq       : List FCmd
  staging  : SMap W64
  repEntry : BitVec 32
  repLc    : BitVec 6
  devThr   : BitVec 32
deriving DecidableEq, Repr

/-- A tile (R114). pad is addressed physically: row, bank, byte (R126, R129); tags holds the physical word numbers of tagged words. killing: the tile
is being cut because its tenant was killed (R85, R106); nanAt, nanSet: the cycle of the last hardware write of NANSTAT and the bits written in it
(R173). exhausts: 1 when the tile's next cycle is the one whose replay exhausts it, 2 in that cycle (R277).
leads: commands that count for two, with the tile of the other copy; follows: the other copies of such commands (R279). -/
structure Tile where
  c0        : Ctx
  c1        : Ctx
  tenant    : Option Nat
  bindCycle : Nat
  skip      : Nat
  reserved  : Option (Nat × Nat)
  cutting   : Bool
  killing   : Bool
  pad       : SMap Byte
  tags      : List Nat
  swz       : SMap (BitVec 3)
  ink       : SMap Byte
  acc       : SMap (BitVec 32)
  rowst     : SMap (BitVec 4)
  front     : Plane
  back      : Plane
  mxcfg     : BitVec 16
  acur      : SMap (BitVec 16)
  drains    : Nat
  nanstat   : W64
  nanAt     : Nat
  nanSet    : W64
  mq        : List MCmd
  nib       : Option NibRun
  beat      : Option BeatRun
  nibcfg    : BitVec 128
  nibFresh  : Bool
  nibst     : W64
  trdefs    : SMap TrDef
  handles   : SMap HEntry
  freeing   : List HEntry
  nextId    : Nat
  copies    : SMap CopyCmd
  dicts     : List DictRes
  tlb       : List TlbE
  tcache    : List TEntry
  gathers   : List Gather
  brush     : List BJob
  winq      : List WJob
  posted    : List Recv
  requests  : List SendReq
  sends     : List SendRun
  replays   : Nat
  exhausts  : Nat
  leads     : SMap Nat
  follows   : List Follow
  lostFor   : List Nat
deriving DecidableEq, Repr

/-- A cluster (R8, R149, R200, R282). -/
structure Cluster where
  tlb      : List TlbE
  brushCur : Option (Nat × BJob)
  brushRR  : Nat
  cseq     : W64
  tseen    : W64
  testing  : Bool
deriving DecidableEq, Repr

/-- The state of a repair job (R229). -/
inductive RState where
  | check (l : Nat)
  | writeback
  | recomp (l : Nat)
  | done
deriving DecidableEq, Repr

/-- A repair job in its place (R226-R234). made: the records of this layer as (X, Y, Z), counted those of them reported; pend: records made
that the distributor has no room for yet; marks: candidate indices marked; came: the place in arrival order of its arrival, which waits for a saved tile
(R234, R274), or 0. -/
structure RJob where
  tile     : Nat
  tenant   : Nat
  gid      : Nat
  node     : Nat
  record   : BitVec 512
  entry    : BitVec 32
  lc       : Nat
  thr      : BitVec 32
  st       : RState
  tag      : Nat
  desc     : BitVec 512
  exts     : List (BitVec 128)
  made     : List (Nat × Nat × Nat)
  counted  : List (Nat × Nat × Nat)
  pend     : List TaskRec
  marks    : List Nat
  reports  : Nat
  came     : Nat
deriving DecidableEq, Repr

/-- A page walk in progress (R149): tenant, page address, and the threads that wait for it, with what each wants of the page. -/
structure Walk where
  tenant  : Nat
  va      : Nat
  waiting : List (UnitId × Acc)
deriving DecidableEq, Repr

/-- A compute die: its distributor, Retouch, Winnow and page-walk units (R8). credit and lastq by 64·level + tenant (R82). -/
structure Die where
  credit   : SMap Int
  lastq    : SMap Nat
  retouch  : SMap RJob
  places   : SMap Nat
  winCur   : Option (Nat × WJob)
  winRR    : Nat
  walks    : List Walk
deriving DecidableEq, Repr

/-! ## Control cores -/

/-- A control core (R45, R269). falls: the delay slots that DSLOT records fall through, since the branch that they follow was not taken (R339); irq: pending interrupt causes, oldest first; enq: the graph submission that holds it, and whether the
distributor has answered it. -/
structure Core where
  x       : Thread
  running : Bool
  kernel  : Bool
  ie      : Bool
  tvec    : W64
  tepc    : W64
  tcause  : W64
  tfaddr  : W64
  dslot   : BitVec 2
  pie     : Bool
  pmode   : Bool
  ccmp    : W64
  tbtgt   : W64
  falls   : Bool
  ccten   : BitVec 7
  irq     : List Cause
  compared : Bool
  tlb     : List TlbE
  enq     : Option (W64 × Nat)
  enqDone : Bool
deriving DecidableEq, Repr

/-! ## Graphs -/

/-- State of a node (R57). -/
inductive NState where
  | waiting | ready | running | done | failed | skipped
deriving DecidableEq, Repr

/-- A node of an accepted graph: the distributor's private copy (R80) and its progress. pa: physical addresses of its 16 chunks are
contiguous within a page; npa is where its bytes start. readyAt: the cycle in which it became ready (R81). -/
structure GNode where
  npa     : Nat
  prio    : BitVec 3
  irq     : Bool
  array   : Bool
  redund  : Bool
  extx    : Nat
  exty    : Nat
  extz    : Nat
  kernel  : W64
  args    : List W64
  succ    : List Nat
  st      : NState
  cause   : Cause
  next    : Nat
  live    : Nat
  ended   : Nat
  readyAt : Nat
  resume  : List Nat
  conts   : List TaskRec
deriving DecidableEq, Repr

/-- An accepted graph that has not completed (R58). -/
structure Graph where
  gid    : Nat
  tenant : Nat
  queue  : Nat
  gpa    : Nat
  user   : W64
  nodes  : List GNode
  fails  : List Nat
  killed : Bool
deriving DecidableEq, Repr

/-- A saved tile frame (R272): the tile as it was cut, its frame number and whether the cut belongs to an in-field test. -/
structure Frame where
  fid    : Nat
  tileNo : Nat
  gid    : Nat
  node   : Nat
  tile   : Tile
deriving DecidableEq, Repr

/-! ## Tenants and the device -/

/-- The hardware's copy of a tenant's entry (R52) with its ring counters (R64). tileset: bit t for tile t; signal: a record has been written whose
interrupt waits for the producer index of page 13 (R64). -/
structure Tenant where
  valid   : Bool
  share   : Nat
  qenable : BitVec 16
  qcap    : BitVec 48
  tileset : BitVec 2304
  ptroot  : Nat
  evbase  : W64
  evsize  : Nat
  irqcore : Nat
  evprod  : BitVec 32
  evlost  : BitVec 32
  signal  : Bool
deriving DecidableEq, Repr

/-- A memory window as a port holds it (R53). -/
structure Window where
  valid  : Bool
  perm   : BitVec 2
  tenant : Nat
  rkey   : BitVec 32
  vbase  : W64
  length : W64
deriving DecidableEq, Repr

/-- An Ethernet port (R24): its windows and its counters. -/
structure EthPort where
  windows  : SMap Window
  discards : Nat
  refusals : Nat
deriving DecidableEq, Repr

/-- A fabric message (R35). The spec fixes KIND, TENANT and VC and the BODY of a retraction notice, and leaves the other message bytes open, so the
content is held as fields: the address it is bound for, the sender, a tag, an operand, its bytes, and the H of a candidate block that goes in full
(R39, R40). -/
structure FabMsg where
  tenant : Nat
  dst    : W64
  src    : W64
  tag    : W64
  arg    : W64
  data   : List Byte
  cand   : Option (BitVec 128)
deriving DecidableEq, Repr

/-- One end of a link (R29, R36): the SEQ expected next, the SEQ sent next, the retry buffer, the NAKs in a row for one SEQ, the flits it has sent that
have not come to the other end, oldest first, how many it has sent again, the BODY bytes taken in of a message that is not whole, and how many messages have been taken whole. -/
structure LinkEnd where
  rxSeq  : BitVec 12
  txSeq  : BitVec 12
  retry  : List (BitVec 12 × BitVec 512)
  nakSeq : BitVec 12
  naks   : Nat
  wire   : List (BitVec 512)
  resent : Nat
  body   : List Byte
  moved  : Nat
deriving DecidableEq, Repr

/-- A memory link (R27-R33). size: 0, 1, 2 for a module of 64, 128, 256 GiB; none: no accepted module. -/
structure MemLink where
  module   : Option Nat
  trained  : Bool
  failed   : Bool
  retrain  : Bool
  host     : LinkEnd
  chip     : LinkEnd
  counted  : Nat
deriving DecidableEq, Repr

/-- An export entry (R283). -/
structure Export where
  lo    : W64
  hi    : W64
  tmask : W64
deriving DecidableEq, Repr

/-- A Saheth Link port (R34-R42). peer: bits as in R71; refs: references sent and received under the key; sent: (tenant, H) most recent first; store: the
tags of the block store (tenant, H) with their places in the region at DDBASE, most recent first; blocks: the messages sent as references and not yet
served (R40); dropped: flits of a reserved KIND; refused: references that missed here; out: the messages sent whose flits have not all been acknowledged, oldest first, those behind the retry buffer's 512 flits waiting. -/
structure Port where
  up      : Bool
  failed  : Bool
  peer    : W64
  link    : LinkEnd
  refuses : Nat
  key     : BitVec 256
  keyNo   : Nat
  refs    : Nat
  sent    : List (Nat × BitVec 128)
  store   : List (Nat × BitVec 128 × Nat)
  blocks  : List (BitVec 4 × FabMsg)
  dropped : Nat
  refused : Nat
  exports : SMap Export
  out     : List (BitVec 4 × FabMsg)
deriving DecidableEq, Repr

/-- Device state (R20). -/
inductive DState where
  | bringup | ready | draining | drained | faulted
deriving DecidableEq, Repr

/-- Health of a unit (R69). -/
inductive Health where
  | ok | degraded | quarantined | failed
deriving DecidableEq, Repr

/-- A unit entry of Weathervane (R69). -/
structure UnitEntry where
  health : Health
  last   : Option Cause
  count  : BitVec 32
deriving DecidableEq, Repr

/-- A unit that Weathervane lists (R71). -/
inductive UnitName where
  | tile (n : Nat) | cluster (n : Nat) | link (n : Nat) | retouch (n : Nat) | winnow (n : Nat) | distributor (n : Nat)
  | pageWalk (n : Nat) | core (n : Nat) | port (n : Nat) | ethernet (n : Nat) | security
deriving DecidableEq, Repr

/-- Boot progress (R13, R17). core0: stage 2 runs on control core 0, the others not started. -/
inductive Boot where
  | rom | stage1 | trained | waitImage | core0 | kernel | stuck
deriving DecidableEq, Repr

/-- Why an image was rejected (R15), with its stage. -/
inductive Reject where
  | magic (stage : Nat) | reserved (stage : Nat) | bodyHash (stage : Nat) | signature (stage : Nat) | version (stage : Nat)
deriving DecidableEq, Repr

/-- A state command waiting for the security processor (R55). -/
inductive DevCmd where
  | start | drain | resume
deriving DecidableEq, Repr

/-- A reply sent to a manager, with its header, or to a RoCEv2 requester (R73, R25). -/
structure Reply where
  port   : Nat
  dst    : Nat
  magic  : BitVec 16
  ver    : BitVec 8
  op     : BitVec 8
  tag    : BitVec 16
  status : BitVec 16
  arg0   : BitVec 32
  arg1   : BitVec 32
  body   : List Byte
deriving DecidableEq, Repr

/-- The part's fused and boot-flash contents (R13-R18): the root key that stage 0 uses, the fused SHA-256 that it must have, the identity key, with the MAC address of each Ethernet port (R24): they survive a reset. -/
structure Fuses where
  rootKey  : BitVec 512
  rootHash : BitVec 256
  identity : BitVec 512
  serial   : BitVec 48
  mac0     : BitVec 48
  mac1     : BitVec 48
  min1     : BitVec 32
  min2     : BitVec 32
  slotA    : List Byte
  slotB    : List Byte
  stage2   : List Byte
deriving DecidableEq, Repr

/-- Boot state (R13-R19). -/
structure BootState where
  boot      : Boot
  rejects   : List Reject
  nextKey   : BitVec 512
  ver1      : BitVec 32
  ver2      : BitVec 32
  readied   : Bool
  m         : BitVec 256
  quotes    : W64
deriving DecidableEq, Repr

/-- The kernel control registers and the reliability page (R50, R287). -/
structure KRegs where
  ttbase   : W64
  ttsync   : Option (Option Nat)
  badEntry : Bool
  winbase0 : W64
  winbase1 : W64
  winDrain : Option (Nat × Nat)
  ddbase   : W64
  crbase   : W64
  devcmd   : Option DevCmd
  devres   : BitVec 2
  capRef   : Bool
  mkeyx    : BitVec 256
  mkeyy    : BitVec 256
  mkey     : Option (BitVec 512)
  mkctr    : W64
  stopbase : W64
  fpbase   : W64
  fpcount  : W64
  klbase   : W64
  klsize   : W64
  klprod   : BitVec 32
  klcons   : BitVec 32
  kllost   : BitVec 32
  testivl  : W64
  memmap   : W64
deriving DecidableEq, Repr

/-- A Weathervane page (R68): its update count (GEN is twice this between updates) and the bytes of the last update; of a page whose layout the spec does
not give, what it tells. -/
structure WvPage where
  updates : Nat
  bytes   : SMap Byte
  told    : List Nat
deriving DecidableEq, Repr

/-! ## The acting unit and the schedule -/

/-- The outcome a slot operation records for its bundle (R260): nothing yet, passed, held, the fault of its slot, or
the poison mark at the head of stream q, which faults with its recorded cause (R364). -/
inductive Verdict where
  | none
  | ok
  | held (h : Hold)
  | fault (c : Cause) (faddr : W64)
  | mark (q : Nat) (c : Cause) (addr : W64)
deriving DecidableEq, Repr

/-- The bundle being issued: who issues it, its address and length, the chain's length, its scope, the header bit of the slot in hand,
whether its checks have passed, what the slot came to, where fetch goes next if not to the bundle that follows, the streams its readers
pop when it commits, its STALL, whether its end has been reached (TRAP, SYSC, ERET and WFE reach it themselves), the slots present as a
mask, the accumulator banks its slots name (R337), the loop level that a LOOP of its own has made active (R342, R343), whether it issues
alone (R92), and which context of its tile is the lead (R90). -/
structure Cur where
  u       : UnitId
  pc      : Nat
  next    : Nat
  scope   : Nat
  slot    : Nat
  checked : Bool
  verdict : Verdict
  jump    : Option Nat
  pops    : List Nat
  stall    : Nat
  finished : Bool
  slots   : Nat
  banks   : List Nat
  opened  : Option Nat
  solo    : Bool
  lead    : Nat
deriving DecidableEq, Repr

/-- The state of the package. agenda: the device steps to happen next, oldest first (the schedule of everything whose order or arrival
the spec leaves open); lostAt: by die, the cycle after the last that the cap took (R12); rails: the supply rails up, by their places in R9's table; held: the security
processor holds the device in reset (R10); waitFrom: by queue, the cycle since which its head has waited (R83); toIssue: the threads whose merge stage has chosen them to issue, in order (R91); fresh: the counter that numbers
the free values (the model's own field, not the spec's). -/
structure State where
  agenda   : List Instr
  toIssue  : List UnitId
  cur      : Cur
  fresh    : Nat
  cycle    : Nat
  seq      : Nat
  dstate   : DState
  lastG3   : Option Cause
  cap      : BitVec 12
  capNext  : Option (BitVec 12)
  lostCyc  : SMap W64
  lostAt   : SMap Nat
  rails    : BitVec 12
  held     : Bool
  fuses    : Fuses
  boot     : BootState
  kregs    : KRegs
  mem      : SMap Byte
  poison   : List Nat
  tenants  : SMap Tenant
  tiles    : SMap Tile
  clusters : SMap Cluster
  dies     : SMap Die
  cores    : SMap Core
  links    : SMap MemLink
  ports    : SMap Port
  eths     : SMap EthPort
  health   : SMap UnitEntry
  wv       : SMap WvPage
  graphs   : List Graph
  ready    : SMap (List (Nat × Nat))
  ages     : SMap Nat
  waitFrom : SMap Nat
  conts    : SMap Nat
  frames   : List Frame
  replies  : List Reply
  sockets  : List (Nat × List Byte)
deriving DecidableEq, Repr

/-! ## Reset values -/

/-- A thread before its first bundle (R88). -/
def Thread.init : Thread :=
  { g := [], a := [], am := [], v := [], p := [], lc0 := 0, lc1 := 0, fpcsr := 0, check := false, fmask := 0, ccycle := 0, pend := [],
    loop0 := none, loop1 := none, pc := 0, branch := none, stallLeft := 0, hold := .none, units := [], walkFault := none }

/-- A stop record at reset (R267). -/
def StopRec.init : StopRec :=
  { area := 0, faddr := 0, pc := 0, slotmask := 0, grade := 0, dslot := 0, engine := false, eq := 0, stopped := false, cause := 0 }

/-- An empty, unbound stream (R88). -/
def Stream.init : Stream := { kind := 0, elems := [], backlog := [] }

/-- The seed of a context's LFSR (R100). -/
def lfsrSeed (t c : Nat) : BitVec 16 :=
  let x := 0xACE1#16 ^^^ BitVec.ofNat 16 (t * 2 + c)
  if x = 0 then 0xACE1#16 else x

/-- Context c of tile t at reset (R88, R100). -/
def Ctx.init (t c : Nat) : Ctx :=
  { x := Thread.init, task := none, spill := [], q := [], nanRow := 0, deque := [], lfsr := lfsrSeed t c, draws := 0, stealing := none,
    asked := 0, disp := none, ending := false, stop := StopRec.init, fail := none, remote := [], hq := [], cq := [], kq := [], kruns := [], fq := [], staging := [],
    repEntry := 0, repLc := 0, devThr := 0 }

/-- An unallocated handle (R138). -/
def HEntry.init : HEntry :=
  { inst := 0, kind := 0, base := 0, size := 0, rows := 0, state := 0, b := false, sel := false, pcount := 0, ccount := 0,
    writers := [], readers := [], ctxW := [], wres := [], rres := [], cmds := [], wq := [] }

/-- An empty plane (R115, R416). -/
def Plane.init : Plane := { valid := false, amode := 0, wf8 := false, elems := [], scales := [] }

/-- MXCFG at reset: BF16, RUN 64, SERVICE (R416, R422). -/
def mxcfgReset : BitVec 16 := 0x0FC0#16

/-- Tile t at reset (R115, R416). -/
def Tile.init (t : Nat) : Tile :=
  { c0 := Ctx.init t 0, c1 := Ctx.init t 1, tenant := none, bindCycle := 0, skip := 0, reserved := none, cutting := false, killing := false, pad := [],
    tags := [], swz := [], ink := [], acc := [], rowst := [], front := Plane.init, back := Plane.init, mxcfg := mxcfgReset, acur := [],
    drains := 0, nanstat := 0, nanAt := 0, nanSet := 0, mq := [], nib := none, beat := none, nibcfg := 0, nibFresh := true, nibst := 0, trdefs := [],
    handles := [], freeing := [], nextId := 1, copies := [], dicts := [], tlb := [], tcache := [], gathers := [],
    brush := [], winq := [], posted := [], requests := [], sends := [], replays := 0, exhausts := 0, leads := [], follows := [], lostFor := [] }

/-- A cluster at reset (R282). -/
def Cluster.init : Cluster := { tlb := [], brushCur := none, brushRR := 0, cseq := 0, tseen := 0, testing := false }

/-- A die at reset: credits 0 and last-served queues 15 are what unlisted entries read as (R82). -/
def Die.init : Die := { credit := [], lastq := [], retouch := [], places := [], winCur := none, winRR := 0, walks := [] }

/-- A control core at reset (R269): CCMP all ones. -/
def Core.init : Core :=
  { x := Thread.init, running := false, kernel := true, ie := false, tvec := 0, tepc := 0, tcause := 0, tfaddr := 0, dslot := 0,
    pie := false, pmode := false, ccmp := 0xFFFFFFFFFFFFFFFF#64, tbtgt := 0, falls := false, ccten := 0, irq := [], compared := false, tlb := [],
    enq := none, enqDone := false }

/-- A tenant before its entry is loaded (R52). -/
def Tenant.init : Tenant :=
  { valid := false, share := 0, qenable := 0, qcap := 0, tileset := 0, ptroot := 0, evbase := 0, evsize := 0, irqcore := 0, evprod := 0,
    evlost := 0, signal := false }

/-- A link end at reset. -/
def LinkEnd.init : LinkEnd := { rxSeq := 0, txSeq := 0, retry := [], nakSeq := 0, naks := 0, wire := [], resent := 0, body := [], moved := 0 }

/-- A memory link before training: a module of 64 GiB is fitted (log entry 9). -/
def MemLink.init : MemLink :=
  { module := some 0, trained := false, failed := false, retrain := false, host := LinkEnd.init, chip := LinkEnd.init, counted := 0 }

/-- A Saheth Link port at reset. -/
def Port.init : Port :=
  { up := false, failed := false, peer := 0, link := LinkEnd.init, refuses := 0, key := 0, keyNo := 0, refs := 0, sent := [], store := [], blocks := [],
    dropped := 0, refused := 0, exports := [], out := [] }

/-- An Ethernet port at reset. -/
def EthPort.init : EthPort := { windows := [], discards := 0, refusals := 0 }

/-- A window that is not registered (R53). -/
def Window.init : Window := { valid := false, perm := 0, tenant := 0, rkey := 0, vbase := 0, length := 0 }

/-- A unit entry at reset. -/
def UnitEntry.init : UnitEntry := { health := .ok, last := none, count := 0 }

/-- A Weathervane page before its first update. -/
def WvPage.init : WvPage := { updates := 0, bytes := [], told := [] }

/-- The fuses and flash of a part as the model starts it (log entry 9). -/
def Fuses.init : Fuses :=
  { rootKey := 0, rootHash := 0, identity := 0, serial := 0, mac0 := 0, mac1 := 0, min1 := 0, min2 := 0, slotA := [], slotB := [], stage2 := [] }

/-- Boot state at reset: M zero (R19). -/
def BootState.init : BootState :=
  { boot := .rom, rejects := [], nextKey := 0, ver1 := 0, ver2 := 0, readied := false, m := 0, quotes := 0 }

/-- The kernel registers at reset: no management key (R54), TESTIVL 100 (R281), MEMMAP 0 (R506); the rest zero (log entry 1). -/
def KRegs.init : KRegs :=
  { ttbase := 0, ttsync := none, badEntry := false, winbase0 := 0, winbase1 := 0, winDrain := none, ddbase := 0, crbase := 0,
    devcmd := none, devres := 0, capRef := false, mkeyx := 0, mkeyy := 0, mkey := none, mkctr := 0, stopbase := 0, fpbase := 0,
    fpcount := 0, klbase := 0, klsize := 0, klprod := 0, klcons := 0, kllost := 0, testivl := 100, memmap := 0 }

/-- No bundle in hand. -/
def Cur.init : Cur :=
  { u := .core 0, pc := 0, next := 0, scope := 0, slot := 0, checked := false, verdict := .none, jump := none, pops := [],
    stall := 0, finished := false, slots := 0, banks := [], opened := none, solo := false, lead := 0 }

/-- Boot progress as a number. -/
def Boot.code : Boot → Nat
  | .rom => 0
  | .stage1 => 1
  | .trained => 2
  | .waitImage => 3
  | .core0 => 4
  | .kernel => 5
  | .stuck => 6

/-- A stage and a reason of rejection as a number (R15). -/
def Reject.code : Reject → Nat
  | .magic n => 8 * n
  | .reserved n => 8 * n + 1
  | .bodyHash n => 8 * n + 2
  | .signature n => 8 * n + 3
  | .version n => 8 * n + 4

/-- What page 1 tells: the identity key's public half, the serial number, the MAC addresses, the fused minimum versions, the boot stage, and every
rejection with its stage and reason (R15, R17, R18, R67). -/
def identityTold (f : Fuses) (b : BootState) : List Nat :=
  [f.identity.toNat, f.serial.toNat, f.mac0.toNat, f.mac1.toNat, f.min1.toNat, f.min2.toNat, b.boot.code] ++ b.rejects.map Reject.code

/-- The Weathervane pages right after reset: page 0 with LAYOUT 1, BRINGUP and a cap of 3600 W, page 1 with the identity (R11, R20, R67, R69). -/
def wvReset (f : Fuses) : SMap WvPage :=
  [(0, { updates := 0, bytes := [(8, 0x01#8), (20, 0x10#8), (21, 0x0E#8)], told := [] }),
   (1, { updates := 0, bytes := [], told := identityTold f BootState.init })]

/-- The machine right after reset, with every supply rail up (R10, R11, R19, R20, R54, R281, R506). -/
def State.reset : State :=
  { agenda := [], toIssue := [], cur := Cur.init, fresh := 0, cycle := 0, seq := 0, dstate := .bringup, lastG3 := none, cap := 3600#12,
    capNext := none, lostCyc := [], lostAt := [], rails := 0xFFF#12, held := false, fuses := Fuses.init, boot := BootState.init, kregs := KRegs.init, mem := [], poison := [],
    tenants := [], tiles := [], clusters := [], dies := [], cores := [], links := [], ports := [], eths := [], health := [], wv := wvReset Fuses.init,
    graphs := [], ready := [], ages := [], waitFrom := [], conts := [], frames := [], replies := [], sockets := [] }

/-! ## How a step can stop -/

/-- Why the machine stops. Raised by the step when the schedule names a unit that the package does not have (R1): the spec gives no such
unit, so nothing happens there; safe, since no claim about a run can come of it. -/
inductive Fault where
  /-- The schedule names a unit beyond R1's table, or a slot operation where a device event stands. Raised by Step.lean's step; safe. -/
  | noSuchUnit
deriving DecidableEq, Repr

/-- Why a step has no meaning. -/
inductive Refusal where
  /-- The instruction has no meaning yet. Raised by Dispatch.lean; safe. -/
  | notModelled (mnemonic : String)
deriving DecidableEq, Repr

/-- What an instruction or a device step comes to. -/
abbrev Result := Host.Outcome State Fault Refusal

end Sys2Proof.Machine
end

