-- ==== Sys2Proof/Machine/Ops.lean ====
section
/-! DEFINITION. The named operations over registers, memories and translation that the meanings share, and taking an exception with the
return from one. -/

namespace Sys2Proof.Machine

/-! ## Units -/

/-- Tile t. -/
def State.tile (s : State) (t : Nat) : Tile := mget (Tile.init t) s.tiles t
/-- The state with tile t replaced. -/
def State.setTile (s : State) (t : Nat) (x : Tile) : State := { s with tiles := mput s.tiles t x }
/-- The state with tile t changed. -/
def State.modTile (s : State) (t : Nat) (f : Tile → Tile) : State := s.setTile t (f (s.tile t))
/-- Context c of a tile. -/
def Tile.ctx (x : Tile) (c : Nat) : Ctx := if c = 0 then x.c0 else x.c1
/-- The tile with context c replaced. -/
def Tile.setCtx (x : Tile) (c : Nat) (y : Ctx) : Tile := if c = 0 then { x with c0 := y } else { x with c1 := y }
/-- Context c of tile t. -/
def State.ctx (s : State) (t c : Nat) : Ctx := (s.tile t).ctx c
/-- The state with context c of tile t replaced. -/
def State.setCtx (s : State) (t c : Nat) (y : Ctx) : State := s.setTile t ((s.tile t).setCtx c y)
/-- The state with context c of tile t changed. -/
def State.modCtx (s : State) (t c : Nat) (f : Ctx → Ctx) : State := s.setCtx t c (f (s.ctx t c))
/-- Control core k. -/
def State.core (s : State) (k : Nat) : Core := mget Core.init s.cores k
/-- The state with core k replaced. -/
def State.setCore (s : State) (k : Nat) (x : Core) : State := { s with cores := mput s.cores k x }
/-- The state with core k changed. -/
def State.modCore (s : State) (k : Nat) (f : Core → Core) : State := s.setCore k (f (s.core k))
/-- Die d. -/
def State.die (s : State) (d : Nat) : Die := mget Die.init s.dies d
/-- The state with die d changed. -/
def State.modDie (s : State) (d : Nat) (f : Die → Die) : State := { s with dies := mput s.dies d (f (s.die d)) }
/-- Cluster n. -/
def State.cluster (s : State) (n : Nat) : Cluster := mget Cluster.init s.clusters n
/-- The state with cluster n changed. -/
def State.modCluster (s : State) (n : Nat) (f : Cluster → Cluster) : State := { s with clusters := mput s.clusters n (f (s.cluster n)) }
/-- Tenant n as the hardware holds it. -/
def State.tenant (s : State) (n : Nat) : Tenant := mget Tenant.init s.tenants n
/-- The state with tenant n changed. -/
def State.modTenant (s : State) (n : Nat) (f : Tenant → Tenant) : State := { s with tenants := mput s.tenants n (f (s.tenant n)) }
/-- Saheth Link port n. -/
def State.port (s : State) (n : Nat) : Port := mget Port.init s.ports n
/-- The state with port n changed. -/
def State.modPort (s : State) (n : Nat) (f : Port → Port) : State := { s with ports := mput s.ports n (f (s.port n)) }
/-- Memory link n. -/
def State.link (s : State) (n : Nat) : MemLink := mget MemLink.init s.links n
/-- The state with link n changed. -/
def State.modLink (s : State) (n : Nat) (f : MemLink → MemLink) : State := { s with links := mput s.links n (f (s.link n)) }

/-- A unit's place among the unit entries. -/
def unitKey : UnitName → Nat
  | .tile n => n
  | .cluster n => 4096 + n
  | .link n => 4352 + n
  | .retouch n => 4416 + n
  | .winnow n => 4432 + n
  | .distributor n => 4448 + n
  | .pageWalk n => 4464 + n
  | .core n => 4480 + n
  | .port n => 4512 + n
  | .ethernet n => 4576 + n
  | .security => 4592

/-- The entry of a unit. -/
def State.unit (s : State) (u : UnitName) : UnitEntry := mget UnitEntry.init s.health (unitKey u)
/-- The state with a unit's entry changed. -/
def State.modUnit (s : State) (u : UnitName) (f : UnitEntry → UnitEntry) : State :=
  { s with health := mput s.health (unitKey u) (f (s.unit u)) }

/-- The thread of an issuing unit. -/
def State.thread (s : State) : UnitId → Thread
  | .ctx t c => (s.ctx t c).x
  | .core k => (s.core k).x
/-- The state with a unit's thread replaced. -/
def State.setThread (s : State) (u : UnitId) (x : Thread) : State :=
  match u with
  | .ctx t c => s.modCtx t c (fun y => { y with x := x })
  | .core k => s.modCore k (fun y => { y with x := x })
/-- The state with a unit's thread changed. -/
def State.modThread (s : State) (u : UnitId) (f : Thread → Thread) : State := s.setThread u (f (s.thread u))

/-- The tile of a unit; 0 for a control core. -/
def unitTile : UnitId → Nat
  | .ctx t _ => t
  | .core _ => 0
/-- The context number of a unit; 0 for a control core. -/
def unitCtx : UnitId → Nat
  | .ctx _ c => c
  | .core _ => 0
/-- Whether the unit is a control core. -/
def unitIsCore : UnitId → Bool
  | .ctx _ _ => false
  | .core _ => true

/-- The cluster of a tile: 16 tiles each (R1, R8). -/
def clusterOf (t : Nat) : Nat := t / 16
/-- The compute die of a tile: 288 tiles each (R1, R8). -/
def dieOf (t : Nat) : Nat := t / 288

/-! ## Registers -/

/-- g register n: g0 reads zero (R109). -/
def Thread.rg (x : Thread) (n : Nat) : W64 := if n = 0 then 0 else mget 0 x.g n
/-- Address register n. -/
def Thread.ra (x : Thread) (n : Nat) : W64 := mget 0 x.a n
/-- Address mode register n. -/
def Thread.ram (x : Thread) (n : Nat) : W64 := mget 0 x.am n
/-- Vector register n. -/
def Thread.rv (x : Thread) (n : Nat) : VReg := mget 0 x.v n
/-- Predicate n: p0 reads all ones (R109). -/
def Thread.rp (x : Thread) (n : Nat) : PReg := if n = 0 then BitVec.allOnes 128 else mget 0 x.p n

/-- The guard bit for lane i of a PRED field: NEG inverts (R320). -/
def Thread.guardAt (x : Thread) (p : BitVec 4) (i : Nat) : Bool := (x.rp (p.toNat % 8)).getLsbD i != p.getLsbD 3
/-- The guard of a scalar or CT slot: lane 0 (R320). -/
def Thread.guard (x : Thread) (p : BitVec 4) : Bool := x.guardAt p 0

/-- Write a landed value into its register, bits outside the mask keeping what they hold. A write to g0 or p0 is discarded (R109). Special
registers are State.landSr's. -/
def Thread.put (x : Thread) (d : Dest) (v mask : VReg) : Thread :=
  match d with
  | .g n => if n = 0 then x else { x with g := mset 0 x.g n (v.setWidth 64) }
  | .a n => { x with a := mset 0 x.a n (v.setWidth 64) }
  | .am n => { x with am := mset 0 x.am n (v.setWidth 64) }
  | .p n => if n = 0 then x else
      { x with p := mset 0 x.p n ((x.rp n &&& ~~~(mask.setWidth 128)) ||| (v.setWidth 128 &&& mask.setWidth 128)) }
  | .v n => { x with v := mset 0 x.v n ((x.rv n &&& ~~~mask) ||| (v &&& mask)) }
  | .lc n => if n = 0 then { x with lc0 := v.setWidth 32 } else { x with lc1 := v.setWidth 32 }
  | .sr _ => x

/-- Sticky flags ORed into FPCSR[13:8] (R111). -/
def Thread.raise (x : Thread) (f : BitVec 6) : Thread := { x with fpcsr := x.fpcsr ||| (f.setWidth 64 <<< 8) }

/-! ## Special registers (R110, R111, R269) -/

/-- CTXCTL of a context: BPRIO, REDUNDANT and ARRAY come from the task (R111). -/
def Ctx.ctxctl (y : Ctx) : W64 :=
  let base : Nat := match y.task with
    | some k => 16 * k.bprio.toNat + 4 * k.redundant.toNat + 2 * k.array.toNat
    | none => 0
  BitVec.ofNat 64 (base + y.x.check.toNat)

/-- SWZM register j of a tile: entry k of region 16j + k in bits [4k+2:4k]; regions reset to 6 (R115, R126). -/
def Tile.swzm (x : Tile) (j : Nat) : W64 :=
  BitVec.ofNat 64 ((List.range 16).foldl (fun a k => a + (mget 6#3 x.swz (16 * j + k)).toNat * 16 ^ k) 0)

/-- The swizzle map with SWZM register j written. -/
def Tile.setSwzm (x : Tile) (j : Nat) (v : W64) : Tile :=
  { x with swz := (List.range 16).foldl (fun m k => mset 6#3 m (16 * j + k) (BitVec.ofNat 3 (fld v (4 * k) 3))) x.swz }

/-- A value that a WRSR of a SWZM register may write: no entry is 7 (R126). The zero bit above each entry is ignored (R6). -/
def swzmOk (v : W64) : Bool := (List.range 16).all (fun k => decide (fld v (4 * k) 3 ≠ 7))

/-- TSTATE of a core (R269). -/
def Core.tstate (x : Core) : W64 :=
  BitVec.ofNat 64 (8 * x.dslot.toNat + 4 * x.pie.toNat + 2 * x.ie.toNat + x.pmode.toNat)

/-- Read special register n of a unit (R110, R269). A control core has no tile: TCYCLE, TILEID, NANSTAT and SWZM read as zero there (log
entry 11). -/
def State.readSr (s : State) (u : UnitId) (n : Nat) : W64 :=
  let x := s.thread u
  if n = 0 then x.fpcsr
  else if n = 2 then x.fmask
  else if n = 3 then BitVec.ofNat 64 x.ccycle
  else if n = 5 then x.lc0.setWidth 64
  else if n = 6 then x.lc1.setWidth 64
  else
    match u with
    | .ctx t c =>
      if n = 1 then (s.ctx t c).ctxctl
      else if n = 4 then BitVec.ofNat 64 (s.cycle - (s.tile t).bindCycle)
      else if n = 7 then BitVec.ofNat 64 (t + 4096 * c)
      else if n = 8 then (s.tile t).nanstat
      else if 0x0C ≤ n ∧ n ≤ 0x0F then (s.tile t).swzm (n - 0x0C)
      else 0
    | .core k =>
      let y := s.core k
      if n = 1 then BitVec.ofNat 64 x.check.toNat
      else if n = 0x10 then y.tvec
      else if n = 0x11 then y.tepc
      else if n = 0x12 then y.tcause
      else if n = 0x13 then y.tfaddr
      else if n = 0x14 then y.tstate
      else if n = 0x16 then y.ccmp
      else if n = 0x17 then y.tbtgt
      else if n = 0x18 then y.ccten.setWidth 64
      else 0

/-- Pend an interrupt on a core (R270): one pending mark for each cause. -/
def Core.interrupt (x : Core) (c : Cause) : Core := if c ∈ x.irq then x else { x with irq := x.irq ++ [c] }

/-- NANSTAT with the bits of v cleared by software, but those that the hardware writes in the same cycle (R173). -/
def Tile.nanClear (x : Tile) (cycle : Nat) (v : W64) : Tile :=
  { x with nanstat := x.nanstat &&& ~~~(if x.nanAt = cycle then v &&& ~~~x.nanSet else v) }

/-- Write special register n of a unit: read-only registers and fields ignore it (R5, R359), NANSTAT clears the bits written as 1, IPISEND
interrupts the named core (R269). -/
def State.landSr (s : State) (u : UnitId) (n : Nat) (v : W64) : State :=
  if n = 0 then s.modThread u (fun x => { x with fpcsr := v &&& 0x3F03#64 })
  else if n = 1 then s.modThread u (fun x => { x with check := v.getLsbD 0 })
  else if n = 2 then s.modThread u (fun x => { x with fmask := v &&& 0x7F#64 })
  else if n = 5 then s.modThread u (fun x => { x with lc0 := v.setWidth 32 })
  else if n = 6 then s.modThread u (fun x => { x with lc1 := v.setWidth 32 })
  else
    match u with
    | .ctx t _ =>
      if n = 8 then s.modTile t (fun x => x.nanClear s.cycle v)
      else if 0x0C ≤ n ∧ n ≤ 0x0F then s.modTile t (fun x => x.setSwzm (n - 0x0C) v)
      else s
    | .core k =>
      if n = 0x10 then s.modCore k (fun y => { y with tvec := v &&& ~~~1#64 })
      else if n = 0x11 then s.modCore k (fun y => { y with tepc := v })
      else if n = 0x12 then s.modCore k (fun y => { y with tcause := v &&& 0x1FFFFF#64 })
      else if n = 0x13 then s.modCore k (fun y => { y with tfaddr := v })
      else if n = 0x14 then s.modCore k (fun y =>
        { y with dslot := BitVec.ofNat 2 (fld v 3 2), pie := v.getLsbD 2, ie := v.getLsbD 1, pmode := v.getLsbD 0 })
      else if n = 0x15 then s.modCore (fld v 0 5) (fun y => y.interrupt 0x6E#7)
      else if n = 0x16 then s.modCore k (fun y => { y with ccmp := v, compared := false })
      else if n = 0x17 then s.modCore k (fun y => { y with tbtgt := v, falls := false })
      else if n = 0x18 then s.modCore k (fun y => { y with ccten := v.setWidth 7 })
      else s

/-! ## Pending results and context cycles (R117-R120) -/

/-- A result of latency lat of the bundle in hand: issued at context cycle ccycle + 1 (R120). -/
def Thread.pendAt (x : Thread) (d : Dest) (v mask : VReg) (lat : Nat) (f : BitVec 6) : Thread :=
  { x with pend := x.pend ++ [{ dest := d, value := v, mask := mask, due := x.ccycle + 1 + lat, flags := f }] }

/-- Add a pending result of a unit. -/
def State.result (s : State) (u : UnitId) (d : Dest) (v mask : VReg) (lat : Nat) (f : BitVec 6) : State :=
  s.modThread u (fun x => x.pendAt d v mask lat f)

/-- A 64-bit result with no flags. -/
def State.result64 (s : State) (u : UnitId) (d : Dest) (v : W64) (lat : Nat) : State :=
  s.result u d (v.setWidth 1024) (BitVec.allOnes 1024) lat 0

/-- Land one result: its register now, its flags with State.landFlags. -/
def State.landOne (s : State) (u : UnitId) (p : Pend) : State :=
  match p.dest with
  | .sr n => s.landSr u n (p.value.setWidth 64)
  | d => s.modThread u (fun x => x.put d p.value p.mask)

/-- The results that land by context cycle m, which a bundle issued at m sees: those due, the list holding issue order (R120). -/
def landed (m : Nat) (l : List Pend) : List Pend := l.filter (fun p => decide (p.due ≤ m))

/-- Land every result due at context cycle m: values in order, then flags ORed in (R111, R120). -/
def State.land (s : State) (u : UnitId) (m : Nat) : State :=
  let ps := landed m (s.thread u).pend
  let s := s.modThread u (fun x => { x with pend := x.pend.filter (fun p => !decide (p.due ≤ m)) })
  let s := ps.foldl (fun s p => s.landOne u p) s
  s.modThread u (fun x => ps.foldl (fun x p => x.raise p.flags) x)

/-- Count one context cycle and land what lands in it (R117, R120). -/
def State.advance (s : State) (u : UnitId) : State :=
  let n := (s.thread u).ccycle + 1
  (s.modThread u (fun x => { x with ccycle := n })).land u n

/-! ## Free values (log entry 8) -/

/-- n fresh unstated bytes. -/
def State.freeBytes (s : State) (n : Nat) : List Byte × State := ((upto s.fresh n).map Config.freeByte, { s with fresh := s.fresh + n })

/-- n fresh unstated bytes at offsets from lo up. -/
def freeMap (fresh lo n : Nat) : SMap Byte := ((upto lo n).map (fun i => (i, Config.freeByte (fresh + (i - lo))))).filter (fun e => decide (e.2 ≠ 0))

/-- A fresh choice among n. -/
def State.choose (s : State) (n : Nat) : Nat × State := (Config.choice s.fresh % n, { s with fresh := s.fresh + 1 })

/-! ## The power cap (R12) -/

/-- A cycle of a die is lost to the cap; it counts once, however many units it leaves idle. -/
def State.loseCycle (s : State) (d : Nat) : State :=
  if mget 0 s.lostAt d = s.cycle + 1 then s
  else { s with lostCyc := mput s.lostCyc d (mget 0 s.lostCyc d + 1), lostAt := mput s.lostAt d (s.cycle + 1) }

/-- Whether the cap leaves a unit of a die idle in a cycle: below 3600 W a free choice, which keeps the mean power at the cap (R12, log entry 72). -/
def State.capIdle (s : State) (d : Nat) : Bool × State :=
  if s.cap = 3600#12 then (false, s)
  else
    let c := s.choose 2
    if c.1 = 0 then (false, c.2) else (true, c.2.loseCycle d)

/-! ## Device memory -/

/-- The links of the interleave, lowest first (R32, R506). -/
def State.interleave (s : State) : List Nat := (List.range 48).filter (fun i => s.kregs.memmap.getLsbD i)

/-- Bytes of device memory (R32). -/
def State.capacity (s : State) : Nat := s.interleave.length * 2 ^ (36 + fld s.kregs.memmap 48 2)

/-- The link that holds a physical address (R32). -/
def State.linkOf (s : State) (pa : Nat) : Nat :=
  let l := s.interleave
  nth 0 l (if l.length = 0 then 0 else (pa / 4096) % l.length)

/-- A link of the interleave has failed, and it holds the byte at a (R33). -/
def State.lost (s : State) (a : Nat) : Bool := s.links.any (fun e => e.2.failed) && (s.link (s.linkOf a)).failed

/-- One byte as it is read. Memory has none to deliver beyond its capacity, behind a link that failed (R33) and in a poisoned line (R31). -/
def State.memByte (s : State) (a : Nat) : Byte :=
  if decide (a < s.capacity) && !s.lost a && decide (a / 64 ∉ s.poison) then mget 0 s.mem a else Config.beyondCapacity a

/-- n bytes at a physical address. -/
def State.memRead (s : State) (pa n : Nat) : List Byte := (upto pa n).map s.memByte

/-- A little-endian number at a physical address (R4). -/
def State.memNat (s : State) (pa n : Nat) : Nat := ofBytes (s.memRead pa n)

/-- The 64-byte lines that a range covers whole, by line number. -/
def linesWhole (pa n : Nat) : List Nat := let lo := (pa + 63) / 64; upto lo ((pa + n) / 64 - lo)

/-- Every line of memory takes what is written to it. -/
def State.sound (s : State) : Bool := s.poison.isEmpty && !s.links.any (fun e => e.2.failed)

/-- The byte at a takes a write that covers some lines whole: its link has not failed (R33), and its line is not poisoned or is written whole
(R507). -/
def State.takes (s : State) (whole : List Nat) (a : Nat) : Bool := !s.lost a && (decide (a / 64 ∉ s.poison) || decide (a / 64 ∈ whole))

/-- The poisoned lines left once some lines have been written whole (R507). -/
def State.poisonLeft (s : State) (whole : List Nat) : List Nat := s.poison.filter (fun x => s.lost (64 * x) || decide (x ∉ whole))

/-- Write bytes at a physical address. Bytes beyond the capacity, behind a link that failed (R33) and into a part of a poisoned line go nowhere; a
line written whole loses its poison (R507). -/
def State.memWrite (s : State) (pa : Nat) (l : List Byte) : State :=
  let k := min l.length (s.capacity - pa)
  { s with mem := if s.sound then mwrite 0 s.mem pa (l.take k) else
             (((upto pa k).zip l).filter (fun e => s.takes (linesWhole pa k) e.1)).foldl (fun m e => mset 0 m e.1 e.2) s.mem,
           poison := if s.sound then s.poison else s.poisonLeft (linesWhole pa k) }

/-- Write a number of n bytes (R4). -/
def State.memPut (s : State) (pa n v : Nat) : State := s.memWrite pa (toBytes n v)

/-- Replace a region by sparse contents, as memWrite writes (R33, R507). -/
def State.memRegion (s : State) (pa size : Nat) (src : SMap Byte) : State :=
  { s with mem := if s.sound then mregion 0 s.mem pa size src else
             (s.mem.filter (fun e => decide (pa ≤ e.1) && decide (e.1 < pa + size) && !s.takes (linesWhole pa size) e.1)).foldl
               (fun m e => mset 0 m e.1 e.2) (mregion 0 s.mem pa size (src.filter (fun e => s.takes (linesWhole pa size) (pa + e.1)))),
           poison := if s.sound then s.poison else s.poisonLeft (linesWhole pa size) }

/-- n bytes at a physical address take fresh unstated values. -/
def State.freeRegion (s : State) (pa n : Nat) : State := { s.memRegion pa n (freeMap s.fresh 0 n) with fresh := s.fresh + n }

/-- A range meets a poisoned line. -/
def State.poisoned (s : State) (pa n : Nat) : Bool :=
  s.poison.any (fun x => decide (64 * x < pa + n) && decide (pa < 64 * x + 64))

/-- A range covers a poisoned line in part (R507). -/
def State.poisonedPart (s : State) (pa n : Nat) : Bool :=
  s.poison.any (fun x => decide (64 * x < pa + n) && decide (pa < 64 * x + 64) && !(decide (pa ≤ 64 * x) && decide (64 * x + 64 ≤ pa + n)))

/-- Why an access to physical memory fails: a link that failed (R33), a poisoned line (R31, R507). The range lies in one 4 KiB block. -/
def State.memFails (s : State) (pa n : Nat) (write : Bool) : Option Cause :=
  if (s.link (s.linkOf pa)).failed && decide (pa < s.capacity) then some 0x75#7
  else if (if write then s.poisonedPart pa n else s.poisoned pa n) then some 0x77#7
  else none

/-! ## Translation (R146-R149) -/

/-- DATA_PAGE or FETCH_PAGE (R148). -/
def Acc.page : Acc → Cause
  | .fetch => 0x20#7
  | _ => 0x22#7
/-- DATA_ACCESS or FETCH_ACCESS (R148). -/
def Acc.denied : Acc → Cause
  | .fetch => 0x21#7
  | _ => 0x23#7

/-- The page allows the access (R147). -/
def TlbE.allows (e : TlbE) (kernel : Bool) (a : Acc) : Bool :=
  (!e.k || kernel) && (match a with | .read => e.rd | .write => e.w | .update => e.rd && e.w | .fetch => e.x)

/-- The entry maps the address for the tenant. -/
def TlbE.maps (e : TlbE) (tenant va : Nat) : Bool := decide (e.tenant = tenant) && decide (va / 2 ^ e.lg = e.va / 2 ^ e.lg)

/-- What a walk finds (R148). -/
inductive WalkR where
  | leaf (e : TlbE)
  | page
  | denied
  | mem (c : Cause)
deriving DecidableEq, Repr

/-- The levels from level k: index shift and width, and whether a leaf may stand there (R146). -/
def walkFrom (s : State) (tenant va : Nat) : List (Nat × Nat × Bool) → Nat → WalkR
  | [], _ => .denied
  | (lo, w, leafOk) :: rest, base =>
    let ea := base + 8 * bits va lo w
    match s.memFails ea 8 false with
    | some c => .mem c
    | none =>
      let e := s.memNat ea 8
      if !bit e 0 then .page
      else if decide (bits e 46 18 ≠ 0) || decide (bits e 6 6 ≠ 0) then .denied
      else
        let pa := bits e 12 34 * 4096
        if bit e 1 then
          if !leafOk || decide (pa % 2 ^ lo ≠ 0) then .denied
          else .leaf { tenant := tenant, lg := lo, va := va / 2 ^ lo * 2 ^ lo, pa := pa, x := bit e 4, w := bit e 3, rd := bit e 2,
                       k := bit e 5 }
        else walkFrom s tenant va rest pa

/-- Walk the tenant's page table (R146-R148). -/
def State.walk (s : State) (tenant va : Nat) : WalkR :=
  walkFrom s tenant va [(48, 8, false), (39, 9, false), (30, 9, true), (21, 9, true), (16, 5, true)] (s.tenant tenant).ptroot

/-- The result of a translation. -/
inductive Xlat where
  | pa (p : Nat)
  | miss
  | bad (c : Cause)
deriving DecidableEq, Repr

/-- An entry's answer to an access. -/
def TlbE.answer (e : TlbE) (kernel : Bool) (a : Acc) (va : Nat) : Xlat :=
  if e.allows kernel a then .pa (e.pa + va % 2 ^ e.lg) else .bad a.denied

/-- Translate by a full walk, as the engines do. -/
def State.xlatWalk (s : State) (tenant va : Nat) (kernel : Bool) (a : Acc) : Xlat :=
  if 2 ^ 56 ≤ va then .bad a.page else
  match s.walk tenant va with
  | .leaf e => e.answer kernel a va
  | .page => .bad a.page
  | .denied => .bad a.denied
  | .mem c => .bad c

/-- Whose TLBs an engine's translation looks into: a tile's engine its tile's and its cluster's, the Brush its cluster's; a unit of a die or of the
device walks (R149, R200). -/
inductive Walker where
  | tile (t : Nat)
  | cluster (n : Nat)
  | walk
deriving DecidableEq, Repr

/-- The entries of an engine's TLBs. -/
def State.tlbFor (s : State) : Walker → List TlbE
  | .tile t => (s.tile t).tlb ++ (s.cluster (t / 16)).tlb
  | .cluster n => (s.cluster n).tlb
  | .walk => []

/-- The die whose page-walk unit serves an engine; a unit of a die or of the device walks by itself. -/
def Walker.die : Walker → Option Nat
  | .tile t => some (dieOf t)
  | .cluster n => some (n / 18)
  | .walk => none

/-- The walk in progress is that of the tenant's page that holds va; where the table maps none, of its 64 KiB (R146, R149). -/
def State.sameWalk (s : State) (tn va : Nat) (w : Walk) : Bool :=
  decide (w.tenant = tn) &&
    (match s.walk tn va with
    | .leaf e => e.maps tn w.va
    | _ => decide (w.va / 65536 = va / 65536))

/-- An engine's miss has to wait: a walk to its page is in progress, which it shares, or all 32 are busy (R149). -/
def State.walkAwaited (s : State) (wk : Walker) (tenant va : Nat) : Bool :=
  match wk.die with
  | none => false
  | some d => decide (va < 2 ^ 56) && (decide (32 ≤ (s.die d).walks.length) || (s.die d).walks.any (s.sameWalk tenant va))

/-- Translate for an engine: a TLB hit answers; a miss walks within the step, or waits (R149; log entry 58). -/
def State.xlatE (s : State) (wk : Walker) (tenant va : Nat) (a : Acc) : Xlat :=
  match (s.tlbFor wk).find? (fun e => e.maps tenant va) with
  | some e => e.answer false a va
  | none => if s.walkAwaited wk tenant va then .miss else s.xlatWalk tenant va false a

/-- No cause: the access waits for a walk that its engine needs (R149). -/
def walkBusy : Cause := 0#7

/-- A TLB of n entries takes one more, the oldest leaving: the order of replacement is the model's choice (log entry 58). -/
def tlbPut (n : Nat) (l : List TlbE) (e : TlbE) : List TlbE :=
  let l := l.filter (fun x => decide (x ≠ e)) ++ [e]
  l.drop (l.length - n)

/-- The Brush's walk for an access leaves its entry in the cluster's TLB where the page allows it (R200, R496). -/
def State.tlbFill (s : State) (n tenant va : Nat) (a : Acc) : State :=
  if (s.cluster n).tlb.any (fun e => e.maps tenant va) || decide (2 ^ 56 ≤ va) then s
  else
    match s.walk tenant va with
    | .leaf e => if !e.allows false a then s else s.modCluster n (fun k => { k with tlb := tlbPut 4096 k.tlb e })
    | _ => s

/-- A walk of a die's page-walk unit is free (R149). -/
def State.walkFree (s : State) (d : Nat) : Bool := decide ((s.die d).walks.length < 32)

/-- The tenant in whose table a unit translates: its tile's, or CCTEN's on a control core (R47, R146). -/
def State.unitTenant (s : State) : UnitId → Nat
  | .ctx t _ => (s.tile t).tenant.getD 0
  | .core k => (s.core k).ccten.toNat % 64

/-- The unit runs in kernel mode. -/
def State.isKernel (s : State) : UnitId → Bool
  | .ctx _ _ => false
  | .core k => (s.core k).kernel

/-- The TLB entries a unit can hit: its own, and its cluster's (R149). -/
def State.tlbOf (s : State) : UnitId → List TlbE
  | .ctx t _ => (s.tile t).tlb ++ (s.cluster (clusterOf t)).tlb
  | .core k => (s.core k).tlb

/-- A recorded failure of a walk as the cause of an access: the page causes are those of its kind (R148). -/
def Acc.cause (a : Acc) (c : Cause) : Cause :=
  if c = 0x20#7 ∨ c = 0x22#7 then a.page else if c = 0x21#7 ∨ c = 0x23#7 then a.denied else c

/-- Translate for a unit: a TLB hit answers; a miss holds until its walk completes, whose failure is recorded with the unit (R148, R149,
R363). A hit in the cluster's TLB puts nothing in the tile's, which is the model's choice (log entry 58). -/
def State.xlat (s : State) (u : UnitId) (va : Nat) (a : Acc) : Xlat :=
  match (s.tlbOf u).find? (fun e => e.maps (s.unitTenant u) va) with
  | some e => e.answer (s.isKernel u) a va
  | none =>
    match (s.thread u).walkFault with
    | some (p, c) => if va / 65536 = p / 65536 then .bad (a.cause c) else .miss
    | none => .miss

/-- The die whose page-walk unit serves a unit (R149); a control core uses die 0's (log entry 12). -/
def walkDie : UnitId → Nat
  | .ctx t _ => dieOf t
  | .core _ => 0

/-- Ask for a walk: misses to one page share a walk, at most 32 run (R149). -/
def State.startWalk (s : State) (u : UnitId) (va : Nat) (a : Acc) : State :=
  let tn := s.unitTenant u
  s.modDie (walkDie u) (fun d =>
    if d.walks.any (s.sameWalk tn va) then
      { d with walks := d.walks.map (fun w =>
          if s.sameWalk tn va w = true ∧ (u, a) ∉ w.waiting then { w with waiting := w.waiting ++ [(u, a)] } else w) }
    else if d.walks.length < 32 then { d with walks := d.walks ++ [{ tenant := tn, va := va, waiting := [(u, a)] }] }
    else d)

/-! ## Scratchpad (R125-R130, R143-R145) -/

/-- The bank of a scratchpad address (R126). -/
def Tile.bank (x : Tile) (a : Nat) : Nat :=
  let sw := (mget 6#3 x.swz (a / 16384)).toNat
  if sw = 6 then (a / 16) % 64
  else
    let g := 16 * 2 ^ sw
    let gi := ((a % 1024) / g) ^^^ ((a / 1024) % (1024 / g))
    (gi * g + a % g) / 16

/-- Where address a is held: row, bank, byte (R126, R129). -/
def Tile.padKey (x : Tile) (a : Nat) : Nat := a / 1024 * 1024 + x.bank a * 16 + a % 16

/-- A byte of the scratchpad. -/
def Tile.padByte (x : Tile) (a : Nat) : Byte := mget 0 x.pad (x.padKey a)

/-- n bytes of the scratchpad. -/
def Tile.padRead (x : Tile) (a n : Nat) : List Byte := (upto a n).map x.padByte

/-- A little-endian number of the scratchpad. -/
def Tile.padNat (x : Tile) (a n : Nat) : Nat := ofBytes (x.padRead a n)

/-- Write one byte of the scratchpad. -/
def Tile.padPut (x : Tile) (a : Nat) (b : Byte) : Tile := { x with pad := mset 0 x.pad (x.padKey a) b }

/-- Write (address, byte) pairs, the later standing. -/
def Tile.padSet (x : Tile) (l : List (Nat × Byte)) : Tile := l.foldl (fun x e => x.padPut e.1 e.2) x

/-- Write bytes from address a up. -/
def Tile.padWrite (x : Tile) (a : Nat) (l : List Byte) : Tile :=
  match l with
  | [] => x
  | b :: t => Tile.padWrite (x.padPut a b) (a + 1) t

/-- The physical number of the 8-byte word that holds address a. -/
def Tile.wordNo (x : Tile) (a : Nat) : Nat := x.padKey a / 8

/-- The word that holds a is a tagged barrier word (R143). -/
def Tile.tagged (x : Tile) (a : Nat) : Bool := decide (x.wordNo a ∈ x.tags)

/-- Tag or clear the word that holds a. -/
def Tile.setTag (x : Tile) (a : Nat) (on : Bool) : Tile :=
  let w := x.wordNo a
  { x with tags := if on then (if w ∈ x.tags then x.tags else w :: x.tags) else x.tags.filter (fun n => decide (n ≠ w)) }

/-- Subtract from one count of a barrier word: the value left, whether it went from nonzero to zero, and whether it underflowed (R144). -/
def barSub (old n : Nat) : Nat × Bool × Bool :=
  if old < n then (0, true, true) else (old - n, decide (0 < n ∧ old = n), false)

/-- One update of a barrier word (R144): PEND and ARRIVE each less what arrives, the error of a failed command, and the phase. -/
def barrierUpdate (w pend arrive : Nat) (err : Option Cause) : Nat :=
  let p := barSub (bits w 0 32) pend
  let a := barSub (bits w 32 16) arrive
  let under := p.2.2 || a.2.2
  let cause : Option Cause := match err with
    | some c => some c
    | none => if under then some 0x2B#7 else none
  let w := setBits (setBits w 0 32 p.1) 32 16 a.1
  let w := match cause with
    | some c => if bit w 55 then w else setBits (setBits w 55 1 1) 48 7 c.toNat
    | none => w
  if (p.2.1 && decide (a.1 = 0)) || (a.2.1 && decide (p.1 = 0)) then w ^^^ 2 ^ 56 else w

/-- Complete against the barrier word at scratchpad address a of a tile; a word that is not tagged discards it (R144, R380). -/
def Tile.barrier (x : Tile) (a pend arrive : Nat) (err : Option Cause) : Tile :=
  if x.tagged a then x.padWrite a (toBytes 8 (barrierUpdate (x.padNat a 8) pend arrive err)) else x

/-- n engine commands of tile t have completed: its cluster's CSEQ counts them (R282). -/
def State.counted (s : State) (t n : Nat) : State := s.modCluster (clusterOf t) (fun k => { k with cseq := k.cseq + BitVec.ofNat 64 n })

/-- An engine command of tile t completes against barrier word bw (R144). -/
def State.complete (s : State) (t bw bytes : Nat) (err : Option Cause) : State := s.modTile t (fun x => x.barrier bw bytes 0 err)

/-! ## Handles (R138-R142) -/

/-- Entry n of the handle table. -/
def Tile.handle (x : Tile) (n : Nat) : HEntry := mget HEntry.init x.handles n
/-- The tile with handle n replaced. -/
def Tile.setHandle (x : Tile) (n : Nat) (h : HEntry) : Tile := { x with handles := mput x.handles n h }
/-- Bytes of an entry's regions: two of a block, every row of a ring (R142). -/
def HEntry.span (h : HEntry) : Nat := if h.kind = 1#2 then 2 * h.size else if h.kind = 2#2 then h.rows * h.size else 0
/-- Address a lies in the entry's regions. -/
def HEntry.covers (h : HEntry) (a : Nat) : Bool := decide (h.base ≤ a) && decide (a < h.base + h.span)
/-- Address a lies in a region of an allocated handle (R142). -/
def Tile.inHandle (x : Tile) (a : Nat) : Bool := x.handles.any (fun e => e.2.covers a)
/-- Base of the front region (R138). -/
def HEntry.front (h : HEntry) : Nat := if h.sel then h.base + h.size else h.base
/-- Base of the back region. -/
def HEntry.back (h : HEntry) : Nat := if h.sel then h.base else h.base + h.size
/-- Rows a ring holds (R141). -/
def HEntry.held (h : HEntry) : Nat := (h.pcount - h.ccount).toNat
/-- Address of a ring's row number k (R141). -/
def HEntry.rowAt (h : HEntry) (k : BitVec 32) : Nat := h.base + h.size * (if h.rows = 0 then 0 else k.toNat % h.rows)

/-! ## Kernel log and interrupts -/

/-- The grade of a cause (R292). -/
def grade (c : Cause) : Nat :=
  let n := c.toNat
  if n = 0x3C ∨ n = 0x54 ∨ n = 0x57 ∨ n = 0x5A ∨ n = 0x5D ∨ n = 0x62 ∨ n = 0x69 ∨ (0x6B ≤ n ∧ n ≤ 0x6F) ∨ (0x78 ≤ n ∧ n ≤ 0x7C) then 0
  else if n = 0x3E ∨ (0x74 ≤ n ∧ n ≤ 0x76) then 2
  else if 0x7D ≤ n then 3
  else 1

/-- Append a record to the kernel fault log; a full log discards it and counts it (R290). -/
def State.klog (s : State) (kind : Nat) (c : Cause) (info unit tmask lo hi : Nat) : State :=
  let k := s.kregs
  let n := 2 ^ (k.klsize.toNat % 32)
  if k.klbase = 0 ∨ n ≤ (k.klprod - k.klcons).toNat then { s with kregs := { k with kllost := k.kllost + 1 } }
  else
    let s := s.memWrite (k.klbase.toNat + 32 * (k.klprod.toNat % n))
      (toBytes 1 kind ++ toBytes 1 c.toNat ++ toBytes 1 (grade c) ++ toBytes 1 info ++ toBytes 4 unit ++ toBytes 8 tmask ++ toBytes 8 lo
        ++ toBytes 8 hi)
    { s with kregs := { s.kregs with klprod := k.klprod + 1 } }

/-- A cause recorded against a unit (R69). -/
def State.blame (s : State) (u : UnitName) (c : Cause) : State := s.modUnit u (fun e => { e with last := some c })

/-- An uncorrectable line at an address has been returned: MEMORY_UNCORRECTABLE is recorded against its link and in the kernel log (R31). -/
def State.poisonFound (s : State) (pa : Nat) : State := (s.blame (.link (s.linkOf pa)) 0x77#7).klog 6 0x77#7 0 (s.linkOf pa) 0 0 0

/-- An access to an address that has failed leaves the record of R31. -/
def State.failedAt (s : State) (c : Cause) (pa : Nat) : State := if c = 0x77#7 then s.poisonFound pa else s

/-- One of some uncorrectable lines has been met, which of them is a free choice (R31). -/
def State.metLine (s : State) (l : List Nat) : State :=
  if l = [] then s
  else
    let n := s.choose l.length
    n.2.poisonFound (64 * nth 0 l n.1)

/-- An access of s, which f repeats, has met an uncorrectable line of this package where it fails with MEMORY_UNCORRECTABLE, and not for another reason: the
line is one that makes it fail by itself (R31; log entry 7). It is recorded in s', the state that the access leaves. -/
def State.metIn (s' s : State) (f : State → Option Cause) : State :=
  if f s = some 0x77#7 ∧ f { s with poison := [] } ≠ some 0x77#7 then s'.metLine (s.poison.filter (fun n => decide (f { s with poison := [n] } = some 0x77#7))) else s'

/-- Device memory of n bytes at a physical address has been read; an uncorrectable line among them is recorded (R31). -/
def State.readMet (s : State) (pa n : Nat) : State := s.metIn s (fun s => s.memFails pa n false)

/-- A read by a unit at va finds an uncorrectable line: at its translation, by TLB or by walk, or at the byte (R31, R148). -/
def State.unitFails (s : State) (u : UnitId) (va : Nat) : Option Cause :=
  match (s.tlbOf u).find? (fun e => e.maps (s.unitTenant u) va) with
  | some e => s.memFails (e.pa + va % 2 ^ e.lg) 1 false
  | none =>
    match s.walk (s.unitTenant u) va with
    | .leaf e => s.memFails (e.pa + va % 2 ^ e.lg) 1 false
    | .mem c => some c
    | _ => none

/-- A unit's own fetch or access at va has failed with cause c. An uncorrectable line that it met is recorded, but for one that its page walk has met and
recorded (R31). -/
def State.unitMet (s : State) (u : UnitId) (c : Cause) (va : Nat) : State :=
  if c ≠ 0x77#7 then s
  else
    match (s.thread u).walkFault with
    | some (_, x) => if x = 0x77#7 then s else s.metIn s (fun s => s.unitFails u va)
    | none => s.metIn s (fun s => s.unitFails u va)

/-- Interrupt a core (R270). -/
def State.interrupt (s : State) (k : Nat) (c : Cause) : State := s.modCore k (fun x => x.interrupt c)

/-! ## Taking an exception -/

/-- The stop area of context c of tile t (R266). -/
def State.stopArea (s : State) (t c : Nat) : Nat := s.kregs.stopbase.toNat + 0x20000 * (2 * t + c)

/-- A stop record as the number of its 24 bytes (R267). -/
def StopRec.word (r : StopRec) : Nat :=
  r.cause.toNat + 2 ^ 7 * r.stopped.toNat + 2 ^ 12 * r.eq.toNat + 2 ^ 15 * r.engine.toNat + 2 ^ 16 * r.dslot.toNat
    + 2 ^ 18 * r.grade.toNat + 2 ^ 20 * r.slotmask.toNat + 2 ^ 32 * r.pc.toNat + 2 ^ 64 * r.faddr.toNat + 2 ^ 128 * r.area.toNat

/-- Put values of a register file into bytes, n bytes each, from offset o. -/
def packRegs {w : Nat} (m : SMap Byte) (o n : Nat) (r : SMap (BitVec w)) : SMap Byte :=
  r.foldl (fun m e => mwrite 0 m (o + n * e.1) (toBytes n e.2.toNat)) m

/-- The delay slots still to run and the pending target (R124, R267). -/
def Thread.dslot (x : Thread) : Nat := match x.branch with | some b => b.left | none => 0
/-- The target of the pending branch that is taken; 0 with none and for one that is not taken, which has no target (R339, log entry 24). -/
def Thread.btgt (x : Thread) : Nat := match x.branch with | some b => if b.taken then b.target else 0 | none => 0
/-- The first 128 KiB of a context part: header, scalar registers, vector registers, spill memory (R266, R273). The bytes of the pending results and of
the streams are unstated; their contents stay in the context. -/
def Ctx.part (y : Ctx) : SMap Byte :=
  let x := y.x
  let m : SMap Byte := mwrite 0 [] 0 (toBytes 24 y.stop.word)
  let m := mwrite 0 m 24 (toBytes 8 x.btgt)
  let m := mwrite 0 m 32 (toBytes 2 y.lfsr.toNat)
  let m := mwrite 0 m 34 (toBytes 1 (match y.task with | some k => k.bprio.toNat | none => 0))
  let m := mwrite 0 m 40 (toBytes 8 x.ccycle)
  let m := mwrite 0 m 48 (toBytes 4 y.repEntry.toNat)
  let m := mwrite 0 m 52 (toBytes 1 y.repLc.toNat)
  let m := mwrite 0 m 56 (toBytes 4 y.devThr.toNat)
  let m := packRegs m 0x1000 8 x.g
  let m := packRegs m 0x1200 8 x.a
  let m := packRegs m 0x1280 8 x.am
  let m := mwrite 0 m 0x1300 (toBytes 16 (2 ^ 128 - 1))
  let m := packRegs m 0x1300 16 x.p
  let m := mwrite 0 m 0x1400 (toBytes 8 x.lc0.toNat)
  let m := mwrite 0 m 0x1408 (toBytes 8 x.lc1.toNat)
  let m := mwrite 0 m 0x1410 (toBytes 8 x.fpcsr.toNat)
  let m := mwrite 0 m 0x1418 (toBytes 8 y.ctxctl.toNat)
  let m := mwrite 0 m 0x1420 (toBytes 8 x.fmask.toNat)
  let m := packRegs m 0x2000 128 x.v
  y.spill.foldl (fun m e => mset 0 m (0x14000 + e.1) e.2) m

/-- n registers of w bits from bytes at physical address pa, stride n bytes; registers from first up. -/
def State.unpackRegs (s : State) (w pa n : Nat) : Nat → Nat → SMap (BitVec w)
  | 0, _ => []
  | k + 1, i =>
    let v := BitVec.ofNat w (s.memNat (pa + n * i) n)
    let t := State.unpackRegs s w pa n k (i + 1)
    if v = 0 then t else (i, v) :: t

/-- The context with the register part of its stop area reloaded, software's edits included (R263, R266). -/
def State.reloadPart (s : State) (pa : Nat) (y : Ctx) : Ctx :=
  let x := y.x
  let x := { x with
    g := s.unpackRegs 64 (pa + 0x1000) 8 63 1, a := s.unpackRegs 64 (pa + 0x1200) 8 16 0, am := s.unpackRegs 64 (pa + 0x1280) 8 16 0,
    p := s.unpackRegs 128 (pa + 0x1300) 16 15 1, v := s.unpackRegs 1024 (pa + 0x2000) 128 64 0,
    lc0 := BitVec.ofNat 32 (s.memNat (pa + 0x1400) 4), lc1 := BitVec.ofNat 32 (s.memNat (pa + 0x1408) 4),
    fpcsr := BitVec.ofNat 64 (s.memNat (pa + 0x1410) 8) &&& 0x3F03#64, check := bit (s.memNat (pa + 0x1418) 1) 0,
    fmask := BitVec.ofNat 64 (s.memNat (pa + 0x1420) 8) &&& 0x7F#64,
    branch := x.branch.map (fun b => { b with target := if b.taken then s.memNat (pa + 24) 8 else b.target }) }
  { y with x := x, spill := ((upto 0 4096).map (fun i => (i, s.memByte (pa + 0x14000 + i)))).filter (fun e => decide (e.2 ≠ 0)) }

/-- How a thread stops: the cause, the slots, the fault address (kept only for causes 0x20 to 0x23 and the memory causes that take their
place, R148, R267), where to resume, whether an engine stops it (R264), and where the delay slots that are left fall through to. -/
structure StopInfo where
  cause   : Cause
  slots   : Nat
  faddr   : W64
  pc      : Nat
  engine  : Option Nat
  through : Nat := 0
deriving DecidableEq, Repr

/-- CONTEXT_STOP: the register part to the stop area, STOPREC, a KIND 1 record in the kernel log, CC_EVENT to the tenant's core, in that
order (R262). -/
def State.contextStop (s : State) (t c : Nat) (i : StopInfo) : State :=
  let y := s.ctx t c
  let area := s.stopArea t c
  let r : StopRec :=
    { area := BitVec.ofNat 46 area, faddr := i.faddr, pc := BitVec.ofNat 32 i.pc, slotmask := BitVec.ofNat 12 i.slots,
      grade := BitVec.ofNat 2 (grade i.cause), dslot := BitVec.ofNat 2 y.x.dslot, engine := i.engine.isSome,
      eq := BitVec.ofNat 3 (i.engine.getD 0), stopped := true, cause := i.cause }
  let y := { y with stop := r, x := { y.x with pc := i.pc, hold := .none, walkFault := none, units := [] } }
  let s := s.setCtx t c y
  let s := ((s.memRegion area 0x20000 y.part).freeRegion (area + 0x4000) 0x10000).freeRegion (area + 0x15000) 0xB000
  let tn := (s.tile t).tenant.getD 0
  let s := s.klog 1 i.cause c t (2 ^ tn) 0 0
  s.interrupt (s.tenant tn).irqcore 0x6C#7

/-- The branch that a thread's delay slots follow was not taken, or was a loop end: they fall through (R339, R343). -/
def Thread.falls (x : Thread) : Bool := match x.branch with | some b => !b.taken | none => false

/-- A trap or interrupt on a control core, in one step: TEPC, TCAUSE, TFADDR, DSLOT and TBTGT are written, PMODE takes the mode and PIE
takes IE, IE becomes 0, the mode becomes kernel, fetch continues at TVEC, and an ENQ that held the core is over (R270). On a control core pc
counts half the virtual address (log entry 13). TBTGT of delay slots that fall through is where they fall through to (log entry 24). -/
def State.coreTrap (s : State) (k : Nat) (i : StopInfo) : State :=
  s.modCore k (fun y =>
    { y with
      tepc := BitVec.ofNat 64 (2 * i.pc), tcause := BitVec.ofNat 64 (i.slots % 4096 * 512 + grade i.cause * 128 + i.cause.toNat),
      tfaddr := i.faddr, dslot := BitVec.ofNat 2 y.x.dslot, tbtgt := BitVec.ofNat 64 (2 * (if y.x.falls then i.through else y.x.btgt)),
      falls := y.x.falls, pmode := y.kernel, pie := y.ie, ie := false, kernel := true, enq := none, enqDone := false,
      x := { y.x with pc := y.tvec.toNat / 2, branch := none, hold := .none, walkFault := none } })

/-- Taking an exception: a context stops (R262), a control core traps (R270). -/
def State.takeException (s : State) (u : UnitId) (i : StopInfo) : State :=
  match u with
  | .ctx t c => s.contextStop t c i
  | .core k => s.coreTrap k i

/-- The return from a trap (R271): mode from PMODE, IE from PIE, fetch at TEPC, and the delay slots that DSLOT records before the transfer to
TBTGT; those of a branch that was not taken fall through (R339, log entry 24). -/
def State.trapReturn (s : State) (k : Nat) : State :=
  s.modCore k (fun y =>
    { y with
      kernel := y.pmode, ie := y.pie,
      x := { y.x with
        pc := y.tepc.toNat / 2,
        branch := if y.dslot = 0#2 then none
          else some { target := y.tbtgt.toNat / 2, taken := !y.falls, left := y.dslot.toNat } } })

/-- FADDR of a stop for the failure marked in stream q: zero but for causes 0x20 to 0x23 (R267); for a DRN, which names no stream (q is 8),
the recorded address (R383). -/
def faddrOf (q : Nat) (c : Cause) (a : W64) : W64 := if 8 ≤ q ∨ (0x20 ≤ c.toNat ∧ c.toNat ≤ 0x23) then a else 0

/-- The stop for a poison mark removes it from its stream and clears the recorded failure (R364); that of a DRN clears the record (R383). -/
def State.dropMark (s : State) (u : UnitId) (q : Nat) : State :=
  match u with
  | .core _ => s
  | .ctx t c => s.modCtx t c (fun y =>
      let x := mget Stream.init y.q q
      { y with q := if q < 8 then mput y.q q { x with elems := x.elems.drop 1 } else y.q, fail := none })

/-! ## Issuing one slot -/

/-- Hold the thread of the bundle in hand (R117); a TLB miss asks for its walk (R149), an ENQ for the distributor's step (R386). -/
def State.holdUnit (s : State) (u : UnitId) (h : Hold) : State :=
  let s := s.modThread u (fun x => { x with hold := h })
  match h, u with
  | .walk va a, _ => s.startWalk u va a
  | .enq va q, .core k => s.modCore k (fun x => { x with enq := some (va, q), enqDone := false })
  | _, _ => s

/-- The bundle in hand does not issue: its slot faults, and the unit takes the exception, or it holds. -/
def State.refuse (s : State) (v : Verdict) : State :=
  let s := { s with cur := { s.cur with verdict := v } }
  match v with
  | .fault c a =>
    (s.unitMet s.cur.u c a.toNat).takeException s.cur.u { cause := c, slots := 2 ^ s.cur.slot, faddr := a, pc := s.cur.pc, engine := none }
  | .mark q c a =>
    (s.dropMark s.cur.u q).takeException s.cur.u
      { cause := c, slots := 2 ^ s.cur.slot, faddr := faddrOf q c a, pc := s.cur.pc, engine := none }
  | .held h => s.holdUnit s.cur.u h
  | _ => s

/-- One slot of the bundle in hand. A guard that is false: no effect (R338). Where the bundle's checks have passed, the effect; otherwise the
slot's own issue checks first (R260). -/
def issue (s : State) (guard : Bool) (check : Verdict) (commit : State → State) : Result :=
  if !guard then .next s
  else if s.cur.checked then .next (commit s)
  else
    match check with
    | .none => .next (commit s)
    | .ok => .next (commit s)
    | v => .next (s.refuse v)

/-- The first verdict that is not a pass. -/
def Verdict.andThen (a b : Verdict) : Verdict :=
  match a with
  | .none => b
  | .ok => b
  | v => v

/-- Fault when the condition holds. -/
def faultIf (b : Bool) (c : Cause) : Verdict := if b then .fault c 0 else .ok

/-- The cause of a verdict that faults. -/
def Verdict.cause : Verdict → Option Cause
  | .fault c _ => some c
  | .mark _ c _ => some c
  | _ => Option.none

/-- Of two verdicts of one slot: a fault stands over a hold, the lower cause over the higher (R260). -/
def Verdict.both (a b : Verdict) : Verdict :=
  match a.cause, b.cause with
  | some c, some d => if d.toNat < c.toNat then b else a
  | some _, Option.none => a
  | Option.none, some _ => b
  | Option.none, Option.none => a.andThen b

end Sys2Proof.Machine
end

