-- ==== Sys2Proof/Machine/Operands.lean ====
section
/-! DEFINITION. Operand forms: vector parts and elements with their guards (R319, R391, R392), local addresses through plain and handle-bound
registers (R361, R365), global addresses with their checks (R362, R363), barrier-word operands (R444). -/

namespace Sys2Proof.Machine

/-! ## Vector parts -/

/-- A part of a vector register: register, first bit, width (R319). -/
structure Part where
  reg : Nat
  off : Nat
  w   : Nat
deriving DecidableEq, Repr

/-- The part that a vector register field names at a width (R319). -/
def partOf (wid : BitVec 2) (f : BitVec 6) : Part :=
  let n := f.toNat
  if wid = 0#2 then { reg := n % 16, off := 256 * (n / 16), w := 256 }
  else if wid = 1#2 then { reg := n % 32, off := 512 * (n / 32), w := 512 }
  else { reg := n, off := 0, w := 1024 }

/-- The part's bits, as a number. -/
def Thread.part (x : Thread) (p : Part) : Nat := fld (x.rv p.reg) p.off p.w

/-- Element size in bits of a type code (R322). -/
def tyBits (t : Nat) : Nat :=
  nth 32 [32, 16, 16, 8, 8, 4, 8, 16, 32, 64, 8, 16, 32, 64, 2] t

/-- n elements of z bits, the lowest first. -/
def splitElems (z : Nat) : Nat → Nat → List Nat
  | 0, _ => []
  | n + 1, x => (x % 2 ^ z) :: splitElems z n (x / 2 ^ z)

/-- Elements joined into a number. -/
def joinElems (z : Nat) : List Nat → Nat
  | [] => 0
  | x :: t => x % 2 ^ z + 2 ^ z * joinElems z t

/-- Element e of size z of a destination part is active (R392). -/
def Thread.active (x : Thread) (p : BitVec 4) (d : Part) (z e : Nat) : Bool := x.guardAt p ((d.off + e * z) / 8)

/-- The active elements of n, as Booleans. -/
def Thread.activeList (x : Thread) (p : BitVec 4) (d : Part) (z n : Nat) : List Bool := (List.range n).map (x.active p d z)

/-- The bits that active elements of size z occupy from bit o up. -/
def maskOf (o z : Nat) : List Bool → Nat
  | [] => 0
  | b :: t => (if b then onesAt o z else 0) + maskOf (o + z) z t

/-- Values placed at the part's bits. -/
def atPart (d : Part) (x : Nat) : VReg := BitVec.ofNat 1024 (x * 2 ^ d.off)

/-! ## Local addresses -/

/-- Fields of an address mode register (R113). -/
def amStep (m : W64) : Int := signed 16 (fld m 48 16)
/-- LENGTH (R113). -/
def amLength (m : W64) : Nat := fld m 28 20
/-- BASE (R113). -/
def amBase (m : W64) : Nat := fld m 8 20

/-- A = a(AREG) + SignExt12(OFF) × scale (R361). -/
def Thread.lAddr (x : Thread) (m : BitVec 4) (off : BitVec 12) (scale : Nat) : W64 :=
  x.ra m.toNat + BitVec.ofInt 64 (off.toInt * (scale : Int))

/-- Byte i of an access at A: circular through the buffer in mode 3 (R361). -/
def amByte (am a : W64) (i : Nat) : Nat :=
  if fld am 0 2 = 3 then amBase am + floorMod (a.toInt + (i : Int) - (amBase am : Int)) (amLength am) else a.toNat + i

/-- A local access that passes its checks, or why it does not: the scratchpad addresses of its bytes. -/
structure Local where
  verdict : Verdict
  bytes   : List Nat
deriving DecidableEq, Repr

/-- Addresses of an access with HVALID 0: range, handle regions, tagged words (R125, R142, R145). -/
def plainLocal (t : Tile) (store : Bool) (l : List Nat) : Local :=
  let range := l.any (fun b => decide (Config.spadSize ≤ b))
  { verdict := ((faultIf (l.any t.inHandle) 0x27#7).both (faultIf (store && !range && l.any t.tagged) 0x28#7)).both (faultIf range 0x29#7),
    bytes := l }

/-- A verdict on a bound access and the addresses it leads to; a store to a tagged word faults (R145). -/
def untagged (t : Tile) (store : Bool) (v : Verdict) (l : List Nat) : Local :=
  { verdict := (faultIf (store && l.any t.tagged) 0x28#7).both v, bytes := l }

/-- Addresses of an access through handle n: offsets below SIZE, the state that R140 asks for, the front or back of a block, the row of a
ring (R140-R142, R145). -/
def boundLocal (t : Tile) (c n : Nat) (store : Bool) (l : List Nat) : Local :=
  let h := t.handle n
  let range := l.any (fun b => decide (h.size ≤ b))
  if h.kind = 0#2 then { verdict := .fault 0x27#7 0, bytes := l }
  else if range then { verdict := .fault 0x29#7 0, bytes := l }
  else if h.kind = 1#2 then
    let base := if store then h.back else h.front
    let ready := if store then (decide (h.state = 1#2) || (decide (h.state = 2#2) && h.b)) && decide (c ∈ h.ctxW) else decide (h.state = 2#2)
    untagged t store (if ready then .ok else .held (.handle n)) (l.map (fun b => base + b))
  else
    let base := h.rowAt (if store then h.pcount else h.ccount)
    let ready := if store then decide (h.held < h.rows) else decide (1 ≤ h.held)
    untagged t store (if ready then .ok else .held (.handle n)) (l.map (fun b => base + b))

/-- A handle-queue command names handle instance n. -/
def HCmd.names (n : Nat) : HCmd → Bool
  | .hopen i _ => decide (i = n)
  | .hpub i _ _ => decide (i = n)
  | .hrel i _ _ => decide (i = n)
  | _ => false

/-- A queued command of the context names handle instance n: its own later accesses through the handle wait for it (R471). -/
def Ctx.hqNames (y : Ctx) (n : Nat) : Bool := y.hq.any (HCmd.names n)

/-- A handle-queue command of tile t acts on the barrier word at a (R471). -/
def HCmd.onWord (t a : Nat) : HCmd → Bool
  | .binit b _ => decide (b = a)
  | .binitRel b => decide (b = a)
  | .barr ga _ _ => ga.getLsbD 63 && decide (fld ga 44 8 = 0) && decide (fld ga 32 12 = t) && decide (fld ga 0 20 = a)
  | _ => false

/-- The local access of an L slot (R361, R365): alignment on A, then each byte; a bound register waits for the context's queued handle
commands on its handle (R471). -/
def State.local (s : State) (u : UnitId) (m : BitVec 4) (off : BitVec 12) (size : Nat) (store : Bool) : Local :=
  let x := s.thread u
  let a := x.lAddr m off size
  let am := x.ram m.toNat
  let l := (List.range size).map (amByte am a)
  let t := s.tile (unitTile u)
  let r := if am.getLsbD 7 then boundLocal t (unitCtx u) (fld am 2 5) store l else plainLocal t store l
  let queued := am.getLsbD 7 && (t.ctx (unitCtx u)).hqNames (t.handle (fld am 2 5)).inst
  let v := (faultIf (decide (a.toNat % size ≠ 0)) 0x24#7).both r.verdict
  { r with verdict := v.both (if queued then .held (.handle (fld am 2 5)) else .ok) }

/-! ## Global addresses -/

/-- Where a global address leads (R362): its target scope (R363), its physical address for device memory, its tile and offset. -/
structure Target where
  verdict : Verdict
  tscope  : Nat
  pa      : Nat
deriving DecidableEq, Repr

/-- The physical window of status pages, registers and Weathervane (R70, R265). -/
def windowBase : Nat := 0x3F0000000000

/-- Pages of the window that only kernel mode reaches (R265). -/
def kernelOnly (p : Nat) : Bool := decide (windowBase ≤ p) && decide (p < 0x3F0020000000)

/-- KIND of a global address: true for a tile's scratchpad. -/
def gaTile (a : W64) : Bool := a.getLsbD 63
/-- PEER (R362). -/
def gaPeer (a : W64) : Nat := fld a 44 8
/-- TILE (R362). -/
def gaTileNo (a : W64) : Nat := fld a 32 12
/-- OFF (R362). -/
def gaOff (a : W64) : Nat := fld a 0 20

/-- The form of a global address is legal: zero fields, PEER, TILE (R363, check 1). -/
def gaFormOk (a : W64) : Bool :=
  if gaTile a then decide (fld a 52 11 = 0) && decide (fld a 20 12 = 0) && decide (gaPeer a ≤ 48) && decide (gaTileNo a < Config.tiles)
  else decide (fld a 56 7 = 0)

/-- The target scope seen from a tile (R363). -/
def gaScope (t : Nat) (a : W64) : Nat :=
  if !gaTile a then 3
  else if gaPeer a ≠ 0 then 4
  else if gaTileNo a = t then 0
  else if clusterOf (gaTileNo a) = clusterOf t then 1
  else if dieOf (gaTileNo a) = dieOf t then 2
  else 3

/-- Checks 1 to 3 of R363 on an address: form, scope, peer. -/
def State.gaChecks (s : State) (t scope : Nat) (a : W64) : Verdict :=
  (faultIf (!gaFormOk a) 0x2C#7).andThen <| (faultIf (decide (scope < gaScope t a)) 0x2D#7).andThen <|
    faultIf (gaTile a && decide (gaPeer a ≠ 0) && !(s.port (gaPeer a - 1)).up) 0x3A#7

/-- The checks of R363, in their order; a TLB miss holds. -/
def State.target (s : State) (u : UnitId) (scope : Nat) (a : W64) (size : Nat) (acc : Acc) : Target :=
  let t := unitTile u
  let v := (s.gaChecks t scope a).andThen (faultIf (decide (a.toNat % size ≠ 0)) 0x24#7)
  if gaTile a then { verdict := v, tscope := gaScope t a, pa := 0 }
  else
    match s.xlat u (fld a 0 56) acc with
    | .pa p => { verdict := v.andThen (if windowBase ≤ p then .fault 0x23#7 a else .ok), tscope := gaScope t a, pa := p }
    | .miss => { verdict := v.andThen (.held (.walk (fld a 0 56) acc)), tscope := gaScope t a, pa := 0 }
    | .bad c => { verdict := v.andThen (.fault c a), tscope := gaScope t a, pa := 0 }

/-- A virtual address of a control core's access or of a command block, read by a load at package scope: alignment and translation (R373,
R444), the lowest cause of those that the access meets once its walk has ended (R260). The low 56 bits are the address; a bit above them gives no page
(log entry 14). Memory that fails faults (R33, R507); the window is for control cores, its status pages and registers for kernel mode (R70, R265). -/
def State.vaccess (s : State) (u : UnitId) (a : W64) (size : Nat) (acc : Acc) : Target :=
  let al := faultIf (decide (a.toNat % size ≠ 0)) 0x24#7
  if fld a 56 8 ≠ 0 then { verdict := al.both (.fault 0x22#7 a), tscope := 3, pa := 0 }
  else
    match s.xlat u a.toNat acc with
    | .pa p =>
      let w := if windowBase ≤ p then (if !unitIsCore u || (kernelOnly p && !s.isKernel u) then .fault 0x23#7 a else .ok)
        else match s.memFails p size (acc = .write) with | some c => .fault c a | none => .ok
      { verdict := al.both w, tscope := 3, pa := p }
    | .miss => { verdict := .held (.walk a.toNat acc), tscope := 3, pa := 0 }
    | .bad c => { verdict := al.both (.fault c a), tscope := 3, pa := 0 }

/-! ## The Nib's configuration as an operand (R182, R183, R437) -/

/-- MODE of NIBCFG (R182). -/
def nMode (c : BitVec 128) : Nat := fld c 0 3
/-- OFMT. -/
def nOfmt (c : BitVec 128) : Nat := fld c 8 3
/-- TEFMT. -/
def nTefmt (c : BitVec 128) : Nat := fld c 18 2

/-- NIBCFG in g registers n and n + 1 (R437). -/
def Thread.nibWord (x : Thread) (n : Nat) : BitVec 128 := BitVec.ofNat 128 ((x.rg n).toNat + 2 ^ 64 * (x.rg (n + 1)).toNat)

/-- A reserved value of NIBCFG (R182, R183). -/
def nibReserved (c : BitVec 128) : Bool :=
  decide (4 ≤ nMode c) || decide (5 ≤ nOfmt c) || decide (nTefmt c = 3) || decide (4 ≤ fld c 31 3)

/-! ## Barrier words and plain scratchpad operands -/

/-- A g register that names a scratchpad address with alignment n: bits [63:20] zero, aligned (R444). -/
def spOperand (v : W64) (n : Nat) : Verdict :=
  (faultIf (decide (v.toNat % n ≠ 0)) 0x24#7).both (faultIf (decide (fld v 20 44 ≠ 0)) 0x29#7)

/-- A fault when some bits of a value that carry nothing are not zero (R444). -/
def reservedIf (b : Bool) : Verdict := faultIf b 0x06#7

end Sys2Proof.Machine
end

