-- ==== Sys2Proof/Machine/Fetch.lean ====
section
/-! DEFINITION. Fetching code: units, dictionary entries and the lengths of later chains (R133, R310, R311, R339). -/

namespace Sys2Proof.Machine

/-- The task's kernel, for a context that runs one. -/
def Ctx.kernel (y : Ctx) : Option KDesc := y.task.map Task.kernel

/-- The code unit at offset n of a thread's code (R311). A context reads its fetched lines, which stores do not reach (R312); a control core
reads through its translation. -/
def State.unitAt (s : State) (u : UnitId) (n : Nat) : UnitR :=
  match u with
  | .ctx t c =>
    let y := s.ctx t c
    match y.kernel with
    | none => .wait
    | some k =>
      if k.codelen ≤ n then .fault 0x0F#7 0
      else if y.x.units.any (fun e => decide (e.1 = n)) then .unit (mget 0 y.x.units n).toNat
      else
        let va := k.code.toNat + 2 * n
        match y.x.walkFault with
        | some (p, f) => if va / 65536 = p / 65536 then .fault (Acc.fetch.cause f) va else .wait
        | none => .wait
  | .core _ =>
    let va := 2 * n
    if 2 ^ 56 ≤ va then .fault 0x20#7 va
    else
      match s.xlat u va .fetch with
      | .pa p =>
        match s.memFails p 2 false with
        | some f => .fault f va
        | none => .unit (s.memNat p 2)
      | .miss => .wait
      | .bad f => .fault f va

/-- Entry i of a thread's dictionary (R133): none at or beyond DICTN. A control core has no dictionary (log entry 13). -/
def State.dictAt (s : State) (u : UnitId) (i : Nat) : Option Nat :=
  match u with
  | .core _ => none
  | .ctx t c =>
    match (s.ctx t c).kernel with
    | none => none
    | some k =>
      if k.dictn ≤ i then none
      else
        match (s.tile t).dicts.find? (fun d => decide (d.va = k.va)) with
        | some d => (d.entries[i]?).map BitVec.toNat
        | none => none

/-- The chain at offset n of a thread's code. -/
def State.chainAt (s : State) (u : UnitId) (n : Nat) : ChainR := fetchChain (s.unitAt u) (s.dictAt u) n

/-- The offset after the k chains from offset n, or why a length cannot be had (R339, R342). -/
def State.skipChains (s : State) (u : UnitId) : Nat → Nat → UnitR
  | 0, n => .unit n
  | k + 1, n =>
    match s.chainAt u n with
    | .chain c => State.skipChains s u k (n + c.len)
    | .wait => .wait
    | .fault c a => .fault c a

/-- Where the delay slots left to a core from pc on fall through to, as far as their lengths can be had (R123, R339). -/
def State.throughAt (s : State) (u : UnitId) (pc : Nat) : Nat :=
  if unitIsCore u then (match s.skipChains u (s.thread u).dslot pc with | .unit n => n | _ => 0) else 0

end Sys2Proof.Machine
end

