-- ==== Sys2Proof/Machine/Float.lean ====
section
/-! DEFINITION. The number formats and the exact arithmetic of chapter 6: a finite value is an exact dyadic, every operation is computed
exactly and rounded once (R151-R165). -/

namespace Sys2Proof.Machine

/-- A floating-point format (R151): width, exponent and mantissa field widths, bias; ieee: an all-ones exponent field is reserved for
infinities and NaNs; hasNan: the format has a NaN. -/
structure Fmt where
  width  : Nat
  ebits  : Nat
  mbits  : Nat
  bias   : Int
  ieee   : Bool
  hasNan : Bool
deriving DecidableEq, Repr

/-- FP32 (R151). -/
def f32 : Fmt := { width := 32, ebits := 8, mbits := 23, bias := 127, ieee := true, hasNan := true }
/-- FP16 (R151). -/
def f16 : Fmt := { width := 16, ebits := 5, mbits := 10, bias := 15, ieee := true, hasNan := true }
/-- BF16 (R151). -/
def bf16 : Fmt := { width := 16, ebits := 8, mbits := 7, bias := 127, ieee := true, hasNan := true }
/-- FP8 E4M3 (R151). -/
def e4m3 : Fmt := { width := 8, ebits := 4, mbits := 3, bias := 7, ieee := false, hasNan := true }
/-- FP8 E5M2 (R151). -/
def e5m2 : Fmt := { width := 8, ebits := 5, mbits := 2, bias := 15, ieee := true, hasNan := true }
/-- FP4 E2M1 (R151). -/
def e2m1 : Fmt := { width := 4, ebits := 2, mbits := 1, bias := 1, ieee := false, hasNan := false }

/-- The canonical NaN (R151). -/
def Fmt.nan (f : Fmt) : Nat :=
  if f.ieee then (2 ^ f.ebits - 1) <<< f.mbits + 2 ^ (f.mbits - 1) else 2 ^ (f.width - 1) - 1

/-- The pattern of +infinity, for a format that has one. -/
def Fmt.inf (f : Fmt) : Nat := (2 ^ f.ebits - 1) <<< f.mbits

/-- The pattern of the largest finite value (R151). -/
def Fmt.maxPat (f : Fmt) : Nat :=
  if f.ieee then f.inf - 1 else if f.hasNan then 2 ^ (f.width - 1) - 2 else 2 ^ (f.width - 1) - 1

/-- The sign bit. -/
def Fmt.sign (f : Fmt) (neg : Bool) : Nat := if neg then 2 ^ (f.width - 1) else 0

/-- A value: NaN, an infinity, or the exact dyadic (-1)^neg · m · 2^e. -/
inductive FV where
  | nan
  | inf (neg : Bool)
  | fin (neg : Bool) (m : Nat) (e : Int)
deriving DecidableEq, Repr

/-- The value of a pattern (R151). -/
def Fmt.val (f : Fmt) (x : Nat) : FV :=
  let neg := bit x (f.width - 1)
  let ef := bits x f.mbits f.ebits
  let m := bits x 0 f.mbits
  if f.ieee && decide (ef = 2 ^ f.ebits - 1) then (if m = 0 then .inf neg else .nan)
  else if !f.ieee && f.hasNan && decide (x % 2 ^ (f.width - 1) = 2 ^ (f.width - 1) - 1) then .nan
  else if ef = 0 then .fin neg m (1 - f.bias - f.mbits)
  else .fin neg (2 ^ f.mbits + m) ((ef : Int) - f.bias - f.mbits)

/-- Whether a pattern is a NaN. -/
def Fmt.isNan (f : Fmt) (x : Nat) : Bool := decide (f.val x = .nan)

/-- The sticky flags of R164; bit i of the 6-bit form is FPCSR bit 8 + i. -/
structure Flags where
  nv  : Bool := false
  of  : Bool := false
  uf  : Bool := false
  nx  : Bool := false
  rng : Bool := false
  sat : Bool := false
deriving DecidableEq, Repr

/-- No flag. -/
def Flags.none : Flags := {}

/-- Both sets of flags. -/
def Flags.or (a b : Flags) : Flags :=
  { nv := a.nv || b.nv, of := a.of || b.of, uf := a.uf || b.uf, nx := a.nx || b.nx, rng := a.rng || b.rng, sat := a.sat || b.sat }

/-- The flags in the order of FPCSR[13:8] (R111). -/
def Flags.toBits (f : Flags) : BitVec 6 :=
  BitVec.ofNat 6 (f.nv.toNat + 2 * f.of.toNat + 4 * f.uf.toNat + 8 * f.nx.toNat + 16 * f.rng.toNat + 32 * f.sat.toNat)

/-- A rounding mode (R111). -/
inductive RM where
  | rne | rtz | rdn | rup
deriving DecidableEq, Repr

/-- RM by its code in FPCSR[1:0]. -/
def RM.ofCode (n : Nat) : RM := if n = 0 then .rne else if n = 1 then .rtz else if n = 2 then .rdn else .rup

/-- Round the magnitude m · 2^e (plus a nonzero part below one unit of m when sticky) to a whole number of quanta 2^q.
Answers the number of quanta and whether the result is inexact. -/
def roundQ (rm : RM) (neg : Bool) (m : Nat) (e : Int) (sticky : Bool) (q : Int) : Nat × Bool :=
  let sh := q - e
  if sh ≤ 0 then
    let r := m <<< (-sh).toNat
    let up := sticky && (match rm with | .rne => false | .rtz => false | .rdn => neg | .rup => !neg)
    (if up then r + 1 else r, sticky)
  else
    let k := sh.toNat
    let r := m >>> k
    let rest := m % 2 ^ k
    let half := 2 ^ (k - 1)
    let inexact := decide (rest ≠ 0) || sticky
    let up := match rm with
      | .rne => decide (half < rest) || (decide (rest = half) && (sticky || decide (r % 2 = 1)))
      | .rtz => false
      | .rdn => neg && inexact
      | .rup => !neg && inexact
    (if up then r + 1 else r, inexact)

/-- The pattern of r quanta of 2^q, r at most 2^(mbits + 1). -/
def Fmt.encode (f : Fmt) (r : Nat) (q : Int) : Nat :=
  let (r, q) := if 2 ^ (f.mbits + 1) ≤ r then (r / 2, q + 1) else (r, q)
  if r < 2 ^ f.mbits then r else (q + f.mbits + f.bias).toNat <<< f.mbits + (r - 2 ^ f.mbits)

/-- Exceeds the largest finite value: r · 2^q, r having at most mbits + 2 bits. -/
def Fmt.overflows (f : Fmt) (r : Nat) (q : Int) : Bool :=
  match f.val f.maxPat with
  | .fin _ m e => if q ≤ e then decide (m <<< (e - q).toNat < r) else decide (m < r <<< (q - e).toNat)
  | _ => false

/-- What an overflow delivers (R159, R162). -/
def Fmt.overflow (f : Fmt) (rm : RM) (sat neg : Bool) : Nat × Flags :=
  if !f.hasNan then (f.sign neg + f.maxPat, { of := true, nx := true })
  else if sat then (f.sign neg + f.maxPat, { sat := true, nx := true })
  else
    let toInf := match rm with | .rne => true | .rtz => false | .rdn => neg | .rup => !neg
    if !toInf then (f.sign neg + f.maxPat, { of := true, nx := true })
    else if f.ieee then (f.sign neg + f.inf, { of := true, nx := true })
    else (f.nan, { of := true, nx := true })

/-- A nonzero magnitude is tiny in the format under RNE: judged after rounding with the exponent unbounded (R160). -/
def Fmt.tiny (f : Fmt) (m : Nat) (e : Int) : Bool :=
  let qu := e + (blen m : Int) - 1 - f.mbits
  decide (qu + (blen (roundQ .rne false m e false qu).1 : Int) - 1 < 1 - f.bias)

/-- Round a nonzero magnitude to the format (R158-R161): tininess is judged after rounding with the exponent unbounded (R160). -/
def Fmt.round (f : Fmt) (rm : RM) (sat neg : Bool) (m : Nat) (e : Int) (sticky : Bool) : Nat × Flags :=
  let top := e + (blen m : Int) - 1
  let emin := 1 - f.bias
  let qu := top - f.mbits
  let q := max qu (emin - f.mbits)
  let (ru, _) := roundQ rm neg m e sticky qu
  let (r, inexact) := roundQ rm neg m e sticky q
  if f.overflows ru qu then f.overflow rm sat neg
  else
    let tiny := decide (qu + (blen ru : Int) - 1 < emin)
    (f.sign neg + f.encode r q, { uf := tiny && inexact, nx := inexact })

/-- Deliver an exact value in a format, rounding once (R158-R162). -/
def Fmt.deliver (f : Fmt) (rm : RM) (sat : Bool) (x : FV) : Nat × Flags :=
  match x with
  | .nan => if f.hasNan then (f.nan, {}) else (0, { nv := true })
  | .inf neg =>
    if f.ieee then (f.sign neg + f.inf, {})
    else if f.hasNan then (if sat then (f.sign neg + f.maxPat, { sat := true }) else (f.nan, { nv := true }))
    else (f.sign neg + f.maxPat, if sat then { sat := true } else { nv := true })
  | .fin neg m e => if m = 0 then (f.sign neg, {}) else f.round rm sat neg m e false

/-- Exact product, and whether it is invalid: 0 × infinity (R164). -/
def FV.mul (a b : FV) : FV × Bool :=
  match a, b with
  | .nan, _ => (.nan, false)
  | _, .nan => (.nan, false)
  | .inf s, .inf t => (.inf (s != t), false)
  | .inf s, .fin t m _ => if m = 0 then (.nan, true) else (.inf (s != t), false)
  | .fin t m _, .inf s => if m = 0 then (.nan, true) else (.inf (s != t), false)
  | .fin s m e, .fin t n d => (.fin (s != t) (m * n) (e + d), false)

/-- The negated value. -/
def FV.neg : FV → FV
  | .nan => .nan
  | .inf s => .inf (!s)
  | .fin s m e => .fin (!s) m e

/-- The value without its sign. -/
def FV.abs : FV → FV
  | .nan => .nan
  | .inf _ => .inf false
  | .fin _ m e => .fin false m e

/-- A signed mantissa at exponent e, for a finite value with exponent at least e. -/
def FV.mant (s : Bool) (m : Nat) (e lo : Int) : Int :=
  let k : Int := ((m <<< (e - lo).toNat : Nat) : Int)
  if s then -k else k

/-- Exact sum, with the sign of an exact zero by R161, and whether it is invalid: infinities of opposite sign (R164). -/
def FV.add (rm : RM) (a b : FV) : FV × Bool :=
  match a, b with
  | .nan, _ => (.nan, false)
  | _, .nan => (.nan, false)
  | .inf s, .inf t => if s = t then (.inf s, false) else (.nan, true)
  | .inf s, .fin _ _ _ => (.inf s, false)
  | .fin _ _ _, .inf t => (.inf t, false)
  | .fin s m e, .fin t n d =>
    let lo := min e d
    let x := FV.mant s m e lo + FV.mant t n d lo
    if x = 0 then (.fin (if s = t then s else decide (rm = .rdn)) 0 0, false)
    else (.fin (decide (x < 0)) x.natAbs lo, false)

/-- Strictly below, for values that are not NaN; zeros are equal. -/
def FV.lt (a b : FV) : Bool :=
  match a, b with
  | .nan, _ => false
  | _, .nan => false
  | .inf s, .inf t => s && !t
  | .inf s, .fin _ _ _ => s
  | .fin _ _ _, .inf t => !t
  | .fin s m e, .fin t n d =>
    let lo := min e d
    decide (FV.mant s m e lo < FV.mant t n d lo)

/-- Equal, for values that are not NaN; zeros are equal. -/
def FV.eq (a b : FV) : Bool :=
  match a, b with
  | .nan, _ => false
  | _, .nan => false
  | a, b => !FV.lt a b && !FV.lt b a

/-- Add in a format (R394). -/
def fAdd (f : Fmt) (rm : RM) (a b : Nat) : Nat × Flags :=
  let (x, nv) := FV.add rm (f.val a) (f.val b)
  let (r, fl) := f.deliver rm false x
  (r, fl.or { nv := nv })

/-- Subtract in a format (R394). -/
def fSub (f : Fmt) (rm : RM) (a b : Nat) : Nat × Flags :=
  let (x, nv) := FV.add rm (f.val a) (f.val b).neg
  let (r, fl) := f.deliver rm false x
  (r, fl.or { nv := nv })

/-- Multiply in a format (R394). -/
def fMul (f : Fmt) (rm : RM) (a b : Nat) : Nat × Flags :=
  let (x, nv) := FV.mul (f.val a) (f.val b)
  let (r, fl) := f.deliver rm false x
  (r, fl.or { nv := nv })

/-- a·b + c·d of exact values, and whether any part is invalid. -/
def fvMul2Add (rm : RM) (a b c d : FV) : FV × Bool :=
  let (p, n1) := FV.mul a b
  let (q, n2) := FV.mul c d
  let (x, n3) := FV.add rm p q
  (x, n1 || n2 || n3)

/-- a·b + c, rounded once; negProduct: c - a·b (R394). -/
def fFma (f : Fmt) (rm : RM) (negProduct : Bool) (a b c : Nat) : Nat × Flags :=
  let (p, n1) := FV.mul (f.val a) (f.val b)
  let (x, n2) := FV.add rm (if negProduct then p.neg else p) (f.val c)
  let (r, fl) := f.deliver rm false x
  (r, fl.or { nv := n1 || n2 })

/-- The maximum (isMax) or minimum of R165: zeros ordered, a single NaN ignored. -/
def fMinMax (f : Fmt) (isMax : Bool) (a b : Nat) : Nat :=
  match f.isNan a, f.isNan b with
  | true, true => f.nan
  | true, false => b
  | false, true => a
  | false, false =>
    let below (x y : Nat) : Bool :=
      FV.lt (f.val x) (f.val y) || (FV.eq (f.val x) (f.val y) && bit x (f.width - 1) && !bit y (f.width - 1))
    if isMax then (if below a b then b else a) else (if below b a then b else a)

/-- Convert a pattern between formats (R162). -/
def fConv (src dst : Fmt) (rm : RM) (sat : Bool) (x : Nat) : Nat × Flags := dst.deliver rm sat (src.val x)

/-- Round to an integer (R163): n bits, signed or not. -/
def fvToInt (n : Nat) (sgn : Bool) (rm : RM) (sat : Bool) (x : FV) : Nat × Flags :=
  let hi : Int := if sgn then ((2 ^ (n - 1) : Nat) : Int) - 1 else ((2 ^ n : Nat) : Int) - 1
  let lo : Int := if sgn then -((2 ^ (n - 1) : Nat) : Int) else 0
  let mn := wrap n lo
  let mx := wrap n hi
  match x with
  | .nan => (0, { nv := true })
  | .inf true => (mn, if sat then { sat := true } else { nv := true })
  | .inf false => if sat then (mx, { sat := true }) else (mn, { nv := true })
  | .fin s m e =>
    let (r, inexact) := roundQ rm s m e false 0
    let v : Int := if s then -(r : Int) else (r : Int)
    if hi < v then (if sat then (mx, { sat := true, nx := true }) else (mn, { nv := true }))
    else if v < lo then (mn, if sat then { sat := true, nx := true } else { nv := true })
    else (wrap n v, { nx := inexact })

/-- An integer as an exact value. -/
def fvOfInt (v : Int) : FV := .fin (decide (v < 0)) v.natAbs 0

/-- Quotient of two finite magnitudes with 64 bits or more and a sticky bit. -/
def divMag (m n : Nat) : Nat × Int × Bool :=
  let k := blen n + 64
  let x := m <<< k
  (x / n, -(k : Int), decide (x % n ≠ 0))

/-- a / b rounded once to a format, for finite a and finite nonzero b. -/
def Fmt.div (f : Fmt) (rm : RM) (a b : FV) : Nat × Flags :=
  match a, b with
  | .fin s m e, .fin t n d =>
    if m = 0 then (f.sign (s != t), {})
    else
      let (q, k, st) := divMag m n
      f.round rm false (s != t) q (e - d + k) st
  | _, _ => (f.nan, {})

/-- The correctly rounded RNE reciprocal of a positive normal FP32 (R176). -/
def recipRNE32 (x : Nat) : Nat := (f32.div .rne (.fin false 1 0) (f32.val x)).1

/-- A valid tile scale: a positive normal FP32 (R157). -/
def scaleValid (x : Nat) : Bool := decide (0x00800000 ≤ x ∧ x < 0x7F800000)

/-- BF16 widened to FP32. -/
def widenBf16 (x : Nat) : Nat := (x % 2 ^ 16) <<< 16

/-- Integer square root by bits: r is the root so far, b the bit tried. -/
def isqrtLoop : Nat → Nat → Nat → Nat
  | 0, _, r => r
  | k + 1, x, r => if (r + 2 ^ k) * (r + 2 ^ k) ≤ x then isqrtLoop k x (r + 2 ^ k) else isqrtLoop k x r

/-- The integer square root. -/
def isqrt (x : Nat) : Nat := isqrtLoop (blen x / 2 + 1) x 0

/-- Square root correctly rounded, for a finite positive magnitude (R174). -/
def Fmt.sqrtMag (f : Fmt) (rm : RM) (m : Nat) (e : Int) : Nat × Flags :=
  let k : Nat := 2 * 64 + (if e % 2 = 0 then 0 else 1)
  let x := m <<< k
  let s := isqrt x
  f.round rm false false s ((e - (k : Int)) / 2) (decide (s * s ≠ x))

/-- The monotone image of a floating pattern of n bits (R166). -/
def image (n x : Nat) : Nat := if bit x (n - 1) then (2 ^ n - 1) - x % 2 ^ n else x % 2 ^ n + 2 ^ (n - 1)

/-- The inverse of the image (R166). -/
def invImage (n y : Nat) : Nat := if bit y (n - 1) then y % 2 ^ n - 2 ^ (n - 1) else (2 ^ n - 1) - y % 2 ^ n

/-- 2^k as an exact value. -/
def fvPow2 (k : Int) : FV := .fin false 1 k

/-- The value of an E8M0 byte (R153); 0xFF is NaN. -/
def e8m0 (b : Nat) : FV := if b % 256 = 255 then .nan else fvPow2 ((b % 256 : Nat) - 127 : Int)

/-- One block of 32 values encoded as MXFP4 (R154): the scale byte, the elements, and the flags of each element. -/
def mxEncode (xs : List FV) : Nat × List (Nat × Flags) :=
  let bad := xs.any (fun x => match x with | .fin _ _ _ => false | _ => true)
  if bad then (0xFF, xs.map (fun _ => (0, { nv := true })))
  else
    let top := xs.foldl (fun (t : Option Int) x =>
      match x with
      | .fin _ m e => if m = 0 then t else
          let k := e + (blen m : Int) - 1
          (match t with | none => some k | some j => some (max j k))
      | _ => t) none
    let sx : Int := match top with | none => -127 | some k => max (-127) (min 127 (k - 2))
    ((sx + 127).toNat, xs.map (fun x =>
      match x with
      | .fin s m e => if m = 0 then (e2m1.sign s, {}) else
          let (r, fl) := e2m1.round .rne false s m (e - sx) false
          (r, { fl with of := false })
      | _ => (0, {})))

end Sys2Proof.Machine
end

