-- ==== Sys2Proof/Machine/Flags.lean ====
section
/-! DEFINITION. Flags: the rounding mode, the masked-flag faults and the sticky flags of an operation (R111, R112, R164). -/

namespace Sys2Proof.Machine

/-- FPCSR.RM of a thread (R111). -/
def Thread.rm (x : Thread) : RM := RM.ofCode (fld x.fpcsr 0 2)

/-- FMASK.TDZ of a thread (R111). -/
def Thread.tdz (x : Thread) : Bool := x.fmask.getLsbD 6

/-- The cause of a masked flag, the lowest code first: FPCSR flag i traps as 0x10 + i when FMASK bit i is 1 (R111, R112). -/
def flagTrap (x : Thread) (f : Flags) : Verdict :=
  let hit := f.toBits &&& x.fmask.setWidth 6
  match (List.range 6).find? (fun i => hit.getLsbD i) with
  | some i => .fault (BitVec.ofNat 7 (0x10 + i)) 0
  | none => .ok

/-- All flags of a list ORed. -/
def orFlags (l : List Flags) : Flags := l.foldl Flags.or Flags.none

end Sys2Proof.Machine
end

