-- ==== Sys2Proof/Machine/Commit.lean ====
section
/-! DEFINITION. The end of a bundle that has committed: stream pops (R135), loop ends (R343), delay slots (R123), the next pc, the context cycle
and the stall cycles (R117). -/

namespace Sys2Proof.Machine

/-- Stream q of a context. -/
def Ctx.stream (y : Ctx) (q : Nat) : Stream := mget Stream.init y.q q
/-- The context with stream q replaced. -/
def Ctx.setStream (y : Ctx) (q : Nat) (x : Stream) : Ctx := { y with q := mput y.q q x }

/-- Elements behind the 16 of a stream wait in its backlog (R136, R137). -/
def Stream.refill (x : Stream) : Stream :=
  let n := 16 - x.elems.length
  { x with elems := x.elems ++ x.backlog.take n, backlog := x.backlog.drop n }

/-- Put an element at the end of a stream. -/
def Stream.push (x : Stream) (e : Elem) : Stream := Stream.refill { x with backlog := x.backlog ++ [e] }

/-- A stream of a context takes an element more: it holds fewer than 16, its tile is being cut and the element goes to the backlog, or
the task has ended and the element is discarded (R137, R346). -/
def Ctx.room (y : Ctx) (cutting : Bool) (q : Nat) : Bool := decide ((y.stream q).elems.length < 16) || cutting || y.ending

/-- An element arrives for stream q; output for a task that has ended is discarded (R346). -/
def Ctx.feed (y : Ctx) (q : Nat) (e : Elem) : Ctx :=
  if y.ending || y.task.isNone then y else y.setStream q ((y.stream q).push e)

/-- The NaN mask of a drained row: bit j for FP32 word j (R173, R410). -/
def nanMask (v : VReg) : BitVec 32 :=
  BitVec.ofNat 32 ((List.range 32).foldl (fun a j => a + (if f32.isNan (fld v (32 * j) 32) then 2 ^ j else 0)) 0)

/-- The marks of a drained row as sticky flags: NV, OF, SAT (R170). -/
def markFlags (m : BitVec 3) : BitVec 6 :=
  ({ nv := m.getLsbD 0, of := m.getLsbD 1, sat := m.getLsbD 2 } : Flags).toBits

/-- Pop the head of stream q: a row of q6 leaves its NaN mask and ORs its marks into FPCSR (R135, R170, R410). -/
def Ctx.pop (y : Ctx) (q : Nat) : Ctx :=
  let x := y.stream q
  match x.elems with
  | [] => y
  | e :: t =>
    let y := y.setStream q (Stream.refill { x with elems := t })
    if q = 6 then { y with nanRow := nanMask e.val, x := y.x.raise (markFlags e.marks) } else y

/-- The value a reader of w bits receives: low bits, zero-extended (R136). -/
def Elem.read (e : Elem) (w : Nat) : Nat := fld e.val 0 (min w e.width)

/-- The innermost active level and its number, a level that the bundle's own LOOP has just opened left out (R342, R343). -/
def Thread.innermost (x : Thread) (opened : Option Nat) : Option (Nat × LoopLevel) :=
  match x.loop1, x.loop0 with
  | some l, some m => if opened = some 1 then some (0, m) else some (1, l)
  | some l, none => if opened = some 1 then none else some (1, l)
  | none, some m => if opened = some 0 then none else some (0, m)
  | none, none => none

/-- The loop end of the innermost active level at the chain in hand (R343): lcN lands one less at latency 1, back to START, or the level ends
and the next outer one acts on the same chain. opened: the level that the bundle's own LOOP has made active; n: levels still to look at. -/
def Thread.loopEnd (x : Thread) (pc : Nat) (opened : Option Nat) : Nat → Option Nat → Thread × Option Nat
  | 0, j => (x, j)
  | n + 1, j =>
    match x.innermost opened with
    | none => (x, j)
    | some (k, l) =>
      if l.stop ≠ pc then (x, j)
      else
        let v := (if k = 1 then x.lc1 else x.lc0).toNat
        let x := x.pendAt (.lc k) (BitVec.ofNat 1024 (v - 1)) (BitVec.allOnes 1024) 1 0
        let x := { x with branch := some { target := 0, taken := false, left := 2 } }
        if v - 1 ≠ 0 then (x, some l.start)
        else Thread.loopEnd (if k = 1 then { x with loop1 := none } else { x with loop0 := none }) pc opened n j

/-- Count one delay slot: the pending target when the last has run (R123). -/
def Thread.delay (x : Thread) : Thread × Option Nat :=
  match x.branch with
  | none => (x, none)
  | some b =>
    if b.left ≤ 1 then ({ x with branch := none }, if b.taken then some b.target else none)
    else ({ x with branch := some { b with left := b.left - 1 } }, none)

/-- The control flow of a committed bundle: delay slots, then loop ends, then the next pc. -/
def Thread.flow (x : Thread) (c : Cur) : Thread :=
  let d := x.delay
  let l := d.1.loopEnd c.pc c.opened 2 none
  let next := match l.2 with
    | some n => n
    | none => match d.2 with
      | some n => n
      | none => match c.jump with
        | some n => n
        | none => c.next
  { l.1 with pc := next, stallLeft := c.stall, hold := .none, walkFault := none }

/-- The streams named by readers that act pop once each (R135). -/
def Ctx.popAll (y : Ctx) (l : List Nat) : Ctx := l.eraseDups.foldl Ctx.pop y

/-- The end of the bundle in hand (R117, R123, R135, R343, R346). -/
def State.finish (s : State) : State :=
  if s.cur.finished then s
  else
    let c := s.cur
    let s := { s with cur := { c with finished := true } }
    let s := match c.u with
      | .ctx t k => s.modCtx t k (fun y => y.popAll c.pops)
      | .core _ => s
    let s := s.modThread c.u (fun x => x.flow c)
    let s := s.advance c.u
    match c.u with
    | .ctx t k => s.modCtx t k (fun y => if y.ending then { y with x := { y.x with pend := [], branch := none, stallLeft := 0 } } else y)
    | .core _ => s

end Sys2Proof.Machine
end

