-- ==== Sys2Proof/Machine/Address.lean ====
section
/-! DEFINITION. The address slot (R360): unguarded updates of a and am registers at latency 1. -/

namespace Sys2Proof.Machine

/-- The bit-reversed update Brv(x) of R360. -/
def brv (x m : W64) (k : Int) : W64 :=
  let step := amStep m
  let len := amLength m
  if step = 0 ∨ len = 0 then x
  else
    let z := ctz 64 step.natAbs
    let n := 63 - clz 64 len
    if n ≤ z then BitVec.ofNat 64 (amBase m)
    else
      let w := n - z
      let j := ((x - BitVec.ofNat 64 (amBase m)).toNat >>> z) % 2 ^ w
      let r := wrap w ((revBits w j : Int) + k * (if step < 0 then -1 else 1))
      BitVec.ofNat 64 (amBase m + (revBits w r) <<< z)

/-- An AG update of ad from a(AS) and am(AM), which are read by R120. -/
def agOp (ad src am : BitVec 4) (f : W64 → W64 → W64) (s : State) : Result :=
  issue s true .ok (fun s =>
    let x := s.thread s.cur.u
    s.result64 s.cur.u (.a ad.toNat) (f (x.ra src.toNat) (x.ram am.toNat)) 1)

/-- d = k·STEP as a 64-bit signed product (R360). -/
def agDelta (imm : BitVec 4) (m : W64) : W64 := BitVec.ofInt 64 (imm.toInt * amStep m)

/-- ALI: ad ← g(S) + k (R360). -/
def execAli (imm gs ad : BitVec 4) (s : State) : Result :=
  issue s true .ok (fun s => s.result64 s.cur.u (.a ad.toNat) ((s.thread s.cur.u).rg gs.toNat + imm.signExtend 64) 1)

/-- AADD: ad ← x + d (R360). -/
def execAadd (imm am src ad : BitVec 4) (s : State) : Result := agOp ad src am (fun x m => x + agDelta imm m) s

/-- AMOD: ad ← FloorMod(x + d, LENGTH), 0 when LENGTH is 0 (R360). -/
def execAmod (imm am src ad : BitVec 4) (s : State) : Result :=
  agOp ad src am (fun x m => BitVec.ofNat 64 (floorMod (x + agDelta imm m).toInt (amLength m))) s

/-- ABRV: ad ← Brv(x) (R360). -/
def execAbrv (imm am src ad : BitVec 4) (s : State) : Result := agOp ad src am (fun x m => brv x m imm.toInt) s

/-- ACIR: ad ← BASE + FloorMod(x - BASE + d, LENGTH), BASE when LENGTH is 0 (R360). -/
def execAcir (imm am src ad : BitVec 4) (s : State) : Result :=
  agOp ad src am (fun x m =>
    BitVec.ofNat 64 (amBase m + floorMod (x - BitVec.ofNat 64 (amBase m) + agDelta imm m).toInt (amLength m))) s

/-- AMSET: am(M) ← g(S) (R360). -/
def execAmset (am gs : BitVec 4) (s : State) : Result :=
  issue s true .ok (fun s => s.result64 s.cur.u (.am am.toNat) ((s.thread s.cur.u).rg gs.toNat) 1)

end Sys2Proof.Machine
end

