-- ==== Sys2Proof/Machine/Convert.lean ====
section
/-! DEFINITION. Conversion of one element between the types of R322 (R162, R163, R357, R402), and integer types (R155). -/

namespace Sys2Proof.Machine

/-- The floating-point format of type codes 0 to 5. -/
def fmtOf (t : Nat) : Option Fmt :=
  match t with
  | 0 => some f32
  | 1 => some bf16
  | 2 => some f16
  | 3 => some e4m3
  | 4 => some e5m2
  | 5 => some e2m1
  | _ => none

/-- Types 6 to 9 are signed (R322). -/
def tySigned (t : Nat) : Bool := decide (6 ≤ t ∧ t ≤ 9)

/-- The integer value of a pattern of an integer type. -/
def intOf (t x : Nat) : Int := if tySigned t then signed (tyBits t) x else ((x % 2 ^ tyBits t : Nat) : Int)

/-- The range of an integer type. -/
def intMin (t : Nat) : Int := if tySigned t then -((2 ^ (tyBits t - 1) : Nat) : Int) else 0
/-- The largest value of an integer type. -/
def intMax (t : Nat) : Int := if tySigned t then ((2 ^ (tyBits t - 1) : Nat) : Int) - 1 else ((2 ^ tyBits t : Nat) : Int) - 1

/-- Clamp to an integer type; a clamp sets SAT and NX (R155, R164). -/
def clampInt (t : Nat) (v : Int) : Nat × Flags :=
  if intMax t < v then (wrap (tyBits t) (intMax t), { sat := true, nx := true })
  else if v < intMin t then (wrap (tyBits t) (intMin t), { sat := true, nx := true })
  else (wrap (tyBits t) v, {})

/-- Deliver an integer in a type: to a float rounded (R163), to an integer exact, clamped or cut to its low bits (R402). -/
def deliverInt (dst : Nat) (rm : RM) (sat : Bool) (v : Int) : Nat × Flags :=
  match fmtOf dst with
  | some f => f.deliver rm false (fvOfInt v)
  | none =>
    if intMin dst ≤ v ∧ v ≤ intMax dst then (wrap (tyBits dst) v, {})
    else if sat then clampInt dst v
    else (wrap (tyBits dst) v, {})

/-- A ternary code's value, and whether it is the reserved code (R156). -/
def ternOf (c : Nat) : Int × Bool :=
  if c % 4 = 1 then (1, false) else if c % 4 = 3 then (-1, false) else (0, decide (c % 4 = 2))

/-- Convert an element (R162, R163, R402). The same type keeps its pattern, a float NaN made canonical. -/
def convElem (src dst : Nat) (rm : RM) (sat : Bool) (x : Nat) : Nat × Flags :=
  if src = dst then
    match fmtOf src with
    | some f => (if f.isNan x then f.nan else x, {})
    | none => (x, {})
  else if src = 14 then
    let t := ternOf x
    let r := deliverInt dst rm sat t.1
    (r.1, r.2.or { nv := t.2 })
  else
    match fmtOf src with
    | some f =>
      match fmtOf dst with
      | some g => fConv f g rm sat x
      | none => fvToInt (tyBits dst) (tySigned dst) rm sat (f.val x)
    | none => deliverInt dst rm sat (intOf src x)

end Sys2Proof.Machine
end

