-- ==== Sys2Proof/Machine/Crypto.lean ====
section
/-! DEFINITION. The published algorithms that the spec names: SHA-256, HMAC-SHA-256, ECDSA P-256 verification and CRC-32 (R14, R27, R39, R75; log
entry 18). -/

namespace Sys2Proof.Machine

/-! ## SHA-256 -/

/-- The integer n-th root of x, found bit by bit: b further bits below the root r so far. -/
def rootFrom (n x : Nat) : Nat → Nat → Nat
  | 0, r => r
  | b + 1, r => rootFrom n x b (if (r + 2 ^ b) ^ n ≤ x then r + 2 ^ b else r)

/-- A number below 312 is prime: no smaller number from 2 up divides it. -/
def isPrime (p : Nat) : Bool := decide (2 ≤ p) && (upto 2 (min 16 (p - 2))).all (fun d => p % d != 0)

/-- The first 64 primes; FIPS 180-4 draws every constant of SHA-256 from them. -/
def firstPrimes : List Nat := (List.range 312).filter isPrime

/-- The 32 bits behind the point of the n-th root of p. -/
def rootFraction (n p : Nat) : BitVec 32 := BitVec.ofNat 32 (rootFrom n (p <<< (32 * n)) 38 0)

/-- The constant of each of the 64 rounds: from the cube root of each prime. -/
def roundConstants : List (BitVec 32) := firstPrimes.map (rootFraction 3)

/-- The eight words a hash starts from: from the square roots of the first eight primes. -/
def hashStart : List (BitVec 32) := (firstPrimes.take 8).map (rootFraction 2)

/-- Exclusive or of a word turned right by each count of a list. -/
def turns (x : BitVec 32) (l : List Nat) : BitVec 32 := l.foldl (fun acc n => acc ^^^ x.rotateRight n) 0#32

/-- Sixteen words of the message, oldest first, moved on by one: the oldest makes room for the word that follows them. -/
def nextWords (w : List (BitVec 32)) : List (BitVec 32) :=
  let near := nth 0#32 w 1
  let far := nth 0#32 w 14
  w.drop 1 ++ [nth 0#32 w 0 + (turns near [7, 18] ^^^ near >>> 3) + nth 0#32 w 9 + (turns far [17, 19] ^^^ far >>> 10)]

/-- Bit by bit, the first word chooses between the second and the third. -/
def choose32 (c x y : BitVec 32) : BitVec 32 := y ^^^ (c &&& (x ^^^ y))

/-- Bit by bit, what most of three words hold. -/
def most32 (x y z : BitVec 32) : BitVec 32 := x &&& y ||| (x ||| y) &&& z

/-- The eight working words, moved on by one round with its constant and message word added into k. -/
def hashRound (h : List (BitVec 32)) (k : BitVec 32) : List (BitVec 32) :=
  let v := nth 0#32 h
  let low := v 7 + k + turns (v 4) [6, 11, 25] + choose32 (v 4) (v 5) (v 6)
  let top := low + turns (v 0) [2, 13, 22] + most32 (v 0) (v 1) (v 2)
  [top] ++ (h.take 3) ++ [v 3 + low] ++ (h.drop 4).take 3

/-- The rounds of a list of constants, from the working words h with the message words w. -/
def hashRounds : List (BitVec 32) → List (BitVec 32) → List (BitVec 32) → List (BitVec 32)
  | [], _, h => h
  | k :: t, w, h => hashRounds t (nextWords w) (hashRound h (k + nth 0#32 w 0))

/-- Big-endian 32-bit words of bytes, n of them. -/
def wordsBE : Nat → List Byte → List (BitVec 32)
  | 0, _ => []
  | n + 1, l => BitVec.ofNat 32 (ofBytesBE (l.take 4)) :: wordsBE n (l.drop 4)

/-- The hash after n further blocks of 64 bytes. -/
def hashBlocks : Nat → List Byte → List (BitVec 32) → List (BitVec 32)
  | 0, _, h => h
  | n + 1, l, h => hashBlocks n (l.drop 64) (List.zipWith (fun x y => x + y) h (hashRounds roundConstants (wordsBE 16 (l.take 64)) h))

/-- SHA-256 of a message, as 32 bytes: the message, a 1 bit, zeros up to 8 bytes below a multiple of 64, and its length in bits. -/
def sha256 (m : List Byte) : List Byte :=
  let whole := roundUp (m.length + 9) 64
  let padded := m ++ 0x80#8 :: List.replicate (whole - m.length - 9) 0#8 ++ toBytesBE 8 (8 * m.length)
  (hashBlocks (whole / 64) padded hashStart).flatMap (fun w => toBytesBE 4 w.toNat)

/-- HMAC-SHA-256 under a key of 32 bytes. -/
def hmac256 (key m : List Byte) : List Byte :=
  let k := key ++ List.replicate (64 - key.length) 0#8
  sha256 (k.map (fun b => b ^^^ 0x5c#8) ++ sha256 (k.map (fun b => b ^^^ 0x36#8) ++ m))

/-! ## CRC-32 (IEEE 802.3) -/

/-- Eight bit steps. -/
def crcBits : Nat → BitVec 32 → BitVec 32
  | 0, c => c
  | n + 1, c => crcBits n (if c.getLsbD 0 then (c >>> 1) ^^^ 0xEDB88320#32 else c >>> 1)

/-- CRC-32 of bytes. -/
def crc32 (l : List Byte) : BitVec 32 := ~~~(l.foldl (fun c b => crcBits 8 (c ^^^ b.setWidth 32)) 0xFFFFFFFF#32)

/-! ## P-256 -/

/-- The field prime. -/
def pP : Nat := 0xffffffff00000001000000000000000000000000ffffffffffffffffffffffff
/-- The order of the base point. -/
def pN : Nat := 0xffffffff00000000ffffffffffffffffbce6faada7179e84f3b9cac2fc632551
/-- The coefficient b; a is -3. -/
def pB : Nat := 0x5ac635d8aa3a93e7b3ebbd55769886bc651d06b0cc53b0f63bce3c3e27d2604b
/-- The base point. -/
def pG : Nat × Nat :=
  (0x6b17d1f2e12c4247f8bce6e563a440f277037d812deb33a0f4a13945d898c296, 0x4fe342e2fe1a7f9b8ee7eb4a7c0f9e162bce33576b315ececbb6406837bf51f5)

/-- x to the power whose n low bits are those of e, modulo m. -/
def powMod (m x e : Nat) : Nat → Nat
  | 0 => 1
  | n + 1 => let r := powMod m x (e / 2) n; let r := r * r % m; if e % 2 = 1 then r * x % m else r

/-- The inverse modulo a prime of 256 bits. -/
def invMod (m x : Nat) : Nat := powMod m (x % m) (m - 2) 256

/-- A point in Jacobian coordinates; z 0 is the point at infinity. -/
abbrev Jac := Nat × Nat × Nat

/-- Difference modulo the field prime. -/
def subP (a b : Nat) : Nat := (a + pP - b % pP) % pP

/-- A point doubled. -/
def jacDouble (p : Jac) : Jac :=
  let (x, y, z) := p
  if z = 0 ∨ y = 0 then (1, 1, 0)
  else
    let z2 := z * z % pP
    let m := 3 * (subP x z2 * ((x + z2) % pP) % pP) % pP
    let y2 := y * y % pP
    let s := 4 * x * y2 % pP
    let x' := subP (m * m % pP) (2 * s % pP)
    (x', subP (m * subP s x' % pP) (8 * (y2 * y2 % pP) % pP), 2 * y * z % pP)

/-- Two points added. -/
def jacAdd (p q : Jac) : Jac :=
  let (x1, y1, z1) := p
  let (x2, y2, z2) := q
  if z1 = 0 then q else if z2 = 0 then p
  else
    let a := z1 * z1 % pP
    let b := z2 * z2 % pP
    let u1 := x1 * b % pP
    let u2 := x2 * a % pP
    let s1 := y1 * (b * z2 % pP) % pP
    let s2 := y2 * (a * z1 % pP) % pP
    if u1 = u2 then (if s1 = s2 then jacDouble p else (1, 1, 0))
    else
      let h := subP u2 u1
      let r := subP s2 s1
      let h2 := h * h % pP
      let h3 := h * h2 % pP
      let v := u1 * h2 % pP
      let x := subP (subP (r * r % pP) h3) (2 * v % pP)
      (x, subP (r * subP v x % pP) (s1 * h3 % pP), h * (z1 * z2 % pP) % pP)

/-- k times a point, k of n bits. -/
def jacMul (p : Jac) (k : Nat) : Nat → Jac
  | 0 => (1, 1, 0)
  | n + 1 => let r := jacDouble (jacMul p (k / 2) n); if k % 2 = 1 then jacAdd r p else r

/-- A point lies on P-256. -/
def onCurve (x y : Nat) : Bool := decide (x < pP) && decide (y < pP) && decide (y * y % pP = (x * x % pP * x + pB + 3 * pP - 3 * x) % pP)

/-- An ECDSA P-256 signature (r, s) over a digest verifies under a public key. -/
def ecdsaVerify (qx qy digest r s : Nat) : Bool :=
  if !onCurve qx qy || decide (r = 0) || decide (pN ≤ r) || decide (s = 0) || decide (pN ≤ s) then false
  else
    let w := invMod pN s
    let p := jacAdd (jacMul (pG.1, pG.2, 1) (digest % pN * w % pN) 256) (jacMul (qx, qy, 1) (r * w % pN) 256)
    if p.2.2 = 0 then false
    else
      let z := invMod pP (p.2.2 * p.2.2 % pP)
      decide (p.1 * z % pP % pN = r)

end Sys2Proof.Machine
end

