-- ==== Sys2Proof/Machine/Flits.lean ====
section
/-! DEFINITION. Flits: the layout and the retry of memory links (R27-R29) and of Saheth Link ports (R34-R37), and how a message is cut into them. -/

namespace Sys2Proof.Machine

/-! ## Any flit -/

/-- Bytes [59:0] with their CRC-32 (R27, R34). -/
def sealFlit (x : Nat) : BitVec 512 := BitVec.ofNat 512 (x % 2 ^ 480 + 2 ^ 480 * (crc32 (toBytes 60 x)).toNat)

/-- The CRC of a flit agrees with its bytes [59:0] (R27, R34). -/
def flitGood (f : BitVec 512) : Bool := decide (crc32 (toBytes 60 f.toNat) = BitVec.ofNat 32 (fld f 480 32))

/-- A sender whose flits were refused from n on sends them again out of its retry buffer (R29, R36). -/
def LinkEnd.replay (e : LinkEnd) (n : BitVec 12) : LinkEnd :=
  let l := (e.retry.dropWhile (fun x => decide (x.1 ≠ n))).map Prod.snd
  { e with wire := e.wire ++ l, resent := e.resent + l.length }

/-- A NAK of n: one more in a row for one SEQ, and the replay from it (R29, R36). -/
def LinkEnd.nak (e : LinkEnd) (n : BitVec 12) : LinkEnd :=
  { e with nakSeq := n, naks := if e.nakSeq = n then e.naks + 1 else 1 }.replay n

/-- The flits of the retry buffer that an acknowledgement of n covers: those through n. -/
def LinkEnd.through (e : LinkEnd) (n : BitVec 12) : List (BitVec 12 × BitVec 512) :=
  if e.retry.any (fun x => decide (x.1 = n)) then
    e.retry.takeWhile (fun x => decide (x.1 ≠ n)) ++ (e.retry.dropWhile (fun x => decide (x.1 ≠ n))).take 1
  else []

/-- Flits leave the retry buffer through an acknowledged SEQ, and a row of NAKs is over (R29). -/
def LinkEnd.release (e : LinkEnd) (n : BitVec 12) : LinkEnd :=
  let k := (e.through n).length
  { e with retry := e.retry.drop k, naks := if k = 0 then e.naks else 0 }

/-! ## Memory links (R27-R29) -/

/-- KIND of a flit. -/
def flitKind (f : BitVec 512) : Nat := fld f 12 4
/-- SEQ of a flit. -/
def flitSeq (f : BitVec 512) : BitVec 12 := BitVec.ofNat 12 (fld f 0 12)

/-- A flit of a memory link (R27). -/
def linkFlit (kind : Nat) (seq : BitVec 12) (body : List Byte) : BitVec 512 :=
  sealFlit (seq.toNat + 2 ^ 12 * (kind % 16) + 2 ^ 16 * ofBytes (body.take 58))

/-- The flits that a transfer of n data bytes occupies with its message header (R28). -/
def linkFlits (n : Nat) : Nat := (n + 8 + 57) / 58

/-- A transfer as flits of a kind from a SEQ on: a message header of 8 bytes, which tells the length (log entry 68), and the data, packed (R27, R28). -/
def linkFrame (kind : Nat) (seq : BitVec 12) (data : List Byte) : List (BitVec 512) :=
  let l := toBytes 8 data.length ++ data
  (List.range (linkFlits data.length)).map (fun i => linkFlit kind (seq + BitVec.ofNat 12 i) ((l.drop (58 * i)).take 58))

/-- The end that a flit comes from puts it out: the next one on the way to the other end, or with none on the way a new one, for which its retry
buffer of 256 has room (R29). A damaged flit stands for one that was sent with the CRC of its bytes. -/
def LinkEnd.sends (e : LinkEnd) (kind : Nat) (f : BitVec 512) : Option LinkEnd :=
  match e.wire with
  | g :: l => if flitKind g = kind ∧ (f = g ∨ flitGood f = false) then some { e with wire := l } else none
  | [] =>
    if (kind ≤ 1 ∨ kind = 4) ∧ flitKind f = kind ∧ flitSeq f = e.txSeq ∧ e.retry.length < 256 then
      some { e with txSeq := e.txSeq + 1, retry := e.retry ++ [(flitSeq f, sealFlit f.toNat)] }
    else none

/-- A receiver's NAK of what it does not take: it carries the expected SEQ (R29). -/
def LinkEnd.refuse (e : LinkEnd) : LinkEnd := { e with wire := e.wire ++ [linkFlit 3 e.rxSeq []] }

/-- The BODY of a flit is taken in; with all flits of its message it is whole (R28). -/
def LinkEnd.gather (e : LinkEnd) (f : BitVec 512) : LinkEnd :=
  let l := e.body ++ toBytes 58 (fld f 16 464)
  if 58 * linkFlits (ofBytes (l.take 8)) ≤ l.length then { e with body := [], moved := e.moved + 1 } else { e with body := l }

/-- A receiver takes a flit in order, and acknowledges it; a bad CRC or another SEQ is discarded with a NAK of the expected SEQ (R29). -/
def LinkEnd.receive (e : LinkEnd) (f : BitVec 512) : LinkEnd :=
  if flitGood f && decide (flitSeq f = e.rxSeq) then
    let e := if flitKind f ≤ 1 then e.gather f else e
    { e with rxSeq := e.rxSeq + 1, wire := e.wire ++ [linkFlit 2 (flitSeq f) []] }
  else e.refuse

/-! ## Saheth Link ports (R34-R37) -/

/-- The VC of a KIND (R35). -/
def vcOf (k : BitVec 4) : Nat :=
  if k = 0x2#4 ∨ k = 0x6#4 ∨ k = 0x8#4 ∨ k = 0xD#4 then 1 else if k = 0x4#4 then 2 else if k = 0x9#4 then 3 else 0

/-- KIND of a flit. -/
def fabKind (f : BitVec 512) : BitVec 4 := BitVec.ofNat 4 (fld f 28 4)
/-- TENANT of a flit. -/
def fabTenant (f : BitVec 512) : Nat := fld f 22 6
/-- VC of a flit. -/
def fabVc (f : BitVec 512) : Nat := fld f 20 2
/-- HSEQ of a flit. -/
def fabHseq (f : BitVec 512) : BitVec 10 := BitVec.ofNat 10 (fld f 10 10)
/-- REMAIN of a flit. -/
def fabRemain (f : BitVec 512) : Nat := fld f 0 10

/-- A flit of a Saheth Link port (R34). -/
def fabFlit (k : BitVec 4) (tenant hseq remain : Nat) (body : List Byte) : BitVec 512 :=
  sealFlit (remain % 2 ^ 10 + 2 ^ 10 * (hseq % 2 ^ 10) + 2 ^ 20 * vcOf k + 2 ^ 22 * (tenant % 64) + 2 ^ 28 * k.toNat + 2 ^ 32 * ofBytes (body.take 56))

/-- The bytes of a message: those of a retraction notice as R42 lays them out, of the other kinds a first BODY with what the message says, then its
data (log entry 19). -/
def FabMsg.bytes (m : FabMsg) (k : BitVec 4) : List Byte :=
  if k = 0x9#4 then m.data
  else
    toBytes 8 m.dst.toNat ++ toBytes 8 m.src.toNat ++ toBytes 8 m.tag.toNat ++ toBytes 8 m.arg.toNat ++ toBytes 4 m.data.length ++
      toBytes 4 m.cand.isSome.toNat ++ toBytes 16 (m.cand.getD 0).toNat ++ m.data

/-- A number of n bytes among those of a message. -/
def msgField (l : List Byte) (o n : Nat) : Nat := ofBytes ((l.drop o).take n)

/-- The message that bytes of a kind make (log entry 19). -/
def FabMsg.read (k : BitVec 4) (tenant : Nat) (l : List Byte) : FabMsg :=
  if k = 0x9#4 then { tenant := tenant, dst := 0, src := 0, tag := 0, arg := 0, data := l.take 56, cand := none }
  else
    { tenant := tenant, dst := BitVec.ofNat 64 (msgField l 0 8), src := BitVec.ofNat 64 (msgField l 8 8), tag := BitVec.ofNat 64 (msgField l 16 8),
      arg := BitVec.ofNat 64 (msgField l 24 8), data := (l.drop 56).take (msgField l 32 4),
      cand := if msgField l 36 4 = 0 then none else some (BitVec.ofNat 128 (msgField l 40 16)) }

/-- A message as flits, from an HSEQ on (R34). -/
def FabMsg.flits (m : FabMsg) (k : BitVec 4) (hseq : Nat) : List (BitVec 512) :=
  let l := m.bytes k
  let n := (l.length + 55) / 56
  (List.range n).map (fun i => fabFlit k m.tenant (hseq + i) (n - 1 - i) ((l.drop (56 * i)).take 56))

/-- A port that carries messages: trained, and not FAILED (R36). -/
def Port.live (x : Port) : Bool := x.up && !x.failed

/-- The messages whose flits have not gone into the retry buffer. -/
def Port.waiting (x : Port) : List (BitVec 4 × FabMsg) := x.out.drop (x.link.retry.filter (fun e => decide (fabRemain e.2 = 0))).length

/-- The flits of waiting messages go, while the retry buffer of 512 flits has room (R36). -/
def Port.pump : List (BitVec 4 × FabMsg) → Port → Port
  | [], x => x
  | e :: l, x =>
    let fl := e.2.flits e.1 x.link.txSeq.toNat
    if 512 < x.link.retry.length + fl.length then x
    else Port.pump l { x with link := { x.link with
      retry := x.link.retry ++ fl.map (fun f => ((fabHseq f).setWidth 12, f)), wire := x.link.wire ++ fl,
      txSeq := BitVec.ofNat 12 ((x.link.txSeq.toNat + fl.length) % 1024) } }

/-- A message goes behind those sent before it on the port (R37). -/
def Port.send (x : Port) (k : BitVec 4) (m : FabMsg) : Port := let x := { x with out := x.out ++ [(k, m)] }; Port.pump x.waiting x

/-- A hop acknowledgement (0xA) or a hop NAK (0xB) of an HSEQ leaves the port (R35, R36). The NAKs that it sends in a row are all for the one HSEQ it
expects; one that is taken in ends the row. -/
def Port.answers (x : Port) (good : Bool) (hseq : BitVec 10) : Port :=
  { x with refuses := if good then 0 else x.refuses + 1, link := { x.link with wire := x.link.wire ++ [fabFlit (if good then 0xA#4 else 0xB#4) 0 hseq.toNat 0 []] } }

/-- The HSEQ that the port expects next. -/
def Port.expected (x : Port) : BitVec 10 := x.link.rxSeq.setWidth 10

/-- Flits arrive, in order: a good one with the expected HSEQ is acknowledged and its BODY taken in; a bad CRC or another HSEQ discards it and all
behind it, with a NAK of the expected one (R36). The last flit of a message completes it. -/
def Port.takes (x : Port) : List (BitVec 512) → Port × Option FabMsg
  | [] => (x, none)
  | f :: l =>
    if flitGood f && decide (fabHseq f = x.expected) then
      let body := x.link.body ++ toBytes 56 (fld f 32 448)
      let y := { x with link := { x.link with rxSeq := BitVec.ofNat 12 ((x.link.rxSeq.toNat + 1) % 1024), body := body } }.answers true (fabHseq f)
      if fabRemain f = 0 then
        ({ y with link := { y.link with body := [], moved := y.link.moved + 1 } }, some (FabMsg.read (fabKind f) (fabTenant f) body))
      else y.takes l
    else (x.answers false x.expected, none)

/-- A flit that a port may send in a message of a kind: it travels on the VC of its KIND (R35). A damaged flit may say anything. -/
def fabFits (k : BitVec 4) (f : BitVec 512) : Bool := !flitGood f || (decide (fabKind f = k) && decide (fabVc f = vcOf k))

/-- Flits of a kind arrive at a live port and complete a message. -/
def Port.brings (x : Port) (k : BitVec 4) (flits : List (BitVec 512)) (m : FabMsg) : Prop :=
  x.live = true ∧ flits.all (fabFits k) = true ∧ (x.takes flits).2 = some m

end Sys2Proof.Machine
end

