-- ==== Sys2Proof/Machine/LocalMem.lean ====
section
/-! DEFINITION. What the L slots of a tile do in its own scratchpad and spill memory (R125-R130, R365, R366). -/

namespace Sys2Proof.Machine

/-- The part of a vector register that an L-slot access of n bytes names (R319). -/
def lPart (size : Nat) (r : BitVec 6) : Part :=
  partOf (if size = 32 then 0#2 else if size = 64 then 1#2 else 2#2) r

/-- The byte lanes of a vector access that are guarded on, by the place of each byte in the full register (R320, R365). -/
def laneList (x : Thread) (p : BitVec 4) (d : Part) (n : Nat) : List Bool := (List.range n).map (fun i => x.guardAt p (d.off / 8 + i))

/-- Scalar local load of size bytes (R365): zero-extended into a g register at latency 4. -/
def tileLoad (size : Nat) (p : BitVec 4) (off : BitVec 12) (m : BitVec 4) (r : BitVec 6) (s : State) : Result :=
  issue s ((s.thread s.cur.u).guard p) (s.local s.cur.u m off size false).verdict (fun s =>
    let a := s.local s.cur.u m off size false
    s.result64 s.cur.u (.g r.toNat) (BitVec.ofNat 64 (ofBytes (a.bytes.map (s.tile (unitTile s.cur.u)).padByte))) 4)

/-- Scalar local store of the low bytes of a g register (R365). -/
def tileStore (size : Nat) (p : BitVec 4) (off : BitVec 12) (m : BitVec 4) (r : BitVec 6) (s : State) : Result :=
  issue s ((s.thread s.cur.u).guard p) (s.local s.cur.u m off size true).verdict (fun s =>
    let a := s.local s.cur.u m off size true
    s.modTile (unitTile s.cur.u) (fun t => t.padSet (a.bytes.zip (toBytes size ((s.thread s.cur.u).rg r.toNat).toNat))))

/-- Vector local load: the lanes guarded on land at latency 4 (R365). -/
def tileVload (size : Nat) (p : BitVec 4) (off : BitVec 12) (m : BitVec 4) (r : BitVec 6) (s : State) : Result :=
  let d := lPart size r
  issue s ((laneList (s.thread s.cur.u) p d size).any id) (s.local s.cur.u m off size false).verdict (fun s =>
    let a := s.local s.cur.u m off size false
    s.result s.cur.u (.v d.reg) (atPart d (ofBytes (a.bytes.map (s.tile (unitTile s.cur.u)).padByte)))
      (BitVec.ofNat 1024 (maskOf d.off 8 (laneList (s.thread s.cur.u) p d size))) 4 0)

/-- The bytes of the lanes guarded on, with their addresses. -/
def keepLanes : List Bool → List (Nat × Byte) → List (Nat × Byte)
  | b :: bs, e :: es => if b then e :: keepLanes bs es else keepLanes bs es
  | _, _ => []

/-- Vector local store: the lanes guarded on (R365). -/
def tileVstore (size : Nat) (p : BitVec 4) (off : BitVec 12) (m : BitVec 4) (r : BitVec 6) (s : State) : Result :=
  let d := lPart size r
  issue s ((laneList (s.thread s.cur.u) p d size).any id) (s.local s.cur.u m off size true).verdict (fun s =>
    let a := s.local s.cur.u m off size true
    let x := s.thread s.cur.u
    s.modTile (unitTile s.cur.u) (fun t =>
      t.padSet (keepLanes (laneList x p d size) (a.bytes.zip (toBytes size (x.part d))))))

/-- The checks of a spill access (R366). -/
def spillCheck (off : BitVec 12) (size : Nat) : Verdict :=
  (faultIf (decide (off.toNat % size ≠ 0)) 0x24#7).both (faultIf (decide (Config.spillSize < off.toNat + size)) 0x25#7)

/-- The context in hand. -/
def State.curCtx (s : State) : Ctx := s.ctx (unitTile s.cur.u) (unitCtx s.cur.u)

/-- Spill load, latency 1 (R366). -/
def spillLoad (size : Nat) (p : BitVec 4) (off : BitVec 12) (r : BitVec 6) (s : State) : Result :=
  issue s ((s.thread s.cur.u).guard p) (spillCheck off size) (fun s =>
    s.result64 s.cur.u (.g r.toNat) (BitVec.ofNat 64 (ofBytes (mread 0 s.curCtx.spill off.toNat size))) 1)

/-- Spill store (R366). -/
def spillStore (size : Nat) (p : BitVec 4) (off : BitVec 12) (r : BitVec 6) (s : State) : Result :=
  issue s ((s.thread s.cur.u).guard p) (spillCheck off size) (fun s =>
    s.modCtx (unitTile s.cur.u) (unitCtx s.cur.u) (fun y =>
      { y with spill := mwrite 0 y.spill off.toNat (toBytes size ((s.thread s.cur.u).rg r.toNat).toNat) }))

end Sys2Proof.Machine
end

