-- ==== Sys2Proof/Machine/Handle.lean ====
section
/-! DEFINITION. Handles (R138-R142): readers and writers, ring reservations, and the handle instructions with the steps of the handle
queue (R374-R377). -/

namespace Sys2Proof.Machine

/-! ## Instances, readers and writers -/

/-- The entry of handle instance n, allocated or being freed; an unallocated one where there is none. -/
def Tile.inst (x : Tile) (n : Nat) : HEntry :=
  match x.handles.find? (fun e => decide (e.2.kind ≠ 0#2 ∧ e.2.inst = n)) with
  | some e => e.2
  | none => (x.freeing.find? (fun h => decide (h.inst = n))).getD HEntry.init

/-- Every entry changed, allocated or being freed. -/
def Tile.mapHandles (x : Tile) (f : HEntry → HEntry) : Tile :=
  { x with handles := x.handles.map (fun e => (e.1, f e.2)), freeing := x.freeing.map f }

/-- Handle instance n changed. -/
def Tile.modInst (x : Tile) (n : Nat) (f : HEntry → HEntry) : Tile :=
  x.mapHandles (fun h => if h.kind ≠ 0#2 ∧ h.inst = n then f h else h)

/-- Rows of reservations not yet counted. -/
def outstanding (l : List Resv) : Nat := l.foldl (fun a r => a + r.rows) 0

/-- The rows to count and the reservations left: in reservation order, an ended one counts whole (R141). -/
def settleRes : List Resv → Nat × List Resv
  | [] => (0, [])
  | r :: t =>
    if r.ended then
      let x := settleRes t
      (r.rows + x.1, x.2)
    else (r.done, { r with rows := r.rows - r.done, done := 0 } :: t)

/-- Pointers advanced over the rows done, in reservation order (R141). -/
def HEntry.settle (h : HEntry) : HEntry :=
  let w := settleRes h.wres
  let r := settleRes h.rres
  { h with wres := w.2, rres := r.2, pcount := h.pcount + BitVec.ofNat 32 w.1, ccount := h.ccount + BitVec.ofNat 32 r.1 }

/-- A writer starts on a block: FREE to FILLING, FULL to FULL with B (R139). -/
def HEntry.startFill (h : HEntry) : HEntry :=
  if h.state = 0#2 then { h with state := 1#2 } else if h.state = 2#2 then { h with b := true } else h

/-- An engine writer of rows rows can be accepted: a block not DRAINING; a ring with the rows free, the oldest writer issued being this one
(R140, R141). -/
def HEntry.canWrite (h : HEntry) (id rows : Nat) : Bool :=
  if h.kind = 1#2 then decide (h.state ≠ 3#2)
  else decide (h.held + outstanding h.wres + rows ≤ h.rows) && decide (h.wq.head? = some id)

/-- An engine reader of rows rows can be accepted: a block FULL; a ring with the rows present (R140, R141). -/
def HEntry.canRead (h : HEntry) (rows : Nat) : Bool :=
  if h.kind = 1#2 then decide (h.state = 2#2) else decide (outstanding h.rres + rows ≤ h.held)

/-- An engine writer is accepted. -/
def HEntry.startWrite (h : HEntry) (id rows : Nat) : HEntry :=
  let h := { h with wq := h.wq.filter (fun n => decide (n ≠ id)) }
  if h.kind = 1#2 then { h.startFill with writers := h.writers ++ [id] }
  else { h with wres := h.wres ++ [{ id := id, rows := rows, done := 0, ended := false }] }

/-- An engine reader is accepted. -/
def HEntry.startRead (h : HEntry) (id rows : Nat) : HEntry :=
  if h.kind = 1#2 then { h with readers := h.readers ++ [id] }
  else { h with rres := h.rres ++ [{ id := id, rows := rows, done := 0, ended := false }] }

/-- The row a reservation of id has reached, counted from pointer p. -/
def resRow (id : Nat) : BitVec 32 → List Resv → BitVec 32
  | p, [] => p
  | p, r :: t => if r.id = id then p + BitVec.ofNat 32 r.done else resRow id (p + BitVec.ofNat 32 r.rows) t

/-- Address of the row that writer id writes next, of a ring; the back of a block. -/
def HEntry.wbase (h : HEntry) (id : Nat) : Nat := if h.kind = 1#2 then h.back else h.rowAt (resRow id h.pcount h.wres)
/-- Address of the row that reader id reads next, of a ring; the front of a block. -/
def HEntry.rbase (h : HEntry) (id : Nat) : Nat := if h.kind = 1#2 then h.front else h.rowAt (resRow id h.ccount h.rres)

/-- One more row of a reservation done. -/
def rowDone (id : Nat) (l : List Resv) : List Resv := l.map (fun r => if r.id = id then { r with done := min r.rows (r.done + 1) } else r)

/-- Reader id is done with a row of a ring. -/
def HEntry.readRow (h : HEntry) (id : Nat) : HEntry := HEntry.settle { h with rres := rowDone id h.rres }
/-- Writer id has written a row of a ring. -/
def HEntry.wroteRow (h : HEntry) (id : Nat) : HEntry := HEntry.settle { h with wres := rowDone id h.wres }

/-- The last read of a DRAINING block frees its front (R139). -/
def HEntry.drained (h : HEntry) : HEntry :=
  if h.state = 3#2 ∧ h.readers = [] then (if h.b then { h with state := 1#2, b := false } else { h with state := 0#2 }) else h

/-- Command id is no longer a reader, in either phase: its declared rows count whole (R139, R141). -/
def HEntry.endRead (h : HEntry) (id : Nat) : HEntry :=
  HEntry.drained (HEntry.settle { h with
    readers := h.readers.filter (fun n => decide (n ≠ id)),
    rres := h.rres.map (fun r => if r.id = id then { r with ended := true } else r) })

/-- Command id has completed: no writer, no reader, and named by no queue (R141, R376). -/
def HEntry.finish (h : HEntry) (id : Nat) : HEntry :=
  HEntry.endRead (HEntry.settle { h with
    writers := h.writers.filter (fun n => decide (n ≠ id)), cmds := h.cmds.filter (fun n => decide (n ≠ id)),
    wq := h.wq.filter (fun n => decide (n ≠ id)), wres := h.wres.map (fun r => if r.id = id then { r with ended := true } else r) }) id

/-- Command id is discarded: it advances nothing (R141). -/
def HEntry.discard (h : HEntry) (id : Nat) : HEntry :=
  HEntry.drained { h with
    writers := h.writers.filter (fun n => decide (n ≠ id)), cmds := h.cmds.filter (fun n => decide (n ≠ id)),
    wq := h.wq.filter (fun n => decide (n ≠ id)), readers := h.readers.filter (fun n => decide (n ≠ id)),
    wres := h.wres.filter (fun r => decide (r.id ≠ id)), rres := h.rres.filter (fun r => decide (r.id ≠ id)) }

/-- Command id leaves every handle of the tile. -/
def Tile.finishCmd (x : Tile) (id : Nat) : Tile := x.mapHandles (fun h => h.finish id)
/-- Command id is discarded from every handle of the tile, and stands behind no other. -/
def Tile.discardCmd (x : Tile) (id : Nat) : Tile :=
  { x.mapHandles (fun h => h.discard id) with follows := x.follows.filter (fun f => decide (f.id ≠ some id)) }

/-- Command id, just issued, names instance n; writer: it will write it. -/
def Tile.nameCmd (x : Tile) (n id : Nat) (writer : Bool) : Tile :=
  x.modInst n (fun h => { h with cmds := h.cmds ++ [id], wq := if writer then h.wq ++ [id] else h.wq })

/-- The number of the next command, and the state that has counted it. -/
def State.stamp (s : State) : Nat × State := (s.seq, { s with seq := s.seq + 1 })

/-! ## HALLOC, HFREE, HSET (R374-R376) -/

/-- The entry a geometry word describes (R374). -/
def geomEntry (v : W64) (n : Nat) : HEntry :=
  { HEntry.init with inst := n, kind := BitVec.ofNat 2 (fld v 0 2), base := fld v 8 20, size := fld v 28 20, rows := fld v 48 16 }

/-- Two regions overlap. -/
def HEntry.overlaps (a b : HEntry) : Bool := decide (a.base < b.base + b.span) && decide (b.base < a.base + a.span)

/-- The geometry breaks R374: fields, scratchpad, regions of other handles (h itself apart), tagged words. -/
def Tile.geomBad (x : Tile) (h : Nat) (own : Bool) (v : W64) : Bool :=
  let e := geomEntry v 0
  decide (fld v 2 6 ≠ 0) || decide (e.kind = 0#2) || decide (e.kind = 3#2) || decide (e.size = 0) || decide (e.size % 16 ≠ 0)
    || decide (e.base % 16 ≠ 0) || (decide (e.kind = 1#2) && decide (e.rows ≠ 0)) || (decide (e.kind = 2#2) && decide (e.rows = 0))
    || decide (Config.spadSize < e.base + e.span)
    || x.handles.any (fun o => decide (o.2.kind ≠ 0#2) && !(own && decide (o.1 = h)) && o.2.overlaps e)
    || x.freeing.any (fun o => o.overlaps e) || x.tags.any (fun w => e.covers (x.padKey (8 * w)))

/-- The g register of the bundle in hand. -/
def State.g (s : State) (g : BitVec 6) : W64 := (s.thread s.cur.u).rg g.toNat
/-- The tile of the bundle in hand. -/
def State.curTile (s : State) : Tile := s.tile (unitTile s.cur.u)
/-- The state with the tile of the bundle in hand changed. -/
def State.modCurTile (s : State) (f : Tile → Tile) : State := s.modTile (unitTile s.cur.u) f
/-- The state with the context in hand changed. -/
def State.modCurCtx (s : State) (f : Ctx → Ctx) : State := s.modCtx (unitTile s.cur.u) (unitCtx s.cur.u) f

/-- HALLOC: the entry is written at issue, where the command completes (R282, R374). -/
def execHalloc (h : BitVec 5) (g : BitVec 6) (s : State) : Result :=
  issue s true ((faultIf (decide ((s.curTile.handle h.toNat).kind ≠ 0#2)) 0x27#7).both
      (faultIf (s.curTile.geomBad h.toNat false (s.g g)) 0x2E#7)) (fun s =>
    (s.modCurTile (fun x => { x.setHandle h.toNat (geomEntry (s.g g) x.nextId) with nextId := x.nextId + 1 })).counted (unitTile s.cur.u) 1)

/-- Why HSET may not rewrite a handle (R375). -/
def hsetBusy (e : HEntry) (v : W64) : Bool :=
  decide (e.kind ≠ BitVec.ofNat 2 (fld v 0 2)) || (decide (e.kind = 1#2) && decide (e.state ≠ 0#2))
    || (decide (e.kind = 2#2) && decide (e.pcount ≠ e.ccount)) || !e.cmds.isEmpty

/-- HSET: new geometry, state as HALLOC leaves it; it completes at issue (R282, R375). -/
def execHset (h : BitVec 5) (g : BitVec 6) (s : State) : Result :=
  issue s true ((faultIf (hsetBusy (s.curTile.handle h.toNat) (s.g g)) 0x27#7).both
      (faultIf (s.curTile.geomBad h.toNat true (s.g g)) 0x2E#7)) (fun s =>
    (s.modCurTile (fun x => x.setHandle h.toNat (geomEntry (s.g g) (x.handle h.toNat).inst))).counted (unitTile s.cur.u) 1)

/-- HFREE: KIND 0 at issue; the regions stay reserved until it completes (R376). -/
def execHfree (h : BitVec 5) (s : State) : Result :=
  issue s true (faultIf (decide ((s.curTile.handle h.toNat).kind = 0#2)) 0x27#7) (fun s =>
    s.modCurTile (fun x => { x.setHandle h.toNat HEntry.init with freeing := x.freeing ++ [x.handle h.toNat] }))

/-! ## The handle queue -/

/-- A queued command of either context names instance n. -/
def Tile.hqNames (x : Tile) (n : Nat) : Bool := (x.c0.hq ++ x.c1.hq).any (HCmd.names n)

/-- HFREE_COMPLETE: place k of the handles being freed is released once no command names it (R376). -/
def execHfreeComplete (t k : Nat) (s : State) : Result :=
  .next (match (s.tile t).freeing[k]? with
    | some h =>
      if h.cmds.isEmpty && !(s.tile t).hqNames h.inst then
        (s.modTile t (fun x => { x with freeing := dropNth x.freeing k })).counted t 1
      else s
    | none => s)

/-- Put a command at the end of the handle queue of the context in hand (R378). -/
def State.pushHq (s : State) (c : HCmd) : State := s.modCurCtx (fun y => { y with hq := y.hq ++ [c] })

/-- The instance that a handle number names now. -/
def State.instOf (s : State) (h : BitVec 5) : Nat := (s.curTile.handle h.toNat).inst

/-- HOPEN: a block only (R377). -/
def execHopen (h : BitVec 5) (s : State) : Result :=
  issue s true (faultIf (decide ((s.curTile.handle h.toNat).kind ≠ 1#2)) 0x27#7) (fun s => s.stamp.2.pushHq (.hopen (s.instOf h) s.stamp.1))

/-- The count of HPUB and HREL: 1 to ROWS on a ring (R377). -/
def ringCount (e : HEntry) (v : W64) : Verdict :=
  faultIf (decide (e.kind = 0#2) || (decide (e.kind = 2#2) && (decide (v.toNat = 0) || decide (e.rows < v.toNat)))) 0x27#7

/-- HPUB (R377). -/
def execHpub (h : BitVec 5) (g : BitVec 6) (s : State) : Result :=
  issue s true (ringCount (s.curTile.handle h.toNat) (s.g g)) (fun s => s.stamp.2.pushHq (.hpub (s.instOf h) (s.g g).toNat s.stamp.1))

/-- HREL (R377). -/
def execHrel (h : BitVec 5) (g : BitVec 6) (s : State) : Result :=
  issue s true (ringCount (s.curTile.handle h.toNat) (s.g g)) (fun s => s.stamp.2.pushHq (.hrel (s.instOf h) (s.g g).toNat s.stamp.1))

/-- HOPEN by context c, where it may execute (R140, R377). -/
def HEntry.hopen (h : HEntry) (c : Nat) : Option HEntry :=
  if h.kind = 1#2 ∧ h.state ≠ 3#2 then some { h.startFill with ctxW := if c ∈ h.ctxW then h.ctxW else h.ctxW ++ [c] } else none

/-- HPUB, where it may execute: front and back swap, or PCOUNT advances (R139-R141, R377). -/
def HEntry.hpub (h : HEntry) (n : Nat) : Option HEntry :=
  if h.kind = 2#2 then
    (if h.held + n ≤ h.rows then some { h with pcount := h.pcount + BitVec.ofNat 32 n } else none)
  else if (h.state = 1#2 ∨ (h.b ∧ h.readers = [])) ∧ h.state ≠ 0#2 ∧ h.writers = [] then
    some { h with state := 2#2, b := false, sel := !h.sel, ctxW := [] }
  else none

/-- HREL, where it may execute: the front is released, or CCOUNT advances (R139-R141, R377). -/
def HEntry.hrel (h : HEntry) (n : Nat) : Option HEntry :=
  if h.kind = 2#2 then (if n ≤ h.held then some { h with ccount := h.ccount + BitVec.ofNat 32 n } else none)
  else if h.state = 2#2 then
    some (if h.readers = [] then (if h.b then { h with state := 1#2, b := false } else { h with state := 0#2 }) else { h with state := 3#2 })
  else none

/-- The handle step at the head of a context's handle queue, where it may execute: the instance and its new entry. -/
def State.headStep (s : State) (t c : Nat) : Option (Nat × HEntry) :=
  let x := s.tile t
  match (x.ctx c).hq with
  | .hopen i _ :: _ => ((x.inst i).hopen c).map (fun h => (i, h))
  | .hpub i n _ :: _ => ((x.inst i).hpub n).map (fun h => (i, h))
  | .hrel i n _ :: _ => ((x.inst i).hrel n).map (fun h => (i, h))
  | _ => none

/-- The step at the head of the queue executes. -/
def State.doHead (s : State) (t c : Nat) : State :=
  match s.headStep t c with
  | some (i, h) => ((s.modTile t (fun x => x.modInst i (fun _ => h))).modCtx t c (fun y => { y with hq := y.hq.drop 1 })).counted t 1
  | none => s

/-! ## Barrier words (R379-R381) -/

/-- BINIT's value has only fields that the table gives (R379). -/
def binitBad (v : W64) : Bool := decide (fld v 57 7 ≠ 0) || decide (fld v 48 8 ≠ 0)

/-- BINIT: tag and write a word; it executes in the handle queue (R379). -/
def execBinit (gv ga : BitVec 6) (s : State) : Result :=
  issue s true (((spOperand (s.g ga) 8).both (faultIf (s.curTile.inHandle (fld (s.g ga) 0 20)) 0x27#7)).both (reservedIf (binitBad (s.g gv))))
    (fun s => s.pushHq (.binit (fld (s.g ga) 0 20) (s.g gv)))

/-- BINIT.rel: clear a tag (R380). -/
def execBinitRel (g : BitVec 6) (s : State) : Result :=
  issue s true (spOperand (s.g g) 8) (fun s => s.pushHq (.binitRel (fld (s.g g) 0 20)))

/-- BINIT executed at word a (R144, R379). -/
def Tile.binit (x : Tile) (a : Nat) (v : W64) : Tile :=
  let w := if fld v 0 48 = 0 then v ^^^ (1#64 <<< 56) else v
  (x.setTag a true).padWrite a (toBytes 8 w.toNat)

/-- BARR's address: a tagged word's tile at the bundle's scope (R381). -/
def barrCheck (s : State) (a : W64) : Verdict :=
  (faultIf (!gaTile a) 0x2C#7).both ((s.gaChecks (unitTile s.cur.u) s.cur.scope a).andThen (faultIf (decide (a.toNat % 8 ≠ 0)) 0x24#7))

/-- BARR: one arrival to a barrier word (R381). -/
def execBarr (g : BitVec 6) (s : State) : Result :=
  issue s true (barrCheck s (s.g g)) (fun s => s.stamp.2.pushHq (.barr (s.g g) (gaScope (unitTile s.cur.u) (s.g g)) s.stamp.1))

end Sys2Proof.Machine
end

