-- ==== Sys2Proof/Machine/CopyCfg.lean ====
section
/-! DEFINITION. The configuration registers of a copy command and what they say of its size (R241, R242, R446, R448, R450), and the end of
an engine command (R144, R282, R444). -/

namespace Sys2Proof.Machine

/-- Register n of a staging file (R446). -/
def creg (r : SMap W64) (n : Nat) : W64 := mget 0 r n
/-- TXCFG.SRCT (R241). -/
def cSrcT (r : SMap W64) : Nat := fld (creg r 3) 18 4
/-- TXCFG.DSTT (R241). -/
def cDstT (r : SMap W64) : Nat := fld (creg r 3) 22 4
/-- TXCFG.CVMODE (R241). -/
def cMode (r : SMap W64) : Nat := fld (creg r 3) 26 2
/-- TXCFG.CMP (R241). -/
def cCmp (r : SMap W64) : Nat := fld (creg r 3) 28 2
/-- SPACE.SSPACE (R446). -/
def cSSpace (r : SMap W64) : Nat := fld (creg r 2) 5 1
/-- SPACE.DSPACE (R446). -/
def cDSpace (r : SMap W64) : Nat := fld (creg r 2) 13 2
/-- SPACE.SH (R446). -/
def cSH (r : SMap W64) : Nat := fld (creg r 2) 0 5
/-- SPACE.DH (R446). -/
def cDH (r : SMap W64) : Nat := fld (creg r 2) 8 5
/-- SPACE.DSTRM (R446). -/
def cStrm (r : SMap W64) : Nat := fld (creg r 2) 15 3
/-- RUNCFG.RUNM1 + 1 (R446). -/
def cRun (r : SMap W64) : Nat := fld (creg r 4) 0 12 + 1
/-- Iterations of level l (R446). -/
def cCnt (r : SMap W64) (l : Nat) : Nat := fld (creg r (0x10 + 2 * l)) 0 16 + 1
/-- SYNC.BW (R446). -/
def cBw (r : SMap W64) : Nat := fld (creg r 6) 0 20

/-- Iterations of levels 1 to 5: the rows of a ring (R449). -/
def cRows (r : SMap W64) : Nat := cCnt r 1 * cCnt r 2 * cCnt r 3 * cCnt r 4 * cCnt r 5
/-- Elements a command emits (R448). -/
def cElems (r : SMap W64) : Nat := cRows r * cCnt r 0 * cRun r

/-- Bytes of n elements of type code t; scale bytes apart (R242, R448). -/
def typeBytes (t n : Nat) : Nat := if 14 ≤ t then n * Config.reservedTypeBytes t else n * tyBits t / 8

/-- SSTEP of level l (R446). -/
def cSStep (r : SMap W64) (l : Nat) : Int := signed 32 (fld (creg r (0x11 + 2 * l)) 0 32)
/-- DSTEP of level l (R446). -/
def cDStep (r : SMap W64) (l : Nat) : Int := signed 32 (fld (creg r (0x11 + 2 * l)) 32 32)
/-- SEXT of level l (R446). -/
def cSExt (r : SMap W64) (l : Nat) : Nat := fld (creg r (0x10 + 2 * l)) 16 16
/-- RUNCFG.REXT (R446). -/
def cRExt (r : SMap W64) : Nat := fld (creg r 4) 16 12
/-- RUNCFG.ESTEP (R446). -/
def cEStep (r : SMap W64) : Int := signed 32 (fld (creg r 4) 32 32)
/-- CLEN (R446). -/
def cCLen (r : SMap W64) : Nat := fld (creg r 8) 0 32
/-- LEN (R446). -/
def cLen (r : SMap W64) : Nat := fld (creg r 9) 0 32
/-- MXFP4 stands on either side (R448). -/
def cMx (r : SMap W64) : Bool := decide (cSrcT r = 5) || decide (cDstT r = 5)

/-- Where an emitted element comes from and goes to (R448): its row of levels 1 to 5, whether it is fill, its addresses, and which half of
the byte an E2M1 element takes. -/
structure Emit where
  row  : Nat
  fill : Bool
  sa   : W64
  da   : W64
  half : Nat
deriving DecidableEq, Repr

/-- The indices of the levels, level 0 first, of run number q. -/
def cIndices (r : SMap W64) (q : Nat) : List Nat :=
  (List.range 6).map (fun l => q / (List.range l).foldl (fun a m => a * cCnt r m) 1 % cCnt r l)

/-- Element x in emission order (R448). -/
def cEmit (r : SMap W64) (x : Nat) : Emit :=
  let e := x % cRun r
  let q := x / cRun r
  let ix := (List.range 6).zip (cIndices r q)
  let so : Int := ix.foldl (fun a p => a + (p.2 : Int) * cSStep r p.1)
    (if cEStep r = 0 then ((e * tyBits (cSrcT r) / 8 : Nat) : Int) else (e : Int) * cEStep r)
  let d : Int := ix.foldl (fun a p => a + (p.2 : Int) * cDStep r p.1) ((e * tyBits (cDstT r) / 8 : Nat) : Int)
  { row := q / cCnt r 0,
    fill := ix.any (fun p => decide (cSExt r p.1 ≠ 0 ∧ cSExt r p.1 ≤ p.2)) || decide (cRExt r ≠ 0 ∧ cRExt r ≤ e),
    sa := creg r 0 + BitVec.ofInt 64 so, da := creg r 1 + BitVec.ofInt 64 d, half := e % 2 }

/-- Bytes that hold one element of a type. -/
def elemBytes (t : Nat) : Nat := max 1 (tyBits t / 8)

/-- Block b of a command is fill alone, and its scale byte is not read (R448). -/
def cAllFill (r : SMap W64) (b : Nat) : Bool := (upto (32 * b) 32).all (fun x => (cEmit r x).fill)

/-- What a command reads as number n, row, half, address and size: element n, or from 2^40 up the scale byte of a block; none where it reads nothing there
(R448). -/
def cReadAt (r : SMap W64) (n : Nat) : Option (Nat × Nat × W64 × Nat) :=
  if 2 ^ 40 ≤ n then
    let b := n - 2 ^ 40
    if cSrcT r = 5 ∧ cMode r ≠ 0 ∧ b < cElems r / 32 ∧ cAllFill r b = false then some (0, b, creg r 0x0A + BitVec.ofNat 64 b, 1) else none
  else
    let e := cEmit r n
    if cCmp r = 2 ∨ cElems r ≤ n ∨ e.fill = true then none else some (e.row, e.half, e.sa, elemBytes (cSrcT r))

/-- The reads of a command, by number, address and size: its elements that are not fill, or the pieces of a compressed stream, and the scale
bytes of MXFP4 blocks (R448). -/
def cReads (r : SMap W64) : List (Nat × W64 × Nat) :=
  let some' := fun (n : Nat) => (cReadAt r n).map (fun e => (n, e.2.2))
  (if cCmp r = 2 then
      (List.range ((cCLen r + 63) / 64)).map (fun i => (i, creg r 0 + BitVec.ofNat 64 (64 * i), min 64 (cCLen r - 64 * i)))
    else (List.range (cElems r)).filterMap some') ++ (List.range (cElems r / 32)).filterMap (fun b => some' (2 ^ 40 + b))

/-- Read n goes on in the aligned word of 16 bytes in which read n - 1 ends, so that one access serves both (R466); ring: rows lie apart. -/
def cJoins (r : SMap W64) (ring : Bool) (n : Nat) : Bool :=
  match (if n = 0 then none else cReadAt r (n - 1)), cReadAt r n with
  | some a, some b =>
    (!ring || decide (a.1 = b.1)) && decide (2 * a.2.2.1.toNat + a.2.1 % 2 < 2 * b.2.2.1.toNat + b.2.1 % 2)
      && decide ((a.2.2.1.toNat + a.2.2.2 - 1) / 16 = b.2.2.1.toNat / 16)
  | _, _ => false

/-- The reads behind read n that its word of 16 bytes serves (R466). -/
def cServed (r : SMap W64) (ring : Bool) (n : Nat) : List Nat := (upto (n + 1) 32).takeWhile (cJoins r ring)

/-- The first read of those that one access to another package serves with read n; at most f before it. -/
def cLead (r : SMap W64) : Nat → Nat → Nat
  | 0, n => n
  | f + 1, n => if cJoins r false n then cLead r f (n - 1) else n

/-- What an access to another package, the one that serves read n, fetches: its address and its size (R466). -/
def cFetch (r : SMap W64) (n : Nat) : W64 × Nat :=
  if cCmp r = 2 ∧ n < 2 ^ 40 then (creg r 0 + BitVec.ofNat 64 (64 * n), min 64 (cCLen r - 64 * n))
  else
    let m := cLead r 32 n
    match cReadAt r m, cReadAt r (((cServed r false m).getLast?).getD m) with
    | some a, some b => (a.2.2.1, b.2.2.1.toNat + b.2.2.2 - a.2.2.1.toNat)
    | _, _ => (0, 0)

/-- The element bytes a command is sure to write, by address and size; of an encoded stream, the masks' worth from where it begins (R448). -/
def cElemWrites (r : SMap W64) : List (W64 × Nat) :=
  if cCmp r = 1 then [(creg r 1, 8 * ((cElems r + 63) / 64))]
  else (List.range (cElems r)).map (fun x => ((cEmit r x).da, elemBytes (cDstT r)))

/-- The scale bytes a command writes (R448). -/
def cScaleWrites (r : SMap W64) : List W64 :=
  if cDstT r = 5 ∧ cMode r ≠ 0 then (List.range (cElems r / 32)).map (fun b => creg r 0x0A + BitVec.ofNat 64 b) else []

/-- The global addresses a command writes. -/
def cGlobalWrites (r : SMap W64) : List W64 := (if cDSpace r = 0 then (cElemWrites r).map Prod.fst else []) ++ cScaleWrites r

/-- The global reads of a command. -/
def cGlobalReads (r : SMap W64) : List (Nat × W64 × Nat) := (cReads r).filter (fun e => decide (cSSpace r = 0) || decide (2 ^ 40 ≤ e.1))

/-- The streams of queued copy commands (R453). -/
def queuedStreams : SMap W64 → List CCmd → List Nat
  | _, [] => []
  | _, .clear :: l => queuedStreams [] l
  | r, .sqset n v :: l => queuedStreams (mset 0 r n v) l
  | r, .sqgo _ _ _ _ _ _ _ :: l => (if cDSpace r = 3 then [cStrm r] else []) ++ queuedStreams r l
  | r, .admitted _ :: l => queuedStreams r l
  | r, .accpy _ _ _ _ _ _ _ :: l => queuedStreams r l

/-- D: bytes a command subtracts (R450). -/
def cD (r : SMap W64) : Nat :=
  if cCmp r = 2 then fld (creg r 9) 0 32
  else typeBytes (cDstT r) (cElems r) + (if cDstT r = 5 then cElems r / 32 else 0)

/-- The staging file after queued SQSETs (R447). -/
def stageAfter (r : SMap W64) : List CCmd → SMap W64
  | [] => r
  | .clear :: t => stageAfter [] t
  | .sqset n v :: t => stageAfter (mset 0 r n v) t
  | _ :: t => stageAfter r t

/-- Bytes of one word of an ACCPY type (R454). -/
def accSize (ty : Nat) : Nat := if ty = 0 ∨ ty = 8 then 4 else if ty = 1 ∨ ty = 2 then 2 else 1
/-- Bytes an ACCPY subtracts (R444). -/
def accBytes (cmd : W64) : Nat := (fld cmd 8 6 + 1) * 32 * accSize (fld cmd 39 4)

/-- Bytes of an entry of a table format: FP32, FP16, BF16 (R439). -/
def tabSize (f : Nat) : Nat := if f = 0 then 4 else 2
/-- Bytes a CBLD subtracts (R440). -/
def cbldBytes (cmd : W64) : Nat := 2 ^ (fld cmd 8 4 + 1) * tabSize (fld cmd 14 2)

/-- Progress of a command that has not begun. -/
def CProg.init : CProg := { pos := 0, cpos := 0, base := 0, skip := 0, sat := 0, nv := 0, first := none, err := none, dend := false }

/-- The error of two that decides, by element and then by R247's order. -/
def errRank (c : Cause) : Nat :=
  if c = 0x36#7 then 0 else if c = 0x34#7 then 1 else if c = 0x30#7 then 2 else if c = 0x32#7 then 3 else if c = 0x31#7 then 4
  else if c = 0x33#7 then 5 else 6

/-- The lower error (R247). -/
def errMin (a : Option (Nat × Cause)) (b : Nat × Cause) : Option (Nat × Cause) :=
  match a with
  | none => some b
  | some x => if b.1 < x.1 ∨ (b.1 = x.1 ∧ errRank b.2 < errRank x.2) then some b else some x

/-- The 32-byte status of a command (R246). chunks: destination chunks completed. -/
def CopyCmd.status (k : CopyCmd) (chunks : Nat) (cause : Option Cause) : List Byte :=
  let r := k.regs
  let note := if cMode r = 1 ∧ k.prog.sat ≠ 0 then 0x5D else 0
  let first := match k.prog.err with | some e => e.1 | none => k.prog.first.getD 0xFFFFFFFF
  let cons := if cCmp r = 2 then k.prog.cpos else if cCmp r = 1 then k.sent else 0
  toBytes 32 ((match cause with | some c => c.toNat + 2 ^ 7 | none => 0) + 2 ^ 8 * note + 2 ^ 64 * cons + 2 ^ 96 * first
    + 2 ^ 128 * min k.prog.sat 0xFFFFFFFF + 2 ^ 160 * min k.prog.nv 0xFFFFFFFF + 2 ^ 192 * chunks)

/-- The destination scope of a copy with these registers, seen from tile t (R382). -/
def copyScope (t : Nat) (r : SMap W64) : Nat := maxOf ((cGlobalWrites r).map (gaScope t))

/-- The copy command of context c that an SQGO names, with a staging file as its registers (R450). -/
def sqgoCmd (x : Tile) (t c : Nat) (r : SMap W64) (scope id gid node si di : Nat) : CopyCmd :=
  { regs := r, ctx := c, tenant := x.tenant.getD 0, gid := gid, node := node, scope := scope, tscope := copyScope t r, st := 0,
    prog := CProg.init, mark := CProg.init, hist := [CProg.init], out := 0, sent := 0, buf := [], held := [], rows := 0, srows := 0, fail := none,
    wrote := false, asked := false, got := [], word := [], olds := [], pick := 0, srcInst := si, dstInst := di, seq := id, acc := 0 }

/-! ## Commands that count for two (R279) -/

/-- The first of a pair of twins counts for both (R278, R279). -/
def Task.counts (k : Task) (t c : Nat) : Bool :=
  match k.twin with | some (t', c') => decide (2 * t + c < 2 * t' + c') | none => true

/-- A command just issued by the context in hand: of a redundant pair, the first copy proceeds, and the second stands behind it (R279). -/
def State.paired (s : State) (id : Nat) : State :=
  let t := unitTile s.cur.u
  let c := unitCtx s.cur.u
  match s.curCtx.task with
  | none => s
  | some k =>
    match k.twin with
    | none => s
    | some v =>
      if k.counts t c then
        (s.modTile t (fun x => { x with leads := mput x.leads id v.1 })).modTile v.1 (fun x =>
          { x with follows := x.follows ++ [{ ctx := v.2, lead := id, id := none, how := none }] })
      else
        match (s.tile t).follows.find? (fun f => decide (f.ctx = c) && f.id.isNone) with
        | none => s
        | some o => s.modTile t (fun x => { x with follows := x.follows.map (fun f => if f.lead = o.lead then { f with id := some id } else f) })

/-- The command that command id of the tile stands behind (R279). -/
def Tile.follow (x : Tile) (id : Nat) : Option Follow := x.follows.find? (fun f => decide (f.id = some id))
/-- Command id waits for the copy that proceeds (R279). -/
def Tile.awaits (x : Tile) (id : Nat) : Bool := match x.follow id with | some f => f.how.isNone | none => false
/-- Command id has done its work in the tile, and its end waits for that of the copy that proceeds; a cut waits for none (R104, R279). -/
def Tile.lingers (x : Tile) (id : Nat) : Bool := !x.cutting && x.awaits id
/-- How the copy ended that proceeded for command id (R279). -/
def Tile.outcome (x : Tile) (id : Nat) : Option Over := (x.follow id).bind Follow.how
/-- The error in which command id ends: that of the copy which proceeded for it, or its own (R279). -/
def Tile.ends (x : Tile) (id : Nat) (err : Option Cause) : Option Cause := match x.outcome id with | some o => o.err | none => err

/-- The copies of command id take note of its end (R279). -/
def Tile.heard (x : Tile) (id : Nat) (o : Over) : Tile :=
  { x with follows := x.follows.map (fun f => if f.lead = id then { f with how := some o } else f) }

/-- Command id of tile t has ended for two: the other copy's tile, or its frame, takes note (R279). -/
def State.tell (s : State) (t id : Nat) (o : Over) : State :=
  match mfind (s.tile t).leads id with
  | none => s
  | some u =>
    let s := (s.modTile t (fun x => { x with leads := merase x.leads id })).modTile u (fun x => x.heard id o)
    { s with frames := s.frames.map (fun f => if f.tileNo = u then { f with tile := f.tile.heard id o } else f) }

/-- Command id leaves the handles of its tile and stands behind no other. -/
def Tile.released (x : Tile) (id : Nat) : Tile :=
  let x := x.finishCmd id
  { x with follows := x.follows.filter (fun f => decide (f.id ≠ some id)) }

/-! ## The end of a command -/

/-- An engine command of tile t that names no handle completes against its barrier word, and counts in CSEQ (R144, R282, R444). -/
def State.barrierDone (s : State) (t bw bytes : Nat) (err : Option Cause) : State := (s.complete t bw bytes err).counted t 1

/-- An engine command of tile t ends: it leaves its handles and completes, for its twin too (R144, R279, R282, R444). -/
def State.engineDone (s : State) (t id bw bytes : Nat) (err : Option Cause) : State :=
  let err := (s.tile t).ends id err
  ((s.tell t id { err := err, req := none, data := [] }).modTile t (fun x => x.released id)).barrierDone t bw bytes err

/-- Write a little-endian number of n bytes at a virtual address of a tenant, as an engine writes; the cause of a failure. -/
def State.vaWrite (s : State) (wk : Walker) (tenant : Nat) (va : Nat) (l : List Byte) : State × Option Cause :=
  match s.xlatE wk tenant va .write with
  | .pa p =>
    match s.memFails p l.length true with
    | some c => (s, some c)
    | none => if 0x3F0000000000 ≤ p then (s, some 0x23#7) else (s.memWrite p l, none)
  | .bad c => (s, some c)
  | .miss => (s, some walkBusy)

/-- Read n bytes within a page at a virtual address of a tenant, as an engine reads; the cause of a failure. -/
def State.vaRead (s : State) (wk : Walker) (tenant va n : Nat) : Except Cause (List Byte) :=
  match s.xlatE wk tenant va .read with
  | .pa p =>
    match s.memFails p n false with
    | some c => .error c
    | none => if 0x3F0000000000 ≤ p then .error 0x23#7 else .ok (s.memRead p n)
  | .bad c => .error c
  | .miss => .error walkBusy

/-- The cuts of a range of n bytes from va at multiples of 64: addresses and lengths, at most fuel pieces. -/
def pieces : Nat → Nat → Nat → List (Nat × Nat)
  | 0, _, _ => []
  | f + 1, va, n => if n = 0 then [] else
      let k := min n (64 - va % 64)
      (va, k) :: pieces f (va + k) (n - k)

/-- Read n bytes from a virtual address that may cross pages. -/
def State.vaReadLong (s : State) (wk : Walker) (tenant va n : Nat) : Except Cause (List Byte) :=
  (pieces (n / 64 + 2) va n).foldl (fun r p =>
    match r with
    | .error c => .error c
    | .ok l => match s.vaRead wk tenant p.1 p.2 with | .ok m => .ok (l ++ m) | .error c => .error c) (.ok [])

/-- Write bytes at a virtual address that may cross pages, up to the first failure. -/
def State.vaWriteLong (s : State) (wk : Walker) (tenant va : Nat) (l : List Byte) : State × Option Cause :=
  (pieces (l.length / 64 + 2) va l.length).foldl (fun r p =>
    match r.2 with
    | some _ => r
    | none => r.1.vaWrite wk tenant p.1 ((l.drop (p.1 - va)).take p.2)) (s, none)

/-- Bytes at an address in the pieces in which an engine writes them: lines covered whole, and words of 16 bytes (R466, R507); fuel bounds their number. -/
def cutLines : Nat → Nat → List Byte → List Piece
  | 0, _, _ => []
  | f + 1, a, l =>
    let n := if a % 64 = 0 ∧ 64 ≤ l.length then 64 else 16 - a % 16
    if l.isEmpty then [] else (a, l.take n) :: cutLines f (a + n) (l.drop n)

/-- The pieces of bytes at a virtual address. -/
def piecesOf (a : Nat) (l : List Byte) : List Piece := cutLines (l.length / 16 + 2) a l

/-- Write bytes at a virtual address; an uncorrectable line that this meets is recorded (R31). -/
def State.vaPut (s : State) (wk : Walker) (tenant va : Nat) (l : List Byte) : State × Option Cause :=
  let w := s.vaWriteLong wk tenant va l
  (w.1.metIn s (fun s => (s.vaWriteLong wk tenant va l).2), w.2)

/-- A read that fails, as f repeats it, records the uncorrectable line that it met (R31). -/
def State.readMets {α : Type} (s : State) (f : State → Except Cause α) : State :=
  s.metIn s (fun s => match f s with | .error e => some e | .ok _ => none)

/-- Bytes that follow one another in address, joined. -/
def joinRuns : List (Nat × Byte) → List Piece
  | [] => []
  | (a, b) :: l =>
    match joinRuns l with
    | (c, m) :: t => if c = a + 1 then (a, b :: m) :: t else (a, [b]) :: (c, m) :: t
    | [] => [(a, [b])]

/-- Pieces of one command in rising order, those that adjoin joined: a line that they cover whole together is written as one (R507). -/
def mergePieces (l : List Piece) : List Piece :=
  (joinRuns (l.foldl (fun (m : SMap Byte) p => ((upto p.1 p.2.length).zip p.2).foldl (fun m e => mput m e.1 e.2) m) [])).flatMap (fun p => piecesOf p.1 p.2)

/-- Write pieces up to the first that fails. -/
def State.vaWrites (s : State) (wk : Walker) (tenant : Nat) (l : List Piece) : State × Option Cause :=
  l.foldl (fun (a : State × Option Cause) p => match a.2 with | some _ => a | none => a.1.vaPut wk tenant (p.1 % 2 ^ 64) p.2) (s, none)

/-- An engine writes the first pieces of some, at most n, up to one that fails or that waits for a walk; what is left of them. -/
def State.putPieces (s : State) (wk : Walker) (tenant : Nat) : Nat → List Piece → State × List Piece × Option Cause
  | 0, l => (s, l, none)
  | _ + 1, [] => (s, [], none)
  | n + 1, p :: l =>
    let w := s.vaPut wk tenant (p.1 % 2 ^ 64) p.2
    match w.2 with
    | none => State.putPieces w.1 wk tenant n l
    | some c => if c = walkBusy then (s, p :: l, none) else (w.1, l, some c)

/-- Where bytes that go to a virtual address would be written: physical addresses and pieces, or the cause that stops one. whole: the command covers the
line of an address whole, which it then writes as one (R507). -/
def State.vaPlan (s : State) (wk : Walker) (tenant : Nat) (whole : Nat → Bool) (va : Nat) (l : List Byte) : Except Cause (List Piece) :=
  (pieces (l.length / 64 + 2) va l.length).mapM (fun p =>
    match s.xlatE wk tenant p.1 .write with
    | .pa q =>
      match (if whole p.1 then s.memFails (q / 64 * 64) 64 true else s.memFails q p.2 true) with
      | some c => .error c
      | none => if windowBase ≤ q then .error 0x23#7 else .ok (q, (l.drop (p.1 - va)).take p.2)
    | .bad c => .error c
    | .miss => .error walkBusy)

/-- Words that a job has written reach memory, a line that they cover whole as one (R204, R507). -/
def State.putWords (s : State) (l : List Piece) : State := (mergePieces l).foldl (fun (s : State) e => s.memWrite e.1 e.2) s

/-- The status write of a copy command waits for a walk (R149, R246). -/
def State.statusWaits (s : State) (t : Nat) (k : CopyCmd) : Bool :=
  let a := (creg k.regs 7).toNat
  decide (a ≠ 0 ∧ a % 32 = 0) && decide (s.xlatE (.tile t) k.tenant a .write = .miss)

/-- A copy command is over: its status, then its barrier word with D (R246, R451). A status that cannot be written gives the cause. The status of a command
that something else ends waits for no walk. Of a pair, the copy that proceeds has written it (R279). -/
def State.copyOver (s : State) (t : Nat) (k : CopyCmd) (chunks : Nat) (cause : Option Cause) : State :=
  let a := (creg k.regs 7).toNat
  let w := if a = 0 ∨ a % 32 ≠ 0 ∨ ((s.tile t).outcome k.seq).isSome = true then (s, none)
    else s.vaPut (if s.statusWaits t k then .walk else .tile t) k.tenant a (k.status chunks cause)
  w.1.engineDone t k.seq (cBw k.regs) (cD k.regs) (match w.2 with | some c => some c | none => cause)

end Sys2Proof.Machine
end

