-- ==== Sys2Proof/Machine/Abort.lean ====
section
/-! DEFINITION. What becomes of a context's commands when its node fails (R61) and when its tenant is killed (R106). -/

namespace Sys2Proof.Machine

/-- Gather id holds its translation entry no more; a RETIRING entry without holders is freed (R220). -/
def Tile.endHold (x : Tile) (id : Nat) : Tile :=
  let drop : TEntry → TEntry := fun e => { e with holders := e.holders.filter (fun n => decide (n ≠ id)) }
  { x with tcache := (x.tcache.map drop).filter (fun e => !e.retiring || !e.holders.isEmpty) }

/-- The number of a key-value command that, once accepted, reads and writes step by step (R470). -/
def KCmd.runId : KCmd → Option Nat
  | .xld _ _ id => some id
  | .splc _ _ id => some id
  | .rpr _ _ id _ _ _ => some id
  | .pfx _ _ _ _ id => some id
  | _ => none

/-- How far a key-value command of the context has come, once accepted. -/
def Ctx.kvRun (y : Ctx) (k : KCmd) : Option KRun := k.runId.bind (fun n => mfind y.kruns n)

/-- A key-value command has been accepted and has not completed: an XINV that has made its step (R220), or a command that runs (R470). -/
def Ctx.stepped (y : Ctx) (k : KCmd) : Bool := (match k with | .xinv _ _ _ _ (some _) => true | _ => false) || (y.kvRun k).isSome

/-- An ACCPY that has been accepted and has not completed (R470). -/
def CCmd.running : CCmd → Bool
  | .accpy _ _ _ _ _ _ (some _) => true
  | _ => false

/-- A barrier update that a discarded command still makes: its word, its bytes, its number. -/
structure Due where
  bw    : Nat
  bytes : Nat
  id    : Nat
deriving DecidableEq, Repr

/-- The context of a task, where it holds one of a node. -/
def Ctx.runs (y : Ctx) (gid n : Nat) : Bool := match y.task with | some k => decide (k.gid = gid ∧ k.node = n) | none => false

/-- A copy command of a node's tasks that is not accepted. -/
def CCmd.ofNode (gid n : Nat) : CCmd → Bool
  | .sqgo _ _ _ g k _ _ => decide (g = gid ∧ k = n)
  | .accpy _ _ _ _ g k none => decide (g = gid ∧ k = n)
  | _ => false

/-- The commands of a failed node in a copy queue complete with COPY_ABORTED, an SQGO with the registers that it would have had (R61, R447, R451). -/
def State.abortCq (t c gid n : Nat) : List CCmd → SMap W64 → State → State
  | [], _, s => s
  | .clear :: l, _, s => State.abortCq t c gid n l [] s
  | .sqset k v :: l, r, s => State.abortCq t c gid n l (mset 0 r k v) s
  | .admitted _ :: l, r, s => State.abortCq t c gid n l r s
  | .sqgo _ scope id g k si di :: l, r, s =>
    State.abortCq t c gid n l r (if g = gid ∧ k = n then s.copyOver t (sqgoCmd (s.tile t) t c r scope id g k si di) 0 (some 0x3F#7) else s)
  | .accpy _ cmd _ id g k run :: l, r, s =>
    State.abortCq t c gid n l r (if g = gid ∧ k = n ∧ run = none then s.engineDone t id (fld cmd 19 20) (accBytes cmd) (some 0x3F#7) else s)

/-- The barrier update of a matrix command that the queue discards: a CBLD's (R435). -/
def MCmd.due (m : MCmd) : Option Due :=
  match m.op with
  | .cbld cmd _ _ => some { bw := fld cmd 36 20, bytes := cbldBytes cmd, id := m.seq }
  | _ => none

/-- Complete discarded commands with a cause. -/
def State.abortAll (s : State) (t : Nat) (c : Cause) (l : List Due) : State :=
  l.foldl (fun s d => s.engineDone t d.id d.bw d.bytes (some c)) s

/-- Matrix commands discarded unrun: their CBLDs complete with MATRIX_ABORTED (R435), and what stands behind another waits no more (R279). -/
def State.dropMatrix (s : State) (t : Nat) (l : List MCmd) : State :=
  let s := l.foldl (fun (s : State) m => if m.due.isNone then s.tell t m.seq { err := none, req := none, data := [] } else s) s
  (s.abortAll t 0x4E#7 (l.filterMap MCmd.due)).modTile t (fun x => l.foldl (fun x m => x.discardCmd m.seq) x)

/-- RES of a Winnow record (R254). -/
def WJob.res (j : WJob) : Nat := fld j.record 320 64

/-- The status of a Winnow job (R257), res its COUNT, VALUE and FIRST. Fields to which the spec gives no value yet, those of a job whose
census has not ended and the result of one that has none, take free bytes. -/
def WJob.status (j : WJob) (res : Option (Nat × Nat × Nat)) (done : Bool) (free : List Byte) : List Byte :=
  let pick := fun (i n v : Nat) => if j.pass = 0 then (free.drop i).take n else toBytes n v
  toBytes 2 ((match j.fail with | some c => c.toNat + 2 ^ 7 | none => 0) + 2 ^ 8 * done.toNat) ++ pick 2 1 j.plane ++ toBytes 9 0
    ++ toBytes 4 j.fchunk ++ pick 16 4 j.nancnt
    ++ (match res with | some (count, value, first) => toBytes 4 first ++ toBytes 8 value ++ toBytes 8 count | none => (free.drop 20).take 20)
    ++ pick 40 8 j.total ++ pick 48 8 j.pref ++ pick 56 8 j.rem

/-- Write a job's status at RES; the cause of a failure. Of a pair, the copy that proceeds writes it (R279). -/
def State.putWinStatus (s : State) (t : Nat) (j : WJob) (res : Option (Nat × Nat × Nat)) (done : Bool) : State × Option Cause :=
  if ((s.tile t).follow j.id).isSome then (s, none)
  else
    let f := s.freeBytes 64
    f.2.vaPut .walk j.tenant j.res (j.status res done f.1)

/-- A Winnow job of tile t ends: status once its record is read, handles, barrier word (R257, R258). RES off its alignment takes no
status; a status that cannot be written fails a job that has not failed. -/
def State.winDone (s : State) (t : Nat) (j : WJob) (res : Option (Nat × Nat × Nat)) : State :=
  let w := if j.started && decide (j.res % 64 = 0) then s.putWinStatus t j res true else (s, none)
  w.1.engineDone t j.id j.bw 64 (match j.fail with | some c => some c | none => w.2)

/-- The passes and units of tile t that run for jobs which satisfy a predicate are marked with a cause, and end as queued ones do (R209, R258). -/
def State.markRunning (s : State) (t : Nat) (win : WJob → Bool) (brush : BJob → Bool) (c : Cause) : State :=
  let s := s.modDie (dieOf t) (fun d => { d with winCur := d.winCur.map (fun w => if w.1 = t ∧ win w.2 = true then (w.1, { w.2 with fail := some c }) else w) })
  s.modCluster (clusterOf t) (fun k => { k with brushCur := k.brushCur.map (fun w => if w.1 = t ∧ brush w.2 = true then (w.1, { w.2 with fail := some c }) else w) })

/-- The matrix commands of context c in a pipe that have not started: one that waits for its handles, and a load that has written no beat (R198,
R435). -/
def Tile.unstarted (x : Tile) (c : Nat) : List MCmd :=
  (match x.nib with | some n => if decide (n.cmd.ctx = c) && (!n.taken || decide (n.cmd.op = .mldw ∧ n.k = 0)) then [n.cmd] else [] | none => [])
    ++ (match x.beat with | some b => if decide (b.cmd.ctx = c) && !b.taken then [b.cmd] else [] | none => [])

/-- The queues of a context whose task is cut because its node failed (R61): what is not accepted is discarded, a CBLD with MATRIX_ABORTED. -/
def State.abortQueues (s : State) (t c : Nat) : State :=
  let x := s.tile t
  let y := x.ctx c
  let pipes := x.unstarted c
  let s := s.dropMatrix t (pipes ++ x.mq.filter (fun m => decide (m.ctx = c)))
  let s := s.modTile t (fun x => { x with
    nib := x.nib.filter (fun n => decide (n.cmd ∉ pipes)), beat := x.beat.filter (fun b => decide (b.cmd ∉ pipes)) })
  let ids := (y.kq.filter (fun k => !y.stepped k)).filterMap (fun k => match k with | .kvg _ _ id _ _ => some id | k => k.runId)
  let ids := ids ++ y.fq.filterMap (fun k => match k with | .fsend _ _ _ id => some id | .frecvHandle _ _ _ id => some id | _ => none)
  let s := s.modTile t (fun x => { ids.foldl (fun x id => x.discardCmd id) x with mq := x.mq.filter (fun m => decide (m.ctx ≠ c)) })
  s.modCtx t c (fun y => { y with hq := [], kq := y.kq.filter y.stepped, fq := [], deque := [] })

/-- A copy command of a node that runs no more once the node has failed: admitted, or parked (R61, R253, R450). -/
def CopyCmd.aborts (k : CopyCmd) (gid n : Nat) : Bool := decide (k.gid = gid ∧ k.node = n ∧ (k.st = 0 ∨ k.st = 2))

/-- What tile t holds of a node that has failed: copies that are not accepted, or are parked, complete with COPY_ABORTED, Brush and Winnow jobs that
are not running with their ABORTED causes, a gather that waits for its watermark is discarded, and the queues of its tasks are emptied (R61, R218,
R253, R258). -/
def State.abortNode (s : State) (t gid n : Nat) : State :=
  let x := s.tile t
  let s := (s.abortCq t 0 gid n x.c0.cq x.c0.staging).abortCq t 1 gid n x.c1.cq x.c1.staging
  let s := (x.copies.filter (fun k => k.2.aborts gid n)).foldl (fun (s : State) k => s.copyOver t k.2 (k.2.sent / 4096) (some 0x3F#7)) s
  let unit := fun (j : BJob) => decide (j.gid = gid ∧ j.node = n) && !j.started
  let s := s.abortAll t 0x4D#7 ((x.brush.filter unit).map (fun j => { bw := j.bw, bytes := 64, id := j.seq }))
  let pass := fun (j : WJob) => decide (j.gid = gid ∧ j.node = n)
  let s := (x.winq.filter pass).foldl (fun (s : State) j => s.winDone t { j with fail := some 0x5F#7 } none) s
  let s := s.markRunning t pass (fun _ => false) 0x5F#7
  let waits := fun (g : Gather) => decide (g.gid = gid ∧ g.node = n) && g.held
  let s := s.modTile t (fun x => (x.gathers.filter waits).foldl (fun x g => (x.discardCmd g.id).endHold g.id) x)
  let kept := fun (k : CCmd) => !k.ofNode gid n && !x.copies.any (fun e => e.2.aborts gid n && decide (k = .admitted e.1))
  let s := s.modTile t (fun x => { x with
    c0 := { x.c0 with cq := x.c0.cq.filter kept }, c1 := { x.c1 with cq := x.c1.cq.filter kept },
    copies := x.copies.filter (fun k => !k.2.aborts gid n), brush := x.brush.filter (fun j => !unit j), winq := x.winq.filter (fun j => !pass j),
    gathers := x.gathers.filter (fun g => !waits g) })
  [0, 1].foldl (fun (s : State) c => if (x.ctx c).runs gid n then s.abortQueues t c else s) s

/-- What a saved tile holds of a node that has failed (R61, R253). -/
def State.abortFrame (s : State) (gid n : Nat) (f : Frame) : State :=
  let live := s.tile f.tileNo
  let a := (s.setTile f.tileNo f.tile).abortNode f.tileNo gid n
  let x := a.tile f.tileNo
  let a := a.setTile f.tileNo live
  { a with frames := a.frames.map (fun e => if e.fid = f.fid then { e with tile := x } else e) }

/-- PHASE and LAYER of a repair job (R232). In WRITEBACK and DONE the layer is the last one worked on, as R504 shows. -/
def RJob.phase (j : RJob) : Nat × Nat :=
  match j.st with
  | .check l => (0, l)
  | .writeback => (1, j.lc - 1)
  | .recomp l => (2, l)
  | .done => (3, if j.lc = fld j.desc 72 8 ∨ j.marks = [] then j.lc - 1 else fld j.desc 72 8 - 1)

/-- The job status (R232). -/
def RJob.status (j : RJob) (err : Option Cause) : List Byte :=
  let p := j.phase
  toBytes 32 ((match err with | some c => c.toNat + 2 ^ 7 | none => 0) + 2 ^ 8 * p.1 + 2 ^ 10 * p.2 + 2 ^ 64 * j.reports
    + 2 ^ 96 * j.marks.length)

/-- STAT of a repair record (R226). -/
def RJob.stat (j : RJob) : Nat := fld j.record 256 64

/-- Repair jobs of a failed node end with REPAIR_ABORTED and make no arrival (R233). -/
def State.abortRepairs (s : State) (gid node : Nat) : State :=
  (List.range 8).foldl (fun s d =>
    let mine := (s.die d).retouch.filter (fun e => decide (e.2.gid = gid ∧ e.2.node = node) && decide (e.2.st ≠ .done))
    let s := mine.foldl (fun s e => (s.vaPut .walk e.2.tenant e.2.stat (e.2.status (some 0x56#7))).1) s
    if mine.isEmpty then s
    else s.modDie d (fun x => { x with retouch := x.retouch.filter (fun e => !(decide (e.2.gid = gid ∧ e.2.node = node) && decide (e.2.st ≠ .done))) })) s

/-- A copy command stands behind the one of its twin that moves its bytes (R279). -/
def Tile.stands (x : Tile) (k : CopyCmd) : Bool := decide (cDSpace k.regs = 0) && (x.follow k.seq).isSome

/-- Commands of tile t that have been accepted and have not completed (R61, R104). -/
def Tile.accepted (x : Tile) : Bool :=
  x.copies.any (fun k => decide (k.2.st = 1 ∨ k.2.st = 3) && !x.stands k.2) || x.nib.isSome || x.beat.isSome || !x.sends.isEmpty
    || x.gathers.any (fun g => !g.held) || x.posted.any (fun r => r.met.isSome) || [x.c0, x.c1].any (fun y => y.kq.any y.stepped || y.cq.any CCmd.running)

/-- A command of tile t runs on an engine of the tile, of its die or of its cluster (R104). -/
def State.accepted (s : State) (t : Nat) : Bool :=
  (s.tile t).accepted || (match (s.die (dieOf t)).winCur with | some w => decide (w.1 = t) | none => false)
    || (match (s.cluster (clusterOf t)).brushCur with | some w => decide (w.1 = t) | none => false)

/-- A context of a killed tenant: everything unaccepted is discarded, with no barrier update, and what its engines have accepted goes on (R106,
R264). -/
def State.killCtx (s : State) (t c : Nat) : State :=
  let s := s.markRunning t (fun j => decide (j.ctx = c)) (fun j => decide (j.ctx = c)) 0x63#7
  let s := ((s.tile t).brush.filter (fun j => decide (j.ctx = c))).foldl (fun (s : State) j => s.putWords j.words) s
  let s := s.modTile t (fun x => (x.gathers.filter (fun g => decide (g.ctx = c) && g.held)).foldl (fun x g => x.endHold g.id) x)
  let s := s.modTile t (fun x => { x with
    copies := x.copies.filter (fun k => decide (k.2.ctx ≠ c ∨ k.2.st = 1 ∨ k.2.st = 3)), mq := x.mq.filter (fun m => decide (m.ctx ≠ c)),
    brush := x.brush.filter (fun j => decide (j.ctx ≠ c)), winq := x.winq.filter (fun j => decide (j.ctx ≠ c)),
    gathers := x.gathers.filter (fun g => decide (g.ctx ≠ c) || !g.held), posted := x.posted.filter (fun r => decide (r.ctx ≠ c) || r.met.isSome) })
  s.modCtx t c (fun y => { y with
    task := none, hq := [], cq := y.cq.filter CCmd.running, kq := y.kq.filter y.stepped, fq := [], deque := [], ending := false, stealing := none, stop := StopRec.init,
    fail := none, q := [], disp := none })

/-- The tile of a killed tenant is cut, and nothing of it is saved (R106): the commands accepted go on until they complete, and the tile is bound to
nobody before then (R85). -/
def State.killTile (s : State) (t : Nat) : State :=
  ((s.killCtx t 0).killCtx t 1).modTile t (fun x => { x with cutting := true, killing := true, reserved := none })

end Sys2Proof.Machine
end

