-- ==== Sys2Proof/Machine/Task.lean ====
section
/-! DEFINITION. Tasks, nodes and graphs (R56-R64, R80-R106): event records, node completion and failure, the start and the end of a task,
continuations, and a tile's change of tenant (R115). -/

namespace Sys2Proof.Machine

/-! ## Device state and event records -/

/-- Where EVCONS of a tenant lies (R51). -/
def State.evconsAt (s : State) (n : Nat) : Nat := s.kregs.ttbase.toNat + 512 * n + 32

/-- EVCONS of a tenant, read coherently before each record (R64). -/
def State.evcons (s : State) (n : Nat) : BitVec 32 := BitVec.ofNat 32 (s.memNat (s.evconsAt n) 4)

/-- Write an event record to a tenant's ring; its producer index shows on page 13 at the page's next update, and the interrupt follows that (R64,
R68). A full ring, an unwritable page and a line that cannot be written discard it; an event without a cause has CAUSE and GRADE zero (R63). -/
def State.event (s : State) (n kind : Nat) (c : Option Cause) (info node : Nat) (user : W64) : State :=
  let t := s.tenant n
  let k := t.evprod
  let lost := fun (s : State) => (s.modTenant n (fun t => { t with evlost := t.evlost + 1 })).klog 6 0x6B#7 0 0 (2 ^ n) 0 0
  let s := s.readMet (s.evconsAt n) 4
  if (k - s.evcons n).toNat = 2 ^ t.evsize then lost s
  else
    let rec16 := toBytes 1 kind ++ toBytes 1 (c.getD 0).toNat ++ toBytes 1 ((c.map grade).getD 0) ++ toBytes 1 info ++ toBytes 4 node ++ toBytes 8 user.toNat
    match s.xlatWalk n (t.evbase.toNat + 16 * (k.toNat % 2 ^ t.evsize)) true .write with
    | .pa p =>
      if (s.memFails p 16 true).isSome then lost s
      else (s.memWrite p rec16).modTenant n (fun t => { t with evprod := t.evprod + 1, signal := true })
    | _ => lost s

/-- DSTATE's code (R69). -/
def DState.code : DState → Nat
  | .bringup => 0
  | .ready => 1
  | .draining => 2
  | .drained => 3
  | .faulted => 4

/-- A change of device state, recorded in the ring of every VALID tenant (R63). -/
def State.toDState (s : State) (d : DState) (c : Cause) : State :=
  let s := { s with dstate := d }
  (List.range 64).foldl (fun s n => if (s.tenant n).valid then s.event n 4 (if d = .faulted then some c else none) d.code 0 0 else s) s

/-- The tasks of a tile. -/
def Tile.tasks (x : Tile) : List Task := [x.c0, x.c1].filterMap Ctx.task

/-- The tiles of the pairs that some tiles run, with the tiles themselves (R103). -/
def State.withTwins (s : State) (l : List Nat) : List Nat :=
  (l ++ l.flatMap (fun t => (s.tile t).tasks.filterMap (fun k => k.twin.map Prod.fst))).eraseDups

/-- The tiles that are pre-empted with tile t: pairs lie in one cluster of 16 tiles (R86, R103). -/
def State.cutGroup (s : State) (t : Nat) : List Nat := (List.range 16).foldl (fun l _ => s.withTwins l) [t]

/-- The health of tile t lets a node's tasks run there (R21, R85, R278). -/
def State.healthFits (s : State) (redund : Bool) (t : Nat) : Bool :=
  match (s.unit (.tile t)).health with
  | .ok => true
  | .degraded => true
  | .quarantined => redund && decide (s.dstate ≠ .faulted)
  | .failed => false

/-- Tile t is QUARANTINED. -/
def State.quarantined (s : State) (t : Nat) : Bool := decide ((s.unit (.tile t)).health = .quarantined)

/-- In FAULTED graphs run on units that are OK or DEGRADED: the tiles with work that are QUARANTINED are cut, with the tiles of their pairs (R21,
R103; log entry 67). -/
def State.cutQuarantined (s : State) : State :=
  if s.dstate ≠ .faulted then s
  else
    let l := (s.tiles.filter (fun e => s.quarantined e.1 && !e.2.tasks.isEmpty)).map Prod.fst
    ((l.flatMap s.cutGroup).eraseDups).foldl (fun (s : State) (t : Nat) => s.modTile t (fun x => { x with cutting := true })) s

/-- A G3 cause is recorded: FAULTED from any state but BRINGUP, LASTG3 the first since reset (R20, R69). -/
def State.g3 (s : State) (c : Cause) : State :=
  let s := { s with lastG3 := some (s.lastG3.getD c) }
  if s.dstate = .bringup ∨ s.dstate = .faulted then s else (s.toDState .faulted c).cutQuarantined

/-! ## Graphs and nodes -/

/-- Graph gid, while it is accepted and incomplete. -/
def State.graph (s : State) (gid : Nat) : Option Graph := s.graphs.find? (fun g => decide (g.gid = gid))
/-- Graph gid changed. -/
def State.modGraph (s : State) (gid : Nat) (f : Graph → Graph) : State :=
  { s with graphs := s.graphs.map (fun g => if g.gid = gid then f g else g) }
/-- Node n of graph gid. -/
def State.node (s : State) (gid n : Nat) : Option GNode := (s.graph gid).bind (fun g => g.nodes[n]?)
/-- Node n of graph gid changed. -/
def State.modNode (s : State) (gid n : Nat) (f : GNode → GNode) : State :=
  s.modGraph gid (fun g => match g.nodes[n]? with | some x => { g with nodes := setNth g.nodes n (f x) } | none => g)

/-- NSTAT.STATE's code (R57). -/
def NState.code : NState → Nat
  | .waiting => 0
  | .ready => 1
  | .running => 2
  | .done => 3
  | .failed => 4
  | .skipped => 5

/-- Write a node's NSTAT in device memory (R57). Its grade is written nowhere: R78 says that it is recorded, and R57's layout has no place for it (log
entry 71). -/
def State.putNstat (s : State) (gid n : Nat) : State :=
  match s.node gid n with
  | some x => s.memWrite (x.npa + 64) (toBytes 8 (x.st.code + 2 ^ 8 * x.cause.toNat + 2 ^ 32 * x.ended))
  | none => s

/-- A node takes a state, in the device's copy and in its NSTAT. -/
def State.nodeState (s : State) (gid n : Nat) (st : NState) : State := (s.modNode gid n (fun x => { x with st := st })).putNstat gid n

/-- Nodes done. -/
def Graph.nodesDone (g : Graph) : Nat := (g.nodes.filter (fun x => decide (x.st = .done))).length

/-- Write a graph's GSTAT (R56), nodes done with it; that no other step writes nodes done is the model's choice (log entry 77). -/
def State.putGstat (s : State) (g : Graph) (st : Nat) (c : Cause) : State :=
  s.memWrite (g.gpa + 24) (toBytes 8 (st + 2 ^ 8 * c.toNat + 2 ^ 16 * (if st = 2 then 0 else grade c) + 2 ^ 32 * g.nodesDone))

/-- The number of a tenant's queue among the device's queues. -/
def queueKey (tenant queue : Nat) : Nat := 16 * tenant + queue

/-- Tasks of a node (R60). -/
def GNode.total (x : GNode) : Nat := x.extx * x.exty * x.extz

/-- A node has work to bind (R81): a node that has failed, or waits, has none. -/
def GNode.hasWork (x : GNode) : Bool :=
  (decide (x.st = .ready) || decide (x.st = .running)) && (!x.resume.isEmpty || !x.conts.isEmpty || decide (x.next < x.total))

/-- The head of queue k waits anew (R83). -/
def State.restartWait (s : State) (k : Nat) : State := { s with ages := mput s.ages k 0, waitFrom := mput s.waitFrom k s.cycle }

/-- Queue k has a list of ready nodes; a new head waits from now (R83). -/
def State.setReady (s : State) (k : Nat) (l : List (Nat × Nat)) : State :=
  let s' := { s with ready := mput s.ready k l }
  if l.head? = (mget [] s.ready k).head? then s' else s'.restartWait k

/-- The list with a node that becomes ready now: behind the nodes that became ready earlier, and among those of this cycle by graph and node
(R81). -/
def State.listReady (s : State) (gid n : Nat) : List (Nat × Nat) → List (Nat × Nat)
  | [] => [(gid, n)]
  | e :: t =>
    if (match s.node e.1 e.2 with | some x => decide (x.readyAt = s.cycle) | none => false) && (decide (gid < e.1) || (decide (gid = e.1) && decide (n < e.2))) then
      (gid, n) :: e :: t
    else e :: State.listReady s gid n t

/-- A node becomes ready: NSTAT, and the end of its queue's list (R59, R81). -/
def State.makeReady (s : State) (gid n : Nat) : State :=
  match s.graph gid with
  | none => s
  | some g =>
    let s := (s.modNode gid n (fun x => { x with readyAt := s.cycle })).nodeState gid n .ready
    let k := queueKey g.tenant g.queue
    s.setReady k (s.listReady gid n (mget [] s.ready k))

/-- A node that gains a continuation record re-enters at the front of its list (R81). -/
def State.reenter (s : State) (gid n : Nat) : State :=
  match s.graph gid with
  | none => s
  | some g =>
    let k := queueKey g.tenant g.queue
    let l := mget [] s.ready k
    if (gid, n) ∈ l then s else s.setReady k ((gid, n) :: l)

/-- A node that gains a resume entry goes to the front of its list, and its wait starts at the cut (R81, R105). -/
def State.toFront (s : State) (gid n : Nat) : State :=
  match s.graph gid with
  | none => s
  | some g =>
    let k := queueKey g.tenant g.queue
    (s.setReady k ((gid, n) :: (mget [] s.ready k).filter (fun e => decide (e ≠ (gid, n))))).restartWait k

/-- The tiles reserved for a node are free for others again (R103, R107). -/
def State.unreserve (s : State) (gid n : Nat) : State :=
  { s with tiles := s.tiles.map (fun (e : Nat × Tile) => (e.1, if e.2.reserved = some (gid, n) then { e.2 with reserved := none } else e.2)) }

/-- A node leaves its queue's list (R81); what was reserved for it is free. -/
def State.offList (s : State) (gid n : Nat) : State :=
  match s.graph gid with
  | none => s
  | some g =>
    let k := queueKey g.tenant g.queue
    (s.setReady k ((mget [] s.ready k).filter (fun e => decide (e ≠ (gid, n))))).unreserve gid n

/-- The accesses that a context has outstanding as its task ends run on without it (R346); those that stand behind its twin's are over, since the
twin's perform for both (R279). -/
def Ctx.parted (y : Ctx) : Ctx := { y with remote := (y.remote.filter (fun r => r.twinOf.isNone)).map (fun r => { r with ended := true }) }

/-- A context becomes free for the distributor; a dictionary no context runs is freed (R99, R133), and it comes to no more commands of its twin's (R279). -/
def State.freeCtx (s : State) (t c : Nat) : State :=
  let s := s.modCtx t c (fun y => { y.parted with task := none, ending := false, stealing := none, draws := 0, x := { y.x with pend := [], hold := .none } })
  s.modTile t (fun x =>
    let used := fun (va : W64) => [x.c0, x.c1].any (fun y => match y.task with | some k => decide (k.kernel.va = va) | none => false)
    { x with dicts := x.dicts.filter (fun d => used d.va), follows := x.follows.filter (fun f => decide (f.ctx ≠ c) || f.id.isSome) })

/-- A saved context whose task has been cut for good: its commands and its accesses have left it (R61). -/
def Ctx.vacant (y : Ctx) : Ctx :=
  { y with task := none, hq := [], cq := [], kq := [], kruns := [], fq := [], ending := false, stop := StopRec.init, fail := none, q := [], disp := none, remote := [] }

/-- A saved tile without the tasks of a node; none where no task is left. -/
def Frame.without (gid n : Nat) (f : Frame) : Option Frame :=
  let drop := fun (y : Ctx) => if y.runs gid n then y.vacant else y
  let x := { f.tile with c0 := drop f.tile.c0, c1 := drop f.tile.c1 }
  if x.c0.task.isNone && x.c1.task.isNone then none else some { f with tile := x }

/-- The accesses that a context has issued for good and that have not performed, which outlive it (R61). -/
def Ctx.strays (y : Ctx) : List Remote := y.remote.filter (fun r => !r.done && r.twinOf.isNone)

/-- The accesses of a saved tile that outlive the failure of a node, by context: those of its tasks, and where no task is left all of them (R60, R61). -/
def Frame.strays (gid n : Nat) (f : Frame) : List (Nat × Remote) :=
  [0, 1].flatMap (fun c => if (f.tile.ctx c).runs gid n || (f.without gid n).isNone then (f.tile.ctx c).strays.map (fun r => (c, r)) else [])

/-- Accesses of a context that is gone perform as those of a task that has ended (R60, R61, R346). -/
def State.adopt (s : State) (t : Nat) (l : List (Nat × Remote)) : State :=
  l.foldl (fun (s : State) e => s.modCtx t e.1 (fun y => { y with remote := y.remote ++ [{ e.2 with ended := true }] })) s

/-- The tile without the deque records of a node (R61). -/
def Tile.withoutRecords (x : Tile) (gid n : Nat) : Tile :=
  let drop := fun (y : Ctx) => { y with deque := y.deque.filter (fun r => !decide (r.gid = gid ∧ r.node = n)) }
  { x with c0 := drop x.c0, c1 := drop x.c1 }

/-- A node fails with a cause: NSTAT, event, its tasks cut, its records discarded; the first failure stands (R61). A node of a
killed graph does not fail (R62). -/
def State.nodeFail (s : State) (gid n : Nat) (c : Cause) : State :=
  match s.graph gid, s.node gid n with
  | some g, some x =>
    if x.st = .failed ∨ x.st = .done ∨ g.killed then s
    else
      let s := s.modNode gid n (fun x => { x with st := .failed, cause := c, live := 0, resume := [], conts := [] })
      let s := s.putNstat gid n
      let s := s.modGraph gid (fun g => { g with fails := g.fails ++ [n] })
      let s := s.event g.tenant 2 (some c) 0 n g.user
      let s := s.frames.foldl (fun (s : State) f => s.abortFrame gid n f) s
      let s := s.frames.foldl (fun (s : State) f => s.adopt f.tileNo (f.strays gid n)) s
      let s := { s with frames := s.frames.filterMap (Frame.without gid n),
                        conts := mput s.conts g.tenant (mget 0 s.conts g.tenant - x.conts.length) }
      let s := (s.abortRepairs gid n).offList gid n
      let s := { s with tiles := s.tiles.map (fun (e : Nat × Tile) => (e.1, e.2.withoutRecords gid n)) }
      s.tiles.foldl (fun s e =>
        [0, 1].foldl (fun s k =>
          if (e.2.ctx k).runs gid n then
            (s.freeCtx e.1 k).modCtx e.1 k (fun y => { y with stop := StopRec.init, fail := none, q := [], disp := none })
          else s) (s.abortNode e.1 gid n)) s
  | _, _ => s

/-! ## Start and end of a task -/

/-- The registers of a task at its start (R88). -/
def Thread.start (pc : Nat) (k : Task) (args : List W64) : Thread :=
  let g := (upto 1 4).foldl (fun m i => mset 0 m i (nth 0 args (i - 1))) []
  let g := mset 0 g 5 (BitVec.ofNat 64 (k.x.toNat + 2 ^ 16 * k.y.toNat + 2 ^ 32 * k.z.toNat))
  let g := mset 0 g 6 (BitVec.ofNat 64 (k.node % 2 ^ 32 + 2 ^ 32 * k.tenant))
  { Thread.init with g := g, pc := pc }

/-- A context starts a task: registers, empty streams, a staging file of zeros (R88, R445). -/
def Ctx.begin (y : Ctx) (k : Task) (args : List W64) : Ctx :=
  { y with x := Thread.start (k.entry.getD k.kernel.entry) k args, task := some k, q := [], nanRow := 0, ending := false, stealing := none,
           draws := 0, stop := StopRec.init, fail := none, disp := none, cq := y.cq ++ [.clear],
           repEntry := if y.kq.isEmpty then 0 else y.repEntry, repLc := if y.kq.isEmpty then 0 else y.repLc,
           devThr := if y.kq.isEmpty then 0 else y.devThr, kq := if y.kq.isEmpty then [] else y.kq ++ [.clear] }

/-- A record as a task of the context's node and priority (R94, R96). -/
def Task.ofRec (k : Task) (r : TaskRec) : Task :=
  { k with node := r.node, gid := r.gid, x := r.x, y := r.y, z := r.z, entry := some r.entry.toNat, zeroOk := r.zeroOk }

/-- The arguments of a record. -/
def TaskRec.args (r : TaskRec) : List W64 := [r.arg0, r.arg1, r.arg2, r.arg3]

/-- A record breaks R94, which is seen when it starts (R384). -/
def Task.badRecord (k : Task) : Bool := !k.zeroOk || (match k.entry with | some e => decide (k.kernel.codelen ≤ e) | none => false)

/-- A context whose descriptor is loaded starts a record (R88, R96, R101). -/
def State.startRec (s : State) (t c : Nat) (k : Task) (r : TaskRec) : State :=
  let k := k.ofRec r
  if k.badRecord then s.nodeFail k.gid k.node 0x66#7 else s.modCtx t c (fun y => y.begin k r.args)

/-- Producers of a context's streams still at work (R346). -/
def Tile.feeding (x : Tile) (c : Nat) : Bool :=
  x.copies.any (fun k => decide (k.2.ctx = c ∧ cDSpace k.2.regs = 3)) || !(queuedStreams (x.ctx c).staging (x.ctx c).cq).isEmpty
    || (x.ctx c).fq.any (fun m => match m with | .frecvStream _ _ _ _ => true | _ => false)
    || (x.ctx c).remote.any (fun r => match r.kind with | .ldx _ => true | _ => false)
    || x.posted.any (fun r => decide (r.ctx = c) && r.stream.isSome)
    || (x.mq ++ x.beat.toList.map BeatRun.cmd).any (fun m => decide (m.ctx = c) && (match m.op with | .mdrain _ _ _ => true | _ => false))

/-- What the context's task still owes: JOIN's writes not yet performed (R385), a FORK not yet executed, whose record counts in LIVE (R95), an atomic
whose old value has not returned, which holds the context (R371). -/
def Ctx.joining (y : Ctx) : Bool :=
  y.hq.any (fun m => match m with | .joinCont _ _ _ _ => true | .joinDec _ _ _ => true | .fork _ => true | _ => false)
    || y.remote.any (fun r => match r.kind with | .atm _ _ => !r.done | _ => false)

/-- The task of a context that has reached END or JOIN ends: a recorded failure fails its node; LIVE falls; the next record of the deque
starts, or the context goes on to steal (R61, R89, R96, R99, R346). -/
def State.taskEnd (s : State) (t c : Nat) : State :=
  let y := s.ctx t c
  match y.task with
  | none => s
  | some k =>
    if !y.ending || y.stop.stopped || y.stealing.isSome || decide (y.draws ≠ 0) || y.joining || (s.tile t).feeding c then s
    else
      match y.fail.filter (fun f => decide (grade f.1 ≠ 0)) with
      | some (cause, _) => s.nodeFail k.gid k.node cause
      | none =>
        let s := s.modCtx t c Ctx.parted
        let s := if k.counts t c then
            (s.modNode k.gid k.node (fun x => { x with live := x.live - 1, ended := x.ended + 1 })).putNstat k.gid k.node else s
        match y.deque with
        | r :: rest => (s.modCtx t c (fun y => { y with deque := rest })).startRec t c k r
        | [] => if k.redundant then s.freeCtx t c else s.modCtx t c (fun y => { y with q := [], draws := 1 })

/-! ## Continuations -/

/-- The fields of 64 bytes as a task record of a node (R94). -/
def recOf (gid node b : Nat) : TaskRec :=
  { gid := gid, node := node, entry := BitVec.ofNat 32 b, x := BitVec.ofNat 16 (bits b 32 16), y := BitVec.ofNat 16 (bits b 48 16),
    z := BitVec.ofNat 16 (bits b 64 16), arg0 := BitVec.ofNat 64 (bits b 128 64), arg1 := BitVec.ofNat 64 (bits b 192 64),
    arg2 := BitVec.ofNat 64 (bits b 256 64), arg3 := BitVec.ofNat 64 (bits b 320 64),
    zeroOk := decide (bits b 80 48 = 0) && decide (bits b 384 128 = 0) }

/-- Records held and FORKs issued and not yet executed (R384). -/
def Ctx.occupancy (y : Ctx) : Nat := y.deque.length + (y.hq.filter (fun m => match m with | .fork _ => true | _ => false)).length

/-- The tenant's part of the continuation area holds other records: the hardware lays them out, so its bytes take free values (R50, R98). -/
def State.relaid (s : State) (tenant : Nat) : State := s.freeRegion (s.kregs.crbase.toNat + 0x40000 * tenant) 0x40000

/-- A record passes to the distributor as a continuation of its node (R81, R98). -/
def State.toPool (s : State) (tenant : Nat) (r : TaskRec) : State :=
  let s := s.modNode r.gid r.node (fun x => { x with conts := x.conts ++ [r] })
  State.reenter (State.relaid { s with conts := mput s.conts tenant (mget 0 s.conts tenant + 1) } tenant) r.gid r.node

/-- Room for a continuation: the deque of the context, where every FORK on its way to it has its place (R95, R384), or the tenant's part of the
continuation area (R98). -/
def State.contRoom (s : State) (t c tenant : Nat) : Bool :=
  decide ((s.ctx t c).occupancy < 64) || decide (mget 0 s.conts tenant < 4096)

/-- Push a released continuation at the head of the deque of the context that released it, or pass it to the distributor (R98). -/
def State.pushCont (s : State) (t c tenant : Nat) (r : TaskRec) : State :=
  let s := s.modNode r.gid r.node (fun x => { x with live := x.live + 1 })
  if (s.ctx t c).occupancy < 64 then s.modCtx t c (fun y => { y with deque := r :: y.deque }) else s.toPool tenant r

/-- A node takes work: it is of a graph that goes on, and it has not failed (R61, R62). -/
def State.takesWork (s : State) (gid n : Nat) : Bool :=
  match s.graph gid, s.node gid n with
  | some g, some x => !g.killed && (decide (x.st = .ready) || decide (x.st = .running))
  | _, _ => false

/-- A node that has no work left to bind leaves its list (R81). -/
def State.unlistIdle (s : State) (gid n : Nat) : State :=
  match s.node gid n with
  | some x => if x.hasWork then s else s.offList gid n
  | none => s

/-! ## A tile newly bound to another tenant -/

/-- Tile-shared state at its reset values; what the old tenant's tasks left in the queues is gone (R115; log entry 65). -/
def Tile.forTenant (x : Tile) (tn cycle : Nat) : Tile :=
  let clear := fun (y : Ctx) => { y with spill := [], staging := [], hq := [], cq := [], kq := [], kruns := [], fq := [] }
  { x with
    c0 := clear x.c0, c1 := clear x.c1, tenant := some tn, lostFor := x.lostFor.filter (fun n => decide (n ≠ tn)), bindCycle := cycle, pad := [], tags := [], swz := [], ink := [], acc := [],
    rowst := [], front := Plane.init, back := Plane.init, mxcfg := mxcfgReset, acur := [], drains := 0, nanstat := 0, nanSet := 0, nibcfg := 0,
    nibFresh := true, nibst := 0, trdefs := [], handles := [], freeing := [], copies := [], tlb := [], tcache := [],
    mq := [], nib := none, beat := none, gathers := [], brush := [], winq := [], posted := [], sends := [], leads := [], follows := [] }

end Sys2Proof.Machine
end

