-- ==== Sys2Proof/Machine/System.lean ====
section
/-! DEFINITION. Kernel and reliability registers, tile status pages and their commands (R50-R55, R263-R268, R287-R289), Weathervane (R66-R72),
tenants (R52, R106), and the interrupts of a control core (R270). -/

namespace Sys2Proof.Machine

/-! ## Registers of the reliability page -/

/-- Eight bytes of a 32-byte big-endian value, from byte o, as a little-endian number (R50). -/
def keyWord (k : BitVec 256) (o : Nat) : Nat := ofBytes (((toBytesBE 32 k.toNat).drop o).take 8)
/-- A 32-byte big-endian value with eight bytes from byte o replaced. -/
def setKeyWord (k : BitVec 256) (o v : Nat) : BitVec 256 :=
  let l := toBytesBE 32 k.toNat
  BitVec.ofNat 256 (ofBytesBE (l.take o ++ toBytes 8 v ++ l.drop (o + 8)))

/-- The register at an offset of the reliability page; write-only registers and the bytes between read as zero (R50, R265, R287). -/
def State.regRead (s : State) (off : Nat) : Nat :=
  let k := s.kregs
  if off = 0x000 then k.stopbase.toNat else if off = 0x008 then k.fpbase.toNat else if off = 0x010 then k.fpcount.toNat
  else if off = 0x018 then k.fpcount.toNat - s.frames.length else if off = 0x020 then k.klbase.toNat else if off = 0x028 then k.klsize.toNat
  else if off = 0x030 then k.klprod.toNat else if off = 0x038 then k.klcons.toNat else if off = 0x040 then k.kllost.toNat
  else if off = 0x048 then k.testivl.toNat else if off = 0x050 then k.memmap.toNat else if off = 0x100 then k.ttbase.toNat
  else if off = 0x110 then k.ttsync.isSome.toNat + 2 * k.badEntry.toNat else if off = 0x118 then k.winbase0.toNat
  else if off = 0x120 then k.winbase1.toNat else if off = 0x130 then k.winDrain.isSome.toNat else if off = 0x138 then k.ddbase.toNat
  else if off = 0x140 then k.crbase.toNat else if off = 0x150 then k.devres.toNat + 4 * k.devcmd.isSome.toNat
  else if off = 0x160 then k.capRef.toNat
  else if 0x180 ≤ off ∧ off < 0x1A0 then keyWord k.mkeyx (off - 0x180) else if 0x1A0 ≤ off ∧ off < 0x1C0 then keyWord k.mkeyy (off - 0x1A0)
  else if off = 0x1C8 then k.mkey.isSome.toNat else 0

/-- The bits [lo + n - 1 : lo] of a value, in place. -/
def keepBits (v : W64) (lo n : Nat) : W64 := BitVec.ofNat 64 (fld v lo n * 2 ^ lo)

/-- A write to a register with no behaviour of its own; the bring-up registers take it only in BRINGUP (R50, R287, R289). -/
def State.regWrite (s : State) (off : Nat) (v : W64) : State :=
  let k := s.kregs
  let put := fun (k : KRegs) => { s with kregs := k }
  let up := decide (s.dstate = .bringup)
  if off = 0x038 then put { k with klcons := v.setWidth 32 }
  else if off = 0x048 then put { k with testivl := keepBits v 0 10 }
  else if 0x180 ≤ off ∧ off < 0x1A0 then put { k with mkeyx := setKeyWord k.mkeyx (off - 0x180) v.toNat }
  else if 0x1A0 ≤ off ∧ off < 0x1C0 then put { k with mkeyy := setKeyWord k.mkeyy (off - 0x1A0) v.toNat }
  else if !up then s
  else if off = 0x000 then put { k with stopbase := keepBits v 17 29 }
  else if off = 0x008 then put { k with fpbase := keepBits v 23 23 }
  else if off = 0x010 then put { k with fpcount := keepBits v 0 16 }
  else if off = 0x020 then put { k with klbase := keepBits v 12 34 }
  else if off = 0x028 then put { k with klsize := keepBits v 0 5 }
  else if off = 0x100 then put { k with ttbase := keepBits v 15 31 }
  else if off = 0x118 then put { k with winbase0 := keepBits v 15 31 }
  else if off = 0x120 then put { k with winbase1 := keepBits v 15 31 }
  else if off = 0x138 then put { k with ddbase := keepBits v 28 18 }
  else if off = 0x140 then put { k with crbase := keepBits v 24 22 }
  else s

/-- REGISTER_WRITE (R5, R50, R287, R289). -/
def execRegisterWrite (off : Nat) (v : BitVec 64) (s : State) : Result := .next (s.regWrite (off / 8 * 8) v)

/-! ## Device commands (R20, R55, R76, R77, R288) -/

/-- A state command is answered: its outcome, and BUSY falls (R55). -/
def State.devAnswer (s : State) (applied : Bool) : State :=
  { s with kregs := { s.kregs with devcmd := none, devres := if applied then 1 else 2 } }

/-- The drain command: DRAINED with nothing counted, else DRAINING (R76). -/
def State.drain (s : State) : State := s.toDState (if s.graphs.isEmpty then .drained else .draining) 0

/-- A register that START needs is zero (R288). -/
def startBlocked (k : KRegs) : Bool :=
  decide (k.stopbase = 0) || decide (k.fpbase = 0) || decide (k.fpcount = 0) || decide (k.klbase = 0) || decide (k.ttbase = 0)
    || decide (k.crbase = 0)

/-- READY is entered; the first time after a reset the minimum-version fuses rise (R16, R20). -/
def State.started (s : State) : State :=
  let s := if s.boot.readied then s
    else { s with fuses := { s.fuses with
             min1 := if s.fuses.min1 < s.boot.ver1 then s.boot.ver1 else s.fuses.min1
             min2 := if s.fuses.min2 < s.boot.ver2 then s.boot.ver2 else s.fuses.min2 } }
  State.toDState { s with boot := { s.boot with readied := true } } .ready 0

/-- The state command that waits in DEVCMD is applied or refused (R20, R55, R76, R77, R288). -/
def State.devcmdRun (s : State) : State :=
  match s.kregs.devcmd with
  | none => s
  | some .start => if s.dstate = .bringup ∧ startBlocked s.kregs = false then s.started.devAnswer true else s.devAnswer false
  | some .drain => if s.dstate = .ready then s.drain.devAnswer true else s.devAnswer false
  | some .resume => if s.dstate = .draining ∨ s.dstate = .drained then (s.toDState .ready 0).devAnswer true else s.devAnswer false

/-- DEVCMD_START (R288). -/
def execDevcmdStart (s : State) : Result := .next (if s.kregs.devcmd = some .start then s.devcmdRun else s)

/-- DEVCMD_DRAIN (R76). -/
def execDevcmdDrain (s : State) : Result := .next (if s.kregs.devcmd = some .drain then s.devcmdRun else s)

/-- DEVCMD_RESUME (R77). -/
def execDevcmdResume (s : State) : Result := .next (if s.kregs.devcmd = some .resume then s.devcmdRun else s)

/-- A write of DEVCMD (R55). -/
def State.devcmdWrite (s : State) (v : W64) : State :=
  let k := s.kregs
  if k.devcmd.isSome || decide (fld v 0 2 = 0) then s
  else { s with kregs := { k with devres := 0, devcmd := some (if fld v 0 2 = 1 then .start else if fld v 0 2 = 2 then .drain else .resume) } }

/-- A power cap in R11's range. -/
def capOk (w : Nat) : Bool := decide (1200 ≤ w) && decide (w ≤ 3600) && decide (w % 10 = 0)

/-- A write of CAPSET (R11, R55). -/
def State.capsetWrite (s : State) (v : W64) : State :=
  if capOk (fld v 0 12) then { s with capNext := some (BitVec.ofNat 12 (fld v 0 12)), kregs := { s.kregs with capRef := false } }
  else { s with kregs := { s.kregs with capRef := true } }

/-- CAPSET (R55). -/
def execCapset (v : BitVec 64) (s : State) : Result := .next (s.capsetWrite v)

/-- CAP_EFFECTIVE: the commanded cap takes effect (R11). -/
def execCapEffective (s : State) : Result :=
  .next (match s.capNext with | some c => { s with cap := c, capNext := none } | none => s)

/-- MKCTL_INSTALL: the key of MKEYX and MKEYY, if it lies on P-256, with the command counter at zero (R54). -/
def execMkctlInstall (s : State) : Result :=
  .next (let k := s.kregs
    if onCurve k.mkeyx.toNat k.mkeyy.toNat then { s with kregs := { k with mkey := some (k.mkeyx ++ k.mkeyy), mkctr := 0 } } else s)

/-- MKCTL_REMOVE (R54). -/
def execMkctlRemove (s : State) : Result := .next { s with kregs := { s.kregs with mkey := none } }

/-! ## Tenants (R48, R51, R52, R106) -/

/-- Bits [lo + n - 1 : lo] of tenant n's entry in the table. -/
def State.ttField (s : State) (n byte len : Nat) : Nat := s.memNat (s.kregs.ttbase.toNat + 512 * n + byte) len

/-- The entry of tenant n as the table holds it (R51). Its EVPROD and EVLOST go on counting, which is the model's choice (log entry 78). -/
def State.ttEntry (s : State) (n : Nat) : Tenant :=
  let old := s.tenant n
  { valid := bit (s.ttField n 0 1) 0, share := s.ttField n 1 1, qenable := BitVec.ofNat 16 (s.ttField n 2 2),
    qcap := BitVec.ofNat 48 (s.ttField n 4 6), tileset := BitVec.ofNat 2304 (s.ttField n 64 288), ptroot := s.ttField n 16 8,
    evbase := BitVec.ofNat 64 (s.ttField n 24 8), evsize := s.ttField n 10 1, irqcore := s.ttField n 11 1, evprod := old.evprod,
    evlost := old.evlost, signal := old.signal }

/-- An entry with VALID 1 breaks R48 or has a nonzero zero byte (R52). -/
def State.ttBad (s : State) (n : Nat) : Bool :=
  let e := s.ttEntry n
  decide (2 ≤ s.ttField n 0 1) || decide (e.share = 0) || decide (e.evsize < 8) || decide (16 < e.evsize) || decide (31 < e.irqcore)
    || decide (s.ttField n 12 4 ≠ 0) || decide (e.ptroot % 4096 ≠ 0) || decide (2 ^ 46 ≤ e.ptroot) || decide (e.evbase.toNat % 16 ≠ 0)
    || decide (2 ^ 56 ≤ e.evbase.toNat) || decide (s.ttField n 36 28 ≠ 0) || decide (s.ttField n 352 160 ≠ 0)

/-- A tenant is killed: its contexts are cut and nothing is saved, its queued work, records, frames and reservations are discarded, its repair
jobs vanish; its graphs wait for GRAPH_KILL_COMPLETE (R62, R106, R233). -/
def State.kill (s : State) (n : Nat) : State :=
  let s := s.tiles.foldl (fun s e => if e.2.tenant = some n then s.killTile e.1 else s) s
  let gone := (s.graphs.filter (fun g => decide (g.tenant = n))).map Graph.gid
  let free := fun (x : Tile) => match x.reserved with | some r => if r.1 ∈ gone then { x with reserved := none } else x | none => x
  { s with
    tiles := s.tiles.map (fun e => (e.1, free e.2)),
    graphs := s.graphs.map (fun g => if g.tenant = n then
      { g with killed := true, nodes := g.nodes.map (fun x => { x with live := 0, resume := [], conts := [] }) } else g),
    ready := s.ready.filter (fun e => decide (e.1 / 16 ≠ n)), ages := s.ages.filter (fun e => decide (e.1 / 16 ≠ n)),
    waitFrom := s.waitFrom.filter (fun e => decide (e.1 / 16 ≠ n)),
    conts := mput s.conts n 0, frames := s.frames.filter (fun f => decide (f.gid ∉ gone)),
    dies := s.dies.map (fun e => (e.1, { e.2 with retouch := e.2.retouch.filter (fun j => decide (j.2.tenant ≠ n)) })) }

/-- Entry n reloaded in one step: a newly VALID tenant's credits are zero and it has no tile, a tenant no longer VALID is killed (R52, R82, R106). -/
def State.loadTenant (s : State) (n : Nat) : State :=
  let was := (s.tenant n).valid
  let e := s.ttEntry n
  let bad := e.valid && s.ttBad n
  let e := { e with valid := e.valid && !bad }
  let s := s.readMet (s.kregs.ttbase.toNat + 512 * n) 512
  let s := { s with tenants := mput s.tenants n e, kregs := { s.kregs with badEntry := s.kregs.badEntry || bad } }
  let s := if e.valid && !was then
      let free := fun (x : Tile) => if x.tenant = some n ∧ x.killing = false then { x with tenant := none } else x
      { s with
        dies := s.dies.map (fun d => (d.1, { d.2 with credit := d.2.credit.filter (fun c => decide (c.1 % 64 ≠ n)) })),
        tiles := s.tiles.map (fun (e : Nat × Tile) => (e.1, free e.2)) } else s
  if was && !e.valid then s.kill n else s

/-- A write of TTSYNC (R52). -/
def State.ttsyncWrite (s : State) (v : W64) : State :=
  if s.kregs.ttsync.isSome then s
  else { s with kregs := { s.kregs with ttsync := some (if v.getLsbD 6 then none else some (fld v 0 6)), badEntry := false } }

/-- TTSYNC (R52). -/
def execTtsync (v : BitVec 64) (s : State) : Result := .next (s.ttsyncWrite v)

/-- TENANT_TABLE_RELOAD (R52). -/
def execTenantTableReload (s : State) : Result :=
  .next (match s.kregs.ttsync with
    | none => s
    | some which =>
      let s := (match which with | some n => [n] | none => List.range 64).foldl State.loadTenant s
      { s with kregs := { s.kregs with ttsync := none } })

/-! ## Memory windows (R53, R65) -/

/-- Ethernet port n. -/
def State.eth (s : State) (n : Nat) : EthPort := mget EthPort.init s.eths n
/-- The state with Ethernet port n changed. -/
def State.modEth (s : State) (n : Nat) (f : EthPort → EthPort) : State := { s with eths := mput s.eths n (f (s.eth n)) }

/-- Where entry i of a port's window table lies (R53). -/
def State.windowAt (s : State) (port i : Nat) : Nat := (if port = 0 then s.kregs.winbase0 else s.kregs.winbase1).toNat + 32 * i

/-- Window i of a port as the table holds it; not VALID where it breaks the table or names no VALID tenant (R53). -/
def State.windowEntry (s : State) (port i : Nat) : Window :=
  let a := s.windowAt port i
  let b := s.memNat a 32
  let bad := decide (bits b 3 5 ≠ 0) || decide (bits b 1 2 = 0) || decide (bits b 14 18 ≠ 0) || decide (bits b 64 16 ≠ 0)
    || decide (bits b 120 8 ≠ 0) || decide (bits b 128 16 ≠ 0) || decide (bits b 128 64 = 0) || decide (bits b 192 64 ≠ 0)
    || !(s.tenant (bits b 8 6)).valid
  { valid := bit b 0 && !bad, perm := BitVec.ofNat 2 (bits b 1 2), tenant := bits b 8 6, rkey := BitVec.ofNat 32 (bits b 32 32),
    vbase := BitVec.ofNat 64 (bits b 64 64), length := BitVec.ofNat 64 (bits b 128 64) }

/-- A write of WINSYNC: the port loads the entry; taking a VALID window away is busy until its admitted accesses have finished (R53). -/
def State.winsyncWrite (s : State) (v : W64) : State :=
  if s.kregs.winDrain.isSome then s
  else
    let port := fld v 16 1
    let i := fld v 0 10
    let old := mget Window.init (s.eth port).windows i
    let w := s.windowEntry port i
    let s := (s.readMet (s.windowAt port i) 32).modEth port (fun e => { e with windows := mput e.windows i w })
    if old.valid && !w.valid then { s with kregs := { s.kregs with winDrain := some (port, i) } } else s

/-- WINSYNC (R53). -/
def execWinsync (v : BitVec 64) (s : State) : Result := .next (s.winsyncWrite v)

/-- WINDOW_DEREGISTER_COMPLETE: a RoCEv2 access runs whole in one step, so none admitted is unfinished (R53, R65). -/
def execWindowDeregisterComplete (s : State) : Result :=
  .next (match s.kregs.winDrain with
    | some _ => { s with kregs := { s.kregs with winDrain := none } }
    | none => s)

/-! ## Dispositions of a stopped context (R263, R268) -/

/-- CTXDISP RESUME: the register part is reloaded, the context goes on at STOPREC.PC, and its parked commands restart (R252, R258, R263). -/
def State.resumeCtx (s : State) (t c : Nat) : State :=
  let y := s.ctx t c
  if !y.stop.stopped then s
  else
    let s := s.setCtx t c (s.reloadPart y.stop.area.toNat { y with stop := { y.stop with stopped := false } })
    (s.modTile t (fun x => { x with
      copies := x.copies.map (fun k => (k.1, if k.2.ctx = c ∧ k.2.st = 2 then { k.2 with st := 1 } else k.2)),
      winq := x.winq.map (fun j => if j.ctx = c then { j with parked := false } else j) })).taskEnd t c

/-- CTXDISP ABANDON: the task ends with a cause; G1 or higher fails its node (R61, R263). A G3 cause given so is not recorded as the device's, which is
the model's choice (log entry 76). -/
def State.abandonCtx (s : State) (t c : Nat) (cause : Cause) : State :=
  let y := s.ctx t c
  if !y.stop.stopped then s
  else
    let s := s.setCtx t c { y with stop := { y.stop with stopped := false } }
    match y.task with
    | none => s
    | some k =>
      if grade cause = 0 then
        (s.modCtx t c (fun y => { y with ending := true, x := { y.x with pend := [], branch := none } })).taskEnd t c
      else s.nodeFail k.gid k.node cause

/-- A disposition is made: CTXDISP's OP, CTX and CAUSE (R268). -/
def State.dispose (s : State) (t : Nat) (v : W64) : State :=
  if fld v 0 2 = 1 then s.resumeCtx t (fld v 2 1) else if fld v 0 2 = 2 then s.abandonCtx t (fld v 2 1) (BitVec.ofNat 7 (fld v 8 7)) else s

/-- A write of CTXDISP on tile t: one with another OP, or for a context that is not stopped, is ignored (R268); the first one made while the tile is being
cut is applied after the restore, and those behind it find STOPPED at 0 then (R275). -/
def State.ctxdispWrite (s : State) (t : Nat) (v : W64) : State :=
  if !(s.tile t).cutting then s.dispose t v
  else
    let y := s.ctx t (fld v 2 1)
    if (fld v 0 2 = 1 ∨ fld v 0 2 = 2) ∧ y.stop.stopped = true ∧ y.disp = none then s.modCtx t (fld v 2 1) (fun y => { y with disp := some v }) else s

/-- CTXDISP_RESUME (R263). -/
def execCtxdispResume (t c : Nat) (s : State) : Result := .next (s.ctxdispWrite t (BitVec.ofNat 64 (1 + 4 * c)))

/-- CTXDISP_ABANDON (R263). -/
def execCtxdispAbandon (t c : Nat) (cause : BitVec 7) (s : State) : Result :=
  .next (s.ctxdispWrite t (BitVec.ofNat 64 (2 + 4 * c + 256 * cause.toNat)))

/-- NANSTAT_CLEAR: the bits written as 1 (R173, R267). -/
def execNanstatClear (t : Nat) (mask : BitVec 64) (s : State) : Result :=
  .next (s.modTile t (fun x => x.nanClear s.cycle mask))

/-! ## Weathervane (R66-R72) -/

/-- HEALTH's code (R69). -/
def Health.code : Health → Nat
  | .ok => 0
  | .degraded => 1
  | .quarantined => 2
  | .failed => 3

/-- The 8 bytes of a unit entry with its owner byte (R69). -/
def UnitEntry.bytes (e : UnitEntry) (owner : Nat) : List Byte :=
  toBytes 1 e.health.code ++ toBytes 1 (match e.last with | some c => 128 + c.toNat | none => 0) ++ toBytes 1 owner ++ toBytes 1 0
    ++ toBytes 4 e.count.toNat

/-- OWNER of a tile (R69). -/
def State.owner (s : State) (t : Nat) : Nat := match (s.tile t).tenant with | some n => 64 + n | none => 0

/-- Counts of a tenant's accepted graphs, by queue (R72). -/
def State.qgraphs (s : State) (n q : Nat) : Nat := (s.graphs.filter (fun g => decide (g.tenant = n ∧ g.queue = q))).length

/-- The fields of a page, as offsets and bytes (R67, R69, R71, R72); page 13 + n is tenant n's, and empty before the first READY as the topology and
health pages are, which R23 names alone (log entry 71). -/
def State.wvFields (s : State) (p : Nat) : List (Nat × List Byte) :=
  if p = 0 then
    [(8, toBytes 4 1), (12, toBytes 1 s.dstate.code), (13, toBytes 1 (match s.lastG3 with | some c => 128 + c.toNat | none => 0)),
     (16, toBytes 4 s.graphs.length), (20, toBytes 4 s.cap.toNat)] ++ (List.range 8).map (fun d => (32 + 8 * d, toBytes 8 (mget 0 s.lostCyc d).toNat))
  else if !s.boot.readied then []
  else if 2 ≤ p ∧ p ≤ 9 then
    let d := p - 2
    (List.range 288).map (fun i => (64 + 8 * i, (s.unit (.tile (288 * d + i))).bytes (s.owner (288 * d + i))))
      ++ (List.range 18).map (fun c => (2368 + 8 * c, (s.unit (.cluster (18 * d + c))).bytes 0))
      ++ (List.range 6).map (fun k => (2512 + 8 * k, (s.unit (.link (6 * d + k))).bytes 0))
      ++ [(2560, (s.unit (.retouch d)).bytes 0), (2568, (s.unit (.winnow d)).bytes 0), (2576, (s.unit (.distributor d)).bytes 0),
          (2584, (s.unit (.pageWalk d)).bytes 0)]
  else if p = 10 ∨ p = 11 then
    let k := p - 10
    (List.range 16).map (fun i => (64 + 8 * i, (s.unit (.core (16 * k + i))).bytes 0))
      ++ (List.range 24).map (fun j => (192 + 16 * j, (s.unit (.port (24 * k + j))).bytes 0 ++ toBytes 8 (s.port (24 * k + j)).peer.toNat))
      ++ [(576, (s.unit (.ethernet k)).bytes 0)] ++ (if p = 10 then [(584, (s.unit .security).bytes 0)] else [])
  else if 13 ≤ p then
    let n := p - 13
    [(8, toBytes 4 (s.tenant n).evprod.toNat), (12, toBytes 4 (s.tenant n).evlost.toNat),
     (16, toBytes 4 (s.graphs.filter (fun g => decide (g.tenant = n))).length)] ++ (List.range 16).map (fun q => (24 + 2 * q, toBytes 2 (s.qgraphs n q)))
  else []

/-- The corrected errors and replays of the units of a die, summed (R67, R69). -/
def State.dieCount (s : State) (d : Nat) : Nat :=
  (((List.range 288).map (fun i => (s.unit (.tile (288 * d + i))).count.toNat)) ++ ((List.range 18).map (fun c => (s.unit (.cluster (18 * d + c))).count.toNat))
    ++ ((List.range 6).map (fun k => (s.unit (.link (6 * d + k))).count.toNat))).foldl (· + ·) 0

/-- What page 12 tells: counters summed for each die, for each memory link and each port its NAKs or drops and the flits sent again, for each port the
references refused, for each Ethernet port its discards and refusals (R67). -/
def State.countersTold (s : State) : List Nat :=
  (List.range 8).map s.dieCount ++ (List.range 48).flatMap (fun k => [(s.link k).counted, (s.link k).host.resent + (s.link k).chip.resent]) ++
    (List.range 48).flatMap (fun k => [(s.port k).dropped, (s.port k).link.resent, (s.port k).refused]) ++
    [0, 1].flatMap (fun k => [(s.eth k).discards, (s.eth k).refusals])

/-- What a page tells whose layout the spec does not give. -/
def State.wvTold (s : State) (p : Nat) : List Nat :=
  if p = 1 then identityTold s.fuses s.boot else if p = 12 ∧ s.boot.readied then s.countersTold else []

/-- WEATHERVANE_UPDATE of page p: GEN goes odd, the bytes, then even again, in one step (R68). -/
def State.wvUpdate (s : State) (p : Nat) : State :=
  let w := mget WvPage.init s.wv p
  { s with wv := mput s.wv p { updates := w.updates + 1, bytes := (s.wvFields p).foldl (fun m e => mwrite 0 m e.1 e.2) [], told := s.wvTold p } }

/-- Page 13 of tenant n is updated, and then the interrupt of the records that its producer index now covers goes to IRQCORE (R64). -/
def State.wvTenant (s : State) (n : Nat) : State :=
  let s := s.wvUpdate (13 + n)
  let t := s.tenant n
  if t.signal then (s.modTenant n (fun t => { t with signal := false })).interrupt t.irqcore 0x6C#7 else s

/-- WEATHERVANE_UPDATE (R68): every tenant's page 13 is updated with page 13. -/
def execWeathervaneUpdate (p : Nat) (s : State) : Result :=
  .next (if p < 13 then s.wvUpdate p else (List.range 64).foldl State.wvTenant s)

/-- A byte of a page as a reader sees it: GEN, then the fields of the last update; of pages 1 and 12, whose layout the spec does not give, what they
tell in a layout that is free (log entry 17). -/
def State.wvRead (s : State) (p off : Nat) : Byte :=
  let w := mget WvPage.init s.wv p
  if off < 8 then BitVec.ofNat 8 (2 * w.updates / 256 ^ off)
  else if w.told ≠ [] then Config.wvByte p w.told off
  else mget 0 w.bytes off

/-- A byte of tenant n's view: other tenants' OWNER bytes read as zero, page 13 is its own (R72). -/
def State.wvTenantRead (s : State) (n p off : Nat) : Byte :=
  if p = 13 then s.wvRead (13 + n) off
  else if 13 < p then 0
  else
    let b := s.wvRead p off
    if 2 ≤ p ∧ p ≤ 9 ∧ 64 ≤ off ∧ off < 2368 ∧ off % 8 = 2 ∧ b ≠ BitVec.ofNat 8 (64 + n) then 0 else b

/-! ## The physical window -/

/-- The register at an offset of a tile's status page (R267). -/
def State.tileReg (s : State) (t off : Nat) : Nat :=
  if off = 0x000 then (s.tile t).nanstat.toNat
  else if 0x010 ≤ off ∧ off < 0x028 then (s.ctx t 0).stop.word / 2 ^ (8 * (off - 0x010)) % 2 ^ 64
  else if 0x030 ≤ off ∧ off < 0x048 then (s.ctx t 1).stop.word / 2 ^ (8 * (off - 0x030)) % 2 ^ 64
  else if off = 0x058 then (s.tile t).replays
  else if off = 0x060 then (s.cluster (clusterOf t)).cseq.toNat
  else 0

/-- A byte of the window as a control core loads it (R70, R265); what no table lists reads as zero. -/
def State.windowByte (s : State) (p : Nat) : Byte :=
  let o := p - windowBase
  let reg := fun (v : Nat) => BitVec.ofNat 8 (v / 256 ^ (p % 8))
  if o / 4096 < Config.tiles then reg (s.tileReg (o / 4096) (o % 4096 / 8 * 8))
  else if p / 4096 = 0x3F0010000 then reg (s.regRead (o % 4096 / 8 * 8))
  else if p / 65536 = 0x3F002000 then (if p / 4096 % 16 < 13 then s.wvRead (p / 4096 % 16) (p % 4096) else 0)
  else if 0x3F003000 ≤ p / 65536 ∧ p / 65536 < 0x3F003040 then s.wvTenantRead (p / 65536 - 0x3F003000) (p / 4096 % 16) (p % 4096)
  else 0

/-- A store to the register at an offset of the reliability page (R50). -/
def State.kernelStore (s : State) (off : Nat) (v : W64) : State :=
  if off = 0x108 then s.ttsyncWrite v
  else if off = 0x128 then s.winsyncWrite v
  else if off = 0x148 then s.devcmdWrite v
  else if off = 0x158 then s.capsetWrite v
  else if off = 0x1C0 then
    let s := if v.getLsbD 0 then (match execMkctlInstall s with | .next s => s | _ => s) else s
    if v.getLsbD 1 then { s with kregs := { s.kregs with mkey := none } } else s
  else s.regWrite off v

/-- A store of n bytes to the window: the register it lies in takes them, keeping its other bytes (R50, R265-R268); stores to Weathervane are
ignored (R70). -/
def State.windowStore (s : State) (p n v : Nat) : State :=
  let o := p - windowBase
  let r := o % 4096 / 8 * 8
  let merge := fun (old : Nat) => BitVec.ofNat 64 (setBits old (8 * (p % 8)) (8 * n) v)
  if o / 4096 < Config.tiles then
    (if r = 0x000 then s.modTile (o / 4096) (fun x => x.nanClear s.cycle (merge 0))
    else if r = 0x050 then s.ctxdispWrite (o / 4096) (merge 0)
    else s)
  else if p / 4096 = 0x3F0010000 then s.kernelStore r (merge (s.regRead r))
  else s

/-! ## Interrupts of a control core (R270) -/

/-- CC_COMPARE: the core's CYCLE has reached CCMP (R269, R270). -/
def execCcCompare (k : Nat) (s : State) : Result :=
  .next (let x := s.core k
    if x.ccmp.toNat ≤ x.x.ccycle ∧ x.compared = false then s.modCore k (fun x => { x.interrupt 0x6F#7 with compared := true }) else s)

/-- INTERRUPT_TAKEN: between bundles, with no delay slot pending, in user mode or with IE at 1 (R270). -/
def execInterruptTaken (k : Nat) (s : State) : Result :=
  .next (let x := s.core k
    match x.irq with
    | [] => s
    | c :: rest =>
      if x.running && x.x.branch.isNone && (!x.kernel || x.ie) && decide (x.x.stallLeft = 0) && x.enq.isNone then
        (s.modCore k (fun x => { x with irq := rest })).coreTrap k { cause := c, slots := 0, faddr := 0, pc := x.x.pc, engine := none }
      else s)

end Sys2Proof.Machine
end

