-- ==== Sys2Proof/Machine/Memory.lean ====
section
/-! DEFINITION. LD, ST, VLD, VST, LDS and STS (R365, R366, R373). -/

namespace Sys2Proof.Machine

/-- n bytes at a physical address as a control core loads them: device memory, or the window (R70, R265). -/
def State.coreRead (s : State) (pa n : Nat) : Nat :=
  if windowBase ≤ pa then ofBytes ((upto pa n).map s.windowByte) else s.memNat pa n

/-- A control core's store (R46, R265). -/
def State.coreWrite (s : State) (pa n v : Nat) : State :=
  if windowBase ≤ pa then s.windowStore pa n (v % 2 ^ (8 * n)) else s.memPut pa n v

/-- Scalar load of a control core (R373): zero-extended, latency 4. -/
def coreLoad (size : Nat) (p : BitVec 4) (off : BitVec 12) (m : BitVec 4) (r : BitVec 6) (s : State) : Result :=
  issue s ((s.thread s.cur.u).guard p) (s.vaccess s.cur.u ((s.thread s.cur.u).lAddr m off size) size .read).verdict (fun s =>
    s.result64 s.cur.u (.g r.toNat)
      (BitVec.ofNat 64 (s.coreRead (s.vaccess s.cur.u ((s.thread s.cur.u).lAddr m off size) size .read).pa size)) 4)

/-- Scalar store of a control core, performed at issue (R373). -/
def coreStore (size : Nat) (p : BitVec 4) (off : BitVec 12) (m : BitVec 4) (r : BitVec 6) (s : State) : Result :=
  issue s ((s.thread s.cur.u).guard p) (s.vaccess s.cur.u ((s.thread s.cur.u).lAddr m off size) size .write).verdict (fun s =>
    s.coreWrite (s.vaccess s.cur.u ((s.thread s.cur.u).lAddr m off size) size .write).pa size ((s.thread s.cur.u).rg r.toNat).toNat)

/-- LD of size bytes: the own scratchpad, or a control core's memory. -/
def loadOp (size : Nat) (p : BitVec 4) (off : BitVec 12) (m : BitVec 4) (r : BitVec 6) (s : State) : Result :=
  if unitIsCore s.cur.u then coreLoad size p off m r s else tileLoad size p off m r s

/-- ST of size bytes. -/
def storeOp (size : Nat) (p : BitVec 4) (off : BitVec 12) (m : BitVec 4) (r : BitVec 6) (s : State) : Result :=
  if unitIsCore s.cur.u then coreStore size p off m r s else tileStore size p off m r s

/-- LD.b (R365, R373). -/
def execLdB (p : BitVec 4) (off : BitVec 12) (m : BitVec 4) (r : BitVec 6) (s : State) : Result := loadOp 1 p off m r s

/-- ST.b (R365, R373). -/
def execStB (p : BitVec 4) (off : BitVec 12) (m : BitVec 4) (r : BitVec 6) (s : State) : Result := storeOp 1 p off m r s

/-- LD.h (R365, R373). -/
def execLdH (p : BitVec 4) (off : BitVec 12) (m : BitVec 4) (r : BitVec 6) (s : State) : Result := loadOp 2 p off m r s

/-- ST.h (R365, R373). -/
def execStH (p : BitVec 4) (off : BitVec 12) (m : BitVec 4) (r : BitVec 6) (s : State) : Result := storeOp 2 p off m r s

/-- LD.w (R365, R373). -/
def execLdW (p : BitVec 4) (off : BitVec 12) (m : BitVec 4) (r : BitVec 6) (s : State) : Result := loadOp 4 p off m r s

/-- ST.w (R365, R373). -/
def execStW (p : BitVec 4) (off : BitVec 12) (m : BitVec 4) (r : BitVec 6) (s : State) : Result := storeOp 4 p off m r s

/-- LD.d (R365, R373). -/
def execLdD (p : BitVec 4) (off : BitVec 12) (m : BitVec 4) (r : BitVec 6) (s : State) : Result := loadOp 8 p off m r s

/-- ST.d (R365, R373). -/
def execStD (p : BitVec 4) (off : BitVec 12) (m : BitVec 4) (r : BitVec 6) (s : State) : Result := storeOp 8 p off m r s

/-- VLD of 256 bits (R365). -/
def execVld256 (p : BitVec 4) (off : BitVec 12) (m : BitVec 4) (r : BitVec 6) (s : State) : Result := tileVload 32 p off m r s

/-- VST of 256 bits (R365). -/
def execVst256 (p : BitVec 4) (off : BitVec 12) (m : BitVec 4) (r : BitVec 6) (s : State) : Result := tileVstore 32 p off m r s

/-- VLD of 512 bits (R365). -/
def execVld512 (p : BitVec 4) (off : BitVec 12) (m : BitVec 4) (r : BitVec 6) (s : State) : Result := tileVload 64 p off m r s

/-- VST of 512 bits (R365). -/
def execVst512 (p : BitVec 4) (off : BitVec 12) (m : BitVec 4) (r : BitVec 6) (s : State) : Result := tileVstore 64 p off m r s

/-- VLD of 1024 bits (R365). -/
def execVld1024 (p : BitVec 4) (off : BitVec 12) (m : BitVec 4) (r : BitVec 6) (s : State) : Result := tileVload 128 p off m r s

/-- VST of 1024 bits (R365). -/
def execVst1024 (p : BitVec 4) (off : BitVec 12) (m : BitVec 4) (r : BitVec 6) (s : State) : Result := tileVstore 128 p off m r s

/-- LDS.b (R366). -/
def execLdsB (p : BitVec 4) (off : BitVec 12) (r : BitVec 6) (s : State) : Result := spillLoad 1 p off r s

/-- STS.b (R366). -/
def execStsB (p : BitVec 4) (off : BitVec 12) (r : BitVec 6) (s : State) : Result := spillStore 1 p off r s

/-- LDS.h (R366). -/
def execLdsH (p : BitVec 4) (off : BitVec 12) (r : BitVec 6) (s : State) : Result := spillLoad 2 p off r s

/-- STS.h (R366). -/
def execStsH (p : BitVec 4) (off : BitVec 12) (r : BitVec 6) (s : State) : Result := spillStore 2 p off r s

/-- LDS.w (R366). -/
def execLdsW (p : BitVec 4) (off : BitVec 12) (r : BitVec 6) (s : State) : Result := spillLoad 4 p off r s

/-- STS.w (R366). -/
def execStsW (p : BitVec 4) (off : BitVec 12) (r : BitVec 6) (s : State) : Result := spillStore 4 p off r s

/-- LDS.d (R366). -/
def execLdsD (p : BitVec 4) (off : BitVec 12) (r : BitVec 6) (s : State) : Result := spillLoad 8 p off r s

/-- STS.d (R366). -/
def execStsD (p : BitVec 4) (off : BitVec 12) (r : BitVec 6) (s : State) : Result := spillStore 8 p off r s

end Sys2Proof.Machine
end

