-- ==== Sys2Proof/Machine/Home.lean ====
section
/-! DEFINITION. What an access does at its home (R364, R368-R372), and the remote accesses of a context: their issue, their performing and
their returns (R367, R468). -/

namespace Sys2Proof.Machine

/-! ## The home of a location -/

/-- Bytes of an access with the lanes it names, the lowest first. -/
def lanesOf (n : Nat) (lanes : PReg) : List Bool := (List.range n).map lanes.getLsbD

/-- All lanes of an access are named. -/
def fullLanes (n : Nat) (lanes : PReg) : Bool := (lanesOf n lanes).all id

/-- A frame cut from tile t for a tenant is saved: accesses aimed at the tile wait at their port (R274). -/
def State.savedFor (s : State) (t tn : Nat) : Bool :=
  s.frames.any (fun f => decide (f.tileNo = t ∧ f.tile.tenant = some tn))

/-- The access waits for its tile to be restored (R274). -/
def State.homeWaits (s : State) (tn : Nat) (a : W64) : Bool :=
  gaTile a && s.savedFor (gaTileNo a) tn

/-- A store, an atomic or a decrement. -/
def RKind.writes : RKind → Bool
  | .ldx _ => false
  | .report => false
  | _ => true

/-- Why an access fails at its home (R38, R142, R145, R274, R364, R380): a tile that is FAILED or has lost the tenant's frame, tenant, range, handle
region, tag, failed link, poisoned line. -/
def State.homeFails (s : State) (tn : Nat) (k : RKind) (a : W64) (pa size : Nat) (whole : Bool) : Option Cause :=
  if gaTile a then
    let x := s.tile (gaTileNo a)
    let l := upto (gaOff a) size
    if (s.unit (.tile (gaTileNo a))).health = .failed then some 0x2F#7
    else if x.tenant ≠ some tn ∧ tn ∈ x.lostFor then some 0x2F#7
    else if x.tenant ≠ some tn ∨ (s.tenant tn).valid = false then some 0x26#7
    else if l.any (fun b => decide (Config.spadSize ≤ b)) then some 0x29#7
    else if l.any x.inHandle then some 0x27#7
    else
      match k with
      | .arrival => if x.tagged (gaOff a) then none else some 0x2C#7
      | _ => if k.writes && l.any x.tagged then some 0x28#7 else none
  else if k.writes && !whole && s.poisoned pa size then some 0x77#7
  else s.memFails pa size k.writes

/-- size bytes at a location. -/
def State.homeRead (s : State) (a : W64) (pa size : Nat) : Nat :=
  if gaTile a then (s.tile (gaTileNo a)).padNat (gaOff a) size else s.memNat pa size

/-- The lanes named of size bytes written at a location, in one step (R466). -/
def State.homeWrite (s : State) (a : W64) (pa size : Nat) (v : Nat) (lanes : PReg) : State :=
  if gaTile a then
    s.modTile (gaTileNo a) (fun x => x.padSet (keepLanes (lanesOf size lanes) ((upto (gaOff a) size).zip (toBytes size v))))
  else if fullLanes size lanes then s.memWrite pa (toBytes size v)
  else (keepLanes (lanesOf size lanes) ((upto pa size).zip (toBytes size v))).foldl (fun s e => s.memWrite e.1 [e.2]) s

/-- The value an atomic writes: old, the operand g(REG) and g(REG + 1), on n bits (R370). -/
def AtmOp.combine (op : AtmOp) (n old v v2 : Nat) : Nat :=
  match op with
  | .add => (old + v) % 2 ^ n
  | .and => old &&& v
  | .or => old ||| v
  | .xor => old ^^^ v
  | .swp => v
  | .cas => if old = v then v2 else old
  | .min => if signed n v < signed n old then v else old
  | .max => if signed n old < signed n v then v else old
  | .fmaxF32 => if image n old < image n v then v else old
  | .fmaxBf16 => if image n old < image n v then v else old
  | .fmaxF16 => if image n old < image n v then v else old
  | .dec => (old + (2 ^ n - 1)) % 2 ^ n

/-- The outcome of an access at its home: the state, what it returns, why it failed, and the CONT it released (R372). -/
structure HomeR where
  st   : State
  val  : Nat
  fail : Option Cause
  cont : Option Nat

/-- A decrement of a join block at its home (R97, R372). The one from 1 reads CONT, and takes no effect where that read fails (R364). -/
def State.decAt (s : State) (tn : Nat) (a : W64) (pa : Nat) : HomeR :=
  let old := s.homeRead a pa 8
  match (if old = 1 then s.homeFails tn (.ldx 0) (a + 64) (pa + 64) 64 true else none) with
  | some c => { st := if gaTile a then s else s.failedAt c (pa + 64), val := 0, fail := some c, cont := none }
  | none =>
    { st := s.homeWrite a pa 8 (AtmOp.dec.combine 64 old 0 0) (BitVec.allOnes 128), val := old, fail := none,
      cont := if old = 1 then some (s.homeRead (a + 64) (pa + 64) 64) else none }

/-- One access at its home, in one step (R364, R368, R370, R381). -/
def State.atHome (s : State) (tn : Nat) (k : RKind) (a : W64) (pa size data data2 : Nat) (lanes : PReg) : HomeR :=
  match s.homeFails tn k a pa size (fullLanes size lanes) with
  | some c => { st := if gaTile a then s else s.failedAt c pa, val := 0, fail := some c, cont := none }
  | none =>
    match k with
    | .ldx _ => { st := s, val := s.homeRead a pa size &&& maskOf 0 8 (lanesOf size lanes), fail := none, cont := none }
    | .stx => { st := s.homeWrite a pa size data lanes, val := 0, fail := none, cont := none }
    | .cont => { st := s.homeWrite a pa size data lanes, val := 0, fail := none, cont := none }
    | .atm .dec _ => s.decAt tn a pa
    | .joinDec => s.decAt tn a pa
    | .atm op _ =>
      let old := s.homeRead a pa size
      { st := s.homeWrite a pa size (op.combine (8 * size) old (data % 2 ^ (8 * size)) (data2 % 2 ^ (8 * size))) lanes, val := old,
        fail := none, cont := none }
    | .arrival => { st := s.modTile (gaTileNo a) (fun x => x.barrier (gaOff a) 0 1 none), val := 0, fail := none, cont := none }
    | .report => { st := s, val := 0, fail := none, cont := none }

/-! ## Issuing a remote access -/

/-- Which access of its twin a new access of a redundant pair's second copy stands behind: the first of the twin's that none of its own
stands behind yet, a report behind a report (R279). -/
def State.twinAccess (s : State) (t c : Nat) (kind : RKind) : Option Nat :=
  match (s.ctx t c).task with
  | none => none
  | some k =>
    match k.twin with
    | none => none
    | some (t', c') =>
      if k.counts t c then none
      else
        let mine := (s.ctx t c).remote.filterMap Remote.twinOf
        (((s.ctx t' c').remote.find? (fun r => decide (r.id ∉ mine) && decide (r.kind = .report) == decide (kind = .report))).map Remote.id)

/-- The task of the context has ended, and the context asks for another (R99, R346). -/
def Ctx.taskOver (y : Ctx) : Bool := decide (y.draws ≠ 0) || y.stealing.isSome

/-- A remote access of context c of tile t under number id, which gives its place in issue order (R468). -/
def State.addRemoteAs (s : State) (id t c : Nat) (k : RKind) (a : W64) (pa size tscope : Nat) (data : VReg) (data2 : W64) (lanes : PReg) :
    State :=
  let tk := (s.ctx t c).task
  let r : Remote :=
    { id := id, kind := k, addr := a, pa := pa, size := size, data := data, data2 := data2, lanes := lanes, tscope := tscope,
      due := (s.ctx t c).x.ccycle + 5, tenant := (s.tile t).tenant.getD 0, gid := (tk.map Task.gid).getD 0,
      node := (tk.map Task.node).getD 0, sent := false, done := false, twinOf := s.twinAccess t c k,
      ended := (s.ctx t c).taskOver,
      result := { width := 8 * size, val := 0, marks := 0, poison := none } }
  s.modCtx t c (fun y => { y with remote := y.remote ++ [r] })

/-- A remote access of context c of tile t, numbered by the next command number (R468). -/
def State.addRemote (s : State) (t c : Nat) (k : RKind) (a : W64) (pa size tscope : Nat) (data : VReg) (data2 : W64) (lanes : PReg) : State :=
  s.stamp.2.addRemoteAs s.stamp.1 t c k a pa size tscope data data2 lanes

/-- A remote access of the context in hand. -/
def State.pushRemote (s : State) (k : RKind) (a : W64) (pa size tscope : Nat) (data : VReg) (data2 : W64) (lanes : PReg) : State :=
  s.addRemote (unitTile s.cur.u) (unitCtx s.cur.u) k a pa size tscope data data2 lanes

/-- A stream register that holds 16 elements holds the LDX that feeds it (R137, R367). -/
def fullStream (s : State) (q : Nat) : Verdict :=
  if 16 ≤ (s.curCtx.stream q).elems.length then .held (.full q) else .ok

/-- The address and target of a global L-slot access of the bundle in hand. -/
def State.gTarget (s : State) (m : BitVec 4) (off : BitVec 12) (size : Nat) (acc : Acc) : Target :=
  s.target s.cur.u s.cur.scope ((s.thread s.cur.u).lAddr m off size) size acc

/-- LDX of size bytes into stream q, with the lanes that return (R367). -/
def ldxOp (size : Nat) (guard : Bool) (lanes : Thread → PReg) (off : BitVec 12) (m : BitVec 4) (q : BitVec 3) (s : State) : Result :=
  issue s guard ((s.gTarget m off size .read).verdict.both (fullStream s q.toNat)) (fun s =>
    let t := s.gTarget m off size .read
    s.pushRemote (.ldx q.toNat) ((s.thread s.cur.u).lAddr m off size) t.pa size t.tscope 0 0 (lanes (s.thread s.cur.u)))

/-- The predicate as the lanes it guards on (R320). -/
def Thread.laneMask (p : BitVec 4) (x : Thread) : PReg := if p.getLsbD 3 then ~~~x.rp (p.toNat % 8) else x.rp (p.toNat % 8)

/-- LDX.d (R367). -/
def execLdxD (p : BitVec 4) (off : BitVec 12) (m : BitVec 4) (q : BitVec 3) (s : State) : Result :=
  ldxOp 8 ((s.thread s.cur.u).guard p) (fun _ => BitVec.allOnes 128) off m q s
/-- LDX.v256 (R367). -/
def execLdxV256 (p : BitVec 4) (off : BitVec 12) (m : BitVec 4) (q : BitVec 3) (s : State) : Result :=
  ldxOp 32 true (Thread.laneMask p) off m q s
/-- LDX.v512 (R367). -/
def execLdxV512 (p : BitVec 4) (off : BitVec 12) (m : BitVec 4) (q : BitVec 3) (s : State) : Result :=
  ldxOp 64 true (Thread.laneMask p) off m q s
/-- LDX.v1024 (R367). -/
def execLdxV1024 (p : BitVec 4) (off : BitVec 12) (m : BitVec 4) (q : BitVec 3) (s : State) : Result :=
  ldxOp 128 true (Thread.laneMask p) off m q s

/-- STX of a g register (R368). -/
def execStxD (p : BitVec 4) (off : BitVec 12) (m : BitVec 4) (r : BitVec 6) (s : State) : Result :=
  issue s ((s.thread s.cur.u).guard p) (s.gTarget m off 8 .write).verdict (fun s =>
    let t := s.gTarget m off 8 .write
    let x := s.thread s.cur.u
    s.pushRemote .stx (x.lAddr m off 8) t.pa 8 t.tscope ((x.rg r.toNat).setWidth 1024) 0 (BitVec.allOnes 128))

/-- The lanes of a vector store, from bit 0 up (R365, R368). -/
def storeLanes (x : Thread) (p : BitVec 4) (size : Nat) (r : BitVec 6) : PReg :=
  BitVec.ofNat 128 (maskOf 0 1 (laneList x p (lPart size r) size))

/-- STX of a vector (R368): no lane guarded on, no access. -/
def stxOp (size : Nat) (p : BitVec 4) (off : BitVec 12) (m : BitVec 4) (r : BitVec 6) (s : State) : Result :=
  issue s (decide (storeLanes (s.thread s.cur.u) p size r ≠ 0)) (s.gTarget m off size .write).verdict (fun s =>
    let t := s.gTarget m off size .write
    let x := s.thread s.cur.u
    s.pushRemote .stx (x.lAddr m off size) t.pa size t.tscope (BitVec.ofNat 1024 (x.part (lPart size r))) 0 (storeLanes x p size r))

/-- STX of 256 bits (R368). -/
def execStxV256 (p : BitVec 4) (off : BitVec 12) (m : BitVec 4) (r : BitVec 6) (s : State) : Result := stxOp 32 p off m r s
/-- STX of 512 bits (R368). -/
def execStxV512 (p : BitVec 4) (off : BitVec 12) (m : BitVec 4) (r : BitVec 6) (s : State) : Result := stxOp 64 p off m r s
/-- STX of 1024 bits (R368). -/
def execStxV1024 (p : BitVec 4) (off : BitVec 12) (m : BitVec 4) (r : BitVec 6) (s : State) : Result := stxOp 128 p off m r s

/-! ## Atomics -/

/-- Operands of an atomic: g(REG) and g(REG + 1), zero-extended as read (R370). -/
def atmOperands (x : Thread) (r : BitVec 6) : W64 × W64 := (x.rg r.toNat, x.rg ((r.toNat + 1) % 64))

/-- An atomic at SCOPE 0, on the own scratchpad: it performs at issue and never holds (R362, R371). -/
def atmLocal (op : AtmOp) (size : Nat) (off : BitVec 12) (m : BitVec 4) (r : BitVec 6) (s : State) : State :=
  let a := s.local s.cur.u m off size true
  let x := s.thread s.cur.u
  let old := ofBytes (a.bytes.map s.curTile.padByte)
  let v := atmOperands x r
  let new := op.combine (8 * size) old (v.1.toNat % 2 ^ (8 * size)) (v.2.toNat % 2 ^ (8 * size))
  (s.modCurTile (fun t => t.padSet (a.bytes.zip (toBytes size new)))).result64 s.cur.u (.g r.toNat) (BitVec.ofNat 64 old) 4

/-- An atomic of a control core on device memory (R373). -/
def atmCore (op : AtmOp) (size : Nat) (off : BitVec 12) (m : BitVec 4) (r : BitVec 6) (s : State) : State :=
  let x := s.thread s.cur.u
  let t := s.vaccess s.cur.u (x.lAddr m off size) size .update
  let old := s.coreRead t.pa size
  let v := atmOperands x r
  let new := op.combine (8 * size) old (v.1.toNat % 2 ^ (8 * size)) (v.2.toNat % 2 ^ (8 * size))
  (s.coreWrite t.pa size new).result64 s.cur.u (.g r.toNat) (BitVec.ofNat 64 old) 4

/-- An atomic at SCOPE 1 to 4: it goes to its home, and its context holds until the old value has returned (R371). -/
def atmRemote (op : AtmOp) (size : Nat) (off : BitVec 12) (m : BitVec 4) (r : BitVec 6) (s : State) : State :=
  let x := s.thread s.cur.u
  let t := s.gTarget m off size .update
  let v := atmOperands x r
  s.pushRemote (.atm op r.toNat) (x.lAddr m off size) t.pa size t.tscope (v.1.setWidth 1024) v.2 (BitVec.allOnes 128)

/-- The checks of an atomic where it acts (R363, R365, R373). -/
def atmCheck (size : Nat) (off : BitVec 12) (m : BitVec 4) (s : State) : Verdict :=
  if unitIsCore s.cur.u then (s.vaccess s.cur.u ((s.thread s.cur.u).lAddr m off size) size .update).verdict
  else if s.cur.scope = 0 then (s.local s.cur.u m off size true).verdict
  else (s.gTarget m off size .update).verdict

/-- An atomic of size bytes (R362, R370, R371). -/
def atmOp (op : AtmOp) (size : Nat) (p : BitVec 4) (off : BitVec 12) (m : BitVec 4) (r : BitVec 6) (s : State) : Result :=
  issue s ((s.thread s.cur.u).guard p) (atmCheck size off m s) (fun s =>
    if unitIsCore s.cur.u then atmCore op size off m r s
    else if s.cur.scope = 0 then atmLocal op size off m r s
    else atmRemote op size off m r s)

/-- ATM.dec (R372): a join block at package scope. -/
def execAtmDec (p : BitVec 4) (off : BitVec 12) (m : BitVec 4) (r : BitVec 6) (s : State) : Result :=
  issue s ((s.thread s.cur.u).guard p)
    ((faultIf (decide (s.cur.scope < 3)) 0x67#7).both
      ((faultIf (decide (((s.thread s.cur.u).lAddr m off 8).toNat % 128 ≠ 0)) 0x24#7).both (s.gTarget m off 8 .update).verdict))
    (atmRemote .dec 8 off m r)

/-- ATM.add.w (R370). -/
def execAtmAddW (p : BitVec 4) (off : BitVec 12) (m : BitVec 4) (r : BitVec 6) (s : State) : Result := atmOp .add 4 p off m r s

/-- ATM.and.w (R370). -/
def execAtmAndW (p : BitVec 4) (off : BitVec 12) (m : BitVec 4) (r : BitVec 6) (s : State) : Result := atmOp .and 4 p off m r s

/-- ATM.or.w (R370). -/
def execAtmOrW (p : BitVec 4) (off : BitVec 12) (m : BitVec 4) (r : BitVec 6) (s : State) : Result := atmOp .or 4 p off m r s

/-- ATM.xor.w (R370). -/
def execAtmXorW (p : BitVec 4) (off : BitVec 12) (m : BitVec 4) (r : BitVec 6) (s : State) : Result := atmOp .xor 4 p off m r s

/-- ATM.swp.w (R370). -/
def execAtmSwpW (p : BitVec 4) (off : BitVec 12) (m : BitVec 4) (r : BitVec 6) (s : State) : Result := atmOp .swp 4 p off m r s

/-- ATM.cas.w (R370). -/
def execAtmCasW (p : BitVec 4) (off : BitVec 12) (m : BitVec 4) (r : BitVec 6) (s : State) : Result := atmOp .cas 4 p off m r s

/-- ATM.min.w (R370). -/
def execAtmMinW (p : BitVec 4) (off : BitVec 12) (m : BitVec 4) (r : BitVec 6) (s : State) : Result := atmOp .min 4 p off m r s

/-- ATM.max.w (R370). -/
def execAtmMaxW (p : BitVec 4) (off : BitVec 12) (m : BitVec 4) (r : BitVec 6) (s : State) : Result := atmOp .max 4 p off m r s

/-- ATM.add (R370). -/
def execAtmAdd (p : BitVec 4) (off : BitVec 12) (m : BitVec 4) (r : BitVec 6) (s : State) : Result := atmOp .add 8 p off m r s

/-- ATM.and (R370). -/
def execAtmAnd (p : BitVec 4) (off : BitVec 12) (m : BitVec 4) (r : BitVec 6) (s : State) : Result := atmOp .and 8 p off m r s

/-- ATM.or (R370). -/
def execAtmOr (p : BitVec 4) (off : BitVec 12) (m : BitVec 4) (r : BitVec 6) (s : State) : Result := atmOp .or 8 p off m r s

/-- ATM.xor (R370). -/
def execAtmXor (p : BitVec 4) (off : BitVec 12) (m : BitVec 4) (r : BitVec 6) (s : State) : Result := atmOp .xor 8 p off m r s

/-- ATM.swp (R370). -/
def execAtmSwp (p : BitVec 4) (off : BitVec 12) (m : BitVec 4) (r : BitVec 6) (s : State) : Result := atmOp .swp 8 p off m r s

/-- ATM.cas (R370). -/
def execAtmCas (p : BitVec 4) (off : BitVec 12) (m : BitVec 4) (r : BitVec 6) (s : State) : Result := atmOp .cas 8 p off m r s

/-- ATM.min (R370). -/
def execAtmMin (p : BitVec 4) (off : BitVec 12) (m : BitVec 4) (r : BitVec 6) (s : State) : Result := atmOp .min 8 p off m r s

/-- ATM.max (R370). -/
def execAtmMax (p : BitVec 4) (off : BitVec 12) (m : BitVec 4) (r : BitVec 6) (s : State) : Result := atmOp .max 8 p off m r s

/-- ATM.fmax.f32 (R370). -/
def execAtmFmaxF32 (p : BitVec 4) (off : BitVec 12) (m : BitVec 4) (r : BitVec 6) (s : State) : Result := atmOp .fmaxF32 4 p off m r s

/-- ATM.fmax.bf16 (R370). -/
def execAtmFmaxBf16 (p : BitVec 4) (off : BitVec 12) (m : BitVec 4) (r : BitVec 6) (s : State) : Result := atmOp .fmaxBf16 2 p off m r s

/-- ATM.fmax.f16 (R370). -/
def execAtmFmaxF16 (p : BitVec 4) (off : BitVec 12) (m : BitVec 4) (r : BitVec 6) (s : State) : Result := atmOp .fmaxF16 2 p off m r s


end Sys2Proof.Machine
end

