-- ==== Sys2Proof/Machine/Remote.lean ====
section
/-! DEFINITION. Remote accesses as they perform (R364, R369, R371, R468), their traffic with other packages (R35), the head of the handle
queue (R378), FORK, JOIN and DRN (R382-R385). -/

namespace Sys2Proof.Machine

/-! ## Failures, continuations and the end of an access -/

/-- The first failure of a context is kept (R364). -/
def Ctx.failed (y : Ctx) (c : Cause) (a : W64) : Ctx := { y with fail := match y.fail with | some f => some f | none => some (c, a) }

/-- Both contexts of a redundant pair, the one that counts first; another context alone (R279). -/
def State.pair (s : State) (t c : Nat) : List (Nat × Nat) :=
  match (s.ctx t c).task with
  | some k => (match k.twin with | some u => [(t, c), u] | none => [(t, c)])
  | none => [(t, c)]

/-- A released CONT goes to the deque of the context that released it, and to its twin's; passed to the distributor, it goes there once (R98,
R279). The record of a node that has failed goes nowhere (R61). -/
def State.release (s : State) (t c tenant : Nat) (r : TaskRec) : State :=
  if !s.takesWork r.gid r.node then s
  else
    let s' := s.pushCont t c tenant r
    if (s.ctx t c).occupancy < 64 then
      ((s.pair t c).drop 1).foldl (fun (s : State) (u : Nat × Nat) => s.modCtx u.1 u.2 (fun y => { y with deque := r :: y.deque })) s'
    else s'

/-- What an access comes to for its own context: a load's element waits for its return; the rest leave the list; an atomic's old value lands
(R364, R371). An access whose task has ended leaves the registers and the record of failures as they are (R346). -/
def Ctx.settle (y : Ctx) (r : Remote) (val : Nat) (fail : Option Cause) : Ctx :=
  let y := match fail with | some c => if r.ended then y else y.failed c r.addr | none => y
  match r.kind with
  | .ldx _ =>
    let e : Elem := { width := 8 * r.size, val := BitVec.ofNat 1024 val, marks := 0, poison := fail.map (fun c => (c, r.addr)) }
    { y with remote := y.remote.map (fun x => if x.id = r.id then { x with done := true, result := e } else x) }
  | .atm _ g =>
    let p : Pend := { dest := .g g, value := BitVec.ofNat 1024 val, mask := BitVec.allOnes 1024, due := r.due, flags := 0 }
    { y with remote := y.remote.filter (fun x => decide (x.id ≠ r.id)),
             x := if fail.isSome || r.ended then y.x else { y.x with pend := y.x.pend ++ [p] } }
  | _ => { y with remote := y.remote.filter (fun x => decide (x.id ≠ r.id)) }

/-- The accesses of a context that stand behind one of its twin (R279). -/
def Ctx.behind (y : Ctx) (id : Nat) : List Remote := y.remote.filter (fun x => decide (x.twinOf = some id))

/-- An access has performed: it settles in its context and in its twin's. -/
def State.settle (s : State) (t c : Nat) (r : Remote) (val : Nat) (fail : Option Cause) : State :=
  let us := (s.pair t c).drop 1
  let s := us.foldl (fun (s : State) (u : Nat × Nat) => ((s.ctx u.1 u.2).behind r.id).foldl (fun (s : State) (x : Remote) => s.modCtx u.1 u.2 (fun y => y.settle x val fail)) s) s
  s.modCtx t c (fun y => y.settle r val fail)

/-- A context whose JOIN has finished takes its next task, with its twin (R385). -/
def State.taskEnds (s : State) (t c : Nat) : State := (s.pair t c).foldl (fun (s : State) (u : Nat × Nat) => s.taskEnd u.1 u.2) s

/-- The rest of what an access brings about: a released CONT, the failure of a JOIN's write, the decrement done, the end of a task that waited
(R61, R98, R385). The failure of an access whose task has ended fails its node, as that of a JOIN's write does (log entry 31). -/
def State.afterAccess (s : State) (t c : Nat) (r : Remote) (fail : Option Cause) (cont : Option Nat) : State :=
  let s := match cont with | some b => s.release t c r.tenant (recOf r.gid r.node b) | none => s
  let join := match r.kind with | .cont => true | .joinDec => true | _ => false
  match fail with
  | some x => if join || r.ended then s.nodeFail r.gid r.node x else s.taskEnds t c
  | none =>
    let s := match r.kind with
      | .joinDec => ((s.pair t c).foldl (fun (s : State) (u : Nat × Nat) => s.modCtx u.1 u.2 (fun y => { y with hq := y.hq.drop 1 })) s).counted t 1
      | .report => s.counted t 1
      | _ => s
    s.taskEnds t c

/-! ## Messages to other packages -/

/-- KIND of the message of an access (R35). -/
def RKind.message : RKind → BitVec 4
  | .ldx _ => 0x1#4
  | .stx => 0x0#4
  | .cont => 0x0#4
  | .arrival => 0x4#4
  | .atm _ _ => 0xC#4
  | .joinDec => 0xC#4
  | .report => 0x0#4

/-- The number of an atomic's operation in a message. -/
def AtmOp.code : AtmOp → Nat
  | .add => 0 | .and => 1 | .or => 2 | .xor => 3 | .swp => 4 | .cas => 5 | .min => 6 | .max => 7 | .fmaxF32 => 8 | .fmaxBf16 => 9
  | .fmaxF16 => 10 | .dec => 11

/-- The operation a message names. -/
def atmOfCode (n : Nat) : AtmOp :=
  nth .dec [.add, .and, .or, .xor, .swp, .cas, .min, .max, .fmaxF32, .fmaxBf16, .fmaxF16] n

/-- The message of an access: size and operation in arg, data, second operand and lanes in its bytes (log entry 19). -/
def Remote.msg (r : Remote) (t c : Nat) : FabMsg :=
  let op := match r.kind with | .atm op _ => op.code | .joinDec => 11 | _ => 0
  { tenant := r.tenant, dst := r.addr, src := BitVec.ofNat 64 (2 * t + c), tag := BitVec.ofNat 64 r.id,
    arg := BitVec.ofNat 64 (r.size + 256 * op), data := toBytes 128 r.data.toNat ++ toBytes 8 r.data2.toNat ++ toBytes 16 r.lanes.toNat, cand := none }

/-- The export entry of a cluster after a message of a tenant tagged c (R283). -/
def Export.add (e : Option Export) (c : W64) (tn : Nat) : Export :=
  match e with
  | none => { lo := c, hi := c, tmask := BitVec.ofNat 64 (2 ^ tn) }
  | some e => { e with hi := c, tmask := e.tmask ||| BitVec.ofNat 64 (2 ^ tn) }

/-- A message of tile t's cluster leaves on a port, tagged with the cluster's CSEQ (R282, R283). -/
def State.sendFrom (s : State) (t n : Nat) (k : BitVec 4) (m : FabMsg) : State :=
  let c := clusterOf t
  s.modPort n (fun x => { x.send k m with
    exports := mput x.exports c (Export.add (mfind x.exports c) (s.cluster c).cseq m.tenant) })

/-! ## REMOTE_ACCESS_PERFORM and LDX_RETURN -/

/-- Two accesses reach one location. -/
def Remote.sameLoc (a b : Remote) : Bool :=
  if gaTile a.addr && gaTile b.addr then
    decide (fld a.addr 20 44 = fld b.addr 20 44) && decide (gaOff a.addr < gaOff b.addr + b.size) && decide (gaOff b.addr < gaOff a.addr + a.size)
  else !gaTile a.addr && !gaTile b.addr && decide (a.pa < b.pa + b.size) && decide (b.pa < a.pa + a.size)

/-- The twin's copy of an access has issued too, as it has where the task has ended, but for a report, which leaves its queue later; those of a JOIN are
made once (R279). -/
def State.joined (s : State) (t c : Nat) (r : Remote) : Bool :=
  (r.ended && !decide (r.kind = .report)) || decide (r.kind = .cont) || decide (r.kind = .joinDec) || ((s.pair t c).drop 1).all (fun u => !((s.ctx u.1 u.2).behind r.id).isEmpty)

/-- An access of the context to the location of n bytes at a, issued before number id, has not performed: among its accesses, or a BARR that waits in the
handle queue (R369, R468). -/
def Ctx.earlier (y : Ctx) (id : Nat) (r : Remote) : Bool :=
  y.remote.any (fun e => decide (e.id < id) && !e.done && e.sameLoc r)
    || y.hq.any (fun m => match m with | .barr a _ n => decide (n < id) && Remote.sameLoc { r with addr := a, size := 8 } r | _ => false)

/-- An access may perform: it has not, no earlier access of its context to its location is outstanding (R369), its tile is not away (R274), and it
stands behind none of its twin's, whose copy has issued (R279). -/
def State.mayPerform (s : State) (t c : Nat) (r : Remote) : Bool :=
  !r.done && !r.sent && r.twinOf.isNone && s.joined t c r && !(s.ctx t c).earlier r.id r
    && !s.homeWaits r.tenant r.addr

/-- The access at place idx of a context's list performs at its home, or leaves for another package (R364, R468). A decrement whose CONT finds
no room is held (R98). A report performs at its Retouch. -/
def State.performOwn (s : State) (t c : Nat) (r : Remote) : State :=
  if r.kind = .report ∨ s.mayPerform t c r = false then s
  else if gaTile r.addr && decide (gaPeer r.addr ≠ 0) then
    if (s.port (gaPeer r.addr - 1)).failed then (s.settle t c r 0 (some 0x75#7)).afterAccess t c r (some 0x75#7) none
    else
      (s.sendFrom t (gaPeer r.addr - 1) r.kind.message (r.msg t c)).modCtx t c (fun y =>
        { y with remote := y.remote.map (fun x => if x.id = r.id then { x with sent := true } else x) })
  else
    let h := s.atHome r.tenant r.kind r.addr r.pa r.size r.data.toNat r.data2.toNat r.lanes
    if h.cont.isSome && !s.contRoom t c r.tenant then s
    else (h.st.settle t c r h.val h.fail).afterAccess t c r h.fail h.cont

/-- The accesses of context c of tile t whose task has been saved: they are held at their port and not in the frame (R274). -/
def State.savedAccesses (s : State) (t c : Nat) : List Remote := (s.frames.filter (fun f => decide (f.tileNo = t))).flatMap (fun f => (f.tile.ctx c).remote)

/-- What an access comes to for a context that issued it, or whose own copy stands behind it, wherever the context is held. -/
def Ctx.settleHeld (y : Ctx) (r : Remote) (val : Nat) (fail : Option Cause) : Ctx :=
  (y.remote.filter (fun x => decide (x.id = r.id) || decide (x.twinOf = some r.id))).foldl (fun y x =>
    let y := y.settle x val fail
    if x.kind = .joinDec ∧ fail = none then { y with hq := y.hq.drop 1 } else y) y

/-- A saved context's access settles (R274). -/
def State.settleHeld (s : State) (r : Remote) (val : Nat) (fail : Option Cause) : State :=
  let tile := fun (x : Tile) => { x with c0 := x.c0.settleHeld r val fail, c1 := x.c1.settleHeld r val fail }
  { s with tiles := s.tiles.map (fun (e : Nat × Tile) => (e.1, tile e.2)), frames := s.frames.map (fun (f : Frame) => { f with tile := tile f.tile }) }

/-- The copy of an access that a saved context of a pair waits for has issued too (R279). -/
def State.heldBehind (s : State) (id : Nat) : Bool :=
  (s.tiles.map Prod.snd ++ s.frames.map Frame.tile).any (fun x => [x.c0, x.c1].any (fun y => !(y.behind id).isEmpty))

/-- The task of a saved access is of a redundant pair. -/
def State.heldPair (s : State) (id : Nat) : Bool :=
  s.frames.any (fun f => [f.tile.c0, f.tile.c1].any (fun y => y.remote.any (fun r => decide (r.id = id)) && (y.task.bind Task.twin).isSome))

/-- An earlier access of the same saved context to the same location has not performed (R369). -/
def State.heldEarlier (s : State) (r : Remote) : Bool :=
  s.frames.any (fun f => [f.tile.c0, f.tile.c1].any (fun y => y.remote.any (fun e => decide (e.id = r.id)) && y.earlier r.id r))

/-- An access that was issued before its task was saved performs at its home: a released CONT goes to the distributor, as the records of the task's
deque have, and the rest it brings about is as for a context in place (R61, R104, R274). -/
def State.performHeld (s : State) (t : Nat) (r : Remote) : State :=
  if r.done || r.sent || r.twinOf.isSome || decide (r.kind = .report) || s.homeWaits r.tenant r.addr || s.heldEarlier r
      || (s.heldPair r.id && !r.ended && !decide (r.kind = .cont) && !decide (r.kind = .joinDec) && !s.heldBehind r.id) then s
  else
    let h := s.atHome r.tenant r.kind r.addr r.pa r.size r.data.toNat r.data2.toNat r.lanes
    if h.cont.isSome && !decide (mget 0 s.conts r.tenant < 4096) then s
    else
      let s := h.st.settleHeld r h.val h.fail
      let s := match h.cont with
        | some b => if s.takesWork r.gid r.node then (s.modNode r.gid r.node (fun x => { x with live := x.live + 1 })).toPool r.tenant (recOf r.gid r.node b) else s
        | none => s
      let s := if r.kind = .joinDec ∧ h.fail = none then s.counted t 1 else s
      match h.fail with
      | some x => if r.ended || decide (r.kind = .cont) || decide (r.kind = .joinDec) then s.nodeFail r.gid r.node x else s
      | none => s

/-- The access at place idx of those of context c of tile t: its own, and behind them those of its saved tasks. -/
def State.perform (s : State) (t c idx : Nat) : State :=
  match (s.ctx t c).remote[idx]? with
  | some r => s.performOwn t c r
  | none =>
    match (s.savedAccesses t c)[idx - (s.ctx t c).remote.length]? with
    | some r => s.performHeld t r
    | none => s

/-- REMOTE_ACCESS_PERFORM (R468). -/
def execRemoteAccessPerform (t c idx : Nat) (s : State) : Result := .next (s.perform t c idx)

/-- A load for stream q. -/
def Remote.feeds (r : Remote) (q : Nat) : Bool := match r.kind with | .ldx n => decide (n = q) | _ => false

/-- LDX_RETURN: the oldest load of stream q returns its element, once it has performed and the stream has room; a task that waited for it to end
ends (R367). The element of a task that has ended is discarded (R346). -/
def State.ldxReturn (s : State) (t c q : Nat) : State :=
  match (s.ctx t c).remote.find? (fun r => r.feeds q) with
  | none => s
  | some r =>
    if !r.done || (!r.ended && !(s.ctx t c).room (s.tile t).cutting q) then s
    else
      (s.modCtx t c (fun y => { (if r.ended then y else y.feed q r.result) with remote := y.remote.filter (fun x => decide (x.id ≠ r.id)) })).taskEnd t c

/-- LDX_RETURN (R367). -/
def execLdxReturn (t c q : Nat) (s : State) : Result := .next (s.ldxReturn t c q)

/-! ## The handle queue's other commands (R378) -/

/-- One arrival from context c of tile t: at its own word at once, elsewhere as a remote access; an untagged word is reported, and fails
the node where the task has ended (R380, R381; log entry 31). -/
def State.arrive (s : State) (t c : Nat) (a : W64) (tscope id : Nat) : State :=
  if tscope = 0 then
    if (s.tile t).tagged (gaOff a) then s.modTile t (fun x => x.barrier (gaOff a) 0 1 none)
    else if (s.ctx t c).taskOver then (match (s.ctx t c).task with | some k => s.nodeFail k.gid k.node 0x2C#7 | none => s)
    else s.modCtx t c (fun y => y.failed 0x2C#7 a)
  else s.addRemoteAs id t c .arrival a 0 8 tscope 0 0 (BitVec.allOnes 128)

/-- The record of a FORK at the head of the deque (R384); LIVE rises once for a pair. -/
def State.forked (s : State) (t c : Nat) (r : TaskRec) : State :=
  let once := match (s.ctx t c).task with | some k => k.counts t c | none => false
  let s := s.modCtx t c (fun y => { y with deque := r :: y.deque })
  if once then s.modNode r.gid r.node (fun x => { x with live := x.live + 1 }) else s

/-- The second context of a redundant pair, whose JOIN its twin makes (R279). -/
def State.second (s : State) (t c : Nat) : Bool := match (s.ctx t c).task with | some k => !k.counts t c | none => false

/-- An access reaches the barrier word at a of tile t. -/
def Remote.onWord (e : Remote) (t a : Nat) : Bool :=
  gaTile e.addr && decide (gaPeer e.addr = 0 ∧ gaTileNo e.addr = t) && decide (gaOff e.addr < a + 8) && decide (a < gaOff e.addr + e.size)

/-- The command at the head of the handle queue executes, unless it must wait: BINIT, BINIT.rel, BARR, FORK and the CONT write of JOIN execute
as they reach the head; a BARR on a word of its own tile waits for its context's earlier accesses to that word (R468), a decrement for its CONT
write (R385). -/
def State.hqStep (s : State) (t c : Nat) : Option State :=
  let pop := fun (s : State) => (s.modCtx t c (fun y => { y with hq := y.hq.drop 1 })).counted t 1
  match (s.ctx t c).hq with
  | .binit a v :: _ => some (pop (s.modTile t (fun x => x.binit a v)))
  | .binitRel a :: _ => some (pop (s.modTile t (fun x => x.setTag a false)))
  | .barr a n id :: _ =>
    if n = 0 ∧ (s.ctx t c).remote.any (fun e => decide (e.id < id) && !e.done && e.onWord t (gaOff a)) = true then none else some ((pop s).arrive t c a n id)
  | .fork r :: _ => some ((pop s).forked t c r)
  | .joinCont a n pa r :: rest =>
    let s := s.modCtx t c (fun y => { y with hq := .joinDec a n pa :: rest })
    if s.second t c then some s
    else some (s.addRemote t c .cont (a + 64) (pa + 64) 64 n (r.setWidth 1024) 0 (BitVec.allOnes 128))
  | _ => none

/-- The handle queue runs until its head waits; n bounds the commands. -/
def State.hqRun : Nat → State → Nat → Nat → State
  | 0, s, _, _ => s
  | n + 1, s, t, c =>
    match s.hqStep t c with
    | some s => State.hqRun n s t c
    | none => s

/-- The handle queue of a context runs until its head waits. -/
def State.hqDrain (s : State) (t c : Nat) : State := State.hqRun ((s.ctx t c).hq.length + 1) s t c

/-- The turn of a context's handle queue: what stands before its first waiting command executes, now or in a later turn, which is a free choice: the spec
gives BINIT, BARR and FORK no cycle, and other commands' steps may come before (R378, R465). -/
def State.hqTurn (s : State) (t c : Nat) : State :=
  if (s.hqStep t c).isNone then s
  else
    let n := s.choose 2
    if n.1 = 0 then n.2.hqDrain t c else n.2

/-- JOIN_DECREMENT: after the CONT write has performed, COUNT is decremented at its home (R97, R385); to another package it leaves as an atomic
request. -/
def State.joinDecrement (s : State) (t c : Nat) : State :=
  match (s.ctx t c).hq with
  | .joinDec a n pa :: _ =>
    let pending := (s.ctx t c).remote.any (fun x => decide (x.kind = .cont) || decide (x.kind = .joinDec))
    if pending || s.second t c || s.homeWaits ((s.tile t).tenant.getD 0) a then s
    else
      let s := s.addRemote t c .joinDec a pa 8 n 0 0 (BitVec.allOnes 128)
      s.perform t c ((s.ctx t c).remote.length - 1)
  | _ => s

/-- JOIN_DECREMENT (R385). -/
def execJoinDecrement (t c : Nat) (s : State) : Result := .next (s.joinDecrement t c)

/-- A matrix command names handle instance i (R420). -/
def MOp.names (i : Nat) : MOp → Bool
  | .run _ _ _ _ n _ => decide (n = i)
  | .mshift _ n _ => decide (n = i)
  | .cbld _ n src => decide (n = i) || decide (src = i)
  | .trdef _ n => decide (n = i)
  | _ => false

/-- NIBCFG as matrix command m will find it: that of the last NIBSET queued before it, or the one in force (R420, R437). -/
def Tile.cfgFor (x : Tile) (m : MCmd) : BitVec 128 :=
  x.mq.foldl (fun c k => match k.op with | .nibset v => if k.seq < m.seq then v else c | _ => c) x.nibcfg

/-- Matrix command m names handle instance i; an MLDW with SMOOTH names its SHANDLE (R186, R420). -/
def Tile.names (x : Tile) (m : MCmd) (i : Nat) : Bool :=
  m.op.names i || (decide (m.op = .mldw) && (let c := x.cfgFor m; c.getLsbD 25 && decide ((x.handle (fld c 26 5)).inst = i)))

/-- The matrix commands of a tile that have not been accepted: those queued, and those in a pipe that have not taken their handles. -/
def Tile.unaccepted (x : Tile) : List MCmd :=
  x.mq ++ (match x.nib with | some n => if n.taken then [] else [n.cmd] | none => [])
    ++ (match x.beat with | some b => if b.taken then [] else [b.cmd] | none => [])

/-- The place in issue order of the handle command at the head of a queue. -/
def headSeq : List HCmd → Nat
  | .hopen _ n :: _ => n
  | .hpub _ _ n :: _ => n
  | .hrel _ _ n :: _ => n
  | _ => 0

/-- HOPEN, HPUB or HREL at the head executes where it may, and the commands behind it run on (R377, R378). It waits for the matrix commands
issued before it that name its handle (R420). -/
def State.headRun (s : State) (t c : Nat) : State :=
  match s.headStep t c with
  | some (i, _) =>
    if (s.tile t).unaccepted.any (fun m => (s.tile t).names m i && decide (m.seq < headSeq (s.ctx t c).hq)) then s else (s.doHead t c).hqDrain t c
  | none => s

/-- HOPEN_EXECUTE (R377); the turn of the queue while other commands stand before its next HOPEN, HPUB or HREL. -/
def execHopenExecute (t c : Nat) (s : State) : Result :=
  .next (match (s.ctx t c).hq with | .hopen _ _ :: _ => s.headRun t c | _ => s.hqTurn t c)
/-- HPUB_EXECUTE (R377). -/
def execHpubExecute (t c : Nat) (s : State) : Result :=
  .next (match (s.ctx t c).hq with | .hpub _ _ _ :: _ => s.headRun t c | _ => s)
/-- HREL_EXECUTE (R377). -/
def execHrelExecute (t c : Nat) (s : State) : Result :=
  .next (match (s.ctx t c).hq with | .hrel _ _ _ :: _ => s.headRun t c | _ => s)

/-! ## FORK, JOIN and DRN -/

/-- The scratchpad address of a 64-byte record operand (R384). -/
def recordCheck (s : State) (v : W64) : Verdict :=
  (spOperand v 64).both (faultIf ((upto (fld v 0 20) 64).any s.curTile.inHandle) 0x27#7)

/-- The 64 bytes of the record that gR names, read as a local load. -/
def State.recordBytes (s : State) (v : W64) : Nat := s.curTile.padNat (fld v 0 20) 64

/-- The record that gR names. -/
def State.recordAt (s : State) (v : W64) : TaskRec :=
  let k := s.curCtx.task
  recOf ((k.map Task.gid).getD 0) ((k.map Task.node).getD 0) (s.recordBytes v)

/-- FORK (R384). -/
def execFork (pd : BitVec 4) (g : BitVec 6) (s : State) : Result :=
  issue s true (recordCheck s (s.g g)) (fun s =>
    let room := decide (s.curCtx.occupancy < 64)
    let s' := s.result s.cur.u (.p pd.toNat) (if room then BitVec.allOnes 1024 else 0) (BitVec.allOnes 1024) 1 0
    if room then s'.pushHq (.fork (s.recordAt (s.g g))) else s')

/-- JOIN: scope 3 or 4, a join block aligned at 128, a record aligned at 64, whose bytes go to CONT as they are (R97); the task ends with its
bundle (R385). -/
def execJoin (gr gb : BitVec 6) (s : State) : Result :=
  issue s true
    (((faultIf (decide (s.cur.scope < 3)) 0x67#7).both (s.target s.cur.u s.cur.scope (s.g gb) 128 .update).verdict).both (recordCheck s (s.g gr)))
    (fun s =>
      let t := s.target s.cur.u s.cur.scope (s.g gb) 128 .update
      (s.pushHq (.joinCont (s.g gb) t.tscope t.pa (BitVec.ofNat 512 (s.recordBytes (s.g gr))))).modCurCtx (fun y => { y with ending := true }))

/-- A queued copy command that a DRN of a scope covers (R382). -/
def coveredCopies (t scope : Nat) : SMap W64 → List CCmd → Bool
  | _, [] => false
  | _, .clear :: l => coveredCopies t scope [] l
  | r, .sqset n v :: l => coveredCopies t scope (mset 0 r n v) l
  | r, .sqgo _ _ _ _ _ _ _ :: l => decide (copyScope t r ≤ scope) || coveredCopies t scope r l
  | r, .admitted _ :: l => coveredCopies t scope r l
  | _, .accpy _ _ _ _ _ _ _ :: _ => true

/-- An earlier access that a DRN of a scope covers has not performed (R382). -/
def State.uncovered (s : State) (t c scope : Nat) : Bool :=
  let x := s.tile t
  let y := x.ctx c
  y.remote.any (fun r => !r.done && decide (r.tscope ≤ scope))
    || y.hq.any (fun m => match m with
      | .barr _ n _ => decide (n ≤ scope) | .joinCont _ n _ _ => decide (n ≤ scope) | .joinDec _ n _ => decide (n ≤ scope) | _ => false)
    || coveredCopies t scope y.staging y.cq
    || x.copies.any (fun k => decide (k.2.ctx = c ∧ k.2.tscope ≤ scope))
    || y.fq.any (fun m => match m with | .fsend _ _ n _ => decide (n ≤ scope) | _ => false)
    || (decide (3 ≤ scope) && y.kq.any (fun m => match m with | .rep _ _ _ _ _ => true | _ => false))
    || x.sends.any (fun r => decide (r.ctx = c ∧ r.scope ≤ scope))

/-- DRN's wait and the failure it reports (R382, R383). On a control core every earlier store has performed. -/
def drnCheck (s : State) : Verdict :=
  match s.cur.u with
  | .core _ => .ok
  | .ctx t c =>
    if s.uncovered t c s.cur.scope then .held .drn
    else
      match (s.ctx t c).fail with
      | some (x, a) => if gaScope t a ≤ s.cur.scope then .mark 8 x a else .ok
      | none => .ok

/-- DRN (R382, R383). -/
def execDrn (s : State) : Result := issue s true (drnCheck s) (fun s => s)

end Sys2Proof.Machine
end

