-- ==== Sys2Proof/Machine/Array.lean ====
section
/-! DEFINITION. The arithmetic of the array (R168-R172) and of the Nib (R184-R195): column sums, weights as the Nib reads and writes them. -/

namespace Sys2Proof.Machine

/-! ## MXCFG and planes (R168, R421, R422) -/

/-- AMODE of a configuration (R422): 0 BF16, 1 FP8, 2 FP4, 3 I8T. -/
def mxMode (c : BitVec 16) : Nat := fld c 0 3
/-- Beats of a run. -/
def mxRun (c : BitVec 16) : Nat := fld c 6 6 + 1
/-- NANMODE STRICT. -/
def mxStrict (c : BitVec 16) : Bool := c.getLsbD 5
/-- ASC: activation rows carry block scales. -/
def mxAsc (c : BitVec 16) : Bool := c.getLsbD 12
/-- The FP8 format that a bit selects. -/
def fp8 (b : Bool) : Fmt := if b then e5m2 else e4m3

/-- Elements of a PE in a mode (R179). -/
def peElems (mode : Nat) : Nat := if mode = 0 then 1 else if mode = 1 then 2 else 8
/-- Activation row size in a mode (R421). -/
def rowSize (mode : Nat) (asc : Bool) : Nat := if mode = 2 then (if asc then 272 else 256) else if mode = 3 then 512 else 128

/-- Element e of activation row bytes for PE row k (R421). -/
def actElem (mode : Nat) (row : List Byte) (k e : Nat) : Nat :=
  let i := k * peElems mode + e
  if mode = 0 then (nth 0 row (2 * i)).toNat + 256 * (nth 0 row (2 * i + 1)).toNat
  else if mode = 2 then bits (nth 0 row (i / 2)).toNat (4 * (i % 2)) 4
  else (nth 0 row i).toNat

/-- The activation block scale byte of PE row k (R421): exponent 0 without ASC. -/
def actScale (asc : Bool) (row : List Byte) (k : Nat) : Nat := if asc then (nth 0 row (256 + k / 4)).toNat else 127

/-- Bits of a weight element in a plane. -/
def weightBits (mode : Nat) : Nat := if mode = 0 then 16 else if mode = 1 then 8 else if mode = 2 then 4 else 2

/-- Element e of PE (k, j). -/
def Plane.elem (p : Plane) (mode k j e : Nat) : Nat := bits (mget 0 p.elems (32 * k + j)).toNat (weightBits mode * e) (weightBits mode)

/-- The weight block scale byte of PE (k, j): a load that passes none through leaves exponent 0, the byte 127 (R185). -/
def Plane.scale (p : Plane) (k j : Nat) : Nat := (mget 0#8 p.scales (32 * k + j)).toNat

/-! ## Column sums (R168, R171, R172) -/

/-- A value is a zero. -/
def FV.isZero : FV → Bool
  | .fin _ m _ => decide (m = 0)
  | _ => false

/-- Add a product of a beat to a sum, with the NV it marks: left out in SERVICE mode when an element is zero (R171); NaN under a NaN scale. -/
def addProduct (strict : Bool) (sc : FV) (acc : FV × Bool × Bool) (a w : FV) : FV × Bool × Bool :=
  if !strict && (a.isZero || w.isZero) then acc
  else
    let p := match sc with
      | .nan => (FV.nan, false)
      | _ => a.mul w
    let q := p.1.mul sc
    let r := if acc.2.1 then FV.add .rne acc.1 q.1 else (q.1, false)
    (r.1, true, acc.2.2 || p.2 || r.2)

/-- The product of the two block scales (R168). -/
def blockScale (sa sb : Nat) : FV := ((e8m0 sa).mul (e8m0 sb)).1

/-- One PE of a float mode: psum plus the exact sum of its products, rounded once; with the marks NV and OF. -/
def peFloat (strict : Bool) (sc : FV) (l : List (FV × FV)) (psum : Nat) : Nat × Bool × Bool :=
  let r := l.foldl (fun acc x => addProduct strict sc acc x.1 x.2) (FV.fin false 0 0, false, false)
  if !r.2.1 then (psum, false, false)
  else
    let t := FV.add .rne (f32.val psum) r.1
    let d := f32.deliver .rne false t.1
    (d.1, r.2.2 || t.2, d.2.of)

/-- Saturation to INT32 (R155): the pattern, and whether it clamped. -/
def sat32 (v : Int) : Nat × Bool :=
  if v < -(2 ^ 31 : Nat) then (2 ^ 31, true) else if ((2 ^ 31 : Nat) : Int) ≤ v then (2 ^ 31 - 1, true) else (wrap 32 v, false)

/-- One PE row of a column: the new partial sum and the marks it adds, bit 0 NV, 1 OF, 2 SAT (R168, R170). -/
def peStep (cfg : BitVec 16) (p : Plane) (row : List Byte) (j : Nat) (acc : Nat × Nat) (k : Nat) : Nat × Nat :=
  let mode := mxMode cfg
  let es := List.range (peElems mode)
  if mode = 3 then
    let t := es.foldl (fun t e => t + (ternOf (p.elem 3 k j e)).1 * signed 8 (actElem 3 row k e)) (0 : Int)
    let r := sat32 (signed 32 acc.1 + t)
    (r.1, acc.2 ||| (if r.2 then 4 else 0))
  else
    let fa := if mode = 0 then bf16 else if mode = 1 then fp8 (cfg.getLsbD 3) else e2m1
    let fw := if mode = 0 then bf16 else if mode = 1 then fp8 p.wf8 else e2m1
    let sc := if mode = 2 then blockScale (actScale (mxAsc cfg) row k) (p.scale k j) else .fin false 1 0
    let r := peFloat (mxStrict cfg) sc (es.map (fun e => (fa.val (actElem mode row k e), fw.val (p.elem mode k j e)))) acc.1
    (r.1, acc.2 ||| (if r.2.1 then 1 else 0) ||| (if r.2.2 then 2 else 0))

/-- ColumnSum(j) with its marks (R168). -/
def columnSum (cfg : BitVec 16) (p : Plane) (row : List Byte) (j : Nat) : Nat × Nat := (List.range 64).foldl (peStep cfg p row j) (0, 0)

/-- A column sum added to an accumulator word (R169). -/
def accAdd (mode : Nat) (old sum : Nat) : Nat × Nat :=
  if mode = 3 then (let r := sat32 (signed 32 old + signed 32 sum); (r.1, if r.2 then 4 else 0))
  else (let r := fAdd f32 .rne old sum; (r.1, (if r.2.nv then 1 else 0) ||| (if r.2.of then 2 else 0)))

/-! ## The Nib's configuration (R182, R192) -/

/-- Bits of an OFMT element: BF16, E4M3, E5M2, E2M1, T2. -/
def ofmtBits (o : Nat) : Nat := if o = 0 then 16 else if o ≤ 2 then 8 else if o = 3 then 4 else 2
/-- Elements of a PE for an OFMT (R179). -/
def ofmtElems (o : Nat) : Nat := if o = 0 then 1 else if o ≤ 2 then 2 else 8
/-- The format of an OFMT; a ternary code has none. -/
def ofmtFmt (o : Nat) : Fmt := if o = 0 then bf16 else if o = 1 then e4m3 else if o = 2 then e5m2 else e2m1

/-- ORDER. -/
def nOrder (c : BitVec 128) : Nat := fld c 7 1
/-- TSLOT. -/
def nSlot (c : BitVec 128) : Nat := fld c 11 3
/-- IBITS. -/
def nIbits (c : BitVec 128) : Nat := fld c 14 4
/-- IBASE. -/
def nIbase (c : BitVec 128) : Nat := fld c 38 18
/-- GBASE. -/
def nGbase (c : BitVec 128) : Nat := fld c 56 18
/-- WPOS. -/
def nWpos (c : BitVec 128) : Nat := fld c 96 32

/-- Fields of a trellis record (R192): W. -/
def tW (r : W64) : Nat := fld r 0 5
/-- q. -/
def tQ (r : W64) : Nat := fld r 5 3 + 1
/-- FUNC HASH. -/
def tHash (r : W64) : Bool := r.getLsbD 8
/-- BOUND TAILBITE. -/
def tTail (r : W64) : Bool := r.getLsbD 9
/-- TFMT. -/
def tTfmt (r : W64) : Nat := fld r 10 2
/-- N_b. -/
def tN (r : W64) : Nat := fld r 12 12 + 1
/-- OFMT. -/
def tOfmt (r : W64) : Nat := fld r 24 3
/-- GKIND. -/
def tGkind (r : W64) : Nat := fld r 27 3
/-- GLOG. -/
def tGlog (r : W64) : Nat := fld r 30 4
/-- s_i. -/
def tStep (r : W64) (i : Nat) : Nat := fld r (40 + 3 * (i % tQ r)) 3 + 1
/-- b. -/
def tB (r : W64) : Nat := ((List.range (tQ r)).map (tStep r)).foldl (· + ·) 0
/-- c_i: where window i starts (R193). -/
def tC (r : W64) (i : Nat) : Nat := i / tQ r * tB r + ((List.range (i % tQ r)).map (tStep r)).foldl (· + ·) 0
/-- B_bits (R194). -/
def tBits (r : W64) : Nat := if tTail r then tN r * tB r / tQ r else tW r + tN r * tB r / tQ r - tStep r (tQ r - 1)
/-- BSTRIDE in bits (R194). -/
def tStride (r : W64) : Nat := 32 * ((tBits r + 31) / 32)
/-- The value function (R195). -/
def TrDef.f (d : TrDef) (win : Nat) : Nat :=
  let i := if tHash d.record then (((win ^^^ (win >>> 7)) * 0x6F4B) % 65536) >>> 10 else win
  (nth 0 d.table i).toNat
/-- The bits of window i, the first highest; a block's bits are given by a function (R193). -/
def tWindow (r : W64) (blk : Nat → Nat) (i : Nat) : Nat :=
  (List.range (tW r)).foldl (fun a t => 2 * a + blk (if tTail r then (tC r i + t) % tBits r else tC r i + t)) 0

/-- GKIND in force: the definition's in TRELLIS mode. -/
def nGkind (c : BitVec 128) (d : Option TrDef) : Nat := match d with | some d => tGkind d.record | none => fld c 31 3
/-- GLOG in force. -/
def nGlog (c : BitVec 128) (d : Option TrDef) : Nat := match d with | some d => tGlog d.record | none => fld c 34 4

/-! ## Reading the Inkwell (R185, R187, R189, R194) -/

/-- len bits of the Inkwell from bit position pos. -/
def Tile.inkBits (x : Tile) (pos len : Nat) : Nat :=
  let n := (pos % 8 + len + 7) / 8
  bits (ofBytes (mread 0 x.ink (pos / 8) n)) (pos % 8) len

/-- Bit positions (first, length) that weight n occupies: element, index or window. -/
def weightSpan (c : BitVec 128) (d : Option TrDef) (n : Nat) : Nat × Nat :=
  let base := nIbase c * 8
  match d with
  | some d =>
    let r := d.record
    (base + n / tN r * tStride r, if tTail r then tBits r else tC r (n % tN r) + tW r)
  | none =>
    let z := if nMode c = 1 then nIbits c else ofmtBits (nOfmt c)
    (base + n * z, z)

/-- Bytes of one group scale. -/
def scaleBytes (k : Nat) : Nat := if k = 1 then 4 else if k = 2 then 2 else if k = 3 then 1 else 0

/-- The end of the last byte that weight n reaches, in bits: of a TAILBITE block, that of the highest window bit, taken modulo the block's bits (R187,
R193). -/
def weightReach (c : BitVec 128) (d : Option TrDef) (n : Nat) : Nat :=
  let w := weightSpan c d n
  match d with
  | some d =>
    let r := d.record
    if tTail r then (List.range (tW r)).foldl (fun a t => max a (w.1 + (tC r (n % tN r) + t) % tBits r + 1)) 0 else w.1 + w.2
  | none => w.1 + w.2

/-- Weight n reaches beyond the Inkwell (R187). -/
def weightBeyond (c : BitVec 128) (d : Option TrDef) (n : Nat) : Bool :=
  let g := nGkind c d
  decide (8 * Config.inkwellSize < weightReach c d n)
    || (decide (g ≠ 0) && decide (Config.inkwellSize < nGbase c + (n / 2 ^ nGlog c d + 1) * scaleBytes g))

/-- Weight n decoded and widened to FP32's values (R184, R189, R195): tab gives the entry of the table of block n >> 7. -/
def Tile.weight (x : Tile) (c : BitVec 128) (d : Option TrDef) (tab : Nat → Nat → Nat) (n : Nat) : FV :=
  let w := weightSpan c d n
  match d with
  | some d => f32.val (d.f (tWindow d.record (fun t => x.inkBits (w.1 + t) 1) (n % tN d.record)))
  | none =>
    if nMode c = 1 then
      let e := tab (n / 128) (x.inkBits w.1 w.2)
      if nTefmt c = 0 then f32.val e else if nTefmt c = 1 then f16.val e else bf16.val e
    else (ofmtFmt (nOfmt c)).val (x.inkBits w.1 w.2)

/-- The group scale of weight n: its value, and its byte for E8M0; NaN when it is invalid (R157, R185). -/
def Tile.groupScale (x : Tile) (c : BitVec 128) (d : Option TrDef) (n : Nat) : FV × Nat :=
  let k := nGkind c d
  let v := ofBytes (mread 0 x.ink (nGbase c + n / 2 ^ nGlog c d * scaleBytes k) (scaleBytes k))
  if k = 0 then (.fin false 1 0, 127)
  else if k = 3 then (e8m0 v, v)
  else
    let w := if k = 2 then widenBf16 v else v
    (if scaleValid w then f32.val w else .nan, 0)

/-- A weight folded and rounded to an OFMT: the element, whether it was clamped, and NV (R184). -/
def foldWeight (o : Nat) (w g sc : FV) : Nat × Bool × Bool :=
  if g = .nan ∨ sc = .nan then (if o = 3 then 0 else (ofmtFmt o).nan, false, true)
  else
    let r := (ofmtFmt o).deliver .rne true ((w.mul g).1.mul sc).1
    (r.1, r.2.sat || (decide (o = 3) && r.2.of), r.2.nv)

/-- What the Nib writes for one weight: the element, its clamp and NV, and the scale byte passed through (R184, R185, R188). -/
def Tile.nibOut (x : Tile) (c : BitVec 128) (d : Option TrDef) (tab : Nat → Nat → Nat) (sc : FV) (n : Nat) : Nat × Bool × Bool × Nat :=
  if nMode c = 3 then
    let v := x.inkBits (weightSpan c d n).1 2
    (if v = 2 then 0 else v, false, decide (v = 2), 127)
  else
    let g := x.groupScale c d n
    let pass := decide (nOfmt c = 3 ∧ nGkind c d = 3)
    let r := foldWeight (nOfmt c) (x.weight c d tab n) (if pass then .fin false 1 0 else g.1) sc
    (r.1, r.2.1, r.2.2, if pass then g.2 else 127)

end Sys2Proof.Machine
end

