-- ==== Sys2Proof/Machine/Matrix.lean ====
section
/-! DEFINITION. The matrix command queue and its two pipes: MX commands, NIBSET, CBLD and TRDEF, from issue to completion (R179-R199, R416-R441). -/

namespace Sys2Proof.Machine

/-! ## Issue (R417, R422-R441) -/

/-- A full queue holds the bundle (R417); an EN command also leaves room for the MX command of its bundle. -/
def queueRoom (s : State) (en : Bool) : Verdict :=
  if s.curTile.mq.length + (if en && s.cur.slots.testBit 10 then 1 else 0) < 16 then .ok else .held .matrixQueue

/-- A command of the context in hand at the end of the queue; the handle instances it names, and whether it writes them; of a pair, one copy's end counts
for both (R279). -/
def State.pushMatrix (s : State) (op : MOp) (names : List (Nat × Bool)) : State :=
  let n := s.stamp
  (n.2.modCurTile (fun x =>
    let x := names.foldl (fun (x : Tile) e => x.nameCmd e.1 n.1 e.2) x
    { x with mq := x.mq ++ [{ op := op, ctx := unitCtx s.cur.u, seq := n.1 }] })).paired n.1

/-- An MX command (R417). -/
def matrixOp (op : State → MOp) (names : State → List (Nat × Bool)) (s : State) : Result :=
  issue s true (queueRoom s false) (fun s => s.pushMatrix (op s) (names s))

/-- MCFG (R422). -/
def execMcfg (imm : BitVec 16) (s : State) : Result := matrixOp (fun _ => .mcfg imm) (fun _ => []) s
/-- The handle instances that an MLDW issued as command n is to read, as NIBCFG will then be: its SHANDLE and its THANDLE (R186, R190, R420). -/
def Tile.loadNames (x : Tile) (n : Nat) : List (Nat × Bool) :=
  let c := x.cfgFor { op := .mldw, ctx := 0, seq := n }
  (if c.getLsbD 25 then [((x.handle (fld c 26 5)).inst, false)] else []) ++ (if nMode c = 1 then [((x.handle (fld c 20 5)).inst, false)] else [])

/-- MLDW (R424): a command that names its handles (R375, R376). -/
def execMldw (s : State) : Result := matrixOp (fun _ => .mldw) (fun s => s.curTile.loadNames s.seq) s
/-- MSWAP (R425). -/
def execMswap (s : State) : Result := matrixOp (fun _ => .mswap) (fun _ => []) s
/-- MPUSH (R426). -/
def execMpush (acc : BitVec 1) (bank : BitVec 3) (row : BitVec 6) (h : BitVec 5) (s : State) : Result :=
  matrixOp (fun s => .run false (decide (acc = 1#1)) bank.toNat row.toNat (s.instOf h) h.toNat) (fun s => [(s.instOf h, false)]) s
/-- MACW (R426). -/
def execMacw (acc : BitVec 1) (bank : BitVec 3) (row : BitVec 6) (h : BitVec 5) (s : State) : Result :=
  matrixOp (fun s => .run true (decide (acc = 1#1)) bank.toNat row.toNat (s.instOf h) h.toNat) (fun s => [(s.instOf h, false)]) s
/-- MSHIFT.zero (R429). -/
def execMshiftZero (h : BitVec 5) (s : State) : Result :=
  matrixOp (fun s => .mshift 0 (s.instOf h) h.toNat) (fun s => [(s.instOf h, false)]) s
/-- MSHIFT.back (R429). -/
def execMshiftBack (h : BitVec 5) (s : State) : Result :=
  matrixOp (fun s => .mshift 1 (s.instOf h) h.toNat) (fun s => [(s.instOf h, false)]) s
/-- MSHIFT.fwd (R429). -/
def execMshiftFwd (h : BitVec 5) (s : State) : Result :=
  matrixOp (fun s => .mshift 2 (s.instOf h) h.toNat) (fun s => [(s.instOf h, false)]) s
/-- MDRAIN (R430). -/
def execMdrain (bank : BitVec 3) (row : BitVec 6) (n1 : BitVec 5) (s : State) : Result :=
  matrixOp (fun _ => .mdrain bank.toNat row.toNat (n1.toNat + 1)) (fun _ => []) s
/-- MZERO (R431). -/
def execMzero (bank : BitVec 3) (row : BitVec 6) (n1 : BitVec 5) (s : State) : Result :=
  matrixOp (fun _ => .mzero bank.toNat row.toNat (n1.toNat + 1)) (fun _ => []) s

/-- NIBCFG as NIBSET reads it (R437). -/
def nibWord (s : State) (g : BitVec 6) : BitVec 128 := (s.thread s.cur.u).nibWord g.toNat

/-- NIBSET (R437). -/
def execNibset (g : BitVec 6) (s : State) : Result :=
  issue s true ((reservedIf (nibReserved (nibWord s g))).andThen (queueRoom s true)) (fun s => s.pushMatrix (.nibset (nibWord s g)) [])

/-- Every earlier matrix command has completed. -/
def Tile.matrixIdle (x : Tile) : Bool := x.mq.isEmpty && x.nib.isNone && x.beat.isNone

/-- NIBSET.st: NIBST into gG at latency 1, cleared in the same step (R438). -/
def execNibsetSt (g : BitVec 6) (s : State) : Result :=
  issue s true (if s.curTile.matrixIdle then .ok else .held .nibStatus) (fun s =>
    ((s.result64 s.cur.u (.g g.toNat) s.curTile.nibst 1).modCurTile (fun x => { x with nibst := 0 })).counted (unitTile s.cur.u) 1)

/-- CBLD's checks at issue (R439). -/
def cbldCheck (v : W64) : Verdict :=
  (reservedIf (decide (fld v 56 8 ≠ 0) || decide (fld v 5 3 ≠ 0) || decide (fld v 12 2 = 3) || decide (fld v 14 2 = 3))).both
    (faultIf (decide (fld v 36 20 % 8 ≠ 0)) 0x24#7)

/-- CBLD (R439). -/
def execCbld (h : BitVec 5) (g : BitVec 6) (s : State) : Result :=
  issue s true ((cbldCheck (s.g g)).andThen (queueRoom s true)) (fun s =>
    let src := (s.curTile.handle (fld (s.g g) 0 5)).inst
    s.pushMatrix (.cbld (s.g g) (s.instOf h) src) [(s.instOf h, true), (src, false)])

/-- TRDEF (R441). -/
def execTrdef (h : BitVec 5) (slot : BitVec 3) (s : State) : Result :=
  issue s true (queueRoom s true) (fun s => s.pushMatrix (.trdef slot.toNat (s.instOf h)) [(s.instOf h, false)])

/-! ## Failures (R197, R434, R435) -/

/-- An engine stops a context before its next bundle (R264); one that runs no task, or has
stopped already, is left alone. -/
def State.stopEngine (s : State) (t c : Nat) (cause : Cause) (eq : Nat) (faddr : W64) : State :=
  let y := s.ctx t c
  if y.task.isNone || y.stop.stopped then s
  else s.takeException (.ctx t c) { cause := cause, slots := 0, faddr := faddr, pc := y.x.pc, engine := some eq }

/-- NIBST after a failure: ERR, and the first CAUSE (R199). -/
def nibstFail (w : W64) (c : Cause) : W64 :=
  if w.getLsbD 14 then w else BitVec.ofNat 64 (setBits (setBits w.toNat 14 1 1) 7 7 c.toNat)

/-- A matrix command fails: it and every command behind it are discarded, NIBST takes the cause, its context stops (R197, R434). -/
def State.matrixFail (s : State) (t : Nat) (m : MCmd) (c : Cause) : State :=
  let x := s.tile t
  let later := fun (k : MCmd) => decide (m.seq < k.seq)
  let nibL := match x.nib with | some n => if later n.cmd then [n.cmd] else [] | none => []
  let beatL := match x.beat with | some b => if later b.cmd then [b.cmd] else [] | none => []
  let s := s.dropMatrix t (nibL ++ beatL ++ x.mq.filter (fun k => decide (k.seq ≠ m.seq)))
  let s := (s.tell t m.seq { err := some c, req := none, data := [] }).modTile t (fun x =>
    let x := x.discardCmd m.seq
    { x with mq := [], nibst := nibstFail x.nibst c,
             nib := (match x.nib with | some n => if later n.cmd || decide (n.cmd.seq = m.seq) then none else some n | none => none),
             beat := (match x.beat with | some b => if later b.cmd || decide (b.cmd.seq = m.seq) then none else some b | none => none) })
  s.stopEngine t m.ctx c 0 0

/-! ## A load held on a table (R190, R191) -/

/-- The K-row that weight n of a load is written in. -/
def weightRow (c : BitVec 128) (n : Nat) : Nat :=
  let i := (n - nWpos c) / ofmtElems (nOfmt c)
  if nOrder c = 0 then i / 32 else i % 64

/-- The weight of element e of PE (k, j) (R179). -/
def weightNo (c : BitVec 128) (k j e : Nat) : Nat :=
  let z := ofmtElems (nOfmt c)
  if nOrder c = 0 then nWpos c + (32 * k + j) * z + e else nWpos c + (64 * j + k) * z + e

/-- The weights of K-row k. -/
def beatWeights (c : BitVec 128) (k : Nat) : List Nat :=
  (List.range 32).flatMap (fun j => (List.range (ofmtElems (nOfmt c))).map (weightNo c k j))

/-- Every weight of block m has been written once K-row k has (R190). -/
def blockDone (c : BitVec 128) (k m : Nat) : Bool :=
  (upto (128 * m) 128).all (fun n =>
    decide (n < nWpos c) || (decide (n < nWpos c + 2048 * ofmtElems (nOfmt c)) && decide (weightRow c n ≤ k)))

/-- The lowest block not complete after K-row k, from block m (R190). -/
def nextBlock (c : BitVec 128) (k : Nat) : Nat → Nat → Nat
  | 0, m => m
  | f + 1, m => if blockDone c k m then nextBlock c k f (m + 1) else m

/-- The handles of a load let its next beat be written: smoothing factors FULL and taken, every table it needs present (R186, R191). -/
def Tile.beatReady (x : Tile) (n : NibRun) : Bool :=
  let c := x.nibcfg
  let top := maxOf ((beatWeights c n.k).map (fun w => w / 128))
  n.taken && (match n.table with
    | some i => decide (top - n.mb < (x.inst i).held)
    | none => true)

/-- The Nib is held on a table (R191): neither pipe advances. -/
def Tile.nibHeld (x : Tile) : Bool :=
  match x.nib with
  | some n => decide (n.cmd.op = .mldw) && n.taken && !x.beatReady n
  | none => false

/-! ## Starting a command (R417-R420, R432) -/

/-- The bank a command names. -/
def MOp.bank : MOp → Option Nat
  | .run _ _ b _ _ _ => some b
  | .mdrain b _ _ => some b
  | .mzero b _ _ => some b
  | _ => none

/-- A swap that has not been made stands in the beat pipe. -/
def BeatRun.swaps (b : BeatRun) : Bool := match b.cmd.op with | .run sw _ _ _ _ _ => sw | .mswap => true | _ => false

/-- The Nib pipe runs an MLDW. -/
def Tile.loading (x : Tile) : Bool := match x.nib with | some n => decide (n.cmd.op = .mldw) | none => false

/-- An earlier ACCPY of the command's bank is queued (R432). -/
def Tile.accpyAhead (x : Tile) (m : MCmd) : Bool :=
  (x.c0.cq ++ x.c1.cq).any (fun k => match k with | .accpy b _ _ id _ _ _ => decide (some b = m.op.bank) && decide (id < m.seq) | _ => false)

/-- An earlier handle-queue command on a handle the command names has not executed (R420). -/
def Tile.handleAhead (x : Tile) (m : MCmd) : Bool :=
  (x.c0.hq ++ x.c1.hq).any (fun k => match k with
    | .hopen i n => x.names m i && decide (n < m.seq)
    | .hpub i _ n => x.names m i && decide (n < m.seq)
    | .hrel i _ n => x.names m i && decide (n < m.seq)
    | _ => false)

/-- A command in a pipe waits for a handle: it holds the queue, and what is behind it waits with it (R140, R427). -/
def Tile.pipeWaits (x : Tile) : Bool :=
  (match x.nib with | some n => !n.taken | none => false) || (match x.beat with | some b => !b.taken | none => false)

/-- Unpopped output of the array in q6 of context c, in bytes (R137). -/
def Tile.drainOut (x : Tile) (c : Nat) : Nat :=
  let st := (x.ctx c).stream 6
  (st.elems ++ st.backlog).foldl (fun a e => a + e.width / 8) 0

/-- A matrix command that ends as it starts. -/
def Tile.atOnce (x : Tile) : MOp → Bool
  | .mcfg _ => true
  | .nibset _ => true
  | .mswap => true
  | .mshift _ i _ => decide ((x.inst i).kind = 1#2)
  | .mzero _ _ _ => true
  | _ => false

/-- The order rules let the command at the head of the queue start (R417, R418); behind a load that is held on a table, and behind a command that waits
for its handle, everything waits (R140, R191); an MDRAIN is accepted while q6 has at most 256 KiB to pop (R137); one that
ends at once ends with the copy that proceeds for it (R279). -/
def Tile.mayStart (x : Tile) (m : MCmd) : Bool :=
  !(x.atOnce m.op && x.lingers m.seq) && !x.accpyAhead m && !x.nibHeld && !x.pipeWaits &&
  (match m.op with
  | .mcfg _ => x.nib.isNone && x.beat.isNone
  | .mldw => x.nib.isNone && (match x.beat with | some b => !b.swaps | none => true)
  | .nibset _ => x.nib.isNone
  | .cbld _ _ _ => x.nib.isNone
  | .trdef _ _ => x.nib.isNone
  | .mswap => x.beat.isNone && !x.loading
  | .mshift _ _ _ => x.beat.isNone && !x.handleAhead m
  | .mdrain _ _ _ => x.beat.isNone && decide (x.drainOut m.ctx ≤ 0x40000)
  | _ => x.beat.isNone)

/-- NIB_CONFIG of NIBSET (R183). -/
def nibBad (c : BitVec 128) : Bool :=
  let o := nOfmt c
  let g := fld c 31 3
  let l := fld c 34 4
  decide (fld c 74 22 ≠ 0) || decide (fld c 3 4 ≠ 0) || decide (nIbase c % 4 ≠ 0)
    || (decide (nMode c = 1) && (decide (nIbits c = 0) || decide (8 < nIbits c)))
    || (decide (nMode c = 3) && (decide (o ≠ 4) || decide (g ≠ 0) || c.getLsbD 25)) || (decide (o = 4) && decide (nMode c ≠ 3))
    || (decide (g = 3) && (decide (l ≠ 5) || (decide (o = 3) && (decide (nOrder c = 0) || decide (nWpos c % 32 ≠ 0)))))
    || (decide (nMode c = 2) && (decide (g ≠ 0) || decide (l ≠ 0)))
    || (decide (g = 0) && decide (l ≠ 0)) || (decide (g ≠ 0) && (decide (l < 5) || decide (12 < l)))

/-- The entry of a handle instance, allocated or being freed (R376). -/
def Tile.alloc (x : Tile) (n : Nat) : Option HEntry := if (x.inst n).kind = 0#2 then none else some (x.inst n)

/-- The definition a load uses, in TRELLIS mode. -/
def Tile.defn (x : Tile) (c : BitVec 128) : Option TrDef := if nMode c = 2 then mfind x.trdefs (nSlot c) else none

/-- Bytes of an entry of a table format (R190, R192). -/
def entrySize (f : Nat) : Nat := if f = 0 then 4 else 2

/-- OFMT agrees with the configuration (R183). -/
def ofmtFits (cfg : BitVec 16) (o : Nat) : Bool :=
  let m := mxMode cfg
  if o = 0 then decide (m = 0) else if o = 1 then decide (m = 1) && !cfg.getLsbD 4 else if o = 2 then decide (m = 1) && cfg.getLsbD 4
  else if o = 3 then decide (m = 2) else decide (m = 3)

/-- A block handle whose front holds n bytes. -/
def isBlock (h : Option HEntry) (n : Nat) : Bool := match h with | some e => decide (e.kind = 1#2) && decide (n ≤ e.size) | none => false
/-- A ring handle whose rows hold n bytes. -/
def isRing (h : Option HEntry) (n : Nat) : Bool := match h with | some e => decide (e.kind = 2#2) && decide (n ≤ e.size) | none => false

/-- The first check of MLDW that fails (R424). -/
def Tile.mldwCause (x : Tile) : Option Cause :=
  let c := x.nibcfg
  let o := nOfmt c
  let e := ofmtElems o
  let d := x.defn c
  if !ofmtFits x.mxcfg o then some 0x45#7
  else if nMode c = 2 ∧ d = none then some 0x40#7
  else if (match d with | some d => decide (tOfmt d.record ≠ o) | none => false) then some 0x4F#7
  else if (match d with | some d => x.nibFresh && decide (nWpos c % tN d.record % tQ d.record ≠ 0) | none => false) then some 0x41#7
  else if 2 ^ 32 < nWpos c + 2048 * e then some 0x4C#7
  else if c.getLsbD 25 && !isBlock (x.alloc (x.handle (fld c 26 5)).inst) (256 * e) then some 0x44#7
  else if decide (nMode c = 1) && !isRing (x.alloc (x.handle (fld c 20 5)).inst) (2 ^ nIbits c * entrySize (nTefmt c)) then some 0x44#7
  else if (match d with
    | some d => decide (tGkind d.record = 3 ∧ o = 3) && (decide (nOrder c = 0) || decide (nWpos c % 32 ≠ 0)) | none => false) then some 0x44#7
  else none

/-- Row k of bank b as the words of an accumulator row. -/
def accKey (b r j : Nat) : Nat := 2048 * b + 32 * r + j
/-- Rows w to w + n - 1 of bank b have all been written since binding (R416). -/
def Tile.rowsValid (x : Tile) (b w n : Nat) : Bool := (upto w n).all (fun r => (mget 0#4 x.rowst (64 * b + r)).getLsbD 3)

/-- The first check of a run that fails (R427). -/
def Tile.runCause (x : Tile) (acc : Bool) (b w inst h : Nat) : Option Cause :=
  let n := mxRun x.mxcfg
  let m := mxMode x.mxcfg
  let rs := rowSize m (mxAsc x.mxcfg)
  let e := x.inst inst
  let cur := (mget 0#16 x.acur h).toNat
  if 64 < w + n then some 0x4A#7
  else if !x.front.valid || (acc && !x.rowsValid b w n) then some 0x48#7
  else if x.front.amode.toNat ≠ m ∨ (m = 1 ∧ x.front.wf8 ≠ x.mxcfg.getLsbD 4) then some 0x4B#7
  else if (if e.kind = 1#2 then decide (e.size < (cur + n) * rs) else decide (e.size < rs)) then some 0x29#7
  else none

/-- Swap the planes (R425). -/
def Tile.swapPlanes (x : Tile) : Tile := { x with front := x.back, back := x.front }

/-- The rows of MZERO (R431). -/
def Tile.zeroRows (x : Tile) (b w n : Nat) : Tile :=
  (upto w n).foldl (fun (x : Tile) r =>
    { x with acc := (List.range 32).foldl (fun a j => mset 0#32 a (accKey b r j) 0) x.acc, rowst := mset 0#4 x.rowst (64 * b + r) 8#4 }) x

/-- Command m has completed: it leaves its handles, for its twin too, and CSEQ counts it (R279, R282). -/
def State.matrixEnd (s : State) (t : Nat) (m : MCmd) : State :=
  ((s.tell t m.seq { err := none, req := none, data := [] }).modTile t (fun x => x.released m.seq)).counted t 1

/-- Command m has done its work: it completes, or fails where the copy that proceeded for it has failed (R279). -/
def State.matrixDone (s : State) (t : Nat) (m : MCmd) : State :=
  match (s.tile t).ends m.seq none with
  | some c => s.matrixFail t m c
  | none => s.matrixEnd t m

/-- Start the command m taken from the head of the queue: it executes at once, enters its pipe, or fails. -/
def State.startMatrix (s : State) (t : Nat) (m : MCmd) : State :=
  let x := s.tile t
  match m.op with
  | .mcfg v =>
    if (decide (mxMode v ≠ 1) && (v.getLsbD 3 || v.getLsbD 4)) || (decide (mxMode v ≠ 2) && v.getLsbD 12) then s.matrixFail t m 0x47#7
    else (s.modTile t (fun x => { x with mxcfg := v })).matrixDone t m
  | .nibset v => if nibBad v then s.matrixFail t m 0x44#7 else (s.modTile t (fun x => { x with nibcfg := v, nibFresh := true })).matrixDone t m
  | .mldw =>
    let s := s.modTile t (fun x => { x with back := { x.back with valid := false } })
    (match x.mldwCause with
    | some c => s.matrixFail t m c
    | none =>
      let c := x.nibcfg
      let sm := if c.getLsbD 25 then some (x.handle (fld c 26 5)).inst else none
      let tb := if nMode c = 1 then some (x.handle (fld c 20 5)).inst else none
      let n : NibRun := { cmd := m, k := 0, wpos := nWpos c, mb := nWpos c / 128, smooth := sm, table := tb, taken := sm.isNone, out := [] }
      s.modTile t (fun x =>
        let x := (sm.toList ++ tb.toList).foldl (fun (x : Tile) i => if m.seq ∈ (x.inst i).cmds then x else x.nameCmd i m.seq false) x
        { x with nib := some n }))
  | .cbld _ _ _ => s.modTile t (fun x => { x with nib := some { cmd := m, k := 0, wpos := 0, mb := 0, smooth := none, table := none, taken := false, out := [] } })
  | .trdef _ _ => s.modTile t (fun x => { x with nib := some { cmd := m, k := 0, wpos := 0, mb := 0, smooth := none, table := none, taken := false, out := [] } })
  | .mswap => if x.back.valid then (s.modTile t Tile.swapPlanes).matrixDone t m else s.matrixFail t m 0x48#7
  | .run _ acc b w inst h =>
    (match x.runCause acc b w inst h with
    | some c => s.matrixFail t m c
    | none => s.modTile t (fun x => { x with beat := some { cmd := m, r := 0, taken := false } }))
  | .mshift mode inst h =>
    if (x.inst inst).kind = 1#2 then
      let n := BitVec.ofNat 16 (mxRun x.mxcfg)
      let v := mget 0#16 x.acur h
      (s.modTile t (fun x => { x with acur := mset 0#16 x.acur h (if mode = 0 then 0 else if mode = 1 then v - n else v + n) })).matrixDone t m
    else if mode ≠ 2 then s.matrixFail t m 0x27#7
    else s.modTile t (fun x => { x with beat := some { cmd := m, r := 0, taken := false } })
  | .mdrain b w n =>
    if 64 < w + n then s.matrixFail t m 0x4A#7
    else if !x.rowsValid b w n then s.matrixFail t m 0x48#7
    else s.modTile t (fun x => { x with beat := some { cmd := m, r := 0, taken := true } })
  | .mzero b w n => if 64 < w + n then s.matrixFail t m 0x4A#7 else (s.modTile t (fun x => x.zeroRows b w n)).matrixDone t m

/-- MATRIX_COMMAND_START: the command at the head of the queue starts once the order rules allow (R417). -/
def execMatrixCommandStart (t : Nat) (s : State) : Result :=
  .next (match (s.tile t).mq with
    | [] => s
    | m :: rest => if (s.tile t).mayStart m && !(s.tile t).cutting then (s.modTile t (fun x => { x with mq := rest })).startMatrix t m else s)

/-! ## The Nib's beats (R179-R191) -/

/-- Why a beat fails (R187, R190): a byte beyond the Inkwell, a table the ring can never hold. -/
def Tile.beatCause (x : Tile) (n : NibRun) : Option Cause :=
  let c := x.nibcfg
  let ws := beatWeights c n.k
  if ws.any (weightBeyond c (x.defn c)) then some 0x42#7
  else
    match n.table with
    | some i => if (x.inst i).rows ≤ maxOf (ws.map (fun w => w / 128)) - n.mb then some 0x44#7 else none
    | none => none

/-- Entry i of the table of block m (R190). -/
def Tile.tableEntry (x : Tile) (n : NibRun) (m i : Nat) : Nat :=
  match n.table with
  | none => 0
  | some t =>
    let h := x.inst t
    let z := entrySize (nTefmt x.nibcfg)
    x.padNat (h.rowAt (h.ccount + BitVec.ofNat 32 (m - n.mb)) + z * i) z

/-- The smoothing factor of reduction channel c: NaN when invalid (R157, R186). -/
def Tile.smoothFactor (x : Tile) (n : NibRun) (ch : Nat) : FV :=
  match n.smooth with
  | none => .fin false 1 0
  | some i =>
    let v := x.padNat ((x.inst i).front + 4 * ch) 4
    if scaleValid v then f32.val v else .nan

/-- PE (k, j) of the back plane written (R184, R185). -/
def Tile.writePe (x : Tile) (n : NibRun) (j : Nat) : Tile :=
  let c := x.nibcfg
  let z := ofmtBits (nOfmt c)
  let es := List.range (ofmtElems (nOfmt c))
  let out := es.map (fun e =>
    x.nibOut c (x.defn c) (x.tableEntry n) (x.smoothFactor n (n.k * ofmtElems (nOfmt c) + e)) (weightNo c n.k j e))
  let word := joinElems z (out.map Prod.fst)
  let clamps := (out.filter (fun o => o.2.1)).length
  let sb := (out.map (fun o => o.2.2.2)).head?.getD 127
  let cnt := min (2 ^ 32 - 1) (fld x.nibst 32 32 + clamps)
  let st := setBits x.nibst.toNat 32 32 cnt
  let st := if out.any (fun o => o.2.2.1) then setBits st 15 1 1 else st
  { x with back := { x.back with
      elems := mset 0#32 x.back.elems (32 * n.k + j) (BitVec.ofNat 32 word),
      scales := mset 0#8 x.back.scales (32 * n.k + j) (BitVec.ofNat 8 sb) }, nibst := BitVec.ofNat 64 st }

/-- After K-row k: the blocks completed leave the ring (R190). -/
def Tile.advanceTables (x : Tile) (n : NibRun) : Tile × NibRun :=
  match n.table with
  | none => (x, n)
  | some i =>
    let m := nextBlock x.nibcfg n.k 130 n.mb
    (x.modInst i (fun h => { h with ccount := h.ccount + BitVec.ofNat 32 (m - n.mb) }), { n with mb := m })

/-- The load has written its last beat: the cursor, the tag and BVALID (R424). -/
def Tile.loadEnd (x : Tile) : Tile :=
  let c := x.nibcfg
  let w := nWpos c + 2048 * ofmtElems (nOfmt c)
  { x with nibcfg := BitVec.ofNat 128 (setBits c.toNat 96 32 w), nibFresh := false, nib := none,
           back := { x.back with valid := true, amode := BitVec.ofNat 3 (mxMode x.mxcfg), wf8 := x.mxcfg.getLsbD 4 } }

/-- NIB_BEAT: the load takes its factors, or writes its next K-row (R179, R186, R191). -/
def State.nibBeat (s : State) (t : Nat) : State :=
  let x := s.tile t
  match x.nib with
  | none => s
  | some n =>
    if n.cmd.op ≠ .mldw then s
    else if !n.taken then
      (match n.smooth with
      | some i =>
        if !x.handleAhead n.cmd && (x.inst i).canRead 1 then s.modTile t (fun x => { x.modInst i (fun h => h.startRead n.cmd.seq 1) with nib := some { n with taken := true } })
        else s
      | none => s.modTile t (fun x => { x with nib := some { n with taken := true } }))
    else
      match x.beatCause n with
      | some c => s.matrixFail t n.cmd c
      | none =>
        if !x.beatReady n || (decide (n.k = 63) && x.lingers n.cmd.seq) then s
        else
          let x := (List.range 32).foldl (fun x j => Tile.writePe x n j) x
          let r := x.advanceTables n
          if n.k = 63 then (s.setTile t r.1.loadEnd).matrixDone t n.cmd
          else s.setTile t { r.1 with nib := some { r.2 with k := n.k + 1 } }

/-- NIB_BEAT (R179). -/
def execNibBeat (t : Nat) (s : State) : Result := .next (s.nibBeat t)

/-! ## Array beats and drains (R427-R430) -/

/-- The base of the run's row r (R421). -/
def Tile.runRow (x : Tile) (id inst h r : Nat) : Nat :=
  let e := x.inst inst
  if e.kind = 1#2 then e.front + ((mget 0#16 x.acur h).toNat + r) * rowSize (mxMode x.mxcfg) (mxAsc x.mxcfg) else e.rbase id

/-- One beat: 32 column sums over a row into an accumulator row (R168-R170, R427). -/
def Tile.beatInto (x : Tile) (row : List Byte) (acc : Bool) (b r : Nat) : Tile :=
  let sums := (List.range 32).map (fun j =>
    let c := columnSum x.mxcfg x.front row j
    if acc then
      let a := accAdd (mxMode x.mxcfg) (mget 0#32 x.acc (accKey b r j)).toNat c.1
      (a.1, c.2 ||| a.2)
    else c)
  let marks := sums.foldl (fun m c => m ||| c.2) (if acc then (mget 0#4 x.rowst (64 * b + r)).toNat % 8 else 0)
  { x with acc := ((List.range 32).zip sums).foldl (fun a e => mset 0#32 a (accKey b r e.1) (BitVec.ofNat 32 e.2.1)) x.acc,
           rowst := mset 0#4 x.rowst (64 * b + r) (BitVec.ofNat 4 (marks + 8)) }

/-- A run has its handle, or takes it now: a block FULL, a ring that holds the run's first row (R427). -/
def Tile.takeRun (x : Tile) (b : BeatRun) (inst : Nat) : Option Tile :=
  let h := x.inst inst
  if x.handleAhead b.cmd then none
  else if (if h.kind = 1#2 then h.canRead 1 else decide (outstanding h.rres < h.held)) then
    some { x.modInst inst (fun h => h.startRead b.cmd.seq (mxRun x.mxcfg)) with beat := some { b with taken := true } }
  else none

/-- The row a run reads next is present in its ring. -/
def Tile.rowPresent (x : Tile) (id inst : Nat) : Bool :=
  let h := x.inst inst
  decide (h.kind = 1#2) || decide (((resRow id h.ccount h.rres) - h.ccount).toNat < h.held)

/-- A run has written its rows: the handle is left, and MACW swaps once the earlier load has completed (R418, R427). -/
def State.runEnd (s : State) (t : Nat) (b : BeatRun) (swap : Bool) : State :=
  if (s.tile t).lingers b.cmd.seq then s
  else if !swap then (s.modTile t (fun x => { x with beat := none })).matrixDone t b.cmd
  else if (s.tile t).loading then s.modTile t (fun x => { x.finishCmd b.cmd.seq with beat := some b })
  else if (s.tile t).back.valid then (s.modTile t (fun x => { x.swapPlanes with beat := none })).matrixDone t b.cmd
  else (s.modTile t (fun x => x.finishCmd b.cmd.seq)).matrixFail t b.cmd 0x48#7

/-- ARRAY_BEAT: the run in the beat pipe takes its handle and reads its next row, all in one step; the last row ends it (R418, R427). -/
def State.arrayBeat (s : State) (t : Nat) : State :=
  let x := s.tile t
  match x.beat with
  | none => s
  | some b =>
    match b.cmd.op with
    | .run swap acc bank w inst h =>
      if x.nibHeld then s
      else if mxRun x.mxcfg ≤ b.r then s.runEnd t b swap
      else
        (match (if b.taken then some x else x.takeRun b inst) with
        | none => s
        | some x =>
          if !x.rowPresent b.cmd.seq inst then s.setTile t x
          else
            let a := x.runRow b.cmd.seq inst h b.r
            let row := x.padRead a (rowSize (mxMode x.mxcfg) (mxAsc x.mxcfg))
            let x := (x.beatInto row acc bank (w + b.r)).modInst inst (fun e => if e.kind = 2#2 then e.readRow b.cmd.seq else e)
            let b' : BeatRun := { b with r := b.r + 1, taken := true }
            let s := s.setTile t { x with beat := some b' }
            if mxRun x.mxcfg ≤ b'.r then s.runEnd t b' swap else s)
    | .mshift _ inst _ =>
      let h := x.inst inst
      let n := mxRun x.mxcfg
      if x.nibHeld || x.handleAhead b.cmd || !h.canRead n || x.lingers b.cmd.seq then s
      else (s.modTile t (fun x => { x.modInst inst (fun h => h.startRead b.cmd.seq n) with beat := none })).matrixDone t b.cmd
    | _ => s

/-- ARRAY_BEAT: a beat, or one that the cap leaves idle (R12, R427). -/
def execArrayBeat (t : Nat) (s : State) : Result :=
  .next (let c := s.capIdle (dieOf t)
    if c.1 then c.2 else c.2.arrayBeat t)

/-- DRAIN_ROW_PUSH: the next row of an MDRAIN enters q6 of its context with its marks, and NANSTAT is written (R173, R430); a full q6 holds it. -/
def State.drainPush (s : State) (t : Nat) : State :=
  let x := s.tile t
  match x.beat with
  | none => s
  | some b =>
    match b.cmd.op with
    | .mdrain bank w n =>
      if x.nibHeld || !(x.ctx b.cmd.ctx).room x.cutting 6 || (decide (n ≤ b.r + 1) && x.lingers b.cmd.seq) then s
      else
        let r := w + b.r
        let v := BitVec.ofNat 1024 (joinElems 32 ((List.range 32).map (fun j => (mget 0#32 x.acc (accKey bank r j)).toNat)))
        let e : Elem := { width := 1024, val := v, marks := BitVec.ofNat 3 (mget 0#4 x.rowst (64 * bank + r)).toNat, poison := none }
        let ns := setBits x.nanstat.toNat (x.drains % 64) 1 (if nanMask v = 0 then 0 else 1)
        let now : W64 := BitVec.ofNat 64 (2 ^ (x.drains % 64)) ||| (if x.nanAt = s.cycle then x.nanSet else 0)
        let s := (s.modTile t (fun x =>
          { x with nanstat := BitVec.ofNat 64 ns, nanAt := s.cycle, nanSet := now, drains := x.drains + 1,
                   beat := if n ≤ b.r + 1 then none else some { b with r := b.r + 1 } })).modCtx t b.cmd.ctx (fun y => y.feed 6 e)
        if n ≤ b.r + 1 then s.matrixDone t b.cmd else s
    | _ => s

/-- DRAIN_ROW_PUSH (R430); a task that waited for its last output ends. -/
def execDrainRowPush (t : Nat) (s : State) : Result :=
  .next (let s' := s.drainPush t
    match (s.tile t).beat with | some b => s'.taskEnd t b.cmd.ctx | none => s')

/-! ## CBLD and TRDEF (R192, R440, R441) -/

/-- Entry i of a table as read: its value in a format. -/
def tabFmt (f : Nat) : Fmt := if f = 0 then f32 else if f = 1 then f16 else bf16

/-- The entries CBLD reads, or none where the source is short (R440). -/
def cbldEntries (x : Tile) (cmd : W64) (src : HEntry) : Option (List Nat) :=
  let n := 2 ^ (fld cmd 8 4 + 1)
  let z := entrySize (fld cmd 12 2)
  let o := fld cmd 16 20
  if src.size < o + n * z then none else some ((List.range n).map (fun i => x.padNat (src.front + o + i * z) z))

/-- A table entry as CBLD writes it: none for a NaN, an infinity or an overflow. -/
def cbldEntry (cmd : W64) (v : Nat) : Option Nat :=
  match (tabFmt (fld cmd 12 2)).val v with
  | .fin sg m e =>
    let r := (tabFmt (fld cmd 14 2)).deliver .rne false (.fin sg m e)
    if r.2.of then none else some r.1
  | _ => none

/-- A CBLD fails: it writes no row, TABLE_FORMAT at its barrier word, then as any matrix command (R434, R440). -/
def State.cbldFail (s : State) (t : Nat) (m : MCmd) (cmd : W64) : State :=
  let s := s.modTile t (fun x => { x.mapHandles (fun h => h.discard m.seq) with nib := none })
  (s.engineDone t m.seq (fld cmd 36 20) (cbldBytes cmd) (some 0x49#7)).matrixFail t m 0x49#7

/-- The table that a CBLD makes of its source, or none where a check fails (R440). -/
def cbldRow (x : Tile) (cmd : W64) (src row : HEntry) : Option (List Byte) :=
  let z := entrySize (fld cmd 14 2)
  match (cbldEntries x cmd src).bind (fun l => l.mapM (cbldEntry cmd)) with
  | none => none
  | some l => if row.size < l.length * z then none else some (l.flatMap (toBytes z))

/-- Bytes at address a in pieces that lie in one aligned word of 16 bytes each (R466); fuel bounds their number. -/
def wordPieces : Nat → Nat → List Byte → List Piece
  | 0, _, _ => []
  | f + 1, a, l => if l.isEmpty then [] else (a, l.take (16 - a % 16)) :: wordPieces f (a + (16 - a % 16)) (l.drop (16 - a % 16))

/-- CBLD_BUILD: the CBLD in the Nib pipe is accepted once the source is FULL and the ring has a free row; in later steps it reads and checks, writes its
row word by word, and completes (R440, R466, R470). -/
def State.cbldBuild (s : State) (t : Nat) : State :=
  let x := s.tile t
  match x.nib with
  | none => s
  | some n =>
    match n.cmd.op with
    | .cbld cmd inst src =>
      let id := n.cmd.seq
      let put := fun (x : Tile) (n : NibRun) => s.setTile t { x with nib := some n }
      if !n.taken then
        (if !isBlock (x.alloc src) 0 || !isRing (x.alloc inst) 0 then s.cbldFail t n.cmd cmd
        else if x.handleAhead n.cmd || !(x.inst src).canRead 1 || !(x.inst inst).canWrite id 1 then s
        else put ((x.modInst src (fun h => h.startRead id 1)).modInst inst (fun h => h.startWrite id 1)) { n with taken := true })
      else if n.k = 0 then
        (match cbldRow x cmd (x.inst src) (x.inst inst) with
        | none => s.cbldFail t n.cmd cmd
        | some l => put x { n with k := 1, out := wordPieces (l.length / 16 + 2) ((x.inst inst).wbase id) l })
      else
        (match n.out with
        | p :: l => put (x.padWrite p.1 p.2) { n with out := l }
        | [] =>
          if x.lingers id then s
          else
            match x.ends id none with
            | some c => ((s.setTile t { x with nib := none }).engineDone t id (fld cmd 36 20) (cbldBytes cmd) (some c)).matrixFail t n.cmd c
            | none => (s.setTile t { x with nib := none }).engineDone t id (fld cmd 36 20) (cbldBytes cmd) none)
    | _ => s

/-- CBLD_BUILD (R440). -/
def execCbldBuild (t : Nat) (s : State) : Result := .next (s.cbldBuild t)

/-- Entries of a definition's table (R192). -/
def trEntries (r : W64) : Nat := if tHash r then 64 else 2 ^ tW r

/-- A trellis record that breaks R192, its table and front apart. -/
def trBad (r : W64) : Bool :=
  let w := tW r
  let q := tQ r
  decide (w < 2) || decide (16 < w) || (List.range q).any (fun i => decide (w < tStep r i)) || decide (tN r % q ≠ 0)
    || (!tHash r && decide (10 < w)) || (tTail r && (decide (tN r * tB r / q < w) || decide (10 < w - tStep r (q - 1))))
    || decide (fld r 34 6 ≠ 0) || (upto q (8 - q)).any (fun i => decide (fld r (40 + 3 * i) 3 ≠ 0)) || decide (tTfmt r = 3)
    || decide (4 ≤ tOfmt r) || decide (4 ≤ tGkind r) || (decide (tGkind r = 3) && decide (tGlog r ≠ 5))
    || (decide (tGkind r = 0) && decide (tGlog r ≠ 0)) || (decide (tGkind r ≠ 0) && (decide (tGlog r < 5) || decide (12 < tGlog r)))

/-- The definition in the front of a block handle, widened to FP32, or none where it breaks R192. -/
def readTrDef (x : Tile) (h : HEntry) : Option TrDef :=
  let r := BitVec.ofNat 64 (x.padNat h.front 8)
  let z := entrySize (tTfmt r)
  let n := trEntries r
  if h.size < 8 ∨ trBad r = true ∨ h.size < 8 + n * z then none
  else
    ((List.range n).map (fun i => x.padNat (h.front + 8 + i * z) z)).mapM (fun v =>
      match (tabFmt (tTfmt r)).val v with
      | .fin sg m e => some (BitVec.ofNat 32 (f32.deliver .rne false (.fin sg m e)).1)
      | _ => none) |>.map (fun l => { record := r, table := l })

/-- TRDEF_EXECUTE: the TRDEF in the Nib pipe is accepted once its handle is FULL and the Brush has accepted every earlier job; in a later step it loads
its slot (R192, R441, R470). -/
def State.trdefExecute (s : State) (t : Nat) : State :=
  let x := s.tile t
  match x.nib with
  | none => s
  | some n =>
    match n.cmd.op with
    | .trdef slot inst =>
      if !n.taken then
        (if !isBlock (x.alloc inst) 0 then s.matrixFail t n.cmd 0x43#7
        else if x.handleAhead n.cmd || !(x.inst inst).canRead 1 || x.brush.any (fun j => decide (j.seq < n.cmd.seq) && !j.started) then s
        else s.setTile t { x.modInst inst (fun h => h.startRead n.cmd.seq 1) with nib := some { n with taken := true } })
      else if x.lingers n.cmd.seq then s
      else
        match readTrDef x (x.inst inst) with
        | none => s.matrixFail t n.cmd 0x43#7
        | some d => (s.modTile t (fun x => { x with trdefs := mput x.trdefs slot d, nib := none })).matrixDone t n.cmd
    | _ => s

/-- TRDEF_EXECUTE (R192). -/
def execTrdefExecute (t : Nat) (s : State) : Result := .next (s.trdefExecute t)

end Sys2Proof.Machine
end

