-- ==== Sys2Proof/Machine/Copy.lean ====
section
/-! DEFINITION. The copy sequencer: SQSET, SQGO, SQBIND and ACCPY, and a copy's admission, acceptance, run, park and end (R241-R253,
R445-R454). -/

namespace Sys2Proof.Machine

/-! ## Issue -/

/-- A command at the end of the copy queue of the context in hand. -/
def State.pushCq (s : State) (c : CCmd) : State := s.modCurCtx (fun y => { y with cq := y.cq ++ [c] })

/-- SQSET: only SYNC is checked at issue (R447). -/
def execSqset (reg g : BitVec 6) (s : State) : Result :=
  issue s true (if reg = 6#6 then spOperand (s.g g) 8 else .ok) (fun s => s.pushCq (.sqset reg.toNat (s.g g)))

/-- SQGO: queued with the handles that its registers will name (R138, R450); of a pair, one copy's end counts for both (R279). -/
def execSqgo (slot : BitVec 3) (s : State) : Result :=
  issue s true .ok (fun s =>
    let n := s.stamp
    let r := stageAfter s.curCtx.staging s.curCtx.cq
    let src := if cSSpace r = 1 then (s.curTile.handle (cSH r)).inst else 0
    let dst := if cDSpace r = 1 then (s.curTile.handle (cDH r)).inst else 0
    let k := s.curCtx.task
    ((n.2.modCurTile (fun x => (x.nameCmd src n.1 false).nameCmd dst n.1 true)).pushCq
      (.sqgo slot.toNat s.cur.scope n.1 ((k.map Task.gid).getD 0) ((k.map Task.node).getD 0) src dst)).paired n.1)

/-- A stream holds an element, or a producer of its kind has output in flight for it (R453). -/
def Tile.streamBusy (x : Tile) (c q : Nat) : Bool :=
  let y := x.ctx c
  let st := y.stream q
  !st.elems.isEmpty || !st.backlog.isEmpty
    || (decide (st.kind = 1#2) && (decide (q ∈ queuedStreams y.staging y.cq)
      || x.copies.any (fun k => decide (k.2.ctx = c ∧ cDSpace k.2.regs = 3 ∧ cStrm k.2.regs = q))))
    || (decide (st.kind = 2#2) && y.remote.any (fun r => r.feeds q))
    || (decide (st.kind = 3#2) && (y.fq.any (fun m => match m with | .frecvStream _ _ n _ => decide (n = q) | _ => false)
      || x.posted.any (fun r => decide (r.ctx = c ∧ r.stream = some q))))

/-- SQBIND: the binding changes at issue (R453). -/
def execSqbind (q : BitVec 3) (g : BitVec 6) (s : State) : Result :=
  let k := BitVec.ofNat 2 (s.g g).toNat
  let same := decide (k = (s.curCtx.stream q.toNat).kind)
  issue s true ((reservedIf (decide (fld (s.g g) 2 62 ≠ 0))).both
      (faultIf (!same && s.curTile.streamBusy (unitCtx s.cur.u) q.toNat) 0x38#7)) (fun s =>
    (s.modCurCtx (fun y => if same then y else y.setStream q.toNat { y.stream q.toNat with kind := k })).counted (unitTile s.cur.u) 1)

/-- ACCPY's checks at issue (R454). A HOFF off its alignment is none of them: in a block it is used as it stands, in a ring it is not used (log entry
44). -/
def accpyCheck (v : W64) : Verdict :=
  let ty := fld v 39 4
  let dir := fld v 0 1
  ((faultIf (decide (63 < fld v 2 6 + fld v 8 6)) 0x39#7).both
    (reservedIf (v.getLsbD 43 || v.getLsbD 1 || decide (ty = 5) || decide (ty = 7) || decide (9 ≤ ty)
      || (decide (dir = 1) && decide (ty ≠ 0) && decide (ty ≠ 8))))).both (faultIf (decide (fld v 19 20 % 8 ≠ 0)) 0x24#7)

/-- ACCPY (R454). -/
def execAccpy (bank : BitVec 3) (g : BitVec 6) (s : State) : Result :=
  issue s true (accpyCheck (s.g g)) (fun s =>
    let v := s.g g
    let n := s.stamp
    let inst := (s.curTile.handle (fld v 14 5)).inst
    ((n.2.modCurTile (fun x => x.nameCmd inst n.1 (decide (fld v 0 1 = 0)))).pushCq
      (.accpy bank.toNat v inst n.1 ((s.curCtx.task.map Task.gid).getD 0) ((s.curCtx.task.map Task.node).getD 0) none)).paired n.1)

/-! ## Reads and writes of a running copy (R448, R449) -/

/-- Why a run stops short: a page fault at an address, another failure, or a wait. -/
inductive CHalt where
  | page (c : Cause) (va : W64)
  | fail (c : Cause)
  | wait
deriving DecidableEq, Repr

/-- A failed access of device memory: DATA_PAGE and DATA_ACCESS park (R252); one that a walk holds up waits (R149). -/
def haltOf (c : Cause) (a : W64) : CHalt := if c = 0x22#7 ∨ c = 0x23#7 then .page c a else if c = walkBusy then .wait else .fail c

/-- The first address of a range that does not translate. -/
def State.badAddr (s : State) (wk : Walker) (tn : Nat) (a : W64) (n : Nat) (acc : Acc) : W64 :=
  match (pieces (n / 64 + 2) a.toNat n).find? (fun p => match s.xlatE wk tn p.1 acc with | .pa q => decide (windowBase ≤ q) | _ => true) with
  | some p => BitVec.ofNat 64 p.1
  | none => a

/-- Bytes read at a virtual address of device memory, where the command has overwritten some of its own source bytes: each such is what it was or what it
is, a free choice (R252). -/
def State.overlapped (s : State) (t : Nat) (k : CopyCmd) (a : Nat) (l : List Byte) : List Byte :=
  if k.olds.isEmpty then l
  else
    ((upto a l.length).zip l).map (fun e =>
      match s.xlatE (.tile t) k.tenant e.1 .read with
      | .pa p => (match mfind k.olds p with | some o => if bit k.pick (p % 64) then o else e.2 | none => e.2)
      | _ => e.2)

/-- n bytes at a global address, as number key of the command's reads; of another package, once the access that serves it has returned. -/
def State.copyGet (s : State) (t : Nat) (k : CopyCmd) (key : Nat) (a : W64) (n : Nat) : Except CHalt Nat :=
  if !gaFormOk a then .error (.fail 0x2C#7)
  else if !gaTile a then
    match s.vaReadLong (.tile t) k.tenant a.toNat n with
    | .ok l => .ok (ofBytes (s.overlapped t k a.toNat l))
    | .error c => .error (haltOf c (s.badAddr (.tile t) k.tenant a n .read))
  else if gaPeer a ≠ 0 then
    match mfind k.got (if cCmp k.regs = 2 ∧ key < 2 ^ 40 then key else cLead k.regs 32 key) with
    | some (v, c) => if c = 0#7 then .ok (bits v (8 * (a.toNat - (cFetch k.regs key).1.toNat)) (8 * n)) else .error (.fail c)
    | none => if (s.port (gaPeer a - 1)).failed then .error (.fail 0x75#7) else .error .wait
  else if s.homeWaits k.tenant a then .error .wait
  else
    match s.homeFails k.tenant (.ldx 0) a 0 n true with
    | some c => .error (.fail c)
    | none => .ok (s.homeRead a 0 n)

/-- Base of row n of a command's source or destination handle. -/
def rowBase (h : HEntry) (front : Bool) (k : CopyCmd) (n : Nat) : Nat :=
  if h.kind = 1#2 then (if front then h.front else h.back)
  else if front then h.rowAt (resRow k.seq h.ccount h.rres + BitVec.ofNat 32 (n - k.srows))
  else h.rowAt (resRow k.seq h.pcount h.wres + BitVec.ofNat 32 (n - k.rows))

/-- n bytes at a source address of the command, as number key of its reads. -/
def State.copySrc (s : State) (t : Nat) (k : CopyCmd) (key row : Nat) (a : W64) (n : Nat) : Except CHalt Nat :=
  if cSSpace k.regs = 1 then
    let h := (s.tile t).inst k.srcInst
    if h.size < a.toNat + n then .error (.fail 0x29#7) else .ok ((s.tile t).padNat (rowBase h true k row + a.toNat) n)
  else s.copyGet t k key a n

/-- What the command reads as number n (R448): the value in hand, where the access that served an earlier read has brought it (R466). -/
def State.copyRead (s : State) (t : Nat) (k : CopyCmd) (n : Nat) : Except CHalt Nat :=
  match mfind k.word n, cReadAt k.regs n with
  | some v, _ => .ok v
  | none, some (row, _, a, z) => if 2 ^ 40 ≤ n then s.copyGet t k n a z else s.copySrc t k n row a z
  | none, none => .ok 0

/-- The values that read n brings for the reads behind it in its word of 16 bytes (R466). -/
def State.copyServed (s : State) (t : Nat) (k : CopyCmd) (n : Nat) : SMap Nat :=
  let ring := decide (cSSpace k.regs = 1) && decide (((s.tile t).inst k.srcInst).kind = 2#2)
  (cServed k.regs (ring && decide (n < 2 ^ 40)) n).filterMap (fun m => match s.copyRead t k m with | .ok v => some (m, v) | .error _ => none)

/-- A line of 64 bytes lies whole among the destination bytes of a command, scale bytes included (R507). An encoded stream goes out by whole
lines as it is. -/
def CopyCmd.covers (k : CopyCmd) (line : Nat) : Bool :=
  let z := elemBytes (cDstT k.regs)
  let el := decide (cCmp k.regs ≠ 1 ∧ cDSpace k.regs = 0)
  (upto line 64).all (fun b =>
    (el && (List.range (cElems k.regs)).any (fun x => let d := (cEmit k.regs x).da.toNat; decide (d ≤ b) && decide (b < d + z)))
      || (cScaleWrites k.regs).any (fun a => decide (a.toNat = b)))

/-- A run in progress: the state and the command as they stand, and why it stopped. -/
structure CRun where
  s    : State
  k    : CopyCmd
  halt : Option CHalt

/-- The run stops. -/
def CRun.stop (r : CRun) (h : CHalt) : CRun := { r with halt := some h }

/-- Bytes at a physical address of a poisoned line that the command covers whole: they are held until the line can be written as one (R507). -/
def CRun.hold (r : CRun) (p : Nat) (l : List Byte) : CRun :=
  let held := r.k.held.filter (fun e => !(decide (p ≤ e.1) && decide (e.1 < p + l.length))) ++ (upto p l.length).zip l
  let line := (upto (p / 64 * 64) 64).filterMap (fun a => (held.find? (fun e => decide (e.1 = a))).map Prod.snd)
  if line.length = 64 then
    { r with s := r.s.memWrite (p / 64 * 64) line, k := { r.k with held := held.filter (fun e => decide (e.1 / 64 ≠ p / 64)) } }
  else { r with k := { r.k with held := held } }

/-- The command reads the byte at a physical address. -/
def State.copyReads (s : State) (t : Nat) (k : CopyCmd) (p : Nat) : Bool :=
  (cReads k.regs).any (fun e => (decide (cSSpace k.regs = 0) || decide (2 ^ 40 ≤ e.1)) && !gaTile e.2.1 &&
    (upto e.2.1.toNat e.2.2).any (fun va => decide (va % 65536 = p % 65536) && decide (s.xlatE (.tile t) k.tenant va .read = .pa p)))

/-- Bytes that the command writes at a physical address, where some are bytes of its source: what each held is kept in mind, and whether it takes the new
value is a free choice (R252). -/
def CRun.overlap (r : CRun) (t p : Nat) (l : List Byte) : CRun × List Byte :=
  let hit := (upto p l.length).map (r.s.copyReads t r.k)
  if !hit.any id then (r, l)
  else
    let c := r.s.choose (2 ^ l.length)
    let e := (upto 0 l.length).zip (hit.zip ((r.s.memRead p l.length).zip l))
    let olds := e.foldl (fun m e => if e.2.1 && (mfind m (p + e.1)).isNone then mput m (p + e.1) e.2.2.1 else m) r.k.olds
    ({ r with s := c.2, k := { r.k with olds := olds } }, e.map (fun e => if e.2.1 && bit c.1 e.1 then e.2.2.1 else e.2.2.2))

/-- Write bytes within one line of device memory (R364, R507). -/
def CRun.putLine (r : CRun) (t va : Nat) (l : List Byte) : CRun :=
  if r.halt.isSome then r else
  match r.s.xlatE (.tile t) r.k.tenant va .write with
  | .pa p =>
    if windowBase ≤ p then r.stop (.page 0x23#7 (BitVec.ofNat 64 va))
    else
      match r.s.memFails p l.length true with
      | none =>
        let w := r.overlap t p l
        { w.1 with s := w.1.s.memWrite p w.2 }
      | some c => if c = 0x77#7 ∧ r.k.covers (va / 64 * 64) = true then r.hold p l else r.stop (.fail c)
  | .bad c => r.stop (haltOf c (BitVec.ofNat 64 va))
  | .miss => r.stop .wait

/-- The tag of a 4 KiB block under a port's session key: HMAC-SHA-256 cut to 128 bits (R39). -/
def blockTag (key : BitVec 256) (l : List Byte) : BitVec 128 := BitVec.ofNat 128 (ofBytes ((hmac256 (toBytesBE 32 key.toNat) l).take 16))

/-- A message with a block of 4 KiB leaves as a candidate: in full with its H, or as a reference when H is in the sent-block cache (R39, R40). -/
def State.sendBlock (s : State) (t n : Nat) (k : BitVec 4) (m : FabMsg) : State :=
  let x := s.port n
  let h := blockTag x.key m.data
  if m.data.length ≠ 4096 ∨ s.kregs.ddbase = 0 then s.sendFrom t n k m
  else
    let m := { m with cand := some h }
    if (m.tenant, h) ∉ x.sent then s.sendFrom t n k m
    else
      let s := s.sendFrom t n 0x7#4 { m with data := toBytes 16 h.toNat ++ toBytes 1 k.toNat, cand := none }
      s.modPort n (fun x => { x with
        sent := (m.tenant, h) :: x.sent.filter (fun e => decide (e ≠ (m.tenant, h))), refs := x.refs + 1, blocks := x.blocks ++ [(k, m)] })

/-- Write bytes at a global address: a scratchpad is checked at its target, another package gets a message (R35, R364, R449). -/
def CRun.put (r : CRun) (t : Nat) (a : W64) (l : List Byte) : CRun :=
  if r.halt.isSome then r
  else if !gaFormOk a then r.stop (.fail 0x2C#7)
  else if !gaTile a then (pieces (l.length / 64 + 2) a.toNat l.length).foldl (fun r p => r.putLine t p.1 ((l.drop (p.1 - a.toNat)).take p.2)) r
  else if gaPeer a ≠ 0 then
    if (r.s.port (gaPeer a - 1)).failed then r.stop (.fail 0x75#7)
    else
      let m : FabMsg :=
        { tenant := r.k.tenant, dst := a, src := BitVec.ofNat 64 (2 * t + r.k.ctx), tag := BitVec.ofNat 64 r.k.seq,
          arg := BitVec.ofNat 64 l.length, data := l, cand := none }
      { r with s := r.s.sendBlock t (gaPeer a - 1) 0x3#4 m }
  else if r.s.homeWaits r.k.tenant a then r.stop .wait
  else
    match r.s.homeFails r.k.tenant .stx a 0 l.length true with
    | some c => r.stop (.fail c)
    | none => { r with s := r.s.homeWrite a 0 l.length (ofBytes l) (BitVec.allOnes 128) }

/-- Write bytes at a destination address of the command. -/
def CRun.store (r : CRun) (t row : Nat) (a : W64) (l : List Byte) : CRun :=
  if r.halt.isSome then r
  else if cDSpace r.k.regs = 1 then
    let h := (r.s.tile t).inst r.k.dstInst
    if h.size < a.toNat + l.length then r.stop (.fail 0x29#7)
    else { r with s := r.s.modTile t (fun x => x.padWrite (rowBase h false r.k row + a.toNat) l) }
  else if cDSpace r.k.regs = 2 then
    if Config.inkwellSize < a.toNat + l.length then r.stop (.fail 0x42#7)
    else { r with s := r.s.modTile t (fun x => { x with ink := mwrite 0 x.ink a.toNat l }) }
  else r.put t a l

/-! ## Conversion of one element (R243-R245) -/

/-- What an element adds to the status: a clamp, an NV, an offence. -/
structure CMark where
  x     : Nat
  clamp : Bool
  nv    : Bool
  off   : Option Cause
deriving DecidableEq, Repr

/-- The value of a source pattern under its block scale (R153, R242). -/
def cValue (r : SMap W64) (pat : Nat) (sc : FV) : FV :=
  match fmtOf (cSrcT r) with
  | some f => if cSrcT r = 5 then ((f.val pat).mul sc).1 else f.val pat
  | none => fvOfInt (intOf (cSrcT r) pat)

/-- The scale step (R243). -/
def cScaled (r : SMap W64) (v : FV) : FV :=
  let sc := fld (creg r 5) 0 32
  if (creg r 3).getLsbD 30 then (v.mul (f32.val (if (creg r 3).getLsbD 31 then sc else recipRNE32 sc))).1 else v

/-- The offence of an element in STRICT mode (R245): clamped tells a value beyond the range, zero a pattern of zero. -/
def cOffence (r : SMap W64) (v : FV) (clamped zero : Bool) : Option Cause :=
  if cMode r ≠ 2 then none
  else
    match v with
    | .nan => some 0x30#7
    | .inf _ => some 0x32#7
    | .fin _ m _ => if m = 0 then none else if clamped then some 0x31#7 else if zero && decide (cDstT r < 6) then some 0x33#7 else none

/-- Convert(x) to a type other than E2M1, with what it marks (R243, R244). -/
def cConvert (r : SMap W64) (x : Nat) (v : FV) : Nat × CMark :=
  let d := cDstT r
  let o := match fmtOf d with
    | some f => f.deliver .rne true v
    | none => fvToInt (tyBits d) (tySigned d) .rne true v
  let zero := match fmtOf d with | some f => decide (o.1 % 2 ^ (f.width - 1) = 0) | none => decide (o.1 = 0)
  (o.1, { x := x, clamp := o.2.sat, nv := o.2.nv, off := cOffence r v o.2.sat zero })

/-- A block converted to MXFP4 (R154, R244): its scale byte and its elements. -/
def cConvertMx (r : SMap W64) (x : Nat) (vs : List FV) : Nat × List (Nat × CMark) :=
  let e := mxEncode vs
  (e.1, ((List.range vs.length).zip (vs.zip e.2)).map (fun p =>
    (p.2.2.1, { x := x + p.1, clamp := false, nv := p.2.2.2.nv,
                off := cOffence r p.2.1 false (decide (e.1 ≠ 0xFF) && decide (p.2.2.1 % 8 = 0)) })))

/-! ## Zero elision (R248-R250) -/

/-- A group encoded: mask, packed elements, zeros to a multiple of 8 (R248). -/
def encGroup (z : Nat) (l : List Nat) : List Byte :=
  let mask := ((List.range l.length).zip l).foldl (fun a p => if p.2 = 0 then a else a + 2 ^ p.1) 0
  let b := (l.filter (fun v => decide (v ≠ 0))).flatMap (toBytes z)
  toBytes 8 mask ++ b ++ List.replicate ((8 - b.length % 8) % 8) 0#8

/-- The 64 elements of a group from its mask and its packed elements. -/
def unpackGroup (z mask : Nat) : Nat → Nat → List Byte → List Nat
  | 0, _, _ => []
  | n + 1, i, l => if bit mask i then ofBytes (l.take z) :: unpackGroup z mask n (i + 1) (l.drop z) else 0 :: unpackGroup z mask n (i + 1) l

/-- What decoding a block comes to: its elements, the compressed bytes they took and where the next group begins, whether the stream ended
short, and whether a mask bit stood beyond the last element. -/
structure DecR where
  elems : List Nat
  used  : Nat
  pos   : Nat
  short : Bool
  long  : Bool
deriving DecidableEq, Repr

/-- Decode groups until need elements are had; rd reads compressed bytes (R249). -/
def decGroups (rd : Nat → Nat → Except CHalt (List Byte)) (z clen : Nat) : Nat → Nat → Nat → Except CHalt DecR
  | 0, _, pos => .ok { elems := [], used := 0, pos := pos, short := false, long := false }
  | f + 1, need, pos =>
    if need = 0 then .ok { elems := [], used := 0, pos := pos, short := false, long := false }
    else if clen < pos + 8 then .ok { elems := [], used := 0, pos := pos, short := true, long := false }
    else
      match rd pos 8 with
      | .error h => .error h
      | .ok mb =>
        let mask := ofBytes mb
        let n := popc 64 mask * z
        if clen < pos + 8 + n then .ok { elems := [], used := 0, pos := pos, short := true, long := false }
        else
          match rd (pos + 8) n with
          | .error h => .error h
          | .ok l =>
            let g := unpackGroup z mask 64 0 l
            let size := 8 + 8 * ((n + 7) / 8)
            match decGroups rd z clen f (need - 64) (min clen (pos + size)) with
            | .error h => .error h
            | .ok d => .ok { d with elems := g.take need ++ d.elems, used := size + d.used,
                                    long := d.long || (decide (need < 64) && decide (mask / 2 ^ need ≠ 0)) }

/-- n compressed bytes at position pos of a command's source; what the word of an earlier access has brought is in hand from 2^41 up (R466). -/
def State.copyComp (s : State) (t : Nat) (k : CopyCmd) (pos n : Nat) : Except CHalt (List Byte) :=
  let a := creg k.regs 0 + BitVec.ofNat 64 pos
  if cSSpace k.regs = 0 ∧ gaTile a = true ∧ gaPeer a ≠ 0 then
    (upto pos n).mapM (fun i =>
      match s.copyGet t k (i / 64) (creg k.regs 0 + BitVec.ofNat 64 i) 1 with
      | .ok v => .ok (BitVec.ofNat 8 v)
      | .error h => .error h)
  else
    match s.copySrc t k 0 0 a n with
    | .ok v => .ok (((upto pos n).zip (toBytes n v)).map (fun e => match mfind k.word (2 ^ 41 + e.1) with | some b => BitVec.ofNat 8 b | none => e.2))
    | .error h => .error h

/-- The compressed bytes behind position pos in the word of 16 bytes in which the bytes before it end (R466). -/
def State.compServed (s : State) (t : Nat) (k : CopyCmd) (pos : Nat) : SMap Nat :=
  let n := min (cCLen k.regs - pos) ((16 - (creg k.regs 0 + BitVec.ofNat 64 pos).toNat % 16) % 16)
  match s.copyComp t k pos n with
  | .ok l => ((upto (2 ^ 41 + pos) n).zip l).map (fun e => (e.1, e.2.toNat))
  | .error _ => []

/-! ## One unit of emission -/

/-- A unit of emission: its elements, the bytes they give, the scale byte of a block, its marks, where the compressed source stands, and what its reads
have brought for later ones. -/
structure CUnit where
  n     : Nat
  out   : List Byte
  scale : Option (W64 × Byte)
  marks : List CMark
  cpos  : Nat
  dend  : Bool
  word  : SMap Nat

/-- The pattern of source element x; a fill element is +0 and is not read (R448). -/
def State.copyPat (s : State) (t : Nat) (k : CopyCmd) (x : Nat) : Except CHalt Nat :=
  let e := cEmit k.regs x
  if e.fill then .ok 0
  else
    match s.copyRead t k x with
    | .error h => .error h
    | .ok v => .ok (if cSrcT k.regs = 5 then bits v (4 * e.half) 4 else v)

/-- The value of the scale byte of block b of an MXFP4 source; a block of fill alone is not read. -/
def State.copyScale (s : State) (t : Nat) (k : CopyCmd) (b : Nat) : Except CHalt FV :=
  match cReadAt k.regs (2 ^ 40 + b), s.copyRead t k (2 ^ 40 + b) with
  | none, _ => .ok (.fin false 1 0)
  | some _, .ok v => .ok (e8m0 v)
  | some _, .error h => .error h

/-- A whole aligned 4 KiB source block of a RAW copy to another package begins at element x (R452). -/
def State.blockAt (s : State) (t : Nat) (k : CopyCmd) (x : Nat) : Bool :=
  let r := k.regs
  let z := elemBytes (cSrcT r)
  let n := 4096 / z
  let e := cEmit r x
  let base := if cSSpace r = 1 then rowBase ((s.tile t).inst k.srcInst) true k e.row else 0
  decide (cMode r = 0) && decide (cCmp r = 0) && !cMx r && decide (cDSpace r = 0) && gaTile e.da && decide (gaPeer e.da ≠ 0)
    && decide (cEStep r = 0 ∨ cEStep r = (z : Int)) && decide (x % cRun r + n ≤ cRun r)
    && !((upto x n).any (fun i => (cEmit r i).fill)) && decide ((base + e.sa.toNat) % 4096 = 0)

/-- Elements of the unit that begins at element x. -/
def State.unitLen (s : State) (t : Nat) (k : CopyCmd) (x : Nat) : Nat :=
  let r := k.regs
  let n := if cCmp r = 1 then 64 else if cMx r then 32 else if cCmp r = 2 then 4096 / elemBytes (cSrcT r)
    else if s.blockAt t k x then 4096 / elemBytes (cSrcT r) else 1
  min n (cElems r - x)

/-- Bytes of destination patterns: E2M1 two to a byte (R153). -/
def patBytes (d : Nat) : List Nat → List Byte
  | [] => []
  | a :: b :: l => if d = 5 then BitVec.ofNat 8 (a % 16 + 16 * (b % 16)) :: patBytes d l else toBytes (elemBytes d) a ++ patBytes d (b :: l)
  | [a] => toBytes (elemBytes d) a

/-- The bytes of a unit of destination patterns: an encoded group, or the patterns in order. -/
def cOut (r : SMap W64) (pats : List Nat) : List Byte := if cCmp r = 1 then encGroup (elemBytes (cDstT r)) pats else patBytes (cDstT r) pats

/-- The value of element x before conversion, scs being the block scales of its unit, which begins at element x0; a fill element is +0 whatever the scale
of its block (R243, R448). -/
def cInput (r : SMap W64) (scs : List FV) (x0 x pat : Nat) : FV :=
  let one : FV := .fin false 1 0
  cScaled r (cValue r pat (if (cEmit r x).fill then one else nth one scs (x / 32 - x0 / 32)))

/-- The unit of source patterns at element x, converted (R243); a fill element marks nothing (R448). -/
def cConverted (r : SMap W64) (x : Nat) (pats : List Nat) (scs : List FV) (cpos : Nat) (dend : Bool) (marks : List CMark) : CUnit :=
  let n := pats.length
  if cMode r = 0 then { n := n, out := cOut r pats, scale := none, marks := marks, cpos := cpos, dend := dend, word := [] }
  else
    let vs := ((upto x n).zip pats).map (fun p => cInput r scs x p.1 p.2)
    let o := if cDstT r = 5 then (cConvertMx r x vs).2 else ((upto x n).zip vs).map (fun p => cConvert r p.1 p.2)
    { n := n, out := cOut r (o.map Prod.fst),
      scale := if cDstT r = 5 then some (creg r 0x0A + BitVec.ofNat 64 (x / 32), BitVec.ofNat 8 (cConvertMx r x vs).1) else none,
      marks := marks ++ (o.map Prod.snd).filter (fun m => !(cEmit r m.x).fill), cpos := cpos, dend := dend, word := [] }

/-- A mark that only says an error. -/
def cEvent (x : Nat) (c : Cause) : CMark := { x := x, clamp := false, nv := false, off := some c }

/-- The unit of a decode: up to 4 KiB of the expanded stream, judged whole (R249, R250). -/
def State.decodeUnit (s : State) (t : Nat) (k : CopyCmd) (p : CProg) (n : Nat) : Except CHalt CUnit :=
  let r := k.regs
  let z := elemBytes (cSrcT r)
  let last := decide (p.pos + n = cElems r)
  if p.dend then .ok (cConverted r p.pos (List.replicate n 0) [] p.cpos true [])
  else
    match decGroups (s.copyComp t k) z (cCLen r) ((n + 63) / 64) n p.cpos with
    | .error h => .error h
    | .ok d =>
      let m := d.elems.length
      if (fld (creg r 3) 32 5 + 1) * d.used < m * z then
        .ok (cConverted r p.pos (List.replicate n 0) [] d.pos true [cEvent p.pos 0x36#7])
      else
        let ev := (if d.short then [cEvent (p.pos + m) 0x34#7] else [])
          ++ (if last && !d.short && (d.long || decide (d.pos < cCLen r)) then [cEvent (cLen r / z) 0x35#7] else [])
        .ok { cConverted r p.pos (d.elems ++ List.replicate (n - m) 0) [] d.pos d.short ev with word := s.compServed t k d.pos }

/-- The next unit of a command. -/
def State.copyUnit (s : State) (t : Nat) (k : CopyCmd) : Except CHalt CUnit :=
  let p := k.prog
  let n := s.unitLen t k p.pos
  if cCmp k.regs = 2 then s.decodeUnit t k p n
  else
    match (upto (p.pos / 32) ((n + 31) / 32)).mapM (s.copyScale t k) with
    | .error h => .error h
    | .ok scs =>
      match (upto p.pos n).mapM (s.copyPat t k) with
      | .error h => .error h
      | .ok pats =>
        let x := p.pos + n - 1
        .ok { cConverted k.regs p.pos pats scs p.cpos p.dend [] with word := s.copyServed t k x ++ s.copyServed t k (2 ^ 40 + x / 32) }

/-! ## The run -/

/-- Where byte b of the bytes that a command emits goes: the row and the address (R448). -/
def cByteAt (r : SMap W64) (b : Nat) : Nat × W64 :=
  let z := elemBytes (cDstT r)
  let e := cEmit r (if cDstT r = 5 then 2 * b else b / z)
  (e.row, e.da + BitVec.ofNat 64 (b % z))

/-- How many emitted bytes from number b on go out as one: those of one aligned word of 16 bytes (R466), or of a block of 4 KiB for another package
(R452). -/
def State.pieceLen (s : State) (t : Nat) (k : CopyCmd) (b : Nat) : Nat :=
  let r := k.regs
  let z := elemBytes (cDstT r)
  let block := fun (i : Nat) => decide (i % z = 0) && s.blockAt t k (i / z)
  let ring := decide (cDSpace r = 1) && decide (((s.tile t).inst k.dstInst).kind = 2#2)
  let p := cByteAt r b
  let same := fun (i : Nat) =>
    let q := cByteAt r i
    decide (i < typeBytes (cDstT r) (cElems r)) && !block i && (!ring || decide (q.1 = p.1)) && decide (q.2.toNat / 16 = p.2.toNat / 16)
  if block b then 4096 else 1 + ((upto (b + 1) 15).takeWhile same).length

/-- Write the bytes in hand, piece by piece, but for those of rows that are counted (R141, R252, R466). -/
def flushPieces (t : Nat) : Nat → CRun → CRun
  | 0, r => r
  | f + 1, r =>
    let b := r.k.sent
    let n := r.s.pieceLen t r.k b
    let row := (cByteAt r.k.regs b).1
    if r.k.buf.isEmpty || decide (r.k.buf.length < n) then r
    else
      let w := if cDSpace r.k.regs = 1 ∧ row < r.k.rows then r
        else (joinRuns (((upto b n).map (fun i => (cByteAt r.k.regs i).2.toNat)).zip r.k.buf)).foldl (fun r p => r.store t row (BitVec.ofNat 64 p.1) p.2) r
      if w.halt.isSome then w else flushPieces t f { w with k := { w.k with sent := b + n, buf := w.k.buf.drop n } }

/-- Push whole 128-byte elements of the bytes in hand, while the stream takes them (R137, R449). -/
def pushElems (t : Nat) : Nat → CRun → CRun
  | 0, r => r
  | f + 1, r =>
    let c := r.k.ctx
    let q := cStrm r.k.regs
    if r.k.buf.length < 128 then r
    else if !(r.s.ctx t c).room (r.s.tile t).cutting q then r.stop .wait
    else
      let e : Elem := { width := 1024, val := BitVec.ofNat 1024 (ofBytes (r.k.buf.take 128)), marks := 0, poison := none }
      pushElems t f { r with s := r.s.modCtx t c (fun y => y.feed q e), k := { r.k with sent := r.k.sent + 128, buf := r.k.buf.drop 128 } }

/-- Write the bytes in hand of an encoded stream, line by line; all of them when the stream has ended. -/
def flushLines (t : Nat) (all : Bool) : Nat → CRun → CRun
  | 0, r => r
  | f + 1, r =>
    let a := creg r.k.regs 1 + BitVec.ofNat 64 r.k.sent
    let n := 64 - a.toNat % 64
    let n := if all then min n r.k.buf.length else n
    if r.k.buf.isEmpty || decide (r.k.buf.length < n) then r
    else
      let w := r.store t 0 a (r.k.buf.take n)
      if w.halt.isSome then w else flushLines t all f { w with k := { w.k with sent := w.k.sent + n, buf := w.k.buf.drop n } }

/-- What the bytes in hand allow is delivered. -/
def CRun.flush (r : CRun) (t : Nat) : CRun :=
  if r.halt.isSome then r
  else if cDSpace r.k.regs = 3 then pushElems t (r.k.buf.length / 128 + 1) r
  else if cCmp r.k.regs = 1 then flushLines t false (r.k.buf.length / 8 + 2) r
  else flushPieces t (r.k.buf.length + 1) r

/-- A unit is taken in hand: the scale byte of its block goes out first, so that its bytes are never complete without it. -/
def CRun.deliver (r : CRun) (t : Nat) (u : CUnit) : CRun :=
  let r := match u.scale with
    | some (a, b) => if r.k.out < r.k.sent then r else r.put t a [b]
    | none => r
  if r.halt.isSome then r else { r with k := { r.k with buf := r.k.buf ++ u.out.drop (r.k.sent + r.k.buf.length - r.k.out) } }

/-- Progress after a unit. -/
def CProg.after (p : CProg) (u : CUnit) (out : Nat) : CProg :=
  { p with
    pos := p.pos + u.n, cpos := u.cpos, base := out, dend := u.dend, sat := p.sat + (u.marks.filter CMark.clamp).length,
    nv := p.nv + (u.marks.filter CMark.nv).length,
    first := match p.first with
      | some x => some x
      | none => (u.marks.find? (fun m => m.clamp || m.nv)).map CMark.x,
    err := u.marks.foldl (fun e m => match m.off with | some c => errMin e (m.x, c) | none => e) p.err }

/-- Destination bytes in which progress is kept: an element of a stream, else a 4 KiB chunk (R252, R253). -/
def cGrain (r : SMap W64) : Nat := if cDSpace r = 3 then 128 else 4096

/-- The point to restart from: the unit in which the last whole grain of the bytes delivered ends (R252, R253). -/
def CopyCmd.marked (k : CopyCmd) : CopyCmd :=
  let b := k.sent / cGrain k.regs * cGrain k.regs
  if b ≤ k.mark.skip then k
  else
    match k.hist.find? (fun p => decide (p.base ≤ b)) with
    | some p => { k with mark := { p with skip := b }, hist := k.hist.takeWhile (fun p => decide (b < p.base)) ++ [p] }
    | none => k

/-- A unit is behind the command. -/
def CopyCmd.passed (k : CopyCmd) (u : CUnit) : CopyCmd :=
  let out := k.out + u.out.length
  let p := k.prog.after u out
  { k with prog := p, hist := p :: k.hist, out := out, word := u.word }

/-- Which of old and new value the next reads of overwritten source bytes take is chosen anew (R252). -/
def CRun.chosen (r : CRun) : CRun :=
  if r.k.olds.isEmpty then r
  else
    let c := r.s.choose (2 ^ 64)
    { r with s := c.2, k := { r.k with pick := c.1 } }

/-- At most n units run, until the command is emitted or the run stops. -/
def copyLoop (t : Nat) : Nat → CRun → CRun
  | 0, r => r
  | n + 1, r =>
    if r.halt.isSome || decide (cElems r.k.regs ≤ r.k.prog.pos) then r
    else
      let r := r.chosen
      match r.s.copyUnit t r.k with
      | .error h => r.stop h
      | .ok u =>
        let w := r.deliver t u
        if w.halt.isSome then { w with k := w.k.marked }
        else
          let w := CRun.flush { w with k := w.k.passed u } t
          copyLoop t n { w with k := w.k.marked }

/-- The bytes in hand at the end: the last element of a stream, rounded up to 16 bits, or the rest of an encoded stream (R136, R449). -/
def copyTail (t : Nat) (r : CRun) : CRun :=
  if r.halt.isSome || r.k.buf.isEmpty || decide (r.k.prog.pos < cElems r.k.regs) then r
  else if cDSpace r.k.regs = 3 then
    let q := cStrm r.k.regs
    if !(r.s.ctx t r.k.ctx).room (r.s.tile t).cutting q then r.stop .wait
    else
      let e : Elem := { width := 16 * ((r.k.buf.length + 1) / 2), val := BitVec.ofNat 1024 (ofBytes r.k.buf), marks := 0, poison := none }
      { r with s := r.s.modCtx t r.k.ctx (fun y => y.feed q e), k := { r.k with sent := r.k.sent + r.k.buf.length, buf := [] } }
  else if cCmp r.k.regs = 1 then flushLines t true (r.k.buf.length / 8 + 2) r
  else r

/-- The run of a copy from where it stands, by at most n units. -/
def State.copyRun (s : State) (t : Nat) (k : CopyCmd) (n : Nat) : CRun :=
  let r := CRun.flush { s := s, k := k, halt := none } t
  copyTail t (copyLoop t n { r with k := r.k.marked })

/-- Every byte of the command has been delivered. -/
def CRun.over (r : CRun) : Bool := r.halt.isNone && decide (cElems r.k.regs ≤ r.k.prog.pos) && r.k.buf.isEmpty

/-- A command parks at its restart point (R252). -/
def CopyCmd.park (k : CopyCmd) : CopyCmd :=
  { k with st := 2, prog := k.mark, hist := [k.mark], out := k.mark.base, sent := k.mark.skip, buf := [], word := [] }

/-! ## Admission (R241, R242, R248, R448-R450) -/

/-- A reserved value (R241, R446). -/
def cReserved (r : SMap W64) : Bool :=
  decide (cCmp r = 3) || decide (cMode r = 3) || decide (14 ≤ cSrcT r) || decide (14 ≤ cDstT r)
    || (decide (cDSpace r = 3) && decide (cStrm r = 6))

/-- Some level of l has a step that fails a test. -/
def stepsBad (l : List Nat) (f : Nat → Int) (ok : Int → Bool) : Bool := l.any (fun k => !ok (f k))

/-- A step of zero. -/
def zeroStep (x : Int) : Bool := decide (x = 0)

/-- The rules of a decode (R248, R249, R448). Decoded and emitted elements are as many, so both types have one size. -/
def cDecodeBad (r : SMap W64) : Bool :=
  stepsBad (List.range 6) (cSStep r) zeroStep || decide (cEStep r ≠ 0) || (List.range 6).any (fun l => decide (cSExt r l ≠ 0))
    || decide (cRExt r ≠ 0) || decide (cElems r * tyBits (cDstT r) / 8 ≠ cLen r) || decide (tyBits (cSrcT r) ≠ tyBits (cDstT r))
    || decide ((creg r 0).toNat % 8 ≠ 0) || cMx r

/-- The rules of an encode (R248, R448): its elements have 1, 2, 4 or 8 bytes, where an E2M1 has half a byte. -/
def cEncodeBad (r : SMap W64) : Bool :=
  stepsBad (List.range 6) (cDStep r) zeroStep || decide ((creg r 1).toNat % 8 ≠ 0) || decide (cDstT r = 5)

/-- The rules of MXFP4 (R448). -/
def cMxBad (r : SMap W64) : Bool :=
  decide (cRun r % 32 ≠ 0) || decide (cEStep r ≠ 0) || stepsBad (List.range 6) (cSStep r) (fun x => decide (x % 16 = 0))
    || stepsBad (List.range 6) (cDStep r) (fun x => decide (x % 16 = 0))

/-- The rules of a stream destination (R446, R449). -/
def cStreamBad (r : SMap W64) : Bool :=
  decide (creg r 1 ≠ 0) || stepsBad (List.range 6) (cDStep r) zeroStep || (decide (cStrm r = 7) && decide (cCmp r ≠ 2))

/-- The rules of a ring (R449). -/
def cRingBad (r : SMap W64) (h : HEntry) (f : Nat → Int) : Bool :=
  decide (h.kind = 2#2) && (decide (h.rows < cRows r) || stepsBad (upto 1 5) f zeroStep)

/-- A breach of R241, R242, R248, R448 or R449. -/
def cConfigBad (r : SMap W64) (src dst : HEntry) : Bool :=
  decide ((creg r 7).toNat % 32 ≠ 0) || (decide (cMode r = 0) && (decide (cSrcT r ≠ cDstT r) || (creg r 3).getLsbD 30))
    || ((creg r 3).getLsbD 30 && !scaleValid (fld (creg r 5) 0 32)) || (decide (cCmp r = 2) && cDecodeBad r)
    || (decide (cCmp r = 1) && cEncodeBad r) || (cMx r && cMxBad r) || (decide (cDSpace r = 3) && cStreamBad r)
    || (decide (cSSpace r = 1) && cRingBad r src (cSStep r)) || (decide (cDSpace r = 1) && cRingBad r dst (cDStep r))

/-- Where bytes of one scratchpad lie: package, tile, address. -/
def padBytes (a : W64) (n : Nat) : List (Nat × Nat × Nat) :=
  if gaTile a then (upto (gaOff a) n).map (fun b => (gaPeer a, gaTileNo a, b)) else []

/-- Bytes of a block handle's region at base. -/
def handleBytes (t base : Nat) (a : W64) (n : Nat) : List (Nat × Nat × Nat) := (upto (base + a.toNat) n).map (fun b => (0, t, b))

/-- Scratchpad bytes a command reads. -/
def cReadBytes (t : Nat) (r : SMap W64) (h : HEntry) : List (Nat × Nat × Nat) :=
  (cReads r).flatMap (fun e =>
    if cSSpace r = 1 ∧ e.1 < 2 ^ 40 then (if h.kind = 1#2 then handleBytes t h.front e.2.1 e.2.2 else []) else padBytes e.2.1 e.2.2)

/-- Bytes of an encoded stream from where a command stands, as its source now reads; the masks' worth of what cannot be read yet (R252; log entry 44). -/
def State.encodeLen (s : State) (t : Nat) : Nat → CopyCmd → Nat
  | 0, _ => 0
  | f + 1, k =>
    let left := cElems k.regs - k.prog.pos
    if left = 0 then 0
    else
      match s.copyUnit t k with
      | .error _ => 8 * ((left + 63) / 64)
      | .ok u => u.out.length + State.encodeLen s t f (k.passed u)

/-- The element bytes that a command writes, by address and size (R252). -/
def State.copyWrites (s : State) (t : Nat) (k : CopyCmd) : List (W64 × Nat) :=
  if cCmp k.regs = 1 then [(creg k.regs 1, s.encodeLen t ((cElems k.regs + 63) / 64 + 1) k)] else cElemWrites k.regs

/-- Scratchpad bytes a command writes with these element bytes. -/
def cWriteBytes (t : Nat) (r : SMap W64) (h : HEntry) (l : List (W64 × Nat)) : List (Nat × Nat × Nat) :=
  l.flatMap (fun e =>
    if cDSpace r = 0 then padBytes e.1 e.2
    else if cDSpace r = 1 ∧ h.kind = 1#2 then handleBytes t h.back e.1 e.2 else [])
    ++ (cScaleWrites r).flatMap (fun a => padBytes a 1)

/-- A handle offset at or beyond SIZE (R449). -/
def cHandleRange (r : SMap W64) (src dst : HEntry) : Bool :=
  (decide (cSSpace r = 1) && (cReads r).any (fun e => decide (e.1 < 2 ^ 40) && decide (src.size < e.2.1.toNat + e.2.2)))
    || (decide (cDSpace r = 1) && (cElemWrites r).any (fun e => decide (dst.size < e.1.toNat + e.2)))

/-- The first check of R450 that fails. -/
def State.copyCause (s : State) (t c scope : Nat) (r : SMap W64) (si di : Nat) : Option Cause :=
  let k := sqgoCmd (s.tile t) t c r scope 0 0 0 si di
  let x := s.tile t
  let src := x.inst si
  let dst := x.inst di
  let ga := (cGlobalReads r).map (fun e => e.2.1) ++ cGlobalWrites r
  let wr := cWriteBytes t r dst (s.copyWrites t k)
  if cReserved r then some 0x06#7
  else if cConfigBad r src dst then some 0x37#7
  else if cDSpace r = 3 ∧ cStrm r < 6 ∧ ((x.ctx c).stream (cStrm r)).kind ≠ 1#2 then some 0x38#7
  else if ga.any (fun a => !gaFormOk a) then some 0x2C#7
  else if scope < maxOf (ga.map (gaScope t)) then some 0x2D#7
  else if ga.any (fun a => gaTile a && decide (gaPeer a ≠ 0) && !(s.port (gaPeer a - 1)).up) then some 0x3A#7
  else if (cSSpace r = 1 ∧ src.kind = 0#2) ∨ (cDSpace r = 1 ∧ dst.kind = 0#2) then some 0x27#7
  else if cHandleRange r src dst then some 0x29#7
  else if cDSpace r = 2 ∧ (cElemWrites r).any (fun e => decide (Config.inkwellSize < e.1.toNat + e.2)) = true then some 0x42#7
  else if (cReadBytes t r src).any (fun b => decide (b ∈ wr)) then some 0x3D#7
  else none

/-- A copy ends: its slot is free, and the task that waited for its output goes on (R246, R346, R451). -/
def State.copyEnd (s : State) (t slot : Nat) (k : CopyCmd) (chunks : Nat) (cause : Option Cause) : State :=
  ((s.modTile t (fun x => { x with copies := x.copies.filter (fun e => decide (e.1 ≠ slot)) })).copyOver t k chunks cause).taskEnd t k.ctx

/-- The SQSETs and task starts at the head of a copy queue execute (R445, R447). -/
def Ctx.flushCq (y : Ctx) : Ctx :=
  let n := (y.cq.takeWhile (fun m => match m with | .clear => true | .sqset _ _ => true | _ => false)).length
  { y with staging := stageAfter y.staging (y.cq.take n), cq := y.cq.drop n }

/-- The SQSETs and task starts at the head of context c's copy queue execute; CSEQ counts the SQSETs (R282, R447). -/
def State.flushCq (s : State) (t c : Nat) : State :=
  let l := (s.ctx t c).cq.takeWhile (fun m => match m with | .clear => true | .sqset _ _ => true | _ => false)
  (s.modCtx t c Ctx.flushCq).counted t (l.filter (fun m => match m with | .sqset _ _ => true | _ => false)).length

/-- COPY_ADMISSION: the SQGO at the head of a context's copy queue takes its slot once that holds no command (R450). -/
def State.copyAdmit (s : State) (t c : Nat) : State :=
  let s := s.flushCq t c
  let y := s.ctx t c
  match y.cq with
  | .sqgo slot scope id gid node si di :: rest =>
    if (s.tile t).copies.any (fun e => decide (e.1 = slot)) then s
    else
      let r := y.staging
      let k := sqgoCmd (s.tile t) t c r scope id gid node si di
      (match s.copyCause t c scope r si di with
      | some e => if (s.tile t).lingers id then s else (s.modCtx t c (fun y => { y with cq := rest })).copyEnd t slot k 0 (some e)
      | none =>
        (s.modTile t (fun x => { x with copies := mput x.copies slot k })).modCtx t c (fun y => { y with cq := .admitted slot :: rest }))
  | _ => s

/-- COPY_ADMISSION (R450). -/
def execCopyAdmission (t c : Nat) (s : State) : Result := .next (s.copyAdmit t c)

/-! ## Acceptance (R140, R141, R432, R450, R454) -/

/-- Slot n of a tile's copies. -/
def Tile.copy (x : Tile) (n : Nat) : Option CopyCmd := mfind x.copies n
/-- The tile with a copy slot replaced. -/
def Tile.setCopy (x : Tile) (n : Nat) (k : CopyCmd) : Tile := { x with copies := mput x.copies n k }

/-- LEN of a send or receive block (R460). -/
def fLen (b : BitVec 256) : Nat := fld b 128 21

/-- Accepted, unpopped output bound to a stream, in bytes: its elements, and what its copies and its posted receives have still to bring (R137). -/
def Tile.streamOut (x : Tile) (c q : Nat) : Nat :=
  let st := (x.ctx c).stream q
  (st.elems ++ st.backlog).foldl (fun a e => a + e.width / 8) 0
    + x.copies.foldl (fun a k =>
        if k.2.ctx = c ∧ cDSpace k.2.regs = 3 ∧ cStrm k.2.regs = q ∧ k.2.st ≠ 0 then a + (cD k.2.regs - k.2.sent) else a) 0
    + x.posted.foldl (fun a r =>
        if r.ctx = c ∧ r.stream = some q then a + ((match r.met with | some m => m.len | none => fLen r.block) - r.fed) else a) 0

/-- The handles and the stream admit an admitted copy (R137, R140, R141). -/
def Tile.copyReady (x : Tile) (k : CopyCmd) : Bool :=
  let r := k.regs
  let n := fun (h : HEntry) => if h.kind = 2#2 then cRows r else 1
  (decide (cSSpace r ≠ 1) || (x.inst k.srcInst).canRead (n (x.inst k.srcInst)))
    && (decide (cDSpace r ≠ 1) || (x.inst k.dstInst).canWrite k.seq (n (x.inst k.dstInst)))
    && (decide (cDSpace r ≠ 3) || decide (x.streamOut k.ctx (cStrm r) ≤ 0x40000))

/-- An admitted copy is accepted: it starts on its handles and reserves its rows. -/
def Tile.copyStart (x : Tile) (slot acc : Nat) (k : CopyCmd) : Tile :=
  let r := k.regs
  let n := cRows r
  let x := if cSSpace r = 1 then x.modInst k.srcInst (fun h => h.startRead k.seq n) else x
  let x := if cDSpace r = 1 then x.modInst k.dstInst (fun h => h.startWrite k.seq n) else x
  x.setCopy slot { k with st := 1, acc := acc }

/-- A matrix command issued before and naming the bank has not completed (R432). -/
def Tile.bankBusy (x : Tile) (bank id : Nat) : Bool :=
  (x.mq ++ (match x.nib with | some n => [n.cmd] | none => []) ++ (match x.beat with | some b => [b.cmd] | none => [])).any
    (fun m => decide (m.op.bank = some bank) && decide (m.seq < id))

/-- One accumulator word as ACCPY writes it (R454). -/
def accOut (ty w : Nat) : Nat :=
  if ty = 6 then (clampInt 6 (signed 32 w)).1
  else
    match (if ty = 1 then some bf16 else if ty = 2 then some f16 else if ty = 3 then some e4m3 else if ty = 4 then some e5m2 else none) with
    | some f => (f.deliver .rne true (f32.val w)).1
    | none => w

/-- Word u of 16 bytes of an ACCPY moves, the row of its bytes beginning at scratchpad address a; the last word of a row loaded sets its mark RV and
clears the others (R454, R466). -/
def Tile.accpyWord (x : Tile) (bank : Nat) (cmd : W64) (a u : Nat) : Tile :=
  let z := accSize (fld cmd 39 4)
  let row := fld cmd 2 6 + u / (2 * z)
  let w := u % (2 * z)
  let js := upto (16 / z * w) (16 / z)
  if fld cmd 0 1 = 0 then
    x.padWrite (a + 16 * w) (js.flatMap (fun j => toBytes z (accOut (fld cmd 39 4) (mget 0#32 x.acc (accKey bank row j)).toNat)))
  else
    let acc := js.foldl (fun m j => mset 0#32 m (accKey bank row j) (BitVec.ofNat 32 (x.padNat (a + 4 * j) 4))) x.acc
    if w + 1 = 2 * z then { x with acc := acc, rowst := mset 0#4 x.rowst (64 * bank + row) 8#4 } else { x with acc := acc }

/-- The ACCPY at the head of a copy queue is accepted once R432 and its handle admit it, moves its words one by one, counts each row of a ring in a step
after it, and completes; a handle that is gone or too small ends it in the error phase (R454, R470). -/
def State.accpyStep (s : State) (t c bank : Nat) (cmd : W64) (inst id gid node : Nat) (run : Option Nat) : State :=
  let x := s.tile t
  let h := x.inst inst
  let n := fld cmd 8 6 + 1
  let z := accSize (fld cmd 39 4)
  let wr := decide (fld cmd 0 1 = 0)
  let done := fun (s : State) (e : Option Cause) =>
    (s.modCtx t c (fun y => { y with cq := y.cq.drop 1 })).engineDone t id (fld cmd 19 20) (accBytes cmd) e
  let put := fun (x : Tile) (u : Nat) => (s.setTile t x).modCtx t c (fun y => { y with cq := .accpy bank cmd inst id gid node (some u) :: y.cq.drop 1 })
  let ring := decide (h.kind = 2#2)
  match run with
  | none =>
    if x.bankBusy bank id then s
    else if h.kind = 0#2 then done s (some 0x27#7)
    else if h.size < (if ring then 32 * z else fld cmd 44 20 + n * (32 * z)) then done s (some 0x29#7)
    else if !(if wr then h.canWrite id (if ring then n else 1) else h.canRead (if ring then n else 1)) then s
    else put (x.modInst inst (fun h => if wr then h.startWrite id n else h.startRead id n)) 0
  | some u =>
    let count := fun (h : HEntry) => if ring && decide (0 < u ∧ u % (2 * z) = 0) then (if wr then h.wroteRow id else h.readRow id) else h
    let x := x.modInst inst count
    let h := x.inst inst
    if n * (2 * z) ≤ u then (if x.lingers id then s.setTile t x else done (s.setTile t x) none)
    else
      let a := if ring then (if wr then h.wbase id else h.rbase id) else (if wr then h.back else h.front) + fld cmd 44 20 + u / (2 * z) * (32 * z)
      put (x.accpyWord bank cmd a u) (u + 1)

/-- A copy that its twin has performed ends as that one did (R279). -/
def State.copyAfter (s : State) (t slot : Nat) (k : CopyCmd) (o : Over) : State :=
  ((s.modTile t (fun x => { x with copies := x.copies.filter (fun e => decide (e.1 ≠ slot)) })).engineDone t k.seq (cBw k.regs) (cD k.regs) o.err).taskEnd t
    k.ctx

/-- COPY_ACCEPT: the admitted copy at the head of a context's copy queue starts to run, or its ACCPY takes its next step; one that runs goes on while its
tile is cut (R104, R450, R454). -/
def State.copyAccept (s : State) (t c : Nat) : State :=
  match (s.ctx t c).cq with
  | .accpy bank cmd inst id gid node (some u) :: _ => s.accpyStep t c bank cmd inst id gid node (some u)
  | _ =>
    if (s.tile t).cutting then s else
    let s := s.flushCq t c
    match (s.ctx t c).cq with
    | .admitted slot :: rest =>
      (match (s.tile t).copy slot with
      | none => s
      | some k =>
        if (s.tile t).copyReady k then (s.stamp.2.modTile t (fun x => x.copyStart slot s.stamp.1 k)).modCtx t c (fun y => { y with cq := rest }) else s)
    | .accpy bank cmd inst id gid node run :: _ => s.accpyStep t c bank cmd inst id gid node run
    | _ => s

/-- COPY_ACCEPT (R450). -/
def execCopyAccept (t c : Nat) (s : State) : Result := .next (s.copyAccept t c)

/-! ## Completion and park -/

/-- A message of a command has not been answered. -/
def State.outstanding (s : State) (src seq : Nat) : Bool :=
  let mine := fun (m : BitVec 4 × FabMsg) => decide (m.2.src.toNat % 65536 = src ∧ m.2.tag.toNat = seq)
  s.ports.any (fun e => e.2.out.any mine || e.2.blocks.any mine)

/-- The rows of a command's rings that it has completed are counted: of the destination those written, of the source those it will not read again
(R141). -/
def Tile.countRows (x : Tile) (k : CopyCmd) : Tile × CopyCmd :=
  let n := cCnt k.regs 0 * cRun k.regs
  let w := if cCmp k.regs = 1 then 0 else k.sent / max 1 (typeBytes (cDstT k.regs) n)
  let r := if cCmp k.regs = 2 then 0 else k.mark.pos / n
  let step := fun (m : Nat) (f : HEntry → HEntry) (h : HEntry) => if h.kind = 2#2 then (List.range m).foldl (fun h _ => f h) h else h
  let x := if cSSpace k.regs = 1 then x.modInst k.srcInst (step (r - k.srows) (fun h => h.readRow k.seq)) else x
  let x := if cDSpace k.regs = 1 then x.modInst k.dstInst (step (w - k.rows) (fun h => h.wroteRow k.seq)) else x
  (x, { k with rows := max w k.rows, srows := max r k.srows })

/-- The rows that the command in a slot completed in earlier steps are counted (R141, R470). -/
def State.countCopy (s : State) (t slot : Nat) (k : CopyCmd) : State × CopyCmd :=
  let w := (s.tile t).countRows k
  (s.setTile t (w.1.setCopy slot w.2), w.2)

/-- The command in a slot stands where a step has left it. -/
def State.putCopy (s : State) (t slot : Nat) (k : CopyCmd) : State := s.modTile t (fun x => x.setCopy slot k)

/-- Ask another package for what the command reads there, one access for the reads that it serves (R35, R466). -/
def State.askReads (s : State) (t : Nat) (k : CopyCmd) : State :=
  (cGlobalReads k.regs).foldl (fun (s : State) (e : Nat × W64 × Nat) =>
    let f := cFetch k.regs e.1
    if gaTile e.2.1 && decide (gaPeer e.2.1 ≠ 0) && decide (f.1 = e.2.1) && !(s.port (gaPeer e.2.1 - 1)).failed then
      s.sendFrom t (gaPeer e.2.1 - 1) 0x1#4
        { tenant := k.tenant, dst := e.2.1, src := BitVec.ofNat 64 (2 * t + k.ctx + 2 ^ 16 * e.1), tag := BitVec.ofNat 64 k.seq,
          arg := BitVec.ofNat 64 f.2, data := [], cand := none }
    else s) s

/-- The command reads another package. -/
def CopyCmd.remoteReads (k : CopyCmd) : Bool := (cGlobalReads k.regs).any (fun e => gaTile e.2.1 && decide (gaPeer e.2.1 ≠ 0))

/-- An earlier accepted command feeds the same stream and has not completed (R452). -/
def Tile.behindStream (x : Tile) (k : CopyCmd) : Bool :=
  decide (cDSpace k.regs = 3) && x.copies.any (fun e =>
    decide (e.2.ctx = k.ctx ∧ cDSpace e.2.regs = 3 ∧ cStrm e.2.regs = cStrm k.regs ∧ e.2.st ≠ 0 ∧ e.2.acc < k.acc))

/-- A command whose bytes have all been emitted, or that failed: its rows are counted, and in that step or in a later one, which is a free choice, it ends
(R451, R470), once its messages are answered, a walk is free for its status, and the copy that proceeds for it has ended (R149, R279). -/
def State.copyFinish (s : State) (t slot : Nat) (k : CopyCmd) : State :=
  let w := s.countCopy t slot k
  let k := w.2
  let n := w.1.choose 2
  if n.1 ≠ 0 ∨ s.outstanding (2 * t + k.ctx) k.seq = true ∨ (s.tile t).lingers k.seq = true ∨ s.statusWaits t k = true then n.2
  else
    match k.fail with
    | some c => n.2.copyEnd t slot k (k.sent / 4096) (some (if k.wrote then 0x3E#7 else c))
    | none => n.2.copyEnd t slot k ((k.sent + 4095) / 4096) (k.prog.err.map Prod.snd)

/-- A running copy that may take its next units (R452). -/
def State.copyGoes (s : State) (t : Nat) (k : CopyCmd) : Bool :=
  decide (k.st = 1) && k.fail.isNone && !(s.tile t).behindStream k && !(k.remoteReads && !k.asked) && !(s.tile t).stands k

/-- A run fails, with this cause. -/
def CRun.cause (r : CRun) : Option Cause := match r.halt with | some (.fail c) => some c | _ => none

/-- The command after a run: it fails, or it has emitted its last byte, and then only its end is left; or it goes on. -/
def CRun.left (r : CRun) : CopyCmd := if r.cause.isSome || r.over then { r.k with st := 3, fail := r.cause } else r.k

/-- COPY_COMPLETE: the copy in a slot runs on by some units, how many being arbitrary, since the bytes of different commands have no order among
themselves (R180, R452); one that has run ends in a later step (R470), and one that meets a page fault waits for COPY_PARK (R451). Of a pair, one copy
writes a global destination (R279). -/
def State.copyComplete (s : State) (t slot : Nat) : State :=
  match (s.tile t).copy slot with
  | none => s
  | some k =>
    if (s.tile t).stands k && decide (k.st = 1) then (match (s.tile t).outcome k.seq with | some o => s.copyAfter t slot k o | none => s)
    else if k.st = 3 ∨ (k.st = 1 ∧ k.fail.isSome = true) then s.copyFinish t slot { k with st := 3 }
    else if k.st = 1 ∧ (s.tile t).behindStream k = false ∧ (k.remoteReads && !k.asked) = true then
      (s.askReads t k).modTile t (fun x => x.setCopy slot { k with asked := true })
    else if !s.copyGoes t k then s
    else
      let w := s.countCopy t slot k
      let n := w.1.choose (cElems k.regs + 1)
      let r := n.2.copyRun t w.2 (n.1 + 1)
      (r.s.metIn n.2 (fun s => (s.copyRun t w.2 (n.1 + 1)).cause)).putCopy t slot r.left

/-- COPY_COMPLETE (R451). -/
def execCopyComplete (t slot : Nat) (s : State) : Result := .next (s.copyComplete t slot)

/-- COPY_PARK: the running copy meets DATA_PAGE or DATA_ACCESS in its next unit: it keeps its chunks and counts, and its context stops (R252,
R264). -/
def State.copyPark (s : State) (t slot : Nat) : State :=
  match (s.tile t).copy slot with
  | none => s
  | some k =>
    if !s.copyGoes t k then s
    else
      let w := s.countCopy t slot k
      let r := w.1.copyRun t w.2 1
      match r.halt with
      | some (.page c va) => (r.s.putCopy t slot r.k.park).stopEngine t k.ctx c 1 va
      | _ => s

/-- COPY_PARK (R252). -/
def execCopyPark (t slot : Nat) (s : State) : Result := .next (s.copyPark t slot)

end Sys2Proof.Machine
end

