-- ==== Sys2Proof/Machine/Scalar.lean ====
section
/-! DEFINITION. The scalar slots (R351-R359). -/

namespace Sys2Proof.Machine

/-! ## Shapes -/

/-- A guarded operation that writes 64 bits to a g register at a latency (R338). -/
def scalarOp (p : BitVec 4) (d : BitVec 6) (lat : Nat) (v : Thread → W64) (s : State) : Result :=
  issue s ((s.thread s.cur.u).guard p) .ok (fun s => s.result64 s.cur.u (.g d.toNat) (v (s.thread s.cur.u)) lat)

/-- A guarded operation of latency 4 that raises flags: a masked flag faults instead (R112, R356). -/
def scalarFloat (p : BitVec 4) (d : BitVec 6) (v : Thread → Nat × Flags) (s : State) : Result :=
  issue s ((s.thread s.cur.u).guard p) (flagTrap (s.thread s.cur.u) (v (s.thread s.cur.u)).2)
    (fun s => let r := v (s.thread s.cur.u)
      s.result s.cur.u (.g d.toNat) (BitVec.ofNat 1024 r.1) (BitVec.allOnes 1024) 4 r.2.toBits)

/-- A guarded write of a whole predicate at latency 1 (R353, R358). -/
def predOp (p pd : BitVec 4) (v : Thread → PReg) (s : State) : Result :=
  issue s ((s.thread s.cur.u).guard p) .ok
    (fun s => s.result s.cur.u (.p pd.toNat) ((v (s.thread s.cur.u)).setWidth 1024) (BitVec.allOnes 1024) 1 0)

/-- A compare: all 128 bits hold the outcome (R353). -/
def compareOp (p pd : BitVec 4) (a b : BitVec 6) (c : W64 → W64 → Bool) (s : State) : Result :=
  predOp p pd (fun x => if c (x.rg a.toNat) (x.rg b.toNat) then BitVec.allOnes 128 else 0) s

/-- The low 32 bits of a g register as FP32. -/
def Thread.fg (x : Thread) (n : BitVec 6) : Nat := fld (x.rg n.toNat) 0 32

/-- Signed division's two special cases (R352): a zero divisor, and the minimum by -1. -/
def divCheck (x : Thread) (sgn : Bool) (a b : BitVec 6) : Verdict :=
  if !x.tdz then .ok
  else if x.rg b.toNat = 0 then .fault 0x16#7 0
  else if sgn && decide (x.rg a.toNat = 0x8000000000000000#64) && decide (x.rg b.toNat = BitVec.allOnes 64) then .fault 0x17#7 0
  else .ok

/-- A division of latency 20 (R352). -/
def divOp (p : BitVec 4) (d a b : BitVec 6) (sgn : Bool) (v : W64 → W64 → W64) (s : State) : Result :=
  issue s ((s.thread s.cur.u).guard p) (divCheck (s.thread s.cur.u) sgn a b)
    (fun s => let x := s.thread s.cur.u
      s.result64 s.cur.u (.g d.toNat) (v (x.rg a.toNat) (x.rg b.toNat)) 20)

/-- Float relations on FP32 patterns, NaN unordered (R353). -/
def f32Rel (r : FV → FV → Bool) (a b : W64) : Bool := r (f32.val (fld a 0 32)) (f32.val (fld b 0 32))

/-- The head of stream q of the unit in hand. -/
def State.head (s : State) (q : Nat) : Option Elem :=
  match s.cur.u with
  | .ctx t c => ((s.ctx t c).stream q).elems.head?
  | .core _ => none

/-- A reader of stream q that acts: waits for an element, and faults on a poison mark (R135, R364). -/
def streamCheck (s : State) (q : Nat) : Verdict :=
  match s.head q with
  | none => .held (.stream q)
  | some e => match e.poison with
    | some (c, a) => .mark q c a
    | none => .ok

/-- Stream q pops when the bundle commits (R135). -/
def State.popAtEnd (s : State) (q : Nat) : State := { s with cur := { s.cur with pops := s.cur.pops ++ [q] } }

/-- The value a reader of w bits takes from stream q. -/
def State.headValue (s : State) (q w : Nat) : Nat := match s.head q with | some e => e.read w | none => 0

/-! ## Integer arithmetic (R351, R352) -/

/-- ADD: ga + gb (R351). -/
def execAdd (p : BitVec 4) (d a b : BitVec 6) (s : State) : Result := scalarOp p d 1 (fun x => x.rg a.toNat + x.rg b.toNat) s

/-- ADDI: ga plus the signed immediate (R351). -/
def execAddi (p : BitVec 4) (d a : BitVec 6) (imm : BitVec 8) (s : State) : Result := scalarOp p d 1 (fun x => x.rg a.toNat + imm.signExtend 64) s

/-- SUB: ga - gb (R351). -/
def execSub (p : BitVec 4) (d a b : BitVec 6) (s : State) : Result := scalarOp p d 1 (fun x => x.rg a.toNat - x.rg b.toNat) s

/-- MUL: low half of the product (R351). -/
def execMul (p : BitVec 4) (d a b : BitVec 6) (s : State) : Result := scalarOp p d 3 (fun x => x.rg a.toNat * x.rg b.toNat) s

/-- MULH: high half of the signed product (R351). -/
def execMulh (p : BitVec 4) (d a b : BitVec 6) (s : State) : Result := scalarOp p d 3 (fun x => BitVec.ofInt 64 ((x.rg a.toNat).toInt * (x.rg b.toNat).toInt / (2 ^ 64 : Int))) s

/-- MULHU: high half of the unsigned product (R351). -/
def execMulhu (p : BitVec 4) (d a b : BitVec 6) (s : State) : Result := scalarOp p d 3 (fun x => BitVec.ofNat 64 ((x.rg a.toNat).toNat * (x.rg b.toNat).toNat / 2 ^ 64)) s

/-- DIV: signed quotient, truncated (R352). -/
def execDiv (p : BitVec 4) (d a b : BitVec 6) (s : State) : Result := divOp p d a b true (fun m n => if n = 0 then BitVec.allOnes 64 else m.sdiv n) s

/-- DIVU: unsigned quotient (R352). -/
def execDivu (p : BitVec 4) (d a b : BitVec 6) (s : State) : Result := divOp p d a b false (fun m n => if n = 0 then BitVec.allOnes 64 else m / n) s

/-- REM: signed remainder with the sign of ga (R352). -/
def execRem (p : BitVec 4) (d a b : BitVec 6) (s : State) : Result := divOp p d a b true (fun m n => if n = 0 then m else m.srem n) s

/-- REMU: unsigned remainder (R352). -/
def execRemu (p : BitVec 4) (d a b : BitVec 6) (s : State) : Result := divOp p d a b false (fun m n => if n = 0 then m else m % n) s

/-- AND (R351). -/
def execAnd (p : BitVec 4) (d a b : BitVec 6) (s : State) : Result := scalarOp p d 1 (fun x => x.rg a.toNat &&& x.rg b.toNat) s

/-- OR (R351). -/
def execOr (p : BitVec 4) (d a b : BitVec 6) (s : State) : Result := scalarOp p d 1 (fun x => x.rg a.toNat ||| x.rg b.toNat) s

/-- XOR (R351). -/
def execXor (p : BitVec 4) (d a b : BitVec 6) (s : State) : Result := scalarOp p d 1 (fun x => x.rg a.toNat ^^^ x.rg b.toNat) s

/-- ANDN: ga AND NOT gb (R351). -/
def execAndn (p : BitVec 4) (d a b : BitVec 6) (s : State) : Result := scalarOp p d 1 (fun x => x.rg a.toNat &&& ~~~(x.rg b.toNat)) s

/-- SHL by gb[5:0] (R351). -/
def execShl (p : BitVec 4) (d a b : BitVec 6) (s : State) : Result := scalarOp p d 1 (fun x => x.rg a.toNat <<< fld (x.rg b.toNat) 0 6) s

/-- SHR by gb[5:0] (R351). -/
def execShr (p : BitVec 4) (d a b : BitVec 6) (s : State) : Result := scalarOp p d 1 (fun x => x.rg a.toNat >>> fld (x.rg b.toNat) 0 6) s

/-- SAR by gb[5:0] (R351). -/
def execSar (p : BitVec 4) (d a b : BitVec 6) (s : State) : Result := scalarOp p d 1 (fun x => (x.rg a.toNat).sshiftRight (fld (x.rg b.toNat) 0 6)) s

/-- ROTR by gb[5:0] (R351). -/
def execRotr (p : BitVec 4) (d a b : BitVec 6) (s : State) : Result := scalarOp p d 1 (fun x => (x.rg a.toNat).rotateRight (fld (x.rg b.toNat) 0 6)) s

/-- SHL by an immediate count (R351). -/
def execShlImm (p : BitVec 4) (d a n : BitVec 6) (s : State) : Result := scalarOp p d 1 (fun x => x.rg a.toNat <<< n.toNat) s

/-- SHR by an immediate count (R351). -/
def execShrImm (p : BitVec 4) (d a n : BitVec 6) (s : State) : Result := scalarOp p d 1 (fun x => x.rg a.toNat >>> n.toNat) s

/-- SAR by an immediate count (R351). -/
def execSarImm (p : BitVec 4) (d a n : BitVec 6) (s : State) : Result := scalarOp p d 1 (fun x => (x.rg a.toNat).sshiftRight n.toNat) s

/-- ROTR by an immediate count (R351). -/
def execRotrImm (p : BitVec 4) (d a n : BitVec 6) (s : State) : Result := scalarOp p d 1 (fun x => (x.rg a.toNat).rotateRight n.toNat) s

/-- CLZ: leading zeros, 64 of 0 (R351). -/
def execClz (p : BitVec 4) (d a : BitVec 6) (s : State) : Result := scalarOp p d 1 (fun x => BitVec.ofNat 64 (clz 64 (x.rg a.toNat).toNat)) s

/-- CTZ: trailing zeros, 64 of 0 (R351). -/
def execCtz (p : BitVec 4) (d a : BitVec 6) (s : State) : Result := scalarOp p d 1 (fun x => BitVec.ofNat 64 (ctz 64 (x.rg a.toNat).toNat)) s

/-- POPC: ones (R351). -/
def execPopc (p : BitVec 4) (d a : BitVec 6) (s : State) : Result := scalarOp p d 1 (fun x => BitVec.ofNat 64 (popc 64 (x.rg a.toNat).toNat)) s

/-- MIN, signed (R351). -/
def execMin (p : BitVec 4) (d a b : BitVec 6) (s : State) : Result := scalarOp p d 1 (fun x => if (x.rg a.toNat).slt (x.rg b.toNat) then x.rg a.toNat else x.rg b.toNat) s

/-- MAX, signed (R351). -/
def execMax (p : BitVec 4) (d a b : BitVec 6) (s : State) : Result := scalarOp p d 1 (fun x => if (x.rg a.toNat).slt (x.rg b.toNat) then x.rg b.toNat else x.rg a.toNat) s

/-- MINU, unsigned (R351). -/
def execMinu (p : BitVec 4) (d a b : BitVec 6) (s : State) : Result := scalarOp p d 1 (fun x => if (x.rg a.toNat).ult (x.rg b.toNat) then x.rg a.toNat else x.rg b.toNat) s

/-- MAXU, unsigned (R351). -/
def execMaxu (p : BitVec 4) (d a b : BitVec 6) (s : State) : Result := scalarOp p d 1 (fun x => if (x.rg a.toNat).ult (x.rg b.toNat) then x.rg b.toNat else x.rg a.toNat) s

/-! ## Selects and moves (R354, R355) -/

/-- SEL: ga when the PRED condition holds, else gb; PRED never guards (R354). -/
def execSel (p : BitVec 4) (d a b : BitVec 6) (s : State) : Result := issue s true .ok (fun s =>
  let x := s.thread s.cur.u
  s.result64 s.cur.u (.g d.toNat) (if x.guard p then x.rg a.toNat else x.rg b.toNat) 1)

/-- MOV gd, ga (R354). -/
def execMov (p : BitVec 4) (d a : BitVec 6) (s : State) : Result := scalarOp p d 1 (fun x => x.rg a.toNat) s

/-- MOV gd, aN (R354). -/
def execMovFromA (p : BitVec 4) (d : BitVec 6) (an : BitVec 4) (s : State) : Result := scalarOp p d 1 (fun x => x.ra an.toNat) s

/-- MOV aN, ga (R354). -/
def execMovToA (p : BitVec 4) (an : BitVec 4) (a : BitVec 6) (s : State) : Result := issue s ((s.thread s.cur.u).guard p) .ok
  (fun s => s.result64 s.cur.u (.a an.toNat) ((s.thread s.cur.u).rg a.toNat) 1)

/-- MOV gd, qN: the head of the stream, popped when the bundle commits (R354). -/
def execMovFromQ (p : BitVec 4) (d : BitVec 6) (q : BitVec 3) (s : State) : Result := issue s ((s.thread s.cur.u).guard p) (streamCheck s q.toNat)
  (fun s => (s.result64 s.cur.u (.g d.toNat) (BitVec.ofNat 64 (s.headValue q.toNat 64)) 1).popAtEnd q.toNat)

/-- LIW: 48 bits sign-extended, zero-extended or shifted left by 16; never guarded (R355). -/
def execLiw (ext : BitVec 2) (d : BitVec 6) (imm : BitVec 48) (s : State) : Result := issue s true .ok (fun s =>
  s.result64 s.cur.u (.g d.toNat)
    (if ext = 0#2 then imm.signExtend 64 else if ext = 1#2 then imm.setWidth 64 else imm.setWidth 64 <<< 16) 1)

/-! ## Compares (R353) -/

/-- CMP.eq (R353). -/
def execCmpEq (p pd : BitVec 4) (a b : BitVec 6) (s : State) : Result := compareOp p pd a b (fun m n => decide (m = n)) s

/-- CMP.ne (R353). -/
def execCmpNe (p pd : BitVec 4) (a b : BitVec 6) (s : State) : Result := compareOp p pd a b (fun m n => decide (m ≠ n)) s

/-- CMP.lt, signed (R353). -/
def execCmpLt (p pd : BitVec 4) (a b : BitVec 6) (s : State) : Result := compareOp p pd a b (fun m n => m.slt n) s

/-- CMP.ge, signed (R353). -/
def execCmpGe (p pd : BitVec 4) (a b : BitVec 6) (s : State) : Result := compareOp p pd a b (fun m n => !m.slt n) s

/-- CMP.ltu (R353). -/
def execCmpLtu (p pd : BitVec 4) (a b : BitVec 6) (s : State) : Result := compareOp p pd a b (fun m n => m.ult n) s

/-- CMP.geu (R353). -/
def execCmpGeu (p pd : BitVec 4) (a b : BitVec 6) (s : State) : Result := compareOp p pd a b (fun m n => !m.ult n) s

/-- CMP.feq: false of a NaN (R353). -/
def execCmpFeq (p pd : BitVec 4) (a b : BitVec 6) (s : State) : Result := compareOp p pd a b (f32Rel FV.eq) s

/-- CMP.flt: false of a NaN (R353). -/
def execCmpFlt (p pd : BitVec 4) (a b : BitVec 6) (s : State) : Result := compareOp p pd a b (f32Rel FV.lt) s

/-- CMP.fle: false of a NaN (R353). -/
def execCmpFle (p pd : BitVec 4) (a b : BitVec 6) (s : State) : Result := compareOp p pd a b (f32Rel (fun m n => FV.lt m n || FV.eq m n)) s

/-- CMP.fun: true when an operand is NaN (R353). -/
def execCmpFun (p pd : BitVec 4) (a b : BitVec 6) (s : State) : Result := compareOp p pd a b (f32Rel (fun m n => decide (m = .nan) || decide (n = .nan))) s

/-! ## Floating point (R356, R357) -/

/-- FADD in FP32, rounded once by RM (R356). -/
def execFadd (p : BitVec 4) (d a b : BitVec 6) (s : State) : Result := scalarFloat p d (fun x => fAdd f32 x.rm (x.fg a) (x.fg b)) s

/-- FMUL in FP32, rounded once by RM (R356). -/
def execFmul (p : BitVec 4) (d a b : BitVec 6) (s : State) : Result := scalarFloat p d (fun x => fMul f32 x.rm (x.fg a) (x.fg b)) s

/-- FMA: ga·gb + gd, exact, rounded once (R356). -/
def execFma (p : BitVec 4) (d a b : BitVec 6) (s : State) : Result := scalarFloat p d (fun x => fFma f32 x.rm false (x.fg a) (x.fg b) (x.fg d)) s

/-- FCVT to .f32 from the low bits of ga (R357). -/
def execFcvtToF32 (p : BitVec 4) (d a : BitVec 6) (ty : BitVec 4) (sat : BitVec 1) (s : State) : Result := scalarFloat p d (fun x =>
  convElem ty.toNat 0 x.rm (sat = 1#1) (fld (x.rg a.toNat) 0 (tyBits ty.toNat))) s

/-- FCVT from .f32: a float pattern zero-extended, a signed integer sign-extended (R357). -/
def execFcvtFromF32 (p : BitVec 4) (d a : BitVec 6) (ty : BitVec 4) (sat : BitVec 1) (s : State) : Result := scalarFloat p d (fun x =>
  let r := convElem 0 ty.toNat x.rm (sat = 1#1) (x.fg a)
  (if tySigned ty.toNat then wrap 64 (signed (tyBits ty.toNat) r.1) else r.1, r.2)) s

/-- MIN.f32 (R165, R356). -/
def execMinF32 (p : BitVec 4) (d a b : BitVec 6) (s : State) : Result := scalarFloat p d (fun x => (fMinMax f32 false (x.fg a) (x.fg b), {})) s

/-- MAX.f32 (R165, R356). -/
def execMaxF32 (p : BitVec 4) (d a b : BitVec 6) (s : State) : Result := scalarFloat p d (fun x => (fMinMax f32 true (x.fg a) (x.fg b), {})) s

/-! ## Predicates and special registers (R358, R359) -/

/-- PAND (R358). -/
def execPand (p d a b : BitVec 4) (s : State) : Result := predOp p d (fun x => x.rp a.toNat &&& x.rp b.toNat) s

/-- POR (R358). -/
def execPor (p d a b : BitVec 4) (s : State) : Result := predOp p d (fun x => x.rp a.toNat ||| x.rp b.toNat) s

/-- PXOR (R358). -/
def execPxor (p d a b : BitVec 4) (s : State) : Result := predOp p d (fun x => x.rp a.toNat ^^^ x.rp b.toNat) s

/-- PNOT (R358). -/
def execPnot (p d a : BitVec 4) (s : State) : Result := predOp p d (fun x => ~~~(x.rp a.toNat)) s

/-- RDSR: a special register, as it stands before the bundle (R110, R359). -/
def execRdsr (p : BitVec 4) (d sr : BitVec 6) (s : State) : Result := issue s ((s.thread s.cur.u).guard p) .ok
  (fun s => s.result64 s.cur.u (.g d.toNat) (s.readSr s.cur.u sr.toNat) 1)

/-- WRSR: lands at latency 1 (R110, R359); a SWZM value with an entry 7 faults (R126). TVEC is even (R269). -/
def execWrsr (p : BitVec 4) (sr a : BitVec 6) (s : State) : Result := issue s ((s.thread s.cur.u).guard p)
  (reservedIf (!unitIsCore s.cur.u && decide (0x0C ≤ sr.toNat ∧ sr.toNat ≤ 0x0F) && !swzmOk ((s.thread s.cur.u).rg a.toNat)))
  (fun s => s.result64 s.cur.u (.sr sr.toNat) ((s.thread s.cur.u).rg a.toNat) 1)

end Sys2Proof.Machine
end

