-- ==== Sys2Proof/Machine/Special.lean ====
section
/-! DEFINITION. The special functions (R174, R175). Each is evaluated in fixed point of 320 fraction bits, which rounds correctly to FP32; the
delivered value lies off that by a free amount within the bound of R174, exact special values excepted (log entry 4). -/

namespace Sys2Proof.Machine

/-- Fraction bits of the evaluation. -/
abbrev fxP : Nat := 320
/-- 1 in fixed point. -/
def fxOne : Int := 2 ^ fxP
/-- ln 2 in fixed point, cut. -/
def fxLn2 : Int := 1480553391661173448385607439722553250922680800745876974795605978609098082859138712941075737848984
/-- π in fixed point, cut. -/
def fxPi : Int := 6710401180212168915155840974220003240804194089427148950727106424351713218671805380099500388914039
/-- Product in fixed point, cut downward. -/
def fxMul (a b : Int) : Int := a * b / fxOne
/-- An exact finite value in fixed point, cut. -/
def fxOf (neg : Bool) (m : Nat) (e : Int) : Int :=
  let k := e + fxP
  let v : Nat := if 0 ≤ k then m * 2 ^ k.toNat else m / 2 ^ (-k).toNat
  if neg then -(v : Int) else (v : Int)

/-- Sum of a series: t is the term, each next one t · x / (k(k + d)) or, with d 0, t · x / k; sgn alternates. -/
def fxSeries (x : Int) (d : Nat) (alt : Bool) : Nat → Nat → Int → Int
  | 0, _, _ => 0
  | n + 1, k, t =>
    let u := fxMul t x / (if d = 0 then (k : Int) else ((k * (k + d) : Nat) : Int))
    t + fxSeries x d alt n (k + (if d = 0 then 1 else 2)) (if alt then -u else u)

/-- e^x for 0 ≤ x < 1. -/
def fxExp (x : Int) : Int := fxSeries x 0 false 70 1 fxOne
/-- sin x for |x| < 2. -/
def fxSin (x : Int) : Int := fxSeries (fxMul x x) 1 true 45 2 x
/-- cos x for |x| < 2. -/
def fxCos (x : Int) : Int := fxSeries (fxMul x x) 1 true 45 1 fxOne

/-- Sum of z^(2k+1)/(2k+1). -/
def fxAtanh (z2 : Int) : Nat → Nat → Int → Int
  | 0, _, _ => 0
  | n + 1, k, t => t / (k : Int) + fxAtanh z2 n (k + 2) (fxMul t z2)

/-- Round a fixed-point value scaled by 2^k to FP32, RNE; never exact. -/
def fxRound (v : Int) (k : Int) : Nat × Flags :=
  if v = 0 then (0, { uf := true, nx := true }) else f32.round .rne false (decide (v < 0)) v.natAbs (k - fxP) true

/-- 2^x, correctly rounded (R174); integers exactly. -/
def refExp2 (x : FV) : Nat × Flags :=
  match x with
  | .nan => (f32.nan, {})
  | .inf true => (0, {})
  | .inf false => (f32.inf, {})
  | .fin s m e =>
    let big := decide (0 < (blen m : Int) + e - 10)
    if m = 0 then (0x3F800000, {})
    else if big then
      (if s then f32.round .rne false false 1 (-1000) true else f32.round .rne false false 1 1000 true)
    else
      let v := fxOf s m e
      let n := v / fxOne
      let f := v % fxOne
      if f = 0 ∧ 0 ≤ e + fxP then f32.deliver .rne false (fvPow2 n)
      else fxRound (fxExp (fxMul f fxLn2)) n

/-- log2 of a positive finite value. -/
def fxLog2 (m : Nat) (e : Int) : Int :=
  let k := blen m - 1
  let c := fxOf false m (-(k : Int))
  let z := (c - fxOne) * fxOne / (c + fxOne)
  (e + k) * fxOne + 2 * fxAtanh (fxMul z z) 110 1 z * fxOne / fxLn2

/-- log2 x, correctly rounded (R174); powers of two exactly. -/
def refLog2 (x : FV) : Nat × Flags :=
  match x with
  | .nan => (f32.nan, {})
  | .inf true => (f32.nan, { nv := true })
  | .inf false => (f32.inf, {})
  | .fin s m e =>
    if m = 0 then (f32.sign true + f32.inf, {})
    else if s then (f32.nan, { nv := true })
    else if m = 2 ^ (blen m - 1) then f32.deliver .rne false (fvOfInt (e + (blen m - 1 : Nat)))
    else fxRound (fxLog2 m e) 0

/-- 1/x, correctly rounded (R174). -/
def refRcp (x : FV) : Nat × Flags :=
  match x with
  | .nan => (f32.nan, {})
  | .inf s => (f32.sign s, {})
  | .fin s m _ => if m = 0 then (f32.sign s + f32.inf, {}) else f32.div .rne (.fin false 1 0) x

/-- 1/√x, correctly rounded (R174). -/
def refRsq (x : FV) : Nat × Flags :=
  match x with
  | .nan => (f32.nan, {})
  | .inf true => (f32.nan, { nv := true })
  | .inf false => (0, {})
  | .fin s m e =>
    if m = 0 then (f32.sign s + f32.inf, {})
    else if s then (f32.nan, { nv := true })
    else
      let m := if e % 2 = 0 then m else 2 * m
      let e := if e % 2 = 0 then e else e - 1
      let r := isqrt (2 ^ 400 / m)
      f32.round .rne false false r (-200 - e / 2) (decide (r * r * m ≠ 2 ^ 400))

/-- √x in a format, correctly rounded by RM (R174). -/
def refSqrt (f : Fmt) (rm : RM) (x : FV) : Nat × Flags :=
  match x with
  | .nan => (f.nan, {})
  | .inf true => (f.nan, { nv := true })
  | .inf false => (f.inf, {})
  | .fin s m e => if m = 0 then (f.sign s, {}) else if s then (f.nan, { nv := true }) else f.sqrtMag rm m e

/-- sin x (isCos: cos x), the argument reduced modulo π/2 (R174, R175). -/
def refTrig (isCos : Bool) (x : FV) : Nat × Flags :=
  match x with
  | .nan => (f32.nan, {})
  | .inf _ => (f32.nan, { nv := true, rng := true })
  | .fin s m e =>
    if m = 0 then (if isCos then 0x3F800000 else f32.sign s, {})
    else if 24 < (blen m : Int) + e then (f32.nan, { rng := true })
    else
      let v := fxOf false m e
      let q := 2 * v / fxPi
      let r := v - q * fxPi / 2
      let k := (q + (if isCos then 1 else 0)) % 4
      let y := if k = 0 then fxSin r else if k = 1 then fxCos r else if k = 2 then -fxSin r else -fxCos r
      fxRound (if s && !isCos then -y else y) 0

/-- tanh x (R174): by its own series near zero, by e^(2x) elsewhere. -/
def refTanh (x : FV) : Nat × Flags :=
  match x with
  | .nan => (f32.nan, {})
  | .inf s => (f32.sign s + 0x3F800000, {})
  | .fin s m e =>
    if m = 0 then (f32.sign s, {})
    else if 6 < (blen m : Int) + e then f32.round .rne false s (2 ^ 64 - 1) (-64) true
    else
      let v := fxOf false m e
      let y :=
        if v < fxOne / 2 ^ 30 then v - fxMul (fxMul v v) v / 3 + 2 * fxMul (fxMul (fxMul v v) (fxMul v v)) v / 15
        else
          let w := 2 * v * fxOne / fxLn2
          let t := fxExp (fxMul (w % fxOne) fxLn2) * 2 ^ (w / fxOne).toNat
          (t - fxOne) * fxOne / (t + fxOne)
      fxRound (if s then -y else y) 0

/-! ## What is delivered (R174) -/

/-- The correctly rounded result of a special function by number: 0 VEXP2, 1 VLOG2, 2 VRCP, 3 VRSQ, 5 VSIN, 6 VCOS, 7 VTANH, on an FP32 pattern
(R174). -/
def specialRef (n x : Nat) : Nat × Flags :=
  let v := f32.val x
  if n = 0 then refExp2 v else if n = 1 then refLog2 v else if n = 2 then refRcp v else if n = 3 then refRsq v
  else if n = 5 then refTrig false v else if n = 6 then refTrig true v else refTanh v

/-- The result is one of the exact special values of R174. -/
def specialExact (n x : Nat) : Bool :=
  match f32.val x with
  | .fin _ m e =>
    if m = 0 then true
    else if n = 0 then decide (0 ≤ e) || decide (m % 2 ^ (-e).toNat = 0)
    else if n = 1 then decide (m = 2 ^ (blen m - 1))
    else false
  | _ => true

/-- A pattern is a finite value. -/
def Fmt.finite (f : Fmt) (x : Nat) : Bool := match f.val x with | .fin _ _ _ => true | _ => false

/-- The exponent of one unit in the last place of a finite result. -/
def Fmt.ulp (f : Fmt) (r : Nat) : Int :=
  match f.val r with
  | .fin _ m e => max (1 - f.bias - f.mbits) (if m = 0 then 1 - f.bias - f.mbits else e + (blen m : Int) - 1 - f.mbits)
  | _ => 0

/-- Result p lies within n ulps of the correctly rounded result r, or within 2^-24 where that is allowed (R174). -/
def Fmt.near (f : Fmt) (n : Nat) (absolute : Bool) (r p : Nat) : Bool :=
  let d := (FV.add .rne (f.val p) (f.val r).neg).1.abs
  f.finite p && (!(FV.lt (.fin false n (f.ulp r)) d) || (absolute && !(FV.lt (fvPow2 (-24)) d)))

/-- A finite FP32 pattern moved by some steps in the order of its values; a zero takes the sign of the exact result (R161). -/
def stepUnits (r : Nat) (o : Int) : Nat :=
  let lo : Int := (image 32 0xFF7FFFFF : Nat)
  let hi : Int := (image 32 0x7F7FFFFF : Nat)
  let p := invImage 32 (max lo (min hi ((image 32 r : Nat) + o))).toNat
  if p % 2 ^ 31 = 0 then r / 2 ^ 31 * 2 ^ 31 else p

/-- The flags of a delivered FP32 result p in place of the correctly rounded r: one that differs from r differs from the exact result, and is tiny
below the smallest normal (R160, R164). -/
def deliveredFlags (r : Nat × Flags) (p : Nat) : Flags :=
  if p = r.1 then r.2 else { r.2 with nx := true, uf := decide (p % 2 ^ 31 < 2 ^ 23) }

/-- A special function on an FP32 pattern: the free offset moves the correctly rounded result, and stands where it keeps to the bound of R174 (log
entry 4). -/
def specialFn (n x : Nat) : Nat × Flags :=
  let r := specialRef n x
  if specialExact n x || !f32.finite r.1 then r
  else
    let p := stepUnits r.1 (Config.fnOffset n (BitVec.ofNat 32 x))
    let p := if f32.near (if n = 2 ∨ n = 3 then 1 else 2) (decide (n = 1 ∨ n = 5 ∨ n = 6)) r.1 p then p else r.1
    (p, deliveredFlags r p)

/-- Exp2Fn of R408. -/
def exp2Fn (x : Nat) : Nat := (specialFn 0 x).1

end Sys2Proof.Machine
end

