-- ==== Sys2Proof/Machine/VecOps.lean ====
section
/-! DEFINITION. What the vector slots compute, element by element, and how a V operation issues (R391-R414). -/

namespace Sys2Proof.Machine

/-! ## Operands and issue -/

/-- The last vector source: a register part, or a stream in the stream form (R331). -/
inductive VSrc where
  | reg (f : BitVec 6)
  | str (q : BitVec 3)
deriving DecidableEq, Repr

/-- The stream of a source. -/
def VSrc.stream : VSrc → Option Nat
  | .reg _ => none
  | .str q => some q.toNat

/-- Bits of an operation at width code wid (R319). -/
def widBits (wid : BitVec 2) : Nat := if wid = 0#2 then 256 else if wid = 1#2 then 512 else 1024

/-- The bits of a source at the operation's width (R136, R393). -/
def vsrc (s : State) (wid : BitVec 2) : VSrc → Nat
  | .reg f => (s.thread s.cur.u).part (partOf wid f)
  | .str q => s.headValue q.toNat (widBits wid)

/-- A reader that acts waits for its stream, and faults on a poison mark (R135, R364). -/
def srcCheck (s : State) (v : VSrc) : Verdict :=
  match v.stream with
  | some q => streamCheck s q
  | none => .ok

/-- The source's stream pops when the bundle commits (R393). -/
def State.popSrc (s : State) (v : VSrc) : State :=
  match v.stream with
  | some q => s.popAtEnd q
  | none => s

/-- The elements an operation delivers: their size, and each with its flags. -/
structure VOut where
  z     : Nat
  elems : List (Nat × Flags)

/-- Flags of the active elements (R392). -/
def activeFlags : List Bool → List (Nat × Flags) → Flags
  | b :: bs, e :: es => (if b then e.2 else Flags.none).or (activeFlags bs es)
  | _, _ => Flags.none

/-- Issue a V operation on destination part d: nothing when no element is active; a masked flag of an active element faults (R112, R392);
otherwise the active elements land at the latency. -/
def vecIssue (p : BitVec 4) (d : Part) (v : VSrc) (lat : Nat) (pre : State → Verdict) (out : State → VOut) (s : State) : Result :=
  let x := s.thread s.cur.u
  let o := out s
  let act := x.activeList p d o.z o.elems.length
  issue s (act.any id) (((srcCheck s v).both (pre s)).andThen (flagTrap x (activeFlags act o.elems)))
    (fun s =>
      let x := s.thread s.cur.u
      let o := out s
      let act := x.activeList p d o.z o.elems.length
      (s.result s.cur.u (.v d.reg) (atPart d (joinElems o.z (o.elems.map Prod.fst))) (BitVec.ofNat 1024 (maskOf d.off o.z act)) lat
        (activeFlags act o.elems).toBits).popSrc v)

/-- The elements of type size z of a number of the operation's width. -/
def velems (wid : BitVec 2) (z x : Nat) : List Nat := splitElems z (widBits wid / z) x

/-- A value without flags. -/
def quiet (x : Nat) : Nat × Flags := (x, Flags.none)

/-- Latency 4 for float types, 2 for integer types (R393). -/
def latFI (ty : BitVec 4) : Nat := if tyF ty then 4 else 2

/-- The float format of a type; .f32 for a code that is none. -/
def vfmt (ty : BitVec 4) : Fmt := (fmtOf ty.toNat).getD f32

/-- An operation of two sources, element by element. -/
def vec2 (p : BitVec 4) (v : VSrc) (va vd : BitVec 6) (ty : BitVec 4) (wid : BitVec 2) (lat : Nat) (f : Thread → Nat → Nat → Nat × Flags)
    (s : State) : Result :=
  let z := tyBits ty.toNat
  vecIssue p (partOf wid vd) v lat (fun _ => .ok) (fun s =>
    let x := s.thread s.cur.u
    { z := z, elems := List.zipWith (f x) (velems wid z (x.part (partOf wid va))) (velems wid z (vsrc s wid v)) }) s

/-- An operation of two sources that also reads vd. -/
def vec3 (p : BitVec 4) (v : VSrc) (va vd : BitVec 6) (ty : BitVec 4) (wid : BitVec 2) (lat : Nat)
    (f : Thread → Nat → Nat → Nat → Nat × Flags) (s : State) : Result :=
  let z := tyBits ty.toNat
  vecIssue p (partOf wid vd) v lat (fun _ => .ok) (fun s =>
    let x := s.thread s.cur.u
    { z := z, elems := List.zipWith (fun (a : Nat × Nat) c => f x a.1 a.2 c)
        (List.zip (velems wid z (x.part (partOf wid va))) (velems wid z (vsrc s wid v))) (velems wid z (x.part (partOf wid vd))) }) s

/-- An operation of one source, element by element. -/
def vec1 (p : BitVec 4) (v : VSrc) (vd : BitVec 6) (ty : BitVec 4) (wid : BitVec 2) (lat : Nat) (f : Thread → Nat → Nat × Flags)
    (s : State) : Result :=
  let z := tyBits ty.toNat
  vecIssue p (partOf wid vd) v lat (fun _ => .ok) (fun s =>
    { z := z, elems := (velems wid z (vsrc s wid v)).map (f (s.thread s.cur.u)) }) s

/-! ## Elements -/

/-- Maximum or minimum of integers of a type (R395). -/
def intMinMax (t : Nat) (isMax : Bool) (a b : Nat) : Nat :=
  if intOf t a < intOf t b then (if isMax then b else a) else (if isMax then a else b)

/-- Maximum or minimum of a type (R165, R395). -/
def elemMinMax (ty : BitVec 4) (isMax : Bool) (a b : Nat) : Nat :=
  if tyF ty then fMinMax (vfmt ty) isMax a b else intMinMax ty.toNat isMax a b

/-- VABS and VNEG (R395). -/
def elemAbs (ty : BitVec 4) (a : Nat) : Nat :=
  if tyF ty then (let f := vfmt ty; if f.isNan a then f.nan else a % 2 ^ (f.width - 1))
  else wrap (tyBits ty.toNat) (if intOf ty.toNat a < 0 then -(intOf ty.toNat a) else intOf ty.toNat a)
/-- The negated element (R395). -/
def elemNeg (ty : BitVec 4) (a : Nat) : Nat :=
  if tyF ty then (let f := vfmt ty; if f.isNan a then f.nan else a ^^^ 2 ^ (f.width - 1))
  else wrap (tyBits ty.toNat) (-(intOf ty.toNat a))

/-- The outcome of a VCMP condition: 0 eq, 1 ne, 2 lt, 3 le; a NaN makes all but ne false (R399). -/
def elemCmp (ty : BitVec 4) (cc : BitVec 2) (a b : Nat) : Bool :=
  let r : Bool × Bool :=
    if tyF ty then (FV.eq ((vfmt ty).val a) ((vfmt ty).val b), FV.lt ((vfmt ty).val a) ((vfmt ty).val b))
    else (decide (intOf ty.toNat a = intOf ty.toNat b), decide (intOf ty.toNat a < intOf ty.toNat b))
  if cc = 0#2 then r.1 else if cc = 1#2 then !r.1 else if cc = 2#2 then r.2 else r.2 || r.1

/-- Arithmetic shift right, the top bit filling (R396). -/
def elemSar (z a c : Nat) : Nat := wrap z (signed z a / (2 ^ (min c z) : Nat))

/-- VSAT: clamp to the type of half the width (R398). -/
def elemSat (t a : Nat) : Nat × Flags :=
  let half := t - 1
  let r := clampInt half (intOf t a)
  (wrap (tyBits t) (intOf half r.1), r.2)

/-- One VIMAC accumulator (R397): the 32-bit sum of products, clamped. -/
def elemMac (ty : BitVec 4) (a b : List Nat) (c : Nat) : Nat × Flags :=
  let t := ty.toNat
  let acc := if tySigned t then 8 else 12
  clampInt acc ((List.zipWith (fun x y => intOf t x * intOf t y) a b).foldl (· + ·) (intOf acc c))

/-- Groups of n elements. -/
def groups (n : Nat) : Nat → List Nat → List (List Nat)
  | 0, _ => []
  | k + 1, l => l.take n :: groups n k (l.drop n)

/-- The image of an element (R166, R167). -/
def elemImage (t x : Nat) : Nat :=
  let z := tyBits t
  if t ≤ 5 then image z x else if tySigned t then (x % 2 ^ z) ^^^ 2 ^ (z - 1) else x % 2 ^ z
/-- The inverse image of an element (R166, R167). -/
def elemInvImage (t x : Nat) : Nat :=
  let z := tyBits t
  if t ≤ 5 then invImage z x else if tySigned t then (x % 2 ^ z) ^^^ 2 ^ (z - 1) else x % 2 ^ z

/-- Quantise one lane (R176): type .e4m3, .e5m2 or .i8. The two reciprocals raise no flags of their own, which is the model's choice (log entry
79). -/
def quantise (ty : Nat) (rm : RM) (sat : Bool) (scale factor x : Nat) : Nat × Flags :=
  if !(scaleValid scale && scaleValid factor) then ((match fmtOf ty with | some f => f.nan | none => 0), { nv := true })
  else
    let t := fMul f32 .rne x (recipRNE32 factor)
    let y := FV.mul (f32.val t.1) (f32.val (recipRNE32 scale))
    let r := match fmtOf ty with
      | some f => f.deliver rm sat y.1
      | none => fvToInt 8 true rm sat y.1
    (r.1, t.2.or (r.2.or { nv := y.2 }))

/-- Undo a quantisation: q·S·s_j exactly, rounded once to FP32 (R404). The E4M3 NaN code delivers NaN and raises NV. -/
def dequantise (ty : Nat) (rm : RM) (scale factor q : Nat) : Nat × Flags :=
  let v := match fmtOf ty with
    | some f => f.val q
    | none => fvOfInt (intOf ty q)
  if !(scaleValid scale && scaleValid factor) then (f32.nan, { nv := true })
  else if v = .nan then (f32.nan, { nv := decide (ty = 3) })
  else
    let a := FV.mul v (f32.val scale)
    let b := FV.mul a.1 (f32.val factor)
    let r := f32.deliver rm false b.1
    (r.1, r.2.or { nv := a.2 || b.2 })

/-- The scratchpad factors of VQNT and VDQNT: W/8 bytes at a15, checked as a load of that size (R403). -/
def factorLocal (s : State) (wid : BitVec 2) : Local := s.local s.cur.u 15#4 0#12 (widBits wid / 8) false

/-- The factors as FP32 patterns. -/
def factors (s : State) (wid : BitVec 2) : List Nat :=
  let t := s.tile (unitTile s.cur.u)
  splitElems 32 (widBits wid / 32) (ofBytes ((factorLocal s wid).bytes.map t.padByte))

/-- The tile scale g62[31:0] (R403). -/
def tileScale (s : State) : Nat := fld ((s.thread s.cur.u).rg 62) 0 32

/-- One lane of VLSE (R408): only the last rounding raises flags. -/
def lseLane (rm : RM) (ma mi va vd : Nat) : Nat × Flags :=
  if f32.isNan ma || f32.isNan mi then (f32.nan, {})
  else
    let mx := if FV.lt (f32.val ma) (f32.val mi) then mi else ma
    let fa := if FV.eq (f32.val ma) (f32.val mx) then 0x3F800000 else exp2Fn (fSub f32 .rne ma mx).1
    let fi := if FV.eq (f32.val mi) (f32.val mx) then 0x3F800000 else exp2Fn (fSub f32 .rne mi mx).1
    let r := fvMul2Add rm (f32.val vd) (f32.val fa) (f32.val va) (f32.val fi)
    let y := f32.deliver rm false r.1
    (y.1, y.2.or { nv := r.2 })

/-- The pairs of VROPE (R409). -/
def ropePairs (f : Fmt) (rm : RM) : List Nat → List Nat → List Nat → List (Nat × Flags)
  | c :: _ :: cs, t :: _ :: ts, x :: y :: r =>
    let v := f.val
    let a := fvMul2Add rm (v x) (v c) (v y).neg (v t)
    let b := fvMul2Add rm (v x) (v t) (v y) (v c)
    let p := f.deliver rm false a.1
    let q := f.deliver rm false b.1
    (p.1, p.2.or { nv := a.2 }) :: (q.1, q.2.or { nv := b.2 }) :: ropePairs f rm cs ts r
  | _, _, _ => []

/-- One level of the reduction tree: neighbours combined (R406). -/
def pairUp {α : Type} (f : α → α → α) : List α → List α
  | a :: b :: t => f a b :: pairUp f t
  | l => l

/-- The reduction tree (R406): at most 8 levels. -/
def reduceTree {α : Type} (f : α → α → α) (l : List α) : List α := (List.range 8).foldl (fun l _ => pairUp f l) l

/-- Sum in FP32 of two partial sums, their flags with it. -/
def sumF (rm : RM) (a b : Nat × Flags) : Nat × Flags :=
  let r := fAdd f32 rm a.1 b.1
  (r.1, r.2.or (a.2.or b.2))

/-- The value that VRSUM, VRMAX or VRMIN reduces to, inactive elements as the identity; kind 0 sum, 1 maximum, 2 minimum (R406). -/
def reduce (ty : BitVec 4) (rm : RM) (kind : Nat) (act : List Bool) (l : List Nat) : Nat × Flags :=
  let t := ty.toNat
  let f := vfmt ty
  if kind = 0 then
    if tyF ty then
      let w := List.zipWith (fun b x => if b then quiet (fConv f f32 .rne false x).1 else quiet 0) act l
      (reduceTree (sumF rm) w).headD (0, {})
    else
      quiet (wrap 64 ((List.zipWith (fun b x => if b then intOf t x else 0) act l).foldl (· + ·) 0))
  else
    let isMax := decide (kind = 1)
    let idv := if tyF ty then f.nan else wrap (tyBits t) (if isMax then intMin t else intMax t)
    quiet ((reduceTree (elemMinMax ty isMax) (List.zipWith (fun b x => if b then x else idv) act l)).headD 0)

/-- A special function on a BF16 or FP16 pattern: the FP32 result a rounded once, which stands within 1 ulp of the type from the rounding of the
correctly rounded r; NX, UF and OF are those of what is delivered against the exact result (R160, R164, R174). -/
def narrowSpecial (f : Fmt) (r a : Nat × Flags) : Nat × Flags :=
  let best := fConv f32 f .rne false r.1
  if !f32.finite r.1 then (best.1, r.2.or best.2)
  else
    let mine := fConv f32 f .rne false a.1
    let near := !f.finite best.1 || f.near 1 false best.1 mine.1
    let src := if near then a.1 else r.1
    let d := if near then mine else best
    let nx := r.2.nx || !FV.eq (f.val d.1) (f32.val r.1)
    let tiny := match f32.val src with | .fin _ m e => decide (m = 0) || f.tiny m e | _ => false
    (d.1, { (r.2.or d.2) with nx := nx, uf := nx && tiny })

/-- A special function on an element (R174): BF16 and FP16 through FP32. -/
def elemSpecial (ty : BitVec 4) (rm : RM) (n x : Nat) : Nat × Flags :=
  let f := vfmt ty
  if n = 4 then refSqrt f rm (f.val x)
  else if ty = 0#4 then specialFn n x
  else
    let w := (fConv f f32 .rne false x).1
    narrowSpecial f (specialRef n w) (if specialExact n w then specialRef n w else specialFn n w)

/-- Elements interleaved. -/
def interleave : List Nat → List Nat → List (Nat × Flags)
  | a :: as, b :: bs => quiet a :: quiet b :: interleave as bs
  | _, _ => []

/-- The transpose of an 8 × 8 matrix held row by row (R414). -/
def transpose8 (l : List Nat) : List Nat := (List.range 64).map (fun i => nth 0 l (8 * (i % 8) + i / 8))

end Sys2Proof.Machine
end

