-- ==== Sys2Proof/Machine/Winnow.lean ====
section
/-! DEFINITION. The Winnow engine (R254-R258) and WNSEL (R459). -/

namespace Sys2Proof.Machine

/-- The checks of a command that names a barrier word and a record handle, a block (R442, R444, R459). -/
def recordOp (h : BitVec 5) (g : BitVec 6) (s : State) : Verdict :=
  (spOperand (s.g g) 8).both (faultIf (decide ((s.curTile.handle h.toNat).kind ≠ 1#2)) 0x27#7)

/-- The graph and the node of the task in hand. -/
def State.curNode (s : State) : Nat × Nat := ((s.curCtx.task.map Task.gid).getD 0, (s.curCtx.task.map Task.node).getD 0)

/-- WNSEL: a job at the end of the tile's Winnow queue (R459). FCHUNK is unstated until a page fault. -/
def execWnsel (h : BitVec 5) (g : BitVec 6) (s : State) : Result :=
  issue s true (recordOp h g s) (fun s =>
    let n := s.stamp
    let f := n.2.choose (2 ^ 32)
    let j : WJob :=
      { id := n.1, inst := s.instOf h, bw := fld (s.g g) 0 20, ctx := unitCtx s.cur.u, tenant := s.unitTenant s.cur.u, gid := s.curNode.1,
        node := s.curNode.2, started := false, record := 0, srcInst := 0, mskInst := 0, pass := 0, pref := 0, rem := 0, plane := 0,
        total := 0, nancnt := 0, fchunk := f.1, parked := false, fail := none }
    (f.2.modCurTile (fun x => { x.nameCmd j.inst j.id false with winq := x.winq ++ [j] })).paired n.1)

/-! ## The record (R254) -/

/-- NELEM. -/
def WJob.nelem (j : WJob) : Nat := fld j.record 64 32
/-- STRIDE. -/
def WJob.stride (j : WJob) : Nat := fld j.record 96 32
/-- WGT. -/
def WJob.wgt (j : WJob) : Nat := fld j.record 128 64
/-- RANK. -/
def WJob.rank (j : WJob) : Nat := fld j.record 192 64
/-- The type code. -/
def WJob.ty (j : WJob) : Nat := fld j.record 256 4
/-- R: bits resolved in a pass. -/
def WJob.r (j : WJob) : Nat := 2 ^ fld j.record 260 2
/-- FOLDZ. -/
def WJob.foldz (j : WJob) : Bool := j.record.getLsbD 262
/-- SRCK: elements in a handle. -/
def WJob.srck (j : WJob) : Bool := j.record.getLsbD 263

/-- The record breaks R254; src and msk are the entries of the handles it names. -/
def WJob.bad (j : WJob) (src msk : HEntry) : Bool :=
  let r := j.record
  let z := tyBits j.ty / 8
  let n := j.nelem
  decide (n = 0) || decide (2 ^ 22 < n) || !(decide (j.ty ≤ 3) || decide (6 ≤ j.ty ∧ j.ty ≤ 13)) || decide (j.stride % z ≠ 0)
    || decide (2 ^ 20 < j.stride) || decide (j.wgt % 4 ≠ 0) || decide (fld r 260 2 = 3) || decide (fld r 269 3 ≠ 0) || decide (fld r 277 3 ≠ 0)
    || (!j.srck && decide (fld r 272 5 ≠ 0)) || (j.srck && decide (fld r 0 64 ≠ 0)) || decide (fld r 280 40 ≠ 0) || decide (fld r 384 128 ≠ 0)
    || decide (j.res % 64 ≠ 0) || decide (msk.kind ≠ 1#2) || decide (msk.size < (n + 7) / 8)
    || (j.srck && (decide (src.kind ≠ 1#2) || decide (src.size < (n - 1) * j.stride + z)))

/-! ## Acceptance (R255, R258) -/

/-- The job with its record as it stands in the front of its handle, and the handles the record names. -/
def Tile.winLoad (x : Tile) (j : WJob) : WJob :=
  let j := { j with record := BitVec.ofNat 512 (x.padNat (x.inst j.inst).front 64), started := true }
  { j with mskInst := (x.handle (fld j.record 264 5)).inst, srcInst := if j.srck then (x.handle (fld j.record 272 5)).inst else 0 }

/-- The first job of a tile that is not parked. -/
def Tile.winHead (x : Tile) : Option WJob := x.winq.find? (fun j => !j.parked)

/-- Winnow can accept a pass of the tile's first job: at the first, the record handle is FULL, and so is a source handle, the mask admits a
writer, and of a pair the copy that proceeds has ended (R279). -/
def Tile.winReady (x : Tile) : Bool :=
  match x.winHead with
  | none => false
  | some j =>
    !x.cutting && (j.started || (!x.awaits j.id && (x.inst j.inst).canRead 1 && (decide ((x.inst j.inst).size < 64) ||
      (let k := x.winLoad j
       k.bad (x.inst k.srcInst) (x.inst k.mskInst)
        || ((x.inst k.mskInst).canWrite j.id 1 && (!k.srck || (x.inst k.srcInst).canRead 1))))))

/-- The job is a writer of its mask and a reader of its source until it ends; the record handle is released. -/
def Tile.winStart (x : Tile) (j : WJob) : Tile :=
  let x := (x.modInst j.inst (fun h => h.finish j.id)).modInst j.mskInst (fun h => h.startWrite j.id 1)
  let x := x.nameCmd j.mskInst j.id false
  if j.srck then (x.modInst j.srcInst (fun h => h.startRead j.id 1)).nameCmd j.srcInst j.id false else x

/-- Remove a job from its tile's queue. -/
def Tile.winDrop (x : Tile) (id : Nat) : Tile := { x with winq := x.winq.filter (fun j => decide (j.id ≠ id)) }

/-- Put a job back at its place in issue order. -/
def winInsert (j : WJob) : List WJob → List WJob
  | [] => [j]
  | k :: l => if j.id < k.id then j :: k :: l else k :: winInsert j l

/-- WINNOW_PASS_ACCEPT: the next tile of the die, in tile order from the last one served, with a job that can run a pass (R258); a bad record ends
the job at once (R254), and a job whose twin has failed ends as that one did (R279). -/
def State.winAccept (s : State) (d : Nat) : State :=
  if (s.die d).winCur.isSome then s
  else
    match ((List.range 288).map (fun i => 288 * d + ((s.die d).winRR + i) % 288)).find? (fun t => (s.tile t).winReady) with
    | none => s
    | some t =>
      match (s.tile t).winHead with
      | none => s
      | some j =>
        let s := s.modDie d (fun x => { x with winRR := (t - 288 * d + 1) % 288 })
        let run := fun (s : State) (j : WJob) => (s.modTile t (fun x => x.winDrop j.id)).modDie d (fun x => { x with winCur := some (t, j) })
        if j.started then run s j
        else
          let x := s.tile t
          if (x.ends j.id none).isSome then (s.modTile t (fun x => x.winDrop j.id)).winDone t { j with fail := x.ends j.id none } none
          else if (x.inst j.inst).size < 64 then (s.modTile t (fun x => x.winDrop j.id)).winDone t { j with fail := some 0x5B#7 } none
          else
            let k := x.winLoad j
            if k.bad (x.inst k.srcInst) (x.inst k.mskInst) then
              (s.modTile t (fun x => x.winDrop j.id)).winDone t { k with fail := some 0x5B#7 } none
            else run (s.modTile t (fun x => x.winStart k)) k

/-- WINNOW_PASS_ACCEPT (R258). -/
def execWinnowPassAccept (d : Nat) (s : State) : Result := .next (s.winAccept d)

/-! ## A pass (R256) -/

/-- Bytes of the element or weight at a virtual address; a failure names the source chunk of the element. -/
def State.winBytes (s : State) (j : WJob) (a n chunk : Nat) : Except (CHalt × Nat) Nat :=
  match s.vaReadLong .walk j.tenant a n with
  | .ok l => .ok (ofBytes l)
  | .error c => .error (haltOf c (s.badAddr .walk j.tenant (BitVec.ofNat 64 a) n .read), chunk)

/-- Element i with its weight. -/
def State.winElem (s : State) (t : Nat) (j : WJob) (i : Nat) : Except (CHalt × Nat) (Nat × Nat) :=
  let z := tyBits j.ty / 8
  let x := s.tile t
  let chunk := i * j.stride / 4096
  let e := if j.srck then .ok (x.padNat ((x.inst j.srcInst).front + i * j.stride) z)
    else s.winBytes j ((fld j.record 0 64 + i * j.stride) % 2 ^ 64) z chunk
  match e with
  | .error h => .error h
  | .ok v =>
    if j.wgt = 0 then .ok (v, 1)
    else
      match s.winBytes j ((j.wgt + 4 * i) % 2 ^ 64) 4 chunk with
      | .error h => .error h
      | .ok w => .ok (v, w)

/-- An element is a NaN. -/
def WJob.isNan (j : WJob) (v : Nat) : Bool := match fmtOf j.ty with | some f => f.isNan v | none => false

/-- y of an element: its image, −0 folded to +0 where FOLDZ asks. -/
def WJob.image (j : WJob) (v : Nat) : Nat :=
  elemImage j.ty (if j.foldz ∧ j.ty ≤ 5 ∧ v = 2 ^ (tyBits j.ty - 1) then 0 else v)

/-- The candidates in the back of the mask handle. -/
def Tile.winMask (x : Tile) (j : WJob) : List Bool :=
  (List.range j.nelem).map (fun i => (x.padByte ((x.inst j.mskInst).back + i / 8)).getLsbD (i % 8))

/-- Bytes of a mask; bits beyond the last element come from a free byte. -/
def maskBytes (free : Byte) : Nat → List Bool → List Byte
  | 0, _ => []
  | n + 1, l =>
    let b := l.take 8
    let v := ((List.range b.length).zip b).foldl (fun a p => a + (if p.2 then 2 ^ p.1 else 0)) 0
    BitVec.ofNat 8 (v + free.toNat / 2 ^ b.length * 2 ^ b.length) :: maskBytes free n (l.drop 8)

/-- Write the candidates. -/
def State.putMask (s : State) (t : Nat) (j : WJob) (l : List Bool) : State :=
  let f := s.freeBytes 1
  f.2.modTile t (fun x => x.padWrite (x.inst j.mskInst).back (maskBytes (nth 0 f.1 0) ((l.length + 7) / 8) l))

/-- The least bin at which the running sum exceeds rem, with the sum below it; b is the bin in hand. -/
def pickBin (rem : Nat) : Nat → Nat → List Nat → Option (Nat × Nat)
  | _, _, [] => none
  | b, sum, c :: l => if rem < sum + c then some (b, sum) else pickBin rem (b + 1) (sum + c) l

/-- Pass 0: the candidates, the counts, and the failures of a job with nothing to choose from or a rank beyond TOTAL. -/
def WJob.census (j : WJob) (l : List (Nat × Nat)) : WJob × List Bool :=
  let cand := l.map (fun e => !j.isNan e.1)
  let total := (l.zip cand).foldl (fun a e => if e.2 then a + e.1.2 else a) 0
  let nan := (cand.filter (fun b => !b)).length
  ({ j with
      pass := 1, total := total, nancnt := nan, pref := 0, rem := j.rank, plane := tyBits j.ty,
      fail := if total = 0 ∧ nan = j.nelem then some 0x5E#7 else if total ≤ j.rank then some 0x5C#7 else j.fail }, cand)

/-- A digit pass: the bin chosen, and the candidates left. Where no bin exceeds REM, which only a source that changes brings about, the bin is
a free choice. -/
def State.digitPass (s : State) (j : WJob) (l : List (Nat × Nat)) (cand : List Bool) : State × WJob × List Bool :=
  let dig := l.map (fun e => bits (j.image e.1) (j.plane - j.r) j.r)
  let cnt := (List.range (2 ^ j.r)).map (fun b =>
    (l.zip (dig.zip cand)).foldl (fun a e => if e.2.2 && decide (e.2.1 = b) then a + e.1.2 else a) 0)
  let f := s.choose (2 ^ j.r)
  let p := match pickBin j.rem 0 0 cnt with
    | some p => (s, p)
    | none => (f.2, (f.1, (cnt.take f.1).foldl (· + ·) 0))
  (p.1, { j with pass := j.pass + 1, rem := j.rem - p.2.2, pref := j.pref * 2 ^ j.r + p.2.1, plane := j.plane - j.r },
    (dig.zip cand).map (fun (e : Nat × Bool) => e.2 && decide (e.1 = p.2.1)))

/-- COUNT, VALUE and FIRST; with no candidate FIRST is a free choice. -/
def State.winResult (s : State) (j : WJob) (cand : List Bool) : State × (Nat × Nat × Nat) :=
  let f := s.choose (2 ^ 32)
  let count := (cand.filter id).length
  match cand.findIdx? id with
  | some i => (s, count, elemInvImage j.ty j.pref, i)
  | none => (f.2, count, elemInvImage j.ty j.pref, f.1)

/-- A status could not be written for a page fault. -/
def State.resPage (s : State) (t : Nat) (j : WJob) : Option Cause :=
  if ((s.tile t).follow j.id).isSome then none else
  match s.xlatWalk j.tenant j.res false .write with
  | .pa p => if windowBase ≤ p then some 0x23#7 else none
  | .bad c => if c = 0x22#7 ∨ c = 0x23#7 then some c else none
  | .miss => none

/-- The page fault that a pass meets: its cause, its address, and FCHUNK. -/
def State.winPage (s : State) (t : Nat) (j : WJob) : Option (Cause × W64 × Nat) :=
  match (List.range j.nelem).mapM (s.winElem t j) with
  | .error (.page c a, k) => some (c, a, k)
  | .error _ => none
  | .ok _ => (s.resPage t j).map (fun c => (c, BitVec.ofNat 64 j.res, j.fchunk))

/-- Why a pass cannot read an element or a weight, page faults apart. -/
def State.winFails (s : State) (t : Nat) (j : WJob) : Option Cause :=
  match (List.range j.nelem).mapM (s.winElem t j) with
  | .error (.fail c, _) => some c
  | _ => none

/-- The mask handle of the job is gone: its tile has gone to another tenant. -/
def State.winLost (s : State) (t : Nat) (j : WJob) : Bool := decide (((s.tile t).inst j.mskInst).kind = 0#2)

/-- The job's tenant was killed while its pass ran: the pass completes, and the job is discarded with no barrier update (R258). -/
def WJob.dead (j : WJob) : Bool := decide (j.fail = some 0x63#7)

/-- The pass of the job is computed and its mask written (R256). -/
def State.winCompute (s : State) (t : Nat) (j : WJob) (l : List (Nat × Nat)) : State × WJob × Option (Nat × Nat × Nat) :=
  if j.pass = 0 then
    let c := j.census l
    (s.putMask t j c.2, c.1, none)
  else
    let p := s.digitPass j l ((s.tile t).winMask j)
    let s := p.1.putMask t j p.2.2
    if p.2.1.plane = 0 then
      let r := s.winResult p.2.1 p.2.2
      (r.1, p.2.1, some r.2)
    else (s, p.2.1, none)

/-- WINNOW_PASS_END: the running pass ends; a page fault is WINNOW_PARK's (R258). -/
def State.winPassEnd (s : State) (d : Nat) : State :=
  match (s.die d).winCur with
  | none => s
  | some (t, j) =>
    let idle := s.modDie d (fun x => { x with winCur := none })
    if s.winLost t j then idle
    else if !s.walkFree d || (s.winPage t j).isSome then s
    else
      match (List.range j.nelem).mapM (s.winElem t j) with
      | .error (.fail c, _) =>
        let met := idle.metIn s (fun s => s.winFails t j)
        if j.dead then met else met.winDone t { j with fail := some c } none
      | .error _ => s
      | .ok l =>
        let r := idle.winCompute t j l
        let k := r.2.1
        if j.dead then (r.1.putWinStatus t { k with fail := none } r.2.2 false).1
        else if k.fail.isSome || (decide (k.plane = 0) && r.2.2.isSome) then r.1.winDone t k r.2.2
        else
          match r.1.putWinStatus t k none false with
          | (s, none) => s.modTile t (fun x => { x with winq := winInsert k x.winq })
          | (s, some c) => s.winDone t { k with fail := some c } none

/-- WINNOW_PASS_END (R258). -/
def execWinnowPassEnd (d : Nat) (s : State) : Result := .next (s.winPassEnd d)

/-- WINNOW_PARK: the running pass meets a page fault: it is abandoned, FCHUNK is written, the job parks and its context stops (R258, R264); a job
whose node has failed ends. -/
def State.winPark (s : State) (d : Nat) : State :=
  match (s.die d).winCur with
  | none => s
  | some (t, j) =>
    if s.winLost t j || !s.walkFree d then s
    else
      match s.winPage t j with
      | none => s
      | some (c, a, k) =>
        let s := s.modDie d (fun x => { x with winCur := none })
        let j := { j with fchunk := k }
        if j.dead then s
        else if j.fail.isSome then s.winDone t j none
        else
          let s := (s.putWinStatus t j none false).1
          (s.modTile t (fun x => { x with winq := winInsert { j with parked := true } x.winq })).stopEngine t j.ctx c 5 a

/-- WINNOW_PARK (R258). -/
def execWinnowPark (d : Nat) (s : State) : Result := .next (s.winPark d)

end Sys2Proof.Machine
end

