-- ==== Sys2Proof/Machine/Brush.lean ====
section
/-! DEFINITION. The Brush engine: TRENC and TWUPD (R200-R209, R442, R443). -/

namespace Sys2Proof.Machine

/-- A job at the end of the tile's Brush queue (R442). -/
def brushOp (twupd : Bool) (h : BitVec 5) (g : BitVec 6) (s : State) : Result :=
  issue s true (recordOp h g s) (fun s =>
    let n := s.stamp
    let j : BJob :=
      { twupd := twupd, inst := s.instOf h, bw := fld (s.g g) 0 20, ctx := unitCtx s.cur.u, tenant := s.unitTenant s.cur.u,
        gid := s.curNode.1, node := s.curNode.2, seq := n.1, started := false, record := 0, defn := { record := 0, table := [] }, bdone := 0,
        words := [], cost := 0, sat := false, fail := none }
    (n.2.modCurTile (fun x => { x.nameCmd j.inst j.seq false with brush := x.brush ++ [j] })).paired n.1)

/-- TRENC (R442). -/
def execTrenc (h : BitVec 5) (g : BitVec 6) (s : State) : Result := brushOp false h g s
/-- TWUPD (R442). -/
def execTwupd (h : BitVec 5) (g : BitVec 6) (s : State) : Result := brushOp true h g s

/-! ## The record (R200, R201) -/

/-- TGT. -/
def BJob.tgt (j : BJob) : Nat := fld j.record 0 64
/-- IMP. -/
def BJob.imp (j : BJob) : Nat := fld j.record 64 64
/-- GSC. -/
def BJob.gsc (j : BJob) : Nat := fld j.record 128 64
/-- DST. -/
def BJob.dst (j : BJob) : Nat := fld j.record 192 64
/-- RES. -/
def BJob.res (j : BJob) : Nat := fld j.record 256 64
/-- NW. -/
def BJob.nw (j : BJob) : Nat := fld j.record 320 32
/-- IDX. -/
def BJob.idx (j : BJob) : Nat := fld j.record 352 32
/-- TSLOT. -/
def BJob.slot (j : BJob) : Nat := fld j.record 384 3
/-- The format of the targets. -/
def BJob.fmt (j : BJob) : Fmt := let t := fld j.record 387 2; if t = 0 then f32 else if t = 1 then f16 else bf16
/-- RADIUS. -/
def BJob.radius (j : BJob) : Nat := fld j.record 392 8
/-- TVAL. -/
def BJob.tval (j : BJob) : FV := f32.val (fld j.record 416 32)
/-- TWGT. -/
def BJob.twgt (j : BJob) : FV := f32.val (fld j.record 448 32)

/-- A finite value. -/
def FV.finite : FV → Bool
  | .fin _ _ _ => true
  | _ => false

/-- A value an importance may have: finite and not negative (R201). -/
def impOk : FV → Bool
  | .fin sg m _ => !sg || decide (m = 0)
  | _ => false

/-- The record breaks a rule of R201 that needs no definition. -/
def BJob.bad (j : BJob) : Bool :=
  let r := j.record
  decide (fld r 387 2 = 3) || decide (fld r 389 3 ≠ 0) || decide (fld r 400 16 ≠ 0) || decide (fld r 480 32 ≠ 0)
    || decide (j.tgt % (j.fmt.width / 8) ≠ 0) || decide (j.imp % 4 ≠ 0) || decide (j.dst % 4 ≠ 0) || decide (j.res % 16 ≠ 0)
    || (if j.twupd then decide (j.nw ≤ j.idx) || decide (31 < j.radius) || !j.tval.finite || !impOk j.twgt
        else decide (fld r 352 32 ≠ 0) || decide (j.radius ≠ 0) || decide (fld r 416 64 ≠ 0))

/-- The record breaks a rule that needs the definition (R200, R206). -/
def BJob.defBad (j : BJob) : Bool :=
  let d := j.defn.record
  decide (j.nw % tN d ≠ 0) || decide (2 ^ 20 ≤ j.nw / tN d) || decide ((j.gsc = 0) ≠ (tGkind d = 0))
    || (j.twupd && tTail d && decide (tN d < 2 * j.radius + 2))

/-! ## Completion (R205) -/

/-- The 16 bytes of the result. -/
def BJob.result (j : BJob) (met : Bool) (mask : Nat) : List Byte :=
  toBytes 16 ((match j.fail with | some c => c.toNat + 2 ^ 7 | none => 0) + 2 ^ 8 * j.sat.toNat + 2 ^ 9 * met.toNat + 2 ^ 12 * j.bdone
    + 2 ^ 32 * j.cost.toNat + 2 ^ 64 * mask)

/-- The job writes a result: its record was read, and RES is aligned (R205). -/
def BJob.reports (j : BJob) : Bool := j.started && decide (j.res % 16 = 0)

/-- The result of a job waits for a walk (R149). -/
def State.resultWaits (s : State) (cl : Nat) (j : BJob) : Bool := j.reports && decide (s.xlatE (.cluster cl) j.tenant j.res .write = .miss)

/-- A job of tile t ends: the words of its blocks are in memory, its result where its record was read and RES is aligned, then its barrier word; a result
that cannot be written gives the cause (R204, R205). The result of a job that something else ends waits for no walk. -/
def State.brushDone (s : State) (t : Nat) (j : BJob) (met : Bool) (mask : Nat) : State :=
  let s := s.putWords j.words
  let cl := clusterOf t
  let w := if j.reports then s.vaPut (if s.resultWaits cl j then .walk else .cluster cl) j.tenant j.res (j.result met mask) else (s, none)
  w.1.engineDone t j.seq j.bw 64 (match w.2 with | some c => some c | none => j.fail)

/-! ## Acceptance (R200, R443) -/

/-- A TRDEF issued before the job has not executed (R443). -/
def Tile.trdefAhead (x : Tile) (seq : Nat) : Bool :=
  (x.mq ++ (match x.nib with | some n => [n.cmd] | none => [])).any (fun m => match m.op with | .trdef _ _ => decide (m.seq < seq) | _ => false)

/-- The Brush can accept a unit of the tile's first job. -/
def Tile.brushReady (x : Tile) : Bool :=
  match x.brush with
  | [] => false
  | j :: _ => !x.cutting && (j.started || (!x.trdefAhead j.seq && (x.inst j.inst).canRead 1 && !x.awaits j.seq))

/-- Remove a job from its tile's queue. -/
def Tile.brushDrop (x : Tile) (seq : Nat) : Tile := { x with brush := x.brush.filter (fun j => decide (j.seq ≠ seq)) }

/-- Put a job back at its place in issue order. -/
def brushInsert (j : BJob) : List BJob → List BJob
  | [] => [j]
  | k :: l => if j.seq < k.seq then j :: k :: l else k :: brushInsert j l

/-- The job at its first acceptance: record, checks in their order, definition (R200, R201). A front shorter than the record is not read. -/
def Tile.brushLoad (x : Tile) (j : BJob) : BJob :=
  let h := x.inst j.inst
  if h.size < 64 then { j with fail := some 0x46#7 }
  else
    let j := { j with record := BitVec.ofNat 512 (x.padNat h.front 64), started := true }
    if j.bad then { j with fail := some 0x46#7 }
    else
      match mfind x.trdefs j.slot with
      | none => { j with fail := some 0x40#7 }
      | some d =>
        let j := { j with defn := d }
        if j.defBad then { j with fail := some 0x46#7 } else j

/-- BRUSH_UNIT_ACCEPT: the next tile of the cluster, in tile order from the last one served, with a job that can run (R200); the record handle is
released, a job that fails its checks ends, and one that its twin has performed ends as that one did (R279). -/
def State.brushAccept (s : State) (k : Nat) : State :=
  if (s.cluster k).brushCur.isSome then s
  else
    match ((List.range 16).map (fun i => 16 * k + ((s.cluster k).brushRR + i) % 16)).find? (fun t => (s.tile t).brushReady) with
    | none => s
    | some t =>
      match (s.tile t).brush with
      | [] => s
      | j :: _ =>
        let s := s.modCluster k (fun x => { x with brushRR := (t + 1) % 16 })
        let n := if j.started then j else (s.tile t).brushLoad j
        if n.fail.isSome && s.resultWaits k n then s else
        let s := s.modTile t (fun x =>
          (if j.started then x else x.modInst j.inst (fun h => h.finish j.seq)).brushDrop j.seq)
        if let some o := (s.tile t).outcome j.seq then s.engineDone t j.seq j.bw 64 o.err
        else if n.fail.isSome then s.brushDone t n false 0 else s.modCluster k (fun x => { x with brushCur := some (t, n) })

/-- BRUSH_UNIT_ACCEPT (R200). -/
def execBrushUnitAccept (k : Nat) (s : State) : Result := .next (s.brushAccept k)

/-! ## The search (R202, R203) -/

/-- Round to FP32, nearest even. -/
def round32 (v : FV) : Nat := (f32.deliver .rne false v).1

/-- Dec_i(x) with the scale of weight i, as its bytes hold it (R202): its pattern, its value, and whether it was clamped. -/
def BJob.dec (j : BJob) (scale x : Nat) : Nat × FV × Bool :=
  let r := j.defn.record
  let k := tGkind r
  let w := f32.val (j.defn.f x)
  if k = 3 ∧ tOfmt r = 3 then
    let e := foldWeight 3 w (.fin false 1 0) (.fin false 1 0)
    let v := round32 ((e2m1.val e.1).mul (e8m0 scale)).1
    (v, f32.val v, e.2.1)
  else
    let p := if k = 2 then widenBf16 scale else scale
    let g := if k = 0 then FV.fin false 1 0 else if k = 3 then e8m0 scale else if scaleValid p then f32.val p else .nan
    let e := foldWeight (tOfmt r) w g (.fin false 1 0)
    (e.1, (ofmtFmt (tOfmt r)).val e.1, e.2.1)

/-- One weight to search: its step, its group scale, its target and its importance. -/
structure BWeight where
  step   : Nat
  scale  : Nat
  target : FV
  imp    : FV

/-- Term(i, x) (R202). -/
def BJob.term (j : BJob) (w : BWeight) (x : Nat) : Nat :=
  let d := f32.val (round32 (FV.add .rne w.target (j.dec w.scale x).2.1.neg).1)
  round32 (w.imp.mul (f32.val (round32 (d.mul d).1))).1

/-- A candidate for a state: cost, predecessor, window. Costs are FP32 patterns without sign, which order as R203 asks: NaN above +infinity. -/
abbrev Cand := Nat × Nat × Nat

/-- The candidate that Offer keeps (R203). -/
def offer (a b : Option Cand) : Option Cand :=
  match a, b with
  | none, b => b
  | a, none => a
  | some p, some q =>
    if q.1 < p.1 ∨ (q.1 = p.1 ∧ (q.2.1 < p.2.1 ∨ (q.2.1 = p.2.1 ∧ q.2.2 < p.2.2))) then some q else some p

/-- The states after a weight whose windows have W bits, each with the best of the windows that lead to it; cand gives a window's candidate. -/
def searchLayer (w step : Nat) (cand : Nat → Option Cand) : List (Option Cand) :=
  (List.range (2 ^ (w - step))).map (fun tau => (List.range (2 ^ step)).foldl (fun a h => offer a (cand (tau + h * 2 ^ (w - step)))) none)

/-- The layers after the first, the last one at the head; last is the step of the weight before. -/
def BJob.layers (j : BJob) : Nat → List (List (Option Cand)) → List BWeight → List (List (Option Cand))
  | _, ls, [] => ls
  | last, ls, x :: rest =>
    let prev := ls.headD []
    let l := searchLayer (tW j.defn.record) x.step (fun v =>
      (nth none prev (v / 2 ^ last)).map (fun p => (round32 (FV.add .rne (f32.val p.1) (f32.val (j.term x v))).1, v / 2 ^ last, v)))
    j.layers x.step (l :: ls) rest

/-- The end state of least cost, the lowest on a tie. -/
def bestEnd (l : List (Option Cand)) : Option Nat :=
  (((List.range l.length).zip l).foldl (fun (a : Option (Nat × Nat)) e =>
    match a, e.2 with
    | none, some c => some (c.1, e.1)
    | some b, some c => if c.1 < b.1 then some (c.1, e.1) else some b
    | a, none => a) none).map Prod.snd

/-- The windows from an end state back to the first weight, first weight first. -/
def traceback : List (List (Option Cand)) → Nat → List Nat → List Nat
  | [], _, acc => acc
  | l :: ls, tau, acc =>
    match nth none l tau with
    | none => acc
    | some c => traceback ls c.2.1 (c.2.2 :: acc)

/-- One pass over some weights: sb is the step before the first; start and stop pin the states at the ends; the cost and the windows (R203). -/
def BJob.pass (j : BJob) (sb : Nat) (start stop : Option Nat) (ws : List BWeight) : Option (Nat × List Nat) :=
  match ws with
  | [] => none
  | w :: rest =>
    let first := searchLayer (tW j.defn.record) w.step (fun x =>
      let pred := x / 2 ^ sb
      if start = none ∨ start = some pred then some (round32 (FV.add .rne (.fin false 0 0) (f32.val (j.term w x))).1, pred, x) else none)
    let ls := j.layers w.step [first] rest
    match (match stop with | some e => some e | none => bestEnd (ls.headD [])) with
    | none => none
    | some e =>
      match nth none (ls.headD []) e with
      | none => none
      | some c => some (c.1, traceback ls e [])

/-- The best of the passes of a TAILBITE block, the lowest leading state on a tie. -/
def BJob.tailbite (j : BJob) (ws : List BWeight) : Option (Nat × List Nat) :=
  let r := j.defn.record
  let sb := tStep r (tQ r - 1)
  (List.range (2 ^ (tW r - sb))).foldl (fun a sg =>
    match a, j.pass sb (some sg) (some sg) ws with
    | none, b => b
    | some p, some q => if q.1 < p.1 then some q else some p
    | a, none => a) none

/-- A block's chosen windows (R203). -/
def BJob.search (j : BJob) (ws : List BWeight) : Option (Nat × List Nat) :=
  let r := j.defn.record
  if tTail r then j.tailbite ws else j.pass (tStep r (tQ r - 1)) none none ws

/-! ## A unit (R204-R208) -/

/-- A little-endian number read for a job. -/
def State.brushNat (s : State) (cl : Nat) (j : BJob) (a n : Nat) : Except Cause Nat :=
  match s.vaReadLong (.cluster cl) j.tenant (a % 2 ^ 64) n with
  | .ok l => .ok (ofBytes l)
  | .error c => .error c

/-- The group scale of weight n of the job; none is read where GKIND is 0. -/
def State.brushScale (s : State) (cl : Nat) (j : BJob) (n : Nat) : Except Cause Nat :=
  let r := j.defn.record
  let z := scaleBytes (tGkind r)
  if z = 0 then .ok 0 else s.brushNat cl j (j.gsc + n / 2 ^ tGlog r * z) z

/-- Weight n of a TRENC job: target and importance, read and judged (R201). -/
def State.brushWeight (s : State) (cl : Nat) (j : BJob) (n : Nat) : Except Cause BWeight :=
  let z := j.fmt.width / 8
  match s.brushNat cl j (j.tgt + n * z) z with
  | .error c => .error c
  | .ok t =>
    match (if j.imp = 0 then .ok 0x3F800000 else s.brushNat cl j (j.imp + 4 * n) 4) with
    | .error c => .error c
    | .ok p =>
      match s.brushScale cl j n with
      | .error c => .error c
      | .ok g =>
        if !(j.fmt.val t).finite || !impOk (f32.val p) then .error 0x46#7
        else .ok { step := tStep j.defn.record (n % tN j.defn.record), scale := g, target := j.fmt.val t, imp := f32.val p }

/-- A block with window x placed at stream bit c, at the positions keep allows (R193). -/
def placeWindow (r : W64) (keep : Nat → Bool) (b : Nat) (c x : Nat) : Nat :=
  (List.range (tW r)).foldl (fun b t =>
    let p := c + t
    if keep p then setBits b (if tTail r then p % tBits r else p) 1 (bits x (tW r - 1 - t) 1) else b) b

/-- Whether a clamped value lies on a path. -/
def BJob.clamped (j : BJob) (ws : List BWeight) (xs : List Nat) : Bool := (ws.zip xs).any (fun e => (j.dec e.1.scale e.2).2.2)

/-- All of the line at va is the job's to write (R204, R507). -/
def BJob.covers (j : BJob) (va : Nat) : Bool :=
  let n := j.nw / tN j.defn.record * (tStride j.defn.record / 8)
  decide (j.dst ≤ va / 64 * 64 ∧ va / 64 * 64 + 64 ≤ j.dst + n)

/-- The unit of a TRENC job: block BDONE is read, searched and written (R203, R204). -/
def State.encodeBlock (s : State) (cl : Nat) (j : BJob) : State × BJob :=
  let r := j.defn.record
  let n := tN r
  match (upto (j.bdone * n) n).mapM (s.brushWeight cl j) with
  | .error c => (s, { j with fail := some c })
  | .ok ws =>
    match j.search ws with
    | none => (s, { j with fail := some 0x46#7 })
    | some (cost, xs) =>
      let b := ((List.range n).zip xs).foldl (fun b e => placeWindow r (fun _ => true) b (tC r e.1) e.2) 0
      let z := tStride r / 8
      match s.vaPlan (.cluster cl) j.tenant j.covers ((j.dst + j.bdone * z) % 2 ^ 64) (toBytes z b) with
      | .error c => (s, { j with fail := some c })
      | .ok l =>
        (s, { j with bdone := j.bdone + 1, words := j.words ++ l, sat := j.sat || j.clamped ws xs,
                     cost := BitVec.ofNat 32 (round32 (FV.add .rne (f32.val j.cost.toNat) (f32.val cost)).1) })

/-- |TVAL − v|, exact. -/
def distance (t v : FV) : FV := (FV.add .rne t v.neg).1.abs

/-- The unit of a TWUPD job (R206-R208): the region searched, its free bits rewritten word by word, MET and the disturbance mask. -/
def State.updateRegion (s : State) (cl : Nat) (j : BJob) : State × BJob × Bool × Nat :=
  let r := j.defn.record
  let n := tN r
  let i := j.idx % n
  let rad := j.radius
  let tail := tTail r
  let base := j.idx / n * n
  let org := j.dst + j.idx / n * (tStride r / 8)
  let first := if tail then n + i - rad else i - rad
  let last := if tail then n + i + rad else min (n - 1) (i + rad)
  let us := upto first (last + 1 - first)
  let pinS := tail || decide (0 < first)
  let pinE := tail || decide (last < n - 1)
  let fail := fun (c : Cause) => (s, { j with fail := some c }, false, 0)
  match s.brushNat cl j org (tStride r / 8) with
  | .error c => fail c
  | .ok old =>
    match us.mapM (fun u => s.brushScale cl j (base + u % n)) with
    | .error c => fail c
    | .ok gs =>
      let win := tWindow r (fun t => bits old t 1)
      let oldDec := (us.zip gs).map (fun e => j.dec e.2 (win e.1))
      let ws := ((us.zip gs).zip oldDec).map (fun e =>
        let mine := decide (e.1.1 % n = i)
        ({ step := tStep r e.1.1, scale := e.1.2, target := if mine then j.tval else e.2.2.1,
           imp := if mine then j.twgt else .fin false 1 0 } : BWeight))
      let sb := if 0 < first then tStep r (first - 1) else tStep r (tQ r - 1)
      let start := if pinS then some (win (first - 1) % 2 ^ (tW r - sb)) else none
      let stop := if pinE then some (win last % 2 ^ (tW r - tStep r last)) else none
      match j.pass sb start stop ws with
      | none => fail 0x46#7
      | some (cost, xs) =>
        let f0 := if pinS then tC r (first - 1) + tW r else 0
        let f1 := if pinE then tC r (last + 1) else tBits r
        let keep := fun (p : Nat) => decide (f0 ≤ p) && decide (p < f1)
        let b := (us.zip xs).foldl (fun b e => placeWindow r keep b (tC r e.1) e.2) old
        let words := ((upto f0 (f1 - f0)).map (fun p => (if tail then p % tBits r else p) / 32)).eraseDups
        let w := (mergePieces (words.map (fun k => (org + 4 * k, toBytes 4 (bits b (32 * k) 32))))).foldl (fun (a : State × Option Cause) p =>
          match a.2 with
          | some _ => a
          | none => a.1.vaWriteLong (.cluster cl) j.tenant (p.1 % 2 ^ 64) p.2) (s, none)
        match w.2 with
        | some c => (w.1, { j with fail := some c }, false, 0)
        | none =>
          let newDec := (ws.zip xs).map (fun e => j.dec e.1.scale e.2)
          let at' := fun (l : List (Nat × FV × Bool)) => nth (0, FV.nan, false) l (if tail then rad else i - first)
          let mine := nth 0 gs (if tail then rad else i - first)
          let d := distance j.tval (at' newDec).2.1
          let met := decide (d ≠ .nan) && (List.range (2 ^ tW r)).all (fun x =>
            let e := distance j.tval (j.dec mine x).2.1
            decide (e = .nan) || !(e.lt d))
          let mask := (us.zip (oldDec.zip newDec)).foldl (fun a e =>
            if e.2.1.1 ≠ e.2.2.1 then a + 2 ^ (if tail then e.1 - first else e.1 + rad - i) else a) 0
          (w.1, { j with bdone := 1, sat := j.clamped ws xs, cost := BitVec.ofNat 32 cost }, met, mask)

/-- The device memory that the job's next unit may reach: addresses, lengths and what it does there. -/
def BJob.reach (j : BJob) : List (Nat × Nat × Acc) :=
  let r := j.defn.record
  let n := tN r
  let m := if j.twupd then j.idx / n else j.bdone
  let e := j.fmt.width / 8
  let z := scaleBytes (tGkind r)
  (if j.twupd then [] else [(j.tgt + m * n * e, n * e, .read)]) ++ (if j.twupd || decide (j.imp = 0) then [] else [(j.imp + 4 * m * n, 4 * n, .read)])
    ++ (if z = 0 then [] else [(j.gsc + m * n / 2 ^ tGlog r * z, (n / 2 ^ tGlog r + 1) * z, .read)])
    ++ [(j.dst + m * (tStride r / 8), tStride r / 8, .write)]

/-- The pages of the next unit are in the cluster's TLB (R200). -/
def State.brushTouch (s : State) (cl : Nat) (j : BJob) : State :=
  (j.reach.flatMap (fun e => (upto (e.1 / 65536) ((e.1 + e.2.1 - 1) / 65536 + 1 - e.1 / 65536)).map (fun p => (65536 * p % 2 ^ 64, e.2.2)))).foldl
    (fun (s : State) p => s.tlbFill cl j.tenant p.1 p.2) s

/-- Blocks of a TRENC job. -/
def BJob.blocks (j : BJob) : Nat := j.nw / tN j.defn.record

/-- The unit of a job: the state that it leaves, the job after it, MET and the disturbance mask. -/
def State.brushUnit (s : State) (k : Nat) (j : BJob) : State × BJob × Bool × Nat :=
  if j.twupd then s.updateRegion k j
  else
    let u := if j.blocks ≤ j.bdone then (s, j) else s.encodeBlock k j
    (u.1, u.2, false, 0)

/-- A job is over after the unit that has left it so. -/
def BJob.over (j : BJob) : Bool := j.twupd || j.fail.isSome || decide (j.blocks ≤ j.bdone)

/-- BRUSH_UNIT_COMPLETE: the accepted unit ends, once no walk that it needs is awaited; the job queues again, or ends with its result (R149, R205,
R209). Where the tenant was killed the unit completes, and the job is discarded. -/
def State.brushComplete (s : State) (k : Nat) : State :=
  match (s.cluster k).brushCur with
  | none => s
  | some (t, job) =>
    let dead := decide (job.fail = some 0x63#7)
    let j := if dead then { job with fail := none } else job
    let u := s.brushUnit k j
    if decide (u.2.1.fail = some walkBusy) || (!dead && u.2.1.over && s.resultWaits k u.2.1) then s
    else
      let s := ((u.1.metIn s (fun s => (s.brushUnit k j).2.1.fail)).modCluster k (fun x => { x with brushCur := none })).brushTouch k j
      if dead then (if j.twupd then s else s.putWords u.2.1.words)
      else if u.2.1.over then s.brushDone t u.2.1 u.2.2.1 u.2.2.2
      else s.modTile t (fun x => { x with brush := brushInsert u.2.1 x.brush })

/-- BRUSH_UNIT_COMPLETE (R205). -/
def execBrushUnitComplete (k : Nat) (s : State) : Result := .next (s.brushComplete k)

end Sys2Proof.Machine
end

