-- ==== Sys2Proof/Machine/Control.lean ====
section
/-! DEFINITION. The control slot (R339-R350), and the system instructions of the control profile that end a bundle (R387-R390). -/

namespace Sys2Proof.Machine

/-- A branch bundle: whether it is taken and where, effective after two delay slots; left counts the bundle itself (R123, R339). -/
def Thread.branchTo (x : Thread) (taken : Bool) (t : Nat) : Thread :=
  { x with branch := some { target := t, taken := taken, left := 3 } }

/-- pc + OFF in code units (R318, R339). -/
def branchTarget (s : State) (off : BitVec 11) : Nat := wrap 64 ((s.cur.pc : Int) + off.toInt)

/-- Why a CALL whose guard is true does not issue: the lengths of its two delay-slot chains cannot be had (R339). -/
def callCheck (s : State) : Verdict :=
  match s.skipChains s.cur.u 2 s.cur.next with
  | .unit _ => .ok
  | .wait => .held .fetch
  | .fault c a => .fault c (BitVec.ofNat 64 a)

/-- ReturnOffset: the first unit after the second delay-slot bundle (R339). -/
def returnOffset (s : State) : Nat :=
  match s.skipChains s.cur.u 2 s.cur.next with
  | .unit n => n
  | _ => 0

/-- A branch of the thread in hand, taken or not; an untaken one still has its delay slots (R123). -/
def branchOp (taken : Bool) (t : Nat) (s : State) : Result :=
  .next (s.modThread s.cur.u (fun x => x.branchTo taken t))

/-- A call: taken, it also writes g63 with the return offset at latency 1 (R339, R340). -/
def callOp (taken : Bool) (t : Nat) (s : State) : Result :=
  if !taken then branchOp false t s
  else issue s true (callCheck s) (fun s =>
    (s.result64 s.cur.u (.g 63) (BitVec.ofNat 64 (returnOffset s)) 1).modThread s.cur.u (fun x => x.branchTo true t))

/-- NOP (R348). -/
def execNop (_p : BitVec 4) (s : State) : Result := .next s

/-- BR (R339). -/
def execBr (p : BitVec 4) (off : BitVec 11) (s : State) : Result :=
  branchOp ((s.thread s.cur.u).guard p) (branchTarget s off) s

/-- BRP: taken when any of the 128 bits is 1, with NEG when none is (R339). -/
def execBrp (p : BitVec 4) (off : BitVec 11) (s : State) : Result :=
  branchOp (decide ((s.thread s.cur.u).rp (p.toNat % 8) ≠ 0) != p.getLsbD 3) (branchTarget s off) s

/-- JR: to the offset in a g register (R339). -/
def execJr (p : BitVec 4) (g : BitVec 6) (s : State) : Result :=
  branchOp ((s.thread s.cur.u).guard p) ((s.thread s.cur.u).rg g.toNat).toNat s

/-- CALL (R339). -/
def execCall (p : BitVec 4) (off : BitVec 11) (s : State) : Result :=
  callOp ((s.thread s.cur.u).guard p) (branchTarget s off) s

/-- CALLR (R339). -/
def execCallr (p : BitVec 4) (g : BitVec 6) (s : State) : Result :=
  callOp ((s.thread s.cur.u).guard p) ((s.thread s.cur.u).rg g.toNat).toNat s

/-- RET: to the offset in g63 (R339). -/
def execRet (p : BitVec 4) (s : State) : Result :=
  branchOp ((s.thread s.cur.u).guard p) ((s.thread s.cur.u).rg 63).toNat s

/-- The count that LOOP reads (R342). -/
def loopCount (s : State) (n : BitVec 4) : Nat := fld ((s.thread s.cur.u).rg n.toNat) 0 32

/-- The chain after the one at E, for a LOOP of count 0 (R342). -/
def loopSkip (s : State) (off : BitVec 11) : UnitR := s.skipChains s.cur.u 1 (branchTarget s off)

/-- A LOOP of count 0 needs the length of the chain at E (R342). -/
def loopCheck (s : State) (n : BitVec 4) (off : BitVec 11) : Verdict :=
  if loopCount s n ≠ 0 then .ok
  else
    match loopSkip s off with
    | .unit _ => .ok
    | .wait => .held .fetch
    | .fault c a => .fault c (BitVec.ofNat 64 a)

/-- LOOP: a free level becomes active from the chain that follows to the chain at E and its counter takes the count at latency 1; a count of 0
skips the body (R342). -/
def execLoop (n : BitVec 4) (off : BitVec 11) (s : State) : Result :=
  issue s true (loopCheck s n off) (fun s =>
    let c := loopCount s n
    if c = 0 then
      { s with cur := { s.cur with jump := match loopSkip s off with | .unit k => some k | _ => none } }
    else
      let l : LoopLevel := { start := s.cur.next, stop := branchTarget s off }
      let k := if (s.thread s.cur.u).loop0.isSome then 1 else 0
      let s := { s with cur := { s.cur with opened := some k } }
      (s.result s.cur.u (.lc k) (BitVec.ofNat 1024 c) (BitVec.allOnes 1024) 1 0).modThread s.cur.u (fun x =>
        if k = 1 then { x with loop1 := some l } else { x with loop0 := some l }))

/-- END: the task ends once the bundle commits; its pending results and its pending branch go when the bundle ends (R346). -/
def execEndTask (p : BitVec 4) (s : State) : Result :=
  issue s ((s.thread s.cur.u).guard p) .ok (fun s =>
    match s.cur.u with
    | .ctx t c => s.modCtx t c (fun y => { y with ending := true })
    | .core _ => s)

/-- END.loop at the chain at pc: the innermost active level becomes inactive, its counter keeping its value. Where the chain is that level's
END, it is a loop end and so a branch bundle, with two delay slots behind it (R123, R344, R345). -/
def Thread.leaveLoop (x : Thread) (pc : Nat) : Thread :=
  match x.innermost none with
  | none => x
  | some (k, l) =>
    let x := if l.stop = pc then { x with branch := some { target := 0, taken := false, left := 3 } } else x
    if k = 1 then { x with loop1 := none } else { x with loop0 := none }

/-- END.loop (R345). -/
def execEndLoop (p : BitVec 4) (s : State) : Result :=
  issue s ((s.thread s.cur.u).guard p) .ok (fun s => s.modThread s.cur.u (fun x => x.leaveLoop s.cur.pc))

/-- The bundle in hand ends, and its unit then takes an exception whose PC names the next bundle (R347, R387). -/
def State.trapAfter (s : State) (c : Cause) (slots : Nat) (faddr : W64) : State :=
  if s.cur.finished then s
  else
    let u := s.cur.u
    let s := s.finish
    s.takeException u { cause := c, slots := slots, faddr := faddr, pc := (s.thread u).pc, engine := none, through := s.throughAt u (s.thread u).pc }

/-- TRAP n: the bundle commits, then the unit stops with USER_TRAP0 + n, SLOTMASK 0x001 (R347). -/
def execTrap (p : BitVec 4) (code : BitVec 3) (s : State) : Result :=
  issue s ((s.thread s.cur.u).guard p) .ok (fun s => s.trapAfter (0x18#7 + code.setWidth 7) 1 0)

/-- WAITH's condition on a handle (R349), once the context's queued commands on it have executed (R471): the wait, or HANDLE_STATE for a condition of the other kind. -/
def waithCheck (s : State) (h : BitVec 5) (cond : BitVec 6) : Verdict :=
  let e := (s.tile (unitTile s.cur.u)).handle h.toNat
  let c := cond.toNat
  let queued := (s.ctx (unitTile s.cur.u) (unitCtx s.cur.u)).hqNames e.inst
  let wait := fun (b : Bool) => if b && !queued then Verdict.ok else .held .waith
  if c = 3 then wait (e.readers.isEmpty && e.writers.isEmpty && e.wres.isEmpty && e.rres.isEmpty)
  else if c < 3 then
    if e.kind ≠ 1#2 then .fault 0x27#7 0
    else if c = 0 then wait (decide (e.state = 0#2))
    else if c = 1 then wait (decide (e.state = 2#2))
    else wait (decide (e.state = 2#2) && !e.b)
  else if e.kind ≠ 2#2 then .fault 0x27#7 0
  else wait (decide (c - 0x1F ≤ e.held))

/-- WAITH: holds its bundle until the handle meets the condition (R349). -/
def execWaith (p : BitVec 4) (h : BitVec 5) (cond : BitVec 6) (s : State) : Result :=
  issue s ((s.thread s.cur.u).guard p) (waithCheck s h cond) (fun s => s)

/-- WAITB's address and phase (R350), once the context's queued commands on its word have executed (R471). -/
def waitbCheck (s : State) (g : BitVec 6) : Verdict :=
  let v := (s.thread s.cur.u).rg g.toNat
  let a := fld v 3 17 * 8
  ((faultIf (decide (fld v 1 2 ≠ 0)) 0x24#7).both (faultIf (decide (fld v 20 44 ≠ 0)) 0x29#7)).andThen
    (if bit ((s.tile (unitTile s.cur.u)).padNat a 8) 56 = v.getLsbD 0
        ∨ (s.ctx (unitTile s.cur.u) (unitCtx s.cur.u)).hq.any (HCmd.onWord (unitTile s.cur.u) a) = true then .held .waitb else .ok)

/-- WAITB: holds its bundle until bit 56 of the word differs from gN[0] (R350). -/
def execWaitb (p : BitVec 4) (g : BitVec 6) (s : State) : Result :=
  issue s ((s.thread s.cur.u).guard p) (waitbCheck s g) (fun s => s)

/-! ## The system instructions of the control profile -/

/-- SYSC n: the bundle commits, then the core traps with SYSCALL; TFADDR holds n (R387). -/
def execSysc (n : BitVec 6) (s : State) : Result :=
  issue s true .ok (fun s => s.trapAfter 0x69#7 0 (n.setWidth 64))

/-- ERET: the bundle commits, then the core returns from the trap (R271, R388). -/
def execEret (s : State) : Result :=
  issue s true .ok (fun s =>
    if s.cur.finished then s
    else
      let u := s.cur.u
      let s := s.finish
      match u with
      | .core k => s.trapReturn k
      | .ctx _ _ => s)

/-- TLBI's operand: zero fields, and VA zero with ALL (R389). -/
def tlbiCheck (v : W64) : Verdict := reservedIf (v.getLsbD 56 || decide (fld v 0 16 ≠ 0) || (v.getLsbD 57 && decide (fld v 16 40 ≠ 0)))

/-- An entry that TLBI removes (R389). -/
def tlbiHits (v : W64) (e : TlbE) : Bool :=
  decide (e.tenant = fld v 58 6) && (v.getLsbD 57 || decide (fld v 0 56 / 2 ^ e.lg = e.va / 2 ^ e.lg))

/-- Every holder of translations drops the entries that TLBI names: tile and cluster TLBs and the control cores' (R389). The page-walk units and
the engines hold none: they walk the table anew. -/
def State.tlbiAll (s : State) (v : W64) : State :=
  let keep := fun (l : List TlbE) => l.filter (fun e => !tlbiHits v e)
  { s with tiles := s.tiles.map (fun e => (e.1, { e.2 with tlb := keep e.2.tlb })),
           clusters := s.clusters.map (fun e => (e.1, { e.2 with tlb := keep e.2.tlb })),
           cores := s.cores.map (fun e => (e.1, { e.2 with tlb := keep e.2.tlb })) }

/-- A context holds an access of a tenant to device memory that has been translated and has not performed, those of a queued JOIN among them. -/
def Ctx.translated (y : Ctx) (mine : Bool) (tn : Nat) : Bool :=
  y.remote.any (fun r => !r.done && !gaTile r.addr && decide (r.tenant = tn))
    || (mine && y.hq.any (fun m => match m with | .joinCont a _ _ _ => !gaTile a | .joinDec a _ _ => !gaTile a | _ => false))

/-- Engine commands of a tenant that have translated and go on: copies that run with a side in device memory, Brush jobs that have begun (R389). -/
def Tile.engaged (x : Tile) (tn : Nat) : Bool :=
  x.copies.any (fun k => decide (k.2.tenant = tn) && decide (k.2.st = 1 ∨ k.2.st = 3) && (decide (cSSpace k.2.regs = 0) || decide (cDSpace k.2.regs = 0)))
    || x.brush.any (fun j => decide (j.tenant = tn) && j.started)

/-- Accesses that translated with an old entry have not all finished: those of the tenant in flight hold TLBI, its running copies, and its Brush and
Winnow jobs that run (R389). -/
def State.tlbiBusy (s : State) (tn : Nat) : Bool :=
  let busy := fun (x : Tile) => [x.c0, x.c1].any (fun y => y.translated (decide (x.tenant = some tn)) tn) || x.engaged tn
  s.tiles.any (fun e => busy e.2) || s.frames.any (fun f => busy f.tile)
    || s.clusters.any (fun e => match e.2.brushCur with | some w => decide (w.2.tenant = tn) | none => false)
    || s.dies.any (fun e => match e.2.winCur with | some w => decide (w.2.tenant = tn) | none => false)

/-- TLBI (R389). -/
def execTlbi (g : BitVec 6) (s : State) : Result :=
  let v := (s.thread s.cur.u).rg g.toNat
  issue s true ((tlbiCheck v).andThen (if s.tlbiBusy (fld v 58 6) then .held .tlbi else .ok)) (fun s => s.tlbiAll v)

/-- WFE: the bundle commits; the core then holds until an interrupt is pending (R390). -/
def execWfe (s : State) : Result :=
  issue s true .ok (fun s =>
    if s.cur.finished then s
    else
      let u := s.cur.u
      s.finish.holdUnit u .wfe)

end Sys2Proof.Machine
end

