-- ==== Sys2Proof/Machine/KeyValue.lean ====
section
/-! DEFINITION. The key-value unit: sequences (R211-R214), XLD and XINV (R215, R220), gathers (R216-R218), splice (R221-R225) and the prefix
index (R235-R237), with their instructions (R455-R458). -/

namespace Sys2Proof.Machine

/-! ## Sequences, extents, blocks, Seals (R211-R214) -/

/-- NEXT. -/
def dNext (d : BitVec 512) : Nat := fld d 64 8
/-- LAYERS. -/
def dLayers (d : BitVec 512) : Nat := fld d 72 8
/-- KVHEADS. -/
def dHeads (d : BitVec 512) : Nat := fld d 80 8
/-- D. -/
def dDim (d : BitVec 512) : Nat := 32 * fld d 88 8
/-- MODEL. -/
def dModel (d : BitVec 512) : Nat := fld d 128 48
/-- NTOK. -/
def dNtok (d : BitVec 512) : Nat := fld d 192 32
/-- The format of a key or value element. -/
def dFmt (d : BitVec 512) : Fmt := let t := fld d 96 8; if t = 0 then bf16 else if t = 1 then f16 else e4m3
/-- Bytes of an element. -/
def dSize (d : BitVec 512) : Nat := (dFmt d).width / 8
/-- RB (R211). -/
def dRb (d : BitVec 512) : Nat := dHeads d * dDim d * dSize d
/-- The size of a block (R213). -/
def dBlock (d : BitVec 512) : Nat := 64 + dLayers d * 128 * dRb d

/-- A descriptor that breaks R211. -/
def descBad (d : BitVec 512) : Bool :=
  let within := fun (v lo hi : Nat) => decide (lo ≤ v) && decide (v ≤ hi)
  decide (fld d 0 64 % 16 ≠ 0) || !within (dNext d) 1 32 || !within (dLayers d) 1 62 || !within (dHeads d) 1 64 || !within (fld d 88 8) 1 8
    || decide (2 < fld d 96 8) || decide (1 < fld d 104 8) || decide (fld d 112 16 ≠ 0) || decide (fld d 176 16 ≠ 0)
    || decide (2 ^ 20 < dNtok d) || decide (fld d 224 32 ≠ 0) || decide (fld d 256 64 % 4 ≠ 0) || decide (fld d 320 192 ≠ 0)

/-- LEN of an extent. -/
def eLen (e : BitVec 128) : Nat := fld e 64 24
/-- BASE. -/
def eBase (e : BitVec 128) : Nat := fld e 0 56
/-- GEN. -/
def eGen (e : BitVec 128) : Nat := fld e 56 6
/-- An extent that breaks R212. -/
def extBad (e : BitVec 128) : Bool :=
  decide (fld e 62 2 ≠ 0) || decide (fld e 94 2 ≠ 0) || decide (eBase e % 64 ≠ 0) || decide (fld e 96 32 % 64 ≠ 0) || decide (eLen e = 0)
    || decide (2 ^ 20 < eLen e)

/-- n words of 16 bytes. -/
def words16 : Nat → List Byte → List (BitVec 128)
  | 0, _ => []
  | n + 1, l => BitVec.ofNat 128 (ofBytes (l.take 16)) :: words16 n (l.drop 16)

/-- A sequence as R215 reads it: its descriptor and its extents, or the cause of a failure. -/
def State.loadSeq (s : State) (wk : Walker) (tn va : Nat) : Except Cause (BitVec 512 × List (BitVec 128)) :=
  match s.vaReadLong wk tn va 64 with
  | .error c => .error c
  | .ok l =>
    let d := BitVec.ofNat 512 (ofBytes l)
    if descBad d then .error 0x55#7
    else
      match s.vaReadLong wk tn (fld d 0 64) (16 * dNext d) with
      | .error c => .error c
      | .ok m =>
        let es := words16 (dNext d) m
        if es.any extBad || decide ((es.map eLen).foldl (· + ·) 0 ≠ dNtok d) then .error 0x55#7 else .ok (d, es)

/-- Translate(p): the block, the slot, and the generation of its extent (R213). -/
def kvPlace : List (BitVec 128) → Nat → Option (Nat × Nat × Nat)
  | [], _ => none
  | e :: l, p =>
    if p < eLen e then
      let u := fld e 88 6 + p
      some (eBase e + u / 64 * fld e 96 32, u % 64, eGen e)
    else kvPlace l (p - eLen e)

/-- The address of a key row (R213). -/
def kvKey (d : BitVec 512) (l blk slot : Nat) : Nat := blk + 64 + l * 128 * dRb d + slot * dRb d
/-- The address of a value row (R213). -/
def kvValue (d : BitVec 512) (l blk slot : Nat) : Nat := kvKey d l blk slot + 64 * dRb d

/-- WMARK of a Seal. -/
def sealMark (w : Nat) : Nat := bits w 116 6
/-- POSBASE of a Seal. -/
def sealPos (w : Nat) : Nat := bits w 96 20

/-- The first three checks of R217 on the Seal of the block that holds position p. -/
def sealCause (w model gen slot p : Nat) : Option Cause :=
  if bits w 0 48 ≠ model then some 0x51#7
  else if bits w 122 6 ≠ gen then some 0x50#7
  else if (sealPos w + slot) % 2 ^ 20 ≠ p then some 0x51#7
  else none

/-- Layer l is visible (R214). -/
def sealVisible (w l : Nat) : Bool := decide (sealMark w ≠ 0x3F) && decide (l ≤ sealMark w)

/-- The Seal of a block. -/
def State.readSeal (s : State) (wk : Walker) (tn blk : Nat) : Except Cause Nat :=
  match s.vaRead wk tn (blk % 2 ^ 64) 16 with
  | .ok l => .ok (ofBytes l)
  | .error c => .error c

/-- The Seal of position p's block, checked (R217): whether layer l is visible. -/
def State.checkSeal (s : State) (wk : Walker) (tn : Nat) (d : BitVec 512) (es : List (BitVec 128)) (l p : Nat) : Except Cause Bool :=
  match kvPlace es p with
  | none => .error 0x58#7
  | some (blk, slot, gen) =>
    match s.readSeal wk tn blk with
    | .error c => .error c
    | .ok w => match sealCause w (dModel d) gen slot p with | some c => .error c | none => .ok (sealVisible w l)

/-! ## The queue (R219) -/

/-- A command at the end of the key-value queue of the context in hand. -/
def State.pushKq (s : State) (k : KCmd) : State := s.modCurCtx (fun y => { y with kq := y.kq ++ [k] })

/-- A prefix lookup that runs, which others overlap (R219). -/
def Ctx.lookup (y : Ctx) (k : KCmd) : Bool := match k with | .pfx 0 _ _ _ _ => (y.kvRun k).isSome | _ => false

/-- No gather or lookup of context c is incomplete. -/
def Tile.kvIdle (x : Tile) (c : Nat) : Bool := !(x.gathers.any (fun g => decide (g.ctx = c))) && !((x.ctx c).kq.any (x.ctx c).lookup)

/-- A gather of context c holds the queue (R218). -/
def Tile.kvHeld (x : Tile) (c : Nat) : Bool := x.gathers.any (fun g => decide (g.ctx = c) && g.held)

/-- The first command of the queue behind the lookups that run. -/
def Ctx.kvNext (y : Ctx) : Option KCmd := y.kq.find? (fun k => !y.lookup k)

/-- The command that may be accepted: those before it are, and have completed unless overlap is allowed (R219). -/
def State.kvHead (s : State) (t c : Nat) (overlap : Bool) : Option KCmd :=
  let x := s.tile t
  if x.cutting || x.kvHeld c || (!overlap && !x.kvIdle c) then none
  else match (x.ctx c).kvNext with
    | some k => if (x.ctx c).stepped k then none else some k
    | none => none

/-- The command of the queue that runs, lookups apart, and how far it has come. -/
def State.kvCur (s : State) (t c : Nat) : Option (KCmd × KRun) :=
  match (s.ctx t c).kvNext with
  | some k => ((s.ctx t c).kvRun k).map (fun r => (k, r))
  | none => none

/-- Command id of context c has come so far. -/
def State.kvSet (s : State) (t c id : Nat) (r : KRun) : State := s.modCtx t c (fun y => { y with kruns := mput y.kruns id r })

/-- Command id has read and written what it reads and writes; its end is left, with its error. -/
def State.kvEnd (s : State) (t c id : Nat) (e : Option Cause) : State := s.kvSet t c id (.puts [] none e)

/-- The number of a command. -/
def KCmd.num : KCmd → Option Nat
  | .rep _ _ id _ _ => some id
  | .kvg _ _ id _ _ => some id
  | .xinv _ _ _ id _ => some id
  | k => k.runId

/-- A report leaves the queue as a remote access of its own task, which has ended where another has started behind it (R457). -/
def State.addReport (s : State) (t c : Nat) (tag word : W64) (id gid node : Nat) : State :=
  let behind := (s.ctx t c).kq.any (fun k => decide (k = .clear))
  (s.addRemoteAs id t c .report tag 0 0 3 (word.setWidth 1024) 0 (BitVec.allOnes 128)).modCtx t c (fun y => { y with
    kq := y.kq.filter (fun k => decide (k.num ≠ some id)),
    remote := y.remote.map (fun r => if r.id = id then { r with gid := gid, node := node, ended := r.ended || behind } else r) })

/-- The first command of the queue executes where that takes no other step: an RPRSET, or the clearing for a new task, once every earlier command has
completed (R219, R226); a report, once those before it are accepted and its twin's has left (R279, R457). CSEQ counts an RPRSET (R282). -/
def State.kvStep (s : State) (t c : Nat) : Option State :=
  let x := s.tile t
  if x.cutting then none
  else
    match (x.ctx c).kvNext with
    | some (.rprset e l h) =>
      if x.kvIdle c then some ((s.modCtx t c (fun y => { y with repEntry := e, repLc := l, devThr := h, kq := y.kq.drop 1 })).counted t 1) else none
    | some .clear => if x.kvIdle c then some (s.modCtx t c (fun y => { y with repEntry := 0, repLc := 0, devThr := 0, kq := y.kq.drop 1 })) else none
    | some (.rep tag w id gid node) =>
      if x.kvHeld c || (s.second t c && (s.twinAccess t c .report).isNone) then none else some (s.addReport t c tag w id gid node)
    | _ => none

/-- At most n such commands execute. -/
def State.kvSteps : Nat → State → Nat → Nat → State
  | 0, s, _, _ => s
  | n + 1, s, t, c =>
    match s.kvStep t c with
    | some s => State.kvSteps n s t c
    | none => s

/-- Such commands execute until one waits. -/
def State.kvFlush (s : State) (t c : Nat) : State := State.kvSteps ((s.ctx t c).kq.length + 1) s t c

/-- Command id leaves the queue of its context. -/
def State.popKq (s : State) (t c id : Nat) : State :=
  (s.modCtx t c (fun y => { y with kq := y.kq.filter (fun k => decide (k.num ≠ some id)), kruns := merase y.kruns id })).kvFlush t c

/-- Command id of the queue completes (R144, R470). -/
def State.kvDone (s : State) (t c id bw : Nat) (e : Option Cause) : State := (s.engineDone t id bw 64 e).popKq t c id

/-! ## XLD and XINV (R215, R220, R455) -/

/-- The checks of XLD and XINV (R444, R455). -/
def kvCheck (s : State) (gb g : BitVec 6) : Verdict := (spOperand (s.g gb) 8).both (faultIf (decide ((s.g g).toNat % 64 ≠ 0)) 0x24#7)

/-- XLD (R455). -/
def execXld (gb g : BitVec 6) (s : State) : Result :=
  issue s true (kvCheck s gb g) (fun s =>
    let n := s.stamp
    (n.2.pushKq (.xld (s.g g) (fld (s.g gb) 0 20) n.1)).paired n.1)

/-- XINV (R455). -/
def execXinv (gb g : BitVec 6) (s : State) : Result :=
  issue s true (kvCheck s gb g) (fun s =>
    let n := s.stamp
    (n.2.pushKq (.xinv (s.g g) (fld (s.g gb) 0 20) s.cur.scope n.1 none)).paired n.1)

/-- A VALID entry of a tag. -/
def TEntry.valid (e : TEntry) (tn : Nat) (tag : W64) : Bool := decide (e.tenant = tn) && decide (e.tag = tag) && !e.retiring

/-- A use of the VALID entry of a tag, by number n (R150); what counts as one is the model's choice (log entry 80). -/
def Tile.touch (x : Tile) (tn : Nat) (tag : W64) (n : Nat) : Tile :=
  { x with tcache := x.tcache.map (fun e => if e.valid tn tag then { e with stamp := n } else e) }

/-- The cache with room for one more entry: the least recently used VALID entry without holders leaves a full one (R150). -/
def roomForEntry (l : List TEntry) : Option (List TEntry) :=
  if l.length < 16 then some l
  else
    let free := l.filter (fun e => !e.retiring && e.holders.isEmpty)
    match free.find? (fun e => free.all (fun f => decide (e.stamp ≤ f.stamp))) with
    | none => none
    | some v => some (l.filter (fun e => decide (e ≠ v)))

/-- An XLD that has been accepted finds its entry, or reads the sequence and installs one; where its place has gone to another, it waits again
(R150, R215). -/
def State.xldRead (s : State) (t c : Nat) (tag : W64) (id : Nat) : State :=
  let x := s.tile t
  let tn := x.tenant.getD 0
  let n := s.stamp
  if x.tcache.any (fun e => e.valid tn tag) then (n.2.modTile t (fun x => x.touch tn tag n.1)).kvEnd t c id none
  else
    match roomForEntry x.tcache with
    | none => s.modCtx t c (fun y => { y with kruns := merase y.kruns id })
    | some l =>
      match s.loadSeq (.tile t) tn tag.toNat with
      | .error e =>
        if e = walkBusy then s
        else (s.readMets (fun s => s.loadSeq (.tile t) tn tag.toNat)).kvEnd t c id (some e)
      | .ok (d, es) =>
        let e : TEntry := { tag := tag, tenant := tn, retiring := false, desc := d, extents := es, holders := [], stamp := n.1, waiter := none }
        (n.2.modTile t (fun x => { x with tcache := l ++ [e] })).kvEnd t c id none

/-- XLD_EXECUTE: the XLD of a context is accepted once its entry stands or has room, reads, and completes, each in a step of its own (R215, R470). -/
def State.xldExecute (s : State) (t c : Nat) : State :=
  let x := s.tile t
  match s.kvCur t c, s.kvHead t c false with
  | some (.xld _ bw id, .puts _ _ e), _ => if x.lingers id then s else s.kvDone t c id bw e
  | some (.xld tag _ id, _), _ => s.xldRead t c tag id
  | none, some (.xld tag _ id) =>
    if x.tcache.any (fun e => e.valid (x.tenant.getD 0) tag) || (roomForEntry x.tcache).isSome then s.kvSet t c id .taken else s
  | _, _ => s

/-- XLD_EXECUTE (R215). -/
def execXldExecute (t c : Nat) (s : State) : Result := .next (s.xldExecute t c)

/-- The scope at which one tile sees another (R363). -/
def tileScope (t u : Nat) : Nat := if t = u then 0 else if clusterOf t = clusterOf u then 1 else if dieOf t = dieOf u then 2 else 3

/-- The VALID entries of a tag become RETIRING for the XINV of number n; those without holders are freed at once. -/
def retire (tn : Nat) (tag : W64) (n : Nat) (l : List TEntry) : List TEntry :=
  (l.map (fun e => if e.valid tn tag then { e with retiring := true, waiter := some n } else e)).filter (fun e => !e.retiring || !e.holders.isEmpty)

/-- XINV_STEP: one step on every tile of the tenant within the scope, saved ones included; with no VALID entry the command completes (R220). -/
def State.xinvStep (s : State) (t c : Nat) : State :=
  match s.kvHead t c false with
  | some (.xinv tag bw scope id none) =>
    let tn := (s.tile t).tenant.getD 0
    let n := s.stamp
    let near := fun (u : Nat) (x : Tile) => decide (tileScope t u ≤ scope) && decide (x.tenant = some tn)
    let hit := s.tiles.any (fun e => near e.1 e.2 && e.2.tcache.any (fun k => k.valid tn tag))
      || s.frames.any (fun f => near f.tileNo f.tile && f.tile.tcache.any (fun k => k.valid tn tag))
    let act := fun (x : Tile) => { x with tcache := retire tn tag n.1 x.tcache }
    let ts := n.2.tiles.map (fun (e : Nat × Tile) => (e.1, if near e.1 e.2 then act e.2 else e.2))
    let fs := n.2.frames.map (fun (f : Frame) => if near f.tileNo f.tile then { f with tile := act f.tile } else f)
    let s := { n.2 with tiles := ts, frames := fs }
    if hit then s.modCtx t c (fun y => { y with kq := .xinv tag bw scope id (some n.1) :: y.kq.drop 1 })
    else if (s.tile t).lingers id then s
    else s.kvDone t c id bw none
  | _ => s

/-- XINV_STEP (R220). -/
def execXinvStep (t c : Nat) (s : State) : Result := .next (s.xinvStep t c)

/-- XINV_COMPLETE: every entry that the step retired has been freed (R220). -/
def State.xinvComplete (s : State) (t c : Nat) : State :=
  match (s.ctx t c).kq with
  | .xinv _ bw _ id (some n) :: _ =>
    let left := fun (x : Tile) => x.tcache.any (fun e => decide (e.waiter = some n))
    if s.tiles.any (fun e => left e.2) || s.frames.any (fun f => left f.tile) || (s.tile t).lingers id then s
    else s.kvDone t c id bw none
  | _ => s

/-- XINV_COMPLETE (R220). -/
def execXinvComplete (t c : Nat) (s : State) : Result := .next (s.xinvComplete t c)

/-! ## Gathers (R216-R218, R456) -/

/-- Zero fields and reserved values of a gather block (R456). -/
def gatherReserved (b : BitVec 256) : Bool :=
  decide (fld b 56 8 ≠ 0) || decide (62 ≤ fld b 64 6) || decide (fld b 70 2 = 3) || decide (fld b 73 23 ≠ 0) || decide (fld b 116 12 ≠ 0)
    || decide (fld b 140 20 ≠ 0) || decide (fld b 180 12 ≠ 0) || decide (fld b 224 32 ≠ 0)

/-- A command block of n bytes in device memory, as the bundle's load finds it (R444). -/
def State.cmdBlock (s : State) (g : BitVec 6) (n : Nat) : Target × Nat :=
  let t := s.vaccess s.cur.u (s.g g) n .read
  (t, s.memNat t.pa n)

/-- KVG (R456). -/
def execKvg (h : BitVec 5) (g : BitVec 6) (s : State) : Result :=
  let b := BitVec.ofNat 256 (s.cmdBlock g 32).2
  issue s true ((s.cmdBlock g 32).1.verdict.andThen ((reservedIf (gatherReserved b)).both (spOperand (BitVec.ofNat 64 (fld b 160 20)) 8))) (fun s =>
    let b := BitVec.ofNat 256 (s.cmdBlock g 32).2
    let n := s.stamp
    let k := s.curNode
    ((n.2.modCurTile (fun x => x.nameCmd (s.instOf h) n.1 true)).pushKq (.kvg b (s.instOf h) n.1 k.1 k.2)).paired n.1)

/-- LAYER. -/
def Gather.layer (g : Gather) : Nat := fld g.block 64 6
/-- PART. -/
def Gather.part (g : Gather) : Nat := fld g.block 70 2
/-- NOWAIT. -/
def Gather.nowait (g : Gather) : Bool := g.block.getLsbD 72
/-- P0. -/
def Gather.p0 (g : Gather) : Nat := fld g.block 96 20
/-- Positions. -/
def Gather.n (g : Gather) : Nat := fld g.block 128 12 + 1
/-- Rows per position. -/
def Gather.k (g : Gather) : Nat := if g.part = 2 then 2 else 1
/-- Declared bytes (R218). -/
def Gather.bytes (g : Gather) : Nat := g.k * g.n * dRb g.desc
/-- DOFF. -/
def Gather.doff (g : Gather) : Nat := fld g.block 192 32

/-- Why an accepted gather fails before it starts (R216, R218). -/
def Gather.cause (g : Gather) (h : HEntry) : Option Cause :=
  if dLayers g.desc ≤ g.layer ∨ dNtok g.desc < g.p0 + g.n then some 0x58#7
  else if h.kind = 0#2 then some 0x27#7
  else if h.kind = 1#2 then (if g.doff % 16 ≠ 0 ∨ h.size < g.doff + g.bytes then some 0x55#7 else none)
  else if g.doff ≠ 0 ∨ h.size < dRb g.desc ∨ h.rows < g.k * g.n then some 0x55#7
  else none

/-- GATHER_ACCEPT: the gather at the head of a context's queue is checked and translated in one step, once its destination admits it (R216). A
ring with too few rows for it fails it at once. -/
def State.gatherAccept (s : State) (t c : Nat) : State :=
  match s.kvHead t c true with
  | some (.kvg b inst id gid node) =>
    let x := s.tile t
    let tn := x.tenant.getD 0
    let h := x.inst inst
    let tag := BitVec.ofNat 64 (fld b 0 56)
    let g : Gather :=
      { id := id, ctx := c, tenant := tn, block := b, inst := inst, desc := 0, exts := [], next := 0, held := false, fail := none, done := false,
        gid := gid, node := node }
    let rows := if h.kind = 2#2 then g.k * g.n else 1
    let fits := decide (h.kind = 0#2) || (decide (h.kind = 2#2) && decide (h.rows < rows)) || h.canWrite id rows
    let put := fun (s : State) (g : Gather) => (s.modTile t (fun x => { x with gathers := x.gathers ++ [g] })).popKq t c id
    if !fits then s
    else
      match x.tcache.find? (fun e => e.valid tn tag) with
      | none => put s { g with fail := some 0x59#7, done := true }
      | some e =>
        let g := { g with desc := e.desc, exts := e.extents }
        match g.cause h with
        | some f => put s { g with fail := some f, done := true }
        | none =>
          let n := s.stamp
          let hold := fun (x : Tile) => { x with tcache := x.tcache.map (fun e =>
            if e.valid tn tag then { e with holders := e.holders ++ [id], stamp := n.1 } else e) }
          put (n.2.modTile t (fun x => hold (x.modInst inst (fun h => h.startWrite id rows)))) g
  | _ => s

/-- GATHER_ACCEPT (R216). -/
def execGatherAccept (t c : Nat) (s : State) : Result := .next (s.gatherAccept t c)

/-- Offsets from one up that lie in the same block under the same generation: the offset, the block, the slot. -/
def Gather.runAt (g : Gather) (i : Nat) : List (Nat × Nat × Nat) :=
  let place := fun (i : Nat) => kvPlace g.exts (g.p0 + i)
  match place i with
  | none => []
  | some (blk, _, gen) =>
    ((upto i (g.n - i)).takeWhile (fun i => match place i with | some p => decide (p.1 = blk ∧ p.2.2 = gen) | none => false)).filterMap
      (fun i => (place i).map (fun p => (i, p.1, p.2.1)))

/-- The block that a gather has reached. -/
def Gather.run (g : Gather) : List (Nat × Nat × Nat) := g.runAt g.next

/-- The first offsets of the blocks of a gather's range from offset i up, at most n of them. -/
def Gather.starts (g : Gather) : Nat → Nat → List Nat
  | 0, _ => []
  | n + 1, i => if g.n ≤ i then [] else i :: g.starts n (i + max 1 (g.runAt i).length)

/-- One row of a gather goes to its place: part 0 a key, 1 a value; a ring takes its next row (R218), which a later step counts (R470). -/
def Tile.gatherRow (x : Tile) (g : Gather) (i part : Nat) (l : List Byte) : Tile :=
  let h := x.inst g.inst
  if h.kind = 1#2 then
    x.padWrite (h.wbase g.id + g.doff + (i + (if g.part = 2 ∧ part = 1 then g.n else 0)) * dRb g.desc) l
  else (x.padWrite (h.wbase g.id) l).modInst g.inst (fun h => { h with wres := rowDone g.id h.wres })

/-- The rows that a gather takes at one position: where each lies. -/
def Gather.sources (g : Gather) (blk slot : Nat) : List (Nat × Nat) :=
  (if g.part = 1 then [] else [(0, kvKey g.desc g.layer blk slot)]) ++ (if g.part = 0 then [] else [(1, kvValue g.desc g.layer blk slot)])

/-- The rows of a run of positions are copied, up to the first that cannot be read. -/
def State.gatherRows (s : State) (t : Nat) (g : Gather) (l : List (Nat × Nat × Nat)) : State × Option Cause :=
  (l.flatMap (fun e => (g.sources e.2.1 e.2.2).map (fun p => (e.1, p)))).foldl (fun (a : State × Option Cause) e =>
    match a.2 with
    | some _ => a
    | none =>
      match a.1.vaReadLong (.tile t) g.tenant (e.2.2 % 2 ^ 64) (dRb g.desc) with
      | .error c => (a.1, some c)
      | .ok r => (a.1.modTile t (fun x => x.gatherRow g e.1 e.2.1 r), none)) (s, none)

/-- The Seal of the block that a gather takes at offset i, checked for every slot of the range in it, and then for its watermark (R217). -/
def State.blockSeal (s : State) (wk : Walker) (g : Gather) (i : Nat) : Except Cause Bool :=
  match ((i :: ((g.runAt i).map Prod.fst).drop 1).mapM (fun k => s.checkSeal wk g.tenant g.desc g.exts g.layer (g.p0 + k))) with
  | .error c => .error c
  | .ok l => if l.all id then .ok true else if g.nowait then .error 0x5A#7 else .ok false

/-- The Seals that a gather checks before the block it has reached: with NOWAIT those of its whole range, before its first byte (R217). -/
def State.gatherSeals (s : State) (wk : Walker) (g : Gather) : Except Cause Bool :=
  let l := if g.nowait then (if g.next = 0 then g.starts g.n 0 else []) else [g.next]
  match l.mapM (s.blockSeal wk g) with
  | .error c => .error c
  | .ok l => .ok (l.all id)

/-- The tile with a gather replaced. -/
def Tile.setGather (x : Tile) (g : Gather) : Tile := { x with gathers := x.gathers.map (fun o => if o.id = g.id then g else o) }

/-- Why a gather fails in its next block, where it does. -/
def State.gatherFails (s : State) (t : Nat) (g : Gather) : Option Cause :=
  match s.gatherSeals (.tile t) g with
  | .error e => some e
  | .ok false => none
  | .ok true => (s.gatherRows t g g.run).2

/-- GATHER_BLOCK: the oldest unfinished gather of a context takes one block, the rows it wrote before being counted, holds on a layer not visible, where one of a node that has failed or was
killed is discarded (R106, R218), or fails; it holds its translation
until its last byte (R216, R217). -/
def State.gatherBlock (s : State) (t c : Nat) : State :=
  match (s.tile t).gathers.find? (fun g => decide (g.ctx = c) && !g.done) with
  | none => s
  | some g =>
    let finish := fun (s : State) (g : Gather) => s.modTile t (fun x => (x.setGather { g with held := false, done := true }).endHold g.id)
    let s := s.modTile t (fun x => x.modInst g.inst HEntry.settle)
    let fails := s.gatherFails t g
    if (g.held && (s.tile t).cutting) || decide (fails = some walkBusy) then s
    else
      match s.gatherSeals (.tile t) g with
      | .error e => finish (s.metIn s (fun s => s.gatherFails t g)) { g with fail := some e }
      | .ok false =>
        if s.takesWork g.gid g.node then s.modTile t (fun x => x.setGather { g with held := true })
        else s.modTile t (fun x => { (x.discardCmd g.id).endHold g.id with gathers := x.gathers.filter (fun o => decide (o.id ≠ g.id)) })
      | .ok true =>
        let l := g.run
        match s.gatherRows t g l with
        | (r, some e) => finish (r.metIn s (fun s => s.gatherFails t g)) { g with fail := some e }
        | (s, none) =>
          let g := { g with next := g.next + max 1 l.length, held := false }
          (if g.n ≤ g.next then finish s g else s.modTile t (fun x => x.setGather g)).kvFlush t c

/-- GATHER_BLOCK (R217). -/
def execGatherBlock (t c : Nat) (s : State) : Result := .next (s.gatherBlock t c)

/-- GATHER_COMPLETE: declared bytes on every outcome; all of PEND where no translation gives them (R218). -/
def State.gatherComplete (s : State) (t c : Nat) : State :=
  match (s.tile t).gathers.find? (fun g => decide (g.ctx = c) && g.done && !(s.tile t).lingers g.id) with
  | none => s
  | some g =>
    let bw := fld g.block 160 20
    let n := if g.fail = some 0x59#7 then (s.tile t).padNat bw 4 else g.bytes
    ((s.modTile t (fun x => { x with gathers := x.gathers.filter (fun o => decide (o.id ≠ g.id)) })).engineDone t g.id bw n g.fail).kvFlush t c

/-- GATHER_COMPLETE (R218). -/
def execGatherComplete (t c : Nat) (s : State) : Result := .next (s.gatherComplete t c)

/-! ## Splice (R221-R225, R502) -/

/-- SPLC (R455). -/
def execSplc (h : BitVec 5) (g : BitVec 6) (s : State) : Result :=
  issue s true (recordOp h g s) (fun s =>
    let n := s.stamp
    (n.2.modCurTile (fun x => x.nameCmd (s.instOf h) n.1 false)).pushKq (.splc (s.instOf h) (fld (s.g g) 0 20) n.1) |>.paired n.1)

/-- n. -/
def Splice.n (p : Splice) : Nat := dNtok p.doc
/-- m. -/
def Splice.m (p : Splice) : Nat := dNtok p.seq - p.pos
/-- Destination blocks of the document. -/
def Splice.docBlocks (p : Splice) : Nat := (p.n + 63) / 64

/-- The extents below POS, the last one truncated where it crosses POS (R221, R502). -/
def keepExtents : List (BitVec 128) → Nat → List (BitVec 128)
  | [], _ => []
  | e :: l, pos =>
    if eLen e ≤ pos then e :: keepExtents l (pos - eLen e)
    else if pos = 0 then [] else [BitVec.ofNat 128 (setBits e.toNat 64 24 pos)]

/-- The extent over some destination entries, or none where they lie at no one distance or carry two generations (R502). -/
def destExtent (size len : Nat) (l : List Nat) : Option (BitVec 128) :=
  let a := l.map (fun e => bits e 0 56)
  let step := match a with | x :: y :: _ => (y : Int) - x | _ => (size : Int)
  let even := (a.zip (a.drop 1)).all (fun p => decide ((p.2 : Int) - p.1 = step))
  let gen := bits (l.headD 0) 56 6
  if !even || decide (step < 0) || decide (2 ^ 32 ≤ step) || l.any (fun e => decide (bits e 56 6 ≠ gen)) then none
  else some (BitVec.ofNat 128 (a.headD 0 + gen * 2 ^ 56 + len * 2 ^ 64 + step.toNat * 2 ^ 96))

/-- n numbers of z bytes. -/
def numbers (z : Nat) : Nat → List Byte → List Nat
  | 0, _ => []
  | n + 1, l => ofBytes (l.take z) :: numbers z n (l.drop z)

/-- The checks of R222 that read no Seal, in the order of its table: the plan, or the cause. -/
def State.splicePlan (s : State) (wk : Walker) (tn : Nat) (r : BitVec 512) : Except Cause Splice :=
  let a := fun (o : Nat) => fld r o 64
  let nfree := fld r 192 32
  let pos := fld r 224 32
  if a 0 % 64 ≠ 0 ∨ a 64 % 64 ≠ 0 ∨ a 256 % 16 ≠ 0 ∨ a 320 % 8 ≠ 0 ∨ a 384 % 16 ≠ 0 ∨ a 448 ≠ 0 ∨ nfree = 0 ∨ 4096 < nfree then .error 0x55#7
  else
    match s.loadSeq wk tn (a 0), s.loadSeq wk tn (a 64) with
    | .error c, _ => .error c
    | _, .error c => .error c
    | .ok (d, es), .ok (dd, des) =>
      let n := dNtok dd
      let m := dNtok d - pos
      let nb := (n + 63) / 64
      let b := nb + (m + 63) / 64
      if dNtok d < pos ∨ nfree < b ∨ fld d 72 40 ≠ fld dd 72 40 then .error 0x55#7
      else
        match s.vaReadLong wk tn (fld d 256 64) (2 * dDim d), s.vaReadLong wk tn (a 128) (8 * b) with
        | .error c, _ => .error c
        | _, .error c => .error c
        | .ok fl, .ok dl =>
          let th := numbers 4 (dDim d / 2) fl
          let dest := numbers 8 b dl
          let docE := destExtent (dBlock d) n (dest.take nb)
          let tailE := if m = 0 then some [] else (destExtent (dBlock d) m (dest.drop nb)).map (fun e => [e])
          if th.any (fun x => !(f32.val x).finite) || dest.any (fun e => decide (bits e 62 2 ≠ 0) || decide (bits e 0 56 % 64 ≠ 0)) then .error 0x55#7
          else
            match docE, tailE with
            | some e, some l =>
              .ok { record := r, seq := d, exts := es, doc := dd, docEx := des, pos := pos, dest := dest, new := keepExtents es pos ++ [e] ++ l, theta := th }
            | _, _ => .error 0x55#7

/-- The later checks of R222: MODEL, the document's Seals, their watermarks, and the sizes. -/
def State.spliceSeals (s : State) (wk : Walker) (tn : Nat) (p : Splice) : Option Cause :=
  let seals := (List.range p.n).map (fun j => (j, kvPlace p.docEx j))
  let bad := seals.findSome? (fun e => match e.2 with
    | none => some 0x55#7
    | some (blk, slot, gen) => match s.readSeal wk tn blk with
      | .error c => some c
      | .ok w => sealCause w (dModel p.doc) gen slot e.1)
  let unfinished := seals.any (fun e => match e.2 with
    | some (blk, _, _) => (match s.readSeal wk tn blk with | .ok w => decide (sealMark w ≠ 0x3E) | .error _ => false)
    | none => false)
  if dModel p.seq ≠ dModel p.doc then some 0x51#7
  else match bad with
    | some c => some c
    | none =>
      if unfinished then some 0x53#7
      else if 32 < p.new.length ∨ 2 ^ 20 < dNtok p.seq + p.n then some 0x52#7
      else none

/-- Cosine and sine of each pair for a shift of positions, or none where an angle is out of range (R224). -/
def rotation (theta : List Nat) (delta : Int) : Option (List (Nat × Nat)) :=
  theta.mapM (fun th =>
    let ang := round32 ((fvOfInt delta).mul (f32.val th)).1
    if (f32.val ang).abs.lt (fvPow2 24) then some ((specialFn 6 ang).1, (specialFn 5 ang).1) else none)

/-- One element of a head's key turned: its pattern, and whether it was clamped (R224). -/
def rotElem (d : BitVec 512) (rot : List (Nat × Nat)) (key : List Nat) (e : Nat) : Nat × Bool :=
  let half := dDim d / 2
  let pair := if fld d 104 8 = 0 then (e / 2, e / 2 * 2, e / 2 * 2 + 1) else (e % half, e % half, e % half + half)
  let cs := nth (0, 0) rot pair.1
  let f := dFmt d
  let x := f.val (nth 0 key pair.2.1)
  let y := f.val (nth 0 key pair.2.2)
  let c := f32.val cs.1
  let sn := f32.val cs.2
  let v := if e = pair.2.1 then FV.add .rne (x.mul c).1 (y.mul sn).1.neg else FV.add .rne (x.mul sn).1 (y.mul c).1
  let r := f.deliver .rne true v.1
  (r.1, r.2.sat)

/-- A key row turned by a shift of positions: its bytes, and the elements clamped; a forced one and one that does not move are copied (R224). -/
def rerotate (d : BitVec 512) (delta : Int) (rot : Option (List (Nat × Nat))) (row : List Byte) : List Byte × Nat :=
  match rot with
  | none => (row, 0)
  | some rot =>
    if delta = 0 then (row, 0)
    else
      let z := dSize d
      let heads := (List.range (dHeads d)).map (fun h => numbers z (dDim d) (row.drop (h * dDim d * z)))
      let o := heads.flatMap (fun k => (List.range (dDim d)).map (rotElem d rot k))
      (o.flatMap (fun e => toBytes z e.1), (o.filter (fun e => e.2)).length)

/-- Where token j of the n + m moved ones lies now: its block and its slot (R223). -/
def Splice.source (p : Splice) (j : Nat) : Nat × Nat :=
  match (if j < p.n then kvPlace p.docEx j else kvPlace p.exts (p.pos + j - p.n)) with
  | some (blk, slot, _) => (blk, slot)
  | none => (0, 0)

/-- The shift of token j: a document token by its new position less its own, a tail token by n (R223). -/
def State.spliceDelta (s : State) (wk : Walker) (tn : Nat) (p : Splice) (j : Nat) : Except Cause Int :=
  if p.n ≤ j then .ok (p.n : Int)
  else
    match s.readSeal wk tn (p.source j).1 with
    | .error c => .error c
    | .ok w => .ok (((p.pos + j : Nat) : Int) - ((sealPos w + (p.source j).2) % 2 ^ 20 : Nat))

/-- The tokens of destination block b, slot 0 first (R223). -/
def Splice.tokens (p : Splice) (b : Nat) : List Nat :=
  if b < p.docBlocks then upto (64 * b) (min 64 (p.n - 64 * b))
  else upto (p.n + 64 * (b - p.docBlocks)) (min 64 (p.m - 64 * (b - p.docBlocks)))

/-- The key row of token j at layer l, turned, with the elements clamped. -/
def State.spliceKey (s : State) (wk : Walker) (tn : Nat) (p : Splice) (l j : Nat) : Except Cause (List Byte × Nat) :=
  match s.spliceDelta wk tn p j with
  | .error c => .error c
  | .ok delta =>
    match s.vaReadLong wk tn (kvKey p.seq l (p.source j).1 (p.source j).2 % 2 ^ 64) (dRb p.seq) with
    | .error c => .error c
    | .ok row => .ok (rerotate p.seq delta (rotation p.theta delta) row)

/-- The value row of token j at layer l. -/
def State.spliceValue (s : State) (wk : Walker) (tn : Nat) (p : Splice) (l j : Nat) : Except Cause (List Byte × Nat) :=
  match s.vaReadLong wk tn (kvValue p.seq l (p.source j).1 (p.source j).2 % 2 ^ 64) (dRb p.seq) with
  | .error c => .error c
  | .ok row => .ok (row, 0)

/-- The Seal of destination block b (R223). -/
def State.spliceSeal (s : State) (wk : Walker) (tn : Nat) (p : Splice) (b : Nat) : Except Cause Nat :=
  let j := (p.tokens b).headD 0
  match s.readSeal wk tn (p.source j).1 with
  | .error c => .error c
  | .ok w =>
    .ok (dModel p.seq + bits w 48 48 * 2 ^ 48 + (p.pos + j) % 2 ^ 20 * 2 ^ 96 + 0x3F * 2 ^ 116 + bits (nth 0 p.dest b) 56 6 * 2 ^ 122)

/-- The rows of one part of a layer of a destination block: those of its tokens, then zeros. -/
def spliceRows (p : Splice) (b : Nat) (row : Nat → Except Cause (List Byte × Nat)) : Except Cause (List Byte × Nat) :=
  match (p.tokens b).mapM row with
  | .error c => .error c
  | .ok l =>
    .ok (l.flatMap Prod.fst ++ List.replicate ((64 - (p.tokens b).length) * dRb p.seq) 0#8, (l.map Prod.snd).foldl (· + ·) 0)

/-- The tokens that are forced (R224). -/
def State.spliceForced (s : State) (wk : Walker) (tn : Nat) (p : Splice) : List Nat :=
  (List.range (p.n + p.m)).filter (fun j =>
    match s.spliceDelta wk tn p j with | .ok d => decide (d ≠ 0) && (rotation p.theta d).isNone | .error _ => false)

/-- The bytes that hold n mark bits of l, the bits beyond them as old has them. -/
def markBytes (n : Nat) (l : List Nat) (old : Byte) : List Byte :=
  let k := (n + 7) / 8
  let v := l.foldl (fun a j => a + 2 ^ j) 0
  toBytes k (v + (if n % 8 = 0 then 0 else old.toNat / 2 ^ (n % 8) * 2 ^ n))

/-- A splice's counts as its result gives them (R225). -/
def spliceResult (p : Splice) (forced sat : Nat) : Nat :=
  p.dest.length * 2 ^ 32 + p.n * 2 ^ 64 + p.m * 2 ^ 96 + forced * 2 ^ 128 + sat * 2 ^ 160 + (if 0 < forced then 0x57 * 2 ^ 8 else 0)

/-- The plan of a splice whose checks all pass, or the cause of its failure (R222). -/
def State.splicePlanned (s : State) (wk : Walker) (tn : Nat) (r : BitVec 512) : Except Cause Splice :=
  match s.splicePlan wk tn r with
  | .error c => .error c
  | .ok p => match s.spliceSeals wk tn p with | some c => .error c | none => .ok p

/-- Part u of a splice, as pieces to write, with the elements clamped in it: the keys of each destination block, layer by layer, then the values, then
the Seals (R223). -/
def State.splicePart (s : State) (wk : Walker) (tn : Nat) (p : Splice) (u : Nat) : Except Cause (List Piece × Nat) :=
  let nl := dLayers p.seq
  let n := p.dest.length * nl
  let base := fun (b : Nat) => bits (nth 0 p.dest b) 0 56
  if u < n then
    (spliceRows p (u / nl) (s.spliceKey wk tn p (u % nl))).map (fun e => (piecesOf (kvKey p.seq (u % nl) (base (u / nl)) 0) e.1, e.2))
  else if u < 2 * n then
    let v := u - n
    (spliceRows p (v / nl) (s.spliceValue wk tn p (v % nl))).map (fun e => (piecesOf (kvValue p.seq (v % nl) (base (v / nl)) 0) e.1, 0))
  else (s.spliceSeal wk tn p (u - 2 * n)).map (fun w => (piecesOf (base (u - 2 * n)) (toBytes 64 w), 0))

/-- Parts of a splice. -/
def Splice.parts (p : Splice) : Nat := p.dest.length * (2 * dLayers p.seq + 1)

/-- What a splice writes last: the mark bitmap, the new extents and the descriptor, and then its result (R223-R225). -/
def State.spliceLast (s : State) (wk : Walker) (tn : Nat) (p : Splice) (sat : Nat) : Except Cause (List Piece × Piece) :=
  let r := p.record
  let total := p.n + p.m
  let map := fld r 320 64
  match s.vaReadLong wk tn (map + (total + 7) / 8 - 1) 1, s.vaReadLong wk tn (fld r 0 64) 64 with
  | .error c, _ => .error c
  | _, .error c => .error c
  | .ok old, .ok desc =>
    let forced := s.spliceForced wk tn p
    let d := setBits (setBits (setBits (ofBytes desc) 0 64 (fld r 256 64)) 64 8 p.new.length) 192 32 (dNtok p.seq + p.n)
    .ok (piecesOf map (markBytes total forced (nth 0 old 0)) ++ piecesOf (fld r 256 64) (p.new.flatMap (fun e => toBytes 16 e.toNat))
        ++ [(fld r 0 64, toBytes 64 d)],
      (fld r 384 64, toBytes 32 (spliceResult p forced.length (sat % 2 ^ 32))))

/-- A splice fails: its result says so, its counts, which are unstated, being free; RES off its alignment takes none (R225). -/
def State.spliceFails (s : State) (t c id res : Nat) (e : Cause) : State :=
  let f := s.freeBytes 20
  let n := ofBytes f.1
  let w := n * 2 ^ 32 + (if bits n 96 32 = 0 then 0 else 0x57 * 2 ^ 8) + 2 ^ 7 + e.toNat
  if res % 16 ≠ 0 then s.kvEnd t c id (some e) else f.2.kvSet t c id (.puts [(res, toBytes 32 w)] none (some e))

/-- A read of a splice has failed, or waits for a walk; f repeats it. -/
def State.spliceStops {α : Type} (s : State) (t c id res : Nat) (e : Cause) (f : State → Except Cause α) : State :=
  if e = walkBusy then s
  else (s.readMets f).spliceFails t c id res e

/-- SPLICE_EXECUTE: the splice of a context is accepted once its record handle is FULL; in later steps it reads its record, which leaves the handle, and
makes its checks, reads each part and writes it piece by piece, some in a step, how many being a free choice, writes what comes last and its
result, and completes (R222, R223, R455, R470). -/
def State.spliceExecute (s : State) (t c : Nat) : State :=
  let x := s.tile t
  let tn := x.tenant.getD 0
  let wk := Walker.tile t
  match s.kvCur t c, s.kvHead t c false with
  | none, some (.splc inst bw id) =>
    let h := x.inst inst
    if !h.canRead 1 || x.awaits id then s
    else if let some o := x.outcome id then s.kvDone t c id bw o.err
    else if h.size < 64 then s.kvDone t c id bw (some 0x55#7)
    else (s.modTile t (fun x => x.modInst inst (fun h => h.startRead id 1))).kvSet t c id .taken
  | some (.splc inst bw id, run), _ =>
    (match run with
    | .splice p u sat [] =>
      if u < p.parts then
        (match s.splicePart wk tn p u with
        | .error e => s.spliceStops t c id (fld p.record 384 64) e (fun s => s.splicePart wk tn p u)
        | .ok w => s.kvSet t c id (.splice p (u + 1) (sat + w.2) w.1))
      else
        (match s.spliceLast wk tn p sat with
        | .error e => s.spliceStops t c id (fld p.record 384 64) e (fun s => s.spliceLast wk tn p sat)
        | .ok w => s.kvSet t c id (.puts w.1 (some w.2) none))
    | .splice p u sat l =>
      let n := s.choose l.length
      let w := n.2.putPieces wk tn (n.1 + 1) l
      (match w.2.2 with
      | some e => w.1.spliceFails t c id (fld p.record 384 64) e
      | none => w.1.kvSet t c id (.splice p u sat w.2.1))
    | .puts [] none e => s.kvDone t c id bw e
    | .puts [] (some r) e =>
      let w := s.putPieces wk tn 1 [r]
      if w.2.1.isEmpty then w.1.kvEnd t c id (match e with | some e => some e | none => w.2.2) else w.1
    | .puts l res e =>
      let w := s.putPieces wk tn 1 l
      (match w.2.2, res with
      | some f, some r => w.1.spliceFails t c id r.1 f
      | some f, none => w.1.kvEnd t c id (match e with | some e => some e | none => some f)
      | none, _ => w.1.kvSet t c id (.puts w.2.1 res e))
    | _ =>
      let r := BitVec.ofNat 512 (x.padNat (x.inst inst).front 64)
      let s' := s.modTile t (fun x => x.modInst inst (fun h => h.endRead id))
      match s.splicePlanned wk tn r with
      | .error e => if e = walkBusy then s else s'.spliceStops t c id (fld r 384 64) e (fun s => s.splicePlanned wk tn r)
      | .ok p => s'.kvSet t c id (.splice p 0 0 []))
  | _, _ => s

/-- SPLICE_EXECUTE (R223). -/
def execSpliceExecute (t c : Nat) (s : State) : Result := .next (s.spliceExecute t c)

/-! ## The prefix index (R235-R237, R458) -/

/-- Zero fields and values out of range of a prefix block: k outside 4 to 24, a table off its alignment, an entry that its command does not
admit (R458). -/
def prefixReserved (op : Nat) (b : BitVec 512) : Bool :=
  let k := fld b 56 5
  decide (fld b 61 3 ≠ 0) || decide (k < 4) || decide (24 < k) || decide (fld b 0 12 ≠ 0) || decide (fld b 128 128 ≠ 0)
    || (decide (op = 0) && decide (fld b 384 128 ≠ 0)) || (decide (op = 1) && !b.getLsbD 447) || b.getLsbD 446

/-- A prefix command (R458). -/
def prefixOp (op : Nat) (gb g : BitVec 6) (s : State) : Result :=
  let b := BitVec.ofNat 512 (s.cmdBlock g 64).2
  issue s true ((spOperand (s.g gb) 8).both ((s.cmdBlock g 64).1.verdict.andThen (reservedIf (prefixReserved op b)))) (fun s =>
    let n := s.stamp
    (n.2.pushKq (.pfx op (BitVec.ofNat 512 (s.cmdBlock g 64).2) (s.g g) (fld (s.g gb) 0 20) n.1)).paired n.1)

/-- PXLK (R458). -/
def execPxlk (gb g : BitVec 6) (s : State) : Result := prefixOp 0 gb g s
/-- PXIN (R458). -/
def execPxin (gb g : BitVec 6) (s : State) : Result := prefixOp 1 gb g s
/-- PXIN.rm (R458). -/
def execPxinRm (gb g : BitVec 6) (s : State) : Result := prefixOp 2 gb g s

/-- VALID of an index entry. -/
def pxValid (e : Nat) : Bool := bit e 191

/-- What a command finds and does in a bucket: RESULT, the entry index it names, the entry it returns, the entry it writes at that index; none
where the bucket is full (R236). -/
def bucketStep (op : Nat) (entry : Nat) (l : List Nat) : Option (Nat × Option Nat × Option Nat × Option Nat) :=
  let hash := bits entry 0 128
  let same := fun (e : Nat) => pxValid e && decide (bits e 0 128 = hash)
    && (decide (op ≠ 2) || (decide (bits e 128 56 = bits entry 128 56) && decide (bits e 184 6 = bits entry 184 6)))
  match l.findIdx? same with
  | some i =>
    if op = 2 then some (4, some i, none, some (setBits (nth 0 l i) 191 1 0)) else some ((if op = 0 then 1 else 2), some i, some (nth 0 l i), none)
  | none =>
    if op = 1 then
      match l.findIdx? (fun e => !pxValid e) with
      | some i => some (3, some i, none, some entry)
      | none => none
    else some (0, none, none, none)

/-- The bucket of a prefix command (R235). -/
def pxBucket (b : BitVec 512) : Nat := fld b 0 56 + 256 * fld b 256 (fld b 56 5)

/-- The step of a prefix command on its bucket: it reads the bucket and writes the entry that changes, in one; RESULT and the entry returned are left to
write. An index that the spec does not give is free (R236, R458). -/
def State.prefixBucket (s : State) (t c op : Nat) (b : BitVec 512) (va : W64) (id : Nat) : State :=
  let tn := (s.tile t).tenant.getD 0
  let rd := fun (s : State) => s.vaReadLong (.tile t) tn (pxBucket b) 256
  match rd s with
  | .error e =>
    if e = walkBusy then s else (s.readMets rd).kvEnd t c id (some e)
  | .ok l =>
    match bucketStep op (fld b 256 256) (numbers 32 8 l) with
    | none => s.kvEnd t c id (some 0x54#7)
    | some (res, idx, ret, wr) =>
      let f := s.choose 8
      let w := match wr with
        | some e => s.vaPut (.tile t) tn (pxBucket b + 32 * idx.getD 0) (toBytes 32 e)
        | none => (match idx with | some _ => s | none => f.2, none)
      match w.2 with
      | some e => if e = walkBusy then s else w.1.kvEnd t c id (some e)
      | none => w.1.kvSet t c id
          (.puts ([(va.toNat + 8, toBytes 8 (res + 2 ^ 8 * idx.getD f.1))] ++ (match ret with | some e => [(va.toNat + 32, toBytes 32 e)] | none => [])) none none)

/-- A prefix command takes its next step: it is accepted, acts on its bucket, writes RESULT and then the entry returned into its block, and completes
(R236, R458, R470). -/
def State.prefixGo (s : State) (t c : Nat) (k : KCmd) : State :=
  let x := s.tile t
  match k, (s.ctx t c).kvRun k with
  | .pfx _ _ _ bw id, none =>
    if x.awaits id then s else (match x.outcome id with | some o => s.kvDone t c id bw o.err | none => s.kvSet t c id .taken)
  | .pfx _ _ _ bw id, some (.puts [] _ e) => s.kvDone t c id bw e
  | .pfx _ _ _ _ id, some (.puts l r e) =>
    let w := s.putPieces (.tile t) (x.tenant.getD 0) 1 l
    (match w.2.2 with
    | some f => w.1.kvEnd t c id (some f)
    | none => w.1.kvSet t c id (.puts w.2.1 r e))
  | .pfx op b va _ id, some _ => s.prefixBucket t c op b va id
  | _, _ => s

/-- PREFIX_BUCKET_STEP: a prefix command of a context that runs, or the next one that may be accepted, takes a step; which of several is a free choice
(R219, R236). -/
def State.prefixStep (s : State) (t c : Nat) : State :=
  let y := s.ctx t c
  let l := y.kq.filter (fun k => match k with
    | .pfx op _ _ _ _ => (y.kvRun k).isSome || decide (s.kvHead t c (decide (op = 0)) = some k)
    | _ => false)
  if l.isEmpty then s
  else
    let n := s.choose l.length
    match l[n.1]? with
    | some k => n.2.prefixGo t c k
    | none => s

/-- PREFIX_BUCKET_STEP (R236). -/
def execPrefixBucketStep (t c : Nat) (s : State) : Result := .next (s.prefixStep t c)

end Sys2Proof.Machine
end

