-- ==== Sys2Proof/Machine/Retouch.lean ====
section
/-! DEFINITION. Retouch: the repair registers, RPR and its report form (R226, R457), and repair jobs (R227-R234, R508). -/

namespace Sys2Proof.Machine

/-! ## The instructions (R457) -/

/-- RPRSET: the three values travel with the command (R457). -/
def execRprset (g : BitVec 6) (s : State) : Result :=
  let r := fun (i : Nat) => mget 0#64 [(0, s.g g), (1, s.g (g + 1)), (2, s.g (g + 2))] i
  issue s true (reservedIf (decide (fld (r 0) 32 32 ≠ 0) || decide (fld (r 1) 6 58 ≠ 0) || decide (fld (r 2) 32 32 ≠ 0))) (fun s =>
    s.pushKq (.rprset (BitVec.ofNat 32 (fld (s.g g) 0 32)) (BitVec.ofNat 6 (fld (s.g (g + 1)) 0 6)) (BitVec.ofNat 32 (fld (s.g (g + 2)) 0 32))))

/-- CODELEN of the task in hand. -/
def State.codelen (s : State) : Nat := (s.curCtx.task.map (fun k => k.kernel.codelen)).getD 0

/-- RPR (R457). -/
def execRpr (h : BitVec 5) (g : BitVec 6) (s : State) : Result :=
  issue s true (recordOp h g s) (fun s =>
    let n := s.stamp
    let k := s.curNode
    (n.2.modCurTile (fun x => x.nameCmd (s.instOf h) n.1 false)).pushKq (.rpr (s.instOf h) (fld (s.g g) 0 20) n.1 k.1 k.2 s.codelen) |>.paired n.1)

/-- RPR.rep: it stands in the key-value queue, and leaves it as a remote access at package scope that carries the job tag and the report word (R333,
R457). -/
def execRprRep (gx ga : BitVec 6) (s : State) : Result :=
  issue s true (reservedIf (decide (fld (s.g gx) 33 31 ≠ 0))) (fun s =>
    let n := s.stamp
    let k := s.curNode
    n.2.pushKq (.rep (s.g ga) (s.g gx) n.1 k.1 k.2))

/-! ## A job's record (R226) and its candidates -/

/-- P0. -/
def RJob.p0 (j : RJob) : Nat := fld j.record 64 32
/-- NCAND. -/
def RJob.ncand (j : RJob) : Nat := fld j.record 96 32
/-- MAP. -/
def RJob.map (j : RJob) : Nat := fld j.record 128 64
/-- FRESH. -/
def RJob.fresh (j : RJob) : Nat := fld j.record 192 64
/-- DTILE. -/
def RJob.dtile (j : RJob) : Nat := fld j.record 320 32
/-- DOFF. -/
def RJob.doff (j : RJob) : Nat := fld j.record 352 32

/-- A record or repair register that R227 refuses. -/
def RJob.bad (j : RJob) (codelen : Nat) : Bool :=
  decide (fld j.record 0 64 % 64 ≠ 0) || decide (j.ncand = 0) || decide (2 ^ 20 < j.ncand) || decide (dNtok j.desc < j.p0 + j.ncand)
    || decide (j.stat % 16 ≠ 0) || decide (Config.tiles ≤ j.dtile) || decide (j.doff % 8 ≠ 0) || decide (Config.spadSize ≤ j.doff)
    || decide (fld j.record 448 64 ≠ 0) || decide (j.lc = 0) || decide (dLayers j.desc < j.lc) || decide (codelen ≤ j.entry.toNat)
    || !impOk (f32.val j.thr.toNat)

/-- The candidates: index, block, slot. -/
def RJob.cands (j : RJob) : List (Nat × Nat × Nat) :=
  (List.range j.ncand).filterMap (fun i => (kvPlace j.exts (j.p0 + i)).map (fun p => (i, p.1, p.2.1)))

/-- A candidate joins its block's group, blocks in the order of their first candidates. -/
def addCand : List (Nat × List (Nat × Nat)) → Nat × Nat × Nat → List (Nat × List (Nat × Nat))
  | [], (i, blk, slot) => [(blk, [(slot, i)])]
  | (b, l) :: rest, (i, blk, slot) => if b = blk then (b, l ++ [(slot, i)]) :: rest else (b, l) :: addCand rest (i, blk, slot)

/-- The candidate blocks: each with its slots and their candidate indices (R228). -/
def RJob.blocks (j : RJob) : List (Nat × List (Nat × Nat)) := j.cands.foldl addCand []

/-- The records of layer l: Y, the block, the record (R228). -/
def RJob.layer (j : RJob) (l : Nat) (again : Bool) : List (Nat × Nat × TaskRec) :=
  ((List.range j.blocks.length).zip j.blocks).filterMap (fun e =>
    let sel := if again then e.2.2.filter (fun p => decide (p.2 ∈ j.marks)) else e.2.2
    match sel with
    | [] => none
    | p :: _ => some (e.1, e.2.1,
        { gid := j.gid, node := j.node, entry := j.entry, x := BitVec.ofNat 16 l, y := BitVec.ofNat 16 e.1, z := if again then 1 else 0,
          arg0 := BitVec.ofNat 64 j.tag, arg1 := BitVec.ofNat 64 (sel.foldl (fun a q => a ||| 2 ^ q.1) 0),
          arg2 := if again then 0 else BitVec.ofNat 64 (j.fresh + (l * j.ncand + p.2) * 2 * dRb j.desc),
          arg3 := BitVec.ofNat 64 (fld j.record 384 64), zeroOk := true }))

/-- The records of the state a job is in. -/
def RJob.records (j : RJob) : List (Nat × Nat × TaskRec) :=
  match j.st with
  | .check l => j.layer l false
  | .recomp l => j.layer l true
  | _ => []

/-! ## Deviation (R230) -/

/-- A maximum; NaN where any value is NaN. -/
def fvMax (l : List FV) : FV :=
  l.foldl (fun a v => if a = .nan ∨ v = .nan then .nan else if a.lt v then v else a) (.fin false 0 0)

/-- The deviation of a fresh key row from the cached one marks the token (R230). -/
def deviates (d : BitVec 512) (thr : BitVec 32) (kf kc : List Byte) : Bool :=
  let n := dHeads d * dDim d
  let row := fun (l : List Byte) => (numbers (dSize d) n l).map (dFmt d).val
  let den := fvMax [fvMax ((row kc).map FV.abs), fvPow2 (-24)]
  let dev := fvMax (((row kf).zip (row kc)).map (fun p => f32.val (f32.div .rne (f32.val (round32 (FV.add .rne p.1 p.2.neg).1)).abs den).1))
  decide (dev = .nan) || (f32.val thr.toNat).lt dev

/-- Whether candidate i, at a block and slot, deviates at layer l. -/
def State.candDeviates (s : State) (j : RJob) (l : Nat) (c : Nat × Nat × Nat) : Except Cause Bool :=
  match s.vaReadLong .walk j.tenant ((j.fresh + (l * j.ncand + c.1) * 2 * dRb j.desc) % 2 ^ 64) (dRb j.desc),
        s.vaReadLong .walk j.tenant (kvKey j.desc l c.2.1 c.2.2 % 2 ^ 64) (dRb j.desc) with
  | .ok kf, .ok kc => .ok (deviates j.desc j.thr kf kc)
  | .error e, _ => .error e
  | _, .error e => .error e

/-- The marks of a job as bytes of its bitmap ORed into what the bitmap holds (R230). -/
def State.putMarks (s : State) (j : RJob) : State × Option Cause :=
  let n := (j.ncand + 7) / 8
  match s.vaReadLong .walk j.tenant j.map n with
  | .error e => (s.readMets (fun s => s.vaReadLong .walk j.tenant j.map n), some e)
  | .ok l => s.vaPut .walk j.tenant j.map (toBytes n (j.marks.foldl (fun a i => a ||| 2 ^ i) (ofBytes l)))

/-- Set a Seal's WMARK, by one store of 16 bytes (R214, R229). -/
def State.setMark (s : State) (tn blk v : Nat) : State × Option Cause :=
  match s.readSeal .walk tn blk with
  | .error e => (s.readMets (fun s => s.readSeal .walk tn blk), some e)
  | .ok w => s.vaPut .walk tn (blk % 2 ^ 64) (toBytes 16 (setBits w 116 6 v))

/-! ## A job moves on (R229, R233) -/

/-- The job in a place of a die replaced. -/
def State.putJob (s : State) (d p : Nat) (j : RJob) : State := s.modDie d (fun x => { x with retouch := mput x.retouch p j })
/-- A place becomes free. -/
def State.freePlace (s : State) (d p : Nat) : State := s.modDie d (fun x => { x with retouch := merase x.retouch p })
/-- The job in a place. -/
def State.job (s : State) (d p : Nat) : Option RJob := mfind (s.die d).retouch p

/-- The records that the distributor has room for pass to it, each counted in LIVE; the rest wait (R98, R228). -/
def State.passRecords (s : State) (d p : Nat) : State :=
  match s.job d p with
  | none => s
  | some j =>
    let room := 4096 - mget 0 s.conts j.tenant
    let now := j.pend.take room
    if now = [] then s
    else
      let s := s.putJob d p { j with pend := j.pend.drop room }
      let s := s.modNode j.gid j.node (fun x => { x with conts := x.conts ++ now, live := x.live + now.length })
      State.reenter (State.relaid { s with conts := mput s.conts j.tenant (mget 0 s.conts j.tenant + now.length) } j.tenant) j.gid j.node

/-- A job gives back its count of LIVE, and with it those of n records withdrawn. -/
def State.jobLive (s : State) (j : RJob) (n : Nat) : State := s.modNode j.gid j.node (fun x => { x with live := x.live - 1 - n })

/-- A job ends with a cause: its status, its records withdrawn, no arrival (R233). -/
def State.jobFail (s : State) (d p : Nat) (j : RJob) (c : Cause) : State :=
  let s := (s.vaPut .walk j.tenant j.stat (j.status (some c))).1
  let rs := j.records.map (fun e => e.2.2)
  let out := match s.node j.gid j.node with | some x => (x.conts.filter (fun r => decide (r ∈ rs))).length | none => 0
  let s := s.modNode j.gid j.node (fun x => { x with conts := x.conts.filter (fun r => !decide (r ∈ rs)) })
  (((State.jobLive { s with conts := mput s.conts j.tenant (mget 0 s.conts j.tenant - out) } j out)).freePlace d p).unlistIdle j.gid j.node

/-- The arrival of a finished job: it waits while its tile is saved; a tile of another tenant or an untagged word loses it (R234). -/
def State.jobArrive (s : State) (d p : Nat) (j : RJob) : State :=
  if s.savedFor j.dtile j.tenant then (if j.came = 0 then let n := s.stamp; n.2.putJob d p { j with came := n.1 } else s.putJob d p j)
  else
    let s := s.freePlace d p
    if (s.tile j.dtile).tenant = some j.tenant ∧ (s.unit (.tile j.dtile)).health ≠ .failed then s.modTile j.dtile (fun x => x.barrier j.doff 0 1 none)
    else s

/-- A job enters its state: its status, its records, or its end (R228, R229, R232). -/
def State.jobEnter (s : State) (d p : Nat) (j : RJob) : State :=
  let rs := j.records
  let j := { j with made := rs.map (fun e => (e.2.2.x.toNat, e.1, e.2.2.z.toNat)), counted := [], pend := rs.map (fun e => e.2.2) }
  match s.vaPut .walk j.tenant j.stat (j.status none) with
  | (s, some c) => s.jobFail d p j c
  | (s, none) => if j.st = .done then (s.jobLive j 0).jobArrive d p j else (s.putJob d p j).passRecords d p

/-- Layer l of the check phase has all its reports: deviations, marks, the next state (R229, R230). -/
def State.jobChecked (s : State) (d p : Nat) (j : RJob) (l : Nat) : State :=
  let judge := fun (s : State) => j.cands.mapM (fun c => (s.candDeviates j l c).map (fun b => (c.1, b)))
  match judge s with
  | .error c => (s.readMets judge).jobFail d p j c
  | .ok r =>
    let new := (r.filter (fun e => e.2 && !decide (e.1 ∈ j.marks))).map Prod.fst
    let j := { j with marks := j.marks ++ new }
    match s.putMarks j with
    | (s, some c) => s.jobFail d p j c
    | (s, none) => s.jobEnter d p { j with st := if l + 1 < j.lc then .check (l + 1) else .writeback }

/-- Every report of the layer has come. -/
def RJob.allCounted (j : RJob) : Bool := j.made.all (fun e => decide (e ∈ j.counted))

/-- A report is counted for a job: a block recomputed at a layer is visible from now on, and the job moves on in a step of its own (R229, R231). -/
def State.jobReported (s : State) (d p : Nat) (j : RJob) (y : Nat) : State :=
  match j.st with
  | .recomp l =>
    (match s.setMark j.tenant (nth (0, []) j.blocks y).1 l with
    | (s, some c) => s.jobFail d p j c
    | (s, none) => s.putJob d p j)
  | _ => s.putJob d p j

/-- REPAIR_REPORT: the oldest report of a context, once it has left its queue, is counted by the job that it names, or fails (R229, R457). -/
def State.repairReport (s : State) (t c : Nat) : State :=
  let s := s.kvFlush t c
  match (s.ctx t c).remote.find? (fun r => decide (r.kind = .report) && !r.done && r.twinOf.isNone && s.joined t c r) with
  | none => s
  | some r =>
    let d := fld r.addr 4 3
    let p := fld r.addr 0 4
    let key := (fld r.data 0 8, fld r.data 8 24, fld r.data 32 1)
    let refused := ((s.settle t c { r with addr := 0 } 0 (some 0x53#7)).afterAccess t c r (some 0x53#7) none)
    match s.job d p with
    | none => refused
    | some j =>
      if j.tag ≠ r.addr.toNat ∨ j.tenant ≠ r.tenant ∨ key ∉ j.made ∨ key ∈ j.counted then refused
      else
        let j := { j with counted := j.counted ++ [key], reports := j.reports + 1 }
        (((s.settle t c r 0 none).afterAccess t c r none none)).jobReported d p j key.2.1

/-- REPAIR_REPORT (R229). -/
def execRepairReport (t c : Nat) (s : State) : Result := .next (s.repairReport t c)

/-- The fresh rows of every marked token, below L_c, with where they go in the cache (R229). -/
def State.freshRows (s : State) (j : RJob) : Except Cause (List Piece) :=
  let rb := dRb j.desc
  (((List.range j.lc).flatMap (fun l => (j.cands.filter (fun c => decide (c.1 ∈ j.marks))).map (fun c => (l, c)))).mapM
    (fun (e : Nat × Nat × Nat × Nat) =>
      (s.vaReadLong .walk j.tenant ((j.fresh + (e.1 * j.ncand + e.2.1) * 2 * rb) % 2 ^ 64) (2 * rb)).map
        (fun l => [(kvKey j.desc e.1 e.2.2.1 e.2.2.2, l.take rb), (kvValue j.desc e.1 e.2.2.1 e.2.2.2, l.drop rb)]))).map List.flatten

/-- The fresh rows go to the cache, a line that they cover whole as one write, up to the first failure (R229, R507). -/
def State.copyFresh (s : State) (j : RJob) : State × Option Cause :=
  match s.freshRows j with
  | .error c => (s.readMets (fun s => s.freshRows j), some c)
  | .ok l => s.vaWrites .walk j.tenant (mergePieces l)

/-- The watermarks after WRITEBACK (R229). -/
def State.markAll (s : State) (j : RJob) : State × Option Cause :=
  j.blocks.foldl (fun (a : State × Option Cause) (e : Nat × List (Nat × Nat)) =>
    match a.2 with
    | some _ => a
    | none => a.1.setMark j.tenant e.1 (if e.2.any (fun p => decide (p.2 ∈ j.marks)) then j.lc - 1 else dLayers j.desc - 1)) (s, none)

/-- RETOUCH_WRITEBACK: a job in WRITEBACK copies and sets its watermarks; a layer whose reports have all come ends; a job with records to pass passes
them; a finished job whose arrival waited makes it (R229, R234). -/
def State.retouchWriteback (s : State) (d p : Nat) : State :=
  match s.job d p with
  | none => s
  | some j =>
    match j.st with
    | .done => s.jobArrive d p j
    | .writeback =>
      if !s.walkFree d then s else
      (match s.copyFresh j with
      | (s, some c) => s.jobFail d p j c
      | (s, none) =>
        match s.markAll j with
        | (s, some c) => s.jobFail d p j c
        | (s, none) => s.jobEnter d p { j with st := if j.lc = dLayers j.desc ∨ j.marks = [] then .done else .recomp j.lc })
    | .check l => if j.allCounted then (if s.walkFree d then s.jobChecked d p j l else s) else s.passRecords d p
    | .recomp l =>
      if j.allCounted then if !s.walkFree d then s else s.jobEnter d p { j with st := if l + 1 < dLayers j.desc then .recomp (l + 1) else .done } else s.passRecords d p

/-- RETOUCH_WRITEBACK (R229). -/
def execRetouchWriteback (d p : Nat) (s : State) : Result := .next (s.retouchWriteback d p)

/-! ## Acceptance (R227) -/

/-- A candidate block whose Seal does not say NONE. -/
def State.sealsOpen (s : State) (j : RJob) : Except Cause Bool :=
  (j.blocks.mapM (fun e => s.readSeal .walk j.tenant e.1)).map (fun l => l.any (fun w => decide (sealMark w ≠ 0x3F)))

/-- The job that an RPR hands over, with the marks its bitmap holds, or the cause that refuses it (R227). -/
def State.jobOf (s : State) (j : RJob) (codelen : Nat) : Except Cause RJob :=
  match s.loadSeq .walk j.tenant (fld j.record 0 64) with
  | .error c => .error c
  | .ok (d, es) =>
    let j := { j with desc := d, exts := es }
    if j.bad codelen then .error 0x55#7
    else
      match s.sealsOpen j, s.vaReadLong .walk j.tenant j.map ((j.ncand + 7) / 8) with
      | .error c, _ => .error c
      | _, .error c => .error c
      | .ok true, _ => .error 0x53#7
      | .ok false, .ok l => .ok { j with marks := (List.range j.ncand).filter (fun i => (ofBytes l).testBit i) }

/-- An accepted RPR of a tile of the die has kept a place. -/
def State.placeKept (s : State) (d p : Nat) : Bool :=
  s.tiles.any (fun e => decide (dieOf e.1 = d) && [e.2.c0, e.2.c1].any (fun y => y.kruns.any (fun r => decide (r.2 = .place p))))

/-- The lowest free place of a die's Retouch. -/
def State.freeJobPlace (s : State) (d : Nat) : Option Nat := (List.range 16).find? (fun p => (s.job d p).isNone && !s.placeKept d p)

/-- The job that an RPR describes, before it is judged: the record of its handle and the three registers (R226). -/
def State.jobFrom (s : State) (t c inst gid node p : Nat) : RJob :=
  let x := s.tile t
  let y := x.ctx c
  { tile := t, tenant := x.tenant.getD 0, gid := gid, node := node, record := BitVec.ofNat 512 (x.padNat (x.inst inst).front 64), entry := y.repEntry,
    lc := y.repLc.toNat, thr := y.devThr, st := .check 0, tag := p + 16 * dieOf t + 256 * ((mget 0 (s.die (dieOf t)).places p + 1) % 2 ^ 24), desc := 0,
    exts := [], made := [], counted := [], pend := [], marks := [], reports := 0, came := 0 }

/-- RETOUCH_JOB_ACCEPT: the RPR of a context is accepted once its record handle is FULL and a place is free; in later steps its record is read, the job
starting in CHECK(0) with a count of LIVE, and it completes (R227, R470). -/
def State.retouchAccept (s : State) (t c : Nat) : State :=
  let x := s.tile t
  let d := dieOf t
  match s.kvCur t c, s.kvHead t c false with
  | none, some (.rpr inst bw id _ _ _) =>
    let h := x.inst inst
    if x.awaits id || !h.canRead 1 then s
    else
      (match x.outcome id, s.freeJobPlace d with
      | some o, _ => s.kvDone t c id bw o.err
      | none, none => s
      | none, some p =>
        if h.size < 64 then s.kvDone t c id bw (some 0x55#7)
        else (s.modTile t (fun x => x.modInst inst (fun h => h.startRead id 1))).kvSet t c id (.place p))
  | some (.rpr inst _ id gid node len, .place p), _ =>
    let j := s.jobFrom t c inst gid node p
    if !s.walkFree d then s else
    let s := s.modTile t (fun x => x.modInst inst (fun h => h.endRead id))
    (match s.jobOf j len with
    | .error e => (s.readMets (fun s => s.jobOf j len)).kvEnd t c id (some e)
    | .ok k =>
      let s := (s.kvEnd t c id none).modDie d (fun x => { x with places := mput x.places p (j.tag / 256) })
      (s.modNode gid node (fun x => { x with live := x.live + 1 })).jobEnter d p k)
  | some (.rpr _ bw id _ _ _, .puts _ _ e), _ => s.kvDone t c id bw e
  | _, _ => s

/-- RETOUCH_JOB_ACCEPT (R227). -/
def execRetouchJobAccept (t c : Nat) (s : State) : Result := .next (s.retouchAccept t c)

end Sys2Proof.Machine
end

