-- ==== Sys2Proof/Machine/Fabric.lean ====
section
/-! DEFINITION. The fabric unit: sends and receives (R460-R464), the messages that a Saheth Link port takes in (R35, R38-R42), hop acknowledgement,
retraining and session keys (R36, R41). -/

namespace Sys2Proof.Machine

/-! ## Health -/

/-- A unit's health changes for a cause; HEALTH_CHANGED is logged under its number (R277, R290). -/
def State.newHealth (s : State) (u : UnitName) (n : Nat) (h : Health) (c : Cause) (tmask : Nat) : State :=
  ((s.modUnit u (fun e => { e with health := h, last := some c })).klog 2 0x7C#7 h.code n tmask 0 0).cutQuarantined
/-- A link or a port fails: its health, and LINK_DOWN recorded (R29, R36). -/
def State.linkDown (s : State) (u : UnitName) (n : Nat) : State := (s.newHealth u n .failed 0x75#7 0).klog 6 0x75#7 0 n 0 0 0

/-! ## Blocks (R460) -/

/-- BW. -/
def fBw (b : BitVec 256) : Nat := fld b 160 20
/-- SOFF or DOFF. -/
def fOff (b : BitVec 256) : Nat := fld b 96 20
/-- TAG. -/
def fTag (b : BitVec 256) : BitVec 16 := BitVec.ofNat 16 (fld b 64 16)
/-- DEST or SRC. -/
def fAddr (b : BitVec 256) : W64 := BitVec.ofNat 64 (fld b 0 64)
/-- DEDUP of a send block. -/
def fDedup (b : BitVec 256) : Bool := b.getLsbD 180
/-- ANY of a receive block. -/
def fAny (b : BitVec 256) : Bool := b.getLsbD 80

/-- What both blocks have in common: zero fields, LEN, an offset aligned at 16. -/
def fabReserved (b : BitVec 256) : Bool :=
  decide (fld b 181 11 ≠ 0) || decide (fld b 149 11 ≠ 0) || decide (fld b 116 12 ≠ 0) || decide (fld b 81 15 ≠ 0) || decide (fLen b = 0)
    || decide (2 ^ 20 < fLen b) || decide (fOff b % 16 ≠ 0)

/-- A tile's address: KIND 1, OFF zero. -/
def tileAddr (a : W64) : Bool := gaTile a && decide (gaOff a = 0)

/-- The checks of a send block. -/
def sendVerdict (s : State) (b : BitVec 256) : Verdict :=
  ((reservedIf (fabReserved b || b.getLsbD 80 || decide (fld b 192 64 ≠ 0) || !tileAddr (fAddr b))).both (spOperand (BitVec.ofNat 64 (fBw b)) 8)).both
    (s.gaChecks (unitTile s.cur.u) s.cur.scope (fAddr b))

/-- The checks of a receive block; flat: its destination is a ring or a stream, whose DOFF is zero. -/
def recvVerdict (s : State) (b : BitVec 256) (flat : Bool) : Verdict :=
  ((reservedIf (fabReserved b || b.getLsbD 180 || (flat && decide (fOff b ≠ 0)) || (if fAny b then decide (fAddr b ≠ 0) else !tileAddr (fAddr b)))).both
    (spOperand (BitVec.ofNat 64 (fBw b)) 8)).both
    (if fAny b then .ok else s.gaChecks (unitTile s.cur.u) s.cur.scope (fAddr b))

/-- A command block as 256 bits. -/
def State.fabBlock (s : State) (g : BitVec 6) : BitVec 256 := BitVec.ofNat 256 (s.cmdBlock g 32).2

/-- A command at the end of the fabric queue of the context in hand. -/
def State.pushFq (s : State) (k : FCmd) : State := s.modCurCtx (fun y => { y with fq := y.fq ++ [k] })

/-- FSEND (R460). -/
def execFsend (h : BitVec 5) (g : BitVec 6) (s : State) : Result :=
  issue s true ((s.cmdBlock g 32).1.verdict.andThen
      ((sendVerdict s (s.fabBlock g)).both (faultIf (decide ((s.curTile.handle h.toNat).kind ≠ 1#2)) 0x27#7))) (fun s =>
    let n := s.stamp
    let b := s.fabBlock g
    (n.2.modCurTile (fun x => x.nameCmd (s.instOf h) n.1 false)).pushFq (.fsend b (s.instOf h) (gaScope (unitTile s.cur.u) (fAddr b)) n.1) |>.paired n.1)

/-- FRECV into a handle (R460). -/
def execFrecvHandle (h : BitVec 5) (g : BitVec 6) (s : State) : Result :=
  issue s true ((s.cmdBlock g 32).1.verdict.andThen (recvVerdict s (s.fabBlock g) (decide ((s.curTile.handle h.toNat).kind = 2#2)))) (fun s =>
    let n := s.stamp
    (n.2.modCurTile (fun x => x.nameCmd (s.instOf h) n.1 true)).pushFq (.frecvHandle (s.fabBlock g) (s.g g) (s.instOf h) n.1) |>.paired n.1)

/-- FRECV into a stream that is bound to fabric receives (R460). -/
def execFrecvStream (q : BitVec 3) (g : BitVec 6) (s : State) : Result :=
  issue s true ((s.cmdBlock g 32).1.verdict.andThen ((recvVerdict s (s.fabBlock g) true).both
      (faultIf (decide ((mget Stream.init s.curCtx.q q.toNat).kind ≠ 3#2)) 0x38#7))) (fun s =>
    let n := s.stamp
    (n.2.pushFq (.frecvStream (s.fabBlock g) (s.g g) q.toNat n.1)).paired n.1)

/-! ## Ends of sends and receives -/

/-- A tile is bound to a tenant that is VALID (R38). -/
def State.bound (s : State) (t tn : Nat) : Bool := decide ((s.tile t).tenant = some tn) && (s.tenant tn).valid

/-- A send of tile t completes (R462, R463). -/
def State.sendDone (s : State) (t id : Nat) (err : Option Cause) : State :=
  match (s.tile t).sends.find? (fun r => decide (r.id = id)) with
  | none => s
  | some r =>
    (s.modTile t (fun x => { x with sends := x.sends.filter (fun r => decide (r.id ≠ id)) })).engineDone t id (fBw r.block) (fLen r.block) err

/-- A message back to the sender of m, from tile d (R35). Its src names no context. -/
def State.answer (s : State) (port d : Nat) (k : BitVec 4) (m : FabMsg) (arg : Nat) (data : List Byte) : State :=
  s.sendFrom d port k { tenant := m.tenant, dst := m.src, src := 0xFFFF, tag := m.tag, arg := BitVec.ofNat 64 arg, data := data, cand := none }

/-- The sender of a request that tile d has taken learns what came of it: a failure, or the credit of receive n (R462). -/
def State.replySend (s : State) (d : Nat) (q : SendReq) (err : Option Cause) (n : Nat) : State :=
  if q.peer = 0 then (match err with | some c => s.sendDone q.tile q.sendId (some c) | none => s)
  else s.answer (q.peer - 1) d 0x6#4
    { tenant := q.tenant, dst := 0, src := BitVec.ofNat 64 (2 * q.tile + q.ctx), tag := BitVec.ofNat 64 q.sendId, arg := 0, data := [], cand := none }
    ((match err with | some c => c.toNat | none => 0) + 256 * n) []

/-- RESULT of a receive: RLEN, the sender's tile, its PEER (R460). -/
def recvResult (rlen : Nat) (q : SendReq) : Nat := rlen + 2 ^ 32 * q.tile + 2 ^ 44 * q.peer

/-- The RESULT of a receive waits for a walk (R149). -/
def State.recvWaits (s : State) (d : Nat) (r : Recv) : Bool :=
  ((s.tile d).outcome r.id).isNone && decide (s.xlatE (.tile d) r.tenant ((r.va.toNat + 24) % 2 ^ 64) .write = .miss)

/-- A receive of tile d that met request q completes: RESULT, then its barrier word (R462); one whose twin has received ends as that one did
(R279). One that fails waits for no walk. -/
def State.recvDone (s : State) (d : Nat) (r : Recv) (q : SendReq) (rlen : Nat) (err : Option Cause) : State :=
  let w := match (s.tile d).outcome r.id with
    | some o => (s, o.err)
    | none => s.vaPut (if s.recvWaits d r then .walk else .tile d) r.tenant ((r.va.toNat + 24) % 2 ^ 64) (toBytes 8 (recvResult rlen q))
  let e := match err with | some c => some c | none => w.2
  let s := w.1.modTile d (fun x => { x with posted := x.posted.filter (fun p => decide (p.id ≠ r.id)) })
  (s.tell d r.id { err := e, req := some q, data := mread 0 r.buf 0 rlen }).engineDone d r.id (fBw r.block) (fLen r.block) e

/-- The tile with a posted receive replaced. -/
def Tile.setRecv (x : Tile) (r : Recv) : Tile := { x with posted := x.posted.map (fun p => if p.id = r.id then r else p) }

/-- Where byte k of a receive's payload goes: the back of a block, the rows of a ring in order (R461). -/
def recvAddr (r : Recv) (h : HEntry) (k : Nat) : Nat :=
  if h.kind = 1#2 then h.back + fOff r.block + k
  else h.rowAt (resRow r.id h.pcount h.wres + BitVec.ofNat 32 (k / max 1 h.size - r.got / max 1 h.size)) + k % max 1 h.size

/-- Rows of a ring that are complete once a receive has n bytes. -/
def recvRowsDone (h : HEntry) (n : Nat) : Nat := if h.kind = 2#2 then n / max 1 h.size else 0

/-- Bytes of a payload from offset off come in at tile x; rows of a ring count as they complete (R141). -/
def Tile.recvPut (x : Tile) (r : Recv) (off : Nat) (l : List Byte) : Tile × Recv :=
  let n := { r with got := r.got + l.length, buf := mwrite 0 r.buf off l }
  match r.stream with
  | some _ => (x, n)
  | none =>
    let h := x.inst r.inst
    let x := x.padSet (((upto off l.length).map (recvAddr r h)).zip l)
    (x.modInst r.inst (fun h => (List.range (recvRowsDone h n.got - recvRowsDone h r.got)).foldl (fun h _ => h.wroteRow r.id) h), n)

/-- Elements of 128 bytes of a received payload go to its stream while it has room, the last rounded up to 16 bits (R136, R137, R462). -/
def recvFeed (len : Nat) (cutting : Bool) (q : Nat) : Nat → Ctx → Recv → Ctx × Recv
  | 0, y, r => (y, r)
  | n + 1, y, r =>
    if r.fed < len ∧ y.room cutting q = true then
      let k := min 128 (len - r.fed)
      let e : Elem := { width := 16 * ((k + 1) / 2), val := BitVec.ofNat 1024 (ofBytes (mread 0 r.buf r.fed k)), marks := 0, poison := none }
      recvFeed len cutting q n (y.feed q e) { r with fed := r.fed + k }
    else (y, r)

/-- No earlier receive of the context feeds the same stream. -/
def Tile.recvFirst (x : Tile) (r : Recv) : Bool :=
  match x.posted.find? (fun p => decide (p.ctx = r.ctx ∧ p.stream = r.stream)) with
  | some p => decide (p.id = r.id)
  | none => true

/-- A receive ends, with the send of this package that it met (R462). -/
def State.recvOver (s : State) (d : Nat) (r : Recv) (q : SendReq) : State :=
  let s := s.recvDone d r q q.len none
  if q.peer = 0 then s.sendDone q.tile q.sendId none else s

/-- A receive that has met its request goes on: it ends once the last byte is written and no walk that its RESULT needs is awaited; that of a stream feeds
it first (R149, R462). -/
def State.recvGo (s : State) (d : Nat) (r : Recv) : State :=
  match r.met with
  | none => s
  | some q =>
    if r.got < q.len then s
    else
      match r.stream with
      | none => if s.recvWaits d r then s else s.recvOver d r q
      | some n =>
        if !(s.tile d).recvFirst r then s
        else
          let o := recvFeed q.len (s.tile d).cutting n (q.len / 128 + 1) (s.ctx d r.ctx) r
          let s := (s.setCtx d r.ctx o.1).modTile d (fun x => x.setRecv o.2)
          if decide (q.len ≤ o.2.fed) && !s.recvWaits d o.2 then (s.recvOver d o.2 q).taskEnd d r.ctx else s

/-- Payload bytes from offset off come in for a posted receive. -/
def State.recvBytes (s : State) (d : Nat) (r : Recv) (off : Nat) (l : List Byte) : State :=
  let o := (s.tile d).recvPut r off l
  (s.setTile d (o.1.setRecv o.2)).recvGo d o.2

/-! ## Matching (R462) -/

/-- A request fits a posted receive: tenant, TAG, and its SRC the sender or ANY. -/
def reqFits (q : SendReq) (r : Recv) : Bool :=
  r.met.isNone && decide (r.tenant = q.tenant) && decide (fTag r.block = q.tag)
    && (fAny r.block || (decide (gaTileNo (fAddr r.block) = q.tile) && decide (gaPeer (fAddr r.block) = q.peer)))

/-- The payload of a send. -/
def State.payload (s : State) (t : Nat) (r : SendRun) : List Byte :=
  (s.tile t).padRead (((s.tile t).inst r.inst).front + fOff r.block) (fLen r.block)

/-- A request meets a receive: too long, both fail; else a credit returns and the data follows, at once within the package (R462). -/
def State.meet (s : State) (d : Nat) (q : SendReq) (r : Recv) : State :=
  let s := s.modTile d (fun x => { x with requests := x.requests.filter (fun p => decide (p ≠ q)) })
  if fLen r.block < q.len then (s.recvDone d r q 0 (some 0x3B#7)).replySend d q (some 0x3B#7) 0
  else
    let r := { r with met := some q }
    let s := (s.modTile d (fun x => x.setRecv r)).replySend d q none r.id
    if q.peer ≠ 0 then s
    else
      match (s.tile q.tile).sends.find? (fun k => decide (k.id = q.sendId)) with
      | some k => s.recvBytes d r 0 (s.payload q.tile k)
      | none => s

/-- The first request in arrival order that a posted receive fits, with the oldest such receive. -/
def Tile.firstMatch (x : Tile) : Option (SendReq × Recv) := x.requests.findSome? (fun q => (x.posted.find? (reqFits q)).map (fun r => (q, r)))

/-- Every match of a tile; n bounds them. -/
def State.matchAll : Nat → State → Nat → State
  | 0, s, _ => s
  | n + 1, s, d =>
    match (s.tile d).firstMatch with
    | some (q, r) => State.matchAll n (s.meet d q r) d
    | none => s

/-- Every match of a tile. -/
def State.matchTile (s : State) (d : Nat) : State := State.matchAll ((s.tile d).requests.length + 1) s d

/-- Requests of a tenant to which the tile is no longer bound fail (R463). -/
def State.staleRequests (s : State) (d : Nat) : State :=
  ((s.tile d).requests.filter (fun q => !s.bound d q.tenant && !s.savedFor d q.tenant)).foldl (fun (s : State) (q : SendReq) =>
    (s.modTile d (fun x => { x with requests := x.requests.filter (fun p => decide (p ≠ q)) })).replySend d q (some 0x26#7) 0) s

/-! ## Acceptance (R461) -/

/-- The request of a send of tile t. -/
def SendRun.request (r : SendRun) (t : Nat) : SendReq :=
  { tile := t, peer := 0, ctx := r.ctx, sendId := r.id, len := fLen r.block, tag := fTag r.block, tenant := r.tenant }

/-- A send within the package that no request stands for and no receive has met. -/
def State.unsent (s : State) (t : Nat) (r : SendRun) : Bool :=
  let d := gaTileNo (fAddr r.block)
  decide (gaPeer (fAddr r.block) = 0) && decide (r.request t ∉ (s.tile d).requests) && !((s.tile d).posted.any (fun p => decide (p.met = some (r.request t))))

/-- A request within the package arrives, waits at its port, or fails (R462, R463). -/
def State.deliver (s : State) (t : Nat) (r : SendRun) : State :=
  let d := gaTileNo (fAddr r.block)
  if s.savedFor d r.tenant then s
  else if (s.unit (.tile d)).health = .failed then s.sendDone t r.id (some 0x2F#7)
  else if !s.bound d r.tenant then s.sendDone t r.id (some 0x26#7)
  else if 256 ≤ (s.tile d).requests.length then s
  else (s.modTile d (fun x => { x with requests := x.requests ++ [r.request t] })).matchTile d

/-- Requests of a tile that wait at their ports are offered again, oldest first. -/
def State.deliverAll (s : State) (t : Nat) : State :=
  ((s.tile t).sends.filter (s.unsent t)).foldl (fun (s : State) (r : SendRun) => if s.unsent t r then s.deliver t r else s) s

/-- A send issued before command id, and bound for the same tile, is still queued: its request goes first (R462). -/
def Ctx.sendsBefore (y : Ctx) (dest : W64) (id : Nat) : Bool :=
  y.fq.any (fun m => match m with | .fsend b _ _ n => decide (fAddr b = dest ∧ n < id) | _ => false)

/-- FSEND_ACCEPT: waiting requests are offered again; the send at the head of the queue is accepted once its source is FULL, and its request leaves
(R461). -/
def State.sendAccept (s : State) (t c : Nat) : State :=
  let s := s.deliverAll t
  let x := s.tile t
  match (x.ctx c).fq with
  | .fsend b inst scope id :: rest =>
    let h := x.inst inst
    if x.cutting || !h.canRead 1 || x.awaits id || (x.ctx (1 - c)).sendsBefore (fAddr b) id then s
    else
      let pop := fun (s : State) => s.modCtx t c (fun y => { y with fq := rest })
      if let some o := x.outcome id then (pop s).engineDone t id (fBw b) (fLen b) o.err
      else if h.size < fOff b + fLen b then (pop s).engineDone t id (fBw b) (fLen b) (some 0x29#7)
      else
        let r : SendRun := { id := id, ctx := c, block := b, inst := inst, tenant := x.tenant.getD 0, scope := scope, written := false }
        let s := (pop s).modTile t (fun x => { (x.modInst inst (fun h => h.startRead id 1)) with sends := x.sends ++ [r] })
        let p := gaPeer (fAddr b)
        if p = 0 then s.deliver t r
        else if (s.port (p - 1)).failed then s.sendDone t id (some 0x75#7)
        else s.sendFrom t (p - 1) 0x5#4
          { tenant := r.tenant, dst := fAddr b, src := BitVec.ofNat 64 (2 * t + c), tag := BitVec.ofNat 64 id,
            arg := BitVec.ofNat 64 (fLen b + 2 ^ 32 * (fTag b).toNat), data := [], cand := none }
  | _ => s

/-- FSEND_ACCEPT (R461). -/
def execFsendAccept (t c : Nat) (s : State) : Result := .next (s.sendAccept t c)

/-- The receive that a command posts. -/
def recvOf (c tn : Nat) : FCmd → Option Recv
  | .frecvHandle b va inst id => some { id := id, ctx := c, block := b, va := va, inst := inst, stream := none, tenant := tn, met := none, got := 0, fed := 0, buf := [] }
  | .frecvStream b va q id => some { id := id, ctx := c, block := b, va := va, inst := 0, stream := some q, tenant := tn, met := none, got := 0, fed := 0, buf := [] }
  | .fsend _ _ _ _ => none

/-- Rows of a ring that a receive takes. -/
def recvRows (r : Recv) (h : HEntry) : Nat := if h.kind = 2#2 then (fLen r.block + h.size - 1) / max 1 h.size else 1

/-- The destination can never hold what the receive may bring. -/
def recvTooLong (r : Recv) (h : HEntry) : Bool :=
  r.stream.isNone && (if h.kind = 2#2 then decide (h.rows < recvRows r h) else decide (h.size < fOff r.block + fLen r.block))

/-- The destination admits a receive (R137, R140, R141). -/
def Tile.recvAdmits (x : Tile) (r : Recv) : Bool :=
  match r.stream with
  | some q => decide (x.streamOut r.ctx q ≤ 0x40000)
  | none => (x.inst r.inst).canWrite r.id (recvRows r (x.inst r.inst))

/-- A receive whose twin has received takes in what that one took in, once its destination admits it, and ends as that one did (R279). -/
def State.recvAfter (s : State) (t : Nat) (r : Recv) (o : Over) (post : Tile → Tile) : State :=
  match o.req with
  | none => s.engineDone t r.id (fBw r.block) (fLen r.block) o.err
  | some q =>
    let r' := { r with met := some q }
    let s := (s.modTile t post).modTile t (fun x => x.setRecv r')
    if o.data.length < q.len then s.recvDone t r' q 0 o.err else s.recvBytes t r' 0 o.data

/-- FRECV_POST: stale requests fail, receives that have met their requests go on, and the receive at the head of the queue is posted once its
destination admits it (R461). -/
def State.recvPost (s : State) (t c : Nat) : State :=
  let s := s.staleRequests t
  let s := ((s.tile t).posted.filter (fun r => decide (r.ctx = c) && r.met.isSome)).foldl
    (fun (s : State) (r : Recv) => match (s.tile t).posted.find? (fun p => decide (p.id = r.id)) with | some r => s.recvGo t r | none => s) s
  let x := s.tile t
  match (x.ctx c).fq with
  | [] => s
  | m :: rest =>
    match recvOf c (x.tenant.getD 0) m with
    | none => s
    | some r =>
      let h := x.inst r.inst
      let pop := fun (s : State) => s.modCtx t c (fun y => { y with fq := rest })
      if x.cutting then s
      else if recvTooLong r h then (pop s).engineDone t r.id (fBw r.block) (fLen r.block) (some 0x29#7)
      else if !x.recvAdmits r then s
      else
        let post := fun (x : Tile) =>
          let x := if r.stream.isSome then x else x.modInst r.inst (fun h => h.startWrite r.id (recvRows r h))
          { x with posted := x.posted ++ [r] }
        if x.awaits r.id then s
        else
          match x.outcome r.id with
          | none => ((pop s).modTile t post).matchTile t
          | some o => (pop s).recvAfter t r o post

/-- FRECV_POST (R461). -/
def execFrecvPost (t c : Nat) (s : State) : Result := .next (s.recvPost t c)

/-! ## What a port takes in (R35-R38) -/

/-- The port with flits taken in. -/
def State.taken (s : State) (port : Nat) (flits : List (BitVec 512)) : State := s.modPort port (fun x => (x.takes flits).1)

/-- Flits of a message arrive. A message that they complete does what its kind does; one that must wait stays at its sending port, its flits not
taken in and all behind them with it (R37, R274). -/
def State.arrives (s : State) (port : Nat) (k : BitVec 4) (flits : List (BitVec 512)) (act : State → FabMsg → Option State) : State :=
  let x := s.port port
  if !x.live || !flits.all (fabFits k) then s
  else
    match (x.takes flits).2 with
    | none => s.taken port flits
    | some m => (act (s.taken port flits) m).getD s

/-- A message for a tile that is saved waits at its sending port (R274). -/
def State.waits (s : State) (m : FabMsg) : Bool := gaTile m.dst && s.homeWaits m.tenant m.dst

/-- The tile a message is bound for. -/
def FabMsg.tile (m : FabMsg) : Nat := gaTileNo m.dst
/-- The sending context of a message. -/
def FabMsg.from (m : FabMsg) : Nat × Nat := (m.src.toNat % 65536 / 2, m.src.toNat % 2)
/-- The context an answer is bound for, and what its sender added. -/
def FabMsg.to (m : FabMsg) : Nat × Nat × Nat := (m.dst.toNat % 65536 / 2, m.dst.toNat % 2, m.dst.toNat / 65536)
/-- The lanes of an access; a copy's message carries none. -/
def FabMsg.lanes (m : FabMsg) : PReg := if m.data.length < 152 then BitVec.allOnes 128 else BitVec.ofNat 128 (ofBytes ((m.data.drop 136).take 16))

/-- The request that a send message carries. -/
def FabMsg.request (m : FabMsg) (port : Nat) : SendReq :=
  { tile := m.from.1, peer := port + 1, ctx := m.from.2, sendId := m.tag.toNat, len := fld m.arg 0 21, tag := BitVec.ofNat 16 (fld m.arg 32 16),
    tenant := m.tenant }

/-- The kind of the message that a reference stands for. -/
def FabMsg.refKind (m : FabMsg) : BitVec 4 := BitVec.ofNat 4 (nth 0#8 m.data 16).toNat

/-- What the target makes of an access of a message: its TENANT owns no destination that is not a tile (R38). -/
def State.brought (s : State) (m : FabMsg) (k : RKind) (size data data2 : Nat) (lanes : PReg) : HomeR :=
  if gaTile m.dst then s.atHome m.tenant k m.dst 0 size data data2 lanes else { st := s, val := 0, fail := some 0x26#7, cont := none }

/-- What became of a write that arrived: nothing to say, or its cause to the sender (log entry 19). -/
def State.wrote (s : State) (port : Nat) (m : FabMsg) (fail : Option Cause) : State :=
  match fail with
  | some c => s.answer port m.tile 0x2#4 m (c.toNat + 512) []
  | none => s

/-- A remote store performs, or its cause returns (R35, R38, R364). -/
def State.storeIn (port : Nat) (s : State) (m : FabMsg) : Option State :=
  if s.waits m then none
  else
    let h := s.brought m .stx (fld m.arg 0 8) (ofBytes (m.data.take 128)) 0 m.lanes
    some (h.st.wrote port m h.fail)

/-- REMOTE_STORE (R35). -/
def execRemoteStore (port : Nat) (flits : List (BitVec 512)) (s : State) : Result := .next (s.arrives port 0x0#4 flits (State.storeIn port))

/-- A barrier arrival performs, or its cause returns (R144, R380). -/
def State.arrivalIn (port : Nat) (s : State) (m : FabMsg) : Option State :=
  if s.waits m then none
  else
    let h := s.brought m .arrival 8 0 0 (BitVec.allOnes 128)
    some (h.st.wrote port m h.fail)

/-- BARRIER_ARRIVAL (R144). -/
def execBarrierArrival (port : Nat) (flits : List (BitVec 512)) (s : State) : Result := .next (s.arrives port 0x4#4 flits (State.arrivalIn port))

/-- The bytes of a load return, or the cause (R35). -/
def State.loadIn (port : Nat) (s : State) (m : FabMsg) : Option State :=
  if s.waits m then none
  else
    let n := m.arg.toNat
    let h := s.brought m (.ldx 0) n 0 0 m.lanes
    some (match h.fail with
      | some c => h.st.answer port m.tile 0x2#4 m c.toNat []
      | none => h.st.answer port m.tile 0x2#4 m 0 (toBytes n h.val))

/-- REMOTE_LOAD_REQUEST (R35). -/
def execRemoteLoadRequest (port : Nat) (flits : List (BitVec 512)) (s : State) : Result := .next (s.arrives port 0x1#4 flits (State.loadIn port))

/-- The copy of a tile with a command number. -/
def Tile.copyOf (x : Tile) (id : Nat) : Option (Nat × CopyCmd) := x.copies.find? (fun e => decide (e.2.seq = id))

/-- What an answer is for has the answer's TENANT: its access, its copy or its send. One of another TENANT is discarded (R38). -/
def State.answers (s : State) (m : FabMsg) : Bool :=
  let t := m.to.1
  let id := m.tag.toNat
  ((s.ctx t m.to.2.1).remote.all (fun r => decide (r.id ≠ id ∨ r.tenant = m.tenant)))
    && (s.tile t).copies.all (fun k => decide (k.2.seq ≠ id ∨ k.2.tenant = m.tenant))
    && (s.tile t).sends.all (fun r => decide (r.id ≠ id ∨ r.tenant = m.tenant))

/-- A load returns to its access or its copy, or a failure comes back for a store, an arrival, a copy's write or a send (R35). -/
def State.loadReturn (s : State) (m : FabMsg) : State :=
  let t := m.to.1
  let c := m.to.2.1
  let id := m.tag.toNat
  let code := BitVec.ofNat 7 (fld m.arg 0 7)
  let fail : Option Cause := if code = 0#7 then none else some code
  if !s.answers m then s else
  match (s.ctx t c).remote.find? (fun r => decide (r.id = id) && r.sent && !r.done) with
  | some r => (s.settle t c r (ofBytes m.data) fail).afterAccess t c r fail none
  | none =>
    match (s.tile t).copyOf id with
    | some (slot, k) =>
      let k := if m.arg.getLsbD 9 then { k with fail := match k.fail with | some f => some f | none => fail }
        else { k with got := mput k.got m.to.2.2 (ofBytes m.data, code) }
      s.modTile t (fun x => x.setCopy slot k)
    | none => if fail.isSome then s.sendDone t id fail else s

/-- REMOTE_LOAD_RETURN (R35). -/
def execRemoteLoadReturn (port : Nat) (flits : List (BitVec 512)) (s : State) : Result :=
  .next (s.arrives port 0x2#4 flits (fun s m => some (s.loadReturn m)))

/-! ## The block store (R40) -/

/-- Where the region at DDBASE holds the block in a place of a port's store: 1024 blocks of 4 KiB for each port (log entry 52). -/
def State.ddAddr (s : State) (port slot : Nat) : Nat := s.kregs.ddbase.toNat + 2 ^ 22 * port + 4096 * slot

/-- The place of the store that a block takes: that of its own tag, a free one, or that of the oldest entry, which leaves. -/
def Port.place (x : Port) (tn : Nat) (h : BitVec 128) : Nat :=
  match x.store.find? (fun e => decide (e.1 = tn ∧ e.2.1 = h)) with
  | some e => e.2.2
  | none => if x.store.length < 1024 then x.store.length else (x.store.getLast?.map (fun e => e.2.2)).getD 0

/-- A full candidate block enters the port's block store where the H that came with it is that of its bytes (R40). -/
def State.storeBlock (s : State) (port : Nat) (m : FabMsg) : State :=
  let x := s.port port
  if s.kregs.ddbase = 0 ∨ m.data.length ≠ 4096 ∨ m.cand ≠ some (blockTag x.key m.data) then s
  else
    let h := blockTag x.key m.data
    let n := x.place m.tenant h
    (s.memWrite (s.ddAddr port n) m.data).modPort port (fun x => { x with store := (m.tenant, h, n) :: x.store.filter (fun e => decide (e.2.2 ≠ n)) })

/-- A block as the store holds it; one that cannot be read is no entry. -/
def State.blockOf (s : State) (port tn : Nat) (h : BitVec 128) : Option ((Nat × BitVec 128 × Nat) × List Byte) :=
  if s.kregs.ddbase = 0 then none
  else
    match (s.port port).store.find? (fun e => decide (e.1 = tn ∧ e.2.1 = h)) with
    | none => none
    | some e =>
      let a := s.ddAddr port e.2.2
      if (s.memFails a 4096 false).isSome then none else some (e, s.memRead a 4096)

/-- Copy bytes arrive: whether the port accepted them, and what became of them (R38). -/
def State.copyArrives (s : State) (port : Nat) (m : FabMsg) : Bool × State :=
  match (if gaTile m.dst then s.homeFails m.tenant .stx m.dst 0 m.data.length true else some 0x26#7) with
  | some c => (false, s.wrote port m (some c))
  | none => (true, s.homeWrite m.dst 0 m.data.length (ofBytes m.data) (BitVec.allOnes 128))

/-- Copy bytes are written, and a block that the port accepted is stored (R35, R40). -/
def State.copyIn (port : Nat) (s : State) (m : FabMsg) : Option State :=
  if s.waits m then none
  else
    let w := s.copyArrives port m
    some (if w.1 then w.2.storeBlock port m else w.2)

/-- COPY_DATA (R35, R40). -/
def execCopyData (port : Nat) (flits : List (BitVec 512)) (s : State) : Result := .next (s.arrives port 0x3#4 flits (State.copyIn port))

/-- Payload bytes of a send arrive for the receive that its credit named, on a tile bound to their tenant (R38, R462). -/
def State.sendArrives (s : State) (port : Nat) (m : FabMsg) : Bool × State :=
  match (s.tile m.tile).posted.find? (fun r => decide (r.id = fld m.arg 20 44)) with
  | some r =>
    if r.met.isSome && decide (r.tenant = m.tenant) && s.bound m.tile m.tenant then (true, s.recvBytes m.tile r (fld m.arg 0 20) m.data)
    else (false, s.wrote port m (some 0x26#7))
  | none => (false, s.wrote port m (some 0x26#7))

/-- A request is held for its match, or waits at its port; payload bytes are written (R462, R464). -/
def State.sendIn (port : Nat) (s : State) (m : FabMsg) : Option State :=
  let d := m.tile
  let why : Option Cause :=
    if (s.unit (.tile d)).health = .failed ∨ m.tenant ∈ (s.tile d).lostFor then some 0x2F#7
    else if !gaTile m.dst || !s.bound d m.tenant then some 0x26#7 else none
  if s.waits m then none
  else if m.data ≠ [] then
    let w := s.sendArrives port m
    some (if w.1 then w.2.storeBlock port m else w.2)
  else
    match why with
    | some c => some (s.replySend d (m.request port) (some c) 0)
    | none =>
      if 256 ≤ (s.tile d).requests.length then none
      else some ((s.modTile d (fun x => { x with requests := x.requests ++ [m.request port] })).matchTile d)

/-- SEND (R462). -/
def execSend (port : Nat) (flits : List (BitVec 512)) (s : State) : Result := .next (s.arrives port 0x5#4 flits (State.sendIn port))

/-- The cuts of a payload of n bytes at scratchpad addresses that are multiples of 4096: offsets and lengths. -/
def blockCuts : Nat → Nat → Nat → Nat → List (Nat × Nat)
  | 0, _, _, _ => []
  | f + 1, base, off, n => if n ≤ off then [] else
      let k := min (n - off) (4096 - (base + off) % 4096)
      (off, k) :: blockCuts f base (off + k) n

/-- The send that a receive credit names fails, or its data follows (R462, R464). -/
def State.creditIn (s : State) (port : Nat) (m : FabMsg) : State :=
  let t := m.to.1
  match (s.tile t).sends.find? (fun r => decide (r.id = m.tag.toNat ∧ r.tenant = m.tenant)) with
  | none => s
  | some r =>
    let code := BitVec.ofNat 7 (fld m.arg 0 7)
    if code ≠ 0#7 then s.sendDone t r.id (some code)
    else
      let base := ((s.tile t).inst r.inst).front + fOff r.block
      (blockCuts (fLen r.block / 4096 + 2) base 0 (fLen r.block)).foldl (fun (s : State) (e : Nat × Nat) =>
        let w : FabMsg :=
          { tenant := r.tenant, dst := fAddr r.block, src := BitVec.ofNat 64 (2 * t + r.ctx), tag := BitVec.ofNat 64 r.id,
            arg := BitVec.ofNat 64 (e.1 + 2 ^ 20 * fld m.arg 8 44), data := (s.tile t).padRead (base + e.1) e.2, cand := none }
        if fDedup r.block && decide (e.2 = 4096) then s.sendBlock t port 0x5#4 w else s.sendFrom t port 0x5#4 w) s

/-- RECEIVE_CREDIT (R462). -/
def execReceiveCredit (port : Nat) (flits : List (BitVec 512)) (s : State) : Result :=
  .next (s.arrives port 0x6#4 flits (fun s m => some (s.creditIn port m)))

/-- An atomic is applied at its home and answered with the old value, and with the CONT that a decrement released (R35). -/
def State.atomicIn (port : Nat) (s : State) (m : FabMsg) : Option State :=
  if s.waits m then none
  else
    let h := s.brought m (.atm (atmOfCode (fld m.arg 8 8)) 0) (fld m.arg 0 8) (ofBytes (m.data.take 128)) (ofBytes ((m.data.drop 128).take 8))
      (BitVec.allOnes 128)
    some (match h.fail with
      | some c => h.st.answer port m.tile 0xD#4 m c.toNat []
      | none => h.st.answer port m.tile 0xD#4 m (if h.cont.isSome then 256 else 0)
          (toBytes 8 h.val ++ (match h.cont with | some b => toBytes 64 b | none => [])))

/-- ATOMIC_REQUEST (R35). -/
def execAtomicRequest (port : Nat) (flits : List (BitVec 512)) (s : State) : Result := .next (s.arrives port 0xC#4 flits (State.atomicIn port))

/-- The old value of an atomic returns; a released CONT is pushed, and waits at the port for room (R35, R98). -/
def State.atomicReturn (s : State) (m : FabMsg) : Option State :=
  let t := m.to.1
  let c := m.to.2.1
  let code := BitVec.ofNat 7 (fld m.arg 0 7)
  let fail : Option Cause := if code = 0#7 then none else some code
  match (s.ctx t c).remote.find? (fun r => decide (r.id = m.tag.toNat ∧ r.tenant = m.tenant) && r.sent && !r.done) with
  | none => some s
  | some r =>
    let cont := if m.arg.getLsbD 8 then some (ofBytes (m.data.drop 8)) else none
    if cont.isSome && !s.contRoom t c r.tenant then none
    else some ((s.settle t c r (ofBytes (m.data.take 8)) fail).afterAccess t c r fail cont)

/-- ATOMIC_RETURN (R35). -/
def execAtomicReturn (port : Nat) (flits : List (BitVec 512)) (s : State) : Result := .next (s.arrives port 0xD#4 flits State.atomicReturn)

/-! ## Deduplication (R39-R41) -/

/-- A reference is served from the block store in one step, or answered with a NAK (R40); it counts toward the next session key (R41). -/
def State.reference (port : Nat) (s : State) (m : FabMsg) : Option State :=
  if s.waits m then none
  else
    let s := s.modPort port (fun x => { x with refs := x.refs + 1 })
    match s.blockOf port m.tenant (BitVec.ofNat 128 (ofBytes (m.data.take 16))) with
    | none => some ((s.modPort port (fun x => { x with refused := x.refused + 1 })).sendFrom m.tile port 0x8#4 { tenant := m.tenant, dst := m.src, src := m.dst, tag := m.tag, arg := m.arg, data := m.data, cand := none })
    | some (e, l) =>
      let s := s.modPort port (fun x => { x with store := e :: x.store.filter (fun f => decide (f ≠ e)) })
      some ((if m.refKind = 0x3#4 then s.copyArrives port { m with data := l } else s.sendArrives port { m with data := l }).2)

/-- DEDUPLICATION_REFERENCE (R40). -/
def execDeduplicationReference (port : Nat) (flits : List (BitVec 512)) (s : State) : Result := .next (s.arrives port 0x7#4 flits (State.reference port))

/-- The block that a NAK or an acknowledgement of a reference speaks of. -/
def Port.block (x : Port) (src dst tag arg : W64) : Option (BitVec 4 × FabMsg) :=
  x.blocks.find? (fun e => decide (e.2.src = src ∧ e.2.dst = dst ∧ e.2.tag = tag ∧ e.2.arg = arg))

/-- A block whose reference missed goes in full, and DEDUP_RESENT is logged (R40, R464). -/
def State.dedupNak (s : State) (port : Nat) (m : FabMsg) : State :=
  match (s.port port).block m.dst m.src m.tag m.arg with
  | none => s
  | some e =>
    if e.2.tenant ≠ m.tenant then s else
    let s := s.modPort port (fun x => { x with blocks := x.blocks.filter (fun b => decide (b ≠ e)) })
    (s.sendFrom e.2.from.1 port e.1 e.2).klog 6 0x3C#7 0 port (2 ^ e.2.tenant) 0 0

/-- DEDUPLICATION_NAK (R40). -/
def execDeduplicationNak (port : Nat) (flits : List (BitVec 512)) (s : State) : Result :=
  .next (s.arrives port 0x8#4 flits (fun s m => some (s.dedupNak port m)))

/-! ## Hop acknowledgement (R36) -/

/-- How many messages of the retry buffer an acknowledgement through hseq completes: those whose last flit it covers. -/
def Port.covered (x : Port) (hseq : BitVec 10) : Nat := ((x.link.through (hseq.setWidth 12)).filter (fun e => decide (fabRemain e.2 = 0))).length

/-- Flits through hseq leave the retry buffer, and messages that waited for room go (R36). -/
def Port.acked (x : Port) (hseq : BitVec 10) : Port :=
  let gone := (x.link.through (hseq.setWidth 12)).map Prod.snd
  let l := x.link.release (hseq.setWidth 12)
  let y := { x with out := x.out.drop (x.covered hseq), link := { l with wire := l.wire.filter (fun f => !decide (f ∈ gone)) } }
  Port.pump y.waiting y

/-- An H enters the sent-block cache of its tenant: 64 entries, the least recently used leaving (R39). -/
def Port.sentBlock (x : Port) (tn : Nat) (h : BitVec 128) : Port :=
  let e := (tn, h)
  let all := e :: x.sent.filter (fun f => decide (f ≠ e))
  let keep := (all.filter (fun f => decide (f.1 = tn))).take 64
  { x with sent := all.filter (fun f => decide (f.1 ≠ tn) || decide (f ∈ keep)) }

/-- A copy or a send has bytes written on another package; a send ends once all its messages are acknowledged. -/
def State.bytesWritten (s : State) (t c id : Nat) : State :=
  match (s.tile t).copyOf id with
  | some (slot, k) => s.modTile t (fun x => x.setCopy slot { k with wrote := true })
  | none =>
    let s := s.modTile t (fun x => { x with sends := x.sends.map (fun r => if r.id = id then { r with written := true } else r) })
    if s.outstanding (2 * t + c) id then s else s.sendDone t id none

/-- What an acknowledged message brings about at its sender. -/
def State.acked (s : State) (port : Nat) (e : BitVec 4 × FabMsg) : State :=
  let m := e.2
  let t := m.from.1
  let c := m.from.2
  let enter := fun (s : State) => match m.cand with | some h => s.modPort port (fun x => x.sentBlock m.tenant h) | none => s
  if e.1 = 0x0#4 ∨ e.1 = 0x4#4 then
    match (s.ctx t c).remote.find? (fun r => decide (r.id = m.tag.toNat) && r.sent && !r.done) with
    | some r => (s.settle t c r 0 none).afterAccess t c r none none
    | none => s
  else if e.1 = 0x3#4 ∨ (e.1 = 0x5#4 ∧ m.data ≠ []) then (enter s).bytesWritten t c m.tag.toNat
  else if e.1 = 0x7#4 then
    match (s.port port).block m.src m.dst m.tag m.arg with
    | none => s
    | some b => (s.modPort port (fun x => { x with blocks := x.blocks.filter (fun f => decide (f ≠ b)) })).bytesWritten t c m.tag.toNat
  else s

/-- A hop answer of a kind arrives at a live port; a damaged one is discarded with a NAK (R36). -/
def State.hopIn (s : State) (port : Nat) (k : BitVec 4) (f : BitVec 512) (act : State → BitVec 10 → State) : State :=
  let x := s.port port
  if !x.live || (flitGood f && decide (fabKind f ≠ k)) then s
  else if !flitGood f then s.modPort port (fun x => x.answers false x.expected)
  else act s (fabHseq f)

/-- An acknowledgement through an HSEQ: the messages it completes have performed at their targets (R36, log entry 19). -/
def State.hopAck (port : Nat) (s : State) (hseq : BitVec 10) : State :=
  let x := s.port port
  (x.out.take (x.covered hseq)).foldl (fun (s : State) e => s.acked port e) (s.modPort port (fun x => x.acked hseq))

/-- HOP_ACK (R36). -/
def execHopAck (port : Nat) (flit : BitVec 512) (s : State) : Result := .next (s.hopIn port 0xA#4 flit (State.hopAck port))

/-- HOP_NAK: the port replays its retry buffer from the HSEQ; NAKs in a row for one HSEQ are counted (R36). -/
def execHopNak (port : Nat) (flit : BitVec 512) (s : State) : Result :=
  .next (s.hopIn port 0xB#4 flit (fun s n => s.modPort port (fun x => { x with link := x.link.nak (n.setWidth 12) })))

/-- A flit of a reserved KIND is discarded and counted. It is not retried: where it is the one expected, the port goes on to the next HSEQ (R35). -/
def Port.reserved (x : Port) (f : BitVec 512) : Port :=
  let x := { x with dropped := x.dropped + 1 }
  if fabHseq f = x.expected then { x with link := { x.link with rxSeq := BitVec.ofNat 12 ((x.link.rxSeq.toNat + 1) % 1024) } }.answers true (fabHseq f)
  else x

/-- FABRIC_RESERVED_KIND (R35). -/
def execFabricReservedKind (port : Nat) (flit : BitVec 512) (s : State) : Result :=
  .next (if flitGood flit && decide (0xE ≤ (fabKind flit).toNat) then s.modPort port (fun x => x.reserved flit) else s)

/-! ## Training and keys (R36, R41) -/

/-- A new session key empties the caches and stores of a port (R41). -/
def Port.newKey (x : Port) (n : Nat) : Port := { x with key := Config.sessionKey n x.keyNo, keyNo := x.keyNo + 1, refs := 0, sent := [], store := [] }

/-- Training: the peer's identity is read, and a session key is agreed (R36, R41). A FAILED port trains no more. -/
def State.trainPort (s : State) (port : Nat) (peer : W64) : State :=
  s.modPort port (fun x =>
    if x.failed then x
    else { (x.newKey port) with up := true, peer := (peer &&& 0x003FFFFFFFFFFFFF#64) ||| 0x8000000000000000#64, refuses := 0, link := { x.link with naks := 0 } })

/-- SAHETH_LINK_PORT_TRAINING (R41). -/
def execSahethLinkPortTraining (port : Nat) (peer : BitVec 64) (s : State) : Result := .next (s.trainPort port peer)

/-- 16 NAKs in a row for one HSEQ have come to the port, or have gone out from it: both ends retrain (R29, R36). -/
def Port.retrains (x : Port) : Bool := !x.failed && (decide (16 ≤ x.link.naks) || decide (16 ≤ x.refuses))

/-- FABRIC_RETRAIN: after 16 NAKs in a row for one HSEQ; a success is logged as LINK_RETRAINED (R36, R292). -/
def execFabricRetrain (port : Nat) (peer : BitVec 64) (s : State) : Result :=
  .next (if !(s.port port).retrains then s else (s.trainPort port peer).klog 6 0x7A#7 0 port 0 0 0)

/-- SESSION_KEY_AGREEMENT: after 2^24 references (R41). -/
def execSessionKeyAgreement (port : Nat) (s : State) : Result :=
  .next (if (s.port port).refs < 2 ^ 24 then s else s.modPort port (fun x => x.newKey port))

/-- The remote accesses of a context that have left on a port. -/
def Ctx.onPort (y : Ctx) (port : Nat) : List Remote :=
  y.remote.filter (fun r => r.sent && !r.done && gaTile r.addr && decide (gaPeer r.addr = port + 1))

/-- What was on its way through a port that failed: accesses, copies, sends and receives end with LINK_DOWN (R36, R364, R463). -/
def State.cutPort (s : State) (port : Nat) : State :=
  let lost := (s.port port).out ++ (s.port port).blocks
  let s := s.modPort port (fun x => { x with out := [], blocks := [], link := { x.link with retry := [], wire := [], body := [] } })
  s.tiles.foldl (fun (s : State) (e : Nat × Tile) =>
    let t := e.1
    let s := [0, 1].foldl (fun (s : State) (c : Nat) => ((s.ctx t c).onPort port).foldl (fun (s : State) (r : Remote) =>
      (s.settle t c r 0 (some 0x75#7)).afterAccess t c r (some 0x75#7) none) s) s
    let hit := fun (k : CopyCmd) => lost.any (fun m => decide (m.2.from = (t, k.ctx) ∧ m.2.tag.toNat = k.seq))
    let s := s.modTile t (fun x => { x with copies := x.copies.map (fun (k : Nat × CopyCmd) =>
      (k.1, if hit k.2 ∧ k.2.fail.isNone then { k.2 with fail := some 0x75#7 } else k.2)) })
    let s := ((s.tile t).sends.filter (fun r => decide (gaPeer (fAddr r.block) = port + 1))).foldl (fun (s : State) (r : SendRun) =>
      s.sendDone t r.id (some (if r.written then 0x3E#7 else 0x75#7))) s
    let s := s.modTile t (fun x => { x with requests := x.requests.filter (fun q => decide (q.peer ≠ port + 1)) })
    (s.tile t).posted.foldl (fun (s : State) (r : Recv) => match r.met with
      | some q => if q.peer = port + 1 ∧ r.got < q.len then s.recvDone t r q 0 (some 0x75#7) else s
      | none => s) s) s

/-- FABRIC_RETRAIN_FAIL: the port is FAILED and LINK_DOWN is recorded (R36). -/
def execFabricRetrainFail (port : Nat) (s : State) : Result :=
  .next (if !(s.port port).retrains then s
    else ((s.modPort port (fun x => { x with failed := true, up := false })).linkDown (.port port) port).cutPort port)

/-- A retraction notice: FABRIC_RETRACTION_RECEIVED is logged with the port and the cluster in UNIT, and each VALID tenant of TMASK gets a KIND 5
event (R42, R286). -/
def State.noticeIn (s : State) (port : Nat) (m : FabMsg) : State :=
  let tmask := msgField m.data 24 8
  let s := s.klog 5 0x76#7 0 (port + 256 * msgField m.data 0 1) tmask (msgField m.data 8 8) (msgField m.data 16 8)
  (List.range 64).foldl (fun (s : State) (n : Nat) => if bit tmask n && (s.tenant n).valid then s.event n 5 (some 0x76#7) 0 0 0 else s) s

/-- RETRACTION_NOTICE (R42, R286). -/
def execRetractionNotice (port : Nat) (flits : List (BitVec 512)) (s : State) : Result :=
  .next (s.arrives port 0x9#4 flits (fun s m => some (s.noticeIn port m)))

end Sys2Proof.Machine
end

