-- ==== Sys2Proof/Machine/Issue.lean ====
section
/-! DEFINITION. What a bundle's slots read, write and name, and the checks that decode makes of a chain in its thread (R122, R335-R337). -/

namespace Sys2Proof.Machine

/-- A destination or source as R336 and R122 judge it: registers one by one, vector registers by quarter. -/
inductive Res where
  | g (n : Nat) | a (n : Nat) | am (n : Nat) | p (n : Nat) | v (n q : Nat) | lc (n : Nat) | sr (n : Nat)
deriving DecidableEq, Repr

/-- g register n; g0 is never judged (R336). -/
def resG (n : Nat) : List Res := if n = 0 then [] else [.g n]
/-- Predicate n; p0 is never judged. -/
def resP (n : Nat) : List Res := if n = 0 then [] else [.p n]
/-- The predicate of a PRED field. -/
def resGuard (p : BitVec 4) : List Res := resP (p.toNat % 8)
/-- The quarters of bits lo to lo + n - 1 of a part. -/
def resBits (d : Part) (lo n : Nat) : List Res :=
  (List.range 4).filterMap (fun q => if 256 * q < d.off + lo + n ∧ d.off + lo < 256 * (q + 1) then some (.v d.reg q) else none)
/-- The quarters of a whole part. -/
def resV (wid : BitVec 2) (f : BitVec 6) : List Res := let d := partOf wid f; resBits d 0 d.w
/-- The quarters of the low 1/k of a part. -/
def resLow (wid : BitVec 2) (f : BitVec 6) (k : Nat) : List Res := let d := partOf wid f; resBits d 0 (d.w / k)
/-- Bits of a VCVT source part that are read (R401). -/
def resCvt (wid : BitVec 2) (f : BitVec 6) (src dst : BitVec 4) : List Res :=
  let d := partOf wid f
  let zs := tyBits src.toNat
  let zd := tyBits dst.toNat
  resBits d 0 (if zs < zd then d.w * zs / zd else d.w)
/-- A special register as a destination or source: LC0 and LC1 are the loop counters. -/
def resSr (n : Nat) : List Res := if n = 5 then [.lc 0] else if n = 6 then [.lc 1] else [.sr n]
/-- The VTRN pair (R414). -/
def resTrn (ty : BitVec 4) (wid : BitVec 2) (f : BitVec 6) : List Res :=
  if tyTrn32 ty then resV wid f ++ resV wid (f + 1) else resV wid f

/-- The destinations of an operation (R336); lv: the loop level a LOOP would take. -/
def writesOf (lv : Nat) : Instr → List Res
  | .call _ _ => [.g 63]
  | .callr _ _ => [.g 63]
  | .loop _ _ => [.lc lv]
  | .add _ d _ _ => resG d.toNat
  | .addi _ d _ _ => resG d.toNat
  | .sub _ d _ _ => resG d.toNat
  | .mul _ d _ _ => resG d.toNat
  | .mulh _ d _ _ => resG d.toNat
  | .mulhu _ d _ _ => resG d.toNat
  | .div _ d _ _ => resG d.toNat
  | .divu _ d _ _ => resG d.toNat
  | .rem _ d _ _ => resG d.toNat
  | .remu _ d _ _ => resG d.toNat
  | .and _ d _ _ => resG d.toNat
  | .or _ d _ _ => resG d.toNat
  | .xor _ d _ _ => resG d.toNat
  | .andn _ d _ _ => resG d.toNat
  | .shl _ d _ _ => resG d.toNat
  | .shr _ d _ _ => resG d.toNat
  | .sar _ d _ _ => resG d.toNat
  | .rotr _ d _ _ => resG d.toNat
  | .shlImm _ d _ _ => resG d.toNat
  | .shrImm _ d _ _ => resG d.toNat
  | .sarImm _ d _ _ => resG d.toNat
  | .rotrImm _ d _ _ => resG d.toNat
  | .clz _ d _ => resG d.toNat
  | .ctz _ d _ => resG d.toNat
  | .popc _ d _ => resG d.toNat
  | .min _ d _ _ => resG d.toNat
  | .max _ d _ _ => resG d.toNat
  | .minu _ d _ _ => resG d.toNat
  | .maxu _ d _ _ => resG d.toNat
  | .sel _ d _ _ => resG d.toNat
  | .mov _ d _ => resG d.toNat
  | .movFromA _ d _ => resG d.toNat
  | .movToA _ an _ => [.a an.toNat]
  | .movFromQ _ d _ => resG d.toNat
  | .liw _ d _ => resG d.toNat
  | .cmpEq _ pd _ _ => resP pd.toNat
  | .cmpNe _ pd _ _ => resP pd.toNat
  | .cmpLt _ pd _ _ => resP pd.toNat
  | .cmpGe _ pd _ _ => resP pd.toNat
  | .cmpLtu _ pd _ _ => resP pd.toNat
  | .cmpGeu _ pd _ _ => resP pd.toNat
  | .cmpFeq _ pd _ _ => resP pd.toNat
  | .cmpFlt _ pd _ _ => resP pd.toNat
  | .cmpFle _ pd _ _ => resP pd.toNat
  | .cmpFun _ pd _ _ => resP pd.toNat
  | .fadd _ d _ _ => resG d.toNat
  | .fmul _ d _ _ => resG d.toNat
  | .fma _ d _ _ => resG d.toNat
  | .fcvtToF32 _ d _ _ _ => resG d.toNat
  | .fcvtFromF32 _ d _ _ _ => resG d.toNat
  | .minF32 _ d _ _ => resG d.toNat
  | .maxF32 _ d _ _ => resG d.toNat
  | .pand _ d _ _ => resP d.toNat
  | .por _ d _ _ => resP d.toNat
  | .pxor _ d _ _ => resP d.toNat
  | .pnot _ d _ => resP d.toNat
  | .rdsr _ d _ => resG d.toNat
  | .wrsr _ sr _ => resSr sr.toNat
  | .ali _ _ ad => [.a ad.toNat]
  | .aadd _ _ _ ad => [.a ad.toNat]
  | .amod _ _ _ ad => [.a ad.toNat]
  | .abrv _ _ _ ad => [.a ad.toNat]
  | .acir _ _ _ ad => [.a ad.toNat]
  | .amset am _ => [.am am.toNat]
  | .ldB _ _ _ r => resG r.toNat
  | .ldH _ _ _ r => resG r.toNat
  | .ldW _ _ _ r => resG r.toNat
  | .ldD _ _ _ r => resG r.toNat
  | .vld256 _ _ _ r => resV 0#2 r
  | .vld512 _ _ _ r => resV 1#2 r
  | .vld1024 _ _ _ r => resV 2#2 r
  | .atmAddW _ _ _ r => resG r.toNat
  | .atmAndW _ _ _ r => resG r.toNat
  | .atmOrW _ _ _ r => resG r.toNat
  | .atmXorW _ _ _ r => resG r.toNat
  | .atmSwpW _ _ _ r => resG r.toNat
  | .atmCasW _ _ _ r => resG r.toNat
  | .atmMinW _ _ _ r => resG r.toNat
  | .atmMaxW _ _ _ r => resG r.toNat
  | .atmAdd _ _ _ r => resG r.toNat
  | .atmAnd _ _ _ r => resG r.toNat
  | .atmOr _ _ _ r => resG r.toNat
  | .atmXor _ _ _ r => resG r.toNat
  | .atmSwp _ _ _ r => resG r.toNat
  | .atmCas _ _ _ r => resG r.toNat
  | .atmMin _ _ _ r => resG r.toNat
  | .atmMax _ _ _ r => resG r.toNat
  | .atmFmaxF32 _ _ _ r => resG r.toNat
  | .atmFmaxBf16 _ _ _ r => resG r.toNat
  | .atmFmaxF16 _ _ _ r => resG r.toNat
  | .atmDec _ _ _ r => resG r.toNat
  | .ldsB _ _ r => resG r.toNat
  | .ldsH _ _ r => resG r.toNat
  | .ldsW _ _ r => resG r.toNat
  | .ldsD _ _ r => resG r.toNat
  | .vadd _ _ _ vd _ wid => resV wid vd
  | .vaddStream _ _ _ vd _ wid => resV wid vd
  | .vsub _ _ _ vd _ wid => resV wid vd
  | .vsubStream _ _ _ vd _ wid => resV wid vd
  | .vmul _ _ _ vd _ wid => resV wid vd
  | .vmulStream _ _ _ vd _ wid => resV wid vd
  | .vfma _ _ _ vd _ wid => resV wid vd
  | .vfmaStream _ _ _ vd _ wid => resV wid vd
  | .vfms _ _ _ vd _ wid => resV wid vd
  | .vfmsStream _ _ _ vd _ wid => resV wid vd
  | .vmin _ _ _ vd _ wid => resV wid vd
  | .vminStream _ _ _ vd _ wid => resV wid vd
  | .vmax _ _ _ vd _ wid => resV wid vd
  | .vmaxStream _ _ _ vd _ wid => resV wid vd
  | .vabs _ _ vd _ wid => resV wid vd
  | .vabsStream _ _ vd _ wid => resV wid vd
  | .vneg _ _ vd _ wid => resV wid vd
  | .vnegStream _ _ vd _ wid => resV wid vd
  | .vcmp _ _ _ _ pd _ _ => resP pd.toNat
  | .vcmpStream _ _ _ _ pd _ _ => resP pd.toNat
  | .vsel _ _ _ vd _ wid => resV wid vd
  | .vselStream _ _ _ vd _ wid => resV wid vd
  | .viadd _ _ _ vd _ wid => resV wid vd
  | .viaddStream _ _ _ vd _ wid => resV wid vd
  | .visub _ _ _ vd _ wid => resV wid vd
  | .visubStream _ _ _ vd _ wid => resV wid vd
  | .vimul _ _ _ vd _ wid => resV wid vd
  | .vimulStream _ _ _ vd _ wid => resV wid vd
  | .vimac _ _ _ vd _ wid => resV wid vd
  | .vimacStream _ _ _ vd _ wid => resV wid vd
  | .vsat _ _ vd _ wid => resV wid vd
  | .vsatStream _ _ vd _ wid => resV wid vd
  | .vshl _ _ _ vd _ wid => resV wid vd
  | .vshlStream _ _ _ vd _ wid => resV wid vd
  | .vshr _ _ _ vd _ wid => resV wid vd
  | .vshrStream _ _ _ vd _ wid => resV wid vd
  | .vsar _ _ _ vd _ wid => resV wid vd
  | .vsarStream _ _ _ vd _ wid => resV wid vd
  | .vand _ _ _ vd _ wid => resV wid vd
  | .vandStream _ _ _ vd _ wid => resV wid vd
  | .vor _ _ _ vd _ wid => resV wid vd
  | .vorStream _ _ _ vd _ wid => resV wid vd
  | .vxor _ _ _ vd _ wid => resV wid vd
  | .vxorStream _ _ _ vd _ wid => resV wid vd
  | .vnot _ _ vd _ wid => resV wid vd
  | .vnotStream _ _ vd _ wid => resV wid vd
  | .vcvt _ _ _ _ vd _ wid => resV wid vd
  | .vcvtStream _ _ _ _ vd _ wid => resV wid vd
  | .vqnt _ _ _ vd _ wid => resV wid vd
  | .vqntStream _ _ _ vd _ wid => resV wid vd
  | .vdqnt _ _ vd _ wid => resV wid vd
  | .vdqntStream _ _ vd _ wid => resV wid vd
  | .vimg _ _ _ vd _ wid => resV wid vd
  | .vimgStream _ _ _ vd _ wid => resV wid vd
  | .vlse _ _ _ vd _ wid => resV wid vd
  | .vlseStream _ _ _ vd _ wid => resV wid vd
  | .vrope _ _ _ vd _ wid => resV wid vd
  | .vropeStream _ _ _ vd _ wid => resV wid vd
  | .vnanp _ pd => resP pd.toNat
  | .vrsum _ _ vd _ wid => resV wid vd
  | .vrsumStream _ _ vd _ wid => resV wid vd
  | .vrmax _ _ vd _ wid => resV wid vd
  | .vrmaxStream _ _ vd _ wid => resV wid vd
  | .vrmin _ _ vd _ wid => resV wid vd
  | .vrminStream _ _ vd _ wid => resV wid vd
  | .vbcst _ _ vd _ wid => resV wid vd
  | .vmov _ _ vd _ wid => resV wid vd
  | .vmovStream _ _ vd _ wid => resV wid vd
  | .vexp2 _ _ vd _ wid => resV wid vd
  | .vexp2Stream _ _ vd _ wid => resV wid vd
  | .vlog2 _ _ vd _ wid => resV wid vd
  | .vlog2Stream _ _ vd _ wid => resV wid vd
  | .vrcp _ _ vd _ wid => resV wid vd
  | .vrcpStream _ _ vd _ wid => resV wid vd
  | .vrsq _ _ vd _ wid => resV wid vd
  | .vrsqStream _ _ vd _ wid => resV wid vd
  | .vsqrt _ _ vd _ wid => resV wid vd
  | .vsqrtStream _ _ vd _ wid => resV wid vd
  | .vsin _ _ vd _ wid => resV wid vd
  | .vsinStream _ _ vd _ wid => resV wid vd
  | .vcos _ _ vd _ wid => resV wid vd
  | .vcosStream _ _ vd _ wid => resV wid vd
  | .vtanh _ _ vd _ wid => resV wid vd
  | .vtanhStream _ _ vd _ wid => resV wid vd
  | .vperm _ _ _ vd _ wid => resV wid vd
  | .vpermStream _ _ _ vd _ wid => resV wid vd
  | .vtrn _ _ vd ty wid => resTrn ty wid vd
  | .vtrnStream _ _ vd _ wid => resV wid vd
  | .vshuf _ _ _ vd _ wid => resV wid vd
  | .vshufStream _ _ _ vd _ wid => resV wid vd
  | .vzip _ _ _ vd _ wid => resV wid vd
  | .vzipStream _ _ _ vd _ wid => resV wid vd
  | .fork pd _ => resP pd.toNat
  | .nibsetSt g => resG g.toNat
  | _ => []

/-- The registers an operation reads (R122, R338, R393). -/
def readsOf (scope : Nat) : Instr → List Res
  | .nop p => resGuard p
  | .br p _ => resGuard p
  | .brp p _ => resGuard p
  | .jr p g => resGuard p ++ resG g.toNat
  | .call p _ => resGuard p
  | .callr p g => resGuard p ++ resG g.toNat
  | .ret p => resGuard p ++ [.g 63]
  | .loop n _ => resG n.toNat
  | .endTask p => resGuard p
  | .endLoop p => resGuard p
  | .trap p _ => resGuard p
  | .waith p _ _ => resGuard p
  | .waitb p g => resGuard p ++ resG g.toNat
  | .add p _ a b => resGuard p ++ resG a.toNat ++ resG b.toNat
  | .addi p _ a _ => resGuard p ++ resG a.toNat
  | .sub p _ a b => resGuard p ++ resG a.toNat ++ resG b.toNat
  | .mul p _ a b => resGuard p ++ resG a.toNat ++ resG b.toNat
  | .mulh p _ a b => resGuard p ++ resG a.toNat ++ resG b.toNat
  | .mulhu p _ a b => resGuard p ++ resG a.toNat ++ resG b.toNat
  | .div p _ a b => resGuard p ++ resG a.toNat ++ resG b.toNat
  | .divu p _ a b => resGuard p ++ resG a.toNat ++ resG b.toNat
  | .rem p _ a b => resGuard p ++ resG a.toNat ++ resG b.toNat
  | .remu p _ a b => resGuard p ++ resG a.toNat ++ resG b.toNat
  | .and p _ a b => resGuard p ++ resG a.toNat ++ resG b.toNat
  | .or p _ a b => resGuard p ++ resG a.toNat ++ resG b.toNat
  | .xor p _ a b => resGuard p ++ resG a.toNat ++ resG b.toNat
  | .andn p _ a b => resGuard p ++ resG a.toNat ++ resG b.toNat
  | .shl p _ a b => resGuard p ++ resG a.toNat ++ resG b.toNat
  | .shr p _ a b => resGuard p ++ resG a.toNat ++ resG b.toNat
  | .sar p _ a b => resGuard p ++ resG a.toNat ++ resG b.toNat
  | .rotr p _ a b => resGuard p ++ resG a.toNat ++ resG b.toNat
  | .shlImm p _ a _ => resGuard p ++ resG a.toNat
  | .shrImm p _ a _ => resGuard p ++ resG a.toNat
  | .sarImm p _ a _ => resGuard p ++ resG a.toNat
  | .rotrImm p _ a _ => resGuard p ++ resG a.toNat
  | .clz p _ a => resGuard p ++ resG a.toNat
  | .ctz p _ a => resGuard p ++ resG a.toNat
  | .popc p _ a => resGuard p ++ resG a.toNat
  | .min p _ a b => resGuard p ++ resG a.toNat ++ resG b.toNat
  | .max p _ a b => resGuard p ++ resG a.toNat ++ resG b.toNat
  | .minu p _ a b => resGuard p ++ resG a.toNat ++ resG b.toNat
  | .maxu p _ a b => resGuard p ++ resG a.toNat ++ resG b.toNat
  | .sel p _ a b => resGuard p ++ resG a.toNat ++ resG b.toNat
  | .mov p _ a => resGuard p ++ resG a.toNat
  | .movFromA p _ an => resGuard p ++ [.a an.toNat]
  | .movToA p _ a => resGuard p ++ resG a.toNat
  | .movFromQ p _ _ => resGuard p
  | .cmpEq p _ a b => resGuard p ++ resG a.toNat ++ resG b.toNat
  | .cmpNe p _ a b => resGuard p ++ resG a.toNat ++ resG b.toNat
  | .cmpLt p _ a b => resGuard p ++ resG a.toNat ++ resG b.toNat
  | .cmpGe p _ a b => resGuard p ++ resG a.toNat ++ resG b.toNat
  | .cmpLtu p _ a b => resGuard p ++ resG a.toNat ++ resG b.toNat
  | .cmpGeu p _ a b => resGuard p ++ resG a.toNat ++ resG b.toNat
  | .cmpFeq p _ a b => resGuard p ++ resG a.toNat ++ resG b.toNat
  | .cmpFlt p _ a b => resGuard p ++ resG a.toNat ++ resG b.toNat
  | .cmpFle p _ a b => resGuard p ++ resG a.toNat ++ resG b.toNat
  | .cmpFun p _ a b => resGuard p ++ resG a.toNat ++ resG b.toNat
  | .fadd p _ a b => resGuard p ++ resG a.toNat ++ resG b.toNat
  | .fmul p _ a b => resGuard p ++ resG a.toNat ++ resG b.toNat
  | .fma p d a b => resGuard p ++ resG a.toNat ++ resG b.toNat ++ resG d.toNat
  | .fcvtToF32 p _ a _ _ => resGuard p ++ resG a.toNat
  | .fcvtFromF32 p _ a _ _ => resGuard p ++ resG a.toNat
  | .minF32 p _ a b => resGuard p ++ resG a.toNat ++ resG b.toNat
  | .maxF32 p _ a b => resGuard p ++ resG a.toNat ++ resG b.toNat
  | .pand p _ a b => resGuard p ++ resP a.toNat ++ resP b.toNat
  | .por p _ a b => resGuard p ++ resP a.toNat ++ resP b.toNat
  | .pxor p _ a b => resGuard p ++ resP a.toNat ++ resP b.toNat
  | .pnot p _ a => resGuard p ++ resP a.toNat
  | .rdsr p _ sr => resGuard p ++ resSr sr.toNat
  | .wrsr p _ a => resGuard p ++ resG a.toNat
  | .ali _ gs _ => resG gs.toNat
  | .aadd _ am src _ => [.a src.toNat] ++ [.am am.toNat]
  | .amod _ am src _ => [.a src.toNat] ++ [.am am.toNat]
  | .abrv _ am src _ => [.a src.toNat] ++ [.am am.toNat]
  | .acir _ am src _ => [.a src.toNat] ++ [.am am.toNat]
  | .amset _ gs => resG gs.toNat
  | .ldB p _ m _ => resGuard p ++ [.a m.toNat] ++ [.am m.toNat]
  | .ldH p _ m _ => resGuard p ++ [.a m.toNat] ++ [.am m.toNat]
  | .ldW p _ m _ => resGuard p ++ [.a m.toNat] ++ [.am m.toNat]
  | .ldD p _ m _ => resGuard p ++ [.a m.toNat] ++ [.am m.toNat]
  | .stB p _ m r => resGuard p ++ [.a m.toNat] ++ [.am m.toNat] ++ resG r.toNat
  | .stH p _ m r => resGuard p ++ [.a m.toNat] ++ [.am m.toNat] ++ resG r.toNat
  | .stW p _ m r => resGuard p ++ [.a m.toNat] ++ [.am m.toNat] ++ resG r.toNat
  | .stD p _ m r => resGuard p ++ [.a m.toNat] ++ [.am m.toNat] ++ resG r.toNat
  | .vld256 p _ m _ => resGuard p ++ [.a m.toNat] ++ [.am m.toNat]
  | .vld512 p _ m _ => resGuard p ++ [.a m.toNat] ++ [.am m.toNat]
  | .vld1024 p _ m _ => resGuard p ++ [.a m.toNat] ++ [.am m.toNat]
  | .vst256 p _ m r => resGuard p ++ [.a m.toNat] ++ [.am m.toNat] ++ resV 0#2 r
  | .vst512 p _ m r => resGuard p ++ [.a m.toNat] ++ [.am m.toNat] ++ resV 1#2 r
  | .vst1024 p _ m r => resGuard p ++ [.a m.toNat] ++ [.am m.toNat] ++ resV 2#2 r
  | .ldxD p _ m _ => resGuard p ++ [.a m.toNat]
  | .ldxV256 p _ m _ => resGuard p ++ [.a m.toNat]
  | .ldxV512 p _ m _ => resGuard p ++ [.a m.toNat]
  | .ldxV1024 p _ m _ => resGuard p ++ [.a m.toNat]
  | .stxD p _ m r => resGuard p ++ [.a m.toNat] ++ resG r.toNat
  | .stxV256 p _ m r => resGuard p ++ [.a m.toNat] ++ resV 0#2 r
  | .stxV512 p _ m r => resGuard p ++ [.a m.toNat] ++ resV 1#2 r
  | .stxV1024 p _ m r => resGuard p ++ [.a m.toNat] ++ resV 2#2 r
  | .atmAddW p _ m r => resGuard p ++ [.a m.toNat] ++ (if scope = 0 then [.am m.toNat] else []) ++ resG r.toNat
  | .atmAndW p _ m r => resGuard p ++ [.a m.toNat] ++ (if scope = 0 then [.am m.toNat] else []) ++ resG r.toNat
  | .atmOrW p _ m r => resGuard p ++ [.a m.toNat] ++ (if scope = 0 then [.am m.toNat] else []) ++ resG r.toNat
  | .atmXorW p _ m r => resGuard p ++ [.a m.toNat] ++ (if scope = 0 then [.am m.toNat] else []) ++ resG r.toNat
  | .atmSwpW p _ m r => resGuard p ++ [.a m.toNat] ++ (if scope = 0 then [.am m.toNat] else []) ++ resG r.toNat
  | .atmCasW p _ m r => resGuard p ++ [.a m.toNat] ++ (if scope = 0 then [.am m.toNat] else []) ++ resG r.toNat ++ resG (r.toNat + 1)
  | .atmMinW p _ m r => resGuard p ++ [.a m.toNat] ++ (if scope = 0 then [.am m.toNat] else []) ++ resG r.toNat
  | .atmMaxW p _ m r => resGuard p ++ [.a m.toNat] ++ (if scope = 0 then [.am m.toNat] else []) ++ resG r.toNat
  | .atmAdd p _ m r => resGuard p ++ [.a m.toNat] ++ (if scope = 0 then [.am m.toNat] else []) ++ resG r.toNat
  | .atmAnd p _ m r => resGuard p ++ [.a m.toNat] ++ (if scope = 0 then [.am m.toNat] else []) ++ resG r.toNat
  | .atmOr p _ m r => resGuard p ++ [.a m.toNat] ++ (if scope = 0 then [.am m.toNat] else []) ++ resG r.toNat
  | .atmXor p _ m r => resGuard p ++ [.a m.toNat] ++ (if scope = 0 then [.am m.toNat] else []) ++ resG r.toNat
  | .atmSwp p _ m r => resGuard p ++ [.a m.toNat] ++ (if scope = 0 then [.am m.toNat] else []) ++ resG r.toNat
  | .atmCas p _ m r => resGuard p ++ [.a m.toNat] ++ (if scope = 0 then [.am m.toNat] else []) ++ resG r.toNat ++ resG (r.toNat + 1)
  | .atmMin p _ m r => resGuard p ++ [.a m.toNat] ++ (if scope = 0 then [.am m.toNat] else []) ++ resG r.toNat
  | .atmMax p _ m r => resGuard p ++ [.a m.toNat] ++ (if scope = 0 then [.am m.toNat] else []) ++ resG r.toNat
  | .atmFmaxF32 p _ m r => resGuard p ++ [.a m.toNat] ++ (if scope = 0 then [.am m.toNat] else []) ++ resG r.toNat
  | .atmFmaxBf16 p _ m r => resGuard p ++ [.a m.toNat] ++ (if scope = 0 then [.am m.toNat] else []) ++ resG r.toNat
  | .atmFmaxF16 p _ m r => resGuard p ++ [.a m.toNat] ++ (if scope = 0 then [.am m.toNat] else []) ++ resG r.toNat
  | .atmDec p _ m _ => resGuard p ++ [.a m.toNat]
  | .ldsB p _ _ => resGuard p
  | .ldsH p _ _ => resGuard p
  | .ldsW p _ _ => resGuard p
  | .ldsD p _ _ => resGuard p
  | .stsB p _ r => resGuard p ++ resG r.toNat
  | .stsH p _ r => resGuard p ++ resG r.toNat
  | .stsW p _ r => resGuard p ++ resG r.toNat
  | .stsD p _ r => resGuard p ++ resG r.toNat
  | .vadd p vb va _ _ wid => resGuard p ++ resV wid va ++ resV wid vb
  | .vaddStream p _ va _ _ wid => resGuard p ++ resV wid va
  | .vsub p vb va _ _ wid => resGuard p ++ resV wid va ++ resV wid vb
  | .vsubStream p _ va _ _ wid => resGuard p ++ resV wid va
  | .vmul p vb va _ _ wid => resGuard p ++ resV wid va ++ resV wid vb
  | .vmulStream p _ va _ _ wid => resGuard p ++ resV wid va
  | .vfma p vb va vd _ wid => resGuard p ++ resV wid va ++ resV wid vb ++ resV wid vd
  | .vfmaStream p _ va vd _ wid => resGuard p ++ resV wid va ++ resV wid vd
  | .vfms p vb va vd _ wid => resGuard p ++ resV wid va ++ resV wid vb ++ resV wid vd
  | .vfmsStream p _ va vd _ wid => resGuard p ++ resV wid va ++ resV wid vd
  | .vmin p vb va _ _ wid => resGuard p ++ resV wid va ++ resV wid vb
  | .vminStream p _ va _ _ wid => resGuard p ++ resV wid va
  | .vmax p vb va _ _ wid => resGuard p ++ resV wid va ++ resV wid vb
  | .vmaxStream p _ va _ _ wid => resGuard p ++ resV wid va
  | .vabs p va _ _ wid => resGuard p ++ resV wid va
  | .vabsStream p _ _ _ _ => resGuard p
  | .vneg p va _ _ wid => resGuard p ++ resV wid va
  | .vnegStream p _ _ _ _ => resGuard p
  | .vcmp p vb va _ _ _ wid => resGuard p ++ resV wid va ++ resV wid vb
  | .vcmpStream p _ va _ _ _ wid => resGuard p ++ resV wid va
  | .vsel p vb va _ _ wid => resGuard p ++ resV wid va ++ resV wid vb
  | .vselStream p _ va _ _ wid => resGuard p ++ resV wid va
  | .viadd p vb va _ _ wid => resGuard p ++ resV wid va ++ resV wid vb
  | .viaddStream p _ va _ _ wid => resGuard p ++ resV wid va
  | .visub p vb va _ _ wid => resGuard p ++ resV wid va ++ resV wid vb
  | .visubStream p _ va _ _ wid => resGuard p ++ resV wid va
  | .vimul p vb va _ _ wid => resGuard p ++ resV wid va ++ resV wid vb
  | .vimulStream p _ va _ _ wid => resGuard p ++ resV wid va
  | .vimac p vb va vd _ wid => resGuard p ++ resV wid va ++ resV wid vb ++ resV wid vd
  | .vimacStream p _ va vd _ wid => resGuard p ++ resV wid va ++ resV wid vd
  | .vsat p va _ _ wid => resGuard p ++ resV wid va
  | .vsatStream p _ _ _ _ => resGuard p
  | .vshl p vb va _ _ wid => resGuard p ++ resV wid va ++ resV wid vb
  | .vshlStream p _ va _ _ wid => resGuard p ++ resV wid va
  | .vshr p vb va _ _ wid => resGuard p ++ resV wid va ++ resV wid vb
  | .vshrStream p _ va _ _ wid => resGuard p ++ resV wid va
  | .vsar p vb va _ _ wid => resGuard p ++ resV wid va ++ resV wid vb
  | .vsarStream p _ va _ _ wid => resGuard p ++ resV wid va
  | .vand p vb va _ _ wid => resGuard p ++ resV wid va ++ resV wid vb
  | .vandStream p _ va _ _ wid => resGuard p ++ resV wid va
  | .vor p vb va _ _ wid => resGuard p ++ resV wid va ++ resV wid vb
  | .vorStream p _ va _ _ wid => resGuard p ++ resV wid va
  | .vxor p vb va _ _ wid => resGuard p ++ resV wid va ++ resV wid vb
  | .vxorStream p _ va _ _ wid => resGuard p ++ resV wid va
  | .vnot p va _ _ wid => resGuard p ++ resV wid va
  | .vnotStream p _ _ _ _ => resGuard p
  | .vcvt p _ src va _ ty wid => resGuard p ++ resCvt wid va src ty
  | .vcvtStream p _ _ _ _ _ _ => resGuard p
  | .vqnt p _ va _ _ wid => resGuard p ++ resV wid va ++ [.g 62, .a 15, .am 15]
  | .vqntStream p _ _ _ _ _ => resGuard p ++ [.g 62, .a 15, .am 15]
  | .vdqnt p va _ _ wid => resGuard p ++ resLow wid va 4 ++ [.g 62, .a 15, .am 15]
  | .vdqntStream p _ _ _ _ => resGuard p ++ [.g 62, .a 15, .am 15]
  | .vimg p _ va _ _ wid => resGuard p ++ resV wid va
  | .vimgStream p _ _ _ _ _ => resGuard p
  | .vlse p vb va vd _ wid => resGuard p ++ resV wid va ++ resBits (partOf wid vb) 0 64 ++ resV wid vd
  | .vlseStream p _ va vd _ wid => resGuard p ++ resV wid va ++ resV wid vd
  | .vrope p vb va vd _ wid => resGuard p ++ resV wid va ++ resV wid vb ++ resV wid vd
  | .vropeStream p _ va vd _ wid => resGuard p ++ resV wid va ++ resV wid vd
  | .vnanp p _ => resGuard p
  | .vrsum p va _ _ wid => resGuard p ++ resV wid va
  | .vrsumStream p _ _ _ _ => resGuard p
  | .vrmax p va _ _ wid => resGuard p ++ resV wid va
  | .vrmaxStream p _ _ _ _ => resGuard p
  | .vrmin p va _ _ wid => resGuard p ++ resV wid va
  | .vrminStream p _ _ _ _ => resGuard p
  | .vbcst p g _ _ _ => resGuard p ++ resG g.toNat
  | .vmov p va _ _ wid => resGuard p ++ resV wid va
  | .vmovStream p _ _ _ _ => resGuard p
  | .vexp2 p va _ _ wid => resGuard p ++ resV wid va
  | .vexp2Stream p _ _ _ _ => resGuard p
  | .vlog2 p va _ _ wid => resGuard p ++ resV wid va
  | .vlog2Stream p _ _ _ _ => resGuard p
  | .vrcp p va _ _ wid => resGuard p ++ resV wid va
  | .vrcpStream p _ _ _ _ => resGuard p
  | .vrsq p va _ _ wid => resGuard p ++ resV wid va
  | .vrsqStream p _ _ _ _ => resGuard p
  | .vsqrt p va _ _ wid => resGuard p ++ resV wid va
  | .vsqrtStream p _ _ _ _ => resGuard p
  | .vsin p va _ _ wid => resGuard p ++ resV wid va
  | .vsinStream p _ _ _ _ => resGuard p
  | .vcos p va _ _ wid => resGuard p ++ resV wid va
  | .vcosStream p _ _ _ _ => resGuard p
  | .vtanh p va _ _ wid => resGuard p ++ resV wid va
  | .vtanhStream p _ _ _ _ => resGuard p
  | .vperm p vb va _ _ wid => resGuard p ++ resV wid va ++ resV wid vb
  | .vpermStream p _ va _ _ wid => resGuard p ++ resV wid va
  | .vtrn p va _ ty wid => resGuard p ++ resTrn ty wid va
  | .vtrnStream p _ _ _ _ => resGuard p
  | .vshuf p vb va _ _ wid => resGuard p ++ (let d := partOf wid va; resBits d (d.w / 2) (d.w / 2)) ++ (let d := partOf wid vb; resBits d (d.w / 2) (d.w / 2))
  | .vshufStream p _ va _ _ wid => resGuard p ++ (let d := partOf wid va; resBits d (d.w / 2) (d.w / 2))
  | .vzip p vb va _ _ wid => resGuard p ++ resLow wid va 2 ++ resLow wid vb 2
  | .vzipStream p _ va _ _ wid => resGuard p ++ resLow wid va 2
  | .sqset _ g => resG g.toNat
  | .sqbind _ g => resG g.toNat
  | .accpy _ g => resG g.toNat
  | .halloc _ g => resG g.toNat
  | .hpub _ g => resG g.toNat
  | .hrel _ g => resG g.toNat
  | .hset _ g => resG g.toNat
  | .binit gv ga => resG gv.toNat ++ resG ga.toNat
  | .binitRel g => resG g.toNat
  | .barr g => resG g.toNat
  | .fork _ g => resG g.toNat
  | .join gr gb => resG gr.toNat ++ resG gb.toNat
  | .enq _ g => resG g.toNat
  | .nibset g => resG g.toNat ++ resG (g.toNat + 1)
  | .cbld _ g => resG g.toNat
  | .trenc _ g => resG g.toNat
  | .twupd _ g => resG g.toNat
  | .xld gb g => resG g.toNat ++ resG gb.toNat
  | .xinv gb g => resG g.toNat ++ resG gb.toNat
  | .kvg _ g => resG g.toNat
  | .splc _ g => resG g.toNat
  | .rprset g => resG g.toNat ++ resG (g.toNat + 1) ++ resG (g.toNat + 2)
  | .rpr _ g => resG g.toNat
  | .rprRep gx ga => resG ga.toNat ++ resG gx.toNat
  | .pxlk gb g => resG g.toNat ++ resG gb.toNat
  | .pxin gb g => resG g.toNat ++ resG gb.toNat
  | .pxinRm gb g => resG g.toNat ++ resG gb.toNat
  | .wnsel _ g => resG g.toNat
  | .fsend _ g => resG g.toNat
  | .frecvHandle _ g => resG g.toNat
  | .frecvStream _ g => resG g.toNat
  | .tlbi g => resG g.toNat
  | _ => []

/-- The stream an operation reads (R323). -/
def streamOf : Instr → Option Nat
  | .movFromQ _ _ q => some q.toNat
  | .vaddStream _ q _ _ _ _ => some q.toNat
  | .vsubStream _ q _ _ _ _ => some q.toNat
  | .vmulStream _ q _ _ _ _ => some q.toNat
  | .vfmaStream _ q _ _ _ _ => some q.toNat
  | .vfmsStream _ q _ _ _ _ => some q.toNat
  | .vminStream _ q _ _ _ _ => some q.toNat
  | .vmaxStream _ q _ _ _ _ => some q.toNat
  | .vabsStream _ q _ _ _ => some q.toNat
  | .vnegStream _ q _ _ _ => some q.toNat
  | .vcmpStream _ q _ _ _ _ _ => some q.toNat
  | .vselStream _ q _ _ _ _ => some q.toNat
  | .viaddStream _ q _ _ _ _ => some q.toNat
  | .visubStream _ q _ _ _ _ => some q.toNat
  | .vimulStream _ q _ _ _ _ => some q.toNat
  | .vimacStream _ q _ _ _ _ => some q.toNat
  | .vsatStream _ q _ _ _ => some q.toNat
  | .vshlStream _ q _ _ _ _ => some q.toNat
  | .vshrStream _ q _ _ _ _ => some q.toNat
  | .vsarStream _ q _ _ _ _ => some q.toNat
  | .vandStream _ q _ _ _ _ => some q.toNat
  | .vorStream _ q _ _ _ _ => some q.toNat
  | .vxorStream _ q _ _ _ _ => some q.toNat
  | .vnotStream _ q _ _ _ => some q.toNat
  | .vcvtStream _ _ _ q _ _ _ => some q.toNat
  | .vqntStream _ _ q _ _ _ => some q.toNat
  | .vdqntStream _ q _ _ _ => some q.toNat
  | .vimgStream _ _ q _ _ _ => some q.toNat
  | .vlseStream _ q _ _ _ _ => some q.toNat
  | .vropeStream _ q _ _ _ _ => some q.toNat
  | .vrsumStream _ q _ _ _ => some q.toNat
  | .vrmaxStream _ q _ _ _ => some q.toNat
  | .vrminStream _ q _ _ _ => some q.toNat
  | .vmovStream _ q _ _ _ => some q.toNat
  | .vexp2Stream _ q _ _ _ => some q.toNat
  | .vlog2Stream _ q _ _ _ => some q.toNat
  | .vrcpStream _ q _ _ _ => some q.toNat
  | .vrsqStream _ q _ _ _ => some q.toNat
  | .vsqrtStream _ q _ _ _ => some q.toNat
  | .vsinStream _ q _ _ _ => some q.toNat
  | .vcosStream _ q _ _ _ => some q.toNat
  | .vtanhStream _ q _ _ _ => some q.toNat
  | .vpermStream _ q _ _ _ _ => some q.toNat
  | .vtrnStream _ q _ _ _ => some q.toNat
  | .vshufStream _ q _ _ _ _ => some q.toNat
  | .vzipStream _ q _ _ _ _ => some q.toNat
  | _ => none

/-- The handle an operation names in its fields (R138); HALLOC may name one of KIND 0 (R374). -/
def handleOf : Instr → Option Nat
  | .waith _ h _ => some h.toNat
  | .mpush _ _ _ h => some h.toNat
  | .macw _ _ _ h => some h.toNat
  | .mshiftZero h => some h.toNat
  | .mshiftBack h => some h.toNat
  | .mshiftFwd h => some h.toNat
  | .hfree h => some h.toNat
  | .hopen h => some h.toNat
  | .hpub h _ => some h.toNat
  | .hrel h _ => some h.toNat
  | .hset h _ => some h.toNat
  | .cbld h _ => some h.toNat
  | .trdef h _ => some h.toNat
  | .trenc h _ => some h.toNat
  | .twupd h _ => some h.toNat
  | .kvg h _ => some h.toNat
  | .splc h _ => some h.toNat
  | .rpr h _ => some h.toNat
  | .wnsel h _ => some h.toNat
  | .fsend h _ => some h.toNat
  | .frecvHandle h _ => some h.toNat
  | _ => none

/-- The accumulator bank that an MX slot or an ACCPY names (R337). -/
def bankOf : Instr → Option Nat
  | .mpush _ bank _ _ => some bank.toNat
  | .macw _ bank _ _ => some bank.toNat
  | .mdrain bank _ _ => some bank.toNat
  | .mzero bank _ _ => some bank.toNat
  | .accpy bank _ => some bank.toNat
  | _ => none

/-- The CT slot of a branch bundle (R123). -/
def isBranch : Instr → Bool
  | .br _ _ => true
  | .brp _ _ => true
  | .jr _ _ => true
  | .call _ _ => true
  | .callr _ _ => true
  | .ret _ => true
  | _ => false

/-- SYSC, ERET, TLBI or WFE (R324). -/
def isSystem : Instr → Bool
  | .sysc _ => true
  | .eret => true
  | .tlbi _ => true
  | .wfe => true
  | _ => false

/-- ERET or TLBI, which need kernel mode (R388, R389). -/
def isPrivileged : Instr → Bool
  | .eret => true
  | .tlbi _ => true
  | _ => false

/-- A matrix-queue command of the EN slot, which needs ARRAY (R436). -/
def isNibSide : Instr → Bool
  | .nibset _ => true
  | .nibsetSt _ => true
  | .cbld _ _ => true
  | .trdef _ _ => true
  | _ => false

/-- The control profile admits the operation (R325, R329, R333). -/
def onCore : Instr → Bool
  | .nop _ => true
  | .br _ _ => true
  | .brp _ _ => true
  | .jr _ _ => true
  | .call _ _ => true
  | .callr _ _ => true
  | .ret _ => true
  | .loop _ _ => true
  | .endLoop _ => true
  | .trap _ _ => true
  | .add _ _ _ _ => true
  | .addi _ _ _ _ => true
  | .sub _ _ _ _ => true
  | .mul _ _ _ _ => true
  | .mulh _ _ _ _ => true
  | .mulhu _ _ _ _ => true
  | .div _ _ _ _ => true
  | .divu _ _ _ _ => true
  | .rem _ _ _ _ => true
  | .remu _ _ _ _ => true
  | .and _ _ _ _ => true
  | .or _ _ _ _ => true
  | .xor _ _ _ _ => true
  | .andn _ _ _ _ => true
  | .shl _ _ _ _ => true
  | .shr _ _ _ _ => true
  | .sar _ _ _ _ => true
  | .rotr _ _ _ _ => true
  | .shlImm _ _ _ _ => true
  | .shrImm _ _ _ _ => true
  | .sarImm _ _ _ _ => true
  | .rotrImm _ _ _ _ => true
  | .clz _ _ _ => true
  | .ctz _ _ _ => true
  | .popc _ _ _ => true
  | .min _ _ _ _ => true
  | .max _ _ _ _ => true
  | .minu _ _ _ _ => true
  | .maxu _ _ _ _ => true
  | .sel _ _ _ _ => true
  | .mov _ _ _ => true
  | .movFromA _ _ _ => true
  | .movToA _ _ _ => true
  | .movFromQ _ _ _ => true
  | .liw _ _ _ => true
  | .cmpEq _ _ _ _ => true
  | .cmpNe _ _ _ _ => true
  | .cmpLt _ _ _ _ => true
  | .cmpGe _ _ _ _ => true
  | .cmpLtu _ _ _ _ => true
  | .cmpGeu _ _ _ _ => true
  | .cmpFeq _ _ _ _ => true
  | .cmpFlt _ _ _ _ => true
  | .cmpFle _ _ _ _ => true
  | .cmpFun _ _ _ _ => true
  | .fadd _ _ _ _ => true
  | .fmul _ _ _ _ => true
  | .fma _ _ _ _ => true
  | .fcvtToF32 _ _ _ _ _ => true
  | .fcvtFromF32 _ _ _ _ _ => true
  | .minF32 _ _ _ _ => true
  | .maxF32 _ _ _ _ => true
  | .pand _ _ _ _ => true
  | .por _ _ _ _ => true
  | .pxor _ _ _ _ => true
  | .pnot _ _ _ => true
  | .rdsr _ _ _ => true
  | .wrsr _ _ _ => true
  | .ali _ _ _ => true
  | .aadd _ _ _ _ => true
  | .amod _ _ _ _ => true
  | .abrv _ _ _ _ => true
  | .acir _ _ _ _ => true
  | .amset _ _ => true
  | .ldB _ _ _ _ => true
  | .ldH _ _ _ _ => true
  | .ldW _ _ _ _ => true
  | .ldD _ _ _ _ => true
  | .stB _ _ _ _ => true
  | .stH _ _ _ _ => true
  | .stW _ _ _ _ => true
  | .stD _ _ _ _ => true
  | .atmAddW _ _ _ _ => true
  | .atmAndW _ _ _ _ => true
  | .atmOrW _ _ _ _ => true
  | .atmXorW _ _ _ _ => true
  | .atmSwpW _ _ _ _ => true
  | .atmCasW _ _ _ _ => true
  | .atmMinW _ _ _ _ => true
  | .atmMaxW _ _ _ _ => true
  | .atmAdd _ _ _ _ => true
  | .atmAnd _ _ _ _ => true
  | .atmOr _ _ _ _ => true
  | .atmXor _ _ _ _ => true
  | .atmSwp _ _ _ _ => true
  | .atmCas _ _ _ _ => true
  | .atmMin _ _ _ _ => true
  | .atmMax _ _ _ _ => true
  | .atmFmaxF32 _ _ _ _ => true
  | .atmFmaxBf16 _ _ _ _ => true
  | .atmFmaxF16 _ _ _ _ => true
  | .drn => true
  | .enq _ _ => true
  | .sysc _ => true
  | .eret => true
  | .tlbi _ => true
  | .wfe => true
  | _ => false

/-- The tile profile admits the operation, or faults CONTROL_ONLY on it: all but ENQ (R324). -/
def onTile : Instr → Bool
  | .enq _ _ => false
  | _ => true

/-- The special register an operation names. -/
def srOf : Instr → Option Nat
  | .rdsr _ _ sr => some sr.toNat
  | .wrsr _ sr _ => some sr.toNat
  | _ => none

/-- The operation is a slot operation, not a device step. -/
def isSlotOp (i : Instr) : Bool := decide (homeSlot i < 12)

/-- The rows of HPUB and HREL come from a g register other than g0. -/
def rowsReg : Instr → Bool
  | .hpub _ g => decide (g ≠ 0#6)
  | .hrel _ g => decide (g ≠ 0#6)
  | _ => false

/-- LOOP. -/
def isLoop : Instr → Bool
  | .loop _ _ => true
  | _ => false

/-- END.loop. -/
def isEndLoop : Instr → Bool
  | .endLoop _ => true
  | _ => false

/-- The even register of a NIBSET's pair. -/
def nibPair : Instr → Option Nat
  | .nibset g => some g.toNat
  | _ => none

/-- LIW. -/
def isLiw : Instr → Bool
  | .liw _ _ _ => true
  | _ => false

/-- ERET. -/
def isEret : Instr → Bool
  | .eret => true
  | _ => false

/-- The stream of an LDX (R367). -/
def ldxStream : Instr → Option Nat
  | .ldxD _ _ _ q => some q.toNat
  | .ldxV256 _ _ _ q => some q.toNat
  | .ldxV512 _ _ _ q => some q.toNat
  | .ldxV1024 _ _ _ q => some q.toNat
  | _ => none

/-! ## Decode checks in the thread -/

/-- The chain at n is a loop end: it is the END of the innermost active level, or of the outer one where an END.loop of its own, el, ends the
innermost first (R343-R345). -/
def Thread.loopEnds (x : Thread) (n : Nat) (el : Bool) : Bool :=
  match x.loop1, x.loop0 with
  | some l1, some l0 => decide (l1.stop = n) || (el && decide (l0.stop = n))
  | none, some l0 => decide (l0.stop = n)
  | some l1, none => decide (l1.stop = n)
  | none, none => false

/-- The level a LOOP takes (R342). -/
def Thread.loopLevel (x : Thread) : Nat := if x.loop0.isSome then 1 else 0

/-- A pending result writes the resource. -/
def Pend.hits (p : Pend) : Res → Bool
  | .g n => decide (p.dest = .g n)
  | .a n => decide (p.dest = .a n)
  | .am n => decide (p.dest = .am n)
  | .p n => decide (p.dest = .p n)
  | .v n q => decide (p.dest = .v n) && decide (fld p.mask (256 * q) 256 ≠ 0)
  | .lc n => decide (p.dest = .lc n) || decide (p.dest = .sr (5 + n))
  | .sr n => decide (p.dest = .sr n)

/-- The latency of an operation's results (R119, R393): V3 special functions 12, permutes 3, vector integer and moves 2, floating point and
conversion 4, multiply 3, divide 20, local loads and atomics 4, the rest 1. -/
def latencyOf : Instr → Nat
  | .mul _ _ _ _ => 3
  | .mulh _ _ _ _ => 3
  | .mulhu _ _ _ _ => 3
  | .div _ _ _ _ => 20
  | .divu _ _ _ _ => 20
  | .rem _ _ _ _ => 20
  | .remu _ _ _ _ => 20
  | .fadd _ _ _ _ => 4
  | .fmul _ _ _ _ => 4
  | .fma _ _ _ _ => 4
  | .fcvtToF32 _ _ _ _ _ => 4
  | .fcvtFromF32 _ _ _ _ _ => 4
  | .minF32 _ _ _ _ => 4
  | .maxF32 _ _ _ _ => 4
  | .ldB _ _ _ _ => 4
  | .ldH _ _ _ _ => 4
  | .ldW _ _ _ _ => 4
  | .ldD _ _ _ _ => 4
  | .vld256 _ _ _ _ => 4
  | .vld512 _ _ _ _ => 4
  | .vld1024 _ _ _ _ => 4
  | .atmAddW _ _ _ _ => 4
  | .atmAndW _ _ _ _ => 4
  | .atmOrW _ _ _ _ => 4
  | .atmXorW _ _ _ _ => 4
  | .atmSwpW _ _ _ _ => 4
  | .atmCasW _ _ _ _ => 4
  | .atmMinW _ _ _ _ => 4
  | .atmMaxW _ _ _ _ => 4
  | .atmAdd _ _ _ _ => 4
  | .atmAnd _ _ _ _ => 4
  | .atmOr _ _ _ _ => 4
  | .atmXor _ _ _ _ => 4
  | .atmSwp _ _ _ _ => 4
  | .atmCas _ _ _ _ => 4
  | .atmMin _ _ _ _ => 4
  | .atmMax _ _ _ _ => 4
  | .atmFmaxF32 _ _ _ _ => 4
  | .atmFmaxBf16 _ _ _ _ => 4
  | .atmFmaxF16 _ _ _ _ => 4
  | .atmDec _ _ _ _ => 4
  | .vadd _ _ _ _ _ _ => 4
  | .vaddStream _ _ _ _ _ _ => 4
  | .vsub _ _ _ _ _ _ => 4
  | .vsubStream _ _ _ _ _ _ => 4
  | .vmul _ _ _ _ _ _ => 4
  | .vmulStream _ _ _ _ _ _ => 4
  | .vfma _ _ _ _ _ _ => 4
  | .vfmaStream _ _ _ _ _ _ => 4
  | .vfms _ _ _ _ _ _ => 4
  | .vfmsStream _ _ _ _ _ _ => 4
  | .vmin _ _ _ _ ty _ => if tyF ty then 4 else 2
  | .vminStream _ _ _ _ ty _ => if tyF ty then 4 else 2
  | .vmax _ _ _ _ ty _ => if tyF ty then 4 else 2
  | .vmaxStream _ _ _ _ ty _ => if tyF ty then 4 else 2
  | .vabs _ _ _ ty _ => if tyF ty then 4 else 2
  | .vabsStream _ _ _ ty _ => if tyF ty then 4 else 2
  | .vneg _ _ _ ty _ => if tyF ty then 4 else 2
  | .vnegStream _ _ _ ty _ => if tyF ty then 4 else 2
  | .vcmp _ _ _ _ _ ty _ => if tyF ty then 4 else 2
  | .vcmpStream _ _ _ _ _ ty _ => if tyF ty then 4 else 2
  | .vsel _ _ _ _ _ _ => 2
  | .vselStream _ _ _ _ _ _ => 2
  | .viadd _ _ _ _ _ _ => 2
  | .viaddStream _ _ _ _ _ _ => 2
  | .visub _ _ _ _ _ _ => 2
  | .visubStream _ _ _ _ _ _ => 2
  | .vimul _ _ _ _ _ _ => 2
  | .vimulStream _ _ _ _ _ _ => 2
  | .vimac _ _ _ _ _ _ => 2
  | .vimacStream _ _ _ _ _ _ => 2
  | .vsat _ _ _ _ _ => 2
  | .vsatStream _ _ _ _ _ => 2
  | .vshl _ _ _ _ _ _ => 2
  | .vshlStream _ _ _ _ _ _ => 2
  | .vshr _ _ _ _ _ _ => 2
  | .vshrStream _ _ _ _ _ _ => 2
  | .vsar _ _ _ _ _ _ => 2
  | .vsarStream _ _ _ _ _ _ => 2
  | .vand _ _ _ _ _ _ => 2
  | .vandStream _ _ _ _ _ _ => 2
  | .vor _ _ _ _ _ _ => 2
  | .vorStream _ _ _ _ _ _ => 2
  | .vxor _ _ _ _ _ _ => 2
  | .vxorStream _ _ _ _ _ _ => 2
  | .vnot _ _ _ _ _ => 2
  | .vnotStream _ _ _ _ _ => 2
  | .vcvt _ _ _ _ _ _ _ => 4
  | .vcvtStream _ _ _ _ _ _ _ => 4
  | .vqnt _ _ _ _ _ _ => 4
  | .vqntStream _ _ _ _ _ _ => 4
  | .vdqnt _ _ _ _ _ => 4
  | .vdqntStream _ _ _ _ _ => 4
  | .vimg _ _ _ _ _ _ => 2
  | .vimgStream _ _ _ _ _ _ => 2
  | .vlse _ _ _ _ _ _ => 4
  | .vlseStream _ _ _ _ _ _ => 4
  | .vrope _ _ _ _ _ _ => 4
  | .vropeStream _ _ _ _ _ _ => 4
  | .vnanp _ _ => 2
  | .vrsum _ _ _ ty _ => if tyF ty then 4 else 2
  | .vrsumStream _ _ _ ty _ => if tyF ty then 4 else 2
  | .vrmax _ _ _ ty _ => if tyF ty then 4 else 2
  | .vrmaxStream _ _ _ ty _ => if tyF ty then 4 else 2
  | .vrmin _ _ _ ty _ => if tyF ty then 4 else 2
  | .vrminStream _ _ _ ty _ => if tyF ty then 4 else 2
  | .vbcst _ _ _ _ _ => 2
  | .vmov _ _ _ _ _ => 2
  | .vmovStream _ _ _ _ _ => 2
  | .vexp2 _ _ _ _ _ => 12
  | .vexp2Stream _ _ _ _ _ => 12
  | .vlog2 _ _ _ _ _ => 12
  | .vlog2Stream _ _ _ _ _ => 12
  | .vrcp _ _ _ _ _ => 12
  | .vrcpStream _ _ _ _ _ => 12
  | .vrsq _ _ _ _ _ => 12
  | .vrsqStream _ _ _ _ _ => 12
  | .vsqrt _ _ _ _ _ => 12
  | .vsqrtStream _ _ _ _ _ => 12
  | .vsin _ _ _ _ _ => 12
  | .vsinStream _ _ _ _ _ => 12
  | .vcos _ _ _ _ _ => 12
  | .vcosStream _ _ _ _ _ => 12
  | .vtanh _ _ _ _ _ => 12
  | .vtanhStream _ _ _ _ _ => 12
  | .vperm _ _ _ _ _ _ => 3
  | .vpermStream _ _ _ _ _ _ => 3
  | .vtrn _ _ _ _ _ => 3
  | .vtrnStream _ _ _ _ _ => 3
  | .vshuf _ _ _ _ _ _ => 3
  | .vshufStream _ _ _ _ _ _ => 3
  | .vzip _ _ _ _ _ _ => 3
  | .vzipStream _ _ _ _ _ _ => 3
  | _ => 1

/-- Under CHECK, the operation reads a register with a pending result, or writes one whose pending result would land at or after its own
(R122). -/
def Thread.shadow (x : Thread) (scope lv : Nat) (i : Instr) : Bool :=
  x.check && (x.pend.any (fun p => (readsOf scope i).any p.hits) ||
    x.pend.any (fun p => (writesOf lv i).any p.hits && decide (x.ccycle + 1 + latencyOf i ≤ p.due)))

/-- What decode knows of the thread's surroundings. -/
structure DecodeEnv where
  s       : State
  u       : UnitId
  pc      : Nat
  scope   : Nat
  present : Nat
  ops     : List (Nat × Instr)

/-- The slot operation i at header bit k shares a destination with another slot (R336). -/
def DecodeEnv.duplicate (e : DecodeEnv) (lv k : Nat) (i : Instr) : Bool :=
  (writesOf lv i).any (fun r => e.ops.any (fun o => decide (o.1 ≠ k) && decide (r ∈ writesOf lv o.2)))

/-- The MX slot and an ACCPY name one bank (R337). -/
def DecodeEnv.bankClash (e : DecodeEnv) (k : Nat) (i : Instr) : Bool :=
  match bankOf i with
  | some b => e.ops.any (fun o => decide (o.1 ≠ k) && decide (bankOf o.2 = some b))
  | none => false

/-- An END.loop whose guard is true. -/
def Thread.leavesLoop (x : Thread) : Instr → Bool
  | .endLoop p => x.guard p
  | _ => false

/-- The bundle in hand holds the end of an active loop. -/
def DecodeEnv.loopEnd (e : DecodeEnv) : Bool := (e.s.thread e.u).loopEnds e.pc (e.ops.any (fun o => (e.s.thread e.u).leavesLoop o.2))

/-- The bundle is a branch bundle (R123). -/
def DecodeEnv.branchBundle (e : DecodeEnv) : Bool := e.ops.any (fun o => isBranch o.2) || e.loopEnd

/-- The causes of the slot checks that an assigned operation meets, in the table's order (R335). w: its word. -/
def DecodeEnv.opCauses (e : DecodeEnv) (k w : Nat) (i : Instr) : List Cause :=
  let core := unitIsCore e.u
  let kernel := e.s.isKernel e.u
  let x := e.s.thread e.u
  let lv := x.loopLevel
  let t := e.s.tile (unitTile e.u)
  let y := t.ctx (unitCtx e.u)
  let f := fun (b : Bool) (c : Cause) => if b then [c] else []
  let array := match y.task with | some k => k.array | none => false
  let kind := fun q => if 6 ≤ q then 1#2 else if core then 0#2 else (mget Stream.init y.q q).kind
  f (!core && isSystem i) 0x0C#7
  ++ f (core && !kernel && isPrivileged i) 0x09#7
  ++ f (if core then !(onCore i) && !(decide (6 ≤ k) && decide (k ≤ 10)) else !onTile i) 0x05#7
  ++ f (!(unusedSlot k w && i.fieldsOk) || (isLiw i && !slotIn e.present 2)
        || (match srOf i with | some n => decide (0x10 ≤ n) && !kernel | none => false)
        || (match nibPair i with | some g => nibReserved (x.nibWord g) | none => false)
        || (rowsReg i && (match handleOf i with | some h => decide ((t.handle h).kind = 1#2) | none => false))) 0x06#7
  ++ f (!i.streamOk) 0x0D#7
  ++ (match streamOf i with | some q => f (decide (kind q = 0#2)) 0x2A#7 | none => [])
  ++ (match ldxStream i with | some q => f (decide (q < 6 ∧ kind q = 0#2)) 0x2A#7 | none => [])
  ++ (match ldxStream i with | some q => f (decide (q < 6 ∧ kind q ≠ 0#2 ∧ kind q ≠ 2#2)) 0x38#7 | none => [])
  ++ (match handleOf i with | some h => f (decide ((t.handle h).kind = 0#2)) 0x27#7 | none => [])
  ++ f (!core && !array && (decide (k = 10) || isNibSide i)) 0x0A#7
  ++ f ((isLoop i && x.loop0.isSome && x.loop1.isSome) || (isEndLoop i && x.loop0.isNone && x.loop1.isNone)
        || (isBranch i && e.loopEnd)) 0x0E#7
  ++ f (isEret i && (x.branch.isSome || e.branchBundle)) 0x02#7
  ++ f (e.duplicate lv k i) 0x01#7
  ++ f (e.bankClash k i) 0x07#7
  ++ f (x.shadow e.scope lv i) 0x08#7

/-- The causes of one present slot (R335). -/
def DecodeEnv.slotCauses (e : DecodeEnv) (k w : Nat) (i : Option Instr) : List Cause :=
  (if unitIsCore e.u && decide (6 ≤ k) && decide (k ≤ 10) then [0x0B#7] else [])
  ++ (match i with | none => [0x05#7] | some i => e.opCauses k w i)

/-- The lowest of some causes. -/
def lowestCause (l : List Cause) : Option Cause :=
  l.foldl (fun a c => match a with | none => some c | some b => some (if c.toNat < b.toNat then c else b)) none

/-- A fault of a bundle: cause, slots, fault address (R260). -/
structure BFault where
  cause : Cause
  slots : Nat
  faddr : W64
deriving DecidableEq, Repr

/-- Faults of several slots of one stage: the slots all, the lowest slot's lowest cause (R260). slots rising. -/
def combine (l : List (Nat × Option (Cause × W64))) : Option BFault :=
  l.foldl (fun a e =>
    match e.2 with
    | none => a
    | some (c, f) =>
      match a with
      | none => some { cause := c, slots := 2 ^ e.1, faddr := f }
      | some b => some { b with slots := b.slots + 2 ^ e.1 }) none

/-- The decode stage of a chain in its thread: the whole-bundle checks, then the slot checks (R335), a slot present twice faulting whether or not
it holds an operation of its own (R317). A branch bundle in a delay slot faults its CT slot (R123, R344). -/
def decodeFault (s : State) (u : UnitId) (pc : Nat) (c : Chain) (ops : List (Nat × Option Instr)) : Option BFault :=
  match c.whole with
  | some x => some { cause := x, slots := 0, faddr := 0 }
  | none =>
    let e : DecodeEnv :=
      { s := s, u := u, pc := pc, scope := c.scope, present := c.present,
        ops := ops.filterMap (fun o => o.2.map (fun i => (o.1, i))) }
    let delay := (s.thread u).branch.isSome && e.branchBundle
    let causes := fun (k : Nat) =>
      (if delay && decide (k = 0) then [0x02#7] else []) ++ (if slotIn c.clash k then [0x00#7] else []) ++
        (match ops.find? (fun o => decide (o.1 = k)) with | some o => e.slotCauses k (nth 0 c.words k) o.2 | none => [])
    combine ((List.range 12).map (fun k => (k, (lowestCause (causes k)).map (fun x => (x, (0 : W64))))))

end Sys2Proof.Machine
end

