-- ==== Sys2Proof/Machine/Sched.lean ====
section
/-! DEFINITION. Graphs and the distributor: ENQ (R56-R59, R386), selection and binding (R81-R89), stealing (R99-R102), completion (R60-R62). -/

namespace Sys2Proof.Machine

/-! ## Reading a graph (R56-R58, R386) -/

/-- One page of a graph translated for a core's ENQ, for reading and, where asked, for writing; the trap's cause and address. -/
def State.enqPage (s : State) (tn : Nat) (kernel : Bool) (va n : Nat) (write : Bool) : Except (Cause × W64) Nat :=
  let a := BitVec.ofNat 64 va
  match s.xlatWalk tn va kernel .read with
  | .pa p =>
    (match s.memFails p n false with
    | some c => .error (c, a)
    | none =>
      if write then (match s.xlatWalk tn va kernel .write with | .pa _ => .ok p | .bad c => .error (c, a) | .miss => .ok p)
      else .ok p)
  | .bad c => .error (c, a)
  | .miss => .error (0x22#7, a)

/-- n bytes of a graph as ENQ reads them, piece by piece: the trap's cause, and the first address that fails (R386). -/
def State.enqRead (s : State) (tn : Nat) (kernel : Bool) (va n : Nat) (write : Bool) : Except (Cause × W64) (List Byte) :=
  (pieces (n / 64 + 2) va n).foldl (fun r p =>
    match r with
    | .error e => .error e
    | .ok l => match s.enqPage tn kernel p.1 p.2 write with | .ok q => .ok (l ++ s.memRead q p.2) | .error e => .error e) (.ok [])

/-- A graph as ENQ reads it: its descriptor's physical address, USER, its nodes with their PREDS, and whether a check of R58 fails. -/
structure GraphIn where
  gpa   : Nat
  user  : W64
  nodes : List (GNode × Nat)
  bad   : Bool
deriving DecidableEq, Repr

/-- The successor indices at SUCC, four bytes each. -/
def State.readSucc (s : State) (tn : Nat) (kernel : Bool) : Nat → Nat → Except (Cause × W64) (List Nat)
  | 0, _ => .ok []
  | n + 1, va =>
    match s.enqRead tn kernel va 4 false with
    | .error e => .error e
    | .ok b =>
      match State.readSucc s tn kernel n (va + 4) with
      | .error e => .error e
      | .ok l => .ok (ofBytes b :: l)

/-- A node's fields from its 64 bytes b at physical address p (R57). -/
def nodeOf (p b : Nat) (succ : List Nat) : GNode :=
  let f := bits b 112 16
  { npa := p, prio := BitVec.ofNat 3 f, irq := bit f 3, array := bit f 4, redund := bit f 5, extx := bits b 64 16, exty := bits b 80 16,
    extz := bits b 96 16, kernel := BitVec.ofNat 64 (bits b 0 64), args := (List.range 4).map (fun i => BitVec.ofNat 64 (bits b (256 + 64 * i) 64)),
    succ := succ, st := .waiting, cause := 0, next := 0, live := 0, ended := 0, readyAt := 0, resume := [], conts := [] }

/-- A node's own fields break R57 or R58. The alignment of KERNEL is a rule of R87, judged when the descriptor is loaded (log entry 73). -/
def nodeBad (b rest : Nat) : Bool :=
  decide (bits b 118 10 ≠ 0) || decide (bits b 64 16 = 0) || decide (bits b 80 16 = 0) || decide (bits b 96 16 = 0)
    || decide (65535 < bits b 160 32) || decide (bits b 192 64 % 4 ≠ 0) || decide (rest ≠ 0)

/-- The nodes from index i, with whether any breaks a rule. Every node and every successor list is read, but a list whose NSUCC is above 65535 (R58,
R386). -/
def State.readNodes (s : State) (tn : Nat) (kernel : Bool) (base : Nat) : Nat → Nat → Except (Cause × W64) (List (GNode × Nat) × Bool)
  | 0, _ => .ok ([], false)
  | n + 1, i =>
    let va := base + 128 * i
    match s.enqRead tn kernel va 128 true with
    | .error e => .error e
    | .ok l =>
      let b := ofBytes l
      let own := nodeBad (b % 2 ^ 512) (bits b 576 448)
      match (if 65535 < bits b 160 32 then .ok [] else s.readSucc tn kernel (bits b 160 32) (bits b 192 64)) with
      | .error e => .error e
      | .ok succ =>
        match State.readNodes s tn kernel base n (i + 1) with
        | .error e => .error e
        | .ok (l, bad) =>
          .ok ((nodeOf (match s.enqPage tn kernel va 4 true with | .ok p => p | .error _ => 0) b succ, bits b 128 32) :: l, own || bad)

/-- The nodes are not a legal graph: an index out of range, PREDS that are not the entries naming the node, no node without predecessors (R58). -/
def linksBad (l : List (GNode × Nat)) : Bool :=
  let all := l.flatMap (fun x => x.1.succ)
  all.any (fun j => decide (l.length ≤ j))
    || ((List.range l.length).zip l).any (fun e => decide (e.2.2 ≠ (all.filter (fun j => decide (j = e.1))).length))
    || !(l.any (fun x => decide (x.2 = 0)))

/-- Read the graph whose descriptor lies at va (R386). -/
def State.readGraph (s : State) (tn : Nat) (kernel : Bool) (va : Nat) : Except (Cause × W64) GraphIn :=
  match s.enqPage tn kernel va 64 true with
  | .error e => .error e
  | .ok p =>
    let b := s.memNat p 64
    let n := bits b 64 32
    let user := BitVec.ofNat 64 (bits b 128 64)
    match s.readNodes tn kernel (bits b 0 64) n 0 with
    | .error e => .error e
    | .ok (l, bad) =>
      .ok { gpa := p, user := user, nodes := l,
            bad := bad || decide (n = 0) || decide (65535 < n) || decide (bits b 0 64 % 128 ≠ 0) || decide (bits b 96 32 ≠ 0) || decide (bits b 256 256 ≠ 0)
              || linksBad l }

/-- The capability of R47 and R49. -/
def State.enqAllowed (s : State) (k q : Nat) : Bool :=
  let t := s.tenant ((s.core k).ccten.toNat % 64)
  (s.core k).ccten.getLsbD 6 && t.valid && t.qenable.getLsbD q

/-- ENQ's checks and its wait for the distributor (R386). -/
def enqCheck (s : State) (k : Nat) (va : W64) (q : Nat) : Verdict :=
  let x := s.core k
  if x.enqDone ∧ x.enq = some (va, q) then .ok
  else
    ((faultIf (decide (va.toNat % 64 ≠ 0)) 0x24#7).both (faultIf (!s.enqAllowed k q) 0x60#7)).andThen
      (match s.readGraph (x.ccten.toNat % 64) x.kernel va.toNat with
      | .error (c, a) => .fault c a
      | .ok _ => .held (.enq va q))

/-- ENQ (R386). -/
def execEnq (queue : BitVec 4) (g : BitVec 6) (s : State) : Result :=
  match s.cur.u with
  | .ctx _ _ => .next s
  | .core k => issue s true (enqCheck s k (s.g g) queue.toNat) (fun s => s.modCore k (fun x => { x with enq := none, enqDone := false }))

/-- Graphs of a queue that have not completed. -/
def State.queued (s : State) (tn q : Nat) : Nat := (s.graphs.filter (fun g => decide (g.tenant = tn ∧ g.queue = q))).length

/-- A graph refused: GSTAT and a KIND 3 record (R58, R63). -/
def State.refuseGraph (s : State) (tn : Nat) (i : GraphIn) (c : Cause) : State :=
  (s.memWrite (i.gpa + 24) (toBytes 8 (4 + 2 ^ 8 * c.toNat + 2 ^ 16 * grade c))).event tn 3 (some c) 0 0 i.user

/-- A graph accepted: GSTAT, the private copy, and the nodes without predecessors ready in ascending order (R58, R59, R80). The NSTAT of a node that
waits for predecessors is not written, for which the spec names no time (log entry 71). -/
def State.acceptGraph (s : State) (tn q : Nat) (i : GraphIn) : State :=
  let n := s.stamp
  let g : Graph := { gid := n.1, tenant := tn, queue := q, gpa := i.gpa, user := i.user, nodes := i.nodes.map Prod.fst, fails := [], killed := false }
  let s := n.2.memWrite (i.gpa + 24) (toBytes 8 1)
  let s := { s with graphs := s.graphs ++ [g] }
  ((List.range i.nodes.length).zip i.nodes).foldl (fun s e => if e.2.2 = 0 then s.makeReady n.1 e.1 else s) s

/-- ENQ_ACCEPTANCE: the distributor's step for the ENQ that holds core k (R58). -/
def State.enqStep (s : State) (k : Nat) : State :=
  let x := s.core k
  let tn := x.ccten.toNat % 64
  match x.enq with
  | none => s
  | some (va, q) =>
    if x.enqDone ∨ x.x.hold ≠ .enq va q ∨ s.enqAllowed k q = false then s
    else
      match s.readGraph tn x.kernel va.toNat with
      | .error _ => s
      | .ok i =>
        let s := s.modCore k (fun x => { x with enqDone := true })
        if s.dstate ≠ .ready then s.refuseGraph tn i 0x64#7
        else if 64 ≤ s.queued tn q then s.refuseGraph tn i 0x61#7
        else if i.bad then s.refuseGraph tn i 0x65#7
        else s.acceptGraph tn q i

/-- ENQ_ACCEPTANCE (R58). -/
def execEnqAcceptance (k : Nat) (s : State) : Result := .next (s.enqStep k)

/-! ## Selection (R81-R85) -/

/-- A head: its queue, graph and node. -/
structure Head where
  tenant : Nat
  queue  : Nat
  gid    : Nat
  n      : Nat
  node   : GNode
deriving DecidableEq, Repr

/-- The heads of the queues of VALID tenants. -/
def State.heads (s : State) : List Head :=
  (List.range 1024).filterMap (fun k =>
    if !(s.tenant (k / 16)).valid then none
    else
      match mget [] s.ready k with
      | [] => none
      | (gid, n) :: _ => (s.node gid n).bind (fun x =>
          if x.hasWork then some { tenant := k / 16, queue := k % 16, gid := gid, n := n, node := x } else none))

/-- QCAP of a tenant's queue. -/
def Tenant.cap (t : Tenant) (q : Nat) : Nat := fld t.qcap (3 * q) 3

/-- The effective priority of a head (R59, R82). -/
def State.eff (s : State) (h : Head) : Nat := min h.node.prio.toNat ((s.tenant h.tenant).cap h.queue)

/-- DICTN of a kernel, as its descriptor gives it. -/
def State.dictnOf (s : State) (tn : Nat) (va : W64) : Nat :=
  match s.vaRead .walk tn (va.toNat + 24) 2 with | .ok l => ofBytes l | .error _ => 0

/-- The conditions of R85 on tile t but freeness and cuts: TILESET, health (R21, R278), test. -/
def State.tileFits (s : State) (h : Head) (t : Nat) : Bool :=
  (s.tenant h.tenant).tileset.getLsbD t
    && s.healthFits h.node.redund t
    && !(s.cluster (clusterOf t)).testing

/-! ## What still runs on a tile (R104, R106) -/

/-- A command in the beat pipe goes on until it completes, a run that lacks a row of its ring too (R435); a swap that waits for a load goes on only
as that load does (R198, R418). -/
def Tile.beatGoes (x : Tile) (b : BeatRun) : Bool :=
  match b.cmd.op with
  | .run _ _ _ _ _ _ => decide (b.r < mxRun x.mxcfg) || !x.loading
  | _ => true

/-- A load that has written a beat completes, unless the Nib is held; so does a CBLD or a TRDEF that has taken its handles (R104, R198, R470). -/
def Tile.nibGoes (x : Tile) : Bool :=
  !x.nibHeld && (match x.nib with | some n => n.taken && (decide (n.cmd.op ≠ .mldw) || decide (0 < n.k)) | none => false)

/-- A beat-pipe command that has started completes, unless the Nib is held (R104, R191). -/
def Tile.beatRuns (x : Tile) : Bool := !x.nibHeld && (match x.beat with | some b => b.taken && x.beatGoes b | none => false)

/-- The array has a command to complete (R104). -/
def Tile.arrayBusy (x : Tile) : Bool := x.nibGoes || x.beatRuns

/-- Accepted commands of a tile that a cut lets complete (R104). -/
def State.cutBusy (s : State) (t : Nat) : Bool :=
  (s.tile t).arrayBusy || State.accepted (s.modTile t (fun x => { x with nib := none, beat := none })) t

/-- A free context c of tile t is eligible for a head's unbound task (R85); a tile goes to another tenant once the commands accepted on it have
completed (log entry 65). -/
def State.eligible (s : State) (h : Head) (dictn t c : Nat) : Bool :=
  let x := s.tile t
  let o := x.ctx (1 - c)
  s.tileFits h t && (x.ctx c).task.isNone && !x.cutting && !(x.ctx c).stop.stopped
    && (match x.reserved with | some r => decide (r = (h.gid, h.n)) | none => true)
    && (decide (x.tenant = some h.tenant) || !s.cutBusy t)
    && (match o.task with
      | none => true
      | some k =>
        decide (x.tenant = some h.tenant) && !(h.node.array && k.array)
          && (decide (k.kernel.va = h.node.kernel) || decide (k.kernel.dictn + dictn ≤ 4096)))

/-- The tasks of a saved tile keep to pairs with at most one QUARANTINED tile (R278). -/
def State.pairsFit (s : State) (f : Frame) : Bool :=
  [f.tile.c0, f.tile.c1].all (fun y =>
    match y.task.bind Task.twin with | some u => !(s.quarantined f.tileNo && s.quarantined u.1) | none => true)

/-- The tile of a resume entry is ready for it (R85, R105, R278). -/
def State.resumable (s : State) (h : Head) (f : Frame) : Bool :=
  let x := s.tile f.tileNo
  s.tileFits h f.tileNo && s.pairsFit f && x.c0.task.isNone && x.c1.task.isNone && !x.cutting && !s.cutBusy f.tileNo
    && (match x.reserved with | some r => decide (r = (h.gid, h.n)) | none => true)

/-- The contexts of die d, in ascending order. -/
def dieContexts (d : Nat) : List (Nat × Nat) := (upto (288 * d) 288).flatMap (fun t => [(t, 0), (t, 1)])

/-- The eligible contexts of die d for a head's new tasks, preferred first (R86). -/
def State.places (s : State) (h : Head) (d : Nat) : List (Nat × Nat) :=
  let dictn := s.dictnOf h.tenant h.node.kernel
  let l := (dieContexts d).filter (fun u => s.eligible h dictn u.1 u.2)
  let same := fun (u : Nat × Nat) =>
    match ((s.tile u.1).ctx (1 - u.2)).task with | some k => decide (k.kernel.va = h.node.kernel) | none => false
  let free := fun (u : Nat × Nat) => ((s.tile u.1).ctx (1 - u.2)).task.isNone
  l.filter same ++ l.filter (fun u => !same u && free u) ++ l.filter (fun u => !same u && !free u)

/-- Where one task goes: a context, or two on two tiles of a cluster with at most one quarantined for a REDUNDANT node (R86, R278). -/
def State.place (s : State) (h : Head) (d : Nat) : List (Nat × Nat) :=
  let l := s.places h d
  if !h.node.redund then l.take 1
  else
    let mates := fun (u : Nat × Nat) => l.filter (fun v =>
      decide (v.1 ≠ u.1) && decide (clusterOf v.1 = clusterOf u.1) && !(s.quarantined v.1 && s.quarantined u.1))
    match l.find? (fun u => !(mates u).isEmpty) with
    | some u => u :: (mates u).take 1
    | none => []

/-- The resume entries of a head for die d that may bind now (R105). -/
def State.resumes (s : State) (h : Head) (d : Nat) : List Frame :=
  s.frames.filter (fun f => decide (f.fid ∈ h.node.resume) && decide (dieOf f.tileNo = d) && s.resumable h f)

/-- A head has a task that die d can bind now. -/
def State.bindable (s : State) (h : Head) (d : Nat) : Bool :=
  !(s.resumes h d).isEmpty || ((!h.node.conts.isEmpty || decide (h.node.next < h.node.total)) && !(s.place h d).isEmpty)

/-! ## Binding (R86-R88) -/

/-- The tile takes a tenant: a tenant other than its own resets it (R115); its cycle counter starts when it is bound anew. -/
def State.bindTile (s : State) (t tn : Nat) : State :=
  let s := if (s.tile t).tenant = some tn then s else s.modTile t (fun x => x.forTenant tn s.cycle)
  s.modCluster (clusterOf t) (fun k => { k with tseen := k.tseen ||| BitVec.ofNat 64 (2 ^ tn) })

/-- A tile holds the kernel already: its other context runs it. -/
def State.heldKernel (s : State) (t c : Nat) (va : W64) : Option KDesc :=
  match ((s.tile t).ctx (1 - c)).task with
  | some k => if k.kernel.va = va ∧ k.loaded then some k.kernel else none
  | none => none

/-- A context starts a task of a head, bound in cycle seq: registers as R88, waiting for its kernel descriptor unless the tile holds it. -/
def State.startOn (s : State) (u : Nat × Nat) (twin : Option (Nat × Nat)) (h : Head) (eff seq : Nat) (xyz : BitVec 16 × BitVec 16 × BitVec 16)
    (r : Option TaskRec) : State :=
  let s := s.bindTile u.1 h.tenant
  let held := s.heldKernel u.1 u.2 h.node.kernel
  let k : Task :=
    { tenant := h.tenant, gid := h.gid, node := h.n, x := xyz.1, y := xyz.2.1, z := xyz.2.2, bprio := BitVec.ofNat 3 eff, seq := seq,
      array := h.node.array, redundant := h.node.redund, twin := twin, entry := none, zeroOk := true, loaded := held.isSome,
      kernel := held.getD { va := h.node.kernel, code := 0, codelen := 0, entry := 0, dict := 0, dictn := s.dictnOf h.tenant h.node.kernel } }
  let k := match r with | some r => k.ofRec r | none => k
  if k.loaded && k.badRecord then s.nodeFail h.gid h.n 0x66#7
  else s.modCtx u.1 u.2 (fun y => y.begin k (match r with | some r => r.args | none => h.node.args))

/-- The same task on every context of its place, bound in this cycle; each names its twin. -/
def State.startAll (s : State) (l : List (Nat × Nat)) (h : Head) (eff : Nat) (xyz : BitVec 16 × BitVec 16 × BitVec 16) (r : Option TaskRec) : State :=
  match l with
  | [u, v] => (s.startOn u (some v) h eff s.cycle xyz r).startOn v (some u) h eff s.cycle xyz r
  | [u] => s.startOn u none h eff s.cycle xyz r
  | _ => s

/-- A node is running (R57). -/
def State.nowRuns (s : State) (gid n : Nat) : State :=
  match s.node gid n with
  | some x => if x.st = .ready then s.nodeState gid n .running else s
  | none => s

/-- Bind one task of a head on die d: a resume entry, then a continuation, whichever the distributor takes, then a coordinate (R86, R108). A node that
shared the resume entry and has no other work leaves its list (R81). -/
def State.bindOne (s : State) (d : Nat) (h : Head) (eff : Nat) : Option State :=
  match s.node h.gid h.n with
  | none => none
  | some x =>
    let h := { h with node := x }
    if !x.hasWork then none
    else
    match s.resumes h d with
    | f :: _ =>
      let drop := fun (y : GNode) => { y with resume := y.resume.filter (fun i => decide (i ≠ f.fid)) }
      let s := { s with graphs := s.graphs.map (fun (g : Graph) => { g with nodes := g.nodes.map drop }) }
      let others := (f.tile.tasks.map (fun k => (k.gid, k.node))).filter (fun k => decide (k ≠ (h.gid, h.n)))
      some (others.foldl (fun (s : State) k => s.unlistIdle k.1 k.2) (s.modTile f.tileNo (fun y => { y with cutting := true })))
    | [] =>
      let l := s.place h d
      if l.isEmpty then none
      else
        let pick := s.choose x.conts.length
        match x.conts[pick.1]? with
        | some r =>
          let s := (pick.2.modNode h.gid h.n (fun y => { y with conts := y.conts.eraseIdx pick.1 })).startAll l h eff (r.x, r.y, r.z) (some r)
          some (State.relaid { s with conts := mput s.conts h.tenant (mget 0 s.conts h.tenant - 1) } h.tenant)
        | none =>
          if x.total ≤ x.next then none
          else
            let i := x.next
            let c := (BitVec.ofNat 16 (i % x.extx), BitVec.ofNat 16 (i / x.extx % x.exty), BitVec.ofNat 16 (i / x.extx / x.exty))
            some (((s.modNode h.gid h.n (fun y => { y with next := i + 1, live := y.live + 1 })).startAll l h eff c none).nowRuns h.gid h.n)

/-- Bind up to n tasks (R86); a resume entry, which holds the saved tasks of one tile, counts as one (log entry 66). -/
def State.bindMany : Nat → State → Nat → Head → Nat → State
  | 0, s, _, _, _ => s
  | n + 1, s, d, h, eff =>
    match s.bindOne d h eff with
    | some s => State.bindMany n s d h eff
    | none => s

/-- Bind(d, h, eff): up to 64 tasks; a head without work left leaves its list (R81); the head's wait starts anew, and tiles of the die reserved for it are free for others (R83, R86, R103). -/
def State.bind (s : State) (d : Nat) (h : Head) (eff : Nat) : State :=
  let s := State.bindMany 64 s d h eff
  let free := fun (e : Nat × Tile) =>
    (e.1, if dieOf e.1 = d ∧ e.2.reserved = some (h.gid, h.n) then { e.2 with reserved := none } else e.2)
  let s := State.restartWait { s with tiles := s.tiles.map free } (queueKey h.tenant h.queue)
  s.unlistIdle h.gid h.n

/-- The age of a head in whole periods (R83). -/
def State.age (s : State) (h : Head) : Nat := mget 0 s.ages (queueKey h.tenant h.queue)

/-- The level of a head in a round (R82). -/
def State.level (s : State) (h : Head) : Nat := min 7 (s.eff h + s.age h)

/-- The tenant with the largest credit; the lower number on a tie. -/
def bestTenant (credit : Nat → Int) : List Nat → Nat
  | [] => 0
  | [t] => t
  | t :: l => let b := bestTenant credit l; if credit b < credit t ∨ (credit b = credit t ∧ t < b) then t else b

/-- Credits of a level after a round (R82). -/
def creditsAfter (s : State) (cr : SMap Int) (p w : Nat) (ts : List Nat) : SMap Int :=
  let share := fun (t : Nat) => (s.tenant t).share
  let cr := ts.foldl (fun m t => mput m (64 * p + t) (mget 0 m (64 * p + t) + (share t : Int))) cr
  let total := ts.foldl (fun a t => a + share t) 0
  mput cr (64 * p + w) (mget 0 cr (64 * p + w) - (total : Int))

/-- The chosen head among those of one tenant: the first queue after the last served, modulo 16 (R82). -/
def nextQueue (last : Nat) (l : List Head) : Option Head :=
  ((upto 1 16).findSome? (fun i => l.find? (fun h => decide (h.queue = (last + i) % 16))))

/-- A tile may be pre-empted for a head: R85 but freeness, every bound context below eff (R103). -/
def State.cuttable (s : State) (h : Head) (eff t : Nat) : Bool :=
  let x := s.tile t
  let ks := x.tasks
  s.tileFits h t && !x.cutting && x.reserved.isNone && !ks.isEmpty && ks.all (fun k => decide (k.bprio.toNat < eff))

/-- Order of pre-emption: lowest highest BPRIO, then most recently bound, then highest tile number (R103). -/
def State.cutKey (s : State) (t : Nat) : Nat × Nat × Nat :=
  let ks := (s.tile t).tasks
  (7 - maxOf (ks.map (fun k => k.bprio.toNat)), maxOf (ks.map Task.seq), t)

/-- The first of two keys is taken first. -/
def keyLe (a b : Nat × Nat × Nat) : Bool :=
  decide (b.1 < a.1) || (decide (a.1 = b.1) && (decide (b.2.1 < a.2.1) || (decide (a.2.1 = b.2.1) && decide (b.2.2 ≤ a.2.2))))

/-- Resume entries of a head on die d. -/
def State.resumesOf (s : State) (h : Head) (d : Nat) : List Frame :=
  s.frames.filter (fun f => decide (f.fid ∈ h.node.resume) && decide (dieOf f.tileNo = d))

/-- Tasks of a head that are not bound, its resume entries apart. -/
def GNode.unbound (x : GNode) : Nat := x.conts.length + (x.total - x.next)

/-- A head has work for die d and no eligible free context there (R103). -/
def State.starved (s : State) (h : Head) (d : Nat) : Bool :=
  !s.bindable h d && (decide (0 < h.node.unbound) || !(s.resumesOf h d).isEmpty)

/-- Frames of the pool that neither hold a tile nor wait for one that is being cut (R272). -/
def State.framesFree (s : State) : Nat :=
  s.kregs.fpcount.toNat - s.frames.length - (s.tiles.filter (fun e => e.2.cutting && !e.2.killing && (s.frames.find? (fun f => decide (f.tileNo = e.1))).isNone)).length

/-- What a round may still cut: tasks of the head to make room for, tiles of the round, frames, and the tiles it has taken. -/
structure Cuts where
  tasks  : Nat
  room   : Nat
  frames : Nat
  taken  : List Nat
deriving DecidableEq, Repr

/-- Tile t is taken, with the tiles of its pairs, where every one of them may be cut and the frames cover them (R103, R272); that the tiles of its pairs
must meet the same conditions is the model's choice (log entry 43). -/
def State.takeCut (s : State) (h : Head) (eff : Nat) (k : Cuts) (t : Nat) : Cuts :=
  let g := s.cutGroup t
  if k.tasks = 0 ∨ k.room < g.length ∨ k.frames < g.length ∨ t ∈ k.taken ∨ g.any (fun u => !s.cuttable h eff u) = true then k
  else { tasks := k.tasks - g.length, room := k.room - g.length, frames := k.frames - g.length, taken := k.taken ++ g }

/-- Begin cuts for a starved head on die d: as many tiles as it has tasks, within what the round has left and the free frames cover (R103, R272);
the state, and what the round has left. -/
def State.preempt (d : Nat) (a : State × Nat) (h : Head) : State × Nat :=
  let s := a.1
  let eff := s.eff h
  let mine := s.resumesOf h d
  let tiles := (upto (288 * d) 288).filter (fun t => s.cuttable h eff t)
  let tiles := if h.node.unbound = 0 then tiles.filter (fun t => mine.any (fun f => decide (f.tileNo = t))) else tiles
  let sorted := tiles.mergeSort (fun x y => keyLe (s.cutKey x) (s.cutKey y))
  let k := sorted.foldl (s.takeCut h eff) { tasks := mine.length + h.node.unbound, room := a.2, frames := s.framesFree, taken := [] }
  (k.taken.foldl (fun s t => s.modTile t (fun x => { x with cutting := true, reserved := some (h.gid, h.n) })) s, k.room)

/-- SELECTION_ROUND of the distributor of die d: one head binds, and every starved head pre-empts, the highest eff first, at most 64 tiles in
all (R82, R103). -/
def State.round (s : State) (d : Nat) : State :=
  let all := s.heads
  let hs := all.filter (fun h => s.bindable h d)
  let starved := all.filter (fun h => s.starved h d)
  let s' := if hs.isEmpty then s else
    let p := maxOf (hs.map s.level)
    let l := hs.filter (fun h => decide (s.level h = p))
    let ts := (l.map Head.tenant).eraseDups
    let cr := fun (t : Nat) => mget 0 (s.die d).credit (64 * p + t) + ((s.tenant t).share : Int)
    let w := bestTenant cr ts
    match nextQueue (mget 15 (s.die d).lastq (64 * p + w)) (l.filter (fun h => decide (h.tenant = w))) with
    | none => s
    | some h =>
      let s1 := s.modDie d (fun x => { x with credit := creditsAfter s x.credit p w ts, lastq := mput x.lastq (64 * p + w) h.queue })
      s1.bind d h (s.eff h)
  ((starved.mergeSort (fun a b => decide (s.eff b ≤ s.eff a))).foldl (State.preempt d) (s', 64)).1

/-- SELECTION_ROUND (R82). -/
def execSelectionRound (d : Nat) (s : State) : Result := .next (s.round d)

/-- AGE_PERIOD: one more period of 2^20 cycles of waiting for the head of a queue (R83). -/
def execAgePeriod (tn q : Nat) (s : State) : Result :=
  .next (let k := queueKey tn q
    if (mget [] s.ready k).isEmpty then s else { s with ages := mput s.ages k (min 7 (mget 0 s.ages k + 1)) })

/-! ## KERNEL_DESCRIPTOR_LOAD (R87, R133) -/

/-- n bytes fetched as code is, from a virtual address. -/
def State.vaFetch (s : State) (tn va n : Nat) : Except Cause (List Byte) :=
  (pieces (n / 64 + 2) va n).foldl (fun r p =>
    match r with
    | .error c => .error c
    | .ok l =>
      match s.xlatWalk tn p.1 false .fetch with
      | .bad c => .error c
      | .miss => .error 0x20#7
      | .pa a =>
        match s.memFails a p.2 false with
        | some c => .error c
        | none => .ok (l ++ s.memRead a p.2)) (.ok [])

/-- A kernel descriptor's fields, or none where one breaks R87. -/
def descOf (va : W64) (b : Nat) : Option KDesc :=
  let k : KDesc :=
    { va := va, code := BitVec.ofNat 64 (bits b 0 64), codelen := bits b 64 32, entry := bits b 96 32, dict := BitVec.ofNat 64 (bits b 128 64),
      dictn := bits b 192 16 }
  if k.code.toNat % 64 ≠ 0 ∨ k.codelen = 0 ∨ 0x10000000 < k.codelen ∨ k.codelen ≤ k.entry ∨ k.dict.toNat % 64 ≠ 0 ∨ 4096 < k.dictn
      ∨ bits b 208 304 ≠ 0 ∨ va.toNat % 64 ≠ 0 then none
  else some k

/-- The entries of a dictionary image, 48 bytes each. -/
def dictEntries : Nat → List Byte → List (BitVec 384)
  | 0, _ => []
  | n + 1, l => BitVec.ofNat 384 (ofBytes (l.take 48)) :: dictEntries n (l.drop 48)

/-- Where a dictionary of n entries is placed beside the one resident (R133). -/
def dictBase (l : List DictRes) (n : Nat) : Nat :=
  match l.find? (fun d => decide (d.entries.length ≠ 0)) with
  | none => 0
  | some d => if d.base ≠ 0 then 0 else 4096 - n

/-- The kernel whose descriptor lies at va, read as data, with its dictionary, read as code; the cause where one cannot be had (R87). -/
def State.kernelAt (s : State) (tn : Nat) (va : W64) : Except Cause (KDesc × List Byte) :=
  match s.vaReadLong .walk tn va.toNat 64 with
  | .error x => .error x
  | .ok l =>
    match descOf va (ofBytes l) with
    | none => .error 0x65#7
    | some d =>
      match s.vaFetch tn d.dict.toNat (48 * d.dictn) with
      | .error x => .error x
      | .ok img => .ok (d, img)

/-- The tile with a kernel's dictionary resident (R133). -/
def Tile.putDict (x : Tile) (d : KDesc) (img : List Byte) : Tile :=
  if x.dicts.any (fun e => decide (e.va = d.va)) then x
  else { x with dicts := x.dicts ++ [{ va := d.va, base := dictBase x.dicts d.dictn, entries := dictEntries d.dictn img }] }

/-- KERNEL_DESCRIPTOR_LOAD: the descriptor and its dictionary are read; the context may then issue (R87). -/
def State.loadKernel (s : State) (t c : Nat) : State :=
  match (s.ctx t c).task with
  | none => s
  | some k =>
    if k.loaded then s
    else
      match s.kernelAt k.tenant k.kernel.va with
      | .error x => (s.readMets (fun s => s.kernelAt k.tenant k.kernel.va)).nodeFail k.gid k.node x
      | .ok (d, img) =>
        let k := { k with kernel := d, loaded := true }
        if k.badRecord then s.nodeFail k.gid k.node 0x66#7
        else (s.modTile t (fun x => x.putDict d img)).modCtx t c (fun y => { y with task := some k, x := { y.x with pc := k.entry.getD d.entry } })

/-- KERNEL_DESCRIPTOR_LOAD (R87). -/
def execKernelDescriptorLoad (t c : Nat) (s : State) : Result := .next (s.loadKernel t c)

/-! ## Stealing (R99-R102) -/

/-- The candidates of a thief among tiles lo to lo + n - 1: other tiles with a context bound to the tenant (R99). -/
def State.victims (s : State) (t tn lo n : Nat) : List Nat :=
  (s.tiles.filter (fun e => decide (lo ≤ e.1 ∧ e.1 < lo + n ∧ e.1 ≠ t) && decide (e.2.tenant = some tn)
    && (e.2.c0.task.isSome || e.2.c1.task.isSome))).map Prod.fst

/-- One step of the LFSR (R100). -/
def lfsrNext (x : BitVec 16) : BitVec 16 := (x >>> 1) ^^^ (if x.getLsbD 0 then 0xB400#16 else 0)

/-- A draw among candidates. -/
def State.draw (s : State) (t c : Nat) (l : List Nat) (made : Nat) : State :=
  let x := lfsrNext (s.ctx t c).lfsr
  s.modCtx t c (fun y => { y with lfsr := x, stealing := some (nth 0 l (x.toNat % l.length)), asked := s.cycle, draws := made + 2 })

/-- STEAL_REQUEST: the next draw of a context that has nothing to run, on its die and then on the package, or the context becomes free (R99). -/
def State.stealRequest (s : State) (t c : Nat) : State :=
  let y := s.ctx t c
  match y.task with
  | none => s
  | some k =>
    if y.draws = 0 ∨ y.stealing.isSome ∨ k.redundant then s
    else
      let made := y.draws - 1
      let near := s.victims t k.tenant (288 * dieOf t) 288
      let far := s.victims t k.tenant 0 Config.tiles
      if made < 3 ∧ near ≠ [] then s.draw t c near made
      else
        let made := max made 3
        if made < 6 ∧ far ≠ [] then s.draw t c far made else s.freeCtx t c

/-- STEAL_REQUEST (R99): a task that has reached its end and waited for its streams ends first (R346). -/
def execStealRequest (t c : Nat) (s : State) : Result := .next ((s.taskEnd t c).stealRequest t c)

/-- The tail record of a deque belongs to a node. -/
def tailOf (l : List TaskRec) (gid n : Nat) : Option TaskRec := l.getLast?.bind (fun r => if r.gid = gid ∧ r.node = n then some r else none)

/-- The deque of a victim that answers: the qualifying one with more records, context 0 on a tie (R101). least: the records it must hold. -/
def Tile.stealFrom (x : Tile) (least gid n : Nat) : Option (Nat × TaskRec) :=
  let ok := fun (y : Ctx) => decide (least ≤ y.deque.length) && (match y.task with | some k => !k.redundant | none => false)
  let a := if ok x.c0 then tailOf x.c0.deque gid n else none
  let b := if ok x.c1 then tailOf x.c1.deque gid n else none
  match a, b with
  | some r, some q => if x.c0.deque.length < x.c1.deque.length then some (1, q) else some (0, r)
  | some r, none => some (0, r)
  | none, some q => some (1, q)
  | none, none => none

/-- The thief that victim v answers next: requests in arrival order, those of one cycle by tile (R102). -/
def State.thief (s : State) (v : Nat) : Option (Nat × Nat) :=
  let asks := s.tiles.flatMap (fun e => [0, 1].filterMap (fun c => if (e.2.ctx c).stealing = some v then some ((e.2.ctx c).asked, e.1, c) else none))
  (asks.mergeSort (fun a b => decide (a.1 < b.1) || (decide (a.1 = b.1) && decide (2 * a.2.1 + a.2.2 ≤ 2 * b.2.1 + b.2.2)))).head?.map Prod.snd

/-- The owner of tile v has still to issue in this cycle. -/
def State.ownerFirst (s : State) (v : Nat) : Bool := s.agenda.any (fun i => decide (i = .bundleIssue (.tile v)))

/-- STEAL_ANSWER: victim tile v answers the thief whose request came first (R101, R102). Before the tile's contexts have issued in the cycle a record
is given only from a deque of two or more, since an owner takes the last one; then the request waits. -/
def State.stealAnswer (s : State) (v : Nat) : State :=
  match s.thief v with
  | none => s
  | some (t, c) =>
    match (s.ctx t c).task with
    | none => s
    | some k =>
      match (if (s.tile v).cutting then none else (s.tile v).stealFrom (if s.ownerFirst v then 2 else 1) k.gid k.node) with
      | some (vc, r) =>
        ((s.modCtx v vc (fun y => { y with deque := y.deque.dropLast })).modCtx t c (fun y => { y with stealing := none, draws := 0 })).startRec t c k r
      | none =>
        if s.ownerFirst v then s
        else
          let s := s.modCtx t c (fun y => { y with stealing := none })
          if 7 ≤ (s.ctx t c).draws then s.freeCtx t c else s

/-- STEAL_ANSWER (R101). -/
def execStealAnswer (v : Nat) (s : State) : Result := .next (s.stealAnswer v)

/-! ## Completion (R60-R62) -/

/-- A command of a node's tasks that writes remote memory or copies waits in the context's queues or runs: an SQGO, an ACCPY, a report (R60). -/
def Ctx.owes (y : Ctx) (gid n : Nat) : Bool :=
  y.cq.any (fun k => match k with
    | .sqgo _ _ _ g m _ _ => decide (g = gid ∧ m = n)
    | .accpy _ _ _ _ g m _ => decide (g = gid ∧ m = n)
    | _ => false)
    || y.kq.any (fun k => match k with | .rep _ _ _ g m => decide (g = gid ∧ m = n) | _ => false)

/-- A remote store or copy of a node's tasks, of a tile or of one that is saved, that has not performed (R60). -/
def State.nodeBusy (s : State) (gid n : Nat) : Bool :=
  (s.tiles.map Prod.snd ++ s.frames.map Frame.tile).any (fun x =>
    [x.c0, x.c1].any (fun y =>
      y.remote.any (fun r => !r.done && decide (r.gid = gid ∧ r.node = n)) || y.runs gid n || y.owes gid n)
    || x.copies.any (fun k => decide (k.2.gid = gid ∧ k.2.node = n)))

/-- The graph's tenant has been killed: nothing of it is done any more (R62). -/
def State.killed (s : State) (gid : Nat) : Bool := match s.graph gid with | some g => g.killed | none => false

/-- Every task of the node has been bound and has ended, and nothing of it is left (R60, R89). -/
def State.nodeOver (s : State) (gid n : Nat) : Bool :=
  match s.node gid n with
  | some x => !(s.killed gid) && decide (x.st = .running) && decide (x.total ≤ x.next) && decide (x.live = 0) && x.resume.isEmpty && x.conts.isEmpty
      && !s.nodeBusy gid n
  | none => false

/-- One predecessor of node j is done (R60). -/
def State.predDone (s : State) (gid j : Nat) : State :=
  match s.node gid j with
  | none => s
  | some x =>
    let p := s.memNat (x.npa + 16) 4
    let s := (s.readMet (x.npa + 16) 4).memPut (x.npa + 16) 4 (p - 1)
    if p = 1 ∧ x.st = .waiting then s.makeReady gid j else s

/-- NODE_DONE: NSTAT, the event, then the successors in list order (R60, R63). -/
def State.nodeDone (s : State) (gid n : Nat) : State :=
  if !s.nodeOver gid n then s
  else
    match s.graph gid, s.node gid n with
    | some g, some x =>
      let s := s.nodeState gid n .done
      let s := if x.irq then s.event g.tenant 1 none 0 n g.user else s
      x.succ.foldl (fun s j => s.predDone gid j) s
    | _, _ => s

/-- NODE_DONE (R60). -/
def execNodeDone (gid n : Nat) (s : State) : Result := .next (s.nodeDone gid n)

/-- The completion condition of R61. -/
def Graph.over (g : Graph) : Bool :=
  g.nodes.all (fun x => decide (x.st = .done) || decide (x.st = .failed))
    || (!g.fails.isEmpty && g.nodes.all (fun x => decide (x.st ≠ .ready) && decide (x.st ≠ .running)))

/-- The cause of the first node to fail with the highest grade (R61). -/
def worstCause (l : List GNode) (fails : List Nat) : Cause :=
  let cs := fails.filterMap (fun n => (l[n]?).map GNode.cause)
  (cs.find? (fun c => decide (grade c = maxOf (cs.map grade)))).getD 0

/-- A graph leaves the device; a draining device with none left is DRAINED (R76). -/
def State.graphGone (s : State) (g : Graph) : State :=
  let k := queueKey g.tenant g.queue
  let s := s.setReady k ((mget [] s.ready k).filter (fun x => decide (x.1 ≠ g.gid)))
  let s := { s with graphs := s.graphs.filter (fun x => decide (x.gid ≠ g.gid)) }
  if s.dstate = .draining ∧ s.graphs = [] then s.toDState .drained 0 else s

/-- GRAPH_COMPLETE: waiting nodes are skipped, GSTAT, the KIND 3 record (R61, R63). -/
def State.graphComplete (s : State) (gid : Nat) : State :=
  match s.graph gid with
  | none => s
  | some g =>
    if g.killed || !g.over then s
    else
      let s := ((List.range g.nodes.length).zip g.nodes).foldl (fun s e => if e.2.st = .waiting then s.nodeState gid e.1 .skipped else s) s
      let c := worstCause g.nodes g.fails
      ((s.putGstat g (if g.fails.isEmpty then 2 else 3) c).event g.tenant 3 (if g.fails.isEmpty then none else some c) 0 0 g.user).graphGone g

/-- GRAPH_COMPLETE (R61). -/
def execGraphComplete (gid : Nat) (s : State) : Result := .next (s.graphComplete gid)

/-- GRAPH_KILL_COMPLETE: once the tenant's contexts have been cut (R62, R106). -/
def State.graphKillComplete (s : State) (gid : Nat) : State :=
  match s.graph gid with
  | none => s
  | some g =>
    if !g.killed || s.tiles.any (fun e => decide (e.2.tenant = some g.tenant) && e.2.killing) then s
    else ((s.putGstat g 5 0x63#7).event g.tenant 3 (some 0x63#7) 0 0 g.user).graphGone g

/-- GRAPH_KILL_COMPLETE (R62). -/
def execGraphKillComplete (gid : Nat) (s : State) : Result := .next (s.graphKillComplete gid)

end Sys2Proof.Machine
end

