-- ==== Sys2Proof/Machine/Cut.lean ====
section
/-! DEFINITION. Pre-emption: the cut and the restore of a tile (R104, R105, R272-R275); timing replay (R276, R277); paired execution (R279, R280);
the in-field test and retraction (R281-R285). -/

namespace Sys2Proof.Machine

/-! ## The cut (R104) -/

/-- The remote accesses of a context have performed and their elements are delivered, but for those that wait for a saved tile (R104, R274). -/
def State.remotesDone (s : State) (y : Ctx) : Bool := y.remote.all (fun r => !r.done && !r.sent && s.homeWaits r.tenant r.addr)

/-- A context of a tile whose restore is under way has its frame bound (R105). -/
def State.restoring (s : State) (t : Nat) : Option Frame :=
  let waiting := s.graphs.flatMap (fun g => g.nodes.flatMap GNode.resume)
  if (s.tile t).cutting then s.frames.find? (fun f => decide (f.tileNo = t ∧ f.fid ∉ waiting)) else none

/-- A weight plane in a frame: elements, then the block scale of every PE (R273). -/
def Plane.frame (p : Plane) : SMap Byte :=
  packRegs [] 0 4 p.elems ++ (List.range 2048).map (fun i => (0x2000 + i, mget 0#8 p.scales i))

/-- The stated bytes of the tile part, offsets below 0x15_9000 (R273). The scratchpad stands by row and bank. -/
def Tile.frame (x : Tile) : SMap Byte :=
  x.pad ++ mshift x.ink 0x100000 ++ mshift (packRegs [] 0 4 x.acc) 0x140000 ++ mshift x.front.frame 0x150000 ++ mshift x.back.frame 0x154000
    ++ mshift ((x.rowst.map (fun e => (e.1, e.2.setWidth 8))) : SMap Byte) 0x158000

/-- A context's record in a frame: its stop, or PREEMPTED with grade G0, where the context goes on and the delay slots that are left to it (R104, R124,
R267). -/
def Ctx.preempted (y : Ctx) : Ctx :=
  if y.stop.stopped then y
  else { y with stop := { StopRec.init with area := y.stop.area, pc := BitVec.ofNat 32 y.x.pc, dslot := BitVec.ofNat 2 y.x.dslot, cause := 0x62#7 } }

/-- Write a tile frame at a physical address; bytes without a stated layout take free values (R273). -/
def State.writeFrame (s : State) (base : Nat) (x : Tile) : State :=
  let s := ((s.memRegion base 0x159000 x.frame).freeRegion (base + 0x159000) 0x27000).memRegion (base + 0x180000) 0x80000 []
  [(0x200000, x.c0), (0x500000, x.c1)].foldl (fun (s : State) (e : Nat × Ctx) =>
    let p := base + e.1
    ((s.memRegion p 0x15000 (mslice e.2.preempted.part 0 0x15000)).freeRegion (p + 0x4000) 0x10000).freeRegion (p + 0x15000) 0x2EB000) s

/-- Why a frame cannot be written or read (R274). -/
def State.frameFails (s : State) (base : Nat) (write : Bool) : Option Cause :=
  (List.range 2048).findSome? (fun i => s.memFails (base + 4096 * i) 4096 write)

/-- A frame that cannot be written or read (R274). -/
def State.frameBad (s : State) (base : Nat) (write : Bool) : Bool := (s.frameFails base write).isSome

/-- Address of frame n of the pool (R272). -/
def State.frameAt (s : State) (n : Nat) : Nat := s.kregs.fpbase.toNat + 0x800000 * n

/-- The lowest free frame of the pool. -/
def State.freeFrame (s : State) : Option Nat := (List.range s.kregs.fpcount.toNat).find? (fun n => !s.frames.any (fun f => decide (f.fid = n)))

/-- The nodes of the tasks of a tile fail with a cause. -/
def State.failTasks (s : State) (x : Tile) (c : Cause) : State := x.tasks.foldl (fun (s : State) (k : Task) => s.nodeFail k.gid k.node c) s

/-- The records of tile t that a cut passes on: those of a pair's second context are the first's own (R89, R279). -/
def Tile.passed (x : Tile) (t : Nat) : List TaskRec :=
  [0, 1].flatMap (fun c => match (x.ctx c).task with | some k => if k.counts t c then (x.ctx c).deque else [] | none => (x.ctx c).deque)

/-- The records of a tile's deques pass to the distributor (R104). -/
def State.passDeques (s : State) (t : Nat) (x : Tile) : State :=
  (x.passed t).foldl (fun (s : State) (r : TaskRec) => s.toPool (x.tenant.getD 0) r) s

/-- A handle without the commands that a cut has saved. -/
def HEntry.idle (h : HEntry) : HEntry := { h with writers := [], readers := [], ctxW := [], wres := [], rres := [], cmds := [], wq := [] }

/-- A translation entry that nothing holds. -/
def TEntry.idle (e : TEntry) : TEntry := { e with holders := [], waiter := none }

/-- A context without the task that a cut has saved: its random state, its spill memory and staging file stay with the tile (R100, R115). -/
def Ctx.emptied (y : Ctx) (t c : Nat) : Ctx := { Ctx.init t c with lfsr := y.lfsr, spill := y.spill, staging := y.staging }

/-- A tile that a cut leaves: bound to its tenant, with the tile-shared state that persists from task to task (R115), and nothing of the work that the
frame holds. -/
def Tile.emptied (x : Tile) (t : Nat) : Tile :=
  { x with
    c0 := x.c0.emptied t 0, c1 := x.c1.emptied t 1, cutting := false, mq := [], nib := none, beat := none,
    handles := x.handles.map (fun e => (e.1, e.2.idle)), freeing := [], copies := [], dicts := [],
    tcache := (x.tcache.filter (fun e => !e.retiring)).map TEntry.idle, gathers := [], brush := [], winq := [], posted := [], sends := [] }

/-- The tasks of frame f wait for their tile as resume entries (R105). -/
def State.entered (s : State) (f : Frame) : State :=
  f.tile.tasks.foldl (fun (s : State) (k : Task) =>
    (s.modNode k.gid k.node (fun y => if f.fid ∈ y.resume then y else { y with resume := f.fid :: y.resume })).toFront k.gid k.node) s

/-- Save tile x into frame n (R104, R105, R273). -/
def State.saveTile (s : State) (t n : Nat) (x : Tile) : State :=
  let k := x.tasks.head?
  let f : Frame :=
    { fid := n, tileNo := t, gid := (k.map Task.gid).getD 0, node := (k.map Task.node).getD 0,
      tile := { x with c0 := { x.c0 with deque := [] }, c1 := { x.c1 with deque := [] }, tlb := [], requests := [], dicts := [] } }
  let s := (s.writeFrame (s.frameAt n) x).passDeques t x
  let s := { s with frames := s.frames ++ [f] }
  (s.entered f).setTile t (x.emptied t)

/-- A tile whose tenant was killed is nobody's once the commands accepted on it have completed (R85, R106). -/
def Tile.vacated (x : Tile) (t : Nat) : Tile :=
  { x.emptied t with tenant := none, killing := false, requests := x.requests.filter (fun q => decide (some q.tenant ≠ x.tenant)) }

/-- A tile is not cut after all. -/
def Tile.uncut (x : Tile) : Tile :=
  { x with cutting := false, c0 := { x.c0 with disp := none }, c1 := { x.c1 with disp := none } }

/-- RPRSETs that came to the head of a queue during the cut execute (R219). -/
def State.kvFlushBoth (s : State) (t : Nat) : State := (s.kvFlush t 0).kvFlush t 1

/-- A tile is not cut after all; what waited for the end of the cut goes on. -/
def State.uncut (s : State) (t : Nat) : State := (s.modTile t Tile.uncut).kvFlushBoth t

/-- TILE_CUT: a tile to be cut whose accepted commands have completed is saved; a context that looked for work to steal holds none (R104). Where the
tenant was killed nothing is saved (R106). -/
def State.tileCut (s : State) (t : Nat) : State :=
  if !(s.tile t).cutting || (s.restoring t).isSome || s.cutBusy t then s
  else if (s.tile t).killing then s.modTile t (fun x => x.vacated t)
  else if !s.remotesDone (s.ctx t 0) || !s.remotesDone (s.ctx t 1) then s
  else
    let s := [0, 1].foldl (fun (s : State) (c : Nat) => if (s.ctx t c).draws ≠ 0 then s.freeCtx t c else s) s
    let x := s.tile t
    let room := mget 0 s.conts (x.tenant.getD 0) + (x.passed t).length ≤ 4096
    if x.tasks.isEmpty then s.uncut t
    else
      match s.freeFrame with
      | none => s
      | some n =>
        if ¬room then s
        else if s.frameBad (s.frameAt n) true then (s.failTasks x 0x6A#7).uncut t
        else s.saveTile t n x

/-- TILE_CUT (R104). -/
def execTileCut (t : Nat) (s : State) : Result := .next (s.tileCut t)

/-! ## Restore (R274) -/

/-- What is held for a tile: an access by tile, context and number, or the arrival of a repair job by die and place. -/
inductive Held where
  | access (t c id : Nat)
  | arrival (d p : Nat)
deriving DecidableEq, Repr

/-- An access is held for tile t of tenant tn (R274). -/
def Remote.heldFor (r : Remote) (t tn : Nat) : Bool :=
  !r.done && !r.sent && gaTile r.addr && decide (gaPeer r.addr = 0) && decide (gaTileNo r.addr = t) && decide (r.tenant = tn)

/-- Everything that is held for tile t of tenant tn, each with its place in the order of arrival (R234, R274). -/
def State.heldFor (s : State) (t tn : Nat) : List (Nat × Held) :=
  let of := fun (n : Nat) (x : Tile) => [0, 1].flatMap (fun c => ((x.ctx c).remote.filter (fun r => r.heldFor t tn)).map (fun r => (r.id, Held.access n c r.id)))
  s.tiles.flatMap (fun e => of e.1 e.2) ++ s.frames.flatMap (fun f => of f.tileNo f.tile) ++
    ((List.range 8).flatMap (fun d => (s.die d).retouch.filterMap (fun (e : Nat × RJob) =>
      if e.2.st = .done ∧ e.2.dtile = t then some (e.2.came, Held.arrival d e.1) else none)))

/-- The access numbered id of a context performs. -/
def State.performId (s : State) (t c id : Nat) : State :=
  let l := (s.ctx t c).remote ++ s.savedAccesses t c
  match ((List.range l.length).zip l).find? (fun r => decide (r.2.id = id)) with
  | some r => s.perform t c r.1
  | none => s

/-- One of those that are held is applied. -/
def State.applyHeld (s : State) : Held → State
  | .access t c id => s.performId t c id
  | .arrival d p => match s.job d p with | some j => s.jobArrive d p j | none => s

/-- What is held for a tile is applied in arrival order, before its saved commands and its first bundle (R274). -/
def State.heldApplied (s : State) (t tn : Nat) : State :=
  ((s.heldFor t tn).mergeSort (fun a b => decide (a.1 ≤ b.1))).foldl (fun (s : State) e => s.applyHeld e.2) s

/-- The dictionary of a restored task is read again from its kernel's descriptor (R87, R273); one that cannot be read fails the node. -/
def State.reloadDict (s : State) (t c : Nat) : State :=
  match (s.ctx t c).task with
  | none => s
  | some k =>
    if !k.loaded then s
    else
      match s.kernelAt k.tenant k.kernel.va with
      | .error x => (s.readMets (fun s => s.kernelAt k.tenant k.kernel.va)).nodeFail k.gid k.node x
      | .ok (d, img) =>
        (s.modTile t (fun x => x.putDict d img)).modCtx t c (fun y => { y with task := some { k with kernel := d } })

/-- The CTXDISP that was written while the tile was being cut is applied (R275). -/
def State.applyDisp (s : State) (t c : Nat) : State :=
  match (s.ctx t c).disp with
  | some v => (s.modCtx t c (fun y => { y with disp := none })).dispose t v
  | none => s

/-- A frame leaves the pool; the accesses that its contexts have issued go on (R60, R61). -/
def State.dropFrame (s : State) (n : Nat) : State := { s with frames := s.frames.filter (fun f => decide (f.fid ≠ n)) }

/-- n bytes of device memory as sparse contents: what a region holds. -/
def State.memSlice (s : State) (pa n : Nat) : SMap Byte :=
  if s.sound && decide (pa + n ≤ s.capacity) then mslice s.mem pa n
  else ((upto 0 n).map (fun i => (i, s.memByte (pa + i)))).filter (fun e => decide (e.2 ≠ 0))

/-- n little-endian words of b bytes of sparse contents, those that are zero left out. -/
def wordsOf (w b : Nat) (m : SMap Byte) : Nat → Nat → SMap (BitVec w)
  | 0, _ => []
  | n + 1, i =>
    let v := BitVec.ofNat w (ofBytes ((upto (b * i) b).map (mget 0 m)))
    let t := wordsOf w b m n (i + 1)
    if v = 0 then t else (i, v) :: t

/-- A weight plane with the elements and the block scales that a frame holds (R273). -/
def Plane.ofFrame (p : Plane) (m : SMap Byte) : Plane := { p with elems := wordsOf 32 4 m 2048 0, scales := wordsOf 8 1 (mslice m 0x2000 2048) 2048 0 }

/-- A tile with the stated bytes of the frame at base: scratchpad, Inkwell, accumulator words and row state, weight planes, and the register parts of its
contexts (R266, R273, R274). -/
def State.readFrame (s : State) (base : Nat) (x : Tile) : Tile :=
  { x with
    pad := s.memSlice base 0x100000, ink := s.memSlice (base + 0x100000) 0x40000, acc := wordsOf 32 4 (s.memSlice (base + 0x140000) 0x10000) 16384 0,
    front := x.front.ofFrame (s.memSlice (base + 0x150000) 0x4000), back := x.back.ofFrame (s.memSlice (base + 0x154000) 0x4000),
    rowst := wordsOf 4 1 (s.memSlice (base + 0x158000) 0x1000) 4096 0,
    c0 := s.reloadPart (base + 0x200000) x.c0, c1 := s.reloadPart (base + 0x500000) x.c1 }

/-- The tasks of a saved tile may run on it: health and test (R21, R85, R278, R281). -/
def State.restoreFits (s : State) (f : Frame) : Bool :=
  f.tile.tasks.all (fun k => s.healthFits k.redundant f.tileNo) && s.pairsFit f && !(s.cluster (clusterOf f.tileNo)).testing

/-- A saved tile's contexts as bound anew in this cycle (R90, R105). -/
def Tile.reboundAt (x : Tile) (cycle : Nat) : Tile :=
  { x with c0 := { x.c0 with task := x.c0.task.map (fun k => { k with seq := cycle }) }, c1 := { x.c1 with task := x.c1.task.map (fun k => { k with seq := cycle }) } }

/-- Restore a frame: the tile and the dictionary, the contexts, then the accesses and arrivals held for it; its saved commands and its first bundle
follow in the steps of the tile (R274). -/
def State.restoreTile (s : State) (t : Nat) (f : Frame) : State :=
  let now := s.tile t
  let x := (s.readFrame (s.frameAt f.fid) f.tile).reboundAt s.cycle
  let back := fun (y : Ctx) (z : Ctx) => { y with remote := z.remote ++ y.remote }
  let s := (s.dropFrame f.fid).setTile t { x with
    c0 := back x.c0 now.c0, c1 := back x.c1 now.c1, cutting := false, requests := now.requests, replays := now.replays, exhausts := now.exhausts,
    lostFor := now.lostFor, reserved := now.reserved }
  let s := s.modCluster (clusterOf t) (fun k => { k with tseen := k.tseen ||| BitVec.ofNat 64 (2 ^ f.tile.tenant.getD 0) })
  let s := f.tile.tasks.foldl (fun (s : State) (k : Task) => s.nowRuns k.gid k.node) s
  let s := ((s.reloadDict t 0).reloadDict t 1).kvFlushBoth t
  let s := s.heldApplied t (f.tile.tenant.getD 0)
  (s.applyDisp t 0).applyDisp t 1

/-- The tile of a saved frame serves its nodes no more (R274). -/
def State.tileLost (s : State) (t : Nat) (k : Task) : Bool :=
  match (s.unit (.tile t)).health with
  | .failed => true
  | .quarantined => !k.redundant
  | _ => false

/-- Accesses held for tile t of tenant tn end at their senders with REMOTE_UNREACHABLE: those of this package now, as an access to a lost tile does, those
of other packages as their messages come (R274). -/
def State.unreachable (s : State) (t tn : Nat) : State :=
  let s := s.modTile t (fun x => { x with lostFor := tn :: x.lostFor.filter (fun n => decide (n ≠ tn)) })
  ((s.heldFor t tn).filter (fun e => match e.2 with | .access _ _ _ => true | .arrival _ _ => false)).foldl (fun (s : State) e => s.applyHeld e.2) s

/-- TILE_RESTORE: the frame bound for the tile is restored, or waits again where the tile may not take it any more (R21, R281); frames of a tile that is
lost fail their nodes (R274). -/
def State.tileRestore (s : State) (t : Nat) : State :=
  match s.restoring t with
  | some f =>
    if !s.restoreFits f then (s.entered f).uncut t
    else if s.frameBad (s.frameAt f.fid) false then
      (((s.metIn s (fun s => s.frameFails (s.frameAt f.fid) false)).failTasks f.tile 0x6A#7).dropFrame f.fid).uncut t
    else s.restoreTile t f
  | none =>
    match s.frames.find? (fun f => decide (f.tileNo = t) && f.tile.tasks.any (s.tileLost t)) with
    | none => s
    | some f =>
      let tn := f.tile.tenant.getD 0
      ((f.tile.tasks.filter (s.tileLost t)).foldl (fun (s : State) (k : Task) => s.nodeFail k.gid k.node 0x68#7) s).unreachable t tn

/-- TILE_RESTORE (R274). -/
def execTileRestore (t : Nat) (s : State) : Result := .next (s.tileRestore t)

/-! ## Who offers a bundle (R90) -/

/-- A context has a bundle to offer, but for holds that its issue finds: its task is loaded and goes on, no stall cycle is left, no atomic is on its
way, and no comparator holds it (R90, R117, R279, R371). -/
def Ctx.offers (y : Ctx) (cutting : Bool) : Bool :=
  (match y.task with | some k => k.loaded | none => false) && !y.stop.stopped && !y.ending && !cutting && decide (y.draws = 0) && y.stealing.isNone
    && decide (y.x.stallLeft = 0) && (match y.x.hold with | .twin _ _ => false | _ => true)
    && !(y.remote.any (fun r => match r.kind with | .atm _ _ => !r.done | _ => false))

/-! ## Timing replay (R276, R277) -/

/-- The running ACCPY of a context, and the key-value commands that it has begun, a job that stands at its Retouch apart, end in the error phase (R277). -/
def State.endBegun (s : State) (t c : Nat) (e : Cause) : State :=
  let y := s.ctx t c
  let s := match y.cq with
    | .accpy _ cmd _ id _ _ (some _) :: rest => (s.modCtx t c (fun y => { y with cq := rest })).engineDone t id (fld cmd 19 20) (accBytes cmd) (some e)
    | _ => s
  (y.kq.filter y.stepped).foldl (fun (s : State) k =>
    match k with
    | .xld _ bw id => s.kvDone t c id bw (some e)
    | .xinv _ bw _ id _ => s.kvDone t c id bw (some e)
    | .splc _ bw id => s.kvDone t c id bw (some e)
    | .pfx _ _ _ bw id => s.kvDone t c id bw (some e)
    | _ => s) s

/-- Commands that run on the tile's engines end in the error phase with a cause: copies, the array's, gathers, sends and receives, ACCPYs and key-value
commands (R277). -/
def State.endRunning (s : State) (t : Nat) (c : Cause) : State :=
  let x := s.tile t
  let run := fun (k : Nat × CopyCmd) => decide (k.2.st = 1 ∨ k.2.st = 3)
  let s := (x.copies.filter run).foldl (fun (s : State) (k : Nat × CopyCmd) => s.copyEnd t k.1 k.2 (k.2.sent / 4096) (some c)) s
  let pipe := (match x.nib with | some n => if n.taken then [n.cmd] else [] | none => [])
    ++ (match x.beat with | some b => if b.taken then [b.cmd] else [] | none => [])
  let s := pipe.foldl (fun (s : State) m => if m.due.isNone then s.tell t m.seq { err := some c, req := none, data := [] } else s) s
  let s := s.abortAll t c (pipe.filterMap MCmd.due)
  let s := s.modTile t (fun x => pipe.foldl (fun x m => x.finishCmd m.seq) x)
  let s := s.modTile t (fun x => { x with
    nib := (match x.nib with | some n => if n.taken then none else some n | none => none),
    beat := (match x.beat with | some b => if b.taken then none else some b | none => none) })
  let s := (x.gathers.filter (fun g => !g.held && !g.done)).foldl (fun (s : State) (g : Gather) =>
    s.modTile t (fun x => (x.setGather { g with fail := some c, done := true }).endHold g.id)) s
  let s := x.sends.foldl (fun (s : State) (r : SendRun) => s.sendDone t r.id (some c)) s
  let s := (s.endBegun t 0 c).endBegun t 1 c
  x.posted.foldl (fun (s : State) (r : Recv) => match r.met with | some q => s.recvDone t r q 0 (some c) | none => s) s

/-- One step down in health (R277). -/
def Health.down : Health → Health
  | .ok => .degraded
  | .degraded => .quarantined
  | h => h

/-- The tile is exhausted: no bundle of the cycle that flagged, the tile's next, commits; running commands end, health falls (R277). -/
def State.exhaust (s : State) (t : Nat) : State :=
  let s := (s.modTile t (fun x => { x with exhausts := 1 })).endRunning t 0x70#7
  let h := (s.unit (.tile t)).health
  if h.down = h then s.blame (.tile t) 0x70#7
  else s.newHealth (.tile t) t h.down 0x70#7 (match (s.tile t).tenant with | some n => 2 ^ n | none => 0)

/-- TIMING_REPLAY: the replay is counted and logged; a second flag of one cycle, or the 64th replay of a window, exhausts the tile (R276, R277). A
replayed cycle has the results it would have had. -/
def execTimingReplay (t : Nat) (again : Bool) (s : State) : Result :=
  .next (
    let n := (s.tile t).replays + 1
    let s := s.modTile t (fun x => { x with replays := n })
    let s := s.modUnit (.tile t) (fun e => { e with count := e.count + 1, last := some 0x7B#7 })
    let s := s.klog 6 0x7B#7 0 t (match (s.tile t).tenant with | some n => 2 ^ n | none => 0) 0 0
    if again || decide (64 ≤ n) then s.exhaust t else s)

/-- REPLAY_WINDOW_END (R276). -/
def execReplayWindowEnd (t : Nat) (s : State) : Result := .next (s.modTile t (fun x => { x with replays := 0 }))

/-! ## Paired execution (R279, R280) -/

/-- A commit point: an engine command, a remote L-slot access, FORK, JOIN, ATM.dec (R279). k: its header bit. -/
def isCommit (scope k : Nat) : Instr → Bool
  | .fork _ _ => true
  | .join _ _ => true
  | .atmDec _ _ _ _ => true
  | .ldxD _ _ _ _ => true
  | .ldxV256 _ _ _ _ => true
  | .ldxV512 _ _ _ _ => true
  | .ldxV1024 _ _ _ _ => true
  | .stxD _ _ _ _ => true
  | .stxV256 _ _ _ _ => true
  | .stxV512 _ _ _ _ => true
  | .stxV1024 _ _ _ _ => true
  | .atmAddW _ _ _ _ => decide (0 < scope)
  | .atmAndW _ _ _ _ => decide (0 < scope)
  | .atmOrW _ _ _ _ => decide (0 < scope)
  | .atmXorW _ _ _ _ => decide (0 < scope)
  | .atmSwpW _ _ _ _ => decide (0 < scope)
  | .atmCasW _ _ _ _ => decide (0 < scope)
  | .atmMinW _ _ _ _ => decide (0 < scope)
  | .atmMaxW _ _ _ _ => decide (0 < scope)
  | .atmAdd _ _ _ _ => decide (0 < scope)
  | .atmAnd _ _ _ _ => decide (0 < scope)
  | .atmOr _ _ _ _ => decide (0 < scope)
  | .atmXor _ _ _ _ => decide (0 < scope)
  | .atmSwp _ _ _ _ => decide (0 < scope)
  | .atmCas _ _ _ _ => decide (0 < scope)
  | .atmMin _ _ _ _ => decide (0 < scope)
  | .atmMax _ _ _ _ => decide (0 < scope)
  | .atmFmaxF32 _ _ _ _ => decide (0 < scope)
  | .atmFmaxBf16 _ _ _ _ => decide (0 < scope)
  | .atmFmaxF16 _ _ _ _ => decide (0 < scope)
  | .hopen _ => true
  | .hpub _ _ => true
  | .hrel _ _ => true
  | .binit _ _ => true
  | .binitRel _ => true
  | .barr _ => true
  | .nibset _ => true
  | .cbld _ _ => true
  | .trdef _ _ => true
  | .sqset _ _ => true
  | .sqgo _ => true
  | .accpy _ _ => true
  | .xld _ _ => true
  | .xinv _ _ => true
  | .kvg _ _ => true
  | .splc _ _ => true
  | .rprset _ => true
  | .rpr _ _ => true
  | .rprRep _ _ => true
  | .pxlk _ _ => true
  | .pxin _ _ => true
  | .pxinRm _ _ => true
  | .wnsel _ _ => true
  | .trenc _ _ => true
  | .twupd _ _ => true
  | .fsend _ _ => true
  | .frecvHandle _ _ => true
  | .frecvStream _ _ => true
  | _ => decide (k = 10)

/-- EQ of a compared command; 7 for an L-slot access (R267, R280). -/
def eqOf (k : Nat) : Instr → Nat
  | .fork _ _ => 2
  | .join _ _ => 2
  | .hopen _ => 2
  | .hpub _ _ => 2
  | .hrel _ _ => 2
  | .binit _ _ => 2
  | .binitRel _ => 2
  | .barr _ => 2
  | .nibset _ => 0
  | .cbld _ _ => 0
  | .trdef _ _ => 0
  | .sqset _ _ => 1
  | .sqgo _ => 1
  | .accpy _ _ => 1
  | .wnsel _ _ => 5
  | .trenc _ _ => 3
  | .twupd _ _ => 3
  | .fsend _ _ => 6
  | .frecvHandle _ _ => 6
  | .frecvStream _ _ => 6
  | _ => if k = 10 then 0 else if k = 11 then 4 else 7

/-- The value of a register that an operation reads. -/
def State.resVal (s : State) (u : UnitId) : Res → Nat
  | .g n => ((s.thread u).rg n).toNat
  | .a n => ((s.thread u).ra n).toNat
  | .am n => ((s.thread u).ram n).toNat
  | .p n => ((s.thread u).rp n).toNat
  | .v n q => fld ((s.thread u).rv n) (256 * q) 256
  | .lc n => (if n = 0 then (s.thread u).lc0 else (s.thread u).lc1).toNat
  | .sr n => (s.readSr u n).toNat

/-- The twin of a context. -/
def State.twinOf (s : State) (t c : Nat) : Option (Nat × Nat) := (s.ctx t c).task.bind Task.twin

/-- What a context that waits at the comparator shows it. -/
def State.shown (s : State) (t c : Nat) : Option (Nat × List Nat) := match (s.ctx t c).x.hold with | .twin eq l => some (eq, l) | _ => none

/-- Both copies are discarded and both contexts stop with REDUNDANT_MISMATCH (R280). -/
def State.mismatch (s : State) (t c : Nat) (v : Nat × Nat) : State :=
  let eq := ((s.shown t c).map Prod.fst).getD 7
  (s.stopEngine t c 0x72#7 eq 0).stopEngine v.1 v.2 0x72#7 eq 0

/-- REDUNDANT_COMPARE: twins at one commit point; where they agree they offer their bundles again, and the one that counts goes first
(R91, R279). -/
def State.compare (s : State) (t c : Nat) : State :=
  match s.twinOf t c with
  | none => s
  | some v =>
    if (s.shown t c).isNone || (s.shown v.1 v.2).isNone then s
    else if s.shown t c = s.shown v.1 v.2 then
      let go := fun (s : State) (u : Nat × Nat) => s.modCtx u.1 u.2 (fun y => { y with x := { y.x with hold := .agreed } })
      go (go s (t, c)) v
    else s.mismatch t c v

/-- REDUNDANT_COMPARE (R279). -/
def execRedundantCompare (t c : Nat) (s : State) : Result := .next (s.compare t c)

/-- REDUNDANT_TIMEOUT: the twin of a waiting context has not come (R280). -/
def execRedundantTimeout (t c : Nat) (s : State) : Result :=
  .next (match s.twinOf t c with
    | none => s
    | some v => if (s.shown t c).isSome && (s.shown v.1 v.2).isNone then s.mismatch t c v else s)

/-! ## The in-field test (R281-R285) -/

/-- The tiles of a cluster. -/
def clusterTiles (n : Nat) : List Nat := upto (16 * n) 16

/-- A cluster goes under test: its tiles with work are cut (R281). -/
def State.beginTest (s : State) (n : Nat) : State :=
  (clusterTiles n).foldl (fun (s : State) (t : Nat) => s.modTile t (fun x => if x.tasks.isEmpty then x else { x with cutting := true }))
    (s.modCluster n (fun k => { k with testing := true }))

/-- FIELD_TEST_START: the first cluster of the die, where testing is on and none is under test (R281). -/
def execFieldTestStart (d : Nat) (s : State) : Result :=
  .next (if s.kregs.testivl = 0 ∨ (upto (18 * d) 18).any (fun n => (s.cluster n).testing) = true then s else s.beginTest (18 * d))

/-- A cluster under test holds no work. -/
def State.testRuns (s : State) (n : Nat) : Bool :=
  (s.cluster n).testing && (clusterTiles n).all (fun t => !(s.tile t).cutting && (s.tile t).tasks.isEmpty)

/-- The test of a cluster is over; the next cluster of the die goes under test. -/
def State.endTest (s : State) (n : Nat) : State :=
  let s := s.modCluster n (fun k => { k with testing := false })
  if (n + 1) % 18 = 0 then s else s.beginTest (n + 1)

/-- A port forgets what a cluster exported. -/
def State.clearExports (s : State) (n : Nat) : State :=
  { s with ports := s.ports.map (fun (e : Nat × Port) => (e.1, { e.2 with exports := merase e.2.exports n })) }

/-- FIELD_TEST_PASS: TSEEN and the export entries are cleared, and the units are OK again (R278, R284). -/
def State.testPass (s : State) (n : Nat) : State :=
  if !s.testRuns n then s
  else
    let s := (s.modCluster n (fun k => { k with tseen := 0 })).clearExports n
    let s := (clusterTiles n).foldl (fun (s : State) (t : Nat) =>
      let e := s.unit (.tile t)
      if e.health = .ok then s else (s.modUnit (.tile t) (fun e => { e with health := .ok })).klog 2 0x7C#7 0 t 0 0 0) s
    s.endTest n

/-- FIELD_TEST_PASS (R284). -/
def execFieldTestPass (n : Nat) (s : State) : Result := .next (s.testPass n)

/-- The notices of a cluster: the ports with a valid entry. -/
def State.exporters (s : State) (n : Nat) : List (Nat × Export) := s.ports.filterMap (fun (e : Nat × Port) => (mfind e.2.exports n).map (fun x => (e.1, x)))

/-- The BODY of a retraction notice: CLUSTER, LO, HI and TMASK (R42). -/
def noticeBody (n : Nat) (e : Export) : List Byte := toBytes 8 (n % 256) ++ toBytes 8 e.lo.toNat ++ toBytes 8 e.hi.toNat ++ toBytes 32 e.tmask.toNat

/-- A retraction notice leaves on a port, behind every message sent on it earlier (R42, R285). -/
def State.notice (s : State) (n port : Nat) (e : Export) : State :=
  s.modPort port (fun x => x.send 0x9#4 { tenant := 0, dst := 0, src := 0, tag := 0, arg := 0, data := noticeBody n e, cand := none })

/-- FIELD_TEST_FAIL: the tiles are quarantined, the failure is logged, each port with an entry sends a notice and clears it; the range sent is logged
(R285). -/
def State.testFail (s : State) (n : Nat) : State :=
  if !s.testRuns n then s
  else
    let k := s.cluster n
    let s := (clusterTiles n).foldl (fun (s : State) (t : Nat) =>
      match (s.unit (.tile t)).health with
      | .failed => s
      | .quarantined => s.blame (.tile t) 0x73#7
      | _ => s.newHealth (.tile t) t .quarantined 0x73#7 0) s
    let s := s.klog 3 0x73#7 0 n k.tseen.toNat k.cseq.toNat 0
    let l := s.exporters n
    let s := (l.foldl (fun (s : State) (e : Nat × Export) => s.notice n e.1 e.2) s).clearExports n
    let s := match l with
      | [] => s
      | e :: rest =>
        let lo := rest.foldl (fun (a : Nat) (x : Nat × Export) => min a x.2.lo.toNat) e.2.lo.toNat
        let hi := rest.foldl (fun (a : Nat) (x : Nat × Export) => max a x.2.hi.toNat) e.2.hi.toNat
        let tm := rest.foldl (fun (a : Nat) (x : Nat × Export) => a ||| x.2.tmask.toNat) e.2.tmask.toNat
        s.klog 4 0x74#7 0 n tm lo hi
    s.endTest n

/-- FIELD_TEST_FAIL (R285). -/
def execFieldTestFail (n : Nat) (s : State) : Result := .next (s.testFail n)

end Sys2Proof.Machine
end

