-- ==== Sys2Proof/Machine/Device.lean ====
section
/-! DEFINITION. The package as a device: reset, G3 causes and boot (R9-R23), the management protocol (R73-R77), Ethernet (R24-R26, R65), memory
links (R27-R33) and page walks (R149). -/

namespace Sys2Proof.Machine

/-! ## Reset and G3 causes -/

/-- A module stays where it is fitted; its link is as at reset. -/
def MemLink.fitted (x : MemLink) : MemLink := { MemLink.init with module := x.module }

/-- RESET: everything is as right after reset, but for what a reset leaves: the fuses and the boot flash, the contents of the modules and their
poison (R507), and the health of tiles, which only the resident kernel or a test returns to OK (R278); the schedule goes on. -/
def State.resetDevice (s : State) : State :=
  { State.reset with
    agenda := s.agenda, fresh := s.fresh, cycle := s.cycle, seq := s.seq, fuses := s.fuses, mem := s.mem, poison := s.poison,
    rails := s.rails, held := s.held, wv := wvReset s.fuses,
    links := s.links.map (fun (e : Nat × MemLink) => (e.1, e.2.fitted)), health := s.health.filter (fun e => decide (e.1 < 4096)) }

/-- RESET (R20). -/
def execReset (s : State) : Result := .next s.resetDevice

/-- VDD_AUX among the rails of R9's table. -/
def railAux : Nat := 11

/-- The board removes a rail: the device records that it has left its window, and with VDD_AUX alone left is held in reset. VDD_AUX is the last to go
(R9, R10). -/
def State.railRemoved (s : State) (n : Nat) : State :=
  let left := s.rails &&& ~~~BitVec.ofNat 12 (2 ^ n)
  if n = railAux ∧ left ≠ 0#12 then s
  else if left = BitVec.ofNat 12 (2 ^ railAux) ∨ left = 0#12 then { s.resetDevice with rails := left, held := true }
  else { s with rails := left }.g3 0x7D#7

/-- The board applies a rail, VDD_AUX before all others (R10). When the device leaves the reset that it is held in while VDD_AUX alone is up is not
stated: the model's choice is with every rail up (log entry 74). -/
def State.railApplied (s : State) (n : Nat) : State :=
  if n ≠ railAux ∧ s.rails.getLsbD railAux = false then s
  else
    let up := s.rails ||| BitVec.ofNat 12 (2 ^ n)
    { s with rails := up, held := s.held && decide (up ≠ 0xFFF#12) }

/-- POWER_FAULT: a rail leaves its window, or the board removes or applies one (R9, R10). -/
def execPowerFault (e : RailEvent) (s : State) : Result :=
  .next (match e with
    | .leaves n => if s.rails.getLsbD n && !s.held then s.g3 0x7D#7 else s
    | .removed n => s.railRemoved n
    | .applied n => s.railApplied n)

/-- THERMAL_TRIP (R292). -/
def execThermalTrip (_die : Nat) (s : State) : Result := .next (s.g3 0x7E#7)

/-- The tenant of a tile as a mask. -/
def State.tileMask (s : State) (t : Nat) : Nat := match (s.tile t).tenant with | some n => 2 ^ n | none => 0

/-- A word of a tile's SRAM that SECDED cannot correct: the context that read it stops with SRAM_UNCORRECTABLE, or the commands that run on the tile's
engines end with it (R43, log entry 69). -/
def State.sramBad (s : State) (t c : Nat) : State :=
  let s := s.blame (.tile t) 0x71#7
  if c < 2 then
    if (s.ctx t c).offers (s.tile t).cutting then
      s.takeException (.ctx t c) { cause := 0x71#7, slots := 0, faddr := 0, pc := (s.ctx t c).x.pc, engine := none }
    else s
  else s.endRunning t 0x71#7

/-- MACHINE_CHECK: what a check of R43 finds. -/
def execMachineCheck (e : Check) (s : State) : Result :=
  .next (match e with
    | .state => s.g3 0x7F#7
    | .sramCorrected t => (s.modUnit (.tile t) (fun e => { e with count := e.count + 1, last := some 0x78#7 })).klog 6 0x78#7 0 t (s.tileMask t) 0 0
    | .sramUncorrectable t c => s.sramBad t c)

/-- SELF_CHECK_FAIL: during bring-up only (R20). -/
def execSelfCheckFail (s : State) : Result := .next (if s.dstate = .bringup then s.toDState .faulted 0x7F#7 else s)

/-! ## Images (R14, R15) -/

/-- n bytes of an image from offset o. -/
def imgBytes (l : List Byte) (o n : Nat) : List Byte := (l.drop o).take n
/-- A little-endian field of an image. -/
def imgNat (l : List Byte) (o n : Nat) : Nat := ofBytes (imgBytes l o n)
/-- VERSION. -/
def imgVersion (l : List Byte) : BitVec 32 := BitVec.ofNat 32 (imgNat l 8 4)
/-- The body: up to LENGTH bytes behind the header, what follows them being no part of the image, whether LENGTH is a multiple of 64 or not (log entry
71). -/
def imgBody (l : List Byte) : List Byte := imgBytes l 192 (imgNat l 12 4)
/-- NEXTKEY. -/
def imgNextKey (l : List Byte) : BitVec 512 := BitVec.ofNat 512 (ofBytesBE (imgBytes l 128 64))
/-- The digest that the signature covers (R14). -/
def imgDigest (l : List Byte) : Nat := ofBytesBE (sha256 (imgBytes l 0 64 ++ imgBytes l 128 64 ++ imgBody l))

/-- A 64-byte signature, r then s, verifies under a key, X then Y. The two integers are read with their highest byte first, as NEXTKEY is written; the
spec states no order for them (log entry 71). -/
def sigOk (key : BitVec 512) (digest : Nat) (sig : List Byte) : Bool :=
  ecdsaVerify (fld key 256 256) (fld key 0 256) digest (ofBytesBE (sig.take 32)) (ofBytesBE (imgBytes sig 32 32))

/-- MAGIC of an image header. -/
def imgMagic : Nat := 0x46584231

/-- The root key, where its SHA-256 is the fused one (R13). The bytes hashed are the model's choice: the 64 of X and Y, big-endian (log entry 75). -/
def Fuses.root (f : Fuses) : Option (BitVec 512) :=
  if ofBytesBE (sha256 (toBytesBE 64 f.rootKey.toNat)) = f.rootHash.toNat then some f.rootKey else none

/-- Why the image of a stage is rejected, if it is (R15); without a key no signature verifies. -/
def imageReject (stage : Nat) (key : Option (BitVec 512)) (least : BitVec 32) (l : List Byte) : Option Reject :=
  if imgNat l 0 4 ≠ imgMagic then some (.magic stage)
  else if imgNat l 48 16 ≠ 0 then some (.reserved stage)
  else if imgBytes l 16 32 ≠ sha256 (imgBody l) then some (.bodyHash stage)
  else if !(match key with | some k => sigOk k (imgDigest l) (imgBytes l 64 64) | none => false) then some (.signature stage)
  else if imgVersion l < least then some (.version stage)
  else none

/-- The measurement extended by a body hash and a version (R19). -/
def measure (m : BitVec 256) (hash : List Byte) (version : BitVec 32) : BitVec 256 :=
  BitVec.ofNat 256 (ofBytesBE (sha256 (toBytesBE 32 m.toNat ++ hash ++ toBytes 4 version.toNat)))

/-! ## The boot chain (R13-R17) -/

/-- The state with its boot state changed. -/
def State.modBoot (s : State) (f : BootState → BootState) : State := { s with boot := f s.boot }

/-- Stage 1 runs: it is measured, and names the key of stage 2 (R13, R19). -/
def runStage1 (l : List Byte) (b : BootState) : BootState :=
  { b with boot := .stage1, nextKey := imgNextKey l, ver1 := imgVersion l, m := measure b.m (imgBytes l 16 32) (imgVersion l) }

/-- Stage 0: slot A, then slot B; with both rejected the device stays in BRINGUP (R15). -/
def State.stage1Verify (s : State) : State :=
  if s.dstate ≠ .bringup ∨ s.boot.boot ≠ .rom then s
  else
    match imageReject 1 s.fuses.root s.fuses.min1 s.fuses.slotA with
    | none => s.modBoot (runStage1 s.fuses.slotA)
    | some a =>
      match imageReject 1 s.fuses.root s.fuses.min1 s.fuses.slotB with
      | none => s.modBoot (fun b => runStage1 s.fuses.slotB { b with rejects := b.rejects ++ [a] })
      | some b => s.modBoot (fun x => { x with boot := .stuck, rejects := x.rejects ++ [a, b] })

/-- STAGE1_VERIFY (R15). -/
def execStage1Verify (s : State) : Result := .next s.stage1Verify

/-- How many of the trained links hold a module of size k. -/
def State.sized (s : State) (trained : BitVec 48) (k : Nat) : Nat :=
  ((List.range 48).filter (fun i => trained.getLsbD i && decide ((s.link i).module = some k))).length

/-- The common size among the trained links: that of the most modules, the larger on equal counts; 3 where there is none (R32, R506). -/
def State.commonSize (s : State) (trained : BitVec 48) : Nat :=
  let n := s.sized trained
  if n 0 = 0 ∧ n 1 = 0 ∧ n 2 = 0 then 3
  else if n 0 ≤ n 2 ∧ n 1 ≤ n 2 then 2 else if n 0 ≤ n 1 then 1 else 0

/-- A link is in the interleave (R32). -/
def State.interleaved (s : State) (trained : BitVec 48) (k i : Nat) : Bool := trained.getLsbD i && decide ((s.link i).module = some k)

/-- One link after training: in the interleave, or FAILED (R32). -/
def State.trainLink (s : State) (trained : BitVec 48) (good : Bool) (i : Nat) : State :=
  (s.modLink i (fun x => { x with trained := trained.getLsbD i, failed := !good })).modUnit (.link i)
    (fun e => { e with health := if good then .ok else .failed })

/-- MEMMAP (R506). -/
def State.memmapFor (s : State) (trained : BitVec 48) (k : Nat) : W64 :=
  BitVec.ofNat 64 ((List.range 48).foldl (fun (a i : Nat) => if s.interleaved trained k i then a + 2 ^ i else a) 0 + k * 2 ^ 48)

/-- Stage 1 trains the links once (R32). -/
def State.trainLinks (s : State) (trained : BitVec 48) : State :=
  if s.dstate ≠ .bringup ∨ s.boot.boot ≠ .stage1 then s
  else
    let k := s.commonSize trained
    let map := s.memmapFor trained k
    let s := (List.range 48).foldl (fun (s : State) (i : Nat) => s.trainLink trained (map.getLsbD i) i) s
    { s with kregs := { s.kregs with memmap := map }, boot := { s.boot with boot := .trained } }

/-- MEMORY_LINK_TRAINING (R32). -/
def execMemoryLinkTraining (trained : BitVec 48) (s : State) : Result := .next (s.trainLinks trained)

/-- A control core starts in the resident kernel, at an address that the spec does not give (log entry 8). -/
def State.startCore (s : State) (k : Nat) : State :=
  let pc := (Config.freeWord s.fresh).toNat / 2
  let s := s.modCore k (fun x => { x with running := true, kernel := true, x := { x.x with pc := pc } })
  { s with fresh := s.fresh + 1 }

/-- Stage 2 runs, on control core 0 first: it is measured (R13, R19). Where its body lies for the cores to fetch the spec does not say: an image that came
over Ethernet stays in the staging area, one from flash is placed nowhere (log entry 71). -/
def State.runStage2 (s : State) (l : List Byte) : State :=
  (s.modBoot (fun b => { b with boot := .core0, ver2 := imgVersion l, m := measure b.m (imgBytes l 16 32) (imgVersion l) })).startCore 0

/-- Stage 2 goes on to the other control cores (R13). -/
def State.runCores (s : State) : State :=
  (upto 1 (Config.cores - 1)).foldl State.startCore (s.modBoot (fun b => { b with boot := .kernel }))

/-- Stage 1 runs stage 2 from flash, or waits for an image; once it runs on core 0, the other cores follow (R13, R17). -/
def State.stage2Verify (s : State) : State :=
  if s.boot.boot = .core0 then s.runCores
  else if s.dstate ≠ .bringup ∨ s.boot.boot ≠ .trained then s
  else if imgNat s.fuses.stage2 0 4 ≠ imgMagic then s.modBoot (fun b => { b with boot := .waitImage })
  else
    match imageReject 2 (some s.boot.nextKey) s.fuses.min2 s.fuses.stage2 with
    | none => s.runStage2 s.fuses.stage2
    | some r => s.modBoot (fun b => { b with boot := .waitImage, rejects := b.rejects ++ [r] })

/-- STAGE2_VERIFY (R17). -/
def execStage2Verify (s : State) : Result := .next s.stage2Verify

end Sys2Proof.Machine

namespace Sys2Proof

/-! ## Management datagrams (R73, R74) -/

/-- A datagram of the operation this step is (R74). -/
def MgmtReq.isOp (r : MgmtReq) (op : BitVec 8) : Bool := decide (r.magic = 0x4357#16) && decide (r.ver = 1#8) && decide (r.op = op)

/-- The 16 bytes of a request's header (R73). -/
def MgmtReq.header (r : MgmtReq) : List Byte :=
  Machine.toBytes 2 r.magic.toNat ++ Machine.toBytes 1 r.ver.toNat ++ Machine.toBytes 1 r.op.toNat ++ Machine.toBytes 2 r.tag.toNat ++ Machine.toBytes 2 0 ++ Machine.toBytes 4 r.arg0.toNat
    ++ Machine.toBytes 4 r.arg1.toNat

/-- ARG1's length of an IMAGE_CHUNK. -/
def MgmtReq.chunkLen (r : MgmtReq) : Nat := Machine.fld r.arg1 0 11

/-- The counter of a signed command. -/
def MgmtReq.counter (r : MgmtReq) : W64 := BitVec.ofNat 64 (Machine.ofBytes (r.body.take 8))

/-- An operation of the table of R74. -/
def MgmtReq.known (r : MgmtReq) : Bool :=
  decide (r.magic = 0x4357#16) && decide (r.ver = 1#8) && [0x01#8, 0x02#8, 0x03#8, 0x04#8, 0x10#8, 0x11#8, 0x12#8].contains r.op

end Sys2Proof

namespace Sys2Proof.Machine

/-! ## The management protocol (R73-R77) -/

/-- OK, REFUSED_STATE, BAD_AUTH, BAD_REQUEST and RANGE (R73). -/
def stOk : BitVec 16 := 0
def stRefusedState : BitVec 16 := 1
def stBadAuth : BitVec 16 := 2
def stBadRequest : BitVec 16 := 3
def stRange : BitVec 16 := 4

/-- A reply to the requester: MAGIC, VER, the OP, the TAG and the arguments of the request, and the STATUS (R73; log entry 71). -/
def State.reply (s : State) (r : MgmtReq) (status : BitVec 16) (body : List Byte) : State :=
  let a : Reply :=
    { port := r.port, dst := r.src, magic := 0x4357#16, ver := 1#8, op := r.op, tag := r.tag, status := status, arg0 := r.arg0, arg1 := r.arg1,
      body := body }
  { s with replies := s.replies ++ [a] }

/-- Stage 1 waits for an image (R17). -/
def State.waitsImage (s : State) : Bool := decide (s.dstate = .bringup) && decide (s.boot.boot = .waitImage)

/-- IMAGE_CHUNK: the bytes go to their offset in the staging area at physical address 0 (R17). A bad offset, length or body is answered BAD_REQUEST, for
which the spec names no status (log entry 71). -/
def State.imageChunk (s : State) (r : MgmtReq) : State :=
  if !r.isOp 0x03#8 then s
  else if !s.waitsImage then s.reply r stRefusedState []
  else if r.arg0.toNat % 1024 ≠ 0 ∨ r.chunkLen = 0 ∨ 1024 < r.chunkLen ∨ r.body.length ≠ r.chunkLen then s.reply r stBadRequest []
  else (s.memWrite r.arg0.toNat r.body).reply r stOk []

/-- IMAGE_CHUNK (R17). -/
def execImageChunk (r : MgmtReq) (s : State) : Result := .next (s.imageChunk r)

/-- IMAGE_COMMIT: the staged bytes are verified, and run if they pass; the status of a reply to a rejected image is a free choice (R17, log
entry 8). -/
def State.imageCommit (s : State) (r : MgmtReq) : State :=
  if !r.isOp 0x04#8 then s
  else if !s.waitsImage then s.reply r stRefusedState []
  else if 2 ^ 30 < r.arg0.toNat then s.reply r stRange []
  else
    let l := s.memRead 0 r.arg0.toNat
    match imageReject 2 (some s.boot.nextKey) s.fuses.min2 l with
    | none => (s.runStage2 l).reply r stOk []
    | some x =>
      let c := s.choose 5
      (c.2.modBoot (fun b => { b with rejects := b.rejects ++ [x] })).reply r (BitVec.ofNat 16 c.1) []

/-- IMAGE_COMMIT (R17). -/
def execImageCommit (r : MgmtReq) (s : State) : Result := .next (s.imageCommit r)

/-- MEASUREMENT_EXTEND, by the resident kernel; a quote takes one step, so none is in progress (R19). -/
def execMeasurementExtend (bodyHash : BitVec 256) (version : BitVec 32) (s : State) : Result :=
  .next (if s.boot.boot = .kernel ∨ s.boot.boot = .core0 then s.modBoot (fun b => { b with m := measure b.m (toBytesBE 32 bodyHash.toNat) version }) else s)

/-- What a quote signs (R19). -/
def State.quoteDigest (s : State) (nonce : List Byte) (count : W64) : BitVec 256 :=
  BitVec.ofNat 256 (ofBytesBE (sha256 (nonce ++ toBytesBE 32 s.boot.m.toNat ++ toBytes 1 s.dstate.code ++ toBytes 8 count.toNat)))

/-- QUOTE: M, the quote count and the signature (R19, R74). A body that is no nonce of 16 bytes is answered BAD_REQUEST, for which the spec names no status
(log entry 71). -/
def State.quote (s : State) (r : MgmtReq) : State :=
  if !r.isOp 0x02#8 then s
  else if s.dstate = .bringup then s.reply r stRefusedState []
  else if r.body.length ≠ 16 then s.reply r stBadRequest []
  else
    let n := s.boot.quotes + 1
    (s.modBoot (fun b => { b with quotes := n })).reply r stOk
      (toBytesBE 32 s.boot.m.toNat ++ toBytes 8 n.toNat ++ toBytesBE 64 (Config.identitySign (s.quoteDigest r.body n)).toNat)

/-- QUOTE (R19). -/
def execQuote (r : MgmtReq) (s : State) : Result := .next (s.quote r)

/-- READ_PAGE: a snapshot of a range of a page (R68, R74). A length outside R74's is answered BAD_REQUEST, for which the spec names no status (log entry
71). -/
def State.readPage (s : State) (r : MgmtReq) : State :=
  let p := r.arg0.toNat
  let off := fld r.arg1 16 16
  let len := fld r.arg1 0 16
  if !r.isOp 0x01#8 then s
  else if s.dstate = .bringup ∧ 2 ≤ p then s.reply r stRefusedState []
  else if len < 8 ∨ 1024 < len ∨ len % 8 ≠ 0 then s.reply r stBadRequest []
  else if 13 ≤ p ∨ 4096 < off + len then s.reply r stRange []
  else s.reply r stOk ((upto off len).map (s.wvRead p))

/-- READ_PAGE (R74). -/
def execReadPage (r : MgmtReq) (s : State) : Result := .next (s.readPage r)

/-- A signed command is accepted: a key is installed, the signature verifies, and the counter exceeds the last one (R75). The header is signed with its
STATUS zero, and a body of another length than 72 is BAD_AUTH (log entry 71). -/
def State.authentic (s : State) (r : MgmtReq) : Bool :=
  match s.kregs.mkey with
  | none => false
  | some k =>
    decide (r.body.length = 72) && decide (s.kregs.mkctr < r.counter)
      && sigOk k (ofBytesBE (sha256 (r.header ++ r.body.take 8))) (r.body.drop 8)

/-- A signed command: the state it is allowed in, then its authenticity, then its effect (R74, R75). One that is authentic is accepted and its counter
stands, a SETCAP that is answered RANGE too (log entry 71). -/
def State.signedCommand (s : State) (r : MgmtReq) (op : BitVec 8) (allowed : Bool) (status : BitVec 16) (effect : State → State) : State :=
  if !r.isOp op then s
  else if !allowed then s.reply r stRefusedState []
  else if !s.authentic r then s.reply r stBadAuth []
  else (effect { s with kregs := { s.kregs with mkctr := r.counter } }).reply r status []

/-- A state command of a manager, the step i, waits for the DEVCMD that arrived before it: that is taken in this step, and i is the next (R22, R55). -/
def State.afterDevcmd (s : State) (i : Instr) (act : State → State) : State :=
  if s.kregs.devcmd.isNone then act s else { s.devcmdRun with agenda := i :: s.agenda }

/-- MGMT_DRAIN (R22, R76). -/
def execMgmtDrain (r : MgmtReq) (s : State) : Result :=
  .next (s.afterDevcmd (.mgmtDrain r) (fun s => s.signedCommand r 0x10#8 (decide (s.dstate = .ready)) stOk State.drain))

/-- MGMT_RESUME (R22, R77). -/
def execMgmtResume (r : MgmtReq) (s : State) : Result :=
  .next (s.afterDevcmd (.mgmtResume r) (fun s =>
    s.signedCommand r 0x11#8 (decide (s.dstate = .draining ∨ s.dstate = .drained)) stOk (fun s => s.toDState .ready 0)))

/-- SETCAP: a value outside R11's range leaves the cap unchanged (R11, R74). -/
def execSetcap (r : MgmtReq) (s : State) : Result :=
  .next (let ok := capOk r.arg0.toNat
    s.signedCommand r 0x12#8 (decide (s.dstate ≠ .bringup)) (if ok then stOk else stRange)
      (fun s => if ok then { s with capNext := some (BitVec.ofNat 12 r.arg0.toNat) } else s))

/-- MGMT_UNKNOWN_OPERATION: BAD_REQUEST, in every state (R74). -/
def execMgmtUnknownOperation (r : MgmtReq) (s : State) : Result := .next (if r.known then s else s.reply r stBadRequest [])

/-! ## Ethernet (R24-R26, R65, R270) -/

/-- DATAGRAM_DISCARD: counted; a management datagram only in BRINGUP; a RoCEv2 operation other than WRITE and READ has no support (R24, R26). -/
def execDatagramDiscard (port : Nat) (d : Discard) (s : State) : Result :=
  .next (if d = .managementInBringup ∧ s.dstate ≠ .bringup then s else s.modEth port (fun e => { e with discards := e.discards + 1 }))

/-- SOCKET_DATAGRAM: delivered to the socket of a control core, which CC_NETWORK interrupts (R270). -/
def execSocketDatagram (core : Nat) (data : List Byte) (s : State) : Result :=
  .next (State.interrupt { s with sockets := s.sockets ++ [(core, data)] } core 0x6D#7)

/-- The window of a port that an access names by its key and lies wholly inside, with the permission it needs (R25, R65). perm: its bit. -/
def State.windowFor (s : State) (port : Nat) (rkey : BitVec 32) (va : W64) (len perm : Nat) : Option Window :=
  ((s.eth port).windows.find? (fun e => e.2.valid && decide (e.2.rkey = rkey) && e.2.perm.getLsbD perm && (s.tenant e.2.tenant).valid
    && decide (e.2.vbase.toNat ≤ va.toNat) && decide (va.toNat + len ≤ e.2.vbase.toNat + e.2.length.toNat))).map Prod.snd

/-- A RoCEv2 access is answered: status 1 for a NAK, 0 with the bytes read. -/
def State.roceReply (s : State) (port : Nat) (status : BitVec 16) (body : List Byte) : State :=
  { s with replies := s.replies ++ [{ port := port, dst := 0, magic := 0, ver := 0, op := 0, tag := 0, status := status, arg0 := 0, arg1 := 0, body := body }] }

/-- A remote-access NAK: counted, no byte touched (R25). -/
def State.roceNak (s : State) (port : Nat) : State := (s.modEth port (fun e => { e with refusals := e.refusals + 1 })).roceReply port 1 []

/-- A RoCEv2 access is answered. -/
def State.roceAnswer (s : State) (port : Nat) (body : List Byte) : State := s.roceReply port 0 body

/-- A RoCEv2 access arrives; in BRINGUP, when the port answers only status and identity reads, it is discarded and counted (R23, R26). -/
def State.roceIn (s : State) (port : Nat) (act : State → State) : State :=
  if s.dstate = .bringup then s.modEth port (fun e => { e with discards := e.discards + 1 }) else act s

/-- Why the first page of a range that cannot be reached cannot, checking every 64-byte piece (R65). -/
def State.roceFails (s : State) (tn va len : Nat) (write : Bool) : Option Cause :=
  (pieces (len / 64 + 2) va len).findSome? (fun p =>
    match s.xlatWalk tn p.1 false (if write then .write else .read) with
    | .pa a =>
      match s.memFails a p.2 write with
      | some c => some c
      | none => if 0x3F0000000000 ≤ a then some 0x23#7 else none
    | .bad c => some c
    | .miss => none)

/-- An access that cannot be made: NAKed; a non-present page is told to the tenant, with a USER of zero, which the spec does not state (R65, log entry
71). -/
def State.roceRefuse (s : State) (port tn va len : Nat) (write : Bool) (c : Cause) : State :=
  let s := (s.roceNak port).metIn s (fun s => s.roceFails tn va len write)
  if c = 0x22#7 then s.event tn 2 (some 0x22#7) 0 0 0 else s

/-- ROCE_WRITE (R25, R65). -/
def execRoceWrite (port : Nat) (rkey : BitVec 32) (va : BitVec 64) (data : List Byte) (s : State) : Result :=
  .next (s.roceIn port (fun s => match s.windowFor port rkey va data.length 1 with
    | none => s.roceNak port
    | some w =>
      match s.roceFails w.tenant va.toNat data.length true with
      | some c => s.roceRefuse port w.tenant va.toNat data.length true c
      | none => (s.vaWriteLong .walk w.tenant va.toNat data).1.roceAnswer port []))

/-- ROCE_READ (R25, R65). -/
def execRoceRead (port : Nat) (rkey : BitVec 32) (va : BitVec 64) (len : Nat) (s : State) : Result :=
  .next (s.roceIn port (fun s => match s.windowFor port rkey va len 0 with
    | none => s.roceNak port
    | some w =>
      match s.roceFails w.tenant va.toNat len false with
      | some c => s.roceRefuse port w.tenant va.toNat len false c
      | none =>
        match s.vaReadLong .walk w.tenant va.toNat len with
        | .ok l => s.roceAnswer port l
        | .error c => s.roceRefuse port w.tenant va.toNat len false c))

/-! ## Memory links (R27-R33) -/

/-- One end of a link. -/
def MemLink.at (x : MemLink) (chip : Bool) : LinkEnd := if chip then x.chip else x.host
/-- The link with one end changed. -/
def MemLink.modAt (x : MemLink) (chip : Bool) (f : LinkEnd → LinkEnd) : MemLink :=
  if chip then { x with chip := f x.chip } else { x with host := f x.host }

/-- A link that carries flits. -/
def MemLink.live (x : MemLink) : Bool := x.trained && !x.failed && !x.retrain

/-- A flit of a KIND arrives at one end, and the end does with it what the kind says; what the other end has not put out cannot arrive (R27, R29). -/
def State.flitIn (s : State) (link : Nat) (chip : Bool) (kind : Nat) (f : BitVec 512) (act : LinkEnd → LinkEnd) : State :=
  let x := s.link link
  if !x.live then s
  else
    match (x.at (!chip)).sends kind f with
    | none => s
    | some e => s.modLink link (fun x => (x.modAt (!chip) (fun _ => e)).modAt chip act)

/-- MEMLINK_REQUEST (R29). -/
def execMemlinkRequest (link : Nat) (atModule : Bool) (flit : BitVec 512) (s : State) : Result :=
  .next (s.flitIn link atModule 0 flit (fun e => e.receive flit))

/-- MEMLINK_DATA (R29). -/
def execMemlinkData (link : Nat) (atModule : Bool) (flit : BitVec 512) (s : State) : Result :=
  .next (s.flitIn link atModule 1 flit (fun e => e.receive flit))

/-- MEMLINK_IDLE (R27). -/
def execMemlinkIdle (link : Nat) (atModule : Bool) (flit : BitVec 512) (s : State) : Result :=
  .next (s.flitIn link atModule 4 flit (fun e => e.receive flit))

/-- MEMLINK_ACK: flits leave the retry buffer; a damaged acknowledgement is discarded with a NAK (R29). -/
def execMemlinkAck (link : Nat) (atModule : Bool) (flit : BitVec 512) (s : State) : Result :=
  .next (s.flitIn link atModule 2 flit (fun e => if flitGood flit then e.release (flitSeq flit) else e.refuse))

/-- A NAK has come to one end of a link: it is counted, and after 8 in a row for one SEQ both ends retrain (R29). -/
def MemLink.naked (x : MemLink) (chip : Bool) : MemLink := { x with counted := x.counted + 1, retrain := decide (8 ≤ (x.at chip).naks) }

/-- MEMLINK_NAK: the sender replays from the expected SEQ (R29). -/
def execMemlinkNak (link : Nat) (atModule : Bool) (flit : BitVec 512) (s : State) : Result :=
  .next (if flitGood flit then
      let t := s.flitIn link atModule 3 flit (fun e => e.nak (flitSeq flit))
      if t.link link = s.link link then s else t.modLink link (fun x => x.naked atModule)
    else s.flitIn link atModule 3 flit LinkEnd.refuse)

/-- One end after a retraining: the row of NAKs is over. -/
def LinkEnd.retrained (e : LinkEnd) : LinkEnd := { e with naks := 0 }

/-- MEMLINK_RETRAIN: one attempt; a success is logged as LINK_RETRAINED (R29, R292). -/
def execMemlinkRetrain (link : Nat) (ok : Bool) (s : State) : Result :=
  .next (if !(s.link link).retrain || (s.link link).failed || !ok then s
    else (s.modLink link (fun x => { x with retrain := false, host := x.host.retrained, chip := x.chip.retrained })).klog 6 0x7A#7 0 link 0 0 0)

/-- MEMLINK_RETRAIN_TIMEOUT: the link is FAILED and LINK_DOWN is recorded (R29, R33). -/
def execMemlinkRetrainTimeout (link : Nat) (s : State) : Result :=
  .next (if !(s.link link).retrain || (s.link link).failed then s
    else (s.modLink link (fun x => { x with failed := true, retrain := false })).linkDown (.link link) link)

/-- A corrected error of a unit: its count, and a record in the kernel log (R30, R43, R69, R292). -/
def State.corrected (s : State) (u : UnitName) (n : Nat) (c : Cause) (tmask : Nat) : State :=
  (s.modUnit u (fun e => { e with count := e.count + 1, last := some c })).klog 6 c 0 n tmask 0 0

/-- A line of a link's module becomes uncorrectable: two of its devices have failed. Which line it is is free (R30, R31). -/
def State.lineLost (s : State) (link : Nat) : State :=
  let c := s.choose (s.capacity / 64)
  if c.2.linkOf (64 * c.1) = link ∧ c.1 ∉ s.poison then { c.2 with poison := c.1 :: s.poison } else c.2

/-- DRAM_SCRUB: the buffer chip finds every line good, or corrects one, or finds one that it cannot correct; which of these is free. The other lines
are as they were, and a poisoned line stays poisoned (R30, R507). -/
def execDramScrub (link : Nat) (s : State) : Result :=
  .next (if !(s.link link).live || !s.kregs.memmap.getLsbD link then s
    else
      let c := s.choose 3
      if c.1 = 0 then c.2 else if c.1 = 1 then c.2.corrected (.link link) link 0x79#7 0 else c.2.lineLost link)

/-! ## Page walks (R148, R149) -/

/-- The thread waits for the walk of a page that it wants: a failure is recorded with it, and none for what it fetched ahead (R311, R363). -/
def Thread.wants (x : Thread) (va : Nat) (a : Acc) : Bool :=
  match x.hold with
  | .fetch => decide (a = .fetch)
  | .walk p b => decide (a = b ∧ p / 65536 = va / 65536)
  | .agreed => true
  | _ => false

/-- A walk's failure is recorded with a thread that waits for it (R148). -/
def State.walkFailed (s : State) (u : UnitId) (va : Nat) (a : Acc) (c : Cause) : State :=
  if (s.thread u).wants va a then s.modThread u (fun x => { x with walkFault := some (va, c) }) else s

/-- A walk's entry is installed in the TLBs that serve a unit (R149). -/
def State.install (s : State) (u : UnitId) (e : TlbE) : State :=
  match u with
  | .ctx t _ =>
    (s.modTile t (fun x => { x with tlb := tlbPut 64 x.tlb e })).modCluster (clusterOf t) (fun k => { k with tlb := tlbPut 4096 k.tlb e })
  | .core k => s.modCore k (fun x => { x with tlb := tlbPut 64 x.tlb e })

/-- A walk ends for a unit: its entry is installed where it allows what the unit wants; otherwise the walk ends in a failure, which installs nothing
(R148, R149, R496). -/
def State.walked (s : State) (w : Walk) (r : Except Cause TlbE) (u : UnitId) (a : Acc) : State :=
  match r with
  | .error c => s.walkFailed u w.va a c
  | .ok e => if e.allows (s.isKernel u) a then (s.modThread u (fun x => { x with walkFault := none })).install u e else s.walkFailed u w.va a a.denied

/-- What a walk finds, as its requesters see it. -/
def State.walkEnd (s : State) (w : Walk) : Except Cause TlbE :=
  match (if 2 ^ 56 ≤ w.va then .page else s.walk w.tenant w.va) with
  | .leaf e => .ok e
  | .page => .error 0x22#7
  | .denied => .error 0x23#7
  | .mem c => .error c

/-- PAGE_WALK_COMPLETE: walk n of a die's unit (R149). A requester that has gone over to another tenant takes nothing of it. -/
def execPageWalkComplete (die n : Nat) (s : State) : Result :=
  .next (match (s.die die).walks[n]? with
    | none => s
    | some w =>
      let r := s.walkEnd w
      let s := s.metIn s (fun s => match s.walkEnd w with | .error c => some c | .ok _ => none)
      (w.waiting.filter (fun u => decide (s.unitTenant u.1 = w.tenant))).foldl (fun (s : State) (u : UnitId × Acc) => s.walked w r u.1 u.2)
        (s.modDie die (fun d => { d with walks := d.walks.eraseIdx n })))

end Sys2Proof.Machine
end

