-- ==== Sys2Proof/Machine/Merge.lean ====
section
/-! DEFINITION. The merge stage: who issues in a cycle (R90-R92), stall cycles (R117), code lines (R311) and landing (R120). -/

namespace Sys2Proof.Machine

/-! ## Choosing who issues (R90-R92) -/

/-- The lead of a tile: the higher BPRIO, then the earlier bound, then context 0 (R90). A resume entry binds both of its tasks in one cycle, which
is the model's reading (log entry 43). -/
def Tile.leadCtx (x : Tile) : Nat :=
  match x.c0.task, x.c1.task with
  | some a, some b => if a.bprio < b.bprio then 1 else if b.bprio < a.bprio then 0 else if b.seq < a.seq then 1 else 0
  | none, some _ => 1
  | _, _ => 0

/-- A context has a stall cycle to count: its task goes on (R117). -/
def Ctx.stalls (y : Ctx) (cutting : Bool) : Bool := decide (0 < y.x.stallLeft) && Ctx.offers { y with x := { y.x with stallLeft := 0 } } cutting

/-- One stall cycle of a unit: a context cycle in which it offers nothing (R117). -/
def State.stallCycle (s : State) (u : UnitId) : State := (s.modThread u (fun x => { x with stallLeft := x.stallLeft - 1 })).advance u

/-- The contexts of a tile that offer a bundle, in the order in which the merge stage takes them: the lead first, or the other first and alone
when SKIP is 31 (R91, R92). -/
def Tile.order (x : Tile) : List Nat × Bool :=
  let a := x.leadCtx
  let b := 1 - a
  let offers := fun (c : Nat) => (x.ctx c).offers x.cutting
  if 31 ≤ x.skip ∧ offers b then (([b, a].filter offers), true) else ([a, b].filter offers, false)

/-- Tile.exhausts in the tile's next cycle (R277). -/
def exhaustsNext (n : Nat) : Nat := if n = 1 then 2 else 0

/-- One cycle of a tile's merge stage that issues. -/
def State.mergeIssue (s : State) (t : Nat) : State :=
  let x := s.tile t
  let s := s.modTile t (fun x => { x with exhausts := exhaustsNext x.exhausts })
  let o := x.order
  let s := ([0, 1].filter (fun c => (x.ctx c).stalls x.cutting)).foldl (fun (s : State) (c : Nat) => s.stallCycle (.ctx t c)) s
  { s with cur := { Cur.init with solo := o.2, lead := x.leadCtx }, toIssue := s.toIssue ++ o.1.map (fun c => UnitId.ctx t c) }

/-- One cycle of a tile's merge stage; one that the cap leaves idle holds its contexts and is no context cycle (R12). -/
def State.mergeCycle (s : State) (t : Nat) : State :=
  let c := s.capIdle (dieOf t)
  if c.1 then c.2 else c.2.mergeIssue t

/-- One cycle of a control core; WFE holds it until an interrupt is pending (R390). -/
def State.coreCycle (s : State) (k : Nat) : State :=
  let x := s.core k
  if !x.running then s
  else if 0 < x.x.stallLeft then s.stallCycle (.core k)
  else if x.x.hold = .wfe ∧ x.irq = [] then s
  else { s with cur := Cur.init, toIssue := s.toIssue ++ [.core k] }

/-- BUNDLE_ISSUE (R91). -/
def execBundleIssue (site : Site) (s : State) : Result :=
  .next (match site with
    | .tile t => s.mergeCycle t
    | .core k => s.coreCycle k)

/-! ## Code lines (R311) -/

/-- The first offset from n up that no fetched unit covers. -/
def firstMissing : Nat → SMap (BitVec 16) → Nat → Nat
  | 0, _, n => n
  | f + 1, m, n => if m.any (fun e => decide (e.1 = n)) then firstMissing f m (n + 1) else n

/-- Put n units of a line, read from physical address p, at offset o. -/
def State.lineUnits (s : State) (p o n : Nat) (m : SMap (BitVec 16)) : SMap (BitVec 16) :=
  (List.range n).foldl (fun (m : SMap (BitVec 16)) (i : Nat) => mput m (o + i) (BitVec.ofNat 16 (s.memNat (p + 2 * i) 2))) m

/-- A fetch that the context waits for fails; fetch ahead never faults (R311). -/
def State.fetchFails (s : State) (t c va : Nat) (f : Cause) : State :=
  if (s.ctx t c).x.hold = .fetch then s.modCtx t c (fun y => { y with x := { y.x with walkFault := some (va, f) } }) else s

/-- The first of n units from offset a up that a thread still has to fetch. -/
def State.lacking (s : State) (u : UnitId) (a n : Nat) : Option Nat :=
  (upto a n).find? (fun i => match s.unitAt u i with | .wait => true | _ => false)

/-- E of a LOOP whose count is 0 in the chain that a thread is to issue: the chain there must be fetched before LOOP issues (R342). -/
def State.skipTarget (s : State) (u : UnitId) : Option Nat :=
  let x := s.thread u
  match s.chainAt u x.pc with
  | .chain c =>
    (match (if slotIn c.present 0 then rawCT (nth 0 c.words 0) else none) with
    | some (.loop n off) =>
      if fld (((s.land u (x.ccycle + 1)).thread u).rg n.toNat) 0 32 = 0 then some (wrap 64 ((x.pc : Int) + off.toInt)) else none
    | _ => none)
  | _ => none

/-- The first unit that a thread lacks of the chain a LOOP is to pass; a chain has at most 12 bundles of 28 units (R313, R317, R342). -/
def State.skipLacking (s : State) (u : UnitId) : Option Nat := (s.skipTarget u).bind (fun e => s.lacking u e 336)

/-- The line that holds the first unit a context lacks arrives, up to CODELEN (R311, R342). -/
def State.fetchLine (s : State) (t c : Nat) : State :=
  let y := s.ctx t c
  match y.kernel with
  | none => s
  | some k =>
    let n := (s.skipLacking (.ctx t c)).getD (firstMissing (y.x.units.length + 1) y.x.units y.x.pc)
    if k.codelen ≤ n ∨ y.stop.stopped ∨ (s.tile t).cutting then s
    else
      let va := k.code.toNat + 2 * n
      let line := max (va / 64 * 64) k.code.toNat
      let o := (line - k.code.toNat) / 2
      match s.xlat (.ctx t c) va .fetch with
      | .miss => if y.x.hold = .fetch then s.startWalk (.ctx t c) va .fetch else s
      | .bad f => s.fetchFails t c va f
      | .pa p =>
        let p := p - (va - line)
        match s.memFails p 64 false with
        | some f => s.fetchFails t c va f
        | none => s.modCtx t c (fun y => { y with x := { y.x with
            units := s.lineUnits p o (min (32 - line % 64 / 2) (k.codelen - o)) y.x.units } })

/-- The first unit that a core lacks: of the chain a LOOP is to pass, else of the three chains from its pc on, whose lengths a CALL needs
(R339, R342). -/
def State.coreLacking (s : State) (k : Nat) : Option Nat :=
  match s.skipLacking (.core k) with
  | some n => some n
  | none => s.lacking (.core k) (s.core k).x.pc 1008

/-- The page of the first unit that a core lacks is asked for; its lines come with its cache (R46, R149). -/
def State.fetchPage (s : State) (k : Nat) : State :=
  match s.coreLacking k with
  | some n => s.startWalk (.core k) (2 * n) .fetch
  | none => s

/-- CODE_FETCH (R311). -/
def execCodeFetch (u : UnitId) (s : State) : Result :=
  .next (match u with
    | .ctx t c => s.fetchLine t c
    | .core k => s.fetchPage k)

/-! ## Landing (R120) -/

/-- RESULT_LANDING: what is due at the unit's context cycle lands (R120). -/
def execResultLanding (u : UnitId) (s : State) : Result := .next (s.land u (s.thread u).ccycle)

end Sys2Proof.Machine
end

