-- ==== Sys2Proof/Machine/Vector.lean ====
section
/-! DEFINITION. The vector slots: one meaning for each operation and one for its stream form (R331, R393-R414). -/

namespace Sys2Proof.Machine

/-- VCMP: the outcome to every predicate bit of each active element's bytes, by the place of va's part (R399). -/
def vecCmp (p : BitVec 4) (v : VSrc) (va : BitVec 6) (cc : BitVec 2) (pd ty : BitVec 4) (wid : BitVec 2) (s : State) : Result :=
  let z := tyBits ty.toNat
  let d := partOf wid va
  let act := fun (s : State) => (s.thread s.cur.u).activeList p d z (d.w / z)
  issue s ((act s).any id) (srcCheck s v) (fun s =>
    let x := s.thread s.cur.u
    let r := List.zipWith (elemCmp ty cc) (velems wid z (x.part d)) (velems wid z (vsrc s wid v))
    (s.result s.cur.u (.p pd.toNat) (BitVec.ofNat 1024 (maskOf (d.off / 8) (z / 8) r))
      (BitVec.ofNat 1024 (maskOf (d.off / 8) (z / 8) (act s))) (latFI ty) 0).popSrc v)

/-- VSEL: every element of the part, from va where the predicate selects, else from the last source (R400). -/
def vecSel (p : BitVec 4) (v : VSrc) (va vd : BitVec 6) (ty : BitVec 4) (wid : BitVec 2) (s : State) : Result :=
  let z := tyBits ty.toNat
  let d := partOf wid vd
  issue s true (srcCheck s v) (fun s =>
    let x := s.thread s.cur.u
    let pick := List.zipWith (fun (b : Bool) (ab : Nat × Nat) => if b then ab.1 else ab.2) (x.activeList p d z (d.w / z))
      (List.zip (velems wid z (x.part (partOf wid va))) (velems wid z (vsrc s wid v)))
    (s.result s.cur.u (.v d.reg) (atPart d (joinElems z pick)) (BitVec.ofNat 1024 (onesAt d.off d.w)) 2 0).popSrc v)

/-- VIMAC (R397). -/
def vecMac (p : BitVec 4) (v : VSrc) (va vd : BitVec 6) (ty : BitVec 4) (wid : BitVec 2) (s : State) : Result :=
  let z := tyBits ty.toNat
  let n := widBits wid / 32
  vecIssue p (partOf wid vd) v 2 (fun _ => .ok) (fun s =>
    let x := s.thread s.cur.u
    let a := groups (32 / z) n (velems wid z (x.part (partOf wid va)))
    let b := groups (32 / z) n (velems wid z (vsrc s wid v))
    { z := 32, elems := List.zipWith (fun (ab : List Nat × List Nat) c => elemMac ty ab.1 ab.2 c) (List.zip a b)
        (velems wid 32 (x.part (partOf wid vd))) }) s

/-- VCVT: as many elements as the wider side holds, in the low bits of the narrower (R401, R402). -/
def vecCvt (p : BitVec 4) (sat : BitVec 1) (src : BitVec 4) (v : VSrc) (vd : BitVec 6) (ty : BitVec 4) (wid : BitVec 2) (s : State) :
    Result :=
  let zs := tyBits src.toNat
  let zd := tyBits ty.toNat
  let n := widBits wid / max zs zd
  vecIssue p (partOf wid vd) v 4 (fun _ => .ok) (fun s =>
    { z := zd, elems := (splitElems zs n (vsrc s wid v)).map (convElem src.toNat ty.toNat (s.thread s.cur.u).rm (sat = 1#1)) }) s

/-- VQNT: FP32 lanes to elements of TYPE in the low quarter of the part (R403, R404). -/
def vecQnt (p : BitVec 4) (sat : BitVec 1) (v : VSrc) (vd : BitVec 6) (ty : BitVec 4) (wid : BitVec 2) (s : State) : Result :=
  vecIssue p (partOf wid vd) v 4 (fun s => (factorLocal s wid).verdict) (fun s =>
    { z := 8, elems := List.zipWith (fun c x => quantise ty.toNat (s.thread s.cur.u).rm (sat = 1#1) (tileScale s) c x) (factors s wid)
        (velems wid 32 (vsrc s wid v)) }) s

/-- VDQNT: elements of TYPE from the low quarter of the source to FP32 lanes (R403, R404). -/
def vecDqnt (p : BitVec 4) (v : VSrc) (vd : BitVec 6) (ty : BitVec 4) (wid : BitVec 2) (s : State) : Result :=
  vecIssue p (partOf wid vd) v 4 (fun s => (factorLocal s wid).verdict) (fun s =>
    { z := 32, elems := List.zipWith (fun c q => dequantise ty.toNat (s.thread s.cur.u).rm (tileScale s) c q) (factors s wid)
        (splitElems 8 (widBits wid / 32) (vsrc s wid v)) }) s

/-- VLSE (R408). -/
def vecLse (p : BitVec 4) (v : VSrc) (va vd : BitVec 6) (wid : BitVec 2) (s : State) : Result :=
  vecIssue p (partOf wid vd) v 4 (fun _ => .ok) (fun s =>
    let x := s.thread s.cur.u
    let h := vsrc s wid v
    { z := 32, elems := List.zipWith (fun a c => lseLane x.rm (h % 2 ^ 32) (h / 2 ^ 32 % 2 ^ 32) a c)
        (velems wid 32 (x.part (partOf wid va))) (velems wid 32 (x.part (partOf wid vd))) }) s

/-- VROPE (R409). -/
def vecRope (p : BitVec 4) (v : VSrc) (va vd : BitVec 6) (ty : BitVec 4) (wid : BitVec 2) (s : State) : Result :=
  let z := tyBits ty.toNat
  vecIssue p (partOf wid vd) v 4 (fun _ => .ok) (fun s =>
    let x := s.thread s.cur.u
    { z := z, elems := ropePairs (vfmt ty) x.rm (velems wid z (x.part (partOf wid va))) (velems wid z (vsrc s wid v))
        (velems wid z (x.part (partOf wid vd))) }) s

/-- VRSUM, VRMAX, VRMIN: the guard selects the inputs; the whole part is written (R406). -/
def vecRed (kind : Nat) (p : BitVec 4) (v : VSrc) (vd : BitVec 6) (ty : BitVec 4) (wid : BitVec 2) (s : State) : Result :=
  let z := tyBits ty.toNat
  let d := partOf wid vd
  let act := fun (s : State) => (s.thread s.cur.u).activeList p d z (d.w / z)
  let r := fun (s : State) => reduce ty (s.thread s.cur.u).rm kind (act s) (velems wid z (vsrc s wid v))
  issue s true ((if (act s).any id then srcCheck s v else .ok).andThen (flagTrap (s.thread s.cur.u) (r s).2)) (fun s =>
    let s' := s.result s.cur.u (.v d.reg) (atPart d (r s).1) (BitVec.ofNat 1024 (onesAt d.off d.w)) (latFI ty) (r s).2.toBits
    if (act s).any id then s'.popSrc v else s')

/-- A special function (R411). -/
def vecSpecial (n : Nat) (p : BitVec 4) (v : VSrc) (vd : BitVec 6) (ty : BitVec 4) (wid : BitVec 2) (s : State) : Result :=
  vec1 p v vd ty wid 12 (fun x a => elemSpecial ty x.rm n a) s

/-- VPERM: va at the index of each element, 0 beyond (R412). -/
def vecPerm (p : BitVec 4) (v : VSrc) (va vd : BitVec 6) (ty : BitVec 4) (wid : BitVec 2) (s : State) : Result :=
  let z := tyBits ty.toNat
  vecIssue p (partOf wid vd) v 3 (fun _ => .ok) (fun s =>
    let a := velems wid z ((s.thread s.cur.u).part (partOf wid va))
    { z := z, elems := (velems wid z (vsrc s wid v)).map (fun i => quiet (nth 0 a i)) }) s

/-- VZIP (high false) and VSHUF (high true): interleave the low or the high halves (R413). -/
def vecZip (high : Bool) (p : BitVec 4) (v : VSrc) (va vd : BitVec 6) (ty : BitVec 4) (wid : BitVec 2) (s : State) : Result :=
  let z := tyBits ty.toNat
  let h := widBits wid / z / 2
  vecIssue p (partOf wid vd) v 3 (fun _ => .ok) (fun s =>
    let half := fun (l : List Nat) => if high then l.drop h else l.take h
    { z := z, elems := interleave (half (velems wid z ((s.thread s.cur.u).part (partOf wid va)))) (half (velems wid z (vsrc s wid v))) }) s

/-- VTRN of 16-bit types (R414). -/
def vecTrn16 (p : BitVec 4) (v : VSrc) (vd : BitVec 6) (wid : BitVec 2) (s : State) : Result :=
  vecIssue p (partOf wid vd) v 3 (fun _ => .ok) (fun s =>
    { z := 16, elems := (transpose8 (velems wid 16 (vsrc s wid v))).map quiet }) s

/-- VTRN of 32-bit types: a register pair to a register pair, each destination element under its own guard (R414). -/
def vecTrn32 (p : BitVec 4) (va vd : BitVec 6) (s : State) : Result :=
  let d := partOf 2#2 vd
  let act := fun (s : State) => (s.thread s.cur.u).activeList p d 32 32
  issue s ((act s).any id) .ok (fun s =>
    let x := s.thread s.cur.u
    let m := transpose8 (splitElems 32 32 (x.rv va.toNat).toNat ++ splitElems 32 32 (x.rv (va.toNat + 1)).toNat)
    let mask := BitVec.ofNat 1024 (maskOf 0 32 (act s))
    let s := s.result s.cur.u (.v vd.toNat) (BitVec.ofNat 1024 (joinElems 32 (m.take 32))) mask 3 0
    s.result s.cur.u (.v (vd.toNat + 1)) (BitVec.ofNat 1024 (joinElems 32 (m.drop 32))) mask 3 0)

/-- The NaN mask of the last row popped from q6, a pop of this bundle counting as the last (R410). -/
def lastNanRow (s : State) : BitVec 32 :=
  match s.cur.u with
  | .core _ => 0
  | .ctx t c => if 6 ∈ s.cur.pops then (match s.head 6 with | some e => nanMask e.val | none => 0) else (s.ctx t c).nanRow

/-! ## Floating point -/

/-- VADD (R394). -/
def execVadd (p : BitVec 4) (vb va vd : BitVec 6) (ty : BitVec 4) (wid : BitVec 2) (s : State) : Result := vec2 p (.reg vb) va vd ty wid 4 (fun x a b => fAdd (vfmt ty) x.rm a b) s

/-- VADD from a stream (R331, R394). -/
def execVaddStream (p : BitVec 4) (q : BitVec 3) (va vd : BitVec 6) (ty : BitVec 4) (wid : BitVec 2) (s : State) : Result := vec2 p (.str q) va vd ty wid 4 (fun x a b => fAdd (vfmt ty) x.rm a b) s

/-- VSUB (R394). -/
def execVsub (p : BitVec 4) (vb va vd : BitVec 6) (ty : BitVec 4) (wid : BitVec 2) (s : State) : Result := vec2 p (.reg vb) va vd ty wid 4 (fun x a b => fSub (vfmt ty) x.rm a b) s

/-- VSUB from a stream (R331, R394). -/
def execVsubStream (p : BitVec 4) (q : BitVec 3) (va vd : BitVec 6) (ty : BitVec 4) (wid : BitVec 2) (s : State) : Result := vec2 p (.str q) va vd ty wid 4 (fun x a b => fSub (vfmt ty) x.rm a b) s

/-- VMUL (R394). -/
def execVmul (p : BitVec 4) (vb va vd : BitVec 6) (ty : BitVec 4) (wid : BitVec 2) (s : State) : Result := vec2 p (.reg vb) va vd ty wid 4 (fun x a b => fMul (vfmt ty) x.rm a b) s

/-- VMUL from a stream (R331, R394). -/
def execVmulStream (p : BitVec 4) (q : BitVec 3) (va vd : BitVec 6) (ty : BitVec 4) (wid : BitVec 2) (s : State) : Result := vec2 p (.str q) va vd ty wid 4 (fun x a b => fMul (vfmt ty) x.rm a b) s

/-- VFMA (R394). -/
def execVfma (p : BitVec 4) (vb va vd : BitVec 6) (ty : BitVec 4) (wid : BitVec 2) (s : State) : Result := vec3 p (.reg vb) va vd ty wid 4 (fun x a b c => fFma (vfmt ty) x.rm false a b c) s

/-- VFMA from a stream (R331, R394). -/
def execVfmaStream (p : BitVec 4) (q : BitVec 3) (va vd : BitVec 6) (ty : BitVec 4) (wid : BitVec 2) (s : State) : Result := vec3 p (.str q) va vd ty wid 4 (fun x a b c => fFma (vfmt ty) x.rm false a b c) s

/-- VFMS (R394). -/
def execVfms (p : BitVec 4) (vb va vd : BitVec 6) (ty : BitVec 4) (wid : BitVec 2) (s : State) : Result := vec3 p (.reg vb) va vd ty wid 4 (fun x a b c => fFma (vfmt ty) x.rm true a b c) s

/-- VFMS from a stream (R331, R394). -/
def execVfmsStream (p : BitVec 4) (q : BitVec 3) (va vd : BitVec 6) (ty : BitVec 4) (wid : BitVec 2) (s : State) : Result := vec3 p (.str q) va vd ty wid 4 (fun x a b c => fFma (vfmt ty) x.rm true a b c) s

/-- VMIN (R395). -/
def execVmin (p : BitVec 4) (vb va vd : BitVec 6) (ty : BitVec 4) (wid : BitVec 2) (s : State) : Result := vec2 p (.reg vb) va vd ty wid (latFI ty) (fun _ a b => quiet (elemMinMax ty false a b)) s

/-- VMIN from a stream (R331, R395). -/
def execVminStream (p : BitVec 4) (q : BitVec 3) (va vd : BitVec 6) (ty : BitVec 4) (wid : BitVec 2) (s : State) : Result := vec2 p (.str q) va vd ty wid (latFI ty) (fun _ a b => quiet (elemMinMax ty false a b)) s

/-- VMAX (R395). -/
def execVmax (p : BitVec 4) (vb va vd : BitVec 6) (ty : BitVec 4) (wid : BitVec 2) (s : State) : Result := vec2 p (.reg vb) va vd ty wid (latFI ty) (fun _ a b => quiet (elemMinMax ty true a b)) s

/-- VMAX from a stream (R331, R395). -/
def execVmaxStream (p : BitVec 4) (q : BitVec 3) (va vd : BitVec 6) (ty : BitVec 4) (wid : BitVec 2) (s : State) : Result := vec2 p (.str q) va vd ty wid (latFI ty) (fun _ a b => quiet (elemMinMax ty true a b)) s

/-- VABS (R395). -/
def execVabs (p : BitVec 4) (va vd : BitVec 6) (ty : BitVec 4) (wid : BitVec 2) (s : State) : Result := vec1 p (.reg va) vd ty wid (latFI ty) (fun _ a => quiet (elemAbs ty a)) s

/-- VABS from a stream (R331, R395). -/
def execVabsStream (p : BitVec 4) (q : BitVec 3) (vd : BitVec 6) (ty : BitVec 4) (wid : BitVec 2) (s : State) : Result := vec1 p (.str q) vd ty wid (latFI ty) (fun _ a => quiet (elemAbs ty a)) s

/-- VNEG (R395). -/
def execVneg (p : BitVec 4) (va vd : BitVec 6) (ty : BitVec 4) (wid : BitVec 2) (s : State) : Result := vec1 p (.reg va) vd ty wid (latFI ty) (fun _ a => quiet (elemNeg ty a)) s

/-- VNEG from a stream (R331, R395). -/
def execVnegStream (p : BitVec 4) (q : BitVec 3) (vd : BitVec 6) (ty : BitVec 4) (wid : BitVec 2) (s : State) : Result := vec1 p (.str q) vd ty wid (latFI ty) (fun _ a => quiet (elemNeg ty a)) s

/-- VCMP (R399). -/
def execVcmp (p : BitVec 4) (vb va : BitVec 6) (cc : BitVec 2) (pd ty : BitVec 4) (wid : BitVec 2) (s : State) : Result := vecCmp p (.reg vb) va cc pd ty wid s

/-- VCMP from a stream (R331, R399). -/
def execVcmpStream (p : BitVec 4) (q : BitVec 3) (va : BitVec 6) (cc : BitVec 2) (pd ty : BitVec 4) (wid : BitVec 2) (s : State) : Result := vecCmp p (.str q) va cc pd ty wid s

/-- VSEL (R400). -/
def execVsel (p : BitVec 4) (vb va vd : BitVec 6) (ty : BitVec 4) (wid : BitVec 2) (s : State) : Result := vecSel p (.reg vb) va vd ty wid s

/-- VSEL from a stream (R331, R400). -/
def execVselStream (p : BitVec 4) (q : BitVec 3) (va vd : BitVec 6) (ty : BitVec 4) (wid : BitVec 2) (s : State) : Result := vecSel p (.str q) va vd ty wid s

/-! ## Integers -/

/-- VIADD (R396). -/
def execViadd (p : BitVec 4) (vb va vd : BitVec 6) (ty : BitVec 4) (wid : BitVec 2) (s : State) : Result := vec2 p (.reg vb) va vd ty wid 2 (fun _ a b => quiet ((a + b) % 2 ^ tyBits ty.toNat)) s

/-- VIADD from a stream (R331, R396). -/
def execViaddStream (p : BitVec 4) (q : BitVec 3) (va vd : BitVec 6) (ty : BitVec 4) (wid : BitVec 2) (s : State) : Result := vec2 p (.str q) va vd ty wid 2 (fun _ a b => quiet ((a + b) % 2 ^ tyBits ty.toNat)) s

/-- VISUB (R396). -/
def execVisub (p : BitVec 4) (vb va vd : BitVec 6) (ty : BitVec 4) (wid : BitVec 2) (s : State) : Result := vec2 p (.reg vb) va vd ty wid 2 (fun _ a b => quiet (wrap (tyBits ty.toNat) ((a : Int) - (b : Int)))) s

/-- VISUB from a stream (R331, R396). -/
def execVisubStream (p : BitVec 4) (q : BitVec 3) (va vd : BitVec 6) (ty : BitVec 4) (wid : BitVec 2) (s : State) : Result := vec2 p (.str q) va vd ty wid 2 (fun _ a b => quiet (wrap (tyBits ty.toNat) ((a : Int) - (b : Int)))) s

/-- VIMUL (R396). -/
def execVimul (p : BitVec 4) (vb va vd : BitVec 6) (ty : BitVec 4) (wid : BitVec 2) (s : State) : Result := vec2 p (.reg vb) va vd ty wid 2 (fun _ a b => quiet ((a * b) % 2 ^ tyBits ty.toNat)) s

/-- VIMUL from a stream (R331, R396). -/
def execVimulStream (p : BitVec 4) (q : BitVec 3) (va vd : BitVec 6) (ty : BitVec 4) (wid : BitVec 2) (s : State) : Result := vec2 p (.str q) va vd ty wid 2 (fun _ a b => quiet ((a * b) % 2 ^ tyBits ty.toNat)) s

/-- VIMAC (R397). -/
def execVimac (p : BitVec 4) (vb va vd : BitVec 6) (ty : BitVec 4) (wid : BitVec 2) (s : State) : Result := vecMac p (.reg vb) va vd ty wid s

/-- VIMAC from a stream (R331, R397). -/
def execVimacStream (p : BitVec 4) (q : BitVec 3) (va vd : BitVec 6) (ty : BitVec 4) (wid : BitVec 2) (s : State) : Result := vecMac p (.str q) va vd ty wid s

/-- VSAT (R398). -/
def execVsat (p : BitVec 4) (va vd : BitVec 6) (ty : BitVec 4) (wid : BitVec 2) (s : State) : Result := vec1 p (.reg va) vd ty wid 2 (fun _ a => elemSat ty.toNat a) s

/-- VSAT from a stream (R331, R398). -/
def execVsatStream (p : BitVec 4) (q : BitVec 3) (vd : BitVec 6) (ty : BitVec 4) (wid : BitVec 2) (s : State) : Result := vec1 p (.str q) vd ty wid 2 (fun _ a => elemSat ty.toNat a) s

/-- VSHL (R396). -/
def execVshl (p : BitVec 4) (vb va vd : BitVec 6) (ty : BitVec 4) (wid : BitVec 2) (s : State) : Result := vec2 p (.reg vb) va vd ty wid 2 (fun _ a b => quiet (if b < tyBits ty.toNat then (a * 2 ^ b) % 2 ^ tyBits ty.toNat else 0)) s

/-- VSHL from a stream (R331, R396). -/
def execVshlStream (p : BitVec 4) (q : BitVec 3) (va vd : BitVec 6) (ty : BitVec 4) (wid : BitVec 2) (s : State) : Result := vec2 p (.str q) va vd ty wid 2 (fun _ a b => quiet (if b < tyBits ty.toNat then (a * 2 ^ b) % 2 ^ tyBits ty.toNat else 0)) s

/-- VSHR (R396). -/
def execVshr (p : BitVec 4) (vb va vd : BitVec 6) (ty : BitVec 4) (wid : BitVec 2) (s : State) : Result := vec2 p (.reg vb) va vd ty wid 2 (fun _ a b => quiet (if b < tyBits ty.toNat then a / 2 ^ b else 0)) s

/-- VSHR from a stream (R331, R396). -/
def execVshrStream (p : BitVec 4) (q : BitVec 3) (va vd : BitVec 6) (ty : BitVec 4) (wid : BitVec 2) (s : State) : Result := vec2 p (.str q) va vd ty wid 2 (fun _ a b => quiet (if b < tyBits ty.toNat then a / 2 ^ b else 0)) s

/-- VSAR (R396). -/
def execVsar (p : BitVec 4) (vb va vd : BitVec 6) (ty : BitVec 4) (wid : BitVec 2) (s : State) : Result := vec2 p (.reg vb) va vd ty wid 2 (fun _ a b => quiet (elemSar (tyBits ty.toNat) a b)) s

/-- VSAR from a stream (R331, R396). -/
def execVsarStream (p : BitVec 4) (q : BitVec 3) (va vd : BitVec 6) (ty : BitVec 4) (wid : BitVec 2) (s : State) : Result := vec2 p (.str q) va vd ty wid 2 (fun _ a b => quiet (elemSar (tyBits ty.toNat) a b)) s

/-- VAND (R396). -/
def execVand (p : BitVec 4) (vb va vd : BitVec 6) (ty : BitVec 4) (wid : BitVec 2) (s : State) : Result := vec2 p (.reg vb) va vd ty wid 2 (fun _ a b => quiet (a &&& b)) s

/-- VAND from a stream (R331, R396). -/
def execVandStream (p : BitVec 4) (q : BitVec 3) (va vd : BitVec 6) (ty : BitVec 4) (wid : BitVec 2) (s : State) : Result := vec2 p (.str q) va vd ty wid 2 (fun _ a b => quiet (a &&& b)) s

/-- VOR (R396). -/
def execVor (p : BitVec 4) (vb va vd : BitVec 6) (ty : BitVec 4) (wid : BitVec 2) (s : State) : Result := vec2 p (.reg vb) va vd ty wid 2 (fun _ a b => quiet (a ||| b)) s

/-- VOR from a stream (R331, R396). -/
def execVorStream (p : BitVec 4) (q : BitVec 3) (va vd : BitVec 6) (ty : BitVec 4) (wid : BitVec 2) (s : State) : Result := vec2 p (.str q) va vd ty wid 2 (fun _ a b => quiet (a ||| b)) s

/-- VXOR (R396). -/
def execVxor (p : BitVec 4) (vb va vd : BitVec 6) (ty : BitVec 4) (wid : BitVec 2) (s : State) : Result := vec2 p (.reg vb) va vd ty wid 2 (fun _ a b => quiet (a ^^^ b)) s

/-- VXOR from a stream (R331, R396). -/
def execVxorStream (p : BitVec 4) (q : BitVec 3) (va vd : BitVec 6) (ty : BitVec 4) (wid : BitVec 2) (s : State) : Result := vec2 p (.str q) va vd ty wid 2 (fun _ a b => quiet (a ^^^ b)) s

/-- VNOT (R396). -/
def execVnot (p : BitVec 4) (va vd : BitVec 6) (ty : BitVec 4) (wid : BitVec 2) (s : State) : Result := vec1 p (.reg va) vd ty wid 2 (fun _ a => quiet (2 ^ tyBits ty.toNat - 1 - a)) s

/-- VNOT from a stream (R331, R396). -/
def execVnotStream (p : BitVec 4) (q : BitVec 3) (vd : BitVec 6) (ty : BitVec 4) (wid : BitVec 2) (s : State) : Result := vec1 p (.str q) vd ty wid 2 (fun _ a => quiet (2 ^ tyBits ty.toNat - 1 - a)) s

/-! ## Conversion -/

/-- VCVT (R401). -/
def execVcvt (p : BitVec 4) (sat : BitVec 1) (src : BitVec 4) (va vd : BitVec 6) (ty : BitVec 4) (wid : BitVec 2) (s : State) : Result := vecCvt p sat src (.reg va) vd ty wid s

/-- VCVT from a stream (R331, R401). -/
def execVcvtStream (p : BitVec 4) (sat : BitVec 1) (src : BitVec 4) (q : BitVec 3) (vd : BitVec 6) (ty : BitVec 4) (wid : BitVec 2) (s : State) : Result := vecCvt p sat src (.str q) vd ty wid s

/-- VQNT (R404). -/
def execVqnt (p : BitVec 4) (sat : BitVec 1) (va vd : BitVec 6) (ty : BitVec 4) (wid : BitVec 2) (s : State) : Result := vecQnt p sat (.reg va) vd ty wid s

/-- VQNT from a stream (R331, R404). -/
def execVqntStream (p : BitVec 4) (sat : BitVec 1) (q : BitVec 3) (vd : BitVec 6) (ty : BitVec 4) (wid : BitVec 2) (s : State) : Result := vecQnt p sat (.str q) vd ty wid s

/-- VDQNT (R404). -/
def execVdqnt (p : BitVec 4) (va vd : BitVec 6) (ty : BitVec 4) (wid : BitVec 2) (s : State) : Result := vecDqnt p (.reg va) vd ty wid s

/-- VDQNT from a stream (R331, R404). -/
def execVdqntStream (p : BitVec 4) (q : BitVec 3) (vd : BitVec 6) (ty : BitVec 4) (wid : BitVec 2) (s : State) : Result := vecDqnt p (.str q) vd ty wid s

/-- VIMG (R405). -/
def execVimg (p : BitVec 4) (inv : BitVec 1) (va vd : BitVec 6) (ty : BitVec 4) (wid : BitVec 2) (s : State) : Result := vec1 p (.reg va) vd ty wid 2 (fun _ a => quiet (if inv = 1#1 then elemInvImage ty.toNat a else elemImage ty.toNat a)) s

/-- VIMG from a stream (R331, R405). -/
def execVimgStream (p : BitVec 4) (inv : BitVec 1) (q : BitVec 3) (vd : BitVec 6) (ty : BitVec 4) (wid : BitVec 2) (s : State) : Result := vec1 p (.str q) vd ty wid 2 (fun _ a => quiet (if inv = 1#1 then elemInvImage ty.toNat a else elemImage ty.toNat a)) s

/-- VLSE (R408). -/
def execVlse (p : BitVec 4) (vb va vd : BitVec 6) (_ty : BitVec 4) (wid : BitVec 2) (s : State) : Result := vecLse p (.reg vb) va vd wid s

/-- VLSE from a stream (R331, R408). -/
def execVlseStream (p : BitVec 4) (q : BitVec 3) (va vd : BitVec 6) (_ty : BitVec 4) (wid : BitVec 2) (s : State) : Result := vecLse p (.str q) va vd wid s

/-- VROPE (R409). -/
def execVrope (p : BitVec 4) (vb va vd : BitVec 6) (ty : BitVec 4) (wid : BitVec 2) (s : State) : Result := vecRope p (.reg vb) va vd ty wid s

/-- VROPE from a stream (R331, R409). -/
def execVropeStream (p : BitVec 4) (q : BitVec 3) (va vd : BitVec 6) (ty : BitVec 4) (wid : BitVec 2) (s : State) : Result := vecRope p (.str q) va vd ty wid s

/-- VNANP: predicate bits 4j to 4j + 3 from word j of the last drained row popped (R410). -/
def execVnanp (p pd : BitVec 4) (s : State) : Result := issue s (((s.thread s.cur.u).activeList p { reg := 0, off := 0, w := 1024 } 32 32).any id) .ok (fun s =>
  let act := (s.thread s.cur.u).activeList p { reg := 0, off := 0, w := 1024 } 32 32
  let m := lastNanRow s
  s.result s.cur.u (.p pd.toNat) (BitVec.ofNat 1024 (maskOf 0 4 ((List.range 32).map m.getLsbD))) (BitVec.ofNat 1024 (maskOf 0 4 act)) 2 0)

/-! ## Reductions, broadcast and moves -/

/-- VRSUM (R406). -/
def execVrsum (p : BitVec 4) (va vd : BitVec 6) (ty : BitVec 4) (wid : BitVec 2) (s : State) : Result := vecRed 0 p (.reg va) vd ty wid s

/-- VRSUM from a stream (R331, R406). -/
def execVrsumStream (p : BitVec 4) (q : BitVec 3) (vd : BitVec 6) (ty : BitVec 4) (wid : BitVec 2) (s : State) : Result := vecRed 0 p (.str q) vd ty wid s

/-- VRMAX (R406). -/
def execVrmax (p : BitVec 4) (va vd : BitVec 6) (ty : BitVec 4) (wid : BitVec 2) (s : State) : Result := vecRed 1 p (.reg va) vd ty wid s

/-- VRMAX from a stream (R331, R406). -/
def execVrmaxStream (p : BitVec 4) (q : BitVec 3) (vd : BitVec 6) (ty : BitVec 4) (wid : BitVec 2) (s : State) : Result := vecRed 1 p (.str q) vd ty wid s

/-- VRMIN (R406). -/
def execVrmin (p : BitVec 4) (va vd : BitVec 6) (ty : BitVec 4) (wid : BitVec 2) (s : State) : Result := vecRed 2 p (.reg va) vd ty wid s

/-- VRMIN from a stream (R331, R406). -/
def execVrminStream (p : BitVec 4) (q : BitVec 3) (vd : BitVec 6) (ty : BitVec 4) (wid : BitVec 2) (s : State) : Result := vecRed 2 p (.str q) vd ty wid s

/-- VBCST (R407). -/
def execVbcst (p : BitVec 4) (g vd : BitVec 6) (ty : BitVec 4) (wid : BitVec 2) (s : State) : Result := vecIssue p (partOf wid vd) (.reg vd) 2 (fun _ => .ok) (fun s =>
  { z := tyBits ty.toNat, elems := List.replicate (widBits wid / tyBits ty.toNat) (quiet (fld ((s.thread s.cur.u).rg g.toNat) 0 (tyBits ty.toNat))) }) s

/-- VMOV (R407). -/
def execVmov (p : BitVec 4) (va vd : BitVec 6) (ty : BitVec 4) (wid : BitVec 2) (s : State) : Result := vec1 p (.reg va) vd ty wid 2 (fun _ a => quiet a) s

/-- VMOV from a stream (R331, R407). -/
def execVmovStream (p : BitVec 4) (q : BitVec 3) (vd : BitVec 6) (ty : BitVec 4) (wid : BitVec 2) (s : State) : Result := vec1 p (.str q) vd ty wid 2 (fun _ a => quiet a) s

/-! ## Special functions and permutes -/

/-- VEXP2 (R411). -/
def execVexp2 (p : BitVec 4) (va vd : BitVec 6) (ty : BitVec 4) (wid : BitVec 2) (s : State) : Result := vecSpecial 0 p (.reg va) vd ty wid s

/-- VEXP2 from a stream (R331, R411). -/
def execVexp2Stream (p : BitVec 4) (q : BitVec 3) (vd : BitVec 6) (ty : BitVec 4) (wid : BitVec 2) (s : State) : Result := vecSpecial 0 p (.str q) vd ty wid s

/-- VLOG2 (R411). -/
def execVlog2 (p : BitVec 4) (va vd : BitVec 6) (ty : BitVec 4) (wid : BitVec 2) (s : State) : Result := vecSpecial 1 p (.reg va) vd ty wid s

/-- VLOG2 from a stream (R331, R411). -/
def execVlog2Stream (p : BitVec 4) (q : BitVec 3) (vd : BitVec 6) (ty : BitVec 4) (wid : BitVec 2) (s : State) : Result := vecSpecial 1 p (.str q) vd ty wid s

/-- VRCP (R411). -/
def execVrcp (p : BitVec 4) (va vd : BitVec 6) (ty : BitVec 4) (wid : BitVec 2) (s : State) : Result := vecSpecial 2 p (.reg va) vd ty wid s

/-- VRCP from a stream (R331, R411). -/
def execVrcpStream (p : BitVec 4) (q : BitVec 3) (vd : BitVec 6) (ty : BitVec 4) (wid : BitVec 2) (s : State) : Result := vecSpecial 2 p (.str q) vd ty wid s

/-- VRSQ (R411). -/
def execVrsq (p : BitVec 4) (va vd : BitVec 6) (ty : BitVec 4) (wid : BitVec 2) (s : State) : Result := vecSpecial 3 p (.reg va) vd ty wid s

/-- VRSQ from a stream (R331, R411). -/
def execVrsqStream (p : BitVec 4) (q : BitVec 3) (vd : BitVec 6) (ty : BitVec 4) (wid : BitVec 2) (s : State) : Result := vecSpecial 3 p (.str q) vd ty wid s

/-- VSQRT (R411). -/
def execVsqrt (p : BitVec 4) (va vd : BitVec 6) (ty : BitVec 4) (wid : BitVec 2) (s : State) : Result := vecSpecial 4 p (.reg va) vd ty wid s

/-- VSQRT from a stream (R331, R411). -/
def execVsqrtStream (p : BitVec 4) (q : BitVec 3) (vd : BitVec 6) (ty : BitVec 4) (wid : BitVec 2) (s : State) : Result := vecSpecial 4 p (.str q) vd ty wid s

/-- VSIN (R411). -/
def execVsin (p : BitVec 4) (va vd : BitVec 6) (ty : BitVec 4) (wid : BitVec 2) (s : State) : Result := vecSpecial 5 p (.reg va) vd ty wid s

/-- VSIN from a stream (R331, R411). -/
def execVsinStream (p : BitVec 4) (q : BitVec 3) (vd : BitVec 6) (ty : BitVec 4) (wid : BitVec 2) (s : State) : Result := vecSpecial 5 p (.str q) vd ty wid s

/-- VCOS (R411). -/
def execVcos (p : BitVec 4) (va vd : BitVec 6) (ty : BitVec 4) (wid : BitVec 2) (s : State) : Result := vecSpecial 6 p (.reg va) vd ty wid s

/-- VCOS from a stream (R331, R411). -/
def execVcosStream (p : BitVec 4) (q : BitVec 3) (vd : BitVec 6) (ty : BitVec 4) (wid : BitVec 2) (s : State) : Result := vecSpecial 6 p (.str q) vd ty wid s

/-- VTANH (R411). -/
def execVtanh (p : BitVec 4) (va vd : BitVec 6) (ty : BitVec 4) (wid : BitVec 2) (s : State) : Result := vecSpecial 7 p (.reg va) vd ty wid s

/-- VTANH from a stream (R331, R411). -/
def execVtanhStream (p : BitVec 4) (q : BitVec 3) (vd : BitVec 6) (ty : BitVec 4) (wid : BitVec 2) (s : State) : Result := vecSpecial 7 p (.str q) vd ty wid s

/-- VPERM (R412). -/
def execVperm (p : BitVec 4) (vb va vd : BitVec 6) (ty : BitVec 4) (wid : BitVec 2) (s : State) : Result := vecPerm p (.reg vb) va vd ty wid s

/-- VPERM from a stream (R331, R412). -/
def execVpermStream (p : BitVec 4) (q : BitVec 3) (va vd : BitVec 6) (ty : BitVec 4) (wid : BitVec 2) (s : State) : Result := vecPerm p (.str q) va vd ty wid s

/-- VTRN (R414). -/
def execVtrn (p : BitVec 4) (va vd : BitVec 6) (ty : BitVec 4) (wid : BitVec 2) (s : State) : Result := if tyTrn32 ty then vecTrn32 p va vd s else vecTrn16 p (.reg va) vd wid s

/-- VTRN from a stream, 16-bit types (R331, R414). -/
def execVtrnStream (p : BitVec 4) (q : BitVec 3) (vd : BitVec 6) (_ty : BitVec 4) (wid : BitVec 2) (s : State) : Result := vecTrn16 p (.str q) vd wid s

/-- VSHUF (R413). -/
def execVshuf (p : BitVec 4) (vb va vd : BitVec 6) (ty : BitVec 4) (wid : BitVec 2) (s : State) : Result := vecZip true p (.reg vb) va vd ty wid s

/-- VSHUF from a stream (R331, R413). -/
def execVshufStream (p : BitVec 4) (q : BitVec 3) (va vd : BitVec 6) (ty : BitVec 4) (wid : BitVec 2) (s : State) : Result := vecZip true p (.str q) va vd ty wid s

/-- VZIP (R413). -/
def execVzip (p : BitVec 4) (vb va vd : BitVec 6) (ty : BitVec 4) (wid : BitVec 2) (s : State) : Result := vecZip false p (.reg vb) va vd ty wid s

/-- VZIP from a stream (R331, R413). -/
def execVzipStream (p : BitVec 4) (q : BitVec 3) (va vd : BitVec 6) (ty : BitVec 4) (wid : BitVec 2) (s : State) : Result := vecZip false p (.str q) va vd ty wid s

end Sys2Proof.Machine
end

