-- ==== Sys2Proof/Machine/Dispatch.lean ====
section
/-! DEFINITION. The meaning of every step of the machine: one arm per row of the opcode table, each a direct call of its meaning. -/

namespace Sys2Proof.Machine

def exec (i : Instr) (s : State) : Host.Outcome State Fault Refusal :=
  match i with
  | .reset => Sys2Proof.Machine.execReset s
  | .powerFault e => Sys2Proof.Machine.execPowerFault e s
  | .thermalTrip die => Sys2Proof.Machine.execThermalTrip die s
  | .machineCheck e => Sys2Proof.Machine.execMachineCheck e s
  | .selfCheckFail => Sys2Proof.Machine.execSelfCheckFail s
  | .stage1Verify => Sys2Proof.Machine.execStage1Verify s
  | .memoryLinkTraining trained => Sys2Proof.Machine.execMemoryLinkTraining trained s
  | .stage2Verify => Sys2Proof.Machine.execStage2Verify s
  | .imageChunk r => Sys2Proof.Machine.execImageChunk r s
  | .imageCommit r => Sys2Proof.Machine.execImageCommit r s
  | .measurementExtend bodyHash version => Sys2Proof.Machine.execMeasurementExtend bodyHash version s
  | .quote r => Sys2Proof.Machine.execQuote r s
  | .readPage r => Sys2Proof.Machine.execReadPage r s
  | .mgmtDrain r => Sys2Proof.Machine.execMgmtDrain r s
  | .mgmtResume r => Sys2Proof.Machine.execMgmtResume r s
  | .setcap r => Sys2Proof.Machine.execSetcap r s
  | .mgmtUnknownOperation r => Sys2Proof.Machine.execMgmtUnknownOperation r s
  | .datagramDiscard port d => Sys2Proof.Machine.execDatagramDiscard port d s
  | .socketDatagram core data => Sys2Proof.Machine.execSocketDatagram core data s
  | .roceWrite port rkey va data => Sys2Proof.Machine.execRoceWrite port rkey va data s
  | .roceRead port rkey va len => Sys2Proof.Machine.execRoceRead port rkey va len s
  | .devcmdStart => Sys2Proof.Machine.execDevcmdStart s
  | .devcmdDrain => Sys2Proof.Machine.execDevcmdDrain s
  | .devcmdResume => Sys2Proof.Machine.execDevcmdResume s
  | .capset v => Sys2Proof.Machine.execCapset v s
  | .capEffective => Sys2Proof.Machine.execCapEffective s
  | .mkctlInstall => Sys2Proof.Machine.execMkctlInstall s
  | .mkctlRemove => Sys2Proof.Machine.execMkctlRemove s
  | .ttsync v => Sys2Proof.Machine.execTtsync v s
  | .tenantTableReload => Sys2Proof.Machine.execTenantTableReload s
  | .winsync v => Sys2Proof.Machine.execWinsync v s
  | .windowDeregisterComplete => Sys2Proof.Machine.execWindowDeregisterComplete s
  | .ctxdispResume tile ctx => Sys2Proof.Machine.execCtxdispResume tile ctx s
  | .ctxdispAbandon tile ctx cause => Sys2Proof.Machine.execCtxdispAbandon tile ctx cause s
  | .nanstatClear tile mask => Sys2Proof.Machine.execNanstatClear tile mask s
  | .registerWrite off v => Sys2Proof.Machine.execRegisterWrite off v s
  | .ccCompare core => Sys2Proof.Machine.execCcCompare core s
  | .interruptTaken core => Sys2Proof.Machine.execInterruptTaken core s
  | .weathervaneUpdate page => Sys2Proof.Machine.execWeathervaneUpdate page s
  | .memlinkRequest link atModule flit => Sys2Proof.Machine.execMemlinkRequest link atModule flit s
  | .memlinkData link atModule flit => Sys2Proof.Machine.execMemlinkData link atModule flit s
  | .memlinkAck link atModule flit => Sys2Proof.Machine.execMemlinkAck link atModule flit s
  | .memlinkNak link atModule flit => Sys2Proof.Machine.execMemlinkNak link atModule flit s
  | .memlinkIdle link atModule flit => Sys2Proof.Machine.execMemlinkIdle link atModule flit s
  | .memlinkRetrain link ok => Sys2Proof.Machine.execMemlinkRetrain link ok s
  | .memlinkRetrainTimeout link => Sys2Proof.Machine.execMemlinkRetrainTimeout link s
  | .dramScrub link => Sys2Proof.Machine.execDramScrub link s
  | .remoteStore port flits => Sys2Proof.Machine.execRemoteStore port flits s
  | .remoteLoadRequest port flits => Sys2Proof.Machine.execRemoteLoadRequest port flits s
  | .remoteLoadReturn port flits => Sys2Proof.Machine.execRemoteLoadReturn port flits s
  | .copyData port flits => Sys2Proof.Machine.execCopyData port flits s
  | .barrierArrival port flits => Sys2Proof.Machine.execBarrierArrival port flits s
  | .send port flits => Sys2Proof.Machine.execSend port flits s
  | .receiveCredit port flits => Sys2Proof.Machine.execReceiveCredit port flits s
  | .deduplicationReference port flits => Sys2Proof.Machine.execDeduplicationReference port flits s
  | .deduplicationNak port flits => Sys2Proof.Machine.execDeduplicationNak port flits s
  | .retractionNotice port flits => Sys2Proof.Machine.execRetractionNotice port flits s
  | .hopAck port flit => Sys2Proof.Machine.execHopAck port flit s
  | .hopNak port flit => Sys2Proof.Machine.execHopNak port flit s
  | .atomicRequest port flits => Sys2Proof.Machine.execAtomicRequest port flits s
  | .atomicReturn port flits => Sys2Proof.Machine.execAtomicReturn port flits s
  | .fabricReservedKind port flit => Sys2Proof.Machine.execFabricReservedKind port flit s
  | .fabricRetrain port peer => Sys2Proof.Machine.execFabricRetrain port peer s
  | .fabricRetrainFail port => Sys2Proof.Machine.execFabricRetrainFail port s
  | .sessionKeyAgreement port => Sys2Proof.Machine.execSessionKeyAgreement port s
  | .enqAcceptance core => Sys2Proof.Machine.execEnqAcceptance core s
  | .selectionRound die => Sys2Proof.Machine.execSelectionRound die s
  | .agePeriod tenant queue => Sys2Proof.Machine.execAgePeriod tenant queue s
  | .kernelDescriptorLoad tile ctx => Sys2Proof.Machine.execKernelDescriptorLoad tile ctx s
  | .tileCut tile => Sys2Proof.Machine.execTileCut tile s
  | .tileRestore tile => Sys2Proof.Machine.execTileRestore tile s
  | .stealRequest tile ctx => Sys2Proof.Machine.execStealRequest tile ctx s
  | .stealAnswer tile => Sys2Proof.Machine.execStealAnswer tile s
  | .nodeDone graph node => Sys2Proof.Machine.execNodeDone graph node s
  | .graphComplete graph => Sys2Proof.Machine.execGraphComplete graph s
  | .graphKillComplete graph => Sys2Proof.Machine.execGraphKillComplete graph s
  | .joinDecrement tile ctx => Sys2Proof.Machine.execJoinDecrement tile ctx s
  | .bundleIssue site => Sys2Proof.Machine.execBundleIssue site s
  | .codeFetch u => Sys2Proof.Machine.execCodeFetch u s
  | .resultLanding u => Sys2Proof.Machine.execResultLanding u s
  | .hopenExecute tile ctx => Sys2Proof.Machine.execHopenExecute tile ctx s
  | .hpubExecute tile ctx => Sys2Proof.Machine.execHpubExecute tile ctx s
  | .hrelExecute tile ctx => Sys2Proof.Machine.execHrelExecute tile ctx s
  | .hfreeComplete tile handle => Sys2Proof.Machine.execHfreeComplete tile handle s
  | .copyAdmission tile ctx => Sys2Proof.Machine.execCopyAdmission tile ctx s
  | .copyAccept tile ctx => Sys2Proof.Machine.execCopyAccept tile ctx s
  | .copyPark tile slot => Sys2Proof.Machine.execCopyPark tile slot s
  | .copyComplete tile slot => Sys2Proof.Machine.execCopyComplete tile slot s
  | .remoteAccessPerform tile ctx idx => Sys2Proof.Machine.execRemoteAccessPerform tile ctx idx s
  | .ldxReturn tile ctx q => Sys2Proof.Machine.execLdxReturn tile ctx q s
  | .matrixCommandStart tile => Sys2Proof.Machine.execMatrixCommandStart tile s
  | .nibBeat tile => Sys2Proof.Machine.execNibBeat tile s
  | .arrayBeat tile => Sys2Proof.Machine.execArrayBeat tile s
  | .drainRowPush tile => Sys2Proof.Machine.execDrainRowPush tile s
  | .cbldBuild tile => Sys2Proof.Machine.execCbldBuild tile s
  | .trdefExecute tile => Sys2Proof.Machine.execTrdefExecute tile s
  | .brushUnitAccept cluster => Sys2Proof.Machine.execBrushUnitAccept cluster s
  | .brushUnitComplete cluster => Sys2Proof.Machine.execBrushUnitComplete cluster s
  | .xldExecute tile ctx => Sys2Proof.Machine.execXldExecute tile ctx s
  | .xinvStep tile ctx => Sys2Proof.Machine.execXinvStep tile ctx s
  | .xinvComplete tile ctx => Sys2Proof.Machine.execXinvComplete tile ctx s
  | .gatherAccept tile ctx => Sys2Proof.Machine.execGatherAccept tile ctx s
  | .gatherBlock tile ctx => Sys2Proof.Machine.execGatherBlock tile ctx s
  | .gatherComplete tile ctx => Sys2Proof.Machine.execGatherComplete tile ctx s
  | .spliceExecute tile ctx => Sys2Proof.Machine.execSpliceExecute tile ctx s
  | .retouchJobAccept tile ctx => Sys2Proof.Machine.execRetouchJobAccept tile ctx s
  | .repairReport tile ctx => Sys2Proof.Machine.execRepairReport tile ctx s
  | .retouchWriteback die place => Sys2Proof.Machine.execRetouchWriteback die place s
  | .prefixBucketStep tile ctx => Sys2Proof.Machine.execPrefixBucketStep tile ctx s
  | .winnowPassAccept die => Sys2Proof.Machine.execWinnowPassAccept die s
  | .winnowPassEnd die => Sys2Proof.Machine.execWinnowPassEnd die s
  | .winnowPark die => Sys2Proof.Machine.execWinnowPark die s
  | .fsendAccept tile ctx => Sys2Proof.Machine.execFsendAccept tile ctx s
  | .frecvPost tile ctx => Sys2Proof.Machine.execFrecvPost tile ctx s
  | .timingReplay tile again => Sys2Proof.Machine.execTimingReplay tile again s
  | .replayWindowEnd tile => Sys2Proof.Machine.execReplayWindowEnd tile s
  | .redundantCompare tile ctx => Sys2Proof.Machine.execRedundantCompare tile ctx s
  | .redundantTimeout tile ctx => Sys2Proof.Machine.execRedundantTimeout tile ctx s
  | .fieldTestStart die => Sys2Proof.Machine.execFieldTestStart die s
  | .fieldTestPass cluster => Sys2Proof.Machine.execFieldTestPass cluster s
  | .fieldTestFail cluster => Sys2Proof.Machine.execFieldTestFail cluster s
  | .nop p => Sys2Proof.Machine.execNop p s
  | .br p off => Sys2Proof.Machine.execBr p off s
  | .brp p off => Sys2Proof.Machine.execBrp p off s
  | .jr p g => Sys2Proof.Machine.execJr p g s
  | .call p off => Sys2Proof.Machine.execCall p off s
  | .callr p g => Sys2Proof.Machine.execCallr p g s
  | .ret p => Sys2Proof.Machine.execRet p s
  | .loop n off => Sys2Proof.Machine.execLoop n off s
  | .endTask p => Sys2Proof.Machine.execEndTask p s
  | .endLoop p => Sys2Proof.Machine.execEndLoop p s
  | .trap p code => Sys2Proof.Machine.execTrap p code s
  | .waith p h cond => Sys2Proof.Machine.execWaith p h cond s
  | .waitb p g => Sys2Proof.Machine.execWaitb p g s
  | .add p d a b => Sys2Proof.Machine.execAdd p d a b s
  | .addi p d a imm => Sys2Proof.Machine.execAddi p d a imm s
  | .sub p d a b => Sys2Proof.Machine.execSub p d a b s
  | .mul p d a b => Sys2Proof.Machine.execMul p d a b s
  | .mulh p d a b => Sys2Proof.Machine.execMulh p d a b s
  | .mulhu p d a b => Sys2Proof.Machine.execMulhu p d a b s
  | .div p d a b => Sys2Proof.Machine.execDiv p d a b s
  | .divu p d a b => Sys2Proof.Machine.execDivu p d a b s
  | .rem p d a b => Sys2Proof.Machine.execRem p d a b s
  | .remu p d a b => Sys2Proof.Machine.execRemu p d a b s
  | .and p d a b => Sys2Proof.Machine.execAnd p d a b s
  | .or p d a b => Sys2Proof.Machine.execOr p d a b s
  | .xor p d a b => Sys2Proof.Machine.execXor p d a b s
  | .andn p d a b => Sys2Proof.Machine.execAndn p d a b s
  | .shl p d a b => Sys2Proof.Machine.execShl p d a b s
  | .shr p d a b => Sys2Proof.Machine.execShr p d a b s
  | .sar p d a b => Sys2Proof.Machine.execSar p d a b s
  | .rotr p d a b => Sys2Proof.Machine.execRotr p d a b s
  | .shlImm p d a n => Sys2Proof.Machine.execShlImm p d a n s
  | .shrImm p d a n => Sys2Proof.Machine.execShrImm p d a n s
  | .sarImm p d a n => Sys2Proof.Machine.execSarImm p d a n s
  | .rotrImm p d a n => Sys2Proof.Machine.execRotrImm p d a n s
  | .clz p d a => Sys2Proof.Machine.execClz p d a s
  | .ctz p d a => Sys2Proof.Machine.execCtz p d a s
  | .popc p d a => Sys2Proof.Machine.execPopc p d a s
  | .min p d a b => Sys2Proof.Machine.execMin p d a b s
  | .max p d a b => Sys2Proof.Machine.execMax p d a b s
  | .minu p d a b => Sys2Proof.Machine.execMinu p d a b s
  | .maxu p d a b => Sys2Proof.Machine.execMaxu p d a b s
  | .sel p d a b => Sys2Proof.Machine.execSel p d a b s
  | .mov p d a => Sys2Proof.Machine.execMov p d a s
  | .movFromA p d an => Sys2Proof.Machine.execMovFromA p d an s
  | .movToA p an a => Sys2Proof.Machine.execMovToA p an a s
  | .movFromQ p d q => Sys2Proof.Machine.execMovFromQ p d q s
  | .liw ext d imm => Sys2Proof.Machine.execLiw ext d imm s
  | .cmpEq p pd a b => Sys2Proof.Machine.execCmpEq p pd a b s
  | .cmpNe p pd a b => Sys2Proof.Machine.execCmpNe p pd a b s
  | .cmpLt p pd a b => Sys2Proof.Machine.execCmpLt p pd a b s
  | .cmpGe p pd a b => Sys2Proof.Machine.execCmpGe p pd a b s
  | .cmpLtu p pd a b => Sys2Proof.Machine.execCmpLtu p pd a b s
  | .cmpGeu p pd a b => Sys2Proof.Machine.execCmpGeu p pd a b s
  | .cmpFeq p pd a b => Sys2Proof.Machine.execCmpFeq p pd a b s
  | .cmpFlt p pd a b => Sys2Proof.Machine.execCmpFlt p pd a b s
  | .cmpFle p pd a b => Sys2Proof.Machine.execCmpFle p pd a b s
  | .cmpFun p pd a b => Sys2Proof.Machine.execCmpFun p pd a b s
  | .fadd p d a b => Sys2Proof.Machine.execFadd p d a b s
  | .fmul p d a b => Sys2Proof.Machine.execFmul p d a b s
  | .fma p d a b => Sys2Proof.Machine.execFma p d a b s
  | .fcvtToF32 p d a ty sat => Sys2Proof.Machine.execFcvtToF32 p d a ty sat s
  | .fcvtFromF32 p d a ty sat => Sys2Proof.Machine.execFcvtFromF32 p d a ty sat s
  | .minF32 p d a b => Sys2Proof.Machine.execMinF32 p d a b s
  | .maxF32 p d a b => Sys2Proof.Machine.execMaxF32 p d a b s
  | .pand p d a b => Sys2Proof.Machine.execPand p d a b s
  | .por p d a b => Sys2Proof.Machine.execPor p d a b s
  | .pxor p d a b => Sys2Proof.Machine.execPxor p d a b s
  | .pnot p d a => Sys2Proof.Machine.execPnot p d a s
  | .rdsr p d sr => Sys2Proof.Machine.execRdsr p d sr s
  | .wrsr p sr a => Sys2Proof.Machine.execWrsr p sr a s
  | .ali imm gs ad => Sys2Proof.Machine.execAli imm gs ad s
  | .aadd imm am src ad => Sys2Proof.Machine.execAadd imm am src ad s
  | .amod imm am src ad => Sys2Proof.Machine.execAmod imm am src ad s
  | .abrv imm am src ad => Sys2Proof.Machine.execAbrv imm am src ad s
  | .acir imm am src ad => Sys2Proof.Machine.execAcir imm am src ad s
  | .amset am gs => Sys2Proof.Machine.execAmset am gs s
  | .ldB p off m r => Sys2Proof.Machine.execLdB p off m r s
  | .ldH p off m r => Sys2Proof.Machine.execLdH p off m r s
  | .ldW p off m r => Sys2Proof.Machine.execLdW p off m r s
  | .ldD p off m r => Sys2Proof.Machine.execLdD p off m r s
  | .stB p off m r => Sys2Proof.Machine.execStB p off m r s
  | .stH p off m r => Sys2Proof.Machine.execStH p off m r s
  | .stW p off m r => Sys2Proof.Machine.execStW p off m r s
  | .stD p off m r => Sys2Proof.Machine.execStD p off m r s
  | .vld256 p off m r => Sys2Proof.Machine.execVld256 p off m r s
  | .vld512 p off m r => Sys2Proof.Machine.execVld512 p off m r s
  | .vld1024 p off m r => Sys2Proof.Machine.execVld1024 p off m r s
  | .vst256 p off m r => Sys2Proof.Machine.execVst256 p off m r s
  | .vst512 p off m r => Sys2Proof.Machine.execVst512 p off m r s
  | .vst1024 p off m r => Sys2Proof.Machine.execVst1024 p off m r s
  | .ldsB p off r => Sys2Proof.Machine.execLdsB p off r s
  | .ldsH p off r => Sys2Proof.Machine.execLdsH p off r s
  | .ldsW p off r => Sys2Proof.Machine.execLdsW p off r s
  | .ldsD p off r => Sys2Proof.Machine.execLdsD p off r s
  | .stsB p off r => Sys2Proof.Machine.execStsB p off r s
  | .stsH p off r => Sys2Proof.Machine.execStsH p off r s
  | .stsW p off r => Sys2Proof.Machine.execStsW p off r s
  | .stsD p off r => Sys2Proof.Machine.execStsD p off r s
  | .ldxD p off m q => Sys2Proof.Machine.execLdxD p off m q s
  | .ldxV256 p off m q => Sys2Proof.Machine.execLdxV256 p off m q s
  | .ldxV512 p off m q => Sys2Proof.Machine.execLdxV512 p off m q s
  | .ldxV1024 p off m q => Sys2Proof.Machine.execLdxV1024 p off m q s
  | .stxD p off m r => Sys2Proof.Machine.execStxD p off m r s
  | .stxV256 p off m r => Sys2Proof.Machine.execStxV256 p off m r s
  | .stxV512 p off m r => Sys2Proof.Machine.execStxV512 p off m r s
  | .stxV1024 p off m r => Sys2Proof.Machine.execStxV1024 p off m r s
  | .atmAddW p off m r => Sys2Proof.Machine.execAtmAddW p off m r s
  | .atmAndW p off m r => Sys2Proof.Machine.execAtmAndW p off m r s
  | .atmOrW p off m r => Sys2Proof.Machine.execAtmOrW p off m r s
  | .atmXorW p off m r => Sys2Proof.Machine.execAtmXorW p off m r s
  | .atmSwpW p off m r => Sys2Proof.Machine.execAtmSwpW p off m r s
  | .atmCasW p off m r => Sys2Proof.Machine.execAtmCasW p off m r s
  | .atmMinW p off m r => Sys2Proof.Machine.execAtmMinW p off m r s
  | .atmMaxW p off m r => Sys2Proof.Machine.execAtmMaxW p off m r s
  | .atmAdd p off m r => Sys2Proof.Machine.execAtmAdd p off m r s
  | .atmAnd p off m r => Sys2Proof.Machine.execAtmAnd p off m r s
  | .atmOr p off m r => Sys2Proof.Machine.execAtmOr p off m r s
  | .atmXor p off m r => Sys2Proof.Machine.execAtmXor p off m r s
  | .atmSwp p off m r => Sys2Proof.Machine.execAtmSwp p off m r s
  | .atmCas p off m r => Sys2Proof.Machine.execAtmCas p off m r s
  | .atmMin p off m r => Sys2Proof.Machine.execAtmMin p off m r s
  | .atmMax p off m r => Sys2Proof.Machine.execAtmMax p off m r s
  | .atmFmaxF32 p off m r => Sys2Proof.Machine.execAtmFmaxF32 p off m r s
  | .atmFmaxBf16 p off m r => Sys2Proof.Machine.execAtmFmaxBf16 p off m r s
  | .atmFmaxF16 p off m r => Sys2Proof.Machine.execAtmFmaxF16 p off m r s
  | .atmDec p off m r => Sys2Proof.Machine.execAtmDec p off m r s
  | .vadd p vb va vd ty wid => Sys2Proof.Machine.execVadd p vb va vd ty wid s
  | .vsub p vb va vd ty wid => Sys2Proof.Machine.execVsub p vb va vd ty wid s
  | .vmul p vb va vd ty wid => Sys2Proof.Machine.execVmul p vb va vd ty wid s
  | .vfma p vb va vd ty wid => Sys2Proof.Machine.execVfma p vb va vd ty wid s
  | .vfms p vb va vd ty wid => Sys2Proof.Machine.execVfms p vb va vd ty wid s
  | .vmin p vb va vd ty wid => Sys2Proof.Machine.execVmin p vb va vd ty wid s
  | .vmax p vb va vd ty wid => Sys2Proof.Machine.execVmax p vb va vd ty wid s
  | .vabs p va vd ty wid => Sys2Proof.Machine.execVabs p va vd ty wid s
  | .vneg p va vd ty wid => Sys2Proof.Machine.execVneg p va vd ty wid s
  | .vcmp p vb va cc pd ty wid => Sys2Proof.Machine.execVcmp p vb va cc pd ty wid s
  | .vsel p vb va vd ty wid => Sys2Proof.Machine.execVsel p vb va vd ty wid s
  | .viadd p vb va vd ty wid => Sys2Proof.Machine.execViadd p vb va vd ty wid s
  | .visub p vb va vd ty wid => Sys2Proof.Machine.execVisub p vb va vd ty wid s
  | .vimul p vb va vd ty wid => Sys2Proof.Machine.execVimul p vb va vd ty wid s
  | .vimac p vb va vd ty wid => Sys2Proof.Machine.execVimac p vb va vd ty wid s
  | .vsat p va vd ty wid => Sys2Proof.Machine.execVsat p va vd ty wid s
  | .vshl p vb va vd ty wid => Sys2Proof.Machine.execVshl p vb va vd ty wid s
  | .vshr p vb va vd ty wid => Sys2Proof.Machine.execVshr p vb va vd ty wid s
  | .vsar p vb va vd ty wid => Sys2Proof.Machine.execVsar p vb va vd ty wid s
  | .vand p vb va vd ty wid => Sys2Proof.Machine.execVand p vb va vd ty wid s
  | .vor p vb va vd ty wid => Sys2Proof.Machine.execVor p vb va vd ty wid s
  | .vxor p vb va vd ty wid => Sys2Proof.Machine.execVxor p vb va vd ty wid s
  | .vnot p va vd ty wid => Sys2Proof.Machine.execVnot p va vd ty wid s
  | .vcvt p sat src va vd ty wid => Sys2Proof.Machine.execVcvt p sat src va vd ty wid s
  | .vqnt p sat va vd ty wid => Sys2Proof.Machine.execVqnt p sat va vd ty wid s
  | .vdqnt p va vd ty wid => Sys2Proof.Machine.execVdqnt p va vd ty wid s
  | .vimg p inv va vd ty wid => Sys2Proof.Machine.execVimg p inv va vd ty wid s
  | .vlse p vb va vd ty wid => Sys2Proof.Machine.execVlse p vb va vd ty wid s
  | .vrope p vb va vd ty wid => Sys2Proof.Machine.execVrope p vb va vd ty wid s
  | .vnanp p pd => Sys2Proof.Machine.execVnanp p pd s
  | .vrsum p va vd ty wid => Sys2Proof.Machine.execVrsum p va vd ty wid s
  | .vrmax p va vd ty wid => Sys2Proof.Machine.execVrmax p va vd ty wid s
  | .vrmin p va vd ty wid => Sys2Proof.Machine.execVrmin p va vd ty wid s
  | .vbcst p g vd ty wid => Sys2Proof.Machine.execVbcst p g vd ty wid s
  | .vmov p va vd ty wid => Sys2Proof.Machine.execVmov p va vd ty wid s
  | .vexp2 p va vd ty wid => Sys2Proof.Machine.execVexp2 p va vd ty wid s
  | .vlog2 p va vd ty wid => Sys2Proof.Machine.execVlog2 p va vd ty wid s
  | .vrcp p va vd ty wid => Sys2Proof.Machine.execVrcp p va vd ty wid s
  | .vrsq p va vd ty wid => Sys2Proof.Machine.execVrsq p va vd ty wid s
  | .vsqrt p va vd ty wid => Sys2Proof.Machine.execVsqrt p va vd ty wid s
  | .vsin p va vd ty wid => Sys2Proof.Machine.execVsin p va vd ty wid s
  | .vcos p va vd ty wid => Sys2Proof.Machine.execVcos p va vd ty wid s
  | .vtanh p va vd ty wid => Sys2Proof.Machine.execVtanh p va vd ty wid s
  | .vperm p vb va vd ty wid => Sys2Proof.Machine.execVperm p vb va vd ty wid s
  | .vtrn p va vd ty wid => Sys2Proof.Machine.execVtrn p va vd ty wid s
  | .vshuf p vb va vd ty wid => Sys2Proof.Machine.execVshuf p vb va vd ty wid s
  | .vzip p vb va vd ty wid => Sys2Proof.Machine.execVzip p vb va vd ty wid s
  | .vaddStream p q va vd ty wid => Sys2Proof.Machine.execVaddStream p q va vd ty wid s
  | .vsubStream p q va vd ty wid => Sys2Proof.Machine.execVsubStream p q va vd ty wid s
  | .vmulStream p q va vd ty wid => Sys2Proof.Machine.execVmulStream p q va vd ty wid s
  | .vfmaStream p q va vd ty wid => Sys2Proof.Machine.execVfmaStream p q va vd ty wid s
  | .vfmsStream p q va vd ty wid => Sys2Proof.Machine.execVfmsStream p q va vd ty wid s
  | .vminStream p q va vd ty wid => Sys2Proof.Machine.execVminStream p q va vd ty wid s
  | .vmaxStream p q va vd ty wid => Sys2Proof.Machine.execVmaxStream p q va vd ty wid s
  | .vabsStream p q vd ty wid => Sys2Proof.Machine.execVabsStream p q vd ty wid s
  | .vnegStream p q vd ty wid => Sys2Proof.Machine.execVnegStream p q vd ty wid s
  | .vcmpStream p q va cc pd ty wid => Sys2Proof.Machine.execVcmpStream p q va cc pd ty wid s
  | .vselStream p q va vd ty wid => Sys2Proof.Machine.execVselStream p q va vd ty wid s
  | .viaddStream p q va vd ty wid => Sys2Proof.Machine.execViaddStream p q va vd ty wid s
  | .visubStream p q va vd ty wid => Sys2Proof.Machine.execVisubStream p q va vd ty wid s
  | .vimulStream p q va vd ty wid => Sys2Proof.Machine.execVimulStream p q va vd ty wid s
  | .vimacStream p q va vd ty wid => Sys2Proof.Machine.execVimacStream p q va vd ty wid s
  | .vsatStream p q vd ty wid => Sys2Proof.Machine.execVsatStream p q vd ty wid s
  | .vshlStream p q va vd ty wid => Sys2Proof.Machine.execVshlStream p q va vd ty wid s
  | .vshrStream p q va vd ty wid => Sys2Proof.Machine.execVshrStream p q va vd ty wid s
  | .vsarStream p q va vd ty wid => Sys2Proof.Machine.execVsarStream p q va vd ty wid s
  | .vandStream p q va vd ty wid => Sys2Proof.Machine.execVandStream p q va vd ty wid s
  | .vorStream p q va vd ty wid => Sys2Proof.Machine.execVorStream p q va vd ty wid s
  | .vxorStream p q va vd ty wid => Sys2Proof.Machine.execVxorStream p q va vd ty wid s
  | .vnotStream p q vd ty wid => Sys2Proof.Machine.execVnotStream p q vd ty wid s
  | .vcvtStream p sat src q vd ty wid => Sys2Proof.Machine.execVcvtStream p sat src q vd ty wid s
  | .vqntStream p sat q vd ty wid => Sys2Proof.Machine.execVqntStream p sat q vd ty wid s
  | .vdqntStream p q vd ty wid => Sys2Proof.Machine.execVdqntStream p q vd ty wid s
  | .vimgStream p inv q vd ty wid => Sys2Proof.Machine.execVimgStream p inv q vd ty wid s
  | .vlseStream p q va vd ty wid => Sys2Proof.Machine.execVlseStream p q va vd ty wid s
  | .vropeStream p q va vd ty wid => Sys2Proof.Machine.execVropeStream p q va vd ty wid s
  | .vrsumStream p q vd ty wid => Sys2Proof.Machine.execVrsumStream p q vd ty wid s
  | .vrmaxStream p q vd ty wid => Sys2Proof.Machine.execVrmaxStream p q vd ty wid s
  | .vrminStream p q vd ty wid => Sys2Proof.Machine.execVrminStream p q vd ty wid s
  | .vmovStream p q vd ty wid => Sys2Proof.Machine.execVmovStream p q vd ty wid s
  | .vexp2Stream p q vd ty wid => Sys2Proof.Machine.execVexp2Stream p q vd ty wid s
  | .vlog2Stream p q vd ty wid => Sys2Proof.Machine.execVlog2Stream p q vd ty wid s
  | .vrcpStream p q vd ty wid => Sys2Proof.Machine.execVrcpStream p q vd ty wid s
  | .vrsqStream p q vd ty wid => Sys2Proof.Machine.execVrsqStream p q vd ty wid s
  | .vsqrtStream p q vd ty wid => Sys2Proof.Machine.execVsqrtStream p q vd ty wid s
  | .vsinStream p q vd ty wid => Sys2Proof.Machine.execVsinStream p q vd ty wid s
  | .vcosStream p q vd ty wid => Sys2Proof.Machine.execVcosStream p q vd ty wid s
  | .vtanhStream p q vd ty wid => Sys2Proof.Machine.execVtanhStream p q vd ty wid s
  | .vpermStream p q va vd ty wid => Sys2Proof.Machine.execVpermStream p q va vd ty wid s
  | .vtrnStream p q vd ty wid => Sys2Proof.Machine.execVtrnStream p q vd ty wid s
  | .vshufStream p q va vd ty wid => Sys2Proof.Machine.execVshufStream p q va vd ty wid s
  | .vzipStream p q va vd ty wid => Sys2Proof.Machine.execVzipStream p q va vd ty wid s
  | .mcfg imm => Sys2Proof.Machine.execMcfg imm s
  | .mldw => Sys2Proof.Machine.execMldw s
  | .mswap => Sys2Proof.Machine.execMswap s
  | .mpush acc bank row h => Sys2Proof.Machine.execMpush acc bank row h s
  | .macw acc bank row h => Sys2Proof.Machine.execMacw acc bank row h s
  | .mshiftZero h => Sys2Proof.Machine.execMshiftZero h s
  | .mshiftBack h => Sys2Proof.Machine.execMshiftBack h s
  | .mshiftFwd h => Sys2Proof.Machine.execMshiftFwd h s
  | .mdrain bank row n1 => Sys2Proof.Machine.execMdrain bank row n1 s
  | .mzero bank row n1 => Sys2Proof.Machine.execMzero bank row n1 s
  | .sqset reg g => Sys2Proof.Machine.execSqset reg g s
  | .sqgo slot => Sys2Proof.Machine.execSqgo slot s
  | .sqbind q g => Sys2Proof.Machine.execSqbind q g s
  | .accpy bank g => Sys2Proof.Machine.execAccpy bank g s
  | .halloc h g => Sys2Proof.Machine.execHalloc h g s
  | .hfree h => Sys2Proof.Machine.execHfree h s
  | .hopen h => Sys2Proof.Machine.execHopen h s
  | .hpub h g => Sys2Proof.Machine.execHpub h g s
  | .hrel h g => Sys2Proof.Machine.execHrel h g s
  | .hset h g => Sys2Proof.Machine.execHset h g s
  | .binit gv ga => Sys2Proof.Machine.execBinit gv ga s
  | .binitRel g => Sys2Proof.Machine.execBinitRel g s
  | .barr g => Sys2Proof.Machine.execBarr g s
  | .drn => Sys2Proof.Machine.execDrn s
  | .fork pd g => Sys2Proof.Machine.execFork pd g s
  | .join gr gb => Sys2Proof.Machine.execJoin gr gb s
  | .enq queue g => Sys2Proof.Machine.execEnq queue g s
  | .nibset g => Sys2Proof.Machine.execNibset g s
  | .nibsetSt g => Sys2Proof.Machine.execNibsetSt g s
  | .cbld h g => Sys2Proof.Machine.execCbld h g s
  | .trdef h slot => Sys2Proof.Machine.execTrdef h slot s
  | .trenc h g => Sys2Proof.Machine.execTrenc h g s
  | .twupd h g => Sys2Proof.Machine.execTwupd h g s
  | .xld gb g => Sys2Proof.Machine.execXld gb g s
  | .xinv gb g => Sys2Proof.Machine.execXinv gb g s
  | .kvg h g => Sys2Proof.Machine.execKvg h g s
  | .splc h g => Sys2Proof.Machine.execSplc h g s
  | .rprset g => Sys2Proof.Machine.execRprset g s
  | .rpr h g => Sys2Proof.Machine.execRpr h g s
  | .rprRep gx ga => Sys2Proof.Machine.execRprRep gx ga s
  | .pxlk gb g => Sys2Proof.Machine.execPxlk gb g s
  | .pxin gb g => Sys2Proof.Machine.execPxin gb g s
  | .pxinRm gb g => Sys2Proof.Machine.execPxinRm gb g s
  | .wnsel h g => Sys2Proof.Machine.execWnsel h g s
  | .fsend h g => Sys2Proof.Machine.execFsend h g s
  | .frecvHandle h g => Sys2Proof.Machine.execFrecvHandle h g s
  | .frecvStream q g => Sys2Proof.Machine.execFrecvStream q g s
  | .sysc n => Sys2Proof.Machine.execSysc n s
  | .eret => Sys2Proof.Machine.execEret s
  | .tlbi g => Sys2Proof.Machine.execTlbi g s
  | .wfe => Sys2Proof.Machine.execWfe s
  | .sahethLinkPortTraining port peer => Sys2Proof.Machine.execSahethLinkPortTraining port peer s
  | .pageWalkComplete die walk => Sys2Proof.Machine.execPageWalkComplete die walk s

end Sys2Proof.Machine
end

