-- ==== Sys2Proof/Machine/Run.lean ====
section
/-! DEFINITION. Running the bundle that a thread issues: fetch, decode, the issue checks of every slot, then the commit of all (R128, R260);
and how an instruction comes to be the next to issue. -/

namespace Sys2Proof.Machine

/-- The state with slot k of the bundle in hand. -/
def State.atSlot (s : State) (k : Nat) (checked : Bool) : State :=
  { s with cur := { s.cur with slot := k, checked := checked, verdict := .none } }

/-- What the slots' own checks come to, or a stop of the machine (R260). -/
def verdicts (s : State) : List (Nat × Instr) → Host.Outcome (List (Nat × Verdict)) Fault Refusal
  | [] => .next []
  | (k, i) :: t =>
    match exec i (s.atSlot k false) with
    | .next s' =>
      (match verdicts s t with
      | .next l => .next ((k, s'.cur.verdict) :: l)
      | .fault r => .fault r
      | .refused r => .refused r)
    | .fault r => .fault r
    | .refused r => .refused r

/-- The operation loads, or reads a record as a load does. -/
def isLoad : Instr → Bool
  | .ldB _ _ _ _ => true
  | .ldH _ _ _ _ => true
  | .ldW _ _ _ _ => true
  | .ldD _ _ _ _ => true
  | .vld256 _ _ _ _ => true
  | .vld512 _ _ _ _ => true
  | .vld1024 _ _ _ _ => true
  | .ldsB _ _ _ => true
  | .ldsH _ _ _ => true
  | .ldsW _ _ _ => true
  | .ldsD _ _ _ => true
  | _ => false

/-- VNANP, which sees the pops of its own bundle (R410). -/
def isNanp : Instr → Bool
  | .vnanp _ _ => true
  | _ => false

/-- The operation gives a handle its regions or takes them: the stores of its bundle go by the table as it stood at the issue checks (R140). -/
def isAllot : Instr → Bool
  | .halloc _ _ => true
  | .hfree _ => true
  | .hset _ _ => true
  | _ => false

/-- When a slot acts within its bundle: vector and scalar readers, loads, VNANP, AG, MX, EN, then stores (R128), then HALLOC, HFREE and HSET, then
CT, then the control profile's SYSC, ERET, TLBI and WFE. -/
def phase (k : Nat) (i : Instr) : Nat :=
  if isSystem i then 9
  else if k = 0 then 8
  else if isAllot i then 7
  else if k = 4 ∨ k = 5 then (if isLoad i then 1 else 6)
  else if isNanp i then 2
  else if k = 3 then 3
  else if k = 10 then 4
  else if k = 11 then 5
  else 0

/-- The slots in the order in which they act. -/
def inOrder (l : List (Nat × Instr)) : List (Nat × Instr) :=
  (List.range 10).flatMap (fun n => l.filter (fun o => decide (phase o.1 o.2 = n)))

/-- Commit every slot (R260). -/
def commitAll (s : State) : List (Nat × Instr) → Result
  | [] => .next s
  | (k, i) :: t =>
    match exec i (s.atSlot k true) with
    | .next s' => commitAll s' t
    | .fault r => .fault r
    | .refused r => .refused r

/-- The first hold among some verdicts. -/
def firstHold : List (Nat × Verdict) → Option Hold
  | [] => none
  | (_, .held h) :: _ => some h
  | _ :: t => firstHold t

/-- The faults of the issue stage (R260). -/
def issueFault (l : List (Nat × Verdict)) : Option BFault :=
  combine (l.map (fun v => (v.1, match v.2 with | .fault c a => some (c, a) | .mark q c a => some (c, faddrOf q c a) | _ => none)))

/-- The unit takes a bundle's fault. -/
def State.takeFault (s : State) (u : UnitId) (pc : Nat) (f : BFault) : State :=
  s.takeException u { cause := f.cause, slots := f.slots, faddr := f.faddr, pc := pc, engine := none, through := s.throughAt u pc }

/-- A named stream that holds no element, so that the bundle waits (R135); nothing ever feeds q6 and q7 of a control core (log entry 64). -/
def emptyStream (s : State) (u : UnitId) (ops : List (Nat × Instr)) : Option Nat :=
  match u with
  | .core _ => (ops.filterMap (fun o => streamOf o.2)).head?
  | .ctx t c => (ops.filterMap (fun o => streamOf o.2)).find? (fun q => ((s.ctx t c).stream q).elems.isEmpty)

/-- The unit waits; what its comparator has agreed stands (R279). -/
def State.waitUnit (s : State) (u : UnitId) (h : Hold) : State :=
  let was := (s.thread u).hold
  let s := s.holdUnit u h
  if was = .agreed then s.modThread u (fun x => { x with hold := .agreed }) else s

/-- The accumulator banks that a chain's MX slot and ACCPY name (R337). -/
def banksOf (ops : List (Nat × Option Instr)) : List Nat := ops.filterMap (fun o => o.2.bind bankOf)

/-- The context that issued first in this cycle leaves the other no slot for these slots and banks (R91, R92, R337). -/
def State.blocked (s : State) (u : UnitId) (slots : Nat) (banks : List Nat) : Bool :=
  match s.cur.u, u with
  | .ctx t c, .ctx t' c' =>
    s.cur.finished && decide (t = t' ∧ c ≠ c') &&
      (s.cur.solo || decide (s.cur.slots &&& slots ≠ 0) || banks.any (fun b => decide (b ∈ s.cur.banks)))
  | _, _ => false

/-- A merge loss: the non-lead's are counted (R92). -/
def State.mergeLoss (s : State) (u : UnitId) : State :=
  match u with
  | .ctx t c => if c = s.cur.lead then s else s.modTile t (fun x => { x with skip := x.skip + 1 })
  | .core _ => s

/-- The non-lead has issued (R92). -/
def State.issued (s : State) (u : UnitId) : State :=
  match u with
  | .ctx t c => if c = s.cur.lead then s else s.modTile t (fun x => { x with skip := 0 })
  | .core _ => s

/-- A bundle of this unit that issues in this cycle belongs to the flagged cycle of a tile that a replay has exhausted (R277). -/
def State.exhausted (s : State) (u : UnitId) : Bool :=
  match u with
  | .ctx t _ => decide ((s.tile t).exhausts = 2)
  | .core _ => false

/-- What follows a committed bundle: the queues that can move, and the end of the task (R346, R378). -/
def State.settled (s : State) (u : UnitId) : State :=
  match u with
  | .ctx t c => (((s.issued u).hqTurn t c).kvFlush t c).taskEnd t c
  | .core _ => s

/-- The data that a commit point reads at issue beside its registers: a task record or a command block (R384, R456, R458, R460). -/
def State.commitData (s : State) (i : Instr) : Nat :=
  match i with
  | .fork _ g => s.recordBytes (s.g g)
  | .join g _ => s.recordBytes (s.g g)
  | .kvg _ g => (s.cmdBlock g 32).2
  | .fsend _ g => (s.cmdBlock g 32).2
  | .frecvHandle _ g => (s.cmdBlock g 32).2
  | .frecvStream _ g => (s.cmdBlock g 32).2
  | .pxlk _ g => (s.cmdBlock g 64).2
  | .pxin _ g => (s.cmdBlock g 64).2
  | .pxinRm _ g => (s.cmdBlock g 64).2
  | _ => 0

/-- What a redundant context shows the comparator: the EQ of its first commit point, then the scope, and of every commit point its slot, opcode with the
operands encoded in it, the registers it reads and its data (R279); none for a bundle without one. -/
def commitView (s : State) (u : UnitId) (ops : List (Nat × Instr)) : Option (Nat × List Nat) :=
  match ops.filter (fun o => isCommit s.cur.scope o.1 o.2) with
  | [] => none
  | o :: l =>
    some (eqOf o.1 o.2, s.cur.scope :: (o :: l).flatMap (fun x =>
      x.1 :: encode x.2 ++ (readsOf s.cur.scope x.2).map (s.resVal u) ++ [s.commitData x.2]))

/-- The pair has agreed on a commit point that the copy which counts has still to commit: the second one's turn comes after (R279). -/
def State.twinFirst (s : State) (t c : Nat) : Bool :=
  match s.twinOf t c with
  | some v => s.second t c && decide ((s.ctx v.1 v.2).x.hold = .agreed)
  | none => false

/-- The unit has been agreed with, and the copy that counts has still to commit: its turn is not yet come (R279). -/
def State.turnWaits (s : State) (u : UnitId) : Bool :=
  match u with
  | .ctx t c => s.twinFirst t c && decide ((s.ctx t c).x.hold = .agreed)
  | .core _ => false

/-- The comparator that holds the unit before it commits (R279). -/
def compareHold (s : State) (u : UnitId) (ops : List (Nat × Instr)) : Option Hold :=
  match u with
  | .core _ => none
  | .ctx t c =>
    if (s.twinOf t c).isNone then none
    else if (s.ctx t c).x.hold = .agreed then (if s.twinFirst t c then some .agreed else none)
    else (commitView s u ops).map (fun v => Hold.twin v.1 v.2)

/-- The state that the unit's next bundle sees: what lands at its context cycle has landed (R120). A bundle that does not commit leaves those
results pending, one context cycle away (R497). -/
def State.seen (s : State) (u : UnitId) : State := s.land u ((s.thread u).ccycle + 1)

/-- What a slot's verdict leaves where its bundle faults with cause c: a poison mark is gone (R364), an uncorrectable line that the slot met is recorded
(R31). -/
def State.slotEnds (s : State) (u : UnitId) (c : Cause) (v : Verdict) : State :=
  match v with
  | .mark q _ _ => s.dropMark u q
  | .fault d a => if d = c then s.unitMet u c a.toNat else s
  | _ => s

/-- Run decoded slots as the bundle in hand: hold, merge loss, fault, comparison, an exhausting replay or commit (R91, R135, R260,
R277, R279). -/
def runSlots (s : State) (ops : List (Nat × Instr)) (blocked : Bool) : Result :=
  let u := s.cur.u
  let r := s.seen u
  match emptyStream r u ops with
  | some q => .next (s.waitUnit u (.stream q))
  | none =>
    match verdicts r ops with
    | .fault r => .fault r
    | .refused r => .refused r
    | .next vs =>
      match firstHold vs with
      | some h => .next (s.waitUnit u h)
      | none =>
        if r.turnWaits u then .next s
        else if blocked then .next (s.mergeLoss u) else
        match issueFault vs with
        | some f =>
          .next ((vs.foldl (fun s v => s.slotEnds u f.cause v.2) s).takeFault u s.cur.pc f)
        | none =>
          match compareHold r u ops with
          | some h => .next (s.holdUnit u h)
          | none =>
            if s.exhausted u then .next (s.takeFault u s.cur.pc { cause := 0x70#7, slots := 0, faddr := 0 }) else
            match commitAll r (inOrder ops) with
            | .next s' => .next (s'.finish.settled u)
            | .fault r => .fault r
            | .refused r => .refused r

/-- The bundle in hand for a chain of unit u at pc. -/
noncomputable def State.take (s : State) (u : UnitId) (pc : Nat) (c : Chain) : State :=
  { s with cur := { u := u, pc := pc, next := pc + c.len, scope := c.scope, slot := 0, checked := false, verdict := .none, jump := none,
                    pops := [], stall := c.stall, finished := false, slots := c.present, banks := banksOf (chainOps c), opened := none,
                    solo := s.cur.solo, lead := s.cur.lead } }

/-- Issue the next chain of a unit: fetch, decode, issue (R260). -/
noncomputable def runUnit (s : State) (u : UnitId) : Result :=
  let pc := (s.thread u).pc
  match s.chainAt u pc with
  | .wait => .next (s.waitUnit u .fetch)
  | .fault c a => .next ((s.unitMet u c a).takeFault u pc { cause := c, slots := 0, faddr := BitVec.ofNat 64 a })
  | .chain c =>
    let ops := chainOps c
    let b := s.blocked u c.present (banksOf ops)
    match decodeFault (s.seen u) u pc c ops with
    | some f => .next (if b then s.mergeLoss u else s.takeFault u pc f)
    | none => runSlots (s.take u pc c) (ops.filterMap (fun o => o.2.map (fun i => (o.1, i)))) b

/-! ## Placing an instruction where the next step fetches -/

/-- The slot whose field has nbits bits, as decodeTableWord reads it. -/
noncomputable def tableSlot (nbits w : Nat) : Nat :=
  if nbits ≤ 24 then
    (if (decodeSlot 0 w 0).isSome then 0 else if (decodeSlot 3 w 0).isSome then 3 else if (decodeSlot 10 w 0).isSome then 10 else 11)
  else if nbits ≤ 32 then (if (decodeSlot 1 w 0).isSome then 1 else 4)
  else 9

/-- The units of the one-slot literal that holds word w in slot k, SCOPE package, STALL 0 (R313, R316). -/
def literalUnits (k w : Nat) : List Nat :=
  let h := 0x61000 + 2 ^ k
  let n := (slotWidth k + 15) / 16
  0xFFFF :: (h % 65536) :: (h / 65536) :: (List.range n).map (fun i => w / 65536 ^ i % 65536)

/-- The task that withFetchWord gives context 0 of tile 0: a loaded kernel with ARRAY (log entry 15). -/
def placedTask : Task :=
  { tenant := 0, gid := 0, node := 0, x := 0, y := 0, z := 0, bprio := 0, seq := 0, array := true, redundant := false, twin := none,
    entry := none, zeroOk := true, loaded := true, kernel := { va := 0, code := 0, codelen := 0xFFFFFFFF, entry := 0, dict := 0, dictn := 0 } }

/-- A code stream as fetched units from offset n up. -/
def unitsFrom : Nat → List Nat → SMap (BitVec 16)
  | _, [] => []
  | n, u :: t => (n, BitVec.ofNat 16 u) :: unitsFrom (n + 1) t

/-- Tile 0 bound to tenant 0, context 0 running the placed task with these units fetched at its pc, its streams bound for the operation's
decode, and chosen to issue next. -/
def State.placeUnits (s : State) (l : List Nat) : State :=
  let s := s.modTile 0 (fun t =>
    let y := t.c0
    let x := { y.x with units := unitsFrom y.x.pc l }
    { t with tenant := some 0, c0 := { y with x := x, task := some placedTask } })
  { s with toIssue := [.ctx 0 0], cur := Cur.init }

end Sys2Proof.Machine
end

