-- ==== Sys2Proof/Machine/Schedule.lean ====
section
/-! DEFINITION. The device steps that the package takes of its own accord in a cycle, put on the schedule in a fixed order; one that is not enabled
changes nothing. What arrives from outside, and what only time or chance brings, comes to the schedule from outside (log entry 20). -/

namespace Sys2Proof.Machine

/-- The steps of boot, of the security processor and of the tables. -/
noncomputable def deviceSteps : List Instr :=
  [.stage1Verify, .stage2Verify, .devcmdStart, .devcmdDrain, .devcmdResume, .capEffective, .tenantTableReload, .windowDeregisterComplete]

/-- The steps of a control core. -/
noncomputable def coreSteps (k : Nat) : List Instr :=
  [.ccCompare k, .interruptTaken k, .enqAcceptance k, .codeFetch (.core k), .resultLanding (.core k), .bundleIssue (.core k)]

/-- The steps of one context. -/
noncomputable def ctxSteps (t c : Nat) : List Instr :=
  [.kernelDescriptorLoad t c, .codeFetch (.ctx t c), .resultLanding (.ctx t c), .hopenExecute t c, .hpubExecute t c, .hrelExecute t c,
   .copyAdmission t c, .copyAccept t c, .xldExecute t c, .xinvStep t c, .xinvComplete t c, .gatherAccept t c, .gatherBlock t c] ++
  [.gatherComplete t c, .spliceExecute t c, .retouchJobAccept t c, .repairReport t c, .prefixBucketStep t c, .fsendAccept t c, .frecvPost t c,
   .joinDecrement t c, .redundantCompare t c]

/-- The remote accesses of one context, those of its saved tasks among them. -/
noncomputable def State.accessSteps (s : State) (t c : Nat) : List Instr :=
  (List.range ((s.ctx t c).remote.length + (s.savedAccesses t c).length)).map (fun i => Instr.remoteAccessPerform t c i) ++ (List.range 8).map (fun q => Instr.ldxReturn t c q)

/-- The steps of one tile. -/
noncomputable def State.tileSteps (s : State) (t : Nat) (x : Tile) : List Instr :=
  [.matrixCommandStart t, .nibBeat t, .arrayBeat t, .drainRowPush t, .cbldBuild t, .trdefExecute t] ++ ctxSteps t 0 ++
    ctxSteps t 1 ++ s.accessSteps t 0 ++ s.accessSteps t 1 ++
    (List.range 8).flatMap (fun k => [Instr.copyPark t k, .copyComplete t k]) ++
    (List.range (min 32 x.freeing.length)).map (fun k => Instr.hfreeComplete t k) ++ [.tileCut t, .tileRestore t, .bundleIssue (.tile t)]

/-- The steps of one die. -/
noncomputable def dieSteps (d : Nat) (x : Die) : List Instr :=
  [.winnowPassAccept d, .winnowPark d, .winnowPassEnd d] ++ x.retouch.map (fun e => Instr.retouchWriteback d e.1) ++
    (List.range x.walks.length).map (fun n => Instr.pageWalkComplete d n)

/-- The steps of one graph. -/
noncomputable def graphSteps (g : Graph) : List Instr :=
  (List.range g.nodes.length).map (fun n => Instr.nodeDone g.gid n) ++ [.graphComplete g.gid, .graphKillComplete g.gid]

/-- What the count of cycles brings: Weathervane's pages every 1024 cycles (R68), ages with every 2^20 cycles that a head has waited (R83), replay windows every 2^24 (R276). -/
noncomputable def timedSteps (s : State) (n : Nat) : List Instr :=
  (if n % 2 ^ 10 = 0 then (List.range 14).map (fun p => Instr.weathervaneUpdate p) else []) ++
    (s.ready.filter (fun e => decide (mget 0 s.waitFrom e.1 < n) && decide ((n - mget 0 s.waitFrom e.1) % 2 ^ 20 = 0))).map
      (fun e => Instr.agePeriod (e.1 / 16) (e.1 % 16)) ++
    (if n % 2 ^ 24 = 0 then s.tiles.map (fun e => Instr.replayWindowEnd e.1) else [])

/-- The steps due in cycle n: what time brings, the rounds, which see nothing that the cycle changes (R84), and the rest; the thieves ask and
victims answer before any owner issues, and again once every owner has issued (R102). -/
noncomputable def State.dueSteps (s : State) (n : Nat) : List Instr :=
  timedSteps s n ++ (List.range Config.dies).map Instr.selectionRound ++ deviceSteps ++ s.cores.flatMap (fun e => coreSteps e.1) ++ s.graphs.flatMap graphSteps ++
    (List.range Config.dies).flatMap (fun d => dieSteps d (s.die d)) ++
    (s.tiles.map (fun e => clusterOf e.1)).eraseDups.flatMap (fun n => [Instr.brushUnitAccept n, .brushUnitComplete n]) ++
    s.tiles.flatMap (fun e => [Instr.stealRequest e.1 0, .stealRequest e.1 1]) ++ s.tiles.map (fun e => Instr.stealAnswer e.1) ++
    s.tiles.flatMap (fun e => s.tileSteps e.1 e.2) ++ s.tiles.map (fun e => Instr.stealAnswer e.1)

/-- A G3 cause is recorded (R9, R43, R292). -/
def recordsG3 : Instr → Bool
  | .powerFault _ => true
  | .thermalTrip _ => true
  | .machineCheck e => decide (e = .state)
  | _ => false

/-- A state command is applied (R22). -/
def stateCommand : Instr → Bool
  | .devcmdStart => true
  | .devcmdDrain => true
  | .devcmdResume => true
  | .mgmtDrain _ => true
  | .mgmtResume _ => true
  | _ => false

/-- The next step of the schedule and those left: the oldest, but that a G3 cause which arrives in the cycle of a state command applies first
(R22). -/
def nextStep : List Instr → Option (Instr × List Instr)
  | [] => none
  | i :: rest =>
    match (if stateCommand i then rest.find? recordsG3 else none) with
    | some g => some (g, i :: rest.erase g)
    | none => some (i, rest)

/-- A device that is held in reset answers nothing: only its supply rails matter (R10). -/
def State.ignores (s : State) : Instr → Bool
  | .powerFault _ => false
  | _ => s.held

/-- A new cycle: its steps go on the schedule (R7). -/
noncomputable def State.nextCycle (s : State) : State := { s with cycle := s.cycle + 1, agenda := s.dueSteps (s.cycle + 1) }

end Sys2Proof.Machine
end

