-- ==== Sys2Proof/Machine/Step.lean ====
section
/-! DEFINITION. One step of the package: the bundle of a thread that the merge stage has chosen, else the next device step of the schedule, else
the next cycle. -/

namespace Sys2Proof.Machine

/-- One step (R7, R91). -/
noncomputable def step (s : State) : Host.Outcome State Fault Refusal :=
  match s.toIssue with
  | u :: rest => runUnit { s with toIssue := rest } u
  | [] =>
    match nextStep s.agenda with
    | some (i, rest) =>
      if i.wellFormed && !isSlotOp i then (if s.ignores i then .next { s with agenda := rest } else exec i { s with agenda := rest })
      else .fault .noSuchUnit
    | none => .next s.nextCycle

/-- s with the instruction whose slot field of nbits bits is w stored where the next step fetches (log entry 15). -/
noncomputable def State.withFetchWord (s : State) (nbits w : Nat) : State := s.placeUnits (literalUnits (tableSlot nbits w) w)

end Sys2Proof.Machine
end

