-- ==== Sys2Proof/Laws/PerInstr.lean ====
section
/-! SUPPORT. Statements made instruction by instruction. Roundtrip: what encode writes, decode reads back, in every slot that takes the
operation; and the words fit the slot's field. -/

set_option Elab.async false

namespace Sys2Proof.Laws.Roundtrip

/-- An appended vector as a number. -/
theorem append_toNat {m n : Nat} (x : BitVec m) (y : BitVec n) : (x ++ y).toNat = x.toNat * 2 ^ n + y.toNat := by
  rw [BitVec.toNat_append, ← Nat.shiftLeft_add_eq_or_of_lt y.isLt, Nat.shiftLeft_eq]

/-- Decode of encode is the instruction; its words fit the field. -/
def Statement (i : Instr) : Prop :=
  (i.wellFormed = true → ∀ k, slotTakes k i = true → decodeWords k (encode i) = some i) ∧ ∀ w ∈ encode i, w < 2 ^ slotWidth (homeSlot i)

theorem lay_ct0 (c : Nat) (hc : c < 32) (x0 : BitVec 4) :
    let W := c + put x0 5
    W % 32 = c ∧ slice 4 W 5 = x0 ∧ holds W 9 11 0 = true ∧ W < 2 ^ 20 := by
  intro W
  have h0 := x0.isLt;
  have hw : W = c + x0.toNat * 2 ^ 5 := by simp only [W, put]
  clear_value W
  refine ⟨?_, ?_, ?_, ?_⟩ <;>
    first
    | omega
    | (apply BitVec.eq_of_toNat_eq; simp only [slice, BitVec.toNat_ofNat]; omega)
    | (simp [holds]; omega)

theorem lay_ct1 (c : Nat) (hc : c < 32) (x0 : BitVec 4) (x1 : BitVec 11) :
    let W := c + put x0 5 + put x1 9
    W % 32 = c ∧ slice 4 W 5 = x0 ∧ slice 11 W 9 = x1 ∧ W < 2 ^ 20 := by
  intro W
  have h0 := x0.isLt; have h1 := x1.isLt;
  have hw : W = c + x0.toNat * 2 ^ 5 + x1.toNat * 2 ^ 9 := by simp only [W, put]
  clear_value W
  refine ⟨?_, ?_, ?_, ?_⟩ <;>
    first
    | omega
    | (apply BitVec.eq_of_toNat_eq; simp only [slice, BitVec.toNat_ofNat]; omega)
    | (simp [holds]; omega)

theorem lay_ct2 (c : Nat) (hc : c < 32) (x0 : BitVec 4) (x1 : BitVec 6) :
    let W := c + put x0 5 + put x1 9
    W % 32 = c ∧ slice 4 W 5 = x0 ∧ slice 6 W 9 = x1 ∧ holds W 15 5 0 = true ∧ W < 2 ^ 20 := by
  intro W
  have h0 := x0.isLt; have h1 := x1.isLt;
  have hw : W = c + x0.toNat * 2 ^ 5 + x1.toNat * 2 ^ 9 := by simp only [W, put]
  clear_value W
  refine ⟨?_, ?_, ?_, ?_, ?_⟩ <;>
    first
    | omega
    | (apply BitVec.eq_of_toNat_eq; simp only [slice, BitVec.toNat_ofNat]; omega)
    | (simp [holds]; omega)

theorem lay_ct3 (c : Nat) (hc : c < 32) (x0 : BitVec 4) (x1 : BitVec 3) :
    let W := c + put x0 5 + put x1 9
    W % 32 = c ∧ slice 4 W 5 = x0 ∧ slice 3 W 9 = x1 ∧ holds W 12 8 0 = true ∧ W < 2 ^ 20 := by
  intro W
  have h0 := x0.isLt; have h1 := x1.isLt;
  have hw : W = c + x0.toNat * 2 ^ 5 + x1.toNat * 2 ^ 9 := by simp only [W, put]
  clear_value W
  refine ⟨?_, ?_, ?_, ?_, ?_⟩ <;>
    first
    | omega
    | (apply BitVec.eq_of_toNat_eq; simp only [slice, BitVec.toNat_ofNat]; omega)
    | (simp [holds]; omega)

theorem lay_ct4 (c : Nat) (hc : c < 32) (x0 : BitVec 4) (x1 : BitVec 5) (x2 : BitVec 6) :
    let W := c + put x0 5 + put x1 9 + put x2 14
    W % 32 = c ∧ slice 4 W 5 = x0 ∧ slice 5 W 9 = x1 ∧ slice 6 W 14 = x2 ∧ W < 2 ^ 20 := by
  intro W
  have h0 := x0.isLt; have h1 := x1.isLt; have h2 := x2.isLt;
  have hw : W = c + x0.toNat * 2 ^ 5 + x1.toNat * 2 ^ 9 + x2.toNat * 2 ^ 14 := by simp only [W, put]
  clear_value W
  refine ⟨?_, ?_, ?_, ?_, ?_⟩ <;>
    first
    | omega
    | (apply BitVec.eq_of_toNat_eq; simp only [slice, BitVec.toNat_ofNat]; omega)
    | (simp [holds]; omega)

theorem lay_s5 (c : Nat) (hc : c < 256) (x0 : BitVec 4) (x1 : BitVec 6) (x2 : BitVec 6) (x3 : BitVec 6) :
    let W := c + put x0 26 + put x1 8 + put x2 14 + put x3 20
    W % 256 = c ∧ slice 4 W 26 = x0 ∧ slice 6 W 8 = x1 ∧ slice 6 W 14 = x2 ∧ slice 6 W 20 = x3 ∧ holds W 30 2 0 = true ∧ W < 2 ^ 32 := by
  intro W
  have h0 := x0.isLt; have h1 := x1.isLt; have h2 := x2.isLt; have h3 := x3.isLt;
  have hw : W = c + x0.toNat * 2 ^ 26 + x1.toNat * 2 ^ 8 + x2.toNat * 2 ^ 14 + x3.toNat * 2 ^ 20 := by simp only [W, put]
  clear_value W
  refine ⟨?_, ?_, ?_, ?_, ?_, ?_, ?_⟩ <;>
    first
    | omega
    | (apply BitVec.eq_of_toNat_eq; simp only [slice, BitVec.toNat_ofNat]; omega)
    | (simp [holds]; omega)

theorem lay_s6 (x0 : BitVec 4) (x1 : BitVec 6) (x2 : BitVec 6) (x3 : BitVec 8) :
    let W := 0x02 + (x3.toNat % 64) * 2 ^ 20 + x3.toNat / 64 * 2 ^ 30 + put x0 26 + put x1 8 + put x2 14
    W % 256 = 0x2 ∧ slice 4 W 26 = x0 ∧ slice 6 W 8 = x1 ∧ slice 6 W 14 = x2 ∧ slice 2 W 30 ++ slice 6 W 20 = x3 ∧ W < 2 ^ 32 := by
  intro W
  have h0 := x0.isLt; have h1 := x1.isLt; have h2 := x2.isLt; have h3 := x3.isLt;
  have hw : W = 0x02 + (x3.toNat % 64) * 2 ^ 20 + x3.toNat / 64 * 2 ^ 30 + x0.toNat * 2 ^ 26 + x1.toNat * 2 ^ 8 + x2.toNat * 2 ^ 14 := by simp only [W, put]
  clear_value W
  refine ⟨?_, ?_, ?_, ?_, ?_, ?_⟩ <;>
    first
    | omega
    | (apply BitVec.eq_of_toNat_eq; rw [append_toNat]; simp only [slice, BitVec.toNat_ofNat]; omega)
    | (apply BitVec.eq_of_toNat_eq; simp only [slice, BitVec.toNat_ofNat]; omega)
    | (simp [holds]; omega)

theorem lay_s7 (c : Nat) (hc : c < 256) (x0 : BitVec 4) (x1 : BitVec 6) (x2 : BitVec 6) :
    let W := c + put x0 26 + put x1 8 + put x2 14
    W % 256 = c ∧ slice 4 W 26 = x0 ∧ slice 6 W 8 = x1 ∧ slice 6 W 14 = x2 ∧ holds W 20 6 0 = true ∧ holds W 30 2 0 = true ∧ W < 2 ^ 32 := by
  intro W
  have h0 := x0.isLt; have h1 := x1.isLt; have h2 := x2.isLt;
  have hw : W = c + x0.toNat * 2 ^ 26 + x1.toNat * 2 ^ 8 + x2.toNat * 2 ^ 14 := by simp only [W, put]
  clear_value W
  refine ⟨?_, ?_, ?_, ?_, ?_, ?_, ?_⟩ <;>
    first
    | omega
    | (apply BitVec.eq_of_toNat_eq; simp only [slice, BitVec.toNat_ofNat]; omega)
    | (simp [holds]; omega)

theorem lay_s8 (c : Nat) (hc : c < 256) (x0 : BitVec 4) (x1 : BitVec 6) (x2 : BitVec 4) :
    let W := c + put x0 26 + put x1 8 + put x2 14
    W % 256 = c ∧ slice 4 W 26 = x0 ∧ slice 6 W 8 = x1 ∧ slice 4 W 14 = x2 ∧ holds W 18 8 0 = true ∧ holds W 30 2 0 = true ∧ W < 2 ^ 32 := by
  intro W
  have h0 := x0.isLt; have h1 := x1.isLt; have h2 := x2.isLt;
  have hw : W = c + x0.toNat * 2 ^ 26 + x1.toNat * 2 ^ 8 + x2.toNat * 2 ^ 14 := by simp only [W, put]
  clear_value W
  refine ⟨?_, ?_, ?_, ?_, ?_, ?_, ?_⟩ <;>
    first
    | omega
    | (apply BitVec.eq_of_toNat_eq; simp only [slice, BitVec.toNat_ofNat]; omega)
    | (simp [holds]; omega)

theorem lay_s9 (c : Nat) (hc : c < 256) (x0 : BitVec 4) (x1 : BitVec 4) (x2 : BitVec 6) :
    let W := c + put x0 26 + put x1 8 + put x2 14
    W % 256 = c ∧ slice 4 W 26 = x0 ∧ slice 4 W 8 = x1 ∧ slice 6 W 14 = x2 ∧ holds W 12 2 0 = true ∧ holds W 20 6 0 = true ∧ holds W 30 2 0 = true ∧ W < 2 ^ 32 := by
  intro W
  have h0 := x0.isLt; have h1 := x1.isLt; have h2 := x2.isLt;
  have hw : W = c + x0.toNat * 2 ^ 26 + x1.toNat * 2 ^ 8 + x2.toNat * 2 ^ 14 := by simp only [W, put]
  clear_value W
  refine ⟨?_, ?_, ?_, ?_, ?_, ?_, ?_, ?_⟩ <;>
    first
    | omega
    | (apply BitVec.eq_of_toNat_eq; simp only [slice, BitVec.toNat_ofNat]; omega)
    | (simp [holds]; omega)

theorem lay_s10 (c : Nat) (hc : c < 256) (x0 : BitVec 4) (x1 : BitVec 6) (x2 : BitVec 3) :
    let W := c + put x0 26 + put x1 8 + put x2 14
    W % 256 = c ∧ slice 4 W 26 = x0 ∧ slice 6 W 8 = x1 ∧ slice 3 W 14 = x2 ∧ holds W 17 9 0 = true ∧ holds W 30 2 0 = true ∧ W < 2 ^ 32 := by
  intro W
  have h0 := x0.isLt; have h1 := x1.isLt; have h2 := x2.isLt;
  have hw : W = c + x0.toNat * 2 ^ 26 + x1.toNat * 2 ^ 8 + x2.toNat * 2 ^ 14 := by simp only [W, put]
  clear_value W
  refine ⟨?_, ?_, ?_, ?_, ?_, ?_, ?_⟩ <;>
    first
    | omega
    | (apply BitVec.eq_of_toNat_eq; simp only [slice, BitVec.toNat_ofNat]; omega)
    | (simp [holds]; omega)

theorem lay_s11 (x0 : BitVec 2) (x1 : BitVec 6) (x2 : BitVec 48) :
    let W := 0x29 + put x1 8 + (x2.toNat % 65536) * 2 ^ 14 + put x0 30
    let H := x2.toNat / 65536
    W % 256 = 0x29 ∧ slice 2 W 30 = x0 ∧ slice 6 W 8 = x1 ∧ slice 32 H 0 ++ slice 16 W 14 = x2 ∧ W < 2 ^ 32 := by
  intro W H
  have h0 := x0.isLt; have h1 := x1.isLt; have h2 := x2.isLt;
  have hw : W = 0x29 + x1.toNat * 2 ^ 8 + (x2.toNat % 65536) * 2 ^ 14 + x0.toNat * 2 ^ 30 := by simp only [W, put]
  have hh : H = x2.toNat / 65536 := rfl
  clear_value W H
  refine ⟨?_, ?_, ?_, ?_, ?_⟩ <;>
    first
    | omega
    | (apply BitVec.eq_of_toNat_eq; rw [append_toNat]; simp only [slice, BitVec.toNat_ofNat]; omega)
    | (apply BitVec.eq_of_toNat_eq; simp only [slice, BitVec.toNat_ofNat]; omega)
    | (simp [holds]; omega)

theorem lay_s12 (c : Nat) (hc : c < 256) (x0 : BitVec 4) (x1 : BitVec 4) (x2 : BitVec 6) (x3 : BitVec 6) :
    let W := c + put x0 26 + put x1 8 + put x2 14 + put x3 20
    W % 256 = c ∧ slice 4 W 26 = x0 ∧ slice 4 W 8 = x1 ∧ slice 6 W 14 = x2 ∧ slice 6 W 20 = x3 ∧ holds W 12 2 0 = true ∧ holds W 30 2 0 = true ∧ W < 2 ^ 32 := by
  intro W
  have h0 := x0.isLt; have h1 := x1.isLt; have h2 := x2.isLt; have h3 := x3.isLt;
  have hw : W = c + x0.toNat * 2 ^ 26 + x1.toNat * 2 ^ 8 + x2.toNat * 2 ^ 14 + x3.toNat * 2 ^ 20 := by simp only [W, put]
  clear_value W
  refine ⟨?_, ?_, ?_, ?_, ?_, ?_, ?_, ?_⟩ <;>
    first
    | omega
    | (apply BitVec.eq_of_toNat_eq; simp only [slice, BitVec.toNat_ofNat]; omega)
    | (simp [holds]; omega)

theorem lay_s13 (c : Nat) (hc : c < 256) (x0 : BitVec 4) (x1 : BitVec 6) (x2 : BitVec 6) (x3 : BitVec 4) (x4 : BitVec 1) :
    let W := c + put x0 26 + put x1 8 + put x2 14 + put x3 20 + put x4 24
    W % 256 = c ∧ slice 4 W 26 = x0 ∧ slice 6 W 8 = x1 ∧ slice 6 W 14 = x2 ∧ slice 4 W 20 = x3 ∧ slice 1 W 24 = x4 ∧ holds W 25 1 0 = true ∧ holds W 30 2 0 = true ∧ W < 2 ^ 32 := by
  intro W
  have h0 := x0.isLt; have h1 := x1.isLt; have h2 := x2.isLt; have h3 := x3.isLt; have h4 := x4.isLt;
  have hw : W = c + x0.toNat * 2 ^ 26 + x1.toNat * 2 ^ 8 + x2.toNat * 2 ^ 14 + x3.toNat * 2 ^ 20 + x4.toNat * 2 ^ 24 := by simp only [W, put]
  clear_value W
  refine ⟨?_, ?_, ?_, ?_, ?_, ?_, ?_, ?_, ?_⟩ <;>
    first
    | omega
    | (apply BitVec.eq_of_toNat_eq; simp only [slice, BitVec.toNat_ofNat]; omega)
    | (simp [holds]; omega)

theorem lay_s14 (c : Nat) (hc : c < 256) (x0 : BitVec 4) (x1 : BitVec 4) (x2 : BitVec 4) (x3 : BitVec 4) :
    let W := c + put x0 26 + put x1 8 + put x2 14 + put x3 20
    W % 256 = c ∧ slice 4 W 26 = x0 ∧ slice 4 W 8 = x1 ∧ slice 4 W 14 = x2 ∧ slice 4 W 20 = x3 ∧ holds W 12 2 0 = true ∧ holds W 18 2 0 = true ∧ holds W 24 2 0 = true ∧ holds W 30 2 0 = true ∧ W < 2 ^ 32 := by
  intro W
  have h0 := x0.isLt; have h1 := x1.isLt; have h2 := x2.isLt; have h3 := x3.isLt;
  have hw : W = c + x0.toNat * 2 ^ 26 + x1.toNat * 2 ^ 8 + x2.toNat * 2 ^ 14 + x3.toNat * 2 ^ 20 := by simp only [W, put]
  clear_value W
  refine ⟨?_, ?_, ?_, ?_, ?_, ?_, ?_, ?_, ?_, ?_⟩ <;>
    first
    | omega
    | (apply BitVec.eq_of_toNat_eq; simp only [slice, BitVec.toNat_ofNat]; omega)
    | (simp [holds]; omega)

theorem lay_s15 (c : Nat) (hc : c < 256) (x0 : BitVec 4) (x1 : BitVec 4) (x2 : BitVec 4) :
    let W := c + put x0 26 + put x1 8 + put x2 14
    W % 256 = c ∧ slice 4 W 26 = x0 ∧ slice 4 W 8 = x1 ∧ slice 4 W 14 = x2 ∧ holds W 12 2 0 = true ∧ holds W 18 8 0 = true ∧ holds W 30 2 0 = true ∧ W < 2 ^ 32 := by
  intro W
  have h0 := x0.isLt; have h1 := x1.isLt; have h2 := x2.isLt;
  have hw : W = c + x0.toNat * 2 ^ 26 + x1.toNat * 2 ^ 8 + x2.toNat * 2 ^ 14 := by simp only [W, put]
  clear_value W
  refine ⟨?_, ?_, ?_, ?_, ?_, ?_, ?_, ?_⟩ <;>
    first
    | omega
    | (apply BitVec.eq_of_toNat_eq; simp only [slice, BitVec.toNat_ofNat]; omega)
    | (simp [holds]; omega)

theorem lay_ag16 (c : Nat) (hc : c < 16) (x0 : BitVec 4) (x1 : BitVec 4) (x2 : BitVec 4) :
    let W := c + put x0 16 + put x1 8 + put x2 4
    W % 16 = c ∧ slice 4 W 16 = x0 ∧ slice 4 W 8 = x1 ∧ slice 4 W 4 = x2 ∧ holds W 12 4 0 = true ∧ W < 2 ^ 20 := by
  intro W
  have h0 := x0.isLt; have h1 := x1.isLt; have h2 := x2.isLt;
  have hw : W = c + x0.toNat * 2 ^ 16 + x1.toNat * 2 ^ 8 + x2.toNat * 2 ^ 4 := by simp only [W, put]
  clear_value W
  refine ⟨?_, ?_, ?_, ?_, ?_, ?_⟩ <;>
    first
    | omega
    | (apply BitVec.eq_of_toNat_eq; simp only [slice, BitVec.toNat_ofNat]; omega)
    | (simp [holds]; omega)

theorem lay_ag17 (c : Nat) (hc : c < 16) (x0 : BitVec 4) (x1 : BitVec 4) (x2 : BitVec 4) (x3 : BitVec 4) :
    let W := c + put x0 16 + put x1 12 + put x2 8 + put x3 4
    W % 16 = c ∧ slice 4 W 16 = x0 ∧ slice 4 W 12 = x1 ∧ slice 4 W 8 = x2 ∧ slice 4 W 4 = x3 ∧ W < 2 ^ 20 := by
  intro W
  have h0 := x0.isLt; have h1 := x1.isLt; have h2 := x2.isLt; have h3 := x3.isLt;
  have hw : W = c + x0.toNat * 2 ^ 16 + x1.toNat * 2 ^ 12 + x2.toNat * 2 ^ 8 + x3.toNat * 2 ^ 4 := by simp only [W, put]
  clear_value W
  refine ⟨?_, ?_, ?_, ?_, ?_, ?_⟩ <;>
    first
    | omega
    | (apply BitVec.eq_of_toNat_eq; simp only [slice, BitVec.toNat_ofNat]; omega)
    | (simp [holds]; omega)

theorem lay_ag18 (c : Nat) (hc : c < 16) (x0 : BitVec 4) (x1 : BitVec 4) :
    let W := c + put x0 12 + put x1 8
    W % 16 = c ∧ slice 4 W 12 = x0 ∧ slice 4 W 8 = x1 ∧ holds W 4 4 0 = true ∧ holds W 16 4 0 = true ∧ W < 2 ^ 20 := by
  intro W
  have h0 := x0.isLt; have h1 := x1.isLt;
  have hw : W = c + x0.toNat * 2 ^ 12 + x1.toNat * 2 ^ 8 := by simp only [W, put]
  clear_value W
  refine ⟨?_, ?_, ?_, ?_, ?_, ?_⟩ <;>
    first
    | omega
    | (apply BitVec.eq_of_toNat_eq; simp only [slice, BitVec.toNat_ofNat]; omega)
    | (simp [holds]; omega)

theorem lay_l19 (c : Nat) (hc : c < 64) (x0 : BitVec 4) (x1 : BitVec 12) (x2 : BitVec 4) (x3 : BitVec 6) :
    let W := c + put x0 28 + put x1 16 + put x2 12 + put x3 6
    W % 64 = c ∧ slice 4 W 28 = x0 ∧ slice 12 W 16 = x1 ∧ slice 4 W 12 = x2 ∧ slice 6 W 6 = x3 ∧ W < 2 ^ 32 := by
  intro W
  have h0 := x0.isLt; have h1 := x1.isLt; have h2 := x2.isLt; have h3 := x3.isLt;
  have hw : W = c + x0.toNat * 2 ^ 28 + x1.toNat * 2 ^ 16 + x2.toNat * 2 ^ 12 + x3.toNat * 2 ^ 6 := by simp only [W, put]
  clear_value W
  refine ⟨?_, ?_, ?_, ?_, ?_, ?_⟩ <;>
    first
    | omega
    | (apply BitVec.eq_of_toNat_eq; simp only [slice, BitVec.toNat_ofNat]; omega)
    | (simp [holds]; omega)

theorem lay_l20 (c : Nat) (hc : c < 64) (x0 : BitVec 4) (x1 : BitVec 12) (x2 : BitVec 6) :
    let W := c + put x0 28 + put x1 16 + put x2 6
    W % 64 = c ∧ slice 4 W 28 = x0 ∧ slice 12 W 16 = x1 ∧ slice 6 W 6 = x2 ∧ holds W 12 4 0 = true ∧ W < 2 ^ 32 := by
  intro W
  have h0 := x0.isLt; have h1 := x1.isLt; have h2 := x2.isLt;
  have hw : W = c + x0.toNat * 2 ^ 28 + x1.toNat * 2 ^ 16 + x2.toNat * 2 ^ 6 := by simp only [W, put]
  clear_value W
  refine ⟨?_, ?_, ?_, ?_, ?_, ?_⟩ <;>
    first
    | omega
    | (apply BitVec.eq_of_toNat_eq; simp only [slice, BitVec.toNat_ofNat]; omega)
    | (simp [holds]; omega)

theorem lay_l21 (c : Nat) (hc : c < 64) (x0 : BitVec 4) (x1 : BitVec 12) (x2 : BitVec 4) (x3 : BitVec 3) :
    let W := c + put x0 28 + put x1 16 + put x2 12 + put x3 6
    W % 64 = c ∧ slice 4 W 28 = x0 ∧ slice 12 W 16 = x1 ∧ slice 4 W 12 = x2 ∧ slice 3 W 6 = x3 ∧ holds W 9 3 0 = true ∧ W < 2 ^ 32 := by
  intro W
  have h0 := x0.isLt; have h1 := x1.isLt; have h2 := x2.isLt; have h3 := x3.isLt;
  have hw : W = c + x0.toNat * 2 ^ 28 + x1.toNat * 2 ^ 16 + x2.toNat * 2 ^ 12 + x3.toNat * 2 ^ 6 := by simp only [W, put]
  clear_value W
  refine ⟨?_, ?_, ?_, ?_, ?_, ?_, ?_⟩ <;>
    first
    | omega
    | (apply BitVec.eq_of_toNat_eq; simp only [slice, BitVec.toNat_ofNat]; omega)
    | (simp [holds]; omega)

theorem lay_v22 (c : Nat) (hc : c < 256) (x0 : BitVec 4) (x1 : BitVec 6) (x2 : BitVec 6) (x3 : BitVec 6) (x4 : BitVec 4) (x5 : BitVec 2) :
    let W := c + put x0 32 + put x1 26 + put x2 20 + put x3 14 + put x4 10 + put x5 8
    W % 256 = c ∧ W % 128 = c % 128 ∧ slice 4 W 32 = x0 ∧ slice 6 W 26 = x1 ∧ slice 6 W 20 = x2 ∧ slice 6 W 14 = x3 ∧ slice 4 W 10 = x4 ∧ slice 2 W 8 = x5 ∧ W < 2 ^ 36 := by
  intro W
  have h0 := x0.isLt; have h1 := x1.isLt; have h2 := x2.isLt; have h3 := x3.isLt; have h4 := x4.isLt; have h5 := x5.isLt;
  have hw : W = c + x0.toNat * 2 ^ 32 + x1.toNat * 2 ^ 26 + x2.toNat * 2 ^ 20 + x3.toNat * 2 ^ 14 + x4.toNat * 2 ^ 10 + x5.toNat * 2 ^ 8 := by simp only [W, put]
  clear_value W
  refine ⟨?_, ?_, ?_, ?_, ?_, ?_, ?_, ?_, ?_⟩ <;>
    first
    | omega
    | (apply BitVec.eq_of_toNat_eq; simp only [slice, BitVec.toNat_ofNat]; omega)
    | (simp [holds]; omega)

theorem lay_v23 (c : Nat) (hc : c < 256) (x0 : BitVec 4) (x1 : BitVec 6) (x2 : BitVec 6) (x3 : BitVec 4) (x4 : BitVec 2) :
    let W := c + put x0 32 + put x1 20 + put x2 14 + put x3 10 + put x4 8
    W % 256 = c ∧ W % 128 = c % 128 ∧ slice 4 W 32 = x0 ∧ slice 6 W 20 = x1 ∧ slice 6 W 14 = x2 ∧ slice 4 W 10 = x3 ∧ slice 2 W 8 = x4 ∧ holds W 26 6 0 = true ∧ W < 2 ^ 36 := by
  intro W
  have h0 := x0.isLt; have h1 := x1.isLt; have h2 := x2.isLt; have h3 := x3.isLt; have h4 := x4.isLt;
  have hw : W = c + x0.toNat * 2 ^ 32 + x1.toNat * 2 ^ 20 + x2.toNat * 2 ^ 14 + x3.toNat * 2 ^ 10 + x4.toNat * 2 ^ 8 := by simp only [W, put]
  clear_value W
  refine ⟨?_, ?_, ?_, ?_, ?_, ?_, ?_, ?_, ?_⟩ <;>
    first
    | omega
    | (apply BitVec.eq_of_toNat_eq; simp only [slice, BitVec.toNat_ofNat]; omega)
    | (simp [holds]; omega)

theorem lay_v24 (c : Nat) (hc : c < 256) (x0 : BitVec 4) (x1 : BitVec 6) (x2 : BitVec 6) (x3 : BitVec 2) (x4 : BitVec 4) (x5 : BitVec 4) (x6 : BitVec 2) :
    let W := c + put x0 32 + put x1 26 + put x2 20 + put x3 18 + put x4 14 + put x5 10 + put x6 8
    W % 256 = c ∧ W % 128 = c % 128 ∧ slice 4 W 32 = x0 ∧ slice 6 W 26 = x1 ∧ slice 6 W 20 = x2 ∧ slice 2 W 18 = x3 ∧ slice 4 W 14 = x4 ∧ slice 4 W 10 = x5 ∧ slice 2 W 8 = x6 ∧ W < 2 ^ 36 := by
  intro W
  have h0 := x0.isLt; have h1 := x1.isLt; have h2 := x2.isLt; have h3 := x3.isLt; have h4 := x4.isLt; have h5 := x5.isLt; have h6 := x6.isLt;
  have hw : W = c + x0.toNat * 2 ^ 32 + x1.toNat * 2 ^ 26 + x2.toNat * 2 ^ 20 + x3.toNat * 2 ^ 18 + x4.toNat * 2 ^ 14 + x5.toNat * 2 ^ 10 + x6.toNat * 2 ^ 8 := by simp only [W, put]
  clear_value W
  refine ⟨?_, ?_, ?_, ?_, ?_, ?_, ?_, ?_, ?_, ?_⟩ <;>
    first
    | omega
    | (apply BitVec.eq_of_toNat_eq; simp only [slice, BitVec.toNat_ofNat]; omega)
    | (simp [holds]; omega)

theorem lay_v25 (c : Nat) (hc : c < 256) (x0 : BitVec 4) (x1 : BitVec 1) (x2 : BitVec 4) (x3 : BitVec 6) (x4 : BitVec 6) (x5 : BitVec 4) (x6 : BitVec 2) :
    let W := c + put x0 32 + put x1 30 + put x2 26 + put x3 20 + put x4 14 + put x5 10 + put x6 8
    W % 256 = c ∧ W % 128 = c % 128 ∧ slice 4 W 32 = x0 ∧ slice 1 W 30 = x1 ∧ slice 4 W 26 = x2 ∧ slice 6 W 20 = x3 ∧ slice 6 W 14 = x4 ∧ slice 4 W 10 = x5 ∧ slice 2 W 8 = x6 ∧ holds W 31 1 0 = true ∧ W < 2 ^ 36 := by
  intro W
  have h0 := x0.isLt; have h1 := x1.isLt; have h2 := x2.isLt; have h3 := x3.isLt; have h4 := x4.isLt; have h5 := x5.isLt; have h6 := x6.isLt;
  have hw : W = c + x0.toNat * 2 ^ 32 + x1.toNat * 2 ^ 30 + x2.toNat * 2 ^ 26 + x3.toNat * 2 ^ 20 + x4.toNat * 2 ^ 14 + x5.toNat * 2 ^ 10 + x6.toNat * 2 ^ 8 := by simp only [W, put]
  clear_value W
  refine ⟨?_, ?_, ?_, ?_, ?_, ?_, ?_, ?_, ?_, ?_, ?_⟩ <;>
    first
    | omega
    | (apply BitVec.eq_of_toNat_eq; simp only [slice, BitVec.toNat_ofNat]; omega)
    | (simp [holds]; omega)

theorem lay_v26 (c : Nat) (hc : c < 256) (x0 : BitVec 4) (x1 : BitVec 1) (x2 : BitVec 6) (x3 : BitVec 6) (x4 : BitVec 4) (x5 : BitVec 2) :
    let W := c + put x0 32 + put x1 30 + put x2 20 + put x3 14 + put x4 10 + put x5 8
    W % 256 = c ∧ W % 128 = c % 128 ∧ slice 4 W 32 = x0 ∧ slice 1 W 30 = x1 ∧ slice 6 W 20 = x2 ∧ slice 6 W 14 = x3 ∧ slice 4 W 10 = x4 ∧ slice 2 W 8 = x5 ∧ holds W 26 4 0 = true ∧ holds W 31 1 0 = true ∧ W < 2 ^ 36 := by
  intro W
  have h0 := x0.isLt; have h1 := x1.isLt; have h2 := x2.isLt; have h3 := x3.isLt; have h4 := x4.isLt; have h5 := x5.isLt;
  have hw : W = c + x0.toNat * 2 ^ 32 + x1.toNat * 2 ^ 30 + x2.toNat * 2 ^ 20 + x3.toNat * 2 ^ 14 + x4.toNat * 2 ^ 10 + x5.toNat * 2 ^ 8 := by simp only [W, put]
  clear_value W
  refine ⟨?_, ?_, ?_, ?_, ?_, ?_, ?_, ?_, ?_, ?_, ?_⟩ <;>
    first
    | omega
    | (apply BitVec.eq_of_toNat_eq; simp only [slice, BitVec.toNat_ofNat]; omega)
    | (simp [holds]; omega)

theorem lay_v27 (c : Nat) (hc : c < 256) (x0 : BitVec 4) (x1 : BitVec 1) (x2 : BitVec 6) (x3 : BitVec 6) (x4 : BitVec 4) (x5 : BitVec 2) :
    let W := c + put x0 32 + put x1 26 + put x2 20 + put x3 14 + put x4 10 + put x5 8
    W % 256 = c ∧ W % 128 = c % 128 ∧ slice 4 W 32 = x0 ∧ slice 1 W 26 = x1 ∧ slice 6 W 20 = x2 ∧ slice 6 W 14 = x3 ∧ slice 4 W 10 = x4 ∧ slice 2 W 8 = x5 ∧ holds W 27 5 0 = true ∧ W < 2 ^ 36 := by
  intro W
  have h0 := x0.isLt; have h1 := x1.isLt; have h2 := x2.isLt; have h3 := x3.isLt; have h4 := x4.isLt; have h5 := x5.isLt;
  have hw : W = c + x0.toNat * 2 ^ 32 + x1.toNat * 2 ^ 26 + x2.toNat * 2 ^ 20 + x3.toNat * 2 ^ 14 + x4.toNat * 2 ^ 10 + x5.toNat * 2 ^ 8 := by simp only [W, put]
  clear_value W
  refine ⟨?_, ?_, ?_, ?_, ?_, ?_, ?_, ?_, ?_, ?_⟩ <;>
    first
    | omega
    | (apply BitVec.eq_of_toNat_eq; simp only [slice, BitVec.toNat_ofNat]; omega)
    | (simp [holds]; omega)

theorem lay_v28 (x0 : BitVec 4) (x1 : BitVec 4) :
    let W := 0x26 + put x0 32 + put x1 14 + 2 * 2 ^ 8
    W % 256 = 0x26 ∧ W % 128 = 0x26 % 128 ∧ slice 4 W 32 = x0 ∧ slice 4 W 14 = x1 ∧ holds W 10 4 0 = true ∧ holds W 18 14 0 = true ∧ holds W 8 2 2 = true ∧ W < 2 ^ 36 := by
  intro W
  have h0 := x0.isLt; have h1 := x1.isLt;
  have hw : W = 0x26 + x0.toNat * 2 ^ 32 + x1.toNat * 2 ^ 14 + 2 * 2 ^ 8 := by simp only [W, put]
  clear_value W
  refine ⟨?_, ?_, ?_, ?_, ?_, ?_, ?_, ?_⟩ <;>
    first
    | omega
    | (apply BitVec.eq_of_toNat_eq; simp only [slice, BitVec.toNat_ofNat]; omega)
    | (simp [holds]; omega)

theorem lay_v29 (c : Nat) (hc : c < 256) (x0 : BitVec 4) (x1 : BitVec 3) (x2 : BitVec 6) (x3 : BitVec 6) (x4 : BitVec 4) (x5 : BitVec 2) :
    let W := c + put x0 32 + put x1 26 + put x2 20 + put x3 14 + put x4 10 + put x5 8
    W % 256 = c ∧ W % 128 = c % 128 ∧ slice 4 W 32 = x0 ∧ slice 3 W 26 = x1 ∧ slice 6 W 20 = x2 ∧ slice 6 W 14 = x3 ∧ slice 4 W 10 = x4 ∧ slice 2 W 8 = x5 ∧ holds W 29 3 0 = true ∧ W < 2 ^ 36 := by
  intro W
  have h0 := x0.isLt; have h1 := x1.isLt; have h2 := x2.isLt; have h3 := x3.isLt; have h4 := x4.isLt; have h5 := x5.isLt;
  have hw : W = c + x0.toNat * 2 ^ 32 + x1.toNat * 2 ^ 26 + x2.toNat * 2 ^ 20 + x3.toNat * 2 ^ 14 + x4.toNat * 2 ^ 10 + x5.toNat * 2 ^ 8 := by simp only [W, put]
  clear_value W
  refine ⟨?_, ?_, ?_, ?_, ?_, ?_, ?_, ?_, ?_, ?_⟩ <;>
    first
    | omega
    | (apply BitVec.eq_of_toNat_eq; simp only [slice, BitVec.toNat_ofNat]; omega)
    | (simp [holds]; omega)

theorem lay_v30 (c : Nat) (hc : c < 256) (x0 : BitVec 4) (x1 : BitVec 3) (x2 : BitVec 6) (x3 : BitVec 4) (x4 : BitVec 2) :
    let W := c + put x0 32 + put x1 20 + put x2 14 + put x3 10 + put x4 8
    W % 256 = c ∧ W % 128 = c % 128 ∧ slice 4 W 32 = x0 ∧ slice 3 W 20 = x1 ∧ slice 6 W 14 = x2 ∧ slice 4 W 10 = x3 ∧ slice 2 W 8 = x4 ∧ holds W 23 9 0 = true ∧ W < 2 ^ 36 := by
  intro W
  have h0 := x0.isLt; have h1 := x1.isLt; have h2 := x2.isLt; have h3 := x3.isLt; have h4 := x4.isLt;
  have hw : W = c + x0.toNat * 2 ^ 32 + x1.toNat * 2 ^ 20 + x2.toNat * 2 ^ 14 + x3.toNat * 2 ^ 10 + x4.toNat * 2 ^ 8 := by simp only [W, put]
  clear_value W
  refine ⟨?_, ?_, ?_, ?_, ?_, ?_, ?_, ?_, ?_⟩ <;>
    first
    | omega
    | (apply BitVec.eq_of_toNat_eq; simp only [slice, BitVec.toNat_ofNat]; omega)
    | (simp [holds]; omega)

theorem lay_v31 (c : Nat) (hc : c < 256) (x0 : BitVec 4) (x1 : BitVec 3) (x2 : BitVec 6) (x3 : BitVec 2) (x4 : BitVec 4) (x5 : BitVec 4) (x6 : BitVec 2) :
    let W := c + put x0 32 + put x1 26 + put x2 20 + put x3 18 + put x4 14 + put x5 10 + put x6 8
    W % 256 = c ∧ W % 128 = c % 128 ∧ slice 4 W 32 = x0 ∧ slice 3 W 26 = x1 ∧ slice 6 W 20 = x2 ∧ slice 2 W 18 = x3 ∧ slice 4 W 14 = x4 ∧ slice 4 W 10 = x5 ∧ slice 2 W 8 = x6 ∧ holds W 29 3 0 = true ∧ W < 2 ^ 36 := by
  intro W
  have h0 := x0.isLt; have h1 := x1.isLt; have h2 := x2.isLt; have h3 := x3.isLt; have h4 := x4.isLt; have h5 := x5.isLt; have h6 := x6.isLt;
  have hw : W = c + x0.toNat * 2 ^ 32 + x1.toNat * 2 ^ 26 + x2.toNat * 2 ^ 20 + x3.toNat * 2 ^ 18 + x4.toNat * 2 ^ 14 + x5.toNat * 2 ^ 10 + x6.toNat * 2 ^ 8 := by simp only [W, put]
  clear_value W
  refine ⟨?_, ?_, ?_, ?_, ?_, ?_, ?_, ?_, ?_, ?_, ?_⟩ <;>
    first
    | omega
    | (apply BitVec.eq_of_toNat_eq; simp only [slice, BitVec.toNat_ofNat]; omega)
    | (simp [holds]; omega)

theorem lay_v32 (c : Nat) (hc : c < 256) (x0 : BitVec 4) (x1 : BitVec 1) (x2 : BitVec 4) (x3 : BitVec 3) (x4 : BitVec 6) (x5 : BitVec 4) (x6 : BitVec 2) :
    let W := c + put x0 32 + put x1 30 + put x2 26 + put x3 20 + put x4 14 + put x5 10 + put x6 8
    W % 256 = c ∧ W % 128 = c % 128 ∧ slice 4 W 32 = x0 ∧ slice 1 W 30 = x1 ∧ slice 4 W 26 = x2 ∧ slice 3 W 20 = x3 ∧ slice 6 W 14 = x4 ∧ slice 4 W 10 = x5 ∧ slice 2 W 8 = x6 ∧ holds W 23 3 0 = true ∧ holds W 31 1 0 = true ∧ W < 2 ^ 36 := by
  intro W
  have h0 := x0.isLt; have h1 := x1.isLt; have h2 := x2.isLt; have h3 := x3.isLt; have h4 := x4.isLt; have h5 := x5.isLt; have h6 := x6.isLt;
  have hw : W = c + x0.toNat * 2 ^ 32 + x1.toNat * 2 ^ 30 + x2.toNat * 2 ^ 26 + x3.toNat * 2 ^ 20 + x4.toNat * 2 ^ 14 + x5.toNat * 2 ^ 10 + x6.toNat * 2 ^ 8 := by simp only [W, put]
  clear_value W
  refine ⟨?_, ?_, ?_, ?_, ?_, ?_, ?_, ?_, ?_, ?_, ?_, ?_⟩ <;>
    first
    | omega
    | (apply BitVec.eq_of_toNat_eq; simp only [slice, BitVec.toNat_ofNat]; omega)
    | (simp [holds]; omega)

theorem lay_v33 (c : Nat) (hc : c < 256) (x0 : BitVec 4) (x1 : BitVec 1) (x2 : BitVec 3) (x3 : BitVec 6) (x4 : BitVec 4) (x5 : BitVec 2) :
    let W := c + put x0 32 + put x1 30 + put x2 20 + put x3 14 + put x4 10 + put x5 8
    W % 256 = c ∧ W % 128 = c % 128 ∧ slice 4 W 32 = x0 ∧ slice 1 W 30 = x1 ∧ slice 3 W 20 = x2 ∧ slice 6 W 14 = x3 ∧ slice 4 W 10 = x4 ∧ slice 2 W 8 = x5 ∧ holds W 23 7 0 = true ∧ holds W 31 1 0 = true ∧ W < 2 ^ 36 := by
  intro W
  have h0 := x0.isLt; have h1 := x1.isLt; have h2 := x2.isLt; have h3 := x3.isLt; have h4 := x4.isLt; have h5 := x5.isLt;
  have hw : W = c + x0.toNat * 2 ^ 32 + x1.toNat * 2 ^ 30 + x2.toNat * 2 ^ 20 + x3.toNat * 2 ^ 14 + x4.toNat * 2 ^ 10 + x5.toNat * 2 ^ 8 := by simp only [W, put]
  clear_value W
  refine ⟨?_, ?_, ?_, ?_, ?_, ?_, ?_, ?_, ?_, ?_, ?_⟩ <;>
    first
    | omega
    | (apply BitVec.eq_of_toNat_eq; simp only [slice, BitVec.toNat_ofNat]; omega)
    | (simp [holds]; omega)

theorem lay_v34 (c : Nat) (hc : c < 256) (x0 : BitVec 4) (x1 : BitVec 1) (x2 : BitVec 3) (x3 : BitVec 6) (x4 : BitVec 4) (x5 : BitVec 2) :
    let W := c + put x0 32 + put x1 26 + put x2 20 + put x3 14 + put x4 10 + put x5 8
    W % 256 = c ∧ W % 128 = c % 128 ∧ slice 4 W 32 = x0 ∧ slice 1 W 26 = x1 ∧ slice 3 W 20 = x2 ∧ slice 6 W 14 = x3 ∧ slice 4 W 10 = x4 ∧ slice 2 W 8 = x5 ∧ holds W 23 3 0 = true ∧ holds W 27 5 0 = true ∧ W < 2 ^ 36 := by
  intro W
  have h0 := x0.isLt; have h1 := x1.isLt; have h2 := x2.isLt; have h3 := x3.isLt; have h4 := x4.isLt; have h5 := x5.isLt;
  have hw : W = c + x0.toNat * 2 ^ 32 + x1.toNat * 2 ^ 26 + x2.toNat * 2 ^ 20 + x3.toNat * 2 ^ 14 + x4.toNat * 2 ^ 10 + x5.toNat * 2 ^ 8 := by simp only [W, put]
  clear_value W
  refine ⟨?_, ?_, ?_, ?_, ?_, ?_, ?_, ?_, ?_, ?_, ?_⟩ <;>
    first
    | omega
    | (apply BitVec.eq_of_toNat_eq; simp only [slice, BitVec.toNat_ofNat]; omega)
    | (simp [holds]; omega)

theorem lay_mx35 (c : Nat) (hc : c < 16) (x0 : BitVec 16) :
    let W := c + put x0 4
    W % 16 = c ∧ slice 16 W 4 = x0 ∧ W < 2 ^ 20 := by
  intro W
  have h0 := x0.isLt;
  have hw : W = c + x0.toNat * 2 ^ 4 := by simp only [W, put]
  clear_value W
  refine ⟨?_, ?_, ?_⟩ <;>
    first
    | omega
    | (apply BitVec.eq_of_toNat_eq; simp only [slice, BitVec.toNat_ofNat]; omega)
    | (simp [holds]; omega)

theorem lay_mx36 (c : Nat) (hc : c < 16)  :
    let W := c
    W % 16 = c ∧ holds W 4 16 0 = true ∧ W < 2 ^ 20 := by
  intro W
  have hw : W = c := by rfl
  clear_value W
  refine ⟨?_, ?_, ?_⟩ <;>
    first
    | omega
    | (apply BitVec.eq_of_toNat_eq; simp only [slice, BitVec.toNat_ofNat]; omega)
    | (simp [holds]; omega)

theorem lay_mx37 (c : Nat) (hc : c < 16) (x0 : BitVec 1) (x1 : BitVec 3) (x2 : BitVec 6) (x3 : BitVec 5) :
    let W := c + put x0 18 + put x1 15 + put x2 9 + put x3 4
    W % 16 = c ∧ slice 1 W 18 = x0 ∧ slice 3 W 15 = x1 ∧ slice 6 W 9 = x2 ∧ slice 5 W 4 = x3 ∧ holds W 19 1 0 = true ∧ W < 2 ^ 20 := by
  intro W
  have h0 := x0.isLt; have h1 := x1.isLt; have h2 := x2.isLt; have h3 := x3.isLt;
  have hw : W = c + x0.toNat * 2 ^ 18 + x1.toNat * 2 ^ 15 + x2.toNat * 2 ^ 9 + x3.toNat * 2 ^ 4 := by simp only [W, put]
  clear_value W
  refine ⟨?_, ?_, ?_, ?_, ?_, ?_, ?_⟩ <;>
    first
    | omega
    | (apply BitVec.eq_of_toNat_eq; simp only [slice, BitVec.toNat_ofNat]; omega)
    | (simp [holds]; omega)

theorem lay_mx38 (x0 : BitVec 5) :
    let W := 0x04 + put x0 4
    W % 16 = 0x4 ∧ slice 5 W 4 = x0 ∧ holds W 9 9 0 = true ∧ holds W 18 2 0 = true ∧ holds W 18 2 1 = false ∧ holds W 18 2 2 = false ∧ holds W 18 2 3 = false ∧ W < 2 ^ 20 := by
  intro W
  have h0 := x0.isLt;
  have hw : W = 0x04 + x0.toNat * 2 ^ 4 := by simp only [W, put]
  clear_value W
  refine ⟨?_, ?_, ?_, ?_, ?_, ?_, ?_, ?_⟩ <;>
    first
    | omega
    | (apply BitVec.eq_of_toNat_eq; simp only [slice, BitVec.toNat_ofNat]; omega)
    | (simp [holds]; omega)

theorem lay_mx39 (x0 : BitVec 5) :
    let W := 0x04 + put x0 4 + 1 * 2 ^ 18
    W % 16 = 0x4 ∧ slice 5 W 4 = x0 ∧ holds W 9 9 0 = true ∧ holds W 18 2 0 = false ∧ holds W 18 2 1 = true ∧ holds W 18 2 2 = false ∧ holds W 18 2 3 = false ∧ W < 2 ^ 20 := by
  intro W
  have h0 := x0.isLt;
  have hw : W = 0x04 + x0.toNat * 2 ^ 4 + 1 * 2 ^ 18 := by simp only [W, put]
  clear_value W
  refine ⟨?_, ?_, ?_, ?_, ?_, ?_, ?_, ?_⟩ <;>
    first
    | omega
    | (apply BitVec.eq_of_toNat_eq; simp only [slice, BitVec.toNat_ofNat]; omega)
    | (simp [holds]; omega)

theorem lay_mx40 (x0 : BitVec 5) :
    let W := 0x04 + put x0 4 + 2 * 2 ^ 18
    W % 16 = 0x4 ∧ slice 5 W 4 = x0 ∧ holds W 9 9 0 = true ∧ holds W 18 2 0 = false ∧ holds W 18 2 1 = false ∧ holds W 18 2 2 = true ∧ holds W 18 2 3 = false ∧ W < 2 ^ 20 := by
  intro W
  have h0 := x0.isLt;
  have hw : W = 0x04 + x0.toNat * 2 ^ 4 + 2 * 2 ^ 18 := by simp only [W, put]
  clear_value W
  refine ⟨?_, ?_, ?_, ?_, ?_, ?_, ?_, ?_⟩ <;>
    first
    | omega
    | (apply BitVec.eq_of_toNat_eq; simp only [slice, BitVec.toNat_ofNat]; omega)
    | (simp [holds]; omega)

theorem lay_mx41 (c : Nat) (hc : c < 16) (x0 : BitVec 3) (x1 : BitVec 6) (x2 : BitVec 5) :
    let W := c + put x0 15 + put x1 9 + put x2 4
    W % 16 = c ∧ slice 3 W 15 = x0 ∧ slice 6 W 9 = x1 ∧ slice 5 W 4 = x2 ∧ holds W 18 2 0 = true ∧ W < 2 ^ 20 := by
  intro W
  have h0 := x0.isLt; have h1 := x1.isLt; have h2 := x2.isLt;
  have hw : W = c + x0.toNat * 2 ^ 15 + x1.toNat * 2 ^ 9 + x2.toNat * 2 ^ 4 := by simp only [W, put]
  clear_value W
  refine ⟨?_, ?_, ?_, ?_, ?_, ?_⟩ <;>
    first
    | omega
    | (apply BitVec.eq_of_toNat_eq; simp only [slice, BitVec.toNat_ofNat]; omega)
    | (simp [holds]; omega)

theorem lay_en42 (c : Nat) (hc : c < 256) (x0 : BitVec 6) (x1 : BitVec 6) :
    let W := c + put x0 14 + put x1 8
    W % 256 = c ∧ slice 6 W 14 = x0 ∧ slice 6 W 8 = x1 ∧ W < 2 ^ 20 := by
  intro W
  have h0 := x0.isLt; have h1 := x1.isLt;
  have hw : W = c + x0.toNat * 2 ^ 14 + x1.toNat * 2 ^ 8 := by simp only [W, put]
  clear_value W
  refine ⟨?_, ?_, ?_, ?_⟩ <;>
    first
    | omega
    | (apply BitVec.eq_of_toNat_eq; simp only [slice, BitVec.toNat_ofNat]; omega)
    | (simp [holds]; omega)

theorem lay_en43 (c : Nat) (hc : c < 256) (x0 : BitVec 3) :
    let W := c + put x0 14
    W % 256 = c ∧ slice 3 W 14 = x0 ∧ holds W 8 6 0 = true ∧ holds W 17 3 0 = true ∧ W < 2 ^ 20 := by
  intro W
  have h0 := x0.isLt;
  have hw : W = c + x0.toNat * 2 ^ 14 := by simp only [W, put]
  clear_value W
  refine ⟨?_, ?_, ?_, ?_, ?_⟩ <;>
    first
    | omega
    | (apply BitVec.eq_of_toNat_eq; simp only [slice, BitVec.toNat_ofNat]; omega)
    | (simp [holds]; omega)

theorem lay_en44 (c : Nat) (hc : c < 256) (x0 : BitVec 3) (x1 : BitVec 6) :
    let W := c + put x0 14 + put x1 8
    W % 256 = c ∧ slice 3 W 14 = x0 ∧ slice 6 W 8 = x1 ∧ holds W 17 3 0 = true ∧ W < 2 ^ 20 := by
  intro W
  have h0 := x0.isLt; have h1 := x1.isLt;
  have hw : W = c + x0.toNat * 2 ^ 14 + x1.toNat * 2 ^ 8 := by simp only [W, put]
  clear_value W
  refine ⟨?_, ?_, ?_, ?_, ?_⟩ <;>
    first
    | omega
    | (apply BitVec.eq_of_toNat_eq; simp only [slice, BitVec.toNat_ofNat]; omega)
    | (simp [holds]; omega)

theorem lay_en45 (c : Nat) (hc : c < 256) (x0 : BitVec 5) (x1 : BitVec 6) :
    let W := c + put x0 14 + put x1 8
    W % 256 = c ∧ slice 5 W 14 = x0 ∧ slice 6 W 8 = x1 ∧ holds W 19 1 0 = true ∧ W < 2 ^ 20 := by
  intro W
  have h0 := x0.isLt; have h1 := x1.isLt;
  have hw : W = c + x0.toNat * 2 ^ 14 + x1.toNat * 2 ^ 8 := by simp only [W, put]
  clear_value W
  refine ⟨?_, ?_, ?_, ?_, ?_⟩ <;>
    first
    | omega
    | (apply BitVec.eq_of_toNat_eq; simp only [slice, BitVec.toNat_ofNat]; omega)
    | (simp [holds]; omega)

theorem lay_en46 (c : Nat) (hc : c < 256) (x0 : BitVec 5) :
    let W := c + put x0 14
    W % 256 = c ∧ slice 5 W 14 = x0 ∧ holds W 8 6 0 = true ∧ holds W 19 1 0 = true ∧ W < 2 ^ 20 := by
  intro W
  have h0 := x0.isLt;
  have hw : W = c + x0.toNat * 2 ^ 14 := by simp only [W, put]
  clear_value W
  refine ⟨?_, ?_, ?_, ?_, ?_⟩ <;>
    first
    | omega
    | (apply BitVec.eq_of_toNat_eq; simp only [slice, BitVec.toNat_ofNat]; omega)
    | (simp [holds]; omega)

theorem lay_en47 (c : Nat) (hc : c < 256) (x0 : BitVec 6) :
    let W := c + put x0 8
    W % 256 = c ∧ slice 6 W 8 = x0 ∧ holds W 14 6 0 = true ∧ W < 2 ^ 20 := by
  intro W
  have h0 := x0.isLt;
  have hw : W = c + x0.toNat * 2 ^ 8 := by simp only [W, put]
  clear_value W
  refine ⟨?_, ?_, ?_, ?_⟩ <;>
    first
    | omega
    | (apply BitVec.eq_of_toNat_eq; simp only [slice, BitVec.toNat_ofNat]; omega)
    | (simp [holds]; omega)

theorem lay_en48 (c : Nat) (hc : c < 256)  :
    let W := c
    W % 256 = c ∧ holds W 8 12 0 = true ∧ W < 2 ^ 20 := by
  intro W
  have hw : W = c := by rfl
  clear_value W
  refine ⟨?_, ?_, ?_⟩ <;>
    first
    | omega
    | (apply BitVec.eq_of_toNat_eq; simp only [slice, BitVec.toNat_ofNat]; omega)
    | (simp [holds]; omega)

theorem lay_en49 (c : Nat) (hc : c < 256) (x0 : BitVec 4) (x1 : BitVec 6) :
    let W := c + put x0 14 + put x1 8
    W % 256 = c ∧ slice 4 W 14 = x0 ∧ slice 6 W 8 = x1 ∧ holds W 18 2 0 = true ∧ W < 2 ^ 20 := by
  intro W
  have h0 := x0.isLt; have h1 := x1.isLt;
  have hw : W = c + x0.toNat * 2 ^ 14 + x1.toNat * 2 ^ 8 := by simp only [W, put]
  clear_value W
  refine ⟨?_, ?_, ?_, ?_, ?_⟩ <;>
    first
    | omega
    | (apply BitVec.eq_of_toNat_eq; simp only [slice, BitVec.toNat_ofNat]; omega)
    | (simp [holds]; omega)

theorem lay_en50 (c : Nat) (hc : c < 256) (x0 : BitVec 5) (x1 : BitVec 3) :
    let W := c + put x0 14 + put x1 8
    W % 256 = c ∧ slice 5 W 14 = x0 ∧ slice 3 W 8 = x1 ∧ holds W 11 3 0 = true ∧ holds W 19 1 0 = true ∧ W < 2 ^ 20 := by
  intro W
  have h0 := x0.isLt; have h1 := x1.isLt;
  have hw : W = c + x0.toNat * 2 ^ 14 + x1.toNat * 2 ^ 8 := by simp only [W, put]
  clear_value W
  refine ⟨?_, ?_, ?_, ?_, ?_, ?_⟩ <;>
    first
    | omega
    | (apply BitVec.eq_of_toNat_eq; simp only [slice, BitVec.toNat_ofNat]; omega)
    | (simp [holds]; omega)

theorem lay_en51 (c : Nat) (hc : c < 256) (x0 : BitVec 6) :
    let W := c + put x0 14
    W % 256 = c ∧ slice 6 W 14 = x0 ∧ holds W 8 6 0 = true ∧ W < 2 ^ 20 := by
  intro W
  have h0 := x0.isLt;
  have hw : W = c + x0.toNat * 2 ^ 14 := by simp only [W, put]
  clear_value W
  refine ⟨?_, ?_, ?_, ?_⟩ <;>
    first
    | omega
    | (apply BitVec.eq_of_toNat_eq; simp only [slice, BitVec.toNat_ofNat]; omega)
    | (simp [holds]; omega)

theorem mk {i : Instr} {w n : Nat} (he : encode i = [w]) (hs : slotWidth (homeSlot i) = n)
    (hd : i.wellFormed = true → ∀ k, slotTakes k i = true → decodeWords k [w] = some i) (hw : w < 2 ^ n) : Statement i := by
  unfold Statement; rw [he, hs]; exact ⟨hd, fun x hx => by obtain rfl := List.mem_singleton.mp hx; exact hw⟩
theorem mk2 {i : Instr} {w v n : Nat} (he : encode i = [w, v]) (hs : slotWidth (homeSlot i) = n)
    (hd : i.wellFormed = true → ∀ k, slotTakes k i = true → decodeWords k [w, v] = some i) (hw : w < 2 ^ n) (hv : v < 2 ^ n) : Statement i := by
  unfold Statement; rw [he, hs]; exact ⟨hd, fun x hx => by
    obtain rfl | hx := List.mem_cons.mp hx
    · exact hw
    · obtain rfl := List.mem_singleton.mp hx
      exact hv⟩
theorem none {i : Instr} (he : encode i = []) (ht : ∀ k, slotTakes k i = false) : Statement i :=
  ⟨fun _ k hk => absurd (ht k ▸ hk) Bool.false_ne_true, by rw [he]; exact fun _ h => absurd h List.not_mem_nil⟩
theorem dCT {k w : Nat} {i : Instr} (hk : k = 0) (r : rawCT w = some i) (u : unusedCT w = true) (h : i.wellFormed = true) :
    decodeWords k [w] = some i := by subst hk; simp [decodeWords, decodeSlot, rawSlot, unusedSlot, r, u, h]
theorem dS {k w : Nat} {i : Instr} (hk : k = 1 ∨ k = 2) (hl : w % 256 ≠ 0x29) (r : ∀ hi, rawS w hi = some i) (u : unusedS w = true)
    (h : i.wellFormed = true) : decodeWords k [w] = some i := by
  obtain rfl | rfl := hk <;> simp [decodeWords, decodeSlot, rawSlot, unusedSlot, hl, r, u, h]
theorem dLiw {k w v : Nat} {i : Instr} (hk : k = 1) (r : rawS w v = some i) (u : unusedS w = true) (h : i.wellFormed = true) :
    decodeWords k [w, v] = some i := by subst hk; simp [decodeWords, decodeSlot, rawSlot, unusedSlot, r, u, h]
theorem dAG {k w : Nat} {i : Instr} (hk : k = 3) (r : rawAG w = some i) (u : unusedAG w = true) (h : i.wellFormed = true) :
    decodeWords k [w] = some i := by subst hk; simp [decodeWords, decodeSlot, rawSlot, unusedSlot, r, u, h]
theorem dL {k w : Nat} {i : Instr} (hk : k = 4 ∨ k = 5) (r : rawL w = some i) (u : unusedL w = true) (h : i.wellFormed = true) :
    decodeWords k [w] = some i := by obtain rfl | rfl := hk <;> simp [decodeWords, decodeSlot, rawSlot, unusedSlot, r, u, h]
theorem dV {k w : Nat} {i : Instr} (hk : k = 6 ∨ k = 7 ∨ k = 8 ∨ k = 9) (hl : ¬ (0x40 ≤ w % 128 ∧ w % 128 ≤ 0x4B)) (r : rawV w = some i)
    (u : unusedV w = true) (h : i.wellFormed = true) : decodeWords k [w] = some i := by
  obtain rfl | rfl | rfl | rfl := hk <;> simp [decodeWords, decodeSlot, rawSlot, unusedSlot, hl, r, u, h]
theorem dV3 {k w : Nat} {i : Instr} (hk : k = 9) (r : rawV w = some i) (u : unusedV w = true) (h : i.wellFormed = true) :
    decodeWords k [w] = some i := by subst hk; simp [decodeWords, decodeSlot, rawSlot, unusedSlot, r, u, h]
theorem dMX {k w : Nat} {i : Instr} (hk : k = 10) (r : rawMX w = some i) (u : unusedMX w = true) (h : i.wellFormed = true) :
    decodeWords k [w] = some i := by subst hk; simp [decodeWords, decodeSlot, rawSlot, unusedSlot, r, u, h]
theorem dEN {k w : Nat} {i : Instr} (hk : k = 11) (r : rawEN w = some i) (u : unusedEN w = true) (h : i.wellFormed = true) :
    decodeWords k [w] = some i := by subst hk; simp [decodeWords, decodeSlot, rawSlot, unusedSlot, r, u, h]

theorem ct_slot {k : Nat} {i : Instr} (h : slotTakes k i = true) (e : homeSlot i = 0) : k = 0 := by simpa [slotTakes, e] using h
theorem s_slot {k : Nat} {i : Instr} (h : slotTakes k i = true) (e : homeSlot i = 1) : k = 1 ∨ k = 2 := by
  simp only [slotTakes, e, Bool.or_eq_true, Bool.and_eq_true, decide_eq_true_eq] at h; omega
theorem liw_slot {k : Nat} {e : BitVec 2} {d : BitVec 6} {m : BitVec 48} (h : slotTakes k (.liw e d m) = true) (_ : homeSlot (.liw e d m) = 1) : k = 1 := by
  have n : (encode (.liw e d m)).length = 2 := rfl
  simpa [slotTakes, show homeSlot (.liw e d m) = 1 from rfl, n] using h
theorem ag_slot {k : Nat} {i : Instr} (h : slotTakes k i = true) (e : homeSlot i = 3) : k = 3 := by simpa [slotTakes, e] using h
theorem l_slot {k : Nat} {i : Instr} (h : slotTakes k i = true) (e : homeSlot i = 4) : k = 4 ∨ k = 5 := by simpa [slotTakes, e] using h
theorem v_slot {k : Nat} {i : Instr} (h : slotTakes k i = true) (e : homeSlot i = 9) : k = 6 ∨ k = 7 ∨ k = 8 ∨ k = 9 := by
  simp only [slotTakes, e, Bool.or_eq_true, Bool.and_eq_true, decide_eq_true_eq] at h; omega
theorem v3only_slot {k : Nat} {i : Instr} (h : slotTakes k i = true) (v : 0x40 ≤ (encode i).headD 0 % 128 ∧ (encode i).headD 0 % 128 ≤ 0x4B)
    (e : homeSlot i = 9) : k = 9 := by
  simp only [slotTakes, e, Bool.or_eq_true, Bool.and_eq_true, Bool.not_eq_true', decide_eq_true_eq, decide_eq_false_iff_not] at h
  obtain h | ⟨-, h⟩ := h
  · exact h
  · exact absurd v h
theorem mx_slot {k : Nat} {i : Instr} (h : slotTakes k i = true) (e : homeSlot i = 10) : k = 10 := by simpa [slotTakes, e] using h
theorem en_slot {k : Nat} {i : Instr} (h : slotTakes k i = true) (e : homeSlot i = 11) : k = 11 := by simpa [slotTakes, e] using h

theorem reset : Statement .reset := none rfl fun _ => rfl

theorem powerFault (e : RailEvent) : Statement (.powerFault e) := none rfl fun _ => rfl

theorem thermalTrip (die : Nat) : Statement (.thermalTrip die) := none rfl fun _ => rfl

theorem machineCheck (e : Check) : Statement (.machineCheck e) := none rfl fun _ => rfl

theorem selfCheckFail : Statement .selfCheckFail := none rfl fun _ => rfl

theorem stage1Verify : Statement .stage1Verify := none rfl fun _ => rfl

theorem memoryLinkTraining (trained : BitVec 48) : Statement (.memoryLinkTraining trained) := none rfl fun _ => rfl

theorem stage2Verify : Statement .stage2Verify := none rfl fun _ => rfl

theorem imageChunk (r : MgmtReq) : Statement (.imageChunk r) := none rfl fun _ => rfl

theorem imageCommit (r : MgmtReq) : Statement (.imageCommit r) := none rfl fun _ => rfl

theorem measurementExtend (bodyHash : BitVec 256) (version : BitVec 32) : Statement (.measurementExtend bodyHash version) := none rfl fun _ => rfl

theorem quote (r : MgmtReq) : Statement (.quote r) := none rfl fun _ => rfl

theorem readPage (r : MgmtReq) : Statement (.readPage r) := none rfl fun _ => rfl

theorem mgmtDrain (r : MgmtReq) : Statement (.mgmtDrain r) := none rfl fun _ => rfl

theorem mgmtResume (r : MgmtReq) : Statement (.mgmtResume r) := none rfl fun _ => rfl

theorem setcap (r : MgmtReq) : Statement (.setcap r) := none rfl fun _ => rfl

theorem mgmtUnknownOperation (r : MgmtReq) : Statement (.mgmtUnknownOperation r) := none rfl fun _ => rfl

theorem datagramDiscard (port : Nat) (d : Discard) : Statement (.datagramDiscard port d) := none rfl fun _ => rfl

theorem socketDatagram (core : Nat) (data : List Byte) : Statement (.socketDatagram core data) := none rfl fun _ => rfl

theorem roceWrite (port : Nat) (rkey : BitVec 32) (va : BitVec 64) (data : List Byte) : Statement (.roceWrite port rkey va data) := none rfl fun _ => rfl

theorem roceRead (port : Nat) (rkey : BitVec 32) (va : BitVec 64) (len : Nat) : Statement (.roceRead port rkey va len) := none rfl fun _ => rfl

theorem devcmdStart : Statement .devcmdStart := none rfl fun _ => rfl

theorem devcmdDrain : Statement .devcmdDrain := none rfl fun _ => rfl

theorem devcmdResume : Statement .devcmdResume := none rfl fun _ => rfl

theorem capset (v : BitVec 64) : Statement (.capset v) := none rfl fun _ => rfl

theorem capEffective : Statement .capEffective := none rfl fun _ => rfl

theorem mkctlInstall : Statement .mkctlInstall := none rfl fun _ => rfl

theorem mkctlRemove : Statement .mkctlRemove := none rfl fun _ => rfl

theorem ttsync (v : BitVec 64) : Statement (.ttsync v) := none rfl fun _ => rfl

theorem tenantTableReload : Statement .tenantTableReload := none rfl fun _ => rfl

theorem winsync (v : BitVec 64) : Statement (.winsync v) := none rfl fun _ => rfl

theorem windowDeregisterComplete : Statement .windowDeregisterComplete := none rfl fun _ => rfl

theorem ctxdispResume (tile ctx : Nat) : Statement (.ctxdispResume tile ctx) := none rfl fun _ => rfl

theorem ctxdispAbandon (tile ctx : Nat) (cause : BitVec 7) : Statement (.ctxdispAbandon tile ctx cause) := none rfl fun _ => rfl

theorem nanstatClear (tile : Nat) (mask : BitVec 64) : Statement (.nanstatClear tile mask) := none rfl fun _ => rfl

theorem registerWrite (off : Nat) (v : BitVec 64) : Statement (.registerWrite off v) := none rfl fun _ => rfl

theorem ccCompare (core : Nat) : Statement (.ccCompare core) := none rfl fun _ => rfl

theorem interruptTaken (core : Nat) : Statement (.interruptTaken core) := none rfl fun _ => rfl

theorem weathervaneUpdate (page : Nat) : Statement (.weathervaneUpdate page) := none rfl fun _ => rfl

theorem memlinkRequest (link : Nat) (atModule : Bool) (flit : BitVec 512) : Statement (.memlinkRequest link atModule flit) := none rfl fun _ => rfl

theorem memlinkData (link : Nat) (atModule : Bool) (flit : BitVec 512) : Statement (.memlinkData link atModule flit) := none rfl fun _ => rfl

theorem memlinkAck (link : Nat) (atModule : Bool) (flit : BitVec 512) : Statement (.memlinkAck link atModule flit) := none rfl fun _ => rfl

theorem memlinkNak (link : Nat) (atModule : Bool) (flit : BitVec 512) : Statement (.memlinkNak link atModule flit) := none rfl fun _ => rfl

theorem memlinkIdle (link : Nat) (atModule : Bool) (flit : BitVec 512) : Statement (.memlinkIdle link atModule flit) := none rfl fun _ => rfl

theorem memlinkRetrain (link : Nat) (ok : Bool) : Statement (.memlinkRetrain link ok) := none rfl fun _ => rfl

theorem memlinkRetrainTimeout (link : Nat) : Statement (.memlinkRetrainTimeout link) := none rfl fun _ => rfl

theorem dramScrub (link : Nat) : Statement (.dramScrub link) := none rfl fun _ => rfl

theorem remoteStore (port : Nat) (flits : List (BitVec 512)) : Statement (.remoteStore port flits) := none rfl fun _ => rfl

theorem remoteLoadRequest (port : Nat) (flits : List (BitVec 512)) : Statement (.remoteLoadRequest port flits) := none rfl fun _ => rfl

theorem remoteLoadReturn (port : Nat) (flits : List (BitVec 512)) : Statement (.remoteLoadReturn port flits) := none rfl fun _ => rfl

theorem copyData (port : Nat) (flits : List (BitVec 512)) : Statement (.copyData port flits) := none rfl fun _ => rfl

theorem barrierArrival (port : Nat) (flits : List (BitVec 512)) : Statement (.barrierArrival port flits) := none rfl fun _ => rfl

theorem send (port : Nat) (flits : List (BitVec 512)) : Statement (.send port flits) := none rfl fun _ => rfl

theorem receiveCredit (port : Nat) (flits : List (BitVec 512)) : Statement (.receiveCredit port flits) := none rfl fun _ => rfl

theorem deduplicationReference (port : Nat) (flits : List (BitVec 512)) : Statement (.deduplicationReference port flits) := none rfl fun _ => rfl

theorem deduplicationNak (port : Nat) (flits : List (BitVec 512)) : Statement (.deduplicationNak port flits) := none rfl fun _ => rfl

theorem retractionNotice (port : Nat) (flits : List (BitVec 512)) : Statement (.retractionNotice port flits) := none rfl fun _ => rfl

theorem hopAck (port : Nat) (flit : BitVec 512) : Statement (.hopAck port flit) := none rfl fun _ => rfl

theorem hopNak (port : Nat) (flit : BitVec 512) : Statement (.hopNak port flit) := none rfl fun _ => rfl

theorem atomicRequest (port : Nat) (flits : List (BitVec 512)) : Statement (.atomicRequest port flits) := none rfl fun _ => rfl

theorem atomicReturn (port : Nat) (flits : List (BitVec 512)) : Statement (.atomicReturn port flits) := none rfl fun _ => rfl

theorem fabricReservedKind (port : Nat) (flit : BitVec 512) : Statement (.fabricReservedKind port flit) := none rfl fun _ => rfl

theorem fabricRetrain (port : Nat) (peer : BitVec 64) : Statement (.fabricRetrain port peer) := none rfl fun _ => rfl

theorem fabricRetrainFail (port : Nat) : Statement (.fabricRetrainFail port) := none rfl fun _ => rfl

theorem sessionKeyAgreement (port : Nat) : Statement (.sessionKeyAgreement port) := none rfl fun _ => rfl

theorem enqAcceptance (core : Nat) : Statement (.enqAcceptance core) := none rfl fun _ => rfl

theorem selectionRound (die : Nat) : Statement (.selectionRound die) := none rfl fun _ => rfl

theorem agePeriod (tenant queue : Nat) : Statement (.agePeriod tenant queue) := none rfl fun _ => rfl

theorem kernelDescriptorLoad (tile ctx : Nat) : Statement (.kernelDescriptorLoad tile ctx) := none rfl fun _ => rfl

theorem tileCut (tile : Nat) : Statement (.tileCut tile) := none rfl fun _ => rfl

theorem tileRestore (tile : Nat) : Statement (.tileRestore tile) := none rfl fun _ => rfl

theorem stealRequest (tile ctx : Nat) : Statement (.stealRequest tile ctx) := none rfl fun _ => rfl

theorem stealAnswer (tile : Nat) : Statement (.stealAnswer tile) := none rfl fun _ => rfl

theorem nodeDone (graph node : Nat) : Statement (.nodeDone graph node) := none rfl fun _ => rfl

theorem graphComplete (graph : Nat) : Statement (.graphComplete graph) := none rfl fun _ => rfl

theorem graphKillComplete (graph : Nat) : Statement (.graphKillComplete graph) := none rfl fun _ => rfl

theorem joinDecrement (tile ctx : Nat) : Statement (.joinDecrement tile ctx) := none rfl fun _ => rfl

theorem bundleIssue (site : Site) : Statement (.bundleIssue site) := none rfl fun _ => rfl

theorem codeFetch (u : UnitId) : Statement (.codeFetch u) := none rfl fun _ => rfl

theorem resultLanding (u : UnitId) : Statement (.resultLanding u) := none rfl fun _ => rfl

theorem hopenExecute (tile ctx : Nat) : Statement (.hopenExecute tile ctx) := none rfl fun _ => rfl

theorem hpubExecute (tile ctx : Nat) : Statement (.hpubExecute tile ctx) := none rfl fun _ => rfl

theorem hrelExecute (tile ctx : Nat) : Statement (.hrelExecute tile ctx) := none rfl fun _ => rfl

theorem hfreeComplete (tile handle : Nat) : Statement (.hfreeComplete tile handle) := none rfl fun _ => rfl

theorem copyAdmission (tile ctx : Nat) : Statement (.copyAdmission tile ctx) := none rfl fun _ => rfl

theorem copyAccept (tile ctx : Nat) : Statement (.copyAccept tile ctx) := none rfl fun _ => rfl

theorem copyPark (tile slot : Nat) : Statement (.copyPark tile slot) := none rfl fun _ => rfl

theorem copyComplete (tile slot : Nat) : Statement (.copyComplete tile slot) := none rfl fun _ => rfl

theorem remoteAccessPerform (tile ctx idx : Nat) : Statement (.remoteAccessPerform tile ctx idx) := none rfl fun _ => rfl

theorem ldxReturn (tile ctx q : Nat) : Statement (.ldxReturn tile ctx q) := none rfl fun _ => rfl

theorem matrixCommandStart (tile : Nat) : Statement (.matrixCommandStart tile) := none rfl fun _ => rfl

theorem nibBeat (tile : Nat) : Statement (.nibBeat tile) := none rfl fun _ => rfl

theorem arrayBeat (tile : Nat) : Statement (.arrayBeat tile) := none rfl fun _ => rfl

theorem drainRowPush (tile : Nat) : Statement (.drainRowPush tile) := none rfl fun _ => rfl

theorem cbldBuild (tile : Nat) : Statement (.cbldBuild tile) := none rfl fun _ => rfl

theorem trdefExecute (tile : Nat) : Statement (.trdefExecute tile) := none rfl fun _ => rfl

theorem brushUnitAccept (cluster : Nat) : Statement (.brushUnitAccept cluster) := none rfl fun _ => rfl

theorem brushUnitComplete (cluster : Nat) : Statement (.brushUnitComplete cluster) := none rfl fun _ => rfl

theorem xldExecute (tile ctx : Nat) : Statement (.xldExecute tile ctx) := none rfl fun _ => rfl

theorem xinvStep (tile ctx : Nat) : Statement (.xinvStep tile ctx) := none rfl fun _ => rfl

theorem xinvComplete (tile ctx : Nat) : Statement (.xinvComplete tile ctx) := none rfl fun _ => rfl

theorem gatherAccept (tile ctx : Nat) : Statement (.gatherAccept tile ctx) := none rfl fun _ => rfl

theorem gatherBlock (tile ctx : Nat) : Statement (.gatherBlock tile ctx) := none rfl fun _ => rfl

theorem gatherComplete (tile ctx : Nat) : Statement (.gatherComplete tile ctx) := none rfl fun _ => rfl

theorem spliceExecute (tile ctx : Nat) : Statement (.spliceExecute tile ctx) := none rfl fun _ => rfl

theorem retouchJobAccept (tile ctx : Nat) : Statement (.retouchJobAccept tile ctx) := none rfl fun _ => rfl

theorem repairReport (tile ctx : Nat) : Statement (.repairReport tile ctx) := none rfl fun _ => rfl

theorem retouchWriteback (die place : Nat) : Statement (.retouchWriteback die place) := none rfl fun _ => rfl

theorem prefixBucketStep (tile ctx : Nat) : Statement (.prefixBucketStep tile ctx) := none rfl fun _ => rfl

theorem winnowPassAccept (die : Nat) : Statement (.winnowPassAccept die) := none rfl fun _ => rfl

theorem winnowPassEnd (die : Nat) : Statement (.winnowPassEnd die) := none rfl fun _ => rfl

theorem winnowPark (die : Nat) : Statement (.winnowPark die) := none rfl fun _ => rfl

theorem fsendAccept (tile ctx : Nat) : Statement (.fsendAccept tile ctx) := none rfl fun _ => rfl

theorem frecvPost (tile ctx : Nat) : Statement (.frecvPost tile ctx) := none rfl fun _ => rfl

theorem timingReplay (tile : Nat) (again : Bool) : Statement (.timingReplay tile again) := none rfl fun _ => rfl

theorem replayWindowEnd (tile : Nat) : Statement (.replayWindowEnd tile) := none rfl fun _ => rfl

theorem redundantCompare (tile ctx : Nat) : Statement (.redundantCompare tile ctx) := none rfl fun _ => rfl

theorem redundantTimeout (tile ctx : Nat) : Statement (.redundantTimeout tile ctx) := none rfl fun _ => rfl

theorem fieldTestStart (die : Nat) : Statement (.fieldTestStart die) := none rfl fun _ => rfl

theorem fieldTestPass (cluster : Nat) : Statement (.fieldTestPass cluster) := none rfl fun _ => rfl

theorem fieldTestFail (cluster : Nat) : Statement (.fieldTestFail cluster) := none rfl fun _ => rfl

theorem raw_nop (w : Nat) (l0 : w % 32 = 0x0) : rawCT w = some (Instr.nop (slice 4 w 5)) := by
  unfold rawCT; rw [l0]; rfl
theorem un_nop (w : Nat) (l0 : w % 32 = 0x0) : unusedCT w = (holds w 9 11 0) := by
  unfold unusedCT; rw [l0]; rfl

theorem nop (p : BitVec 4) : Statement (.nop p) := by
  have l := lay_ct0 0x0 (by decide) p
  refine mk (w := 0x00 + put p 5) (n := 20) rfl rfl ?_ ?_
  all_goals generalize 0x00 + put p 5 = w at l ⊢
  · obtain ⟨l0, l1, l2, l3⟩ := l
    exact fun h k hk => dCT (ct_slot hk rfl) (by rw [raw_nop w l0, l1]) (by rw [un_nop w l0, l2]) h
  · exact l.2.2.2

theorem raw_br (w : Nat) (l0 : w % 32 = 0x1) : rawCT w = some (Instr.br (slice 4 w 5) (slice 11 w 9)) := by
  unfold rawCT; rw [l0]; rfl
theorem un_br (w : Nat) (l0 : w % 32 = 0x1) : unusedCT w = true := by
  unfold unusedCT; rw [l0]; rfl

theorem br (p : BitVec 4) (off : BitVec 11) : Statement (.br p off) := by
  have l := lay_ct1 0x1 (by decide) p off
  refine mk (w := 0x01 + put p 5 + put off 9) (n := 20) rfl rfl ?_ ?_
  all_goals generalize 0x01 + put p 5 + put off 9 = w at l ⊢
  · obtain ⟨l0, l1, l2, l3⟩ := l
    exact fun h k hk => dCT (ct_slot hk rfl) (by rw [raw_br w l0, l1, l2]) (un_br w l0) h
  · exact l.2.2.2

theorem raw_brp (w : Nat) (l0 : w % 32 = 0x2) : rawCT w = some (Instr.brp (slice 4 w 5) (slice 11 w 9)) := by
  unfold rawCT; rw [l0]; rfl
theorem un_brp (w : Nat) (l0 : w % 32 = 0x2) : unusedCT w = true := by
  unfold unusedCT; rw [l0]; rfl

theorem brp (p : BitVec 4) (off : BitVec 11) : Statement (.brp p off) := by
  have l := lay_ct1 0x2 (by decide) p off
  refine mk (w := 0x02 + put p 5 + put off 9) (n := 20) rfl rfl ?_ ?_
  all_goals generalize 0x02 + put p 5 + put off 9 = w at l ⊢
  · obtain ⟨l0, l1, l2, l3⟩ := l
    exact fun h k hk => dCT (ct_slot hk rfl) (by rw [raw_brp w l0, l1, l2]) (un_brp w l0) h
  · exact l.2.2.2

theorem raw_jr (w : Nat) (l0 : w % 32 = 0x3) : rawCT w = some (Instr.jr (slice 4 w 5) (slice 6 w 9)) := by
  unfold rawCT; rw [l0]; rfl
theorem un_jr (w : Nat) (l0 : w % 32 = 0x3) : unusedCT w = (holds w 15 5 0) := by
  unfold unusedCT; rw [l0]; rfl

theorem jr (p : BitVec 4) (g : BitVec 6) : Statement (.jr p g) := by
  have l := lay_ct2 0x3 (by decide) p g
  refine mk (w := 0x03 + put p 5 + put g 9) (n := 20) rfl rfl ?_ ?_
  all_goals generalize 0x03 + put p 5 + put g 9 = w at l ⊢
  · obtain ⟨l0, l1, l2, l3, l4⟩ := l
    exact fun h k hk => dCT (ct_slot hk rfl) (by rw [raw_jr w l0, l1, l2]) (by rw [un_jr w l0, l3]) h
  · exact l.2.2.2.2

theorem raw_call (w : Nat) (l0 : w % 32 = 0x4) : rawCT w = some (Instr.call (slice 4 w 5) (slice 11 w 9)) := by
  unfold rawCT; rw [l0]; rfl
theorem un_call (w : Nat) (l0 : w % 32 = 0x4) : unusedCT w = true := by
  unfold unusedCT; rw [l0]; rfl

theorem call (p : BitVec 4) (off : BitVec 11) : Statement (.call p off) := by
  have l := lay_ct1 0x4 (by decide) p off
  refine mk (w := 0x04 + put p 5 + put off 9) (n := 20) rfl rfl ?_ ?_
  all_goals generalize 0x04 + put p 5 + put off 9 = w at l ⊢
  · obtain ⟨l0, l1, l2, l3⟩ := l
    exact fun h k hk => dCT (ct_slot hk rfl) (by rw [raw_call w l0, l1, l2]) (un_call w l0) h
  · exact l.2.2.2

theorem raw_callr (w : Nat) (l0 : w % 32 = 0x5) : rawCT w = some (Instr.callr (slice 4 w 5) (slice 6 w 9)) := by
  unfold rawCT; rw [l0]; rfl
theorem un_callr (w : Nat) (l0 : w % 32 = 0x5) : unusedCT w = (holds w 15 5 0) := by
  unfold unusedCT; rw [l0]; rfl

theorem callr (p : BitVec 4) (g : BitVec 6) : Statement (.callr p g) := by
  have l := lay_ct2 0x5 (by decide) p g
  refine mk (w := 0x05 + put p 5 + put g 9) (n := 20) rfl rfl ?_ ?_
  all_goals generalize 0x05 + put p 5 + put g 9 = w at l ⊢
  · obtain ⟨l0, l1, l2, l3, l4⟩ := l
    exact fun h k hk => dCT (ct_slot hk rfl) (by rw [raw_callr w l0, l1, l2]) (by rw [un_callr w l0, l3]) h
  · exact l.2.2.2.2

theorem raw_ret (w : Nat) (l0 : w % 32 = 0x6) : rawCT w = some (Instr.ret (slice 4 w 5)) := by
  unfold rawCT; rw [l0]; rfl
theorem un_ret (w : Nat) (l0 : w % 32 = 0x6) : unusedCT w = (holds w 9 11 0) := by
  unfold unusedCT; rw [l0]; rfl

theorem ret (p : BitVec 4) : Statement (.ret p) := by
  have l := lay_ct0 0x6 (by decide) p
  refine mk (w := 0x06 + put p 5) (n := 20) rfl rfl ?_ ?_
  all_goals generalize 0x06 + put p 5 = w at l ⊢
  · obtain ⟨l0, l1, l2, l3⟩ := l
    exact fun h k hk => dCT (ct_slot hk rfl) (by rw [raw_ret w l0, l1]) (by rw [un_ret w l0, l2]) h
  · exact l.2.2.2

theorem raw_loop (w : Nat) (l0 : w % 32 = 0x7) : rawCT w = some (Instr.loop (slice 4 w 5) (slice 11 w 9)) := by
  unfold rawCT; rw [l0]; rfl
theorem un_loop (w : Nat) (l0 : w % 32 = 0x7) : unusedCT w = true := by
  unfold unusedCT; rw [l0]; rfl

theorem loop (n : BitVec 4) (off : BitVec 11) : Statement (.loop n off) := by
  have l := lay_ct1 0x7 (by decide) n off
  refine mk (w := 0x07 + put n 5 + put off 9) (n := 20) rfl rfl ?_ ?_
  all_goals generalize 0x07 + put n 5 + put off 9 = w at l ⊢
  · obtain ⟨l0, l1, l2, l3⟩ := l
    exact fun h k hk => dCT (ct_slot hk rfl) (by rw [raw_loop w l0, l1, l2]) (un_loop w l0) h
  · exact l.2.2.2

theorem raw_endTask (w : Nat) (l0 : w % 32 = 0x8) : rawCT w = some (Instr.endTask (slice 4 w 5)) := by
  unfold rawCT; rw [l0]; rfl
theorem un_endTask (w : Nat) (l0 : w % 32 = 0x8) : unusedCT w = (holds w 9 11 0) := by
  unfold unusedCT; rw [l0]; rfl

theorem endTask (p : BitVec 4) : Statement (.endTask p) := by
  have l := lay_ct0 0x8 (by decide) p
  refine mk (w := 0x08 + put p 5) (n := 20) rfl rfl ?_ ?_
  all_goals generalize 0x08 + put p 5 = w at l ⊢
  · obtain ⟨l0, l1, l2, l3⟩ := l
    exact fun h k hk => dCT (ct_slot hk rfl) (by rw [raw_endTask w l0, l1]) (by rw [un_endTask w l0, l2]) h
  · exact l.2.2.2

theorem raw_endLoop (w : Nat) (l0 : w % 32 = 0x9) : rawCT w = some (Instr.endLoop (slice 4 w 5)) := by
  unfold rawCT; rw [l0]; rfl
theorem un_endLoop (w : Nat) (l0 : w % 32 = 0x9) : unusedCT w = (holds w 9 11 0) := by
  unfold unusedCT; rw [l0]; rfl

theorem endLoop (p : BitVec 4) : Statement (.endLoop p) := by
  have l := lay_ct0 0x9 (by decide) p
  refine mk (w := 0x09 + put p 5) (n := 20) rfl rfl ?_ ?_
  all_goals generalize 0x09 + put p 5 = w at l ⊢
  · obtain ⟨l0, l1, l2, l3⟩ := l
    exact fun h k hk => dCT (ct_slot hk rfl) (by rw [raw_endLoop w l0, l1]) (by rw [un_endLoop w l0, l2]) h
  · exact l.2.2.2

theorem raw_trap (w : Nat) (l0 : w % 32 = 0xA) : rawCT w = some (Instr.trap (slice 4 w 5) (slice 3 w 9)) := by
  unfold rawCT; rw [l0]; rfl
theorem un_trap (w : Nat) (l0 : w % 32 = 0xA) : unusedCT w = (holds w 12 8 0) := by
  unfold unusedCT; rw [l0]; rfl

theorem trap (p : BitVec 4) (code : BitVec 3) : Statement (.trap p code) := by
  have l := lay_ct3 0xA (by decide) p code
  refine mk (w := 0x0A + put p 5 + put code 9) (n := 20) rfl rfl ?_ ?_
  all_goals generalize 0x0A + put p 5 + put code 9 = w at l ⊢
  · obtain ⟨l0, l1, l2, l3, l4⟩ := l
    exact fun h k hk => dCT (ct_slot hk rfl) (by rw [raw_trap w l0, l1, l2]) (by rw [un_trap w l0, l3]) h
  · exact l.2.2.2.2

theorem raw_waith (w : Nat) (l0 : w % 32 = 0xB) : rawCT w = some (Instr.waith (slice 4 w 5) (slice 5 w 9) (slice 6 w 14)) := by
  unfold rawCT; rw [l0]; rfl
theorem un_waith (w : Nat) (l0 : w % 32 = 0xB) : unusedCT w = true := by
  unfold unusedCT; rw [l0]; rfl

theorem waith (p : BitVec 4) (h : BitVec 5) (cond : BitVec 6) : Statement (.waith p h cond) := by
  have l := lay_ct4 0xB (by decide) p h cond
  refine mk (w := 0x0B + put p 5 + put h 9 + put cond 14) (n := 20) rfl rfl ?_ ?_
  all_goals generalize 0x0B + put p 5 + put h 9 + put cond 14 = w at l ⊢
  · obtain ⟨l0, l1, l2, l3, l4⟩ := l
    exact fun hh k hk => dCT (ct_slot hk rfl) (by rw [raw_waith w l0, l1, l2, l3]) (un_waith w l0) hh
  · exact l.2.2.2.2

theorem raw_waitb (w : Nat) (l0 : w % 32 = 0xC) : rawCT w = some (Instr.waitb (slice 4 w 5) (slice 6 w 9)) := by
  unfold rawCT; rw [l0]; rfl
theorem un_waitb (w : Nat) (l0 : w % 32 = 0xC) : unusedCT w = (holds w 15 5 0) := by
  unfold unusedCT; rw [l0]; rfl

theorem waitb (p : BitVec 4) (g : BitVec 6) : Statement (.waitb p g) := by
  have l := lay_ct2 0xC (by decide) p g
  refine mk (w := 0x0C + put p 5 + put g 9) (n := 20) rfl rfl ?_ ?_
  all_goals generalize 0x0C + put p 5 + put g 9 = w at l ⊢
  · obtain ⟨l0, l1, l2, l3, l4⟩ := l
    exact fun h k hk => dCT (ct_slot hk rfl) (by rw [raw_waitb w l0, l1, l2]) (by rw [un_waitb w l0, l3]) h
  · exact l.2.2.2.2

theorem raw_add (w hi : Nat) (l0 : w % 256 = 0x1) : rawS w hi = some (Instr.add (slice 4 w 26) (slice 6 w 8) (slice 6 w 14) (slice 6 w 20)) := by
  unfold rawS; rw [l0]; rfl
theorem un_add (w : Nat) (l0 : w % 256 = 0x1) : unusedS w = (holds w 30 2 0) := by
  unfold unusedS; rw [l0]; rfl

theorem add (p : BitVec 4) (d a b : BitVec 6) : Statement (.add p d a b) := by
  have l := lay_s5 0x1 (by decide) p d a b
  refine mk (w := 0x01 + put p 26 + put d 8 + put a 14 + put b 20) (n := 32) rfl rfl ?_ ?_
  all_goals generalize 0x01 + put p 26 + put d 8 + put a 14 + put b 20 = w at l ⊢
  · obtain ⟨l0, l1, l2, l3, l4, l5, l6⟩ := l
    exact fun h k hk => dS (s_slot hk rfl) (by rw [l0]; decide) (fun hi => by rw [raw_add w hi l0, l1, l2, l3, l4]) (by rw [un_add w l0, l5]) h
  · exact l.2.2.2.2.2.2

theorem raw_addi (w hi : Nat) (l0 : w % 256 = 0x2) : rawS w hi = some (Instr.addi (slice 4 w 26) (slice 6 w 8) (slice 6 w 14) (slice 2 w 30 ++ slice 6 w 20)) := by
  unfold rawS; rw [l0]; rfl
theorem un_addi (w : Nat) (l0 : w % 256 = 0x2) : unusedS w = true := by
  unfold unusedS; rw [l0]; rfl

theorem addi (p : BitVec 4) (d a : BitVec 6) (imm : BitVec 8) : Statement (.addi p d a imm) := by
  have l := lay_s6 p d a imm
  refine mk (w := 0x02 + (imm.toNat % 64) * 2 ^ 20 + imm.toNat / 64 * 2 ^ 30 + put p 26 + put d 8 + put a 14) (n := 32) rfl rfl ?_ ?_
  all_goals generalize 0x02 + (imm.toNat % 64) * 2 ^ 20 + imm.toNat / 64 * 2 ^ 30 + put p 26 + put d 8 + put a 14 = w at l ⊢
  · obtain ⟨l0, l1, l2, l3, l4, l5⟩ := l
    exact fun h k hk => dS (s_slot hk rfl) (by rw [l0]; decide) (fun hi => by rw [raw_addi w hi l0, l1, l2, l3, l4]) (un_addi w l0) h
  · exact l.2.2.2.2.2

theorem raw_sub (w hi : Nat) (l0 : w % 256 = 0x3) : rawS w hi = some (Instr.sub (slice 4 w 26) (slice 6 w 8) (slice 6 w 14) (slice 6 w 20)) := by
  unfold rawS; rw [l0]; rfl
theorem un_sub (w : Nat) (l0 : w % 256 = 0x3) : unusedS w = (holds w 30 2 0) := by
  unfold unusedS; rw [l0]; rfl

theorem sub (p : BitVec 4) (d a b : BitVec 6) : Statement (.sub p d a b) := by
  have l := lay_s5 0x3 (by decide) p d a b
  refine mk (w := 0x03 + put p 26 + put d 8 + put a 14 + put b 20) (n := 32) rfl rfl ?_ ?_
  all_goals generalize 0x03 + put p 26 + put d 8 + put a 14 + put b 20 = w at l ⊢
  · obtain ⟨l0, l1, l2, l3, l4, l5, l6⟩ := l
    exact fun h k hk => dS (s_slot hk rfl) (by rw [l0]; decide) (fun hi => by rw [raw_sub w hi l0, l1, l2, l3, l4]) (by rw [un_sub w l0, l5]) h
  · exact l.2.2.2.2.2.2

theorem raw_mul (w hi : Nat) (l0 : w % 256 = 0x4) : rawS w hi = some (Instr.mul (slice 4 w 26) (slice 6 w 8) (slice 6 w 14) (slice 6 w 20)) := by
  unfold rawS; rw [l0]; rfl
theorem un_mul (w : Nat) (l0 : w % 256 = 0x4) : unusedS w = (holds w 30 2 0) := by
  unfold unusedS; rw [l0]; rfl

theorem mul (p : BitVec 4) (d a b : BitVec 6) : Statement (.mul p d a b) := by
  have l := lay_s5 0x4 (by decide) p d a b
  refine mk (w := 0x04 + put p 26 + put d 8 + put a 14 + put b 20) (n := 32) rfl rfl ?_ ?_
  all_goals generalize 0x04 + put p 26 + put d 8 + put a 14 + put b 20 = w at l ⊢
  · obtain ⟨l0, l1, l2, l3, l4, l5, l6⟩ := l
    exact fun h k hk => dS (s_slot hk rfl) (by rw [l0]; decide) (fun hi => by rw [raw_mul w hi l0, l1, l2, l3, l4]) (by rw [un_mul w l0, l5]) h
  · exact l.2.2.2.2.2.2

theorem raw_mulh (w hi : Nat) (l0 : w % 256 = 0x5) : rawS w hi = some (Instr.mulh (slice 4 w 26) (slice 6 w 8) (slice 6 w 14) (slice 6 w 20)) := by
  unfold rawS; rw [l0]; rfl
theorem un_mulh (w : Nat) (l0 : w % 256 = 0x5) : unusedS w = (holds w 30 2 0) := by
  unfold unusedS; rw [l0]; rfl

theorem mulh (p : BitVec 4) (d a b : BitVec 6) : Statement (.mulh p d a b) := by
  have l := lay_s5 0x5 (by decide) p d a b
  refine mk (w := 0x05 + put p 26 + put d 8 + put a 14 + put b 20) (n := 32) rfl rfl ?_ ?_
  all_goals generalize 0x05 + put p 26 + put d 8 + put a 14 + put b 20 = w at l ⊢
  · obtain ⟨l0, l1, l2, l3, l4, l5, l6⟩ := l
    exact fun h k hk => dS (s_slot hk rfl) (by rw [l0]; decide) (fun hi => by rw [raw_mulh w hi l0, l1, l2, l3, l4]) (by rw [un_mulh w l0, l5]) h
  · exact l.2.2.2.2.2.2

theorem raw_mulhu (w hi : Nat) (l0 : w % 256 = 0x6) : rawS w hi = some (Instr.mulhu (slice 4 w 26) (slice 6 w 8) (slice 6 w 14) (slice 6 w 20)) := by
  unfold rawS; rw [l0]; rfl
theorem un_mulhu (w : Nat) (l0 : w % 256 = 0x6) : unusedS w = (holds w 30 2 0) := by
  unfold unusedS; rw [l0]; rfl

theorem mulhu (p : BitVec 4) (d a b : BitVec 6) : Statement (.mulhu p d a b) := by
  have l := lay_s5 0x6 (by decide) p d a b
  refine mk (w := 0x06 + put p 26 + put d 8 + put a 14 + put b 20) (n := 32) rfl rfl ?_ ?_
  all_goals generalize 0x06 + put p 26 + put d 8 + put a 14 + put b 20 = w at l ⊢
  · obtain ⟨l0, l1, l2, l3, l4, l5, l6⟩ := l
    exact fun h k hk => dS (s_slot hk rfl) (by rw [l0]; decide) (fun hi => by rw [raw_mulhu w hi l0, l1, l2, l3, l4]) (by rw [un_mulhu w l0, l5]) h
  · exact l.2.2.2.2.2.2

theorem raw_div (w hi : Nat) (l0 : w % 256 = 0x7) : rawS w hi = some (Instr.div (slice 4 w 26) (slice 6 w 8) (slice 6 w 14) (slice 6 w 20)) := by
  unfold rawS; rw [l0]; rfl
theorem un_div (w : Nat) (l0 : w % 256 = 0x7) : unusedS w = (holds w 30 2 0) := by
  unfold unusedS; rw [l0]; rfl

theorem div (p : BitVec 4) (d a b : BitVec 6) : Statement (.div p d a b) := by
  have l := lay_s5 0x7 (by decide) p d a b
  refine mk (w := 0x07 + put p 26 + put d 8 + put a 14 + put b 20) (n := 32) rfl rfl ?_ ?_
  all_goals generalize 0x07 + put p 26 + put d 8 + put a 14 + put b 20 = w at l ⊢
  · obtain ⟨l0, l1, l2, l3, l4, l5, l6⟩ := l
    exact fun h k hk => dS (s_slot hk rfl) (by rw [l0]; decide) (fun hi => by rw [raw_div w hi l0, l1, l2, l3, l4]) (by rw [un_div w l0, l5]) h
  · exact l.2.2.2.2.2.2

theorem raw_divu (w hi : Nat) (l0 : w % 256 = 0x8) : rawS w hi = some (Instr.divu (slice 4 w 26) (slice 6 w 8) (slice 6 w 14) (slice 6 w 20)) := by
  unfold rawS; rw [l0]; rfl
theorem un_divu (w : Nat) (l0 : w % 256 = 0x8) : unusedS w = (holds w 30 2 0) := by
  unfold unusedS; rw [l0]; rfl

theorem divu (p : BitVec 4) (d a b : BitVec 6) : Statement (.divu p d a b) := by
  have l := lay_s5 0x8 (by decide) p d a b
  refine mk (w := 0x08 + put p 26 + put d 8 + put a 14 + put b 20) (n := 32) rfl rfl ?_ ?_
  all_goals generalize 0x08 + put p 26 + put d 8 + put a 14 + put b 20 = w at l ⊢
  · obtain ⟨l0, l1, l2, l3, l4, l5, l6⟩ := l
    exact fun h k hk => dS (s_slot hk rfl) (by rw [l0]; decide) (fun hi => by rw [raw_divu w hi l0, l1, l2, l3, l4]) (by rw [un_divu w l0, l5]) h
  · exact l.2.2.2.2.2.2

theorem raw_rem (w hi : Nat) (l0 : w % 256 = 0x9) : rawS w hi = some (Instr.rem (slice 4 w 26) (slice 6 w 8) (slice 6 w 14) (slice 6 w 20)) := by
  unfold rawS; rw [l0]; rfl
theorem un_rem (w : Nat) (l0 : w % 256 = 0x9) : unusedS w = (holds w 30 2 0) := by
  unfold unusedS; rw [l0]; rfl

theorem rem (p : BitVec 4) (d a b : BitVec 6) : Statement (.rem p d a b) := by
  have l := lay_s5 0x9 (by decide) p d a b
  refine mk (w := 0x09 + put p 26 + put d 8 + put a 14 + put b 20) (n := 32) rfl rfl ?_ ?_
  all_goals generalize 0x09 + put p 26 + put d 8 + put a 14 + put b 20 = w at l ⊢
  · obtain ⟨l0, l1, l2, l3, l4, l5, l6⟩ := l
    exact fun h k hk => dS (s_slot hk rfl) (by rw [l0]; decide) (fun hi => by rw [raw_rem w hi l0, l1, l2, l3, l4]) (by rw [un_rem w l0, l5]) h
  · exact l.2.2.2.2.2.2

theorem raw_remu (w hi : Nat) (l0 : w % 256 = 0xA) : rawS w hi = some (Instr.remu (slice 4 w 26) (slice 6 w 8) (slice 6 w 14) (slice 6 w 20)) := by
  unfold rawS; rw [l0]; rfl
theorem un_remu (w : Nat) (l0 : w % 256 = 0xA) : unusedS w = (holds w 30 2 0) := by
  unfold unusedS; rw [l0]; rfl

theorem remu (p : BitVec 4) (d a b : BitVec 6) : Statement (.remu p d a b) := by
  have l := lay_s5 0xA (by decide) p d a b
  refine mk (w := 0x0A + put p 26 + put d 8 + put a 14 + put b 20) (n := 32) rfl rfl ?_ ?_
  all_goals generalize 0x0A + put p 26 + put d 8 + put a 14 + put b 20 = w at l ⊢
  · obtain ⟨l0, l1, l2, l3, l4, l5, l6⟩ := l
    exact fun h k hk => dS (s_slot hk rfl) (by rw [l0]; decide) (fun hi => by rw [raw_remu w hi l0, l1, l2, l3, l4]) (by rw [un_remu w l0, l5]) h
  · exact l.2.2.2.2.2.2

theorem raw_and (w hi : Nat) (l0 : w % 256 = 0x10) : rawS w hi = some (Instr.and (slice 4 w 26) (slice 6 w 8) (slice 6 w 14) (slice 6 w 20)) := by
  unfold rawS; rw [l0]; rfl
theorem un_and (w : Nat) (l0 : w % 256 = 0x10) : unusedS w = (holds w 30 2 0) := by
  unfold unusedS; rw [l0]; rfl

theorem and (p : BitVec 4) (d a b : BitVec 6) : Statement (.and p d a b) := by
  have l := lay_s5 0x10 (by decide) p d a b
  refine mk (w := 0x10 + put p 26 + put d 8 + put a 14 + put b 20) (n := 32) rfl rfl ?_ ?_
  all_goals generalize 0x10 + put p 26 + put d 8 + put a 14 + put b 20 = w at l ⊢
  · obtain ⟨l0, l1, l2, l3, l4, l5, l6⟩ := l
    exact fun h k hk => dS (s_slot hk rfl) (by rw [l0]; decide) (fun hi => by rw [raw_and w hi l0, l1, l2, l3, l4]) (by rw [un_and w l0, l5]) h
  · exact l.2.2.2.2.2.2

theorem raw_or (w hi : Nat) (l0 : w % 256 = 0x11) : rawS w hi = some (Instr.or (slice 4 w 26) (slice 6 w 8) (slice 6 w 14) (slice 6 w 20)) := by
  unfold rawS; rw [l0]; rfl
theorem un_or (w : Nat) (l0 : w % 256 = 0x11) : unusedS w = (holds w 30 2 0) := by
  unfold unusedS; rw [l0]; rfl

theorem or (p : BitVec 4) (d a b : BitVec 6) : Statement (.or p d a b) := by
  have l := lay_s5 0x11 (by decide) p d a b
  refine mk (w := 0x11 + put p 26 + put d 8 + put a 14 + put b 20) (n := 32) rfl rfl ?_ ?_
  all_goals generalize 0x11 + put p 26 + put d 8 + put a 14 + put b 20 = w at l ⊢
  · obtain ⟨l0, l1, l2, l3, l4, l5, l6⟩ := l
    exact fun h k hk => dS (s_slot hk rfl) (by rw [l0]; decide) (fun hi => by rw [raw_or w hi l0, l1, l2, l3, l4]) (by rw [un_or w l0, l5]) h
  · exact l.2.2.2.2.2.2

theorem raw_xor (w hi : Nat) (l0 : w % 256 = 0x12) : rawS w hi = some (Instr.xor (slice 4 w 26) (slice 6 w 8) (slice 6 w 14) (slice 6 w 20)) := by
  unfold rawS; rw [l0]; rfl
theorem un_xor (w : Nat) (l0 : w % 256 = 0x12) : unusedS w = (holds w 30 2 0) := by
  unfold unusedS; rw [l0]; rfl

theorem xor (p : BitVec 4) (d a b : BitVec 6) : Statement (.xor p d a b) := by
  have l := lay_s5 0x12 (by decide) p d a b
  refine mk (w := 0x12 + put p 26 + put d 8 + put a 14 + put b 20) (n := 32) rfl rfl ?_ ?_
  all_goals generalize 0x12 + put p 26 + put d 8 + put a 14 + put b 20 = w at l ⊢
  · obtain ⟨l0, l1, l2, l3, l4, l5, l6⟩ := l
    exact fun h k hk => dS (s_slot hk rfl) (by rw [l0]; decide) (fun hi => by rw [raw_xor w hi l0, l1, l2, l3, l4]) (by rw [un_xor w l0, l5]) h
  · exact l.2.2.2.2.2.2

theorem raw_andn (w hi : Nat) (l0 : w % 256 = 0x13) : rawS w hi = some (Instr.andn (slice 4 w 26) (slice 6 w 8) (slice 6 w 14) (slice 6 w 20)) := by
  unfold rawS; rw [l0]; rfl
theorem un_andn (w : Nat) (l0 : w % 256 = 0x13) : unusedS w = (holds w 30 2 0) := by
  unfold unusedS; rw [l0]; rfl

theorem andn (p : BitVec 4) (d a b : BitVec 6) : Statement (.andn p d a b) := by
  have l := lay_s5 0x13 (by decide) p d a b
  refine mk (w := 0x13 + put p 26 + put d 8 + put a 14 + put b 20) (n := 32) rfl rfl ?_ ?_
  all_goals generalize 0x13 + put p 26 + put d 8 + put a 14 + put b 20 = w at l ⊢
  · obtain ⟨l0, l1, l2, l3, l4, l5, l6⟩ := l
    exact fun h k hk => dS (s_slot hk rfl) (by rw [l0]; decide) (fun hi => by rw [raw_andn w hi l0, l1, l2, l3, l4]) (by rw [un_andn w l0, l5]) h
  · exact l.2.2.2.2.2.2

theorem raw_shl (w hi : Nat) (l0 : w % 256 = 0x14) : rawS w hi = some (Instr.shl (slice 4 w 26) (slice 6 w 8) (slice 6 w 14) (slice 6 w 20)) := by
  unfold rawS; rw [l0]; rfl
theorem un_shl (w : Nat) (l0 : w % 256 = 0x14) : unusedS w = (holds w 30 2 0) := by
  unfold unusedS; rw [l0]; rfl

theorem shl (p : BitVec 4) (d a b : BitVec 6) : Statement (.shl p d a b) := by
  have l := lay_s5 0x14 (by decide) p d a b
  refine mk (w := 0x14 + put p 26 + put d 8 + put a 14 + put b 20) (n := 32) rfl rfl ?_ ?_
  all_goals generalize 0x14 + put p 26 + put d 8 + put a 14 + put b 20 = w at l ⊢
  · obtain ⟨l0, l1, l2, l3, l4, l5, l6⟩ := l
    exact fun h k hk => dS (s_slot hk rfl) (by rw [l0]; decide) (fun hi => by rw [raw_shl w hi l0, l1, l2, l3, l4]) (by rw [un_shl w l0, l5]) h
  · exact l.2.2.2.2.2.2

theorem raw_shr (w hi : Nat) (l0 : w % 256 = 0x15) : rawS w hi = some (Instr.shr (slice 4 w 26) (slice 6 w 8) (slice 6 w 14) (slice 6 w 20)) := by
  unfold rawS; rw [l0]; rfl
theorem un_shr (w : Nat) (l0 : w % 256 = 0x15) : unusedS w = (holds w 30 2 0) := by
  unfold unusedS; rw [l0]; rfl

theorem shr (p : BitVec 4) (d a b : BitVec 6) : Statement (.shr p d a b) := by
  have l := lay_s5 0x15 (by decide) p d a b
  refine mk (w := 0x15 + put p 26 + put d 8 + put a 14 + put b 20) (n := 32) rfl rfl ?_ ?_
  all_goals generalize 0x15 + put p 26 + put d 8 + put a 14 + put b 20 = w at l ⊢
  · obtain ⟨l0, l1, l2, l3, l4, l5, l6⟩ := l
    exact fun h k hk => dS (s_slot hk rfl) (by rw [l0]; decide) (fun hi => by rw [raw_shr w hi l0, l1, l2, l3, l4]) (by rw [un_shr w l0, l5]) h
  · exact l.2.2.2.2.2.2

theorem raw_sar (w hi : Nat) (l0 : w % 256 = 0x16) : rawS w hi = some (Instr.sar (slice 4 w 26) (slice 6 w 8) (slice 6 w 14) (slice 6 w 20)) := by
  unfold rawS; rw [l0]; rfl
theorem un_sar (w : Nat) (l0 : w % 256 = 0x16) : unusedS w = (holds w 30 2 0) := by
  unfold unusedS; rw [l0]; rfl

theorem sar (p : BitVec 4) (d a b : BitVec 6) : Statement (.sar p d a b) := by
  have l := lay_s5 0x16 (by decide) p d a b
  refine mk (w := 0x16 + put p 26 + put d 8 + put a 14 + put b 20) (n := 32) rfl rfl ?_ ?_
  all_goals generalize 0x16 + put p 26 + put d 8 + put a 14 + put b 20 = w at l ⊢
  · obtain ⟨l0, l1, l2, l3, l4, l5, l6⟩ := l
    exact fun h k hk => dS (s_slot hk rfl) (by rw [l0]; decide) (fun hi => by rw [raw_sar w hi l0, l1, l2, l3, l4]) (by rw [un_sar w l0, l5]) h
  · exact l.2.2.2.2.2.2

theorem raw_rotr (w hi : Nat) (l0 : w % 256 = 0x17) : rawS w hi = some (Instr.rotr (slice 4 w 26) (slice 6 w 8) (slice 6 w 14) (slice 6 w 20)) := by
  unfold rawS; rw [l0]; rfl
theorem un_rotr (w : Nat) (l0 : w % 256 = 0x17) : unusedS w = (holds w 30 2 0) := by
  unfold unusedS; rw [l0]; rfl

theorem rotr (p : BitVec 4) (d a b : BitVec 6) : Statement (.rotr p d a b) := by
  have l := lay_s5 0x17 (by decide) p d a b
  refine mk (w := 0x17 + put p 26 + put d 8 + put a 14 + put b 20) (n := 32) rfl rfl ?_ ?_
  all_goals generalize 0x17 + put p 26 + put d 8 + put a 14 + put b 20 = w at l ⊢
  · obtain ⟨l0, l1, l2, l3, l4, l5, l6⟩ := l
    exact fun h k hk => dS (s_slot hk rfl) (by rw [l0]; decide) (fun hi => by rw [raw_rotr w hi l0, l1, l2, l3, l4]) (by rw [un_rotr w l0, l5]) h
  · exact l.2.2.2.2.2.2

theorem raw_shlImm (w hi : Nat) (l0 : w % 256 = 0x18) : rawS w hi = some (Instr.shlImm (slice 4 w 26) (slice 6 w 8) (slice 6 w 14) (slice 6 w 20)) := by
  unfold rawS; rw [l0]; rfl
theorem un_shlImm (w : Nat) (l0 : w % 256 = 0x18) : unusedS w = (holds w 30 2 0) := by
  unfold unusedS; rw [l0]; rfl

theorem shlImm (p : BitVec 4) (d a n : BitVec 6) : Statement (.shlImm p d a n) := by
  have l := lay_s5 0x18 (by decide) p d a n
  refine mk (w := 0x18 + put p 26 + put d 8 + put a 14 + put n 20) (n := 32) rfl rfl ?_ ?_
  all_goals generalize 0x18 + put p 26 + put d 8 + put a 14 + put n 20 = w at l ⊢
  · obtain ⟨l0, l1, l2, l3, l4, l5, l6⟩ := l
    exact fun h k hk => dS (s_slot hk rfl) (by rw [l0]; decide) (fun hi => by rw [raw_shlImm w hi l0, l1, l2, l3, l4]) (by rw [un_shlImm w l0, l5]) h
  · exact l.2.2.2.2.2.2

theorem raw_shrImm (w hi : Nat) (l0 : w % 256 = 0x19) : rawS w hi = some (Instr.shrImm (slice 4 w 26) (slice 6 w 8) (slice 6 w 14) (slice 6 w 20)) := by
  unfold rawS; rw [l0]; rfl
theorem un_shrImm (w : Nat) (l0 : w % 256 = 0x19) : unusedS w = (holds w 30 2 0) := by
  unfold unusedS; rw [l0]; rfl

theorem shrImm (p : BitVec 4) (d a n : BitVec 6) : Statement (.shrImm p d a n) := by
  have l := lay_s5 0x19 (by decide) p d a n
  refine mk (w := 0x19 + put p 26 + put d 8 + put a 14 + put n 20) (n := 32) rfl rfl ?_ ?_
  all_goals generalize 0x19 + put p 26 + put d 8 + put a 14 + put n 20 = w at l ⊢
  · obtain ⟨l0, l1, l2, l3, l4, l5, l6⟩ := l
    exact fun h k hk => dS (s_slot hk rfl) (by rw [l0]; decide) (fun hi => by rw [raw_shrImm w hi l0, l1, l2, l3, l4]) (by rw [un_shrImm w l0, l5]) h
  · exact l.2.2.2.2.2.2

theorem raw_sarImm (w hi : Nat) (l0 : w % 256 = 0x1A) : rawS w hi = some (Instr.sarImm (slice 4 w 26) (slice 6 w 8) (slice 6 w 14) (slice 6 w 20)) := by
  unfold rawS; rw [l0]; rfl
theorem un_sarImm (w : Nat) (l0 : w % 256 = 0x1A) : unusedS w = (holds w 30 2 0) := by
  unfold unusedS; rw [l0]; rfl

theorem sarImm (p : BitVec 4) (d a n : BitVec 6) : Statement (.sarImm p d a n) := by
  have l := lay_s5 0x1A (by decide) p d a n
  refine mk (w := 0x1A + put p 26 + put d 8 + put a 14 + put n 20) (n := 32) rfl rfl ?_ ?_
  all_goals generalize 0x1A + put p 26 + put d 8 + put a 14 + put n 20 = w at l ⊢
  · obtain ⟨l0, l1, l2, l3, l4, l5, l6⟩ := l
    exact fun h k hk => dS (s_slot hk rfl) (by rw [l0]; decide) (fun hi => by rw [raw_sarImm w hi l0, l1, l2, l3, l4]) (by rw [un_sarImm w l0, l5]) h
  · exact l.2.2.2.2.2.2

theorem raw_rotrImm (w hi : Nat) (l0 : w % 256 = 0x1B) : rawS w hi = some (Instr.rotrImm (slice 4 w 26) (slice 6 w 8) (slice 6 w 14) (slice 6 w 20)) := by
  unfold rawS; rw [l0]; rfl
theorem un_rotrImm (w : Nat) (l0 : w % 256 = 0x1B) : unusedS w = (holds w 30 2 0) := by
  unfold unusedS; rw [l0]; rfl

theorem rotrImm (p : BitVec 4) (d a n : BitVec 6) : Statement (.rotrImm p d a n) := by
  have l := lay_s5 0x1B (by decide) p d a n
  refine mk (w := 0x1B + put p 26 + put d 8 + put a 14 + put n 20) (n := 32) rfl rfl ?_ ?_
  all_goals generalize 0x1B + put p 26 + put d 8 + put a 14 + put n 20 = w at l ⊢
  · obtain ⟨l0, l1, l2, l3, l4, l5, l6⟩ := l
    exact fun h k hk => dS (s_slot hk rfl) (by rw [l0]; decide) (fun hi => by rw [raw_rotrImm w hi l0, l1, l2, l3, l4]) (by rw [un_rotrImm w l0, l5]) h
  · exact l.2.2.2.2.2.2

theorem raw_clz (w hi : Nat) (l0 : w % 256 = 0x1C) : rawS w hi = some (Instr.clz (slice 4 w 26) (slice 6 w 8) (slice 6 w 14)) := by
  unfold rawS; rw [l0]; rfl
theorem un_clz (w : Nat) (l0 : w % 256 = 0x1C) : unusedS w = (holds w 20 6 0 && holds w 30 2 0) := by
  unfold unusedS; rw [l0]; rfl

theorem clz (p : BitVec 4) (d a : BitVec 6) : Statement (.clz p d a) := by
  have l := lay_s7 0x1C (by decide) p d a
  refine mk (w := 0x1C + put p 26 + put d 8 + put a 14) (n := 32) rfl rfl ?_ ?_
  all_goals generalize 0x1C + put p 26 + put d 8 + put a 14 = w at l ⊢
  · obtain ⟨l0, l1, l2, l3, l4, l5, l6⟩ := l
    exact fun h k hk => dS (s_slot hk rfl) (by rw [l0]; decide) (fun hi => by rw [raw_clz w hi l0, l1, l2, l3]) (by rw [un_clz w l0, l4, l5]; rfl) h
  · exact l.2.2.2.2.2.2

theorem raw_ctz (w hi : Nat) (l0 : w % 256 = 0x1D) : rawS w hi = some (Instr.ctz (slice 4 w 26) (slice 6 w 8) (slice 6 w 14)) := by
  unfold rawS; rw [l0]; rfl
theorem un_ctz (w : Nat) (l0 : w % 256 = 0x1D) : unusedS w = (holds w 20 6 0 && holds w 30 2 0) := by
  unfold unusedS; rw [l0]; rfl

theorem ctz (p : BitVec 4) (d a : BitVec 6) : Statement (.ctz p d a) := by
  have l := lay_s7 0x1D (by decide) p d a
  refine mk (w := 0x1D + put p 26 + put d 8 + put a 14) (n := 32) rfl rfl ?_ ?_
  all_goals generalize 0x1D + put p 26 + put d 8 + put a 14 = w at l ⊢
  · obtain ⟨l0, l1, l2, l3, l4, l5, l6⟩ := l
    exact fun h k hk => dS (s_slot hk rfl) (by rw [l0]; decide) (fun hi => by rw [raw_ctz w hi l0, l1, l2, l3]) (by rw [un_ctz w l0, l4, l5]; rfl) h
  · exact l.2.2.2.2.2.2

theorem raw_popc (w hi : Nat) (l0 : w % 256 = 0x1E) : rawS w hi = some (Instr.popc (slice 4 w 26) (slice 6 w 8) (slice 6 w 14)) := by
  unfold rawS; rw [l0]; rfl
theorem un_popc (w : Nat) (l0 : w % 256 = 0x1E) : unusedS w = (holds w 20 6 0 && holds w 30 2 0) := by
  unfold unusedS; rw [l0]; rfl

theorem popc (p : BitVec 4) (d a : BitVec 6) : Statement (.popc p d a) := by
  have l := lay_s7 0x1E (by decide) p d a
  refine mk (w := 0x1E + put p 26 + put d 8 + put a 14) (n := 32) rfl rfl ?_ ?_
  all_goals generalize 0x1E + put p 26 + put d 8 + put a 14 = w at l ⊢
  · obtain ⟨l0, l1, l2, l3, l4, l5, l6⟩ := l
    exact fun h k hk => dS (s_slot hk rfl) (by rw [l0]; decide) (fun hi => by rw [raw_popc w hi l0, l1, l2, l3]) (by rw [un_popc w l0, l4, l5]; rfl) h
  · exact l.2.2.2.2.2.2

theorem raw_min (w hi : Nat) (l0 : w % 256 = 0x20) : rawS w hi = some (Instr.min (slice 4 w 26) (slice 6 w 8) (slice 6 w 14) (slice 6 w 20)) := by
  unfold rawS; rw [l0]; rfl
theorem un_min (w : Nat) (l0 : w % 256 = 0x20) : unusedS w = (holds w 30 2 0) := by
  unfold unusedS; rw [l0]; rfl

theorem min (p : BitVec 4) (d a b : BitVec 6) : Statement (.min p d a b) := by
  have l := lay_s5 0x20 (by decide) p d a b
  refine mk (w := 0x20 + put p 26 + put d 8 + put a 14 + put b 20) (n := 32) rfl rfl ?_ ?_
  all_goals generalize 0x20 + put p 26 + put d 8 + put a 14 + put b 20 = w at l ⊢
  · obtain ⟨l0, l1, l2, l3, l4, l5, l6⟩ := l
    exact fun h k hk => dS (s_slot hk rfl) (by rw [l0]; decide) (fun hi => by rw [raw_min w hi l0, l1, l2, l3, l4]) (by rw [un_min w l0, l5]) h
  · exact l.2.2.2.2.2.2

theorem raw_max (w hi : Nat) (l0 : w % 256 = 0x21) : rawS w hi = some (Instr.max (slice 4 w 26) (slice 6 w 8) (slice 6 w 14) (slice 6 w 20)) := by
  unfold rawS; rw [l0]; rfl
theorem un_max (w : Nat) (l0 : w % 256 = 0x21) : unusedS w = (holds w 30 2 0) := by
  unfold unusedS; rw [l0]; rfl

theorem max (p : BitVec 4) (d a b : BitVec 6) : Statement (.max p d a b) := by
  have l := lay_s5 0x21 (by decide) p d a b
  refine mk (w := 0x21 + put p 26 + put d 8 + put a 14 + put b 20) (n := 32) rfl rfl ?_ ?_
  all_goals generalize 0x21 + put p 26 + put d 8 + put a 14 + put b 20 = w at l ⊢
  · obtain ⟨l0, l1, l2, l3, l4, l5, l6⟩ := l
    exact fun h k hk => dS (s_slot hk rfl) (by rw [l0]; decide) (fun hi => by rw [raw_max w hi l0, l1, l2, l3, l4]) (by rw [un_max w l0, l5]) h
  · exact l.2.2.2.2.2.2

theorem raw_minu (w hi : Nat) (l0 : w % 256 = 0x22) : rawS w hi = some (Instr.minu (slice 4 w 26) (slice 6 w 8) (slice 6 w 14) (slice 6 w 20)) := by
  unfold rawS; rw [l0]; rfl
theorem un_minu (w : Nat) (l0 : w % 256 = 0x22) : unusedS w = (holds w 30 2 0) := by
  unfold unusedS; rw [l0]; rfl

theorem minu (p : BitVec 4) (d a b : BitVec 6) : Statement (.minu p d a b) := by
  have l := lay_s5 0x22 (by decide) p d a b
  refine mk (w := 0x22 + put p 26 + put d 8 + put a 14 + put b 20) (n := 32) rfl rfl ?_ ?_
  all_goals generalize 0x22 + put p 26 + put d 8 + put a 14 + put b 20 = w at l ⊢
  · obtain ⟨l0, l1, l2, l3, l4, l5, l6⟩ := l
    exact fun h k hk => dS (s_slot hk rfl) (by rw [l0]; decide) (fun hi => by rw [raw_minu w hi l0, l1, l2, l3, l4]) (by rw [un_minu w l0, l5]) h
  · exact l.2.2.2.2.2.2

theorem raw_maxu (w hi : Nat) (l0 : w % 256 = 0x23) : rawS w hi = some (Instr.maxu (slice 4 w 26) (slice 6 w 8) (slice 6 w 14) (slice 6 w 20)) := by
  unfold rawS; rw [l0]; rfl
theorem un_maxu (w : Nat) (l0 : w % 256 = 0x23) : unusedS w = (holds w 30 2 0) := by
  unfold unusedS; rw [l0]; rfl

theorem maxu (p : BitVec 4) (d a b : BitVec 6) : Statement (.maxu p d a b) := by
  have l := lay_s5 0x23 (by decide) p d a b
  refine mk (w := 0x23 + put p 26 + put d 8 + put a 14 + put b 20) (n := 32) rfl rfl ?_ ?_
  all_goals generalize 0x23 + put p 26 + put d 8 + put a 14 + put b 20 = w at l ⊢
  · obtain ⟨l0, l1, l2, l3, l4, l5, l6⟩ := l
    exact fun h k hk => dS (s_slot hk rfl) (by rw [l0]; decide) (fun hi => by rw [raw_maxu w hi l0, l1, l2, l3, l4]) (by rw [un_maxu w l0, l5]) h
  · exact l.2.2.2.2.2.2

theorem raw_sel (w hi : Nat) (l0 : w % 256 = 0x24) : rawS w hi = some (Instr.sel (slice 4 w 26) (slice 6 w 8) (slice 6 w 14) (slice 6 w 20)) := by
  unfold rawS; rw [l0]; rfl
theorem un_sel (w : Nat) (l0 : w % 256 = 0x24) : unusedS w = (holds w 30 2 0) := by
  unfold unusedS; rw [l0]; rfl

theorem sel (p : BitVec 4) (d a b : BitVec 6) : Statement (.sel p d a b) := by
  have l := lay_s5 0x24 (by decide) p d a b
  refine mk (w := 0x24 + put p 26 + put d 8 + put a 14 + put b 20) (n := 32) rfl rfl ?_ ?_
  all_goals generalize 0x24 + put p 26 + put d 8 + put a 14 + put b 20 = w at l ⊢
  · obtain ⟨l0, l1, l2, l3, l4, l5, l6⟩ := l
    exact fun h k hk => dS (s_slot hk rfl) (by rw [l0]; decide) (fun hi => by rw [raw_sel w hi l0, l1, l2, l3, l4]) (by rw [un_sel w l0, l5]) h
  · exact l.2.2.2.2.2.2

theorem raw_mov (w hi : Nat) (l0 : w % 256 = 0x25) : rawS w hi = some (Instr.mov (slice 4 w 26) (slice 6 w 8) (slice 6 w 14)) := by
  unfold rawS; rw [l0]; rfl
theorem un_mov (w : Nat) (l0 : w % 256 = 0x25) : unusedS w = (holds w 20 6 0 && holds w 30 2 0) := by
  unfold unusedS; rw [l0]; rfl

theorem mov (p : BitVec 4) (d a : BitVec 6) : Statement (.mov p d a) := by
  have l := lay_s7 0x25 (by decide) p d a
  refine mk (w := 0x25 + put p 26 + put d 8 + put a 14) (n := 32) rfl rfl ?_ ?_
  all_goals generalize 0x25 + put p 26 + put d 8 + put a 14 = w at l ⊢
  · obtain ⟨l0, l1, l2, l3, l4, l5, l6⟩ := l
    exact fun h k hk => dS (s_slot hk rfl) (by rw [l0]; decide) (fun hi => by rw [raw_mov w hi l0, l1, l2, l3]) (by rw [un_mov w l0, l4, l5]; rfl) h
  · exact l.2.2.2.2.2.2

theorem raw_movFromA (w hi : Nat) (l0 : w % 256 = 0x26) : rawS w hi = some (Instr.movFromA (slice 4 w 26) (slice 6 w 8) (slice 4 w 14)) := by
  unfold rawS; rw [l0]; rfl
theorem un_movFromA (w : Nat) (l0 : w % 256 = 0x26) : unusedS w = (holds w 18 8 0 && holds w 30 2 0) := by
  unfold unusedS; rw [l0]; rfl

theorem movFromA (p : BitVec 4) (d : BitVec 6) (an : BitVec 4) : Statement (.movFromA p d an) := by
  have l := lay_s8 0x26 (by decide) p d an
  refine mk (w := 0x26 + put p 26 + put d 8 + put an 14) (n := 32) rfl rfl ?_ ?_
  all_goals generalize 0x26 + put p 26 + put d 8 + put an 14 = w at l ⊢
  · obtain ⟨l0, l1, l2, l3, l4, l5, l6⟩ := l
    exact fun h k hk => dS (s_slot hk rfl) (by rw [l0]; decide) (fun hi => by rw [raw_movFromA w hi l0, l1, l2, l3]) (by rw [un_movFromA w l0, l4, l5]; rfl) h
  · exact l.2.2.2.2.2.2

theorem raw_movToA (w hi : Nat) (l0 : w % 256 = 0x27) : rawS w hi = some (Instr.movToA (slice 4 w 26) (slice 4 w 8) (slice 6 w 14)) := by
  unfold rawS; rw [l0]; rfl
theorem un_movToA (w : Nat) (l0 : w % 256 = 0x27) : unusedS w = (holds w 12 2 0 && holds w 20 6 0 && holds w 30 2 0) := by
  unfold unusedS; rw [l0]; rfl

theorem movToA (p : BitVec 4) (an : BitVec 4) (a : BitVec 6) : Statement (.movToA p an a) := by
  have l := lay_s9 0x27 (by decide) p an a
  refine mk (w := 0x27 + put p 26 + put an 8 + put a 14) (n := 32) rfl rfl ?_ ?_
  all_goals generalize 0x27 + put p 26 + put an 8 + put a 14 = w at l ⊢
  · obtain ⟨l0, l1, l2, l3, l4, l5, l6, l7⟩ := l
    exact fun h k hk => dS (s_slot hk rfl) (by rw [l0]; decide) (fun hi => by rw [raw_movToA w hi l0, l1, l2, l3]) (by rw [un_movToA w l0, l4, l5, l6]; rfl) h
  · exact l.2.2.2.2.2.2.2

theorem raw_movFromQ (w hi : Nat) (l0 : w % 256 = 0x28) : rawS w hi = some (Instr.movFromQ (slice 4 w 26) (slice 6 w 8) (slice 3 w 14)) := by
  unfold rawS; rw [l0]; rfl
theorem un_movFromQ (w : Nat) (l0 : w % 256 = 0x28) : unusedS w = (holds w 17 9 0 && holds w 30 2 0) := by
  unfold unusedS; rw [l0]; rfl

theorem movFromQ (p : BitVec 4) (d : BitVec 6) (q : BitVec 3) : Statement (.movFromQ p d q) := by
  have l := lay_s10 0x28 (by decide) p d q
  refine mk (w := 0x28 + put p 26 + put d 8 + put q 14) (n := 32) rfl rfl ?_ ?_
  all_goals generalize 0x28 + put p 26 + put d 8 + put q 14 = w at l ⊢
  · obtain ⟨l0, l1, l2, l3, l4, l5, l6⟩ := l
    exact fun h k hk => dS (s_slot hk rfl) (by rw [l0]; decide) (fun hi => by rw [raw_movFromQ w hi l0, l1, l2, l3]) (by rw [un_movFromQ w l0, l4, l5]; rfl) h
  · exact l.2.2.2.2.2.2

theorem raw_liw (w hi : Nat) (l0 : w % 256 = 0x29) : rawS w hi = some (Instr.liw (slice 2 w 30) (slice 6 w 8) (slice 32 hi 0 ++ slice 16 w 14)) := by
  unfold rawS; rw [l0]; rfl
theorem un_liw (w : Nat) (l0 : w % 256 = 0x29) : unusedS w = true := by
  unfold unusedS; rw [l0]; rfl

theorem liw (ext : BitVec 2) (d : BitVec 6) (imm : BitVec 48) : Statement (.liw ext d imm) := by
  have l := lay_s11 ext d imm
  have hi := imm.isLt
  have hv : imm.toNat / 65536 < 2 ^ 32 := by omega
  clear hi
  refine mk2 (w := 0x29 + put d 8 + (imm.toNat % 65536) * 2 ^ 14 + put ext 30) (v := imm.toNat / 65536) (n := 32) rfl rfl ?_ ?_ hv
  all_goals generalize 0x29 + put d 8 + (imm.toNat % 65536) * 2 ^ 14 + put ext 30 = w at l ⊢
  all_goals generalize imm.toNat / 65536 = v at l hv ⊢
  · obtain ⟨l0, l1, l2, l3, l4⟩ := l
    exact fun h k hk => dLiw (liw_slot hk rfl) (by rw [raw_liw w v l0, l1, l2, l3]) (un_liw w l0) h
  · exact l.2.2.2.2

theorem raw_cmpEq (w hi : Nat) (l0 : w % 256 = 0x30) : rawS w hi = some (Instr.cmpEq (slice 4 w 26) (slice 4 w 8) (slice 6 w 14) (slice 6 w 20)) := by
  unfold rawS; rw [l0]; rfl
theorem un_cmpEq (w : Nat) (l0 : w % 256 = 0x30) : unusedS w = (holds w 12 2 0 && holds w 30 2 0) := by
  unfold unusedS; rw [l0]; rfl

theorem cmpEq (p pd : BitVec 4) (a b : BitVec 6) : Statement (.cmpEq p pd a b) := by
  have l := lay_s12 0x30 (by decide) p pd a b
  refine mk (w := 0x30 + put p 26 + put pd 8 + put a 14 + put b 20) (n := 32) rfl rfl ?_ ?_
  all_goals generalize 0x30 + put p 26 + put pd 8 + put a 14 + put b 20 = w at l ⊢
  · obtain ⟨l0, l1, l2, l3, l4, l5, l6, l7⟩ := l
    exact fun h k hk => dS (s_slot hk rfl) (by rw [l0]; decide) (fun hi => by rw [raw_cmpEq w hi l0, l1, l2, l3, l4]) (by rw [un_cmpEq w l0, l5, l6]; rfl) h
  · exact l.2.2.2.2.2.2.2

theorem raw_cmpNe (w hi : Nat) (l0 : w % 256 = 0x31) : rawS w hi = some (Instr.cmpNe (slice 4 w 26) (slice 4 w 8) (slice 6 w 14) (slice 6 w 20)) := by
  unfold rawS; rw [l0]; rfl
theorem un_cmpNe (w : Nat) (l0 : w % 256 = 0x31) : unusedS w = (holds w 12 2 0 && holds w 30 2 0) := by
  unfold unusedS; rw [l0]; rfl

theorem cmpNe (p pd : BitVec 4) (a b : BitVec 6) : Statement (.cmpNe p pd a b) := by
  have l := lay_s12 0x31 (by decide) p pd a b
  refine mk (w := 0x31 + put p 26 + put pd 8 + put a 14 + put b 20) (n := 32) rfl rfl ?_ ?_
  all_goals generalize 0x31 + put p 26 + put pd 8 + put a 14 + put b 20 = w at l ⊢
  · obtain ⟨l0, l1, l2, l3, l4, l5, l6, l7⟩ := l
    exact fun h k hk => dS (s_slot hk rfl) (by rw [l0]; decide) (fun hi => by rw [raw_cmpNe w hi l0, l1, l2, l3, l4]) (by rw [un_cmpNe w l0, l5, l6]; rfl) h
  · exact l.2.2.2.2.2.2.2

theorem raw_cmpLt (w hi : Nat) (l0 : w % 256 = 0x32) : rawS w hi = some (Instr.cmpLt (slice 4 w 26) (slice 4 w 8) (slice 6 w 14) (slice 6 w 20)) := by
  unfold rawS; rw [l0]; rfl
theorem un_cmpLt (w : Nat) (l0 : w % 256 = 0x32) : unusedS w = (holds w 12 2 0 && holds w 30 2 0) := by
  unfold unusedS; rw [l0]; rfl

theorem cmpLt (p pd : BitVec 4) (a b : BitVec 6) : Statement (.cmpLt p pd a b) := by
  have l := lay_s12 0x32 (by decide) p pd a b
  refine mk (w := 0x32 + put p 26 + put pd 8 + put a 14 + put b 20) (n := 32) rfl rfl ?_ ?_
  all_goals generalize 0x32 + put p 26 + put pd 8 + put a 14 + put b 20 = w at l ⊢
  · obtain ⟨l0, l1, l2, l3, l4, l5, l6, l7⟩ := l
    exact fun h k hk => dS (s_slot hk rfl) (by rw [l0]; decide) (fun hi => by rw [raw_cmpLt w hi l0, l1, l2, l3, l4]) (by rw [un_cmpLt w l0, l5, l6]; rfl) h
  · exact l.2.2.2.2.2.2.2

theorem raw_cmpGe (w hi : Nat) (l0 : w % 256 = 0x33) : rawS w hi = some (Instr.cmpGe (slice 4 w 26) (slice 4 w 8) (slice 6 w 14) (slice 6 w 20)) := by
  unfold rawS; rw [l0]; rfl
theorem un_cmpGe (w : Nat) (l0 : w % 256 = 0x33) : unusedS w = (holds w 12 2 0 && holds w 30 2 0) := by
  unfold unusedS; rw [l0]; rfl

theorem cmpGe (p pd : BitVec 4) (a b : BitVec 6) : Statement (.cmpGe p pd a b) := by
  have l := lay_s12 0x33 (by decide) p pd a b
  refine mk (w := 0x33 + put p 26 + put pd 8 + put a 14 + put b 20) (n := 32) rfl rfl ?_ ?_
  all_goals generalize 0x33 + put p 26 + put pd 8 + put a 14 + put b 20 = w at l ⊢
  · obtain ⟨l0, l1, l2, l3, l4, l5, l6, l7⟩ := l
    exact fun h k hk => dS (s_slot hk rfl) (by rw [l0]; decide) (fun hi => by rw [raw_cmpGe w hi l0, l1, l2, l3, l4]) (by rw [un_cmpGe w l0, l5, l6]; rfl) h
  · exact l.2.2.2.2.2.2.2

theorem raw_cmpLtu (w hi : Nat) (l0 : w % 256 = 0x34) : rawS w hi = some (Instr.cmpLtu (slice 4 w 26) (slice 4 w 8) (slice 6 w 14) (slice 6 w 20)) := by
  unfold rawS; rw [l0]; rfl
theorem un_cmpLtu (w : Nat) (l0 : w % 256 = 0x34) : unusedS w = (holds w 12 2 0 && holds w 30 2 0) := by
  unfold unusedS; rw [l0]; rfl

theorem cmpLtu (p pd : BitVec 4) (a b : BitVec 6) : Statement (.cmpLtu p pd a b) := by
  have l := lay_s12 0x34 (by decide) p pd a b
  refine mk (w := 0x34 + put p 26 + put pd 8 + put a 14 + put b 20) (n := 32) rfl rfl ?_ ?_
  all_goals generalize 0x34 + put p 26 + put pd 8 + put a 14 + put b 20 = w at l ⊢
  · obtain ⟨l0, l1, l2, l3, l4, l5, l6, l7⟩ := l
    exact fun h k hk => dS (s_slot hk rfl) (by rw [l0]; decide) (fun hi => by rw [raw_cmpLtu w hi l0, l1, l2, l3, l4]) (by rw [un_cmpLtu w l0, l5, l6]; rfl) h
  · exact l.2.2.2.2.2.2.2

theorem raw_cmpGeu (w hi : Nat) (l0 : w % 256 = 0x35) : rawS w hi = some (Instr.cmpGeu (slice 4 w 26) (slice 4 w 8) (slice 6 w 14) (slice 6 w 20)) := by
  unfold rawS; rw [l0]; rfl
theorem un_cmpGeu (w : Nat) (l0 : w % 256 = 0x35) : unusedS w = (holds w 12 2 0 && holds w 30 2 0) := by
  unfold unusedS; rw [l0]; rfl

theorem cmpGeu (p pd : BitVec 4) (a b : BitVec 6) : Statement (.cmpGeu p pd a b) := by
  have l := lay_s12 0x35 (by decide) p pd a b
  refine mk (w := 0x35 + put p 26 + put pd 8 + put a 14 + put b 20) (n := 32) rfl rfl ?_ ?_
  all_goals generalize 0x35 + put p 26 + put pd 8 + put a 14 + put b 20 = w at l ⊢
  · obtain ⟨l0, l1, l2, l3, l4, l5, l6, l7⟩ := l
    exact fun h k hk => dS (s_slot hk rfl) (by rw [l0]; decide) (fun hi => by rw [raw_cmpGeu w hi l0, l1, l2, l3, l4]) (by rw [un_cmpGeu w l0, l5, l6]; rfl) h
  · exact l.2.2.2.2.2.2.2

theorem raw_cmpFeq (w hi : Nat) (l0 : w % 256 = 0x38) : rawS w hi = some (Instr.cmpFeq (slice 4 w 26) (slice 4 w 8) (slice 6 w 14) (slice 6 w 20)) := by
  unfold rawS; rw [l0]; rfl
theorem un_cmpFeq (w : Nat) (l0 : w % 256 = 0x38) : unusedS w = (holds w 12 2 0 && holds w 30 2 0) := by
  unfold unusedS; rw [l0]; rfl

theorem cmpFeq (p pd : BitVec 4) (a b : BitVec 6) : Statement (.cmpFeq p pd a b) := by
  have l := lay_s12 0x38 (by decide) p pd a b
  refine mk (w := 0x38 + put p 26 + put pd 8 + put a 14 + put b 20) (n := 32) rfl rfl ?_ ?_
  all_goals generalize 0x38 + put p 26 + put pd 8 + put a 14 + put b 20 = w at l ⊢
  · obtain ⟨l0, l1, l2, l3, l4, l5, l6, l7⟩ := l
    exact fun h k hk => dS (s_slot hk rfl) (by rw [l0]; decide) (fun hi => by rw [raw_cmpFeq w hi l0, l1, l2, l3, l4]) (by rw [un_cmpFeq w l0, l5, l6]; rfl) h
  · exact l.2.2.2.2.2.2.2

theorem raw_cmpFlt (w hi : Nat) (l0 : w % 256 = 0x39) : rawS w hi = some (Instr.cmpFlt (slice 4 w 26) (slice 4 w 8) (slice 6 w 14) (slice 6 w 20)) := by
  unfold rawS; rw [l0]; rfl
theorem un_cmpFlt (w : Nat) (l0 : w % 256 = 0x39) : unusedS w = (holds w 12 2 0 && holds w 30 2 0) := by
  unfold unusedS; rw [l0]; rfl

theorem cmpFlt (p pd : BitVec 4) (a b : BitVec 6) : Statement (.cmpFlt p pd a b) := by
  have l := lay_s12 0x39 (by decide) p pd a b
  refine mk (w := 0x39 + put p 26 + put pd 8 + put a 14 + put b 20) (n := 32) rfl rfl ?_ ?_
  all_goals generalize 0x39 + put p 26 + put pd 8 + put a 14 + put b 20 = w at l ⊢
  · obtain ⟨l0, l1, l2, l3, l4, l5, l6, l7⟩ := l
    exact fun h k hk => dS (s_slot hk rfl) (by rw [l0]; decide) (fun hi => by rw [raw_cmpFlt w hi l0, l1, l2, l3, l4]) (by rw [un_cmpFlt w l0, l5, l6]; rfl) h
  · exact l.2.2.2.2.2.2.2

theorem raw_cmpFle (w hi : Nat) (l0 : w % 256 = 0x3A) : rawS w hi = some (Instr.cmpFle (slice 4 w 26) (slice 4 w 8) (slice 6 w 14) (slice 6 w 20)) := by
  unfold rawS; rw [l0]; rfl
theorem un_cmpFle (w : Nat) (l0 : w % 256 = 0x3A) : unusedS w = (holds w 12 2 0 && holds w 30 2 0) := by
  unfold unusedS; rw [l0]; rfl

theorem cmpFle (p pd : BitVec 4) (a b : BitVec 6) : Statement (.cmpFle p pd a b) := by
  have l := lay_s12 0x3A (by decide) p pd a b
  refine mk (w := 0x3A + put p 26 + put pd 8 + put a 14 + put b 20) (n := 32) rfl rfl ?_ ?_
  all_goals generalize 0x3A + put p 26 + put pd 8 + put a 14 + put b 20 = w at l ⊢
  · obtain ⟨l0, l1, l2, l3, l4, l5, l6, l7⟩ := l
    exact fun h k hk => dS (s_slot hk rfl) (by rw [l0]; decide) (fun hi => by rw [raw_cmpFle w hi l0, l1, l2, l3, l4]) (by rw [un_cmpFle w l0, l5, l6]; rfl) h
  · exact l.2.2.2.2.2.2.2

theorem raw_cmpFun (w hi : Nat) (l0 : w % 256 = 0x3B) : rawS w hi = some (Instr.cmpFun (slice 4 w 26) (slice 4 w 8) (slice 6 w 14) (slice 6 w 20)) := by
  unfold rawS; rw [l0]; rfl
theorem un_cmpFun (w : Nat) (l0 : w % 256 = 0x3B) : unusedS w = (holds w 12 2 0 && holds w 30 2 0) := by
  unfold unusedS; rw [l0]; rfl

theorem cmpFun (p pd : BitVec 4) (a b : BitVec 6) : Statement (.cmpFun p pd a b) := by
  have l := lay_s12 0x3B (by decide) p pd a b
  refine mk (w := 0x3B + put p 26 + put pd 8 + put a 14 + put b 20) (n := 32) rfl rfl ?_ ?_
  all_goals generalize 0x3B + put p 26 + put pd 8 + put a 14 + put b 20 = w at l ⊢
  · obtain ⟨l0, l1, l2, l3, l4, l5, l6, l7⟩ := l
    exact fun h k hk => dS (s_slot hk rfl) (by rw [l0]; decide) (fun hi => by rw [raw_cmpFun w hi l0, l1, l2, l3, l4]) (by rw [un_cmpFun w l0, l5, l6]; rfl) h
  · exact l.2.2.2.2.2.2.2

theorem raw_fadd (w hi : Nat) (l0 : w % 256 = 0x40) : rawS w hi = some (Instr.fadd (slice 4 w 26) (slice 6 w 8) (slice 6 w 14) (slice 6 w 20)) := by
  unfold rawS; rw [l0]; rfl
theorem un_fadd (w : Nat) (l0 : w % 256 = 0x40) : unusedS w = (holds w 30 2 0) := by
  unfold unusedS; rw [l0]; rfl

theorem fadd (p : BitVec 4) (d a b : BitVec 6) : Statement (.fadd p d a b) := by
  have l := lay_s5 0x40 (by decide) p d a b
  refine mk (w := 0x40 + put p 26 + put d 8 + put a 14 + put b 20) (n := 32) rfl rfl ?_ ?_
  all_goals generalize 0x40 + put p 26 + put d 8 + put a 14 + put b 20 = w at l ⊢
  · obtain ⟨l0, l1, l2, l3, l4, l5, l6⟩ := l
    exact fun h k hk => dS (s_slot hk rfl) (by rw [l0]; decide) (fun hi => by rw [raw_fadd w hi l0, l1, l2, l3, l4]) (by rw [un_fadd w l0, l5]) h
  · exact l.2.2.2.2.2.2

theorem raw_fmul (w hi : Nat) (l0 : w % 256 = 0x41) : rawS w hi = some (Instr.fmul (slice 4 w 26) (slice 6 w 8) (slice 6 w 14) (slice 6 w 20)) := by
  unfold rawS; rw [l0]; rfl
theorem un_fmul (w : Nat) (l0 : w % 256 = 0x41) : unusedS w = (holds w 30 2 0) := by
  unfold unusedS; rw [l0]; rfl

theorem fmul (p : BitVec 4) (d a b : BitVec 6) : Statement (.fmul p d a b) := by
  have l := lay_s5 0x41 (by decide) p d a b
  refine mk (w := 0x41 + put p 26 + put d 8 + put a 14 + put b 20) (n := 32) rfl rfl ?_ ?_
  all_goals generalize 0x41 + put p 26 + put d 8 + put a 14 + put b 20 = w at l ⊢
  · obtain ⟨l0, l1, l2, l3, l4, l5, l6⟩ := l
    exact fun h k hk => dS (s_slot hk rfl) (by rw [l0]; decide) (fun hi => by rw [raw_fmul w hi l0, l1, l2, l3, l4]) (by rw [un_fmul w l0, l5]) h
  · exact l.2.2.2.2.2.2

theorem raw_fma (w hi : Nat) (l0 : w % 256 = 0x42) : rawS w hi = some (Instr.fma (slice 4 w 26) (slice 6 w 8) (slice 6 w 14) (slice 6 w 20)) := by
  unfold rawS; rw [l0]; rfl
theorem un_fma (w : Nat) (l0 : w % 256 = 0x42) : unusedS w = (holds w 30 2 0) := by
  unfold unusedS; rw [l0]; rfl

theorem fma (p : BitVec 4) (d a b : BitVec 6) : Statement (.fma p d a b) := by
  have l := lay_s5 0x42 (by decide) p d a b
  refine mk (w := 0x42 + put p 26 + put d 8 + put a 14 + put b 20) (n := 32) rfl rfl ?_ ?_
  all_goals generalize 0x42 + put p 26 + put d 8 + put a 14 + put b 20 = w at l ⊢
  · obtain ⟨l0, l1, l2, l3, l4, l5, l6⟩ := l
    exact fun h k hk => dS (s_slot hk rfl) (by rw [l0]; decide) (fun hi => by rw [raw_fma w hi l0, l1, l2, l3, l4]) (by rw [un_fma w l0, l5]) h
  · exact l.2.2.2.2.2.2

theorem raw_fcvtToF32 (w hi : Nat) (l0 : w % 256 = 0x43) : rawS w hi = some (Instr.fcvtToF32 (slice 4 w 26) (slice 6 w 8) (slice 6 w 14) (slice 4 w 20) (slice 1 w 24)) := by
  unfold rawS; rw [l0]; rfl
theorem un_fcvtToF32 (w : Nat) (l0 : w % 256 = 0x43) : unusedS w = (holds w 25 1 0 && holds w 30 2 0) := by
  unfold unusedS; rw [l0]; rfl

theorem fcvtToF32 (p : BitVec 4) (d a : BitVec 6) (ty : BitVec 4) (sat : BitVec 1) : Statement (.fcvtToF32 p d a ty sat) := by
  have l := lay_s13 0x43 (by decide) p d a ty sat
  refine mk (w := 0x43 + put p 26 + put d 8 + put a 14 + put ty 20 + put sat 24) (n := 32) rfl rfl ?_ ?_
  all_goals generalize 0x43 + put p 26 + put d 8 + put a 14 + put ty 20 + put sat 24 = w at l ⊢
  · obtain ⟨l0, l1, l2, l3, l4, l5, l6, l7, l8⟩ := l
    exact fun h k hk => dS (s_slot hk rfl) (by rw [l0]; decide) (fun hi => by rw [raw_fcvtToF32 w hi l0, l1, l2, l3, l4, l5]) (by rw [un_fcvtToF32 w l0, l6, l7]; rfl) h
  · exact l.2.2.2.2.2.2.2.2

theorem raw_fcvtFromF32 (w hi : Nat) (l0 : w % 256 = 0x44) : rawS w hi = some (Instr.fcvtFromF32 (slice 4 w 26) (slice 6 w 8) (slice 6 w 14) (slice 4 w 20) (slice 1 w 24)) := by
  unfold rawS; rw [l0]; rfl
theorem un_fcvtFromF32 (w : Nat) (l0 : w % 256 = 0x44) : unusedS w = (holds w 25 1 0 && holds w 30 2 0) := by
  unfold unusedS; rw [l0]; rfl

theorem fcvtFromF32 (p : BitVec 4) (d a : BitVec 6) (ty : BitVec 4) (sat : BitVec 1) : Statement (.fcvtFromF32 p d a ty sat) := by
  have l := lay_s13 0x44 (by decide) p d a ty sat
  refine mk (w := 0x44 + put p 26 + put d 8 + put a 14 + put ty 20 + put sat 24) (n := 32) rfl rfl ?_ ?_
  all_goals generalize 0x44 + put p 26 + put d 8 + put a 14 + put ty 20 + put sat 24 = w at l ⊢
  · obtain ⟨l0, l1, l2, l3, l4, l5, l6, l7, l8⟩ := l
    exact fun h k hk => dS (s_slot hk rfl) (by rw [l0]; decide) (fun hi => by rw [raw_fcvtFromF32 w hi l0, l1, l2, l3, l4, l5]) (by rw [un_fcvtFromF32 w l0, l6, l7]; rfl) h
  · exact l.2.2.2.2.2.2.2.2

theorem raw_minF32 (w hi : Nat) (l0 : w % 256 = 0x46) : rawS w hi = some (Instr.minF32 (slice 4 w 26) (slice 6 w 8) (slice 6 w 14) (slice 6 w 20)) := by
  unfold rawS; rw [l0]; rfl
theorem un_minF32 (w : Nat) (l0 : w % 256 = 0x46) : unusedS w = (holds w 30 2 0) := by
  unfold unusedS; rw [l0]; rfl

theorem minF32 (p : BitVec 4) (d a b : BitVec 6) : Statement (.minF32 p d a b) := by
  have l := lay_s5 0x46 (by decide) p d a b
  refine mk (w := 0x46 + put p 26 + put d 8 + put a 14 + put b 20) (n := 32) rfl rfl ?_ ?_
  all_goals generalize 0x46 + put p 26 + put d 8 + put a 14 + put b 20 = w at l ⊢
  · obtain ⟨l0, l1, l2, l3, l4, l5, l6⟩ := l
    exact fun h k hk => dS (s_slot hk rfl) (by rw [l0]; decide) (fun hi => by rw [raw_minF32 w hi l0, l1, l2, l3, l4]) (by rw [un_minF32 w l0, l5]) h
  · exact l.2.2.2.2.2.2

theorem raw_maxF32 (w hi : Nat) (l0 : w % 256 = 0x47) : rawS w hi = some (Instr.maxF32 (slice 4 w 26) (slice 6 w 8) (slice 6 w 14) (slice 6 w 20)) := by
  unfold rawS; rw [l0]; rfl
theorem un_maxF32 (w : Nat) (l0 : w % 256 = 0x47) : unusedS w = (holds w 30 2 0) := by
  unfold unusedS; rw [l0]; rfl

theorem maxF32 (p : BitVec 4) (d a b : BitVec 6) : Statement (.maxF32 p d a b) := by
  have l := lay_s5 0x47 (by decide) p d a b
  refine mk (w := 0x47 + put p 26 + put d 8 + put a 14 + put b 20) (n := 32) rfl rfl ?_ ?_
  all_goals generalize 0x47 + put p 26 + put d 8 + put a 14 + put b 20 = w at l ⊢
  · obtain ⟨l0, l1, l2, l3, l4, l5, l6⟩ := l
    exact fun h k hk => dS (s_slot hk rfl) (by rw [l0]; decide) (fun hi => by rw [raw_maxF32 w hi l0, l1, l2, l3, l4]) (by rw [un_maxF32 w l0, l5]) h
  · exact l.2.2.2.2.2.2

theorem raw_pand (w hi : Nat) (l0 : w % 256 = 0x50) : rawS w hi = some (Instr.pand (slice 4 w 26) (slice 4 w 8) (slice 4 w 14) (slice 4 w 20)) := by
  unfold rawS; rw [l0]; rfl
theorem un_pand (w : Nat) (l0 : w % 256 = 0x50) : unusedS w = (holds w 12 2 0 && holds w 18 2 0 && holds w 24 2 0 && holds w 30 2 0) := by
  unfold unusedS; rw [l0]; rfl

theorem pand (p d a b : BitVec 4) : Statement (.pand p d a b) := by
  have l := lay_s14 0x50 (by decide) p d a b
  refine mk (w := 0x50 + put p 26 + put d 8 + put a 14 + put b 20) (n := 32) rfl rfl ?_ ?_
  all_goals generalize 0x50 + put p 26 + put d 8 + put a 14 + put b 20 = w at l ⊢
  · obtain ⟨l0, l1, l2, l3, l4, l5, l6, l7, l8, l9⟩ := l
    exact fun h k hk => dS (s_slot hk rfl) (by rw [l0]; decide) (fun hi => by rw [raw_pand w hi l0, l1, l2, l3, l4]) (by rw [un_pand w l0, l5, l6, l7, l8]; rfl) h
  · exact l.2.2.2.2.2.2.2.2.2

theorem raw_por (w hi : Nat) (l0 : w % 256 = 0x51) : rawS w hi = some (Instr.por (slice 4 w 26) (slice 4 w 8) (slice 4 w 14) (slice 4 w 20)) := by
  unfold rawS; rw [l0]; rfl
theorem un_por (w : Nat) (l0 : w % 256 = 0x51) : unusedS w = (holds w 12 2 0 && holds w 18 2 0 && holds w 24 2 0 && holds w 30 2 0) := by
  unfold unusedS; rw [l0]; rfl

theorem por (p d a b : BitVec 4) : Statement (.por p d a b) := by
  have l := lay_s14 0x51 (by decide) p d a b
  refine mk (w := 0x51 + put p 26 + put d 8 + put a 14 + put b 20) (n := 32) rfl rfl ?_ ?_
  all_goals generalize 0x51 + put p 26 + put d 8 + put a 14 + put b 20 = w at l ⊢
  · obtain ⟨l0, l1, l2, l3, l4, l5, l6, l7, l8, l9⟩ := l
    exact fun h k hk => dS (s_slot hk rfl) (by rw [l0]; decide) (fun hi => by rw [raw_por w hi l0, l1, l2, l3, l4]) (by rw [un_por w l0, l5, l6, l7, l8]; rfl) h
  · exact l.2.2.2.2.2.2.2.2.2

theorem raw_pxor (w hi : Nat) (l0 : w % 256 = 0x52) : rawS w hi = some (Instr.pxor (slice 4 w 26) (slice 4 w 8) (slice 4 w 14) (slice 4 w 20)) := by
  unfold rawS; rw [l0]; rfl
theorem un_pxor (w : Nat) (l0 : w % 256 = 0x52) : unusedS w = (holds w 12 2 0 && holds w 18 2 0 && holds w 24 2 0 && holds w 30 2 0) := by
  unfold unusedS; rw [l0]; rfl

theorem pxor (p d a b : BitVec 4) : Statement (.pxor p d a b) := by
  have l := lay_s14 0x52 (by decide) p d a b
  refine mk (w := 0x52 + put p 26 + put d 8 + put a 14 + put b 20) (n := 32) rfl rfl ?_ ?_
  all_goals generalize 0x52 + put p 26 + put d 8 + put a 14 + put b 20 = w at l ⊢
  · obtain ⟨l0, l1, l2, l3, l4, l5, l6, l7, l8, l9⟩ := l
    exact fun h k hk => dS (s_slot hk rfl) (by rw [l0]; decide) (fun hi => by rw [raw_pxor w hi l0, l1, l2, l3, l4]) (by rw [un_pxor w l0, l5, l6, l7, l8]; rfl) h
  · exact l.2.2.2.2.2.2.2.2.2

theorem raw_pnot (w hi : Nat) (l0 : w % 256 = 0x53) : rawS w hi = some (Instr.pnot (slice 4 w 26) (slice 4 w 8) (slice 4 w 14)) := by
  unfold rawS; rw [l0]; rfl
theorem un_pnot (w : Nat) (l0 : w % 256 = 0x53) : unusedS w = (holds w 12 2 0 && holds w 18 8 0 && holds w 30 2 0) := by
  unfold unusedS; rw [l0]; rfl

theorem pnot (p d a : BitVec 4) : Statement (.pnot p d a) := by
  have l := lay_s15 0x53 (by decide) p d a
  refine mk (w := 0x53 + put p 26 + put d 8 + put a 14) (n := 32) rfl rfl ?_ ?_
  all_goals generalize 0x53 + put p 26 + put d 8 + put a 14 = w at l ⊢
  · obtain ⟨l0, l1, l2, l3, l4, l5, l6, l7⟩ := l
    exact fun h k hk => dS (s_slot hk rfl) (by rw [l0]; decide) (fun hi => by rw [raw_pnot w hi l0, l1, l2, l3]) (by rw [un_pnot w l0, l4, l5, l6]; rfl) h
  · exact l.2.2.2.2.2.2.2

theorem raw_rdsr (w hi : Nat) (l0 : w % 256 = 0x60) : rawS w hi = some (Instr.rdsr (slice 4 w 26) (slice 6 w 8) (slice 6 w 14)) := by
  unfold rawS; rw [l0]; rfl
theorem un_rdsr (w : Nat) (l0 : w % 256 = 0x60) : unusedS w = (holds w 20 6 0 && holds w 30 2 0) := by
  unfold unusedS; rw [l0]; rfl

theorem rdsr (p : BitVec 4) (d sr : BitVec 6) : Statement (.rdsr p d sr) := by
  have l := lay_s7 0x60 (by decide) p d sr
  refine mk (w := 0x60 + put p 26 + put d 8 + put sr 14) (n := 32) rfl rfl ?_ ?_
  all_goals generalize 0x60 + put p 26 + put d 8 + put sr 14 = w at l ⊢
  · obtain ⟨l0, l1, l2, l3, l4, l5, l6⟩ := l
    exact fun h k hk => dS (s_slot hk rfl) (by rw [l0]; decide) (fun hi => by rw [raw_rdsr w hi l0, l1, l2, l3]) (by rw [un_rdsr w l0, l4, l5]; rfl) h
  · exact l.2.2.2.2.2.2

theorem raw_wrsr (w hi : Nat) (l0 : w % 256 = 0x61) : rawS w hi = some (Instr.wrsr (slice 4 w 26) (slice 6 w 8) (slice 6 w 14)) := by
  unfold rawS; rw [l0]; rfl
theorem un_wrsr (w : Nat) (l0 : w % 256 = 0x61) : unusedS w = (holds w 20 6 0 && holds w 30 2 0) := by
  unfold unusedS; rw [l0]; rfl

theorem wrsr (p : BitVec 4) (sr a : BitVec 6) : Statement (.wrsr p sr a) := by
  have l := lay_s7 0x61 (by decide) p sr a
  refine mk (w := 0x61 + put p 26 + put sr 8 + put a 14) (n := 32) rfl rfl ?_ ?_
  all_goals generalize 0x61 + put p 26 + put sr 8 + put a 14 = w at l ⊢
  · obtain ⟨l0, l1, l2, l3, l4, l5, l6⟩ := l
    exact fun h k hk => dS (s_slot hk rfl) (by rw [l0]; decide) (fun hi => by rw [raw_wrsr w hi l0, l1, l2, l3]) (by rw [un_wrsr w l0, l4, l5]; rfl) h
  · exact l.2.2.2.2.2.2

theorem raw_ali (w : Nat) (l0 : w % 16 = 0x0) : rawAG w = some (Instr.ali (slice 4 w 16) (slice 4 w 8) (slice 4 w 4)) := by
  unfold rawAG; rw [l0]; rfl
theorem un_ali (w : Nat) (l0 : w % 16 = 0x0) : unusedAG w = (holds w 12 4 0) := by
  unfold unusedAG; rw [l0]; rfl

theorem ali (imm gs ad : BitVec 4) : Statement (.ali imm gs ad) := by
  have l := lay_ag16 0x0 (by decide) imm gs ad
  refine mk (w := 0x00 + put imm 16 + put gs 8 + put ad 4) (n := 20) rfl rfl ?_ ?_
  all_goals generalize 0x00 + put imm 16 + put gs 8 + put ad 4 = w at l ⊢
  · obtain ⟨l0, l1, l2, l3, l4, l5⟩ := l
    exact fun h k hk => dAG (ag_slot hk rfl) (by rw [raw_ali w l0, l1, l2, l3]) (by rw [un_ali w l0, l4]) h
  · exact l.2.2.2.2.2

theorem raw_aadd (w : Nat) (l0 : w % 16 = 0x1) : rawAG w = some (Instr.aadd (slice 4 w 16) (slice 4 w 12) (slice 4 w 8) (slice 4 w 4)) := by
  unfold rawAG; rw [l0]; rfl
theorem un_aadd (w : Nat) (l0 : w % 16 = 0x1) : unusedAG w = true := by
  unfold unusedAG; rw [l0]; rfl

theorem aadd (imm am src ad : BitVec 4) : Statement (.aadd imm am src ad) := by
  have l := lay_ag17 0x1 (by decide) imm am src ad
  refine mk (w := 0x01 + put imm 16 + put am 12 + put src 8 + put ad 4) (n := 20) rfl rfl ?_ ?_
  all_goals generalize 0x01 + put imm 16 + put am 12 + put src 8 + put ad 4 = w at l ⊢
  · obtain ⟨l0, l1, l2, l3, l4, l5⟩ := l
    exact fun h k hk => dAG (ag_slot hk rfl) (by rw [raw_aadd w l0, l1, l2, l3, l4]) (un_aadd w l0) h
  · exact l.2.2.2.2.2

theorem raw_amod (w : Nat) (l0 : w % 16 = 0x2) : rawAG w = some (Instr.amod (slice 4 w 16) (slice 4 w 12) (slice 4 w 8) (slice 4 w 4)) := by
  unfold rawAG; rw [l0]; rfl
theorem un_amod (w : Nat) (l0 : w % 16 = 0x2) : unusedAG w = true := by
  unfold unusedAG; rw [l0]; rfl

theorem amod (imm am src ad : BitVec 4) : Statement (.amod imm am src ad) := by
  have l := lay_ag17 0x2 (by decide) imm am src ad
  refine mk (w := 0x02 + put imm 16 + put am 12 + put src 8 + put ad 4) (n := 20) rfl rfl ?_ ?_
  all_goals generalize 0x02 + put imm 16 + put am 12 + put src 8 + put ad 4 = w at l ⊢
  · obtain ⟨l0, l1, l2, l3, l4, l5⟩ := l
    exact fun h k hk => dAG (ag_slot hk rfl) (by rw [raw_amod w l0, l1, l2, l3, l4]) (un_amod w l0) h
  · exact l.2.2.2.2.2

theorem raw_abrv (w : Nat) (l0 : w % 16 = 0x3) : rawAG w = some (Instr.abrv (slice 4 w 16) (slice 4 w 12) (slice 4 w 8) (slice 4 w 4)) := by
  unfold rawAG; rw [l0]; rfl
theorem un_abrv (w : Nat) (l0 : w % 16 = 0x3) : unusedAG w = true := by
  unfold unusedAG; rw [l0]; rfl

theorem abrv (imm am src ad : BitVec 4) : Statement (.abrv imm am src ad) := by
  have l := lay_ag17 0x3 (by decide) imm am src ad
  refine mk (w := 0x03 + put imm 16 + put am 12 + put src 8 + put ad 4) (n := 20) rfl rfl ?_ ?_
  all_goals generalize 0x03 + put imm 16 + put am 12 + put src 8 + put ad 4 = w at l ⊢
  · obtain ⟨l0, l1, l2, l3, l4, l5⟩ := l
    exact fun h k hk => dAG (ag_slot hk rfl) (by rw [raw_abrv w l0, l1, l2, l3, l4]) (un_abrv w l0) h
  · exact l.2.2.2.2.2

theorem raw_acir (w : Nat) (l0 : w % 16 = 0x4) : rawAG w = some (Instr.acir (slice 4 w 16) (slice 4 w 12) (slice 4 w 8) (slice 4 w 4)) := by
  unfold rawAG; rw [l0]; rfl
theorem un_acir (w : Nat) (l0 : w % 16 = 0x4) : unusedAG w = true := by
  unfold unusedAG; rw [l0]; rfl

theorem acir (imm am src ad : BitVec 4) : Statement (.acir imm am src ad) := by
  have l := lay_ag17 0x4 (by decide) imm am src ad
  refine mk (w := 0x04 + put imm 16 + put am 12 + put src 8 + put ad 4) (n := 20) rfl rfl ?_ ?_
  all_goals generalize 0x04 + put imm 16 + put am 12 + put src 8 + put ad 4 = w at l ⊢
  · obtain ⟨l0, l1, l2, l3, l4, l5⟩ := l
    exact fun h k hk => dAG (ag_slot hk rfl) (by rw [raw_acir w l0, l1, l2, l3, l4]) (un_acir w l0) h
  · exact l.2.2.2.2.2

theorem raw_amset (w : Nat) (l0 : w % 16 = 0x5) : rawAG w = some (Instr.amset (slice 4 w 12) (slice 4 w 8)) := by
  unfold rawAG; rw [l0]; rfl
theorem un_amset (w : Nat) (l0 : w % 16 = 0x5) : unusedAG w = (holds w 4 4 0 && holds w 16 4 0) := by
  unfold unusedAG; rw [l0]; rfl

theorem amset (am gs : BitVec 4) : Statement (.amset am gs) := by
  have l := lay_ag18 0x5 (by decide) am gs
  refine mk (w := 0x05 + put am 12 + put gs 8) (n := 20) rfl rfl ?_ ?_
  all_goals generalize 0x05 + put am 12 + put gs 8 = w at l ⊢
  · obtain ⟨l0, l1, l2, l3, l4, l5⟩ := l
    exact fun h k hk => dAG (ag_slot hk rfl) (by rw [raw_amset w l0, l1, l2]) (by rw [un_amset w l0, l3, l4]; rfl) h
  · exact l.2.2.2.2.2

theorem raw_ldB (w : Nat) (l0 : w % 64 = 0x0) : rawL w = some (Instr.ldB (slice 4 w 28) (slice 12 w 16) (slice 4 w 12) (slice 6 w 6)) := by
  unfold rawL; rw [l0]; rfl
theorem un_ldB (w : Nat) (l0 : w % 64 = 0x0) : unusedL w = true := by
  unfold unusedL; rw [l0]; rfl

theorem ldB (p : BitVec 4) (off : BitVec 12) (m : BitVec 4) (r : BitVec 6) : Statement (.ldB p off m r) := by
  have l := lay_l19 0x0 (by decide) p off m r
  refine mk (w := 0x00 + put p 28 + put off 16 + put m 12 + put r 6) (n := 32) rfl rfl ?_ ?_
  all_goals generalize 0x00 + put p 28 + put off 16 + put m 12 + put r 6 = w at l ⊢
  · obtain ⟨l0, l1, l2, l3, l4, l5⟩ := l
    exact fun h k hk => dL (l_slot hk rfl) (by rw [raw_ldB w l0, l1, l2, l3, l4]) (un_ldB w l0) h
  · exact l.2.2.2.2.2

theorem raw_ldH (w : Nat) (l0 : w % 64 = 0x1) : rawL w = some (Instr.ldH (slice 4 w 28) (slice 12 w 16) (slice 4 w 12) (slice 6 w 6)) := by
  unfold rawL; rw [l0]; rfl
theorem un_ldH (w : Nat) (l0 : w % 64 = 0x1) : unusedL w = true := by
  unfold unusedL; rw [l0]; rfl

theorem ldH (p : BitVec 4) (off : BitVec 12) (m : BitVec 4) (r : BitVec 6) : Statement (.ldH p off m r) := by
  have l := lay_l19 0x1 (by decide) p off m r
  refine mk (w := 0x01 + put p 28 + put off 16 + put m 12 + put r 6) (n := 32) rfl rfl ?_ ?_
  all_goals generalize 0x01 + put p 28 + put off 16 + put m 12 + put r 6 = w at l ⊢
  · obtain ⟨l0, l1, l2, l3, l4, l5⟩ := l
    exact fun h k hk => dL (l_slot hk rfl) (by rw [raw_ldH w l0, l1, l2, l3, l4]) (un_ldH w l0) h
  · exact l.2.2.2.2.2

theorem raw_ldW (w : Nat) (l0 : w % 64 = 0x2) : rawL w = some (Instr.ldW (slice 4 w 28) (slice 12 w 16) (slice 4 w 12) (slice 6 w 6)) := by
  unfold rawL; rw [l0]; rfl
theorem un_ldW (w : Nat) (l0 : w % 64 = 0x2) : unusedL w = true := by
  unfold unusedL; rw [l0]; rfl

theorem ldW (p : BitVec 4) (off : BitVec 12) (m : BitVec 4) (r : BitVec 6) : Statement (.ldW p off m r) := by
  have l := lay_l19 0x2 (by decide) p off m r
  refine mk (w := 0x02 + put p 28 + put off 16 + put m 12 + put r 6) (n := 32) rfl rfl ?_ ?_
  all_goals generalize 0x02 + put p 28 + put off 16 + put m 12 + put r 6 = w at l ⊢
  · obtain ⟨l0, l1, l2, l3, l4, l5⟩ := l
    exact fun h k hk => dL (l_slot hk rfl) (by rw [raw_ldW w l0, l1, l2, l3, l4]) (un_ldW w l0) h
  · exact l.2.2.2.2.2

theorem raw_ldD (w : Nat) (l0 : w % 64 = 0x3) : rawL w = some (Instr.ldD (slice 4 w 28) (slice 12 w 16) (slice 4 w 12) (slice 6 w 6)) := by
  unfold rawL; rw [l0]; rfl
theorem un_ldD (w : Nat) (l0 : w % 64 = 0x3) : unusedL w = true := by
  unfold unusedL; rw [l0]; rfl

theorem ldD (p : BitVec 4) (off : BitVec 12) (m : BitVec 4) (r : BitVec 6) : Statement (.ldD p off m r) := by
  have l := lay_l19 0x3 (by decide) p off m r
  refine mk (w := 0x03 + put p 28 + put off 16 + put m 12 + put r 6) (n := 32) rfl rfl ?_ ?_
  all_goals generalize 0x03 + put p 28 + put off 16 + put m 12 + put r 6 = w at l ⊢
  · obtain ⟨l0, l1, l2, l3, l4, l5⟩ := l
    exact fun h k hk => dL (l_slot hk rfl) (by rw [raw_ldD w l0, l1, l2, l3, l4]) (un_ldD w l0) h
  · exact l.2.2.2.2.2

theorem raw_stB (w : Nat) (l0 : w % 64 = 0x4) : rawL w = some (Instr.stB (slice 4 w 28) (slice 12 w 16) (slice 4 w 12) (slice 6 w 6)) := by
  unfold rawL; rw [l0]; rfl
theorem un_stB (w : Nat) (l0 : w % 64 = 0x4) : unusedL w = true := by
  unfold unusedL; rw [l0]; rfl

theorem stB (p : BitVec 4) (off : BitVec 12) (m : BitVec 4) (r : BitVec 6) : Statement (.stB p off m r) := by
  have l := lay_l19 0x4 (by decide) p off m r
  refine mk (w := 0x04 + put p 28 + put off 16 + put m 12 + put r 6) (n := 32) rfl rfl ?_ ?_
  all_goals generalize 0x04 + put p 28 + put off 16 + put m 12 + put r 6 = w at l ⊢
  · obtain ⟨l0, l1, l2, l3, l4, l5⟩ := l
    exact fun h k hk => dL (l_slot hk rfl) (by rw [raw_stB w l0, l1, l2, l3, l4]) (un_stB w l0) h
  · exact l.2.2.2.2.2

theorem raw_stH (w : Nat) (l0 : w % 64 = 0x5) : rawL w = some (Instr.stH (slice 4 w 28) (slice 12 w 16) (slice 4 w 12) (slice 6 w 6)) := by
  unfold rawL; rw [l0]; rfl
theorem un_stH (w : Nat) (l0 : w % 64 = 0x5) : unusedL w = true := by
  unfold unusedL; rw [l0]; rfl

theorem stH (p : BitVec 4) (off : BitVec 12) (m : BitVec 4) (r : BitVec 6) : Statement (.stH p off m r) := by
  have l := lay_l19 0x5 (by decide) p off m r
  refine mk (w := 0x05 + put p 28 + put off 16 + put m 12 + put r 6) (n := 32) rfl rfl ?_ ?_
  all_goals generalize 0x05 + put p 28 + put off 16 + put m 12 + put r 6 = w at l ⊢
  · obtain ⟨l0, l1, l2, l3, l4, l5⟩ := l
    exact fun h k hk => dL (l_slot hk rfl) (by rw [raw_stH w l0, l1, l2, l3, l4]) (un_stH w l0) h
  · exact l.2.2.2.2.2

theorem raw_stW (w : Nat) (l0 : w % 64 = 0x6) : rawL w = some (Instr.stW (slice 4 w 28) (slice 12 w 16) (slice 4 w 12) (slice 6 w 6)) := by
  unfold rawL; rw [l0]; rfl
theorem un_stW (w : Nat) (l0 : w % 64 = 0x6) : unusedL w = true := by
  unfold unusedL; rw [l0]; rfl

theorem stW (p : BitVec 4) (off : BitVec 12) (m : BitVec 4) (r : BitVec 6) : Statement (.stW p off m r) := by
  have l := lay_l19 0x6 (by decide) p off m r
  refine mk (w := 0x06 + put p 28 + put off 16 + put m 12 + put r 6) (n := 32) rfl rfl ?_ ?_
  all_goals generalize 0x06 + put p 28 + put off 16 + put m 12 + put r 6 = w at l ⊢
  · obtain ⟨l0, l1, l2, l3, l4, l5⟩ := l
    exact fun h k hk => dL (l_slot hk rfl) (by rw [raw_stW w l0, l1, l2, l3, l4]) (un_stW w l0) h
  · exact l.2.2.2.2.2

theorem raw_stD (w : Nat) (l0 : w % 64 = 0x7) : rawL w = some (Instr.stD (slice 4 w 28) (slice 12 w 16) (slice 4 w 12) (slice 6 w 6)) := by
  unfold rawL; rw [l0]; rfl
theorem un_stD (w : Nat) (l0 : w % 64 = 0x7) : unusedL w = true := by
  unfold unusedL; rw [l0]; rfl

theorem stD (p : BitVec 4) (off : BitVec 12) (m : BitVec 4) (r : BitVec 6) : Statement (.stD p off m r) := by
  have l := lay_l19 0x7 (by decide) p off m r
  refine mk (w := 0x07 + put p 28 + put off 16 + put m 12 + put r 6) (n := 32) rfl rfl ?_ ?_
  all_goals generalize 0x07 + put p 28 + put off 16 + put m 12 + put r 6 = w at l ⊢
  · obtain ⟨l0, l1, l2, l3, l4, l5⟩ := l
    exact fun h k hk => dL (l_slot hk rfl) (by rw [raw_stD w l0, l1, l2, l3, l4]) (un_stD w l0) h
  · exact l.2.2.2.2.2

theorem raw_vld256 (w : Nat) (l0 : w % 64 = 0x8) : rawL w = some (Instr.vld256 (slice 4 w 28) (slice 12 w 16) (slice 4 w 12) (slice 6 w 6)) := by
  unfold rawL; rw [l0]; rfl
theorem un_vld256 (w : Nat) (l0 : w % 64 = 0x8) : unusedL w = true := by
  unfold unusedL; rw [l0]; rfl

theorem vld256 (p : BitVec 4) (off : BitVec 12) (m : BitVec 4) (r : BitVec 6) : Statement (.vld256 p off m r) := by
  have l := lay_l19 0x8 (by decide) p off m r
  refine mk (w := 0x08 + put p 28 + put off 16 + put m 12 + put r 6) (n := 32) rfl rfl ?_ ?_
  all_goals generalize 0x08 + put p 28 + put off 16 + put m 12 + put r 6 = w at l ⊢
  · obtain ⟨l0, l1, l2, l3, l4, l5⟩ := l
    exact fun h k hk => dL (l_slot hk rfl) (by rw [raw_vld256 w l0, l1, l2, l3, l4]) (un_vld256 w l0) h
  · exact l.2.2.2.2.2

theorem raw_vld512 (w : Nat) (l0 : w % 64 = 0x9) : rawL w = some (Instr.vld512 (slice 4 w 28) (slice 12 w 16) (slice 4 w 12) (slice 6 w 6)) := by
  unfold rawL; rw [l0]; rfl
theorem un_vld512 (w : Nat) (l0 : w % 64 = 0x9) : unusedL w = true := by
  unfold unusedL; rw [l0]; rfl

theorem vld512 (p : BitVec 4) (off : BitVec 12) (m : BitVec 4) (r : BitVec 6) : Statement (.vld512 p off m r) := by
  have l := lay_l19 0x9 (by decide) p off m r
  refine mk (w := 0x09 + put p 28 + put off 16 + put m 12 + put r 6) (n := 32) rfl rfl ?_ ?_
  all_goals generalize 0x09 + put p 28 + put off 16 + put m 12 + put r 6 = w at l ⊢
  · obtain ⟨l0, l1, l2, l3, l4, l5⟩ := l
    exact fun h k hk => dL (l_slot hk rfl) (by rw [raw_vld512 w l0, l1, l2, l3, l4]) (un_vld512 w l0) h
  · exact l.2.2.2.2.2

theorem raw_vld1024 (w : Nat) (l0 : w % 64 = 0xA) : rawL w = some (Instr.vld1024 (slice 4 w 28) (slice 12 w 16) (slice 4 w 12) (slice 6 w 6)) := by
  unfold rawL; rw [l0]; rfl
theorem un_vld1024 (w : Nat) (l0 : w % 64 = 0xA) : unusedL w = true := by
  unfold unusedL; rw [l0]; rfl

theorem vld1024 (p : BitVec 4) (off : BitVec 12) (m : BitVec 4) (r : BitVec 6) : Statement (.vld1024 p off m r) := by
  have l := lay_l19 0xA (by decide) p off m r
  refine mk (w := 0x0A + put p 28 + put off 16 + put m 12 + put r 6) (n := 32) rfl rfl ?_ ?_
  all_goals generalize 0x0A + put p 28 + put off 16 + put m 12 + put r 6 = w at l ⊢
  · obtain ⟨l0, l1, l2, l3, l4, l5⟩ := l
    exact fun h k hk => dL (l_slot hk rfl) (by rw [raw_vld1024 w l0, l1, l2, l3, l4]) (un_vld1024 w l0) h
  · exact l.2.2.2.2.2

theorem raw_vst256 (w : Nat) (l0 : w % 64 = 0xC) : rawL w = some (Instr.vst256 (slice 4 w 28) (slice 12 w 16) (slice 4 w 12) (slice 6 w 6)) := by
  unfold rawL; rw [l0]; rfl
theorem un_vst256 (w : Nat) (l0 : w % 64 = 0xC) : unusedL w = true := by
  unfold unusedL; rw [l0]; rfl

theorem vst256 (p : BitVec 4) (off : BitVec 12) (m : BitVec 4) (r : BitVec 6) : Statement (.vst256 p off m r) := by
  have l := lay_l19 0xC (by decide) p off m r
  refine mk (w := 0x0C + put p 28 + put off 16 + put m 12 + put r 6) (n := 32) rfl rfl ?_ ?_
  all_goals generalize 0x0C + put p 28 + put off 16 + put m 12 + put r 6 = w at l ⊢
  · obtain ⟨l0, l1, l2, l3, l4, l5⟩ := l
    exact fun h k hk => dL (l_slot hk rfl) (by rw [raw_vst256 w l0, l1, l2, l3, l4]) (un_vst256 w l0) h
  · exact l.2.2.2.2.2

theorem raw_vst512 (w : Nat) (l0 : w % 64 = 0xD) : rawL w = some (Instr.vst512 (slice 4 w 28) (slice 12 w 16) (slice 4 w 12) (slice 6 w 6)) := by
  unfold rawL; rw [l0]; rfl
theorem un_vst512 (w : Nat) (l0 : w % 64 = 0xD) : unusedL w = true := by
  unfold unusedL; rw [l0]; rfl

theorem vst512 (p : BitVec 4) (off : BitVec 12) (m : BitVec 4) (r : BitVec 6) : Statement (.vst512 p off m r) := by
  have l := lay_l19 0xD (by decide) p off m r
  refine mk (w := 0x0D + put p 28 + put off 16 + put m 12 + put r 6) (n := 32) rfl rfl ?_ ?_
  all_goals generalize 0x0D + put p 28 + put off 16 + put m 12 + put r 6 = w at l ⊢
  · obtain ⟨l0, l1, l2, l3, l4, l5⟩ := l
    exact fun h k hk => dL (l_slot hk rfl) (by rw [raw_vst512 w l0, l1, l2, l3, l4]) (un_vst512 w l0) h
  · exact l.2.2.2.2.2

theorem raw_vst1024 (w : Nat) (l0 : w % 64 = 0xE) : rawL w = some (Instr.vst1024 (slice 4 w 28) (slice 12 w 16) (slice 4 w 12) (slice 6 w 6)) := by
  unfold rawL; rw [l0]; rfl
theorem un_vst1024 (w : Nat) (l0 : w % 64 = 0xE) : unusedL w = true := by
  unfold unusedL; rw [l0]; rfl

theorem vst1024 (p : BitVec 4) (off : BitVec 12) (m : BitVec 4) (r : BitVec 6) : Statement (.vst1024 p off m r) := by
  have l := lay_l19 0xE (by decide) p off m r
  refine mk (w := 0x0E + put p 28 + put off 16 + put m 12 + put r 6) (n := 32) rfl rfl ?_ ?_
  all_goals generalize 0x0E + put p 28 + put off 16 + put m 12 + put r 6 = w at l ⊢
  · obtain ⟨l0, l1, l2, l3, l4, l5⟩ := l
    exact fun h k hk => dL (l_slot hk rfl) (by rw [raw_vst1024 w l0, l1, l2, l3, l4]) (un_vst1024 w l0) h
  · exact l.2.2.2.2.2

theorem raw_ldsB (w : Nat) (l0 : w % 64 = 0x10) : rawL w = some (Instr.ldsB (slice 4 w 28) (slice 12 w 16) (slice 6 w 6)) := by
  unfold rawL; rw [l0]; rfl
theorem un_ldsB (w : Nat) (l0 : w % 64 = 0x10) : unusedL w = (holds w 12 4 0) := by
  unfold unusedL; rw [l0]; rfl

theorem ldsB (p : BitVec 4) (off : BitVec 12) (r : BitVec 6) : Statement (.ldsB p off r) := by
  have l := lay_l20 0x10 (by decide) p off r
  refine mk (w := 0x10 + put p 28 + put off 16 + put r 6) (n := 32) rfl rfl ?_ ?_
  all_goals generalize 0x10 + put p 28 + put off 16 + put r 6 = w at l ⊢
  · obtain ⟨l0, l1, l2, l3, l4, l5⟩ := l
    exact fun h k hk => dL (l_slot hk rfl) (by rw [raw_ldsB w l0, l1, l2, l3]) (by rw [un_ldsB w l0, l4]) h
  · exact l.2.2.2.2.2

theorem raw_ldsH (w : Nat) (l0 : w % 64 = 0x11) : rawL w = some (Instr.ldsH (slice 4 w 28) (slice 12 w 16) (slice 6 w 6)) := by
  unfold rawL; rw [l0]; rfl
theorem un_ldsH (w : Nat) (l0 : w % 64 = 0x11) : unusedL w = (holds w 12 4 0) := by
  unfold unusedL; rw [l0]; rfl

theorem ldsH (p : BitVec 4) (off : BitVec 12) (r : BitVec 6) : Statement (.ldsH p off r) := by
  have l := lay_l20 0x11 (by decide) p off r
  refine mk (w := 0x11 + put p 28 + put off 16 + put r 6) (n := 32) rfl rfl ?_ ?_
  all_goals generalize 0x11 + put p 28 + put off 16 + put r 6 = w at l ⊢
  · obtain ⟨l0, l1, l2, l3, l4, l5⟩ := l
    exact fun h k hk => dL (l_slot hk rfl) (by rw [raw_ldsH w l0, l1, l2, l3]) (by rw [un_ldsH w l0, l4]) h
  · exact l.2.2.2.2.2

theorem raw_ldsW (w : Nat) (l0 : w % 64 = 0x12) : rawL w = some (Instr.ldsW (slice 4 w 28) (slice 12 w 16) (slice 6 w 6)) := by
  unfold rawL; rw [l0]; rfl
theorem un_ldsW (w : Nat) (l0 : w % 64 = 0x12) : unusedL w = (holds w 12 4 0) := by
  unfold unusedL; rw [l0]; rfl

theorem ldsW (p : BitVec 4) (off : BitVec 12) (r : BitVec 6) : Statement (.ldsW p off r) := by
  have l := lay_l20 0x12 (by decide) p off r
  refine mk (w := 0x12 + put p 28 + put off 16 + put r 6) (n := 32) rfl rfl ?_ ?_
  all_goals generalize 0x12 + put p 28 + put off 16 + put r 6 = w at l ⊢
  · obtain ⟨l0, l1, l2, l3, l4, l5⟩ := l
    exact fun h k hk => dL (l_slot hk rfl) (by rw [raw_ldsW w l0, l1, l2, l3]) (by rw [un_ldsW w l0, l4]) h
  · exact l.2.2.2.2.2

theorem raw_ldsD (w : Nat) (l0 : w % 64 = 0x13) : rawL w = some (Instr.ldsD (slice 4 w 28) (slice 12 w 16) (slice 6 w 6)) := by
  unfold rawL; rw [l0]; rfl
theorem un_ldsD (w : Nat) (l0 : w % 64 = 0x13) : unusedL w = (holds w 12 4 0) := by
  unfold unusedL; rw [l0]; rfl

theorem ldsD (p : BitVec 4) (off : BitVec 12) (r : BitVec 6) : Statement (.ldsD p off r) := by
  have l := lay_l20 0x13 (by decide) p off r
  refine mk (w := 0x13 + put p 28 + put off 16 + put r 6) (n := 32) rfl rfl ?_ ?_
  all_goals generalize 0x13 + put p 28 + put off 16 + put r 6 = w at l ⊢
  · obtain ⟨l0, l1, l2, l3, l4, l5⟩ := l
    exact fun h k hk => dL (l_slot hk rfl) (by rw [raw_ldsD w l0, l1, l2, l3]) (by rw [un_ldsD w l0, l4]) h
  · exact l.2.2.2.2.2

theorem raw_stsB (w : Nat) (l0 : w % 64 = 0x14) : rawL w = some (Instr.stsB (slice 4 w 28) (slice 12 w 16) (slice 6 w 6)) := by
  unfold rawL; rw [l0]; rfl
theorem un_stsB (w : Nat) (l0 : w % 64 = 0x14) : unusedL w = (holds w 12 4 0) := by
  unfold unusedL; rw [l0]; rfl

theorem stsB (p : BitVec 4) (off : BitVec 12) (r : BitVec 6) : Statement (.stsB p off r) := by
  have l := lay_l20 0x14 (by decide) p off r
  refine mk (w := 0x14 + put p 28 + put off 16 + put r 6) (n := 32) rfl rfl ?_ ?_
  all_goals generalize 0x14 + put p 28 + put off 16 + put r 6 = w at l ⊢
  · obtain ⟨l0, l1, l2, l3, l4, l5⟩ := l
    exact fun h k hk => dL (l_slot hk rfl) (by rw [raw_stsB w l0, l1, l2, l3]) (by rw [un_stsB w l0, l4]) h
  · exact l.2.2.2.2.2

theorem raw_stsH (w : Nat) (l0 : w % 64 = 0x15) : rawL w = some (Instr.stsH (slice 4 w 28) (slice 12 w 16) (slice 6 w 6)) := by
  unfold rawL; rw [l0]; rfl
theorem un_stsH (w : Nat) (l0 : w % 64 = 0x15) : unusedL w = (holds w 12 4 0) := by
  unfold unusedL; rw [l0]; rfl

theorem stsH (p : BitVec 4) (off : BitVec 12) (r : BitVec 6) : Statement (.stsH p off r) := by
  have l := lay_l20 0x15 (by decide) p off r
  refine mk (w := 0x15 + put p 28 + put off 16 + put r 6) (n := 32) rfl rfl ?_ ?_
  all_goals generalize 0x15 + put p 28 + put off 16 + put r 6 = w at l ⊢
  · obtain ⟨l0, l1, l2, l3, l4, l5⟩ := l
    exact fun h k hk => dL (l_slot hk rfl) (by rw [raw_stsH w l0, l1, l2, l3]) (by rw [un_stsH w l0, l4]) h
  · exact l.2.2.2.2.2

theorem raw_stsW (w : Nat) (l0 : w % 64 = 0x16) : rawL w = some (Instr.stsW (slice 4 w 28) (slice 12 w 16) (slice 6 w 6)) := by
  unfold rawL; rw [l0]; rfl
theorem un_stsW (w : Nat) (l0 : w % 64 = 0x16) : unusedL w = (holds w 12 4 0) := by
  unfold unusedL; rw [l0]; rfl

theorem stsW (p : BitVec 4) (off : BitVec 12) (r : BitVec 6) : Statement (.stsW p off r) := by
  have l := lay_l20 0x16 (by decide) p off r
  refine mk (w := 0x16 + put p 28 + put off 16 + put r 6) (n := 32) rfl rfl ?_ ?_
  all_goals generalize 0x16 + put p 28 + put off 16 + put r 6 = w at l ⊢
  · obtain ⟨l0, l1, l2, l3, l4, l5⟩ := l
    exact fun h k hk => dL (l_slot hk rfl) (by rw [raw_stsW w l0, l1, l2, l3]) (by rw [un_stsW w l0, l4]) h
  · exact l.2.2.2.2.2

theorem raw_stsD (w : Nat) (l0 : w % 64 = 0x17) : rawL w = some (Instr.stsD (slice 4 w 28) (slice 12 w 16) (slice 6 w 6)) := by
  unfold rawL; rw [l0]; rfl
theorem un_stsD (w : Nat) (l0 : w % 64 = 0x17) : unusedL w = (holds w 12 4 0) := by
  unfold unusedL; rw [l0]; rfl

theorem stsD (p : BitVec 4) (off : BitVec 12) (r : BitVec 6) : Statement (.stsD p off r) := by
  have l := lay_l20 0x17 (by decide) p off r
  refine mk (w := 0x17 + put p 28 + put off 16 + put r 6) (n := 32) rfl rfl ?_ ?_
  all_goals generalize 0x17 + put p 28 + put off 16 + put r 6 = w at l ⊢
  · obtain ⟨l0, l1, l2, l3, l4, l5⟩ := l
    exact fun h k hk => dL (l_slot hk rfl) (by rw [raw_stsD w l0, l1, l2, l3]) (by rw [un_stsD w l0, l4]) h
  · exact l.2.2.2.2.2

theorem raw_ldxD (w : Nat) (l0 : w % 64 = 0x18) : rawL w = some (Instr.ldxD (slice 4 w 28) (slice 12 w 16) (slice 4 w 12) (slice 3 w 6)) := by
  unfold rawL; rw [l0]; rfl
theorem un_ldxD (w : Nat) (l0 : w % 64 = 0x18) : unusedL w = (holds w 9 3 0) := by
  unfold unusedL; rw [l0]; rfl

theorem ldxD (p : BitVec 4) (off : BitVec 12) (m : BitVec 4) (q : BitVec 3) : Statement (.ldxD p off m q) := by
  have l := lay_l21 0x18 (by decide) p off m q
  refine mk (w := 0x18 + put p 28 + put off 16 + put m 12 + put q 6) (n := 32) rfl rfl ?_ ?_
  all_goals generalize 0x18 + put p 28 + put off 16 + put m 12 + put q 6 = w at l ⊢
  · obtain ⟨l0, l1, l2, l3, l4, l5, l6⟩ := l
    exact fun h k hk => dL (l_slot hk rfl) (by rw [raw_ldxD w l0, l1, l2, l3, l4]) (by rw [un_ldxD w l0, l5]) h
  · exact l.2.2.2.2.2.2

theorem raw_ldxV256 (w : Nat) (l0 : w % 64 = 0x19) : rawL w = some (Instr.ldxV256 (slice 4 w 28) (slice 12 w 16) (slice 4 w 12) (slice 3 w 6)) := by
  unfold rawL; rw [l0]; rfl
theorem un_ldxV256 (w : Nat) (l0 : w % 64 = 0x19) : unusedL w = (holds w 9 3 0) := by
  unfold unusedL; rw [l0]; rfl

theorem ldxV256 (p : BitVec 4) (off : BitVec 12) (m : BitVec 4) (q : BitVec 3) : Statement (.ldxV256 p off m q) := by
  have l := lay_l21 0x19 (by decide) p off m q
  refine mk (w := 0x19 + put p 28 + put off 16 + put m 12 + put q 6) (n := 32) rfl rfl ?_ ?_
  all_goals generalize 0x19 + put p 28 + put off 16 + put m 12 + put q 6 = w at l ⊢
  · obtain ⟨l0, l1, l2, l3, l4, l5, l6⟩ := l
    exact fun h k hk => dL (l_slot hk rfl) (by rw [raw_ldxV256 w l0, l1, l2, l3, l4]) (by rw [un_ldxV256 w l0, l5]) h
  · exact l.2.2.2.2.2.2

theorem raw_ldxV512 (w : Nat) (l0 : w % 64 = 0x1A) : rawL w = some (Instr.ldxV512 (slice 4 w 28) (slice 12 w 16) (slice 4 w 12) (slice 3 w 6)) := by
  unfold rawL; rw [l0]; rfl
theorem un_ldxV512 (w : Nat) (l0 : w % 64 = 0x1A) : unusedL w = (holds w 9 3 0) := by
  unfold unusedL; rw [l0]; rfl

theorem ldxV512 (p : BitVec 4) (off : BitVec 12) (m : BitVec 4) (q : BitVec 3) : Statement (.ldxV512 p off m q) := by
  have l := lay_l21 0x1A (by decide) p off m q
  refine mk (w := 0x1A + put p 28 + put off 16 + put m 12 + put q 6) (n := 32) rfl rfl ?_ ?_
  all_goals generalize 0x1A + put p 28 + put off 16 + put m 12 + put q 6 = w at l ⊢
  · obtain ⟨l0, l1, l2, l3, l4, l5, l6⟩ := l
    exact fun h k hk => dL (l_slot hk rfl) (by rw [raw_ldxV512 w l0, l1, l2, l3, l4]) (by rw [un_ldxV512 w l0, l5]) h
  · exact l.2.2.2.2.2.2

theorem raw_ldxV1024 (w : Nat) (l0 : w % 64 = 0x1B) : rawL w = some (Instr.ldxV1024 (slice 4 w 28) (slice 12 w 16) (slice 4 w 12) (slice 3 w 6)) := by
  unfold rawL; rw [l0]; rfl
theorem un_ldxV1024 (w : Nat) (l0 : w % 64 = 0x1B) : unusedL w = (holds w 9 3 0) := by
  unfold unusedL; rw [l0]; rfl

theorem ldxV1024 (p : BitVec 4) (off : BitVec 12) (m : BitVec 4) (q : BitVec 3) : Statement (.ldxV1024 p off m q) := by
  have l := lay_l21 0x1B (by decide) p off m q
  refine mk (w := 0x1B + put p 28 + put off 16 + put m 12 + put q 6) (n := 32) rfl rfl ?_ ?_
  all_goals generalize 0x1B + put p 28 + put off 16 + put m 12 + put q 6 = w at l ⊢
  · obtain ⟨l0, l1, l2, l3, l4, l5, l6⟩ := l
    exact fun h k hk => dL (l_slot hk rfl) (by rw [raw_ldxV1024 w l0, l1, l2, l3, l4]) (by rw [un_ldxV1024 w l0, l5]) h
  · exact l.2.2.2.2.2.2

theorem raw_stxD (w : Nat) (l0 : w % 64 = 0x1C) : rawL w = some (Instr.stxD (slice 4 w 28) (slice 12 w 16) (slice 4 w 12) (slice 6 w 6)) := by
  unfold rawL; rw [l0]; rfl
theorem un_stxD (w : Nat) (l0 : w % 64 = 0x1C) : unusedL w = true := by
  unfold unusedL; rw [l0]; rfl

theorem stxD (p : BitVec 4) (off : BitVec 12) (m : BitVec 4) (r : BitVec 6) : Statement (.stxD p off m r) := by
  have l := lay_l19 0x1C (by decide) p off m r
  refine mk (w := 0x1C + put p 28 + put off 16 + put m 12 + put r 6) (n := 32) rfl rfl ?_ ?_
  all_goals generalize 0x1C + put p 28 + put off 16 + put m 12 + put r 6 = w at l ⊢
  · obtain ⟨l0, l1, l2, l3, l4, l5⟩ := l
    exact fun h k hk => dL (l_slot hk rfl) (by rw [raw_stxD w l0, l1, l2, l3, l4]) (un_stxD w l0) h
  · exact l.2.2.2.2.2

theorem raw_stxV256 (w : Nat) (l0 : w % 64 = 0x1D) : rawL w = some (Instr.stxV256 (slice 4 w 28) (slice 12 w 16) (slice 4 w 12) (slice 6 w 6)) := by
  unfold rawL; rw [l0]; rfl
theorem un_stxV256 (w : Nat) (l0 : w % 64 = 0x1D) : unusedL w = true := by
  unfold unusedL; rw [l0]; rfl

theorem stxV256 (p : BitVec 4) (off : BitVec 12) (m : BitVec 4) (r : BitVec 6) : Statement (.stxV256 p off m r) := by
  have l := lay_l19 0x1D (by decide) p off m r
  refine mk (w := 0x1D + put p 28 + put off 16 + put m 12 + put r 6) (n := 32) rfl rfl ?_ ?_
  all_goals generalize 0x1D + put p 28 + put off 16 + put m 12 + put r 6 = w at l ⊢
  · obtain ⟨l0, l1, l2, l3, l4, l5⟩ := l
    exact fun h k hk => dL (l_slot hk rfl) (by rw [raw_stxV256 w l0, l1, l2, l3, l4]) (un_stxV256 w l0) h
  · exact l.2.2.2.2.2

theorem raw_stxV512 (w : Nat) (l0 : w % 64 = 0x1E) : rawL w = some (Instr.stxV512 (slice 4 w 28) (slice 12 w 16) (slice 4 w 12) (slice 6 w 6)) := by
  unfold rawL; rw [l0]; rfl
theorem un_stxV512 (w : Nat) (l0 : w % 64 = 0x1E) : unusedL w = true := by
  unfold unusedL; rw [l0]; rfl

theorem stxV512 (p : BitVec 4) (off : BitVec 12) (m : BitVec 4) (r : BitVec 6) : Statement (.stxV512 p off m r) := by
  have l := lay_l19 0x1E (by decide) p off m r
  refine mk (w := 0x1E + put p 28 + put off 16 + put m 12 + put r 6) (n := 32) rfl rfl ?_ ?_
  all_goals generalize 0x1E + put p 28 + put off 16 + put m 12 + put r 6 = w at l ⊢
  · obtain ⟨l0, l1, l2, l3, l4, l5⟩ := l
    exact fun h k hk => dL (l_slot hk rfl) (by rw [raw_stxV512 w l0, l1, l2, l3, l4]) (un_stxV512 w l0) h
  · exact l.2.2.2.2.2

theorem raw_stxV1024 (w : Nat) (l0 : w % 64 = 0x1F) : rawL w = some (Instr.stxV1024 (slice 4 w 28) (slice 12 w 16) (slice 4 w 12) (slice 6 w 6)) := by
  unfold rawL; rw [l0]; rfl
theorem un_stxV1024 (w : Nat) (l0 : w % 64 = 0x1F) : unusedL w = true := by
  unfold unusedL; rw [l0]; rfl

theorem stxV1024 (p : BitVec 4) (off : BitVec 12) (m : BitVec 4) (r : BitVec 6) : Statement (.stxV1024 p off m r) := by
  have l := lay_l19 0x1F (by decide) p off m r
  refine mk (w := 0x1F + put p 28 + put off 16 + put m 12 + put r 6) (n := 32) rfl rfl ?_ ?_
  all_goals generalize 0x1F + put p 28 + put off 16 + put m 12 + put r 6 = w at l ⊢
  · obtain ⟨l0, l1, l2, l3, l4, l5⟩ := l
    exact fun h k hk => dL (l_slot hk rfl) (by rw [raw_stxV1024 w l0, l1, l2, l3, l4]) (un_stxV1024 w l0) h
  · exact l.2.2.2.2.2

theorem raw_atmAddW (w : Nat) (l0 : w % 64 = 0x20) : rawL w = some (Instr.atmAddW (slice 4 w 28) (slice 12 w 16) (slice 4 w 12) (slice 6 w 6)) := by
  unfold rawL; rw [l0]; rfl
theorem un_atmAddW (w : Nat) (l0 : w % 64 = 0x20) : unusedL w = true := by
  unfold unusedL; rw [l0]; rfl

theorem atmAddW (p : BitVec 4) (off : BitVec 12) (m : BitVec 4) (r : BitVec 6) : Statement (.atmAddW p off m r) := by
  have l := lay_l19 0x20 (by decide) p off m r
  refine mk (w := 0x20 + put p 28 + put off 16 + put m 12 + put r 6) (n := 32) rfl rfl ?_ ?_
  all_goals generalize 0x20 + put p 28 + put off 16 + put m 12 + put r 6 = w at l ⊢
  · obtain ⟨l0, l1, l2, l3, l4, l5⟩ := l
    exact fun h k hk => dL (l_slot hk rfl) (by rw [raw_atmAddW w l0, l1, l2, l3, l4]) (un_atmAddW w l0) h
  · exact l.2.2.2.2.2

theorem raw_atmAndW (w : Nat) (l0 : w % 64 = 0x21) : rawL w = some (Instr.atmAndW (slice 4 w 28) (slice 12 w 16) (slice 4 w 12) (slice 6 w 6)) := by
  unfold rawL; rw [l0]; rfl
theorem un_atmAndW (w : Nat) (l0 : w % 64 = 0x21) : unusedL w = true := by
  unfold unusedL; rw [l0]; rfl

theorem atmAndW (p : BitVec 4) (off : BitVec 12) (m : BitVec 4) (r : BitVec 6) : Statement (.atmAndW p off m r) := by
  have l := lay_l19 0x21 (by decide) p off m r
  refine mk (w := 0x21 + put p 28 + put off 16 + put m 12 + put r 6) (n := 32) rfl rfl ?_ ?_
  all_goals generalize 0x21 + put p 28 + put off 16 + put m 12 + put r 6 = w at l ⊢
  · obtain ⟨l0, l1, l2, l3, l4, l5⟩ := l
    exact fun h k hk => dL (l_slot hk rfl) (by rw [raw_atmAndW w l0, l1, l2, l3, l4]) (un_atmAndW w l0) h
  · exact l.2.2.2.2.2

theorem raw_atmOrW (w : Nat) (l0 : w % 64 = 0x22) : rawL w = some (Instr.atmOrW (slice 4 w 28) (slice 12 w 16) (slice 4 w 12) (slice 6 w 6)) := by
  unfold rawL; rw [l0]; rfl
theorem un_atmOrW (w : Nat) (l0 : w % 64 = 0x22) : unusedL w = true := by
  unfold unusedL; rw [l0]; rfl

theorem atmOrW (p : BitVec 4) (off : BitVec 12) (m : BitVec 4) (r : BitVec 6) : Statement (.atmOrW p off m r) := by
  have l := lay_l19 0x22 (by decide) p off m r
  refine mk (w := 0x22 + put p 28 + put off 16 + put m 12 + put r 6) (n := 32) rfl rfl ?_ ?_
  all_goals generalize 0x22 + put p 28 + put off 16 + put m 12 + put r 6 = w at l ⊢
  · obtain ⟨l0, l1, l2, l3, l4, l5⟩ := l
    exact fun h k hk => dL (l_slot hk rfl) (by rw [raw_atmOrW w l0, l1, l2, l3, l4]) (un_atmOrW w l0) h
  · exact l.2.2.2.2.2

theorem raw_atmXorW (w : Nat) (l0 : w % 64 = 0x23) : rawL w = some (Instr.atmXorW (slice 4 w 28) (slice 12 w 16) (slice 4 w 12) (slice 6 w 6)) := by
  unfold rawL; rw [l0]; rfl
theorem un_atmXorW (w : Nat) (l0 : w % 64 = 0x23) : unusedL w = true := by
  unfold unusedL; rw [l0]; rfl

theorem atmXorW (p : BitVec 4) (off : BitVec 12) (m : BitVec 4) (r : BitVec 6) : Statement (.atmXorW p off m r) := by
  have l := lay_l19 0x23 (by decide) p off m r
  refine mk (w := 0x23 + put p 28 + put off 16 + put m 12 + put r 6) (n := 32) rfl rfl ?_ ?_
  all_goals generalize 0x23 + put p 28 + put off 16 + put m 12 + put r 6 = w at l ⊢
  · obtain ⟨l0, l1, l2, l3, l4, l5⟩ := l
    exact fun h k hk => dL (l_slot hk rfl) (by rw [raw_atmXorW w l0, l1, l2, l3, l4]) (un_atmXorW w l0) h
  · exact l.2.2.2.2.2

theorem raw_atmSwpW (w : Nat) (l0 : w % 64 = 0x24) : rawL w = some (Instr.atmSwpW (slice 4 w 28) (slice 12 w 16) (slice 4 w 12) (slice 6 w 6)) := by
  unfold rawL; rw [l0]; rfl
theorem un_atmSwpW (w : Nat) (l0 : w % 64 = 0x24) : unusedL w = true := by
  unfold unusedL; rw [l0]; rfl

theorem atmSwpW (p : BitVec 4) (off : BitVec 12) (m : BitVec 4) (r : BitVec 6) : Statement (.atmSwpW p off m r) := by
  have l := lay_l19 0x24 (by decide) p off m r
  refine mk (w := 0x24 + put p 28 + put off 16 + put m 12 + put r 6) (n := 32) rfl rfl ?_ ?_
  all_goals generalize 0x24 + put p 28 + put off 16 + put m 12 + put r 6 = w at l ⊢
  · obtain ⟨l0, l1, l2, l3, l4, l5⟩ := l
    exact fun h k hk => dL (l_slot hk rfl) (by rw [raw_atmSwpW w l0, l1, l2, l3, l4]) (un_atmSwpW w l0) h
  · exact l.2.2.2.2.2

theorem raw_atmCasW (w : Nat) (l0 : w % 64 = 0x25) : rawL w = some (Instr.atmCasW (slice 4 w 28) (slice 12 w 16) (slice 4 w 12) (slice 6 w 6)) := by
  unfold rawL; rw [l0]; rfl
theorem un_atmCasW (w : Nat) (l0 : w % 64 = 0x25) : unusedL w = true := by
  unfold unusedL; rw [l0]; rfl

theorem atmCasW (p : BitVec 4) (off : BitVec 12) (m : BitVec 4) (r : BitVec 6) : Statement (.atmCasW p off m r) := by
  have l := lay_l19 0x25 (by decide) p off m r
  refine mk (w := 0x25 + put p 28 + put off 16 + put m 12 + put r 6) (n := 32) rfl rfl ?_ ?_
  all_goals generalize 0x25 + put p 28 + put off 16 + put m 12 + put r 6 = w at l ⊢
  · obtain ⟨l0, l1, l2, l3, l4, l5⟩ := l
    exact fun h k hk => dL (l_slot hk rfl) (by rw [raw_atmCasW w l0, l1, l2, l3, l4]) (un_atmCasW w l0) h
  · exact l.2.2.2.2.2

theorem raw_atmMinW (w : Nat) (l0 : w % 64 = 0x26) : rawL w = some (Instr.atmMinW (slice 4 w 28) (slice 12 w 16) (slice 4 w 12) (slice 6 w 6)) := by
  unfold rawL; rw [l0]; rfl
theorem un_atmMinW (w : Nat) (l0 : w % 64 = 0x26) : unusedL w = true := by
  unfold unusedL; rw [l0]; rfl

theorem atmMinW (p : BitVec 4) (off : BitVec 12) (m : BitVec 4) (r : BitVec 6) : Statement (.atmMinW p off m r) := by
  have l := lay_l19 0x26 (by decide) p off m r
  refine mk (w := 0x26 + put p 28 + put off 16 + put m 12 + put r 6) (n := 32) rfl rfl ?_ ?_
  all_goals generalize 0x26 + put p 28 + put off 16 + put m 12 + put r 6 = w at l ⊢
  · obtain ⟨l0, l1, l2, l3, l4, l5⟩ := l
    exact fun h k hk => dL (l_slot hk rfl) (by rw [raw_atmMinW w l0, l1, l2, l3, l4]) (un_atmMinW w l0) h
  · exact l.2.2.2.2.2

theorem raw_atmMaxW (w : Nat) (l0 : w % 64 = 0x27) : rawL w = some (Instr.atmMaxW (slice 4 w 28) (slice 12 w 16) (slice 4 w 12) (slice 6 w 6)) := by
  unfold rawL; rw [l0]; rfl
theorem un_atmMaxW (w : Nat) (l0 : w % 64 = 0x27) : unusedL w = true := by
  unfold unusedL; rw [l0]; rfl

theorem atmMaxW (p : BitVec 4) (off : BitVec 12) (m : BitVec 4) (r : BitVec 6) : Statement (.atmMaxW p off m r) := by
  have l := lay_l19 0x27 (by decide) p off m r
  refine mk (w := 0x27 + put p 28 + put off 16 + put m 12 + put r 6) (n := 32) rfl rfl ?_ ?_
  all_goals generalize 0x27 + put p 28 + put off 16 + put m 12 + put r 6 = w at l ⊢
  · obtain ⟨l0, l1, l2, l3, l4, l5⟩ := l
    exact fun h k hk => dL (l_slot hk rfl) (by rw [raw_atmMaxW w l0, l1, l2, l3, l4]) (un_atmMaxW w l0) h
  · exact l.2.2.2.2.2

theorem raw_atmAdd (w : Nat) (l0 : w % 64 = 0x28) : rawL w = some (Instr.atmAdd (slice 4 w 28) (slice 12 w 16) (slice 4 w 12) (slice 6 w 6)) := by
  unfold rawL; rw [l0]; rfl
theorem un_atmAdd (w : Nat) (l0 : w % 64 = 0x28) : unusedL w = true := by
  unfold unusedL; rw [l0]; rfl

theorem atmAdd (p : BitVec 4) (off : BitVec 12) (m : BitVec 4) (r : BitVec 6) : Statement (.atmAdd p off m r) := by
  have l := lay_l19 0x28 (by decide) p off m r
  refine mk (w := 0x28 + put p 28 + put off 16 + put m 12 + put r 6) (n := 32) rfl rfl ?_ ?_
  all_goals generalize 0x28 + put p 28 + put off 16 + put m 12 + put r 6 = w at l ⊢
  · obtain ⟨l0, l1, l2, l3, l4, l5⟩ := l
    exact fun h k hk => dL (l_slot hk rfl) (by rw [raw_atmAdd w l0, l1, l2, l3, l4]) (un_atmAdd w l0) h
  · exact l.2.2.2.2.2

theorem raw_atmAnd (w : Nat) (l0 : w % 64 = 0x29) : rawL w = some (Instr.atmAnd (slice 4 w 28) (slice 12 w 16) (slice 4 w 12) (slice 6 w 6)) := by
  unfold rawL; rw [l0]; rfl
theorem un_atmAnd (w : Nat) (l0 : w % 64 = 0x29) : unusedL w = true := by
  unfold unusedL; rw [l0]; rfl

theorem atmAnd (p : BitVec 4) (off : BitVec 12) (m : BitVec 4) (r : BitVec 6) : Statement (.atmAnd p off m r) := by
  have l := lay_l19 0x29 (by decide) p off m r
  refine mk (w := 0x29 + put p 28 + put off 16 + put m 12 + put r 6) (n := 32) rfl rfl ?_ ?_
  all_goals generalize 0x29 + put p 28 + put off 16 + put m 12 + put r 6 = w at l ⊢
  · obtain ⟨l0, l1, l2, l3, l4, l5⟩ := l
    exact fun h k hk => dL (l_slot hk rfl) (by rw [raw_atmAnd w l0, l1, l2, l3, l4]) (un_atmAnd w l0) h
  · exact l.2.2.2.2.2

theorem raw_atmOr (w : Nat) (l0 : w % 64 = 0x2A) : rawL w = some (Instr.atmOr (slice 4 w 28) (slice 12 w 16) (slice 4 w 12) (slice 6 w 6)) := by
  unfold rawL; rw [l0]; rfl
theorem un_atmOr (w : Nat) (l0 : w % 64 = 0x2A) : unusedL w = true := by
  unfold unusedL; rw [l0]; rfl

theorem atmOr (p : BitVec 4) (off : BitVec 12) (m : BitVec 4) (r : BitVec 6) : Statement (.atmOr p off m r) := by
  have l := lay_l19 0x2A (by decide) p off m r
  refine mk (w := 0x2A + put p 28 + put off 16 + put m 12 + put r 6) (n := 32) rfl rfl ?_ ?_
  all_goals generalize 0x2A + put p 28 + put off 16 + put m 12 + put r 6 = w at l ⊢
  · obtain ⟨l0, l1, l2, l3, l4, l5⟩ := l
    exact fun h k hk => dL (l_slot hk rfl) (by rw [raw_atmOr w l0, l1, l2, l3, l4]) (un_atmOr w l0) h
  · exact l.2.2.2.2.2

theorem raw_atmXor (w : Nat) (l0 : w % 64 = 0x2B) : rawL w = some (Instr.atmXor (slice 4 w 28) (slice 12 w 16) (slice 4 w 12) (slice 6 w 6)) := by
  unfold rawL; rw [l0]; rfl
theorem un_atmXor (w : Nat) (l0 : w % 64 = 0x2B) : unusedL w = true := by
  unfold unusedL; rw [l0]; rfl

theorem atmXor (p : BitVec 4) (off : BitVec 12) (m : BitVec 4) (r : BitVec 6) : Statement (.atmXor p off m r) := by
  have l := lay_l19 0x2B (by decide) p off m r
  refine mk (w := 0x2B + put p 28 + put off 16 + put m 12 + put r 6) (n := 32) rfl rfl ?_ ?_
  all_goals generalize 0x2B + put p 28 + put off 16 + put m 12 + put r 6 = w at l ⊢
  · obtain ⟨l0, l1, l2, l3, l4, l5⟩ := l
    exact fun h k hk => dL (l_slot hk rfl) (by rw [raw_atmXor w l0, l1, l2, l3, l4]) (un_atmXor w l0) h
  · exact l.2.2.2.2.2

theorem raw_atmSwp (w : Nat) (l0 : w % 64 = 0x2C) : rawL w = some (Instr.atmSwp (slice 4 w 28) (slice 12 w 16) (slice 4 w 12) (slice 6 w 6)) := by
  unfold rawL; rw [l0]; rfl
theorem un_atmSwp (w : Nat) (l0 : w % 64 = 0x2C) : unusedL w = true := by
  unfold unusedL; rw [l0]; rfl

theorem atmSwp (p : BitVec 4) (off : BitVec 12) (m : BitVec 4) (r : BitVec 6) : Statement (.atmSwp p off m r) := by
  have l := lay_l19 0x2C (by decide) p off m r
  refine mk (w := 0x2C + put p 28 + put off 16 + put m 12 + put r 6) (n := 32) rfl rfl ?_ ?_
  all_goals generalize 0x2C + put p 28 + put off 16 + put m 12 + put r 6 = w at l ⊢
  · obtain ⟨l0, l1, l2, l3, l4, l5⟩ := l
    exact fun h k hk => dL (l_slot hk rfl) (by rw [raw_atmSwp w l0, l1, l2, l3, l4]) (un_atmSwp w l0) h
  · exact l.2.2.2.2.2

theorem raw_atmCas (w : Nat) (l0 : w % 64 = 0x2D) : rawL w = some (Instr.atmCas (slice 4 w 28) (slice 12 w 16) (slice 4 w 12) (slice 6 w 6)) := by
  unfold rawL; rw [l0]; rfl
theorem un_atmCas (w : Nat) (l0 : w % 64 = 0x2D) : unusedL w = true := by
  unfold unusedL; rw [l0]; rfl

theorem atmCas (p : BitVec 4) (off : BitVec 12) (m : BitVec 4) (r : BitVec 6) : Statement (.atmCas p off m r) := by
  have l := lay_l19 0x2D (by decide) p off m r
  refine mk (w := 0x2D + put p 28 + put off 16 + put m 12 + put r 6) (n := 32) rfl rfl ?_ ?_
  all_goals generalize 0x2D + put p 28 + put off 16 + put m 12 + put r 6 = w at l ⊢
  · obtain ⟨l0, l1, l2, l3, l4, l5⟩ := l
    exact fun h k hk => dL (l_slot hk rfl) (by rw [raw_atmCas w l0, l1, l2, l3, l4]) (un_atmCas w l0) h
  · exact l.2.2.2.2.2

theorem raw_atmMin (w : Nat) (l0 : w % 64 = 0x2E) : rawL w = some (Instr.atmMin (slice 4 w 28) (slice 12 w 16) (slice 4 w 12) (slice 6 w 6)) := by
  unfold rawL; rw [l0]; rfl
theorem un_atmMin (w : Nat) (l0 : w % 64 = 0x2E) : unusedL w = true := by
  unfold unusedL; rw [l0]; rfl

theorem atmMin (p : BitVec 4) (off : BitVec 12) (m : BitVec 4) (r : BitVec 6) : Statement (.atmMin p off m r) := by
  have l := lay_l19 0x2E (by decide) p off m r
  refine mk (w := 0x2E + put p 28 + put off 16 + put m 12 + put r 6) (n := 32) rfl rfl ?_ ?_
  all_goals generalize 0x2E + put p 28 + put off 16 + put m 12 + put r 6 = w at l ⊢
  · obtain ⟨l0, l1, l2, l3, l4, l5⟩ := l
    exact fun h k hk => dL (l_slot hk rfl) (by rw [raw_atmMin w l0, l1, l2, l3, l4]) (un_atmMin w l0) h
  · exact l.2.2.2.2.2

theorem raw_atmMax (w : Nat) (l0 : w % 64 = 0x2F) : rawL w = some (Instr.atmMax (slice 4 w 28) (slice 12 w 16) (slice 4 w 12) (slice 6 w 6)) := by
  unfold rawL; rw [l0]; rfl
theorem un_atmMax (w : Nat) (l0 : w % 64 = 0x2F) : unusedL w = true := by
  unfold unusedL; rw [l0]; rfl

theorem atmMax (p : BitVec 4) (off : BitVec 12) (m : BitVec 4) (r : BitVec 6) : Statement (.atmMax p off m r) := by
  have l := lay_l19 0x2F (by decide) p off m r
  refine mk (w := 0x2F + put p 28 + put off 16 + put m 12 + put r 6) (n := 32) rfl rfl ?_ ?_
  all_goals generalize 0x2F + put p 28 + put off 16 + put m 12 + put r 6 = w at l ⊢
  · obtain ⟨l0, l1, l2, l3, l4, l5⟩ := l
    exact fun h k hk => dL (l_slot hk rfl) (by rw [raw_atmMax w l0, l1, l2, l3, l4]) (un_atmMax w l0) h
  · exact l.2.2.2.2.2

theorem raw_atmFmaxF32 (w : Nat) (l0 : w % 64 = 0x30) : rawL w = some (Instr.atmFmaxF32 (slice 4 w 28) (slice 12 w 16) (slice 4 w 12) (slice 6 w 6)) := by
  unfold rawL; rw [l0]; rfl
theorem un_atmFmaxF32 (w : Nat) (l0 : w % 64 = 0x30) : unusedL w = true := by
  unfold unusedL; rw [l0]; rfl

theorem atmFmaxF32 (p : BitVec 4) (off : BitVec 12) (m : BitVec 4) (r : BitVec 6) : Statement (.atmFmaxF32 p off m r) := by
  have l := lay_l19 0x30 (by decide) p off m r
  refine mk (w := 0x30 + put p 28 + put off 16 + put m 12 + put r 6) (n := 32) rfl rfl ?_ ?_
  all_goals generalize 0x30 + put p 28 + put off 16 + put m 12 + put r 6 = w at l ⊢
  · obtain ⟨l0, l1, l2, l3, l4, l5⟩ := l
    exact fun h k hk => dL (l_slot hk rfl) (by rw [raw_atmFmaxF32 w l0, l1, l2, l3, l4]) (un_atmFmaxF32 w l0) h
  · exact l.2.2.2.2.2

theorem raw_atmFmaxBf16 (w : Nat) (l0 : w % 64 = 0x31) : rawL w = some (Instr.atmFmaxBf16 (slice 4 w 28) (slice 12 w 16) (slice 4 w 12) (slice 6 w 6)) := by
  unfold rawL; rw [l0]; rfl
theorem un_atmFmaxBf16 (w : Nat) (l0 : w % 64 = 0x31) : unusedL w = true := by
  unfold unusedL; rw [l0]; rfl

theorem atmFmaxBf16 (p : BitVec 4) (off : BitVec 12) (m : BitVec 4) (r : BitVec 6) : Statement (.atmFmaxBf16 p off m r) := by
  have l := lay_l19 0x31 (by decide) p off m r
  refine mk (w := 0x31 + put p 28 + put off 16 + put m 12 + put r 6) (n := 32) rfl rfl ?_ ?_
  all_goals generalize 0x31 + put p 28 + put off 16 + put m 12 + put r 6 = w at l ⊢
  · obtain ⟨l0, l1, l2, l3, l4, l5⟩ := l
    exact fun h k hk => dL (l_slot hk rfl) (by rw [raw_atmFmaxBf16 w l0, l1, l2, l3, l4]) (un_atmFmaxBf16 w l0) h
  · exact l.2.2.2.2.2

theorem raw_atmFmaxF16 (w : Nat) (l0 : w % 64 = 0x32) : rawL w = some (Instr.atmFmaxF16 (slice 4 w 28) (slice 12 w 16) (slice 4 w 12) (slice 6 w 6)) := by
  unfold rawL; rw [l0]; rfl
theorem un_atmFmaxF16 (w : Nat) (l0 : w % 64 = 0x32) : unusedL w = true := by
  unfold unusedL; rw [l0]; rfl

theorem atmFmaxF16 (p : BitVec 4) (off : BitVec 12) (m : BitVec 4) (r : BitVec 6) : Statement (.atmFmaxF16 p off m r) := by
  have l := lay_l19 0x32 (by decide) p off m r
  refine mk (w := 0x32 + put p 28 + put off 16 + put m 12 + put r 6) (n := 32) rfl rfl ?_ ?_
  all_goals generalize 0x32 + put p 28 + put off 16 + put m 12 + put r 6 = w at l ⊢
  · obtain ⟨l0, l1, l2, l3, l4, l5⟩ := l
    exact fun h k hk => dL (l_slot hk rfl) (by rw [raw_atmFmaxF16 w l0, l1, l2, l3, l4]) (un_atmFmaxF16 w l0) h
  · exact l.2.2.2.2.2

theorem raw_atmDec (w : Nat) (l0 : w % 64 = 0x33) : rawL w = some (Instr.atmDec (slice 4 w 28) (slice 12 w 16) (slice 4 w 12) (slice 6 w 6)) := by
  unfold rawL; rw [l0]; rfl
theorem un_atmDec (w : Nat) (l0 : w % 64 = 0x33) : unusedL w = true := by
  unfold unusedL; rw [l0]; rfl

theorem atmDec (p : BitVec 4) (off : BitVec 12) (m : BitVec 4) (r : BitVec 6) : Statement (.atmDec p off m r) := by
  have l := lay_l19 0x33 (by decide) p off m r
  refine mk (w := 0x33 + put p 28 + put off 16 + put m 12 + put r 6) (n := 32) rfl rfl ?_ ?_
  all_goals generalize 0x33 + put p 28 + put off 16 + put m 12 + put r 6 = w at l ⊢
  · obtain ⟨l0, l1, l2, l3, l4, l5⟩ := l
    exact fun h k hk => dL (l_slot hk rfl) (by rw [raw_atmDec w l0, l1, l2, l3, l4]) (un_atmDec w l0) h
  · exact l.2.2.2.2.2

theorem raw_vadd (w : Nat) (l0 : w % 256 = 0x1) : rawV w = some (Instr.vadd (slice 4 w 32) (slice 6 w 26) (slice 6 w 20) (slice 6 w 14) (slice 4 w 10) (slice 2 w 8)) := by
  unfold rawV; rw [l0]; rfl
theorem un_vadd (w : Nat) (l0 : w % 256 = 0x1) : unusedV w = true := by
  unfold unusedV; rw [l0]; rfl

theorem vadd (p : BitVec 4) (vb va vd : BitVec 6) (ty : BitVec 4) (wid : BitVec 2) : Statement (.vadd p vb va vd ty wid) := by
  have l := lay_v22 0x1 (by decide) p vb va vd ty wid
  refine mk (w := 0x01 + put p 32 + put vb 26 + put va 20 + put vd 14 + put ty 10 + put wid 8) (n := 36) rfl rfl ?_ ?_
  all_goals generalize 0x01 + put p 32 + put vb 26 + put va 20 + put vd 14 + put ty 10 + put wid 8 = w at l ⊢
  · obtain ⟨l0, l1, l2, l3, l4, l5, l6, l7, l8⟩ := l
    exact fun h k hk => dV (v_slot hk rfl) (by rw [l1]; decide) (by rw [raw_vadd w l0, l2, l3, l4, l5, l6, l7]) (un_vadd w l0) h
  · exact l.2.2.2.2.2.2.2.2

theorem raw_vsub (w : Nat) (l0 : w % 256 = 0x2) : rawV w = some (Instr.vsub (slice 4 w 32) (slice 6 w 26) (slice 6 w 20) (slice 6 w 14) (slice 4 w 10) (slice 2 w 8)) := by
  unfold rawV; rw [l0]; rfl
theorem un_vsub (w : Nat) (l0 : w % 256 = 0x2) : unusedV w = true := by
  unfold unusedV; rw [l0]; rfl

theorem vsub (p : BitVec 4) (vb va vd : BitVec 6) (ty : BitVec 4) (wid : BitVec 2) : Statement (.vsub p vb va vd ty wid) := by
  have l := lay_v22 0x2 (by decide) p vb va vd ty wid
  refine mk (w := 0x02 + put p 32 + put vb 26 + put va 20 + put vd 14 + put ty 10 + put wid 8) (n := 36) rfl rfl ?_ ?_
  all_goals generalize 0x02 + put p 32 + put vb 26 + put va 20 + put vd 14 + put ty 10 + put wid 8 = w at l ⊢
  · obtain ⟨l0, l1, l2, l3, l4, l5, l6, l7, l8⟩ := l
    exact fun h k hk => dV (v_slot hk rfl) (by rw [l1]; decide) (by rw [raw_vsub w l0, l2, l3, l4, l5, l6, l7]) (un_vsub w l0) h
  · exact l.2.2.2.2.2.2.2.2

theorem raw_vmul (w : Nat) (l0 : w % 256 = 0x3) : rawV w = some (Instr.vmul (slice 4 w 32) (slice 6 w 26) (slice 6 w 20) (slice 6 w 14) (slice 4 w 10) (slice 2 w 8)) := by
  unfold rawV; rw [l0]; rfl
theorem un_vmul (w : Nat) (l0 : w % 256 = 0x3) : unusedV w = true := by
  unfold unusedV; rw [l0]; rfl

theorem vmul (p : BitVec 4) (vb va vd : BitVec 6) (ty : BitVec 4) (wid : BitVec 2) : Statement (.vmul p vb va vd ty wid) := by
  have l := lay_v22 0x3 (by decide) p vb va vd ty wid
  refine mk (w := 0x03 + put p 32 + put vb 26 + put va 20 + put vd 14 + put ty 10 + put wid 8) (n := 36) rfl rfl ?_ ?_
  all_goals generalize 0x03 + put p 32 + put vb 26 + put va 20 + put vd 14 + put ty 10 + put wid 8 = w at l ⊢
  · obtain ⟨l0, l1, l2, l3, l4, l5, l6, l7, l8⟩ := l
    exact fun h k hk => dV (v_slot hk rfl) (by rw [l1]; decide) (by rw [raw_vmul w l0, l2, l3, l4, l5, l6, l7]) (un_vmul w l0) h
  · exact l.2.2.2.2.2.2.2.2

theorem raw_vfma (w : Nat) (l0 : w % 256 = 0x4) : rawV w = some (Instr.vfma (slice 4 w 32) (slice 6 w 26) (slice 6 w 20) (slice 6 w 14) (slice 4 w 10) (slice 2 w 8)) := by
  unfold rawV; rw [l0]; rfl
theorem un_vfma (w : Nat) (l0 : w % 256 = 0x4) : unusedV w = true := by
  unfold unusedV; rw [l0]; rfl

theorem vfma (p : BitVec 4) (vb va vd : BitVec 6) (ty : BitVec 4) (wid : BitVec 2) : Statement (.vfma p vb va vd ty wid) := by
  have l := lay_v22 0x4 (by decide) p vb va vd ty wid
  refine mk (w := 0x04 + put p 32 + put vb 26 + put va 20 + put vd 14 + put ty 10 + put wid 8) (n := 36) rfl rfl ?_ ?_
  all_goals generalize 0x04 + put p 32 + put vb 26 + put va 20 + put vd 14 + put ty 10 + put wid 8 = w at l ⊢
  · obtain ⟨l0, l1, l2, l3, l4, l5, l6, l7, l8⟩ := l
    exact fun h k hk => dV (v_slot hk rfl) (by rw [l1]; decide) (by rw [raw_vfma w l0, l2, l3, l4, l5, l6, l7]) (un_vfma w l0) h
  · exact l.2.2.2.2.2.2.2.2

theorem raw_vfms (w : Nat) (l0 : w % 256 = 0x5) : rawV w = some (Instr.vfms (slice 4 w 32) (slice 6 w 26) (slice 6 w 20) (slice 6 w 14) (slice 4 w 10) (slice 2 w 8)) := by
  unfold rawV; rw [l0]; rfl
theorem un_vfms (w : Nat) (l0 : w % 256 = 0x5) : unusedV w = true := by
  unfold unusedV; rw [l0]; rfl

theorem vfms (p : BitVec 4) (vb va vd : BitVec 6) (ty : BitVec 4) (wid : BitVec 2) : Statement (.vfms p vb va vd ty wid) := by
  have l := lay_v22 0x5 (by decide) p vb va vd ty wid
  refine mk (w := 0x05 + put p 32 + put vb 26 + put va 20 + put vd 14 + put ty 10 + put wid 8) (n := 36) rfl rfl ?_ ?_
  all_goals generalize 0x05 + put p 32 + put vb 26 + put va 20 + put vd 14 + put ty 10 + put wid 8 = w at l ⊢
  · obtain ⟨l0, l1, l2, l3, l4, l5, l6, l7, l8⟩ := l
    exact fun h k hk => dV (v_slot hk rfl) (by rw [l1]; decide) (by rw [raw_vfms w l0, l2, l3, l4, l5, l6, l7]) (un_vfms w l0) h
  · exact l.2.2.2.2.2.2.2.2

theorem raw_vmin (w : Nat) (l0 : w % 256 = 0x6) : rawV w = some (Instr.vmin (slice 4 w 32) (slice 6 w 26) (slice 6 w 20) (slice 6 w 14) (slice 4 w 10) (slice 2 w 8)) := by
  unfold rawV; rw [l0]; rfl
theorem un_vmin (w : Nat) (l0 : w % 256 = 0x6) : unusedV w = true := by
  unfold unusedV; rw [l0]; rfl

theorem vmin (p : BitVec 4) (vb va vd : BitVec 6) (ty : BitVec 4) (wid : BitVec 2) : Statement (.vmin p vb va vd ty wid) := by
  have l := lay_v22 0x6 (by decide) p vb va vd ty wid
  refine mk (w := 0x06 + put p 32 + put vb 26 + put va 20 + put vd 14 + put ty 10 + put wid 8) (n := 36) rfl rfl ?_ ?_
  all_goals generalize 0x06 + put p 32 + put vb 26 + put va 20 + put vd 14 + put ty 10 + put wid 8 = w at l ⊢
  · obtain ⟨l0, l1, l2, l3, l4, l5, l6, l7, l8⟩ := l
    exact fun h k hk => dV (v_slot hk rfl) (by rw [l1]; decide) (by rw [raw_vmin w l0, l2, l3, l4, l5, l6, l7]) (un_vmin w l0) h
  · exact l.2.2.2.2.2.2.2.2

theorem raw_vmax (w : Nat) (l0 : w % 256 = 0x7) : rawV w = some (Instr.vmax (slice 4 w 32) (slice 6 w 26) (slice 6 w 20) (slice 6 w 14) (slice 4 w 10) (slice 2 w 8)) := by
  unfold rawV; rw [l0]; rfl
theorem un_vmax (w : Nat) (l0 : w % 256 = 0x7) : unusedV w = true := by
  unfold unusedV; rw [l0]; rfl

theorem vmax (p : BitVec 4) (vb va vd : BitVec 6) (ty : BitVec 4) (wid : BitVec 2) : Statement (.vmax p vb va vd ty wid) := by
  have l := lay_v22 0x7 (by decide) p vb va vd ty wid
  refine mk (w := 0x07 + put p 32 + put vb 26 + put va 20 + put vd 14 + put ty 10 + put wid 8) (n := 36) rfl rfl ?_ ?_
  all_goals generalize 0x07 + put p 32 + put vb 26 + put va 20 + put vd 14 + put ty 10 + put wid 8 = w at l ⊢
  · obtain ⟨l0, l1, l2, l3, l4, l5, l6, l7, l8⟩ := l
    exact fun h k hk => dV (v_slot hk rfl) (by rw [l1]; decide) (by rw [raw_vmax w l0, l2, l3, l4, l5, l6, l7]) (un_vmax w l0) h
  · exact l.2.2.2.2.2.2.2.2

theorem raw_vabs (w : Nat) (l0 : w % 256 = 0x8) : rawV w = some (Instr.vabs (slice 4 w 32) (slice 6 w 20) (slice 6 w 14) (slice 4 w 10) (slice 2 w 8)) := by
  unfold rawV; rw [l0]; rfl
theorem un_vabs (w : Nat) (l0 : w % 256 = 0x8) : unusedV w = (holds w 26 6 0) := by
  unfold unusedV; rw [l0]; rfl

theorem vabs (p : BitVec 4) (va vd : BitVec 6) (ty : BitVec 4) (wid : BitVec 2) : Statement (.vabs p va vd ty wid) := by
  have l := lay_v23 0x8 (by decide) p va vd ty wid
  refine mk (w := 0x08 + put p 32 + put va 20 + put vd 14 + put ty 10 + put wid 8) (n := 36) rfl rfl ?_ ?_
  all_goals generalize 0x08 + put p 32 + put va 20 + put vd 14 + put ty 10 + put wid 8 = w at l ⊢
  · obtain ⟨l0, l1, l2, l3, l4, l5, l6, l7, l8⟩ := l
    exact fun h k hk => dV (v_slot hk rfl) (by rw [l1]; decide) (by rw [raw_vabs w l0, l2, l3, l4, l5, l6]) (by rw [un_vabs w l0, l7]) h
  · exact l.2.2.2.2.2.2.2.2

theorem raw_vneg (w : Nat) (l0 : w % 256 = 0x9) : rawV w = some (Instr.vneg (slice 4 w 32) (slice 6 w 20) (slice 6 w 14) (slice 4 w 10) (slice 2 w 8)) := by
  unfold rawV; rw [l0]; rfl
theorem un_vneg (w : Nat) (l0 : w % 256 = 0x9) : unusedV w = (holds w 26 6 0) := by
  unfold unusedV; rw [l0]; rfl

theorem vneg (p : BitVec 4) (va vd : BitVec 6) (ty : BitVec 4) (wid : BitVec 2) : Statement (.vneg p va vd ty wid) := by
  have l := lay_v23 0x9 (by decide) p va vd ty wid
  refine mk (w := 0x09 + put p 32 + put va 20 + put vd 14 + put ty 10 + put wid 8) (n := 36) rfl rfl ?_ ?_
  all_goals generalize 0x09 + put p 32 + put va 20 + put vd 14 + put ty 10 + put wid 8 = w at l ⊢
  · obtain ⟨l0, l1, l2, l3, l4, l5, l6, l7, l8⟩ := l
    exact fun h k hk => dV (v_slot hk rfl) (by rw [l1]; decide) (by rw [raw_vneg w l0, l2, l3, l4, l5, l6]) (by rw [un_vneg w l0, l7]) h
  · exact l.2.2.2.2.2.2.2.2

theorem raw_vcmp (w : Nat) (l0 : w % 256 = 0xA) : rawV w = some (Instr.vcmp (slice 4 w 32) (slice 6 w 26) (slice 6 w 20) (slice 2 w 18) (slice 4 w 14) (slice 4 w 10) (slice 2 w 8)) := by
  unfold rawV; rw [l0]; rfl
theorem un_vcmp (w : Nat) (l0 : w % 256 = 0xA) : unusedV w = true := by
  unfold unusedV; rw [l0]; rfl

theorem vcmp (p : BitVec 4) (vb va : BitVec 6) (cc : BitVec 2) (pd ty : BitVec 4) (wid : BitVec 2) : Statement (.vcmp p vb va cc pd ty wid) := by
  have l := lay_v24 0xA (by decide) p vb va cc pd ty wid
  refine mk (w := 0x0A + put p 32 + put vb 26 + put va 20 + put cc 18 + put pd 14 + put ty 10 + put wid 8) (n := 36) rfl rfl ?_ ?_
  all_goals generalize 0x0A + put p 32 + put vb 26 + put va 20 + put cc 18 + put pd 14 + put ty 10 + put wid 8 = w at l ⊢
  · obtain ⟨l0, l1, l2, l3, l4, l5, l6, l7, l8, l9⟩ := l
    exact fun h k hk => dV (v_slot hk rfl) (by rw [l1]; decide) (by rw [raw_vcmp w l0, l2, l3, l4, l5, l6, l7, l8]) (un_vcmp w l0) h
  · exact l.2.2.2.2.2.2.2.2.2

theorem raw_vsel (w : Nat) (l0 : w % 256 = 0xB) : rawV w = some (Instr.vsel (slice 4 w 32) (slice 6 w 26) (slice 6 w 20) (slice 6 w 14) (slice 4 w 10) (slice 2 w 8)) := by
  unfold rawV; rw [l0]; rfl
theorem un_vsel (w : Nat) (l0 : w % 256 = 0xB) : unusedV w = true := by
  unfold unusedV; rw [l0]; rfl

theorem vsel (p : BitVec 4) (vb va vd : BitVec 6) (ty : BitVec 4) (wid : BitVec 2) : Statement (.vsel p vb va vd ty wid) := by
  have l := lay_v22 0xB (by decide) p vb va vd ty wid
  refine mk (w := 0x0B + put p 32 + put vb 26 + put va 20 + put vd 14 + put ty 10 + put wid 8) (n := 36) rfl rfl ?_ ?_
  all_goals generalize 0x0B + put p 32 + put vb 26 + put va 20 + put vd 14 + put ty 10 + put wid 8 = w at l ⊢
  · obtain ⟨l0, l1, l2, l3, l4, l5, l6, l7, l8⟩ := l
    exact fun h k hk => dV (v_slot hk rfl) (by rw [l1]; decide) (by rw [raw_vsel w l0, l2, l3, l4, l5, l6, l7]) (un_vsel w l0) h
  · exact l.2.2.2.2.2.2.2.2

theorem raw_viadd (w : Nat) (l0 : w % 256 = 0x10) : rawV w = some (Instr.viadd (slice 4 w 32) (slice 6 w 26) (slice 6 w 20) (slice 6 w 14) (slice 4 w 10) (slice 2 w 8)) := by
  unfold rawV; rw [l0]; rfl
theorem un_viadd (w : Nat) (l0 : w % 256 = 0x10) : unusedV w = true := by
  unfold unusedV; rw [l0]; rfl

theorem viadd (p : BitVec 4) (vb va vd : BitVec 6) (ty : BitVec 4) (wid : BitVec 2) : Statement (.viadd p vb va vd ty wid) := by
  have l := lay_v22 0x10 (by decide) p vb va vd ty wid
  refine mk (w := 0x10 + put p 32 + put vb 26 + put va 20 + put vd 14 + put ty 10 + put wid 8) (n := 36) rfl rfl ?_ ?_
  all_goals generalize 0x10 + put p 32 + put vb 26 + put va 20 + put vd 14 + put ty 10 + put wid 8 = w at l ⊢
  · obtain ⟨l0, l1, l2, l3, l4, l5, l6, l7, l8⟩ := l
    exact fun h k hk => dV (v_slot hk rfl) (by rw [l1]; decide) (by rw [raw_viadd w l0, l2, l3, l4, l5, l6, l7]) (un_viadd w l0) h
  · exact l.2.2.2.2.2.2.2.2

theorem raw_visub (w : Nat) (l0 : w % 256 = 0x11) : rawV w = some (Instr.visub (slice 4 w 32) (slice 6 w 26) (slice 6 w 20) (slice 6 w 14) (slice 4 w 10) (slice 2 w 8)) := by
  unfold rawV; rw [l0]; rfl
theorem un_visub (w : Nat) (l0 : w % 256 = 0x11) : unusedV w = true := by
  unfold unusedV; rw [l0]; rfl

theorem visub (p : BitVec 4) (vb va vd : BitVec 6) (ty : BitVec 4) (wid : BitVec 2) : Statement (.visub p vb va vd ty wid) := by
  have l := lay_v22 0x11 (by decide) p vb va vd ty wid
  refine mk (w := 0x11 + put p 32 + put vb 26 + put va 20 + put vd 14 + put ty 10 + put wid 8) (n := 36) rfl rfl ?_ ?_
  all_goals generalize 0x11 + put p 32 + put vb 26 + put va 20 + put vd 14 + put ty 10 + put wid 8 = w at l ⊢
  · obtain ⟨l0, l1, l2, l3, l4, l5, l6, l7, l8⟩ := l
    exact fun h k hk => dV (v_slot hk rfl) (by rw [l1]; decide) (by rw [raw_visub w l0, l2, l3, l4, l5, l6, l7]) (un_visub w l0) h
  · exact l.2.2.2.2.2.2.2.2

theorem raw_vimul (w : Nat) (l0 : w % 256 = 0x12) : rawV w = some (Instr.vimul (slice 4 w 32) (slice 6 w 26) (slice 6 w 20) (slice 6 w 14) (slice 4 w 10) (slice 2 w 8)) := by
  unfold rawV; rw [l0]; rfl
theorem un_vimul (w : Nat) (l0 : w % 256 = 0x12) : unusedV w = true := by
  unfold unusedV; rw [l0]; rfl

theorem vimul (p : BitVec 4) (vb va vd : BitVec 6) (ty : BitVec 4) (wid : BitVec 2) : Statement (.vimul p vb va vd ty wid) := by
  have l := lay_v22 0x12 (by decide) p vb va vd ty wid
  refine mk (w := 0x12 + put p 32 + put vb 26 + put va 20 + put vd 14 + put ty 10 + put wid 8) (n := 36) rfl rfl ?_ ?_
  all_goals generalize 0x12 + put p 32 + put vb 26 + put va 20 + put vd 14 + put ty 10 + put wid 8 = w at l ⊢
  · obtain ⟨l0, l1, l2, l3, l4, l5, l6, l7, l8⟩ := l
    exact fun h k hk => dV (v_slot hk rfl) (by rw [l1]; decide) (by rw [raw_vimul w l0, l2, l3, l4, l5, l6, l7]) (un_vimul w l0) h
  · exact l.2.2.2.2.2.2.2.2

theorem raw_vimac (w : Nat) (l0 : w % 256 = 0x13) : rawV w = some (Instr.vimac (slice 4 w 32) (slice 6 w 26) (slice 6 w 20) (slice 6 w 14) (slice 4 w 10) (slice 2 w 8)) := by
  unfold rawV; rw [l0]; rfl
theorem un_vimac (w : Nat) (l0 : w % 256 = 0x13) : unusedV w = true := by
  unfold unusedV; rw [l0]; rfl

theorem vimac (p : BitVec 4) (vb va vd : BitVec 6) (ty : BitVec 4) (wid : BitVec 2) : Statement (.vimac p vb va vd ty wid) := by
  have l := lay_v22 0x13 (by decide) p vb va vd ty wid
  refine mk (w := 0x13 + put p 32 + put vb 26 + put va 20 + put vd 14 + put ty 10 + put wid 8) (n := 36) rfl rfl ?_ ?_
  all_goals generalize 0x13 + put p 32 + put vb 26 + put va 20 + put vd 14 + put ty 10 + put wid 8 = w at l ⊢
  · obtain ⟨l0, l1, l2, l3, l4, l5, l6, l7, l8⟩ := l
    exact fun h k hk => dV (v_slot hk rfl) (by rw [l1]; decide) (by rw [raw_vimac w l0, l2, l3, l4, l5, l6, l7]) (un_vimac w l0) h
  · exact l.2.2.2.2.2.2.2.2

theorem raw_vsat (w : Nat) (l0 : w % 256 = 0x14) : rawV w = some (Instr.vsat (slice 4 w 32) (slice 6 w 20) (slice 6 w 14) (slice 4 w 10) (slice 2 w 8)) := by
  unfold rawV; rw [l0]; rfl
theorem un_vsat (w : Nat) (l0 : w % 256 = 0x14) : unusedV w = (holds w 26 6 0) := by
  unfold unusedV; rw [l0]; rfl

theorem vsat (p : BitVec 4) (va vd : BitVec 6) (ty : BitVec 4) (wid : BitVec 2) : Statement (.vsat p va vd ty wid) := by
  have l := lay_v23 0x14 (by decide) p va vd ty wid
  refine mk (w := 0x14 + put p 32 + put va 20 + put vd 14 + put ty 10 + put wid 8) (n := 36) rfl rfl ?_ ?_
  all_goals generalize 0x14 + put p 32 + put va 20 + put vd 14 + put ty 10 + put wid 8 = w at l ⊢
  · obtain ⟨l0, l1, l2, l3, l4, l5, l6, l7, l8⟩ := l
    exact fun h k hk => dV (v_slot hk rfl) (by rw [l1]; decide) (by rw [raw_vsat w l0, l2, l3, l4, l5, l6]) (by rw [un_vsat w l0, l7]) h
  · exact l.2.2.2.2.2.2.2.2

theorem raw_vshl (w : Nat) (l0 : w % 256 = 0x15) : rawV w = some (Instr.vshl (slice 4 w 32) (slice 6 w 26) (slice 6 w 20) (slice 6 w 14) (slice 4 w 10) (slice 2 w 8)) := by
  unfold rawV; rw [l0]; rfl
theorem un_vshl (w : Nat) (l0 : w % 256 = 0x15) : unusedV w = true := by
  unfold unusedV; rw [l0]; rfl

theorem vshl (p : BitVec 4) (vb va vd : BitVec 6) (ty : BitVec 4) (wid : BitVec 2) : Statement (.vshl p vb va vd ty wid) := by
  have l := lay_v22 0x15 (by decide) p vb va vd ty wid
  refine mk (w := 0x15 + put p 32 + put vb 26 + put va 20 + put vd 14 + put ty 10 + put wid 8) (n := 36) rfl rfl ?_ ?_
  all_goals generalize 0x15 + put p 32 + put vb 26 + put va 20 + put vd 14 + put ty 10 + put wid 8 = w at l ⊢
  · obtain ⟨l0, l1, l2, l3, l4, l5, l6, l7, l8⟩ := l
    exact fun h k hk => dV (v_slot hk rfl) (by rw [l1]; decide) (by rw [raw_vshl w l0, l2, l3, l4, l5, l6, l7]) (un_vshl w l0) h
  · exact l.2.2.2.2.2.2.2.2

theorem raw_vshr (w : Nat) (l0 : w % 256 = 0x16) : rawV w = some (Instr.vshr (slice 4 w 32) (slice 6 w 26) (slice 6 w 20) (slice 6 w 14) (slice 4 w 10) (slice 2 w 8)) := by
  unfold rawV; rw [l0]; rfl
theorem un_vshr (w : Nat) (l0 : w % 256 = 0x16) : unusedV w = true := by
  unfold unusedV; rw [l0]; rfl

theorem vshr (p : BitVec 4) (vb va vd : BitVec 6) (ty : BitVec 4) (wid : BitVec 2) : Statement (.vshr p vb va vd ty wid) := by
  have l := lay_v22 0x16 (by decide) p vb va vd ty wid
  refine mk (w := 0x16 + put p 32 + put vb 26 + put va 20 + put vd 14 + put ty 10 + put wid 8) (n := 36) rfl rfl ?_ ?_
  all_goals generalize 0x16 + put p 32 + put vb 26 + put va 20 + put vd 14 + put ty 10 + put wid 8 = w at l ⊢
  · obtain ⟨l0, l1, l2, l3, l4, l5, l6, l7, l8⟩ := l
    exact fun h k hk => dV (v_slot hk rfl) (by rw [l1]; decide) (by rw [raw_vshr w l0, l2, l3, l4, l5, l6, l7]) (un_vshr w l0) h
  · exact l.2.2.2.2.2.2.2.2

theorem raw_vsar (w : Nat) (l0 : w % 256 = 0x17) : rawV w = some (Instr.vsar (slice 4 w 32) (slice 6 w 26) (slice 6 w 20) (slice 6 w 14) (slice 4 w 10) (slice 2 w 8)) := by
  unfold rawV; rw [l0]; rfl
theorem un_vsar (w : Nat) (l0 : w % 256 = 0x17) : unusedV w = true := by
  unfold unusedV; rw [l0]; rfl

theorem vsar (p : BitVec 4) (vb va vd : BitVec 6) (ty : BitVec 4) (wid : BitVec 2) : Statement (.vsar p vb va vd ty wid) := by
  have l := lay_v22 0x17 (by decide) p vb va vd ty wid
  refine mk (w := 0x17 + put p 32 + put vb 26 + put va 20 + put vd 14 + put ty 10 + put wid 8) (n := 36) rfl rfl ?_ ?_
  all_goals generalize 0x17 + put p 32 + put vb 26 + put va 20 + put vd 14 + put ty 10 + put wid 8 = w at l ⊢
  · obtain ⟨l0, l1, l2, l3, l4, l5, l6, l7, l8⟩ := l
    exact fun h k hk => dV (v_slot hk rfl) (by rw [l1]; decide) (by rw [raw_vsar w l0, l2, l3, l4, l5, l6, l7]) (un_vsar w l0) h
  · exact l.2.2.2.2.2.2.2.2

theorem raw_vand (w : Nat) (l0 : w % 256 = 0x18) : rawV w = some (Instr.vand (slice 4 w 32) (slice 6 w 26) (slice 6 w 20) (slice 6 w 14) (slice 4 w 10) (slice 2 w 8)) := by
  unfold rawV; rw [l0]; rfl
theorem un_vand (w : Nat) (l0 : w % 256 = 0x18) : unusedV w = true := by
  unfold unusedV; rw [l0]; rfl

theorem vand (p : BitVec 4) (vb va vd : BitVec 6) (ty : BitVec 4) (wid : BitVec 2) : Statement (.vand p vb va vd ty wid) := by
  have l := lay_v22 0x18 (by decide) p vb va vd ty wid
  refine mk (w := 0x18 + put p 32 + put vb 26 + put va 20 + put vd 14 + put ty 10 + put wid 8) (n := 36) rfl rfl ?_ ?_
  all_goals generalize 0x18 + put p 32 + put vb 26 + put va 20 + put vd 14 + put ty 10 + put wid 8 = w at l ⊢
  · obtain ⟨l0, l1, l2, l3, l4, l5, l6, l7, l8⟩ := l
    exact fun h k hk => dV (v_slot hk rfl) (by rw [l1]; decide) (by rw [raw_vand w l0, l2, l3, l4, l5, l6, l7]) (un_vand w l0) h
  · exact l.2.2.2.2.2.2.2.2

theorem raw_vor (w : Nat) (l0 : w % 256 = 0x19) : rawV w = some (Instr.vor (slice 4 w 32) (slice 6 w 26) (slice 6 w 20) (slice 6 w 14) (slice 4 w 10) (slice 2 w 8)) := by
  unfold rawV; rw [l0]; rfl
theorem un_vor (w : Nat) (l0 : w % 256 = 0x19) : unusedV w = true := by
  unfold unusedV; rw [l0]; rfl

theorem vor (p : BitVec 4) (vb va vd : BitVec 6) (ty : BitVec 4) (wid : BitVec 2) : Statement (.vor p vb va vd ty wid) := by
  have l := lay_v22 0x19 (by decide) p vb va vd ty wid
  refine mk (w := 0x19 + put p 32 + put vb 26 + put va 20 + put vd 14 + put ty 10 + put wid 8) (n := 36) rfl rfl ?_ ?_
  all_goals generalize 0x19 + put p 32 + put vb 26 + put va 20 + put vd 14 + put ty 10 + put wid 8 = w at l ⊢
  · obtain ⟨l0, l1, l2, l3, l4, l5, l6, l7, l8⟩ := l
    exact fun h k hk => dV (v_slot hk rfl) (by rw [l1]; decide) (by rw [raw_vor w l0, l2, l3, l4, l5, l6, l7]) (un_vor w l0) h
  · exact l.2.2.2.2.2.2.2.2

theorem raw_vxor (w : Nat) (l0 : w % 256 = 0x1A) : rawV w = some (Instr.vxor (slice 4 w 32) (slice 6 w 26) (slice 6 w 20) (slice 6 w 14) (slice 4 w 10) (slice 2 w 8)) := by
  unfold rawV; rw [l0]; rfl
theorem un_vxor (w : Nat) (l0 : w % 256 = 0x1A) : unusedV w = true := by
  unfold unusedV; rw [l0]; rfl

theorem vxor (p : BitVec 4) (vb va vd : BitVec 6) (ty : BitVec 4) (wid : BitVec 2) : Statement (.vxor p vb va vd ty wid) := by
  have l := lay_v22 0x1A (by decide) p vb va vd ty wid
  refine mk (w := 0x1A + put p 32 + put vb 26 + put va 20 + put vd 14 + put ty 10 + put wid 8) (n := 36) rfl rfl ?_ ?_
  all_goals generalize 0x1A + put p 32 + put vb 26 + put va 20 + put vd 14 + put ty 10 + put wid 8 = w at l ⊢
  · obtain ⟨l0, l1, l2, l3, l4, l5, l6, l7, l8⟩ := l
    exact fun h k hk => dV (v_slot hk rfl) (by rw [l1]; decide) (by rw [raw_vxor w l0, l2, l3, l4, l5, l6, l7]) (un_vxor w l0) h
  · exact l.2.2.2.2.2.2.2.2

theorem raw_vnot (w : Nat) (l0 : w % 256 = 0x1B) : rawV w = some (Instr.vnot (slice 4 w 32) (slice 6 w 20) (slice 6 w 14) (slice 4 w 10) (slice 2 w 8)) := by
  unfold rawV; rw [l0]; rfl
theorem un_vnot (w : Nat) (l0 : w % 256 = 0x1B) : unusedV w = (holds w 26 6 0) := by
  unfold unusedV; rw [l0]; rfl

theorem vnot (p : BitVec 4) (va vd : BitVec 6) (ty : BitVec 4) (wid : BitVec 2) : Statement (.vnot p va vd ty wid) := by
  have l := lay_v23 0x1B (by decide) p va vd ty wid
  refine mk (w := 0x1B + put p 32 + put va 20 + put vd 14 + put ty 10 + put wid 8) (n := 36) rfl rfl ?_ ?_
  all_goals generalize 0x1B + put p 32 + put va 20 + put vd 14 + put ty 10 + put wid 8 = w at l ⊢
  · obtain ⟨l0, l1, l2, l3, l4, l5, l6, l7, l8⟩ := l
    exact fun h k hk => dV (v_slot hk rfl) (by rw [l1]; decide) (by rw [raw_vnot w l0, l2, l3, l4, l5, l6]) (by rw [un_vnot w l0, l7]) h
  · exact l.2.2.2.2.2.2.2.2

theorem raw_vcvt (w : Nat) (l0 : w % 256 = 0x20) : rawV w = some (Instr.vcvt (slice 4 w 32) (slice 1 w 30) (slice 4 w 26) (slice 6 w 20) (slice 6 w 14) (slice 4 w 10) (slice 2 w 8)) := by
  unfold rawV; rw [l0]; rfl
theorem un_vcvt (w : Nat) (l0 : w % 256 = 0x20) : unusedV w = (holds w 31 1 0) := by
  unfold unusedV; rw [l0]; rfl

theorem vcvt (p : BitVec 4) (sat : BitVec 1) (src : BitVec 4) (va vd : BitVec 6) (ty : BitVec 4) (wid : BitVec 2) : Statement (.vcvt p sat src va vd ty wid) := by
  have l := lay_v25 0x20 (by decide) p sat src va vd ty wid
  refine mk (w := 0x20 + put p 32 + put sat 30 + put src 26 + put va 20 + put vd 14 + put ty 10 + put wid 8) (n := 36) rfl rfl ?_ ?_
  all_goals generalize 0x20 + put p 32 + put sat 30 + put src 26 + put va 20 + put vd 14 + put ty 10 + put wid 8 = w at l ⊢
  · obtain ⟨l0, l1, l2, l3, l4, l5, l6, l7, l8, l9, l10⟩ := l
    exact fun h k hk => dV (v_slot hk rfl) (by rw [l1]; decide) (by rw [raw_vcvt w l0, l2, l3, l4, l5, l6, l7, l8]) (by rw [un_vcvt w l0, l9]) h
  · exact l.2.2.2.2.2.2.2.2.2.2

theorem raw_vqnt (w : Nat) (l0 : w % 256 = 0x21) : rawV w = some (Instr.vqnt (slice 4 w 32) (slice 1 w 30) (slice 6 w 20) (slice 6 w 14) (slice 4 w 10) (slice 2 w 8)) := by
  unfold rawV; rw [l0]; rfl
theorem un_vqnt (w : Nat) (l0 : w % 256 = 0x21) : unusedV w = (holds w 26 4 0 && holds w 31 1 0) := by
  unfold unusedV; rw [l0]; rfl

theorem vqnt (p : BitVec 4) (sat : BitVec 1) (va vd : BitVec 6) (ty : BitVec 4) (wid : BitVec 2) : Statement (.vqnt p sat va vd ty wid) := by
  have l := lay_v26 0x21 (by decide) p sat va vd ty wid
  refine mk (w := 0x21 + put p 32 + put sat 30 + put va 20 + put vd 14 + put ty 10 + put wid 8) (n := 36) rfl rfl ?_ ?_
  all_goals generalize 0x21 + put p 32 + put sat 30 + put va 20 + put vd 14 + put ty 10 + put wid 8 = w at l ⊢
  · obtain ⟨l0, l1, l2, l3, l4, l5, l6, l7, l8, l9, l10⟩ := l
    exact fun h k hk => dV (v_slot hk rfl) (by rw [l1]; decide) (by rw [raw_vqnt w l0, l2, l3, l4, l5, l6, l7]) (by rw [un_vqnt w l0, l8, l9]; rfl) h
  · exact l.2.2.2.2.2.2.2.2.2.2

theorem raw_vdqnt (w : Nat) (l0 : w % 256 = 0x22) : rawV w = some (Instr.vdqnt (slice 4 w 32) (slice 6 w 20) (slice 6 w 14) (slice 4 w 10) (slice 2 w 8)) := by
  unfold rawV; rw [l0]; rfl
theorem un_vdqnt (w : Nat) (l0 : w % 256 = 0x22) : unusedV w = (holds w 26 6 0) := by
  unfold unusedV; rw [l0]; rfl

theorem vdqnt (p : BitVec 4) (va vd : BitVec 6) (ty : BitVec 4) (wid : BitVec 2) : Statement (.vdqnt p va vd ty wid) := by
  have l := lay_v23 0x22 (by decide) p va vd ty wid
  refine mk (w := 0x22 + put p 32 + put va 20 + put vd 14 + put ty 10 + put wid 8) (n := 36) rfl rfl ?_ ?_
  all_goals generalize 0x22 + put p 32 + put va 20 + put vd 14 + put ty 10 + put wid 8 = w at l ⊢
  · obtain ⟨l0, l1, l2, l3, l4, l5, l6, l7, l8⟩ := l
    exact fun h k hk => dV (v_slot hk rfl) (by rw [l1]; decide) (by rw [raw_vdqnt w l0, l2, l3, l4, l5, l6]) (by rw [un_vdqnt w l0, l7]) h
  · exact l.2.2.2.2.2.2.2.2

theorem raw_vimg (w : Nat) (l0 : w % 256 = 0x23) : rawV w = some (Instr.vimg (slice 4 w 32) (slice 1 w 26) (slice 6 w 20) (slice 6 w 14) (slice 4 w 10) (slice 2 w 8)) := by
  unfold rawV; rw [l0]; rfl
theorem un_vimg (w : Nat) (l0 : w % 256 = 0x23) : unusedV w = (holds w 27 5 0) := by
  unfold unusedV; rw [l0]; rfl

theorem vimg (p : BitVec 4) (inv : BitVec 1) (va vd : BitVec 6) (ty : BitVec 4) (wid : BitVec 2) : Statement (.vimg p inv va vd ty wid) := by
  have l := lay_v27 0x23 (by decide) p inv va vd ty wid
  refine mk (w := 0x23 + put p 32 + put inv 26 + put va 20 + put vd 14 + put ty 10 + put wid 8) (n := 36) rfl rfl ?_ ?_
  all_goals generalize 0x23 + put p 32 + put inv 26 + put va 20 + put vd 14 + put ty 10 + put wid 8 = w at l ⊢
  · obtain ⟨l0, l1, l2, l3, l4, l5, l6, l7, l8, l9⟩ := l
    exact fun h k hk => dV (v_slot hk rfl) (by rw [l1]; decide) (by rw [raw_vimg w l0, l2, l3, l4, l5, l6, l7]) (by rw [un_vimg w l0, l8]) h
  · exact l.2.2.2.2.2.2.2.2.2

theorem raw_vlse (w : Nat) (l0 : w % 256 = 0x24) : rawV w = some (Instr.vlse (slice 4 w 32) (slice 6 w 26) (slice 6 w 20) (slice 6 w 14) (slice 4 w 10) (slice 2 w 8)) := by
  unfold rawV; rw [l0]; rfl
theorem un_vlse (w : Nat) (l0 : w % 256 = 0x24) : unusedV w = true := by
  unfold unusedV; rw [l0]; rfl

theorem vlse (p : BitVec 4) (vb va vd : BitVec 6) (ty : BitVec 4) (wid : BitVec 2) : Statement (.vlse p vb va vd ty wid) := by
  have l := lay_v22 0x24 (by decide) p vb va vd ty wid
  refine mk (w := 0x24 + put p 32 + put vb 26 + put va 20 + put vd 14 + put ty 10 + put wid 8) (n := 36) rfl rfl ?_ ?_
  all_goals generalize 0x24 + put p 32 + put vb 26 + put va 20 + put vd 14 + put ty 10 + put wid 8 = w at l ⊢
  · obtain ⟨l0, l1, l2, l3, l4, l5, l6, l7, l8⟩ := l
    exact fun h k hk => dV (v_slot hk rfl) (by rw [l1]; decide) (by rw [raw_vlse w l0, l2, l3, l4, l5, l6, l7]) (un_vlse w l0) h
  · exact l.2.2.2.2.2.2.2.2

theorem raw_vrope (w : Nat) (l0 : w % 256 = 0x25) : rawV w = some (Instr.vrope (slice 4 w 32) (slice 6 w 26) (slice 6 w 20) (slice 6 w 14) (slice 4 w 10) (slice 2 w 8)) := by
  unfold rawV; rw [l0]; rfl
theorem un_vrope (w : Nat) (l0 : w % 256 = 0x25) : unusedV w = true := by
  unfold unusedV; rw [l0]; rfl

theorem vrope (p : BitVec 4) (vb va vd : BitVec 6) (ty : BitVec 4) (wid : BitVec 2) : Statement (.vrope p vb va vd ty wid) := by
  have l := lay_v22 0x25 (by decide) p vb va vd ty wid
  refine mk (w := 0x25 + put p 32 + put vb 26 + put va 20 + put vd 14 + put ty 10 + put wid 8) (n := 36) rfl rfl ?_ ?_
  all_goals generalize 0x25 + put p 32 + put vb 26 + put va 20 + put vd 14 + put ty 10 + put wid 8 = w at l ⊢
  · obtain ⟨l0, l1, l2, l3, l4, l5, l6, l7, l8⟩ := l
    exact fun h k hk => dV (v_slot hk rfl) (by rw [l1]; decide) (by rw [raw_vrope w l0, l2, l3, l4, l5, l6, l7]) (un_vrope w l0) h
  · exact l.2.2.2.2.2.2.2.2

theorem raw_vnanp (w : Nat) (l0 : w % 256 = 0x26) : rawV w = some (Instr.vnanp (slice 4 w 32) (slice 4 w 14)) := by
  unfold rawV; rw [l0]; rfl
theorem un_vnanp (w : Nat) (l0 : w % 256 = 0x26) : unusedV w = (holds w 10 4 0 && holds w 18 14 0 && holds w 8 2 2) := by
  unfold unusedV; rw [l0]; rfl

theorem vnanp (p pd : BitVec 4) : Statement (.vnanp p pd) := by
  have l := lay_v28 p pd
  refine mk (w := 0x26 + put p 32 + put pd 14 + 2 * 2 ^ 8) (n := 36) rfl rfl ?_ ?_
  all_goals generalize 0x26 + put p 32 + put pd 14 + 2 * 2 ^ 8 = w at l ⊢
  · obtain ⟨l0, l1, l2, l3, l4, l5, l6, l7⟩ := l
    exact fun h k hk => dV (v_slot hk rfl) (by rw [l1]; decide) (by rw [raw_vnanp w l0, l2, l3]) (by rw [un_vnanp w l0, l4, l5, l6]; rfl) h
  · exact l.2.2.2.2.2.2.2

theorem raw_vrsum (w : Nat) (l0 : w % 256 = 0x28) : rawV w = some (Instr.vrsum (slice 4 w 32) (slice 6 w 20) (slice 6 w 14) (slice 4 w 10) (slice 2 w 8)) := by
  unfold rawV; rw [l0]; rfl
theorem un_vrsum (w : Nat) (l0 : w % 256 = 0x28) : unusedV w = (holds w 26 6 0) := by
  unfold unusedV; rw [l0]; rfl

theorem vrsum (p : BitVec 4) (va vd : BitVec 6) (ty : BitVec 4) (wid : BitVec 2) : Statement (.vrsum p va vd ty wid) := by
  have l := lay_v23 0x28 (by decide) p va vd ty wid
  refine mk (w := 0x28 + put p 32 + put va 20 + put vd 14 + put ty 10 + put wid 8) (n := 36) rfl rfl ?_ ?_
  all_goals generalize 0x28 + put p 32 + put va 20 + put vd 14 + put ty 10 + put wid 8 = w at l ⊢
  · obtain ⟨l0, l1, l2, l3, l4, l5, l6, l7, l8⟩ := l
    exact fun h k hk => dV (v_slot hk rfl) (by rw [l1]; decide) (by rw [raw_vrsum w l0, l2, l3, l4, l5, l6]) (by rw [un_vrsum w l0, l7]) h
  · exact l.2.2.2.2.2.2.2.2

theorem raw_vrmax (w : Nat) (l0 : w % 256 = 0x29) : rawV w = some (Instr.vrmax (slice 4 w 32) (slice 6 w 20) (slice 6 w 14) (slice 4 w 10) (slice 2 w 8)) := by
  unfold rawV; rw [l0]; rfl
theorem un_vrmax (w : Nat) (l0 : w % 256 = 0x29) : unusedV w = (holds w 26 6 0) := by
  unfold unusedV; rw [l0]; rfl

theorem vrmax (p : BitVec 4) (va vd : BitVec 6) (ty : BitVec 4) (wid : BitVec 2) : Statement (.vrmax p va vd ty wid) := by
  have l := lay_v23 0x29 (by decide) p va vd ty wid
  refine mk (w := 0x29 + put p 32 + put va 20 + put vd 14 + put ty 10 + put wid 8) (n := 36) rfl rfl ?_ ?_
  all_goals generalize 0x29 + put p 32 + put va 20 + put vd 14 + put ty 10 + put wid 8 = w at l ⊢
  · obtain ⟨l0, l1, l2, l3, l4, l5, l6, l7, l8⟩ := l
    exact fun h k hk => dV (v_slot hk rfl) (by rw [l1]; decide) (by rw [raw_vrmax w l0, l2, l3, l4, l5, l6]) (by rw [un_vrmax w l0, l7]) h
  · exact l.2.2.2.2.2.2.2.2

theorem raw_vrmin (w : Nat) (l0 : w % 256 = 0x2A) : rawV w = some (Instr.vrmin (slice 4 w 32) (slice 6 w 20) (slice 6 w 14) (slice 4 w 10) (slice 2 w 8)) := by
  unfold rawV; rw [l0]; rfl
theorem un_vrmin (w : Nat) (l0 : w % 256 = 0x2A) : unusedV w = (holds w 26 6 0) := by
  unfold unusedV; rw [l0]; rfl

theorem vrmin (p : BitVec 4) (va vd : BitVec 6) (ty : BitVec 4) (wid : BitVec 2) : Statement (.vrmin p va vd ty wid) := by
  have l := lay_v23 0x2A (by decide) p va vd ty wid
  refine mk (w := 0x2A + put p 32 + put va 20 + put vd 14 + put ty 10 + put wid 8) (n := 36) rfl rfl ?_ ?_
  all_goals generalize 0x2A + put p 32 + put va 20 + put vd 14 + put ty 10 + put wid 8 = w at l ⊢
  · obtain ⟨l0, l1, l2, l3, l4, l5, l6, l7, l8⟩ := l
    exact fun h k hk => dV (v_slot hk rfl) (by rw [l1]; decide) (by rw [raw_vrmin w l0, l2, l3, l4, l5, l6]) (by rw [un_vrmin w l0, l7]) h
  · exact l.2.2.2.2.2.2.2.2

theorem raw_vbcst (w : Nat) (l0 : w % 256 = 0x2B) : rawV w = some (Instr.vbcst (slice 4 w 32) (slice 6 w 20) (slice 6 w 14) (slice 4 w 10) (slice 2 w 8)) := by
  unfold rawV; rw [l0]; rfl
theorem un_vbcst (w : Nat) (l0 : w % 256 = 0x2B) : unusedV w = (holds w 26 6 0) := by
  unfold unusedV; rw [l0]; rfl

theorem vbcst (p : BitVec 4) (g vd : BitVec 6) (ty : BitVec 4) (wid : BitVec 2) : Statement (.vbcst p g vd ty wid) := by
  have l := lay_v23 0x2B (by decide) p g vd ty wid
  refine mk (w := 0x2B + put p 32 + put g 20 + put vd 14 + put ty 10 + put wid 8) (n := 36) rfl rfl ?_ ?_
  all_goals generalize 0x2B + put p 32 + put g 20 + put vd 14 + put ty 10 + put wid 8 = w at l ⊢
  · obtain ⟨l0, l1, l2, l3, l4, l5, l6, l7, l8⟩ := l
    exact fun h k hk => dV (v_slot hk rfl) (by rw [l1]; decide) (by rw [raw_vbcst w l0, l2, l3, l4, l5, l6]) (by rw [un_vbcst w l0, l7]) h
  · exact l.2.2.2.2.2.2.2.2

theorem raw_vmov (w : Nat) (l0 : w % 256 = 0x2C) : rawV w = some (Instr.vmov (slice 4 w 32) (slice 6 w 20) (slice 6 w 14) (slice 4 w 10) (slice 2 w 8)) := by
  unfold rawV; rw [l0]; rfl
theorem un_vmov (w : Nat) (l0 : w % 256 = 0x2C) : unusedV w = (holds w 26 6 0) := by
  unfold unusedV; rw [l0]; rfl

theorem vmov (p : BitVec 4) (va vd : BitVec 6) (ty : BitVec 4) (wid : BitVec 2) : Statement (.vmov p va vd ty wid) := by
  have l := lay_v23 0x2C (by decide) p va vd ty wid
  refine mk (w := 0x2C + put p 32 + put va 20 + put vd 14 + put ty 10 + put wid 8) (n := 36) rfl rfl ?_ ?_
  all_goals generalize 0x2C + put p 32 + put va 20 + put vd 14 + put ty 10 + put wid 8 = w at l ⊢
  · obtain ⟨l0, l1, l2, l3, l4, l5, l6, l7, l8⟩ := l
    exact fun h k hk => dV (v_slot hk rfl) (by rw [l1]; decide) (by rw [raw_vmov w l0, l2, l3, l4, l5, l6]) (by rw [un_vmov w l0, l7]) h
  · exact l.2.2.2.2.2.2.2.2

theorem raw_vexp2 (w : Nat) (l0 : w % 256 = 0x40) : rawV w = some (Instr.vexp2 (slice 4 w 32) (slice 6 w 20) (slice 6 w 14) (slice 4 w 10) (slice 2 w 8)) := by
  unfold rawV; rw [l0]; rfl
theorem un_vexp2 (w : Nat) (l0 : w % 256 = 0x40) : unusedV w = (holds w 26 6 0) := by
  unfold unusedV; rw [l0]; rfl

theorem vexp2 (p : BitVec 4) (va vd : BitVec 6) (ty : BitVec 4) (wid : BitVec 2) : Statement (.vexp2 p va vd ty wid) := by
  have l := lay_v23 0x40 (by decide) p va vd ty wid
  have vk : ∀ k, slotTakes k (.vexp2 p va vd ty wid) = true → k = 9 := fun k hk => v3only_slot hk (by rw [show encode (.vexp2 p va vd ty wid) = [0x40 + put p 32 + put va 20 + put vd 14 + put ty 10 + put wid 8] from rfl, List.headD, l.2.1]; decide) rfl
  refine mk (w := 0x40 + put p 32 + put va 20 + put vd 14 + put ty 10 + put wid 8) (n := 36) rfl rfl ?_ ?_
  all_goals generalize 0x40 + put p 32 + put va 20 + put vd 14 + put ty 10 + put wid 8 = w at l ⊢
  · obtain ⟨l0, l1, l2, l3, l4, l5, l6, l7, l8⟩ := l
    exact fun h k hk => dV3 (vk k hk) (by rw [raw_vexp2 w l0, l2, l3, l4, l5, l6]) (by rw [un_vexp2 w l0, l7]) h
  · exact l.2.2.2.2.2.2.2.2

theorem raw_vlog2 (w : Nat) (l0 : w % 256 = 0x41) : rawV w = some (Instr.vlog2 (slice 4 w 32) (slice 6 w 20) (slice 6 w 14) (slice 4 w 10) (slice 2 w 8)) := by
  unfold rawV; rw [l0]; rfl
theorem un_vlog2 (w : Nat) (l0 : w % 256 = 0x41) : unusedV w = (holds w 26 6 0) := by
  unfold unusedV; rw [l0]; rfl

theorem vlog2 (p : BitVec 4) (va vd : BitVec 6) (ty : BitVec 4) (wid : BitVec 2) : Statement (.vlog2 p va vd ty wid) := by
  have l := lay_v23 0x41 (by decide) p va vd ty wid
  have vk : ∀ k, slotTakes k (.vlog2 p va vd ty wid) = true → k = 9 := fun k hk => v3only_slot hk (by rw [show encode (.vlog2 p va vd ty wid) = [0x41 + put p 32 + put va 20 + put vd 14 + put ty 10 + put wid 8] from rfl, List.headD, l.2.1]; decide) rfl
  refine mk (w := 0x41 + put p 32 + put va 20 + put vd 14 + put ty 10 + put wid 8) (n := 36) rfl rfl ?_ ?_
  all_goals generalize 0x41 + put p 32 + put va 20 + put vd 14 + put ty 10 + put wid 8 = w at l ⊢
  · obtain ⟨l0, l1, l2, l3, l4, l5, l6, l7, l8⟩ := l
    exact fun h k hk => dV3 (vk k hk) (by rw [raw_vlog2 w l0, l2, l3, l4, l5, l6]) (by rw [un_vlog2 w l0, l7]) h
  · exact l.2.2.2.2.2.2.2.2

theorem raw_vrcp (w : Nat) (l0 : w % 256 = 0x42) : rawV w = some (Instr.vrcp (slice 4 w 32) (slice 6 w 20) (slice 6 w 14) (slice 4 w 10) (slice 2 w 8)) := by
  unfold rawV; rw [l0]; rfl
theorem un_vrcp (w : Nat) (l0 : w % 256 = 0x42) : unusedV w = (holds w 26 6 0) := by
  unfold unusedV; rw [l0]; rfl

theorem vrcp (p : BitVec 4) (va vd : BitVec 6) (ty : BitVec 4) (wid : BitVec 2) : Statement (.vrcp p va vd ty wid) := by
  have l := lay_v23 0x42 (by decide) p va vd ty wid
  have vk : ∀ k, slotTakes k (.vrcp p va vd ty wid) = true → k = 9 := fun k hk => v3only_slot hk (by rw [show encode (.vrcp p va vd ty wid) = [0x42 + put p 32 + put va 20 + put vd 14 + put ty 10 + put wid 8] from rfl, List.headD, l.2.1]; decide) rfl
  refine mk (w := 0x42 + put p 32 + put va 20 + put vd 14 + put ty 10 + put wid 8) (n := 36) rfl rfl ?_ ?_
  all_goals generalize 0x42 + put p 32 + put va 20 + put vd 14 + put ty 10 + put wid 8 = w at l ⊢
  · obtain ⟨l0, l1, l2, l3, l4, l5, l6, l7, l8⟩ := l
    exact fun h k hk => dV3 (vk k hk) (by rw [raw_vrcp w l0, l2, l3, l4, l5, l6]) (by rw [un_vrcp w l0, l7]) h
  · exact l.2.2.2.2.2.2.2.2

theorem raw_vrsq (w : Nat) (l0 : w % 256 = 0x43) : rawV w = some (Instr.vrsq (slice 4 w 32) (slice 6 w 20) (slice 6 w 14) (slice 4 w 10) (slice 2 w 8)) := by
  unfold rawV; rw [l0]; rfl
theorem un_vrsq (w : Nat) (l0 : w % 256 = 0x43) : unusedV w = (holds w 26 6 0) := by
  unfold unusedV; rw [l0]; rfl

theorem vrsq (p : BitVec 4) (va vd : BitVec 6) (ty : BitVec 4) (wid : BitVec 2) : Statement (.vrsq p va vd ty wid) := by
  have l := lay_v23 0x43 (by decide) p va vd ty wid
  have vk : ∀ k, slotTakes k (.vrsq p va vd ty wid) = true → k = 9 := fun k hk => v3only_slot hk (by rw [show encode (.vrsq p va vd ty wid) = [0x43 + put p 32 + put va 20 + put vd 14 + put ty 10 + put wid 8] from rfl, List.headD, l.2.1]; decide) rfl
  refine mk (w := 0x43 + put p 32 + put va 20 + put vd 14 + put ty 10 + put wid 8) (n := 36) rfl rfl ?_ ?_
  all_goals generalize 0x43 + put p 32 + put va 20 + put vd 14 + put ty 10 + put wid 8 = w at l ⊢
  · obtain ⟨l0, l1, l2, l3, l4, l5, l6, l7, l8⟩ := l
    exact fun h k hk => dV3 (vk k hk) (by rw [raw_vrsq w l0, l2, l3, l4, l5, l6]) (by rw [un_vrsq w l0, l7]) h
  · exact l.2.2.2.2.2.2.2.2

theorem raw_vsqrt (w : Nat) (l0 : w % 256 = 0x44) : rawV w = some (Instr.vsqrt (slice 4 w 32) (slice 6 w 20) (slice 6 w 14) (slice 4 w 10) (slice 2 w 8)) := by
  unfold rawV; rw [l0]; rfl
theorem un_vsqrt (w : Nat) (l0 : w % 256 = 0x44) : unusedV w = (holds w 26 6 0) := by
  unfold unusedV; rw [l0]; rfl

theorem vsqrt (p : BitVec 4) (va vd : BitVec 6) (ty : BitVec 4) (wid : BitVec 2) : Statement (.vsqrt p va vd ty wid) := by
  have l := lay_v23 0x44 (by decide) p va vd ty wid
  have vk : ∀ k, slotTakes k (.vsqrt p va vd ty wid) = true → k = 9 := fun k hk => v3only_slot hk (by rw [show encode (.vsqrt p va vd ty wid) = [0x44 + put p 32 + put va 20 + put vd 14 + put ty 10 + put wid 8] from rfl, List.headD, l.2.1]; decide) rfl
  refine mk (w := 0x44 + put p 32 + put va 20 + put vd 14 + put ty 10 + put wid 8) (n := 36) rfl rfl ?_ ?_
  all_goals generalize 0x44 + put p 32 + put va 20 + put vd 14 + put ty 10 + put wid 8 = w at l ⊢
  · obtain ⟨l0, l1, l2, l3, l4, l5, l6, l7, l8⟩ := l
    exact fun h k hk => dV3 (vk k hk) (by rw [raw_vsqrt w l0, l2, l3, l4, l5, l6]) (by rw [un_vsqrt w l0, l7]) h
  · exact l.2.2.2.2.2.2.2.2

theorem raw_vsin (w : Nat) (l0 : w % 256 = 0x45) : rawV w = some (Instr.vsin (slice 4 w 32) (slice 6 w 20) (slice 6 w 14) (slice 4 w 10) (slice 2 w 8)) := by
  unfold rawV; rw [l0]; rfl
theorem un_vsin (w : Nat) (l0 : w % 256 = 0x45) : unusedV w = (holds w 26 6 0) := by
  unfold unusedV; rw [l0]; rfl

theorem vsin (p : BitVec 4) (va vd : BitVec 6) (ty : BitVec 4) (wid : BitVec 2) : Statement (.vsin p va vd ty wid) := by
  have l := lay_v23 0x45 (by decide) p va vd ty wid
  have vk : ∀ k, slotTakes k (.vsin p va vd ty wid) = true → k = 9 := fun k hk => v3only_slot hk (by rw [show encode (.vsin p va vd ty wid) = [0x45 + put p 32 + put va 20 + put vd 14 + put ty 10 + put wid 8] from rfl, List.headD, l.2.1]; decide) rfl
  refine mk (w := 0x45 + put p 32 + put va 20 + put vd 14 + put ty 10 + put wid 8) (n := 36) rfl rfl ?_ ?_
  all_goals generalize 0x45 + put p 32 + put va 20 + put vd 14 + put ty 10 + put wid 8 = w at l ⊢
  · obtain ⟨l0, l1, l2, l3, l4, l5, l6, l7, l8⟩ := l
    exact fun h k hk => dV3 (vk k hk) (by rw [raw_vsin w l0, l2, l3, l4, l5, l6]) (by rw [un_vsin w l0, l7]) h
  · exact l.2.2.2.2.2.2.2.2

theorem raw_vcos (w : Nat) (l0 : w % 256 = 0x46) : rawV w = some (Instr.vcos (slice 4 w 32) (slice 6 w 20) (slice 6 w 14) (slice 4 w 10) (slice 2 w 8)) := by
  unfold rawV; rw [l0]; rfl
theorem un_vcos (w : Nat) (l0 : w % 256 = 0x46) : unusedV w = (holds w 26 6 0) := by
  unfold unusedV; rw [l0]; rfl

theorem vcos (p : BitVec 4) (va vd : BitVec 6) (ty : BitVec 4) (wid : BitVec 2) : Statement (.vcos p va vd ty wid) := by
  have l := lay_v23 0x46 (by decide) p va vd ty wid
  have vk : ∀ k, slotTakes k (.vcos p va vd ty wid) = true → k = 9 := fun k hk => v3only_slot hk (by rw [show encode (.vcos p va vd ty wid) = [0x46 + put p 32 + put va 20 + put vd 14 + put ty 10 + put wid 8] from rfl, List.headD, l.2.1]; decide) rfl
  refine mk (w := 0x46 + put p 32 + put va 20 + put vd 14 + put ty 10 + put wid 8) (n := 36) rfl rfl ?_ ?_
  all_goals generalize 0x46 + put p 32 + put va 20 + put vd 14 + put ty 10 + put wid 8 = w at l ⊢
  · obtain ⟨l0, l1, l2, l3, l4, l5, l6, l7, l8⟩ := l
    exact fun h k hk => dV3 (vk k hk) (by rw [raw_vcos w l0, l2, l3, l4, l5, l6]) (by rw [un_vcos w l0, l7]) h
  · exact l.2.2.2.2.2.2.2.2

theorem raw_vtanh (w : Nat) (l0 : w % 256 = 0x47) : rawV w = some (Instr.vtanh (slice 4 w 32) (slice 6 w 20) (slice 6 w 14) (slice 4 w 10) (slice 2 w 8)) := by
  unfold rawV; rw [l0]; rfl
theorem un_vtanh (w : Nat) (l0 : w % 256 = 0x47) : unusedV w = (holds w 26 6 0) := by
  unfold unusedV; rw [l0]; rfl

theorem vtanh (p : BitVec 4) (va vd : BitVec 6) (ty : BitVec 4) (wid : BitVec 2) : Statement (.vtanh p va vd ty wid) := by
  have l := lay_v23 0x47 (by decide) p va vd ty wid
  have vk : ∀ k, slotTakes k (.vtanh p va vd ty wid) = true → k = 9 := fun k hk => v3only_slot hk (by rw [show encode (.vtanh p va vd ty wid) = [0x47 + put p 32 + put va 20 + put vd 14 + put ty 10 + put wid 8] from rfl, List.headD, l.2.1]; decide) rfl
  refine mk (w := 0x47 + put p 32 + put va 20 + put vd 14 + put ty 10 + put wid 8) (n := 36) rfl rfl ?_ ?_
  all_goals generalize 0x47 + put p 32 + put va 20 + put vd 14 + put ty 10 + put wid 8 = w at l ⊢
  · obtain ⟨l0, l1, l2, l3, l4, l5, l6, l7, l8⟩ := l
    exact fun h k hk => dV3 (vk k hk) (by rw [raw_vtanh w l0, l2, l3, l4, l5, l6]) (by rw [un_vtanh w l0, l7]) h
  · exact l.2.2.2.2.2.2.2.2

theorem raw_vperm (w : Nat) (l0 : w % 256 = 0x48) : rawV w = some (Instr.vperm (slice 4 w 32) (slice 6 w 26) (slice 6 w 20) (slice 6 w 14) (slice 4 w 10) (slice 2 w 8)) := by
  unfold rawV; rw [l0]; rfl
theorem un_vperm (w : Nat) (l0 : w % 256 = 0x48) : unusedV w = true := by
  unfold unusedV; rw [l0]; rfl

theorem vperm (p : BitVec 4) (vb va vd : BitVec 6) (ty : BitVec 4) (wid : BitVec 2) : Statement (.vperm p vb va vd ty wid) := by
  have l := lay_v22 0x48 (by decide) p vb va vd ty wid
  have vk : ∀ k, slotTakes k (.vperm p vb va vd ty wid) = true → k = 9 := fun k hk => v3only_slot hk (by rw [show encode (.vperm p vb va vd ty wid) = [0x48 + put p 32 + put vb 26 + put va 20 + put vd 14 + put ty 10 + put wid 8] from rfl, List.headD, l.2.1]; decide) rfl
  refine mk (w := 0x48 + put p 32 + put vb 26 + put va 20 + put vd 14 + put ty 10 + put wid 8) (n := 36) rfl rfl ?_ ?_
  all_goals generalize 0x48 + put p 32 + put vb 26 + put va 20 + put vd 14 + put ty 10 + put wid 8 = w at l ⊢
  · obtain ⟨l0, l1, l2, l3, l4, l5, l6, l7, l8⟩ := l
    exact fun h k hk => dV3 (vk k hk) (by rw [raw_vperm w l0, l2, l3, l4, l5, l6, l7]) (un_vperm w l0) h
  · exact l.2.2.2.2.2.2.2.2

theorem raw_vtrn (w : Nat) (l0 : w % 256 = 0x49) : rawV w = some (Instr.vtrn (slice 4 w 32) (slice 6 w 20) (slice 6 w 14) (slice 4 w 10) (slice 2 w 8)) := by
  unfold rawV; rw [l0]; rfl
theorem un_vtrn (w : Nat) (l0 : w % 256 = 0x49) : unusedV w = (holds w 26 6 0) := by
  unfold unusedV; rw [l0]; rfl

theorem vtrn (p : BitVec 4) (va vd : BitVec 6) (ty : BitVec 4) (wid : BitVec 2) : Statement (.vtrn p va vd ty wid) := by
  have l := lay_v23 0x49 (by decide) p va vd ty wid
  have vk : ∀ k, slotTakes k (.vtrn p va vd ty wid) = true → k = 9 := fun k hk => v3only_slot hk (by rw [show encode (.vtrn p va vd ty wid) = [0x49 + put p 32 + put va 20 + put vd 14 + put ty 10 + put wid 8] from rfl, List.headD, l.2.1]; decide) rfl
  refine mk (w := 0x49 + put p 32 + put va 20 + put vd 14 + put ty 10 + put wid 8) (n := 36) rfl rfl ?_ ?_
  all_goals generalize 0x49 + put p 32 + put va 20 + put vd 14 + put ty 10 + put wid 8 = w at l ⊢
  · obtain ⟨l0, l1, l2, l3, l4, l5, l6, l7, l8⟩ := l
    exact fun h k hk => dV3 (vk k hk) (by rw [raw_vtrn w l0, l2, l3, l4, l5, l6]) (by rw [un_vtrn w l0, l7]) h
  · exact l.2.2.2.2.2.2.2.2

theorem raw_vshuf (w : Nat) (l0 : w % 256 = 0x4A) : rawV w = some (Instr.vshuf (slice 4 w 32) (slice 6 w 26) (slice 6 w 20) (slice 6 w 14) (slice 4 w 10) (slice 2 w 8)) := by
  unfold rawV; rw [l0]; rfl
theorem un_vshuf (w : Nat) (l0 : w % 256 = 0x4A) : unusedV w = true := by
  unfold unusedV; rw [l0]; rfl

theorem vshuf (p : BitVec 4) (vb va vd : BitVec 6) (ty : BitVec 4) (wid : BitVec 2) : Statement (.vshuf p vb va vd ty wid) := by
  have l := lay_v22 0x4A (by decide) p vb va vd ty wid
  have vk : ∀ k, slotTakes k (.vshuf p vb va vd ty wid) = true → k = 9 := fun k hk => v3only_slot hk (by rw [show encode (.vshuf p vb va vd ty wid) = [0x4A + put p 32 + put vb 26 + put va 20 + put vd 14 + put ty 10 + put wid 8] from rfl, List.headD, l.2.1]; decide) rfl
  refine mk (w := 0x4A + put p 32 + put vb 26 + put va 20 + put vd 14 + put ty 10 + put wid 8) (n := 36) rfl rfl ?_ ?_
  all_goals generalize 0x4A + put p 32 + put vb 26 + put va 20 + put vd 14 + put ty 10 + put wid 8 = w at l ⊢
  · obtain ⟨l0, l1, l2, l3, l4, l5, l6, l7, l8⟩ := l
    exact fun h k hk => dV3 (vk k hk) (by rw [raw_vshuf w l0, l2, l3, l4, l5, l6, l7]) (un_vshuf w l0) h
  · exact l.2.2.2.2.2.2.2.2

theorem raw_vzip (w : Nat) (l0 : w % 256 = 0x4B) : rawV w = some (Instr.vzip (slice 4 w 32) (slice 6 w 26) (slice 6 w 20) (slice 6 w 14) (slice 4 w 10) (slice 2 w 8)) := by
  unfold rawV; rw [l0]; rfl
theorem un_vzip (w : Nat) (l0 : w % 256 = 0x4B) : unusedV w = true := by
  unfold unusedV; rw [l0]; rfl

theorem vzip (p : BitVec 4) (vb va vd : BitVec 6) (ty : BitVec 4) (wid : BitVec 2) : Statement (.vzip p vb va vd ty wid) := by
  have l := lay_v22 0x4B (by decide) p vb va vd ty wid
  have vk : ∀ k, slotTakes k (.vzip p vb va vd ty wid) = true → k = 9 := fun k hk => v3only_slot hk (by rw [show encode (.vzip p vb va vd ty wid) = [0x4B + put p 32 + put vb 26 + put va 20 + put vd 14 + put ty 10 + put wid 8] from rfl, List.headD, l.2.1]; decide) rfl
  refine mk (w := 0x4B + put p 32 + put vb 26 + put va 20 + put vd 14 + put ty 10 + put wid 8) (n := 36) rfl rfl ?_ ?_
  all_goals generalize 0x4B + put p 32 + put vb 26 + put va 20 + put vd 14 + put ty 10 + put wid 8 = w at l ⊢
  · obtain ⟨l0, l1, l2, l3, l4, l5, l6, l7, l8⟩ := l
    exact fun h k hk => dV3 (vk k hk) (by rw [raw_vzip w l0, l2, l3, l4, l5, l6, l7]) (un_vzip w l0) h
  · exact l.2.2.2.2.2.2.2.2

theorem raw_vaddStream (w : Nat) (l0 : w % 256 = 0x81) : rawV w = some (Instr.vaddStream (slice 4 w 32) (slice 3 w 26) (slice 6 w 20) (slice 6 w 14) (slice 4 w 10) (slice 2 w 8)) := by
  unfold rawV; rw [l0]; rfl
theorem un_vaddStream (w : Nat) (l0 : w % 256 = 0x81) : unusedV w = (holds w 29 3 0) := by
  unfold unusedV; rw [l0]; rfl

theorem vaddStream (p : BitVec 4) (q : BitVec 3) (va vd : BitVec 6) (ty : BitVec 4) (wid : BitVec 2) : Statement (.vaddStream p q va vd ty wid) := by
  have l := lay_v29 0x81 (by decide) p q va vd ty wid
  refine mk (w := 0x81 + put p 32 + put q 26 + put va 20 + put vd 14 + put ty 10 + put wid 8) (n := 36) rfl rfl ?_ ?_
  all_goals generalize 0x81 + put p 32 + put q 26 + put va 20 + put vd 14 + put ty 10 + put wid 8 = w at l ⊢
  · obtain ⟨l0, l1, l2, l3, l4, l5, l6, l7, l8, l9⟩ := l
    exact fun h k hk => dV (v_slot hk rfl) (by rw [l1]; decide) (by rw [raw_vaddStream w l0, l2, l3, l4, l5, l6, l7]) (by rw [un_vaddStream w l0, l8]) h
  · exact l.2.2.2.2.2.2.2.2.2

theorem raw_vsubStream (w : Nat) (l0 : w % 256 = 0x82) : rawV w = some (Instr.vsubStream (slice 4 w 32) (slice 3 w 26) (slice 6 w 20) (slice 6 w 14) (slice 4 w 10) (slice 2 w 8)) := by
  unfold rawV; rw [l0]; rfl
theorem un_vsubStream (w : Nat) (l0 : w % 256 = 0x82) : unusedV w = (holds w 29 3 0) := by
  unfold unusedV; rw [l0]; rfl

theorem vsubStream (p : BitVec 4) (q : BitVec 3) (va vd : BitVec 6) (ty : BitVec 4) (wid : BitVec 2) : Statement (.vsubStream p q va vd ty wid) := by
  have l := lay_v29 0x82 (by decide) p q va vd ty wid
  refine mk (w := 0x82 + put p 32 + put q 26 + put va 20 + put vd 14 + put ty 10 + put wid 8) (n := 36) rfl rfl ?_ ?_
  all_goals generalize 0x82 + put p 32 + put q 26 + put va 20 + put vd 14 + put ty 10 + put wid 8 = w at l ⊢
  · obtain ⟨l0, l1, l2, l3, l4, l5, l6, l7, l8, l9⟩ := l
    exact fun h k hk => dV (v_slot hk rfl) (by rw [l1]; decide) (by rw [raw_vsubStream w l0, l2, l3, l4, l5, l6, l7]) (by rw [un_vsubStream w l0, l8]) h
  · exact l.2.2.2.2.2.2.2.2.2

theorem raw_vmulStream (w : Nat) (l0 : w % 256 = 0x83) : rawV w = some (Instr.vmulStream (slice 4 w 32) (slice 3 w 26) (slice 6 w 20) (slice 6 w 14) (slice 4 w 10) (slice 2 w 8)) := by
  unfold rawV; rw [l0]; rfl
theorem un_vmulStream (w : Nat) (l0 : w % 256 = 0x83) : unusedV w = (holds w 29 3 0) := by
  unfold unusedV; rw [l0]; rfl

theorem vmulStream (p : BitVec 4) (q : BitVec 3) (va vd : BitVec 6) (ty : BitVec 4) (wid : BitVec 2) : Statement (.vmulStream p q va vd ty wid) := by
  have l := lay_v29 0x83 (by decide) p q va vd ty wid
  refine mk (w := 0x83 + put p 32 + put q 26 + put va 20 + put vd 14 + put ty 10 + put wid 8) (n := 36) rfl rfl ?_ ?_
  all_goals generalize 0x83 + put p 32 + put q 26 + put va 20 + put vd 14 + put ty 10 + put wid 8 = w at l ⊢
  · obtain ⟨l0, l1, l2, l3, l4, l5, l6, l7, l8, l9⟩ := l
    exact fun h k hk => dV (v_slot hk rfl) (by rw [l1]; decide) (by rw [raw_vmulStream w l0, l2, l3, l4, l5, l6, l7]) (by rw [un_vmulStream w l0, l8]) h
  · exact l.2.2.2.2.2.2.2.2.2

theorem raw_vfmaStream (w : Nat) (l0 : w % 256 = 0x84) : rawV w = some (Instr.vfmaStream (slice 4 w 32) (slice 3 w 26) (slice 6 w 20) (slice 6 w 14) (slice 4 w 10) (slice 2 w 8)) := by
  unfold rawV; rw [l0]; rfl
theorem un_vfmaStream (w : Nat) (l0 : w % 256 = 0x84) : unusedV w = (holds w 29 3 0) := by
  unfold unusedV; rw [l0]; rfl

theorem vfmaStream (p : BitVec 4) (q : BitVec 3) (va vd : BitVec 6) (ty : BitVec 4) (wid : BitVec 2) : Statement (.vfmaStream p q va vd ty wid) := by
  have l := lay_v29 0x84 (by decide) p q va vd ty wid
  refine mk (w := 0x84 + put p 32 + put q 26 + put va 20 + put vd 14 + put ty 10 + put wid 8) (n := 36) rfl rfl ?_ ?_
  all_goals generalize 0x84 + put p 32 + put q 26 + put va 20 + put vd 14 + put ty 10 + put wid 8 = w at l ⊢
  · obtain ⟨l0, l1, l2, l3, l4, l5, l6, l7, l8, l9⟩ := l
    exact fun h k hk => dV (v_slot hk rfl) (by rw [l1]; decide) (by rw [raw_vfmaStream w l0, l2, l3, l4, l5, l6, l7]) (by rw [un_vfmaStream w l0, l8]) h
  · exact l.2.2.2.2.2.2.2.2.2

theorem raw_vfmsStream (w : Nat) (l0 : w % 256 = 0x85) : rawV w = some (Instr.vfmsStream (slice 4 w 32) (slice 3 w 26) (slice 6 w 20) (slice 6 w 14) (slice 4 w 10) (slice 2 w 8)) := by
  unfold rawV; rw [l0]; rfl
theorem un_vfmsStream (w : Nat) (l0 : w % 256 = 0x85) : unusedV w = (holds w 29 3 0) := by
  unfold unusedV; rw [l0]; rfl

theorem vfmsStream (p : BitVec 4) (q : BitVec 3) (va vd : BitVec 6) (ty : BitVec 4) (wid : BitVec 2) : Statement (.vfmsStream p q va vd ty wid) := by
  have l := lay_v29 0x85 (by decide) p q va vd ty wid
  refine mk (w := 0x85 + put p 32 + put q 26 + put va 20 + put vd 14 + put ty 10 + put wid 8) (n := 36) rfl rfl ?_ ?_
  all_goals generalize 0x85 + put p 32 + put q 26 + put va 20 + put vd 14 + put ty 10 + put wid 8 = w at l ⊢
  · obtain ⟨l0, l1, l2, l3, l4, l5, l6, l7, l8, l9⟩ := l
    exact fun h k hk => dV (v_slot hk rfl) (by rw [l1]; decide) (by rw [raw_vfmsStream w l0, l2, l3, l4, l5, l6, l7]) (by rw [un_vfmsStream w l0, l8]) h
  · exact l.2.2.2.2.2.2.2.2.2

theorem raw_vminStream (w : Nat) (l0 : w % 256 = 0x86) : rawV w = some (Instr.vminStream (slice 4 w 32) (slice 3 w 26) (slice 6 w 20) (slice 6 w 14) (slice 4 w 10) (slice 2 w 8)) := by
  unfold rawV; rw [l0]; rfl
theorem un_vminStream (w : Nat) (l0 : w % 256 = 0x86) : unusedV w = (holds w 29 3 0) := by
  unfold unusedV; rw [l0]; rfl

theorem vminStream (p : BitVec 4) (q : BitVec 3) (va vd : BitVec 6) (ty : BitVec 4) (wid : BitVec 2) : Statement (.vminStream p q va vd ty wid) := by
  have l := lay_v29 0x86 (by decide) p q va vd ty wid
  refine mk (w := 0x86 + put p 32 + put q 26 + put va 20 + put vd 14 + put ty 10 + put wid 8) (n := 36) rfl rfl ?_ ?_
  all_goals generalize 0x86 + put p 32 + put q 26 + put va 20 + put vd 14 + put ty 10 + put wid 8 = w at l ⊢
  · obtain ⟨l0, l1, l2, l3, l4, l5, l6, l7, l8, l9⟩ := l
    exact fun h k hk => dV (v_slot hk rfl) (by rw [l1]; decide) (by rw [raw_vminStream w l0, l2, l3, l4, l5, l6, l7]) (by rw [un_vminStream w l0, l8]) h
  · exact l.2.2.2.2.2.2.2.2.2

theorem raw_vmaxStream (w : Nat) (l0 : w % 256 = 0x87) : rawV w = some (Instr.vmaxStream (slice 4 w 32) (slice 3 w 26) (slice 6 w 20) (slice 6 w 14) (slice 4 w 10) (slice 2 w 8)) := by
  unfold rawV; rw [l0]; rfl
theorem un_vmaxStream (w : Nat) (l0 : w % 256 = 0x87) : unusedV w = (holds w 29 3 0) := by
  unfold unusedV; rw [l0]; rfl

theorem vmaxStream (p : BitVec 4) (q : BitVec 3) (va vd : BitVec 6) (ty : BitVec 4) (wid : BitVec 2) : Statement (.vmaxStream p q va vd ty wid) := by
  have l := lay_v29 0x87 (by decide) p q va vd ty wid
  refine mk (w := 0x87 + put p 32 + put q 26 + put va 20 + put vd 14 + put ty 10 + put wid 8) (n := 36) rfl rfl ?_ ?_
  all_goals generalize 0x87 + put p 32 + put q 26 + put va 20 + put vd 14 + put ty 10 + put wid 8 = w at l ⊢
  · obtain ⟨l0, l1, l2, l3, l4, l5, l6, l7, l8, l9⟩ := l
    exact fun h k hk => dV (v_slot hk rfl) (by rw [l1]; decide) (by rw [raw_vmaxStream w l0, l2, l3, l4, l5, l6, l7]) (by rw [un_vmaxStream w l0, l8]) h
  · exact l.2.2.2.2.2.2.2.2.2

theorem raw_vabsStream (w : Nat) (l0 : w % 256 = 0x88) : rawV w = some (Instr.vabsStream (slice 4 w 32) (slice 3 w 20) (slice 6 w 14) (slice 4 w 10) (slice 2 w 8)) := by
  unfold rawV; rw [l0]; rfl
theorem un_vabsStream (w : Nat) (l0 : w % 256 = 0x88) : unusedV w = (holds w 23 9 0) := by
  unfold unusedV; rw [l0]; rfl

theorem vabsStream (p : BitVec 4) (q : BitVec 3) (vd : BitVec 6) (ty : BitVec 4) (wid : BitVec 2) : Statement (.vabsStream p q vd ty wid) := by
  have l := lay_v30 0x88 (by decide) p q vd ty wid
  refine mk (w := 0x88 + put p 32 + put q 20 + put vd 14 + put ty 10 + put wid 8) (n := 36) rfl rfl ?_ ?_
  all_goals generalize 0x88 + put p 32 + put q 20 + put vd 14 + put ty 10 + put wid 8 = w at l ⊢
  · obtain ⟨l0, l1, l2, l3, l4, l5, l6, l7, l8⟩ := l
    exact fun h k hk => dV (v_slot hk rfl) (by rw [l1]; decide) (by rw [raw_vabsStream w l0, l2, l3, l4, l5, l6]) (by rw [un_vabsStream w l0, l7]) h
  · exact l.2.2.2.2.2.2.2.2

theorem raw_vnegStream (w : Nat) (l0 : w % 256 = 0x89) : rawV w = some (Instr.vnegStream (slice 4 w 32) (slice 3 w 20) (slice 6 w 14) (slice 4 w 10) (slice 2 w 8)) := by
  unfold rawV; rw [l0]; rfl
theorem un_vnegStream (w : Nat) (l0 : w % 256 = 0x89) : unusedV w = (holds w 23 9 0) := by
  unfold unusedV; rw [l0]; rfl

theorem vnegStream (p : BitVec 4) (q : BitVec 3) (vd : BitVec 6) (ty : BitVec 4) (wid : BitVec 2) : Statement (.vnegStream p q vd ty wid) := by
  have l := lay_v30 0x89 (by decide) p q vd ty wid
  refine mk (w := 0x89 + put p 32 + put q 20 + put vd 14 + put ty 10 + put wid 8) (n := 36) rfl rfl ?_ ?_
  all_goals generalize 0x89 + put p 32 + put q 20 + put vd 14 + put ty 10 + put wid 8 = w at l ⊢
  · obtain ⟨l0, l1, l2, l3, l4, l5, l6, l7, l8⟩ := l
    exact fun h k hk => dV (v_slot hk rfl) (by rw [l1]; decide) (by rw [raw_vnegStream w l0, l2, l3, l4, l5, l6]) (by rw [un_vnegStream w l0, l7]) h
  · exact l.2.2.2.2.2.2.2.2

theorem raw_vcmpStream (w : Nat) (l0 : w % 256 = 0x8A) : rawV w = some (Instr.vcmpStream (slice 4 w 32) (slice 3 w 26) (slice 6 w 20) (slice 2 w 18) (slice 4 w 14) (slice 4 w 10) (slice 2 w 8)) := by
  unfold rawV; rw [l0]; rfl
theorem un_vcmpStream (w : Nat) (l0 : w % 256 = 0x8A) : unusedV w = (holds w 29 3 0) := by
  unfold unusedV; rw [l0]; rfl

theorem vcmpStream (p : BitVec 4) (q : BitVec 3) (va : BitVec 6) (cc : BitVec 2) (pd ty : BitVec 4) (wid : BitVec 2) : Statement (.vcmpStream p q va cc pd ty wid) := by
  have l := lay_v31 0x8A (by decide) p q va cc pd ty wid
  refine mk (w := 0x8A + put p 32 + put q 26 + put va 20 + put cc 18 + put pd 14 + put ty 10 + put wid 8) (n := 36) rfl rfl ?_ ?_
  all_goals generalize 0x8A + put p 32 + put q 26 + put va 20 + put cc 18 + put pd 14 + put ty 10 + put wid 8 = w at l ⊢
  · obtain ⟨l0, l1, l2, l3, l4, l5, l6, l7, l8, l9, l10⟩ := l
    exact fun h k hk => dV (v_slot hk rfl) (by rw [l1]; decide) (by rw [raw_vcmpStream w l0, l2, l3, l4, l5, l6, l7, l8]) (by rw [un_vcmpStream w l0, l9]) h
  · exact l.2.2.2.2.2.2.2.2.2.2

theorem raw_vselStream (w : Nat) (l0 : w % 256 = 0x8B) : rawV w = some (Instr.vselStream (slice 4 w 32) (slice 3 w 26) (slice 6 w 20) (slice 6 w 14) (slice 4 w 10) (slice 2 w 8)) := by
  unfold rawV; rw [l0]; rfl
theorem un_vselStream (w : Nat) (l0 : w % 256 = 0x8B) : unusedV w = (holds w 29 3 0) := by
  unfold unusedV; rw [l0]; rfl

theorem vselStream (p : BitVec 4) (q : BitVec 3) (va vd : BitVec 6) (ty : BitVec 4) (wid : BitVec 2) : Statement (.vselStream p q va vd ty wid) := by
  have l := lay_v29 0x8B (by decide) p q va vd ty wid
  refine mk (w := 0x8B + put p 32 + put q 26 + put va 20 + put vd 14 + put ty 10 + put wid 8) (n := 36) rfl rfl ?_ ?_
  all_goals generalize 0x8B + put p 32 + put q 26 + put va 20 + put vd 14 + put ty 10 + put wid 8 = w at l ⊢
  · obtain ⟨l0, l1, l2, l3, l4, l5, l6, l7, l8, l9⟩ := l
    exact fun h k hk => dV (v_slot hk rfl) (by rw [l1]; decide) (by rw [raw_vselStream w l0, l2, l3, l4, l5, l6, l7]) (by rw [un_vselStream w l0, l8]) h
  · exact l.2.2.2.2.2.2.2.2.2

theorem raw_viaddStream (w : Nat) (l0 : w % 256 = 0x90) : rawV w = some (Instr.viaddStream (slice 4 w 32) (slice 3 w 26) (slice 6 w 20) (slice 6 w 14) (slice 4 w 10) (slice 2 w 8)) := by
  unfold rawV; rw [l0]; rfl
theorem un_viaddStream (w : Nat) (l0 : w % 256 = 0x90) : unusedV w = (holds w 29 3 0) := by
  unfold unusedV; rw [l0]; rfl

theorem viaddStream (p : BitVec 4) (q : BitVec 3) (va vd : BitVec 6) (ty : BitVec 4) (wid : BitVec 2) : Statement (.viaddStream p q va vd ty wid) := by
  have l := lay_v29 0x90 (by decide) p q va vd ty wid
  refine mk (w := 0x90 + put p 32 + put q 26 + put va 20 + put vd 14 + put ty 10 + put wid 8) (n := 36) rfl rfl ?_ ?_
  all_goals generalize 0x90 + put p 32 + put q 26 + put va 20 + put vd 14 + put ty 10 + put wid 8 = w at l ⊢
  · obtain ⟨l0, l1, l2, l3, l4, l5, l6, l7, l8, l9⟩ := l
    exact fun h k hk => dV (v_slot hk rfl) (by rw [l1]; decide) (by rw [raw_viaddStream w l0, l2, l3, l4, l5, l6, l7]) (by rw [un_viaddStream w l0, l8]) h
  · exact l.2.2.2.2.2.2.2.2.2

theorem raw_visubStream (w : Nat) (l0 : w % 256 = 0x91) : rawV w = some (Instr.visubStream (slice 4 w 32) (slice 3 w 26) (slice 6 w 20) (slice 6 w 14) (slice 4 w 10) (slice 2 w 8)) := by
  unfold rawV; rw [l0]; rfl
theorem un_visubStream (w : Nat) (l0 : w % 256 = 0x91) : unusedV w = (holds w 29 3 0) := by
  unfold unusedV; rw [l0]; rfl

theorem visubStream (p : BitVec 4) (q : BitVec 3) (va vd : BitVec 6) (ty : BitVec 4) (wid : BitVec 2) : Statement (.visubStream p q va vd ty wid) := by
  have l := lay_v29 0x91 (by decide) p q va vd ty wid
  refine mk (w := 0x91 + put p 32 + put q 26 + put va 20 + put vd 14 + put ty 10 + put wid 8) (n := 36) rfl rfl ?_ ?_
  all_goals generalize 0x91 + put p 32 + put q 26 + put va 20 + put vd 14 + put ty 10 + put wid 8 = w at l ⊢
  · obtain ⟨l0, l1, l2, l3, l4, l5, l6, l7, l8, l9⟩ := l
    exact fun h k hk => dV (v_slot hk rfl) (by rw [l1]; decide) (by rw [raw_visubStream w l0, l2, l3, l4, l5, l6, l7]) (by rw [un_visubStream w l0, l8]) h
  · exact l.2.2.2.2.2.2.2.2.2

theorem raw_vimulStream (w : Nat) (l0 : w % 256 = 0x92) : rawV w = some (Instr.vimulStream (slice 4 w 32) (slice 3 w 26) (slice 6 w 20) (slice 6 w 14) (slice 4 w 10) (slice 2 w 8)) := by
  unfold rawV; rw [l0]; rfl
theorem un_vimulStream (w : Nat) (l0 : w % 256 = 0x92) : unusedV w = (holds w 29 3 0) := by
  unfold unusedV; rw [l0]; rfl

theorem vimulStream (p : BitVec 4) (q : BitVec 3) (va vd : BitVec 6) (ty : BitVec 4) (wid : BitVec 2) : Statement (.vimulStream p q va vd ty wid) := by
  have l := lay_v29 0x92 (by decide) p q va vd ty wid
  refine mk (w := 0x92 + put p 32 + put q 26 + put va 20 + put vd 14 + put ty 10 + put wid 8) (n := 36) rfl rfl ?_ ?_
  all_goals generalize 0x92 + put p 32 + put q 26 + put va 20 + put vd 14 + put ty 10 + put wid 8 = w at l ⊢
  · obtain ⟨l0, l1, l2, l3, l4, l5, l6, l7, l8, l9⟩ := l
    exact fun h k hk => dV (v_slot hk rfl) (by rw [l1]; decide) (by rw [raw_vimulStream w l0, l2, l3, l4, l5, l6, l7]) (by rw [un_vimulStream w l0, l8]) h
  · exact l.2.2.2.2.2.2.2.2.2

theorem raw_vimacStream (w : Nat) (l0 : w % 256 = 0x93) : rawV w = some (Instr.vimacStream (slice 4 w 32) (slice 3 w 26) (slice 6 w 20) (slice 6 w 14) (slice 4 w 10) (slice 2 w 8)) := by
  unfold rawV; rw [l0]; rfl
theorem un_vimacStream (w : Nat) (l0 : w % 256 = 0x93) : unusedV w = (holds w 29 3 0) := by
  unfold unusedV; rw [l0]; rfl

theorem vimacStream (p : BitVec 4) (q : BitVec 3) (va vd : BitVec 6) (ty : BitVec 4) (wid : BitVec 2) : Statement (.vimacStream p q va vd ty wid) := by
  have l := lay_v29 0x93 (by decide) p q va vd ty wid
  refine mk (w := 0x93 + put p 32 + put q 26 + put va 20 + put vd 14 + put ty 10 + put wid 8) (n := 36) rfl rfl ?_ ?_
  all_goals generalize 0x93 + put p 32 + put q 26 + put va 20 + put vd 14 + put ty 10 + put wid 8 = w at l ⊢
  · obtain ⟨l0, l1, l2, l3, l4, l5, l6, l7, l8, l9⟩ := l
    exact fun h k hk => dV (v_slot hk rfl) (by rw [l1]; decide) (by rw [raw_vimacStream w l0, l2, l3, l4, l5, l6, l7]) (by rw [un_vimacStream w l0, l8]) h
  · exact l.2.2.2.2.2.2.2.2.2

theorem raw_vsatStream (w : Nat) (l0 : w % 256 = 0x94) : rawV w = some (Instr.vsatStream (slice 4 w 32) (slice 3 w 20) (slice 6 w 14) (slice 4 w 10) (slice 2 w 8)) := by
  unfold rawV; rw [l0]; rfl
theorem un_vsatStream (w : Nat) (l0 : w % 256 = 0x94) : unusedV w = (holds w 23 9 0) := by
  unfold unusedV; rw [l0]; rfl

theorem vsatStream (p : BitVec 4) (q : BitVec 3) (vd : BitVec 6) (ty : BitVec 4) (wid : BitVec 2) : Statement (.vsatStream p q vd ty wid) := by
  have l := lay_v30 0x94 (by decide) p q vd ty wid
  refine mk (w := 0x94 + put p 32 + put q 20 + put vd 14 + put ty 10 + put wid 8) (n := 36) rfl rfl ?_ ?_
  all_goals generalize 0x94 + put p 32 + put q 20 + put vd 14 + put ty 10 + put wid 8 = w at l ⊢
  · obtain ⟨l0, l1, l2, l3, l4, l5, l6, l7, l8⟩ := l
    exact fun h k hk => dV (v_slot hk rfl) (by rw [l1]; decide) (by rw [raw_vsatStream w l0, l2, l3, l4, l5, l6]) (by rw [un_vsatStream w l0, l7]) h
  · exact l.2.2.2.2.2.2.2.2

theorem raw_vshlStream (w : Nat) (l0 : w % 256 = 0x95) : rawV w = some (Instr.vshlStream (slice 4 w 32) (slice 3 w 26) (slice 6 w 20) (slice 6 w 14) (slice 4 w 10) (slice 2 w 8)) := by
  unfold rawV; rw [l0]; rfl
theorem un_vshlStream (w : Nat) (l0 : w % 256 = 0x95) : unusedV w = (holds w 29 3 0) := by
  unfold unusedV; rw [l0]; rfl

theorem vshlStream (p : BitVec 4) (q : BitVec 3) (va vd : BitVec 6) (ty : BitVec 4) (wid : BitVec 2) : Statement (.vshlStream p q va vd ty wid) := by
  have l := lay_v29 0x95 (by decide) p q va vd ty wid
  refine mk (w := 0x95 + put p 32 + put q 26 + put va 20 + put vd 14 + put ty 10 + put wid 8) (n := 36) rfl rfl ?_ ?_
  all_goals generalize 0x95 + put p 32 + put q 26 + put va 20 + put vd 14 + put ty 10 + put wid 8 = w at l ⊢
  · obtain ⟨l0, l1, l2, l3, l4, l5, l6, l7, l8, l9⟩ := l
    exact fun h k hk => dV (v_slot hk rfl) (by rw [l1]; decide) (by rw [raw_vshlStream w l0, l2, l3, l4, l5, l6, l7]) (by rw [un_vshlStream w l0, l8]) h
  · exact l.2.2.2.2.2.2.2.2.2

theorem raw_vshrStream (w : Nat) (l0 : w % 256 = 0x96) : rawV w = some (Instr.vshrStream (slice 4 w 32) (slice 3 w 26) (slice 6 w 20) (slice 6 w 14) (slice 4 w 10) (slice 2 w 8)) := by
  unfold rawV; rw [l0]; rfl
theorem un_vshrStream (w : Nat) (l0 : w % 256 = 0x96) : unusedV w = (holds w 29 3 0) := by
  unfold unusedV; rw [l0]; rfl

theorem vshrStream (p : BitVec 4) (q : BitVec 3) (va vd : BitVec 6) (ty : BitVec 4) (wid : BitVec 2) : Statement (.vshrStream p q va vd ty wid) := by
  have l := lay_v29 0x96 (by decide) p q va vd ty wid
  refine mk (w := 0x96 + put p 32 + put q 26 + put va 20 + put vd 14 + put ty 10 + put wid 8) (n := 36) rfl rfl ?_ ?_
  all_goals generalize 0x96 + put p 32 + put q 26 + put va 20 + put vd 14 + put ty 10 + put wid 8 = w at l ⊢
  · obtain ⟨l0, l1, l2, l3, l4, l5, l6, l7, l8, l9⟩ := l
    exact fun h k hk => dV (v_slot hk rfl) (by rw [l1]; decide) (by rw [raw_vshrStream w l0, l2, l3, l4, l5, l6, l7]) (by rw [un_vshrStream w l0, l8]) h
  · exact l.2.2.2.2.2.2.2.2.2

theorem raw_vsarStream (w : Nat) (l0 : w % 256 = 0x97) : rawV w = some (Instr.vsarStream (slice 4 w 32) (slice 3 w 26) (slice 6 w 20) (slice 6 w 14) (slice 4 w 10) (slice 2 w 8)) := by
  unfold rawV; rw [l0]; rfl
theorem un_vsarStream (w : Nat) (l0 : w % 256 = 0x97) : unusedV w = (holds w 29 3 0) := by
  unfold unusedV; rw [l0]; rfl

theorem vsarStream (p : BitVec 4) (q : BitVec 3) (va vd : BitVec 6) (ty : BitVec 4) (wid : BitVec 2) : Statement (.vsarStream p q va vd ty wid) := by
  have l := lay_v29 0x97 (by decide) p q va vd ty wid
  refine mk (w := 0x97 + put p 32 + put q 26 + put va 20 + put vd 14 + put ty 10 + put wid 8) (n := 36) rfl rfl ?_ ?_
  all_goals generalize 0x97 + put p 32 + put q 26 + put va 20 + put vd 14 + put ty 10 + put wid 8 = w at l ⊢
  · obtain ⟨l0, l1, l2, l3, l4, l5, l6, l7, l8, l9⟩ := l
    exact fun h k hk => dV (v_slot hk rfl) (by rw [l1]; decide) (by rw [raw_vsarStream w l0, l2, l3, l4, l5, l6, l7]) (by rw [un_vsarStream w l0, l8]) h
  · exact l.2.2.2.2.2.2.2.2.2

theorem raw_vandStream (w : Nat) (l0 : w % 256 = 0x98) : rawV w = some (Instr.vandStream (slice 4 w 32) (slice 3 w 26) (slice 6 w 20) (slice 6 w 14) (slice 4 w 10) (slice 2 w 8)) := by
  unfold rawV; rw [l0]; rfl
theorem un_vandStream (w : Nat) (l0 : w % 256 = 0x98) : unusedV w = (holds w 29 3 0) := by
  unfold unusedV; rw [l0]; rfl

theorem vandStream (p : BitVec 4) (q : BitVec 3) (va vd : BitVec 6) (ty : BitVec 4) (wid : BitVec 2) : Statement (.vandStream p q va vd ty wid) := by
  have l := lay_v29 0x98 (by decide) p q va vd ty wid
  refine mk (w := 0x98 + put p 32 + put q 26 + put va 20 + put vd 14 + put ty 10 + put wid 8) (n := 36) rfl rfl ?_ ?_
  all_goals generalize 0x98 + put p 32 + put q 26 + put va 20 + put vd 14 + put ty 10 + put wid 8 = w at l ⊢
  · obtain ⟨l0, l1, l2, l3, l4, l5, l6, l7, l8, l9⟩ := l
    exact fun h k hk => dV (v_slot hk rfl) (by rw [l1]; decide) (by rw [raw_vandStream w l0, l2, l3, l4, l5, l6, l7]) (by rw [un_vandStream w l0, l8]) h
  · exact l.2.2.2.2.2.2.2.2.2

theorem raw_vorStream (w : Nat) (l0 : w % 256 = 0x99) : rawV w = some (Instr.vorStream (slice 4 w 32) (slice 3 w 26) (slice 6 w 20) (slice 6 w 14) (slice 4 w 10) (slice 2 w 8)) := by
  unfold rawV; rw [l0]; rfl
theorem un_vorStream (w : Nat) (l0 : w % 256 = 0x99) : unusedV w = (holds w 29 3 0) := by
  unfold unusedV; rw [l0]; rfl

theorem vorStream (p : BitVec 4) (q : BitVec 3) (va vd : BitVec 6) (ty : BitVec 4) (wid : BitVec 2) : Statement (.vorStream p q va vd ty wid) := by
  have l := lay_v29 0x99 (by decide) p q va vd ty wid
  refine mk (w := 0x99 + put p 32 + put q 26 + put va 20 + put vd 14 + put ty 10 + put wid 8) (n := 36) rfl rfl ?_ ?_
  all_goals generalize 0x99 + put p 32 + put q 26 + put va 20 + put vd 14 + put ty 10 + put wid 8 = w at l ⊢
  · obtain ⟨l0, l1, l2, l3, l4, l5, l6, l7, l8, l9⟩ := l
    exact fun h k hk => dV (v_slot hk rfl) (by rw [l1]; decide) (by rw [raw_vorStream w l0, l2, l3, l4, l5, l6, l7]) (by rw [un_vorStream w l0, l8]) h
  · exact l.2.2.2.2.2.2.2.2.2

theorem raw_vxorStream (w : Nat) (l0 : w % 256 = 0x9A) : rawV w = some (Instr.vxorStream (slice 4 w 32) (slice 3 w 26) (slice 6 w 20) (slice 6 w 14) (slice 4 w 10) (slice 2 w 8)) := by
  unfold rawV; rw [l0]; rfl
theorem un_vxorStream (w : Nat) (l0 : w % 256 = 0x9A) : unusedV w = (holds w 29 3 0) := by
  unfold unusedV; rw [l0]; rfl

theorem vxorStream (p : BitVec 4) (q : BitVec 3) (va vd : BitVec 6) (ty : BitVec 4) (wid : BitVec 2) : Statement (.vxorStream p q va vd ty wid) := by
  have l := lay_v29 0x9A (by decide) p q va vd ty wid
  refine mk (w := 0x9A + put p 32 + put q 26 + put va 20 + put vd 14 + put ty 10 + put wid 8) (n := 36) rfl rfl ?_ ?_
  all_goals generalize 0x9A + put p 32 + put q 26 + put va 20 + put vd 14 + put ty 10 + put wid 8 = w at l ⊢
  · obtain ⟨l0, l1, l2, l3, l4, l5, l6, l7, l8, l9⟩ := l
    exact fun h k hk => dV (v_slot hk rfl) (by rw [l1]; decide) (by rw [raw_vxorStream w l0, l2, l3, l4, l5, l6, l7]) (by rw [un_vxorStream w l0, l8]) h
  · exact l.2.2.2.2.2.2.2.2.2

theorem raw_vnotStream (w : Nat) (l0 : w % 256 = 0x9B) : rawV w = some (Instr.vnotStream (slice 4 w 32) (slice 3 w 20) (slice 6 w 14) (slice 4 w 10) (slice 2 w 8)) := by
  unfold rawV; rw [l0]; rfl
theorem un_vnotStream (w : Nat) (l0 : w % 256 = 0x9B) : unusedV w = (holds w 23 9 0) := by
  unfold unusedV; rw [l0]; rfl

theorem vnotStream (p : BitVec 4) (q : BitVec 3) (vd : BitVec 6) (ty : BitVec 4) (wid : BitVec 2) : Statement (.vnotStream p q vd ty wid) := by
  have l := lay_v30 0x9B (by decide) p q vd ty wid
  refine mk (w := 0x9B + put p 32 + put q 20 + put vd 14 + put ty 10 + put wid 8) (n := 36) rfl rfl ?_ ?_
  all_goals generalize 0x9B + put p 32 + put q 20 + put vd 14 + put ty 10 + put wid 8 = w at l ⊢
  · obtain ⟨l0, l1, l2, l3, l4, l5, l6, l7, l8⟩ := l
    exact fun h k hk => dV (v_slot hk rfl) (by rw [l1]; decide) (by rw [raw_vnotStream w l0, l2, l3, l4, l5, l6]) (by rw [un_vnotStream w l0, l7]) h
  · exact l.2.2.2.2.2.2.2.2

theorem raw_vcvtStream (w : Nat) (l0 : w % 256 = 0xA0) : rawV w = some (Instr.vcvtStream (slice 4 w 32) (slice 1 w 30) (slice 4 w 26) (slice 3 w 20) (slice 6 w 14) (slice 4 w 10) (slice 2 w 8)) := by
  unfold rawV; rw [l0]; rfl
theorem un_vcvtStream (w : Nat) (l0 : w % 256 = 0xA0) : unusedV w = (holds w 23 3 0 && holds w 31 1 0) := by
  unfold unusedV; rw [l0]; rfl

theorem vcvtStream (p : BitVec 4) (sat : BitVec 1) (src : BitVec 4) (q : BitVec 3) (vd : BitVec 6) (ty : BitVec 4) (wid : BitVec 2) : Statement (.vcvtStream p sat src q vd ty wid) := by
  have l := lay_v32 0xA0 (by decide) p sat src q vd ty wid
  refine mk (w := 0xA0 + put p 32 + put sat 30 + put src 26 + put q 20 + put vd 14 + put ty 10 + put wid 8) (n := 36) rfl rfl ?_ ?_
  all_goals generalize 0xA0 + put p 32 + put sat 30 + put src 26 + put q 20 + put vd 14 + put ty 10 + put wid 8 = w at l ⊢
  · obtain ⟨l0, l1, l2, l3, l4, l5, l6, l7, l8, l9, l10, l11⟩ := l
    exact fun h k hk => dV (v_slot hk rfl) (by rw [l1]; decide) (by rw [raw_vcvtStream w l0, l2, l3, l4, l5, l6, l7, l8]) (by rw [un_vcvtStream w l0, l9, l10]; rfl) h
  · exact l.2.2.2.2.2.2.2.2.2.2.2

theorem raw_vqntStream (w : Nat) (l0 : w % 256 = 0xA1) : rawV w = some (Instr.vqntStream (slice 4 w 32) (slice 1 w 30) (slice 3 w 20) (slice 6 w 14) (slice 4 w 10) (slice 2 w 8)) := by
  unfold rawV; rw [l0]; rfl
theorem un_vqntStream (w : Nat) (l0 : w % 256 = 0xA1) : unusedV w = (holds w 23 7 0 && holds w 31 1 0) := by
  unfold unusedV; rw [l0]; rfl

theorem vqntStream (p : BitVec 4) (sat : BitVec 1) (q : BitVec 3) (vd : BitVec 6) (ty : BitVec 4) (wid : BitVec 2) : Statement (.vqntStream p sat q vd ty wid) := by
  have l := lay_v33 0xA1 (by decide) p sat q vd ty wid
  refine mk (w := 0xA1 + put p 32 + put sat 30 + put q 20 + put vd 14 + put ty 10 + put wid 8) (n := 36) rfl rfl ?_ ?_
  all_goals generalize 0xA1 + put p 32 + put sat 30 + put q 20 + put vd 14 + put ty 10 + put wid 8 = w at l ⊢
  · obtain ⟨l0, l1, l2, l3, l4, l5, l6, l7, l8, l9, l10⟩ := l
    exact fun h k hk => dV (v_slot hk rfl) (by rw [l1]; decide) (by rw [raw_vqntStream w l0, l2, l3, l4, l5, l6, l7]) (by rw [un_vqntStream w l0, l8, l9]; rfl) h
  · exact l.2.2.2.2.2.2.2.2.2.2

theorem raw_vdqntStream (w : Nat) (l0 : w % 256 = 0xA2) : rawV w = some (Instr.vdqntStream (slice 4 w 32) (slice 3 w 20) (slice 6 w 14) (slice 4 w 10) (slice 2 w 8)) := by
  unfold rawV; rw [l0]; rfl
theorem un_vdqntStream (w : Nat) (l0 : w % 256 = 0xA2) : unusedV w = (holds w 23 9 0) := by
  unfold unusedV; rw [l0]; rfl

theorem vdqntStream (p : BitVec 4) (q : BitVec 3) (vd : BitVec 6) (ty : BitVec 4) (wid : BitVec 2) : Statement (.vdqntStream p q vd ty wid) := by
  have l := lay_v30 0xA2 (by decide) p q vd ty wid
  refine mk (w := 0xA2 + put p 32 + put q 20 + put vd 14 + put ty 10 + put wid 8) (n := 36) rfl rfl ?_ ?_
  all_goals generalize 0xA2 + put p 32 + put q 20 + put vd 14 + put ty 10 + put wid 8 = w at l ⊢
  · obtain ⟨l0, l1, l2, l3, l4, l5, l6, l7, l8⟩ := l
    exact fun h k hk => dV (v_slot hk rfl) (by rw [l1]; decide) (by rw [raw_vdqntStream w l0, l2, l3, l4, l5, l6]) (by rw [un_vdqntStream w l0, l7]) h
  · exact l.2.2.2.2.2.2.2.2

theorem raw_vimgStream (w : Nat) (l0 : w % 256 = 0xA3) : rawV w = some (Instr.vimgStream (slice 4 w 32) (slice 1 w 26) (slice 3 w 20) (slice 6 w 14) (slice 4 w 10) (slice 2 w 8)) := by
  unfold rawV; rw [l0]; rfl
theorem un_vimgStream (w : Nat) (l0 : w % 256 = 0xA3) : unusedV w = (holds w 23 3 0 && holds w 27 5 0) := by
  unfold unusedV; rw [l0]; rfl

theorem vimgStream (p : BitVec 4) (inv : BitVec 1) (q : BitVec 3) (vd : BitVec 6) (ty : BitVec 4) (wid : BitVec 2) : Statement (.vimgStream p inv q vd ty wid) := by
  have l := lay_v34 0xA3 (by decide) p inv q vd ty wid
  refine mk (w := 0xA3 + put p 32 + put inv 26 + put q 20 + put vd 14 + put ty 10 + put wid 8) (n := 36) rfl rfl ?_ ?_
  all_goals generalize 0xA3 + put p 32 + put inv 26 + put q 20 + put vd 14 + put ty 10 + put wid 8 = w at l ⊢
  · obtain ⟨l0, l1, l2, l3, l4, l5, l6, l7, l8, l9, l10⟩ := l
    exact fun h k hk => dV (v_slot hk rfl) (by rw [l1]; decide) (by rw [raw_vimgStream w l0, l2, l3, l4, l5, l6, l7]) (by rw [un_vimgStream w l0, l8, l9]; rfl) h
  · exact l.2.2.2.2.2.2.2.2.2.2

theorem raw_vlseStream (w : Nat) (l0 : w % 256 = 0xA4) : rawV w = some (Instr.vlseStream (slice 4 w 32) (slice 3 w 26) (slice 6 w 20) (slice 6 w 14) (slice 4 w 10) (slice 2 w 8)) := by
  unfold rawV; rw [l0]; rfl
theorem un_vlseStream (w : Nat) (l0 : w % 256 = 0xA4) : unusedV w = (holds w 29 3 0) := by
  unfold unusedV; rw [l0]; rfl

theorem vlseStream (p : BitVec 4) (q : BitVec 3) (va vd : BitVec 6) (ty : BitVec 4) (wid : BitVec 2) : Statement (.vlseStream p q va vd ty wid) := by
  have l := lay_v29 0xA4 (by decide) p q va vd ty wid
  refine mk (w := 0xA4 + put p 32 + put q 26 + put va 20 + put vd 14 + put ty 10 + put wid 8) (n := 36) rfl rfl ?_ ?_
  all_goals generalize 0xA4 + put p 32 + put q 26 + put va 20 + put vd 14 + put ty 10 + put wid 8 = w at l ⊢
  · obtain ⟨l0, l1, l2, l3, l4, l5, l6, l7, l8, l9⟩ := l
    exact fun h k hk => dV (v_slot hk rfl) (by rw [l1]; decide) (by rw [raw_vlseStream w l0, l2, l3, l4, l5, l6, l7]) (by rw [un_vlseStream w l0, l8]) h
  · exact l.2.2.2.2.2.2.2.2.2

theorem raw_vropeStream (w : Nat) (l0 : w % 256 = 0xA5) : rawV w = some (Instr.vropeStream (slice 4 w 32) (slice 3 w 26) (slice 6 w 20) (slice 6 w 14) (slice 4 w 10) (slice 2 w 8)) := by
  unfold rawV; rw [l0]; rfl
theorem un_vropeStream (w : Nat) (l0 : w % 256 = 0xA5) : unusedV w = (holds w 29 3 0) := by
  unfold unusedV; rw [l0]; rfl

theorem vropeStream (p : BitVec 4) (q : BitVec 3) (va vd : BitVec 6) (ty : BitVec 4) (wid : BitVec 2) : Statement (.vropeStream p q va vd ty wid) := by
  have l := lay_v29 0xA5 (by decide) p q va vd ty wid
  refine mk (w := 0xA5 + put p 32 + put q 26 + put va 20 + put vd 14 + put ty 10 + put wid 8) (n := 36) rfl rfl ?_ ?_
  all_goals generalize 0xA5 + put p 32 + put q 26 + put va 20 + put vd 14 + put ty 10 + put wid 8 = w at l ⊢
  · obtain ⟨l0, l1, l2, l3, l4, l5, l6, l7, l8, l9⟩ := l
    exact fun h k hk => dV (v_slot hk rfl) (by rw [l1]; decide) (by rw [raw_vropeStream w l0, l2, l3, l4, l5, l6, l7]) (by rw [un_vropeStream w l0, l8]) h
  · exact l.2.2.2.2.2.2.2.2.2

theorem raw_vrsumStream (w : Nat) (l0 : w % 256 = 0xA8) : rawV w = some (Instr.vrsumStream (slice 4 w 32) (slice 3 w 20) (slice 6 w 14) (slice 4 w 10) (slice 2 w 8)) := by
  unfold rawV; rw [l0]; rfl
theorem un_vrsumStream (w : Nat) (l0 : w % 256 = 0xA8) : unusedV w = (holds w 23 9 0) := by
  unfold unusedV; rw [l0]; rfl

theorem vrsumStream (p : BitVec 4) (q : BitVec 3) (vd : BitVec 6) (ty : BitVec 4) (wid : BitVec 2) : Statement (.vrsumStream p q vd ty wid) := by
  have l := lay_v30 0xA8 (by decide) p q vd ty wid
  refine mk (w := 0xA8 + put p 32 + put q 20 + put vd 14 + put ty 10 + put wid 8) (n := 36) rfl rfl ?_ ?_
  all_goals generalize 0xA8 + put p 32 + put q 20 + put vd 14 + put ty 10 + put wid 8 = w at l ⊢
  · obtain ⟨l0, l1, l2, l3, l4, l5, l6, l7, l8⟩ := l
    exact fun h k hk => dV (v_slot hk rfl) (by rw [l1]; decide) (by rw [raw_vrsumStream w l0, l2, l3, l4, l5, l6]) (by rw [un_vrsumStream w l0, l7]) h
  · exact l.2.2.2.2.2.2.2.2

theorem raw_vrmaxStream (w : Nat) (l0 : w % 256 = 0xA9) : rawV w = some (Instr.vrmaxStream (slice 4 w 32) (slice 3 w 20) (slice 6 w 14) (slice 4 w 10) (slice 2 w 8)) := by
  unfold rawV; rw [l0]; rfl
theorem un_vrmaxStream (w : Nat) (l0 : w % 256 = 0xA9) : unusedV w = (holds w 23 9 0) := by
  unfold unusedV; rw [l0]; rfl

theorem vrmaxStream (p : BitVec 4) (q : BitVec 3) (vd : BitVec 6) (ty : BitVec 4) (wid : BitVec 2) : Statement (.vrmaxStream p q vd ty wid) := by
  have l := lay_v30 0xA9 (by decide) p q vd ty wid
  refine mk (w := 0xA9 + put p 32 + put q 20 + put vd 14 + put ty 10 + put wid 8) (n := 36) rfl rfl ?_ ?_
  all_goals generalize 0xA9 + put p 32 + put q 20 + put vd 14 + put ty 10 + put wid 8 = w at l ⊢
  · obtain ⟨l0, l1, l2, l3, l4, l5, l6, l7, l8⟩ := l
    exact fun h k hk => dV (v_slot hk rfl) (by rw [l1]; decide) (by rw [raw_vrmaxStream w l0, l2, l3, l4, l5, l6]) (by rw [un_vrmaxStream w l0, l7]) h
  · exact l.2.2.2.2.2.2.2.2

theorem raw_vrminStream (w : Nat) (l0 : w % 256 = 0xAA) : rawV w = some (Instr.vrminStream (slice 4 w 32) (slice 3 w 20) (slice 6 w 14) (slice 4 w 10) (slice 2 w 8)) := by
  unfold rawV; rw [l0]; rfl
theorem un_vrminStream (w : Nat) (l0 : w % 256 = 0xAA) : unusedV w = (holds w 23 9 0) := by
  unfold unusedV; rw [l0]; rfl

theorem vrminStream (p : BitVec 4) (q : BitVec 3) (vd : BitVec 6) (ty : BitVec 4) (wid : BitVec 2) : Statement (.vrminStream p q vd ty wid) := by
  have l := lay_v30 0xAA (by decide) p q vd ty wid
  refine mk (w := 0xAA + put p 32 + put q 20 + put vd 14 + put ty 10 + put wid 8) (n := 36) rfl rfl ?_ ?_
  all_goals generalize 0xAA + put p 32 + put q 20 + put vd 14 + put ty 10 + put wid 8 = w at l ⊢
  · obtain ⟨l0, l1, l2, l3, l4, l5, l6, l7, l8⟩ := l
    exact fun h k hk => dV (v_slot hk rfl) (by rw [l1]; decide) (by rw [raw_vrminStream w l0, l2, l3, l4, l5, l6]) (by rw [un_vrminStream w l0, l7]) h
  · exact l.2.2.2.2.2.2.2.2

theorem raw_vmovStream (w : Nat) (l0 : w % 256 = 0xAC) : rawV w = some (Instr.vmovStream (slice 4 w 32) (slice 3 w 20) (slice 6 w 14) (slice 4 w 10) (slice 2 w 8)) := by
  unfold rawV; rw [l0]; rfl
theorem un_vmovStream (w : Nat) (l0 : w % 256 = 0xAC) : unusedV w = (holds w 23 9 0) := by
  unfold unusedV; rw [l0]; rfl

theorem vmovStream (p : BitVec 4) (q : BitVec 3) (vd : BitVec 6) (ty : BitVec 4) (wid : BitVec 2) : Statement (.vmovStream p q vd ty wid) := by
  have l := lay_v30 0xAC (by decide) p q vd ty wid
  refine mk (w := 0xAC + put p 32 + put q 20 + put vd 14 + put ty 10 + put wid 8) (n := 36) rfl rfl ?_ ?_
  all_goals generalize 0xAC + put p 32 + put q 20 + put vd 14 + put ty 10 + put wid 8 = w at l ⊢
  · obtain ⟨l0, l1, l2, l3, l4, l5, l6, l7, l8⟩ := l
    exact fun h k hk => dV (v_slot hk rfl) (by rw [l1]; decide) (by rw [raw_vmovStream w l0, l2, l3, l4, l5, l6]) (by rw [un_vmovStream w l0, l7]) h
  · exact l.2.2.2.2.2.2.2.2

theorem raw_vexp2Stream (w : Nat) (l0 : w % 256 = 0xC0) : rawV w = some (Instr.vexp2Stream (slice 4 w 32) (slice 3 w 20) (slice 6 w 14) (slice 4 w 10) (slice 2 w 8)) := by
  unfold rawV; rw [l0]; rfl
theorem un_vexp2Stream (w : Nat) (l0 : w % 256 = 0xC0) : unusedV w = (holds w 23 9 0) := by
  unfold unusedV; rw [l0]; rfl

theorem vexp2Stream (p : BitVec 4) (q : BitVec 3) (vd : BitVec 6) (ty : BitVec 4) (wid : BitVec 2) : Statement (.vexp2Stream p q vd ty wid) := by
  have l := lay_v30 0xC0 (by decide) p q vd ty wid
  have vk : ∀ k, slotTakes k (.vexp2Stream p q vd ty wid) = true → k = 9 := fun k hk => v3only_slot hk (by rw [show encode (.vexp2Stream p q vd ty wid) = [0xC0 + put p 32 + put q 20 + put vd 14 + put ty 10 + put wid 8] from rfl, List.headD, l.2.1]; decide) rfl
  refine mk (w := 0xC0 + put p 32 + put q 20 + put vd 14 + put ty 10 + put wid 8) (n := 36) rfl rfl ?_ ?_
  all_goals generalize 0xC0 + put p 32 + put q 20 + put vd 14 + put ty 10 + put wid 8 = w at l ⊢
  · obtain ⟨l0, l1, l2, l3, l4, l5, l6, l7, l8⟩ := l
    exact fun h k hk => dV3 (vk k hk) (by rw [raw_vexp2Stream w l0, l2, l3, l4, l5, l6]) (by rw [un_vexp2Stream w l0, l7]) h
  · exact l.2.2.2.2.2.2.2.2

theorem raw_vlog2Stream (w : Nat) (l0 : w % 256 = 0xC1) : rawV w = some (Instr.vlog2Stream (slice 4 w 32) (slice 3 w 20) (slice 6 w 14) (slice 4 w 10) (slice 2 w 8)) := by
  unfold rawV; rw [l0]; rfl
theorem un_vlog2Stream (w : Nat) (l0 : w % 256 = 0xC1) : unusedV w = (holds w 23 9 0) := by
  unfold unusedV; rw [l0]; rfl

theorem vlog2Stream (p : BitVec 4) (q : BitVec 3) (vd : BitVec 6) (ty : BitVec 4) (wid : BitVec 2) : Statement (.vlog2Stream p q vd ty wid) := by
  have l := lay_v30 0xC1 (by decide) p q vd ty wid
  have vk : ∀ k, slotTakes k (.vlog2Stream p q vd ty wid) = true → k = 9 := fun k hk => v3only_slot hk (by rw [show encode (.vlog2Stream p q vd ty wid) = [0xC1 + put p 32 + put q 20 + put vd 14 + put ty 10 + put wid 8] from rfl, List.headD, l.2.1]; decide) rfl
  refine mk (w := 0xC1 + put p 32 + put q 20 + put vd 14 + put ty 10 + put wid 8) (n := 36) rfl rfl ?_ ?_
  all_goals generalize 0xC1 + put p 32 + put q 20 + put vd 14 + put ty 10 + put wid 8 = w at l ⊢
  · obtain ⟨l0, l1, l2, l3, l4, l5, l6, l7, l8⟩ := l
    exact fun h k hk => dV3 (vk k hk) (by rw [raw_vlog2Stream w l0, l2, l3, l4, l5, l6]) (by rw [un_vlog2Stream w l0, l7]) h
  · exact l.2.2.2.2.2.2.2.2

theorem raw_vrcpStream (w : Nat) (l0 : w % 256 = 0xC2) : rawV w = some (Instr.vrcpStream (slice 4 w 32) (slice 3 w 20) (slice 6 w 14) (slice 4 w 10) (slice 2 w 8)) := by
  unfold rawV; rw [l0]; rfl
theorem un_vrcpStream (w : Nat) (l0 : w % 256 = 0xC2) : unusedV w = (holds w 23 9 0) := by
  unfold unusedV; rw [l0]; rfl

theorem vrcpStream (p : BitVec 4) (q : BitVec 3) (vd : BitVec 6) (ty : BitVec 4) (wid : BitVec 2) : Statement (.vrcpStream p q vd ty wid) := by
  have l := lay_v30 0xC2 (by decide) p q vd ty wid
  have vk : ∀ k, slotTakes k (.vrcpStream p q vd ty wid) = true → k = 9 := fun k hk => v3only_slot hk (by rw [show encode (.vrcpStream p q vd ty wid) = [0xC2 + put p 32 + put q 20 + put vd 14 + put ty 10 + put wid 8] from rfl, List.headD, l.2.1]; decide) rfl
  refine mk (w := 0xC2 + put p 32 + put q 20 + put vd 14 + put ty 10 + put wid 8) (n := 36) rfl rfl ?_ ?_
  all_goals generalize 0xC2 + put p 32 + put q 20 + put vd 14 + put ty 10 + put wid 8 = w at l ⊢
  · obtain ⟨l0, l1, l2, l3, l4, l5, l6, l7, l8⟩ := l
    exact fun h k hk => dV3 (vk k hk) (by rw [raw_vrcpStream w l0, l2, l3, l4, l5, l6]) (by rw [un_vrcpStream w l0, l7]) h
  · exact l.2.2.2.2.2.2.2.2

theorem raw_vrsqStream (w : Nat) (l0 : w % 256 = 0xC3) : rawV w = some (Instr.vrsqStream (slice 4 w 32) (slice 3 w 20) (slice 6 w 14) (slice 4 w 10) (slice 2 w 8)) := by
  unfold rawV; rw [l0]; rfl
theorem un_vrsqStream (w : Nat) (l0 : w % 256 = 0xC3) : unusedV w = (holds w 23 9 0) := by
  unfold unusedV; rw [l0]; rfl

theorem vrsqStream (p : BitVec 4) (q : BitVec 3) (vd : BitVec 6) (ty : BitVec 4) (wid : BitVec 2) : Statement (.vrsqStream p q vd ty wid) := by
  have l := lay_v30 0xC3 (by decide) p q vd ty wid
  have vk : ∀ k, slotTakes k (.vrsqStream p q vd ty wid) = true → k = 9 := fun k hk => v3only_slot hk (by rw [show encode (.vrsqStream p q vd ty wid) = [0xC3 + put p 32 + put q 20 + put vd 14 + put ty 10 + put wid 8] from rfl, List.headD, l.2.1]; decide) rfl
  refine mk (w := 0xC3 + put p 32 + put q 20 + put vd 14 + put ty 10 + put wid 8) (n := 36) rfl rfl ?_ ?_
  all_goals generalize 0xC3 + put p 32 + put q 20 + put vd 14 + put ty 10 + put wid 8 = w at l ⊢
  · obtain ⟨l0, l1, l2, l3, l4, l5, l6, l7, l8⟩ := l
    exact fun h k hk => dV3 (vk k hk) (by rw [raw_vrsqStream w l0, l2, l3, l4, l5, l6]) (by rw [un_vrsqStream w l0, l7]) h
  · exact l.2.2.2.2.2.2.2.2

theorem raw_vsqrtStream (w : Nat) (l0 : w % 256 = 0xC4) : rawV w = some (Instr.vsqrtStream (slice 4 w 32) (slice 3 w 20) (slice 6 w 14) (slice 4 w 10) (slice 2 w 8)) := by
  unfold rawV; rw [l0]; rfl
theorem un_vsqrtStream (w : Nat) (l0 : w % 256 = 0xC4) : unusedV w = (holds w 23 9 0) := by
  unfold unusedV; rw [l0]; rfl

theorem vsqrtStream (p : BitVec 4) (q : BitVec 3) (vd : BitVec 6) (ty : BitVec 4) (wid : BitVec 2) : Statement (.vsqrtStream p q vd ty wid) := by
  have l := lay_v30 0xC4 (by decide) p q vd ty wid
  have vk : ∀ k, slotTakes k (.vsqrtStream p q vd ty wid) = true → k = 9 := fun k hk => v3only_slot hk (by rw [show encode (.vsqrtStream p q vd ty wid) = [0xC4 + put p 32 + put q 20 + put vd 14 + put ty 10 + put wid 8] from rfl, List.headD, l.2.1]; decide) rfl
  refine mk (w := 0xC4 + put p 32 + put q 20 + put vd 14 + put ty 10 + put wid 8) (n := 36) rfl rfl ?_ ?_
  all_goals generalize 0xC4 + put p 32 + put q 20 + put vd 14 + put ty 10 + put wid 8 = w at l ⊢
  · obtain ⟨l0, l1, l2, l3, l4, l5, l6, l7, l8⟩ := l
    exact fun h k hk => dV3 (vk k hk) (by rw [raw_vsqrtStream w l0, l2, l3, l4, l5, l6]) (by rw [un_vsqrtStream w l0, l7]) h
  · exact l.2.2.2.2.2.2.2.2

theorem raw_vsinStream (w : Nat) (l0 : w % 256 = 0xC5) : rawV w = some (Instr.vsinStream (slice 4 w 32) (slice 3 w 20) (slice 6 w 14) (slice 4 w 10) (slice 2 w 8)) := by
  unfold rawV; rw [l0]; rfl
theorem un_vsinStream (w : Nat) (l0 : w % 256 = 0xC5) : unusedV w = (holds w 23 9 0) := by
  unfold unusedV; rw [l0]; rfl

theorem vsinStream (p : BitVec 4) (q : BitVec 3) (vd : BitVec 6) (ty : BitVec 4) (wid : BitVec 2) : Statement (.vsinStream p q vd ty wid) := by
  have l := lay_v30 0xC5 (by decide) p q vd ty wid
  have vk : ∀ k, slotTakes k (.vsinStream p q vd ty wid) = true → k = 9 := fun k hk => v3only_slot hk (by rw [show encode (.vsinStream p q vd ty wid) = [0xC5 + put p 32 + put q 20 + put vd 14 + put ty 10 + put wid 8] from rfl, List.headD, l.2.1]; decide) rfl
  refine mk (w := 0xC5 + put p 32 + put q 20 + put vd 14 + put ty 10 + put wid 8) (n := 36) rfl rfl ?_ ?_
  all_goals generalize 0xC5 + put p 32 + put q 20 + put vd 14 + put ty 10 + put wid 8 = w at l ⊢
  · obtain ⟨l0, l1, l2, l3, l4, l5, l6, l7, l8⟩ := l
    exact fun h k hk => dV3 (vk k hk) (by rw [raw_vsinStream w l0, l2, l3, l4, l5, l6]) (by rw [un_vsinStream w l0, l7]) h
  · exact l.2.2.2.2.2.2.2.2

theorem raw_vcosStream (w : Nat) (l0 : w % 256 = 0xC6) : rawV w = some (Instr.vcosStream (slice 4 w 32) (slice 3 w 20) (slice 6 w 14) (slice 4 w 10) (slice 2 w 8)) := by
  unfold rawV; rw [l0]; rfl
theorem un_vcosStream (w : Nat) (l0 : w % 256 = 0xC6) : unusedV w = (holds w 23 9 0) := by
  unfold unusedV; rw [l0]; rfl

theorem vcosStream (p : BitVec 4) (q : BitVec 3) (vd : BitVec 6) (ty : BitVec 4) (wid : BitVec 2) : Statement (.vcosStream p q vd ty wid) := by
  have l := lay_v30 0xC6 (by decide) p q vd ty wid
  have vk : ∀ k, slotTakes k (.vcosStream p q vd ty wid) = true → k = 9 := fun k hk => v3only_slot hk (by rw [show encode (.vcosStream p q vd ty wid) = [0xC6 + put p 32 + put q 20 + put vd 14 + put ty 10 + put wid 8] from rfl, List.headD, l.2.1]; decide) rfl
  refine mk (w := 0xC6 + put p 32 + put q 20 + put vd 14 + put ty 10 + put wid 8) (n := 36) rfl rfl ?_ ?_
  all_goals generalize 0xC6 + put p 32 + put q 20 + put vd 14 + put ty 10 + put wid 8 = w at l ⊢
  · obtain ⟨l0, l1, l2, l3, l4, l5, l6, l7, l8⟩ := l
    exact fun h k hk => dV3 (vk k hk) (by rw [raw_vcosStream w l0, l2, l3, l4, l5, l6]) (by rw [un_vcosStream w l0, l7]) h
  · exact l.2.2.2.2.2.2.2.2

theorem raw_vtanhStream (w : Nat) (l0 : w % 256 = 0xC7) : rawV w = some (Instr.vtanhStream (slice 4 w 32) (slice 3 w 20) (slice 6 w 14) (slice 4 w 10) (slice 2 w 8)) := by
  unfold rawV; rw [l0]; rfl
theorem un_vtanhStream (w : Nat) (l0 : w % 256 = 0xC7) : unusedV w = (holds w 23 9 0) := by
  unfold unusedV; rw [l0]; rfl

theorem vtanhStream (p : BitVec 4) (q : BitVec 3) (vd : BitVec 6) (ty : BitVec 4) (wid : BitVec 2) : Statement (.vtanhStream p q vd ty wid) := by
  have l := lay_v30 0xC7 (by decide) p q vd ty wid
  have vk : ∀ k, slotTakes k (.vtanhStream p q vd ty wid) = true → k = 9 := fun k hk => v3only_slot hk (by rw [show encode (.vtanhStream p q vd ty wid) = [0xC7 + put p 32 + put q 20 + put vd 14 + put ty 10 + put wid 8] from rfl, List.headD, l.2.1]; decide) rfl
  refine mk (w := 0xC7 + put p 32 + put q 20 + put vd 14 + put ty 10 + put wid 8) (n := 36) rfl rfl ?_ ?_
  all_goals generalize 0xC7 + put p 32 + put q 20 + put vd 14 + put ty 10 + put wid 8 = w at l ⊢
  · obtain ⟨l0, l1, l2, l3, l4, l5, l6, l7, l8⟩ := l
    exact fun h k hk => dV3 (vk k hk) (by rw [raw_vtanhStream w l0, l2, l3, l4, l5, l6]) (by rw [un_vtanhStream w l0, l7]) h
  · exact l.2.2.2.2.2.2.2.2

theorem raw_vpermStream (w : Nat) (l0 : w % 256 = 0xC8) : rawV w = some (Instr.vpermStream (slice 4 w 32) (slice 3 w 26) (slice 6 w 20) (slice 6 w 14) (slice 4 w 10) (slice 2 w 8)) := by
  unfold rawV; rw [l0]; rfl
theorem un_vpermStream (w : Nat) (l0 : w % 256 = 0xC8) : unusedV w = (holds w 29 3 0) := by
  unfold unusedV; rw [l0]; rfl

theorem vpermStream (p : BitVec 4) (q : BitVec 3) (va vd : BitVec 6) (ty : BitVec 4) (wid : BitVec 2) : Statement (.vpermStream p q va vd ty wid) := by
  have l := lay_v29 0xC8 (by decide) p q va vd ty wid
  have vk : ∀ k, slotTakes k (.vpermStream p q va vd ty wid) = true → k = 9 := fun k hk => v3only_slot hk (by rw [show encode (.vpermStream p q va vd ty wid) = [0xC8 + put p 32 + put q 26 + put va 20 + put vd 14 + put ty 10 + put wid 8] from rfl, List.headD, l.2.1]; decide) rfl
  refine mk (w := 0xC8 + put p 32 + put q 26 + put va 20 + put vd 14 + put ty 10 + put wid 8) (n := 36) rfl rfl ?_ ?_
  all_goals generalize 0xC8 + put p 32 + put q 26 + put va 20 + put vd 14 + put ty 10 + put wid 8 = w at l ⊢
  · obtain ⟨l0, l1, l2, l3, l4, l5, l6, l7, l8, l9⟩ := l
    exact fun h k hk => dV3 (vk k hk) (by rw [raw_vpermStream w l0, l2, l3, l4, l5, l6, l7]) (by rw [un_vpermStream w l0, l8]) h
  · exact l.2.2.2.2.2.2.2.2.2

theorem raw_vtrnStream (w : Nat) (l0 : w % 256 = 0xC9) : rawV w = some (Instr.vtrnStream (slice 4 w 32) (slice 3 w 20) (slice 6 w 14) (slice 4 w 10) (slice 2 w 8)) := by
  unfold rawV; rw [l0]; rfl
theorem un_vtrnStream (w : Nat) (l0 : w % 256 = 0xC9) : unusedV w = (holds w 23 9 0) := by
  unfold unusedV; rw [l0]; rfl

theorem vtrnStream (p : BitVec 4) (q : BitVec 3) (vd : BitVec 6) (ty : BitVec 4) (wid : BitVec 2) : Statement (.vtrnStream p q vd ty wid) := by
  have l := lay_v30 0xC9 (by decide) p q vd ty wid
  have vk : ∀ k, slotTakes k (.vtrnStream p q vd ty wid) = true → k = 9 := fun k hk => v3only_slot hk (by rw [show encode (.vtrnStream p q vd ty wid) = [0xC9 + put p 32 + put q 20 + put vd 14 + put ty 10 + put wid 8] from rfl, List.headD, l.2.1]; decide) rfl
  refine mk (w := 0xC9 + put p 32 + put q 20 + put vd 14 + put ty 10 + put wid 8) (n := 36) rfl rfl ?_ ?_
  all_goals generalize 0xC9 + put p 32 + put q 20 + put vd 14 + put ty 10 + put wid 8 = w at l ⊢
  · obtain ⟨l0, l1, l2, l3, l4, l5, l6, l7, l8⟩ := l
    exact fun h k hk => dV3 (vk k hk) (by rw [raw_vtrnStream w l0, l2, l3, l4, l5, l6]) (by rw [un_vtrnStream w l0, l7]) h
  · exact l.2.2.2.2.2.2.2.2

theorem raw_vshufStream (w : Nat) (l0 : w % 256 = 0xCA) : rawV w = some (Instr.vshufStream (slice 4 w 32) (slice 3 w 26) (slice 6 w 20) (slice 6 w 14) (slice 4 w 10) (slice 2 w 8)) := by
  unfold rawV; rw [l0]; rfl
theorem un_vshufStream (w : Nat) (l0 : w % 256 = 0xCA) : unusedV w = (holds w 29 3 0) := by
  unfold unusedV; rw [l0]; rfl

theorem vshufStream (p : BitVec 4) (q : BitVec 3) (va vd : BitVec 6) (ty : BitVec 4) (wid : BitVec 2) : Statement (.vshufStream p q va vd ty wid) := by
  have l := lay_v29 0xCA (by decide) p q va vd ty wid
  have vk : ∀ k, slotTakes k (.vshufStream p q va vd ty wid) = true → k = 9 := fun k hk => v3only_slot hk (by rw [show encode (.vshufStream p q va vd ty wid) = [0xCA + put p 32 + put q 26 + put va 20 + put vd 14 + put ty 10 + put wid 8] from rfl, List.headD, l.2.1]; decide) rfl
  refine mk (w := 0xCA + put p 32 + put q 26 + put va 20 + put vd 14 + put ty 10 + put wid 8) (n := 36) rfl rfl ?_ ?_
  all_goals generalize 0xCA + put p 32 + put q 26 + put va 20 + put vd 14 + put ty 10 + put wid 8 = w at l ⊢
  · obtain ⟨l0, l1, l2, l3, l4, l5, l6, l7, l8, l9⟩ := l
    exact fun h k hk => dV3 (vk k hk) (by rw [raw_vshufStream w l0, l2, l3, l4, l5, l6, l7]) (by rw [un_vshufStream w l0, l8]) h
  · exact l.2.2.2.2.2.2.2.2.2

theorem raw_vzipStream (w : Nat) (l0 : w % 256 = 0xCB) : rawV w = some (Instr.vzipStream (slice 4 w 32) (slice 3 w 26) (slice 6 w 20) (slice 6 w 14) (slice 4 w 10) (slice 2 w 8)) := by
  unfold rawV; rw [l0]; rfl
theorem un_vzipStream (w : Nat) (l0 : w % 256 = 0xCB) : unusedV w = (holds w 29 3 0) := by
  unfold unusedV; rw [l0]; rfl

theorem vzipStream (p : BitVec 4) (q : BitVec 3) (va vd : BitVec 6) (ty : BitVec 4) (wid : BitVec 2) : Statement (.vzipStream p q va vd ty wid) := by
  have l := lay_v29 0xCB (by decide) p q va vd ty wid
  have vk : ∀ k, slotTakes k (.vzipStream p q va vd ty wid) = true → k = 9 := fun k hk => v3only_slot hk (by rw [show encode (.vzipStream p q va vd ty wid) = [0xCB + put p 32 + put q 26 + put va 20 + put vd 14 + put ty 10 + put wid 8] from rfl, List.headD, l.2.1]; decide) rfl
  refine mk (w := 0xCB + put p 32 + put q 26 + put va 20 + put vd 14 + put ty 10 + put wid 8) (n := 36) rfl rfl ?_ ?_
  all_goals generalize 0xCB + put p 32 + put q 26 + put va 20 + put vd 14 + put ty 10 + put wid 8 = w at l ⊢
  · obtain ⟨l0, l1, l2, l3, l4, l5, l6, l7, l8, l9⟩ := l
    exact fun h k hk => dV3 (vk k hk) (by rw [raw_vzipStream w l0, l2, l3, l4, l5, l6, l7]) (by rw [un_vzipStream w l0, l8]) h
  · exact l.2.2.2.2.2.2.2.2.2

theorem raw_mcfg (w : Nat) (l0 : w % 16 = 0x0) : rawMX w = some (Instr.mcfg (slice 16 w 4)) := by
  unfold rawMX; rw [l0]; rfl
theorem un_mcfg (w : Nat) (l0 : w % 16 = 0x0) : unusedMX w = true := by
  unfold unusedMX; rw [l0]; rfl

theorem mcfg (imm : BitVec 16) : Statement (.mcfg imm) := by
  have l := lay_mx35 0x0 (by decide) imm
  refine mk (w := 0x00 + put imm 4) (n := 20) rfl rfl ?_ ?_
  all_goals generalize 0x00 + put imm 4 = w at l ⊢
  · obtain ⟨l0, l1, l2⟩ := l
    exact fun h k hk => dMX (mx_slot hk rfl) (by rw [raw_mcfg w l0, l1]) (un_mcfg w l0) h
  · exact l.2.2

theorem raw_mldw (w : Nat) (l0 : w % 16 = 0x1) : rawMX w = some Instr.mldw := by
  unfold rawMX; rw [l0]; rfl
theorem un_mldw (w : Nat) (l0 : w % 16 = 0x1) : unusedMX w = (holds w 4 16 0) := by
  unfold unusedMX; rw [l0]; rfl

theorem mldw : Statement .mldw := by
  have l := lay_mx36 0x1 (by decide)
  refine mk (w := 0x01) (n := 20) rfl rfl ?_ ?_
  · obtain ⟨l0, l1, l2⟩ := l
    exact fun h k hk => dMX (mx_slot hk rfl) (by rw [raw_mldw 0x1 l0]) (by rw [un_mldw 0x1 l0, l1]) h
  · exact l.2.2

theorem raw_mswap (w : Nat) (l0 : w % 16 = 0x2) : rawMX w = some Instr.mswap := by
  unfold rawMX; rw [l0]; rfl
theorem un_mswap (w : Nat) (l0 : w % 16 = 0x2) : unusedMX w = (holds w 4 16 0) := by
  unfold unusedMX; rw [l0]; rfl

theorem mswap : Statement .mswap := by
  have l := lay_mx36 0x2 (by decide)
  refine mk (w := 0x02) (n := 20) rfl rfl ?_ ?_
  · obtain ⟨l0, l1, l2⟩ := l
    exact fun h k hk => dMX (mx_slot hk rfl) (by rw [raw_mswap 0x2 l0]) (by rw [un_mswap 0x2 l0, l1]) h
  · exact l.2.2

theorem raw_mpush (w : Nat) (l0 : w % 16 = 0x3) : rawMX w = some (Instr.mpush (slice 1 w 18) (slice 3 w 15) (slice 6 w 9) (slice 5 w 4)) := by
  unfold rawMX; rw [l0]; rfl
theorem un_mpush (w : Nat) (l0 : w % 16 = 0x3) : unusedMX w = (holds w 19 1 0) := by
  unfold unusedMX; rw [l0]; rfl

theorem mpush (acc : BitVec 1) (bank : BitVec 3) (row : BitVec 6) (h : BitVec 5) : Statement (.mpush acc bank row h) := by
  have l := lay_mx37 0x3 (by decide) acc bank row h
  refine mk (w := 0x03 + put acc 18 + put bank 15 + put row 9 + put h 4) (n := 20) rfl rfl ?_ ?_
  all_goals generalize 0x03 + put acc 18 + put bank 15 + put row 9 + put h 4 = w at l ⊢
  · obtain ⟨l0, l1, l2, l3, l4, l5, l6⟩ := l
    exact fun hh k hk => dMX (mx_slot hk rfl) (by rw [raw_mpush w l0, l1, l2, l3, l4]) (by rw [un_mpush w l0, l5]) hh
  · exact l.2.2.2.2.2.2

theorem raw_macw (w : Nat) (l0 : w % 16 = 0x6) : rawMX w = some (Instr.macw (slice 1 w 18) (slice 3 w 15) (slice 6 w 9) (slice 5 w 4)) := by
  unfold rawMX; rw [l0]; rfl
theorem un_macw (w : Nat) (l0 : w % 16 = 0x6) : unusedMX w = (holds w 19 1 0) := by
  unfold unusedMX; rw [l0]; rfl

theorem macw (acc : BitVec 1) (bank : BitVec 3) (row : BitVec 6) (h : BitVec 5) : Statement (.macw acc bank row h) := by
  have l := lay_mx37 0x6 (by decide) acc bank row h
  refine mk (w := 0x06 + put acc 18 + put bank 15 + put row 9 + put h 4) (n := 20) rfl rfl ?_ ?_
  all_goals generalize 0x06 + put acc 18 + put bank 15 + put row 9 + put h 4 = w at l ⊢
  · obtain ⟨l0, l1, l2, l3, l4, l5, l6⟩ := l
    exact fun hh k hk => dMX (mx_slot hk rfl) (by rw [raw_macw w l0, l1, l2, l3, l4]) (by rw [un_macw w l0, l5]) hh
  · exact l.2.2.2.2.2.2

theorem mshiftZero (h : BitVec 5) : Statement (.mshiftZero h) := by
  have l := lay_mx38 h
  refine mk (w := 0x04 + put h 4) (n := 20) rfl rfl ?_ ?_
  all_goals generalize 0x04 + put h 4 = w at l ⊢
  · obtain ⟨l0, l1, l2, l3, l4, l5, l6, l7⟩ := l
    exact fun hh k hk => dMX (mx_slot hk rfl) (by unfold rawMX; rw [l0]; simp [l1, l3]) (by unfold unusedMX; rw [l0]; simp [l2, l6]) hh
  · exact l.2.2.2.2.2.2.2

theorem mshiftBack (h : BitVec 5) : Statement (.mshiftBack h) := by
  have l := lay_mx39 h
  refine mk (w := 0x04 + put h 4 + 1 * 2 ^ 18) (n := 20) rfl rfl ?_ ?_
  all_goals generalize 0x04 + put h 4 + 1 * 2 ^ 18 = w at l ⊢
  · obtain ⟨l0, l1, l2, l3, l4, l5, l6, l7⟩ := l
    exact fun hh k hk => dMX (mx_slot hk rfl) (by unfold rawMX; rw [l0]; simp [l1, l3, l4]) (by unfold unusedMX; rw [l0]; simp [l2, l6]) hh
  · exact l.2.2.2.2.2.2.2

theorem mshiftFwd (h : BitVec 5) : Statement (.mshiftFwd h) := by
  have l := lay_mx40 h
  refine mk (w := 0x04 + put h 4 + 2 * 2 ^ 18) (n := 20) rfl rfl ?_ ?_
  all_goals generalize 0x04 + put h 4 + 2 * 2 ^ 18 = w at l ⊢
  · obtain ⟨l0, l1, l2, l3, l4, l5, l6, l7⟩ := l
    exact fun hh k hk => dMX (mx_slot hk rfl) (by unfold rawMX; rw [l0]; simp [l1, l3, l4]) (by unfold unusedMX; rw [l0]; simp [l2, l6]) hh
  · exact l.2.2.2.2.2.2.2

theorem raw_mdrain (w : Nat) (l0 : w % 16 = 0x5) : rawMX w = some (Instr.mdrain (slice 3 w 15) (slice 6 w 9) (slice 5 w 4)) := by
  unfold rawMX; rw [l0]; rfl
theorem un_mdrain (w : Nat) (l0 : w % 16 = 0x5) : unusedMX w = (holds w 18 2 0) := by
  unfold unusedMX; rw [l0]; rfl

theorem mdrain (bank : BitVec 3) (row : BitVec 6) (n1 : BitVec 5) : Statement (.mdrain bank row n1) := by
  have l := lay_mx41 0x5 (by decide) bank row n1
  refine mk (w := 0x05 + put bank 15 + put row 9 + put n1 4) (n := 20) rfl rfl ?_ ?_
  all_goals generalize 0x05 + put bank 15 + put row 9 + put n1 4 = w at l ⊢
  · obtain ⟨l0, l1, l2, l3, l4, l5⟩ := l
    exact fun h k hk => dMX (mx_slot hk rfl) (by rw [raw_mdrain w l0, l1, l2, l3]) (by rw [un_mdrain w l0, l4]) h
  · exact l.2.2.2.2.2

theorem raw_mzero (w : Nat) (l0 : w % 16 = 0x7) : rawMX w = some (Instr.mzero (slice 3 w 15) (slice 6 w 9) (slice 5 w 4)) := by
  unfold rawMX; rw [l0]; rfl
theorem un_mzero (w : Nat) (l0 : w % 16 = 0x7) : unusedMX w = (holds w 18 2 0) := by
  unfold unusedMX; rw [l0]; rfl

theorem mzero (bank : BitVec 3) (row : BitVec 6) (n1 : BitVec 5) : Statement (.mzero bank row n1) := by
  have l := lay_mx41 0x7 (by decide) bank row n1
  refine mk (w := 0x07 + put bank 15 + put row 9 + put n1 4) (n := 20) rfl rfl ?_ ?_
  all_goals generalize 0x07 + put bank 15 + put row 9 + put n1 4 = w at l ⊢
  · obtain ⟨l0, l1, l2, l3, l4, l5⟩ := l
    exact fun h k hk => dMX (mx_slot hk rfl) (by rw [raw_mzero w l0, l1, l2, l3]) (by rw [un_mzero w l0, l4]) h
  · exact l.2.2.2.2.2

theorem raw_sqset (w : Nat) (l0 : w % 256 = 0x1) : rawEN w = some (Instr.sqset (slice 6 w 14) (slice 6 w 8)) := by
  unfold rawEN; rw [l0]; rfl
theorem un_sqset (w : Nat) (l0 : w % 256 = 0x1) : unusedEN w = true := by
  unfold unusedEN; rw [l0]; rfl

theorem sqset (reg g : BitVec 6) : Statement (.sqset reg g) := by
  have l := lay_en42 0x1 (by decide) reg g
  refine mk (w := 0x01 + put reg 14 + put g 8) (n := 20) rfl rfl ?_ ?_
  all_goals generalize 0x01 + put reg 14 + put g 8 = w at l ⊢
  · obtain ⟨l0, l1, l2, l3⟩ := l
    exact fun h k hk => dEN (en_slot hk rfl) (by rw [raw_sqset w l0, l1, l2]) (un_sqset w l0) h
  · exact l.2.2.2

theorem raw_sqgo (w : Nat) (l0 : w % 256 = 0x2) : rawEN w = some (Instr.sqgo (slice 3 w 14)) := by
  unfold rawEN; rw [l0]; rfl
theorem un_sqgo (w : Nat) (l0 : w % 256 = 0x2) : unusedEN w = (holds w 8 6 0 && holds w 17 3 0) := by
  unfold unusedEN; rw [l0]; rfl

theorem sqgo (slot : BitVec 3) : Statement (.sqgo slot) := by
  have l := lay_en43 0x2 (by decide) slot
  refine mk (w := 0x02 + put slot 14) (n := 20) rfl rfl ?_ ?_
  all_goals generalize 0x02 + put slot 14 = w at l ⊢
  · obtain ⟨l0, l1, l2, l3, l4⟩ := l
    exact fun h k hk => dEN (en_slot hk rfl) (by rw [raw_sqgo w l0, l1]) (by rw [un_sqgo w l0, l2, l3]; rfl) h
  · exact l.2.2.2.2

theorem raw_sqbind (w : Nat) (l0 : w % 256 = 0x3) : rawEN w = some (Instr.sqbind (slice 3 w 14) (slice 6 w 8)) := by
  unfold rawEN; rw [l0]; rfl
theorem un_sqbind (w : Nat) (l0 : w % 256 = 0x3) : unusedEN w = (holds w 17 3 0) := by
  unfold unusedEN; rw [l0]; rfl

theorem sqbind (q : BitVec 3) (g : BitVec 6) : Statement (.sqbind q g) := by
  have l := lay_en44 0x3 (by decide) q g
  refine mk (w := 0x03 + put q 14 + put g 8) (n := 20) rfl rfl ?_ ?_
  all_goals generalize 0x03 + put q 14 + put g 8 = w at l ⊢
  · obtain ⟨l0, l1, l2, l3, l4⟩ := l
    exact fun h k hk => dEN (en_slot hk rfl) (by rw [raw_sqbind w l0, l1, l2]) (by rw [un_sqbind w l0, l3]) h
  · exact l.2.2.2.2

theorem raw_accpy (w : Nat) (l0 : w % 256 = 0x4) : rawEN w = some (Instr.accpy (slice 3 w 14) (slice 6 w 8)) := by
  unfold rawEN; rw [l0]; rfl
theorem un_accpy (w : Nat) (l0 : w % 256 = 0x4) : unusedEN w = (holds w 17 3 0) := by
  unfold unusedEN; rw [l0]; rfl

theorem accpy (bank : BitVec 3) (g : BitVec 6) : Statement (.accpy bank g) := by
  have l := lay_en44 0x4 (by decide) bank g
  refine mk (w := 0x04 + put bank 14 + put g 8) (n := 20) rfl rfl ?_ ?_
  all_goals generalize 0x04 + put bank 14 + put g 8 = w at l ⊢
  · obtain ⟨l0, l1, l2, l3, l4⟩ := l
    exact fun h k hk => dEN (en_slot hk rfl) (by rw [raw_accpy w l0, l1, l2]) (by rw [un_accpy w l0, l3]) h
  · exact l.2.2.2.2

theorem raw_halloc (w : Nat) (l0 : w % 256 = 0x10) : rawEN w = some (Instr.halloc (slice 5 w 14) (slice 6 w 8)) := by
  unfold rawEN; rw [l0]; rfl
theorem un_halloc (w : Nat) (l0 : w % 256 = 0x10) : unusedEN w = (holds w 19 1 0) := by
  unfold unusedEN; rw [l0]; rfl

theorem halloc (h : BitVec 5) (g : BitVec 6) : Statement (.halloc h g) := by
  have l := lay_en45 0x10 (by decide) h g
  refine mk (w := 0x10 + put h 14 + put g 8) (n := 20) rfl rfl ?_ ?_
  all_goals generalize 0x10 + put h 14 + put g 8 = w at l ⊢
  · obtain ⟨l0, l1, l2, l3, l4⟩ := l
    exact fun hh k hk => dEN (en_slot hk rfl) (by rw [raw_halloc w l0, l1, l2]) (by rw [un_halloc w l0, l3]) hh
  · exact l.2.2.2.2

theorem raw_hfree (w : Nat) (l0 : w % 256 = 0x11) : rawEN w = some (Instr.hfree (slice 5 w 14)) := by
  unfold rawEN; rw [l0]; rfl
theorem un_hfree (w : Nat) (l0 : w % 256 = 0x11) : unusedEN w = (holds w 8 6 0 && holds w 19 1 0) := by
  unfold unusedEN; rw [l0]; rfl

theorem hfree (h : BitVec 5) : Statement (.hfree h) := by
  have l := lay_en46 0x11 (by decide) h
  refine mk (w := 0x11 + put h 14) (n := 20) rfl rfl ?_ ?_
  all_goals generalize 0x11 + put h 14 = w at l ⊢
  · obtain ⟨l0, l1, l2, l3, l4⟩ := l
    exact fun hh k hk => dEN (en_slot hk rfl) (by rw [raw_hfree w l0, l1]) (by rw [un_hfree w l0, l2, l3]; rfl) hh
  · exact l.2.2.2.2

theorem raw_hopen (w : Nat) (l0 : w % 256 = 0x12) : rawEN w = some (Instr.hopen (slice 5 w 14)) := by
  unfold rawEN; rw [l0]; rfl
theorem un_hopen (w : Nat) (l0 : w % 256 = 0x12) : unusedEN w = (holds w 8 6 0 && holds w 19 1 0) := by
  unfold unusedEN; rw [l0]; rfl

theorem hopen (h : BitVec 5) : Statement (.hopen h) := by
  have l := lay_en46 0x12 (by decide) h
  refine mk (w := 0x12 + put h 14) (n := 20) rfl rfl ?_ ?_
  all_goals generalize 0x12 + put h 14 = w at l ⊢
  · obtain ⟨l0, l1, l2, l3, l4⟩ := l
    exact fun hh k hk => dEN (en_slot hk rfl) (by rw [raw_hopen w l0, l1]) (by rw [un_hopen w l0, l2, l3]; rfl) hh
  · exact l.2.2.2.2

theorem raw_hpub (w : Nat) (l0 : w % 256 = 0x13) : rawEN w = some (Instr.hpub (slice 5 w 14) (slice 6 w 8)) := by
  unfold rawEN; rw [l0]; rfl
theorem un_hpub (w : Nat) (l0 : w % 256 = 0x13) : unusedEN w = (holds w 19 1 0) := by
  unfold unusedEN; rw [l0]; rfl

theorem hpub (h : BitVec 5) (g : BitVec 6) : Statement (.hpub h g) := by
  have l := lay_en45 0x13 (by decide) h g
  refine mk (w := 0x13 + put h 14 + put g 8) (n := 20) rfl rfl ?_ ?_
  all_goals generalize 0x13 + put h 14 + put g 8 = w at l ⊢
  · obtain ⟨l0, l1, l2, l3, l4⟩ := l
    exact fun hh k hk => dEN (en_slot hk rfl) (by rw [raw_hpub w l0, l1, l2]) (by rw [un_hpub w l0, l3]) hh
  · exact l.2.2.2.2

theorem raw_hrel (w : Nat) (l0 : w % 256 = 0x14) : rawEN w = some (Instr.hrel (slice 5 w 14) (slice 6 w 8)) := by
  unfold rawEN; rw [l0]; rfl
theorem un_hrel (w : Nat) (l0 : w % 256 = 0x14) : unusedEN w = (holds w 19 1 0) := by
  unfold unusedEN; rw [l0]; rfl

theorem hrel (h : BitVec 5) (g : BitVec 6) : Statement (.hrel h g) := by
  have l := lay_en45 0x14 (by decide) h g
  refine mk (w := 0x14 + put h 14 + put g 8) (n := 20) rfl rfl ?_ ?_
  all_goals generalize 0x14 + put h 14 + put g 8 = w at l ⊢
  · obtain ⟨l0, l1, l2, l3, l4⟩ := l
    exact fun hh k hk => dEN (en_slot hk rfl) (by rw [raw_hrel w l0, l1, l2]) (by rw [un_hrel w l0, l3]) hh
  · exact l.2.2.2.2

theorem raw_hset (w : Nat) (l0 : w % 256 = 0x15) : rawEN w = some (Instr.hset (slice 5 w 14) (slice 6 w 8)) := by
  unfold rawEN; rw [l0]; rfl
theorem un_hset (w : Nat) (l0 : w % 256 = 0x15) : unusedEN w = (holds w 19 1 0) := by
  unfold unusedEN; rw [l0]; rfl

theorem hset (h : BitVec 5) (g : BitVec 6) : Statement (.hset h g) := by
  have l := lay_en45 0x15 (by decide) h g
  refine mk (w := 0x15 + put h 14 + put g 8) (n := 20) rfl rfl ?_ ?_
  all_goals generalize 0x15 + put h 14 + put g 8 = w at l ⊢
  · obtain ⟨l0, l1, l2, l3, l4⟩ := l
    exact fun hh k hk => dEN (en_slot hk rfl) (by rw [raw_hset w l0, l1, l2]) (by rw [un_hset w l0, l3]) hh
  · exact l.2.2.2.2

theorem raw_binit (w : Nat) (l0 : w % 256 = 0x16) : rawEN w = some (Instr.binit (slice 6 w 14) (slice 6 w 8)) := by
  unfold rawEN; rw [l0]; rfl
theorem un_binit (w : Nat) (l0 : w % 256 = 0x16) : unusedEN w = true := by
  unfold unusedEN; rw [l0]; rfl

theorem binit (gv ga : BitVec 6) : Statement (.binit gv ga) := by
  have l := lay_en42 0x16 (by decide) gv ga
  refine mk (w := 0x16 + put gv 14 + put ga 8) (n := 20) rfl rfl ?_ ?_
  all_goals generalize 0x16 + put gv 14 + put ga 8 = w at l ⊢
  · obtain ⟨l0, l1, l2, l3⟩ := l
    exact fun h k hk => dEN (en_slot hk rfl) (by rw [raw_binit w l0, l1, l2]) (un_binit w l0) h
  · exact l.2.2.2

theorem raw_binitRel (w : Nat) (l0 : w % 256 = 0x17) : rawEN w = some (Instr.binitRel (slice 6 w 8)) := by
  unfold rawEN; rw [l0]; rfl
theorem un_binitRel (w : Nat) (l0 : w % 256 = 0x17) : unusedEN w = (holds w 14 6 0) := by
  unfold unusedEN; rw [l0]; rfl

theorem binitRel (g : BitVec 6) : Statement (.binitRel g) := by
  have l := lay_en47 0x17 (by decide) g
  refine mk (w := 0x17 + put g 8) (n := 20) rfl rfl ?_ ?_
  all_goals generalize 0x17 + put g 8 = w at l ⊢
  · obtain ⟨l0, l1, l2, l3⟩ := l
    exact fun h k hk => dEN (en_slot hk rfl) (by rw [raw_binitRel w l0, l1]) (by rw [un_binitRel w l0, l2]) h
  · exact l.2.2.2

theorem raw_barr (w : Nat) (l0 : w % 256 = 0x18) : rawEN w = some (Instr.barr (slice 6 w 8)) := by
  unfold rawEN; rw [l0]; rfl
theorem un_barr (w : Nat) (l0 : w % 256 = 0x18) : unusedEN w = (holds w 14 6 0) := by
  unfold unusedEN; rw [l0]; rfl

theorem barr (g : BitVec 6) : Statement (.barr g) := by
  have l := lay_en47 0x18 (by decide) g
  refine mk (w := 0x18 + put g 8) (n := 20) rfl rfl ?_ ?_
  all_goals generalize 0x18 + put g 8 = w at l ⊢
  · obtain ⟨l0, l1, l2, l3⟩ := l
    exact fun h k hk => dEN (en_slot hk rfl) (by rw [raw_barr w l0, l1]) (by rw [un_barr w l0, l2]) h
  · exact l.2.2.2

theorem raw_drn (w : Nat) (l0 : w % 256 = 0x19) : rawEN w = some Instr.drn := by
  unfold rawEN; rw [l0]; rfl
theorem un_drn (w : Nat) (l0 : w % 256 = 0x19) : unusedEN w = (holds w 8 12 0) := by
  unfold unusedEN; rw [l0]; rfl

theorem drn : Statement .drn := by
  have l := lay_en48 0x19 (by decide)
  refine mk (w := 0x19) (n := 20) rfl rfl ?_ ?_
  · obtain ⟨l0, l1, l2⟩ := l
    exact fun h k hk => dEN (en_slot hk rfl) (by rw [raw_drn 0x19 l0]) (by rw [un_drn 0x19 l0, l1]) h
  · exact l.2.2

theorem raw_fork (w : Nat) (l0 : w % 256 = 0x20) : rawEN w = some (Instr.fork (slice 4 w 14) (slice 6 w 8)) := by
  unfold rawEN; rw [l0]; rfl
theorem un_fork (w : Nat) (l0 : w % 256 = 0x20) : unusedEN w = (holds w 18 2 0) := by
  unfold unusedEN; rw [l0]; rfl

theorem fork (pd : BitVec 4) (g : BitVec 6) : Statement (.fork pd g) := by
  have l := lay_en49 0x20 (by decide) pd g
  refine mk (w := 0x20 + put pd 14 + put g 8) (n := 20) rfl rfl ?_ ?_
  all_goals generalize 0x20 + put pd 14 + put g 8 = w at l ⊢
  · obtain ⟨l0, l1, l2, l3, l4⟩ := l
    exact fun h k hk => dEN (en_slot hk rfl) (by rw [raw_fork w l0, l1, l2]) (by rw [un_fork w l0, l3]) h
  · exact l.2.2.2.2

theorem raw_join (w : Nat) (l0 : w % 256 = 0x21) : rawEN w = some (Instr.join (slice 6 w 14) (slice 6 w 8)) := by
  unfold rawEN; rw [l0]; rfl
theorem un_join (w : Nat) (l0 : w % 256 = 0x21) : unusedEN w = true := by
  unfold unusedEN; rw [l0]; rfl

theorem join (gr gb : BitVec 6) : Statement (.join gr gb) := by
  have l := lay_en42 0x21 (by decide) gr gb
  refine mk (w := 0x21 + put gr 14 + put gb 8) (n := 20) rfl rfl ?_ ?_
  all_goals generalize 0x21 + put gr 14 + put gb 8 = w at l ⊢
  · obtain ⟨l0, l1, l2, l3⟩ := l
    exact fun h k hk => dEN (en_slot hk rfl) (by rw [raw_join w l0, l1, l2]) (un_join w l0) h
  · exact l.2.2.2

theorem raw_enq (w : Nat) (l0 : w % 256 = 0x22) : rawEN w = some (Instr.enq (slice 4 w 14) (slice 6 w 8)) := by
  unfold rawEN; rw [l0]; rfl
theorem un_enq (w : Nat) (l0 : w % 256 = 0x22) : unusedEN w = (holds w 18 2 0) := by
  unfold unusedEN; rw [l0]; rfl

theorem enq (queue : BitVec 4) (g : BitVec 6) : Statement (.enq queue g) := by
  have l := lay_en49 0x22 (by decide) queue g
  refine mk (w := 0x22 + put queue 14 + put g 8) (n := 20) rfl rfl ?_ ?_
  all_goals generalize 0x22 + put queue 14 + put g 8 = w at l ⊢
  · obtain ⟨l0, l1, l2, l3, l4⟩ := l
    exact fun h k hk => dEN (en_slot hk rfl) (by rw [raw_enq w l0, l1, l2]) (by rw [un_enq w l0, l3]) h
  · exact l.2.2.2.2

theorem raw_nibset (w : Nat) (l0 : w % 256 = 0x30) : rawEN w = some (Instr.nibset (slice 6 w 8)) := by
  unfold rawEN; rw [l0]; rfl
theorem un_nibset (w : Nat) (l0 : w % 256 = 0x30) : unusedEN w = (holds w 14 6 0) := by
  unfold unusedEN; rw [l0]; rfl

theorem nibset (g : BitVec 6) : Statement (.nibset g) := by
  have l := lay_en47 0x30 (by decide) g
  refine mk (w := 0x30 + put g 8) (n := 20) rfl rfl ?_ ?_
  all_goals generalize 0x30 + put g 8 = w at l ⊢
  · obtain ⟨l0, l1, l2, l3⟩ := l
    exact fun h k hk => dEN (en_slot hk rfl) (by rw [raw_nibset w l0, l1]) (by rw [un_nibset w l0, l2]) h
  · exact l.2.2.2

theorem raw_nibsetSt (w : Nat) (l0 : w % 256 = 0x31) : rawEN w = some (Instr.nibsetSt (slice 6 w 8)) := by
  unfold rawEN; rw [l0]; rfl
theorem un_nibsetSt (w : Nat) (l0 : w % 256 = 0x31) : unusedEN w = (holds w 14 6 0) := by
  unfold unusedEN; rw [l0]; rfl

theorem nibsetSt (g : BitVec 6) : Statement (.nibsetSt g) := by
  have l := lay_en47 0x31 (by decide) g
  refine mk (w := 0x31 + put g 8) (n := 20) rfl rfl ?_ ?_
  all_goals generalize 0x31 + put g 8 = w at l ⊢
  · obtain ⟨l0, l1, l2, l3⟩ := l
    exact fun h k hk => dEN (en_slot hk rfl) (by rw [raw_nibsetSt w l0, l1]) (by rw [un_nibsetSt w l0, l2]) h
  · exact l.2.2.2

theorem raw_cbld (w : Nat) (l0 : w % 256 = 0x32) : rawEN w = some (Instr.cbld (slice 5 w 14) (slice 6 w 8)) := by
  unfold rawEN; rw [l0]; rfl
theorem un_cbld (w : Nat) (l0 : w % 256 = 0x32) : unusedEN w = (holds w 19 1 0) := by
  unfold unusedEN; rw [l0]; rfl

theorem cbld (h : BitVec 5) (g : BitVec 6) : Statement (.cbld h g) := by
  have l := lay_en45 0x32 (by decide) h g
  refine mk (w := 0x32 + put h 14 + put g 8) (n := 20) rfl rfl ?_ ?_
  all_goals generalize 0x32 + put h 14 + put g 8 = w at l ⊢
  · obtain ⟨l0, l1, l2, l3, l4⟩ := l
    exact fun hh k hk => dEN (en_slot hk rfl) (by rw [raw_cbld w l0, l1, l2]) (by rw [un_cbld w l0, l3]) hh
  · exact l.2.2.2.2

theorem raw_trdef (w : Nat) (l0 : w % 256 = 0x33) : rawEN w = some (Instr.trdef (slice 5 w 14) (slice 3 w 8)) := by
  unfold rawEN; rw [l0]; rfl
theorem un_trdef (w : Nat) (l0 : w % 256 = 0x33) : unusedEN w = (holds w 11 3 0 && holds w 19 1 0) := by
  unfold unusedEN; rw [l0]; rfl

theorem trdef (h : BitVec 5) (slot : BitVec 3) : Statement (.trdef h slot) := by
  have l := lay_en50 0x33 (by decide) h slot
  refine mk (w := 0x33 + put h 14 + put slot 8) (n := 20) rfl rfl ?_ ?_
  all_goals generalize 0x33 + put h 14 + put slot 8 = w at l ⊢
  · obtain ⟨l0, l1, l2, l3, l4, l5⟩ := l
    exact fun hh k hk => dEN (en_slot hk rfl) (by rw [raw_trdef w l0, l1, l2]) (by rw [un_trdef w l0, l3, l4]; rfl) hh
  · exact l.2.2.2.2.2

theorem raw_trenc (w : Nat) (l0 : w % 256 = 0x34) : rawEN w = some (Instr.trenc (slice 5 w 14) (slice 6 w 8)) := by
  unfold rawEN; rw [l0]; rfl
theorem un_trenc (w : Nat) (l0 : w % 256 = 0x34) : unusedEN w = (holds w 19 1 0) := by
  unfold unusedEN; rw [l0]; rfl

theorem trenc (h : BitVec 5) (g : BitVec 6) : Statement (.trenc h g) := by
  have l := lay_en45 0x34 (by decide) h g
  refine mk (w := 0x34 + put h 14 + put g 8) (n := 20) rfl rfl ?_ ?_
  all_goals generalize 0x34 + put h 14 + put g 8 = w at l ⊢
  · obtain ⟨l0, l1, l2, l3, l4⟩ := l
    exact fun hh k hk => dEN (en_slot hk rfl) (by rw [raw_trenc w l0, l1, l2]) (by rw [un_trenc w l0, l3]) hh
  · exact l.2.2.2.2

theorem raw_twupd (w : Nat) (l0 : w % 256 = 0x35) : rawEN w = some (Instr.twupd (slice 5 w 14) (slice 6 w 8)) := by
  unfold rawEN; rw [l0]; rfl
theorem un_twupd (w : Nat) (l0 : w % 256 = 0x35) : unusedEN w = (holds w 19 1 0) := by
  unfold unusedEN; rw [l0]; rfl

theorem twupd (h : BitVec 5) (g : BitVec 6) : Statement (.twupd h g) := by
  have l := lay_en45 0x35 (by decide) h g
  refine mk (w := 0x35 + put h 14 + put g 8) (n := 20) rfl rfl ?_ ?_
  all_goals generalize 0x35 + put h 14 + put g 8 = w at l ⊢
  · obtain ⟨l0, l1, l2, l3, l4⟩ := l
    exact fun hh k hk => dEN (en_slot hk rfl) (by rw [raw_twupd w l0, l1, l2]) (by rw [un_twupd w l0, l3]) hh
  · exact l.2.2.2.2

theorem raw_xld (w : Nat) (l0 : w % 256 = 0x40) : rawEN w = some (Instr.xld (slice 6 w 14) (slice 6 w 8)) := by
  unfold rawEN; rw [l0]; rfl
theorem un_xld (w : Nat) (l0 : w % 256 = 0x40) : unusedEN w = true := by
  unfold unusedEN; rw [l0]; rfl

theorem xld (gb g : BitVec 6) : Statement (.xld gb g) := by
  have l := lay_en42 0x40 (by decide) gb g
  refine mk (w := 0x40 + put gb 14 + put g 8) (n := 20) rfl rfl ?_ ?_
  all_goals generalize 0x40 + put gb 14 + put g 8 = w at l ⊢
  · obtain ⟨l0, l1, l2, l3⟩ := l
    exact fun h k hk => dEN (en_slot hk rfl) (by rw [raw_xld w l0, l1, l2]) (un_xld w l0) h
  · exact l.2.2.2

theorem raw_xinv (w : Nat) (l0 : w % 256 = 0x41) : rawEN w = some (Instr.xinv (slice 6 w 14) (slice 6 w 8)) := by
  unfold rawEN; rw [l0]; rfl
theorem un_xinv (w : Nat) (l0 : w % 256 = 0x41) : unusedEN w = true := by
  unfold unusedEN; rw [l0]; rfl

theorem xinv (gb g : BitVec 6) : Statement (.xinv gb g) := by
  have l := lay_en42 0x41 (by decide) gb g
  refine mk (w := 0x41 + put gb 14 + put g 8) (n := 20) rfl rfl ?_ ?_
  all_goals generalize 0x41 + put gb 14 + put g 8 = w at l ⊢
  · obtain ⟨l0, l1, l2, l3⟩ := l
    exact fun h k hk => dEN (en_slot hk rfl) (by rw [raw_xinv w l0, l1, l2]) (un_xinv w l0) h
  · exact l.2.2.2

theorem raw_kvg (w : Nat) (l0 : w % 256 = 0x42) : rawEN w = some (Instr.kvg (slice 5 w 14) (slice 6 w 8)) := by
  unfold rawEN; rw [l0]; rfl
theorem un_kvg (w : Nat) (l0 : w % 256 = 0x42) : unusedEN w = (holds w 19 1 0) := by
  unfold unusedEN; rw [l0]; rfl

theorem kvg (h : BitVec 5) (g : BitVec 6) : Statement (.kvg h g) := by
  have l := lay_en45 0x42 (by decide) h g
  refine mk (w := 0x42 + put h 14 + put g 8) (n := 20) rfl rfl ?_ ?_
  all_goals generalize 0x42 + put h 14 + put g 8 = w at l ⊢
  · obtain ⟨l0, l1, l2, l3, l4⟩ := l
    exact fun hh k hk => dEN (en_slot hk rfl) (by rw [raw_kvg w l0, l1, l2]) (by rw [un_kvg w l0, l3]) hh
  · exact l.2.2.2.2

theorem raw_splc (w : Nat) (l0 : w % 256 = 0x43) : rawEN w = some (Instr.splc (slice 5 w 14) (slice 6 w 8)) := by
  unfold rawEN; rw [l0]; rfl
theorem un_splc (w : Nat) (l0 : w % 256 = 0x43) : unusedEN w = (holds w 19 1 0) := by
  unfold unusedEN; rw [l0]; rfl

theorem splc (h : BitVec 5) (g : BitVec 6) : Statement (.splc h g) := by
  have l := lay_en45 0x43 (by decide) h g
  refine mk (w := 0x43 + put h 14 + put g 8) (n := 20) rfl rfl ?_ ?_
  all_goals generalize 0x43 + put h 14 + put g 8 = w at l ⊢
  · obtain ⟨l0, l1, l2, l3, l4⟩ := l
    exact fun hh k hk => dEN (en_slot hk rfl) (by rw [raw_splc w l0, l1, l2]) (by rw [un_splc w l0, l3]) hh
  · exact l.2.2.2.2

theorem raw_rprset (w : Nat) (l0 : w % 256 = 0x44) : rawEN w = some (Instr.rprset (slice 6 w 8)) := by
  unfold rawEN; rw [l0]; rfl
theorem un_rprset (w : Nat) (l0 : w % 256 = 0x44) : unusedEN w = (holds w 14 6 0) := by
  unfold unusedEN; rw [l0]; rfl

theorem rprset (g : BitVec 6) : Statement (.rprset g) := by
  have l := lay_en47 0x44 (by decide) g
  refine mk (w := 0x44 + put g 8) (n := 20) rfl rfl ?_ ?_
  all_goals generalize 0x44 + put g 8 = w at l ⊢
  · obtain ⟨l0, l1, l2, l3⟩ := l
    exact fun h k hk => dEN (en_slot hk rfl) (by rw [raw_rprset w l0, l1]) (by rw [un_rprset w l0, l2]) h
  · exact l.2.2.2

theorem raw_rpr (w : Nat) (l0 : w % 256 = 0x45) : rawEN w = some (Instr.rpr (slice 5 w 14) (slice 6 w 8)) := by
  unfold rawEN; rw [l0]; rfl
theorem un_rpr (w : Nat) (l0 : w % 256 = 0x45) : unusedEN w = (holds w 19 1 0) := by
  unfold unusedEN; rw [l0]; rfl

theorem rpr (h : BitVec 5) (g : BitVec 6) : Statement (.rpr h g) := by
  have l := lay_en45 0x45 (by decide) h g
  refine mk (w := 0x45 + put h 14 + put g 8) (n := 20) rfl rfl ?_ ?_
  all_goals generalize 0x45 + put h 14 + put g 8 = w at l ⊢
  · obtain ⟨l0, l1, l2, l3, l4⟩ := l
    exact fun hh k hk => dEN (en_slot hk rfl) (by rw [raw_rpr w l0, l1, l2]) (by rw [un_rpr w l0, l3]) hh
  · exact l.2.2.2.2

theorem raw_rprRep (w : Nat) (l0 : w % 256 = 0x46) : rawEN w = some (Instr.rprRep (slice 6 w 14) (slice 6 w 8)) := by
  unfold rawEN; rw [l0]; rfl
theorem un_rprRep (w : Nat) (l0 : w % 256 = 0x46) : unusedEN w = true := by
  unfold unusedEN; rw [l0]; rfl

theorem rprRep (gx ga : BitVec 6) : Statement (.rprRep gx ga) := by
  have l := lay_en42 0x46 (by decide) gx ga
  refine mk (w := 0x46 + put gx 14 + put ga 8) (n := 20) rfl rfl ?_ ?_
  all_goals generalize 0x46 + put gx 14 + put ga 8 = w at l ⊢
  · obtain ⟨l0, l1, l2, l3⟩ := l
    exact fun h k hk => dEN (en_slot hk rfl) (by rw [raw_rprRep w l0, l1, l2]) (un_rprRep w l0) h
  · exact l.2.2.2

theorem raw_pxlk (w : Nat) (l0 : w % 256 = 0x47) : rawEN w = some (Instr.pxlk (slice 6 w 14) (slice 6 w 8)) := by
  unfold rawEN; rw [l0]; rfl
theorem un_pxlk (w : Nat) (l0 : w % 256 = 0x47) : unusedEN w = true := by
  unfold unusedEN; rw [l0]; rfl

theorem pxlk (gb g : BitVec 6) : Statement (.pxlk gb g) := by
  have l := lay_en42 0x47 (by decide) gb g
  refine mk (w := 0x47 + put gb 14 + put g 8) (n := 20) rfl rfl ?_ ?_
  all_goals generalize 0x47 + put gb 14 + put g 8 = w at l ⊢
  · obtain ⟨l0, l1, l2, l3⟩ := l
    exact fun h k hk => dEN (en_slot hk rfl) (by rw [raw_pxlk w l0, l1, l2]) (un_pxlk w l0) h
  · exact l.2.2.2

theorem raw_pxin (w : Nat) (l0 : w % 256 = 0x48) : rawEN w = some (Instr.pxin (slice 6 w 14) (slice 6 w 8)) := by
  unfold rawEN; rw [l0]; rfl
theorem un_pxin (w : Nat) (l0 : w % 256 = 0x48) : unusedEN w = true := by
  unfold unusedEN; rw [l0]; rfl

theorem pxin (gb g : BitVec 6) : Statement (.pxin gb g) := by
  have l := lay_en42 0x48 (by decide) gb g
  refine mk (w := 0x48 + put gb 14 + put g 8) (n := 20) rfl rfl ?_ ?_
  all_goals generalize 0x48 + put gb 14 + put g 8 = w at l ⊢
  · obtain ⟨l0, l1, l2, l3⟩ := l
    exact fun h k hk => dEN (en_slot hk rfl) (by rw [raw_pxin w l0, l1, l2]) (un_pxin w l0) h
  · exact l.2.2.2

theorem raw_pxinRm (w : Nat) (l0 : w % 256 = 0x49) : rawEN w = some (Instr.pxinRm (slice 6 w 14) (slice 6 w 8)) := by
  unfold rawEN; rw [l0]; rfl
theorem un_pxinRm (w : Nat) (l0 : w % 256 = 0x49) : unusedEN w = true := by
  unfold unusedEN; rw [l0]; rfl

theorem pxinRm (gb g : BitVec 6) : Statement (.pxinRm gb g) := by
  have l := lay_en42 0x49 (by decide) gb g
  refine mk (w := 0x49 + put gb 14 + put g 8) (n := 20) rfl rfl ?_ ?_
  all_goals generalize 0x49 + put gb 14 + put g 8 = w at l ⊢
  · obtain ⟨l0, l1, l2, l3⟩ := l
    exact fun h k hk => dEN (en_slot hk rfl) (by rw [raw_pxinRm w l0, l1, l2]) (un_pxinRm w l0) h
  · exact l.2.2.2

theorem raw_wnsel (w : Nat) (l0 : w % 256 = 0x50) : rawEN w = some (Instr.wnsel (slice 5 w 14) (slice 6 w 8)) := by
  unfold rawEN; rw [l0]; rfl
theorem un_wnsel (w : Nat) (l0 : w % 256 = 0x50) : unusedEN w = (holds w 19 1 0) := by
  unfold unusedEN; rw [l0]; rfl

theorem wnsel (h : BitVec 5) (g : BitVec 6) : Statement (.wnsel h g) := by
  have l := lay_en45 0x50 (by decide) h g
  refine mk (w := 0x50 + put h 14 + put g 8) (n := 20) rfl rfl ?_ ?_
  all_goals generalize 0x50 + put h 14 + put g 8 = w at l ⊢
  · obtain ⟨l0, l1, l2, l3, l4⟩ := l
    exact fun hh k hk => dEN (en_slot hk rfl) (by rw [raw_wnsel w l0, l1, l2]) (by rw [un_wnsel w l0, l3]) hh
  · exact l.2.2.2.2

theorem raw_fsend (w : Nat) (l0 : w % 256 = 0x60) : rawEN w = some (Instr.fsend (slice 5 w 14) (slice 6 w 8)) := by
  unfold rawEN; rw [l0]; rfl
theorem un_fsend (w : Nat) (l0 : w % 256 = 0x60) : unusedEN w = (holds w 19 1 0) := by
  unfold unusedEN; rw [l0]; rfl

theorem fsend (h : BitVec 5) (g : BitVec 6) : Statement (.fsend h g) := by
  have l := lay_en45 0x60 (by decide) h g
  refine mk (w := 0x60 + put h 14 + put g 8) (n := 20) rfl rfl ?_ ?_
  all_goals generalize 0x60 + put h 14 + put g 8 = w at l ⊢
  · obtain ⟨l0, l1, l2, l3, l4⟩ := l
    exact fun hh k hk => dEN (en_slot hk rfl) (by rw [raw_fsend w l0, l1, l2]) (by rw [un_fsend w l0, l3]) hh
  · exact l.2.2.2.2

theorem raw_frecvHandle (w : Nat) (l0 : w % 256 = 0x61) : rawEN w = some (Instr.frecvHandle (slice 5 w 14) (slice 6 w 8)) := by
  unfold rawEN; rw [l0]; rfl
theorem un_frecvHandle (w : Nat) (l0 : w % 256 = 0x61) : unusedEN w = (holds w 19 1 0) := by
  unfold unusedEN; rw [l0]; rfl

theorem frecvHandle (h : BitVec 5) (g : BitVec 6) : Statement (.frecvHandle h g) := by
  have l := lay_en45 0x61 (by decide) h g
  refine mk (w := 0x61 + put h 14 + put g 8) (n := 20) rfl rfl ?_ ?_
  all_goals generalize 0x61 + put h 14 + put g 8 = w at l ⊢
  · obtain ⟨l0, l1, l2, l3, l4⟩ := l
    exact fun hh k hk => dEN (en_slot hk rfl) (by rw [raw_frecvHandle w l0, l1, l2]) (by rw [un_frecvHandle w l0, l3]) hh
  · exact l.2.2.2.2

theorem raw_frecvStream (w : Nat) (l0 : w % 256 = 0x62) : rawEN w = some (Instr.frecvStream (slice 3 w 14) (slice 6 w 8)) := by
  unfold rawEN; rw [l0]; rfl
theorem un_frecvStream (w : Nat) (l0 : w % 256 = 0x62) : unusedEN w = (holds w 17 3 0) := by
  unfold unusedEN; rw [l0]; rfl

theorem frecvStream (q : BitVec 3) (g : BitVec 6) : Statement (.frecvStream q g) := by
  have l := lay_en44 0x62 (by decide) q g
  refine mk (w := 0x62 + put q 14 + put g 8) (n := 20) rfl rfl ?_ ?_
  all_goals generalize 0x62 + put q 14 + put g 8 = w at l ⊢
  · obtain ⟨l0, l1, l2, l3, l4⟩ := l
    exact fun h k hk => dEN (en_slot hk rfl) (by rw [raw_frecvStream w l0, l1, l2]) (by rw [un_frecvStream w l0, l3]) h
  · exact l.2.2.2.2

theorem raw_sysc (w : Nat) (l0 : w % 256 = 0xF0) : rawEN w = some (Instr.sysc (slice 6 w 14)) := by
  unfold rawEN; rw [l0]; rfl
theorem un_sysc (w : Nat) (l0 : w % 256 = 0xF0) : unusedEN w = (holds w 8 6 0) := by
  unfold unusedEN; rw [l0]; rfl

theorem sysc (n : BitVec 6) : Statement (.sysc n) := by
  have l := lay_en51 0xF0 (by decide) n
  refine mk (w := 0xF0 + put n 14) (n := 20) rfl rfl ?_ ?_
  all_goals generalize 0xF0 + put n 14 = w at l ⊢
  · obtain ⟨l0, l1, l2, l3⟩ := l
    exact fun h k hk => dEN (en_slot hk rfl) (by rw [raw_sysc w l0, l1]) (by rw [un_sysc w l0, l2]) h
  · exact l.2.2.2

theorem raw_eret (w : Nat) (l0 : w % 256 = 0xF1) : rawEN w = some Instr.eret := by
  unfold rawEN; rw [l0]; rfl
theorem un_eret (w : Nat) (l0 : w % 256 = 0xF1) : unusedEN w = (holds w 8 12 0) := by
  unfold unusedEN; rw [l0]; rfl

theorem eret : Statement .eret := by
  have l := lay_en48 0xF1 (by decide)
  refine mk (w := 0xF1) (n := 20) rfl rfl ?_ ?_
  · obtain ⟨l0, l1, l2⟩ := l
    exact fun h k hk => dEN (en_slot hk rfl) (by rw [raw_eret 0xF1 l0]) (by rw [un_eret 0xF1 l0, l1]) h
  · exact l.2.2

theorem raw_tlbi (w : Nat) (l0 : w % 256 = 0xF2) : rawEN w = some (Instr.tlbi (slice 6 w 8)) := by
  unfold rawEN; rw [l0]; rfl
theorem un_tlbi (w : Nat) (l0 : w % 256 = 0xF2) : unusedEN w = (holds w 14 6 0) := by
  unfold unusedEN; rw [l0]; rfl

theorem tlbi (g : BitVec 6) : Statement (.tlbi g) := by
  have l := lay_en47 0xF2 (by decide) g
  refine mk (w := 0xF2 + put g 8) (n := 20) rfl rfl ?_ ?_
  all_goals generalize 0xF2 + put g 8 = w at l ⊢
  · obtain ⟨l0, l1, l2, l3⟩ := l
    exact fun h k hk => dEN (en_slot hk rfl) (by rw [raw_tlbi w l0, l1]) (by rw [un_tlbi w l0, l2]) h
  · exact l.2.2.2

theorem raw_wfe (w : Nat) (l0 : w % 256 = 0xF3) : rawEN w = some Instr.wfe := by
  unfold rawEN; rw [l0]; rfl
theorem un_wfe (w : Nat) (l0 : w % 256 = 0xF3) : unusedEN w = (holds w 8 12 0) := by
  unfold unusedEN; rw [l0]; rfl

theorem wfe : Statement .wfe := by
  have l := lay_en48 0xF3 (by decide)
  refine mk (w := 0xF3) (n := 20) rfl rfl ?_ ?_
  · obtain ⟨l0, l1, l2⟩ := l
    exact fun h k hk => dEN (en_slot hk rfl) (by rw [raw_wfe 0xF3 l0]) (by rw [un_wfe 0xF3 l0, l1]) h
  · exact l.2.2

theorem sahethLinkPortTraining (port : Nat) (peer : BitVec 64) : Statement (.sahethLinkPortTraining port peer) := none rfl fun _ => rfl

theorem pageWalkComplete (die walk : Nat) : Statement (.pageWalkComplete die walk) := none rfl fun _ => rfl

end Sys2Proof.Laws.Roundtrip
end

