-- ==== Sys2Proof/Safety.lean ====
section
/-! DEFINITION. What counts as a safe run: no step stops the machine. -/

namespace Sys2Proof.Machine

/-- A step goes on: it answers a next state. -/
def Continues (s : State) : Prop := ∃ t, step s = .next t

end Sys2Proof.Machine
end

