-- ==== Sys2Proof/Certificates/Slice0/Obligations.lean ====
section
/-! DEFINITION. The statements for the provers, and the tables they are made with. A table names, instruction by instruction, what the rules of
spec/ give; a statement says that exec does it. -/

namespace Sys2Proof.Claims

open Sys2Proof.Machine

/-- The thread whose bundle is in hand. -/
def me (s : State) : Thread := s.thread s.cur.u

/-- Register g(n) of the thread in hand, g0 reading as zero. -/
def gr (s : State) (n : BitVec 6) : W64 := (me s).rg n.toNat

/-- The slot is free to act: the checks of its bundle have passed, or its own issue check passes now (R260). -/
def Clear (s : State) (check : Verdict) : Prop := s.cur.checked = true ∨ check = .ok

/-! ## Scalar slots -/

/-- What an integer operation of the S slots delivers: guard, destination, value, latency (R351, R354). -/
def scalarInt (s : State) : Instr → Option (BitVec 4 × BitVec 6 × W64 × Nat)
  | .add p d a b => some (p, d, gr s a + gr s b, 1)
  | .addi p d a imm => some (p, d, gr s a + imm.signExtend 64, 1)
  | .sub p d a b => some (p, d, gr s a - gr s b, 1)
  | .mul p d a b => some (p, d, gr s a * gr s b, 3)
  | .mulh p d a b => some (p, d, BitVec.ofInt 64 ((gr s a).toInt * (gr s b).toInt / 2 ^ 64), 3)
  | .mulhu p d a b => some (p, d, BitVec.ofNat 64 ((gr s a).toNat * (gr s b).toNat / 2 ^ 64), 3)
  | .and p d a b => some (p, d, gr s a &&& gr s b, 1)
  | .or p d a b => some (p, d, gr s a ||| gr s b, 1)
  | .xor p d a b => some (p, d, gr s a ^^^ gr s b, 1)
  | .andn p d a b => some (p, d, gr s a &&& ~~~(gr s b), 1)
  | .shl p d a b => some (p, d, gr s a <<< ((gr s b).toNat % 64), 1)
  | .shr p d a b => some (p, d, gr s a >>> ((gr s b).toNat % 64), 1)
  | .sar p d a b => some (p, d, (gr s a).sshiftRight ((gr s b).toNat % 64), 1)
  | .rotr p d a b => some (p, d, (gr s a).rotateRight ((gr s b).toNat % 64), 1)
  | .shlImm p d a n => some (p, d, gr s a <<< n.toNat, 1)
  | .shrImm p d a n => some (p, d, gr s a >>> n.toNat, 1)
  | .sarImm p d a n => some (p, d, (gr s a).sshiftRight n.toNat, 1)
  | .rotrImm p d a n => some (p, d, (gr s a).rotateRight n.toNat, 1)
  | .clz p d a => some (p, d, BitVec.ofNat 64 (clz 64 (gr s a).toNat), 1)
  | .ctz p d a => some (p, d, BitVec.ofNat 64 (ctz 64 (gr s a).toNat), 1)
  | .popc p d a => some (p, d, BitVec.ofNat 64 (popc 64 (gr s a).toNat), 1)
  | .min p d a b => some (p, d, if (gr s a).toInt < (gr s b).toInt then gr s a else gr s b, 1)
  | .max p d a b => some (p, d, if (gr s a).toInt < (gr s b).toInt then gr s b else gr s a, 1)
  | .minu p d a b => some (p, d, if (gr s a).toNat < (gr s b).toNat then gr s a else gr s b, 1)
  | .maxu p d a b => some (p, d, if (gr s a).toNat < (gr s b).toNat then gr s b else gr s a, 1)
  | .mov p d a => some (p, d, gr s a, 1)
  | .movFromA p d an => some (p, d, (me s).ra an.toNat, 1)
  | .rdsr p d sr => some (p, d, s.readSr s.cur.u sr.toNat, 1)
  | _ => none

/-- What a compare decides: guard, destination predicate, outcome (R353). -/
def scalarCmp (s : State) : Instr → Option (BitVec 4 × BitVec 4 × Bool)
  | .cmpEq p pd a b => some (p, pd, decide (gr s a = gr s b))
  | .cmpNe p pd a b => some (p, pd, decide (gr s a ≠ gr s b))
  | .cmpLt p pd a b => some (p, pd, decide ((gr s a).toInt < (gr s b).toInt))
  | .cmpGe p pd a b => some (p, pd, !decide ((gr s a).toInt < (gr s b).toInt))
  | .cmpLtu p pd a b => some (p, pd, decide ((gr s a).toNat < (gr s b).toNat))
  | .cmpGeu p pd a b => some (p, pd, !decide ((gr s a).toNat < (gr s b).toNat))
  | .cmpFeq p pd a b => some (p, pd, FV.eq (f32.val ((gr s a).toNat % 2 ^ 32)) (f32.val ((gr s b).toNat % 2 ^ 32)))
  | .cmpFlt p pd a b => some (p, pd, FV.lt (f32.val ((gr s a).toNat % 2 ^ 32)) (f32.val ((gr s b).toNat % 2 ^ 32)))
  | .cmpFle p pd a b =>
    some (p, pd, FV.lt (f32.val ((gr s a).toNat % 2 ^ 32)) (f32.val ((gr s b).toNat % 2 ^ 32)) ||
      FV.eq (f32.val ((gr s a).toNat % 2 ^ 32)) (f32.val ((gr s b).toNat % 2 ^ 32)))
  | .cmpFun p pd a b => some (p, pd, decide (f32.val ((gr s a).toNat % 2 ^ 32) = .nan) || decide (f32.val ((gr s b).toNat % 2 ^ 32) = .nan))
  | _ => none

/-- What a division delivers: guard, destination, operands, whether it is signed, value where nothing traps (R352). -/
def scalarDiv (s : State) : Instr → Option (BitVec 4 × BitVec 6 × BitVec 6 × BitVec 6 × Bool × W64)
  | .div p d a b => some (p, d, a, b, true, if gr s b = 0 then BitVec.allOnes 64 else BitVec.ofInt 64 ((gr s a).toInt.tdiv (gr s b).toInt))
  | .divu p d a b => some (p, d, a, b, false, if gr s b = 0 then BitVec.allOnes 64 else BitVec.ofNat 64 ((gr s a).toNat / (gr s b).toNat))
  | .rem p d a b => some (p, d, a, b, true, if gr s b = 0 then gr s a else BitVec.ofInt 64 ((gr s a).toInt.tmod (gr s b).toInt))
  | .remu p d a b => some (p, d, a, b, false, if gr s b = 0 then gr s a else BitVec.ofNat 64 ((gr s a).toNat % (gr s b).toNat))
  | _ => none

/-- What a scalar float operation delivers: guard, destination, pattern and flags (R356, R357). -/
def scalarFp (s : State) : Instr → Option (BitVec 4 × BitVec 6 × (Nat × Flags))
  | .fadd p d a b => some (p, d, fAdd f32 (me s).rm ((gr s a).toNat % 2 ^ 32) ((gr s b).toNat % 2 ^ 32))
  | .fmul p d a b => some (p, d, fMul f32 (me s).rm ((gr s a).toNat % 2 ^ 32) ((gr s b).toNat % 2 ^ 32))
  | .fma p d a b => some (p, d, fFma f32 (me s).rm false ((gr s a).toNat % 2 ^ 32) ((gr s b).toNat % 2 ^ 32) ((gr s d).toNat % 2 ^ 32))
  | .fcvtToF32 p d a ty sat => some (p, d, convElem ty.toNat 0 (me s).rm (sat = 1#1) ((gr s a).toNat % 2 ^ tyBits ty.toNat))
  | .fcvtFromF32 p d a ty sat =>
    let r := convElem 0 ty.toNat (me s).rm (sat = 1#1) ((gr s a).toNat % 2 ^ 32)
    some (p, d, (if tySigned ty.toNat then wrap 64 (signed (tyBits ty.toNat) r.1) else r.1, r.2))
  | .minF32 p d a b => some (p, d, (fMinMax f32 false ((gr s a).toNat % 2 ^ 32) ((gr s b).toNat % 2 ^ 32), {}))
  | .maxF32 p d a b => some (p, d, (fMinMax f32 true ((gr s a).toNat % 2 ^ 32) ((gr s b).toNat % 2 ^ 32), {}))
  | _ => none

/-- What a predicate operation delivers: guard, destination, value (R358). -/
def scalarPred (s : State) : Instr → Option (BitVec 4 × BitVec 4 × PReg)
  | .pand p d a b => some (p, d, (me s).rp a.toNat &&& (me s).rp b.toNat)
  | .por p d a b => some (p, d, (me s).rp a.toNat ||| (me s).rp b.toNat)
  | .pxor p d a b => some (p, d, (me s).rp a.toNat ^^^ (me s).rp b.toNat)
  | .pnot p d a => some (p, d, ~~~((me s).rp a.toNat))
  | _ => none

/-- The guard of a scalar operation that has one (R338). -/
def scalarGuard (s : State) (i : Instr) : Option (BitVec 4) :=
  match scalarInt s i, scalarCmp s i, scalarDiv s i, scalarFp s i, scalarPred s i with
  | some r, _, _, _, _ => some r.1
  | _, some r, _, _, _ => some r.1
  | _, _, some r, _, _ => some r.1
  | _, _, _, some r, _ => some r.1
  | _, _, _, _, some r => some r.1
  | none, none, none, none, none =>
    match i with
    | .movToA p _ _ => some p
    | .movFromQ p _ _ => some p
    | .wrsr p _ _ => some p
    | _ => none

end Sys2Proof.Claims

open Sys2Proof Sys2Proof.Machine Sys2Proof.Claims

/-- R351, R354, R359: an integer operation, a move or RDSR whose guard is true delivers its value to its g register at its latency, and does
nothing else. -/
def Obligations.ScalarIntegerResults : Prop :=
  ∀ (s : State) (i : Instr) (p : BitVec 4) (d : BitVec 6) (v : W64) (lat : Nat),
    scalarInt s i = some (p, d, v, lat) → (me s).guard p = true → exec i s = .next (s.result64 s.cur.u (.g d.toNat) v lat)

/-- R353: a compare whose guard is true delivers 128 ones or 128 zeros to its predicate at latency 1 with no flag, and does nothing else; the integer
conditions compare 64 bits, signed or unsigned, the float ones .f32 values with -0 equal to +0, and a NaN makes eq, lt and le false. -/
def Obligations.CompareResults : Prop :=
  (∀ (s : State) (i : Instr) (p pd : BitVec 4) (b : Bool), scalarCmp s i = some (p, pd, b) → (me s).guard p = true →
    exec i s = .next (s.result s.cur.u (.p pd.toNat) (BitVec.setWidth 1024 (if b then BitVec.allOnes 128 else 0#128)) (BitVec.allOnes 1024) 1 0)) ∧
  FV.eq (f32.val 0x80000000) (f32.val 0) = true ∧ FV.lt (f32.val 0x80000000) (f32.val 0) = false ∧ FV.lt (f32.val 0) (f32.val 0x80000000) = false ∧
  ∀ x, FV.eq .nan x = false ∧ FV.eq x .nan = false ∧ FV.lt .nan x = false ∧ FV.lt x .nan = false

/-- R352: a division whose guard is true delivers its quotient or remainder at latency 20, truncated toward zero, with no flag, unless FMASK.TDZ is 1 and the divisor is
zero or a signed minimum meets -1; a zero divisor gives all ones, or ga for a remainder.
R352: with TDZ set, a division by zero faults 0x16, and a signed minimum by -1 faults 0x17.
R260, R262, R270: the fault of the slot is the exception that its unit takes with that cause, its SLOTMASK bit, FADDR zero and the bundle's PC: a context stops, a control
core traps. -/
def Obligations.DivisionResults : Prop :=
  (∀ (s : State) (i : Instr) (p : BitVec 4) (d a b : BitVec 6) (sgn : Bool) (v : W64),
     scalarDiv s i = some (p, d, a, b, sgn, v) → (me s).guard p = true →
     (s.cur.checked = true ∨ (me s).tdz = false ∨
       (gr s b ≠ 0 ∧ ¬ (sgn = true ∧ gr s a = 0x8000000000000000#64 ∧ gr s b = BitVec.allOnes 64))) →
     exec i s = .next (s.result64 s.cur.u (.g d.toNat) v 20)) ∧
  (∀ (s : State) (i : Instr) (p : BitVec 4) (d a b : BitVec 6) (sgn : Bool) (v : W64),
     scalarDiv s i = some (p, d, a, b, sgn, v) → (me s).guard p = true → s.cur.checked = false → (me s).tdz = true →
     (gr s b = 0 → exec i s = .next (s.refuse (.fault 0x16#7 0))) ∧
     (sgn = true → gr s a = 0x8000000000000000#64 → gr s b = BitVec.allOnes 64 → exec i s = .next (s.refuse (.fault 0x17#7 0))) ∧
     ∀ c : Cause, c = 0x16#7 ∨ c = 0x17#7 → s.refuse (.fault c 0) = ({ s with cur := { s.cur with verdict := .fault c 0 } }).takeException s.cur.u
       { cause := c, slots := 2 ^ s.cur.slot, faddr := 0, pc := s.cur.pc, engine := none })

/-- R356, R357, R111: a scalar float operation whose guard is true delivers its pattern at latency 4 and raises its flags with it, unless one of
them is masked to trap.
Where the spec leaves a reading open, the model's own is that of log entry 28. -/
def Obligations.ScalarFloatResults : Prop :=
  ∀ (s : State) (i : Instr) (p : BitVec 4) (d : BitVec 6) (r : Nat × Flags),
    scalarFp s i = some (p, d, r) → (me s).guard p = true → Clear s (flagTrap (me s) r.2) →
    exec i s = .next (s.result s.cur.u (.g d.toNat) (BitVec.ofNat 1024 r.1) (BitVec.allOnes 1024) 4 r.2.toBits)

/-- R358: PAND, POR, PXOR and PNOT whose guard is true deliver a whole predicate at latency 1.
R354, R355, R359: SEL and LIW always act; MOV to an address register, WRSR and MOV from a stream act under their guard, the last when the
stream has an element at its head that is not poisoned. -/
def Obligations.PredicatesSelectsAndMoves : Prop :=
  (∀ (s : State) (i : Instr) (p d : BitVec 4) (v : PReg), scalarPred s i = some (p, d, v) → (me s).guard p = true →
     exec i s = .next (s.result s.cur.u (.p d.toNat) (v.setWidth 1024) (BitVec.allOnes 1024) 1 0)) ∧
  (∀ (s : State),
     (∀ p d a b, exec (.sel p d a b) s = .next (s.result64 s.cur.u (.g d.toNat) (if (me s).guard p then gr s a else gr s b) 1)) ∧
     (∀ d imm, exec (.liw 0 d imm) s = .next (s.result64 s.cur.u (.g d.toNat) (imm.signExtend 64) 1)) ∧
     (∀ d imm, exec (.liw 1 d imm) s = .next (s.result64 s.cur.u (.g d.toNat) (imm.setWidth 64) 1)) ∧
     (∀ d imm, exec (.liw 2 d imm) s = .next (s.result64 s.cur.u (.g d.toNat) (imm.setWidth 64 <<< 16) 1)) ∧
     (∀ p an a, (me s).guard p = true → exec (.movToA p an a) s = .next (s.result64 s.cur.u (.a an.toNat) (gr s a) 1)) ∧
     (∀ p sr a, (me s).guard p = true →
       (s.cur.checked = true ∨ unitIsCore s.cur.u = true ∨ sr.toNat < 0x0C ∨ 0x0F < sr.toNat ∨ swzmOk (gr s a) = true) →
       exec (.wrsr p sr a) s = .next (s.result64 s.cur.u (.sr sr.toNat) (gr s a) 1)) ∧
     (∀ p d q, (me s).guard p = true → Clear s (streamCheck s q.toNat) →
       exec (.movFromQ p d q) s = .next ((s.result64 s.cur.u (.g d.toNat) (BitVec.ofNat 64 (s.headValue q.toNat 64)) 1).popAtEnd q.toNat)))

/-- R338: a scalar operation whose guard is false has no effect at all. -/
def Obligations.ScalarGuardOff : Prop :=
  ∀ (s : State) (i : Instr) (p : BitVec 4), scalarGuard s i = some p → (me s).guard p = false → exec i s = .next s

/-! ## Encoding and decoding -/

/-- The code units l from offset 0. -/
def Sys2Proof.Claims.unitsOf (l : List Nat) (n : Nat) : UnitR := match l[n]? with | some u => .unit u | none => .wait

/-- The operations of the chain that the units l hold, slot by slot. -/
noncomputable def Sys2Proof.Claims.opsIn (l : List Nat) : Option (List (Nat × Option Instr)) :=
  match fetchChain (unitsOf l) (fun _ => none) 0 with
  | .chain c => some (chainOps c)
  | _ => none

/-- R319, R325-R333: for every well-formed instruction, the words that its encoding gives decode to it in every slot that takes it, every operand
at every value; and every word fits its slot's field. -/
def Obligations.EncodeDecode : Prop := ∀ i : Instr, Laws.Roundtrip.Statement i

/-- R319, R325, R326, R329, R330, R333: chains that the spec's listings print decode to the operations beside them: slots CT, S0, S1, AG, L0, L1,
V0, V3, MX and EN.
R325, R326, R328, R330, R332, R333, R319: operations that the opcode maps leave reserved decode to nothing in their slot, and so do WID 0b11
and the guard (!p0). -/
def Obligations.ListingWordsDecode : Prop :=
  (opsIn [0xFFFF, 0x1806, 0x0000, 0xC760, 0x0001, 0x0402, 0x0010, 0x0101, 0x0000] =
     some [(1, some (.rdsr 0 7 7)), (2, some (.addi 0 4 0 1)), (11, some (.sqset 0 1))] ∧
   opsIn [0xFFFF, 0x1011, 0x0000, 0x0008, 0x2870, 0x0000, 0x0000] =
     some [(0, some (.endTask 0)), (4, some (.stD 0 0 0 10))] ∧
   opsIn [0xFFFF, 0x100E, 0x0000, 0xE629, 0x1FFF, 0x0000, 0x0000, 0x2205, 0x0000] =
     some [(1, some (.liw 0 38 32767)), (3, some (.amset 2 2))] ∧
   opsIn [0xFFFF, 0x1033, 0x0000, 0x140C, 0x7180, 0x089E, 0x5030, 0x0000, 0x5430, 0x0010, 0x0000] =
     some [(0, some (.waitb 0 10)), (1, some (.shlImm 0 39 39 8)), (4, some (.ldD 0 0 0 20)), (5, some (.ldD 0 1 0 21))] ∧
   opsIn [0xFFFF, 0x1018, 0x0000, 0x1114, 0x2471, 0x0001, 0x0000] =
     some [(3, some (.acir 1 1 1 1)), (4, some (.stD 0 0 1 9))] ∧
   opsIn [0xFFFF, 0x1016, 0x0006, 0xCD18, 0x00D2, 0x4131, 0x0002, 0x0018, 0x0000] =
     some [(1, some (.shlImm 0 13 11 13)), (2, some (.cmpNe 0 1 9 0)), (4, some (.ldxD 0 0 0 0))] ∧
   opsIn [0xFFFF, 0x1046, 0x0000, 0x4327, 0x0006, 0x8210, 0x0150, 0x46AC, 0x0000, 0x0000] =
     some [(1, some (.movToA 0 3 25)), (2, some (.and 0 2 2 21)), (6, some (.vmovStream 0 0 1 1 2))] ∧
   opsIn [0xFFFF, 0x5200, 0x0000, 0x6E49, 0x0000, 0x0000] =
     some [(9, some (.vtrn 0 0 1 0xB 2))] ∧
   opsIn [0xFFFF, 0x1400, 0x0000, 0x0001, 0x0000] =
     some [(10, some .mldw)] ∧
   opsIn [0xFFFF, 0x1800, 0x0000, 0x8013, 0x0000] =
     some [(11, some (.hpub 2 0))] ∧
   opsIn [0xFFFF, 0x1006, 0x0000, 0x1028, 0x0000, 0x9324, 0x0471] =
     some [(1, some (.movFromQ 0 16 0)), (2, some (.sel 1 19 6 7))] ∧
   opsIn [0xFFFF, 0x1031, 0x0000, 0xFAC7, 0x6830, 0x0060, 0x6C30, 0x0070, 0x0000] =
     some [(0, some (.loop 6 125)), (4, some (.ldD 0 6 0 26)), (5, some (.ldD 0 7 0 27))]) ∧
  ((∀ w hi : Nat, 13 ≤ w % 32 → decodeSlot 0 w hi = none) ∧
   (∀ w hi : Nat, 6 ≤ w % 16 → decodeSlot 3 w hi = none) ∧
   (∀ w hi : Nat, 8 ≤ w % 16 → decodeSlot 10 w hi = none) ∧
   (decodeSlot 6 0x0201 0).isSome = true ∧ decodeSlot 6 0x0301 0 = none ∧
   decodeSlot 1 0x20000001 0 = none ∧ decodeSlot 0 0x101 0 = none)

/-! ## Steps -/

/-- R7, R91, R260: with unit u chosen to issue, no merge in its way, and its chain decoded without a fault to the one operation i in slot k, no
named stream empty, no comparison due and no twin's turn before its own (R279): where i's own checks pass, the step runs i's effect on what the bundle sees (R120), ends the bundle
(R117, R123, R135, R343) and settles the queues it fed; where i's check faults, the step takes i's fault with the state otherwise as it was, but that an
uncorrectable line that the slot met is recorded (R31); where
it holds, the unit waits. R277: in the flagged cycle of a tile that a replay has exhausted nothing commits: the unit stops with REPLAY_EXHAUSTED.
Where the spec leaves a reading open, the model's own is that of log entries 20, 24 and 54. -/
def Obligations.StepIssuesBundle : Prop :=
  ∀ (s r a : State) (u : UnitId) (rest : List UnitId) (c : Chain) (k : Nat) (i : Instr),
    s.toIssue = u :: rest → r = { s with toIssue := rest } →
    r.chainAt u (r.thread u).pc = .chain c → chainOps c = [(k, some i)] →
    decodeFault (r.seen u) u (r.thread u).pc c (chainOps c) = none → r.blocked u c.present (banksOf (chainOps c)) = false →
    ∀ q, q = (r.take u (r.thread u).pc c) → emptyStream (q.seen u) u [(k, i)] = none → compareHold (q.seen u) u [(k, i)] = none →
    (q.seen u).turnWaits u = false → exec i ((q.seen u).atSlot k false) = .next a →
    (a.cur.verdict = .none ∨ a.cur.verdict = .ok → q.exhausted u = false → ∀ t, exec i ((q.seen u).atSlot k true) = .next t →
      step s = .next (t.finish.settled u)) ∧
    (a.cur.verdict = .none ∨ a.cur.verdict = .ok → q.exhausted u = true →
      step s = .next (q.takeFault u (r.thread u).pc { cause := 0x70#7, slots := 0, faddr := 0 })) ∧
    (∀ x f, a.cur.verdict = .fault x f → step s = .next ((q.unitMet u x f.toNat).takeFault u (r.thread u).pc { cause := x, slots := 2 ^ k, faddr := f })) ∧
    (∀ h, a.cur.verdict = .held h → step s = .next (q.waitUnit u h))

/-- R7 and log entry 20: with no unit chosen to issue, a step runs the next device event of the schedule, the oldest; an agenda entry that is no device
event stops the machine by name; with an empty schedule a new cycle begins.
R22: a G3 cause that stands on the schedule behind a state command is recorded before it. R10: a device that is held in reset answers nothing. -/
def Obligations.StepRunsDeviceEvent : Prop :=
  ∀ (s : State), s.toIssue = [] →
    (∀ i rest, s.agenda = i :: rest → (stateCommand i = false ∨ ∀ g, g ∈ rest → recordsG3 g = false) → i.wellFormed = true → isSlotOp i = false →
      (s.held = false → step s = exec i { s with agenda := rest }) ∧
      (∀ e, i = .powerFault e → step s = exec i { s with agenda := rest }) ∧
      (s.held = true → (∀ e, i ≠ .powerFault e) → step s = .next { s with agenda := rest })) ∧
    (∀ i a g b, s.agenda = i :: (a ++ g :: b) → stateCommand i = true → (∀ x, x ∈ a → recordsG3 x = false) → recordsG3 g = true → s.held = false →
      g.wellFormed = true → step s = exec g { s with agenda := i :: (a ++ b) }) ∧
    (∀ i rest, s.agenda = i :: rest → stateCommand i = false → (i.wellFormed = false ∨ isSlotOp i = true) → step s = .fault .noSuchUnit) ∧
    (s.agenda = [] → ∃ t, step s = .next t ∧ t.cycle = s.cycle + 1 ∧ t.agenda = s.dueSteps (s.cycle + 1) ∧
      t = { s with cycle := t.cycle, agenda := t.agenda })

/-- R260: a bundle whose decode faults commits nothing: the step takes the fault with the state otherwise as it was.
R31: a bundle whose fetch fails commits nothing either, and an uncorrectable line that the fetch has met is recorded.
Where the spec leaves a reading open, the model's own is that of log entries 23 and 24. -/
def Obligations.DecodeFaultCommitsNothing : Prop :=
  ∀ (s r : State) (u : UnitId) (rest : List UnitId), s.toIssue = u :: rest → r = { s with toIssue := rest } →
    (∀ (c : Chain) (f : BFault), r.chainAt u (r.thread u).pc = .chain c →
      decodeFault (r.seen u) u (r.thread u).pc c (chainOps c) = some f → r.blocked u c.present (banksOf (chainOps c)) = false →
      step s = .next (r.takeException u
        { cause := f.cause, slots := f.slots, faddr := f.faddr, pc := (r.thread u).pc, engine := none, through := r.throughAt u (r.thread u).pc })) ∧
    (∀ (c : Cause) (a : Nat) (q : State), r.chainAt u (r.thread u).pc = .fault c a → q = r.unitMet u c a →
      step s = .next (q.takeException u
        { cause := c, slots := 0, faddr := BitVec.ofNat 64 a, pc := (r.thread u).pc, engine := none, through := q.throughAt u (r.thread u).pc }))

/-! ## Results -/

/-- R109, R119, R120, R338: a result adds one pending entry to its own unit's thread, due its latency after the bundle's context cycle, and changes
nothing else of the whole state: no other field of the context or of its tile, no other context, tile or core, and no memory. -/
def Obligations.ResultOnlyPends : Prop :=
  ∀ (s : State) (d : Dest) (v mask : VReg) (lat : Nat) (f : BitVec 6),
    (∀ t c, c < 2 → ∃ y, y = s.ctx t c ∧
      (s.result (.ctx t c) d v mask lat f).ctx t c =
        { y with x := { y.x with pend := y.x.pend ++ [{ dest := d, value := v, mask := mask, due := y.x.ccycle + 1 + lat, flags := f }] } } ∧
      (∀ c', c' < 2 → c' ≠ c → (s.result (.ctx t c) d v mask lat f).ctx t c' = s.ctx t c')) ∧
    (∀ k, ∃ y, y = s.core k ∧
      (s.result (.core k) d v mask lat f).core k =
        { y with x := { y.x with pend := y.x.pend ++ [{ dest := d, value := v, mask := mask, due := y.x.ccycle + 1 + lat, flags := f }] } }) ∧
    (∀ u, s.result u d v mask lat f =
      s.modThread u (fun x => { x with pend := x.pend ++ [{ dest := d, value := v, mask := mask, due := x.ccycle + 1 + lat, flags := f }] })) ∧
    (∀ t c, (∃ l, s.result (.ctx t c) d v mask lat f = { s with tiles := l }) ∧
      (∀ n, n ≠ t → (s.result (.ctx t c) d v mask lat f).tile n = s.tile n) ∧
      ∃ y0 y1, (s.result (.ctx t c) d v mask lat f).tile t = { s.tile t with c0 := y0, c1 := y1 }) ∧
    (∀ k, (∃ l, s.result (.core k) d v mask lat f = { s with cores := l }) ∧
      ∀ n, n ≠ k → (s.result (.core k) d v mask lat f).core n = s.core n)

/-- The flags that some results raise (R111). -/
def Sys2Proof.Claims.flagsOf (l : List Pend) : W64 := l.foldl (fun (a : W64) (p : Pend) => a ||| (p.flags.setWidth 64 <<< 8)) 0#64

/-- R120, R109: landing at context cycle m takes the results due by m from the pending list, in their order, and leaves the rest pending; of several that write one
register, g(n), n not 0, a(n), am(n), lc0 or lc1, the last is what a reader then finds, and of a vector register or a predicate, p0 apart, each bit is
the last one's that writes it; a register that no due result writes keeps its value; g0 reads zero and p0 all ones whatever lands.
R111: the flags of all of them are ORed into FPCSR, after a WRSR of FPCSR that lands with them.
R110, R269, R359: what RDSR reads of each special register, and what a WRSR that lands writes: a read-only register or field ignores it, NANSTAT clears the bits
written as 1 but those that the hardware writes in the same cycle (R173), SWZM takes its sixteen entries (R126), TVEC keeps bit 0 zero, and IPISEND pends CC_IPI on
the core it names.
Where the spec leaves a reading open, the model's own is that of log entry 11. -/
def Obligations.LandingWritesRegisters : Prop :=
  (∀ (s t : State) (u : UnitId) (m : Nat) (due : List Pend), due = (s.thread u).pend.filter (fun p => decide (p.due ≤ m)) → t = s.land u m →
     (t.thread u).pend = (s.thread u).pend.filter (fun p => decide (m < p.due)) ∧
     (∀ l p l', due = l ++ p :: l' →
       (∀ n, n ≠ 0 → p.dest = .g n → (∀ e ∈ l', e.dest ≠ .g n) → (t.thread u).rg n = p.value.setWidth 64) ∧
       (∀ n, p.dest = .a n → (∀ e ∈ l', e.dest ≠ .a n) → (t.thread u).ra n = p.value.setWidth 64) ∧
       (∀ n, p.dest = .am n → (∀ e ∈ l', e.dest ≠ .am n) → (t.thread u).ram n = p.value.setWidth 64) ∧
       (∀ n i, p.dest = .v n → p.mask.getLsbD i = true → (∀ e ∈ l', e.dest = .v n → e.mask.getLsbD i = false) →
         ((t.thread u).rv n).getLsbD i = p.value.getLsbD i) ∧
       (∀ n i, n ≠ 0 → i < 128 → p.dest = .p n → p.mask.getLsbD i = true → (∀ e ∈ l', e.dest = .p n → e.mask.getLsbD i = false) →
         ((t.thread u).rp n).getLsbD i = p.value.getLsbD i) ∧
       (p.dest = .lc 0 → (∀ e ∈ l', e.dest ≠ .lc 0 ∧ e.dest ≠ .sr 5) → (t.thread u).lc0 = p.value.setWidth 32) ∧
       (p.dest = .lc 1 → (∀ e ∈ l', (∀ n, n ≠ 0 → e.dest ≠ .lc n) ∧ e.dest ≠ .sr 6) → (t.thread u).lc1 = p.value.setWidth 32) ∧
       (p.dest = .sr 0 → (∀ e ∈ l', e.dest ≠ .sr 0) → (t.thread u).fpcsr = (p.value.setWidth 64 &&& 0x3F03#64) ||| flagsOf due)) ∧
     (∀ n, (∀ e ∈ due, e.dest ≠ .g n) → (t.thread u).rg n = (s.thread u).rg n) ∧
     (∀ n, (∀ e ∈ due, e.dest ≠ .a n) → (t.thread u).ra n = (s.thread u).ra n) ∧
     (∀ n, (∀ e ∈ due, e.dest ≠ .am n) → (t.thread u).ram n = (s.thread u).ram n) ∧
     (∀ n i, (∀ e ∈ due, e.dest = .v n → e.mask.getLsbD i = false) → ((t.thread u).rv n).getLsbD i = ((s.thread u).rv n).getLsbD i) ∧
     (∀ n i, (∀ e ∈ due, e.dest = .p n → e.mask.getLsbD i = false) → ((t.thread u).rp n).getLsbD i = ((s.thread u).rp n).getLsbD i) ∧
     ((∀ e ∈ due, e.dest ≠ .lc 0 ∧ e.dest ≠ .sr 5) → (t.thread u).lc0 = (s.thread u).lc0) ∧
     ((∀ e ∈ due, (∀ n, n ≠ 0 → e.dest ≠ .lc n) ∧ e.dest ≠ .sr 6) → (t.thread u).lc1 = (s.thread u).lc1) ∧
     ((∀ e ∈ due, e.dest ≠ .sr 0) → (t.thread u).fpcsr = (s.thread u).fpcsr ||| flagsOf due) ∧
     (t.thread u).rg 0 = 0 ∧ (t.thread u).rp 0 = BitVec.allOnes 128 ∧
     (∀ p n, due = [p] → p.dest = .sr n → t =
       ((s.modThread u (fun x => { x with pend := x.pend.filter (fun p => decide (m < p.due)) })).landSr u n (p.value.setWidth 64)).modThread u
         (fun x => { x with fpcsr := x.fpcsr ||| (p.flags.setWidth 64 <<< 8) }))) ∧
  (∀ (s : State) (u : UnitId) (x : Thread), x = s.thread u →
     s.readSr u 0 = x.fpcsr ∧ s.readSr u 2 = x.fmask ∧ s.readSr u 3 = BitVec.ofNat 64 x.ccycle ∧ s.readSr u 5 = x.lc0.setWidth 64 ∧
     s.readSr u 6 = x.lc1.setWidth 64 ∧ s.readSr u 0x15 = 0 ∧
     (∀ t c, u = .ctx t c →
       (∀ k, (s.ctx t c).task = some k →
         s.readSr u 1 = BitVec.ofNat 64 (16 * k.bprio.toNat + 4 * k.redundant.toNat + 2 * k.array.toNat + x.check.toNat)) ∧
       s.readSr u 4 = BitVec.ofNat 64 (s.cycle - (s.tile t).bindCycle) ∧ s.readSr u 7 = BitVec.ofNat 64 (t + 4096 * c) ∧
       s.readSr u 8 = (s.tile t).nanstat ∧
       (∀ j k, j < 4 → k < 16 → (s.readSr u (0x0C + j)).toNat / 16 ^ k % 16 = (mget 6#3 (s.tile t).swz (16 * j + k)).toNat)) ∧
     (∀ k y, u = .core k → y = s.core k →
       s.readSr u 0x10 = y.tvec ∧ s.readSr u 0x11 = y.tepc ∧ s.readSr u 0x12 = y.tcause ∧ s.readSr u 0x13 = y.tfaddr ∧
       s.readSr u 0x14 = BitVec.ofNat 64 (8 * y.dslot.toNat + 4 * y.pie.toNat + 2 * y.ie.toNat + y.pmode.toNat) ∧
       s.readSr u 0x16 = y.ccmp ∧ s.readSr u 0x17 = y.tbtgt ∧ s.readSr u 0x18 = y.ccten.setWidth 64)) ∧
  (∀ (s : State) (u : UnitId) (v : W64),
     (∀ n, n = 3 ∨ n = 4 ∨ n = 7 → s.landSr u n v = s) ∧
     s.landSr u 0 v = s.modThread u (fun x => { x with fpcsr := v &&& 0x3F03#64 }) ∧
     s.landSr u 1 v = s.modThread u (fun x => { x with check := v.getLsbD 0 }) ∧
     s.landSr u 2 v = s.modThread u (fun x => { x with fmask := v &&& 0x7F#64 }) ∧
     s.landSr u 5 v = s.modThread u (fun x => { x with lc0 := v.setWidth 32 }) ∧
     s.landSr u 6 v = s.modThread u (fun x => { x with lc1 := v.setWidth 32 }) ∧
     (∀ t c, u = .ctx t c →
       ((s.tile t).nanAt ≠ s.cycle → s.landSr u 8 v = s.modTile t (fun x => { x with nanstat := x.nanstat &&& ~~~v })) ∧
       ((s.tile t).nanAt = s.cycle → s.landSr u 8 v = s.modTile t (fun x => { x with nanstat := x.nanstat &&& ~~~(v &&& ~~~x.nanSet) })) ∧
       (∀ j, j < 4 → ∃ z, s.landSr u (0x0C + j) v = s.modTile t (fun x => { x with swz := z }) ∧
         (∀ k, k < 16 → mget 6#3 z (16 * j + k) = BitVec.ofNat 3 (v.toNat / 16 ^ k)) ∧
         (∀ i, i / 16 ≠ j → mget 6#3 z i = mget 6#3 (s.tile t).swz i))) ∧
     (∀ k, u = .core k →
       s.landSr u 0x10 v = s.modCore k (fun y => { y with tvec := v &&& ~~~1#64 }) ∧
       s.landSr u 0x11 v = s.modCore k (fun y => { y with tepc := v }) ∧
       s.landSr u 0x12 v = s.modCore k (fun y => { y with tcause := v &&& 0x1FFFFF#64 }) ∧
       s.landSr u 0x13 v = s.modCore k (fun y => { y with tfaddr := v }) ∧
       (∃ y, y = s.core k ∧ s.landSr u 0x14 v = s.modCore k (fun _ =>
         { y with dslot := BitVec.ofNat 2 (v.toNat / 8), pie := v.getLsbD 2, ie := v.getLsbD 1, pmode := v.getLsbD 0 })) ∧
       (s.landSr u 0x14 v).readSr u 0x14 = v &&& 0x1F#64 ∧
       0x6E#7 ∈ ((s.landSr u 0x15 v).core (v.toNat % 32)).irq ∧
       (∃ q, s.landSr u 0x15 v = s.modCore (v.toNat % 32) (fun y => { y with irq := q })) ∧
       (s.landSr u 0x16 v).readSr u 0x16 = v ∧ (s.landSr u 0x17 v).readSr u 0x17 = v ∧ (s.landSr u 0x18 v).readSr u 0x18 = v &&& 0x7F#64))

/-! ## Control -/

/-- A branch that writes no register: whether it is taken, and its target (R339). -/
def Sys2Proof.Claims.branchOf (s : State) : Instr → Option (Bool × Nat)
  | .br p off => some ((me s).guard p, wrap 64 ((s.cur.pc : Int) + off.toInt))
  | .brp p off => some (xor (decide ((me s).rp (p.toNat % 8) ≠ 0)) (p.getLsbD 3), wrap 64 ((s.cur.pc : Int) + off.toInt))
  | .jr p g => some ((me s).guard p, (gr s g).toNat)
  | .ret p => some ((me s).guard p, ((me s).rg 63).toNat)
  | _ => none

/-- A call: its guard and its target (R339). -/
def Sys2Proof.Claims.callOf (s : State) : Instr → Option (Bool × Nat)
  | .call p off => some ((me s).guard p, wrap 64 ((s.cur.pc : Int) + off.toInt))
  | .callr p g => some ((me s).guard p, (gr s g).toNat)
  | _ => none

/-- The bundle's branch is recorded with its two delay slots to come. -/
def Sys2Proof.Claims.branched (s : State) (taken : Bool) (t : Nat) : State :=
  s.modThread s.cur.u (fun x => { x with branch := some { target := t, taken := taken, left := 3 } })

/-- R123, R339: BR, BRP, JR and RET record their outcome, target and delay slots, taken or not, and do nothing else.
R339: a CALL or CALLR with a false guard only has its delay slots; with a true guard and the lengths of the two chains that follow known it
writes g63 with the offset after them at latency 1 and branches; a fetch fault of those chains is its own. -/
def Obligations.BranchAndCallResults : Prop :=
  (∀ (s : State) (i : Instr) (b : Bool) (t : Nat), branchOf s i = some (b, t) → exec i s = .next (branched s b t)) ∧
  (∀ (s : State) (i : Instr) (b : Bool) (t : Nat), callOf s i = some (b, t) →
     (b = false → exec i s = .next (branched s false t)) ∧
     (∀ n, b = true → s.skipChains s.cur.u 2 s.cur.next = .unit n →
       exec i s = .next (branched (s.result64 s.cur.u (.g 63) (BitVec.ofNat 64 n) 1) true t)) ∧
     (∀ x f, b = true → s.cur.checked = false → s.skipChains s.cur.u 2 s.cur.next = .fault x f →
       exec i s = .next (s.refuse (.fault x (BitVec.ofNat 64 f)))))

/-- R123, R344: a bundle counts its delay slots, inside active loops as outside them: the bundle after the second transfers to a taken target, an untaken branch falls
through, and the levels, their counters and the pending results stay as they are, where the bundle is not the END of the innermost level that it did not itself open. -/
def Obligations.DelaySlotsThenTarget : Prop :=
  ∀ (x : Thread) (c : Cur) (b : Branch),
    (∀ l, x.loop1 = some l → c.opened ≠ some 1 → l.stop ≠ c.pc) →
    (∀ l, x.loop0 = some l → (x.loop1 = none ∧ c.opened ≠ some 0 ∨ x.loop1.isSome = true ∧ c.opened = some 1) → l.stop ≠ c.pc) →
    x.branch = some b → c.jump = none →
    (x.flow c).loop0 = x.loop0 ∧ (x.flow c).loop1 = x.loop1 ∧ (x.flow c).lc0 = x.lc0 ∧ (x.flow c).lc1 = x.lc1 ∧ (x.flow c).pend = x.pend ∧
    (1 < b.left → (x.flow c).pc = c.next ∧ (x.flow c).branch = some { b with left := b.left - 1 }) ∧
    (b.left ≤ 1 → b.taken = true → (x.flow c).pc = b.target ∧ (x.flow c).branch = none) ∧
    (b.left ≤ 1 → b.taken = false → (x.flow c).pc = c.next ∧ (x.flow c).branch = none)

/-- R342: LOOP with a nonzero count activates the first inactive level from the next chain to the chain at OFF and gives its counter the count at
latency 1; with a zero count it activates none and the chain after the one at OFF is next; LOOP has no guard.
R343: at the END of the innermost level, a level that the bundle's own LOOP opens left out, with no delay pending, the counter pends one less, or zero from
zero, at latency 1; a nonzero result goes back to START; a zero one ends the level and falls through, or, where the chain is the outer level's END too, the outer
level acts on it by the same rule.
R345: where the chain's own END.loop has ended the inner level, that level's counter keeps its value, and the outer level, whose END the chain is too, acts on it.
R123, R344: the bundle is then a branch bundle: two delay slots follow.
Where the spec leaves a reading open, the model's own is that of log entry 25. -/
def Obligations.LoopResults : Prop :=
  (∀ (s : State) (n : BitVec 4) (off : BitVec 11) (cnt stop : Nat), cnt = ((me s).rg n.toNat).toNat % 2 ^ 32 →
     stop = wrap 64 ((s.cur.pc : Int) + off.toInt) →
     (cnt ≠ 0 → (me s).loop0 = none → exec (.loop n off) s =
       .next (({ s with cur := { s.cur with opened := some 0 } }.result s.cur.u (.lc 0) (BitVec.ofNat 1024 cnt) (BitVec.allOnes 1024) 1 0).modThread s.cur.u
         (fun x => { x with loop0 := some { start := s.cur.next, stop := stop } }))) ∧
     (cnt ≠ 0 → (me s).loop0.isSome = true → exec (.loop n off) s =
       .next (({ s with cur := { s.cur with opened := some 1 } }.result s.cur.u (.lc 1) (BitVec.ofNat 1024 cnt) (BitVec.allOnes 1024) 1 0).modThread s.cur.u
         (fun x => { x with loop1 := some { start := s.cur.next, stop := stop } }))) ∧
     (∀ k, cnt = 0 → s.skipChains s.cur.u 1 stop = .unit k →
       exec (.loop n off) s = .next { s with cur := { s.cur with jump := some k } })) ∧
  (∀ (x : Thread) (c : Cur) (l : LoopLevel), x.branch = none → x.loop0 = some l → (x.loop1 = none ∧ c.opened = none ∨ c.opened = some 1) →
     l.stop = c.pc → c.jump = none →
     (x.flow c).pend = x.pend ++
       [{ dest := .lc 0, value := BitVec.ofNat 1024 (x.lc0.toNat - 1), mask := BitVec.allOnes 1024, due := x.ccycle + 2, flags := 0 }] ∧
     (x.flow c).branch = some { target := 0, taken := false, left := 2 } ∧
     (1 < x.lc0.toNat → (x.flow c).pc = l.start ∧ (x.flow c).loop0 = some l) ∧
     (x.lc0.toNat ≤ 1 → (x.flow c).pc = c.next ∧ (x.flow c).loop0 = none)) ∧
  (∀ (x : Thread) (c : Cur) (o l : LoopLevel) (p1 p0 : Pend), x.branch = none → x.loop0 = some o → x.loop1 = some l → c.opened = none → c.jump = none →
     p1 = { dest := .lc 1, value := BitVec.ofNat 1024 (x.lc1.toNat - 1), mask := BitVec.allOnes 1024, due := x.ccycle + 2, flags := 0 } →
     p0 = { dest := .lc 0, value := BitVec.ofNat 1024 (x.lc0.toNat - 1), mask := BitVec.allOnes 1024, due := x.ccycle + 2, flags := 0 } →
     (l.stop = c.pc → (x.flow c).branch = some { target := 0, taken := false, left := 2 } ∧
       (1 < x.lc1.toNat → (x.flow c).pend = x.pend ++ [p1] ∧ (x.flow c).pc = l.start ∧ (x.flow c).loop1 = some l ∧ (x.flow c).loop0 = some o) ∧
       (x.lc1.toNat ≤ 1 → o.stop ≠ c.pc →
         (x.flow c).pend = x.pend ++ [p1] ∧ (x.flow c).pc = c.next ∧ (x.flow c).loop1 = none ∧ (x.flow c).loop0 = some o) ∧
       (x.lc1.toNat ≤ 1 → o.stop = c.pc → 1 < x.lc0.toNat →
         (x.flow c).pend = x.pend ++ [p1, p0] ∧ (x.flow c).pc = o.start ∧ (x.flow c).loop1 = none ∧ (x.flow c).loop0 = some o) ∧
       (x.lc1.toNat ≤ 1 → o.stop = c.pc → x.lc0.toNat ≤ 1 →
         (x.flow c).pend = x.pend ++ [p1, p0] ∧ (x.flow c).pc = c.next ∧ (x.flow c).loop1 = none ∧ (x.flow c).loop0 = none)) ∧
     (o.stop = c.pc → ∀ y, y = (x.leaveLoop c.pc).flow c → y.loop1 = none ∧ y.lc1 = x.lc1 ∧ y.pend = x.pend ++ [p0] ∧
       y.branch = some { target := 0, taken := false, left := 2 } ∧
       (1 < x.lc0.toNat → y.pc = o.start ∧ y.loop0 = some o) ∧ (x.lc0.toNat ≤ 1 → y.pc = c.next ∧ y.loop0 = none)))

/-- A WAITH condition that holds of a handle (R349). -/
def Sys2Proof.Claims.handleMeets (e : HEntry) (cond : Nat) : Prop :=
  (cond = 0 ∧ e.kind = 1#2 ∧ e.state = 0#2) ∨ (cond = 1 ∧ e.kind = 1#2 ∧ e.state = 2#2) ∨
  (cond = 2 ∧ e.kind = 1#2 ∧ e.state = 2#2 ∧ e.b = false) ∨
  (cond = 3 ∧ e.readers = [] ∧ e.writers = [] ∧ e.wres = [] ∧ e.rres = []) ∨
  (32 ≤ cond ∧ cond < 64 ∧ e.kind = 2#2 ∧ cond - 31 ≤ e.held)

/-- R345, R346, R348: NOP does nothing; END under a true guard marks its context's task as ending and does nothing else; END.loop under a true guard
ends the innermost active level and leaves its counter, at that level's END as a branch bundle (R123, R344); under a false guard neither does
anything.
R349, R350, R471: WAITH and WAITB pass, and do nothing, when their guard is false, or when the condition holds and no command of the context on the handle or
the word is still queued; a condition of the other kind faults HANDLE_STATE; a gN with bits [63:20] set faults SCRATCH_RANGE, one with bits [2:1] set
MISALIGNED, the lower of the two where both are; a word whose bit 56 is still gN[0] holds.
Where the spec leaves a reading open, the model's own is that of log entry 25: END.loop at its own END is a branch bundle. -/
def Obligations.EndAndWaitResults : Prop :=
  (∀ (s : State) (p : BitVec 4),
     exec (.nop p) s = .next s ∧
     ((me s).guard p = false → exec (.endTask p) s = .next s ∧ exec (.endLoop p) s = .next s) ∧
     (∀ t c, (me s).guard p = true → s.cur.u = .ctx t c → exec (.endTask p) s = .next (s.modCtx t c (fun y => { y with ending := true }))) ∧
     (∀ l, (me s).guard p = true → (me s).loop1 = some l → exec (.endLoop p) s = .next (s.modThread s.cur.u (fun x =>
       { x with loop1 := none, branch := if l.stop = s.cur.pc then some { target := 0, taken := false, left := 3 } else x.branch }))) ∧
     (∀ l, (me s).guard p = true → (me s).loop1 = none → (me s).loop0 = some l → exec (.endLoop p) s = .next (s.modThread s.cur.u (fun x =>
       { x with loop0 := none, branch := if l.stop = s.cur.pc then some { target := 0, taken := false, left := 3 } else x.branch }))) ∧
     ((me s).guard p = true → (me s).loop1 = none → (me s).loop0 = none → ∃ t, exec (.endLoop p) s = .next t ∧ t.thread s.cur.u = me s)) ∧
  (∀ (s : State) (p : BitVec 4),
     (∀ h cond e, e = (s.tile (unitTile s.cur.u)).handle h.toNat →
       ((me s).guard p = false → exec (.waith p h cond) s = .next s) ∧
       ((me s).guard p = true → handleMeets e cond.toNat → (s.ctx (unitTile s.cur.u) (unitCtx s.cur.u)).hqNames e.inst = false →
         exec (.waith p h cond) s = .next s) ∧
       ((me s).guard p = true → s.cur.checked = false → (cond.toNat < 3 ∧ e.kind ≠ 1#2 ∨ 32 ≤ cond.toNat ∧ e.kind ≠ 2#2) →
         exec (.waith p h cond) s = .next (s.refuse (.fault 0x27#7 0)))) ∧
     (∀ g v a, v = gr s g → a = v.toNat / 8 % 2 ^ 17 * 8 →
       ((me s).guard p = false → exec (.waitb p g) s = .next s) ∧
       ((me s).guard p = true → v.toNat < 2 ^ 20 → v.toNat / 2 % 4 = 0 →
         decide ((s.tile (unitTile s.cur.u)).padNat a 8 / 2 ^ 56 % 2 = 1) ≠ v.getLsbD 0 →
         (s.ctx (unitTile s.cur.u) (unitCtx s.cur.u)).hq.any (HCmd.onWord (unitTile s.cur.u) a) = false → exec (.waitb p g) s = .next s) ∧
       ((me s).guard p = true → s.cur.checked = false → v.toNat / 2 % 4 ≠ 0 → exec (.waitb p g) s = .next (s.refuse (.fault 0x24#7 0))) ∧
       ((me s).guard p = true → s.cur.checked = false → v.toNat / 2 % 4 = 0 → 2 ^ 20 ≤ v.toNat → exec (.waitb p g) s = .next (s.refuse (.fault 0x29#7 0))) ∧
       ((me s).guard p = true → s.cur.checked = false → v.toNat < 2 ^ 20 → v.toNat / 2 % 4 = 0 →
         decide ((s.tile (unitTile s.cur.u)).padNat a 8 / 2 ^ 56 % 2 = 1) = v.getLsbD 0 → exec (.waitb p g) s = .next (s.refuse (.held .waitb)))))

/-! ## Taking an exception and returning from one -/

/-- R270: a fault, trap or interrupt on control core k writes TEPC, TCAUSE, TFADDR, DSLOT and TBTGT, PMODE takes the mode and PIE takes IE, IE becomes
0, the mode kernel, fetch continues at TVEC with no delay pending; the core's other registers, every other core, every tile and memory are as they
were. TEPC and TBTGT hold byte addresses: twice the unit (log entry 13). The delay slots of a branch that was not taken count too; TBTGT is then where they fall
through to (log entry 24). -/
def Obligations.CoreTrapEntry : Prop :=
  ∀ (s : State) (k : Nat) (i : StopInfo), ∃ t y z, t = s.takeException (.core k) i ∧ y = s.core k ∧ z = t.core k ∧
    z.tepc = BitVec.ofNat 64 (2 * i.pc) ∧ z.tfaddr = i.faddr ∧
    z.tcause = BitVec.ofNat 64 (i.slots % 4096 * 512 + grade i.cause * 128 + i.cause.toNat) ∧
    (y.x.branch = none → z.dslot = 0 ∧ z.tbtgt = 0) ∧
    (∀ b, y.x.branch = some b → b.taken = true →
      z.dslot = BitVec.ofNat 2 b.left ∧ z.tbtgt = BitVec.ofNat 64 (2 * b.target) ∧ z.falls = false) ∧
    (∀ b, y.x.branch = some b → b.taken = false → z.dslot = BitVec.ofNat 2 b.left ∧ z.tbtgt = BitVec.ofNat 64 (2 * i.through) ∧ z.falls = true) ∧
    z.pmode = y.kernel ∧ z.pie = y.ie ∧ z.ie = false ∧ z.kernel = true ∧ z.x.pc = y.tvec.toNat / 2 ∧ z.x.branch = none ∧
    z.x.g = y.x.g ∧ z.x.a = y.x.a ∧ z.x.am = y.x.am ∧ z.x.p = y.x.p ∧ z.x.v = y.x.v ∧ z.x.fpcsr = y.x.fpcsr ∧ z.tvec = y.tvec ∧
    (∀ j, j ≠ k → t.core j = s.core j) ∧ t.tiles = s.tiles ∧ t.mem = s.mem ∧ t.boot = s.boot

/-- R262, R267: a context that stops has its STOPREC written with the stop's PC, CAUSE, GRADE, SLOTMASK, FADDR, engine and delay slot, and is
stopped; its registers and its pending results are as they were, and the other context of its tile and every other tile too; CC_EVENT is pending on the
tenant's core. -/
def Obligations.ContextStopEntry : Prop :=
  ∀ (s : State) (n c : Nat) (i : StopInfo), c < 2 → ∃ t y z, t = s.takeException (.ctx n c) i ∧ y = s.ctx n c ∧ z = t.ctx n c ∧
    z.stop.stopped = true ∧ z.stop.pc = BitVec.ofNat 32 i.pc ∧ z.stop.cause = i.cause ∧ z.stop.grade = BitVec.ofNat 2 (grade i.cause) ∧
    z.stop.slotmask = BitVec.ofNat 12 i.slots ∧ z.stop.faddr = i.faddr ∧ z.stop.dslot = BitVec.ofNat 2 y.x.dslot ∧
    z.stop.engine = i.engine.isSome ∧ z.stop.area = BitVec.ofNat 46 (s.stopArea n c) ∧
    z.x.g = y.x.g ∧ z.x.a = y.x.a ∧ z.x.am = y.x.am ∧ z.x.p = y.x.p ∧ z.x.v = y.x.v ∧ z.x.fpcsr = y.x.fpcsr ∧ z.x.pend = y.x.pend ∧
    z.x.ccycle = y.x.ccycle ∧ z.q = y.q ∧ z.cq = y.cq ∧
    (∀ c', c' < 2 → c' ≠ c → t.ctx n c' = s.ctx n c') ∧ (∀ m, m ≠ n → t.tile m = s.tile m) ∧
    0x6C#7 ∈ (t.core (s.tenant ((s.tile n).tenant.getD 0)).irqcore).irq

/-- R271: the return from a trap takes the mode from PMODE and IE from PIE and fetches at TEPC, with DSLOT delay bundles before TBTGT; those of a
branch that was not taken fall through; the trap registers keep their values.
R270, R271: entering a trap from a core with no delay pending and an even TVEC, and returning at once, resumes the same mode, IE and pc, where the
pc is below 2^63; with delay slots to come of a branch that was not taken they are to come again, and fall through.
Where the spec leaves a reading open, the model's own is that of log entries 13 and 24. -/
def Obligations.TrapReturnRestores : Prop :=
  (∀ (s : State) (k : Nat), ∃ t y z, t = s.trapReturn k ∧ y = s.core k ∧ z = t.core k ∧
     z.kernel = y.pmode ∧ z.ie = y.pie ∧ z.x.pc = y.tepc.toNat / 2 ∧
     (y.dslot = 0#2 → z.x.branch = none) ∧
     (y.dslot ≠ 0#2 → z.x.branch = some { target := y.tbtgt.toNat / 2, taken := !y.falls, left := y.dslot.toNat }) ∧
     z.tepc = y.tepc ∧ z.tcause = y.tcause ∧ z.pmode = y.pmode ∧ z.pie = y.pie ∧ z.x.g = y.x.g ∧ z.x.pend = y.x.pend ∧
     (∀ j, j ≠ k → t.core j = s.core j) ∧ t.tiles = s.tiles ∧ t.mem = s.mem) ∧
  (∀ (s : State) (k : Nat) (i : StopInfo), (s.core k).x.branch = none → i.pc < 2 ^ 63 →
     ∃ z, z = ((s.coreTrap k i).trapReturn k).core k ∧
       z.kernel = (s.core k).kernel ∧ z.ie = (s.core k).ie ∧ z.x.pc = i.pc ∧ z.x.branch = none ∧ z.x.g = (s.core k).x.g ∧
       z.x.fpcsr = (s.core k).x.fpcsr) ∧
  (∀ (s : State) (k : Nat) (i : StopInfo) (b : Branch), (s.core k).x.branch = some b → 0 < b.left → b.left < 4 → i.pc < 2 ^ 63 → i.through < 2 ^ 63 →
     b.target < 2 ^ 63 → ∃ z, z = ((s.coreTrap k i).trapReturn k).core k ∧ z.x.pc = i.pc ∧
       z.x.branch = some { target := if b.taken then b.target else i.through, taken := b.taken, left := b.left })

/-- R347, R387, R388: TRAP n under a true guard and SYSC n end the bundle and then take USER_TRAP0 + n with SLOTMASK 0x001, or SYSCALL with TFADDR n,
at the next chain; ERET ends its bundle and returns; a bundle that has already ended its course takes it no second time (log entry 24: of a TRAP and a SYSC in one
bundle, the TRAP); TRAP under a false guard does nothing. -/
def Obligations.TrapAndReturnInstructions : Prop :=
  ∀ (s : State),
    (∀ p n, (me s).guard p = true → s.cur.finished = false → exec (.trap p n) s =
      .next (s.finish.takeException s.cur.u
        { cause := 0x18#7 + n.setWidth 7, slots := 1, faddr := 0, pc := (s.finish.thread s.cur.u).pc, engine := none,
          through := s.finish.throughAt s.cur.u (s.finish.thread s.cur.u).pc })) ∧
    (∀ p n, (me s).guard p = false → exec (.trap p n) s = .next s) ∧
    (∀ n, s.cur.finished = false → exec (.sysc n) s =
      .next (s.finish.takeException s.cur.u
        { cause := 0x69#7, slots := 0, faddr := n.setWidth 64, pc := (s.finish.thread s.cur.u).pc, engine := none,
          through := s.finish.throughAt s.cur.u (s.finish.thread s.cur.u).pc })) ∧
    (∀ k, s.cur.u = .core k → s.cur.finished = false → exec .eret s = .next (s.finish.trapReturn k)) ∧
    (∀ p n m, s.cur.finished = true → exec (.trap p n) s = .next s ∧ exec (.sysc m) s = .next s ∧ exec .eret s = .next s)

/-- R389, R390: TLBI with a well-formed operand and no access of the tenant in flight removes every translation that it names from the tiles', the
clusters' and the cores' TLBs and leaves the others; a nonzero zero field faults RESERVED_FIELD; WFE ends its bundle and holds its core.
Where the spec leaves a reading open, the model's own is that of log entry 58. -/
def Obligations.TlbiAndWfe : Prop :=
  ∀ (s : State),
    (∀ g v, v = gr s g → v.getLsbD 56 = false → v.toNat % 2 ^ 16 = 0 → (v.getLsbD 57 = true → v.toNat / 2 ^ 16 % 2 ^ 40 = 0) →
      s.tlbiBusy (v.toNat / 2 ^ 58) = false → ∃ t, exec (.tlbi g) s = .next t ∧
        (∀ k e, e ∈ (t.tile k).tlb ↔ e ∈ (s.tile k).tlb ∧ tlbiHits v e = false) ∧
        (∀ k e, e ∈ (t.cluster k).tlb ↔ e ∈ (s.cluster k).tlb ∧ tlbiHits v e = false) ∧
        (∀ k e, e ∈ (t.core k).tlb ↔ e ∈ (s.core k).tlb ∧ tlbiHits v e = false) ∧ t.mem = s.mem ∧ t.toIssue = s.toIssue) ∧
    (∀ g v, v = gr s g → s.cur.checked = false →
      (v.getLsbD 56 = true ∨ v.toNat % 2 ^ 16 ≠ 0 ∨ (v.getLsbD 57 = true ∧ v.toNat / 2 ^ 16 % 2 ^ 40 ≠ 0)) →
      exec (.tlbi g) s = .next (s.refuse (.fault 0x06#7 0))) ∧
    (s.cur.finished = false → exec .wfe s = .next (s.finish.holdUnit s.cur.u .wfe))

/-! ## Address slot -/

/-- The fields of an address mode register (R113): STEP, LENGTH and BASE. -/
def Sys2Proof.Claims.stepOf (m : W64) : Int := (m.extractLsb' 48 16).toInt
/-- LENGTH. -/
def Sys2Proof.Claims.lengthOf (m : W64) : Nat := m.toNat / 2 ^ 28 % 2 ^ 20
/-- BASE. -/
def Sys2Proof.Claims.baseOf (m : W64) : Nat := m.toNat / 2 ^ 8 % 2 ^ 20

/-- d = k times STEP as a 64-bit signed product. -/
def Sys2Proof.Claims.deltaOf (k : BitVec 4) (m : W64) : W64 := BitVec.ofInt 64 (k.toInt * stepOf m)

/-- What an AG operation writes (R360). -/
def Sys2Proof.Claims.addressResult (s : State) : Instr → Option (Dest × W64)
  | .ali k gs ad => some (.a ad.toNat, (me s).rg gs.toNat + k.signExtend 64)
  | .aadd k am src ad => some (.a ad.toNat, (me s).ra src.toNat + deltaOf k ((me s).ram am.toNat))
  | .amod k am src ad =>
    let m := (me s).ram am.toNat
    some (.a ad.toNat, if lengthOf m = 0 then 0 else
      BitVec.ofNat 64 (((me s).ra src.toNat + deltaOf k m).toInt % (lengthOf m : Int)).toNat)
  | .abrv k am src ad => some (.a ad.toNat, brv ((me s).ra src.toNat) ((me s).ram am.toNat) k.toInt)
  | .acir k am src ad =>
    let m := (me s).ram am.toNat
    some (.a ad.toNat, if lengthOf m = 0 then BitVec.ofNat 64 (baseOf m) else
      BitVec.ofNat 64 (baseOf m + (((me s).ra src.toNat - BitVec.ofNat 64 (baseOf m) + deltaOf k m).toInt % (lengthOf m : Int)).toNat))
  | .amset am gs => some (.am am.toNat, (me s).rg gs.toNat)
  | _ => none

/-- R360: an AG operation delivers its update to its a or am register at latency 1, never faults, and does nothing else.
R361: the walk that the spec works out: BASE 0x100, LENGTH 64 and STEP 8 from 0x100 with k = 1. -/
def Obligations.AddressResults : Prop :=
  (∀ (s : State) (i : Instr) (d : Dest) (v : W64), addressResult s i = some (d, v) → exec i s = .next (s.result64 s.cur.u d v 1)) ∧
  (∀ m : W64, stepOf m = 8 → lengthOf m = 64 → baseOf m = 0x100 →
     brv 0x100 m 1 = 0x120 ∧ brv 0x120 m 1 = 0x110 ∧ brv 0x110 m 1 = 0x130 ∧ brv 0x130 m 1 = 0x108 ∧ brv 0x108 m 1 = 0x128 ∧
       brv 0x128 m 1 = 0x118 ∧ brv 0x118 m 1 = 0x138 ∧ brv 0x138 m 1 = 0x100)

/-! ## Loads and stores in the own scratchpad -/

/-- A scalar load: size, guard, OFF, AREG, register. -/
def Sys2Proof.Claims.scalarLoad : Instr → Option (Nat × BitVec 4 × BitVec 12 × BitVec 4 × BitVec 6)
  | .ldB p off m r => some (1, p, off, m, r)
  | .ldH p off m r => some (2, p, off, m, r)
  | .ldW p off m r => some (4, p, off, m, r)
  | .ldD p off m r => some (8, p, off, m, r)
  | _ => none

/-- A scalar store. -/
def Sys2Proof.Claims.scalarStore : Instr → Option (Nat × BitVec 4 × BitVec 12 × BitVec 4 × BitVec 6)
  | .stB p off m r => some (1, p, off, m, r)
  | .stH p off m r => some (2, p, off, m, r)
  | .stW p off m r => some (4, p, off, m, r)
  | .stD p off m r => some (8, p, off, m, r)
  | _ => none

/-- A vector load: size in bytes. -/
def Sys2Proof.Claims.vectorLoad : Instr → Option (Nat × BitVec 4 × BitVec 12 × BitVec 4 × BitVec 6)
  | .vld256 p off m r => some (32, p, off, m, r)
  | .vld512 p off m r => some (64, p, off, m, r)
  | .vld1024 p off m r => some (128, p, off, m, r)
  | _ => none

/-- A vector store. -/
def Sys2Proof.Claims.vectorStore : Instr → Option (Nat × BitVec 4 × BitVec 12 × BitVec 4 × BitVec 6)
  | .vst256 p off m r => some (32, p, off, m, r)
  | .vst512 p off m r => some (64, p, off, m, r)
  | .vst1024 p off m r => some (128, p, off, m, r)
  | _ => none

/-- The first byte in its register of the part that a vector access of n bytes names (R319). -/
def Sys2Proof.Claims.partByte (n : Nat) (r : BitVec 6) : Nat := if n = 32 then 32 * (r.toNat / 16) else if n = 64 then 64 * (r.toNat / 32) else 0

/-- The register that the part lies in. -/
def Sys2Proof.Claims.partReg (n : Nat) (r : BitVec 6) : Nat := if n = 32 then r.toNat % 16 else if n = 64 then r.toNat % 32 else r.toNat

/-- Byte lane i of a vector access is guarded on (R365). -/
def Sys2Proof.Claims.laneOn (s : State) (p : BitVec 4) (n : Nat) (r : BitVec 6) (i : Nat) : Bool := (me s).guardAt p (partByte n r + i)

/-- The scratchpad of the tile in hand. -/
def Sys2Proof.Claims.pad (s : State) : Tile := s.tile (unitTile s.cur.u)

/-- t differs from s in the scratchpad of tile n only. -/
def Sys2Proof.Claims.OnlyPad (n : Nat) (s t : State) : Prop := t = s.modTile n (fun x => { x with pad := (t.tile n).pad })

/-- The addresses that an access of size bytes at A names: A and those after it, or, in MODE 3, those of the circular buffer (R361). -/
def Sys2Proof.Claims.accessBytes (am a : W64) (size : Nat) : List Nat :=
  (List.range size).map (fun (i : Nat) =>
    if am.toNat % 4 = 3 then am.toNat / 2 ^ 8 % 2 ^ 20 + ((a.toInt + (i : Int) - ((am.toNat / 2 ^ 8 % 2 ^ 20 : Nat) : Int)) % ((am.toNat / 2 ^ 28 % 2 ^ 20 : Nat) : Int)).toNat
    else a.toNat + i)

/-- R125, R142, R145, R361: an access is at A = a(AREG) + SignExt12(OFF) times size, its bytes A to A + size - 1, or in MODE 3 byte i at BASE +
FloorMod(A + i - BASE, LENGTH), LENGTH not zero; through a register with HVALID 0 it passes when A is aligned and every byte is in range, outside every allocated
handle and, for a store, in no tagged word; a misaligned A
faults MISALIGNED, an aligned one beyond the scratchpad and outside every handle SCRATCH_RANGE, one within a handle's region HANDLE_STATE, a store to a
tagged word outside handles BARRIER_STORE.
R140-R142, R145, R361: through a register with HVALID 1 the same bytes are offsets into handle HNUM; a misaligned A faults MISALIGNED, and an aligned one comes to what
the handle makes of it, but that an access which does not fault first waits for the context's queued commands on the handle (R471). An access to a block handle
lies at its offset in the front for a load and in the back for a store; a load passes when
STATE is FULL, a store when STATE is FILLING or FULL with B = 1 after HOPEN by this context, and each holds its context otherwise; to a ring handle it lies in row
CCOUNT for a load and row PCOUNT for a store; an offset not below SIZE faults SCRATCH_RANGE; a free handle faults HANDLE_STATE.
Where the spec leaves a reading open, the model's own is that of log entries 24 and 26. -/
def Obligations.Addressing : Prop :=
  (∀ (s : State) (u : UnitId) (m : BitVec 4) (off : BitVec 12) (size : Nat) (store : Bool) (am a : W64) (l : List Nat),
     am = (s.thread u).ram m.toNat → am.getLsbD 7 = false → (am.toNat % 4 = 3 → am.toNat / 2 ^ 28 % 2 ^ 20 ≠ 0) → 0 < size →
     a = (s.thread u).ra m.toNat + BitVec.ofInt 64 (off.toInt * (size : Int)) → l = accessBytes am a size →
     (s.local u m off size store).bytes = l ∧
     (a.toNat % size = 0 → (∀ b ∈ l, b < 2 ^ 20) → (∀ b ∈ l, (s.tile (unitTile u)).inHandle b = false) →
       (store = true → ∀ b ∈ l, (s.tile (unitTile u)).tagged b = false) → (s.local u m off size store).verdict = .ok) ∧
     (a.toNat % size ≠ 0 → (s.local u m off size store).verdict = .fault 0x24#7 0) ∧
     (a.toNat % size = 0 → (∃ b ∈ l, (s.tile (unitTile u)).inHandle b = true) → (s.local u m off size store).verdict = .fault 0x27#7 0) ∧
     (a.toNat % size = 0 → (∀ b ∈ l, (s.tile (unitTile u)).inHandle b = false) → (∃ b ∈ l, 2 ^ 20 ≤ b) →
       (s.local u m off size store).verdict = .fault 0x29#7 0) ∧
     (a.toNat % size = 0 → (∀ b ∈ l, (s.tile (unitTile u)).inHandle b = false) → (∀ b ∈ l, b < 2 ^ 20) → store = true →
       (∃ b ∈ l, (s.tile (unitTile u)).tagged b = true) → (s.local u m off size store).verdict = .fault 0x28#7 0)) ∧
  (∀ (s : State) (u : UnitId) (m : BitVec 4) (off : BitVec 12) (size n : Nat) (store : Bool) (am a : W64) (l : List Nat) (b : Local),
     am = (s.thread u).ram m.toNat → am.getLsbD 7 = true → n = am.toNat / 4 % 32 → (am.toNat % 4 = 3 → am.toNat / 2 ^ 28 % 2 ^ 20 ≠ 0) →
     a = (s.thread u).ra m.toNat + BitVec.ofInt 64 (off.toInt * (size : Int)) → l = accessBytes am a size →
     b = boundLocal (s.tile (unitTile u)) (unitCtx u) n store l →
     (s.local u m off size store).bytes = b.bytes ∧
     (a.toNat % size ≠ 0 → (s.local u m off size store).verdict = .fault 0x24#7 0) ∧
     (∀ c f, a.toNat % size = 0 → b.verdict = .fault c f → (s.local u m off size store).verdict = .fault c f) ∧
     (a.toNat % size = 0 → (∀ c f, b.verdict ≠ .fault c f) →
       (s.local u m off size store).verdict =
         if ((s.tile (unitTile u)).ctx (unitCtx u)).hqNames ((s.tile (unitTile u)).handle n).inst then .held (.handle n) else b.verdict)) ∧
  (∀ (t : Tile) (c n : Nat) (store : Bool) (l : List Nat) (h : HEntry), h = t.handle n →
     (h.kind = 0#2 → (boundLocal t c n store l).verdict = .fault 0x27#7 0) ∧
     (h.kind ≠ 0#2 → (∃ b ∈ l, h.size ≤ b) → (boundLocal t c n store l).verdict = .fault 0x29#7 0) ∧
     ((∀ b ∈ l, b < h.size) → h.kind = 1#2 →
       (boundLocal t c n store l).bytes = l.map (fun b => (if store then h.back else h.front) + b) ∧
       (store = false → (boundLocal t c n store l).verdict = if h.state = 2#2 then .ok else .held (.handle n)) ∧
       (store = true → (∀ b ∈ l, t.tagged (h.back + b) = false) → (boundLocal t c n store l).verdict =
         if (h.state = 1#2 ∨ h.state = 2#2 ∧ h.b = true) ∧ c ∈ h.ctxW then .ok else .held (.handle n)) ∧
       (store = true → (∃ b ∈ l, t.tagged (h.back + b) = true) → (boundLocal t c n store l).verdict = .fault 0x28#7 0)) ∧
     ((∀ b ∈ l, b < h.size) → h.kind = 2#2 →
       (boundLocal t c n store l).bytes = l.map (fun b => h.base + h.size * (if h.rows = 0 then 0 else
         (if store then h.pcount else h.ccount).toNat % h.rows) + b) ∧
       (store = false → (boundLocal t c n store l).verdict = if 1 ≤ (h.pcount - h.ccount).toNat then .ok else .held (.handle n)) ∧
       (store = true → (∀ b ∈ l, t.tagged (h.rowAt h.pcount + b) = false) →
         (boundLocal t c n store l).verdict = if (h.pcount - h.ccount).toNat < h.rows then .ok else .held (.handle n)) ∧
       (store = true → (∃ b ∈ l, t.tagged (h.rowAt h.pcount + b) = true) → (boundLocal t c n store l).verdict = .fault 0x28#7 0)))

/-- R365: on a tile, a scalar load whose guard is true and whose address passes its checks delivers its bytes, the lowest address lowest, zero-extended, at
latency 4; a vector load delivers them to its register part, lanes guarded off keeping their value; a load with nothing guarded on does nothing; a check that
faults or holds is what the slot comes to.
R128, R365: on a tile, a scalar store whose guard is true and whose address passes its checks puts the low bytes of its register, the lowest first, at the
bytes that the address names, and a vector store those of the lanes guarded on; nothing but the scratchpad of its own tile changes, and no byte held elsewhere
than the stored ones; a store with nothing guarded on does nothing. -/
def Obligations.LocalLoadsAndStores : Prop :=
  (∀ (s : State), unitIsCore s.cur.u = false →
     (∀ i n p off m r, scalarLoad i = some (n, p, off, m, r) →
       ((me s).guard p = false → exec i s = .next s) ∧
       ((me s).guard p = true → Clear s (s.local s.cur.u m off n false).verdict →
         exec i s = .next (s.result64 s.cur.u (.g r.toNat)
           (BitVec.ofNat 64 (ofBytes ((s.local s.cur.u m off n false).bytes.map (pad s).padByte))) 4)) ∧
       (∀ c f, (me s).guard p = true → s.cur.checked = false → (s.local s.cur.u m off n false).verdict = .fault c f →
         exec i s = .next (s.refuse (.fault c f))) ∧
       (∀ h, (me s).guard p = true → s.cur.checked = false → (s.local s.cur.u m off n false).verdict = .held h → exec i s = .next (s.refuse (.held h)))) ∧
     (∀ i n p off m r, vectorLoad i = some (n, p, off, m, r) →
       ((∀ k < n, laneOn s p n r k = false) → exec i s = .next s) ∧
       (∀ k, k < n → laneOn s p n r k = true → Clear s (s.local s.cur.u m off n false).verdict → ∃ mask : VReg,
         exec i s = .next (s.result s.cur.u (.v (partReg n r))
           (BitVec.ofNat 1024 (ofBytes ((s.local s.cur.u m off n false).bytes.map (pad s).padByte) * 2 ^ (8 * partByte n r))) mask 4 0) ∧
         (∀ j, j < 1024 → mask.getLsbD j =
           (decide (8 * partByte n r ≤ j ∧ j < 8 * (partByte n r + n)) && laneOn s p n r ((j - 8 * partByte n r) / 8)))))) ∧
  (∀ (s : State), unitIsCore s.cur.u = false →
     (∀ i n p off m r l, scalarStore i = some (n, p, off, m, r) → l = (s.local s.cur.u m off n true).bytes →
       ((me s).guard p = false → exec i s = .next s) ∧
       ((me s).guard p = true → Clear s (s.local s.cur.u m off n true).verdict → ∃ t,
         exec i s = .next t ∧ OnlyPad (unitTile s.cur.u) s t ∧
         (∀ b, (∀ e ∈ l, (pad s).padKey e ≠ (pad s).padKey b) → (t.tile (unitTile s.cur.u)).padByte b = (pad s).padByte b) ∧
         ((l.map (pad s).padKey).Nodup → ∀ k, k < n →
           (t.tile (unitTile s.cur.u)).padByte (l.getD k 0) = BitVec.ofNat 8 ((gr s r).toNat / 256 ^ k)))) ∧
     (∀ i n p off m r l, vectorStore i = some (n, p, off, m, r) → l = (s.local s.cur.u m off n true).bytes →
       ((∀ k < n, laneOn s p n r k = false) → exec i s = .next s) ∧
       (∀ k₀, k₀ < n → laneOn s p n r k₀ = true → Clear s (s.local s.cur.u m off n true).verdict → ∃ t,
         exec i s = .next t ∧ OnlyPad (unitTile s.cur.u) s t ∧
         (∀ b, (∀ k < n, laneOn s p n r k = true → (pad s).padKey (l.getD k 0) ≠ (pad s).padKey b) →
           (t.tile (unitTile s.cur.u)).padByte b = (pad s).padByte b) ∧
         ((l.map (pad s).padKey).Nodup → ∀ k, k < n → laneOn s p n r k = true →
           (t.tile (unitTile s.cur.u)).padByte (l.getD k 0) =
             BitVec.ofNat 8 (((me s).rv (partReg n r)).toNat / 256 ^ (partByte n r + k))))))

/-- R126: where no region's SWZ is 7, two scratchpad addresses are never held at one place: the bank map permutes each row. -/
def Obligations.SwizzleInjective : Prop :=
  ∀ (x : Tile), (∀ j, (mget 6#3 x.swz j).toNat ≠ 7) → ∀ a b, x.padKey a = x.padKey b → a = b

/-- A spill load or store: size, guard, offset, register. -/
def Sys2Proof.Claims.spillLoadOf : Instr → Option (Nat × BitVec 4 × BitVec 12 × BitVec 6)
  | .ldsB p off r => some (1, p, off, r)
  | .ldsH p off r => some (2, p, off, r)
  | .ldsW p off r => some (4, p, off, r)
  | .ldsD p off r => some (8, p, off, r)
  | _ => none

/-- A spill store. -/
def Sys2Proof.Claims.spillStoreOf : Instr → Option (Nat × BitVec 4 × BitVec 12 × BitVec 6)
  | .stsB p off r => some (1, p, off, r)
  | .stsH p off r => some (2, p, off, r)
  | .stsW p off r => some (4, p, off, r)
  | .stsD p off r => some (8, p, off, r)
  | _ => none

/-- R366: a spill load delivers its bytes zero-extended at latency 1; a spill store writes the low bytes of its register to its own context's spill memory and
changes nothing else, where the offset is aligned, and so within the 4096 bytes; a misaligned offset faults MISALIGNED; a false guard does nothing. -/
def Obligations.SpillResults : Prop :=
  ∀ (s : State) (y : Ctx), y = s.ctx (unitTile s.cur.u) (unitCtx s.cur.u) →
    (∀ i n p off r, spillLoadOf i = some (n, p, off, r) →
      ((me s).guard p = false → exec i s = .next s) ∧
      ((me s).guard p = true → off.toNat % n = 0 → exec i s =
        .next (s.result64 s.cur.u (.g r.toNat) (BitVec.ofNat 64 (ofBytes ((List.range n).map (fun k => mget 0 y.spill (off.toNat + k))))) 1)) ∧
      ((me s).guard p = true → s.cur.checked = false → off.toNat % n ≠ 0 → exec i s = .next (s.refuse (.fault 0x24#7 0)))) ∧
    (∀ i n p off r, spillStoreOf i = some (n, p, off, r) →
      ((me s).guard p = false → exec i s = .next s) ∧
      ((me s).guard p = true → off.toNat % n = 0 → ∃ z,
        exec i s = .next (s.setCtx (unitTile s.cur.u) (unitCtx s.cur.u) { y with spill := z }) ∧
        (∀ b, b < off.toNat ∨ off.toNat + n ≤ b → mget 0 z b = mget 0 y.spill b) ∧
        (∀ k, k < n → mget 0 z (off.toNat + k) = BitVec.ofNat 8 ((gr s r).toNat / 256 ^ k))) ∧
      ((me s).guard p = true → s.cur.checked = false → off.toNat % n ≠ 0 → exec i s = .next (s.refuse (.fault 0x24#7 0))))

/-! ## Control-core accesses -/

/-- R270, R373: on a control core a scalar load whose address passes its checks delivers the bytes at its physical address at latency 4, and a scalar store puts
the low bytes of its register there at once: in device memory no byte outside the stored ones changes and no register does; one that fails its check is refused with its cause.
Where the spec leaves a reading open, the model's own is that of log entry 32. -/
def Obligations.CoreLoadsAndStores : Prop :=
  ∀ (s : State), unitIsCore s.cur.u = true →
    (∀ i n p off m r a, scalarLoad i = some (n, p, off, m, r) → (me s).guard p = true →
      a = s.vaccess s.cur.u ((me s).ra m.toNat + BitVec.ofInt 64 (off.toInt * (n : Int))) n .read →
      (Clear s a.verdict → exec i s = .next (s.result64 s.cur.u (.g r.toNat) (BitVec.ofNat 64 (s.coreRead a.pa n)) 4)) ∧
      (Clear s a.verdict → a.pa < windowBase → exec i s = .next (s.result64 s.cur.u (.g r.toNat) (BitVec.ofNat 64 (ofBytes (s.memRead a.pa n))) 4)) ∧
      (∀ c f, s.cur.checked = false → a.verdict = .fault c f → exec i s = .next (s.refuse (.fault c f)))) ∧
    (∀ i n p off m r a, scalarStore i = some (n, p, off, m, r) → (me s).guard p = true →
      a = s.vaccess s.cur.u ((me s).ra m.toNat + BitVec.ofInt 64 (off.toInt * (n : Int))) n .write →
      (Clear s a.verdict → exec i s = .next (s.coreWrite a.pa n (gr s r).toNat)) ∧
      (a.verdict = .ok → a.pa < windowBase → ∃ t, exec i s = .next t ∧ t = { s with mem := t.mem, poison := t.poison } ∧
        (∀ b, b < a.pa ∨ a.pa + n ≤ b → t.memByte b = s.memByte b) ∧
        (∀ k, k < n → a.pa + n ≤ s.capacity → t.memByte (a.pa + k) = BitVec.ofNat 8 ((gr s r).toNat / 256 ^ k))) ∧
      (∀ c f, s.cur.checked = false → a.verdict = .fault c f → exec i s = .next (s.refuse (.fault c f)))) ∧
    (∀ i n p off m r, (scalarLoad i = some (n, p, off, m, r) ∨ scalarStore i = some (n, p, off, m, r)) → (me s).guard p = false → exec i s = .next s)

/-! ## Remote accesses and atomics -/

/-- LDX: size, guard, lanes, OFF, AREG, stream. -/
def Sys2Proof.Claims.ldxOf (s : State) : Instr → Option (Nat × Bool × PReg × BitVec 12 × BitVec 4 × BitVec 3)
  | .ldxD p off m q => some (8, (me s).guard p, BitVec.allOnes 128, off, m, q)
  | .ldxV256 p off m q => some (32, true, if p.getLsbD 3 then ~~~(me s).rp (p.toNat % 8) else (me s).rp (p.toNat % 8), off, m, q)
  | .ldxV512 p off m q => some (64, true, if p.getLsbD 3 then ~~~(me s).rp (p.toNat % 8) else (me s).rp (p.toNat % 8), off, m, q)
  | .ldxV1024 p off m q => some (128, true, if p.getLsbD 3 then ~~~(me s).rp (p.toNat % 8) else (me s).rp (p.toNat % 8), off, m, q)
  | _ => none

/-- A vector STX: size, guard, OFF, AREG, register. -/
def Sys2Proof.Claims.stxOf : Instr → Option (Nat × BitVec 4 × BitVec 12 × BitVec 4 × BitVec 6)
  | .stxV256 p off m r => some (32, p, off, m, r)
  | .stxV512 p off m r => some (64, p, off, m, r)
  | .stxV1024 p off m r => some (128, p, off, m, r)
  | _ => none

/-- The state's context in hand with one remote access more, and the next command number. -/
def Sys2Proof.Claims.Adds (s t : State) (k : RKind) (a : W64) (size : Nat) (x : Target) (data : VReg) (data2 : W64) (lanes : PReg) : Prop :=
  ∃ r : Remote, t = { s with seq := s.seq + 1 }.modCtx (unitTile s.cur.u) (unitCtx s.cur.u) (fun y => { y with remote := y.remote ++ [r] }) ∧
    r.kind = k ∧ r.addr = a ∧ r.size = size ∧ r.pa = x.pa ∧ r.tscope = x.tscope ∧ r.data = data ∧ r.data2 = data2 ∧ r.lanes = lanes ∧
    r.id = s.seq ∧ r.done = false ∧ r.sent = false ∧ r.tenant = (s.tile (unitTile s.cur.u)).tenant.getD 0

/-- R367, R368: an LDX or STX that is guarded on and passes the checks of R363 adds one remote access of its kind, address, size, data and lanes to its context's, behind
the earlier ones, and does nothing else; one that is guarded off does nothing.
R363: the checks of a global address in their order: form, SCOPE, peer, alignment; a tile address that passes them all passes, a device address then needs its
translation.
Where the spec leaves a reading open, the model's own is that of log entry 61. -/
def Obligations.RemoteAccessesIssue : Prop :=
  (∀ (s : State),
     (∀ i n g lanes off m q a x, ldxOf s i = some (n, g, lanes, off, m, q) → a = (me s).ra m.toNat + BitVec.ofInt 64 (off.toInt * (n : Int)) →
       x = s.target s.cur.u s.cur.scope a n .read →
       (g = false → exec i s = .next s) ∧
       (g = true → Clear s (x.verdict.both (fullStream s q.toNat)) → ∃ t, exec i s = .next t ∧ Adds s t (.ldx q.toNat) a n x 0 0 lanes)) ∧
     (∀ p off m r a x, a = (me s).ra m.toNat + BitVec.ofInt 64 (off.toInt * 8) → x = s.target s.cur.u s.cur.scope a 8 .write →
       ((me s).guard p = false → exec (.stxD p off m r) s = .next s) ∧
       ((me s).guard p = true → Clear s x.verdict → ∃ t, exec (.stxD p off m r) s = .next t ∧
         Adds s t .stx a 8 x ((gr s r).setWidth 1024) 0 (BitVec.allOnes 128))) ∧
     (∀ i n p off m r a x, stxOf i = some (n, p, off, m, r) → a = (me s).ra m.toNat + BitVec.ofInt 64 (off.toInt * (n : Int)) →
       x = s.target s.cur.u s.cur.scope a n .write →
       ((∀ k < n, laneOn s p n r k = false) → exec i s = .next s) ∧
       (∀ k₀, k₀ < n → laneOn s p n r k₀ = true → Clear s x.verdict → ∃ (t : State) (lanes : PReg), exec i s = .next t ∧
         Adds s t .stx a n x (BitVec.ofNat 1024 (((me s).rv (partReg n r)).toNat / 256 ^ partByte n r % 256 ^ n)) 0 lanes ∧
         (∀ k, k < 128 → lanes.getLsbD k = (decide (k < n) && laneOn s p n r k))))) ∧
  (∀ (s : State) (u : UnitId) (scope : Nat) (a : W64) (size : Nat) (acc : Acc) (v : Verdict), v = (s.target u scope a size acc).verdict →
     (gaFormOk a = false → v = .fault 0x2C#7 0) ∧
     (gaFormOk a = true → scope < gaScope (unitTile u) a → v = .fault 0x2D#7 0) ∧
     (gaFormOk a = true → gaScope (unitTile u) a ≤ scope → gaTile a = true → gaPeer a ≠ 0 → (s.port (gaPeer a - 1)).up = false → v = .fault 0x3A#7 0) ∧
     (gaFormOk a = true → gaScope (unitTile u) a ≤ scope → (gaTile a = true → gaPeer a ≠ 0 → (s.port (gaPeer a - 1)).up = true) →
       (a.toNat % size ≠ 0 → v = .fault 0x24#7 0) ∧ (a.toNat % size = 0 → gaTile a = true → v = .ok)) ∧
     (gaTile a = true → gaFormOk a = true → gaPeer a ≤ 48 ∧ gaTileNo a < 2304 ∧ a.toNat / 2 ^ 52 % 2 ^ 11 = 0 ∧ a.toNat / 2 ^ 20 % 2 ^ 12 = 0) ∧
     (gaTile a = false → gaFormOk a = true → a.toNat / 2 ^ 56 % 2 ^ 7 = 0))

/-- An atomic other than ATM.dec: size in bytes, guard, OFF, AREG, register, and what it writes from the old value and its two operands (R370). -/
def Sys2Proof.Claims.atmOf : Instr → Option (AtmOp × Nat × BitVec 4 × BitVec 12 × BitVec 4 × BitVec 6 × (Nat → Nat → Nat → Nat))
  | .atmAddW p off m r => some (.add, 4, p, off, m, r, fun old v _ => (old + v) % 2 ^ 32)
  | .atmAndW p off m r => some (.and, 4, p, off, m, r, fun old v _ => old &&& v)
  | .atmOrW p off m r => some (.or, 4, p, off, m, r, fun old v _ => old ||| v)
  | .atmXorW p off m r => some (.xor, 4, p, off, m, r, fun old v _ => old ^^^ v)
  | .atmSwpW p off m r => some (.swp, 4, p, off, m, r, fun _ v _ => v)
  | .atmCasW p off m r => some (.cas, 4, p, off, m, r, fun old v w => if old = v then w else old)
  | .atmMinW p off m r => some (.min, 4, p, off, m, r, fun old v _ => if signed 32 v < signed 32 old then v else old)
  | .atmMaxW p off m r => some (.max, 4, p, off, m, r, fun old v _ => if signed 32 old < signed 32 v then v else old)
  | .atmAdd p off m r => some (.add, 8, p, off, m, r, fun old v _ => (old + v) % 2 ^ 64)
  | .atmAnd p off m r => some (.and, 8, p, off, m, r, fun old v _ => old &&& v)
  | .atmOr p off m r => some (.or, 8, p, off, m, r, fun old v _ => old ||| v)
  | .atmXor p off m r => some (.xor, 8, p, off, m, r, fun old v _ => old ^^^ v)
  | .atmSwp p off m r => some (.swp, 8, p, off, m, r, fun _ v _ => v)
  | .atmCas p off m r => some (.cas, 8, p, off, m, r, fun old v w => if old = v then w else old)
  | .atmMin p off m r => some (.min, 8, p, off, m, r, fun old v _ => if signed 64 v < signed 64 old then v else old)
  | .atmMax p off m r => some (.max, 8, p, off, m, r, fun old v _ => if signed 64 old < signed 64 v then v else old)
  | .atmFmaxF32 p off m r => some (.fmaxF32, 4, p, off, m, r, fun old v _ => if image 32 old < image 32 v then v else old)
  | .atmFmaxBf16 p off m r => some (.fmaxBf16, 2, p, off, m, r, fun old v _ => if image 16 old < image 16 v then v else old)
  | .atmFmaxF16 p off m r => some (.fmaxF16, 2, p, off, m, r, fun old v _ => if image 16 old < image 16 v then v else old)
  | _ => none

/-- R362, R370, R371: an atomic guarded off does nothing; on a tile at SCOPE 0, its address passing its checks, it writes its new value to its own scratchpad and delivers
the old one, zero-extended, at latency 4; at SCOPE 1 to 4 it adds one remote access with its operands; on a control core it writes memory at its physical address and delivers
the old value.
R364, R370: at its home, an atomic that passes the target's checks writes its new value and returns the old in one step; one that fails them has no effect and reports its
cause; an uncorrectable line of device memory that it met is recorded (R31).
Where the spec leaves a reading open, the model's own is that of log entries 31 and 61. -/
def Obligations.Atomics : Prop :=
  (∀ (s : State) (i : Instr) (op : AtmOp) (n : Nat) (p : BitVec 4) (off : BitVec 12) (m : BitVec 4) (r : BitVec 6) (f : Nat → Nat → Nat → Nat) (a : W64)
     (v w : Nat), atmOf i = some (op, n, p, off, m, r, f) → a = (me s).ra m.toNat + BitVec.ofInt 64 (off.toInt * (n : Int)) →
     v = (gr s r).toNat % 2 ^ (8 * n) → w = ((me s).rg ((r.toNat + 1) % 64)).toNat % 2 ^ (8 * n) →
     ((me s).guard p = false → exec i s = .next s) ∧
     (∀ x old, (me s).guard p = true → unitIsCore s.cur.u = false → s.cur.scope = 0 → x = s.local s.cur.u m off n true → Clear s x.verdict →
       old = ofBytes (x.bytes.map (pad s).padByte) →
       exec i s = .next ((s.modTile (unitTile s.cur.u) (fun t => t.padSet (x.bytes.zip (toBytes n (f old v w))))).result64
         s.cur.u (.g r.toNat) (BitVec.ofNat 64 old) 4)) ∧
     (∀ x, (me s).guard p = true → unitIsCore s.cur.u = false → s.cur.scope ≠ 0 → x = s.target s.cur.u s.cur.scope a n .update → Clear s x.verdict →
       ∃ t, exec i s = .next t ∧ Adds s t (.atm op r.toNat) a n x ((gr s r).setWidth 1024) ((me s).rg ((r.toNat + 1) % 64)) (BitVec.allOnes 128)) ∧
     (∀ x, (me s).guard p = true → unitIsCore s.cur.u = true → x = s.vaccess s.cur.u a n .update → Clear s x.verdict →
       exec i s = .next ((s.coreWrite x.pa n (f (s.coreRead x.pa n) v w)).result64 s.cur.u (.g r.toNat) (BitVec.ofNat 64 (s.coreRead x.pa n)) 4))) ∧
  (∀ (s : State) (i : Instr) (op : AtmOp) (n : Nat) (p : BitVec 4) (off : BitVec 12) (m : BitVec 4) (r : BitVec 6) (f : Nat → Nat → Nat → Nat) (tn : Nat)
     (a : W64) (pa v w : Nat), atmOf i = some (op, n, p, off, m, r, f) →
     ∀ h, h = s.atHome tn (.atm op r.toNat) a pa n v w (BitVec.allOnes 128) →
     (s.homeFails tn (.atm op r.toNat) a pa n true = none →
       h.st = s.homeWrite a pa n (f (s.homeRead a pa n) (v % 2 ^ (8 * n)) (w % 2 ^ (8 * n))) (BitVec.allOnes 128) ∧
       h.val = s.homeRead a pa n ∧ h.fail = none) ∧
     (∀ c, s.homeFails tn (.atm op r.toNat) a pa n true = some c → h.fail = some c ∧ h.val = 0 ∧
       (gaTile a = true → h.st = s) ∧ (gaTile a = false → h.st = s.failedAt c pa) ∧ (c ≠ 0x77#7 → h.st = s)))

/-- R260, R372: ATM.dec at SCOPE below 3 faults JOIN_SCOPE, or the lower cause of another check that fails; at SCOPE 3 or 4 an address not aligned at 128 that passes the other checks faults MISALIGNED; one that passes them all
adds its remote decrement; at the home COUNT falls by one, wrapping from 0, and the CONT is released exactly when COUNT was 1.
R364: a decrement from 1 whose CONT cannot be read has no effect and reports the cause; an uncorrectable line of device memory that it met is recorded (R31).
Where the spec leaves a reading open, the model's own is that of log entry 22. -/
def Obligations.DecrementResults : Prop :=
  ∀ (s : State) (p : BitVec 4) (off : BitVec 12) (m : BitVec 4) (r : BitVec 6) (a : W64),
    a = (me s).ra m.toNat + BitVec.ofInt 64 (off.toInt * 8) →
    ((me s).guard p = false → exec (.atmDec p off m r) s = .next s) ∧
    (∀ x, (me s).guard p = true → s.cur.checked = false → s.cur.scope < 3 → a.toNat % 128 = 0 → x = s.target s.cur.u s.cur.scope a 8 .update →
      x.verdict = .ok → exec (.atmDec p off m r) s = .next (s.refuse (.fault 0x67#7 0))) ∧
    (∀ x c f, (me s).guard p = true → s.cur.checked = false → s.cur.scope < 3 → a.toNat % 128 = 0 → x = s.target s.cur.u s.cur.scope a 8 .update →
      x.verdict = .fault c f → c.toNat < 0x67 → exec (.atmDec p off m r) s = .next (s.refuse (.fault c f))) ∧
    (∀ x, (me s).guard p = true → s.cur.checked = false → 3 ≤ s.cur.scope → a.toNat % 128 ≠ 0 → x = s.target s.cur.u s.cur.scope a 8 .update →
      x.verdict = .ok → exec (.atmDec p off m r) s = .next (s.refuse (.fault 0x24#7 0))) ∧
    (∀ x, (me s).guard p = true → 3 ≤ s.cur.scope → a.toNat % 128 = 0 → x = s.target s.cur.u s.cur.scope a 8 .update → Clear s x.verdict →
      ∃ t, exec (.atmDec p off m r) s = .next t ∧
        Adds s t (.atm .dec r.toNat) a 8 x ((gr s r).setWidth 1024) ((me s).rg ((r.toNat + 1) % 64)) (BitVec.allOnes 128)) ∧
    (∀ (tn : Nat) (g : W64) (pa : Nat) (h : HomeR) (c : Cause), h = s.decAt tn g pa → s.homeRead g pa 8 = 1 →
      s.homeFails tn (.ldx 0) (g + 64) (pa + 64) 64 true = some c → h.fail = some c ∧ h.cont = none ∧
        (gaTile g = true → h.st = s) ∧ (gaTile g = false → h.st = s.failedAt c (pa + 64)) ∧ (c ≠ 0x77#7 → h.st = s)) ∧
    (∀ (tn : Nat) (g : W64) (pa : Nat) (h : HomeR), h = s.decAt tn g pa →
      (s.homeRead g pa 8 = 1 → s.homeFails tn (.ldx 0) (g + 64) (pa + 64) 64 true = none) →
      h.val = s.homeRead g pa 8 ∧ h.fail = none ∧
      h.st = s.homeWrite g pa 8 ((s.homeRead g pa 8 + (2 ^ 64 - 1)) % 2 ^ 64) (BitVec.allOnes 128) ∧
      h.cont = if s.homeRead g pa 8 = 1 then some (s.homeRead (g + 64) (pa + 64) 64) else none)

/-! ## Vector slots -/

/-- A vector operation that delivers elements to a part of vd: guard, last source, destination, width code, element size, number of elements, latency, the check it makes
beside its source's, and each element's value with its flags. -/
structure Sys2Proof.Claims.VForm where
  p    : BitVec 4
  v    : VSrc
  vd   : BitVec 6
  wid  : BitVec 2
  z    : Nat
  n    : Nat
  lat  : Nat
  pre  : Verdict
  elem : Nat → Nat × Flags

/-- Element e of size z of a number. -/
def Sys2Proof.Claims.el (z x e : Nat) : Nat := x / 2 ^ (z * e) % 2 ^ z

/-- The bits of a register part. -/
def Sys2Proof.Claims.vp (s : State) (wid : BitVec 2) (f : BitVec 6) : Nat := (me s).part (partOf wid f)

/-- Elements of a type in a width. -/
def Sys2Proof.Claims.count (ty : BitVec 4) (wid : BitVec 2) : Nat := widBits wid / tyBits ty.toNat

/-- An elementwise operation of one source (R393). -/
def Sys2Proof.Claims.form1 (s : State) (p : BitVec 4) (v : VSrc) (vd : BitVec 6) (ty : BitVec 4) (wid : BitVec 2) (lat : Nat) (f : Nat → Nat × Flags) : VForm :=
  { p := p, v := v, vd := vd, wid := wid, z := tyBits ty.toNat, n := count ty wid, lat := lat, pre := .ok,
    elem := fun e => f (el (tyBits ty.toNat) (vsrc s wid v) e) }

/-- An elementwise operation of va and the last source. -/
def Sys2Proof.Claims.form2 (s : State) (p : BitVec 4) (v : VSrc) (va vd : BitVec 6) (ty : BitVec 4) (wid : BitVec 2) (lat : Nat) (f : Nat → Nat → Nat × Flags) :
    VForm :=
  { p := p, v := v, vd := vd, wid := wid, z := tyBits ty.toNat, n := count ty wid, lat := lat, pre := .ok,
    elem := fun e => f (el (tyBits ty.toNat) (vp s wid va) e) (el (tyBits ty.toNat) (vsrc s wid v) e) }

/-- An elementwise operation of va, the last source and vd. -/
def Sys2Proof.Claims.form3 (s : State) (p : BitVec 4) (v : VSrc) (va vd : BitVec 6) (ty : BitVec 4) (wid : BitVec 2) (lat : Nat)
    (f : Nat → Nat → Nat → Nat × Flags) : VForm :=
  { p := p, v := v, vd := vd, wid := wid, z := tyBits ty.toNat, n := count ty wid, lat := lat, pre := .ok,
    elem := fun e => f (el (tyBits ty.toNat) (vp s wid va) e) (el (tyBits ty.toNat) (vsrc s wid v) e) (el (tyBits ty.toNat) (vp s wid vd) e) }

/-- Float arithmetic, comparisons of two, integer arithmetic and logic: the elementwise operations (R394-R398, R407, R411). -/
def Sys2Proof.Claims.elementwise (s : State) : Instr → Option VForm
  | .vadd p vb va vd ty wid => some (form2 s p (.reg vb) va vd ty wid (4) (fAdd (vfmt ty) (me s).rm))
  | .vaddStream p q va vd ty wid => some (form2 s p (.str q) va vd ty wid (4) (fAdd (vfmt ty) (me s).rm))
  | .vsub p vb va vd ty wid => some (form2 s p (.reg vb) va vd ty wid (4) (fSub (vfmt ty) (me s).rm))
  | .vsubStream p q va vd ty wid => some (form2 s p (.str q) va vd ty wid (4) (fSub (vfmt ty) (me s).rm))
  | .vmul p vb va vd ty wid => some (form2 s p (.reg vb) va vd ty wid (4) (fMul (vfmt ty) (me s).rm))
  | .vmulStream p q va vd ty wid => some (form2 s p (.str q) va vd ty wid (4) (fMul (vfmt ty) (me s).rm))
  | .vmin p vb va vd ty wid => some (form2 s p (.reg vb) va vd ty wid (latFI ty) (fun a b => quiet (elemMinMax ty false a b)))
  | .vminStream p q va vd ty wid => some (form2 s p (.str q) va vd ty wid (latFI ty) (fun a b => quiet (elemMinMax ty false a b)))
  | .vmax p vb va vd ty wid => some (form2 s p (.reg vb) va vd ty wid (latFI ty) (fun a b => quiet (elemMinMax ty true a b)))
  | .vmaxStream p q va vd ty wid => some (form2 s p (.str q) va vd ty wid (latFI ty) (fun a b => quiet (elemMinMax ty true a b)))
  | .viadd p vb va vd ty wid => some (form2 s p (.reg vb) va vd ty wid (2) (fun a b => quiet ((a + b) % 2 ^ tyBits ty.toNat)))
  | .viaddStream p q va vd ty wid => some (form2 s p (.str q) va vd ty wid (2) (fun a b => quiet ((a + b) % 2 ^ tyBits ty.toNat)))
  | .visub p vb va vd ty wid => some (form2 s p (.reg vb) va vd ty wid (2) (fun a b => quiet (wrap (tyBits ty.toNat) ((a : Int) - b))))
  | .visubStream p q va vd ty wid => some (form2 s p (.str q) va vd ty wid (2) (fun a b => quiet (wrap (tyBits ty.toNat) ((a : Int) - b))))
  | .vimul p vb va vd ty wid => some (form2 s p (.reg vb) va vd ty wid (2) (fun a b => quiet (a * b % 2 ^ tyBits ty.toNat)))
  | .vimulStream p q va vd ty wid => some (form2 s p (.str q) va vd ty wid (2) (fun a b => quiet (a * b % 2 ^ tyBits ty.toNat)))
  | .vshl p vb va vd ty wid => some (form2 s p (.reg vb) va vd ty wid (2) (fun a b => quiet (if b < tyBits ty.toNat then a * 2 ^ b % 2 ^ tyBits ty.toNat else 0)))
  | .vshlStream p q va vd ty wid => some (form2 s p (.str q) va vd ty wid (2) (fun a b => quiet (if b < tyBits ty.toNat then a * 2 ^ b % 2 ^ tyBits ty.toNat else 0)))
  | .vshr p vb va vd ty wid => some (form2 s p (.reg vb) va vd ty wid (2) (fun a b => quiet (if b < tyBits ty.toNat then a / 2 ^ b else 0)))
  | .vshrStream p q va vd ty wid => some (form2 s p (.str q) va vd ty wid (2) (fun a b => quiet (if b < tyBits ty.toNat then a / 2 ^ b else 0)))
  | .vsar p vb va vd ty wid => some (form2 s p (.reg vb) va vd ty wid (2) (fun a b => quiet (wrap (tyBits ty.toNat) (signed (tyBits ty.toNat) a / (2 ^ min b (tyBits ty.toNat) : Nat)))))
  | .vsarStream p q va vd ty wid => some (form2 s p (.str q) va vd ty wid (2) (fun a b => quiet (wrap (tyBits ty.toNat) (signed (tyBits ty.toNat) a / (2 ^ min b (tyBits ty.toNat) : Nat)))))
  | .vand p vb va vd ty wid => some (form2 s p (.reg vb) va vd ty wid (2) (fun a b => quiet (a &&& b)))
  | .vandStream p q va vd ty wid => some (form2 s p (.str q) va vd ty wid (2) (fun a b => quiet (a &&& b)))
  | .vor p vb va vd ty wid => some (form2 s p (.reg vb) va vd ty wid (2) (fun a b => quiet (a ||| b)))
  | .vorStream p q va vd ty wid => some (form2 s p (.str q) va vd ty wid (2) (fun a b => quiet (a ||| b)))
  | .vxor p vb va vd ty wid => some (form2 s p (.reg vb) va vd ty wid (2) (fun a b => quiet (a ^^^ b)))
  | .vxorStream p q va vd ty wid => some (form2 s p (.str q) va vd ty wid (2) (fun a b => quiet (a ^^^ b)))
  | .vfma p vb va vd ty wid => some (form3 s p (.reg vb) va vd ty wid (4) (fFma (vfmt ty) (me s).rm false))
  | .vfmaStream p q va vd ty wid => some (form3 s p (.str q) va vd ty wid (4) (fFma (vfmt ty) (me s).rm false))
  | .vfms p vb va vd ty wid => some (form3 s p (.reg vb) va vd ty wid (4) (fFma (vfmt ty) (me s).rm true))
  | .vfmsStream p q va vd ty wid => some (form3 s p (.str q) va vd ty wid (4) (fFma (vfmt ty) (me s).rm true))
  | .vabs p va vd ty wid => some (form1 s p (.reg va) vd ty wid (latFI ty) (fun a => quiet (elemAbs ty a)))
  | .vabsStream p q vd ty wid => some (form1 s p (.str q) vd ty wid (latFI ty) (fun a => quiet (elemAbs ty a)))
  | .vneg p va vd ty wid => some (form1 s p (.reg va) vd ty wid (latFI ty) (fun a => quiet (elemNeg ty a)))
  | .vnegStream p q vd ty wid => some (form1 s p (.str q) vd ty wid (latFI ty) (fun a => quiet (elemNeg ty a)))
  | .vsat p va vd ty wid => some (form1 s p (.reg va) vd ty wid (2) (elemSat ty.toNat))
  | .vsatStream p q vd ty wid => some (form1 s p (.str q) vd ty wid (2) (elemSat ty.toNat))
  | .vnot p va vd ty wid => some (form1 s p (.reg va) vd ty wid (2) (fun a => quiet (2 ^ tyBits ty.toNat - 1 - a)))
  | .vnotStream p q vd ty wid => some (form1 s p (.str q) vd ty wid (2) (fun a => quiet (2 ^ tyBits ty.toNat - 1 - a)))
  | .vmov p va vd ty wid => some (form1 s p (.reg va) vd ty wid (2) (quiet))
  | .vmovStream p q vd ty wid => some (form1 s p (.str q) vd ty wid (2) (quiet))
  | .vexp2 p va vd ty wid => some (form1 s p (.reg va) vd ty wid (12) (elemSpecial ty (me s).rm 0))
  | .vexp2Stream p q vd ty wid => some (form1 s p (.str q) vd ty wid (12) (elemSpecial ty (me s).rm 0))
  | .vlog2 p va vd ty wid => some (form1 s p (.reg va) vd ty wid (12) (elemSpecial ty (me s).rm 1))
  | .vlog2Stream p q vd ty wid => some (form1 s p (.str q) vd ty wid (12) (elemSpecial ty (me s).rm 1))
  | .vrcp p va vd ty wid => some (form1 s p (.reg va) vd ty wid (12) (elemSpecial ty (me s).rm 2))
  | .vrcpStream p q vd ty wid => some (form1 s p (.str q) vd ty wid (12) (elemSpecial ty (me s).rm 2))
  | .vrsq p va vd ty wid => some (form1 s p (.reg va) vd ty wid (12) (elemSpecial ty (me s).rm 3))
  | .vrsqStream p q vd ty wid => some (form1 s p (.str q) vd ty wid (12) (elemSpecial ty (me s).rm 3))
  | .vsqrt p va vd ty wid => some (form1 s p (.reg va) vd ty wid (12) (elemSpecial ty (me s).rm 4))
  | .vsqrtStream p q vd ty wid => some (form1 s p (.str q) vd ty wid (12) (elemSpecial ty (me s).rm 4))
  | .vsin p va vd ty wid => some (form1 s p (.reg va) vd ty wid (12) (elemSpecial ty (me s).rm 5))
  | .vsinStream p q vd ty wid => some (form1 s p (.str q) vd ty wid (12) (elemSpecial ty (me s).rm 5))
  | .vcos p va vd ty wid => some (form1 s p (.reg va) vd ty wid (12) (elemSpecial ty (me s).rm 6))
  | .vcosStream p q vd ty wid => some (form1 s p (.str q) vd ty wid (12) (elemSpecial ty (me s).rm 6))
  | .vtanh p va vd ty wid => some (form1 s p (.reg va) vd ty wid (12) (elemSpecial ty (me s).rm 7))
  | .vtanhStream p q vd ty wid => some (form1 s p (.str q) vd ty wid (12) (elemSpecial ty (me s).rm 7))
  | .vimg p inv va vd ty wid => some (form1 s p (.reg va) vd ty wid 2 (fun a => quiet (if inv = 1#1 then elemInvImage ty.toNat a else elemImage ty.toNat a)))
  | .vimgStream p inv q vd ty wid => some (form1 s p (.str q) vd ty wid 2 (fun a => quiet (if inv = 1#1 then elemInvImage ty.toNat a else elemImage ty.toNat a)))
  | _ => none

/-- VROPE on element e: of the pair (x, y) in vd, x·cos - y·sin, and x·sin + y·cos, each rounded once (R409). -/
def Sys2Proof.Claims.ropeElem (s : State) (ty : BitVec 4) (va vb vd : Nat) (e : Nat) : Nat × Flags :=
  let z := tyBits ty.toNat
  let f := vfmt ty
  let c := f.val (el z va (e / 2 * 2))
  let t := f.val (el z vb (e / 2 * 2))
  let x := f.val (el z vd (e / 2 * 2))
  let y := f.val (el z vd (e / 2 * 2 + 1))
  let r := if e % 2 = 0 then fvMul2Add (me s).rm x c y.neg t else fvMul2Add (me s).rm x t y c
  let v := f.deliver (me s).rm false r.1
  (v.1, v.2.or { nv := r.2 })

/-- Operations whose elements do not stand one above another: conversions, VIMAC, VQNT, VDQNT, VLSE, VROPE, VBCST and the moves across lanes (R397, R401-R404,
R407-R409, R412-R414). -/
def Sys2Proof.Claims.acrossLanes (s : State) : Instr → Option VForm
  | .vcvt p sat src vb vd ty wid => some ({ p := p, v := (.reg vb), vd := vd, wid := wid, z := tyBits ty.toNat, n := widBits wid / max (tyBits src.toNat) (tyBits ty.toNat), lat := 4, pre := .ok, elem := fun e => convElem src.toNat ty.toNat (me s).rm (sat = 1#1) (el (tyBits src.toNat) (vsrc s wid (.reg vb)) e) })
  | .vcvtStream p sat src q vd ty wid => some ({ p := p, v := (.str q), vd := vd, wid := wid, z := tyBits ty.toNat, n := widBits wid / max (tyBits src.toNat) (tyBits ty.toNat), lat := 4, pre := .ok, elem := fun e => convElem src.toNat ty.toNat (me s).rm (sat = 1#1) (el (tyBits src.toNat) (vsrc s wid (.str q)) e) })
  | .vimac p vb va vd ty wid => some ({ p := p, v := (.reg vb), vd := vd, wid := wid, z := 32, n := widBits wid / 32, lat := 2, pre := .ok, elem := fun e => elemMac ty ((List.range (32 / tyBits ty.toNat)).map (fun j => el (tyBits ty.toNat) (vp s wid va) (e * (32 / tyBits ty.toNat) + j))) ((List.range (32 / tyBits ty.toNat)).map (fun j => el (tyBits ty.toNat) (vsrc s wid (.reg vb)) (e * (32 / tyBits ty.toNat) + j))) (el 32 (vp s wid vd) e) })
  | .vimacStream p q va vd ty wid => some ({ p := p, v := (.str q), vd := vd, wid := wid, z := 32, n := widBits wid / 32, lat := 2, pre := .ok, elem := fun e => elemMac ty ((List.range (32 / tyBits ty.toNat)).map (fun j => el (tyBits ty.toNat) (vp s wid va) (e * (32 / tyBits ty.toNat) + j))) ((List.range (32 / tyBits ty.toNat)).map (fun j => el (tyBits ty.toNat) (vsrc s wid (.str q)) (e * (32 / tyBits ty.toNat) + j))) (el 32 (vp s wid vd) e) })
  | .vqnt p sat vb vd ty wid => some ({ p := p, v := (.reg vb), vd := vd, wid := wid, z := 8, n := widBits wid / 32, lat := 4, pre := (factorLocal s wid).verdict, elem := fun e => quantise ty.toNat (me s).rm (sat = 1#1) (tileScale s) ((factors s wid).getD e 0) (el 32 (vsrc s wid (.reg vb)) e) })
  | .vqntStream p sat q vd ty wid => some ({ p := p, v := (.str q), vd := vd, wid := wid, z := 8, n := widBits wid / 32, lat := 4, pre := (factorLocal s wid).verdict, elem := fun e => quantise ty.toNat (me s).rm (sat = 1#1) (tileScale s) ((factors s wid).getD e 0) (el 32 (vsrc s wid (.str q)) e) })
  | .vdqnt p vb vd ty wid => some ({ p := p, v := (.reg vb), vd := vd, wid := wid, z := 32, n := widBits wid / 32, lat := 4, pre := (factorLocal s wid).verdict, elem := fun e => dequantise ty.toNat (me s).rm (tileScale s) ((factors s wid).getD e 0) (el 8 (vsrc s wid (.reg vb)) e) })
  | .vdqntStream p q vd ty wid => some ({ p := p, v := (.str q), vd := vd, wid := wid, z := 32, n := widBits wid / 32, lat := 4, pre := (factorLocal s wid).verdict, elem := fun e => dequantise ty.toNat (me s).rm (tileScale s) ((factors s wid).getD e 0) (el 8 (vsrc s wid (.str q)) e) })
  | .vlse p vb va vd _ wid => some ({ p := p, v := (.reg vb), vd := vd, wid := wid, z := 32, n := widBits wid / 32, lat := 4, pre := .ok, elem := fun e => lseLane (me s).rm (el 32 (vsrc s wid (.reg vb)) 0) (el 32 (vsrc s wid (.reg vb)) 1) (el 32 (vp s wid va) e) (el 32 (vp s wid vd) e) })
  | .vlseStream p q va vd _ wid => some ({ p := p, v := (.str q), vd := vd, wid := wid, z := 32, n := widBits wid / 32, lat := 4, pre := .ok, elem := fun e => lseLane (me s).rm (el 32 (vsrc s wid (.str q)) 0) (el 32 (vsrc s wid (.str q)) 1) (el 32 (vp s wid va) e) (el 32 (vp s wid vd) e) })
  | .vrope p vb va vd ty wid => some ({ p := p, v := (.reg vb), vd := vd, wid := wid, z := tyBits ty.toNat, n := count ty wid, lat := 4, pre := .ok, elem := fun e => ropeElem s ty (vp s wid va) (vsrc s wid (.reg vb)) (vp s wid vd) e })
  | .vropeStream p q va vd ty wid => some ({ p := p, v := (.str q), vd := vd, wid := wid, z := tyBits ty.toNat, n := count ty wid, lat := 4, pre := .ok, elem := fun e => ropeElem s ty (vp s wid va) (vsrc s wid (.str q)) (vp s wid vd) e })
  | .vperm p vb va vd ty wid => some ({ p := p, v := (.reg vb), vd := vd, wid := wid, z := tyBits ty.toNat, n := count ty wid, lat := 3, pre := .ok, elem := fun e => quiet (if el (tyBits ty.toNat) (vsrc s wid (.reg vb)) e < count ty wid then el (tyBits ty.toNat) (vp s wid va) (el (tyBits ty.toNat) (vsrc s wid (.reg vb)) e) else 0) })
  | .vpermStream p q va vd ty wid => some ({ p := p, v := (.str q), vd := vd, wid := wid, z := tyBits ty.toNat, n := count ty wid, lat := 3, pre := .ok, elem := fun e => quiet (if el (tyBits ty.toNat) (vsrc s wid (.str q)) e < count ty wid then el (tyBits ty.toNat) (vp s wid va) (el (tyBits ty.toNat) (vsrc s wid (.str q)) e) else 0) })
  | .vzip p vb va vd ty wid => some ({ p := p, v := (.reg vb), vd := vd, wid := wid, z := tyBits ty.toNat, n := count ty wid, lat := 3, pre := .ok, elem := fun e => quiet (el (tyBits ty.toNat) (if e % 2 = 0 then vp s wid va else vsrc s wid (.reg vb)) (e / 2)) })
  | .vzipStream p q va vd ty wid => some ({ p := p, v := (.str q), vd := vd, wid := wid, z := tyBits ty.toNat, n := count ty wid, lat := 3, pre := .ok, elem := fun e => quiet (el (tyBits ty.toNat) (if e % 2 = 0 then vp s wid va else vsrc s wid (.str q)) (e / 2)) })
  | .vshuf p vb va vd ty wid => some ({ p := p, v := (.reg vb), vd := vd, wid := wid, z := tyBits ty.toNat, n := count ty wid, lat := 3, pre := .ok, elem := fun e => quiet (el (tyBits ty.toNat) (if e % 2 = 0 then vp s wid va else vsrc s wid (.reg vb)) (count ty wid / 2 + e / 2)) })
  | .vshufStream p q va vd ty wid => some ({ p := p, v := (.str q), vd := vd, wid := wid, z := tyBits ty.toNat, n := count ty wid, lat := 3, pre := .ok, elem := fun e => quiet (el (tyBits ty.toNat) (if e % 2 = 0 then vp s wid va else vsrc s wid (.str q)) (count ty wid / 2 + e / 2)) })
  | .vtrnStream p q vd _ wid => if wid = 2#2 then some { p := p, v := .str q, vd := vd, wid := wid, z := 16, n := 64, lat := 3, pre := .ok, elem := fun e => quiet (el 16 (vsrc s wid (.str q)) (8 * (e % 8) + e / 8)) } else none
  | .vtrn p va vd ty wid => if wid = 2#2 ∧ tyTrn32 ty = false then some { p := p, v := .reg va, vd := vd, wid := wid, z := 16, n := 64, lat := 3, pre := .ok, elem := fun e => quiet (el 16 (vp s wid va) (8 * (e % 8) + e / 8)) } else none
  | .vbcst p g vd ty wid => some { p := p, v := .reg vd, vd := vd, wid := wid, z := tyBits ty.toNat, n := count ty wid, lat := 2, pre := .ok, elem := fun _ => quiet ((gr s g).toNat % 2 ^ tyBits ty.toNat) }
  | _ => none

/-- Element e of the destination is guarded on (R392). -/
def Sys2Proof.Claims.VForm.on (s : State) (f : VForm) (e : Nat) : Bool := (me s).guardAt f.p (((partOf f.wid f.vd).off + e * f.z) / 8)

/-- The flags of the active elements, ORed (R392). -/
def Sys2Proof.Claims.VForm.flags (s : State) (f : VForm) : Flags :=
  (List.range f.n).foldr (fun e a => (if f.on s e then (f.elem e).2 else Flags.none).or a) Flags.none

/-- What a vector operation of a form does: with no element active nothing; otherwise, its source at hand and no raised flag masked to trap, its active elements
land in their places of vd's part at the latency, the rest of the register keeping its value, with their flags, and a stream it reads pops when the bundle ends. -/
def Sys2Proof.Claims.VForm.Does (s : State) (i : Instr) (f : VForm) : Prop :=
  ((∀ e < f.n, f.on s e = false) → exec i s = .next s) ∧
  (∀ e₀, e₀ < f.n → f.on s e₀ = true → Clear s (((srcCheck s f.v).both f.pre).andThen (flagTrap (me s) (f.flags s))) → ∃ val mask : VReg,
    exec i s = .next ((s.result s.cur.u (.v (partOf f.wid f.vd).reg) val mask f.lat (f.flags s).toBits).popSrc f.v) ∧
    (∀ e, e < f.n → f.on s e = true → el f.z (val.toNat / 2 ^ (partOf f.wid f.vd).off) e = (f.elem e).1 % 2 ^ f.z) ∧
    (∀ j, j < 1024 → mask.getLsbD j =
      (decide ((partOf f.wid f.vd).off ≤ j ∧ j < (partOf f.wid f.vd).off + f.n * f.z) && f.on s ((j - (partOf f.wid f.vd).off) / f.z)))) ∧
  (∀ c a, (∃ e < f.n, f.on s e = true) → s.cur.checked = false → srcCheck s f.v = .ok → f.pre = .ok → flagTrap (me s) (f.flags s) = .fault c a →
    exec i s = .next (s.refuse (.fault c a)))

/-- R392-R398, R407, R411: every elementwise vector operation, with its last source in a register or from a stream, does what its elements give.
Where the spec leaves a reading open, the model's own is that of log entries 4 and 28. -/
def Obligations.ElementwiseResults : Prop := ∀ (s : State) (i : Instr) (f : VForm), elementwise s i = some f → f.Does s i

/-- R392, R393, R397, R401-R404, R407-R409, R412-R414: so do the conversions, VIMAC, VQNT, VDQNT, VLSE, VROPE, VBCST, VPERM, VZIP, VSHUF and the 16-bit VTRN.
Where the spec leaves a reading open, the model's own is that of log entries 28 and 79. -/
def Obligations.AcrossLaneResults : Prop := ∀ (s : State) (i : Instr) (f : VForm), acrossLanes s i = some f → f.Does s i

/-- A vector compare: guard, source, va, condition, destination, type, width. -/
def Sys2Proof.Claims.vcmpOf : Instr → Option (BitVec 4 × VSrc × BitVec 6 × BitVec 2 × BitVec 4 × BitVec 4 × BitVec 2)
  | .vcmp p vb va cc pd ty wid => some (p, .reg vb, va, cc, pd, ty, wid)
  | .vcmpStream p q va cc pd ty wid => some (p, .str q, va, cc, pd, ty, wid)
  | _ => none

/-- A VSEL: guard, source, va, vd, type, width. -/
def Sys2Proof.Claims.vselOf : Instr → Option (BitVec 4 × VSrc × BitVec 6 × BitVec 6 × BitVec 4 × BitVec 2)
  | .vsel p vb va vd ty wid => some (p, .reg vb, va, vd, ty, wid)
  | .vselStream p q va vd ty wid => some (p, .str q, va, vd, ty, wid)
  | _ => none

/-- A reduction: 0 sum, 1 maximum, 2 minimum. -/
def Sys2Proof.Claims.vredOf : Instr → Option (Nat × BitVec 4 × VSrc × BitVec 6 × BitVec 4 × BitVec 2)
  | .vrsum p va vd ty wid => some (0, p, .reg va, vd, ty, wid)
  | .vrsumStream p q vd ty wid => some (0, p, .str q, vd, ty, wid)
  | .vrmax p va vd ty wid => some (1, p, .reg va, vd, ty, wid)
  | .vrmaxStream p q vd ty wid => some (1, p, .str q, vd, ty, wid)
  | .vrmin p va vd ty wid => some (2, p, .reg va, vd, ty, wid)
  | .vrminStream p q vd ty wid => some (2, p, .str q, vd, ty, wid)
  | _ => none

/-- A part of vd is written whole: value x in its low bits, the other bits of the part zero. -/
def Sys2Proof.Claims.wholePart (s : State) (wid : BitVec 2) (vd : BitVec 6) (x lat : Nat) (f : Flags) : State :=
  s.result s.cur.u (.v (partOf wid vd).reg) (BitVec.ofNat 1024 (x * 2 ^ (partOf wid vd).off))
    (BitVec.ofNat 1024 ((2 ^ widBits wid - 1) * 2 ^ (partOf wid vd).off)) lat f.toBits

/-- R399: a VCMP with an active element and its source at hand writes, at the type's latency, the outcome of each active element to the predicate bits of that element's bytes in
va's register, the other bits keeping their value; a NaN makes every condition but ne false; with none active it does nothing.
R400: VSEL, its source at hand, writes every element of the part at latency 2, from va where its predicate holds, else from the last source. -/
def Obligations.VectorCompareAndSelectResults : Prop :=
  (∀ (s : State) (i : Instr) (p : BitVec 4) (v : VSrc) (va : BitVec 6) (cc : BitVec 2) (pd ty : BitVec 4) (wid : BitVec 2) (z o : Nat) (on : Nat → Bool),
     vcmpOf i = some (p, v, va, cc, pd, ty, wid) → z = tyBits ty.toNat → 8 ≤ z → o = (partOf wid va).off / 8 →
     (∀ e, on e = (me s).guardAt p (o + e * (z / 8))) →
     ((∀ e < count ty wid, on e = false) → exec i s = .next s) ∧
     (∀ e₀, e₀ < count ty wid → on e₀ = true → Clear s (srcCheck s v) → ∃ val mask : VReg,
       exec i s = .next ((s.result s.cur.u (.p pd.toNat) val mask (latFI ty) 0).popSrc v) ∧
       (∀ j, j < 1024 → mask.getLsbD j = (decide (o ≤ j ∧ j < o + count ty wid * (z / 8)) && on ((j - o) / (z / 8)))) ∧
       (∀ e j, e < count ty wid → j < z / 8 → on e = true →
         val.getLsbD (o + e * (z / 8) + j) = elemCmp ty cc (el z (vp s wid va) e) (el z (vsrc s wid v) e))) ∧
     (∀ a b, tyF ty = true → ((vfmt ty).val a = .nan ∨ (vfmt ty).val b = .nan) → elemCmp ty cc a b = decide (cc = 1#2))) ∧
  (∀ (s : State) (i : Instr) (p : BitVec 4) (v : VSrc) (va vd : BitVec 6) (ty : BitVec 4) (wid : BitVec 2) (z : Nat),
     vselOf i = some (p, v, va, vd, ty, wid) → z = tyBits ty.toNat → Clear s (srcCheck s v) →
     ∃ x, exec i s = .next ((wholePart s wid vd x 2 Flags.none).popSrc v) ∧ ∀ e, e < count ty wid →
       el z x e = if (me s).guardAt p (((partOf wid vd).off + e * z) / 8) then el z (vp s wid va) e else el z (vsrc s wid v) e)

/-- R406: a reduction, its source at hand where some input is selected and no raised flag masked to trap, writes the whole part at the type's latency with the reduced value of the selected
inputs, an unselected one counting as the identity; a stream is popped only when some input is selected; integer sums are exact modulo 2^64. -/
def Obligations.ReductionResults : Prop :=
  ∀ (s : State) (i : Instr) (k : Nat) (p : BitVec 4) (v : VSrc) (vd : BitVec 6) (ty : BitVec 4) (wid : BitVec 2) (act : List Bool) (r : Nat × Flags),
    vredOf i = some (k, p, v, vd, ty, wid) →
    act = (List.range (count ty wid)).map (fun e => (me s).guardAt p (((partOf wid vd).off + e * tyBits ty.toNat) / 8)) →
    r = reduce ty (me s).rm k act ((List.range (count ty wid)).map (fun e => el (tyBits ty.toNat) (vsrc s wid v) e)) →
    (true ∈ act → Clear s ((srcCheck s v).andThen (flagTrap (me s) r.2)) → exec i s = .next ((wholePart s wid vd r.1 (latFI ty) r.2).popSrc v)) ∧
    (true ∉ act → Clear s (flagTrap (me s) r.2) → exec i s = .next (wholePart s wid vd r.1 (latFI ty) r.2)) ∧
    (tyF ty = false → k = 0 → r = (wrap 64 ((List.range (count ty wid)).foldl
      (fun a e => a + if act.getD e false then intOf ty.toNat (el (tyBits ty.toNat) (vsrc s wid v) e) else 0) 0), Flags.none))

/-- R410, R414: VNANP copies the NaN mask of the last drained row, four bits a word, under its guard; the 32-bit VTRN writes the transpose of the eight by eight words of a register pair to a pair, each
destination word under its guard. -/
def Obligations.NanMaskAndTranspose : Prop :=
  ∀ (s : State),
    (∀ p pd, (∀ e < 32, (me s).guardAt p (4 * e) = false) → exec (.vnanp p pd) s = .next s) ∧
    (∀ p pd e₀, e₀ < 32 → (me s).guardAt p (4 * e₀) = true → ∃ val mask : VReg, exec (.vnanp p pd) s = .next (s.result s.cur.u (.p pd.toNat) val mask 2 0) ∧
      (∀ j, j < 128 → val.getLsbD j = (lastNanRow s).getLsbD (j / 4)) ∧
      (∀ j, j < 1024 → mask.getLsbD j = (decide (j < 128) && (me s).guardAt p (4 * (j / 4))))) ∧
    (∀ p va vd ty wid, tyTrn32 ty = true → (∀ e < 32, (me s).guardAt p (4 * e) = false) → exec (.vtrn p va vd ty wid) s = .next s) ∧
    (∀ p va vd ty wid e₀, tyTrn32 ty = true → e₀ < 32 → (me s).guardAt p (4 * e₀) = true → ∃ lo hi mask : VReg,
      exec (.vtrn p va vd ty wid) s = .next ((s.result s.cur.u (.v vd.toNat) lo mask 3 0).result s.cur.u (.v (vd.toNat + 1)) hi mask 3 0) ∧
      (∀ j, j < 1024 → mask.getLsbD j = (me s).guardAt p (4 * (j / 32))) ∧
      (∀ r c, r < 8 → c < 8 → ∀ src dst,
        src = (if 8 * c + r < 32 then el 32 ((me s).rv va.toNat).toNat (8 * c + r) else el 32 ((me s).rv (va.toNat + 1)).toNat (8 * c + r - 32)) →
        dst = (if 8 * r + c < 32 then el 32 lo.toNat (8 * r + c) else el 32 hi.toNat (8 * r + c - 32)) → dst = src))

/-! ## Engine commands -/

/-- A command at the end of one of the queues of its tile or context. -/
inductive Sys2Proof.Claims.Queued where
  | mq (op : MOp)
  | hq (c : HCmd)
  | cq (c : CCmd)
  | kq (c : KCmd)
  | fq (c : FCmd)

/-- The queues of s's own tile and context stand in t with the command added behind, and the other queues as they were. -/
def Sys2Proof.Claims.Queued.In (c : Queued) (s t : State) : Prop :=
  let n := unitTile s.cur.u
  let k := unitCtx s.cur.u
  (t.tile n).mq = (s.tile n).mq ++ (match c with | .mq op => [{ op := op, ctx := k, seq := s.seq }] | _ => []) ∧
  (t.ctx n k).hq = (s.ctx n k).hq ++ (match c with | .hq x => [x] | _ => []) ∧
  (t.ctx n k).cq = (s.ctx n k).cq ++ (match c with | .cq x => [x] | _ => []) ∧
  (t.ctx n k).kq = (s.ctx n k).kq ++ (match c with | .kq x => [x] | _ => []) ∧
  (t.ctx n k).fq = (s.ctx n k).fq ++ (match c with | .fq x => [x] | _ => [])

/-- What the issue of an engine command leaves: memory, the cores, every other tile, every thread with its registers, and its own tile's scratchpad, tags, accumulators,
weights, streams and deques. A command of a redundant pair is noted with the tile of the other copy (R279), and nothing else is done there. -/
def Sys2Proof.Claims.QueueFrame (s t : State) : Prop :=
  let n := unitTile s.cur.u
  t.mem = s.mem ∧ t.cores = s.cores ∧ (∀ m, m ≠ n → t.tile m = { s.tile m with follows := (t.tile m).follows }) ∧
  (((s.ctx n (unitCtx s.cur.u)).task.bind Task.twin) = none → ∀ m, m ≠ n → t.tile m = s.tile m) ∧ (∀ u, t.thread u = s.thread u) ∧
  (t.tile n).pad = (s.tile n).pad ∧ (t.tile n).tags = (s.tile n).tags ∧ (t.tile n).acc = (s.tile n).acc ∧ (t.tile n).front = (s.tile n).front ∧
  (∀ k, (t.ctx n k).q = (s.ctx n k).q ∧ (t.ctx n k).deque = (s.ctx n k).deque ∧ (t.ctx n k).remote = (s.ctx n k).remote)

/-- A handle's number as the instance that it names now. -/
def Sys2Proof.Claims.inst (s : State) (h : BitVec 5) : Nat := ((pad s).handle h.toNat).inst

/-- An operand that names a word of the scratchpad: bits [63:20] zero, aligned at n (R444). -/
def Sys2Proof.Claims.wordOperand (v : W64) (n : Nat) : Prop := v.toNat < 2 ^ 20 ∧ v.toNat % n = 0

/-- The graph and node of the task in hand. -/
def Sys2Proof.Claims.nodeOfTask (s : State) : Nat × Nat :=
  ((((s.ctx (unitTile s.cur.u) (unitCtx s.cur.u)).task).map Task.gid).getD 0, (((s.ctx (unitTile s.cur.u) (unitCtx s.cur.u)).task).map Task.node).getD 0)

/-- Commands of the matrix queue: what is queued, and the condition on the state and the operands beside room in the queue (R417, R422-R441). -/
def Sys2Proof.Claims.matrixCmd (s : State) : Instr → Option (Bool × MOp × Prop)
  | .mcfg imm => some (false, .mcfg imm, True)
  | .mldw => some (false, .mldw, True)
  | .mswap => some (false, .mswap, True)
  | .mpush acc b r h => some (false, .run false (decide (acc = 1#1)) b.toNat r.toNat (inst s h) h.toNat, True)
  | .macw acc b r h => some (false, .run true (decide (acc = 1#1)) b.toNat r.toNat (inst s h) h.toNat, True)
  | .mshiftZero h => some (false, .mshift 0 (inst s h) h.toNat, True)
  | .mshiftBack h => some (false, .mshift 1 (inst s h) h.toNat, True)
  | .mshiftFwd h => some (false, .mshift 2 (inst s h) h.toNat, True)
  | .mdrain b r n => some (false, .mdrain b.toNat r.toNat (n.toNat + 1), True)
  | .mzero b r n => some (false, .mzero b.toNat r.toNat (n.toNat + 1), True)
  | .nibset g => some (true, .nibset (nibWord s g), nibReserved (nibWord s g) = false)
  | .cbld h g => some (true, .cbld (gr s g) (inst s h) ((pad s).handle ((gr s g).toNat % 32)).inst, cbldCheck (gr s g) = .ok)
  | .trdef h slot => some (true, .trdef slot.toNat (inst s h), True)
  | _ => none

/-- Commands of the handle queue (R377-R381). -/
def Sys2Proof.Claims.handleCmd (s : State) : Instr → Option (HCmd × Prop)
  | .hopen h => some (.hopen (inst s h) s.seq, ((pad s).handle h.toNat).kind = 1#2)
  | .hpub h g => some (.hpub (inst s h) (gr s g).toNat s.seq, ((pad s).handle h.toNat).kind = 1#2 ∨ (((pad s).handle h.toNat).kind = 2#2 ∧
      0 < (gr s g).toNat ∧ (gr s g).toNat ≤ ((pad s).handle h.toNat).rows))
  | .hrel h g => some (.hrel (inst s h) (gr s g).toNat s.seq, ((pad s).handle h.toNat).kind = 1#2 ∨ (((pad s).handle h.toNat).kind = 2#2 ∧
      0 < (gr s g).toNat ∧ (gr s g).toNat ≤ ((pad s).handle h.toNat).rows))
  | .binit gv ga => some (.binit (gr s ga).toNat (gr s gv), wordOperand (gr s ga) 8 ∧ (pad s).inHandle (gr s ga).toNat = false ∧
      (gr s gv).toNat / 2 ^ 57 = 0 ∧ (gr s gv).toNat / 2 ^ 48 % 2 ^ 8 = 0)
  | .binitRel g => some (.binitRel (gr s g).toNat, wordOperand (gr s g) 8)
  | .barr g => some (.barr (gr s g) (gaScope (unitTile s.cur.u) (gr s g)) s.seq, gaTile (gr s g) = true ∧ gaFormOk (gr s g) = true ∧
      gaScope (unitTile s.cur.u) (gr s g) ≤ s.cur.scope ∧ (gaPeer (gr s g) = 0 ∨ (s.port (gaPeer (gr s g) - 1)).up = true) ∧ (gr s g).toNat % 8 = 0)
  | _ => none

/-- R417, R422, R424-R426, R429-R431, R437, R439, R441: a matrix command whose operands are legal, with fewer than 16 commands in the tile's queue (one fewer where an MX command stands in
the bundle of an EN one), is queued behind the others at issue and does nothing else yet; a full queue holds the bundle.
R377-R381: HOPEN of a block, HPUB and HREL of a block or of 1 to ROWS rows of a ring, BINIT and BINIT.rel of an aligned word in range, and BARR at a legal tile address within SCOPE, are queued in the
context's handle queue at issue and do nothing else yet.
Where the spec leaves a reading open, the model's own is that of log entry 40. -/
def Obligations.MatrixAndHandleCommandsQueue : Prop :=
  (∀ (s : State) (i : Instr) (en : Bool) (op : MOp) (legal : Prop) (n : Nat), matrixCmd s i = some (en, op, legal) →
     n = (s.tile (unitTile s.cur.u)).mq.length + (if en && s.cur.slots.testBit 10 then 1 else 0) →
     ((s.cur.checked = true ∨ (legal ∧ n < 16)) → ∃ t, exec i s = .next t ∧ (Queued.mq op).In s t ∧ QueueFrame s t ∧ t.seq = s.seq + 1) ∧
     (s.cur.checked = false → legal → 16 ≤ n → exec i s = .next (s.refuse (.held .matrixQueue)))) ∧
  (∀ (s : State) (i : Instr) (c : HCmd) (legal : Prop), handleCmd s i = some (c, legal) → legal →
     ∃ t, exec i s = .next t ∧ (Queued.hq c).In s t ∧ QueueFrame s t)

/-- Commands of the copy, key-value and fabric queues, with what they need (R447, R450, R454-R458, R460). -/
def Sys2Proof.Claims.engineCmd (s : State) : Instr → Option (Queued × Verdict)
  | .sqset r g => some (.cq (.sqset r.toNat (gr s g)), if r = 6#6 then spOperand (gr s g) 8 else .ok)
  | .sqgo slot =>
    let y := s.ctx (unitTile s.cur.u) (unitCtx s.cur.u)
    let r := stageAfter y.staging y.cq
    some (.cq (.sqgo slot.toNat s.cur.scope s.seq (nodeOfTask s).1 (nodeOfTask s).2
      (if cSSpace r = 1 then ((pad s).handle (cSH r)).inst else 0) (if cDSpace r = 1 then ((pad s).handle (cDH r)).inst else 0)), .ok)
  | .accpy b g => some (.cq (.accpy b.toNat (gr s g) ((pad s).handle ((gr s g).toNat / 2 ^ 14 % 32)).inst s.seq (nodeOfTask s).1 (nodeOfTask s).2 none),
      accpyCheck (gr s g))
  | .xld gb g => some (.kq (.xld (gr s g) ((gr s gb).toNat % 2 ^ 20) s.seq), kvCheck s gb g)
  | .xinv gb g => some (.kq (.xinv (gr s g) ((gr s gb).toNat % 2 ^ 20) s.cur.scope s.seq none), kvCheck s gb g)
  | .kvg h g =>
    let b := BitVec.ofNat 256 (s.cmdBlock g 32).2
    some (.kq (.kvg b (inst s h) s.seq (nodeOfTask s).1 (nodeOfTask s).2),
      (s.cmdBlock g 32).1.verdict.andThen ((reservedIf (gatherReserved b)).both (spOperand (BitVec.ofNat 64 (fld b 160 20)) 8)))
  | .splc h g => some (.kq (.splc (inst s h) ((gr s g).toNat % 2 ^ 20) s.seq), recordOp h g s)
  | .rpr h g => some (.kq (.rpr (inst s h) ((gr s g).toNat % 2 ^ 20) s.seq (nodeOfTask s).1 (nodeOfTask s).2 s.codelen), recordOp h g s)
  | .rprRep gx ga => some (.kq (.rep (gr s ga) (gr s gx) s.seq (nodeOfTask s).1 (nodeOfTask s).2), reservedIf (decide ((gr s gx).toNat / 2 ^ 33 ≠ 0)))
  | .rprset g => some (.kq (.rprset ((gr s g).setWidth 32) ((gr s (g + 1)).setWidth 6) ((gr s (g + 2)).setWidth 32)),
      reservedIf (decide ((gr s g).toNat / 2 ^ 32 ≠ 0) || decide ((gr s (g + 1)).toNat / 2 ^ 6 ≠ 0) || decide ((gr s (g + 2)).toNat / 2 ^ 32 ≠ 0)))
  | .pxlk gb g => some (.kq (.pfx 0 (BitVec.ofNat 512 (s.cmdBlock g 64).2) (gr s g) ((gr s gb).toNat % 2 ^ 20) s.seq),
      (spOperand (gr s gb) 8).both ((s.cmdBlock g 64).1.verdict.andThen (reservedIf (prefixReserved 0 (BitVec.ofNat 512 (s.cmdBlock g 64).2)))))
  | .pxin gb g => some (.kq (.pfx 1 (BitVec.ofNat 512 (s.cmdBlock g 64).2) (gr s g) ((gr s gb).toNat % 2 ^ 20) s.seq),
      (spOperand (gr s gb) 8).both ((s.cmdBlock g 64).1.verdict.andThen (reservedIf (prefixReserved 1 (BitVec.ofNat 512 (s.cmdBlock g 64).2)))))
  | .pxinRm gb g => some (.kq (.pfx 2 (BitVec.ofNat 512 (s.cmdBlock g 64).2) (gr s g) ((gr s gb).toNat % 2 ^ 20) s.seq),
      (spOperand (gr s gb) 8).both ((s.cmdBlock g 64).1.verdict.andThen (reservedIf (prefixReserved 2 (BitVec.ofNat 512 (s.cmdBlock g 64).2)))))
  | .fsend h g => some (.fq (.fsend (s.fabBlock g) (inst s h) (gaScope (unitTile s.cur.u) (fAddr (s.fabBlock g))) s.seq),
      (s.cmdBlock g 32).1.verdict.andThen ((sendVerdict s (s.fabBlock g)).both (faultIf (decide (((pad s).handle h.toNat).kind ≠ 1#2)) 0x27#7)))
  | .frecvHandle h g => some (.fq (.frecvHandle (s.fabBlock g) (gr s g) (inst s h) s.seq),
      (s.cmdBlock g 32).1.verdict.andThen (recvVerdict s (s.fabBlock g) (decide (((pad s).handle h.toNat).kind = 2#2))))
  | .frecvStream q g => some (.fq (.frecvStream (s.fabBlock g) (gr s g) q.toNat s.seq),
      (s.cmdBlock g 32).1.verdict.andThen ((recvVerdict s (s.fabBlock g) true).both
        (faultIf (decide ((mget Stream.init (s.ctx (unitTile s.cur.u) (unitCtx s.cur.u)).q q.toNat).kind ≠ 3#2)) 0x38#7)))
  | _ => none

/-- R445, R447, R450, R454-R458, R460: an engine command whose checks pass is queued in its engine's queue of the context at issue, with its operands read then, RPR.rep in the key-value
queue among them, and does nothing else yet; one whose check faults is refused with that cause.
R442, R459: TRENC and TWUPD put a job behind the tile's Brush queue and WNSEL behind its Winnow queue, for the record's handle and the barrier word that gG names; none does
anything else yet; an operand out of form faults.
Where the spec leaves a reading open, the model's own is that of log entries 29 (a redundant pair's commands), 44 (SQGO and ACCPY name the handles that the table has at
issue), 49 (RPR's CODELEN), 50 (the causes of a prefix command's operands) and 52 (FSEND's ring source and the fabric operands' causes). -/
def Obligations.EngineAndJobCommandsQueue : Prop :=
  (∀ (s : State) (i : Instr) (q : Queued) (v : Verdict), engineCmd s i = some (q, v) →
     (Clear s v → ∃ t, exec i s = .next t ∧ q.In s t ∧ QueueFrame s t) ∧
     (∀ c a, s.cur.checked = false → v = .fault c a → exec i s = .next (s.refuse (.fault c a)))) ∧
  (∀ (s : State),
     (∀ h g, wordOperand (gr s g) 8 → ((pad s).handle h.toNat).kind = 1#2 →
       (∃ t j, exec (.trenc h g) s = .next t ∧ (t.tile (unitTile s.cur.u)).brush = (pad s).brush ++ [j] ∧ j.twupd = false ∧ j.inst = inst s h ∧
         j.bw = (gr s g).toNat ∧ j.seq = s.seq ∧ j.started = false ∧ QueueFrame s t) ∧
       (∃ t j, exec (.twupd h g) s = .next t ∧ (t.tile (unitTile s.cur.u)).brush = (pad s).brush ++ [j] ∧ j.twupd = true ∧ j.inst = inst s h ∧
         j.bw = (gr s g).toNat ∧ j.seq = s.seq ∧ j.started = false ∧ QueueFrame s t) ∧
       (∃ t j, exec (.wnsel h g) s = .next t ∧ (t.tile (unitTile s.cur.u)).winq = (pad s).winq ++ [j] ∧ j.inst = inst s h ∧ j.bw = (gr s g).toNat ∧
         j.id = s.seq ∧ j.started = false ∧ QueueFrame s t)) ∧
     (∀ h g, s.cur.checked = false → ((pad s).handle h.toNat).kind ≠ 1#2 → wordOperand (gr s g) 8 →
       exec (.trenc h g) s = .next (s.refuse (.fault 0x27#7 0)) ∧ exec (.twupd h g) s = .next (s.refuse (.fault 0x27#7 0)) ∧
       exec (.wnsel h g) s = .next (s.refuse (.fault 0x27#7 0))))

/-- R374-R376: HALLOC of a free handle with a legal geometry, HSET of one that nothing uses, and HFREE of one that is not free, act at issue: the handle takes its new entry, every other handle stays, and
neither the scratchpad nor any thread nor memory changes; HALLOC and HSET complete there, and their cluster's CSEQ counts them (R282); HFREE keeps the regions reserved; a handle in the wrong state faults HANDLE_STATE, a bad geometry HANDLE_GEOMETRY (0x2E).
R139-R141, R377: what a handle command does when it executes: HOPEN makes the context a writer and starts a fill of the back, FREE to FILLING, FULL to FULL with B = 1, and waits for a DRAINING block; HPUB of a
FILLING block with no writer, or of one FULL with B = 1 and no write or read in flight, swaps front and back into FULL, or advances PCOUNT by n while the ring has room; HREL of a FULL block releases its front, to
FREE or FILLING, or to DRAINING while reads are in flight, or advances CCOUNT by n while rows are held; none executes otherwise.
Where the spec leaves a reading open, the model's own is that of log entry 40. -/
def Obligations.HandleResults : Prop :=
  (∀ (s : State) (h : BitVec 5) (g : BitVec 6) (n : Nat), n = unitTile s.cur.u →
     (((pad s).handle h.toNat).kind = 0#2 → (pad s).geomBad h.toNat false (gr s g) = false → ∃ t, exec (.halloc h g) s = .next t ∧
       (t.tile n).handle h.toNat = geomEntry (gr s g) (pad s).nextId ∧ (t.tile n).nextId = (pad s).nextId + 1 ∧ (t.cluster (n / 16)).cseq = (s.cluster (n / 16)).cseq + 1 ∧
       (∀ k, k ≠ h.toNat → (t.tile n).handle k = (pad s).handle k) ∧ QueueFrame s t) ∧
     (s.cur.checked = false → ((pad s).handle h.toNat).kind ≠ 0#2 → exec (.halloc h g) s = .next (s.refuse (.fault 0x27#7 0))) ∧
     (s.cur.checked = false → ((pad s).handle h.toNat).kind = 0#2 → (pad s).geomBad h.toNat false (gr s g) = true →
       exec (.halloc h g) s = .next (s.refuse (.fault 0x2E#7 0))) ∧
     (hsetBusy ((pad s).handle h.toNat) (gr s g) = false → (pad s).geomBad h.toNat true (gr s g) = false → ∃ t, exec (.hset h g) s = .next t ∧
       (t.tile n).handle h.toNat = geomEntry (gr s g) ((pad s).handle h.toNat).inst ∧ (t.cluster (n / 16)).cseq = (s.cluster (n / 16)).cseq + 1 ∧
       (∀ k, k ≠ h.toNat → (t.tile n).handle k = (pad s).handle k) ∧ QueueFrame s t) ∧
     (((pad s).handle h.toNat).kind ≠ 0#2 → ∃ t, exec (.hfree h) s = .next t ∧ (t.tile n).handle h.toNat = HEntry.init ∧
       (t.tile n).freeing = (pad s).freeing ++ [(pad s).handle h.toNat] ∧ (∀ k, k ≠ h.toNat → (t.tile n).handle k = (pad s).handle k) ∧ QueueFrame s t) ∧
     (s.cur.checked = false → ((pad s).handle h.toNat).kind = 0#2 → exec (.hfree h) s = .next (s.refuse (.fault 0x27#7 0)))) ∧
  (∀ (h : HEntry) (n c : Nat),
     (h.kind = 1#2 → h.state = 1#2 → h.writers = [] → h.hpub n = some { h with state := 2#2, b := false, sel := !h.sel, ctxW := [] }) ∧
     (h.kind = 1#2 → h.state = 0#2 → h.hpub n = none) ∧
     (h.kind = 1#2 → h.writers ≠ [] → h.hpub n = none) ∧
     (h.kind = 2#2 → (h.pcount - h.ccount).toNat + n ≤ h.rows → h.hpub n = some { h with pcount := h.pcount + BitVec.ofNat 32 n }) ∧
     (h.kind = 2#2 → h.rows < (h.pcount - h.ccount).toNat + n → h.hpub n = none) ∧
     (h.kind = 1#2 → h.state = 2#2 → h.readers = [] → h.b = false → h.hrel n = some { h with state := 0#2 }) ∧
     (h.kind = 1#2 → h.state = 2#2 → h.readers = [] → h.b = true → h.hrel n = some { h with state := 1#2, b := false }) ∧
     (h.kind = 1#2 → h.state ≠ 2#2 → h.hrel n = none) ∧
     (h.kind = 2#2 → n ≤ (h.pcount - h.ccount).toNat → h.hrel n = some { h with ccount := h.ccount + BitVec.ofNat 32 n }) ∧
     (h.kind = 2#2 → (h.pcount - h.ccount).toNat < n → h.hrel n = none) ∧
     (h.kind = 1#2 → h.state = 3#2 → h.hopen c = none) ∧
     (∀ w, w = (if c ∈ h.ctxW then h.ctxW else h.ctxW ++ [c]) → h.kind = 1#2 →
       (h.state = 0#2 → h.hopen c = some { h with state := 1#2, ctxW := w }) ∧
       (h.state = 1#2 → h.hopen c = some { h with ctxW := w }) ∧
       (h.state = 2#2 → h.hopen c = some { h with b := true, ctxW := w })) ∧
     (h.kind = 1#2 → h.state = 2#2 → h.b = true → h.writers = [] → h.readers = [] →
       h.hpub n = some { h with state := 2#2, b := false, sel := !h.sel, ctxW := [] }) ∧
     (h.kind = 1#2 → h.state = 2#2 → (h.b = false ∨ h.readers ≠ []) → h.hpub n = none) ∧
     (h.kind = 1#2 → h.state = 3#2 → h.readers ≠ [] → h.hpub n = none) ∧
     (h.kind = 1#2 → h.state = 2#2 → h.readers ≠ [] → h.hrel n = some { h with state := 3#2 }))

/-- R453: SQBIND to the kind a stream already has changes nothing of it; to another kind, with nothing in the stream or on its way to it, it gives the stream that kind; otherwise it faults SEQ_BINDING; a reserved operand
faults RESERVED_FIELD. One that goes on is complete, and CSEQ counts it (R282). -/
def Obligations.StreamBindResults : Prop :=
  ∀ (s : State) (q : BitVec 3) (g : BitVec 6) (n k : Nat) (x : Stream), n = unitTile s.cur.u → k = unitCtx s.cur.u →
    x = mget Stream.init (s.ctx n k).q q.toNat →
    ((gr s g).toNat = x.kind.toNat → ∃ t, exec (.sqbind q g) s = .next t ∧ t = (s.modCtx n k id).counted n 1) ∧
    ((gr s g).toNat < 4 → (gr s g).toNat ≠ x.kind.toNat → (pad s).streamBusy k q.toNat = false → ∃ t, exec (.sqbind q g) s = .next t ∧
      mget Stream.init (t.ctx n k).q q.toNat = { x with kind := BitVec.ofNat 2 (gr s g).toNat } ∧
      (∀ j, j ≠ q.toNat → mget Stream.init (t.ctx n k).q j = mget Stream.init (s.ctx n k).q j) ∧
      (t.cluster (n / 16)).cseq = (s.cluster (n / 16)).cseq + 1 ∧ (∀ u, t.thread u = s.thread u) ∧ t.mem = s.mem) ∧
    (s.cur.checked = false → (gr s g).toNat < 4 → (gr s g).toNat ≠ x.kind.toNat → (pad s).streamBusy k q.toNat = true →
      exec (.sqbind q g) s = .next (s.refuse (.fault 0x38#7 0))) ∧
    (s.cur.checked = false → 4 ≤ (gr s g).toNat → exec (.sqbind q g) s = .next (s.refuse (.fault 0x06#7 0)))

/-- The record of a FORK or JOIN operand (R384). -/
def Sys2Proof.Claims.recordOf (s : State) (v : W64) : TaskRec :=
  recOf (nodeOfTask s).1 (nodeOfTask s).2 ((pad s).padNat (v.toNat % 2 ^ 20) 64)

/-- R384, R385, R386: FORK of an aligned record outside every handle writes 1 to its predicate and queues the record while fewer than 64 are held or on their way, else writes 0 and queues nothing; JOIN at SCOPE 3 or 4 that passes
its checks queues the 64 bytes of its record as its continuation and ends its task, below SCOPE 3 it faults JOIN_SCOPE, or the lower cause of its block's address (R260); ENQ whose distributor step is done goes on.
R382, R383, R438: DRN with no covered access outstanding and no covered failure recorded does nothing, with one outstanding it holds, and with a covered failure it faults with its cause; on a control core it does nothing.
NIBSET.st with no earlier matrix command incomplete delivers NIBST at latency 1 and clears it; CSEQ counts it (R282).
Where the spec leaves a reading open, the model's own is that of log entries 22 and 32: a control core's stores perform at their issue, so that its DRN finds nothing to wait for. -/
def Obligations.TaskDrainAndStatus : Prop :=
  (∀ (s : State) (n k : Nat), n = unitTile s.cur.u → k = unitCtx s.cur.u →
     (∀ pd g, recordCheck s (gr s g) = .ok → (s.ctx n k).occupancy < 64 → exec (.fork pd g) s =
       .next ((s.result s.cur.u (.p pd.toNat) (BitVec.allOnes 1024) (BitVec.allOnes 1024) 1 0).modCtx n k (fun y => { y with hq := y.hq ++ [.fork (recordOf s (gr s g))] }))) ∧
     (∀ pd g, recordCheck s (gr s g) = .ok → 64 ≤ (s.ctx n k).occupancy → exec (.fork pd g) s =
       .next (s.result s.cur.u (.p pd.toNat) 0 (BitVec.allOnes 1024) 1 0)) ∧
     (∀ a b x, 3 ≤ s.cur.scope → x = s.target s.cur.u s.cur.scope (gr s b) 128 .update → x.verdict = .ok → recordCheck s (gr s a) = .ok → ∃ t,
       exec (.join a b) s = .next t ∧ (t.ctx n k).hq = (s.ctx n k).hq ++ [.joinCont (gr s b) x.tscope x.pa (BitVec.ofNat 512 ((pad s).padNat ((gr s a).toNat % 2 ^ 20) 64))] ∧ (t.ctx n k).ending = true ∧
       (∀ u, t.thread u = s.thread u) ∧ t.mem = s.mem ∧ (t.tile n).pad = (s.tile n).pad) ∧
     (∀ a b x, s.cur.checked = false → s.cur.scope < 3 → x = s.target s.cur.u s.cur.scope (gr s b) 128 .update → recordCheck s (gr s a) = .ok →
       (x.verdict = .ok → exec (.join a b) s = .next (s.refuse (.fault 0x67#7 0))) ∧
       (∀ c f, x.verdict = .fault c f → c.toNat < 0x67 → exec (.join a b) s = .next (s.refuse (.fault c f)))) ∧
     (∀ q g c, s.cur.u = .core c → (s.core c).enqDone = true → (s.core c).enq = some (gr s g, q.toNat) →
       exec (.enq q g) s = .next (s.modCore c (fun y => { y with enq := none, enqDone := false })))) ∧
  (∀ (s : State),
     (∀ k, s.cur.u = .core k → exec .drn s = .next s) ∧
     (∀ t c, s.cur.u = .ctx t c →
       (s.uncovered t c s.cur.scope = false → (s.ctx t c).fail = none → exec .drn s = .next s) ∧
       (s.cur.checked = false → s.uncovered t c s.cur.scope = true → exec .drn s = .next (s.refuse (.held .drn))) ∧
       (∀ x a, s.cur.checked = false → s.uncovered t c s.cur.scope = false → (s.ctx t c).fail = some (x, a) → gaScope t a ≤ s.cur.scope →
         exec .drn s = .next (s.refuse (.mark 8 x a)))) ∧
     (∀ g, (pad s).mq = [] → (pad s).nib = none → (pad s).beat = none →
       exec (.nibsetSt g) s = .next (((s.result64 s.cur.u (.g g.toNat) (pad s).nibst 1).modTile (unitTile s.cur.u) (fun x => { x with nibst := 0 })).counted
         (unitTile s.cur.u) 1)))

/-! ## Device events: reset and boot -/

/-- R20, R507, R278: a reset leaves the device in BRINGUP with its registers, queues and contexts as right after power-on, keeping the fuses and the
flash, the contents of the modules with their poison, the modules where they are fitted, and the health of the tiles.
R9, R20, R43, R292: the causes of grade G3. Each is kept in LASTG3 where it is the first since reset, and takes the device to FAULTED from READY,
DRAINING and DRAINED; a failed self-check does so during bring-up only.
R10: with VDD_AUX alone left the device is held in reset, and a device held leaves it once every rail is up; another rail that goes is one that has
left its window.
R43, R69: a word of a tile's SRAM that is corrected is counted and recorded; one that is not stops the context that read it.
Where the spec leaves a reading open, the model's own is that of log entries 60, 63, 69
and 74. -/
def Obligations.ResetAndGradeThreeEvents : Prop :=
  (∀ s : State, ∃ t, exec .reset s = .next t ∧
     t.dstate = .bringup ∧ t.boot = BootState.init ∧ t.kregs = KRegs.init ∧ t.lastG3 = none ∧ t.cap = 3600#12 ∧ t.capNext = none ∧
     t.graphs = [] ∧ t.tenants = [] ∧ t.tiles = [] ∧ t.cores = [] ∧ t.ports = [] ∧ t.eths = [] ∧ t.frames = [] ∧ t.wv = wvReset s.fuses ∧
     t.fuses = s.fuses ∧ t.mem = s.mem ∧ t.poison = s.poison ∧ (∀ i, t.link i = { MemLink.init with module := (s.link i).module }) ∧
     (∀ n, n < 2304 → (t.unit (.tile n)).health = (s.unit (.tile n)).health)) ∧
  ((∀ (s : State) (i : Instr) (c : Cause),
     ((∃ n, i = .powerFault (.leaves n) ∧ s.rails.getLsbD n = true ∧ s.held = false) ∧ c = 0x7D#7) ∨ ((∃ d, i = .thermalTrip d) ∧ c = 0x7E#7) ∨
       (i = .machineCheck .state ∧ c = 0x7F#7) →
     ∃ t, exec i s = .next t ∧ t.lastG3 = some (s.lastG3.getD c) ∧ t.fuses = s.fuses ∧
       (s.dstate = .ready ∨ s.dstate = .draining ∨ s.dstate = .drained → t.dstate = .faulted) ∧
       (s.dstate = .bringup ∨ s.dstate = .faulted → t = { s with lastG3 := t.lastG3 })) ∧
   (∀ s : State, s.dstate = .bringup → ∃ t, exec .selfCheckFail s = .next t ∧ t.dstate = .faulted) ∧
   (∀ s : State, s.dstate ≠ .bringup → exec .selfCheckFail s = .next s)) ∧
  (∀ (s : State) (n : Nat) (left up : BitVec 12), left = s.rails &&& ~~~BitVec.ofNat 12 (2 ^ n) → up = s.rails ||| BitVec.ofNat 12 (2 ^ n) →
     (n < 11 → left = BitVec.ofNat 12 (2 ^ 11) → ∃ t, exec (.powerFault (.removed n)) s = .next t ∧ t.held = true ∧ t.rails = left ∧ t.dstate = .bringup ∧
       t.boot = BootState.init ∧ t.fuses = s.fuses ∧ t.mem = s.mem ∧ t.poison = s.poison) ∧
     (n < 11 → left ≠ BitVec.ofNat 12 (2 ^ 11) → left ≠ 0#12 → ∃ t, exec (.powerFault (.removed n)) s = .next t ∧ t.rails = left ∧ t.held = s.held ∧
       t.lastG3 = some (s.lastG3.getD 0x7D#7) ∧ (s.dstate = .ready ∨ s.dstate = .draining ∨ s.dstate = .drained → t.dstate = .faulted)) ∧
     (n = 11 ∨ s.rails.getLsbD 11 = true → exec (.powerFault (.applied n)) s = .next { s with rails := up, held := s.held && decide (up ≠ 0xFFF#12) })) ∧
  (∀ (s : State) (n c : Nat),
     (∃ t, exec (.machineCheck (.sramCorrected n)) s = .next t ∧ (t.unit (.tile n)).count = (s.unit (.tile n)).count + 1 ∧
       (t.unit (.tile n)).last = some 0x78#7 ∧ (t.unit (.tile n)).health = (s.unit (.tile n)).health ∧ t.tiles = s.tiles) ∧
     (c < 2 → (s.ctx n c).offers (s.tile n).cutting = true → ∃ t, exec (.machineCheck (.sramUncorrectable n c)) s = .next t ∧
       (t.ctx n c).stop.stopped = true ∧ (t.ctx n c).stop.cause = 0x71#7 ∧ (t.unit (.tile n)).last = some 0x71#7))

/-- R13, R15, R17, R19, R32: the boot chain. Slot A runs where it passes, slot B where A does not, and with both rejected the device stays in
BRINGUP; a root key whose SHA-256 is not the fused one verifies nothing; training puts a link into MEMMAP or leaves it FAILED; stage 2 runs from flash
where it passes, on control core 0 first and then on all, in kernel mode, or stage 1 waits for an image. A stage that runs is measured.
Where the spec leaves a reading open, the model's own is that of log entries 8, 9, 55, 71
and 75. -/
def Obligations.BootEvents : Prop :=
  ∀ s : State, s.dstate = .bringup →
    (∀ l, s.boot.boot = .rom → imageReject 1 s.fuses.root s.fuses.min1 s.fuses.slotA = none → l = s.fuses.slotA →
      exec .stage1Verify s = .next { s with boot := { s.boot with boot := .stage1, nextKey := imgNextKey l, ver1 := imgVersion l,
                                                                  m := measure s.boot.m (imgBytes l 16 32) (imgVersion l) } }) ∧
    (∀ l a, s.boot.boot = .rom → imageReject 1 s.fuses.root s.fuses.min1 s.fuses.slotA = some a →
      imageReject 1 s.fuses.root s.fuses.min1 s.fuses.slotB = none → l = s.fuses.slotB →
      exec .stage1Verify s = .next { s with boot := { s.boot with boot := .stage1, nextKey := imgNextKey l, ver1 := imgVersion l,
                                                                  rejects := s.boot.rejects ++ [a],
                                                                  m := measure s.boot.m (imgBytes l 16 32) (imgVersion l) } }) ∧
    (∀ a b, s.boot.boot = .rom → imageReject 1 s.fuses.root s.fuses.min1 s.fuses.slotA = some a →
      imageReject 1 s.fuses.root s.fuses.min1 s.fuses.slotB = some b →
      exec .stage1Verify s = .next { s with boot := { s.boot with boot := .stuck, rejects := s.boot.rejects ++ [a, b] } }) ∧
    (∀ trained : BitVec 48, s.boot.boot = .stage1 → ∃ t, exec (.memoryLinkTraining trained) s = .next t ∧ t.boot.boot = .trained ∧
      t.kregs.memmap = s.memmapFor trained (s.commonSize trained) ∧ t.mem = s.mem ∧
      ∀ i, i < 48 → (t.link i).trained = trained.getLsbD i ∧ (t.link i).failed = !t.kregs.memmap.getLsbD i ∧
        (t.link i).module = (s.link i).module) ∧
    (∀ l, s.boot.boot = .trained → l = s.fuses.stage2 → imgNat l 0 4 = imgMagic → imageReject 2 (some s.boot.nextKey) s.fuses.min2 l = none →
      ∃ t, exec .stage2Verify s = .next t ∧ t.boot.boot = .core0 ∧ t.boot.ver2 = imgVersion l ∧
        t.boot.m = measure s.boot.m (imgBytes l 16 32) (imgVersion l) ∧ t.dstate = .bringup ∧
        (t.core 0).running = true ∧ (t.core 0).kernel = true ∧ ∀ k, k ≠ 0 → t.core k = s.core k) ∧
    (s.boot.boot = .core0 → ∃ t, exec .stage2Verify s = .next t ∧ t.boot = { s.boot with boot := .kernel } ∧ t.dstate = .bringup ∧ t.core 0 = s.core 0 ∧
      ∀ k, 0 < k → k < 32 → (t.core k).running = true ∧ (t.core k).kernel = true) ∧
    (s.boot.boot = .trained → imgNat s.fuses.stage2 0 4 ≠ imgMagic →
      exec .stage2Verify s = .next { s with boot := { s.boot with boot := .waitImage } }) ∧
    (∀ r, s.boot.boot = .trained → imgNat s.fuses.stage2 0 4 = imgMagic → imageReject 2 (some s.boot.nextKey) s.fuses.min2 s.fuses.stage2 = some r →
      exec .stage2Verify s = .next { s with boot := { s.boot with boot := .waitImage, rejects := s.boot.rejects ++ [r] } })

/-! ## Device events: the management protocol -/

namespace Sys2Proof.Claims
open Sys2Proof.Machine

/-- The last reply of a state answers a request with a status and a body; its header echoes OP, ARG0 and ARG1 (R73, log entry 71). -/
def Answered (t : State) (r : MgmtReq) (status : BitVec 16) (body : List Byte) : Prop :=
  ∃ l, t.replies = l ++ [{ port := r.port, dst := r.src, magic := 0x4357#16, ver := 1#8, op := r.op, tag := r.tag, status := status,
                           arg0 := r.arg0, arg1 := r.arg1, body := body }]

/-- A signed command that R75 accepts: its operation, and an authentic counter above the last. -/
def Signed (s : State) (r : MgmtReq) (op : BitVec 8) : Prop := r.isOp op = true ∧ s.authentic r = true

end Sys2Proof.Claims

/-- R17, R19, R68, R73 to R77, R11: every management operation in the states that allow it. A chunk goes to its offset in device memory; a commit
runs an image that passes, and a rejected one leaves stage 1 waiting (the status of that reply is the model's free choice, log entry 8); a quote
gives M, the raised count and the signature over the nonce, M, the device state and the count; a page is read as its snapshot; DRAIN, RESUME and
SETCAP take an authentic counter and have their effects, DRAIN and RESUME once a DEVCMD that arrived before them has been taken (R22); an operation of no known number
is BAD_REQUEST in every state, and does nothing else (R74).
Where the spec leaves a reading open, the model's own is that of log entries 55 and 71. -/
def Obligations.ManagementEvents : Prop :=
  ∀ (s : State) (r : MgmtReq),
    (r.isOp 0x03#8 = true → s.dstate = .bringup → s.boot.boot = .waitImage → r.arg0.toNat % 1024 = 0 → 0 < r.chunkLen → r.chunkLen ≤ 1024 →
      r.body.length = r.chunkLen →
      ∃ t, exec (.imageChunk r) s = .next t ∧ Answered t r 0 [] ∧ t.mem = (s.memWrite r.arg0.toNat r.body).mem ∧ t.boot = s.boot) ∧
    (∀ l, r.isOp 0x04#8 = true → s.dstate = .bringup → s.boot.boot = .waitImage → r.arg0.toNat ≤ 2 ^ 30 → l = s.memRead 0 r.arg0.toNat →
      (imageReject 2 (some s.boot.nextKey) s.fuses.min2 l = none → ∃ t, exec (.imageCommit r) s = .next t ∧ Answered t r 0 [] ∧ t.boot.boot = .core0 ∧
        t.boot.m = measure s.boot.m (imgBytes l 16 32) (imgVersion l)) ∧
      (∀ x, imageReject 2 (some s.boot.nextKey) s.fuses.min2 l = some x → ∃ t st, exec (.imageCommit r) s = .next t ∧ Answered t r st [] ∧
        t.boot = { s.boot with rejects := s.boot.rejects ++ [x] } ∧ t.mem = s.mem)) ∧
    (∀ hash version, s.boot.boot = .kernel ∨ s.boot.boot = .core0 → exec (.measurementExtend hash version) s =
      .next { s with boot := { s.boot with m := measure s.boot.m (toBytesBE 32 hash.toNat) version } }) ∧
    (∀ n, r.isOp 0x02#8 = true → s.dstate ≠ .bringup → r.body.length = 16 → n = s.boot.quotes + 1 →
      ∃ t, exec (.quote r) s = .next t ∧ t.boot = { s.boot with quotes := n } ∧
        Answered t r 0 (toBytesBE 32 s.boot.m.toNat ++ toBytes 8 n.toNat ++ toBytesBE 64 (Config.identitySign (BitVec.ofNat 256 (ofBytesBE (sha256
          (r.body ++ toBytesBE 32 s.boot.m.toNat ++ toBytes 1 s.dstate.code ++ toBytes 8 n.toNat))))).toNat)) ∧
    (∀ p off len, p = r.arg0.toNat → off = r.arg1.toNat / 2 ^ 16 → len = r.arg1.toNat % 2 ^ 16 → r.isOp 0x01#8 = true →
      (s.dstate ≠ .bringup ∨ p < 2) → 8 ≤ len → len ≤ 1024 → len % 8 = 0 → p < 13 → off + len ≤ 4096 →
      ∃ t, exec (.readPage r) s = .next t ∧ Answered t r 0 ((upto off len).map (s.wvRead p)) ∧ t.mem = s.mem) ∧
    (∀ d, s.kregs.devcmd = some d → exec (.mgmtDrain r) s = .next { s.devcmdRun with agenda := .mgmtDrain r :: s.agenda } ∧
      exec (.mgmtResume r) s = .next { s.devcmdRun with agenda := .mgmtResume r :: s.agenda } ∧ s.devcmdRun.kregs.devcmd = none) ∧
    (Signed s r 0x10#8 → s.kregs.devcmd = none → s.dstate = .ready → ∃ t, exec (.mgmtDrain r) s = .next t ∧ Answered t r 0 [] ∧ t.kregs.mkctr = r.counter ∧
      t.dstate = (if s.graphs = [] then .drained else .draining)) ∧
    (Signed s r 0x11#8 → s.kregs.devcmd = none → s.dstate = .draining ∨ s.dstate = .drained → ∃ t, exec (.mgmtResume r) s = .next t ∧ Answered t r 0 [] ∧
      t.kregs.mkctr = r.counter ∧ t.dstate = .ready) ∧
    (Signed s r 0x12#8 → s.dstate ≠ .bringup → ∃ t, exec (.setcap r) s = .next t ∧ t.kregs.mkctr = r.counter ∧
      if 1200 ≤ r.arg0.toNat ∧ r.arg0.toNat ≤ 3600 ∧ r.arg0.toNat % 10 = 0 then Answered t r 0 [] ∧ t.capNext = some (BitVec.ofNat 12 r.arg0.toNat)
      else Answered t r 4 [] ∧ t.capNext = s.capNext) ∧
    (r.known = false → ∃ t, exec (.mgmtUnknownOperation r) s = .next t ∧ Answered t r 3 [] ∧ t = { s with replies := t.replies })

/-! ## Device events: registers, tenants, windows -/

/-- R11, R16, R20, R50, R52 to R55, R64, R68, R76, R77, R173, R287, R288: the commands and registers of the reliability page and of a tile's status page.
START raises the minimum-version fuses the first time after a reset; a NANSTAT bit that the hardware writes in the cycle of its clearing stays; the
interrupt of an event record follows the update that shows its producer index.
Where the spec leaves a reading open, the model's own is that of log entry 39. -/
def Obligations.RegisterEvents : Prop :=
  ∀ s : State,
    (s.kregs.devcmd = some .start → s.dstate = .bringup → startBlocked s.kregs = false →
      ∃ t, exec .devcmdStart s = .next t ∧ t.dstate = .ready ∧ t.kregs.devcmd = none ∧ t.kregs.devres = 1 ∧ t.boot.readied = true ∧
        (s.boot.readied = false → t.fuses.min1.toNat = max s.fuses.min1.toNat s.boot.ver1.toNat ∧
          t.fuses.min2.toNat = max s.fuses.min2.toNat s.boot.ver2.toNat)) ∧
    (s.kregs.devcmd = some .drain → s.dstate = .ready → ∃ t, exec .devcmdDrain s = .next t ∧ t.kregs.devcmd = none ∧ t.kregs.devres = 1 ∧
      t.dstate = (if s.graphs = [] then .drained else .draining)) ∧
    (s.kregs.devcmd = some .resume → s.dstate = .draining ∨ s.dstate = .drained → ∃ t, exec .devcmdResume s = .next t ∧ t.kregs.devcmd = none ∧
      t.kregs.devres = 1 ∧ t.dstate = .ready) ∧
    (∀ v w, w = v.toNat % 2 ^ 12 → exec (.capset v) s = .next (if 1200 ≤ w ∧ w ≤ 3600 ∧ w % 10 = 0
      then { s with capNext := some (BitVec.ofNat 12 w), kregs := { s.kregs with capRef := false } }
      else { s with kregs := { s.kregs with capRef := true } })) ∧
    (∀ c, s.capNext = some c → exec .capEffective s = .next { s with cap := c, capNext := none }) ∧
    (onCurve s.kregs.mkeyx.toNat s.kregs.mkeyy.toNat = true →
      exec .mkctlInstall s = .next { s with kregs := { s.kregs with mkey := some (s.kregs.mkeyx ++ s.kregs.mkeyy), mkctr := 0 } }) ∧
    exec .mkctlRemove s = .next { s with kregs := { s.kregs with mkey := none } } ∧
    (∀ v, exec (.registerWrite 0x038 v) s = .next { s with kregs := { s.kregs with klcons := v.setWidth 32 } }) ∧
    (∀ v, exec (.registerWrite 0x100 v) s = .next (if s.dstate = .bringup then
      { s with kregs := { s.kregs with ttbase := BitVec.ofNat 64 (v.toNat / 2 ^ 15 % 2 ^ 31 * 2 ^ 15) } } else s)) ∧
    (∀ off v, s.dstate ≠ .bringup → off / 8 * 8 ≠ 0x038 → off / 8 * 8 ≠ 0x048 → (off < 0x180 ∨ 0x1C0 ≤ off) → exec (.registerWrite off v) s = .next s) ∧
    (∀ v, s.kregs.ttsync = none → exec (.ttsync v) s =
      .next { s with kregs := { s.kregs with ttsync := some (if v.getLsbD 6 then none else some (v.toNat % 64)), badEntry := false } }) ∧
    (∀ n, s.kregs.ttsync = some (some n) → n < 64 → ∃ t, exec .tenantTableReload s = .next t ∧ t.kregs.ttsync = none ∧
      t.tenant n = { s.ttEntry n with valid := (s.ttEntry n).valid && !s.ttBad n } ∧
      t.kregs.badEntry = (s.kregs.badEntry || ((s.ttEntry n).valid && s.ttBad n)) ∧ ∀ k, k ≠ n → t.tenant k = s.tenant k) ∧
    (∀ v port i, s.kregs.winDrain = none → port = v.toNat / 2 ^ 16 % 2 → i = v.toNat % 2 ^ 10 → ∃ t, exec (.winsync v) s = .next t ∧
      mget Window.init (t.eth port).windows i = s.windowEntry port i ∧
      t.kregs.winDrain = (if (mget Window.init (s.eth port).windows i).valid = true ∧ (s.windowEntry port i).valid = false then some (port, i) else none)) ∧
    (∀ w, s.kregs.winDrain = some w → exec .windowDeregisterComplete s = .next { s with kregs := { s.kregs with winDrain := none } }) ∧
    (∀ n mask, ∃ t, exec (.nanstatClear n mask) s = .next t ∧ (t.tile n).nanstat =
      (s.tile n).nanstat &&& ~~~(if (s.tile n).nanAt = s.cycle then mask &&& ~~~(s.tile n).nanSet else mask)) ∧
    (∀ p, p < 13 → ∃ t, exec (.weathervaneUpdate p) s = .next t ∧ t = { s with wv := t.wv } ∧
      (mget WvPage.init t.wv p).updates = (mget WvPage.init s.wv p).updates + 1) ∧
    (∃ t, exec (.weathervaneUpdate 13) s = .next t ∧ t.mem = s.mem ∧ ∀ n, n < 64 →
      (mget WvPage.init t.wv (13 + n)).updates = (mget WvPage.init s.wv (13 + n)).updates + 1 ∧ (t.tenant n).signal = false ∧
      ((s.tenant n).signal = true → 0x6C#7 ∈ (t.core (s.tenant n).irqcore).irq))

/-! ## Device events: contexts, interrupts, walks, Ethernet -/

/-- R148, R149, R263, R269, R270, R384: a stopped context that the kernel resumes goes on at its next bundle with its register part reloaded, one
abandoned with a cause of grade G1 or higher fails its node, one abandoned with a cause of grade G0 ends its task; CC_COMPARE pends once the core's
count has reached CCMP; a pending interrupt is taken between bundles, the oldest first, as the core's exception with that cause; a datagram for a
socket is delivered and CC_NETWORK pends; a walk that ends installs its entry, or records its failure, with the unit that waits. A disposition of a
stopped context written while its tile is being cut waits for the restore, and one behind it is ignored (R268, R275).
Where the spec leaves a reading open, the model's own is that of log entries 37, 58
and 76. -/
def Obligations.ContextEvents : Prop :=
  ∀ s : State,
    (∀ n c (cause : BitVec 7), c < 2 → (s.tile n).cutting = true → (s.ctx n c).stop.stopped = true → (s.ctx n c).disp = none →
      exec (.ctxdispResume n c) s = .next (s.modCtx n c (fun y => { y with disp := some (BitVec.ofNat 64 (1 + 4 * c)) })) ∧
      exec (.ctxdispAbandon n c cause) s = .next (s.modCtx n c (fun y => { y with disp := some (BitVec.ofNat 64 (2 + 4 * c + 256 * cause.toNat)) }))) ∧
    (∀ n c (cause : BitVec 7), c < 2 → (s.tile n).cutting = true → ((s.ctx n c).stop.stopped = false ∨ (s.ctx n c).disp ≠ none) →
      exec (.ctxdispResume n c) s = .next s ∧ exec (.ctxdispAbandon n c cause) s = .next s) ∧
    (∀ n c, c < 2 → (s.tile n).cutting = false → (s.ctx n c).stop.stopped = true → (s.ctx n c).ending = false → ∃ t, exec (.ctxdispResume n c) s = .next t ∧
      (t.ctx n c).stop.stopped = false ∧ (t.ctx n c).x.pc = (s.ctx n c).x.pc ∧ (t.ctx n c).task = (s.ctx n c).task ∧
      (t.ctx n c).x.lc0 = BitVec.ofNat 32 (s.memNat ((s.ctx n c).stop.area.toNat + 0x1400) 4) ∧
      ∀ i, i < 64 → 0 < i → (t.ctx n c).x.rg i = BitVec.ofNat 64 (s.memNat ((s.ctx n c).stop.area.toNat + 0x1000 + 8 * i) 8)) ∧
    (∀ n c (cause : BitVec 7) k, c < 2 → (s.tile n).cutting = false → (s.ctx n c).stop.stopped = true → (s.ctx n c).task = some k → grade cause ≠ 0 →
      exec (.ctxdispAbandon n c cause) s =
        .next ((s.modCtx n c (fun y => { y with stop := { y.stop with stopped := false } })).nodeFail k.gid k.node cause)) ∧
    (∀ n c (cause : BitVec 7) k, c < 2 → (s.tile n).cutting = false → (s.ctx n c).stop.stopped = true → (s.ctx n c).task = some k → grade cause = 0 →
      ∃ (a t : State), exec (.ctxdispAbandon n c cause) s = .next t ∧ t = a.taskEnd n c ∧ (a.ctx n c).ending = true ∧ (a.ctx n c).stop.stopped = false ∧
        (a.ctx n c).x.pend = [] ∧ (a.ctx n c).x.branch = none ∧ (a.ctx n c).task = some k) ∧
    (∀ k, (s.core k).ccmp.toNat ≤ (s.core k).x.ccycle → (s.core k).compared = false → ∃ t, exec (.ccCompare k) s = .next t ∧
      0x6F#7 ∈ (t.core k).irq ∧ (t.core k).compared = true ∧ (t.core k).x = (s.core k).x) ∧
    (∀ k c rest, (s.core k).irq = c :: rest → (s.core k).running = true → (s.core k).x.branch = none → ((s.core k).kernel = false ∨ (s.core k).ie = true) →
      (s.core k).x.stallLeft = 0 → (s.core k).enq = none → exec (.interruptTaken k) s =
        .next ((s.modCore k (fun x => { x with irq := rest })).coreTrap k { cause := c, slots := 0, faddr := 0, pc := (s.core k).x.pc, engine := none })) ∧
    (∀ k data, ∃ t, exec (.socketDatagram k data) s = .next t ∧ t.sockets = s.sockets ++ [(k, data)] ∧ 0x6D#7 ∈ (t.core k).irq ∧
      (t.core k).x = (s.core k).x) ∧
    (∀ d n w u a e, (s.die d).walks[n]? = some w → w.waiting = [(u, a)] → s.unitTenant u = w.tenant → (∀ k c, u = .ctx k c → c < 2) →
      s.walkEnd w = .ok e → e.allows (s.isKernel u) a = true → ∃ t, exec (.pageWalkComplete d n) s = .next t ∧ (t.die d).walks = (s.die d).walks.eraseIdx n ∧
        e ∈ t.tlbOf u ∧ (t.thread u).walkFault = none) ∧
    (∀ d n w u a r c, (s.die d).walks[n]? = some w → w.waiting = [(u, a)] → s.unitTenant u = w.tenant → (∀ k c, u = .ctx k c → c < 2) →
      r = s.walkEnd w → (r = .error c ∨ (∃ e, r = .ok e ∧ e.allows (s.isKernel u) a = false ∧ c = a.denied)) →
      ∃ t, exec (.pageWalkComplete d n) s = .next t ∧ (t.die d).walks = (s.die d).walks.eraseIdx n ∧ t.tlbOf u = s.tlbOf u ∧
        (t.thread u).walkFault = (if (s.thread u).wants w.va a then some (w.va, c) else (s.thread u).walkFault))

/-! ## Device events: memory links -/

/-- R23 to R26, R65: a datagram that a port discards is counted, in BRINGUP every remote access too; a remote access that no window of a VALID tenant
admits, or that meets a page it cannot reach, is refused with a NAK, counted, and touches no byte that it names; one admitted is done whole.
R27, R29, R30, R33, R507: on a live link a flit of its kind that the other end has put out is taken and acknowledged where it is good and has the
expected SEQ; one with a bad CRC or another SEQ is discarded and answered with a NAK of the expected SEQ; an acknowledgement frees the retry buffer
through its SEQ; a NAK is counted, and its sender replays from that SEQ; eight in a row for one SEQ take the link to retraining, which ends with the link up
again or FAILED; a scrub finds nothing, or corrects a line and counts it, or finds one uncorrectable, which of these is the model's free choice (log
entry 7), and a poisoned line stays poisoned.
Where the spec leaves a reading open, the model's own is that of log entries 7, 34, 56, 57, 68 and 70. -/
def Obligations.EthernetAndMemoryLinkEvents : Prop :=
  (∀ s : State,
     (∀ port d, d ≠ .managementInBringup ∨ s.dstate = .bringup → ∃ t, exec (.datagramDiscard port d) s = .next t ∧
       (t.eth port).discards = (s.eth port).discards + 1 ∧ t = { s with eths := t.eths }) ∧
     (∀ port rkey va data len i, i = .roceWrite port rkey va data ∨ i = .roceRead port rkey va len → s.dstate = .bringup → ∃ t, exec i s = .next t ∧
       (t.eth port).discards = (s.eth port).discards + 1 ∧ t = { s with eths := t.eths }) ∧
     (∀ port rkey va data, s.dstate ≠ .bringup → s.windowFor port rkey va data.length 1 = none → ∃ t, exec (.roceWrite port rkey va data) s = .next t ∧
       (t.eth port).refusals = (s.eth port).refusals + 1 ∧ t.mem = s.mem) ∧
     (∀ port rkey va len, s.dstate ≠ .bringup → s.windowFor port rkey va len 0 = none → ∃ t, exec (.roceRead port rkey va len) s = .next t ∧
       (t.eth port).refusals = (s.eth port).refusals + 1 ∧ t.mem = s.mem) ∧
     (∀ port rkey va data w, s.dstate ≠ .bringup → s.windowFor port rkey va data.length 1 = some w →
       s.roceFails w.tenant va.toNat data.length true = none →
       exec (.roceWrite port rkey va data) s = .next ((s.vaWriteLong .walk w.tenant va.toNat data).1.roceAnswer port [])) ∧
     (∀ port rkey va len w l, s.dstate ≠ .bringup → s.windowFor port rkey va len 0 = some w → s.roceFails w.tenant va.toNat len false = none →
       s.vaReadLong .walk w.tenant va.toNat len = .ok l → exec (.roceRead port rkey va len) s = .next (s.roceAnswer port l)) ∧
     (∀ port rkey va data w c, s.dstate ≠ .bringup → s.windowFor port rkey va data.length 1 = some w →
       s.roceFails w.tenant va.toNat data.length true = some c → ∃ t, exec (.roceWrite port rkey va data) s = .next t ∧
       (t.eth port).refusals = (s.eth port).refusals + 1 ∧ (c ≠ 0x22#7 → c ≠ 0x77#7 → t.mem = s.mem)) ∧
     (∀ port rkey va len perm w, s.windowFor port rkey va len perm = some w → w.valid = true ∧ w.rkey = rkey ∧ w.perm.getLsbD perm = true ∧
       (s.tenant w.tenant).valid = true ∧ w.vbase.toNat ≤ va.toNat ∧ va.toNat + len ≤ w.vbase.toNat + w.length.toNat)) ∧
  (∀ (s : State) (n : Nat) (chip : Bool) (f : BitVec 512) (x y e : LinkEnd), x = (s.link n).at chip → y = (s.link n).at (!chip) →
     (∀ i k, (i = .memlinkRequest n chip f ∧ k = 0) ∨ (i = .memlinkData n chip f ∧ k = 1) ∨ (i = .memlinkIdle n chip f ∧ k = 4) →
       (s.link n).live = true → y.sends k f = some e →
       (flitGood f = true → flitSeq f = x.rxSeq → ∃ t, exec i s = .next t ∧ ((t.link n).at chip).rxSeq = x.rxSeq + 1 ∧
         ((t.link n).at chip).wire = x.wire ++ [linkFlit 2 (flitSeq f) []] ∧ (t.link n).at (!chip) = e ∧ (∀ m, m ≠ n → t.link m = s.link m)) ∧
       (flitGood f = false ∨ flitSeq f ≠ x.rxSeq → ∃ t, exec i s = .next t ∧ ((t.link n).at chip).rxSeq = x.rxSeq ∧
         ((t.link n).at chip).wire = x.wire ++ [linkFlit 3 x.rxSeq []] ∧ (t.link n).at (!chip) = e ∧ (∀ m, m ≠ n → t.link m = s.link m))) ∧
     (∀ a g b, (s.link n).live = true → y.sends 2 f = some e → flitGood f = true → x.retry = a ++ g :: b → g.1 = flitSeq f →
       (∀ r, r ∈ a → r.1 ≠ flitSeq f) → ∃ t, exec (.memlinkAck n chip f) s = .next t ∧ ((t.link n).at chip).retry = b ∧
         ((t.link n).at chip).naks = 0 ∧ (t.link n).at (!chip) = e) ∧
     ((s.link n).live = true → y.sends 3 f = some e → flitGood f = true → ∃ t, exec (.memlinkNak n chip f) s = .next t ∧
       ((t.link n).at chip).naks = (if x.nakSeq = flitSeq f then x.naks + 1 else 1) ∧ ((t.link n).at chip).nakSeq = flitSeq f ∧
       ((t.link n).at chip).wire = x.wire ++ (x.retry.dropWhile (fun r => decide (r.1 ≠ flitSeq f))).map Prod.snd ∧
       ((t.link n).at chip).retry = x.retry ∧ (t.link n).counted = (s.link n).counted + 1 ∧
       (t.link n).retrain = decide (8 ≤ ((t.link n).at chip).naks)) ∧
     ((s.link n).live = true → (y.sends 2 f = some e ∨ y.sends 3 f = some e) → flitGood f = false → ∃ t,
       (y.sends 2 f = some e → exec (.memlinkAck n chip f) s = .next t) ∧ (y.sends 3 f = some e → exec (.memlinkNak n chip f) s = .next t) ∧
       ((t.link n).at chip).retry = x.retry ∧ ((t.link n).at chip).wire = x.wire ++ [linkFlit 3 x.rxSeq []])) ∧
  (∀ (s : State) (n : Nat) (chip : Bool),
     ((s.link n).retrain = true → (s.link n).failed = false → ∃ t, exec (.memlinkRetrain n true) s = .next t ∧ (t.link n).retrain = false ∧
       ((t.link n).at chip).naks = 0 ∧ (t.link n).failed = false) ∧
     ((s.link n).retrain = true → (s.link n).failed = false → ∃ t, exec (.memlinkRetrainTimeout n) s = .next t ∧ (t.link n).retrain = false ∧
       (t.link n).failed = true ∧ (t.unit (.link n)).health = .failed ∧ (t.unit (.link n)).last = some 0x75#7) ∧
     (∀ c, c = s.choose 3 → (s.link n).live = true → s.kregs.memmap.getLsbD n = true →
       (c.1 = 0 → exec (.dramScrub n) s = .next c.2) ∧
       (c.1 = 1 → ∃ t, exec (.dramScrub n) s = .next t ∧ (t.unit (.link n)).count = (s.unit (.link n)).count + 1 ∧ (t.unit (.link n)).last = some 0x79#7 ∧
         ∀ l, l ∈ s.poison → l ∈ t.poison) ∧
       (c.1 = 2 → ∃ t, exec (.dramScrub n) s = .next t ∧ t.mem = s.mem ∧ (∀ l, l ∈ s.poison → l ∈ t.poison) ∧
         ∀ l, l ∈ t.poison → l ∈ s.poison ∨ s.linkOf (64 * l) = n)) ∧
     ((s.link n).live = false ∨ s.kregs.memmap.getLsbD n = false → exec (.dramScrub n) s = .next s))

/-! ## Device events: issue, fetch, landing -/

/-- R90 to R92, R117, R120, R311, R390: a tile whose contexts have no stall cycle left offers its bundles lead first, or the other context's alone
first once it has lost 31 merges; a running core offers its own unless WFE waits; a stall cycle offers nothing and counts one context cycle; a line of
code brings the units it covers; what is due lands. R12: below a cap of 3600 W a tile may be left idle for a cycle, which is the model's free choice (log
entry 72): nothing then changes but the die's count of such cycles, which rises once for each.
Where the spec leaves a reading open, the model's own is that of log entries 30, 43, 59
and 72. -/
def Obligations.IssueEvents : Prop :=
  ∀ s : State,
    (∀ n a b q, a = (s.tile n).leadCtx → b = 1 - a → (∀ c, c < 2 → ((s.tile n).ctx c).x.stallLeft = 0) → s.capIdle (dieOf n) = (false, q) →
      ∃ t, exec (.bundleIssue (.tile n)) s = .next t ∧ t = { q with toIssue := t.toIssue, cur := t.cur, tiles := t.tiles } ∧ t.cur.lead = a ∧
        t.tile n = { s.tile n with exhausts := (t.tile n).exhausts } ∧ (∀ m, m ≠ n → t.tile m = s.tile m) ∧
        t.toIssue = s.toIssue ++ ((if 31 ≤ (s.tile n).skip ∧ ((s.tile n).ctx b).offers (s.tile n).cutting = true then [b, a] else [a, b]).filter
          (fun c => ((s.tile n).ctx c).offers (s.tile n).cutting)).map (UnitId.ctx n) ∧
        t.cur.solo = decide (31 ≤ (s.tile n).skip ∧ ((s.tile n).ctx b).offers (s.tile n).cutting = true)) ∧
    (∀ d, s.cap = 3600#12 → s.capIdle d = (false, s)) ∧
    (∀ n d, d = n / 288 → (s.capIdle d).1 = true → ∃ t, exec (.bundleIssue (.tile n)) s = .next t ∧ t.tiles = s.tiles ∧ t.toIssue = s.toIssue ∧
      mget 0 t.lostCyc d = mget 0 s.lostCyc d + (if mget 0 s.lostAt d = s.cycle + 1 then 0 else 1)) ∧
    (∀ k, (s.core k).running = true → (s.core k).x.stallLeft = 0 → ((s.core k).x.hold ≠ .wfe ∨ (s.core k).irq ≠ []) →
      exec (.bundleIssue (.core k)) s = .next { s with cur := Cur.init, toIssue := s.toIssue ++ [.core k] }) ∧
    (∀ k, (s.core k).running = true → 0 < (s.core k).x.stallLeft → ∃ t, exec (.bundleIssue (.core k)) s = .next t ∧ t.toIssue = s.toIssue ∧
      (t.core k).x.stallLeft = (s.core k).x.stallLeft - 1 ∧ (t.core k).x.ccycle = (s.core k).x.ccycle + 1) ∧
    (∀ n c k i line o p, c < 2 → (s.ctx n c).kernel = some k →
      i = (s.skipLacking (.ctx n c)).getD (firstMissing ((s.ctx n c).x.units.length + 1) (s.ctx n c).x.units (s.ctx n c).x.pc) → i < k.codelen → (s.ctx n c).stop.stopped = false →
      (s.tile n).cutting = false → line = max ((k.code.toNat + 2 * i) / 64 * 64) k.code.toNat → o = (line - k.code.toNat) / 2 →
      s.xlat (.ctx n c) (k.code.toNat + 2 * i) .fetch = .pa p → s.memFails (p - (k.code.toNat + 2 * i - line)) 64 false = none →
      ∃ t, exec (.codeFetch (.ctx n c)) s = .next t ∧ t.mem = s.mem ∧ (t.ctx n c).x.pc = (s.ctx n c).x.pc ∧
        ∀ j, j < min (32 - line % 64 / 2) (k.codelen - o) →
          mget 0 (t.ctx n c).x.units (o + j) = BitVec.ofNat 16 (s.memNat (p - (k.code.toNat + 2 * i - line) + 2 * j) 2)) ∧
    (∀ k i, s.coreLacking k = some i →
      exec (.codeFetch (.core k)) s = .next (s.startWalk (.core k) (2 * i) .fetch)) ∧
    (∀ u, (∀ n c, u = .ctx n c → c < 2) → ∃ t, exec (.resultLanding u) s = .next t ∧
      (t.thread u).pend = (s.thread u).pend.filter (fun p => !decide (p.due ≤ (s.thread u).ccycle)) ∧ (t.thread u).pc = (s.thread u).pc ∧
      (t.thread u).ccycle = (s.thread u).ccycle)

/-! ## Device events: the scheduler -/

/-- R58 to R63, R76, R80 to R87, R99 to R102, R106, R133: the distributor's and the scheduler's steps. An ENQ that may be taken is refused in a device
that is not READY, in a full queue and for an illegal graph, and accepted otherwise; a head waits one more period; the one head with a place is
bound; a context whose descriptor and dictionary are read starts at ENTRY; a thief draws a victim, and takes the tail of its deque; a victim whose
contexts have still to issue in the cycle gives no last record; a node whose tasks are over is DONE and lowers its successors' counts; a complete graph
leaves with GSTAT and a KIND 3 event, a killed one as KILLED once its tenant's tiles are cut.
Where the spec leaves a reading open, the model's own is that of log entries 40, 43, 65,
66, 73, 77 and 81. -/
def Obligations.SchedulingEvents : Prop :=
  ∀ s : State,
    (∀ k va q tn g a, (s.core k).enq = some (va, q) → (s.core k).enqDone = false → (s.core k).x.hold = .enq va q → s.enqAllowed k q = true →
      tn = (s.core k).ccten.toNat % 64 → s.readGraph tn (s.core k).kernel va.toNat = .ok g → a = s.modCore k (fun x => { x with enqDone := true }) →
      (s.dstate ≠ .ready → exec (.enqAcceptance k) s = .next (a.refuseGraph tn g 0x64#7)) ∧
      (s.dstate = .ready → 64 ≤ s.queued tn q → exec (.enqAcceptance k) s = .next (a.refuseGraph tn g 0x61#7)) ∧
      (s.dstate = .ready → s.queued tn q < 64 → g.bad = true → exec (.enqAcceptance k) s = .next (a.refuseGraph tn g 0x65#7)) ∧
      (s.dstate = .ready → s.queued tn q < 64 → g.bad = false → exec (.enqAcceptance k) s = .next (a.acceptGraph tn q g))) ∧
    (∀ tn q, mget [] s.ready (16 * tn + q) ≠ [] → exec (.agePeriod tn q) s =
      .next { s with ages := mput s.ages (16 * tn + q) (min 7 (mget 0 s.ages (16 * tn + q) + 1)) }) ∧
    (∀ d h, s.heads = [h] → s.bindable h d = true → ∃ credit lastq, exec (.selectionRound d) s =
      .next ((s.modDie d (fun x => { x with credit := credit, lastq := lastq })).bind d h (s.eff h))) ∧
    (∀ n c k l d img e, c < 2 → (s.ctx n c).task = some k → k.loaded = false → s.vaReadLong .walk k.tenant k.kernel.va.toNat 64 = .ok l →
      descOf k.kernel.va (ofBytes l) = some d → s.vaFetch k.tenant d.dict.toNat (48 * d.dictn) = .ok img →
      e = { k with kernel := d, loaded := true } → e.badRecord = false → ∃ t, exec (.kernelDescriptorLoad n c) s = .next t ∧
        (t.ctx n c).task = some e ∧ (t.ctx n c).x.pc = k.entry.getD d.entry ∧ t.mem = s.mem) ∧
    (∀ n c k m, c < 2 → (s.ctx n c).task = some k → (s.ctx n c).draws = m + 1 → (s.ctx n c).stealing = none → k.redundant = false →
      ∀ near, near = s.victims n k.tenant (288 * dieOf n) 288 → m < 3 → near ≠ [] → ∃ t, exec (.stealRequest n c) s = .next t ∧
        (t.ctx n c).lfsr = lfsrNext (s.ctx n c).lfsr ∧ (t.ctx n c).stealing = some (nth 0 near ((lfsrNext (s.ctx n c).lfsr).toNat % near.length)) ∧
        (t.ctx n c).draws = m + 2 ∧ (t.ctx n c).asked = s.cycle) ∧
    (∀ v n c k, s.thief v = some (n, c) → c < 2 → (s.ctx n c).task = some k → (s.tile v).cutting = false →
      (∀ vc r, (s.tile v).stealFrom (if s.ownerFirst v then 2 else 1) k.gid k.node = some (vc, r) → exec (.stealAnswer v) s =
        .next (((s.modCtx v vc (fun y => { y with deque := y.deque.dropLast })).modCtx n c (fun y => { y with stealing := none, draws := 0 })).startRec n c
          k r)) ∧
      (s.ownerFirst v = true → (s.tile v).stealFrom 2 k.gid k.node = none → exec (.stealAnswer v) s = .next s) ∧
      (s.ownerFirst v = false → (s.tile v).stealFrom 1 k.gid k.node = none → (s.ctx n c).draws < 7 →
        exec (.stealAnswer v) s = .next (s.modCtx n c (fun y => { y with stealing := none })))) ∧
    (∀ gid n g x, s.nodeOver gid n = true → s.graph gid = some g → s.node gid n = some x → exec (.nodeDone gid n) s =
      .next (x.succ.foldl (fun s j => s.predDone gid j)
        (if x.irq then (s.nodeState gid n .done).event g.tenant 1 none 0 n g.user else s.nodeState gid n .done))) ∧
    (∀ gid g, s.graph gid = some g → g.killed = false → g.over = true → (∀ x, x ∈ g.nodes → x.st ≠ .waiting) → exec (.graphComplete gid) s =
      .next (((s.putGstat g (if g.fails = [] then 2 else 3) (worstCause g.nodes g.fails)).event g.tenant 3
        (if g.fails = [] then none else some (worstCause g.nodes g.fails)) 0 0 g.user).graphGone g)) ∧
    (∀ gid g, s.graph gid = some g → g.killed = true →
      (∀ e, e ∈ s.tiles → e.2.tenant = some g.tenant → e.2.killing = false) →
      exec (.graphKillComplete gid) s = .next (((s.putGstat g 5 0x63#7).event g.tenant 3 (some 0x63#7) 0 0 g.user).graphGone g))

/-! ## Device events: remote accesses and the handle queue -/

/-- R97, R274, R364, R367, R369, R376 to R379, R385, R420, R468: an access that may perform does so at its home and settles, or leaves for another package; one of a task that has been saved
performs too, from where it is held; none performs before an earlier one of its context to its location, a BARR that waits in the handle queue among them; a
stream load that has performed delivers its element where the stream has room, and to a task that has ended none (R346); a JOIN's decrement is issued once its CONT write has performed; a
handle command at the head executes where its handle allows and no earlier matrix command names it; a BINIT at the head tags and writes its word, in a turn of the queue that may come
later, which is the model's free choice (log entry 40); a freed handle that no command names is gone.
Where the spec leaves a reading open, the model's own is that of log entries 19, 31, 35 and 40. -/
def Obligations.RemoteAndHandleEvents : Prop :=
  ∀ s : State,
    (∀ n c idx r h, c < 2 → (s.ctx n c).remote[idx]? = some r → r.kind ≠ .report → s.mayPerform n c r = true →
      (gaTile r.addr = false ∨ gaPeer r.addr = 0) →
      h = s.atHome r.tenant r.kind r.addr r.pa r.size r.data.toNat r.data2.toNat r.lanes → (h.cont = none ∨ s.contRoom n c r.tenant = true) →
      exec (.remoteAccessPerform n c idx) s = .next ((h.st.settle n c r h.val h.fail).afterAccess n c r h.fail h.cont)) ∧
    (∀ n c idx r, c < 2 → (s.ctx n c).remote[idx]? = some r → r.kind ≠ .report → s.mayPerform n c r = true → gaTile r.addr = true →
      gaPeer r.addr ≠ 0 → (s.port (gaPeer r.addr - 1)).failed = false → ∃ t, exec (.remoteAccessPerform n c idx) s = .next t ∧
        (t.port (gaPeer r.addr - 1)).out = (s.port (gaPeer r.addr - 1)).out ++ [(r.kind.message, r.msg n c)] ∧ t.mem = s.mem ∧
        ∀ x, x ∈ (t.ctx n c).remote → x.id = r.id → x.sent = true) ∧
    (∀ n c idx r, c < 2 → (s.ctx n c).remote[idx]? = some r → r.kind ≠ .report → s.mayPerform n c r = true → gaTile r.addr = true →
      gaPeer r.addr ≠ 0 → (s.port (gaPeer r.addr - 1)).failed = true → exec (.remoteAccessPerform n c idx) s =
        .next ((s.settle n c r 0 (some 0x75#7)).afterAccess n c r (some 0x75#7) none)) ∧
    (∀ n c q r, c < 2 → (s.ctx n c).remote.find? (fun r => r.feeds q) = some r → r.done = true → r.ended = false →
      (s.ctx n c).room (s.tile n).cutting q = true → exec (.ldxReturn n c q) s = .next ((s.modCtx n c (fun y =>
        { y.feed q r.result with remote := y.remote.filter (fun x => decide (x.id ≠ r.id)) })).taskEnd n c)) ∧
    (∀ n c q r, c < 2 → (s.ctx n c).remote.find? (fun r => r.feeds q) = some r → r.done = true → r.ended = true →
      exec (.ldxReturn n c q) s = .next ((s.modCtx n c (fun y => { y with remote := y.remote.filter (fun x => decide (x.id ≠ r.id)) })).taskEnd n c)) ∧
    (∀ n c idx r, (s.ctx n c).remote[idx]? = none → (s.savedAccesses n c)[idx - (s.ctx n c).remote.length]? = some r →
      exec (.remoteAccessPerform n c idx) s = .next (s.performHeld n r)) ∧
    (∀ n c (r e : Remote), e ∈ (s.ctx n c).remote → e.id < r.id → e.done = false → e.sameLoc r = true → s.mayPerform n c r = false) ∧
    (∀ n c a k id (r : Remote), HCmd.barr a k id ∈ (s.ctx n c).hq → id < r.id → Remote.sameLoc { r with addr := a, size := 8 } r = true →
      s.mayPerform n c r = false) ∧
    (∀ n c, (s.hqStep n c = none → s.hqTurn n c = s) ∧
      (s.hqStep n c ≠ none → ∃ k f, s.choose 2 = (k, f) ∧ s.hqTurn n c = if k = 0 then f.hqDrain n c else f)) ∧
    (∀ n c a v rest, (s.ctx n c).hq = .binit a v :: rest →
      s.hqStep n c = some (((s.modTile n (fun x => (x.setTag a true).padWrite a
        (toBytes 8 (if v.toNat % 2 ^ 48 = 0 then v ^^^ (1#64 <<< 56) else v).toNat))).modCtx n c (fun y => { y with hq := y.hq.drop 1 })).counted n 1)) ∧
    (∀ n c a sc pa rest m, c < 2 → (s.ctx n c).hq = .joinDec a sc pa :: rest → (∀ x, x ∈ (s.ctx n c).remote → x.kind ≠ .cont ∧ x.kind ≠ .joinDec) →
      s.second n c = false → s.homeWaits ((s.tile n).tenant.getD 0) a = false →
      m = s.addRemote n c .joinDec a pa 8 sc 0 0 (BitVec.allOnes 128) → exec (.joinDecrement n c) s =
        .next (m.perform n c ((m.ctx n c).remote.length - 1))) ∧
    (∀ i n c m rest hs, (i = .hopenExecute n c ∧ ∃ a b, m = HCmd.hopen a b) ∨ (i = .hpubExecute n c ∧ ∃ a b d, m = HCmd.hpub a b d) ∨
        (i = .hrelExecute n c ∧ ∃ a b d, m = HCmd.hrel a b d) → (s.ctx n c).hq = m :: rest → s.headStep n c = some hs →
      (∀ x, x ∈ (s.tile n).unaccepted → (s.tile n).names x hs.1 = false ∨ headSeq (m :: rest) ≤ x.seq) →
      exec i s = .next ((s.doHead n c).hqDrain n c)) ∧
    (∀ n k h, (s.tile n).freeing[k]? = some h → h.cmds = [] → (s.tile n).hqNames h.inst = false → ∃ t, exec (.hfreeComplete n k) s = .next t ∧
      (t.tile n).freeing = dropNth (s.tile n).freeing k ∧ t.mem = s.mem ∧ (∀ m, m ≠ n → t.tile m = s.tile m))

/-! ## Device events: cuts, replay, pairs, the in-field test -/

/-- R104, R105, R272 to R274, R276, R277, R279 to R281, R284, R285: a tile to be cut whose commands have completed is saved to the lowest free frame, and
leaves no task and no cut pending, and its scratchpad as it was (R115), or its tasks fail where the frame cannot be written; a killed tenant's is nobody's
then (R106); a frame is restored to its tile, scratchpad and registers as its bytes have them, and leaves the pool, where the tile may still take its tasks, which else wait again (R21, R281);
a replay is
counted and blamed on the tile, and a window's end clears the count; twins that agree at a commit point offer their bundles again, and twins that
differ, or whose partner is late, stop; a test starts with the die's first cluster and moves on, passed or failed.
Where the spec leaves a reading open, the model's own is that of log entries 29, 35, 36, 43,
53 and 54. -/
def Obligations.ReliabilityEvents : Prop :=
  ∀ s : State,
    (∀ n, (s.tile n).cutting = true → s.restoring n = none → s.cutBusy n = false → (s.tile n).killing = true →
      exec (.tileCut n) s = .next (s.modTile n (fun x => x.vacated n))) ∧
    (∀ n k x, x = s.tile n → x.cutting = true → x.killing = false → s.restoring n = none → s.cutBusy n = false → s.remotesDone (s.ctx n 0) = true →
      s.remotesDone (s.ctx n 1) = true → (s.ctx n 0).draws = 0 → (s.ctx n 1).draws = 0 → x.tasks ≠ [] → s.freeFrame = some k →
      mget 0 s.conts (x.tenant.getD 0) + (x.passed n).length ≤ 4096 →
      (s.frameBad (s.frameAt k) true = false → ∃ t, exec (.tileCut n) s = .next t ∧ (t.tile n).cutting = false ∧ (t.tile n).tasks = [] ∧
        (t.tile n).pad = x.pad ∧ (t.tile n).tenant = x.tenant ∧
        (∃ f, f ∈ t.frames ∧ f.fid = k ∧ f.tileNo = n ∧ f.tile.tasks = x.tasks ∧ f.tile.pad = x.pad ∧ f.tile.acc = x.acc) ∧
        ∀ m, m ≠ n → t.tile m = s.tile m) ∧
      (s.frameBad (s.frameAt k) true = true → exec (.tileCut n) s = .next ((s.failTasks x 0x6A#7).uncut n))) ∧
    (∀ n f, s.restoring n = some f → s.restoreFits f = true → s.frameBad (s.frameAt f.fid) false = false →
      exec (.tileRestore n) s = .next (s.restoreTile n f) ∧ ∀ g, g ∈ (s.restoreTile n f).frames → g.fid ≠ f.fid) ∧
    (∀ n f, s.restoring n = some f → s.restoreFits f = false → exec (.tileRestore n) s = .next ((s.entered f).uncut n)) ∧
    (∀ n f, s.restoring n = some f → s.restoreFits f = true → s.frameBad (s.frameAt f.fid) false = true → ∃ a : State, a.tiles = s.tiles ∧ a.graphs = s.graphs ∧
      exec (.tileRestore n) s = .next (((a.failTasks f.tile 0x6A#7).dropFrame f.fid).uncut n)) ∧
    (∀ (f : Frame) (x : Tile) (a : Nat), a = s.frameAt f.fid → x = s.readFrame a f.tile → x.tasks = f.tile.tasks ∧ x.c0.deque = f.tile.c0.deque ∧ x.c1.deque = f.tile.c1.deque ∧
      (∀ i, i < 0x100000 → mget 0 x.pad i = s.memByte (a + i)) ∧
      ∀ i, 0 < i → i < 64 → x.c0.x.rg i = BitVec.ofNat 64 (s.memNat (a + 0x201000 + 8 * i) 8) ∧
        x.c1.x.rg i = BitVec.ofNat 64 (s.memNat (a + 0x501000 + 8 * i) 8)) ∧
    (∀ n, (s.tile n).replays < 63 → ∃ t, exec (.timingReplay n false) s = .next t ∧ (t.tile n).replays = (s.tile n).replays + 1 ∧
      (t.unit (.tile n)).count = (s.unit (.tile n)).count + 1 ∧ (t.unit (.tile n)).last = some 0x7B#7 ∧
      (t.unit (.tile n)).health = (s.unit (.tile n)).health) ∧
    (∀ n, ∃ t, exec (.replayWindowEnd n) s = .next t ∧ (t.tile n).replays = 0 ∧ t.mem = s.mem) ∧
    (∀ n c v e, c < 2 → v.2 < 2 → s.twinOf n c = some v → s.shown n c = some e → s.shown v.1 v.2 = some e → v ≠ (n, c) → ∃ t, exec (.redundantCompare n c) s = .next t ∧
        (t.ctx n c).x.hold = .agreed ∧ (t.ctx v.1 v.2).x.hold = .agreed ∧ t = { s with tiles := t.tiles }) ∧
    (∀ n c v e f, c < 2 → s.twinOf n c = some v → s.shown n c = some e → s.shown v.1 v.2 = some f → e ≠ f →
      exec (.redundantCompare n c) s = .next ((s.stopEngine n c 0x72#7 e.1 0).stopEngine v.1 v.2 0x72#7 e.1 0)) ∧
    (∀ n c v e, c < 2 → s.twinOf n c = some v → s.shown n c = some e → s.shown v.1 v.2 = none → exec (.redundantTimeout n c) s =
      .next ((s.stopEngine n c 0x72#7 e.1 0).stopEngine v.1 v.2 0x72#7 e.1 0)) ∧
    (∀ d, s.kregs.testivl ≠ 0 → (∀ n, n < 18 → (s.cluster (18 * d + n)).testing = false) → ∃ t, exec (.fieldTestStart d) s = .next t ∧
      (t.cluster (18 * d)).testing = true ∧
      ∀ i, i < 16 → (t.tile (16 * (18 * d) + i)).cutting = ((s.tile (16 * (18 * d) + i)).cutting || !(s.tile (16 * (18 * d) + i)).tasks.isEmpty)) ∧
    (∀ n, s.testRuns n = true → ∃ t, exec (.fieldTestPass n) s = .next t ∧ (t.cluster n).testing = false ∧ (t.cluster n).tseen = 0 ∧
      (∀ i, i < 16 → (t.unit (.tile (16 * n + i))).health = .ok) ∧ ((n + 1) % 18 ≠ 0 → (t.cluster (n + 1)).testing = true)) ∧
    (∀ n, s.testRuns n = true → ∃ t, exec (.fieldTestFail n) s = .next t ∧ (t.cluster n).testing = false ∧
      (∀ i, i < 16 → (t.unit (.tile (16 * n + i))).health = (if (s.unit (.tile (16 * n + i))).health = .failed then .failed else .quarantined)) ∧
      ((n + 1) % 18 ≠ 0 → (t.cluster (n + 1)).testing = true))

/-! ## Device events: the fabric -/

/-- Flits of a kind that arrive at a port and complete message m; q: the state with them taken in (R34, R36). -/
def Sys2Proof.Claims.Brings (s : State) (port : Nat) (k : BitVec 4) (fl : List (BitVec 512)) (m : FabMsg) (q : State) : Prop :=
  (s.port port).brings k fl m ∧ q = s.taken port fl

/-- R34 to R38, R40, R41, R144, R274, R364, R462: requests from another package, of each kind. Flits that complete no message are taken in, and do nothing
else. A message for a tile that is not away performs at its home as the home's own rules say; one whose destination is no tile, or belongs to another
tenant, is discarded with REMOTE_TENANT; a load and an atomic are answered with what the home gives, a failed write with its cause; a full block
that the port accepted enters the store; a reference is served from it, or answered with a NAK; a message for a tile that is away changes nothing yet.
Where the spec leaves a reading open, the model's own is that of log entries 19 and 52. -/
def Obligations.FabricRequestEvents : Prop :=
  ∀ (s q : State) (port : Nat) (fl : List (BitVec 512)) (m : FabMsg),
    (∀ i k, (i = .remoteStore port fl ∧ k = 0x0#4) ∨ (i = .remoteLoadRequest port fl ∧ k = 0x1#4) ∨ (i = .copyData port fl ∧ k = 0x3#4) ∨
        (i = .barrierArrival port fl ∧ k = 0x4#4) ∨ (i = .send port fl ∧ k = 0x5#4) ∨ (i = .deduplicationReference port fl ∧ k = 0x7#4) ∨
        (i = .atomicRequest port fl ∧ k = 0xC#4) →
      (Brings s port k fl m q → q.waits m = true → exec i s = .next s) ∧
      ((s.port port).live = true → fl.all (fabFits k) = true → ((s.port port).takes fl).2 = none → exec i s = .next (s.taken port fl))) ∧
    -- REMOTE_STORE
    (Brings s port 0x0#4 fl m q → q.waits m = false →
      (∀ h, gaTile m.dst = true → h = q.atHome m.tenant .stx m.dst 0 (m.arg.toNat % 256) (ofBytes (m.data.take 128)) 0 m.lanes →
        (h.fail = none → exec (.remoteStore port fl) s = .next h.st) ∧
        (∀ c, h.fail = some c → exec (.remoteStore port fl) s = .next (h.st.answer port m.tile 0x2#4 m (c.toNat + 512) []))) ∧
      (gaTile m.dst = false → exec (.remoteStore port fl) s = .next (q.answer port m.tile 0x2#4 m (0x26 + 512) []))) ∧
    -- BARRIER_ARRIVAL
    (Brings s port 0x4#4 fl m q → q.waits m = false →
      (∀ h, gaTile m.dst = true → h = q.atHome m.tenant .arrival m.dst 0 8 0 0 (BitVec.allOnes 128) →
        (h.fail = none → exec (.barrierArrival port fl) s = .next h.st) ∧
        (∀ c, h.fail = some c → exec (.barrierArrival port fl) s = .next (h.st.answer port m.tile 0x2#4 m (c.toNat + 512) []))) ∧
      (gaTile m.dst = false → exec (.barrierArrival port fl) s = .next (q.answer port m.tile 0x2#4 m (0x26 + 512) []))) ∧
    -- REMOTE_LOAD_REQUEST
    (Brings s port 0x1#4 fl m q → q.waits m = false →
      (∀ h, gaTile m.dst = true → h = q.atHome m.tenant (.ldx 0) m.dst 0 m.arg.toNat 0 0 m.lanes →
        (h.fail = none → exec (.remoteLoadRequest port fl) s = .next (h.st.answer port m.tile 0x2#4 m 0 (toBytes m.arg.toNat h.val))) ∧
        (∀ c, h.fail = some c → exec (.remoteLoadRequest port fl) s = .next (h.st.answer port m.tile 0x2#4 m c.toNat []))) ∧
      (gaTile m.dst = false → exec (.remoteLoadRequest port fl) s = .next (q.answer port m.tile 0x2#4 m 0x26 []))) ∧
    -- ATOMIC_REQUEST
    (Brings s port 0xC#4 fl m q → q.waits m = false →
      (∀ h, gaTile m.dst = true → h = q.atHome m.tenant (.atm (atmOfCode (m.arg.toNat / 256 % 256)) 0) m.dst 0 (m.arg.toNat % 256)
          (ofBytes (m.data.take 128)) (ofBytes ((m.data.drop 128).take 8)) (BitVec.allOnes 128) →
        (h.fail = none → h.cont = none → exec (.atomicRequest port fl) s = .next (h.st.answer port m.tile 0xD#4 m 0 (toBytes 8 h.val))) ∧
        (∀ b, h.fail = none → h.cont = some b →
          exec (.atomicRequest port fl) s = .next (h.st.answer port m.tile 0xD#4 m 256 (toBytes 8 h.val ++ toBytes 64 b))) ∧
        (∀ c, h.fail = some c → exec (.atomicRequest port fl) s = .next (h.st.answer port m.tile 0xD#4 m c.toNat []))) ∧
      (gaTile m.dst = false → exec (.atomicRequest port fl) s = .next (q.answer port m.tile 0xD#4 m 0x26 []))) ∧
    -- COPY_DATA
    (Brings s port 0x3#4 fl m q → q.waits m = false →
      (gaTile m.dst = true → q.homeFails m.tenant .stx m.dst 0 m.data.length true = none →
        (s.kregs.ddbase = 0 ∨ m.data.length ≠ 4096 ∨ m.cand ≠ some (blockTag (s.port port).key m.data) → exec (.copyData port fl) s =
          .next (q.homeWrite m.dst 0 m.data.length (ofBytes m.data) (BitVec.allOnes 128))) ∧
        (∀ h, s.kregs.ddbase ≠ 0 → m.data.length = 4096 → h = blockTag (s.port port).key m.data → m.cand = some h → ∃ t, exec (.copyData port fl) s = .next t ∧
          t = (q.homeWrite m.dst 0 m.data.length (ofBytes m.data) (BitVec.allOnes 128)).storeBlock port m ∧
          (t.port port).store.head? = some (m.tenant, h, (s.port port).place m.tenant h))) ∧
      (∀ c, gaTile m.dst = true → q.homeFails m.tenant .stx m.dst 0 m.data.length true = some c → exec (.copyData port fl) s =
        .next (q.answer port m.tile 0x2#4 m (c.toNat + 512) [])) ∧
      (gaTile m.dst = false → exec (.copyData port fl) s = .next (q.answer port m.tile 0x2#4 m (0x26 + 512) []))) ∧
    -- SEND, of a request and of payload
    (Brings s port 0x5#4 fl m q → q.waits m = false →
      (m.data = [] → (s.unit (.tile m.tile)).health ≠ .failed → m.tenant ∉ (s.tile m.tile).lostFor → gaTile m.dst = true →
        s.bound m.tile m.tenant = true → (s.tile m.tile).requests.length < 256 → exec (.send port fl) s = .next
          ((q.modTile m.tile (fun x => { x with requests := x.requests ++ [m.request port] })).matchTile m.tile)) ∧
      (m.data = [] → (s.unit (.tile m.tile)).health ≠ .failed → m.tenant ∉ (s.tile m.tile).lostFor →
        (gaTile m.dst = false ∨ s.bound m.tile m.tenant = false) →
        exec (.send port fl) s = .next (q.replySend m.tile (m.request port) (some 0x26#7) 0)) ∧
      (∀ r, m.data ≠ [] → (s.tile m.tile).posted.find? (fun r => decide (r.id = m.arg.toNat / 2 ^ 20 % 2 ^ 44)) = some r → r.met ≠ none → r.tenant = m.tenant →
        s.bound m.tile m.tenant = true → exec (.send port fl) s =
          .next ((q.recvBytes m.tile r (m.arg.toNat % 2 ^ 20) m.data).storeBlock port m))) ∧
    -- DEDUPLICATION_REFERENCE
    (∀ a, Brings s port 0x7#4 fl m q → q.waits m = false → a = q.modPort port (fun x => { x with refs := x.refs + 1 }) →
      (a.blockOf port m.tenant (BitVec.ofNat 128 (ofBytes (m.data.take 16))) = none → exec (.deduplicationReference port fl) s =
        .next ((a.modPort port (fun x => { x with refused := x.refused + 1 })).sendFrom m.tile port 0x8#4
          { tenant := m.tenant, dst := m.src, src := m.dst, tag := m.tag, arg := m.arg, data := m.data, cand := none })) ∧
      (∀ e l b, a.blockOf port m.tenant (BitVec.ofNat 128 (ofBytes (m.data.take 16))) = some (e, l) →
        b = a.modPort port (fun x => { x with store := e :: x.store.filter (fun f => decide (f ≠ e)) }) → exec (.deduplicationReference port fl) s =
          .next (if m.refKind = 0x3#4 then b.copyArrives port { m with data := l } else b.sendArrives port { m with data := l }).2))

/-- R29, R34 to R37, R39 to R42, R98, R277, R286, R292, R367, R460 to R464: answers, acknowledgements, keys and the life of a port; and the sends and
receives of a tile. A load that returns, an atomic's old value and a credit reach the access or the send that they name, and one of another TENANT is
discarded (R38); an acknowledgement frees the
retry buffer through its HSEQ; a NAK counts, one that comes and one that goes out, and the port that it comes to replays from that HSEQ, and sixteen in a row bring retraining at
either end, whose failure fails the port; a new key empties the port's caches; a reserved kind is discarded and counted; a retraction notice is logged and told to each VALID tenant that
it names. The first line of each clause names its events.
The unit of a retraction record, port + 256 times cluster, is the model's choice (log entry 37), and a session key is a free value (log entry 6). Where the spec leaves another
reading open, the model's own is that of log entries 19 and 52. -/
def Obligations.FabricAnswerEvents : Prop :=
  ∀ (s : State) (port : Nat),
    -- REMOTE_LOAD_RETURN, ATOMIC_RETURN
    (∀ fl q m n c r code, m.to.1 = n → m.to.2.1 = c → c < 2 →
      (s.ctx n c).remote.find? (fun r => decide (r.id = m.tag.toNat) && r.sent && !r.done) = some r → code = BitVec.ofNat 7 (m.arg.toNat % 128) →
      r.tenant = m.tenant → ∀ fail, fail = (if code = 0#7 then none else some code) →
      (Brings s port 0x2#4 fl m q → s.answers m = true →
        exec (.remoteLoadReturn port fl) s = .next ((q.settle n c r (ofBytes m.data) fail).afterAccess n c r fail none)) ∧
      (Brings s port 0xD#4 fl m q → m.arg.getLsbD 8 = false →
        exec (.atomicReturn port fl) s = .next ((q.settle n c r (ofBytes (m.data.take 8)) fail).afterAccess n c r fail none)) ∧
      (Brings s port 0xD#4 fl m q → m.arg.getLsbD 8 = true → s.contRoom n c r.tenant = true → exec (.atomicReturn port fl) s =
        .next ((q.settle n c r (ofBytes (m.data.take 8)) fail).afterAccess n c r fail (some (ofBytes (m.data.drop 8))))) ∧
      (Brings s port 0xD#4 fl m q → m.arg.getLsbD 8 = true → s.contRoom n c r.tenant = false → exec (.atomicReturn port fl) s = .next s)) ∧
    -- An answer of another TENANT than what it names (R38)
    (∀ fl q m, (Brings s port 0x2#4 fl m q → s.answers m = false → exec (.remoteLoadReturn port fl) s = .next q) ∧
      (Brings s port 0xD#4 fl m q → (∀ r, r ∈ (s.ctx m.to.1 m.to.2.1).remote → r.id = m.tag.toNat → r.tenant ≠ m.tenant) →
        exec (.atomicReturn port fl) s = .next q) ∧
      (Brings s port 0x6#4 fl m q → (∀ r, r ∈ (s.tile m.to.1).sends → r.id = m.tag.toNat → r.tenant ≠ m.tenant) →
        exec (.receiveCredit port fl) s = .next q) ∧
      (∀ e, Brings s port 0x8#4 fl m q → (s.port port).block m.dst m.src m.tag m.arg = some e → e.2.tenant ≠ m.tenant →
        exec (.deduplicationNak port fl) s = .next q)) ∧
    (∀ fl q m r, Brings s port 0x2#4 fl m q → r ∈ (s.ctx m.to.1 m.to.2.1).remote → r.id = m.tag.toNat → r.tenant ≠ m.tenant → s.answers m = false) ∧
    (∀ fl q m n c slot k code, Brings s port 0x2#4 fl m q → m.to.1 = n → m.to.2.1 = c →
      (s.ctx n c).remote.find? (fun r => decide (r.id = m.tag.toNat) && r.sent && !r.done) = none → (s.tile n).copyOf m.tag.toNat = some (slot, k) →
      s.answers m = true → m.arg.getLsbD 9 = false → code = BitVec.ofNat 7 (m.arg.toNat % 128) → exec (.remoteLoadReturn port fl) s =
        .next (q.modTile n (fun x => x.setCopy slot { k with got := mput k.got m.to.2.2 (ofBytes m.data, code) }))) ∧
    -- RECEIVE_CREDIT
    (∀ fl q m r code, Brings s port 0x6#4 fl m q → (s.tile m.to.1).sends.find? (fun r => decide (r.id = m.tag.toNat ∧ r.tenant = m.tenant)) = some r →
      code = BitVec.ofNat 7 (m.arg.toNat % 128) → code ≠ 0#7 → exec (.receiveCredit port fl) s = .next (q.sendDone m.to.1 r.id (some code))) ∧
    (∀ fl q m r base, Brings s port 0x6#4 fl m q → (s.tile m.to.1).sends.find? (fun r => decide (r.id = m.tag.toNat ∧ r.tenant = m.tenant)) = some r → m.arg.toNat % 128 = 0 →
      base = ((s.tile m.to.1).inst r.inst).front + fOff r.block → base % 4096 + fLen r.block ≤ 4096 → 0 < fLen r.block → fDedup r.block = false →
      ∃ t, exec (.receiveCredit port fl) s = .next t ∧ (t.port port).out = (s.port port).out ++ [(0x5#4,
        { tenant := r.tenant, dst := fAddr r.block, src := BitVec.ofNat 64 (2 * m.to.1 + r.ctx), tag := BitVec.ofNat 64 r.id,
          arg := BitVec.ofNat 64 (2 ^ 20 * (m.arg.toNat / 256 % 2 ^ 44)), data := (s.tile m.to.1).padRead base (fLen r.block), cand := none })]) ∧
    -- DEDUPLICATION_NAK
    (∀ fl q m e, Brings s port 0x8#4 fl m q → (s.port port).block m.dst m.src m.tag m.arg = some e → e.2.tenant = m.tenant → exec (.deduplicationNak port fl) s =
      .next (((q.modPort port (fun x => { x with blocks := x.blocks.filter (fun b => decide (b ≠ e)) })).sendFrom e.2.from.1 port e.1
        e.2).klog 6 0x3C#7 0 port (2 ^ e.2.tenant) 0 0)) ∧
    -- RETRACTION_NOTICE
    (∀ fl q m cluster lo hi tmask, Brings s port 0x9#4 fl m q → cluster = msgField m.data 0 1 → lo = msgField m.data 8 8 → hi = msgField m.data 16 8 →
      tmask = msgField m.data 24 8 →
      ((∀ n, n < 64 → tmask.testBit n = true → (s.tenant n).valid = false) →
        exec (.retractionNotice port fl) s = .next (q.klog 5 0x76#7 0 (port + 256 * cluster) tmask lo hi)) ∧
      (∀ n, n < 64 → tmask.testBit n = true → (s.tenant n).valid = true →
        (∀ j, j < 64 → j ≠ n → tmask.testBit j = true → (s.tenant j).valid = false) → exec (.retractionNotice port fl) s =
          .next ((q.klog 5 0x76#7 0 (port + 256 * cluster) tmask lo hi).event n 5 (some 0x76#7) 0 0 0))) ∧
    -- HOP_ACK, HOP_NAK
    (∀ f n, (s.port port).live = true → flitGood f = true → fabKind f = 0xA#4 → n = (s.port port).covered (fabHseq f) →
      exec (.hopAck port f) s = .next (((s.port port).out.take n).foldl (fun (s : State) e => s.acked port e)
        (s.modPort port (fun x => x.acked (fabHseq f))))) ∧
    (∀ f n, (s.port port).live = true → flitGood f = true → fabKind f = 0xB#4 → n = (fabHseq f).setWidth 12 →
      ∃ t, exec (.hopNak port f) s = .next t ∧ (t.port port).out = (s.port port).out ∧ (t.port port).link.retry = (s.port port).link.retry ∧
        (t.port port).link.naks = (if (s.port port).link.nakSeq = n then (s.port port).link.naks + 1 else 1) ∧ (t.port port).link.nakSeq = n ∧
        (t.port port).link.wire = (s.port port).link.wire ++ ((s.port port).link.retry.dropWhile (fun x => decide (x.1 ≠ n))).map Prod.snd) ∧
    (∀ f, (s.port port).live = true → flitGood f = false →
      exec (.hopAck port f) s = .next (s.modPort port (fun x => x.answers false x.expected)) ∧
      exec (.hopNak port f) s = .next (s.modPort port (fun x => x.answers false x.expected))) ∧
    -- FABRIC_RESERVED_KIND
    (∀ f : BitVec 512, flitGood f = true → 14 ≤ f.toNat / 2 ^ 28 % 16 → ∃ t, exec (.fabricReservedKind port f) s = .next t ∧
      (t.port port).dropped = (s.port port).dropped + 1 ∧ t = { s with ports := t.ports } ∧
      ((fabHseq f ≠ (s.port port).expected) → (t.port port).link = (s.port port).link)) ∧
    -- SAHETH_LINK_PORT_TRAINING, FABRIC_RETRAIN, SESSION_KEY_AGREEMENT, FABRIC_RETRAIN_FAIL
    (∀ i peer, (i = .sahethLinkPortTraining port peer ∨ (i = .fabricRetrain port peer ∧ (16 ≤ (s.port port).link.naks ∨ 16 ≤ (s.port port).refuses))) → (s.port port).failed = false →
      ∃ t, exec i s = .next t ∧ (t.port port).up = true ∧ (t.port port).peer = ((peer &&& 0x003FFFFFFFFFFFFF#64) ||| 0x8000000000000000#64) ∧
        (t.port port).link.naks = 0 ∧ (t.port port).refuses = 0 ∧ (t.port port).sent = [] ∧ (t.port port).store = [] ∧
        (t.port port).key = Config.sessionKey port (s.port port).keyNo ∧ (t.port port).out = (s.port port).out) ∧
    (2 ^ 24 ≤ (s.port port).refs → ∃ t, exec (.sessionKeyAgreement port) s = .next t ∧ (t.port port).refs = 0 ∧ (t.port port).sent = [] ∧
      (t.port port).store = [] ∧ (t.port port).key = Config.sessionKey port (s.port port).keyNo) ∧
    (∀ (x : Port) f l, flitGood f = false ∨ fabHseq f ≠ x.expected → (x.takes (f :: l)).1.refuses = x.refuses + 1 ∧ (x.takes (f :: l)).2 = none) ∧
    ((s.port port).failed = false → (16 ≤ (s.port port).link.naks ∨ 16 ≤ (s.port port).refuses) → ∃ t, exec (.fabricRetrainFail port) s = .next t ∧
      t = ((s.modPort port (fun x => { x with failed := true, up := false })).linkDown (.port port) port).cutPort port ∧
      (s.tiles = [] → (t.port port).failed = true ∧ (t.port port).up = false ∧ (t.port port).out = [] ∧ (t.unit (.port port)).health = .failed ∧
        (t.unit (.port port)).last = some 0x75#7)) ∧
    -- FSEND_ACCEPT, to another package and within this one
    (∀ n c b inst scope id rest, c < 2 → (s.tile n).sends = [] → (s.ctx n c).fq = .fsend b inst scope id :: rest → (s.tile n).cutting = false →
      ((s.tile n).inst inst).canRead 1 = true → (s.tile n).awaits id = false → (s.tile n).outcome id = none →
      ((s.tile n).ctx (1 - c)).sendsBefore (fAddr b) id = false → fOff b + fLen b ≤ ((s.tile n).inst inst).size →
      (gaPeer (fAddr b) ≠ 0 → (s.port (gaPeer (fAddr b) - 1)).failed = false → ∃ t, exec (.fsendAccept n c) s = .next t ∧ (t.ctx n c).fq = rest ∧
        (∃ r, (t.tile n).sends = [r] ∧ r.id = id ∧ r.ctx = c ∧ r.block = b) ∧
        (t.port (gaPeer (fAddr b) - 1)).out = (s.port (gaPeer (fAddr b) - 1)).out ++ [(0x5#4,
          { tenant := (s.tile n).tenant.getD 0, dst := fAddr b, src := BitVec.ofNat 64 (2 * n + c), tag := BitVec.ofNat 64 id,
            arg := BitVec.ofNat 64 (fLen b + 2 ^ 32 * (fTag b).toNat), data := [], cand := none })]) ∧
      (∀ d r a, gaPeer (fAddr b) = 0 → d = gaTileNo (fAddr b) → s.savedFor d ((s.tile n).tenant.getD 0) = false → (s.unit (.tile d)).health ≠ .failed →
        s.bound d ((s.tile n).tenant.getD 0) = true → (s.tile d).requests.length < 256 →
        r = { id := id, ctx := c, block := b, inst := inst, tenant := (s.tile n).tenant.getD 0, scope := scope, written := false } →
        a = (s.modCtx n c (fun y => { y with fq := rest })).modTile n (fun x =>
          { (x.modInst inst (fun h => h.startRead id 1)) with sends := x.sends ++ [r] }) → exec (.fsendAccept n c) s =
            .next ((a.modTile d (fun x => { x with requests := x.requests ++ [r.request n] })).matchTile d))) ∧
    -- FRECV_POST
    (∀ n c m r rest, c < 2 → (s.tile n).requests = [] → (s.tile n).posted = [] → (s.ctx n c).fq = m :: rest → recvOf c ((s.tile n).tenant.getD 0) m = some r →
      (s.tile n).cutting = false → recvTooLong r ((s.tile n).inst r.inst) = false → (s.tile n).recvAdmits r = true →
      (s.tile n).awaits r.id = false → (s.tile n).outcome r.id = none →
      ∃ t, exec (.frecvPost n c) s = .next t ∧ (t.ctx n c).fq = rest ∧ (t.tile n).posted = [r] ∧ t.mem = s.mem)

/-! ## Device events: engines of a tile -/

/-- R12, R170, R173, R179, R186, R191, R192, R282, R417, R418, R424, R425, R427, R430, R431, R440, R441: the array and the Nib. A command that may start
leaves the queue and starts; a legal MCFG and NIBSET set their registers, an MSWAP swaps planes, an MZERO clears its rows, an MLDW clears BVALID and
enters the Nib pipe; a load takes its factors once its handle is FULL, writes one K-row of the back plane a beat, and its last beat sets the cursor and
BVALID; a run reads its next row into its accumulator row, and the last ends it; a drained row enters q6 and sets its bit of NANSTAT; a CBLD and a TRDEF are
accepted, act and complete in steps of their own (R470): a table is built into its ring word by word, or fails, and a definition into its slot. A command behind one that waits for its
handle, or behind a held load, waits (R140, R191). Below a cap of 3600 W a beat may be left idle, which is the model's free choice (log entry 72).
Where the spec leaves a reading open, the model's own is that of log entries 28 and 41. -/
def Obligations.ArrayEvents : Prop :=
  ∀ (s : State) (n : Nat),
    -- MATRIX_COMMAND_START
    (∀ m rest, (s.tile n).mq = m :: rest → (s.tile n).pipeWaits = true ∨ (s.tile n).nibHeld = true → exec (.matrixCommandStart n) s = .next s) ∧
    (∀ m rest, (s.tile n).mq = m :: rest → (s.tile n).mayStart m = true → (s.tile n).cutting = false →
      exec (.matrixCommandStart n) s = .next ((s.modTile n (fun x => { x with mq := rest })).startMatrix n m) ∧
      (∀ v, m.op = .mcfg v → (s.tile n).ends m.seq none = none → (mxMode v ≠ 1 → v.getLsbD 3 = false ∧ v.getLsbD 4 = false) → (mxMode v ≠ 2 → v.getLsbD 12 = false) →
        ∃ t, exec (.matrixCommandStart n) s = .next t ∧ (t.tile n).mxcfg = v ∧ (t.tile n).mq = rest ∧ (t.tile n).acc = (s.tile n).acc) ∧
      (∀ v, m.op = .nibset v → (s.tile n).ends m.seq none = none → nibBad v = false →
        ∃ t, exec (.matrixCommandStart n) s = .next t ∧ (t.tile n).nibcfg = v ∧ (t.tile n).nibFresh = true ∧ (t.tile n).mq = rest) ∧
      (m.op = .mldw → (s.tile n).mldwCause = none → ∃ t y, exec (.matrixCommandStart n) s = .next t ∧ (t.tile n).back.valid = false ∧
        (t.tile n).nib = some y ∧ y.cmd = m ∧ y.k = 0 ∧ (t.tile n).front = (s.tile n).front ∧ (t.tile n).mq = rest) ∧
      (m.op = .mswap → (s.tile n).ends m.seq none = none → (s.tile n).back.valid = true → ∃ t, exec (.matrixCommandStart n) s = .next t ∧ (t.tile n).front = (s.tile n).back ∧
        (t.tile n).back = (s.tile n).front ∧ (t.tile n).mq = rest ∧ (t.tile n).acc = (s.tile n).acc) ∧
      (∀ b w k, m.op = .mzero b w k → (s.tile n).ends m.seq none = none → w + k ≤ 64 → ∃ t, exec (.matrixCommandStart n) s = .next t ∧ (t.tile n).mq = rest ∧
        (∀ r, w ≤ r → r < w + k → mget 0#4 (t.tile n).rowst (64 * b + r) = 8#4 ∧ ∀ j, j < 32 → mget 0#32 (t.tile n).acc (accKey b r j) = 0))) ∧
    -- NIB_BEAT
    (∀ k c, (s.tile n).nib = some k → k.cmd.op = .mldw → k.taken = false →
      (k.smooth = none ∨ ∃ i, k.smooth = some i ∧ (s.tile n).handleAhead k.cmd = false ∧ ((s.tile n).inst i).canRead 1 = true) →
      c = { k with taken := true } → ∃ t, exec (.nibBeat n) s = .next t ∧ (t.tile n).nib = some c ∧ (t.tile n).back = (s.tile n).back) ∧
    (∀ k y, (s.tile n).nib = some k → k.cmd.op = .mldw → k.taken = true → (s.tile n).beatCause k = none → (s.tile n).beatReady k = true →
      y = (List.range 32).foldl (fun x j => Tile.writePe x k j) (s.tile n) →
      (k.k ≠ 63 → ∃ t, exec (.nibBeat n) s = .next t ∧ (t.tile n).nib = some { (y.advanceTables k).2 with k := k.k + 1 } ∧
        (t.tile n).front = (s.tile n).front ∧ (t.tile n).back.elems = y.back.elems ∧ (t.tile n).back.scales = y.back.scales) ∧
      (k.k = 63 → (s.tile n).lingers k.cmd.seq = false → (s.tile n).ends k.cmd.seq none = none →
        ∃ t, exec (.nibBeat n) s = .next t ∧ (t.tile n).nib = none ∧ (t.tile n).back.valid = true ∧
        (t.tile n).back.amode = BitVec.ofNat 3 (mxMode (s.tile n).mxcfg))) ∧
    -- ARRAY_BEAT
    (∀ b swap acc bank w inst h row x q, x = s.tile n → x.beat = some b → b.cmd.op = .run swap acc bank w inst h → x.nibHeld = false → b.taken = true →
      s.capIdle (dieOf n) = (false, q) → x.rowPresent b.cmd.seq inst = true →
      row = x.padRead (x.runRow b.cmd.seq inst h b.r) (rowSize (mxMode x.mxcfg) (mxAsc x.mxcfg)) →
      (b.r + 1 < mxRun x.mxcfg → ∃ t, exec (.arrayBeat n) s = .next t ∧ (t.tile n).beat = some { b with r := b.r + 1, taken := true } ∧
        (t.tile n).acc = (x.beatInto row acc bank (w + b.r)).acc ∧ (t.tile n).rowst = (x.beatInto row acc bank (w + b.r)).rowst ∧
        (t.tile n).pad = x.pad) ∧
      (b.r + 1 = mxRun x.mxcfg → swap = false → x.lingers b.cmd.seq = false → x.ends b.cmd.seq none = none → ∃ t, exec (.arrayBeat n) s = .next t ∧ (t.tile n).beat = none ∧
        (t.tile n).acc = (x.beatInto row acc bank (w + b.r)).acc ∧ (t.tile n).rowst = (x.beatInto row acc bank (w + b.r)).rowst ∧
        (t.tile n).pad = x.pad)) ∧
    ((s.capIdle (dieOf n)).1 = true → ∃ t, exec (.arrayBeat n) s = .next t ∧ t.tiles = s.tiles ∧ t.mem = s.mem) ∧
    -- DRAIN_ROW_PUSH
    (∀ b bank w k e x, x = s.tile n → x.beat = some b → b.cmd.op = .mdrain bank w k → b.r + 1 < k → x.nibHeld = false →
      (x.ctx b.cmd.ctx).room x.cutting 6 = true → (x.ctx b.cmd.ctx).ending = false →
      e = BitVec.ofNat 1024 (joinElems 32 ((List.range 32).map (fun j => (mget 0#32 x.acc (accKey bank (w + b.r) j)).toNat))) →
      ∃ t, exec (.drainRowPush n) s = .next t ∧ (t.tile n).beat = some { b with r := b.r + 1 } ∧ (t.tile n).drains = x.drains + 1 ∧
        (t.tile n).acc = x.acc ∧ (t.tile n).nanstat = BitVec.ofNat 64 (setBits x.nanstat.toNat (x.drains % 64) 1 (if nanMask e = 0 then 0 else 1)) ∧
        t.ctx n b.cmd.ctx = (x.ctx b.cmd.ctx).feed 6
          { width := 1024, val := e, marks := BitVec.ofNat 3 (mget 0#4 x.rowst (64 * bank + (w + b.r))).toNat, poison := none }) ∧
    -- CBLD_BUILD
    (∀ k cmd inst src x, x = s.tile n → x.nib = some k → k.cmd.op = .cbld cmd inst src →
      (k.taken = false → isBlock (x.alloc src) 0 = true → isRing (x.alloc inst) 0 = true → x.handleAhead k.cmd = false → (x.inst src).canRead 1 = true →
        (x.inst inst).canWrite k.cmd.seq 1 = true →
        ∃ t, exec (.cbldBuild n) s = .next t ∧ (t.tile n).nib = some { k with taken := true } ∧ (t.tile n).pad = x.pad ∧ t.mem = s.mem) ∧
      (∀ l a, k.taken = true → k.k = 0 → (cbldEntries x cmd (x.inst src)).bind (fun l => l.mapM (cbldEntry cmd)) = some l →
        l.length * entrySize (cmd.toNat / 2 ^ 14 % 4) ≤ (x.inst inst).size → a = l.flatMap (toBytes (entrySize (cmd.toNat / 2 ^ 14 % 4))) →
        exec (.cbldBuild n) s = .next (s.setTile n { x with
          nib := some { k with k := 1, out := wordPieces (a.length / 16 + 2) ((x.inst inst).wbase k.cmd.seq) a } })) ∧
      (k.taken = true → k.k = 0 → (cbldEntries x cmd (x.inst src)).bind (fun l => l.mapM (cbldEntry cmd)) = none →
        exec (.cbldBuild n) s = .next (s.cbldFail n k.cmd cmd)) ∧
      (∀ p l, k.taken = true → k.k ≠ 0 → k.out = p :: l →
        exec (.cbldBuild n) s = .next (s.setTile n { x.padWrite p.1 p.2 with nib := some { k with out := l } })) ∧
      (k.taken = true → k.k ≠ 0 → k.out = [] → x.lingers k.cmd.seq = false → x.ends k.cmd.seq none = none →
        exec (.cbldBuild n) s = .next ((s.setTile n { x with nib := none }).engineDone n k.cmd.seq (cmd.toNat / 2 ^ 36 % 2 ^ 20) (cbldBytes cmd) none))) ∧
    -- TRDEF_EXECUTE
    (∀ k slot inst x, x = s.tile n → x.nib = some k → k.cmd.op = .trdef slot inst →
      (k.taken = false → isBlock (x.alloc inst) 0 = true → x.handleAhead k.cmd = false → (x.inst inst).canRead 1 = true →
        (∀ j, j ∈ x.brush → j.seq < k.cmd.seq → j.started = true) →
        ∃ t, exec (.trdefExecute n) s = .next t ∧ (t.tile n).nib = some { k with taken := true } ∧ (t.tile n).trdefs = x.trdefs) ∧
      (∀ d, k.taken = true → x.lingers k.cmd.seq = false → x.ends k.cmd.seq none = none → readTrDef x (x.inst inst) = some d →
        ∃ t, exec (.trdefExecute n) s = .next t ∧ mfind (t.tile n).trdefs slot = some d ∧ (t.tile n).nib = none) ∧
      (k.taken = true → x.lingers k.cmd.seq = false → readTrDef x (x.inst inst) = none →
        exec (.trdefExecute n) s = .next (s.matrixFail n k.cmd 0x43#7)))

/-- R149, R180, R215 to R220, R236, R246, R252, R445, R447, R450, R451, R454 to R458, R470: the copy engine and the key-value engine. An SQGO at the head of its
queue takes its free slot with the staging registers as they are then, or completes with the cause that admission finds; an admitted copy starts once
its handles and its stream admit it; a running copy does some of its units, which are counted, and goes on, or has only its end left; one whose bytes are all out, or that failed, ends once
its messages are answered; a page fault parks a copy and stops its context; an ACCPY is accepted, moves its words one by one, and completes; an XLD is accepted, finds its entry or loads
one, and completes; an XINV retires the entries of its tag and completes
once they are freed; a gather is accepted with its translation, or fails, takes a block a step and completes; a splice is accepted, reads its record and makes its checks, reads each part
and writes its pieces, then its result, and completes; a prefix command is accepted, acts on its bucket, writes its result, and completes; a report leaves its queue as a remote access at
package scope (R457). Acceptance, reads, writes and completion are steps of their own (R470). How many units of a copy and pieces of a splice a step does, which prefix command of
several goes on, and whether a copy that may end ends in this step, are the model's free choices (log entries 44 and 49); that a command of a redundant pair waits for the copy that
proceeds is log entry 29's.
Where the spec leaves a reading open, the model's own is that of log entries 44, 45, 49, 50
and 80. -/
def Obligations.CopyAndKeyValueEvents : Prop :=
  ∀ (s : State) (n c : Nat), c < 2 →
    -- COPY_ADMISSION
    (∀ q slot scope id gid node si di rest k, q = s.flushCq n c → (q.ctx n c).cq = .sqgo slot scope id gid node si di :: rest →
      (∀ e, e ∈ (q.tile n).copies → e.1 ≠ slot) → k = (q.ctx n c).staging →
      (q.copyCause n c scope k si di = none → ∃ t y, exec (.copyAdmission n c) s = .next t ∧ (t.ctx n c).cq = .admitted slot :: rest ∧
        (t.tile n).copy slot = some y ∧ y.regs = k ∧ y.seq = id ∧ y.st = 0 ∧ y.ctx = c ∧ t.mem = s.mem) ∧
      (∀ e, q.copyCause n c scope k si di = some e → (q.tile n).lingers id = false → exec (.copyAdmission n c) s =
        .next ((q.modCtx n c (fun y => { y with cq := rest })).copyEnd n slot (sqgoCmd (q.tile n) n c k scope id gid node si di) 0 (some e)))) ∧
    -- COPY_ACCEPT
    (∀ q slot rest k, q = s.flushCq n c → (q.ctx n c).cq = .admitted slot :: rest → (s.tile n).cutting = false → (q.tile n).copy slot = some k →
      (q.tile n).copyReady k = true →
      ∃ t y, exec (.copyAccept n c) s = .next t ∧ (t.ctx n c).cq = rest ∧ (t.tile n).copy slot = some y ∧ y.st = 1 ∧ y.regs = k.regs ∧ y.acc = s.seq) ∧
    (∀ q bank cmd inst id gid node rest h y z need wr units, q = s.flushCq n c → (q.ctx n c).cq = .accpy bank cmd inst id gid node none :: rest →
      (s.tile n).cutting = false → (q.tile n).bankBusy bank id = false → h = (q.tile n).inst inst → y = cmd.toNat / 2 ^ 8 % 2 ^ 6 + 1 →
      z = accSize (cmd.toNat / 2 ^ 39 % 2 ^ 4) → need = (if h.kind = 2#2 then 32 * z else cmd.toNat / 2 ^ 44 % 2 ^ 20 + y * (32 * z)) →
      wr = decide (cmd.toNat % 2 = 0) → units = (if h.kind = 2#2 then y else 1) →
      (h.kind = 0#2 → exec (.copyAccept n c) s = .next ((q.modCtx n c (fun x => { x with cq := rest })).engineDone n id (cmd.toNat / 2 ^ 19 % 2 ^ 20)
        (accBytes cmd) (some 0x27#7))) ∧
      (h.kind ≠ 0#2 → h.size < need → exec (.copyAccept n c) s = .next ((q.modCtx n c (fun x => { x with cq := rest })).engineDone n id
        (cmd.toNat / 2 ^ 19 % 2 ^ 20) (accBytes cmd) (some 0x29#7))) ∧
      (h.kind ≠ 0#2 → need ≤ h.size → (if wr then h.canWrite id units else h.canRead units) = true → ∃ t, exec (.copyAccept n c) s = .next t ∧
        (t.ctx n c).cq = .accpy bank cmd inst id gid node (some 0) :: rest ∧ (t.tile n).pad = (s.tile n).pad ∧ (t.tile n).acc = (s.tile n).acc)) ∧
    (∀ bank cmd inst id gid node rest h y z u x wr, (s.ctx n c).cq = .accpy bank cmd inst id gid node (some u) :: rest → h = (s.tile n).inst inst →
      y = cmd.toNat / 2 ^ 8 % 2 ^ 6 + 1 → z = accSize (cmd.toNat / 2 ^ 39 % 2 ^ 4) → wr = decide (cmd.toNat % 2 = 0) →
      x = (s.tile n).modInst inst (fun e => if h.kind = 2#2 ∧ 0 < u ∧ u % (2 * z) = 0 then (if wr then e.wroteRow id else e.readRow id) else e) →
      (u < y * (2 * z) → ∃ t a, exec (.copyAccept n c) s = .next t ∧ (t.ctx n c).cq = .accpy bank cmd inst id gid node (some (u + 1)) :: rest ∧
        a = x.accpyWord bank cmd (if h.kind = 2#2 then (if wr then (x.inst inst).wbase id else (x.inst inst).rbase id)
          else (if wr then (x.inst inst).back else (x.inst inst).front) + cmd.toNat / 2 ^ 44 % 2 ^ 20 + u / (2 * z) * (32 * z)) u ∧
        (t.tile n).pad = a.pad ∧ (t.tile n).acc = a.acc ∧ (t.tile n).rowst = a.rowst) ∧
      (y * (2 * z) ≤ u → x.lingers id = false → exec (.copyAccept n c) s =
        .next (((s.setTile n x).modCtx n c (fun e => { e with cq := rest })).engineDone n id (cmd.toNat / 2 ^ 19 % 2 ^ 20) (accBytes cmd) none))) ∧
    -- COPY_COMPLETE, COPY_PARK
    (∀ slot k, (s.tile n).copy slot = some k →
      (k.st = 1 → (s.tile n).stands k = true → (∀ o, (s.tile n).outcome k.seq = some o → exec (.copyComplete n slot) s = .next (s.copyAfter n slot k o)) ∧
        ((s.tile n).outcome k.seq = none → exec (.copyComplete n slot) s = .next s)) ∧
      (k.st = 3 → exec (.copyComplete n slot) s = .next (s.copyFinish n slot k)) ∧
      (k.st = 1 → (s.tile n).stands k = false → k.fail.isSome = true → exec (.copyComplete n slot) s = .next (s.copyFinish n slot { k with st := 3 })) ∧
      (∀ w ch, w = s.countCopy n slot k → ch = w.1.choose 2 → ch.1 = 0 → s.outstanding (2 * n + w.2.ctx) w.2.seq = false →
        (s.tile n).lingers w.2.seq = false → s.statusWaits n w.2 = false →
        (w.2.fail = none → s.copyFinish n slot k = ch.2.copyEnd n slot w.2 ((w.2.sent + 4095) / 4096) (w.2.prog.err.map Prod.snd)) ∧
        (∀ e, w.2.fail = some e → s.copyFinish n slot k = ch.2.copyEnd n slot w.2 (w.2.sent / 4096) (some (if w.2.wrote then 0x3E#7 else e)))) ∧
      (k.st = 1 → (s.tile n).stands k = false → k.fail = none → (s.tile n).behindStream k = false → k.remoteReads = true → k.asked = false →
        exec (.copyComplete n slot) s = .next ((s.askReads n k).modTile n (fun x => x.setCopy slot { k with asked := true }))) ∧
      (∀ w ch r, s.copyGoes n k = true → w = s.countCopy n slot k → ch = w.1.choose (cElems k.regs + 1) → r = ch.2.copyRun n w.2 (ch.1 + 1) →
        exec (.copyComplete n slot) s = .next ((r.s.metIn ch.2 (fun a => (a.copyRun n w.2 (ch.1 + 1)).cause)).putCopy n slot r.left) ∧
        (∀ e, r.halt = some (.fail e) → r.left = { r.k with st := 3, fail := some e }) ∧
        ((∀ e, r.halt ≠ some (.fail e)) → r.over = true → r.left = { r.k with st := 3, fail := none }) ∧
        ((∀ e, r.halt ≠ some (.fail e)) → r.over = false → r.left = r.k)) ∧
      (∀ w r e va, s.copyGoes n k = true → w = s.countCopy n slot k → r = w.1.copyRun n w.2 1 → r.halt = some (.page e va) →
        exec (.copyPark n slot) s = .next ((r.s.putCopy n slot r.k.park).stopEngine n k.ctx e 1 va) ∧
        ∃ y, ((r.s.putCopy n slot r.k.park).tile n).copy slot = some y ∧ y.st = 2 ∧ y.regs = r.k.regs ∧ y.prog = y.mark)) ∧
    -- XLD_EXECUTE
    (∀ tag bw id tn, tn = (s.tile n).tenant.getD 0 →
      (s.kvHead n c false = some (.xld tag bw id) → (∃ e, e ∈ (s.tile n).tcache ∧ e.valid tn tag = true) ∨ (roomForEntry (s.tile n).tcache).isSome = true →
        exec (.xldExecute n c) s = .next (s.kvSet n c id .taken)) ∧
      (s.kvCur n c = some (.xld tag bw id, .taken) → (∃ e, e ∈ (s.tile n).tcache ∧ e.valid tn tag = true) →
        ∃ a : State, exec (.xldExecute n c) s = .next (a.kvEnd n c id none) ∧ a.mem = s.mem ∧ (a.tile n).tcache.length = (s.tile n).tcache.length) ∧
      (∀ l, s.kvCur n c = some (.xld tag bw id, .taken) → (∀ e, e ∈ (s.tile n).tcache → e.valid tn tag = false) → roomForEntry (s.tile n).tcache = some l →
        (∀ d es, s.loadSeq (.tile n) tn tag.toNat = .ok (d, es) → ∃ (a : State) (e : TEntry), exec (.xldExecute n c) s = .next (a.kvEnd n c id none) ∧
          (a.tile n).tcache = l ++ [e] ∧ e.tag = tag ∧ e.tenant = tn ∧ e.desc = d ∧ e.extents = es ∧ e.retiring = false) ∧
        (∀ e, s.loadSeq (.tile n) tn tag.toNat = .error e → e ≠ walkBusy → exec (.xldExecute n c) s =
          .next ((s.readMets (fun s => s.loadSeq (.tile n) tn tag.toNat)).kvEnd n c id (some e))) ∧
        (s.loadSeq (.tile n) tn tag.toNat = .error walkBusy → exec (.xldExecute n c) s = .next s)) ∧
      (∀ l r e, s.kvCur n c = some (.xld tag bw id, .puts l r e) → (s.tile n).lingers id = false → exec (.xldExecute n c) s = .next (s.kvDone n c id bw e))) ∧
    -- XINV_STEP, XINV_COMPLETE
    (∀ tag bw scope id, s.kvHead n c false = some (.xinv tag bw scope id none) → (∃ e, e ∈ s.tiles ∧ tileScope n e.1 ≤ scope ∧
        e.2.tenant = some ((s.tile n).tenant.getD 0) ∧ ∃ k, k ∈ e.2.tcache ∧ k.valid ((s.tile n).tenant.getD 0) tag = true) →
      ∃ t k rest, exec (.xinvStep n c) s = .next t ∧ (t.ctx n c).kq = .xinv tag bw scope id (some k) :: rest ∧ t.mem = s.mem) ∧
    (∀ tag bw scope id, s.kvHead n c false = some (.xinv tag bw scope id none) → (s.tile n).lingers id = false →
      (∀ e, e ∈ s.tiles → tileScope n e.1 ≤ scope → e.2.tenant = some ((s.tile n).tenant.getD 0) → ∀ k, k ∈ e.2.tcache →
        k.valid ((s.tile n).tenant.getD 0) tag = false) →
      (∀ f, f ∈ s.frames → tileScope n f.tileNo ≤ scope → f.tile.tenant = some ((s.tile n).tenant.getD 0) → ∀ k, k ∈ f.tile.tcache →
        k.valid ((s.tile n).tenant.getD 0) tag = false) →
      ∃ a : State, exec (.xinvStep n c) s = .next (a.kvDone n c id bw none) ∧ a.mem = s.mem) ∧
    (∀ tag bw scope id k rest, (s.ctx n c).kq = .xinv tag bw scope id (some k) :: rest → (s.tile n).lingers id = false →
      (∀ e, e ∈ s.tiles → ∀ x, x ∈ e.2.tcache → x.waiter ≠ some k) → (∀ f, f ∈ s.frames → ∀ x, x ∈ f.tile.tcache → x.waiter ≠ some k) →
      exec (.xinvComplete n c) s = .next (s.kvDone n c id bw none)) ∧
    -- GATHER_ACCEPT
    (∀ (b : BitVec 256) (inst id gid node tn : Nat) (g : Gather), s.kvHead n c true = some (.kvg b inst id gid node) → tn = (s.tile n).tenant.getD 0 →
      g = { id := id, ctx := c, tenant := tn, block := b, inst := inst, desc := 0, exts := [], next := 0, held := false, fail := none, done := false,
            gid := gid, node := node } →
      ((((s.tile n).inst inst).kind = 0#2 ∨ ((s.tile n).inst inst).canWrite id (if ((s.tile n).inst inst).kind = 2#2 then g.k * g.n else 1) = true) →
        (∀ e, e ∈ (s.tile n).tcache → e.valid tn (BitVec.ofNat 64 (b.toNat % 2 ^ 56)) = false) →
        ∃ (y : Gather) (a : State), exec (.gatherAccept n c) s = .next (a.popKq n c id) ∧ (a.tile n).gathers = (s.tile n).gathers ++ [y] ∧ y.id = id ∧
          y.fail = some 0x59#7 ∧ y.done = true) ∧
      (∀ e y, ((s.tile n).inst inst).canWrite id (if ((s.tile n).inst inst).kind = 2#2 then g.k * g.n else 1) = true →
        (s.tile n).tcache.find? (fun e => e.valid tn (BitVec.ofNat 64 (b.toNat % 2 ^ 56))) = some e → y = { g with desc := e.desc, exts := e.extents } →
        y.cause ((s.tile n).inst inst) = none →
        ∃ a : State, exec (.gatherAccept n c) s = .next (a.popKq n c id) ∧ (a.tile n).gathers = (s.tile n).gathers ++ [y])) ∧
    -- GATHER_BLOCK
    (∀ g q, (s.tile n).gathers.find? (fun g => decide (g.ctx = c) && !g.done) = some g → q = s.modTile n (fun x => x.modInst g.inst HEntry.settle) →
      (g.held = false ∨ (q.tile n).cutting = false) → q.gatherFails n g ≠ some walkBusy →
      (q.gatherSeals (.tile n) g = .ok false → q.takesWork g.gid g.node = true →
        exec (.gatherBlock n c) s = .next (q.modTile n (fun x => x.setGather { g with held := true }))) ∧
      (q.gatherSeals (.tile n) g = .ok false → q.takesWork g.gid g.node = false → ∃ t, exec (.gatherBlock n c) s = .next t ∧
        (t.tile n).gathers = (s.tile n).gathers.filter (fun o => decide (o.id ≠ g.id)) ∧ t.mem = s.mem) ∧
      (∀ e, q.gatherSeals (.tile n) g = .error e → exec (.gatherBlock n c) s = .next ((q.metIn q (fun s => s.gatherFails n g)).modTile n
        (fun x => (x.setGather { g with fail := some e, held := false, done := true }).endHold g.id))) ∧
      (∀ r e, q.gatherSeals (.tile n) g = .ok true → q.gatherRows n g g.run = (r, some e) → exec (.gatherBlock n c) s =
        .next ((r.metIn q (fun s => s.gatherFails n g)).modTile n (fun x => (x.setGather { g with fail := some e, held := false, done := true }).endHold g.id))) ∧
      (∀ r a, q.gatherSeals (.tile n) g = .ok true → q.gatherRows n g g.run = (r, none) → a = { g with next := g.next + max 1 g.run.length, held := false } →
        (a.next < g.n → exec (.gatherBlock n c) s = .next ((r.modTile n (fun x => x.setGather a)).kvFlush n c)) ∧
        (g.n ≤ a.next → exec (.gatherBlock n c) s = .next ((r.modTile n (fun x => (x.setGather { a with done := true }).endHold g.id)).kvFlush n c)))) ∧
    -- GATHER_COMPLETE
    (∀ g, (s.tile n).gathers.find? (fun g => decide (g.ctx = c) && g.done && !(s.tile n).lingers g.id) = some g → exec (.gatherComplete n c) s =
      .next (((s.modTile n (fun x => { x with gathers := x.gathers.filter (fun o => decide (o.id ≠ g.id)) })).engineDone n g.id
        (g.block.toNat / 2 ^ 160 % 2 ^ 20)
        (if g.fail = some 0x59#7 then (s.tile n).padNat (g.block.toNat / 2 ^ 160 % 2 ^ 20) 4 else g.bytes) g.fail).kvFlush n c)) ∧
    -- SPLICE_EXECUTE
    (∀ inst bw id, s.kvHead n c false = some (.splc inst bw id) → ((s.tile n).inst inst).canRead 1 = true → (s.tile n).awaits id = false →
      (∀ o, (s.tile n).outcome id = some o → exec (.spliceExecute n c) s = .next (s.kvDone n c id bw o.err)) ∧
      ((s.tile n).outcome id = none → ((s.tile n).inst inst).size < 64 → exec (.spliceExecute n c) s = .next (s.kvDone n c id bw (some 0x55#7))) ∧
      ((s.tile n).outcome id = none → 64 ≤ ((s.tile n).inst inst).size →
        exec (.spliceExecute n c) s = .next ((s.modTile n (fun x => x.modInst inst (fun h => h.startRead id 1))).kvSet n c id .taken))) ∧
    (∀ inst bw id run tn, s.kvCur n c = some (.splc inst bw id, run) → tn = (s.tile n).tenant.getD 0 →
      (∀ r q, run = .taken → r = BitVec.ofNat 512 ((s.tile n).padNat ((s.tile n).inst inst).front 64) →
        q = s.modTile n (fun x => x.modInst inst (fun h => h.endRead id)) →
        (∀ p, s.splicePlanned (.tile n) tn r = .ok p → exec (.spliceExecute n c) s = .next (q.kvSet n c id (.splice p 0 0 []))) ∧
        (∀ e, s.splicePlanned (.tile n) tn r = .error e → e ≠ walkBusy → exec (.spliceExecute n c) s =
          .next ((q.readMets (fun s => s.splicePlanned (.tile n) tn r)).spliceFails n c id (r.toNat / 2 ^ 384 % 2 ^ 64) e)) ∧
        (s.splicePlanned (.tile n) tn r = .error walkBusy → exec (.spliceExecute n c) s = .next s)) ∧
      (∀ p u sat w, run = .splice p u sat [] → u < p.parts → s.splicePart (.tile n) tn p u = .ok w →
        exec (.spliceExecute n c) s = .next (s.kvSet n c id (.splice p (u + 1) (sat + w.2) w.1))) ∧
      (∀ p u sat e, run = .splice p u sat [] → u < p.parts → s.splicePart (.tile n) tn p u = .error e → e ≠ walkBusy → exec (.spliceExecute n c) s =
        .next ((s.readMets (fun s => s.splicePart (.tile n) tn p u)).spliceFails n c id (p.record.toNat / 2 ^ 384 % 2 ^ 64) e)) ∧
      (∀ p u sat a l ch w, run = .splice p u sat (a :: l) → ch = s.choose (l.length + 1) → w = ch.2.putPieces (.tile n) tn (ch.1 + 1) (a :: l) →
        (w.2.2 = none → exec (.spliceExecute n c) s = .next (w.1.kvSet n c id (.splice p u sat w.2.1))) ∧
        (∀ e, w.2.2 = some e → exec (.spliceExecute n c) s = .next (w.1.spliceFails n c id (p.record.toNat / 2 ^ 384 % 2 ^ 64) e))) ∧
      (∀ p u sat w, run = .splice p u sat [] → p.parts ≤ u → s.spliceLast (.tile n) tn p sat = .ok w →
        exec (.spliceExecute n c) s = .next (s.kvSet n c id (.puts w.1 (some w.2) none))) ∧
      (∀ a l res e w, run = .puts (a :: l) res e → w = s.putPieces (.tile n) tn 1 (a :: l) →
        (w.2.2 = none → exec (.spliceExecute n c) s = .next (w.1.kvSet n c id (.puts w.2.1 res e))) ∧
        (∀ f r, w.2.2 = some f → res = some r → exec (.spliceExecute n c) s = .next (w.1.spliceFails n c id r.1 f)) ∧
        (∀ f, w.2.2 = some f → res = none → exec (.spliceExecute n c) s = .next (w.1.kvEnd n c id (some (e.getD f))))) ∧
      (∀ res w, run = .puts [] (some res) none → w = s.putPieces (.tile n) tn 1 [res] → w.2.1 = [] →
        exec (.spliceExecute n c) s = .next (w.1.kvEnd n c id w.2.2)) ∧
      (∀ e, run = .puts [] none e → exec (.spliceExecute n c) s = .next (s.kvDone n c id bw e))) ∧
    -- PREFIX_BUCKET_STEP
    (∀ l ch k, l = (s.ctx n c).kq.filter (fun k => match k with
        | .pfx op _ _ _ _ => ((s.ctx n c).kvRun k).isSome || decide (s.kvHead n c (decide (op = 0)) = some k)
        | _ => false) → l ≠ [] → ch = s.choose l.length → l[ch.1]? = some k → exec (.prefixBucketStep n c) s = .next (ch.2.prefixGo n c k)) ∧
    (∀ op b va bw id k y, k = KCmd.pfx op b va bw id → y = (s.ctx n c).kvRun k →
      (y = none → (s.tile n).awaits id = false → (s.tile n).outcome id = none → s.prefixGo n c k = s.kvSet n c id .taken) ∧
      (∀ l, y = some .taken → s.vaReadLong (.tile n) ((s.tile n).tenant.getD 0) (b.toNat % 2 ^ 56 + 256 * (b.toNat / 2 ^ 256 % 2 ^ (b.toNat / 2 ^ 56 % 32))) 256 = .ok l →
        (bucketStep op (b.toNat / 2 ^ 256 % 2 ^ 256) (numbers 32 8 l) = none → s.prefixGo n c k = s.kvEnd n c id (some 0x54#7)) ∧
        (∀ res i e, bucketStep op (b.toNat / 2 ^ 256 % 2 ^ 256) (numbers 32 8 l) = some (res, some i, some e, none) →
          s.prefixGo n c k = s.kvSet n c id (.puts [(va.toNat + 8, toBytes 8 (res + 2 ^ 8 * i)), (va.toNat + 32, toBytes 32 e)] none none)) ∧
        (∀ res ch, bucketStep op (b.toNat / 2 ^ 256 % 2 ^ 256) (numbers 32 8 l) = some (res, none, none, none) → ch = s.choose 8 →
          s.prefixGo n c k = ch.2.kvSet n c id (.puts [(va.toNat + 8, toBytes 8 (res + 2 ^ 8 * ch.1))] none none)) ∧
        (∀ res i e q, bucketStep op (b.toNat / 2 ^ 256 % 2 ^ 256) (numbers 32 8 l) = some (res, some i, none, some e) →
          s.vaPut (.tile n) ((s.tile n).tenant.getD 0) (b.toNat % 2 ^ 56 + 256 * (b.toNat / 2 ^ 256 % 2 ^ (b.toNat / 2 ^ 56 % 32)) + 32 * i) (toBytes 32 e) = (q, none) →
          s.prefixGo n c k = q.kvSet n c id (.puts [(va.toNat + 8, toBytes 8 (res + 2 ^ 8 * i))] none none))) ∧
      (∀ a l r e w, y = some (.puts (a :: l) r e) → w = s.putPieces (.tile n) ((s.tile n).tenant.getD 0) 1 (a :: l) →
        (w.2.2 = none → s.prefixGo n c k = w.1.kvSet n c id (.puts w.2.1 r e)) ∧ (∀ f, w.2.2 = some f → s.prefixGo n c k = w.1.kvEnd n c id (some f))) ∧
      (∀ r e, y = some (.puts [] r e) → s.prefixGo n c k = s.kvDone n c id bw e)) ∧
    -- A report leaves its queue
    (∀ tag w id gid node, (s.tile n).cutting = false → (s.ctx n c).kvNext = some (.rep tag w id gid node) → (s.tile n).kvHeld c = false →
      s.second n c = false → ∃ t, s.kvStep n c = some t ∧ (t.ctx n c).kq = (s.ctx n c).kq.filter (fun k => decide (k.num ≠ some id)) ∧
        (∃ r, r ∈ (t.ctx n c).remote ∧ r.id = id ∧ r.kind = .report ∧ r.addr = tag ∧ r.data = w.setWidth 1024 ∧ r.tscope = 3 ∧ r.gid = gid ∧ r.node = node ∧
          r.done = false) ∧ t.mem = s.mem)

/-- R149, R200, R204, R205, R209, R227 to R229, R232 to R234, R254, R256, R258, R264: Brush, Winnow and Retouch. The Brush of a cluster, when free, takes the
first job that can run, in tile order from the last one served; a unit that ends queues again or completes, and after a kill only its writes are made;
Winnow likewise on a die, a page fault parking its job and stopping its context, and a status that cannot be written giving its cause; Retouch takes a repair whose record is FULL
while a place is free, reads its record and completes it in later steps (R470), counts a report that its job awaits and refuses another, moves a job on whose reports have all come, and
makes its arrival.
Where the spec leaves a reading open, the model's own is that of log entries 47, 48 and 51. -/
def Obligations.ClusterAndDieEvents : Prop :=
  ∀ s : State,
    -- BRUSH_UNIT_ACCEPT, BRUSH_UNIT_COMPLETE
    (∀ k n j y rest, (s.cluster k).brushCur = none →
      ((List.range 16).map (fun i => 16 * k + ((s.cluster k).brushRR + i) % 16)).find? (fun t => (s.tile t).brushReady) = some n →
      (s.tile n).brush = j :: rest → y = (if j.started then j else (s.tile n).brushLoad j) → y.fail = none → (s.tile n).outcome j.seq = none →
      ∃ t, exec (.brushUnitAccept k) s = .next t ∧ (t.cluster k).brushCur = some (n, y) ∧ (t.cluster k).brushRR = (n + 1) % 16 ∧ t.mem = s.mem) ∧
    (∀ k n job j u a, (s.cluster k).brushCur = some (n, job) → j = (if job.fail = some 0x63#7 then { job with fail := none } else job) →
      u = s.brushUnit k j → u.2.1.fail ≠ some walkBusy →
      a = ((u.1.metIn s (fun s => (s.brushUnit k j).2.1.fail)).modCluster k (fun x => { x with brushCur := none })).brushTouch k j →
      (job.fail ≠ some 0x63#7 → (u.2.1.twupd = true ∨ u.2.1.fail ≠ none ∨ u.2.1.nw / tN u.2.1.defn.record ≤ u.2.1.bdone) → s.resultWaits k u.2.1 = false →
        exec (.brushUnitComplete k) s = .next (a.brushDone n u.2.1 u.2.2.1 u.2.2.2)) ∧
      (job.fail ≠ some 0x63#7 → u.2.1.twupd = false → u.2.1.fail = none → u.2.1.bdone < u.2.1.nw / tN u.2.1.defn.record →
        exec (.brushUnitComplete k) s = .next (a.modTile n (fun x => { x with brush := brushInsert u.2.1 x.brush }))) ∧
      (job.fail = some 0x63#7 → exec (.brushUnitComplete k) s = .next (if j.twupd then a else a.putWords u.2.1.words))) ∧
    (∀ k j, (j.twupd = true → s.brushUnit k j = s.updateRegion k j) ∧
      (j.twupd = false → j.bdone < j.nw / tN j.defn.record → s.brushUnit k j = ((s.encodeBlock k j).1, (s.encodeBlock k j).2, false, 0)) ∧
      (j.twupd = false → j.nw / tN j.defn.record ≤ j.bdone → s.brushUnit k j = (s, j, false, 0))) ∧
    -- WINNOW_PASS_ACCEPT, WINNOW_PASS_END, WINNOW_PARK
    (∀ d n j, (s.die d).winCur = none →
      ((List.range 288).map (fun i => 288 * d + ((s.die d).winRR + i) % 288)).find? (fun t => (s.tile t).winReady) = some n →
      (s.tile n).winHead = some j →
      (j.started = true → ∃ t, exec (.winnowPassAccept d) s = .next t ∧ (t.die d).winCur = some (n, j) ∧
        (t.die d).winRR = (n - 288 * d + 1) % 288 ∧ t.mem = s.mem) ∧
      (∀ y, j.started = false → 64 ≤ ((s.tile n).inst j.inst).size → y = (s.tile n).winLoad j →
        y.bad ((s.tile n).inst y.srcInst) ((s.tile n).inst y.mskInst) = false → ∃ t, exec (.winnowPassAccept d) s = .next t ∧
        (t.die d).winCur = some (n, y) ∧ (t.die d).winRR = (n - 288 * d + 1) % 288 ∧ t.mem = s.mem)) ∧
    (∀ d n j i l r, (s.die d).winCur = some (n, j) → s.walkFree d = true → s.winLost n j = false → s.winPage n j = none →
      (List.range j.nelem).mapM (s.winElem n j) = .ok l → i = s.modDie d (fun x => { x with winCur := none }) → r = i.winCompute n j l →
      (j.fail = some 0x63#7 → exec (.winnowPassEnd d) s = .next (r.1.putWinStatus n { r.2.1 with fail := none } r.2.2 false).1) ∧
      (j.fail ≠ some 0x63#7 → r.2.1.fail ≠ none → exec (.winnowPassEnd d) s = .next (r.1.winDone n r.2.1 r.2.2)) ∧
      (j.fail ≠ some 0x63#7 → r.2.1.fail = none → r.2.1.plane = 0 → r.2.2 ≠ none → exec (.winnowPassEnd d) s = .next (r.1.winDone n r.2.1 r.2.2)) ∧
      (∀ q, j.fail ≠ some 0x63#7 → r.2.1.fail = none → r.2.1.plane ≠ 0 → r.1.putWinStatus n r.2.1 none false = (q, none) →
        exec (.winnowPassEnd d) s = .next (q.modTile n (fun x => { x with winq := winInsert r.2.1 x.winq }))) ∧
      (∀ q e, j.fail ≠ some 0x63#7 → r.2.1.fail = none → r.2.1.plane ≠ 0 → r.1.putWinStatus n r.2.1 none false = (q, some e) →
        exec (.winnowPassEnd d) s = .next (q.winDone n { r.2.1 with fail := some e } none))) ∧
    (∀ d n j e k i, (s.die d).winCur = some (n, j) → s.walkFree d = true → s.winLost n j = false →
      (List.range j.nelem).mapM (s.winElem n j) = .error (.fail e, k) → i = (s.modDie d (fun x => { x with winCur := none })).metIn s (fun s => s.winFails n j) →
      exec (.winnowPassEnd d) s = .next (if j.fail = some 0x63#7 then i else i.winDone n { j with fail := some e } none)) ∧
    (∀ n j res w, j.started = true → j.res % 64 = 0 → w = s.putWinStatus n j res true →
      s.winDone n j res = w.1.engineDone n j.id j.bw 64 (match j.fail with | some e => some e | none => w.2)) ∧
    (∀ d n j c a k q w, (s.die d).winCur = some (n, j) → s.walkFree d = true → s.winLost n j = false → s.winPage n j = some (c, a, k) → j.fail = none →
      w = { j with fchunk := k } → q = ((s.modDie d (fun x => { x with winCur := none })).putWinStatus n w none false).1 →
      exec (.winnowPark d) s = .next ((q.modTile n (fun x => { x with winq := winInsert { w with parked := true } x.winq })).stopEngine n j.ctx c 5 a)) ∧
    -- RETOUCH_JOB_ACCEPT
    (∀ n c inst bw id gid node len, c < 2 → s.kvHead n c false = some (.rpr inst bw id gid node len) → (s.tile n).awaits id = false →
      ((s.tile n).inst inst).canRead 1 = true →
      (∀ o, (s.tile n).outcome id = some o → exec (.retouchJobAccept n c) s = .next (s.kvDone n c id bw o.err)) ∧
      ((s.tile n).outcome id = none → s.freeJobPlace (dieOf n) = none → exec (.retouchJobAccept n c) s = .next s) ∧
      (∀ p, (s.tile n).outcome id = none → s.freeJobPlace (dieOf n) = some p →
        (((s.tile n).inst inst).size < 64 → exec (.retouchJobAccept n c) s = .next (s.kvDone n c id bw (some 0x55#7))) ∧
        (64 ≤ ((s.tile n).inst inst).size → exec (.retouchJobAccept n c) s =
          .next ((s.modTile n (fun x => x.modInst inst (fun h => h.startRead id 1))).kvSet n c id (.place p))))) ∧
    (∀ n c inst bw id gid node len p j q, c < 2 → s.kvCur n c = some (.rpr inst bw id gid node len, .place p) → s.walkFree (dieOf n) = true →
      j = s.jobFrom n c inst gid node p → q = s.modTile n (fun x => x.modInst inst (fun h => h.endRead id)) →
      (j.record = BitVec.ofNat 512 ((s.tile n).padNat ((s.tile n).inst inst).front 64) ∧ j.entry = (s.ctx n c).repEntry ∧ j.lc = (s.ctx n c).repLc.toNat ∧
        j.thr = (s.ctx n c).devThr ∧ j.st = .check 0 ∧ j.reports = 0 ∧
        j.tag = p + 16 * dieOf n + 256 * ((mget 0 (s.die (dieOf n)).places p + 1) % 2 ^ 24)) ∧
      (∀ y, q.jobOf j len = .ok y → exec (.retouchJobAccept n c) s =
        .next ((((q.kvEnd n c id none).modDie (dieOf n) (fun x => { x with places := mput x.places p (j.tag / 256) })).modNode gid node
          (fun x => { x with live := x.live + 1 })).jobEnter (dieOf n) p y)) ∧
      (∀ e, q.jobOf j len = .error e → exec (.retouchJobAccept n c) s = .next ((q.readMets (fun s => s.jobOf j len)).kvEnd n c id (some e)))) ∧
    (∀ n c inst bw id gid node len l r e, c < 2 → s.kvCur n c = some (.rpr inst bw id gid node len, .puts l r e) →
      exec (.retouchJobAccept n c) s = .next (s.kvDone n c id bw e)) ∧
    -- REPAIR_REPORT
    (∀ n c q r j key, c < 2 → q = s.kvFlush n c →
      (q.ctx n c).remote.find? (fun r => decide (r.kind = .report) && !r.done && r.twinOf.isNone && q.joined n c r) = some r →
      q.job (r.addr.toNat / 16 % 8) (r.addr.toNat % 16) = some j → key = (r.data.toNat % 2 ^ 8, r.data.toNat / 2 ^ 8 % 2 ^ 24, r.data.toNat / 2 ^ 32 % 2) →
      (j.tag = r.addr.toNat → j.tenant = r.tenant → key ∈ j.made → key ∉ j.counted →
        exec (.repairReport n c) s = .next (((q.settle n c r 0 none).afterAccess n c r none none).jobReported (r.addr.toNat / 16 % 8) (r.addr.toNat % 16)
          { j with counted := j.counted ++ [key], reports := j.reports + 1 } key.2.1)) ∧
      (j.tag ≠ r.addr.toNat ∨ j.tenant ≠ r.tenant ∨ key ∉ j.made ∨ key ∈ j.counted →
        exec (.repairReport n c) s = .next ((q.settle n c { r with addr := 0 } 0 (some 0x53#7)).afterAccess n c r (some 0x53#7) none))) ∧
    (∀ d p j y, (∀ l a, j.st = .recomp l → s.setMark j.tenant (nth (0, []) j.blocks y).1 l = (a, none) → s.jobReported d p j y = a.putJob d p j) ∧
      (∀ l, j.st = .check l → s.jobReported d p j y = s.putJob d p j)) ∧
    -- RETOUCH_WRITEBACK
    (∀ d p j, s.job d p = some j →
      (j.st = .done → exec (.retouchWriteback d p) s = .next (s.jobArrive d p j)) ∧
      (∀ a b, j.st = .writeback → s.walkFree d = true → s.copyFresh j = (a, none) → a.markAll j = (b, none) → exec (.retouchWriteback d p) s =
        .next (b.jobEnter d p { j with st := if j.lc = dLayers j.desc ∨ j.marks = [] then .done else .recomp j.lc })) ∧
      (∀ l, j.st = .check l ∨ j.st = .recomp l → (∃ e, e ∈ j.made ∧ e ∉ j.counted) → exec (.retouchWriteback d p) s = .next (s.passRecords d p)) ∧
      (∀ l, j.st = .check l → (∀ e, e ∈ j.made → e ∈ j.counted) → s.walkFree d = true → exec (.retouchWriteback d p) s = .next (s.jobChecked d p j l)) ∧
      (∀ l, j.st = .recomp l → (∀ e, e ∈ j.made → e ∈ j.counted) → s.walkFree d = true → exec (.retouchWriteback d p) s =
        .next (s.jobEnter d p { j with st := if l + 1 < dLayers j.desc then .recomp (l + 1) else .done }))) ∧
    (∀ d p j, s.savedFor j.dtile j.tenant = false → (s.tile j.dtile).tenant = some j.tenant → (s.unit (.tile j.dtile)).health ≠ .failed →
      s.jobArrive d p j = (s.freePlace d p).modTile j.dtile (fun x => x.barrier j.doff 0 1 none))

/-! ## The whole machine -/

/-- Device memory stays in its canonical form, addresses rising and no byte listed that reads as an unlisted one does, whatever step is taken. The form
is the model's own (log entry 2). -/
def Obligations.MemoryStaysCanonical : Prop :=
  ∀ s t : State, Memory.wf s.mem = true → step s = .next t → Memory.wf t.mem = true

/-- R16: the step that enters READY for the first time after a reset raises the fused minimum of stage 1 to its own VERSION and that of stage 2 to the
VERSION of the stage-2 image that is running, each only where the new value is higher; no other step changes a fuse. -/
def Obligations.FusesOnlyRise : Prop :=
  ∀ s t : State, step s = .next t →
    t.fuses = if s.dstate = .bringup ∧ t.dstate = .ready ∧ s.boot.readied = false then
        { s.fuses with min1 := if s.fuses.min1 < s.boot.ver1 then s.boot.ver1 else s.fuses.min1,
                       min2 := if s.fuses.min2 < s.boot.ver2 then s.boot.ver2 else s.fuses.min2 }
      else s.fuses

/-- R20: the transitions of the device state are those of the table and no others: a step keeps the state, or goes from BRINGUP to READY or FAULTED, from
READY to DRAINING or DRAINED, from DRAINING to DRAINED, from DRAINING or DRAINED to READY, from any of READY, DRAINING and DRAINED to FAULTED, and
enters BRINGUP only by the reset event, or where the board takes the last rail but VDD_AUX and the device is held in reset (R10); so FAULTED is left by
a reset alone. -/
def Obligations.DeviceStateTransitions : Prop :=
  ∀ s t : State, step s = .next t → t.dstate = s.dstate ∨
    (t.dstate = .bringup ∧ s.toIssue = [] ∧ ∃ i rest, nextStep s.agenda = some (i, rest) ∧
      (i = .reset ∨ ∃ k, i = .powerFault (.removed k) ∧ t.held = true)) ∨
    (s.dstate, t.dstate) ∈ [(.bringup, .ready), (.bringup, .faulted), (.ready, .draining), (.ready, .drained), (.draining, .drained), (.draining, .ready),
      (.drained, .ready), (.ready, .faulted), (.draining, .faulted), (.drained, .faulted)]

/-- R11, R20, R54, R281, R506: right after reset the device is in BRINGUP with no G3 cause, its power cap is 3600 W, no management key is installed, the
test interval is 100, MEMMAP is zero and no link is in the interleave, no control core runs, no graph is accepted and no tile is bound; and the
memory form of MemoryStaysCanonical holds. -/
def Obligations.ResetState : Prop :=
  State.reset.dstate = .bringup ∧ State.reset.lastG3 = none ∧ State.reset.cap = 3600#12 ∧ State.reset.kregs.mkey = none ∧
  State.reset.kregs.testivl = 100 ∧ State.reset.kregs.memmap = 0 ∧ State.reset.interleave = [] ∧ State.reset.boot.boot = .rom ∧
  (∀ k, (State.reset.core k).running = false) ∧ State.reset.graphs = [] ∧ (∀ n, (State.reset.tile n).tenant = none) ∧
  Memory.wf State.reset.mem = true
end

