-- ==== Sys2Proof/Laws/Map.lean ====
section
/-! SUPPORT. The laws of sparse maps: read after write, and the canonical form that every canonical operation keeps. -/

namespace Sys2Proof.Machine

variable {β : Type}

/-! ## Read after write -/

theorem mget_merase_ne (d : β) (m : SMap β) (i j : Nat) (h : i ≠ j) : mget d (merase m i) j = mget d m j := by
  induction m with
  | nil => rfl
  | cons e t ih =>
    simp only [merase, mget]
    split
    · rename_i hi; subst hi; rw [if_neg (Ne.symm h), ih]
    · simp only [mget, ih]

theorem mget_merase_same (d : β) (m : SMap β) (i : Nat) : mget d (merase m i) i = d := by
  induction m with
  | nil => rfl
  | cons e t ih =>
    simp only [merase]
    split
    · exact ih
    · rename_i hi; simp only [mget, if_neg hi, ih]

theorem mget_minsert_ne (d : β) (m : SMap β) (i j : Nat) (x : β) (h : i ≠ j) : mget d (minsert m i x) j = mget d m j := by
  induction m with
  | nil => simp [minsert, mget, Ne.symm h]
  | cons e t ih =>
    simp only [minsert]
    split
    · simp [mget, Ne.symm h]
    · simp only [mget, ih]

theorem mget_minsert_erased (d : β) (m : SMap β) (i : Nat) (x : β) : mget d (minsert (merase m i) i x) i = x := by
  induction m with
  | nil => simp [merase, minsert, mget]
  | cons e t ih =>
    simp only [merase]
    split
    · exact ih
    · rename_i hi
      simp only [minsert]
      split
      · simp [mget]
      · simp [mget, hi, ih]

@[simp] theorem mget_mput_same (d : β) (m : SMap β) (i : Nat) (x : β) : mget d (mput m i x) i = x := mget_minsert_erased d m i x

theorem mget_mput_ne (d : β) (m : SMap β) (i j : Nat) (x : β) (h : i ≠ j) : mget d (mput m i x) j = mget d m j := by
  rw [mput, mget_minsert_ne d _ i j x h, mget_merase_ne d m i j h]

@[simp] theorem mget_mset_same [DecidableEq β] (d : β) (m : SMap β) (i : Nat) (x : β) : mget d (mset d m i x) i = x := by
  unfold mset
  split
  · rename_i h; rw [mget_merase_same, h]
  · exact mget_mput_same d m i x

theorem mget_mset_ne [DecidableEq β] (d : β) (m : SMap β) (i j : Nat) (x : β) (h : i ≠ j) : mget d (mset d m i x) j = mget d m j := by
  unfold mset
  split
  · exact mget_merase_ne d m i j h
  · exact mget_mput_ne d m i j x h

/-- A run of writes changes only its own keys. -/
theorem mget_mwrite_out [DecidableEq β] (d : β) (l : List β) : ∀ (m : SMap β) (i j : Nat), j < i ∨ i + l.length ≤ j →
    mget d (mwrite d m i l) j = mget d m j := by
  induction l with
  | nil => intro m i j _; rfl
  | cons x xs ih =>
    intro m i j h
    simp only [mwrite, List.length_cons] at *
    rw [ih _ _ _ (by omega), mget_mset_ne d m i j x (by omega)]

/-- A run of writes leaves its own values. -/
theorem mget_mwrite_in [DecidableEq β] (d : β) (l : List β) : ∀ (m : SMap β) (i k : Nat) (h : k < l.length),
    mget d (mwrite d m i l) (i + k) = l[k] := by
  induction l with
  | nil => intro m i k h; exact absurd h (Nat.not_lt_zero k)
  | cons x xs ih =>
    intro m i k h
    cases k with
    | zero => simp only [mwrite, Nat.add_zero]; rw [mget_mwrite_out d xs _ _ _ (by omega)]; simp
    | succ k =>
      simp only [mwrite]
      have := ih (mset d m i x) (i + 1) k (by simpa using h)
      rw [show i + (k + 1) = i + 1 + k by omega, this]; simp

/-! ## The canonical form -/

theorem mrising_le (m : SMap β) : ∀ lo lo', lo' ≤ lo → mrising lo m = true → mrising lo' m = true := by
  intro lo lo' h hm
  cases m with
  | nil => rfl
  | cons e t => simp only [mrising, Bool.and_eq_true, decide_eq_true_eq] at *; exact ⟨by omega, hm.2⟩

theorem mrising_merase (m : SMap β) (i : Nat) : ∀ lo, mrising lo m = true → mrising lo (merase m i) = true := by
  induction m with
  | nil => intro lo _; rfl
  | cons e t ih =>
    intro lo h
    simp only [mrising, Bool.and_eq_true, decide_eq_true_eq] at h
    simp only [merase]
    split
    · exact mrising_le _ (e.1 + 1) lo (by omega) (ih _ h.2)
    · simp only [mrising, Bool.and_eq_true, decide_eq_true_eq]; exact ⟨h.1, ih _ h.2⟩

theorem mem_merase (m : SMap β) (i : Nat) (e : Nat × β) : e ∈ merase m i → e ∈ m ∧ e.1 ≠ i := by
  induction m with
  | nil => intro h; simp [merase] at h
  | cons f t ih =>
    intro h
    simp only [merase] at h
    split at h
    · exact ⟨List.mem_cons_of_mem _ (ih h).1, (ih h).2⟩
    · rename_i hi
      rcases List.mem_cons.mp h with h | h
      · subst h; exact ⟨List.mem_cons_self, fun hh => hi hh.symm⟩
      · exact ⟨List.mem_cons_of_mem _ (ih h).1, (ih h).2⟩

theorem mrising_minsert (m : SMap β) (i : Nat) (x : β) : ∀ lo, lo ≤ i → mrising lo m = true → (∀ e ∈ m, e.1 ≠ i) →
    mrising lo (minsert m i x) = true := by
  induction m with
  | nil => intro lo h _ _; simp [minsert, mrising, h]
  | cons e t ih =>
    intro lo h hm hne
    simp only [mrising, Bool.and_eq_true, decide_eq_true_eq] at hm
    have he : e.1 ≠ i := hne e List.mem_cons_self
    simp only [minsert]
    split
    · simp only [mrising, Bool.and_eq_true, decide_eq_true_eq]; exact ⟨h, by omega, hm.2⟩
    · simp only [mrising, Bool.and_eq_true, decide_eq_true_eq]
      exact ⟨hm.1, ih _ (by omega) hm.2 (fun f hf => hne f (List.mem_cons_of_mem _ hf))⟩

theorem mrising_mput (m : SMap β) (i : Nat) (x : β) (h : mrising 0 m = true) : mrising 0 (mput m i x) = true :=
  mrising_minsert _ i x 0 (Nat.zero_le i) (mrising_merase m i 0 h) (fun e he => (mem_merase m i e he).2)

theorem mem_minsert (m : SMap β) (i : Nat) (x : β) (e : Nat × β) : e ∈ minsert m i x → e = (i, x) ∨ e ∈ m := by
  induction m with
  | nil => intro h; simp [minsert] at h; exact .inl h
  | cons f t ih =>
    intro h
    simp only [minsert] at h
    split at h
    · rcases List.mem_cons.mp h with h | h
      · exact .inl h
      · exact .inr h
    · rcases List.mem_cons.mp h with h | h
      · exact .inr (h ▸ List.mem_cons_self)
      · rcases ih h with h | h
        · exact .inl h
        · exact .inr (List.mem_cons_of_mem _ h)

/-- A canonical write keeps the canonical form. -/
theorem mwf_mset [DecidableEq β] (d : β) (m : SMap β) (i : Nat) (x : β) (h : mwf d m = true) : mwf d (mset d m i x) = true := by
  simp only [mwf, Bool.and_eq_true, List.all_eq_true, decide_eq_true_eq] at *
  unfold mset
  split
  · exact ⟨mrising_merase m i 0 h.1, fun e he => h.2 e (mem_merase m i e he).1⟩
  · rename_i hx
    refine ⟨mrising_mput m i x h.1, fun e he => ?_⟩
    rcases mem_minsert _ i x e he with he | he
    · subst he; exact hx
    · exact h.2 e (mem_merase m i e he).1

theorem mrising_filter (m : SMap β) (p : Nat × β → Bool) : ∀ lo, mrising lo m = true → mrising lo (m.filter p) = true := by
  induction m with
  | nil => intro lo _; rfl
  | cons e t ih =>
    intro lo h
    simp only [mrising, Bool.and_eq_true, decide_eq_true_eq] at h
    rw [List.filter_cons]
    split
    · simp only [mrising, Bool.and_eq_true, decide_eq_true_eq]; exact ⟨h.1, ih _ h.2⟩
    · exact mrising_le _ (e.1 + 1) lo (by omega) (ih _ h.2)

theorem mwf_mclear [DecidableEq β] (d : β) (m : SMap β) (lo hi : Nat) (h : mwf d m = true) : mwf d (mclear m lo hi) = true := by
  simp only [mwf, Bool.and_eq_true, List.all_eq_true, decide_eq_true_eq] at *
  exact ⟨mrising_filter m _ 0 h.1, fun e he => h.2 e (List.mem_filter.mp he).1⟩

/-- A run of canonical writes keeps the canonical form. -/
theorem mwf_mwrite [DecidableEq β] (d : β) (l : List β) : ∀ (m : SMap β) (i : Nat), mwf d m = true → mwf d (mwrite d m i l) = true := by
  induction l with
  | nil => intro m i h; exact h
  | cons x xs ih => intro m i h; exact ih _ _ (mwf_mset d m i x h)

/-- Replacing a region keeps the canonical form. -/
theorem mwf_mregion [DecidableEq β] (d : β) (m : SMap β) (base size : Nat) (src : SMap β) (h : mwf d m = true) :
    mwf d (mregion d m base size src) = true := by
  unfold mregion
  generalize src.filter _ = l
  have hc := mwf_mclear d m base (base + size) h
  revert hc
  generalize mclear m base (base + size) = n
  intro hn
  induction l generalizing n with
  | nil => exact hn
  | cons e t ih => exact ih _ (mwf_mset d n _ _ hn)

/-- The empty map is canonical. -/
theorem mwf_nil [DecidableEq β] (d : β) : mwf d ([] : SMap β) = true := rfl

end Sys2Proof.Machine
end

