-- ==== Sys2Proof/Laws/State.lean ====
section
/-! SUPPORT. The laws of State's updates: for each named update and each field that it does not write, one lemma, true by unfolding; and the
units that an update of another unit leaves. -/

namespace Sys2Proof.Machine

/-! ## Fields that an update leaves -/

@[simp] theorem setTile_agenda (s : State) (t : Nat) (x : Tile) : (s.setTile t x).agenda = s.agenda := rfl
@[simp] theorem setTile_toIssue (s : State) (t : Nat) (x : Tile) : (s.setTile t x).toIssue = s.toIssue := rfl
@[simp] theorem setTile_cur (s : State) (t : Nat) (x : Tile) : (s.setTile t x).cur = s.cur := rfl
@[simp] theorem setTile_fresh (s : State) (t : Nat) (x : Tile) : (s.setTile t x).fresh = s.fresh := rfl
@[simp] theorem setTile_cycle (s : State) (t : Nat) (x : Tile) : (s.setTile t x).cycle = s.cycle := rfl
@[simp] theorem setTile_seq (s : State) (t : Nat) (x : Tile) : (s.setTile t x).seq = s.seq := rfl
@[simp] theorem setTile_dstate (s : State) (t : Nat) (x : Tile) : (s.setTile t x).dstate = s.dstate := rfl
@[simp] theorem setTile_lastG3 (s : State) (t : Nat) (x : Tile) : (s.setTile t x).lastG3 = s.lastG3 := rfl
@[simp] theorem setTile_cap (s : State) (t : Nat) (x : Tile) : (s.setTile t x).cap = s.cap := rfl
@[simp] theorem setTile_capNext (s : State) (t : Nat) (x : Tile) : (s.setTile t x).capNext = s.capNext := rfl
@[simp] theorem setTile_lostCyc (s : State) (t : Nat) (x : Tile) : (s.setTile t x).lostCyc = s.lostCyc := rfl
@[simp] theorem setTile_lostAt (s : State) (t : Nat) (x : Tile) : (s.setTile t x).lostAt = s.lostAt := rfl
@[simp] theorem setTile_rails (s : State) (t : Nat) (x : Tile) : (s.setTile t x).rails = s.rails := rfl
@[simp] theorem setTile_held (s : State) (t : Nat) (x : Tile) : (s.setTile t x).held = s.held := rfl
@[simp] theorem setTile_fuses (s : State) (t : Nat) (x : Tile) : (s.setTile t x).fuses = s.fuses := rfl
@[simp] theorem setTile_boot (s : State) (t : Nat) (x : Tile) : (s.setTile t x).boot = s.boot := rfl
@[simp] theorem setTile_kregs (s : State) (t : Nat) (x : Tile) : (s.setTile t x).kregs = s.kregs := rfl
@[simp] theorem setTile_mem (s : State) (t : Nat) (x : Tile) : (s.setTile t x).mem = s.mem := rfl
@[simp] theorem setTile_poison (s : State) (t : Nat) (x : Tile) : (s.setTile t x).poison = s.poison := rfl
@[simp] theorem setTile_tenants (s : State) (t : Nat) (x : Tile) : (s.setTile t x).tenants = s.tenants := rfl
@[simp] theorem setTile_clusters (s : State) (t : Nat) (x : Tile) : (s.setTile t x).clusters = s.clusters := rfl
@[simp] theorem setTile_dies (s : State) (t : Nat) (x : Tile) : (s.setTile t x).dies = s.dies := rfl
@[simp] theorem setTile_cores (s : State) (t : Nat) (x : Tile) : (s.setTile t x).cores = s.cores := rfl
@[simp] theorem setTile_links (s : State) (t : Nat) (x : Tile) : (s.setTile t x).links = s.links := rfl
@[simp] theorem setTile_ports (s : State) (t : Nat) (x : Tile) : (s.setTile t x).ports = s.ports := rfl
@[simp] theorem setTile_eths (s : State) (t : Nat) (x : Tile) : (s.setTile t x).eths = s.eths := rfl
@[simp] theorem setTile_health (s : State) (t : Nat) (x : Tile) : (s.setTile t x).health = s.health := rfl
@[simp] theorem setTile_wv (s : State) (t : Nat) (x : Tile) : (s.setTile t x).wv = s.wv := rfl
@[simp] theorem setTile_graphs (s : State) (t : Nat) (x : Tile) : (s.setTile t x).graphs = s.graphs := rfl
@[simp] theorem setTile_ready (s : State) (t : Nat) (x : Tile) : (s.setTile t x).ready = s.ready := rfl
@[simp] theorem setTile_ages (s : State) (t : Nat) (x : Tile) : (s.setTile t x).ages = s.ages := rfl
@[simp] theorem setTile_waitFrom (s : State) (t : Nat) (x : Tile) : (s.setTile t x).waitFrom = s.waitFrom := rfl
@[simp] theorem setTile_conts (s : State) (t : Nat) (x : Tile) : (s.setTile t x).conts = s.conts := rfl
@[simp] theorem setTile_frames (s : State) (t : Nat) (x : Tile) : (s.setTile t x).frames = s.frames := rfl
@[simp] theorem setTile_replies (s : State) (t : Nat) (x : Tile) : (s.setTile t x).replies = s.replies := rfl
@[simp] theorem setTile_sockets (s : State) (t : Nat) (x : Tile) : (s.setTile t x).sockets = s.sockets := rfl
@[simp] theorem modTile_agenda (s : State) (t : Nat) (f : Tile → Tile) : (s.modTile t f).agenda = s.agenda := rfl
@[simp] theorem modTile_toIssue (s : State) (t : Nat) (f : Tile → Tile) : (s.modTile t f).toIssue = s.toIssue := rfl
@[simp] theorem modTile_cur (s : State) (t : Nat) (f : Tile → Tile) : (s.modTile t f).cur = s.cur := rfl
@[simp] theorem modTile_fresh (s : State) (t : Nat) (f : Tile → Tile) : (s.modTile t f).fresh = s.fresh := rfl
@[simp] theorem modTile_cycle (s : State) (t : Nat) (f : Tile → Tile) : (s.modTile t f).cycle = s.cycle := rfl
@[simp] theorem modTile_seq (s : State) (t : Nat) (f : Tile → Tile) : (s.modTile t f).seq = s.seq := rfl
@[simp] theorem modTile_dstate (s : State) (t : Nat) (f : Tile → Tile) : (s.modTile t f).dstate = s.dstate := rfl
@[simp] theorem modTile_lastG3 (s : State) (t : Nat) (f : Tile → Tile) : (s.modTile t f).lastG3 = s.lastG3 := rfl
@[simp] theorem modTile_cap (s : State) (t : Nat) (f : Tile → Tile) : (s.modTile t f).cap = s.cap := rfl
@[simp] theorem modTile_capNext (s : State) (t : Nat) (f : Tile → Tile) : (s.modTile t f).capNext = s.capNext := rfl
@[simp] theorem modTile_lostCyc (s : State) (t : Nat) (f : Tile → Tile) : (s.modTile t f).lostCyc = s.lostCyc := rfl
@[simp] theorem modTile_lostAt (s : State) (t : Nat) (f : Tile → Tile) : (s.modTile t f).lostAt = s.lostAt := rfl
@[simp] theorem modTile_rails (s : State) (t : Nat) (f : Tile → Tile) : (s.modTile t f).rails = s.rails := rfl
@[simp] theorem modTile_held (s : State) (t : Nat) (f : Tile → Tile) : (s.modTile t f).held = s.held := rfl
@[simp] theorem modTile_fuses (s : State) (t : Nat) (f : Tile → Tile) : (s.modTile t f).fuses = s.fuses := rfl
@[simp] theorem modTile_boot (s : State) (t : Nat) (f : Tile → Tile) : (s.modTile t f).boot = s.boot := rfl
@[simp] theorem modTile_kregs (s : State) (t : Nat) (f : Tile → Tile) : (s.modTile t f).kregs = s.kregs := rfl
@[simp] theorem modTile_mem (s : State) (t : Nat) (f : Tile → Tile) : (s.modTile t f).mem = s.mem := rfl
@[simp] theorem modTile_poison (s : State) (t : Nat) (f : Tile → Tile) : (s.modTile t f).poison = s.poison := rfl
@[simp] theorem modTile_tenants (s : State) (t : Nat) (f : Tile → Tile) : (s.modTile t f).tenants = s.tenants := rfl
@[simp] theorem modTile_clusters (s : State) (t : Nat) (f : Tile → Tile) : (s.modTile t f).clusters = s.clusters := rfl
@[simp] theorem modTile_dies (s : State) (t : Nat) (f : Tile → Tile) : (s.modTile t f).dies = s.dies := rfl
@[simp] theorem modTile_cores (s : State) (t : Nat) (f : Tile → Tile) : (s.modTile t f).cores = s.cores := rfl
@[simp] theorem modTile_links (s : State) (t : Nat) (f : Tile → Tile) : (s.modTile t f).links = s.links := rfl
@[simp] theorem modTile_ports (s : State) (t : Nat) (f : Tile → Tile) : (s.modTile t f).ports = s.ports := rfl
@[simp] theorem modTile_eths (s : State) (t : Nat) (f : Tile → Tile) : (s.modTile t f).eths = s.eths := rfl
@[simp] theorem modTile_health (s : State) (t : Nat) (f : Tile → Tile) : (s.modTile t f).health = s.health := rfl
@[simp] theorem modTile_wv (s : State) (t : Nat) (f : Tile → Tile) : (s.modTile t f).wv = s.wv := rfl
@[simp] theorem modTile_graphs (s : State) (t : Nat) (f : Tile → Tile) : (s.modTile t f).graphs = s.graphs := rfl
@[simp] theorem modTile_ready (s : State) (t : Nat) (f : Tile → Tile) : (s.modTile t f).ready = s.ready := rfl
@[simp] theorem modTile_ages (s : State) (t : Nat) (f : Tile → Tile) : (s.modTile t f).ages = s.ages := rfl
@[simp] theorem modTile_waitFrom (s : State) (t : Nat) (f : Tile → Tile) : (s.modTile t f).waitFrom = s.waitFrom := rfl
@[simp] theorem modTile_conts (s : State) (t : Nat) (f : Tile → Tile) : (s.modTile t f).conts = s.conts := rfl
@[simp] theorem modTile_frames (s : State) (t : Nat) (f : Tile → Tile) : (s.modTile t f).frames = s.frames := rfl
@[simp] theorem modTile_replies (s : State) (t : Nat) (f : Tile → Tile) : (s.modTile t f).replies = s.replies := rfl
@[simp] theorem modTile_sockets (s : State) (t : Nat) (f : Tile → Tile) : (s.modTile t f).sockets = s.sockets := rfl
@[simp] theorem setCtx_agenda (s : State) (t c : Nat) (y : Ctx) : (s.setCtx t c y).agenda = s.agenda := rfl
@[simp] theorem setCtx_toIssue (s : State) (t c : Nat) (y : Ctx) : (s.setCtx t c y).toIssue = s.toIssue := rfl
@[simp] theorem setCtx_cur (s : State) (t c : Nat) (y : Ctx) : (s.setCtx t c y).cur = s.cur := rfl
@[simp] theorem setCtx_fresh (s : State) (t c : Nat) (y : Ctx) : (s.setCtx t c y).fresh = s.fresh := rfl
@[simp] theorem setCtx_cycle (s : State) (t c : Nat) (y : Ctx) : (s.setCtx t c y).cycle = s.cycle := rfl
@[simp] theorem setCtx_seq (s : State) (t c : Nat) (y : Ctx) : (s.setCtx t c y).seq = s.seq := rfl
@[simp] theorem setCtx_dstate (s : State) (t c : Nat) (y : Ctx) : (s.setCtx t c y).dstate = s.dstate := rfl
@[simp] theorem setCtx_lastG3 (s : State) (t c : Nat) (y : Ctx) : (s.setCtx t c y).lastG3 = s.lastG3 := rfl
@[simp] theorem setCtx_cap (s : State) (t c : Nat) (y : Ctx) : (s.setCtx t c y).cap = s.cap := rfl
@[simp] theorem setCtx_capNext (s : State) (t c : Nat) (y : Ctx) : (s.setCtx t c y).capNext = s.capNext := rfl
@[simp] theorem setCtx_lostCyc (s : State) (t c : Nat) (y : Ctx) : (s.setCtx t c y).lostCyc = s.lostCyc := rfl
@[simp] theorem setCtx_lostAt (s : State) (t c : Nat) (y : Ctx) : (s.setCtx t c y).lostAt = s.lostAt := rfl
@[simp] theorem setCtx_rails (s : State) (t c : Nat) (y : Ctx) : (s.setCtx t c y).rails = s.rails := rfl
@[simp] theorem setCtx_held (s : State) (t c : Nat) (y : Ctx) : (s.setCtx t c y).held = s.held := rfl
@[simp] theorem setCtx_fuses (s : State) (t c : Nat) (y : Ctx) : (s.setCtx t c y).fuses = s.fuses := rfl
@[simp] theorem setCtx_boot (s : State) (t c : Nat) (y : Ctx) : (s.setCtx t c y).boot = s.boot := rfl
@[simp] theorem setCtx_kregs (s : State) (t c : Nat) (y : Ctx) : (s.setCtx t c y).kregs = s.kregs := rfl
@[simp] theorem setCtx_mem (s : State) (t c : Nat) (y : Ctx) : (s.setCtx t c y).mem = s.mem := rfl
@[simp] theorem setCtx_poison (s : State) (t c : Nat) (y : Ctx) : (s.setCtx t c y).poison = s.poison := rfl
@[simp] theorem setCtx_tenants (s : State) (t c : Nat) (y : Ctx) : (s.setCtx t c y).tenants = s.tenants := rfl
@[simp] theorem setCtx_clusters (s : State) (t c : Nat) (y : Ctx) : (s.setCtx t c y).clusters = s.clusters := rfl
@[simp] theorem setCtx_dies (s : State) (t c : Nat) (y : Ctx) : (s.setCtx t c y).dies = s.dies := rfl
@[simp] theorem setCtx_cores (s : State) (t c : Nat) (y : Ctx) : (s.setCtx t c y).cores = s.cores := rfl
@[simp] theorem setCtx_links (s : State) (t c : Nat) (y : Ctx) : (s.setCtx t c y).links = s.links := rfl
@[simp] theorem setCtx_ports (s : State) (t c : Nat) (y : Ctx) : (s.setCtx t c y).ports = s.ports := rfl
@[simp] theorem setCtx_eths (s : State) (t c : Nat) (y : Ctx) : (s.setCtx t c y).eths = s.eths := rfl
@[simp] theorem setCtx_health (s : State) (t c : Nat) (y : Ctx) : (s.setCtx t c y).health = s.health := rfl
@[simp] theorem setCtx_wv (s : State) (t c : Nat) (y : Ctx) : (s.setCtx t c y).wv = s.wv := rfl
@[simp] theorem setCtx_graphs (s : State) (t c : Nat) (y : Ctx) : (s.setCtx t c y).graphs = s.graphs := rfl
@[simp] theorem setCtx_ready (s : State) (t c : Nat) (y : Ctx) : (s.setCtx t c y).ready = s.ready := rfl
@[simp] theorem setCtx_ages (s : State) (t c : Nat) (y : Ctx) : (s.setCtx t c y).ages = s.ages := rfl
@[simp] theorem setCtx_waitFrom (s : State) (t c : Nat) (y : Ctx) : (s.setCtx t c y).waitFrom = s.waitFrom := rfl
@[simp] theorem setCtx_conts (s : State) (t c : Nat) (y : Ctx) : (s.setCtx t c y).conts = s.conts := rfl
@[simp] theorem setCtx_frames (s : State) (t c : Nat) (y : Ctx) : (s.setCtx t c y).frames = s.frames := rfl
@[simp] theorem setCtx_replies (s : State) (t c : Nat) (y : Ctx) : (s.setCtx t c y).replies = s.replies := rfl
@[simp] theorem setCtx_sockets (s : State) (t c : Nat) (y : Ctx) : (s.setCtx t c y).sockets = s.sockets := rfl
@[simp] theorem modCtx_agenda (s : State) (t c : Nat) (f : Ctx → Ctx) : (s.modCtx t c f).agenda = s.agenda := rfl
@[simp] theorem modCtx_toIssue (s : State) (t c : Nat) (f : Ctx → Ctx) : (s.modCtx t c f).toIssue = s.toIssue := rfl
@[simp] theorem modCtx_cur (s : State) (t c : Nat) (f : Ctx → Ctx) : (s.modCtx t c f).cur = s.cur := rfl
@[simp] theorem modCtx_fresh (s : State) (t c : Nat) (f : Ctx → Ctx) : (s.modCtx t c f).fresh = s.fresh := rfl
@[simp] theorem modCtx_cycle (s : State) (t c : Nat) (f : Ctx → Ctx) : (s.modCtx t c f).cycle = s.cycle := rfl
@[simp] theorem modCtx_seq (s : State) (t c : Nat) (f : Ctx → Ctx) : (s.modCtx t c f).seq = s.seq := rfl
@[simp] theorem modCtx_dstate (s : State) (t c : Nat) (f : Ctx → Ctx) : (s.modCtx t c f).dstate = s.dstate := rfl
@[simp] theorem modCtx_lastG3 (s : State) (t c : Nat) (f : Ctx → Ctx) : (s.modCtx t c f).lastG3 = s.lastG3 := rfl
@[simp] theorem modCtx_cap (s : State) (t c : Nat) (f : Ctx → Ctx) : (s.modCtx t c f).cap = s.cap := rfl
@[simp] theorem modCtx_capNext (s : State) (t c : Nat) (f : Ctx → Ctx) : (s.modCtx t c f).capNext = s.capNext := rfl
@[simp] theorem modCtx_lostCyc (s : State) (t c : Nat) (f : Ctx → Ctx) : (s.modCtx t c f).lostCyc = s.lostCyc := rfl
@[simp] theorem modCtx_lostAt (s : State) (t c : Nat) (f : Ctx → Ctx) : (s.modCtx t c f).lostAt = s.lostAt := rfl
@[simp] theorem modCtx_rails (s : State) (t c : Nat) (f : Ctx → Ctx) : (s.modCtx t c f).rails = s.rails := rfl
@[simp] theorem modCtx_held (s : State) (t c : Nat) (f : Ctx → Ctx) : (s.modCtx t c f).held = s.held := rfl
@[simp] theorem modCtx_fuses (s : State) (t c : Nat) (f : Ctx → Ctx) : (s.modCtx t c f).fuses = s.fuses := rfl
@[simp] theorem modCtx_boot (s : State) (t c : Nat) (f : Ctx → Ctx) : (s.modCtx t c f).boot = s.boot := rfl
@[simp] theorem modCtx_kregs (s : State) (t c : Nat) (f : Ctx → Ctx) : (s.modCtx t c f).kregs = s.kregs := rfl
@[simp] theorem modCtx_mem (s : State) (t c : Nat) (f : Ctx → Ctx) : (s.modCtx t c f).mem = s.mem := rfl
@[simp] theorem modCtx_poison (s : State) (t c : Nat) (f : Ctx → Ctx) : (s.modCtx t c f).poison = s.poison := rfl
@[simp] theorem modCtx_tenants (s : State) (t c : Nat) (f : Ctx → Ctx) : (s.modCtx t c f).tenants = s.tenants := rfl
@[simp] theorem modCtx_clusters (s : State) (t c : Nat) (f : Ctx → Ctx) : (s.modCtx t c f).clusters = s.clusters := rfl
@[simp] theorem modCtx_dies (s : State) (t c : Nat) (f : Ctx → Ctx) : (s.modCtx t c f).dies = s.dies := rfl
@[simp] theorem modCtx_cores (s : State) (t c : Nat) (f : Ctx → Ctx) : (s.modCtx t c f).cores = s.cores := rfl
@[simp] theorem modCtx_links (s : State) (t c : Nat) (f : Ctx → Ctx) : (s.modCtx t c f).links = s.links := rfl
@[simp] theorem modCtx_ports (s : State) (t c : Nat) (f : Ctx → Ctx) : (s.modCtx t c f).ports = s.ports := rfl
@[simp] theorem modCtx_eths (s : State) (t c : Nat) (f : Ctx → Ctx) : (s.modCtx t c f).eths = s.eths := rfl
@[simp] theorem modCtx_health (s : State) (t c : Nat) (f : Ctx → Ctx) : (s.modCtx t c f).health = s.health := rfl
@[simp] theorem modCtx_wv (s : State) (t c : Nat) (f : Ctx → Ctx) : (s.modCtx t c f).wv = s.wv := rfl
@[simp] theorem modCtx_graphs (s : State) (t c : Nat) (f : Ctx → Ctx) : (s.modCtx t c f).graphs = s.graphs := rfl
@[simp] theorem modCtx_ready (s : State) (t c : Nat) (f : Ctx → Ctx) : (s.modCtx t c f).ready = s.ready := rfl
@[simp] theorem modCtx_ages (s : State) (t c : Nat) (f : Ctx → Ctx) : (s.modCtx t c f).ages = s.ages := rfl
@[simp] theorem modCtx_waitFrom (s : State) (t c : Nat) (f : Ctx → Ctx) : (s.modCtx t c f).waitFrom = s.waitFrom := rfl
@[simp] theorem modCtx_conts (s : State) (t c : Nat) (f : Ctx → Ctx) : (s.modCtx t c f).conts = s.conts := rfl
@[simp] theorem modCtx_frames (s : State) (t c : Nat) (f : Ctx → Ctx) : (s.modCtx t c f).frames = s.frames := rfl
@[simp] theorem modCtx_replies (s : State) (t c : Nat) (f : Ctx → Ctx) : (s.modCtx t c f).replies = s.replies := rfl
@[simp] theorem modCtx_sockets (s : State) (t c : Nat) (f : Ctx → Ctx) : (s.modCtx t c f).sockets = s.sockets := rfl
@[simp] theorem setCore_agenda (s : State) (k : Nat) (x : Core) : (s.setCore k x).agenda = s.agenda := rfl
@[simp] theorem setCore_toIssue (s : State) (k : Nat) (x : Core) : (s.setCore k x).toIssue = s.toIssue := rfl
@[simp] theorem setCore_cur (s : State) (k : Nat) (x : Core) : (s.setCore k x).cur = s.cur := rfl
@[simp] theorem setCore_fresh (s : State) (k : Nat) (x : Core) : (s.setCore k x).fresh = s.fresh := rfl
@[simp] theorem setCore_cycle (s : State) (k : Nat) (x : Core) : (s.setCore k x).cycle = s.cycle := rfl
@[simp] theorem setCore_seq (s : State) (k : Nat) (x : Core) : (s.setCore k x).seq = s.seq := rfl
@[simp] theorem setCore_dstate (s : State) (k : Nat) (x : Core) : (s.setCore k x).dstate = s.dstate := rfl
@[simp] theorem setCore_lastG3 (s : State) (k : Nat) (x : Core) : (s.setCore k x).lastG3 = s.lastG3 := rfl
@[simp] theorem setCore_cap (s : State) (k : Nat) (x : Core) : (s.setCore k x).cap = s.cap := rfl
@[simp] theorem setCore_capNext (s : State) (k : Nat) (x : Core) : (s.setCore k x).capNext = s.capNext := rfl
@[simp] theorem setCore_lostCyc (s : State) (k : Nat) (x : Core) : (s.setCore k x).lostCyc = s.lostCyc := rfl
@[simp] theorem setCore_lostAt (s : State) (k : Nat) (x : Core) : (s.setCore k x).lostAt = s.lostAt := rfl
@[simp] theorem setCore_rails (s : State) (k : Nat) (x : Core) : (s.setCore k x).rails = s.rails := rfl
@[simp] theorem setCore_held (s : State) (k : Nat) (x : Core) : (s.setCore k x).held = s.held := rfl
@[simp] theorem setCore_fuses (s : State) (k : Nat) (x : Core) : (s.setCore k x).fuses = s.fuses := rfl
@[simp] theorem setCore_boot (s : State) (k : Nat) (x : Core) : (s.setCore k x).boot = s.boot := rfl
@[simp] theorem setCore_kregs (s : State) (k : Nat) (x : Core) : (s.setCore k x).kregs = s.kregs := rfl
@[simp] theorem setCore_mem (s : State) (k : Nat) (x : Core) : (s.setCore k x).mem = s.mem := rfl
@[simp] theorem setCore_poison (s : State) (k : Nat) (x : Core) : (s.setCore k x).poison = s.poison := rfl
@[simp] theorem setCore_tenants (s : State) (k : Nat) (x : Core) : (s.setCore k x).tenants = s.tenants := rfl
@[simp] theorem setCore_tiles (s : State) (k : Nat) (x : Core) : (s.setCore k x).tiles = s.tiles := rfl
@[simp] theorem setCore_clusters (s : State) (k : Nat) (x : Core) : (s.setCore k x).clusters = s.clusters := rfl
@[simp] theorem setCore_dies (s : State) (k : Nat) (x : Core) : (s.setCore k x).dies = s.dies := rfl
@[simp] theorem setCore_links (s : State) (k : Nat) (x : Core) : (s.setCore k x).links = s.links := rfl
@[simp] theorem setCore_ports (s : State) (k : Nat) (x : Core) : (s.setCore k x).ports = s.ports := rfl
@[simp] theorem setCore_eths (s : State) (k : Nat) (x : Core) : (s.setCore k x).eths = s.eths := rfl
@[simp] theorem setCore_health (s : State) (k : Nat) (x : Core) : (s.setCore k x).health = s.health := rfl
@[simp] theorem setCore_wv (s : State) (k : Nat) (x : Core) : (s.setCore k x).wv = s.wv := rfl
@[simp] theorem setCore_graphs (s : State) (k : Nat) (x : Core) : (s.setCore k x).graphs = s.graphs := rfl
@[simp] theorem setCore_ready (s : State) (k : Nat) (x : Core) : (s.setCore k x).ready = s.ready := rfl
@[simp] theorem setCore_ages (s : State) (k : Nat) (x : Core) : (s.setCore k x).ages = s.ages := rfl
@[simp] theorem setCore_waitFrom (s : State) (k : Nat) (x : Core) : (s.setCore k x).waitFrom = s.waitFrom := rfl
@[simp] theorem setCore_conts (s : State) (k : Nat) (x : Core) : (s.setCore k x).conts = s.conts := rfl
@[simp] theorem setCore_frames (s : State) (k : Nat) (x : Core) : (s.setCore k x).frames = s.frames := rfl
@[simp] theorem setCore_replies (s : State) (k : Nat) (x : Core) : (s.setCore k x).replies = s.replies := rfl
@[simp] theorem setCore_sockets (s : State) (k : Nat) (x : Core) : (s.setCore k x).sockets = s.sockets := rfl
@[simp] theorem modCore_agenda (s : State) (k : Nat) (f : Core → Core) : (s.modCore k f).agenda = s.agenda := rfl
@[simp] theorem modCore_toIssue (s : State) (k : Nat) (f : Core → Core) : (s.modCore k f).toIssue = s.toIssue := rfl
@[simp] theorem modCore_cur (s : State) (k : Nat) (f : Core → Core) : (s.modCore k f).cur = s.cur := rfl
@[simp] theorem modCore_fresh (s : State) (k : Nat) (f : Core → Core) : (s.modCore k f).fresh = s.fresh := rfl
@[simp] theorem modCore_cycle (s : State) (k : Nat) (f : Core → Core) : (s.modCore k f).cycle = s.cycle := rfl
@[simp] theorem modCore_seq (s : State) (k : Nat) (f : Core → Core) : (s.modCore k f).seq = s.seq := rfl
@[simp] theorem modCore_dstate (s : State) (k : Nat) (f : Core → Core) : (s.modCore k f).dstate = s.dstate := rfl
@[simp] theorem modCore_lastG3 (s : State) (k : Nat) (f : Core → Core) : (s.modCore k f).lastG3 = s.lastG3 := rfl
@[simp] theorem modCore_cap (s : State) (k : Nat) (f : Core → Core) : (s.modCore k f).cap = s.cap := rfl
@[simp] theorem modCore_capNext (s : State) (k : Nat) (f : Core → Core) : (s.modCore k f).capNext = s.capNext := rfl
@[simp] theorem modCore_lostCyc (s : State) (k : Nat) (f : Core → Core) : (s.modCore k f).lostCyc = s.lostCyc := rfl
@[simp] theorem modCore_lostAt (s : State) (k : Nat) (f : Core → Core) : (s.modCore k f).lostAt = s.lostAt := rfl
@[simp] theorem modCore_rails (s : State) (k : Nat) (f : Core → Core) : (s.modCore k f).rails = s.rails := rfl
@[simp] theorem modCore_held (s : State) (k : Nat) (f : Core → Core) : (s.modCore k f).held = s.held := rfl
@[simp] theorem modCore_fuses (s : State) (k : Nat) (f : Core → Core) : (s.modCore k f).fuses = s.fuses := rfl
@[simp] theorem modCore_boot (s : State) (k : Nat) (f : Core → Core) : (s.modCore k f).boot = s.boot := rfl
@[simp] theorem modCore_kregs (s : State) (k : Nat) (f : Core → Core) : (s.modCore k f).kregs = s.kregs := rfl
@[simp] theorem modCore_mem (s : State) (k : Nat) (f : Core → Core) : (s.modCore k f).mem = s.mem := rfl
@[simp] theorem modCore_poison (s : State) (k : Nat) (f : Core → Core) : (s.modCore k f).poison = s.poison := rfl
@[simp] theorem modCore_tenants (s : State) (k : Nat) (f : Core → Core) : (s.modCore k f).tenants = s.tenants := rfl
@[simp] theorem modCore_tiles (s : State) (k : Nat) (f : Core → Core) : (s.modCore k f).tiles = s.tiles := rfl
@[simp] theorem modCore_clusters (s : State) (k : Nat) (f : Core → Core) : (s.modCore k f).clusters = s.clusters := rfl
@[simp] theorem modCore_dies (s : State) (k : Nat) (f : Core → Core) : (s.modCore k f).dies = s.dies := rfl
@[simp] theorem modCore_links (s : State) (k : Nat) (f : Core → Core) : (s.modCore k f).links = s.links := rfl
@[simp] theorem modCore_ports (s : State) (k : Nat) (f : Core → Core) : (s.modCore k f).ports = s.ports := rfl
@[simp] theorem modCore_eths (s : State) (k : Nat) (f : Core → Core) : (s.modCore k f).eths = s.eths := rfl
@[simp] theorem modCore_health (s : State) (k : Nat) (f : Core → Core) : (s.modCore k f).health = s.health := rfl
@[simp] theorem modCore_wv (s : State) (k : Nat) (f : Core → Core) : (s.modCore k f).wv = s.wv := rfl
@[simp] theorem modCore_graphs (s : State) (k : Nat) (f : Core → Core) : (s.modCore k f).graphs = s.graphs := rfl
@[simp] theorem modCore_ready (s : State) (k : Nat) (f : Core → Core) : (s.modCore k f).ready = s.ready := rfl
@[simp] theorem modCore_ages (s : State) (k : Nat) (f : Core → Core) : (s.modCore k f).ages = s.ages := rfl
@[simp] theorem modCore_waitFrom (s : State) (k : Nat) (f : Core → Core) : (s.modCore k f).waitFrom = s.waitFrom := rfl
@[simp] theorem modCore_conts (s : State) (k : Nat) (f : Core → Core) : (s.modCore k f).conts = s.conts := rfl
@[simp] theorem modCore_frames (s : State) (k : Nat) (f : Core → Core) : (s.modCore k f).frames = s.frames := rfl
@[simp] theorem modCore_replies (s : State) (k : Nat) (f : Core → Core) : (s.modCore k f).replies = s.replies := rfl
@[simp] theorem modCore_sockets (s : State) (k : Nat) (f : Core → Core) : (s.modCore k f).sockets = s.sockets := rfl
@[simp] theorem modDie_agenda (s : State) (d : Nat) (f : Die → Die) : (s.modDie d f).agenda = s.agenda := rfl
@[simp] theorem modDie_toIssue (s : State) (d : Nat) (f : Die → Die) : (s.modDie d f).toIssue = s.toIssue := rfl
@[simp] theorem modDie_cur (s : State) (d : Nat) (f : Die → Die) : (s.modDie d f).cur = s.cur := rfl
@[simp] theorem modDie_fresh (s : State) (d : Nat) (f : Die → Die) : (s.modDie d f).fresh = s.fresh := rfl
@[simp] theorem modDie_cycle (s : State) (d : Nat) (f : Die → Die) : (s.modDie d f).cycle = s.cycle := rfl
@[simp] theorem modDie_seq (s : State) (d : Nat) (f : Die → Die) : (s.modDie d f).seq = s.seq := rfl
@[simp] theorem modDie_dstate (s : State) (d : Nat) (f : Die → Die) : (s.modDie d f).dstate = s.dstate := rfl
@[simp] theorem modDie_lastG3 (s : State) (d : Nat) (f : Die → Die) : (s.modDie d f).lastG3 = s.lastG3 := rfl
@[simp] theorem modDie_cap (s : State) (d : Nat) (f : Die → Die) : (s.modDie d f).cap = s.cap := rfl
@[simp] theorem modDie_capNext (s : State) (d : Nat) (f : Die → Die) : (s.modDie d f).capNext = s.capNext := rfl
@[simp] theorem modDie_lostCyc (s : State) (d : Nat) (f : Die → Die) : (s.modDie d f).lostCyc = s.lostCyc := rfl
@[simp] theorem modDie_lostAt (s : State) (d : Nat) (f : Die → Die) : (s.modDie d f).lostAt = s.lostAt := rfl
@[simp] theorem modDie_rails (s : State) (d : Nat) (f : Die → Die) : (s.modDie d f).rails = s.rails := rfl
@[simp] theorem modDie_held (s : State) (d : Nat) (f : Die → Die) : (s.modDie d f).held = s.held := rfl
@[simp] theorem modDie_fuses (s : State) (d : Nat) (f : Die → Die) : (s.modDie d f).fuses = s.fuses := rfl
@[simp] theorem modDie_boot (s : State) (d : Nat) (f : Die → Die) : (s.modDie d f).boot = s.boot := rfl
@[simp] theorem modDie_kregs (s : State) (d : Nat) (f : Die → Die) : (s.modDie d f).kregs = s.kregs := rfl
@[simp] theorem modDie_mem (s : State) (d : Nat) (f : Die → Die) : (s.modDie d f).mem = s.mem := rfl
@[simp] theorem modDie_poison (s : State) (d : Nat) (f : Die → Die) : (s.modDie d f).poison = s.poison := rfl
@[simp] theorem modDie_tenants (s : State) (d : Nat) (f : Die → Die) : (s.modDie d f).tenants = s.tenants := rfl
@[simp] theorem modDie_tiles (s : State) (d : Nat) (f : Die → Die) : (s.modDie d f).tiles = s.tiles := rfl
@[simp] theorem modDie_clusters (s : State) (d : Nat) (f : Die → Die) : (s.modDie d f).clusters = s.clusters := rfl
@[simp] theorem modDie_cores (s : State) (d : Nat) (f : Die → Die) : (s.modDie d f).cores = s.cores := rfl
@[simp] theorem modDie_links (s : State) (d : Nat) (f : Die → Die) : (s.modDie d f).links = s.links := rfl
@[simp] theorem modDie_ports (s : State) (d : Nat) (f : Die → Die) : (s.modDie d f).ports = s.ports := rfl
@[simp] theorem modDie_eths (s : State) (d : Nat) (f : Die → Die) : (s.modDie d f).eths = s.eths := rfl
@[simp] theorem modDie_health (s : State) (d : Nat) (f : Die → Die) : (s.modDie d f).health = s.health := rfl
@[simp] theorem modDie_wv (s : State) (d : Nat) (f : Die → Die) : (s.modDie d f).wv = s.wv := rfl
@[simp] theorem modDie_graphs (s : State) (d : Nat) (f : Die → Die) : (s.modDie d f).graphs = s.graphs := rfl
@[simp] theorem modDie_ready (s : State) (d : Nat) (f : Die → Die) : (s.modDie d f).ready = s.ready := rfl
@[simp] theorem modDie_ages (s : State) (d : Nat) (f : Die → Die) : (s.modDie d f).ages = s.ages := rfl
@[simp] theorem modDie_waitFrom (s : State) (d : Nat) (f : Die → Die) : (s.modDie d f).waitFrom = s.waitFrom := rfl
@[simp] theorem modDie_conts (s : State) (d : Nat) (f : Die → Die) : (s.modDie d f).conts = s.conts := rfl
@[simp] theorem modDie_frames (s : State) (d : Nat) (f : Die → Die) : (s.modDie d f).frames = s.frames := rfl
@[simp] theorem modDie_replies (s : State) (d : Nat) (f : Die → Die) : (s.modDie d f).replies = s.replies := rfl
@[simp] theorem modDie_sockets (s : State) (d : Nat) (f : Die → Die) : (s.modDie d f).sockets = s.sockets := rfl
@[simp] theorem modCluster_agenda (s : State) (n : Nat) (f : Cluster → Cluster) : (s.modCluster n f).agenda = s.agenda := rfl
@[simp] theorem modCluster_toIssue (s : State) (n : Nat) (f : Cluster → Cluster) : (s.modCluster n f).toIssue = s.toIssue := rfl
@[simp] theorem modCluster_cur (s : State) (n : Nat) (f : Cluster → Cluster) : (s.modCluster n f).cur = s.cur := rfl
@[simp] theorem modCluster_fresh (s : State) (n : Nat) (f : Cluster → Cluster) : (s.modCluster n f).fresh = s.fresh := rfl
@[simp] theorem modCluster_cycle (s : State) (n : Nat) (f : Cluster → Cluster) : (s.modCluster n f).cycle = s.cycle := rfl
@[simp] theorem modCluster_seq (s : State) (n : Nat) (f : Cluster → Cluster) : (s.modCluster n f).seq = s.seq := rfl
@[simp] theorem modCluster_dstate (s : State) (n : Nat) (f : Cluster → Cluster) : (s.modCluster n f).dstate = s.dstate := rfl
@[simp] theorem modCluster_lastG3 (s : State) (n : Nat) (f : Cluster → Cluster) : (s.modCluster n f).lastG3 = s.lastG3 := rfl
@[simp] theorem modCluster_cap (s : State) (n : Nat) (f : Cluster → Cluster) : (s.modCluster n f).cap = s.cap := rfl
@[simp] theorem modCluster_capNext (s : State) (n : Nat) (f : Cluster → Cluster) : (s.modCluster n f).capNext = s.capNext := rfl
@[simp] theorem modCluster_lostCyc (s : State) (n : Nat) (f : Cluster → Cluster) : (s.modCluster n f).lostCyc = s.lostCyc := rfl
@[simp] theorem modCluster_lostAt (s : State) (n : Nat) (f : Cluster → Cluster) : (s.modCluster n f).lostAt = s.lostAt := rfl
@[simp] theorem modCluster_rails (s : State) (n : Nat) (f : Cluster → Cluster) : (s.modCluster n f).rails = s.rails := rfl
@[simp] theorem modCluster_held (s : State) (n : Nat) (f : Cluster → Cluster) : (s.modCluster n f).held = s.held := rfl
@[simp] theorem modCluster_fuses (s : State) (n : Nat) (f : Cluster → Cluster) : (s.modCluster n f).fuses = s.fuses := rfl
@[simp] theorem modCluster_boot (s : State) (n : Nat) (f : Cluster → Cluster) : (s.modCluster n f).boot = s.boot := rfl
@[simp] theorem modCluster_kregs (s : State) (n : Nat) (f : Cluster → Cluster) : (s.modCluster n f).kregs = s.kregs := rfl
@[simp] theorem modCluster_mem (s : State) (n : Nat) (f : Cluster → Cluster) : (s.modCluster n f).mem = s.mem := rfl
@[simp] theorem modCluster_poison (s : State) (n : Nat) (f : Cluster → Cluster) : (s.modCluster n f).poison = s.poison := rfl
@[simp] theorem modCluster_tenants (s : State) (n : Nat) (f : Cluster → Cluster) : (s.modCluster n f).tenants = s.tenants := rfl
@[simp] theorem modCluster_tiles (s : State) (n : Nat) (f : Cluster → Cluster) : (s.modCluster n f).tiles = s.tiles := rfl
@[simp] theorem modCluster_dies (s : State) (n : Nat) (f : Cluster → Cluster) : (s.modCluster n f).dies = s.dies := rfl
@[simp] theorem modCluster_cores (s : State) (n : Nat) (f : Cluster → Cluster) : (s.modCluster n f).cores = s.cores := rfl
@[simp] theorem modCluster_links (s : State) (n : Nat) (f : Cluster → Cluster) : (s.modCluster n f).links = s.links := rfl
@[simp] theorem modCluster_ports (s : State) (n : Nat) (f : Cluster → Cluster) : (s.modCluster n f).ports = s.ports := rfl
@[simp] theorem modCluster_eths (s : State) (n : Nat) (f : Cluster → Cluster) : (s.modCluster n f).eths = s.eths := rfl
@[simp] theorem modCluster_health (s : State) (n : Nat) (f : Cluster → Cluster) : (s.modCluster n f).health = s.health := rfl
@[simp] theorem modCluster_wv (s : State) (n : Nat) (f : Cluster → Cluster) : (s.modCluster n f).wv = s.wv := rfl
@[simp] theorem modCluster_graphs (s : State) (n : Nat) (f : Cluster → Cluster) : (s.modCluster n f).graphs = s.graphs := rfl
@[simp] theorem modCluster_ready (s : State) (n : Nat) (f : Cluster → Cluster) : (s.modCluster n f).ready = s.ready := rfl
@[simp] theorem modCluster_ages (s : State) (n : Nat) (f : Cluster → Cluster) : (s.modCluster n f).ages = s.ages := rfl
@[simp] theorem modCluster_waitFrom (s : State) (n : Nat) (f : Cluster → Cluster) : (s.modCluster n f).waitFrom = s.waitFrom := rfl
@[simp] theorem modCluster_conts (s : State) (n : Nat) (f : Cluster → Cluster) : (s.modCluster n f).conts = s.conts := rfl
@[simp] theorem modCluster_frames (s : State) (n : Nat) (f : Cluster → Cluster) : (s.modCluster n f).frames = s.frames := rfl
@[simp] theorem modCluster_replies (s : State) (n : Nat) (f : Cluster → Cluster) : (s.modCluster n f).replies = s.replies := rfl
@[simp] theorem modCluster_sockets (s : State) (n : Nat) (f : Cluster → Cluster) : (s.modCluster n f).sockets = s.sockets := rfl
@[simp] theorem modTenant_agenda (s : State) (n : Nat) (f : Tenant → Tenant) : (s.modTenant n f).agenda = s.agenda := rfl
@[simp] theorem modTenant_toIssue (s : State) (n : Nat) (f : Tenant → Tenant) : (s.modTenant n f).toIssue = s.toIssue := rfl
@[simp] theorem modTenant_cur (s : State) (n : Nat) (f : Tenant → Tenant) : (s.modTenant n f).cur = s.cur := rfl
@[simp] theorem modTenant_fresh (s : State) (n : Nat) (f : Tenant → Tenant) : (s.modTenant n f).fresh = s.fresh := rfl
@[simp] theorem modTenant_cycle (s : State) (n : Nat) (f : Tenant → Tenant) : (s.modTenant n f).cycle = s.cycle := rfl
@[simp] theorem modTenant_seq (s : State) (n : Nat) (f : Tenant → Tenant) : (s.modTenant n f).seq = s.seq := rfl
@[simp] theorem modTenant_dstate (s : State) (n : Nat) (f : Tenant → Tenant) : (s.modTenant n f).dstate = s.dstate := rfl
@[simp] theorem modTenant_lastG3 (s : State) (n : Nat) (f : Tenant → Tenant) : (s.modTenant n f).lastG3 = s.lastG3 := rfl
@[simp] theorem modTenant_cap (s : State) (n : Nat) (f : Tenant → Tenant) : (s.modTenant n f).cap = s.cap := rfl
@[simp] theorem modTenant_capNext (s : State) (n : Nat) (f : Tenant → Tenant) : (s.modTenant n f).capNext = s.capNext := rfl
@[simp] theorem modTenant_lostCyc (s : State) (n : Nat) (f : Tenant → Tenant) : (s.modTenant n f).lostCyc = s.lostCyc := rfl
@[simp] theorem modTenant_lostAt (s : State) (n : Nat) (f : Tenant → Tenant) : (s.modTenant n f).lostAt = s.lostAt := rfl
@[simp] theorem modTenant_rails (s : State) (n : Nat) (f : Tenant → Tenant) : (s.modTenant n f).rails = s.rails := rfl
@[simp] theorem modTenant_held (s : State) (n : Nat) (f : Tenant → Tenant) : (s.modTenant n f).held = s.held := rfl
@[simp] theorem modTenant_fuses (s : State) (n : Nat) (f : Tenant → Tenant) : (s.modTenant n f).fuses = s.fuses := rfl
@[simp] theorem modTenant_boot (s : State) (n : Nat) (f : Tenant → Tenant) : (s.modTenant n f).boot = s.boot := rfl
@[simp] theorem modTenant_kregs (s : State) (n : Nat) (f : Tenant → Tenant) : (s.modTenant n f).kregs = s.kregs := rfl
@[simp] theorem modTenant_mem (s : State) (n : Nat) (f : Tenant → Tenant) : (s.modTenant n f).mem = s.mem := rfl
@[simp] theorem modTenant_poison (s : State) (n : Nat) (f : Tenant → Tenant) : (s.modTenant n f).poison = s.poison := rfl
@[simp] theorem modTenant_tiles (s : State) (n : Nat) (f : Tenant → Tenant) : (s.modTenant n f).tiles = s.tiles := rfl
@[simp] theorem modTenant_clusters (s : State) (n : Nat) (f : Tenant → Tenant) : (s.modTenant n f).clusters = s.clusters := rfl
@[simp] theorem modTenant_dies (s : State) (n : Nat) (f : Tenant → Tenant) : (s.modTenant n f).dies = s.dies := rfl
@[simp] theorem modTenant_cores (s : State) (n : Nat) (f : Tenant → Tenant) : (s.modTenant n f).cores = s.cores := rfl
@[simp] theorem modTenant_links (s : State) (n : Nat) (f : Tenant → Tenant) : (s.modTenant n f).links = s.links := rfl
@[simp] theorem modTenant_ports (s : State) (n : Nat) (f : Tenant → Tenant) : (s.modTenant n f).ports = s.ports := rfl
@[simp] theorem modTenant_eths (s : State) (n : Nat) (f : Tenant → Tenant) : (s.modTenant n f).eths = s.eths := rfl
@[simp] theorem modTenant_health (s : State) (n : Nat) (f : Tenant → Tenant) : (s.modTenant n f).health = s.health := rfl
@[simp] theorem modTenant_wv (s : State) (n : Nat) (f : Tenant → Tenant) : (s.modTenant n f).wv = s.wv := rfl
@[simp] theorem modTenant_graphs (s : State) (n : Nat) (f : Tenant → Tenant) : (s.modTenant n f).graphs = s.graphs := rfl
@[simp] theorem modTenant_ready (s : State) (n : Nat) (f : Tenant → Tenant) : (s.modTenant n f).ready = s.ready := rfl
@[simp] theorem modTenant_ages (s : State) (n : Nat) (f : Tenant → Tenant) : (s.modTenant n f).ages = s.ages := rfl
@[simp] theorem modTenant_waitFrom (s : State) (n : Nat) (f : Tenant → Tenant) : (s.modTenant n f).waitFrom = s.waitFrom := rfl
@[simp] theorem modTenant_conts (s : State) (n : Nat) (f : Tenant → Tenant) : (s.modTenant n f).conts = s.conts := rfl
@[simp] theorem modTenant_frames (s : State) (n : Nat) (f : Tenant → Tenant) : (s.modTenant n f).frames = s.frames := rfl
@[simp] theorem modTenant_replies (s : State) (n : Nat) (f : Tenant → Tenant) : (s.modTenant n f).replies = s.replies := rfl
@[simp] theorem modTenant_sockets (s : State) (n : Nat) (f : Tenant → Tenant) : (s.modTenant n f).sockets = s.sockets := rfl
@[simp] theorem modPort_agenda (s : State) (n : Nat) (f : Port → Port) : (s.modPort n f).agenda = s.agenda := rfl
@[simp] theorem modPort_toIssue (s : State) (n : Nat) (f : Port → Port) : (s.modPort n f).toIssue = s.toIssue := rfl
@[simp] theorem modPort_cur (s : State) (n : Nat) (f : Port → Port) : (s.modPort n f).cur = s.cur := rfl
@[simp] theorem modPort_fresh (s : State) (n : Nat) (f : Port → Port) : (s.modPort n f).fresh = s.fresh := rfl
@[simp] theorem modPort_cycle (s : State) (n : Nat) (f : Port → Port) : (s.modPort n f).cycle = s.cycle := rfl
@[simp] theorem modPort_seq (s : State) (n : Nat) (f : Port → Port) : (s.modPort n f).seq = s.seq := rfl
@[simp] theorem modPort_dstate (s : State) (n : Nat) (f : Port → Port) : (s.modPort n f).dstate = s.dstate := rfl
@[simp] theorem modPort_lastG3 (s : State) (n : Nat) (f : Port → Port) : (s.modPort n f).lastG3 = s.lastG3 := rfl
@[simp] theorem modPort_cap (s : State) (n : Nat) (f : Port → Port) : (s.modPort n f).cap = s.cap := rfl
@[simp] theorem modPort_capNext (s : State) (n : Nat) (f : Port → Port) : (s.modPort n f).capNext = s.capNext := rfl
@[simp] theorem modPort_lostCyc (s : State) (n : Nat) (f : Port → Port) : (s.modPort n f).lostCyc = s.lostCyc := rfl
@[simp] theorem modPort_lostAt (s : State) (n : Nat) (f : Port → Port) : (s.modPort n f).lostAt = s.lostAt := rfl
@[simp] theorem modPort_rails (s : State) (n : Nat) (f : Port → Port) : (s.modPort n f).rails = s.rails := rfl
@[simp] theorem modPort_held (s : State) (n : Nat) (f : Port → Port) : (s.modPort n f).held = s.held := rfl
@[simp] theorem modPort_fuses (s : State) (n : Nat) (f : Port → Port) : (s.modPort n f).fuses = s.fuses := rfl
@[simp] theorem modPort_boot (s : State) (n : Nat) (f : Port → Port) : (s.modPort n f).boot = s.boot := rfl
@[simp] theorem modPort_kregs (s : State) (n : Nat) (f : Port → Port) : (s.modPort n f).kregs = s.kregs := rfl
@[simp] theorem modPort_mem (s : State) (n : Nat) (f : Port → Port) : (s.modPort n f).mem = s.mem := rfl
@[simp] theorem modPort_poison (s : State) (n : Nat) (f : Port → Port) : (s.modPort n f).poison = s.poison := rfl
@[simp] theorem modPort_tenants (s : State) (n : Nat) (f : Port → Port) : (s.modPort n f).tenants = s.tenants := rfl
@[simp] theorem modPort_tiles (s : State) (n : Nat) (f : Port → Port) : (s.modPort n f).tiles = s.tiles := rfl
@[simp] theorem modPort_clusters (s : State) (n : Nat) (f : Port → Port) : (s.modPort n f).clusters = s.clusters := rfl
@[simp] theorem modPort_dies (s : State) (n : Nat) (f : Port → Port) : (s.modPort n f).dies = s.dies := rfl
@[simp] theorem modPort_cores (s : State) (n : Nat) (f : Port → Port) : (s.modPort n f).cores = s.cores := rfl
@[simp] theorem modPort_links (s : State) (n : Nat) (f : Port → Port) : (s.modPort n f).links = s.links := rfl
@[simp] theorem modPort_eths (s : State) (n : Nat) (f : Port → Port) : (s.modPort n f).eths = s.eths := rfl
@[simp] theorem modPort_health (s : State) (n : Nat) (f : Port → Port) : (s.modPort n f).health = s.health := rfl
@[simp] theorem modPort_wv (s : State) (n : Nat) (f : Port → Port) : (s.modPort n f).wv = s.wv := rfl
@[simp] theorem modPort_graphs (s : State) (n : Nat) (f : Port → Port) : (s.modPort n f).graphs = s.graphs := rfl
@[simp] theorem modPort_ready (s : State) (n : Nat) (f : Port → Port) : (s.modPort n f).ready = s.ready := rfl
@[simp] theorem modPort_ages (s : State) (n : Nat) (f : Port → Port) : (s.modPort n f).ages = s.ages := rfl
@[simp] theorem modPort_waitFrom (s : State) (n : Nat) (f : Port → Port) : (s.modPort n f).waitFrom = s.waitFrom := rfl
@[simp] theorem modPort_conts (s : State) (n : Nat) (f : Port → Port) : (s.modPort n f).conts = s.conts := rfl
@[simp] theorem modPort_frames (s : State) (n : Nat) (f : Port → Port) : (s.modPort n f).frames = s.frames := rfl
@[simp] theorem modPort_replies (s : State) (n : Nat) (f : Port → Port) : (s.modPort n f).replies = s.replies := rfl
@[simp] theorem modPort_sockets (s : State) (n : Nat) (f : Port → Port) : (s.modPort n f).sockets = s.sockets := rfl
@[simp] theorem modLink_agenda (s : State) (n : Nat) (f : MemLink → MemLink) : (s.modLink n f).agenda = s.agenda := rfl
@[simp] theorem modLink_toIssue (s : State) (n : Nat) (f : MemLink → MemLink) : (s.modLink n f).toIssue = s.toIssue := rfl
@[simp] theorem modLink_cur (s : State) (n : Nat) (f : MemLink → MemLink) : (s.modLink n f).cur = s.cur := rfl
@[simp] theorem modLink_fresh (s : State) (n : Nat) (f : MemLink → MemLink) : (s.modLink n f).fresh = s.fresh := rfl
@[simp] theorem modLink_cycle (s : State) (n : Nat) (f : MemLink → MemLink) : (s.modLink n f).cycle = s.cycle := rfl
@[simp] theorem modLink_seq (s : State) (n : Nat) (f : MemLink → MemLink) : (s.modLink n f).seq = s.seq := rfl
@[simp] theorem modLink_dstate (s : State) (n : Nat) (f : MemLink → MemLink) : (s.modLink n f).dstate = s.dstate := rfl
@[simp] theorem modLink_lastG3 (s : State) (n : Nat) (f : MemLink → MemLink) : (s.modLink n f).lastG3 = s.lastG3 := rfl
@[simp] theorem modLink_cap (s : State) (n : Nat) (f : MemLink → MemLink) : (s.modLink n f).cap = s.cap := rfl
@[simp] theorem modLink_capNext (s : State) (n : Nat) (f : MemLink → MemLink) : (s.modLink n f).capNext = s.capNext := rfl
@[simp] theorem modLink_lostCyc (s : State) (n : Nat) (f : MemLink → MemLink) : (s.modLink n f).lostCyc = s.lostCyc := rfl
@[simp] theorem modLink_lostAt (s : State) (n : Nat) (f : MemLink → MemLink) : (s.modLink n f).lostAt = s.lostAt := rfl
@[simp] theorem modLink_rails (s : State) (n : Nat) (f : MemLink → MemLink) : (s.modLink n f).rails = s.rails := rfl
@[simp] theorem modLink_held (s : State) (n : Nat) (f : MemLink → MemLink) : (s.modLink n f).held = s.held := rfl
@[simp] theorem modLink_fuses (s : State) (n : Nat) (f : MemLink → MemLink) : (s.modLink n f).fuses = s.fuses := rfl
@[simp] theorem modLink_boot (s : State) (n : Nat) (f : MemLink → MemLink) : (s.modLink n f).boot = s.boot := rfl
@[simp] theorem modLink_kregs (s : State) (n : Nat) (f : MemLink → MemLink) : (s.modLink n f).kregs = s.kregs := rfl
@[simp] theorem modLink_mem (s : State) (n : Nat) (f : MemLink → MemLink) : (s.modLink n f).mem = s.mem := rfl
@[simp] theorem modLink_poison (s : State) (n : Nat) (f : MemLink → MemLink) : (s.modLink n f).poison = s.poison := rfl
@[simp] theorem modLink_tenants (s : State) (n : Nat) (f : MemLink → MemLink) : (s.modLink n f).tenants = s.tenants := rfl
@[simp] theorem modLink_tiles (s : State) (n : Nat) (f : MemLink → MemLink) : (s.modLink n f).tiles = s.tiles := rfl
@[simp] theorem modLink_clusters (s : State) (n : Nat) (f : MemLink → MemLink) : (s.modLink n f).clusters = s.clusters := rfl
@[simp] theorem modLink_dies (s : State) (n : Nat) (f : MemLink → MemLink) : (s.modLink n f).dies = s.dies := rfl
@[simp] theorem modLink_cores (s : State) (n : Nat) (f : MemLink → MemLink) : (s.modLink n f).cores = s.cores := rfl
@[simp] theorem modLink_ports (s : State) (n : Nat) (f : MemLink → MemLink) : (s.modLink n f).ports = s.ports := rfl
@[simp] theorem modLink_eths (s : State) (n : Nat) (f : MemLink → MemLink) : (s.modLink n f).eths = s.eths := rfl
@[simp] theorem modLink_health (s : State) (n : Nat) (f : MemLink → MemLink) : (s.modLink n f).health = s.health := rfl
@[simp] theorem modLink_wv (s : State) (n : Nat) (f : MemLink → MemLink) : (s.modLink n f).wv = s.wv := rfl
@[simp] theorem modLink_graphs (s : State) (n : Nat) (f : MemLink → MemLink) : (s.modLink n f).graphs = s.graphs := rfl
@[simp] theorem modLink_ready (s : State) (n : Nat) (f : MemLink → MemLink) : (s.modLink n f).ready = s.ready := rfl
@[simp] theorem modLink_ages (s : State) (n : Nat) (f : MemLink → MemLink) : (s.modLink n f).ages = s.ages := rfl
@[simp] theorem modLink_waitFrom (s : State) (n : Nat) (f : MemLink → MemLink) : (s.modLink n f).waitFrom = s.waitFrom := rfl
@[simp] theorem modLink_conts (s : State) (n : Nat) (f : MemLink → MemLink) : (s.modLink n f).conts = s.conts := rfl
@[simp] theorem modLink_frames (s : State) (n : Nat) (f : MemLink → MemLink) : (s.modLink n f).frames = s.frames := rfl
@[simp] theorem modLink_replies (s : State) (n : Nat) (f : MemLink → MemLink) : (s.modLink n f).replies = s.replies := rfl
@[simp] theorem modLink_sockets (s : State) (n : Nat) (f : MemLink → MemLink) : (s.modLink n f).sockets = s.sockets := rfl
@[simp] theorem interrupt_agenda (s : State) (k : Nat) (c : Cause) : (s.interrupt k c).agenda = s.agenda := rfl
@[simp] theorem interrupt_toIssue (s : State) (k : Nat) (c : Cause) : (s.interrupt k c).toIssue = s.toIssue := rfl
@[simp] theorem interrupt_cur (s : State) (k : Nat) (c : Cause) : (s.interrupt k c).cur = s.cur := rfl
@[simp] theorem interrupt_fresh (s : State) (k : Nat) (c : Cause) : (s.interrupt k c).fresh = s.fresh := rfl
@[simp] theorem interrupt_cycle (s : State) (k : Nat) (c : Cause) : (s.interrupt k c).cycle = s.cycle := rfl
@[simp] theorem interrupt_seq (s : State) (k : Nat) (c : Cause) : (s.interrupt k c).seq = s.seq := rfl
@[simp] theorem interrupt_dstate (s : State) (k : Nat) (c : Cause) : (s.interrupt k c).dstate = s.dstate := rfl
@[simp] theorem interrupt_lastG3 (s : State) (k : Nat) (c : Cause) : (s.interrupt k c).lastG3 = s.lastG3 := rfl
@[simp] theorem interrupt_cap (s : State) (k : Nat) (c : Cause) : (s.interrupt k c).cap = s.cap := rfl
@[simp] theorem interrupt_capNext (s : State) (k : Nat) (c : Cause) : (s.interrupt k c).capNext = s.capNext := rfl
@[simp] theorem interrupt_lostCyc (s : State) (k : Nat) (c : Cause) : (s.interrupt k c).lostCyc = s.lostCyc := rfl
@[simp] theorem interrupt_lostAt (s : State) (k : Nat) (c : Cause) : (s.interrupt k c).lostAt = s.lostAt := rfl
@[simp] theorem interrupt_rails (s : State) (k : Nat) (c : Cause) : (s.interrupt k c).rails = s.rails := rfl
@[simp] theorem interrupt_held (s : State) (k : Nat) (c : Cause) : (s.interrupt k c).held = s.held := rfl
@[simp] theorem interrupt_fuses (s : State) (k : Nat) (c : Cause) : (s.interrupt k c).fuses = s.fuses := rfl
@[simp] theorem interrupt_boot (s : State) (k : Nat) (c : Cause) : (s.interrupt k c).boot = s.boot := rfl
@[simp] theorem interrupt_kregs (s : State) (k : Nat) (c : Cause) : (s.interrupt k c).kregs = s.kregs := rfl
@[simp] theorem interrupt_mem (s : State) (k : Nat) (c : Cause) : (s.interrupt k c).mem = s.mem := rfl
@[simp] theorem interrupt_poison (s : State) (k : Nat) (c : Cause) : (s.interrupt k c).poison = s.poison := rfl
@[simp] theorem interrupt_tenants (s : State) (k : Nat) (c : Cause) : (s.interrupt k c).tenants = s.tenants := rfl
@[simp] theorem interrupt_tiles (s : State) (k : Nat) (c : Cause) : (s.interrupt k c).tiles = s.tiles := rfl
@[simp] theorem interrupt_clusters (s : State) (k : Nat) (c : Cause) : (s.interrupt k c).clusters = s.clusters := rfl
@[simp] theorem interrupt_dies (s : State) (k : Nat) (c : Cause) : (s.interrupt k c).dies = s.dies := rfl
@[simp] theorem interrupt_links (s : State) (k : Nat) (c : Cause) : (s.interrupt k c).links = s.links := rfl
@[simp] theorem interrupt_ports (s : State) (k : Nat) (c : Cause) : (s.interrupt k c).ports = s.ports := rfl
@[simp] theorem interrupt_eths (s : State) (k : Nat) (c : Cause) : (s.interrupt k c).eths = s.eths := rfl
@[simp] theorem interrupt_health (s : State) (k : Nat) (c : Cause) : (s.interrupt k c).health = s.health := rfl
@[simp] theorem interrupt_wv (s : State) (k : Nat) (c : Cause) : (s.interrupt k c).wv = s.wv := rfl
@[simp] theorem interrupt_graphs (s : State) (k : Nat) (c : Cause) : (s.interrupt k c).graphs = s.graphs := rfl
@[simp] theorem interrupt_ready (s : State) (k : Nat) (c : Cause) : (s.interrupt k c).ready = s.ready := rfl
@[simp] theorem interrupt_ages (s : State) (k : Nat) (c : Cause) : (s.interrupt k c).ages = s.ages := rfl
@[simp] theorem interrupt_waitFrom (s : State) (k : Nat) (c : Cause) : (s.interrupt k c).waitFrom = s.waitFrom := rfl
@[simp] theorem interrupt_conts (s : State) (k : Nat) (c : Cause) : (s.interrupt k c).conts = s.conts := rfl
@[simp] theorem interrupt_frames (s : State) (k : Nat) (c : Cause) : (s.interrupt k c).frames = s.frames := rfl
@[simp] theorem interrupt_replies (s : State) (k : Nat) (c : Cause) : (s.interrupt k c).replies = s.replies := rfl
@[simp] theorem interrupt_sockets (s : State) (k : Nat) (c : Cause) : (s.interrupt k c).sockets = s.sockets := rfl
@[simp] theorem setThread_agenda (s : State) (u : UnitId) (x : Thread) : (s.setThread u x).agenda = s.agenda := by cases u <;> rfl
@[simp] theorem setThread_toIssue (s : State) (u : UnitId) (x : Thread) : (s.setThread u x).toIssue = s.toIssue := by cases u <;> rfl
@[simp] theorem setThread_cur (s : State) (u : UnitId) (x : Thread) : (s.setThread u x).cur = s.cur := by cases u <;> rfl
@[simp] theorem setThread_fresh (s : State) (u : UnitId) (x : Thread) : (s.setThread u x).fresh = s.fresh := by cases u <;> rfl
@[simp] theorem setThread_cycle (s : State) (u : UnitId) (x : Thread) : (s.setThread u x).cycle = s.cycle := by cases u <;> rfl
@[simp] theorem setThread_seq (s : State) (u : UnitId) (x : Thread) : (s.setThread u x).seq = s.seq := by cases u <;> rfl
@[simp] theorem setThread_dstate (s : State) (u : UnitId) (x : Thread) : (s.setThread u x).dstate = s.dstate := by cases u <;> rfl
@[simp] theorem setThread_lastG3 (s : State) (u : UnitId) (x : Thread) : (s.setThread u x).lastG3 = s.lastG3 := by cases u <;> rfl
@[simp] theorem setThread_cap (s : State) (u : UnitId) (x : Thread) : (s.setThread u x).cap = s.cap := by cases u <;> rfl
@[simp] theorem setThread_capNext (s : State) (u : UnitId) (x : Thread) : (s.setThread u x).capNext = s.capNext := by cases u <;> rfl
@[simp] theorem setThread_lostCyc (s : State) (u : UnitId) (x : Thread) : (s.setThread u x).lostCyc = s.lostCyc := by cases u <;> rfl
@[simp] theorem setThread_lostAt (s : State) (u : UnitId) (x : Thread) : (s.setThread u x).lostAt = s.lostAt := by cases u <;> rfl
@[simp] theorem setThread_rails (s : State) (u : UnitId) (x : Thread) : (s.setThread u x).rails = s.rails := by cases u <;> rfl
@[simp] theorem setThread_held (s : State) (u : UnitId) (x : Thread) : (s.setThread u x).held = s.held := by cases u <;> rfl
@[simp] theorem setThread_fuses (s : State) (u : UnitId) (x : Thread) : (s.setThread u x).fuses = s.fuses := by cases u <;> rfl
@[simp] theorem setThread_boot (s : State) (u : UnitId) (x : Thread) : (s.setThread u x).boot = s.boot := by cases u <;> rfl
@[simp] theorem setThread_kregs (s : State) (u : UnitId) (x : Thread) : (s.setThread u x).kregs = s.kregs := by cases u <;> rfl
@[simp] theorem setThread_mem (s : State) (u : UnitId) (x : Thread) : (s.setThread u x).mem = s.mem := by cases u <;> rfl
@[simp] theorem setThread_poison (s : State) (u : UnitId) (x : Thread) : (s.setThread u x).poison = s.poison := by cases u <;> rfl
@[simp] theorem setThread_tenants (s : State) (u : UnitId) (x : Thread) : (s.setThread u x).tenants = s.tenants := by cases u <;> rfl
@[simp] theorem setThread_clusters (s : State) (u : UnitId) (x : Thread) : (s.setThread u x).clusters = s.clusters := by cases u <;> rfl
@[simp] theorem setThread_dies (s : State) (u : UnitId) (x : Thread) : (s.setThread u x).dies = s.dies := by cases u <;> rfl
@[simp] theorem setThread_links (s : State) (u : UnitId) (x : Thread) : (s.setThread u x).links = s.links := by cases u <;> rfl
@[simp] theorem setThread_ports (s : State) (u : UnitId) (x : Thread) : (s.setThread u x).ports = s.ports := by cases u <;> rfl
@[simp] theorem setThread_eths (s : State) (u : UnitId) (x : Thread) : (s.setThread u x).eths = s.eths := by cases u <;> rfl
@[simp] theorem setThread_health (s : State) (u : UnitId) (x : Thread) : (s.setThread u x).health = s.health := by cases u <;> rfl
@[simp] theorem setThread_wv (s : State) (u : UnitId) (x : Thread) : (s.setThread u x).wv = s.wv := by cases u <;> rfl
@[simp] theorem setThread_graphs (s : State) (u : UnitId) (x : Thread) : (s.setThread u x).graphs = s.graphs := by cases u <;> rfl
@[simp] theorem setThread_ready (s : State) (u : UnitId) (x : Thread) : (s.setThread u x).ready = s.ready := by cases u <;> rfl
@[simp] theorem setThread_ages (s : State) (u : UnitId) (x : Thread) : (s.setThread u x).ages = s.ages := by cases u <;> rfl
@[simp] theorem setThread_waitFrom (s : State) (u : UnitId) (x : Thread) : (s.setThread u x).waitFrom = s.waitFrom := by cases u <;> rfl
@[simp] theorem setThread_conts (s : State) (u : UnitId) (x : Thread) : (s.setThread u x).conts = s.conts := by cases u <;> rfl
@[simp] theorem setThread_frames (s : State) (u : UnitId) (x : Thread) : (s.setThread u x).frames = s.frames := by cases u <;> rfl
@[simp] theorem setThread_replies (s : State) (u : UnitId) (x : Thread) : (s.setThread u x).replies = s.replies := by cases u <;> rfl
@[simp] theorem setThread_sockets (s : State) (u : UnitId) (x : Thread) : (s.setThread u x).sockets = s.sockets := by cases u <;> rfl
@[simp] theorem modThread_agenda (s : State) (u : UnitId) (f : Thread → Thread) : (s.modThread u f).agenda = s.agenda := by cases u <;> rfl
@[simp] theorem modThread_toIssue (s : State) (u : UnitId) (f : Thread → Thread) : (s.modThread u f).toIssue = s.toIssue := by cases u <;> rfl
@[simp] theorem modThread_cur (s : State) (u : UnitId) (f : Thread → Thread) : (s.modThread u f).cur = s.cur := by cases u <;> rfl
@[simp] theorem modThread_fresh (s : State) (u : UnitId) (f : Thread → Thread) : (s.modThread u f).fresh = s.fresh := by cases u <;> rfl
@[simp] theorem modThread_cycle (s : State) (u : UnitId) (f : Thread → Thread) : (s.modThread u f).cycle = s.cycle := by cases u <;> rfl
@[simp] theorem modThread_seq (s : State) (u : UnitId) (f : Thread → Thread) : (s.modThread u f).seq = s.seq := by cases u <;> rfl
@[simp] theorem modThread_dstate (s : State) (u : UnitId) (f : Thread → Thread) : (s.modThread u f).dstate = s.dstate := by cases u <;> rfl
@[simp] theorem modThread_lastG3 (s : State) (u : UnitId) (f : Thread → Thread) : (s.modThread u f).lastG3 = s.lastG3 := by cases u <;> rfl
@[simp] theorem modThread_cap (s : State) (u : UnitId) (f : Thread → Thread) : (s.modThread u f).cap = s.cap := by cases u <;> rfl
@[simp] theorem modThread_capNext (s : State) (u : UnitId) (f : Thread → Thread) : (s.modThread u f).capNext = s.capNext := by cases u <;> rfl
@[simp] theorem modThread_lostCyc (s : State) (u : UnitId) (f : Thread → Thread) : (s.modThread u f).lostCyc = s.lostCyc := by cases u <;> rfl
@[simp] theorem modThread_lostAt (s : State) (u : UnitId) (f : Thread → Thread) : (s.modThread u f).lostAt = s.lostAt := by cases u <;> rfl
@[simp] theorem modThread_rails (s : State) (u : UnitId) (f : Thread → Thread) : (s.modThread u f).rails = s.rails := by cases u <;> rfl
@[simp] theorem modThread_held (s : State) (u : UnitId) (f : Thread → Thread) : (s.modThread u f).held = s.held := by cases u <;> rfl
@[simp] theorem modThread_fuses (s : State) (u : UnitId) (f : Thread → Thread) : (s.modThread u f).fuses = s.fuses := by cases u <;> rfl
@[simp] theorem modThread_boot (s : State) (u : UnitId) (f : Thread → Thread) : (s.modThread u f).boot = s.boot := by cases u <;> rfl
@[simp] theorem modThread_kregs (s : State) (u : UnitId) (f : Thread → Thread) : (s.modThread u f).kregs = s.kregs := by cases u <;> rfl
@[simp] theorem modThread_mem (s : State) (u : UnitId) (f : Thread → Thread) : (s.modThread u f).mem = s.mem := by cases u <;> rfl
@[simp] theorem modThread_poison (s : State) (u : UnitId) (f : Thread → Thread) : (s.modThread u f).poison = s.poison := by cases u <;> rfl
@[simp] theorem modThread_tenants (s : State) (u : UnitId) (f : Thread → Thread) : (s.modThread u f).tenants = s.tenants := by cases u <;> rfl
@[simp] theorem modThread_clusters (s : State) (u : UnitId) (f : Thread → Thread) : (s.modThread u f).clusters = s.clusters := by cases u <;> rfl
@[simp] theorem modThread_dies (s : State) (u : UnitId) (f : Thread → Thread) : (s.modThread u f).dies = s.dies := by cases u <;> rfl
@[simp] theorem modThread_links (s : State) (u : UnitId) (f : Thread → Thread) : (s.modThread u f).links = s.links := by cases u <;> rfl
@[simp] theorem modThread_ports (s : State) (u : UnitId) (f : Thread → Thread) : (s.modThread u f).ports = s.ports := by cases u <;> rfl
@[simp] theorem modThread_eths (s : State) (u : UnitId) (f : Thread → Thread) : (s.modThread u f).eths = s.eths := by cases u <;> rfl
@[simp] theorem modThread_health (s : State) (u : UnitId) (f : Thread → Thread) : (s.modThread u f).health = s.health := by cases u <;> rfl
@[simp] theorem modThread_wv (s : State) (u : UnitId) (f : Thread → Thread) : (s.modThread u f).wv = s.wv := by cases u <;> rfl
@[simp] theorem modThread_graphs (s : State) (u : UnitId) (f : Thread → Thread) : (s.modThread u f).graphs = s.graphs := by cases u <;> rfl
@[simp] theorem modThread_ready (s : State) (u : UnitId) (f : Thread → Thread) : (s.modThread u f).ready = s.ready := by cases u <;> rfl
@[simp] theorem modThread_ages (s : State) (u : UnitId) (f : Thread → Thread) : (s.modThread u f).ages = s.ages := by cases u <;> rfl
@[simp] theorem modThread_waitFrom (s : State) (u : UnitId) (f : Thread → Thread) : (s.modThread u f).waitFrom = s.waitFrom := by cases u <;> rfl
@[simp] theorem modThread_conts (s : State) (u : UnitId) (f : Thread → Thread) : (s.modThread u f).conts = s.conts := by cases u <;> rfl
@[simp] theorem modThread_frames (s : State) (u : UnitId) (f : Thread → Thread) : (s.modThread u f).frames = s.frames := by cases u <;> rfl
@[simp] theorem modThread_replies (s : State) (u : UnitId) (f : Thread → Thread) : (s.modThread u f).replies = s.replies := by cases u <;> rfl
@[simp] theorem modThread_sockets (s : State) (u : UnitId) (f : Thread → Thread) : (s.modThread u f).sockets = s.sockets := by cases u <;> rfl
@[simp] theorem result_agenda (s : State) (u : UnitId) (d : Dest) (v m : VReg) (l : Nat) (g : BitVec 6) : (s.result u d v m l g).agenda = s.agenda := by cases u <;> rfl
@[simp] theorem result_toIssue (s : State) (u : UnitId) (d : Dest) (v m : VReg) (l : Nat) (g : BitVec 6) : (s.result u d v m l g).toIssue = s.toIssue := by cases u <;> rfl
@[simp] theorem result_cur (s : State) (u : UnitId) (d : Dest) (v m : VReg) (l : Nat) (g : BitVec 6) : (s.result u d v m l g).cur = s.cur := by cases u <;> rfl
@[simp] theorem result_fresh (s : State) (u : UnitId) (d : Dest) (v m : VReg) (l : Nat) (g : BitVec 6) : (s.result u d v m l g).fresh = s.fresh := by cases u <;> rfl
@[simp] theorem result_cycle (s : State) (u : UnitId) (d : Dest) (v m : VReg) (l : Nat) (g : BitVec 6) : (s.result u d v m l g).cycle = s.cycle := by cases u <;> rfl
@[simp] theorem result_seq (s : State) (u : UnitId) (d : Dest) (v m : VReg) (l : Nat) (g : BitVec 6) : (s.result u d v m l g).seq = s.seq := by cases u <;> rfl
@[simp] theorem result_dstate (s : State) (u : UnitId) (d : Dest) (v m : VReg) (l : Nat) (g : BitVec 6) : (s.result u d v m l g).dstate = s.dstate := by cases u <;> rfl
@[simp] theorem result_lastG3 (s : State) (u : UnitId) (d : Dest) (v m : VReg) (l : Nat) (g : BitVec 6) : (s.result u d v m l g).lastG3 = s.lastG3 := by cases u <;> rfl
@[simp] theorem result_cap (s : State) (u : UnitId) (d : Dest) (v m : VReg) (l : Nat) (g : BitVec 6) : (s.result u d v m l g).cap = s.cap := by cases u <;> rfl
@[simp] theorem result_capNext (s : State) (u : UnitId) (d : Dest) (v m : VReg) (l : Nat) (g : BitVec 6) : (s.result u d v m l g).capNext = s.capNext := by cases u <;> rfl
@[simp] theorem result_lostCyc (s : State) (u : UnitId) (d : Dest) (v m : VReg) (l : Nat) (g : BitVec 6) : (s.result u d v m l g).lostCyc = s.lostCyc := by cases u <;> rfl
@[simp] theorem result_lostAt (s : State) (u : UnitId) (d : Dest) (v m : VReg) (l : Nat) (g : BitVec 6) : (s.result u d v m l g).lostAt = s.lostAt := by cases u <;> rfl
@[simp] theorem result_rails (s : State) (u : UnitId) (d : Dest) (v m : VReg) (l : Nat) (g : BitVec 6) : (s.result u d v m l g).rails = s.rails := by cases u <;> rfl
@[simp] theorem result_held (s : State) (u : UnitId) (d : Dest) (v m : VReg) (l : Nat) (g : BitVec 6) : (s.result u d v m l g).held = s.held := by cases u <;> rfl
@[simp] theorem result_fuses (s : State) (u : UnitId) (d : Dest) (v m : VReg) (l : Nat) (g : BitVec 6) : (s.result u d v m l g).fuses = s.fuses := by cases u <;> rfl
@[simp] theorem result_boot (s : State) (u : UnitId) (d : Dest) (v m : VReg) (l : Nat) (g : BitVec 6) : (s.result u d v m l g).boot = s.boot := by cases u <;> rfl
@[simp] theorem result_kregs (s : State) (u : UnitId) (d : Dest) (v m : VReg) (l : Nat) (g : BitVec 6) : (s.result u d v m l g).kregs = s.kregs := by cases u <;> rfl
@[simp] theorem result_mem (s : State) (u : UnitId) (d : Dest) (v m : VReg) (l : Nat) (g : BitVec 6) : (s.result u d v m l g).mem = s.mem := by cases u <;> rfl
@[simp] theorem result_poison (s : State) (u : UnitId) (d : Dest) (v m : VReg) (l : Nat) (g : BitVec 6) : (s.result u d v m l g).poison = s.poison := by cases u <;> rfl
@[simp] theorem result_tenants (s : State) (u : UnitId) (d : Dest) (v m : VReg) (l : Nat) (g : BitVec 6) : (s.result u d v m l g).tenants = s.tenants := by cases u <;> rfl
@[simp] theorem result_clusters (s : State) (u : UnitId) (d : Dest) (v m : VReg) (l : Nat) (g : BitVec 6) : (s.result u d v m l g).clusters = s.clusters := by cases u <;> rfl
@[simp] theorem result_dies (s : State) (u : UnitId) (d : Dest) (v m : VReg) (l : Nat) (g : BitVec 6) : (s.result u d v m l g).dies = s.dies := by cases u <;> rfl
@[simp] theorem result_links (s : State) (u : UnitId) (d : Dest) (v m : VReg) (l : Nat) (g : BitVec 6) : (s.result u d v m l g).links = s.links := by cases u <;> rfl
@[simp] theorem result_ports (s : State) (u : UnitId) (d : Dest) (v m : VReg) (l : Nat) (g : BitVec 6) : (s.result u d v m l g).ports = s.ports := by cases u <;> rfl
@[simp] theorem result_eths (s : State) (u : UnitId) (d : Dest) (v m : VReg) (l : Nat) (g : BitVec 6) : (s.result u d v m l g).eths = s.eths := by cases u <;> rfl
@[simp] theorem result_health (s : State) (u : UnitId) (d : Dest) (v m : VReg) (l : Nat) (g : BitVec 6) : (s.result u d v m l g).health = s.health := by cases u <;> rfl
@[simp] theorem result_wv (s : State) (u : UnitId) (d : Dest) (v m : VReg) (l : Nat) (g : BitVec 6) : (s.result u d v m l g).wv = s.wv := by cases u <;> rfl
@[simp] theorem result_graphs (s : State) (u : UnitId) (d : Dest) (v m : VReg) (l : Nat) (g : BitVec 6) : (s.result u d v m l g).graphs = s.graphs := by cases u <;> rfl
@[simp] theorem result_ready (s : State) (u : UnitId) (d : Dest) (v m : VReg) (l : Nat) (g : BitVec 6) : (s.result u d v m l g).ready = s.ready := by cases u <;> rfl
@[simp] theorem result_ages (s : State) (u : UnitId) (d : Dest) (v m : VReg) (l : Nat) (g : BitVec 6) : (s.result u d v m l g).ages = s.ages := by cases u <;> rfl
@[simp] theorem result_waitFrom (s : State) (u : UnitId) (d : Dest) (v m : VReg) (l : Nat) (g : BitVec 6) : (s.result u d v m l g).waitFrom = s.waitFrom := by cases u <;> rfl
@[simp] theorem result_conts (s : State) (u : UnitId) (d : Dest) (v m : VReg) (l : Nat) (g : BitVec 6) : (s.result u d v m l g).conts = s.conts := by cases u <;> rfl
@[simp] theorem result_frames (s : State) (u : UnitId) (d : Dest) (v m : VReg) (l : Nat) (g : BitVec 6) : (s.result u d v m l g).frames = s.frames := by cases u <;> rfl
@[simp] theorem result_replies (s : State) (u : UnitId) (d : Dest) (v m : VReg) (l : Nat) (g : BitVec 6) : (s.result u d v m l g).replies = s.replies := by cases u <;> rfl
@[simp] theorem result_sockets (s : State) (u : UnitId) (d : Dest) (v m : VReg) (l : Nat) (g : BitVec 6) : (s.result u d v m l g).sockets = s.sockets := by cases u <;> rfl
@[simp] theorem result64_agenda (s : State) (u : UnitId) (d : Dest) (v : W64) (l : Nat) : (s.result64 u d v l).agenda = s.agenda := by cases u <;> rfl
@[simp] theorem result64_toIssue (s : State) (u : UnitId) (d : Dest) (v : W64) (l : Nat) : (s.result64 u d v l).toIssue = s.toIssue := by cases u <;> rfl
@[simp] theorem result64_cur (s : State) (u : UnitId) (d : Dest) (v : W64) (l : Nat) : (s.result64 u d v l).cur = s.cur := by cases u <;> rfl
@[simp] theorem result64_fresh (s : State) (u : UnitId) (d : Dest) (v : W64) (l : Nat) : (s.result64 u d v l).fresh = s.fresh := by cases u <;> rfl
@[simp] theorem result64_cycle (s : State) (u : UnitId) (d : Dest) (v : W64) (l : Nat) : (s.result64 u d v l).cycle = s.cycle := by cases u <;> rfl
@[simp] theorem result64_seq (s : State) (u : UnitId) (d : Dest) (v : W64) (l : Nat) : (s.result64 u d v l).seq = s.seq := by cases u <;> rfl
@[simp] theorem result64_dstate (s : State) (u : UnitId) (d : Dest) (v : W64) (l : Nat) : (s.result64 u d v l).dstate = s.dstate := by cases u <;> rfl
@[simp] theorem result64_lastG3 (s : State) (u : UnitId) (d : Dest) (v : W64) (l : Nat) : (s.result64 u d v l).lastG3 = s.lastG3 := by cases u <;> rfl
@[simp] theorem result64_cap (s : State) (u : UnitId) (d : Dest) (v : W64) (l : Nat) : (s.result64 u d v l).cap = s.cap := by cases u <;> rfl
@[simp] theorem result64_capNext (s : State) (u : UnitId) (d : Dest) (v : W64) (l : Nat) : (s.result64 u d v l).capNext = s.capNext := by cases u <;> rfl
@[simp] theorem result64_lostCyc (s : State) (u : UnitId) (d : Dest) (v : W64) (l : Nat) : (s.result64 u d v l).lostCyc = s.lostCyc := by cases u <;> rfl
@[simp] theorem result64_lostAt (s : State) (u : UnitId) (d : Dest) (v : W64) (l : Nat) : (s.result64 u d v l).lostAt = s.lostAt := by cases u <;> rfl
@[simp] theorem result64_rails (s : State) (u : UnitId) (d : Dest) (v : W64) (l : Nat) : (s.result64 u d v l).rails = s.rails := by cases u <;> rfl
@[simp] theorem result64_held (s : State) (u : UnitId) (d : Dest) (v : W64) (l : Nat) : (s.result64 u d v l).held = s.held := by cases u <;> rfl
@[simp] theorem result64_fuses (s : State) (u : UnitId) (d : Dest) (v : W64) (l : Nat) : (s.result64 u d v l).fuses = s.fuses := by cases u <;> rfl
@[simp] theorem result64_boot (s : State) (u : UnitId) (d : Dest) (v : W64) (l : Nat) : (s.result64 u d v l).boot = s.boot := by cases u <;> rfl
@[simp] theorem result64_kregs (s : State) (u : UnitId) (d : Dest) (v : W64) (l : Nat) : (s.result64 u d v l).kregs = s.kregs := by cases u <;> rfl
@[simp] theorem result64_mem (s : State) (u : UnitId) (d : Dest) (v : W64) (l : Nat) : (s.result64 u d v l).mem = s.mem := by cases u <;> rfl
@[simp] theorem result64_poison (s : State) (u : UnitId) (d : Dest) (v : W64) (l : Nat) : (s.result64 u d v l).poison = s.poison := by cases u <;> rfl
@[simp] theorem result64_tenants (s : State) (u : UnitId) (d : Dest) (v : W64) (l : Nat) : (s.result64 u d v l).tenants = s.tenants := by cases u <;> rfl
@[simp] theorem result64_clusters (s : State) (u : UnitId) (d : Dest) (v : W64) (l : Nat) : (s.result64 u d v l).clusters = s.clusters := by cases u <;> rfl
@[simp] theorem result64_dies (s : State) (u : UnitId) (d : Dest) (v : W64) (l : Nat) : (s.result64 u d v l).dies = s.dies := by cases u <;> rfl
@[simp] theorem result64_links (s : State) (u : UnitId) (d : Dest) (v : W64) (l : Nat) : (s.result64 u d v l).links = s.links := by cases u <;> rfl
@[simp] theorem result64_ports (s : State) (u : UnitId) (d : Dest) (v : W64) (l : Nat) : (s.result64 u d v l).ports = s.ports := by cases u <;> rfl
@[simp] theorem result64_eths (s : State) (u : UnitId) (d : Dest) (v : W64) (l : Nat) : (s.result64 u d v l).eths = s.eths := by cases u <;> rfl
@[simp] theorem result64_health (s : State) (u : UnitId) (d : Dest) (v : W64) (l : Nat) : (s.result64 u d v l).health = s.health := by cases u <;> rfl
@[simp] theorem result64_wv (s : State) (u : UnitId) (d : Dest) (v : W64) (l : Nat) : (s.result64 u d v l).wv = s.wv := by cases u <;> rfl
@[simp] theorem result64_graphs (s : State) (u : UnitId) (d : Dest) (v : W64) (l : Nat) : (s.result64 u d v l).graphs = s.graphs := by cases u <;> rfl
@[simp] theorem result64_ready (s : State) (u : UnitId) (d : Dest) (v : W64) (l : Nat) : (s.result64 u d v l).ready = s.ready := by cases u <;> rfl
@[simp] theorem result64_ages (s : State) (u : UnitId) (d : Dest) (v : W64) (l : Nat) : (s.result64 u d v l).ages = s.ages := by cases u <;> rfl
@[simp] theorem result64_waitFrom (s : State) (u : UnitId) (d : Dest) (v : W64) (l : Nat) : (s.result64 u d v l).waitFrom = s.waitFrom := by cases u <;> rfl
@[simp] theorem result64_conts (s : State) (u : UnitId) (d : Dest) (v : W64) (l : Nat) : (s.result64 u d v l).conts = s.conts := by cases u <;> rfl
@[simp] theorem result64_frames (s : State) (u : UnitId) (d : Dest) (v : W64) (l : Nat) : (s.result64 u d v l).frames = s.frames := by cases u <;> rfl
@[simp] theorem result64_replies (s : State) (u : UnitId) (d : Dest) (v : W64) (l : Nat) : (s.result64 u d v l).replies = s.replies := by cases u <;> rfl
@[simp] theorem result64_sockets (s : State) (u : UnitId) (d : Dest) (v : W64) (l : Nat) : (s.result64 u d v l).sockets = s.sockets := by cases u <;> rfl

/-! ## Units -/

@[simp] theorem tile_setTile (s : State) (t : Nat) (x : Tile) : (s.setTile t x).tile t = x := mget_mput_same _ _ _ _
theorem tile_setTile_ne (s : State) (t u : Nat) (x : Tile) (h : t ≠ u) : (s.setTile t x).tile u = s.tile u := mget_mput_ne _ _ _ _ _ h
@[simp] theorem tile_modTile (s : State) (t : Nat) (f : Tile → Tile) : (s.modTile t f).tile t = f (s.tile t) := mget_mput_same _ _ _ _
theorem tile_modTile_ne (s : State) (t u : Nat) (f : Tile → Tile) (h : t ≠ u) : (s.modTile t f).tile u = s.tile u := mget_mput_ne _ _ _ _ _ h
@[simp] theorem core_setCore (s : State) (k : Nat) (x : Core) : (s.setCore k x).core k = x := mget_mput_same _ _ _ _
theorem core_setCore_ne (s : State) (k j : Nat) (x : Core) (h : k ≠ j) : (s.setCore k x).core j = s.core j := mget_mput_ne _ _ _ _ _ h
@[simp] theorem core_modCore (s : State) (k : Nat) (f : Core → Core) : (s.modCore k f).core k = f (s.core k) := mget_mput_same _ _ _ _
theorem core_modCore_ne (s : State) (k j : Nat) (f : Core → Core) (h : k ≠ j) : (s.modCore k f).core j = s.core j := mget_mput_ne _ _ _ _ _ h
@[simp] theorem die_modDie (s : State) (d : Nat) (f : Die → Die) : (s.modDie d f).die d = f (s.die d) := mget_mput_same _ _ _ _
theorem die_modDie_ne (s : State) (d e : Nat) (f : Die → Die) (h : d ≠ e) : (s.modDie d f).die e = s.die e := mget_mput_ne _ _ _ _ _ h
@[simp] theorem cluster_modCluster (s : State) (n : Nat) (f : Cluster → Cluster) : (s.modCluster n f).cluster n = f (s.cluster n) :=
  mget_mput_same _ _ _ _
@[simp] theorem tenant_modTenant (s : State) (n : Nat) (f : Tenant → Tenant) : (s.modTenant n f).tenant n = f (s.tenant n) := mget_mput_same _ _ _ _
@[simp] theorem port_modPort (s : State) (n : Nat) (f : Port → Port) : (s.modPort n f).port n = f (s.port n) := mget_mput_same _ _ _ _
theorem port_modPort_ne (s : State) (n m : Nat) (f : Port → Port) (h : n ≠ m) : (s.modPort n f).port m = s.port m := mget_mput_ne _ _ _ _ _ h
@[simp] theorem link_modLink (s : State) (n : Nat) (f : MemLink → MemLink) : (s.modLink n f).link n = f (s.link n) := mget_mput_same _ _ _ _
theorem link_modLink_ne (s : State) (n m : Nat) (f : MemLink → MemLink) (h : n ≠ m) : (s.modLink n f).link m = s.link m :=
  mget_mput_ne _ _ _ _ _ h

/-- A context is named once: number 0 is one, every other the second. -/
theorem ctx_setCtx (s : State) (t c : Nat) (y : Ctx) : (s.setCtx t c y).ctx t c = y := by
  simp only [State.ctx, State.setCtx, tile_setTile]
  by_cases h : c = 0 <;> simp [Tile.setCtx, Tile.ctx, h]
theorem ctx_setCtx_ne (s : State) (t c u d : Nat) (y : Ctx) (h : t ≠ u) : (s.setCtx t c y).ctx u d = s.ctx u d := by
  simp only [State.ctx, State.setCtx, tile_setTile_ne s t u _ h]
theorem ctx_setCtx_other (s : State) (t c d : Nat) (y : Ctx) (h : (c = 0) ≠ (d = 0)) : (s.setCtx t c y).ctx t d = s.ctx t d := by
  simp only [State.ctx, State.setCtx, tile_setTile]
  by_cases hc : c = 0 <;> by_cases hd : d = 0 <;> simp_all [Tile.setCtx, Tile.ctx]
@[simp] theorem ctx_modCtx (s : State) (t c : Nat) (f : Ctx → Ctx) : (s.modCtx t c f).ctx t c = f (s.ctx t c) := ctx_setCtx _ _ _ _
theorem ctx_modCtx_ne (s : State) (t c u d : Nat) (f : Ctx → Ctx) (h : t ≠ u) : (s.modCtx t c f).ctx u d = s.ctx u d := ctx_setCtx_ne _ _ _ _ _ _ h
theorem ctx_modCtx_other (s : State) (t c d : Nat) (f : Ctx → Ctx) (h : (c = 0) ≠ (d = 0)) : (s.modCtx t c f).ctx t d = s.ctx t d :=
  ctx_setCtx_other _ _ _ _ _ h

/-- The thread of a unit after a change of it. -/
@[simp] theorem thread_modThread (s : State) (u : UnitId) (f : Thread → Thread) : (s.modThread u f).thread u = f (s.thread u) := by
  cases u with
  | ctx t c => simp [State.modThread, State.setThread, State.thread]
  | core k => simp [State.modThread, State.setThread, State.thread]

/-- A result adds one pending entry to its unit's thread (R120). -/
theorem thread_result (s : State) (u : UnitId) (d : Dest) (v m : VReg) (l : Nat) (g : BitVec 6) :
    (s.result u d v m l g).thread u = (s.thread u).pendAt d v m l g := thread_modThread _ _ _

end Sys2Proof.Machine
end

