-- ==== Sys2Proof/Laws/Ops.lean ====
section
/-! SUPPORT. What the shared operations leave: for each operation and each field of State that it does not write, one lemma; and what logs, events
and changes of device state do to the fields that they write. -/

set_option Elab.async false

namespace Sys2Proof.Machine

/-- A fold whose step keeps a reading keeps it. -/
theorem foldl_keeps {α β γ : Type} (f : α → β → α) (g : α → γ) (h : ∀ a b, g (f a b) = g a) : ∀ (l : List β) (a : α), g (l.foldl f a) = g a
  | [], _ => rfl
  | b :: l, a => (foldl_keeps f g h l (f a b)).trans (h a b)

/-- A fold whose step keeps a property keeps it. -/
theorem foldl_inv {α β : Type} (f : α → β → α) (P : α → Prop) (h : ∀ a b, P a → P (f a b)) : ∀ (l : List β) (a : α), P a → P (l.foldl f a)
  | [], _, ha => ha
  | b :: l, a, ha => foldl_inv f P h l (f a b) (h a b ha)


@[simp] theorem memWrite_agenda (s : State) (pa : Nat) (l : List Byte) : (s.memWrite pa l).agenda = s.agenda := rfl
@[simp] theorem memWrite_toIssue (s : State) (pa : Nat) (l : List Byte) : (s.memWrite pa l).toIssue = s.toIssue := rfl
@[simp] theorem memWrite_cur (s : State) (pa : Nat) (l : List Byte) : (s.memWrite pa l).cur = s.cur := rfl
@[simp] theorem memWrite_fresh (s : State) (pa : Nat) (l : List Byte) : (s.memWrite pa l).fresh = s.fresh := rfl
@[simp] theorem memWrite_cycle (s : State) (pa : Nat) (l : List Byte) : (s.memWrite pa l).cycle = s.cycle := rfl
@[simp] theorem memWrite_seq (s : State) (pa : Nat) (l : List Byte) : (s.memWrite pa l).seq = s.seq := rfl
@[simp] theorem memWrite_dstate (s : State) (pa : Nat) (l : List Byte) : (s.memWrite pa l).dstate = s.dstate := rfl
@[simp] theorem memWrite_lastG3 (s : State) (pa : Nat) (l : List Byte) : (s.memWrite pa l).lastG3 = s.lastG3 := rfl
@[simp] theorem memWrite_cap (s : State) (pa : Nat) (l : List Byte) : (s.memWrite pa l).cap = s.cap := rfl
@[simp] theorem memWrite_capNext (s : State) (pa : Nat) (l : List Byte) : (s.memWrite pa l).capNext = s.capNext := rfl
@[simp] theorem memWrite_lostCyc (s : State) (pa : Nat) (l : List Byte) : (s.memWrite pa l).lostCyc = s.lostCyc := rfl
@[simp] theorem memWrite_lostAt (s : State) (pa : Nat) (l : List Byte) : (s.memWrite pa l).lostAt = s.lostAt := rfl
@[simp] theorem memWrite_rails (s : State) (pa : Nat) (l : List Byte) : (s.memWrite pa l).rails = s.rails := rfl
@[simp] theorem memWrite_held (s : State) (pa : Nat) (l : List Byte) : (s.memWrite pa l).held = s.held := rfl
@[simp] theorem memWrite_fuses (s : State) (pa : Nat) (l : List Byte) : (s.memWrite pa l).fuses = s.fuses := rfl
@[simp] theorem memWrite_boot (s : State) (pa : Nat) (l : List Byte) : (s.memWrite pa l).boot = s.boot := rfl
@[simp] theorem memWrite_kregs (s : State) (pa : Nat) (l : List Byte) : (s.memWrite pa l).kregs = s.kregs := rfl
@[simp] theorem memWrite_tenants (s : State) (pa : Nat) (l : List Byte) : (s.memWrite pa l).tenants = s.tenants := rfl
@[simp] theorem memWrite_tiles (s : State) (pa : Nat) (l : List Byte) : (s.memWrite pa l).tiles = s.tiles := rfl
@[simp] theorem memWrite_clusters (s : State) (pa : Nat) (l : List Byte) : (s.memWrite pa l).clusters = s.clusters := rfl
@[simp] theorem memWrite_dies (s : State) (pa : Nat) (l : List Byte) : (s.memWrite pa l).dies = s.dies := rfl
@[simp] theorem memWrite_cores (s : State) (pa : Nat) (l : List Byte) : (s.memWrite pa l).cores = s.cores := rfl
@[simp] theorem memWrite_links (s : State) (pa : Nat) (l : List Byte) : (s.memWrite pa l).links = s.links := rfl
@[simp] theorem memWrite_ports (s : State) (pa : Nat) (l : List Byte) : (s.memWrite pa l).ports = s.ports := rfl
@[simp] theorem memWrite_eths (s : State) (pa : Nat) (l : List Byte) : (s.memWrite pa l).eths = s.eths := rfl
@[simp] theorem memWrite_health (s : State) (pa : Nat) (l : List Byte) : (s.memWrite pa l).health = s.health := rfl
@[simp] theorem memWrite_wv (s : State) (pa : Nat) (l : List Byte) : (s.memWrite pa l).wv = s.wv := rfl
@[simp] theorem memWrite_graphs (s : State) (pa : Nat) (l : List Byte) : (s.memWrite pa l).graphs = s.graphs := rfl
@[simp] theorem memWrite_ready (s : State) (pa : Nat) (l : List Byte) : (s.memWrite pa l).ready = s.ready := rfl
@[simp] theorem memWrite_ages (s : State) (pa : Nat) (l : List Byte) : (s.memWrite pa l).ages = s.ages := rfl
@[simp] theorem memWrite_waitFrom (s : State) (pa : Nat) (l : List Byte) : (s.memWrite pa l).waitFrom = s.waitFrom := rfl
@[simp] theorem memWrite_conts (s : State) (pa : Nat) (l : List Byte) : (s.memWrite pa l).conts = s.conts := rfl
@[simp] theorem memWrite_frames (s : State) (pa : Nat) (l : List Byte) : (s.memWrite pa l).frames = s.frames := rfl
@[simp] theorem memWrite_replies (s : State) (pa : Nat) (l : List Byte) : (s.memWrite pa l).replies = s.replies := rfl
@[simp] theorem memWrite_sockets (s : State) (pa : Nat) (l : List Byte) : (s.memWrite pa l).sockets = s.sockets := rfl

@[simp] theorem memPut_agenda (s : State) (pa n v : Nat) : (s.memPut pa n v).agenda = s.agenda := rfl
@[simp] theorem memPut_toIssue (s : State) (pa n v : Nat) : (s.memPut pa n v).toIssue = s.toIssue := rfl
@[simp] theorem memPut_cur (s : State) (pa n v : Nat) : (s.memPut pa n v).cur = s.cur := rfl
@[simp] theorem memPut_fresh (s : State) (pa n v : Nat) : (s.memPut pa n v).fresh = s.fresh := rfl
@[simp] theorem memPut_cycle (s : State) (pa n v : Nat) : (s.memPut pa n v).cycle = s.cycle := rfl
@[simp] theorem memPut_seq (s : State) (pa n v : Nat) : (s.memPut pa n v).seq = s.seq := rfl
@[simp] theorem memPut_dstate (s : State) (pa n v : Nat) : (s.memPut pa n v).dstate = s.dstate := rfl
@[simp] theorem memPut_lastG3 (s : State) (pa n v : Nat) : (s.memPut pa n v).lastG3 = s.lastG3 := rfl
@[simp] theorem memPut_cap (s : State) (pa n v : Nat) : (s.memPut pa n v).cap = s.cap := rfl
@[simp] theorem memPut_capNext (s : State) (pa n v : Nat) : (s.memPut pa n v).capNext = s.capNext := rfl
@[simp] theorem memPut_lostCyc (s : State) (pa n v : Nat) : (s.memPut pa n v).lostCyc = s.lostCyc := rfl
@[simp] theorem memPut_lostAt (s : State) (pa n v : Nat) : (s.memPut pa n v).lostAt = s.lostAt := rfl
@[simp] theorem memPut_rails (s : State) (pa n v : Nat) : (s.memPut pa n v).rails = s.rails := rfl
@[simp] theorem memPut_held (s : State) (pa n v : Nat) : (s.memPut pa n v).held = s.held := rfl
@[simp] theorem memPut_fuses (s : State) (pa n v : Nat) : (s.memPut pa n v).fuses = s.fuses := rfl
@[simp] theorem memPut_boot (s : State) (pa n v : Nat) : (s.memPut pa n v).boot = s.boot := rfl
@[simp] theorem memPut_kregs (s : State) (pa n v : Nat) : (s.memPut pa n v).kregs = s.kregs := rfl
@[simp] theorem memPut_tenants (s : State) (pa n v : Nat) : (s.memPut pa n v).tenants = s.tenants := rfl
@[simp] theorem memPut_tiles (s : State) (pa n v : Nat) : (s.memPut pa n v).tiles = s.tiles := rfl
@[simp] theorem memPut_clusters (s : State) (pa n v : Nat) : (s.memPut pa n v).clusters = s.clusters := rfl
@[simp] theorem memPut_dies (s : State) (pa n v : Nat) : (s.memPut pa n v).dies = s.dies := rfl
@[simp] theorem memPut_cores (s : State) (pa n v : Nat) : (s.memPut pa n v).cores = s.cores := rfl
@[simp] theorem memPut_links (s : State) (pa n v : Nat) : (s.memPut pa n v).links = s.links := rfl
@[simp] theorem memPut_ports (s : State) (pa n v : Nat) : (s.memPut pa n v).ports = s.ports := rfl
@[simp] theorem memPut_eths (s : State) (pa n v : Nat) : (s.memPut pa n v).eths = s.eths := rfl
@[simp] theorem memPut_health (s : State) (pa n v : Nat) : (s.memPut pa n v).health = s.health := rfl
@[simp] theorem memPut_wv (s : State) (pa n v : Nat) : (s.memPut pa n v).wv = s.wv := rfl
@[simp] theorem memPut_graphs (s : State) (pa n v : Nat) : (s.memPut pa n v).graphs = s.graphs := rfl
@[simp] theorem memPut_ready (s : State) (pa n v : Nat) : (s.memPut pa n v).ready = s.ready := rfl
@[simp] theorem memPut_ages (s : State) (pa n v : Nat) : (s.memPut pa n v).ages = s.ages := rfl
@[simp] theorem memPut_waitFrom (s : State) (pa n v : Nat) : (s.memPut pa n v).waitFrom = s.waitFrom := rfl
@[simp] theorem memPut_conts (s : State) (pa n v : Nat) : (s.memPut pa n v).conts = s.conts := rfl
@[simp] theorem memPut_frames (s : State) (pa n v : Nat) : (s.memPut pa n v).frames = s.frames := rfl
@[simp] theorem memPut_replies (s : State) (pa n v : Nat) : (s.memPut pa n v).replies = s.replies := rfl
@[simp] theorem memPut_sockets (s : State) (pa n v : Nat) : (s.memPut pa n v).sockets = s.sockets := rfl

@[simp] theorem memRegion_agenda (s : State) (pa n : Nat) (m : SMap Byte) : (s.memRegion pa n m).agenda = s.agenda := rfl
@[simp] theorem memRegion_toIssue (s : State) (pa n : Nat) (m : SMap Byte) : (s.memRegion pa n m).toIssue = s.toIssue := rfl
@[simp] theorem memRegion_cur (s : State) (pa n : Nat) (m : SMap Byte) : (s.memRegion pa n m).cur = s.cur := rfl
@[simp] theorem memRegion_fresh (s : State) (pa n : Nat) (m : SMap Byte) : (s.memRegion pa n m).fresh = s.fresh := rfl
@[simp] theorem memRegion_cycle (s : State) (pa n : Nat) (m : SMap Byte) : (s.memRegion pa n m).cycle = s.cycle := rfl
@[simp] theorem memRegion_seq (s : State) (pa n : Nat) (m : SMap Byte) : (s.memRegion pa n m).seq = s.seq := rfl
@[simp] theorem memRegion_dstate (s : State) (pa n : Nat) (m : SMap Byte) : (s.memRegion pa n m).dstate = s.dstate := rfl
@[simp] theorem memRegion_lastG3 (s : State) (pa n : Nat) (m : SMap Byte) : (s.memRegion pa n m).lastG3 = s.lastG3 := rfl
@[simp] theorem memRegion_cap (s : State) (pa n : Nat) (m : SMap Byte) : (s.memRegion pa n m).cap = s.cap := rfl
@[simp] theorem memRegion_capNext (s : State) (pa n : Nat) (m : SMap Byte) : (s.memRegion pa n m).capNext = s.capNext := rfl
@[simp] theorem memRegion_lostCyc (s : State) (pa n : Nat) (m : SMap Byte) : (s.memRegion pa n m).lostCyc = s.lostCyc := rfl
@[simp] theorem memRegion_lostAt (s : State) (pa n : Nat) (m : SMap Byte) : (s.memRegion pa n m).lostAt = s.lostAt := rfl
@[simp] theorem memRegion_rails (s : State) (pa n : Nat) (m : SMap Byte) : (s.memRegion pa n m).rails = s.rails := rfl
@[simp] theorem memRegion_held (s : State) (pa n : Nat) (m : SMap Byte) : (s.memRegion pa n m).held = s.held := rfl
@[simp] theorem memRegion_fuses (s : State) (pa n : Nat) (m : SMap Byte) : (s.memRegion pa n m).fuses = s.fuses := rfl
@[simp] theorem memRegion_boot (s : State) (pa n : Nat) (m : SMap Byte) : (s.memRegion pa n m).boot = s.boot := rfl
@[simp] theorem memRegion_kregs (s : State) (pa n : Nat) (m : SMap Byte) : (s.memRegion pa n m).kregs = s.kregs := rfl
@[simp] theorem memRegion_tenants (s : State) (pa n : Nat) (m : SMap Byte) : (s.memRegion pa n m).tenants = s.tenants := rfl
@[simp] theorem memRegion_tiles (s : State) (pa n : Nat) (m : SMap Byte) : (s.memRegion pa n m).tiles = s.tiles := rfl
@[simp] theorem memRegion_clusters (s : State) (pa n : Nat) (m : SMap Byte) : (s.memRegion pa n m).clusters = s.clusters := rfl
@[simp] theorem memRegion_dies (s : State) (pa n : Nat) (m : SMap Byte) : (s.memRegion pa n m).dies = s.dies := rfl
@[simp] theorem memRegion_cores (s : State) (pa n : Nat) (m : SMap Byte) : (s.memRegion pa n m).cores = s.cores := rfl
@[simp] theorem memRegion_links (s : State) (pa n : Nat) (m : SMap Byte) : (s.memRegion pa n m).links = s.links := rfl
@[simp] theorem memRegion_ports (s : State) (pa n : Nat) (m : SMap Byte) : (s.memRegion pa n m).ports = s.ports := rfl
@[simp] theorem memRegion_eths (s : State) (pa n : Nat) (m : SMap Byte) : (s.memRegion pa n m).eths = s.eths := rfl
@[simp] theorem memRegion_health (s : State) (pa n : Nat) (m : SMap Byte) : (s.memRegion pa n m).health = s.health := rfl
@[simp] theorem memRegion_wv (s : State) (pa n : Nat) (m : SMap Byte) : (s.memRegion pa n m).wv = s.wv := rfl
@[simp] theorem memRegion_graphs (s : State) (pa n : Nat) (m : SMap Byte) : (s.memRegion pa n m).graphs = s.graphs := rfl
@[simp] theorem memRegion_ready (s : State) (pa n : Nat) (m : SMap Byte) : (s.memRegion pa n m).ready = s.ready := rfl
@[simp] theorem memRegion_ages (s : State) (pa n : Nat) (m : SMap Byte) : (s.memRegion pa n m).ages = s.ages := rfl
@[simp] theorem memRegion_waitFrom (s : State) (pa n : Nat) (m : SMap Byte) : (s.memRegion pa n m).waitFrom = s.waitFrom := rfl
@[simp] theorem memRegion_conts (s : State) (pa n : Nat) (m : SMap Byte) : (s.memRegion pa n m).conts = s.conts := rfl
@[simp] theorem memRegion_frames (s : State) (pa n : Nat) (m : SMap Byte) : (s.memRegion pa n m).frames = s.frames := rfl
@[simp] theorem memRegion_replies (s : State) (pa n : Nat) (m : SMap Byte) : (s.memRegion pa n m).replies = s.replies := rfl
@[simp] theorem memRegion_sockets (s : State) (pa n : Nat) (m : SMap Byte) : (s.memRegion pa n m).sockets = s.sockets := rfl

@[simp] theorem freeRegion_agenda (s : State) (pa n : Nat) : (s.freeRegion pa n).agenda = s.agenda := rfl
@[simp] theorem freeRegion_toIssue (s : State) (pa n : Nat) : (s.freeRegion pa n).toIssue = s.toIssue := rfl
@[simp] theorem freeRegion_cur (s : State) (pa n : Nat) : (s.freeRegion pa n).cur = s.cur := rfl
@[simp] theorem freeRegion_cycle (s : State) (pa n : Nat) : (s.freeRegion pa n).cycle = s.cycle := rfl
@[simp] theorem freeRegion_seq (s : State) (pa n : Nat) : (s.freeRegion pa n).seq = s.seq := rfl
@[simp] theorem freeRegion_dstate (s : State) (pa n : Nat) : (s.freeRegion pa n).dstate = s.dstate := rfl
@[simp] theorem freeRegion_lastG3 (s : State) (pa n : Nat) : (s.freeRegion pa n).lastG3 = s.lastG3 := rfl
@[simp] theorem freeRegion_cap (s : State) (pa n : Nat) : (s.freeRegion pa n).cap = s.cap := rfl
@[simp] theorem freeRegion_capNext (s : State) (pa n : Nat) : (s.freeRegion pa n).capNext = s.capNext := rfl
@[simp] theorem freeRegion_lostCyc (s : State) (pa n : Nat) : (s.freeRegion pa n).lostCyc = s.lostCyc := rfl
@[simp] theorem freeRegion_lostAt (s : State) (pa n : Nat) : (s.freeRegion pa n).lostAt = s.lostAt := rfl
@[simp] theorem freeRegion_rails (s : State) (pa n : Nat) : (s.freeRegion pa n).rails = s.rails := rfl
@[simp] theorem freeRegion_held (s : State) (pa n : Nat) : (s.freeRegion pa n).held = s.held := rfl
@[simp] theorem freeRegion_fuses (s : State) (pa n : Nat) : (s.freeRegion pa n).fuses = s.fuses := rfl
@[simp] theorem freeRegion_boot (s : State) (pa n : Nat) : (s.freeRegion pa n).boot = s.boot := rfl
@[simp] theorem freeRegion_kregs (s : State) (pa n : Nat) : (s.freeRegion pa n).kregs = s.kregs := rfl
@[simp] theorem freeRegion_tenants (s : State) (pa n : Nat) : (s.freeRegion pa n).tenants = s.tenants := rfl
@[simp] theorem freeRegion_tiles (s : State) (pa n : Nat) : (s.freeRegion pa n).tiles = s.tiles := rfl
@[simp] theorem freeRegion_clusters (s : State) (pa n : Nat) : (s.freeRegion pa n).clusters = s.clusters := rfl
@[simp] theorem freeRegion_dies (s : State) (pa n : Nat) : (s.freeRegion pa n).dies = s.dies := rfl
@[simp] theorem freeRegion_cores (s : State) (pa n : Nat) : (s.freeRegion pa n).cores = s.cores := rfl
@[simp] theorem freeRegion_links (s : State) (pa n : Nat) : (s.freeRegion pa n).links = s.links := rfl
@[simp] theorem freeRegion_ports (s : State) (pa n : Nat) : (s.freeRegion pa n).ports = s.ports := rfl
@[simp] theorem freeRegion_eths (s : State) (pa n : Nat) : (s.freeRegion pa n).eths = s.eths := rfl
@[simp] theorem freeRegion_health (s : State) (pa n : Nat) : (s.freeRegion pa n).health = s.health := rfl
@[simp] theorem freeRegion_wv (s : State) (pa n : Nat) : (s.freeRegion pa n).wv = s.wv := rfl
@[simp] theorem freeRegion_graphs (s : State) (pa n : Nat) : (s.freeRegion pa n).graphs = s.graphs := rfl
@[simp] theorem freeRegion_ready (s : State) (pa n : Nat) : (s.freeRegion pa n).ready = s.ready := rfl
@[simp] theorem freeRegion_ages (s : State) (pa n : Nat) : (s.freeRegion pa n).ages = s.ages := rfl
@[simp] theorem freeRegion_waitFrom (s : State) (pa n : Nat) : (s.freeRegion pa n).waitFrom = s.waitFrom := rfl
@[simp] theorem freeRegion_conts (s : State) (pa n : Nat) : (s.freeRegion pa n).conts = s.conts := rfl
@[simp] theorem freeRegion_frames (s : State) (pa n : Nat) : (s.freeRegion pa n).frames = s.frames := rfl
@[simp] theorem freeRegion_replies (s : State) (pa n : Nat) : (s.freeRegion pa n).replies = s.replies := rfl
@[simp] theorem freeRegion_sockets (s : State) (pa n : Nat) : (s.freeRegion pa n).sockets = s.sockets := rfl

@[simp] theorem klog_agenda (s : State) (kind : Nat) (c : Cause) (info unit tmask lo hi : Nat) : (s.klog kind c info unit tmask lo hi).agenda = s.agenda := by unfold State.klog; dsimp only; split <;> rfl
@[simp] theorem klog_toIssue (s : State) (kind : Nat) (c : Cause) (info unit tmask lo hi : Nat) : (s.klog kind c info unit tmask lo hi).toIssue = s.toIssue := by unfold State.klog; dsimp only; split <;> rfl
@[simp] theorem klog_cur (s : State) (kind : Nat) (c : Cause) (info unit tmask lo hi : Nat) : (s.klog kind c info unit tmask lo hi).cur = s.cur := by unfold State.klog; dsimp only; split <;> rfl
@[simp] theorem klog_fresh (s : State) (kind : Nat) (c : Cause) (info unit tmask lo hi : Nat) : (s.klog kind c info unit tmask lo hi).fresh = s.fresh := by unfold State.klog; dsimp only; split <;> rfl
@[simp] theorem klog_cycle (s : State) (kind : Nat) (c : Cause) (info unit tmask lo hi : Nat) : (s.klog kind c info unit tmask lo hi).cycle = s.cycle := by unfold State.klog; dsimp only; split <;> rfl
@[simp] theorem klog_seq (s : State) (kind : Nat) (c : Cause) (info unit tmask lo hi : Nat) : (s.klog kind c info unit tmask lo hi).seq = s.seq := by unfold State.klog; dsimp only; split <;> rfl
@[simp] theorem klog_dstate (s : State) (kind : Nat) (c : Cause) (info unit tmask lo hi : Nat) : (s.klog kind c info unit tmask lo hi).dstate = s.dstate := by unfold State.klog; dsimp only; split <;> rfl
@[simp] theorem klog_lastG3 (s : State) (kind : Nat) (c : Cause) (info unit tmask lo hi : Nat) : (s.klog kind c info unit tmask lo hi).lastG3 = s.lastG3 := by unfold State.klog; dsimp only; split <;> rfl
@[simp] theorem klog_cap (s : State) (kind : Nat) (c : Cause) (info unit tmask lo hi : Nat) : (s.klog kind c info unit tmask lo hi).cap = s.cap := by unfold State.klog; dsimp only; split <;> rfl
@[simp] theorem klog_capNext (s : State) (kind : Nat) (c : Cause) (info unit tmask lo hi : Nat) : (s.klog kind c info unit tmask lo hi).capNext = s.capNext := by unfold State.klog; dsimp only; split <;> rfl
@[simp] theorem klog_lostCyc (s : State) (kind : Nat) (c : Cause) (info unit tmask lo hi : Nat) : (s.klog kind c info unit tmask lo hi).lostCyc = s.lostCyc := by unfold State.klog; dsimp only; split <;> rfl
@[simp] theorem klog_lostAt (s : State) (kind : Nat) (c : Cause) (info unit tmask lo hi : Nat) : (s.klog kind c info unit tmask lo hi).lostAt = s.lostAt := by unfold State.klog; dsimp only; split <;> rfl
@[simp] theorem klog_rails (s : State) (kind : Nat) (c : Cause) (info unit tmask lo hi : Nat) : (s.klog kind c info unit tmask lo hi).rails = s.rails := by unfold State.klog; dsimp only; split <;> rfl
@[simp] theorem klog_held (s : State) (kind : Nat) (c : Cause) (info unit tmask lo hi : Nat) : (s.klog kind c info unit tmask lo hi).held = s.held := by unfold State.klog; dsimp only; split <;> rfl
@[simp] theorem klog_fuses (s : State) (kind : Nat) (c : Cause) (info unit tmask lo hi : Nat) : (s.klog kind c info unit tmask lo hi).fuses = s.fuses := by unfold State.klog; dsimp only; split <;> rfl
@[simp] theorem klog_boot (s : State) (kind : Nat) (c : Cause) (info unit tmask lo hi : Nat) : (s.klog kind c info unit tmask lo hi).boot = s.boot := by unfold State.klog; dsimp only; split <;> rfl
@[simp] theorem klog_tenants (s : State) (kind : Nat) (c : Cause) (info unit tmask lo hi : Nat) : (s.klog kind c info unit tmask lo hi).tenants = s.tenants := by unfold State.klog; dsimp only; split <;> rfl
@[simp] theorem klog_tiles (s : State) (kind : Nat) (c : Cause) (info unit tmask lo hi : Nat) : (s.klog kind c info unit tmask lo hi).tiles = s.tiles := by unfold State.klog; dsimp only; split <;> rfl
@[simp] theorem klog_clusters (s : State) (kind : Nat) (c : Cause) (info unit tmask lo hi : Nat) : (s.klog kind c info unit tmask lo hi).clusters = s.clusters := by unfold State.klog; dsimp only; split <;> rfl
@[simp] theorem klog_dies (s : State) (kind : Nat) (c : Cause) (info unit tmask lo hi : Nat) : (s.klog kind c info unit tmask lo hi).dies = s.dies := by unfold State.klog; dsimp only; split <;> rfl
@[simp] theorem klog_cores (s : State) (kind : Nat) (c : Cause) (info unit tmask lo hi : Nat) : (s.klog kind c info unit tmask lo hi).cores = s.cores := by unfold State.klog; dsimp only; split <;> rfl
@[simp] theorem klog_links (s : State) (kind : Nat) (c : Cause) (info unit tmask lo hi : Nat) : (s.klog kind c info unit tmask lo hi).links = s.links := by unfold State.klog; dsimp only; split <;> rfl
@[simp] theorem klog_ports (s : State) (kind : Nat) (c : Cause) (info unit tmask lo hi : Nat) : (s.klog kind c info unit tmask lo hi).ports = s.ports := by unfold State.klog; dsimp only; split <;> rfl
@[simp] theorem klog_eths (s : State) (kind : Nat) (c : Cause) (info unit tmask lo hi : Nat) : (s.klog kind c info unit tmask lo hi).eths = s.eths := by unfold State.klog; dsimp only; split <;> rfl
@[simp] theorem klog_health (s : State) (kind : Nat) (c : Cause) (info unit tmask lo hi : Nat) : (s.klog kind c info unit tmask lo hi).health = s.health := by unfold State.klog; dsimp only; split <;> rfl
@[simp] theorem klog_wv (s : State) (kind : Nat) (c : Cause) (info unit tmask lo hi : Nat) : (s.klog kind c info unit tmask lo hi).wv = s.wv := by unfold State.klog; dsimp only; split <;> rfl
@[simp] theorem klog_graphs (s : State) (kind : Nat) (c : Cause) (info unit tmask lo hi : Nat) : (s.klog kind c info unit tmask lo hi).graphs = s.graphs := by unfold State.klog; dsimp only; split <;> rfl
@[simp] theorem klog_ready (s : State) (kind : Nat) (c : Cause) (info unit tmask lo hi : Nat) : (s.klog kind c info unit tmask lo hi).ready = s.ready := by unfold State.klog; dsimp only; split <;> rfl
@[simp] theorem klog_ages (s : State) (kind : Nat) (c : Cause) (info unit tmask lo hi : Nat) : (s.klog kind c info unit tmask lo hi).ages = s.ages := by unfold State.klog; dsimp only; split <;> rfl
@[simp] theorem klog_waitFrom (s : State) (kind : Nat) (c : Cause) (info unit tmask lo hi : Nat) : (s.klog kind c info unit tmask lo hi).waitFrom = s.waitFrom := by unfold State.klog; dsimp only; split <;> rfl
@[simp] theorem klog_conts (s : State) (kind : Nat) (c : Cause) (info unit tmask lo hi : Nat) : (s.klog kind c info unit tmask lo hi).conts = s.conts := by unfold State.klog; dsimp only; split <;> rfl
@[simp] theorem klog_frames (s : State) (kind : Nat) (c : Cause) (info unit tmask lo hi : Nat) : (s.klog kind c info unit tmask lo hi).frames = s.frames := by unfold State.klog; dsimp only; split <;> rfl
@[simp] theorem klog_replies (s : State) (kind : Nat) (c : Cause) (info unit tmask lo hi : Nat) : (s.klog kind c info unit tmask lo hi).replies = s.replies := by unfold State.klog; dsimp only; split <;> rfl
@[simp] theorem klog_sockets (s : State) (kind : Nat) (c : Cause) (info unit tmask lo hi : Nat) : (s.klog kind c info unit tmask lo hi).sockets = s.sockets := by unfold State.klog; dsimp only; split <;> rfl

@[simp] theorem modUnit_agenda (s : State) (u : UnitName) (f : UnitEntry → UnitEntry) : (s.modUnit u f).agenda = s.agenda := rfl
@[simp] theorem modUnit_toIssue (s : State) (u : UnitName) (f : UnitEntry → UnitEntry) : (s.modUnit u f).toIssue = s.toIssue := rfl
@[simp] theorem modUnit_cur (s : State) (u : UnitName) (f : UnitEntry → UnitEntry) : (s.modUnit u f).cur = s.cur := rfl
@[simp] theorem modUnit_fresh (s : State) (u : UnitName) (f : UnitEntry → UnitEntry) : (s.modUnit u f).fresh = s.fresh := rfl
@[simp] theorem modUnit_cycle (s : State) (u : UnitName) (f : UnitEntry → UnitEntry) : (s.modUnit u f).cycle = s.cycle := rfl
@[simp] theorem modUnit_seq (s : State) (u : UnitName) (f : UnitEntry → UnitEntry) : (s.modUnit u f).seq = s.seq := rfl
@[simp] theorem modUnit_dstate (s : State) (u : UnitName) (f : UnitEntry → UnitEntry) : (s.modUnit u f).dstate = s.dstate := rfl
@[simp] theorem modUnit_lastG3 (s : State) (u : UnitName) (f : UnitEntry → UnitEntry) : (s.modUnit u f).lastG3 = s.lastG3 := rfl
@[simp] theorem modUnit_cap (s : State) (u : UnitName) (f : UnitEntry → UnitEntry) : (s.modUnit u f).cap = s.cap := rfl
@[simp] theorem modUnit_capNext (s : State) (u : UnitName) (f : UnitEntry → UnitEntry) : (s.modUnit u f).capNext = s.capNext := rfl
@[simp] theorem modUnit_lostCyc (s : State) (u : UnitName) (f : UnitEntry → UnitEntry) : (s.modUnit u f).lostCyc = s.lostCyc := rfl
@[simp] theorem modUnit_lostAt (s : State) (u : UnitName) (f : UnitEntry → UnitEntry) : (s.modUnit u f).lostAt = s.lostAt := rfl
@[simp] theorem modUnit_rails (s : State) (u : UnitName) (f : UnitEntry → UnitEntry) : (s.modUnit u f).rails = s.rails := rfl
@[simp] theorem modUnit_held (s : State) (u : UnitName) (f : UnitEntry → UnitEntry) : (s.modUnit u f).held = s.held := rfl
@[simp] theorem modUnit_fuses (s : State) (u : UnitName) (f : UnitEntry → UnitEntry) : (s.modUnit u f).fuses = s.fuses := rfl
@[simp] theorem modUnit_boot (s : State) (u : UnitName) (f : UnitEntry → UnitEntry) : (s.modUnit u f).boot = s.boot := rfl
@[simp] theorem modUnit_kregs (s : State) (u : UnitName) (f : UnitEntry → UnitEntry) : (s.modUnit u f).kregs = s.kregs := rfl
@[simp] theorem modUnit_mem (s : State) (u : UnitName) (f : UnitEntry → UnitEntry) : (s.modUnit u f).mem = s.mem := rfl
@[simp] theorem modUnit_poison (s : State) (u : UnitName) (f : UnitEntry → UnitEntry) : (s.modUnit u f).poison = s.poison := rfl
@[simp] theorem modUnit_tenants (s : State) (u : UnitName) (f : UnitEntry → UnitEntry) : (s.modUnit u f).tenants = s.tenants := rfl
@[simp] theorem modUnit_tiles (s : State) (u : UnitName) (f : UnitEntry → UnitEntry) : (s.modUnit u f).tiles = s.tiles := rfl
@[simp] theorem modUnit_clusters (s : State) (u : UnitName) (f : UnitEntry → UnitEntry) : (s.modUnit u f).clusters = s.clusters := rfl
@[simp] theorem modUnit_dies (s : State) (u : UnitName) (f : UnitEntry → UnitEntry) : (s.modUnit u f).dies = s.dies := rfl
@[simp] theorem modUnit_cores (s : State) (u : UnitName) (f : UnitEntry → UnitEntry) : (s.modUnit u f).cores = s.cores := rfl
@[simp] theorem modUnit_links (s : State) (u : UnitName) (f : UnitEntry → UnitEntry) : (s.modUnit u f).links = s.links := rfl
@[simp] theorem modUnit_ports (s : State) (u : UnitName) (f : UnitEntry → UnitEntry) : (s.modUnit u f).ports = s.ports := rfl
@[simp] theorem modUnit_eths (s : State) (u : UnitName) (f : UnitEntry → UnitEntry) : (s.modUnit u f).eths = s.eths := rfl
@[simp] theorem modUnit_wv (s : State) (u : UnitName) (f : UnitEntry → UnitEntry) : (s.modUnit u f).wv = s.wv := rfl
@[simp] theorem modUnit_graphs (s : State) (u : UnitName) (f : UnitEntry → UnitEntry) : (s.modUnit u f).graphs = s.graphs := rfl
@[simp] theorem modUnit_ready (s : State) (u : UnitName) (f : UnitEntry → UnitEntry) : (s.modUnit u f).ready = s.ready := rfl
@[simp] theorem modUnit_ages (s : State) (u : UnitName) (f : UnitEntry → UnitEntry) : (s.modUnit u f).ages = s.ages := rfl
@[simp] theorem modUnit_waitFrom (s : State) (u : UnitName) (f : UnitEntry → UnitEntry) : (s.modUnit u f).waitFrom = s.waitFrom := rfl
@[simp] theorem modUnit_conts (s : State) (u : UnitName) (f : UnitEntry → UnitEntry) : (s.modUnit u f).conts = s.conts := rfl
@[simp] theorem modUnit_frames (s : State) (u : UnitName) (f : UnitEntry → UnitEntry) : (s.modUnit u f).frames = s.frames := rfl
@[simp] theorem modUnit_replies (s : State) (u : UnitName) (f : UnitEntry → UnitEntry) : (s.modUnit u f).replies = s.replies := rfl
@[simp] theorem modUnit_sockets (s : State) (u : UnitName) (f : UnitEntry → UnitEntry) : (s.modUnit u f).sockets = s.sockets := rfl

@[simp] theorem blame_agenda (s : State) (u : UnitName) (c : Cause) : (s.blame u c).agenda = s.agenda := rfl
@[simp] theorem blame_toIssue (s : State) (u : UnitName) (c : Cause) : (s.blame u c).toIssue = s.toIssue := rfl
@[simp] theorem blame_cur (s : State) (u : UnitName) (c : Cause) : (s.blame u c).cur = s.cur := rfl
@[simp] theorem blame_fresh (s : State) (u : UnitName) (c : Cause) : (s.blame u c).fresh = s.fresh := rfl
@[simp] theorem blame_cycle (s : State) (u : UnitName) (c : Cause) : (s.blame u c).cycle = s.cycle := rfl
@[simp] theorem blame_seq (s : State) (u : UnitName) (c : Cause) : (s.blame u c).seq = s.seq := rfl
@[simp] theorem blame_dstate (s : State) (u : UnitName) (c : Cause) : (s.blame u c).dstate = s.dstate := rfl
@[simp] theorem blame_lastG3 (s : State) (u : UnitName) (c : Cause) : (s.blame u c).lastG3 = s.lastG3 := rfl
@[simp] theorem blame_cap (s : State) (u : UnitName) (c : Cause) : (s.blame u c).cap = s.cap := rfl
@[simp] theorem blame_capNext (s : State) (u : UnitName) (c : Cause) : (s.blame u c).capNext = s.capNext := rfl
@[simp] theorem blame_lostCyc (s : State) (u : UnitName) (c : Cause) : (s.blame u c).lostCyc = s.lostCyc := rfl
@[simp] theorem blame_lostAt (s : State) (u : UnitName) (c : Cause) : (s.blame u c).lostAt = s.lostAt := rfl
@[simp] theorem blame_rails (s : State) (u : UnitName) (c : Cause) : (s.blame u c).rails = s.rails := rfl
@[simp] theorem blame_held (s : State) (u : UnitName) (c : Cause) : (s.blame u c).held = s.held := rfl
@[simp] theorem blame_fuses (s : State) (u : UnitName) (c : Cause) : (s.blame u c).fuses = s.fuses := rfl
@[simp] theorem blame_boot (s : State) (u : UnitName) (c : Cause) : (s.blame u c).boot = s.boot := rfl
@[simp] theorem blame_kregs (s : State) (u : UnitName) (c : Cause) : (s.blame u c).kregs = s.kregs := rfl
@[simp] theorem blame_mem (s : State) (u : UnitName) (c : Cause) : (s.blame u c).mem = s.mem := rfl
@[simp] theorem blame_poison (s : State) (u : UnitName) (c : Cause) : (s.blame u c).poison = s.poison := rfl
@[simp] theorem blame_tenants (s : State) (u : UnitName) (c : Cause) : (s.blame u c).tenants = s.tenants := rfl
@[simp] theorem blame_tiles (s : State) (u : UnitName) (c : Cause) : (s.blame u c).tiles = s.tiles := rfl
@[simp] theorem blame_clusters (s : State) (u : UnitName) (c : Cause) : (s.blame u c).clusters = s.clusters := rfl
@[simp] theorem blame_dies (s : State) (u : UnitName) (c : Cause) : (s.blame u c).dies = s.dies := rfl
@[simp] theorem blame_cores (s : State) (u : UnitName) (c : Cause) : (s.blame u c).cores = s.cores := rfl
@[simp] theorem blame_links (s : State) (u : UnitName) (c : Cause) : (s.blame u c).links = s.links := rfl
@[simp] theorem blame_ports (s : State) (u : UnitName) (c : Cause) : (s.blame u c).ports = s.ports := rfl
@[simp] theorem blame_eths (s : State) (u : UnitName) (c : Cause) : (s.blame u c).eths = s.eths := rfl
@[simp] theorem blame_wv (s : State) (u : UnitName) (c : Cause) : (s.blame u c).wv = s.wv := rfl
@[simp] theorem blame_graphs (s : State) (u : UnitName) (c : Cause) : (s.blame u c).graphs = s.graphs := rfl
@[simp] theorem blame_ready (s : State) (u : UnitName) (c : Cause) : (s.blame u c).ready = s.ready := rfl
@[simp] theorem blame_ages (s : State) (u : UnitName) (c : Cause) : (s.blame u c).ages = s.ages := rfl
@[simp] theorem blame_waitFrom (s : State) (u : UnitName) (c : Cause) : (s.blame u c).waitFrom = s.waitFrom := rfl
@[simp] theorem blame_conts (s : State) (u : UnitName) (c : Cause) : (s.blame u c).conts = s.conts := rfl
@[simp] theorem blame_frames (s : State) (u : UnitName) (c : Cause) : (s.blame u c).frames = s.frames := rfl
@[simp] theorem blame_replies (s : State) (u : UnitName) (c : Cause) : (s.blame u c).replies = s.replies := rfl
@[simp] theorem blame_sockets (s : State) (u : UnitName) (c : Cause) : (s.blame u c).sockets = s.sockets := rfl

@[simp] theorem poisonFound_agenda (s : State) (pa : Nat) : (s.poisonFound pa).agenda = s.agenda := by simp [State.poisonFound]
@[simp] theorem poisonFound_toIssue (s : State) (pa : Nat) : (s.poisonFound pa).toIssue = s.toIssue := by simp [State.poisonFound]
@[simp] theorem poisonFound_cur (s : State) (pa : Nat) : (s.poisonFound pa).cur = s.cur := by simp [State.poisonFound]
@[simp] theorem poisonFound_fresh (s : State) (pa : Nat) : (s.poisonFound pa).fresh = s.fresh := by simp [State.poisonFound]
@[simp] theorem poisonFound_cycle (s : State) (pa : Nat) : (s.poisonFound pa).cycle = s.cycle := by simp [State.poisonFound]
@[simp] theorem poisonFound_seq (s : State) (pa : Nat) : (s.poisonFound pa).seq = s.seq := by simp [State.poisonFound]
@[simp] theorem poisonFound_dstate (s : State) (pa : Nat) : (s.poisonFound pa).dstate = s.dstate := by simp [State.poisonFound]
@[simp] theorem poisonFound_lastG3 (s : State) (pa : Nat) : (s.poisonFound pa).lastG3 = s.lastG3 := by simp [State.poisonFound]
@[simp] theorem poisonFound_cap (s : State) (pa : Nat) : (s.poisonFound pa).cap = s.cap := by simp [State.poisonFound]
@[simp] theorem poisonFound_capNext (s : State) (pa : Nat) : (s.poisonFound pa).capNext = s.capNext := by simp [State.poisonFound]
@[simp] theorem poisonFound_lostCyc (s : State) (pa : Nat) : (s.poisonFound pa).lostCyc = s.lostCyc := by simp [State.poisonFound]
@[simp] theorem poisonFound_lostAt (s : State) (pa : Nat) : (s.poisonFound pa).lostAt = s.lostAt := by simp [State.poisonFound]
@[simp] theorem poisonFound_rails (s : State) (pa : Nat) : (s.poisonFound pa).rails = s.rails := by simp [State.poisonFound]
@[simp] theorem poisonFound_held (s : State) (pa : Nat) : (s.poisonFound pa).held = s.held := by simp [State.poisonFound]
@[simp] theorem poisonFound_fuses (s : State) (pa : Nat) : (s.poisonFound pa).fuses = s.fuses := by simp [State.poisonFound]
@[simp] theorem poisonFound_boot (s : State) (pa : Nat) : (s.poisonFound pa).boot = s.boot := by simp [State.poisonFound]
@[simp] theorem poisonFound_tenants (s : State) (pa : Nat) : (s.poisonFound pa).tenants = s.tenants := by simp [State.poisonFound]
@[simp] theorem poisonFound_tiles (s : State) (pa : Nat) : (s.poisonFound pa).tiles = s.tiles := by simp [State.poisonFound]
@[simp] theorem poisonFound_clusters (s : State) (pa : Nat) : (s.poisonFound pa).clusters = s.clusters := by simp [State.poisonFound]
@[simp] theorem poisonFound_dies (s : State) (pa : Nat) : (s.poisonFound pa).dies = s.dies := by simp [State.poisonFound]
@[simp] theorem poisonFound_cores (s : State) (pa : Nat) : (s.poisonFound pa).cores = s.cores := by simp [State.poisonFound]
@[simp] theorem poisonFound_links (s : State) (pa : Nat) : (s.poisonFound pa).links = s.links := by simp [State.poisonFound]
@[simp] theorem poisonFound_ports (s : State) (pa : Nat) : (s.poisonFound pa).ports = s.ports := by simp [State.poisonFound]
@[simp] theorem poisonFound_eths (s : State) (pa : Nat) : (s.poisonFound pa).eths = s.eths := by simp [State.poisonFound]
@[simp] theorem poisonFound_wv (s : State) (pa : Nat) : (s.poisonFound pa).wv = s.wv := by simp [State.poisonFound]
@[simp] theorem poisonFound_graphs (s : State) (pa : Nat) : (s.poisonFound pa).graphs = s.graphs := by simp [State.poisonFound]
@[simp] theorem poisonFound_ready (s : State) (pa : Nat) : (s.poisonFound pa).ready = s.ready := by simp [State.poisonFound]
@[simp] theorem poisonFound_ages (s : State) (pa : Nat) : (s.poisonFound pa).ages = s.ages := by simp [State.poisonFound]
@[simp] theorem poisonFound_waitFrom (s : State) (pa : Nat) : (s.poisonFound pa).waitFrom = s.waitFrom := by simp [State.poisonFound]
@[simp] theorem poisonFound_conts (s : State) (pa : Nat) : (s.poisonFound pa).conts = s.conts := by simp [State.poisonFound]
@[simp] theorem poisonFound_frames (s : State) (pa : Nat) : (s.poisonFound pa).frames = s.frames := by simp [State.poisonFound]
@[simp] theorem poisonFound_replies (s : State) (pa : Nat) : (s.poisonFound pa).replies = s.replies := by simp [State.poisonFound]
@[simp] theorem poisonFound_sockets (s : State) (pa : Nat) : (s.poisonFound pa).sockets = s.sockets := by simp [State.poisonFound]

@[simp] theorem failedAt_agenda (s : State) (c : Cause) (pa : Nat) : (s.failedAt c pa).agenda = s.agenda := by unfold State.failedAt; split <;> simp
@[simp] theorem failedAt_toIssue (s : State) (c : Cause) (pa : Nat) : (s.failedAt c pa).toIssue = s.toIssue := by unfold State.failedAt; split <;> simp
@[simp] theorem failedAt_cur (s : State) (c : Cause) (pa : Nat) : (s.failedAt c pa).cur = s.cur := by unfold State.failedAt; split <;> simp
@[simp] theorem failedAt_fresh (s : State) (c : Cause) (pa : Nat) : (s.failedAt c pa).fresh = s.fresh := by unfold State.failedAt; split <;> simp
@[simp] theorem failedAt_cycle (s : State) (c : Cause) (pa : Nat) : (s.failedAt c pa).cycle = s.cycle := by unfold State.failedAt; split <;> simp
@[simp] theorem failedAt_seq (s : State) (c : Cause) (pa : Nat) : (s.failedAt c pa).seq = s.seq := by unfold State.failedAt; split <;> simp
@[simp] theorem failedAt_dstate (s : State) (c : Cause) (pa : Nat) : (s.failedAt c pa).dstate = s.dstate := by unfold State.failedAt; split <;> simp
@[simp] theorem failedAt_lastG3 (s : State) (c : Cause) (pa : Nat) : (s.failedAt c pa).lastG3 = s.lastG3 := by unfold State.failedAt; split <;> simp
@[simp] theorem failedAt_cap (s : State) (c : Cause) (pa : Nat) : (s.failedAt c pa).cap = s.cap := by unfold State.failedAt; split <;> simp
@[simp] theorem failedAt_capNext (s : State) (c : Cause) (pa : Nat) : (s.failedAt c pa).capNext = s.capNext := by unfold State.failedAt; split <;> simp
@[simp] theorem failedAt_lostCyc (s : State) (c : Cause) (pa : Nat) : (s.failedAt c pa).lostCyc = s.lostCyc := by unfold State.failedAt; split <;> simp
@[simp] theorem failedAt_lostAt (s : State) (c : Cause) (pa : Nat) : (s.failedAt c pa).lostAt = s.lostAt := by unfold State.failedAt; split <;> simp
@[simp] theorem failedAt_rails (s : State) (c : Cause) (pa : Nat) : (s.failedAt c pa).rails = s.rails := by unfold State.failedAt; split <;> simp
@[simp] theorem failedAt_held (s : State) (c : Cause) (pa : Nat) : (s.failedAt c pa).held = s.held := by unfold State.failedAt; split <;> simp
@[simp] theorem failedAt_fuses (s : State) (c : Cause) (pa : Nat) : (s.failedAt c pa).fuses = s.fuses := by unfold State.failedAt; split <;> simp
@[simp] theorem failedAt_boot (s : State) (c : Cause) (pa : Nat) : (s.failedAt c pa).boot = s.boot := by unfold State.failedAt; split <;> simp
@[simp] theorem failedAt_tenants (s : State) (c : Cause) (pa : Nat) : (s.failedAt c pa).tenants = s.tenants := by unfold State.failedAt; split <;> simp
@[simp] theorem failedAt_tiles (s : State) (c : Cause) (pa : Nat) : (s.failedAt c pa).tiles = s.tiles := by unfold State.failedAt; split <;> simp
@[simp] theorem failedAt_clusters (s : State) (c : Cause) (pa : Nat) : (s.failedAt c pa).clusters = s.clusters := by unfold State.failedAt; split <;> simp
@[simp] theorem failedAt_dies (s : State) (c : Cause) (pa : Nat) : (s.failedAt c pa).dies = s.dies := by unfold State.failedAt; split <;> simp
@[simp] theorem failedAt_cores (s : State) (c : Cause) (pa : Nat) : (s.failedAt c pa).cores = s.cores := by unfold State.failedAt; split <;> simp
@[simp] theorem failedAt_links (s : State) (c : Cause) (pa : Nat) : (s.failedAt c pa).links = s.links := by unfold State.failedAt; split <;> simp
@[simp] theorem failedAt_ports (s : State) (c : Cause) (pa : Nat) : (s.failedAt c pa).ports = s.ports := by unfold State.failedAt; split <;> simp
@[simp] theorem failedAt_eths (s : State) (c : Cause) (pa : Nat) : (s.failedAt c pa).eths = s.eths := by unfold State.failedAt; split <;> simp
@[simp] theorem failedAt_wv (s : State) (c : Cause) (pa : Nat) : (s.failedAt c pa).wv = s.wv := by unfold State.failedAt; split <;> simp
@[simp] theorem failedAt_graphs (s : State) (c : Cause) (pa : Nat) : (s.failedAt c pa).graphs = s.graphs := by unfold State.failedAt; split <;> simp
@[simp] theorem failedAt_ready (s : State) (c : Cause) (pa : Nat) : (s.failedAt c pa).ready = s.ready := by unfold State.failedAt; split <;> simp
@[simp] theorem failedAt_ages (s : State) (c : Cause) (pa : Nat) : (s.failedAt c pa).ages = s.ages := by unfold State.failedAt; split <;> simp
@[simp] theorem failedAt_waitFrom (s : State) (c : Cause) (pa : Nat) : (s.failedAt c pa).waitFrom = s.waitFrom := by unfold State.failedAt; split <;> simp
@[simp] theorem failedAt_conts (s : State) (c : Cause) (pa : Nat) : (s.failedAt c pa).conts = s.conts := by unfold State.failedAt; split <;> simp
@[simp] theorem failedAt_frames (s : State) (c : Cause) (pa : Nat) : (s.failedAt c pa).frames = s.frames := by unfold State.failedAt; split <;> simp
@[simp] theorem failedAt_replies (s : State) (c : Cause) (pa : Nat) : (s.failedAt c pa).replies = s.replies := by unfold State.failedAt; split <;> simp
@[simp] theorem failedAt_sockets (s : State) (c : Cause) (pa : Nat) : (s.failedAt c pa).sockets = s.sockets := by unfold State.failedAt; split <;> simp

@[simp] theorem metLine_agenda (s : State) (l : List Nat) : (s.metLine l).agenda = s.agenda := by unfold State.metLine; split; rfl; exact (poisonFound_agenda _ _).trans rfl
@[simp] theorem metLine_toIssue (s : State) (l : List Nat) : (s.metLine l).toIssue = s.toIssue := by unfold State.metLine; split; rfl; exact (poisonFound_toIssue _ _).trans rfl
@[simp] theorem metLine_cur (s : State) (l : List Nat) : (s.metLine l).cur = s.cur := by unfold State.metLine; split; rfl; exact (poisonFound_cur _ _).trans rfl
@[simp] theorem metLine_cycle (s : State) (l : List Nat) : (s.metLine l).cycle = s.cycle := by unfold State.metLine; split; rfl; exact (poisonFound_cycle _ _).trans rfl
@[simp] theorem metLine_seq (s : State) (l : List Nat) : (s.metLine l).seq = s.seq := by unfold State.metLine; split; rfl; exact (poisonFound_seq _ _).trans rfl
@[simp] theorem metLine_dstate (s : State) (l : List Nat) : (s.metLine l).dstate = s.dstate := by unfold State.metLine; split; rfl; exact (poisonFound_dstate _ _).trans rfl
@[simp] theorem metLine_lastG3 (s : State) (l : List Nat) : (s.metLine l).lastG3 = s.lastG3 := by unfold State.metLine; split; rfl; exact (poisonFound_lastG3 _ _).trans rfl
@[simp] theorem metLine_cap (s : State) (l : List Nat) : (s.metLine l).cap = s.cap := by unfold State.metLine; split; rfl; exact (poisonFound_cap _ _).trans rfl
@[simp] theorem metLine_capNext (s : State) (l : List Nat) : (s.metLine l).capNext = s.capNext := by unfold State.metLine; split; rfl; exact (poisonFound_capNext _ _).trans rfl
@[simp] theorem metLine_lostCyc (s : State) (l : List Nat) : (s.metLine l).lostCyc = s.lostCyc := by unfold State.metLine; split; rfl; exact (poisonFound_lostCyc _ _).trans rfl
@[simp] theorem metLine_lostAt (s : State) (l : List Nat) : (s.metLine l).lostAt = s.lostAt := by unfold State.metLine; split; rfl; exact (poisonFound_lostAt _ _).trans rfl
@[simp] theorem metLine_rails (s : State) (l : List Nat) : (s.metLine l).rails = s.rails := by unfold State.metLine; split; rfl; exact (poisonFound_rails _ _).trans rfl
@[simp] theorem metLine_held (s : State) (l : List Nat) : (s.metLine l).held = s.held := by unfold State.metLine; split; rfl; exact (poisonFound_held _ _).trans rfl
@[simp] theorem metLine_fuses (s : State) (l : List Nat) : (s.metLine l).fuses = s.fuses := by unfold State.metLine; split; rfl; exact (poisonFound_fuses _ _).trans rfl
@[simp] theorem metLine_boot (s : State) (l : List Nat) : (s.metLine l).boot = s.boot := by unfold State.metLine; split; rfl; exact (poisonFound_boot _ _).trans rfl
@[simp] theorem metLine_tenants (s : State) (l : List Nat) : (s.metLine l).tenants = s.tenants := by unfold State.metLine; split; rfl; exact (poisonFound_tenants _ _).trans rfl
@[simp] theorem metLine_tiles (s : State) (l : List Nat) : (s.metLine l).tiles = s.tiles := by unfold State.metLine; split; rfl; exact (poisonFound_tiles _ _).trans rfl
@[simp] theorem metLine_clusters (s : State) (l : List Nat) : (s.metLine l).clusters = s.clusters := by unfold State.metLine; split; rfl; exact (poisonFound_clusters _ _).trans rfl
@[simp] theorem metLine_dies (s : State) (l : List Nat) : (s.metLine l).dies = s.dies := by unfold State.metLine; split; rfl; exact (poisonFound_dies _ _).trans rfl
@[simp] theorem metLine_cores (s : State) (l : List Nat) : (s.metLine l).cores = s.cores := by unfold State.metLine; split; rfl; exact (poisonFound_cores _ _).trans rfl
@[simp] theorem metLine_links (s : State) (l : List Nat) : (s.metLine l).links = s.links := by unfold State.metLine; split; rfl; exact (poisonFound_links _ _).trans rfl
@[simp] theorem metLine_ports (s : State) (l : List Nat) : (s.metLine l).ports = s.ports := by unfold State.metLine; split; rfl; exact (poisonFound_ports _ _).trans rfl
@[simp] theorem metLine_eths (s : State) (l : List Nat) : (s.metLine l).eths = s.eths := by unfold State.metLine; split; rfl; exact (poisonFound_eths _ _).trans rfl
@[simp] theorem metLine_wv (s : State) (l : List Nat) : (s.metLine l).wv = s.wv := by unfold State.metLine; split; rfl; exact (poisonFound_wv _ _).trans rfl
@[simp] theorem metLine_graphs (s : State) (l : List Nat) : (s.metLine l).graphs = s.graphs := by unfold State.metLine; split; rfl; exact (poisonFound_graphs _ _).trans rfl
@[simp] theorem metLine_ready (s : State) (l : List Nat) : (s.metLine l).ready = s.ready := by unfold State.metLine; split; rfl; exact (poisonFound_ready _ _).trans rfl
@[simp] theorem metLine_ages (s : State) (l : List Nat) : (s.metLine l).ages = s.ages := by unfold State.metLine; split; rfl; exact (poisonFound_ages _ _).trans rfl
@[simp] theorem metLine_waitFrom (s : State) (l : List Nat) : (s.metLine l).waitFrom = s.waitFrom := by unfold State.metLine; split; rfl; exact (poisonFound_waitFrom _ _).trans rfl
@[simp] theorem metLine_conts (s : State) (l : List Nat) : (s.metLine l).conts = s.conts := by unfold State.metLine; split; rfl; exact (poisonFound_conts _ _).trans rfl
@[simp] theorem metLine_frames (s : State) (l : List Nat) : (s.metLine l).frames = s.frames := by unfold State.metLine; split; rfl; exact (poisonFound_frames _ _).trans rfl
@[simp] theorem metLine_replies (s : State) (l : List Nat) : (s.metLine l).replies = s.replies := by unfold State.metLine; split; rfl; exact (poisonFound_replies _ _).trans rfl
@[simp] theorem metLine_sockets (s : State) (l : List Nat) : (s.metLine l).sockets = s.sockets := by unfold State.metLine; split; rfl; exact (poisonFound_sockets _ _).trans rfl

@[simp] theorem readMet_agenda (s : State) (pa n : Nat) : (s.readMet pa n).agenda = s.agenda := by unfold State.readMet State.metIn; split <;> simp
@[simp] theorem readMet_toIssue (s : State) (pa n : Nat) : (s.readMet pa n).toIssue = s.toIssue := by unfold State.readMet State.metIn; split <;> simp
@[simp] theorem readMet_cur (s : State) (pa n : Nat) : (s.readMet pa n).cur = s.cur := by unfold State.readMet State.metIn; split <;> simp
@[simp] theorem readMet_cycle (s : State) (pa n : Nat) : (s.readMet pa n).cycle = s.cycle := by unfold State.readMet State.metIn; split <;> simp
@[simp] theorem readMet_seq (s : State) (pa n : Nat) : (s.readMet pa n).seq = s.seq := by unfold State.readMet State.metIn; split <;> simp
@[simp] theorem readMet_dstate (s : State) (pa n : Nat) : (s.readMet pa n).dstate = s.dstate := by unfold State.readMet State.metIn; split <;> simp
@[simp] theorem readMet_lastG3 (s : State) (pa n : Nat) : (s.readMet pa n).lastG3 = s.lastG3 := by unfold State.readMet State.metIn; split <;> simp
@[simp] theorem readMet_cap (s : State) (pa n : Nat) : (s.readMet pa n).cap = s.cap := by unfold State.readMet State.metIn; split <;> simp
@[simp] theorem readMet_capNext (s : State) (pa n : Nat) : (s.readMet pa n).capNext = s.capNext := by unfold State.readMet State.metIn; split <;> simp
@[simp] theorem readMet_lostCyc (s : State) (pa n : Nat) : (s.readMet pa n).lostCyc = s.lostCyc := by unfold State.readMet State.metIn; split <;> simp
@[simp] theorem readMet_lostAt (s : State) (pa n : Nat) : (s.readMet pa n).lostAt = s.lostAt := by unfold State.readMet State.metIn; split <;> simp
@[simp] theorem readMet_rails (s : State) (pa n : Nat) : (s.readMet pa n).rails = s.rails := by unfold State.readMet State.metIn; split <;> simp
@[simp] theorem readMet_held (s : State) (pa n : Nat) : (s.readMet pa n).held = s.held := by unfold State.readMet State.metIn; split <;> simp
@[simp] theorem readMet_fuses (s : State) (pa n : Nat) : (s.readMet pa n).fuses = s.fuses := by unfold State.readMet State.metIn; split <;> simp
@[simp] theorem readMet_boot (s : State) (pa n : Nat) : (s.readMet pa n).boot = s.boot := by unfold State.readMet State.metIn; split <;> simp
@[simp] theorem readMet_tenants (s : State) (pa n : Nat) : (s.readMet pa n).tenants = s.tenants := by unfold State.readMet State.metIn; split <;> simp
@[simp] theorem readMet_tiles (s : State) (pa n : Nat) : (s.readMet pa n).tiles = s.tiles := by unfold State.readMet State.metIn; split <;> simp
@[simp] theorem readMet_clusters (s : State) (pa n : Nat) : (s.readMet pa n).clusters = s.clusters := by unfold State.readMet State.metIn; split <;> simp
@[simp] theorem readMet_dies (s : State) (pa n : Nat) : (s.readMet pa n).dies = s.dies := by unfold State.readMet State.metIn; split <;> simp
@[simp] theorem readMet_cores (s : State) (pa n : Nat) : (s.readMet pa n).cores = s.cores := by unfold State.readMet State.metIn; split <;> simp
@[simp] theorem readMet_links (s : State) (pa n : Nat) : (s.readMet pa n).links = s.links := by unfold State.readMet State.metIn; split <;> simp
@[simp] theorem readMet_ports (s : State) (pa n : Nat) : (s.readMet pa n).ports = s.ports := by unfold State.readMet State.metIn; split <;> simp
@[simp] theorem readMet_eths (s : State) (pa n : Nat) : (s.readMet pa n).eths = s.eths := by unfold State.readMet State.metIn; split <;> simp
@[simp] theorem readMet_wv (s : State) (pa n : Nat) : (s.readMet pa n).wv = s.wv := by unfold State.readMet State.metIn; split <;> simp
@[simp] theorem readMet_graphs (s : State) (pa n : Nat) : (s.readMet pa n).graphs = s.graphs := by unfold State.readMet State.metIn; split <;> simp
@[simp] theorem readMet_ready (s : State) (pa n : Nat) : (s.readMet pa n).ready = s.ready := by unfold State.readMet State.metIn; split <;> simp
@[simp] theorem readMet_ages (s : State) (pa n : Nat) : (s.readMet pa n).ages = s.ages := by unfold State.readMet State.metIn; split <;> simp
@[simp] theorem readMet_waitFrom (s : State) (pa n : Nat) : (s.readMet pa n).waitFrom = s.waitFrom := by unfold State.readMet State.metIn; split <;> simp
@[simp] theorem readMet_conts (s : State) (pa n : Nat) : (s.readMet pa n).conts = s.conts := by unfold State.readMet State.metIn; split <;> simp
@[simp] theorem readMet_frames (s : State) (pa n : Nat) : (s.readMet pa n).frames = s.frames := by unfold State.readMet State.metIn; split <;> simp
@[simp] theorem readMet_replies (s : State) (pa n : Nat) : (s.readMet pa n).replies = s.replies := by unfold State.readMet State.metIn; split <;> simp
@[simp] theorem readMet_sockets (s : State) (pa n : Nat) : (s.readMet pa n).sockets = s.sockets := by unfold State.readMet State.metIn; split <;> simp

@[simp] theorem event_agenda (s : State) (n kind : Nat) (c : Option Cause) (info node : Nat) (user : W64) : (s.event n kind c info node user).agenda = s.agenda := by unfold State.event; dsimp only; (repeat' split) <;> simp
@[simp] theorem event_toIssue (s : State) (n kind : Nat) (c : Option Cause) (info node : Nat) (user : W64) : (s.event n kind c info node user).toIssue = s.toIssue := by unfold State.event; dsimp only; (repeat' split) <;> simp
@[simp] theorem event_cur (s : State) (n kind : Nat) (c : Option Cause) (info node : Nat) (user : W64) : (s.event n kind c info node user).cur = s.cur := by unfold State.event; dsimp only; (repeat' split) <;> simp
@[simp] theorem event_cycle (s : State) (n kind : Nat) (c : Option Cause) (info node : Nat) (user : W64) : (s.event n kind c info node user).cycle = s.cycle := by unfold State.event; dsimp only; (repeat' split) <;> simp
@[simp] theorem event_seq (s : State) (n kind : Nat) (c : Option Cause) (info node : Nat) (user : W64) : (s.event n kind c info node user).seq = s.seq := by unfold State.event; dsimp only; (repeat' split) <;> simp
@[simp] theorem event_dstate (s : State) (n kind : Nat) (c : Option Cause) (info node : Nat) (user : W64) : (s.event n kind c info node user).dstate = s.dstate := by unfold State.event; dsimp only; (repeat' split) <;> simp
@[simp] theorem event_lastG3 (s : State) (n kind : Nat) (c : Option Cause) (info node : Nat) (user : W64) : (s.event n kind c info node user).lastG3 = s.lastG3 := by unfold State.event; dsimp only; (repeat' split) <;> simp
@[simp] theorem event_cap (s : State) (n kind : Nat) (c : Option Cause) (info node : Nat) (user : W64) : (s.event n kind c info node user).cap = s.cap := by unfold State.event; dsimp only; (repeat' split) <;> simp
@[simp] theorem event_capNext (s : State) (n kind : Nat) (c : Option Cause) (info node : Nat) (user : W64) : (s.event n kind c info node user).capNext = s.capNext := by unfold State.event; dsimp only; (repeat' split) <;> simp
@[simp] theorem event_lostCyc (s : State) (n kind : Nat) (c : Option Cause) (info node : Nat) (user : W64) : (s.event n kind c info node user).lostCyc = s.lostCyc := by unfold State.event; dsimp only; (repeat' split) <;> simp
@[simp] theorem event_lostAt (s : State) (n kind : Nat) (c : Option Cause) (info node : Nat) (user : W64) : (s.event n kind c info node user).lostAt = s.lostAt := by unfold State.event; dsimp only; (repeat' split) <;> simp
@[simp] theorem event_rails (s : State) (n kind : Nat) (c : Option Cause) (info node : Nat) (user : W64) : (s.event n kind c info node user).rails = s.rails := by unfold State.event; dsimp only; (repeat' split) <;> simp
@[simp] theorem event_held (s : State) (n kind : Nat) (c : Option Cause) (info node : Nat) (user : W64) : (s.event n kind c info node user).held = s.held := by unfold State.event; dsimp only; (repeat' split) <;> simp
@[simp] theorem event_fuses (s : State) (n kind : Nat) (c : Option Cause) (info node : Nat) (user : W64) : (s.event n kind c info node user).fuses = s.fuses := by unfold State.event; dsimp only; (repeat' split) <;> simp
@[simp] theorem event_boot (s : State) (n kind : Nat) (c : Option Cause) (info node : Nat) (user : W64) : (s.event n kind c info node user).boot = s.boot := by unfold State.event; dsimp only; (repeat' split) <;> simp
@[simp] theorem event_tiles (s : State) (n kind : Nat) (c : Option Cause) (info node : Nat) (user : W64) : (s.event n kind c info node user).tiles = s.tiles := by unfold State.event; dsimp only; (repeat' split) <;> simp
@[simp] theorem event_clusters (s : State) (n kind : Nat) (c : Option Cause) (info node : Nat) (user : W64) : (s.event n kind c info node user).clusters = s.clusters := by unfold State.event; dsimp only; (repeat' split) <;> simp
@[simp] theorem event_dies (s : State) (n kind : Nat) (c : Option Cause) (info node : Nat) (user : W64) : (s.event n kind c info node user).dies = s.dies := by unfold State.event; dsimp only; (repeat' split) <;> simp
@[simp] theorem event_cores (s : State) (n kind : Nat) (c : Option Cause) (info node : Nat) (user : W64) : (s.event n kind c info node user).cores = s.cores := by unfold State.event; dsimp only; (repeat' split) <;> simp
@[simp] theorem event_links (s : State) (n kind : Nat) (c : Option Cause) (info node : Nat) (user : W64) : (s.event n kind c info node user).links = s.links := by unfold State.event; dsimp only; (repeat' split) <;> simp
@[simp] theorem event_ports (s : State) (n kind : Nat) (c : Option Cause) (info node : Nat) (user : W64) : (s.event n kind c info node user).ports = s.ports := by unfold State.event; dsimp only; (repeat' split) <;> simp
@[simp] theorem event_eths (s : State) (n kind : Nat) (c : Option Cause) (info node : Nat) (user : W64) : (s.event n kind c info node user).eths = s.eths := by unfold State.event; dsimp only; (repeat' split) <;> simp
@[simp] theorem event_wv (s : State) (n kind : Nat) (c : Option Cause) (info node : Nat) (user : W64) : (s.event n kind c info node user).wv = s.wv := by unfold State.event; dsimp only; (repeat' split) <;> simp
@[simp] theorem event_graphs (s : State) (n kind : Nat) (c : Option Cause) (info node : Nat) (user : W64) : (s.event n kind c info node user).graphs = s.graphs := by unfold State.event; dsimp only; (repeat' split) <;> simp
@[simp] theorem event_ready (s : State) (n kind : Nat) (c : Option Cause) (info node : Nat) (user : W64) : (s.event n kind c info node user).ready = s.ready := by unfold State.event; dsimp only; (repeat' split) <;> simp
@[simp] theorem event_ages (s : State) (n kind : Nat) (c : Option Cause) (info node : Nat) (user : W64) : (s.event n kind c info node user).ages = s.ages := by unfold State.event; dsimp only; (repeat' split) <;> simp
@[simp] theorem event_waitFrom (s : State) (n kind : Nat) (c : Option Cause) (info node : Nat) (user : W64) : (s.event n kind c info node user).waitFrom = s.waitFrom := by unfold State.event; dsimp only; (repeat' split) <;> simp
@[simp] theorem event_conts (s : State) (n kind : Nat) (c : Option Cause) (info node : Nat) (user : W64) : (s.event n kind c info node user).conts = s.conts := by unfold State.event; dsimp only; (repeat' split) <;> simp
@[simp] theorem event_frames (s : State) (n kind : Nat) (c : Option Cause) (info node : Nat) (user : W64) : (s.event n kind c info node user).frames = s.frames := by unfold State.event; dsimp only; (repeat' split) <;> simp
@[simp] theorem event_replies (s : State) (n kind : Nat) (c : Option Cause) (info node : Nat) (user : W64) : (s.event n kind c info node user).replies = s.replies := by unfold State.event; dsimp only; (repeat' split) <;> simp
@[simp] theorem event_sockets (s : State) (n kind : Nat) (c : Option Cause) (info node : Nat) (user : W64) : (s.event n kind c info node user).sockets = s.sockets := by unfold State.event; dsimp only; (repeat' split) <;> simp

@[simp] theorem toDState_agenda (s : State) (d : DState) (c : Cause) : (s.toDState d c).agenda = s.agenda := by unfold State.toDState; exact (foldl_keeps _ (fun s : State => s.agenda) (fun s n => by split <;> simp) _ _).trans rfl
@[simp] theorem toDState_toIssue (s : State) (d : DState) (c : Cause) : (s.toDState d c).toIssue = s.toIssue := by unfold State.toDState; exact (foldl_keeps _ (fun s : State => s.toIssue) (fun s n => by split <;> simp) _ _).trans rfl
@[simp] theorem toDState_cur (s : State) (d : DState) (c : Cause) : (s.toDState d c).cur = s.cur := by unfold State.toDState; exact (foldl_keeps _ (fun s : State => s.cur) (fun s n => by split <;> simp) _ _).trans rfl
@[simp] theorem toDState_cycle (s : State) (d : DState) (c : Cause) : (s.toDState d c).cycle = s.cycle := by unfold State.toDState; exact (foldl_keeps _ (fun s : State => s.cycle) (fun s n => by split <;> simp) _ _).trans rfl
@[simp] theorem toDState_seq (s : State) (d : DState) (c : Cause) : (s.toDState d c).seq = s.seq := by unfold State.toDState; exact (foldl_keeps _ (fun s : State => s.seq) (fun s n => by split <;> simp) _ _).trans rfl
@[simp] theorem toDState_lastG3 (s : State) (d : DState) (c : Cause) : (s.toDState d c).lastG3 = s.lastG3 := by unfold State.toDState; exact (foldl_keeps _ (fun s : State => s.lastG3) (fun s n => by split <;> simp) _ _).trans rfl
@[simp] theorem toDState_cap (s : State) (d : DState) (c : Cause) : (s.toDState d c).cap = s.cap := by unfold State.toDState; exact (foldl_keeps _ (fun s : State => s.cap) (fun s n => by split <;> simp) _ _).trans rfl
@[simp] theorem toDState_capNext (s : State) (d : DState) (c : Cause) : (s.toDState d c).capNext = s.capNext := by unfold State.toDState; exact (foldl_keeps _ (fun s : State => s.capNext) (fun s n => by split <;> simp) _ _).trans rfl
@[simp] theorem toDState_lostCyc (s : State) (d : DState) (c : Cause) : (s.toDState d c).lostCyc = s.lostCyc := by unfold State.toDState; exact (foldl_keeps _ (fun s : State => s.lostCyc) (fun s n => by split <;> simp) _ _).trans rfl
@[simp] theorem toDState_lostAt (s : State) (d : DState) (c : Cause) : (s.toDState d c).lostAt = s.lostAt := by unfold State.toDState; exact (foldl_keeps _ (fun s : State => s.lostAt) (fun s n => by split <;> simp) _ _).trans rfl
@[simp] theorem toDState_rails (s : State) (d : DState) (c : Cause) : (s.toDState d c).rails = s.rails := by unfold State.toDState; exact (foldl_keeps _ (fun s : State => s.rails) (fun s n => by split <;> simp) _ _).trans rfl
@[simp] theorem toDState_held (s : State) (d : DState) (c : Cause) : (s.toDState d c).held = s.held := by unfold State.toDState; exact (foldl_keeps _ (fun s : State => s.held) (fun s n => by split <;> simp) _ _).trans rfl
@[simp] theorem toDState_fuses (s : State) (d : DState) (c : Cause) : (s.toDState d c).fuses = s.fuses := by unfold State.toDState; exact (foldl_keeps _ (fun s : State => s.fuses) (fun s n => by split <;> simp) _ _).trans rfl
@[simp] theorem toDState_boot (s : State) (d : DState) (c : Cause) : (s.toDState d c).boot = s.boot := by unfold State.toDState; exact (foldl_keeps _ (fun s : State => s.boot) (fun s n => by split <;> simp) _ _).trans rfl
@[simp] theorem toDState_tiles (s : State) (d : DState) (c : Cause) : (s.toDState d c).tiles = s.tiles := by unfold State.toDState; exact (foldl_keeps _ (fun s : State => s.tiles) (fun s n => by split <;> simp) _ _).trans rfl
@[simp] theorem toDState_clusters (s : State) (d : DState) (c : Cause) : (s.toDState d c).clusters = s.clusters := by unfold State.toDState; exact (foldl_keeps _ (fun s : State => s.clusters) (fun s n => by split <;> simp) _ _).trans rfl
@[simp] theorem toDState_dies (s : State) (d : DState) (c : Cause) : (s.toDState d c).dies = s.dies := by unfold State.toDState; exact (foldl_keeps _ (fun s : State => s.dies) (fun s n => by split <;> simp) _ _).trans rfl
@[simp] theorem toDState_cores (s : State) (d : DState) (c : Cause) : (s.toDState d c).cores = s.cores := by unfold State.toDState; exact (foldl_keeps _ (fun s : State => s.cores) (fun s n => by split <;> simp) _ _).trans rfl
@[simp] theorem toDState_links (s : State) (d : DState) (c : Cause) : (s.toDState d c).links = s.links := by unfold State.toDState; exact (foldl_keeps _ (fun s : State => s.links) (fun s n => by split <;> simp) _ _).trans rfl
@[simp] theorem toDState_ports (s : State) (d : DState) (c : Cause) : (s.toDState d c).ports = s.ports := by unfold State.toDState; exact (foldl_keeps _ (fun s : State => s.ports) (fun s n => by split <;> simp) _ _).trans rfl
@[simp] theorem toDState_eths (s : State) (d : DState) (c : Cause) : (s.toDState d c).eths = s.eths := by unfold State.toDState; exact (foldl_keeps _ (fun s : State => s.eths) (fun s n => by split <;> simp) _ _).trans rfl
@[simp] theorem toDState_wv (s : State) (d : DState) (c : Cause) : (s.toDState d c).wv = s.wv := by unfold State.toDState; exact (foldl_keeps _ (fun s : State => s.wv) (fun s n => by split <;> simp) _ _).trans rfl
@[simp] theorem toDState_graphs (s : State) (d : DState) (c : Cause) : (s.toDState d c).graphs = s.graphs := by unfold State.toDState; exact (foldl_keeps _ (fun s : State => s.graphs) (fun s n => by split <;> simp) _ _).trans rfl
@[simp] theorem toDState_ready (s : State) (d : DState) (c : Cause) : (s.toDState d c).ready = s.ready := by unfold State.toDState; exact (foldl_keeps _ (fun s : State => s.ready) (fun s n => by split <;> simp) _ _).trans rfl
@[simp] theorem toDState_ages (s : State) (d : DState) (c : Cause) : (s.toDState d c).ages = s.ages := by unfold State.toDState; exact (foldl_keeps _ (fun s : State => s.ages) (fun s n => by split <;> simp) _ _).trans rfl
@[simp] theorem toDState_waitFrom (s : State) (d : DState) (c : Cause) : (s.toDState d c).waitFrom = s.waitFrom := by unfold State.toDState; exact (foldl_keeps _ (fun s : State => s.waitFrom) (fun s n => by split <;> simp) _ _).trans rfl
@[simp] theorem toDState_conts (s : State) (d : DState) (c : Cause) : (s.toDState d c).conts = s.conts := by unfold State.toDState; exact (foldl_keeps _ (fun s : State => s.conts) (fun s n => by split <;> simp) _ _).trans rfl
@[simp] theorem toDState_frames (s : State) (d : DState) (c : Cause) : (s.toDState d c).frames = s.frames := by unfold State.toDState; exact (foldl_keeps _ (fun s : State => s.frames) (fun s n => by split <;> simp) _ _).trans rfl
@[simp] theorem toDState_replies (s : State) (d : DState) (c : Cause) : (s.toDState d c).replies = s.replies := by unfold State.toDState; exact (foldl_keeps _ (fun s : State => s.replies) (fun s n => by split <;> simp) _ _).trans rfl
@[simp] theorem toDState_sockets (s : State) (d : DState) (c : Cause) : (s.toDState d c).sockets = s.sockets := by unfold State.toDState; exact (foldl_keeps _ (fun s : State => s.sockets) (fun s n => by split <;> simp) _ _).trans rfl

@[simp] theorem cutQuarantined_agenda (s : State) : (s.cutQuarantined).agenda = s.agenda := by unfold State.cutQuarantined; split; rfl; dsimp only; exact foldl_keeps _ (fun s : State => s.agenda) (fun _ _ => by rfl) _ _
@[simp] theorem cutQuarantined_toIssue (s : State) : (s.cutQuarantined).toIssue = s.toIssue := by unfold State.cutQuarantined; split; rfl; dsimp only; exact foldl_keeps _ (fun s : State => s.toIssue) (fun _ _ => by rfl) _ _
@[simp] theorem cutQuarantined_cur (s : State) : (s.cutQuarantined).cur = s.cur := by unfold State.cutQuarantined; split; rfl; dsimp only; exact foldl_keeps _ (fun s : State => s.cur) (fun _ _ => by rfl) _ _
@[simp] theorem cutQuarantined_fresh (s : State) : (s.cutQuarantined).fresh = s.fresh := by unfold State.cutQuarantined; split; rfl; dsimp only; exact foldl_keeps _ (fun s : State => s.fresh) (fun _ _ => by rfl) _ _
@[simp] theorem cutQuarantined_cycle (s : State) : (s.cutQuarantined).cycle = s.cycle := by unfold State.cutQuarantined; split; rfl; dsimp only; exact foldl_keeps _ (fun s : State => s.cycle) (fun _ _ => by rfl) _ _
@[simp] theorem cutQuarantined_seq (s : State) : (s.cutQuarantined).seq = s.seq := by unfold State.cutQuarantined; split; rfl; dsimp only; exact foldl_keeps _ (fun s : State => s.seq) (fun _ _ => by rfl) _ _
@[simp] theorem cutQuarantined_dstate (s : State) : (s.cutQuarantined).dstate = s.dstate := by unfold State.cutQuarantined; split; rfl; dsimp only; exact foldl_keeps _ (fun s : State => s.dstate) (fun _ _ => by rfl) _ _
@[simp] theorem cutQuarantined_lastG3 (s : State) : (s.cutQuarantined).lastG3 = s.lastG3 := by unfold State.cutQuarantined; split; rfl; dsimp only; exact foldl_keeps _ (fun s : State => s.lastG3) (fun _ _ => by rfl) _ _
@[simp] theorem cutQuarantined_cap (s : State) : (s.cutQuarantined).cap = s.cap := by unfold State.cutQuarantined; split; rfl; dsimp only; exact foldl_keeps _ (fun s : State => s.cap) (fun _ _ => by rfl) _ _
@[simp] theorem cutQuarantined_capNext (s : State) : (s.cutQuarantined).capNext = s.capNext := by unfold State.cutQuarantined; split; rfl; dsimp only; exact foldl_keeps _ (fun s : State => s.capNext) (fun _ _ => by rfl) _ _
@[simp] theorem cutQuarantined_lostCyc (s : State) : (s.cutQuarantined).lostCyc = s.lostCyc := by unfold State.cutQuarantined; split; rfl; dsimp only; exact foldl_keeps _ (fun s : State => s.lostCyc) (fun _ _ => by rfl) _ _
@[simp] theorem cutQuarantined_lostAt (s : State) : (s.cutQuarantined).lostAt = s.lostAt := by unfold State.cutQuarantined; split; rfl; dsimp only; exact foldl_keeps _ (fun s : State => s.lostAt) (fun _ _ => by rfl) _ _
@[simp] theorem cutQuarantined_rails (s : State) : (s.cutQuarantined).rails = s.rails := by unfold State.cutQuarantined; split; rfl; dsimp only; exact foldl_keeps _ (fun s : State => s.rails) (fun _ _ => by rfl) _ _
@[simp] theorem cutQuarantined_held (s : State) : (s.cutQuarantined).held = s.held := by unfold State.cutQuarantined; split; rfl; dsimp only; exact foldl_keeps _ (fun s : State => s.held) (fun _ _ => by rfl) _ _
@[simp] theorem cutQuarantined_fuses (s : State) : (s.cutQuarantined).fuses = s.fuses := by unfold State.cutQuarantined; split; rfl; dsimp only; exact foldl_keeps _ (fun s : State => s.fuses) (fun _ _ => by rfl) _ _
@[simp] theorem cutQuarantined_boot (s : State) : (s.cutQuarantined).boot = s.boot := by unfold State.cutQuarantined; split; rfl; dsimp only; exact foldl_keeps _ (fun s : State => s.boot) (fun _ _ => by rfl) _ _
@[simp] theorem cutQuarantined_kregs (s : State) : (s.cutQuarantined).kregs = s.kregs := by unfold State.cutQuarantined; split; rfl; dsimp only; exact foldl_keeps _ (fun s : State => s.kregs) (fun _ _ => by rfl) _ _
@[simp] theorem cutQuarantined_mem (s : State) : (s.cutQuarantined).mem = s.mem := by unfold State.cutQuarantined; split; rfl; dsimp only; exact foldl_keeps _ (fun s : State => s.mem) (fun _ _ => by rfl) _ _
@[simp] theorem cutQuarantined_poison (s : State) : (s.cutQuarantined).poison = s.poison := by unfold State.cutQuarantined; split; rfl; dsimp only; exact foldl_keeps _ (fun s : State => s.poison) (fun _ _ => by rfl) _ _
@[simp] theorem cutQuarantined_tenants (s : State) : (s.cutQuarantined).tenants = s.tenants := by unfold State.cutQuarantined; split; rfl; dsimp only; exact foldl_keeps _ (fun s : State => s.tenants) (fun _ _ => by rfl) _ _
@[simp] theorem cutQuarantined_clusters (s : State) : (s.cutQuarantined).clusters = s.clusters := by unfold State.cutQuarantined; split; rfl; dsimp only; exact foldl_keeps _ (fun s : State => s.clusters) (fun _ _ => by rfl) _ _
@[simp] theorem cutQuarantined_dies (s : State) : (s.cutQuarantined).dies = s.dies := by unfold State.cutQuarantined; split; rfl; dsimp only; exact foldl_keeps _ (fun s : State => s.dies) (fun _ _ => by rfl) _ _
@[simp] theorem cutQuarantined_cores (s : State) : (s.cutQuarantined).cores = s.cores := by unfold State.cutQuarantined; split; rfl; dsimp only; exact foldl_keeps _ (fun s : State => s.cores) (fun _ _ => by rfl) _ _
@[simp] theorem cutQuarantined_links (s : State) : (s.cutQuarantined).links = s.links := by unfold State.cutQuarantined; split; rfl; dsimp only; exact foldl_keeps _ (fun s : State => s.links) (fun _ _ => by rfl) _ _
@[simp] theorem cutQuarantined_ports (s : State) : (s.cutQuarantined).ports = s.ports := by unfold State.cutQuarantined; split; rfl; dsimp only; exact foldl_keeps _ (fun s : State => s.ports) (fun _ _ => by rfl) _ _
@[simp] theorem cutQuarantined_eths (s : State) : (s.cutQuarantined).eths = s.eths := by unfold State.cutQuarantined; split; rfl; dsimp only; exact foldl_keeps _ (fun s : State => s.eths) (fun _ _ => by rfl) _ _
@[simp] theorem cutQuarantined_health (s : State) : (s.cutQuarantined).health = s.health := by unfold State.cutQuarantined; split; rfl; dsimp only; exact foldl_keeps _ (fun s : State => s.health) (fun _ _ => by rfl) _ _
@[simp] theorem cutQuarantined_wv (s : State) : (s.cutQuarantined).wv = s.wv := by unfold State.cutQuarantined; split; rfl; dsimp only; exact foldl_keeps _ (fun s : State => s.wv) (fun _ _ => by rfl) _ _
@[simp] theorem cutQuarantined_graphs (s : State) : (s.cutQuarantined).graphs = s.graphs := by unfold State.cutQuarantined; split; rfl; dsimp only; exact foldl_keeps _ (fun s : State => s.graphs) (fun _ _ => by rfl) _ _
@[simp] theorem cutQuarantined_ready (s : State) : (s.cutQuarantined).ready = s.ready := by unfold State.cutQuarantined; split; rfl; dsimp only; exact foldl_keeps _ (fun s : State => s.ready) (fun _ _ => by rfl) _ _
@[simp] theorem cutQuarantined_ages (s : State) : (s.cutQuarantined).ages = s.ages := by unfold State.cutQuarantined; split; rfl; dsimp only; exact foldl_keeps _ (fun s : State => s.ages) (fun _ _ => by rfl) _ _
@[simp] theorem cutQuarantined_waitFrom (s : State) : (s.cutQuarantined).waitFrom = s.waitFrom := by unfold State.cutQuarantined; split; rfl; dsimp only; exact foldl_keeps _ (fun s : State => s.waitFrom) (fun _ _ => by rfl) _ _
@[simp] theorem cutQuarantined_conts (s : State) : (s.cutQuarantined).conts = s.conts := by unfold State.cutQuarantined; split; rfl; dsimp only; exact foldl_keeps _ (fun s : State => s.conts) (fun _ _ => by rfl) _ _
@[simp] theorem cutQuarantined_frames (s : State) : (s.cutQuarantined).frames = s.frames := by unfold State.cutQuarantined; split; rfl; dsimp only; exact foldl_keeps _ (fun s : State => s.frames) (fun _ _ => by rfl) _ _
@[simp] theorem cutQuarantined_replies (s : State) : (s.cutQuarantined).replies = s.replies := by unfold State.cutQuarantined; split; rfl; dsimp only; exact foldl_keeps _ (fun s : State => s.replies) (fun _ _ => by rfl) _ _
@[simp] theorem cutQuarantined_sockets (s : State) : (s.cutQuarantined).sockets = s.sockets := by unfold State.cutQuarantined; split; rfl; dsimp only; exact foldl_keeps _ (fun s : State => s.sockets) (fun _ _ => by rfl) _ _

@[simp] theorem g3_agenda (s : State) (c : Cause) : (s.g3 c).agenda = s.agenda := by unfold State.g3; dsimp only; split <;> simp
@[simp] theorem g3_toIssue (s : State) (c : Cause) : (s.g3 c).toIssue = s.toIssue := by unfold State.g3; dsimp only; split <;> simp
@[simp] theorem g3_cur (s : State) (c : Cause) : (s.g3 c).cur = s.cur := by unfold State.g3; dsimp only; split <;> simp
@[simp] theorem g3_cycle (s : State) (c : Cause) : (s.g3 c).cycle = s.cycle := by unfold State.g3; dsimp only; split <;> simp
@[simp] theorem g3_seq (s : State) (c : Cause) : (s.g3 c).seq = s.seq := by unfold State.g3; dsimp only; split <;> simp
@[simp] theorem g3_cap (s : State) (c : Cause) : (s.g3 c).cap = s.cap := by unfold State.g3; dsimp only; split <;> simp
@[simp] theorem g3_capNext (s : State) (c : Cause) : (s.g3 c).capNext = s.capNext := by unfold State.g3; dsimp only; split <;> simp
@[simp] theorem g3_lostCyc (s : State) (c : Cause) : (s.g3 c).lostCyc = s.lostCyc := by unfold State.g3; dsimp only; split <;> simp
@[simp] theorem g3_lostAt (s : State) (c : Cause) : (s.g3 c).lostAt = s.lostAt := by unfold State.g3; dsimp only; split <;> simp
@[simp] theorem g3_rails (s : State) (c : Cause) : (s.g3 c).rails = s.rails := by unfold State.g3; dsimp only; split <;> simp
@[simp] theorem g3_held (s : State) (c : Cause) : (s.g3 c).held = s.held := by unfold State.g3; dsimp only; split <;> simp
@[simp] theorem g3_fuses (s : State) (c : Cause) : (s.g3 c).fuses = s.fuses := by unfold State.g3; dsimp only; split <;> simp
@[simp] theorem g3_boot (s : State) (c : Cause) : (s.g3 c).boot = s.boot := by unfold State.g3; dsimp only; split <;> simp
@[simp] theorem g3_clusters (s : State) (c : Cause) : (s.g3 c).clusters = s.clusters := by unfold State.g3; dsimp only; split <;> simp
@[simp] theorem g3_dies (s : State) (c : Cause) : (s.g3 c).dies = s.dies := by unfold State.g3; dsimp only; split <;> simp
@[simp] theorem g3_cores (s : State) (c : Cause) : (s.g3 c).cores = s.cores := by unfold State.g3; dsimp only; split <;> simp
@[simp] theorem g3_links (s : State) (c : Cause) : (s.g3 c).links = s.links := by unfold State.g3; dsimp only; split <;> simp
@[simp] theorem g3_ports (s : State) (c : Cause) : (s.g3 c).ports = s.ports := by unfold State.g3; dsimp only; split <;> simp
@[simp] theorem g3_eths (s : State) (c : Cause) : (s.g3 c).eths = s.eths := by unfold State.g3; dsimp only; split <;> simp
@[simp] theorem g3_wv (s : State) (c : Cause) : (s.g3 c).wv = s.wv := by unfold State.g3; dsimp only; split <;> simp
@[simp] theorem g3_graphs (s : State) (c : Cause) : (s.g3 c).graphs = s.graphs := by unfold State.g3; dsimp only; split <;> simp
@[simp] theorem g3_ready (s : State) (c : Cause) : (s.g3 c).ready = s.ready := by unfold State.g3; dsimp only; split <;> simp
@[simp] theorem g3_ages (s : State) (c : Cause) : (s.g3 c).ages = s.ages := by unfold State.g3; dsimp only; split <;> simp
@[simp] theorem g3_waitFrom (s : State) (c : Cause) : (s.g3 c).waitFrom = s.waitFrom := by unfold State.g3; dsimp only; split <;> simp
@[simp] theorem g3_conts (s : State) (c : Cause) : (s.g3 c).conts = s.conts := by unfold State.g3; dsimp only; split <;> simp
@[simp] theorem g3_frames (s : State) (c : Cause) : (s.g3 c).frames = s.frames := by unfold State.g3; dsimp only; split <;> simp
@[simp] theorem g3_replies (s : State) (c : Cause) : (s.g3 c).replies = s.replies := by unfold State.g3; dsimp only; split <;> simp
@[simp] theorem g3_sockets (s : State) (c : Cause) : (s.g3 c).sockets = s.sockets := by unfold State.g3; dsimp only; split <;> simp

@[simp] theorem reply_agenda (s : State) (r : MgmtReq) (st : BitVec 16) (b : List Byte) : (s.reply r st b).agenda = s.agenda := rfl
@[simp] theorem reply_toIssue (s : State) (r : MgmtReq) (st : BitVec 16) (b : List Byte) : (s.reply r st b).toIssue = s.toIssue := rfl
@[simp] theorem reply_cur (s : State) (r : MgmtReq) (st : BitVec 16) (b : List Byte) : (s.reply r st b).cur = s.cur := rfl
@[simp] theorem reply_fresh (s : State) (r : MgmtReq) (st : BitVec 16) (b : List Byte) : (s.reply r st b).fresh = s.fresh := rfl
@[simp] theorem reply_cycle (s : State) (r : MgmtReq) (st : BitVec 16) (b : List Byte) : (s.reply r st b).cycle = s.cycle := rfl
@[simp] theorem reply_seq (s : State) (r : MgmtReq) (st : BitVec 16) (b : List Byte) : (s.reply r st b).seq = s.seq := rfl
@[simp] theorem reply_dstate (s : State) (r : MgmtReq) (st : BitVec 16) (b : List Byte) : (s.reply r st b).dstate = s.dstate := rfl
@[simp] theorem reply_lastG3 (s : State) (r : MgmtReq) (st : BitVec 16) (b : List Byte) : (s.reply r st b).lastG3 = s.lastG3 := rfl
@[simp] theorem reply_cap (s : State) (r : MgmtReq) (st : BitVec 16) (b : List Byte) : (s.reply r st b).cap = s.cap := rfl
@[simp] theorem reply_capNext (s : State) (r : MgmtReq) (st : BitVec 16) (b : List Byte) : (s.reply r st b).capNext = s.capNext := rfl
@[simp] theorem reply_lostCyc (s : State) (r : MgmtReq) (st : BitVec 16) (b : List Byte) : (s.reply r st b).lostCyc = s.lostCyc := rfl
@[simp] theorem reply_lostAt (s : State) (r : MgmtReq) (st : BitVec 16) (b : List Byte) : (s.reply r st b).lostAt = s.lostAt := rfl
@[simp] theorem reply_rails (s : State) (r : MgmtReq) (st : BitVec 16) (b : List Byte) : (s.reply r st b).rails = s.rails := rfl
@[simp] theorem reply_held (s : State) (r : MgmtReq) (st : BitVec 16) (b : List Byte) : (s.reply r st b).held = s.held := rfl
@[simp] theorem reply_fuses (s : State) (r : MgmtReq) (st : BitVec 16) (b : List Byte) : (s.reply r st b).fuses = s.fuses := rfl
@[simp] theorem reply_boot (s : State) (r : MgmtReq) (st : BitVec 16) (b : List Byte) : (s.reply r st b).boot = s.boot := rfl
@[simp] theorem reply_kregs (s : State) (r : MgmtReq) (st : BitVec 16) (b : List Byte) : (s.reply r st b).kregs = s.kregs := rfl
@[simp] theorem reply_mem (s : State) (r : MgmtReq) (st : BitVec 16) (b : List Byte) : (s.reply r st b).mem = s.mem := rfl
@[simp] theorem reply_poison (s : State) (r : MgmtReq) (st : BitVec 16) (b : List Byte) : (s.reply r st b).poison = s.poison := rfl
@[simp] theorem reply_tenants (s : State) (r : MgmtReq) (st : BitVec 16) (b : List Byte) : (s.reply r st b).tenants = s.tenants := rfl
@[simp] theorem reply_tiles (s : State) (r : MgmtReq) (st : BitVec 16) (b : List Byte) : (s.reply r st b).tiles = s.tiles := rfl
@[simp] theorem reply_clusters (s : State) (r : MgmtReq) (st : BitVec 16) (b : List Byte) : (s.reply r st b).clusters = s.clusters := rfl
@[simp] theorem reply_dies (s : State) (r : MgmtReq) (st : BitVec 16) (b : List Byte) : (s.reply r st b).dies = s.dies := rfl
@[simp] theorem reply_cores (s : State) (r : MgmtReq) (st : BitVec 16) (b : List Byte) : (s.reply r st b).cores = s.cores := rfl
@[simp] theorem reply_links (s : State) (r : MgmtReq) (st : BitVec 16) (b : List Byte) : (s.reply r st b).links = s.links := rfl
@[simp] theorem reply_ports (s : State) (r : MgmtReq) (st : BitVec 16) (b : List Byte) : (s.reply r st b).ports = s.ports := rfl
@[simp] theorem reply_eths (s : State) (r : MgmtReq) (st : BitVec 16) (b : List Byte) : (s.reply r st b).eths = s.eths := rfl
@[simp] theorem reply_health (s : State) (r : MgmtReq) (st : BitVec 16) (b : List Byte) : (s.reply r st b).health = s.health := rfl
@[simp] theorem reply_wv (s : State) (r : MgmtReq) (st : BitVec 16) (b : List Byte) : (s.reply r st b).wv = s.wv := rfl
@[simp] theorem reply_graphs (s : State) (r : MgmtReq) (st : BitVec 16) (b : List Byte) : (s.reply r st b).graphs = s.graphs := rfl
@[simp] theorem reply_ready (s : State) (r : MgmtReq) (st : BitVec 16) (b : List Byte) : (s.reply r st b).ready = s.ready := rfl
@[simp] theorem reply_ages (s : State) (r : MgmtReq) (st : BitVec 16) (b : List Byte) : (s.reply r st b).ages = s.ages := rfl
@[simp] theorem reply_waitFrom (s : State) (r : MgmtReq) (st : BitVec 16) (b : List Byte) : (s.reply r st b).waitFrom = s.waitFrom := rfl
@[simp] theorem reply_conts (s : State) (r : MgmtReq) (st : BitVec 16) (b : List Byte) : (s.reply r st b).conts = s.conts := rfl
@[simp] theorem reply_frames (s : State) (r : MgmtReq) (st : BitVec 16) (b : List Byte) : (s.reply r st b).frames = s.frames := rfl
@[simp] theorem reply_sockets (s : State) (r : MgmtReq) (st : BitVec 16) (b : List Byte) : (s.reply r st b).sockets = s.sockets := rfl

@[simp] theorem modEth_agenda (s : State) (n : Nat) (f : EthPort → EthPort) : (s.modEth n f).agenda = s.agenda := rfl
@[simp] theorem modEth_toIssue (s : State) (n : Nat) (f : EthPort → EthPort) : (s.modEth n f).toIssue = s.toIssue := rfl
@[simp] theorem modEth_cur (s : State) (n : Nat) (f : EthPort → EthPort) : (s.modEth n f).cur = s.cur := rfl
@[simp] theorem modEth_fresh (s : State) (n : Nat) (f : EthPort → EthPort) : (s.modEth n f).fresh = s.fresh := rfl
@[simp] theorem modEth_cycle (s : State) (n : Nat) (f : EthPort → EthPort) : (s.modEth n f).cycle = s.cycle := rfl
@[simp] theorem modEth_seq (s : State) (n : Nat) (f : EthPort → EthPort) : (s.modEth n f).seq = s.seq := rfl
@[simp] theorem modEth_dstate (s : State) (n : Nat) (f : EthPort → EthPort) : (s.modEth n f).dstate = s.dstate := rfl
@[simp] theorem modEth_lastG3 (s : State) (n : Nat) (f : EthPort → EthPort) : (s.modEth n f).lastG3 = s.lastG3 := rfl
@[simp] theorem modEth_cap (s : State) (n : Nat) (f : EthPort → EthPort) : (s.modEth n f).cap = s.cap := rfl
@[simp] theorem modEth_capNext (s : State) (n : Nat) (f : EthPort → EthPort) : (s.modEth n f).capNext = s.capNext := rfl
@[simp] theorem modEth_lostCyc (s : State) (n : Nat) (f : EthPort → EthPort) : (s.modEth n f).lostCyc = s.lostCyc := rfl
@[simp] theorem modEth_lostAt (s : State) (n : Nat) (f : EthPort → EthPort) : (s.modEth n f).lostAt = s.lostAt := rfl
@[simp] theorem modEth_rails (s : State) (n : Nat) (f : EthPort → EthPort) : (s.modEth n f).rails = s.rails := rfl
@[simp] theorem modEth_held (s : State) (n : Nat) (f : EthPort → EthPort) : (s.modEth n f).held = s.held := rfl
@[simp] theorem modEth_fuses (s : State) (n : Nat) (f : EthPort → EthPort) : (s.modEth n f).fuses = s.fuses := rfl
@[simp] theorem modEth_boot (s : State) (n : Nat) (f : EthPort → EthPort) : (s.modEth n f).boot = s.boot := rfl
@[simp] theorem modEth_kregs (s : State) (n : Nat) (f : EthPort → EthPort) : (s.modEth n f).kregs = s.kregs := rfl
@[simp] theorem modEth_mem (s : State) (n : Nat) (f : EthPort → EthPort) : (s.modEth n f).mem = s.mem := rfl
@[simp] theorem modEth_poison (s : State) (n : Nat) (f : EthPort → EthPort) : (s.modEth n f).poison = s.poison := rfl
@[simp] theorem modEth_tenants (s : State) (n : Nat) (f : EthPort → EthPort) : (s.modEth n f).tenants = s.tenants := rfl
@[simp] theorem modEth_tiles (s : State) (n : Nat) (f : EthPort → EthPort) : (s.modEth n f).tiles = s.tiles := rfl
@[simp] theorem modEth_clusters (s : State) (n : Nat) (f : EthPort → EthPort) : (s.modEth n f).clusters = s.clusters := rfl
@[simp] theorem modEth_dies (s : State) (n : Nat) (f : EthPort → EthPort) : (s.modEth n f).dies = s.dies := rfl
@[simp] theorem modEth_cores (s : State) (n : Nat) (f : EthPort → EthPort) : (s.modEth n f).cores = s.cores := rfl
@[simp] theorem modEth_links (s : State) (n : Nat) (f : EthPort → EthPort) : (s.modEth n f).links = s.links := rfl
@[simp] theorem modEth_ports (s : State) (n : Nat) (f : EthPort → EthPort) : (s.modEth n f).ports = s.ports := rfl
@[simp] theorem modEth_health (s : State) (n : Nat) (f : EthPort → EthPort) : (s.modEth n f).health = s.health := rfl
@[simp] theorem modEth_wv (s : State) (n : Nat) (f : EthPort → EthPort) : (s.modEth n f).wv = s.wv := rfl
@[simp] theorem modEth_graphs (s : State) (n : Nat) (f : EthPort → EthPort) : (s.modEth n f).graphs = s.graphs := rfl
@[simp] theorem modEth_ready (s : State) (n : Nat) (f : EthPort → EthPort) : (s.modEth n f).ready = s.ready := rfl
@[simp] theorem modEth_ages (s : State) (n : Nat) (f : EthPort → EthPort) : (s.modEth n f).ages = s.ages := rfl
@[simp] theorem modEth_waitFrom (s : State) (n : Nat) (f : EthPort → EthPort) : (s.modEth n f).waitFrom = s.waitFrom := rfl
@[simp] theorem modEth_conts (s : State) (n : Nat) (f : EthPort → EthPort) : (s.modEth n f).conts = s.conts := rfl
@[simp] theorem modEth_frames (s : State) (n : Nat) (f : EthPort → EthPort) : (s.modEth n f).frames = s.frames := rfl
@[simp] theorem modEth_replies (s : State) (n : Nat) (f : EthPort → EthPort) : (s.modEth n f).replies = s.replies := rfl
@[simp] theorem modEth_sockets (s : State) (n : Nat) (f : EthPort → EthPort) : (s.modEth n f).sockets = s.sockets := rfl

@[simp] theorem newHealth_agenda (s : State) (u : UnitName) (n : Nat) (h : Health) (c : Cause) (m : Nat) : (s.newHealth u n h c m).agenda = s.agenda := by simp [State.newHealth]
@[simp] theorem newHealth_toIssue (s : State) (u : UnitName) (n : Nat) (h : Health) (c : Cause) (m : Nat) : (s.newHealth u n h c m).toIssue = s.toIssue := by simp [State.newHealth]
@[simp] theorem newHealth_cur (s : State) (u : UnitName) (n : Nat) (h : Health) (c : Cause) (m : Nat) : (s.newHealth u n h c m).cur = s.cur := by simp [State.newHealth]
@[simp] theorem newHealth_fresh (s : State) (u : UnitName) (n : Nat) (h : Health) (c : Cause) (m : Nat) : (s.newHealth u n h c m).fresh = s.fresh := by simp [State.newHealth]
@[simp] theorem newHealth_cycle (s : State) (u : UnitName) (n : Nat) (h : Health) (c : Cause) (m : Nat) : (s.newHealth u n h c m).cycle = s.cycle := by simp [State.newHealth]
@[simp] theorem newHealth_seq (s : State) (u : UnitName) (n : Nat) (h : Health) (c : Cause) (m : Nat) : (s.newHealth u n h c m).seq = s.seq := by simp [State.newHealth]
@[simp] theorem newHealth_dstate (s : State) (u : UnitName) (n : Nat) (h : Health) (c : Cause) (m : Nat) : (s.newHealth u n h c m).dstate = s.dstate := by simp [State.newHealth]
@[simp] theorem newHealth_lastG3 (s : State) (u : UnitName) (n : Nat) (h : Health) (c : Cause) (m : Nat) : (s.newHealth u n h c m).lastG3 = s.lastG3 := by simp [State.newHealth]
@[simp] theorem newHealth_cap (s : State) (u : UnitName) (n : Nat) (h : Health) (c : Cause) (m : Nat) : (s.newHealth u n h c m).cap = s.cap := by simp [State.newHealth]
@[simp] theorem newHealth_capNext (s : State) (u : UnitName) (n : Nat) (h : Health) (c : Cause) (m : Nat) : (s.newHealth u n h c m).capNext = s.capNext := by simp [State.newHealth]
@[simp] theorem newHealth_lostCyc (s : State) (u : UnitName) (n : Nat) (h : Health) (c : Cause) (m : Nat) : (s.newHealth u n h c m).lostCyc = s.lostCyc := by simp [State.newHealth]
@[simp] theorem newHealth_lostAt (s : State) (u : UnitName) (n : Nat) (h : Health) (c : Cause) (m : Nat) : (s.newHealth u n h c m).lostAt = s.lostAt := by simp [State.newHealth]
@[simp] theorem newHealth_rails (s : State) (u : UnitName) (n : Nat) (h : Health) (c : Cause) (m : Nat) : (s.newHealth u n h c m).rails = s.rails := by simp [State.newHealth]
@[simp] theorem newHealth_held (s : State) (u : UnitName) (n : Nat) (h : Health) (c : Cause) (m : Nat) : (s.newHealth u n h c m).held = s.held := by simp [State.newHealth]
@[simp] theorem newHealth_fuses (s : State) (u : UnitName) (n : Nat) (h : Health) (c : Cause) (m : Nat) : (s.newHealth u n h c m).fuses = s.fuses := by simp [State.newHealth]
@[simp] theorem newHealth_boot (s : State) (u : UnitName) (n : Nat) (h : Health) (c : Cause) (m : Nat) : (s.newHealth u n h c m).boot = s.boot := by simp [State.newHealth]
@[simp] theorem newHealth_tenants (s : State) (u : UnitName) (n : Nat) (h : Health) (c : Cause) (m : Nat) : (s.newHealth u n h c m).tenants = s.tenants := by simp [State.newHealth]
@[simp] theorem newHealth_clusters (s : State) (u : UnitName) (n : Nat) (h : Health) (c : Cause) (m : Nat) : (s.newHealth u n h c m).clusters = s.clusters := by simp [State.newHealth]
@[simp] theorem newHealth_dies (s : State) (u : UnitName) (n : Nat) (h : Health) (c : Cause) (m : Nat) : (s.newHealth u n h c m).dies = s.dies := by simp [State.newHealth]
@[simp] theorem newHealth_cores (s : State) (u : UnitName) (n : Nat) (h : Health) (c : Cause) (m : Nat) : (s.newHealth u n h c m).cores = s.cores := by simp [State.newHealth]
@[simp] theorem newHealth_links (s : State) (u : UnitName) (n : Nat) (h : Health) (c : Cause) (m : Nat) : (s.newHealth u n h c m).links = s.links := by simp [State.newHealth]
@[simp] theorem newHealth_ports (s : State) (u : UnitName) (n : Nat) (h : Health) (c : Cause) (m : Nat) : (s.newHealth u n h c m).ports = s.ports := by simp [State.newHealth]
@[simp] theorem newHealth_eths (s : State) (u : UnitName) (n : Nat) (h : Health) (c : Cause) (m : Nat) : (s.newHealth u n h c m).eths = s.eths := by simp [State.newHealth]
@[simp] theorem newHealth_wv (s : State) (u : UnitName) (n : Nat) (h : Health) (c : Cause) (m : Nat) : (s.newHealth u n h c m).wv = s.wv := by simp [State.newHealth]
@[simp] theorem newHealth_graphs (s : State) (u : UnitName) (n : Nat) (h : Health) (c : Cause) (m : Nat) : (s.newHealth u n h c m).graphs = s.graphs := by simp [State.newHealth]
@[simp] theorem newHealth_ready (s : State) (u : UnitName) (n : Nat) (h : Health) (c : Cause) (m : Nat) : (s.newHealth u n h c m).ready = s.ready := by simp [State.newHealth]
@[simp] theorem newHealth_ages (s : State) (u : UnitName) (n : Nat) (h : Health) (c : Cause) (m : Nat) : (s.newHealth u n h c m).ages = s.ages := by simp [State.newHealth]
@[simp] theorem newHealth_waitFrom (s : State) (u : UnitName) (n : Nat) (h : Health) (c : Cause) (m : Nat) : (s.newHealth u n h c m).waitFrom = s.waitFrom := by simp [State.newHealth]
@[simp] theorem newHealth_conts (s : State) (u : UnitName) (n : Nat) (h : Health) (c : Cause) (m : Nat) : (s.newHealth u n h c m).conts = s.conts := by simp [State.newHealth]
@[simp] theorem newHealth_frames (s : State) (u : UnitName) (n : Nat) (h : Health) (c : Cause) (m : Nat) : (s.newHealth u n h c m).frames = s.frames := by simp [State.newHealth]
@[simp] theorem newHealth_replies (s : State) (u : UnitName) (n : Nat) (h : Health) (c : Cause) (m : Nat) : (s.newHealth u n h c m).replies = s.replies := by simp [State.newHealth]
@[simp] theorem newHealth_sockets (s : State) (u : UnitName) (n : Nat) (h : Health) (c : Cause) (m : Nat) : (s.newHealth u n h c m).sockets = s.sockets := by simp [State.newHealth]

@[simp] theorem linkDown_agenda (s : State) (u : UnitName) (n : Nat) : (s.linkDown u n).agenda = s.agenda := by simp [State.linkDown]
@[simp] theorem linkDown_toIssue (s : State) (u : UnitName) (n : Nat) : (s.linkDown u n).toIssue = s.toIssue := by simp [State.linkDown]
@[simp] theorem linkDown_cur (s : State) (u : UnitName) (n : Nat) : (s.linkDown u n).cur = s.cur := by simp [State.linkDown]
@[simp] theorem linkDown_fresh (s : State) (u : UnitName) (n : Nat) : (s.linkDown u n).fresh = s.fresh := by simp [State.linkDown]
@[simp] theorem linkDown_cycle (s : State) (u : UnitName) (n : Nat) : (s.linkDown u n).cycle = s.cycle := by simp [State.linkDown]
@[simp] theorem linkDown_seq (s : State) (u : UnitName) (n : Nat) : (s.linkDown u n).seq = s.seq := by simp [State.linkDown]
@[simp] theorem linkDown_dstate (s : State) (u : UnitName) (n : Nat) : (s.linkDown u n).dstate = s.dstate := by simp [State.linkDown]
@[simp] theorem linkDown_lastG3 (s : State) (u : UnitName) (n : Nat) : (s.linkDown u n).lastG3 = s.lastG3 := by simp [State.linkDown]
@[simp] theorem linkDown_cap (s : State) (u : UnitName) (n : Nat) : (s.linkDown u n).cap = s.cap := by simp [State.linkDown]
@[simp] theorem linkDown_capNext (s : State) (u : UnitName) (n : Nat) : (s.linkDown u n).capNext = s.capNext := by simp [State.linkDown]
@[simp] theorem linkDown_lostCyc (s : State) (u : UnitName) (n : Nat) : (s.linkDown u n).lostCyc = s.lostCyc := by simp [State.linkDown]
@[simp] theorem linkDown_lostAt (s : State) (u : UnitName) (n : Nat) : (s.linkDown u n).lostAt = s.lostAt := by simp [State.linkDown]
@[simp] theorem linkDown_rails (s : State) (u : UnitName) (n : Nat) : (s.linkDown u n).rails = s.rails := by simp [State.linkDown]
@[simp] theorem linkDown_held (s : State) (u : UnitName) (n : Nat) : (s.linkDown u n).held = s.held := by simp [State.linkDown]
@[simp] theorem linkDown_fuses (s : State) (u : UnitName) (n : Nat) : (s.linkDown u n).fuses = s.fuses := by simp [State.linkDown]
@[simp] theorem linkDown_boot (s : State) (u : UnitName) (n : Nat) : (s.linkDown u n).boot = s.boot := by simp [State.linkDown]
@[simp] theorem linkDown_tenants (s : State) (u : UnitName) (n : Nat) : (s.linkDown u n).tenants = s.tenants := by simp [State.linkDown]
@[simp] theorem linkDown_clusters (s : State) (u : UnitName) (n : Nat) : (s.linkDown u n).clusters = s.clusters := by simp [State.linkDown]
@[simp] theorem linkDown_dies (s : State) (u : UnitName) (n : Nat) : (s.linkDown u n).dies = s.dies := by simp [State.linkDown]
@[simp] theorem linkDown_cores (s : State) (u : UnitName) (n : Nat) : (s.linkDown u n).cores = s.cores := by simp [State.linkDown]
@[simp] theorem linkDown_links (s : State) (u : UnitName) (n : Nat) : (s.linkDown u n).links = s.links := by simp [State.linkDown]
@[simp] theorem linkDown_ports (s : State) (u : UnitName) (n : Nat) : (s.linkDown u n).ports = s.ports := by simp [State.linkDown]
@[simp] theorem linkDown_eths (s : State) (u : UnitName) (n : Nat) : (s.linkDown u n).eths = s.eths := by simp [State.linkDown]
@[simp] theorem linkDown_wv (s : State) (u : UnitName) (n : Nat) : (s.linkDown u n).wv = s.wv := by simp [State.linkDown]
@[simp] theorem linkDown_graphs (s : State) (u : UnitName) (n : Nat) : (s.linkDown u n).graphs = s.graphs := by simp [State.linkDown]
@[simp] theorem linkDown_ready (s : State) (u : UnitName) (n : Nat) : (s.linkDown u n).ready = s.ready := by simp [State.linkDown]
@[simp] theorem linkDown_ages (s : State) (u : UnitName) (n : Nat) : (s.linkDown u n).ages = s.ages := by simp [State.linkDown]
@[simp] theorem linkDown_waitFrom (s : State) (u : UnitName) (n : Nat) : (s.linkDown u n).waitFrom = s.waitFrom := by simp [State.linkDown]
@[simp] theorem linkDown_conts (s : State) (u : UnitName) (n : Nat) : (s.linkDown u n).conts = s.conts := by simp [State.linkDown]
@[simp] theorem linkDown_frames (s : State) (u : UnitName) (n : Nat) : (s.linkDown u n).frames = s.frames := by simp [State.linkDown]
@[simp] theorem linkDown_replies (s : State) (u : UnitName) (n : Nat) : (s.linkDown u n).replies = s.replies := by simp [State.linkDown]
@[simp] theorem linkDown_sockets (s : State) (u : UnitName) (n : Nat) : (s.linkDown u n).sockets = s.sockets := by simp [State.linkDown]

@[simp] theorem modBoot_agenda (s : State) (f : BootState → BootState) : (s.modBoot f).agenda = s.agenda := rfl
@[simp] theorem modBoot_toIssue (s : State) (f : BootState → BootState) : (s.modBoot f).toIssue = s.toIssue := rfl
@[simp] theorem modBoot_cur (s : State) (f : BootState → BootState) : (s.modBoot f).cur = s.cur := rfl
@[simp] theorem modBoot_fresh (s : State) (f : BootState → BootState) : (s.modBoot f).fresh = s.fresh := rfl
@[simp] theorem modBoot_cycle (s : State) (f : BootState → BootState) : (s.modBoot f).cycle = s.cycle := rfl
@[simp] theorem modBoot_seq (s : State) (f : BootState → BootState) : (s.modBoot f).seq = s.seq := rfl
@[simp] theorem modBoot_dstate (s : State) (f : BootState → BootState) : (s.modBoot f).dstate = s.dstate := rfl
@[simp] theorem modBoot_lastG3 (s : State) (f : BootState → BootState) : (s.modBoot f).lastG3 = s.lastG3 := rfl
@[simp] theorem modBoot_cap (s : State) (f : BootState → BootState) : (s.modBoot f).cap = s.cap := rfl
@[simp] theorem modBoot_capNext (s : State) (f : BootState → BootState) : (s.modBoot f).capNext = s.capNext := rfl
@[simp] theorem modBoot_lostCyc (s : State) (f : BootState → BootState) : (s.modBoot f).lostCyc = s.lostCyc := rfl
@[simp] theorem modBoot_lostAt (s : State) (f : BootState → BootState) : (s.modBoot f).lostAt = s.lostAt := rfl
@[simp] theorem modBoot_rails (s : State) (f : BootState → BootState) : (s.modBoot f).rails = s.rails := rfl
@[simp] theorem modBoot_held (s : State) (f : BootState → BootState) : (s.modBoot f).held = s.held := rfl
@[simp] theorem modBoot_fuses (s : State) (f : BootState → BootState) : (s.modBoot f).fuses = s.fuses := rfl
@[simp] theorem modBoot_kregs (s : State) (f : BootState → BootState) : (s.modBoot f).kregs = s.kregs := rfl
@[simp] theorem modBoot_mem (s : State) (f : BootState → BootState) : (s.modBoot f).mem = s.mem := rfl
@[simp] theorem modBoot_poison (s : State) (f : BootState → BootState) : (s.modBoot f).poison = s.poison := rfl
@[simp] theorem modBoot_tenants (s : State) (f : BootState → BootState) : (s.modBoot f).tenants = s.tenants := rfl
@[simp] theorem modBoot_tiles (s : State) (f : BootState → BootState) : (s.modBoot f).tiles = s.tiles := rfl
@[simp] theorem modBoot_clusters (s : State) (f : BootState → BootState) : (s.modBoot f).clusters = s.clusters := rfl
@[simp] theorem modBoot_dies (s : State) (f : BootState → BootState) : (s.modBoot f).dies = s.dies := rfl
@[simp] theorem modBoot_cores (s : State) (f : BootState → BootState) : (s.modBoot f).cores = s.cores := rfl
@[simp] theorem modBoot_links (s : State) (f : BootState → BootState) : (s.modBoot f).links = s.links := rfl
@[simp] theorem modBoot_ports (s : State) (f : BootState → BootState) : (s.modBoot f).ports = s.ports := rfl
@[simp] theorem modBoot_eths (s : State) (f : BootState → BootState) : (s.modBoot f).eths = s.eths := rfl
@[simp] theorem modBoot_health (s : State) (f : BootState → BootState) : (s.modBoot f).health = s.health := rfl
@[simp] theorem modBoot_wv (s : State) (f : BootState → BootState) : (s.modBoot f).wv = s.wv := rfl
@[simp] theorem modBoot_graphs (s : State) (f : BootState → BootState) : (s.modBoot f).graphs = s.graphs := rfl
@[simp] theorem modBoot_ready (s : State) (f : BootState → BootState) : (s.modBoot f).ready = s.ready := rfl
@[simp] theorem modBoot_ages (s : State) (f : BootState → BootState) : (s.modBoot f).ages = s.ages := rfl
@[simp] theorem modBoot_waitFrom (s : State) (f : BootState → BootState) : (s.modBoot f).waitFrom = s.waitFrom := rfl
@[simp] theorem modBoot_conts (s : State) (f : BootState → BootState) : (s.modBoot f).conts = s.conts := rfl
@[simp] theorem modBoot_frames (s : State) (f : BootState → BootState) : (s.modBoot f).frames = s.frames := rfl
@[simp] theorem modBoot_replies (s : State) (f : BootState → BootState) : (s.modBoot f).replies = s.replies := rfl
@[simp] theorem modBoot_sockets (s : State) (f : BootState → BootState) : (s.modBoot f).sockets = s.sockets := rfl

@[simp] theorem modGraph_agenda (s : State) (gid : Nat) (f : Graph → Graph) : (s.modGraph gid f).agenda = s.agenda := rfl
@[simp] theorem modGraph_toIssue (s : State) (gid : Nat) (f : Graph → Graph) : (s.modGraph gid f).toIssue = s.toIssue := rfl
@[simp] theorem modGraph_cur (s : State) (gid : Nat) (f : Graph → Graph) : (s.modGraph gid f).cur = s.cur := rfl
@[simp] theorem modGraph_fresh (s : State) (gid : Nat) (f : Graph → Graph) : (s.modGraph gid f).fresh = s.fresh := rfl
@[simp] theorem modGraph_cycle (s : State) (gid : Nat) (f : Graph → Graph) : (s.modGraph gid f).cycle = s.cycle := rfl
@[simp] theorem modGraph_seq (s : State) (gid : Nat) (f : Graph → Graph) : (s.modGraph gid f).seq = s.seq := rfl
@[simp] theorem modGraph_dstate (s : State) (gid : Nat) (f : Graph → Graph) : (s.modGraph gid f).dstate = s.dstate := rfl
@[simp] theorem modGraph_lastG3 (s : State) (gid : Nat) (f : Graph → Graph) : (s.modGraph gid f).lastG3 = s.lastG3 := rfl
@[simp] theorem modGraph_cap (s : State) (gid : Nat) (f : Graph → Graph) : (s.modGraph gid f).cap = s.cap := rfl
@[simp] theorem modGraph_capNext (s : State) (gid : Nat) (f : Graph → Graph) : (s.modGraph gid f).capNext = s.capNext := rfl
@[simp] theorem modGraph_lostCyc (s : State) (gid : Nat) (f : Graph → Graph) : (s.modGraph gid f).lostCyc = s.lostCyc := rfl
@[simp] theorem modGraph_lostAt (s : State) (gid : Nat) (f : Graph → Graph) : (s.modGraph gid f).lostAt = s.lostAt := rfl
@[simp] theorem modGraph_rails (s : State) (gid : Nat) (f : Graph → Graph) : (s.modGraph gid f).rails = s.rails := rfl
@[simp] theorem modGraph_held (s : State) (gid : Nat) (f : Graph → Graph) : (s.modGraph gid f).held = s.held := rfl
@[simp] theorem modGraph_fuses (s : State) (gid : Nat) (f : Graph → Graph) : (s.modGraph gid f).fuses = s.fuses := rfl
@[simp] theorem modGraph_boot (s : State) (gid : Nat) (f : Graph → Graph) : (s.modGraph gid f).boot = s.boot := rfl
@[simp] theorem modGraph_kregs (s : State) (gid : Nat) (f : Graph → Graph) : (s.modGraph gid f).kregs = s.kregs := rfl
@[simp] theorem modGraph_mem (s : State) (gid : Nat) (f : Graph → Graph) : (s.modGraph gid f).mem = s.mem := rfl
@[simp] theorem modGraph_poison (s : State) (gid : Nat) (f : Graph → Graph) : (s.modGraph gid f).poison = s.poison := rfl
@[simp] theorem modGraph_tenants (s : State) (gid : Nat) (f : Graph → Graph) : (s.modGraph gid f).tenants = s.tenants := rfl
@[simp] theorem modGraph_tiles (s : State) (gid : Nat) (f : Graph → Graph) : (s.modGraph gid f).tiles = s.tiles := rfl
@[simp] theorem modGraph_clusters (s : State) (gid : Nat) (f : Graph → Graph) : (s.modGraph gid f).clusters = s.clusters := rfl
@[simp] theorem modGraph_dies (s : State) (gid : Nat) (f : Graph → Graph) : (s.modGraph gid f).dies = s.dies := rfl
@[simp] theorem modGraph_cores (s : State) (gid : Nat) (f : Graph → Graph) : (s.modGraph gid f).cores = s.cores := rfl
@[simp] theorem modGraph_links (s : State) (gid : Nat) (f : Graph → Graph) : (s.modGraph gid f).links = s.links := rfl
@[simp] theorem modGraph_ports (s : State) (gid : Nat) (f : Graph → Graph) : (s.modGraph gid f).ports = s.ports := rfl
@[simp] theorem modGraph_eths (s : State) (gid : Nat) (f : Graph → Graph) : (s.modGraph gid f).eths = s.eths := rfl
@[simp] theorem modGraph_health (s : State) (gid : Nat) (f : Graph → Graph) : (s.modGraph gid f).health = s.health := rfl
@[simp] theorem modGraph_wv (s : State) (gid : Nat) (f : Graph → Graph) : (s.modGraph gid f).wv = s.wv := rfl
@[simp] theorem modGraph_ready (s : State) (gid : Nat) (f : Graph → Graph) : (s.modGraph gid f).ready = s.ready := rfl
@[simp] theorem modGraph_ages (s : State) (gid : Nat) (f : Graph → Graph) : (s.modGraph gid f).ages = s.ages := rfl
@[simp] theorem modGraph_waitFrom (s : State) (gid : Nat) (f : Graph → Graph) : (s.modGraph gid f).waitFrom = s.waitFrom := rfl
@[simp] theorem modGraph_conts (s : State) (gid : Nat) (f : Graph → Graph) : (s.modGraph gid f).conts = s.conts := rfl
@[simp] theorem modGraph_frames (s : State) (gid : Nat) (f : Graph → Graph) : (s.modGraph gid f).frames = s.frames := rfl
@[simp] theorem modGraph_replies (s : State) (gid : Nat) (f : Graph → Graph) : (s.modGraph gid f).replies = s.replies := rfl
@[simp] theorem modGraph_sockets (s : State) (gid : Nat) (f : Graph → Graph) : (s.modGraph gid f).sockets = s.sockets := rfl

@[simp] theorem modNode_agenda (s : State) (gid n : Nat) (f : GNode → GNode) : (s.modNode gid n f).agenda = s.agenda := rfl
@[simp] theorem modNode_toIssue (s : State) (gid n : Nat) (f : GNode → GNode) : (s.modNode gid n f).toIssue = s.toIssue := rfl
@[simp] theorem modNode_cur (s : State) (gid n : Nat) (f : GNode → GNode) : (s.modNode gid n f).cur = s.cur := rfl
@[simp] theorem modNode_fresh (s : State) (gid n : Nat) (f : GNode → GNode) : (s.modNode gid n f).fresh = s.fresh := rfl
@[simp] theorem modNode_cycle (s : State) (gid n : Nat) (f : GNode → GNode) : (s.modNode gid n f).cycle = s.cycle := rfl
@[simp] theorem modNode_seq (s : State) (gid n : Nat) (f : GNode → GNode) : (s.modNode gid n f).seq = s.seq := rfl
@[simp] theorem modNode_dstate (s : State) (gid n : Nat) (f : GNode → GNode) : (s.modNode gid n f).dstate = s.dstate := rfl
@[simp] theorem modNode_lastG3 (s : State) (gid n : Nat) (f : GNode → GNode) : (s.modNode gid n f).lastG3 = s.lastG3 := rfl
@[simp] theorem modNode_cap (s : State) (gid n : Nat) (f : GNode → GNode) : (s.modNode gid n f).cap = s.cap := rfl
@[simp] theorem modNode_capNext (s : State) (gid n : Nat) (f : GNode → GNode) : (s.modNode gid n f).capNext = s.capNext := rfl
@[simp] theorem modNode_lostCyc (s : State) (gid n : Nat) (f : GNode → GNode) : (s.modNode gid n f).lostCyc = s.lostCyc := rfl
@[simp] theorem modNode_lostAt (s : State) (gid n : Nat) (f : GNode → GNode) : (s.modNode gid n f).lostAt = s.lostAt := rfl
@[simp] theorem modNode_rails (s : State) (gid n : Nat) (f : GNode → GNode) : (s.modNode gid n f).rails = s.rails := rfl
@[simp] theorem modNode_held (s : State) (gid n : Nat) (f : GNode → GNode) : (s.modNode gid n f).held = s.held := rfl
@[simp] theorem modNode_fuses (s : State) (gid n : Nat) (f : GNode → GNode) : (s.modNode gid n f).fuses = s.fuses := rfl
@[simp] theorem modNode_boot (s : State) (gid n : Nat) (f : GNode → GNode) : (s.modNode gid n f).boot = s.boot := rfl
@[simp] theorem modNode_kregs (s : State) (gid n : Nat) (f : GNode → GNode) : (s.modNode gid n f).kregs = s.kregs := rfl
@[simp] theorem modNode_mem (s : State) (gid n : Nat) (f : GNode → GNode) : (s.modNode gid n f).mem = s.mem := rfl
@[simp] theorem modNode_poison (s : State) (gid n : Nat) (f : GNode → GNode) : (s.modNode gid n f).poison = s.poison := rfl
@[simp] theorem modNode_tenants (s : State) (gid n : Nat) (f : GNode → GNode) : (s.modNode gid n f).tenants = s.tenants := rfl
@[simp] theorem modNode_tiles (s : State) (gid n : Nat) (f : GNode → GNode) : (s.modNode gid n f).tiles = s.tiles := rfl
@[simp] theorem modNode_clusters (s : State) (gid n : Nat) (f : GNode → GNode) : (s.modNode gid n f).clusters = s.clusters := rfl
@[simp] theorem modNode_dies (s : State) (gid n : Nat) (f : GNode → GNode) : (s.modNode gid n f).dies = s.dies := rfl
@[simp] theorem modNode_cores (s : State) (gid n : Nat) (f : GNode → GNode) : (s.modNode gid n f).cores = s.cores := rfl
@[simp] theorem modNode_links (s : State) (gid n : Nat) (f : GNode → GNode) : (s.modNode gid n f).links = s.links := rfl
@[simp] theorem modNode_ports (s : State) (gid n : Nat) (f : GNode → GNode) : (s.modNode gid n f).ports = s.ports := rfl
@[simp] theorem modNode_eths (s : State) (gid n : Nat) (f : GNode → GNode) : (s.modNode gid n f).eths = s.eths := rfl
@[simp] theorem modNode_health (s : State) (gid n : Nat) (f : GNode → GNode) : (s.modNode gid n f).health = s.health := rfl
@[simp] theorem modNode_wv (s : State) (gid n : Nat) (f : GNode → GNode) : (s.modNode gid n f).wv = s.wv := rfl
@[simp] theorem modNode_ready (s : State) (gid n : Nat) (f : GNode → GNode) : (s.modNode gid n f).ready = s.ready := rfl
@[simp] theorem modNode_ages (s : State) (gid n : Nat) (f : GNode → GNode) : (s.modNode gid n f).ages = s.ages := rfl
@[simp] theorem modNode_waitFrom (s : State) (gid n : Nat) (f : GNode → GNode) : (s.modNode gid n f).waitFrom = s.waitFrom := rfl
@[simp] theorem modNode_conts (s : State) (gid n : Nat) (f : GNode → GNode) : (s.modNode gid n f).conts = s.conts := rfl
@[simp] theorem modNode_frames (s : State) (gid n : Nat) (f : GNode → GNode) : (s.modNode gid n f).frames = s.frames := rfl
@[simp] theorem modNode_replies (s : State) (gid n : Nat) (f : GNode → GNode) : (s.modNode gid n f).replies = s.replies := rfl
@[simp] theorem modNode_sockets (s : State) (gid n : Nat) (f : GNode → GNode) : (s.modNode gid n f).sockets = s.sockets := rfl

@[simp] theorem putNstat_agenda (s : State) (gid n : Nat) : (s.putNstat gid n).agenda = s.agenda := by unfold State.putNstat; split <;> simp
@[simp] theorem putNstat_toIssue (s : State) (gid n : Nat) : (s.putNstat gid n).toIssue = s.toIssue := by unfold State.putNstat; split <;> simp
@[simp] theorem putNstat_cur (s : State) (gid n : Nat) : (s.putNstat gid n).cur = s.cur := by unfold State.putNstat; split <;> simp
@[simp] theorem putNstat_fresh (s : State) (gid n : Nat) : (s.putNstat gid n).fresh = s.fresh := by unfold State.putNstat; split <;> simp
@[simp] theorem putNstat_cycle (s : State) (gid n : Nat) : (s.putNstat gid n).cycle = s.cycle := by unfold State.putNstat; split <;> simp
@[simp] theorem putNstat_seq (s : State) (gid n : Nat) : (s.putNstat gid n).seq = s.seq := by unfold State.putNstat; split <;> simp
@[simp] theorem putNstat_dstate (s : State) (gid n : Nat) : (s.putNstat gid n).dstate = s.dstate := by unfold State.putNstat; split <;> simp
@[simp] theorem putNstat_lastG3 (s : State) (gid n : Nat) : (s.putNstat gid n).lastG3 = s.lastG3 := by unfold State.putNstat; split <;> simp
@[simp] theorem putNstat_cap (s : State) (gid n : Nat) : (s.putNstat gid n).cap = s.cap := by unfold State.putNstat; split <;> simp
@[simp] theorem putNstat_capNext (s : State) (gid n : Nat) : (s.putNstat gid n).capNext = s.capNext := by unfold State.putNstat; split <;> simp
@[simp] theorem putNstat_lostCyc (s : State) (gid n : Nat) : (s.putNstat gid n).lostCyc = s.lostCyc := by unfold State.putNstat; split <;> simp
@[simp] theorem putNstat_lostAt (s : State) (gid n : Nat) : (s.putNstat gid n).lostAt = s.lostAt := by unfold State.putNstat; split <;> simp
@[simp] theorem putNstat_rails (s : State) (gid n : Nat) : (s.putNstat gid n).rails = s.rails := by unfold State.putNstat; split <;> simp
@[simp] theorem putNstat_held (s : State) (gid n : Nat) : (s.putNstat gid n).held = s.held := by unfold State.putNstat; split <;> simp
@[simp] theorem putNstat_fuses (s : State) (gid n : Nat) : (s.putNstat gid n).fuses = s.fuses := by unfold State.putNstat; split <;> simp
@[simp] theorem putNstat_boot (s : State) (gid n : Nat) : (s.putNstat gid n).boot = s.boot := by unfold State.putNstat; split <;> simp
@[simp] theorem putNstat_kregs (s : State) (gid n : Nat) : (s.putNstat gid n).kregs = s.kregs := by unfold State.putNstat; split <;> simp
@[simp] theorem putNstat_tenants (s : State) (gid n : Nat) : (s.putNstat gid n).tenants = s.tenants := by unfold State.putNstat; split <;> simp
@[simp] theorem putNstat_tiles (s : State) (gid n : Nat) : (s.putNstat gid n).tiles = s.tiles := by unfold State.putNstat; split <;> simp
@[simp] theorem putNstat_clusters (s : State) (gid n : Nat) : (s.putNstat gid n).clusters = s.clusters := by unfold State.putNstat; split <;> simp
@[simp] theorem putNstat_dies (s : State) (gid n : Nat) : (s.putNstat gid n).dies = s.dies := by unfold State.putNstat; split <;> simp
@[simp] theorem putNstat_cores (s : State) (gid n : Nat) : (s.putNstat gid n).cores = s.cores := by unfold State.putNstat; split <;> simp
@[simp] theorem putNstat_links (s : State) (gid n : Nat) : (s.putNstat gid n).links = s.links := by unfold State.putNstat; split <;> simp
@[simp] theorem putNstat_ports (s : State) (gid n : Nat) : (s.putNstat gid n).ports = s.ports := by unfold State.putNstat; split <;> simp
@[simp] theorem putNstat_eths (s : State) (gid n : Nat) : (s.putNstat gid n).eths = s.eths := by unfold State.putNstat; split <;> simp
@[simp] theorem putNstat_health (s : State) (gid n : Nat) : (s.putNstat gid n).health = s.health := by unfold State.putNstat; split <;> simp
@[simp] theorem putNstat_wv (s : State) (gid n : Nat) : (s.putNstat gid n).wv = s.wv := by unfold State.putNstat; split <;> simp
@[simp] theorem putNstat_graphs (s : State) (gid n : Nat) : (s.putNstat gid n).graphs = s.graphs := by unfold State.putNstat; split <;> simp
@[simp] theorem putNstat_ready (s : State) (gid n : Nat) : (s.putNstat gid n).ready = s.ready := by unfold State.putNstat; split <;> simp
@[simp] theorem putNstat_ages (s : State) (gid n : Nat) : (s.putNstat gid n).ages = s.ages := by unfold State.putNstat; split <;> simp
@[simp] theorem putNstat_waitFrom (s : State) (gid n : Nat) : (s.putNstat gid n).waitFrom = s.waitFrom := by unfold State.putNstat; split <;> simp
@[simp] theorem putNstat_conts (s : State) (gid n : Nat) : (s.putNstat gid n).conts = s.conts := by unfold State.putNstat; split <;> simp
@[simp] theorem putNstat_frames (s : State) (gid n : Nat) : (s.putNstat gid n).frames = s.frames := by unfold State.putNstat; split <;> simp
@[simp] theorem putNstat_replies (s : State) (gid n : Nat) : (s.putNstat gid n).replies = s.replies := by unfold State.putNstat; split <;> simp
@[simp] theorem putNstat_sockets (s : State) (gid n : Nat) : (s.putNstat gid n).sockets = s.sockets := by unfold State.putNstat; split <;> simp

@[simp] theorem nodeState_agenda (s : State) (gid n : Nat) (st : NState) : (s.nodeState gid n st).agenda = s.agenda := by simp [State.nodeState]
@[simp] theorem nodeState_toIssue (s : State) (gid n : Nat) (st : NState) : (s.nodeState gid n st).toIssue = s.toIssue := by simp [State.nodeState]
@[simp] theorem nodeState_cur (s : State) (gid n : Nat) (st : NState) : (s.nodeState gid n st).cur = s.cur := by simp [State.nodeState]
@[simp] theorem nodeState_fresh (s : State) (gid n : Nat) (st : NState) : (s.nodeState gid n st).fresh = s.fresh := by simp [State.nodeState]
@[simp] theorem nodeState_cycle (s : State) (gid n : Nat) (st : NState) : (s.nodeState gid n st).cycle = s.cycle := by simp [State.nodeState]
@[simp] theorem nodeState_seq (s : State) (gid n : Nat) (st : NState) : (s.nodeState gid n st).seq = s.seq := by simp [State.nodeState]
@[simp] theorem nodeState_dstate (s : State) (gid n : Nat) (st : NState) : (s.nodeState gid n st).dstate = s.dstate := by simp [State.nodeState]
@[simp] theorem nodeState_lastG3 (s : State) (gid n : Nat) (st : NState) : (s.nodeState gid n st).lastG3 = s.lastG3 := by simp [State.nodeState]
@[simp] theorem nodeState_cap (s : State) (gid n : Nat) (st : NState) : (s.nodeState gid n st).cap = s.cap := by simp [State.nodeState]
@[simp] theorem nodeState_capNext (s : State) (gid n : Nat) (st : NState) : (s.nodeState gid n st).capNext = s.capNext := by simp [State.nodeState]
@[simp] theorem nodeState_lostCyc (s : State) (gid n : Nat) (st : NState) : (s.nodeState gid n st).lostCyc = s.lostCyc := by simp [State.nodeState]
@[simp] theorem nodeState_lostAt (s : State) (gid n : Nat) (st : NState) : (s.nodeState gid n st).lostAt = s.lostAt := by simp [State.nodeState]
@[simp] theorem nodeState_rails (s : State) (gid n : Nat) (st : NState) : (s.nodeState gid n st).rails = s.rails := by simp [State.nodeState]
@[simp] theorem nodeState_held (s : State) (gid n : Nat) (st : NState) : (s.nodeState gid n st).held = s.held := by simp [State.nodeState]
@[simp] theorem nodeState_fuses (s : State) (gid n : Nat) (st : NState) : (s.nodeState gid n st).fuses = s.fuses := by simp [State.nodeState]
@[simp] theorem nodeState_boot (s : State) (gid n : Nat) (st : NState) : (s.nodeState gid n st).boot = s.boot := by simp [State.nodeState]
@[simp] theorem nodeState_kregs (s : State) (gid n : Nat) (st : NState) : (s.nodeState gid n st).kregs = s.kregs := by simp [State.nodeState]
@[simp] theorem nodeState_tenants (s : State) (gid n : Nat) (st : NState) : (s.nodeState gid n st).tenants = s.tenants := by simp [State.nodeState]
@[simp] theorem nodeState_tiles (s : State) (gid n : Nat) (st : NState) : (s.nodeState gid n st).tiles = s.tiles := by simp [State.nodeState]
@[simp] theorem nodeState_clusters (s : State) (gid n : Nat) (st : NState) : (s.nodeState gid n st).clusters = s.clusters := by simp [State.nodeState]
@[simp] theorem nodeState_dies (s : State) (gid n : Nat) (st : NState) : (s.nodeState gid n st).dies = s.dies := by simp [State.nodeState]
@[simp] theorem nodeState_cores (s : State) (gid n : Nat) (st : NState) : (s.nodeState gid n st).cores = s.cores := by simp [State.nodeState]
@[simp] theorem nodeState_links (s : State) (gid n : Nat) (st : NState) : (s.nodeState gid n st).links = s.links := by simp [State.nodeState]
@[simp] theorem nodeState_ports (s : State) (gid n : Nat) (st : NState) : (s.nodeState gid n st).ports = s.ports := by simp [State.nodeState]
@[simp] theorem nodeState_eths (s : State) (gid n : Nat) (st : NState) : (s.nodeState gid n st).eths = s.eths := by simp [State.nodeState]
@[simp] theorem nodeState_health (s : State) (gid n : Nat) (st : NState) : (s.nodeState gid n st).health = s.health := by simp [State.nodeState]
@[simp] theorem nodeState_wv (s : State) (gid n : Nat) (st : NState) : (s.nodeState gid n st).wv = s.wv := by simp [State.nodeState]
@[simp] theorem nodeState_ready (s : State) (gid n : Nat) (st : NState) : (s.nodeState gid n st).ready = s.ready := by simp [State.nodeState]
@[simp] theorem nodeState_ages (s : State) (gid n : Nat) (st : NState) : (s.nodeState gid n st).ages = s.ages := by simp [State.nodeState]
@[simp] theorem nodeState_waitFrom (s : State) (gid n : Nat) (st : NState) : (s.nodeState gid n st).waitFrom = s.waitFrom := by simp [State.nodeState]
@[simp] theorem nodeState_conts (s : State) (gid n : Nat) (st : NState) : (s.nodeState gid n st).conts = s.conts := by simp [State.nodeState]
@[simp] theorem nodeState_frames (s : State) (gid n : Nat) (st : NState) : (s.nodeState gid n st).frames = s.frames := by simp [State.nodeState]
@[simp] theorem nodeState_replies (s : State) (gid n : Nat) (st : NState) : (s.nodeState gid n st).replies = s.replies := by simp [State.nodeState]
@[simp] theorem nodeState_sockets (s : State) (gid n : Nat) (st : NState) : (s.nodeState gid n st).sockets = s.sockets := by simp [State.nodeState]

@[simp] theorem putGstat_agenda (s : State) (g : Graph) (st : Nat) (c : Cause) : (s.putGstat g st c).agenda = s.agenda := by simp [State.putGstat]
@[simp] theorem putGstat_toIssue (s : State) (g : Graph) (st : Nat) (c : Cause) : (s.putGstat g st c).toIssue = s.toIssue := by simp [State.putGstat]
@[simp] theorem putGstat_cur (s : State) (g : Graph) (st : Nat) (c : Cause) : (s.putGstat g st c).cur = s.cur := by simp [State.putGstat]
@[simp] theorem putGstat_fresh (s : State) (g : Graph) (st : Nat) (c : Cause) : (s.putGstat g st c).fresh = s.fresh := by simp [State.putGstat]
@[simp] theorem putGstat_cycle (s : State) (g : Graph) (st : Nat) (c : Cause) : (s.putGstat g st c).cycle = s.cycle := by simp [State.putGstat]
@[simp] theorem putGstat_seq (s : State) (g : Graph) (st : Nat) (c : Cause) : (s.putGstat g st c).seq = s.seq := by simp [State.putGstat]
@[simp] theorem putGstat_dstate (s : State) (g : Graph) (st : Nat) (c : Cause) : (s.putGstat g st c).dstate = s.dstate := by simp [State.putGstat]
@[simp] theorem putGstat_lastG3 (s : State) (g : Graph) (st : Nat) (c : Cause) : (s.putGstat g st c).lastG3 = s.lastG3 := by simp [State.putGstat]
@[simp] theorem putGstat_cap (s : State) (g : Graph) (st : Nat) (c : Cause) : (s.putGstat g st c).cap = s.cap := by simp [State.putGstat]
@[simp] theorem putGstat_capNext (s : State) (g : Graph) (st : Nat) (c : Cause) : (s.putGstat g st c).capNext = s.capNext := by simp [State.putGstat]
@[simp] theorem putGstat_lostCyc (s : State) (g : Graph) (st : Nat) (c : Cause) : (s.putGstat g st c).lostCyc = s.lostCyc := by simp [State.putGstat]
@[simp] theorem putGstat_lostAt (s : State) (g : Graph) (st : Nat) (c : Cause) : (s.putGstat g st c).lostAt = s.lostAt := by simp [State.putGstat]
@[simp] theorem putGstat_rails (s : State) (g : Graph) (st : Nat) (c : Cause) : (s.putGstat g st c).rails = s.rails := by simp [State.putGstat]
@[simp] theorem putGstat_held (s : State) (g : Graph) (st : Nat) (c : Cause) : (s.putGstat g st c).held = s.held := by simp [State.putGstat]
@[simp] theorem putGstat_fuses (s : State) (g : Graph) (st : Nat) (c : Cause) : (s.putGstat g st c).fuses = s.fuses := by simp [State.putGstat]
@[simp] theorem putGstat_boot (s : State) (g : Graph) (st : Nat) (c : Cause) : (s.putGstat g st c).boot = s.boot := by simp [State.putGstat]
@[simp] theorem putGstat_kregs (s : State) (g : Graph) (st : Nat) (c : Cause) : (s.putGstat g st c).kregs = s.kregs := by simp [State.putGstat]
@[simp] theorem putGstat_tenants (s : State) (g : Graph) (st : Nat) (c : Cause) : (s.putGstat g st c).tenants = s.tenants := by simp [State.putGstat]
@[simp] theorem putGstat_tiles (s : State) (g : Graph) (st : Nat) (c : Cause) : (s.putGstat g st c).tiles = s.tiles := by simp [State.putGstat]
@[simp] theorem putGstat_clusters (s : State) (g : Graph) (st : Nat) (c : Cause) : (s.putGstat g st c).clusters = s.clusters := by simp [State.putGstat]
@[simp] theorem putGstat_dies (s : State) (g : Graph) (st : Nat) (c : Cause) : (s.putGstat g st c).dies = s.dies := by simp [State.putGstat]
@[simp] theorem putGstat_cores (s : State) (g : Graph) (st : Nat) (c : Cause) : (s.putGstat g st c).cores = s.cores := by simp [State.putGstat]
@[simp] theorem putGstat_links (s : State) (g : Graph) (st : Nat) (c : Cause) : (s.putGstat g st c).links = s.links := by simp [State.putGstat]
@[simp] theorem putGstat_ports (s : State) (g : Graph) (st : Nat) (c : Cause) : (s.putGstat g st c).ports = s.ports := by simp [State.putGstat]
@[simp] theorem putGstat_eths (s : State) (g : Graph) (st : Nat) (c : Cause) : (s.putGstat g st c).eths = s.eths := by simp [State.putGstat]
@[simp] theorem putGstat_health (s : State) (g : Graph) (st : Nat) (c : Cause) : (s.putGstat g st c).health = s.health := by simp [State.putGstat]
@[simp] theorem putGstat_wv (s : State) (g : Graph) (st : Nat) (c : Cause) : (s.putGstat g st c).wv = s.wv := by simp [State.putGstat]
@[simp] theorem putGstat_graphs (s : State) (g : Graph) (st : Nat) (c : Cause) : (s.putGstat g st c).graphs = s.graphs := by simp [State.putGstat]
@[simp] theorem putGstat_ready (s : State) (g : Graph) (st : Nat) (c : Cause) : (s.putGstat g st c).ready = s.ready := by simp [State.putGstat]
@[simp] theorem putGstat_ages (s : State) (g : Graph) (st : Nat) (c : Cause) : (s.putGstat g st c).ages = s.ages := by simp [State.putGstat]
@[simp] theorem putGstat_waitFrom (s : State) (g : Graph) (st : Nat) (c : Cause) : (s.putGstat g st c).waitFrom = s.waitFrom := by simp [State.putGstat]
@[simp] theorem putGstat_conts (s : State) (g : Graph) (st : Nat) (c : Cause) : (s.putGstat g st c).conts = s.conts := by simp [State.putGstat]
@[simp] theorem putGstat_frames (s : State) (g : Graph) (st : Nat) (c : Cause) : (s.putGstat g st c).frames = s.frames := by simp [State.putGstat]
@[simp] theorem putGstat_replies (s : State) (g : Graph) (st : Nat) (c : Cause) : (s.putGstat g st c).replies = s.replies := by simp [State.putGstat]
@[simp] theorem putGstat_sockets (s : State) (g : Graph) (st : Nat) (c : Cause) : (s.putGstat g st c).sockets = s.sockets := by simp [State.putGstat]

@[simp] theorem restartWait_agenda (s : State) (k : Nat) : (s.restartWait k).agenda = s.agenda := rfl
@[simp] theorem restartWait_toIssue (s : State) (k : Nat) : (s.restartWait k).toIssue = s.toIssue := rfl
@[simp] theorem restartWait_cur (s : State) (k : Nat) : (s.restartWait k).cur = s.cur := rfl
@[simp] theorem restartWait_fresh (s : State) (k : Nat) : (s.restartWait k).fresh = s.fresh := rfl
@[simp] theorem restartWait_cycle (s : State) (k : Nat) : (s.restartWait k).cycle = s.cycle := rfl
@[simp] theorem restartWait_seq (s : State) (k : Nat) : (s.restartWait k).seq = s.seq := rfl
@[simp] theorem restartWait_dstate (s : State) (k : Nat) : (s.restartWait k).dstate = s.dstate := rfl
@[simp] theorem restartWait_lastG3 (s : State) (k : Nat) : (s.restartWait k).lastG3 = s.lastG3 := rfl
@[simp] theorem restartWait_cap (s : State) (k : Nat) : (s.restartWait k).cap = s.cap := rfl
@[simp] theorem restartWait_capNext (s : State) (k : Nat) : (s.restartWait k).capNext = s.capNext := rfl
@[simp] theorem restartWait_lostCyc (s : State) (k : Nat) : (s.restartWait k).lostCyc = s.lostCyc := rfl
@[simp] theorem restartWait_lostAt (s : State) (k : Nat) : (s.restartWait k).lostAt = s.lostAt := rfl
@[simp] theorem restartWait_rails (s : State) (k : Nat) : (s.restartWait k).rails = s.rails := rfl
@[simp] theorem restartWait_held (s : State) (k : Nat) : (s.restartWait k).held = s.held := rfl
@[simp] theorem restartWait_fuses (s : State) (k : Nat) : (s.restartWait k).fuses = s.fuses := rfl
@[simp] theorem restartWait_boot (s : State) (k : Nat) : (s.restartWait k).boot = s.boot := rfl
@[simp] theorem restartWait_kregs (s : State) (k : Nat) : (s.restartWait k).kregs = s.kregs := rfl
@[simp] theorem restartWait_mem (s : State) (k : Nat) : (s.restartWait k).mem = s.mem := rfl
@[simp] theorem restartWait_poison (s : State) (k : Nat) : (s.restartWait k).poison = s.poison := rfl
@[simp] theorem restartWait_tenants (s : State) (k : Nat) : (s.restartWait k).tenants = s.tenants := rfl
@[simp] theorem restartWait_tiles (s : State) (k : Nat) : (s.restartWait k).tiles = s.tiles := rfl
@[simp] theorem restartWait_clusters (s : State) (k : Nat) : (s.restartWait k).clusters = s.clusters := rfl
@[simp] theorem restartWait_dies (s : State) (k : Nat) : (s.restartWait k).dies = s.dies := rfl
@[simp] theorem restartWait_cores (s : State) (k : Nat) : (s.restartWait k).cores = s.cores := rfl
@[simp] theorem restartWait_links (s : State) (k : Nat) : (s.restartWait k).links = s.links := rfl
@[simp] theorem restartWait_ports (s : State) (k : Nat) : (s.restartWait k).ports = s.ports := rfl
@[simp] theorem restartWait_eths (s : State) (k : Nat) : (s.restartWait k).eths = s.eths := rfl
@[simp] theorem restartWait_health (s : State) (k : Nat) : (s.restartWait k).health = s.health := rfl
@[simp] theorem restartWait_wv (s : State) (k : Nat) : (s.restartWait k).wv = s.wv := rfl
@[simp] theorem restartWait_graphs (s : State) (k : Nat) : (s.restartWait k).graphs = s.graphs := rfl
@[simp] theorem restartWait_ready (s : State) (k : Nat) : (s.restartWait k).ready = s.ready := rfl
@[simp] theorem restartWait_conts (s : State) (k : Nat) : (s.restartWait k).conts = s.conts := rfl
@[simp] theorem restartWait_frames (s : State) (k : Nat) : (s.restartWait k).frames = s.frames := rfl
@[simp] theorem restartWait_replies (s : State) (k : Nat) : (s.restartWait k).replies = s.replies := rfl
@[simp] theorem restartWait_sockets (s : State) (k : Nat) : (s.restartWait k).sockets = s.sockets := rfl

@[simp] theorem setReady_agenda (s : State) (k : Nat) (l : List (Nat × Nat)) : (s.setReady k l).agenda = s.agenda := by unfold State.setReady; dsimp only; split <;> simp
@[simp] theorem setReady_toIssue (s : State) (k : Nat) (l : List (Nat × Nat)) : (s.setReady k l).toIssue = s.toIssue := by unfold State.setReady; dsimp only; split <;> simp
@[simp] theorem setReady_cur (s : State) (k : Nat) (l : List (Nat × Nat)) : (s.setReady k l).cur = s.cur := by unfold State.setReady; dsimp only; split <;> simp
@[simp] theorem setReady_fresh (s : State) (k : Nat) (l : List (Nat × Nat)) : (s.setReady k l).fresh = s.fresh := by unfold State.setReady; dsimp only; split <;> simp
@[simp] theorem setReady_cycle (s : State) (k : Nat) (l : List (Nat × Nat)) : (s.setReady k l).cycle = s.cycle := by unfold State.setReady; dsimp only; split <;> simp
@[simp] theorem setReady_seq (s : State) (k : Nat) (l : List (Nat × Nat)) : (s.setReady k l).seq = s.seq := by unfold State.setReady; dsimp only; split <;> simp
@[simp] theorem setReady_dstate (s : State) (k : Nat) (l : List (Nat × Nat)) : (s.setReady k l).dstate = s.dstate := by unfold State.setReady; dsimp only; split <;> simp
@[simp] theorem setReady_lastG3 (s : State) (k : Nat) (l : List (Nat × Nat)) : (s.setReady k l).lastG3 = s.lastG3 := by unfold State.setReady; dsimp only; split <;> simp
@[simp] theorem setReady_cap (s : State) (k : Nat) (l : List (Nat × Nat)) : (s.setReady k l).cap = s.cap := by unfold State.setReady; dsimp only; split <;> simp
@[simp] theorem setReady_capNext (s : State) (k : Nat) (l : List (Nat × Nat)) : (s.setReady k l).capNext = s.capNext := by unfold State.setReady; dsimp only; split <;> simp
@[simp] theorem setReady_lostCyc (s : State) (k : Nat) (l : List (Nat × Nat)) : (s.setReady k l).lostCyc = s.lostCyc := by unfold State.setReady; dsimp only; split <;> simp
@[simp] theorem setReady_lostAt (s : State) (k : Nat) (l : List (Nat × Nat)) : (s.setReady k l).lostAt = s.lostAt := by unfold State.setReady; dsimp only; split <;> simp
@[simp] theorem setReady_rails (s : State) (k : Nat) (l : List (Nat × Nat)) : (s.setReady k l).rails = s.rails := by unfold State.setReady; dsimp only; split <;> simp
@[simp] theorem setReady_held (s : State) (k : Nat) (l : List (Nat × Nat)) : (s.setReady k l).held = s.held := by unfold State.setReady; dsimp only; split <;> simp
@[simp] theorem setReady_fuses (s : State) (k : Nat) (l : List (Nat × Nat)) : (s.setReady k l).fuses = s.fuses := by unfold State.setReady; dsimp only; split <;> simp
@[simp] theorem setReady_boot (s : State) (k : Nat) (l : List (Nat × Nat)) : (s.setReady k l).boot = s.boot := by unfold State.setReady; dsimp only; split <;> simp
@[simp] theorem setReady_kregs (s : State) (k : Nat) (l : List (Nat × Nat)) : (s.setReady k l).kregs = s.kregs := by unfold State.setReady; dsimp only; split <;> simp
@[simp] theorem setReady_mem (s : State) (k : Nat) (l : List (Nat × Nat)) : (s.setReady k l).mem = s.mem := by unfold State.setReady; dsimp only; split <;> simp
@[simp] theorem setReady_poison (s : State) (k : Nat) (l : List (Nat × Nat)) : (s.setReady k l).poison = s.poison := by unfold State.setReady; dsimp only; split <;> simp
@[simp] theorem setReady_tenants (s : State) (k : Nat) (l : List (Nat × Nat)) : (s.setReady k l).tenants = s.tenants := by unfold State.setReady; dsimp only; split <;> simp
@[simp] theorem setReady_tiles (s : State) (k : Nat) (l : List (Nat × Nat)) : (s.setReady k l).tiles = s.tiles := by unfold State.setReady; dsimp only; split <;> simp
@[simp] theorem setReady_clusters (s : State) (k : Nat) (l : List (Nat × Nat)) : (s.setReady k l).clusters = s.clusters := by unfold State.setReady; dsimp only; split <;> simp
@[simp] theorem setReady_dies (s : State) (k : Nat) (l : List (Nat × Nat)) : (s.setReady k l).dies = s.dies := by unfold State.setReady; dsimp only; split <;> simp
@[simp] theorem setReady_cores (s : State) (k : Nat) (l : List (Nat × Nat)) : (s.setReady k l).cores = s.cores := by unfold State.setReady; dsimp only; split <;> simp
@[simp] theorem setReady_links (s : State) (k : Nat) (l : List (Nat × Nat)) : (s.setReady k l).links = s.links := by unfold State.setReady; dsimp only; split <;> simp
@[simp] theorem setReady_ports (s : State) (k : Nat) (l : List (Nat × Nat)) : (s.setReady k l).ports = s.ports := by unfold State.setReady; dsimp only; split <;> simp
@[simp] theorem setReady_eths (s : State) (k : Nat) (l : List (Nat × Nat)) : (s.setReady k l).eths = s.eths := by unfold State.setReady; dsimp only; split <;> simp
@[simp] theorem setReady_health (s : State) (k : Nat) (l : List (Nat × Nat)) : (s.setReady k l).health = s.health := by unfold State.setReady; dsimp only; split <;> simp
@[simp] theorem setReady_wv (s : State) (k : Nat) (l : List (Nat × Nat)) : (s.setReady k l).wv = s.wv := by unfold State.setReady; dsimp only; split <;> simp
@[simp] theorem setReady_graphs (s : State) (k : Nat) (l : List (Nat × Nat)) : (s.setReady k l).graphs = s.graphs := by unfold State.setReady; dsimp only; split <;> simp
@[simp] theorem setReady_conts (s : State) (k : Nat) (l : List (Nat × Nat)) : (s.setReady k l).conts = s.conts := by unfold State.setReady; dsimp only; split <;> simp
@[simp] theorem setReady_frames (s : State) (k : Nat) (l : List (Nat × Nat)) : (s.setReady k l).frames = s.frames := by unfold State.setReady; dsimp only; split <;> simp
@[simp] theorem setReady_replies (s : State) (k : Nat) (l : List (Nat × Nat)) : (s.setReady k l).replies = s.replies := by unfold State.setReady; dsimp only; split <;> simp
@[simp] theorem setReady_sockets (s : State) (k : Nat) (l : List (Nat × Nat)) : (s.setReady k l).sockets = s.sockets := by unfold State.setReady; dsimp only; split <;> simp

@[simp] theorem makeReady_agenda (s : State) (gid n : Nat) : (s.makeReady gid n).agenda = s.agenda := by unfold State.makeReady; split <;> simp
@[simp] theorem makeReady_toIssue (s : State) (gid n : Nat) : (s.makeReady gid n).toIssue = s.toIssue := by unfold State.makeReady; split <;> simp
@[simp] theorem makeReady_cur (s : State) (gid n : Nat) : (s.makeReady gid n).cur = s.cur := by unfold State.makeReady; split <;> simp
@[simp] theorem makeReady_fresh (s : State) (gid n : Nat) : (s.makeReady gid n).fresh = s.fresh := by unfold State.makeReady; split <;> simp
@[simp] theorem makeReady_cycle (s : State) (gid n : Nat) : (s.makeReady gid n).cycle = s.cycle := by unfold State.makeReady; split <;> simp
@[simp] theorem makeReady_seq (s : State) (gid n : Nat) : (s.makeReady gid n).seq = s.seq := by unfold State.makeReady; split <;> simp
@[simp] theorem makeReady_dstate (s : State) (gid n : Nat) : (s.makeReady gid n).dstate = s.dstate := by unfold State.makeReady; split <;> simp
@[simp] theorem makeReady_lastG3 (s : State) (gid n : Nat) : (s.makeReady gid n).lastG3 = s.lastG3 := by unfold State.makeReady; split <;> simp
@[simp] theorem makeReady_cap (s : State) (gid n : Nat) : (s.makeReady gid n).cap = s.cap := by unfold State.makeReady; split <;> simp
@[simp] theorem makeReady_capNext (s : State) (gid n : Nat) : (s.makeReady gid n).capNext = s.capNext := by unfold State.makeReady; split <;> simp
@[simp] theorem makeReady_lostCyc (s : State) (gid n : Nat) : (s.makeReady gid n).lostCyc = s.lostCyc := by unfold State.makeReady; split <;> simp
@[simp] theorem makeReady_lostAt (s : State) (gid n : Nat) : (s.makeReady gid n).lostAt = s.lostAt := by unfold State.makeReady; split <;> simp
@[simp] theorem makeReady_rails (s : State) (gid n : Nat) : (s.makeReady gid n).rails = s.rails := by unfold State.makeReady; split <;> simp
@[simp] theorem makeReady_held (s : State) (gid n : Nat) : (s.makeReady gid n).held = s.held := by unfold State.makeReady; split <;> simp
@[simp] theorem makeReady_fuses (s : State) (gid n : Nat) : (s.makeReady gid n).fuses = s.fuses := by unfold State.makeReady; split <;> simp
@[simp] theorem makeReady_boot (s : State) (gid n : Nat) : (s.makeReady gid n).boot = s.boot := by unfold State.makeReady; split <;> simp
@[simp] theorem makeReady_kregs (s : State) (gid n : Nat) : (s.makeReady gid n).kregs = s.kregs := by unfold State.makeReady; split <;> simp
@[simp] theorem makeReady_tenants (s : State) (gid n : Nat) : (s.makeReady gid n).tenants = s.tenants := by unfold State.makeReady; split <;> simp
@[simp] theorem makeReady_tiles (s : State) (gid n : Nat) : (s.makeReady gid n).tiles = s.tiles := by unfold State.makeReady; split <;> simp
@[simp] theorem makeReady_clusters (s : State) (gid n : Nat) : (s.makeReady gid n).clusters = s.clusters := by unfold State.makeReady; split <;> simp
@[simp] theorem makeReady_dies (s : State) (gid n : Nat) : (s.makeReady gid n).dies = s.dies := by unfold State.makeReady; split <;> simp
@[simp] theorem makeReady_cores (s : State) (gid n : Nat) : (s.makeReady gid n).cores = s.cores := by unfold State.makeReady; split <;> simp
@[simp] theorem makeReady_links (s : State) (gid n : Nat) : (s.makeReady gid n).links = s.links := by unfold State.makeReady; split <;> simp
@[simp] theorem makeReady_ports (s : State) (gid n : Nat) : (s.makeReady gid n).ports = s.ports := by unfold State.makeReady; split <;> simp
@[simp] theorem makeReady_eths (s : State) (gid n : Nat) : (s.makeReady gid n).eths = s.eths := by unfold State.makeReady; split <;> simp
@[simp] theorem makeReady_health (s : State) (gid n : Nat) : (s.makeReady gid n).health = s.health := by unfold State.makeReady; split <;> simp
@[simp] theorem makeReady_wv (s : State) (gid n : Nat) : (s.makeReady gid n).wv = s.wv := by unfold State.makeReady; split <;> simp
@[simp] theorem makeReady_conts (s : State) (gid n : Nat) : (s.makeReady gid n).conts = s.conts := by unfold State.makeReady; split <;> simp
@[simp] theorem makeReady_frames (s : State) (gid n : Nat) : (s.makeReady gid n).frames = s.frames := by unfold State.makeReady; split <;> simp
@[simp] theorem makeReady_replies (s : State) (gid n : Nat) : (s.makeReady gid n).replies = s.replies := by unfold State.makeReady; split <;> simp
@[simp] theorem makeReady_sockets (s : State) (gid n : Nat) : (s.makeReady gid n).sockets = s.sockets := by unfold State.makeReady; split <;> simp

@[simp] theorem reenter_agenda (s : State) (gid n : Nat) : (s.reenter gid n).agenda = s.agenda := by unfold State.reenter; dsimp only; (repeat' split) <;> simp
@[simp] theorem reenter_toIssue (s : State) (gid n : Nat) : (s.reenter gid n).toIssue = s.toIssue := by unfold State.reenter; dsimp only; (repeat' split) <;> simp
@[simp] theorem reenter_cur (s : State) (gid n : Nat) : (s.reenter gid n).cur = s.cur := by unfold State.reenter; dsimp only; (repeat' split) <;> simp
@[simp] theorem reenter_fresh (s : State) (gid n : Nat) : (s.reenter gid n).fresh = s.fresh := by unfold State.reenter; dsimp only; (repeat' split) <;> simp
@[simp] theorem reenter_cycle (s : State) (gid n : Nat) : (s.reenter gid n).cycle = s.cycle := by unfold State.reenter; dsimp only; (repeat' split) <;> simp
@[simp] theorem reenter_seq (s : State) (gid n : Nat) : (s.reenter gid n).seq = s.seq := by unfold State.reenter; dsimp only; (repeat' split) <;> simp
@[simp] theorem reenter_dstate (s : State) (gid n : Nat) : (s.reenter gid n).dstate = s.dstate := by unfold State.reenter; dsimp only; (repeat' split) <;> simp
@[simp] theorem reenter_lastG3 (s : State) (gid n : Nat) : (s.reenter gid n).lastG3 = s.lastG3 := by unfold State.reenter; dsimp only; (repeat' split) <;> simp
@[simp] theorem reenter_cap (s : State) (gid n : Nat) : (s.reenter gid n).cap = s.cap := by unfold State.reenter; dsimp only; (repeat' split) <;> simp
@[simp] theorem reenter_capNext (s : State) (gid n : Nat) : (s.reenter gid n).capNext = s.capNext := by unfold State.reenter; dsimp only; (repeat' split) <;> simp
@[simp] theorem reenter_lostCyc (s : State) (gid n : Nat) : (s.reenter gid n).lostCyc = s.lostCyc := by unfold State.reenter; dsimp only; (repeat' split) <;> simp
@[simp] theorem reenter_lostAt (s : State) (gid n : Nat) : (s.reenter gid n).lostAt = s.lostAt := by unfold State.reenter; dsimp only; (repeat' split) <;> simp
@[simp] theorem reenter_rails (s : State) (gid n : Nat) : (s.reenter gid n).rails = s.rails := by unfold State.reenter; dsimp only; (repeat' split) <;> simp
@[simp] theorem reenter_held (s : State) (gid n : Nat) : (s.reenter gid n).held = s.held := by unfold State.reenter; dsimp only; (repeat' split) <;> simp
@[simp] theorem reenter_fuses (s : State) (gid n : Nat) : (s.reenter gid n).fuses = s.fuses := by unfold State.reenter; dsimp only; (repeat' split) <;> simp
@[simp] theorem reenter_boot (s : State) (gid n : Nat) : (s.reenter gid n).boot = s.boot := by unfold State.reenter; dsimp only; (repeat' split) <;> simp
@[simp] theorem reenter_kregs (s : State) (gid n : Nat) : (s.reenter gid n).kregs = s.kregs := by unfold State.reenter; dsimp only; (repeat' split) <;> simp
@[simp] theorem reenter_mem (s : State) (gid n : Nat) : (s.reenter gid n).mem = s.mem := by unfold State.reenter; dsimp only; (repeat' split) <;> simp
@[simp] theorem reenter_poison (s : State) (gid n : Nat) : (s.reenter gid n).poison = s.poison := by unfold State.reenter; dsimp only; (repeat' split) <;> simp
@[simp] theorem reenter_tenants (s : State) (gid n : Nat) : (s.reenter gid n).tenants = s.tenants := by unfold State.reenter; dsimp only; (repeat' split) <;> simp
@[simp] theorem reenter_tiles (s : State) (gid n : Nat) : (s.reenter gid n).tiles = s.tiles := by unfold State.reenter; dsimp only; (repeat' split) <;> simp
@[simp] theorem reenter_clusters (s : State) (gid n : Nat) : (s.reenter gid n).clusters = s.clusters := by unfold State.reenter; dsimp only; (repeat' split) <;> simp
@[simp] theorem reenter_dies (s : State) (gid n : Nat) : (s.reenter gid n).dies = s.dies := by unfold State.reenter; dsimp only; (repeat' split) <;> simp
@[simp] theorem reenter_cores (s : State) (gid n : Nat) : (s.reenter gid n).cores = s.cores := by unfold State.reenter; dsimp only; (repeat' split) <;> simp
@[simp] theorem reenter_links (s : State) (gid n : Nat) : (s.reenter gid n).links = s.links := by unfold State.reenter; dsimp only; (repeat' split) <;> simp
@[simp] theorem reenter_ports (s : State) (gid n : Nat) : (s.reenter gid n).ports = s.ports := by unfold State.reenter; dsimp only; (repeat' split) <;> simp
@[simp] theorem reenter_eths (s : State) (gid n : Nat) : (s.reenter gid n).eths = s.eths := by unfold State.reenter; dsimp only; (repeat' split) <;> simp
@[simp] theorem reenter_health (s : State) (gid n : Nat) : (s.reenter gid n).health = s.health := by unfold State.reenter; dsimp only; (repeat' split) <;> simp
@[simp] theorem reenter_wv (s : State) (gid n : Nat) : (s.reenter gid n).wv = s.wv := by unfold State.reenter; dsimp only; (repeat' split) <;> simp
@[simp] theorem reenter_graphs (s : State) (gid n : Nat) : (s.reenter gid n).graphs = s.graphs := by unfold State.reenter; dsimp only; (repeat' split) <;> simp
@[simp] theorem reenter_conts (s : State) (gid n : Nat) : (s.reenter gid n).conts = s.conts := by unfold State.reenter; dsimp only; (repeat' split) <;> simp
@[simp] theorem reenter_frames (s : State) (gid n : Nat) : (s.reenter gid n).frames = s.frames := by unfold State.reenter; dsimp only; (repeat' split) <;> simp
@[simp] theorem reenter_replies (s : State) (gid n : Nat) : (s.reenter gid n).replies = s.replies := by unfold State.reenter; dsimp only; (repeat' split) <;> simp
@[simp] theorem reenter_sockets (s : State) (gid n : Nat) : (s.reenter gid n).sockets = s.sockets := by unfold State.reenter; dsimp only; (repeat' split) <;> simp

@[simp] theorem toFront_agenda (s : State) (gid n : Nat) : (s.toFront gid n).agenda = s.agenda := by unfold State.toFront; split <;> simp
@[simp] theorem toFront_toIssue (s : State) (gid n : Nat) : (s.toFront gid n).toIssue = s.toIssue := by unfold State.toFront; split <;> simp
@[simp] theorem toFront_cur (s : State) (gid n : Nat) : (s.toFront gid n).cur = s.cur := by unfold State.toFront; split <;> simp
@[simp] theorem toFront_fresh (s : State) (gid n : Nat) : (s.toFront gid n).fresh = s.fresh := by unfold State.toFront; split <;> simp
@[simp] theorem toFront_cycle (s : State) (gid n : Nat) : (s.toFront gid n).cycle = s.cycle := by unfold State.toFront; split <;> simp
@[simp] theorem toFront_seq (s : State) (gid n : Nat) : (s.toFront gid n).seq = s.seq := by unfold State.toFront; split <;> simp
@[simp] theorem toFront_dstate (s : State) (gid n : Nat) : (s.toFront gid n).dstate = s.dstate := by unfold State.toFront; split <;> simp
@[simp] theorem toFront_lastG3 (s : State) (gid n : Nat) : (s.toFront gid n).lastG3 = s.lastG3 := by unfold State.toFront; split <;> simp
@[simp] theorem toFront_cap (s : State) (gid n : Nat) : (s.toFront gid n).cap = s.cap := by unfold State.toFront; split <;> simp
@[simp] theorem toFront_capNext (s : State) (gid n : Nat) : (s.toFront gid n).capNext = s.capNext := by unfold State.toFront; split <;> simp
@[simp] theorem toFront_lostCyc (s : State) (gid n : Nat) : (s.toFront gid n).lostCyc = s.lostCyc := by unfold State.toFront; split <;> simp
@[simp] theorem toFront_lostAt (s : State) (gid n : Nat) : (s.toFront gid n).lostAt = s.lostAt := by unfold State.toFront; split <;> simp
@[simp] theorem toFront_rails (s : State) (gid n : Nat) : (s.toFront gid n).rails = s.rails := by unfold State.toFront; split <;> simp
@[simp] theorem toFront_held (s : State) (gid n : Nat) : (s.toFront gid n).held = s.held := by unfold State.toFront; split <;> simp
@[simp] theorem toFront_fuses (s : State) (gid n : Nat) : (s.toFront gid n).fuses = s.fuses := by unfold State.toFront; split <;> simp
@[simp] theorem toFront_boot (s : State) (gid n : Nat) : (s.toFront gid n).boot = s.boot := by unfold State.toFront; split <;> simp
@[simp] theorem toFront_kregs (s : State) (gid n : Nat) : (s.toFront gid n).kregs = s.kregs := by unfold State.toFront; split <;> simp
@[simp] theorem toFront_mem (s : State) (gid n : Nat) : (s.toFront gid n).mem = s.mem := by unfold State.toFront; split <;> simp
@[simp] theorem toFront_poison (s : State) (gid n : Nat) : (s.toFront gid n).poison = s.poison := by unfold State.toFront; split <;> simp
@[simp] theorem toFront_tenants (s : State) (gid n : Nat) : (s.toFront gid n).tenants = s.tenants := by unfold State.toFront; split <;> simp
@[simp] theorem toFront_tiles (s : State) (gid n : Nat) : (s.toFront gid n).tiles = s.tiles := by unfold State.toFront; split <;> simp
@[simp] theorem toFront_clusters (s : State) (gid n : Nat) : (s.toFront gid n).clusters = s.clusters := by unfold State.toFront; split <;> simp
@[simp] theorem toFront_dies (s : State) (gid n : Nat) : (s.toFront gid n).dies = s.dies := by unfold State.toFront; split <;> simp
@[simp] theorem toFront_cores (s : State) (gid n : Nat) : (s.toFront gid n).cores = s.cores := by unfold State.toFront; split <;> simp
@[simp] theorem toFront_links (s : State) (gid n : Nat) : (s.toFront gid n).links = s.links := by unfold State.toFront; split <;> simp
@[simp] theorem toFront_ports (s : State) (gid n : Nat) : (s.toFront gid n).ports = s.ports := by unfold State.toFront; split <;> simp
@[simp] theorem toFront_eths (s : State) (gid n : Nat) : (s.toFront gid n).eths = s.eths := by unfold State.toFront; split <;> simp
@[simp] theorem toFront_health (s : State) (gid n : Nat) : (s.toFront gid n).health = s.health := by unfold State.toFront; split <;> simp
@[simp] theorem toFront_wv (s : State) (gid n : Nat) : (s.toFront gid n).wv = s.wv := by unfold State.toFront; split <;> simp
@[simp] theorem toFront_graphs (s : State) (gid n : Nat) : (s.toFront gid n).graphs = s.graphs := by unfold State.toFront; split <;> simp
@[simp] theorem toFront_conts (s : State) (gid n : Nat) : (s.toFront gid n).conts = s.conts := by unfold State.toFront; split <;> simp
@[simp] theorem toFront_frames (s : State) (gid n : Nat) : (s.toFront gid n).frames = s.frames := by unfold State.toFront; split <;> simp
@[simp] theorem toFront_replies (s : State) (gid n : Nat) : (s.toFront gid n).replies = s.replies := by unfold State.toFront; split <;> simp
@[simp] theorem toFront_sockets (s : State) (gid n : Nat) : (s.toFront gid n).sockets = s.sockets := by unfold State.toFront; split <;> simp

@[simp] theorem unreserve_agenda (s : State) (gid n : Nat) : (s.unreserve gid n).agenda = s.agenda := rfl
@[simp] theorem unreserve_toIssue (s : State) (gid n : Nat) : (s.unreserve gid n).toIssue = s.toIssue := rfl
@[simp] theorem unreserve_cur (s : State) (gid n : Nat) : (s.unreserve gid n).cur = s.cur := rfl
@[simp] theorem unreserve_fresh (s : State) (gid n : Nat) : (s.unreserve gid n).fresh = s.fresh := rfl
@[simp] theorem unreserve_cycle (s : State) (gid n : Nat) : (s.unreserve gid n).cycle = s.cycle := rfl
@[simp] theorem unreserve_seq (s : State) (gid n : Nat) : (s.unreserve gid n).seq = s.seq := rfl
@[simp] theorem unreserve_dstate (s : State) (gid n : Nat) : (s.unreserve gid n).dstate = s.dstate := rfl
@[simp] theorem unreserve_lastG3 (s : State) (gid n : Nat) : (s.unreserve gid n).lastG3 = s.lastG3 := rfl
@[simp] theorem unreserve_cap (s : State) (gid n : Nat) : (s.unreserve gid n).cap = s.cap := rfl
@[simp] theorem unreserve_capNext (s : State) (gid n : Nat) : (s.unreserve gid n).capNext = s.capNext := rfl
@[simp] theorem unreserve_lostCyc (s : State) (gid n : Nat) : (s.unreserve gid n).lostCyc = s.lostCyc := rfl
@[simp] theorem unreserve_lostAt (s : State) (gid n : Nat) : (s.unreserve gid n).lostAt = s.lostAt := rfl
@[simp] theorem unreserve_rails (s : State) (gid n : Nat) : (s.unreserve gid n).rails = s.rails := rfl
@[simp] theorem unreserve_held (s : State) (gid n : Nat) : (s.unreserve gid n).held = s.held := rfl
@[simp] theorem unreserve_fuses (s : State) (gid n : Nat) : (s.unreserve gid n).fuses = s.fuses := rfl
@[simp] theorem unreserve_boot (s : State) (gid n : Nat) : (s.unreserve gid n).boot = s.boot := rfl
@[simp] theorem unreserve_kregs (s : State) (gid n : Nat) : (s.unreserve gid n).kregs = s.kregs := rfl
@[simp] theorem unreserve_mem (s : State) (gid n : Nat) : (s.unreserve gid n).mem = s.mem := rfl
@[simp] theorem unreserve_poison (s : State) (gid n : Nat) : (s.unreserve gid n).poison = s.poison := rfl
@[simp] theorem unreserve_tenants (s : State) (gid n : Nat) : (s.unreserve gid n).tenants = s.tenants := rfl
@[simp] theorem unreserve_clusters (s : State) (gid n : Nat) : (s.unreserve gid n).clusters = s.clusters := rfl
@[simp] theorem unreserve_dies (s : State) (gid n : Nat) : (s.unreserve gid n).dies = s.dies := rfl
@[simp] theorem unreserve_cores (s : State) (gid n : Nat) : (s.unreserve gid n).cores = s.cores := rfl
@[simp] theorem unreserve_links (s : State) (gid n : Nat) : (s.unreserve gid n).links = s.links := rfl
@[simp] theorem unreserve_ports (s : State) (gid n : Nat) : (s.unreserve gid n).ports = s.ports := rfl
@[simp] theorem unreserve_eths (s : State) (gid n : Nat) : (s.unreserve gid n).eths = s.eths := rfl
@[simp] theorem unreserve_health (s : State) (gid n : Nat) : (s.unreserve gid n).health = s.health := rfl
@[simp] theorem unreserve_wv (s : State) (gid n : Nat) : (s.unreserve gid n).wv = s.wv := rfl
@[simp] theorem unreserve_graphs (s : State) (gid n : Nat) : (s.unreserve gid n).graphs = s.graphs := rfl
@[simp] theorem unreserve_ready (s : State) (gid n : Nat) : (s.unreserve gid n).ready = s.ready := rfl
@[simp] theorem unreserve_ages (s : State) (gid n : Nat) : (s.unreserve gid n).ages = s.ages := rfl
@[simp] theorem unreserve_waitFrom (s : State) (gid n : Nat) : (s.unreserve gid n).waitFrom = s.waitFrom := rfl
@[simp] theorem unreserve_conts (s : State) (gid n : Nat) : (s.unreserve gid n).conts = s.conts := rfl
@[simp] theorem unreserve_frames (s : State) (gid n : Nat) : (s.unreserve gid n).frames = s.frames := rfl
@[simp] theorem unreserve_replies (s : State) (gid n : Nat) : (s.unreserve gid n).replies = s.replies := rfl
@[simp] theorem unreserve_sockets (s : State) (gid n : Nat) : (s.unreserve gid n).sockets = s.sockets := rfl

@[simp] theorem offList_agenda (s : State) (gid n : Nat) : (s.offList gid n).agenda = s.agenda := by unfold State.offList; split <;> simp
@[simp] theorem offList_toIssue (s : State) (gid n : Nat) : (s.offList gid n).toIssue = s.toIssue := by unfold State.offList; split <;> simp
@[simp] theorem offList_cur (s : State) (gid n : Nat) : (s.offList gid n).cur = s.cur := by unfold State.offList; split <;> simp
@[simp] theorem offList_fresh (s : State) (gid n : Nat) : (s.offList gid n).fresh = s.fresh := by unfold State.offList; split <;> simp
@[simp] theorem offList_cycle (s : State) (gid n : Nat) : (s.offList gid n).cycle = s.cycle := by unfold State.offList; split <;> simp
@[simp] theorem offList_seq (s : State) (gid n : Nat) : (s.offList gid n).seq = s.seq := by unfold State.offList; split <;> simp
@[simp] theorem offList_dstate (s : State) (gid n : Nat) : (s.offList gid n).dstate = s.dstate := by unfold State.offList; split <;> simp
@[simp] theorem offList_lastG3 (s : State) (gid n : Nat) : (s.offList gid n).lastG3 = s.lastG3 := by unfold State.offList; split <;> simp
@[simp] theorem offList_cap (s : State) (gid n : Nat) : (s.offList gid n).cap = s.cap := by unfold State.offList; split <;> simp
@[simp] theorem offList_capNext (s : State) (gid n : Nat) : (s.offList gid n).capNext = s.capNext := by unfold State.offList; split <;> simp
@[simp] theorem offList_lostCyc (s : State) (gid n : Nat) : (s.offList gid n).lostCyc = s.lostCyc := by unfold State.offList; split <;> simp
@[simp] theorem offList_lostAt (s : State) (gid n : Nat) : (s.offList gid n).lostAt = s.lostAt := by unfold State.offList; split <;> simp
@[simp] theorem offList_rails (s : State) (gid n : Nat) : (s.offList gid n).rails = s.rails := by unfold State.offList; split <;> simp
@[simp] theorem offList_held (s : State) (gid n : Nat) : (s.offList gid n).held = s.held := by unfold State.offList; split <;> simp
@[simp] theorem offList_fuses (s : State) (gid n : Nat) : (s.offList gid n).fuses = s.fuses := by unfold State.offList; split <;> simp
@[simp] theorem offList_boot (s : State) (gid n : Nat) : (s.offList gid n).boot = s.boot := by unfold State.offList; split <;> simp
@[simp] theorem offList_kregs (s : State) (gid n : Nat) : (s.offList gid n).kregs = s.kregs := by unfold State.offList; split <;> simp
@[simp] theorem offList_mem (s : State) (gid n : Nat) : (s.offList gid n).mem = s.mem := by unfold State.offList; split <;> simp
@[simp] theorem offList_poison (s : State) (gid n : Nat) : (s.offList gid n).poison = s.poison := by unfold State.offList; split <;> simp
@[simp] theorem offList_tenants (s : State) (gid n : Nat) : (s.offList gid n).tenants = s.tenants := by unfold State.offList; split <;> simp
@[simp] theorem offList_clusters (s : State) (gid n : Nat) : (s.offList gid n).clusters = s.clusters := by unfold State.offList; split <;> simp
@[simp] theorem offList_dies (s : State) (gid n : Nat) : (s.offList gid n).dies = s.dies := by unfold State.offList; split <;> simp
@[simp] theorem offList_cores (s : State) (gid n : Nat) : (s.offList gid n).cores = s.cores := by unfold State.offList; split <;> simp
@[simp] theorem offList_links (s : State) (gid n : Nat) : (s.offList gid n).links = s.links := by unfold State.offList; split <;> simp
@[simp] theorem offList_ports (s : State) (gid n : Nat) : (s.offList gid n).ports = s.ports := by unfold State.offList; split <;> simp
@[simp] theorem offList_eths (s : State) (gid n : Nat) : (s.offList gid n).eths = s.eths := by unfold State.offList; split <;> simp
@[simp] theorem offList_health (s : State) (gid n : Nat) : (s.offList gid n).health = s.health := by unfold State.offList; split <;> simp
@[simp] theorem offList_wv (s : State) (gid n : Nat) : (s.offList gid n).wv = s.wv := by unfold State.offList; split <;> simp
@[simp] theorem offList_graphs (s : State) (gid n : Nat) : (s.offList gid n).graphs = s.graphs := by unfold State.offList; split <;> simp
@[simp] theorem offList_conts (s : State) (gid n : Nat) : (s.offList gid n).conts = s.conts := by unfold State.offList; split <;> simp
@[simp] theorem offList_frames (s : State) (gid n : Nat) : (s.offList gid n).frames = s.frames := by unfold State.offList; split <;> simp
@[simp] theorem offList_replies (s : State) (gid n : Nat) : (s.offList gid n).replies = s.replies := by unfold State.offList; split <;> simp
@[simp] theorem offList_sockets (s : State) (gid n : Nat) : (s.offList gid n).sockets = s.sockets := by unfold State.offList; split <;> simp

@[simp] theorem taken_agenda (s : State) (p : Nat) (l : List (BitVec 512)) : (s.taken p l).agenda = s.agenda := rfl
@[simp] theorem taken_toIssue (s : State) (p : Nat) (l : List (BitVec 512)) : (s.taken p l).toIssue = s.toIssue := rfl
@[simp] theorem taken_cur (s : State) (p : Nat) (l : List (BitVec 512)) : (s.taken p l).cur = s.cur := rfl
@[simp] theorem taken_fresh (s : State) (p : Nat) (l : List (BitVec 512)) : (s.taken p l).fresh = s.fresh := rfl
@[simp] theorem taken_cycle (s : State) (p : Nat) (l : List (BitVec 512)) : (s.taken p l).cycle = s.cycle := rfl
@[simp] theorem taken_seq (s : State) (p : Nat) (l : List (BitVec 512)) : (s.taken p l).seq = s.seq := rfl
@[simp] theorem taken_dstate (s : State) (p : Nat) (l : List (BitVec 512)) : (s.taken p l).dstate = s.dstate := rfl
@[simp] theorem taken_lastG3 (s : State) (p : Nat) (l : List (BitVec 512)) : (s.taken p l).lastG3 = s.lastG3 := rfl
@[simp] theorem taken_cap (s : State) (p : Nat) (l : List (BitVec 512)) : (s.taken p l).cap = s.cap := rfl
@[simp] theorem taken_capNext (s : State) (p : Nat) (l : List (BitVec 512)) : (s.taken p l).capNext = s.capNext := rfl
@[simp] theorem taken_lostCyc (s : State) (p : Nat) (l : List (BitVec 512)) : (s.taken p l).lostCyc = s.lostCyc := rfl
@[simp] theorem taken_lostAt (s : State) (p : Nat) (l : List (BitVec 512)) : (s.taken p l).lostAt = s.lostAt := rfl
@[simp] theorem taken_rails (s : State) (p : Nat) (l : List (BitVec 512)) : (s.taken p l).rails = s.rails := rfl
@[simp] theorem taken_held (s : State) (p : Nat) (l : List (BitVec 512)) : (s.taken p l).held = s.held := rfl
@[simp] theorem taken_fuses (s : State) (p : Nat) (l : List (BitVec 512)) : (s.taken p l).fuses = s.fuses := rfl
@[simp] theorem taken_boot (s : State) (p : Nat) (l : List (BitVec 512)) : (s.taken p l).boot = s.boot := rfl
@[simp] theorem taken_kregs (s : State) (p : Nat) (l : List (BitVec 512)) : (s.taken p l).kregs = s.kregs := rfl
@[simp] theorem taken_mem (s : State) (p : Nat) (l : List (BitVec 512)) : (s.taken p l).mem = s.mem := rfl
@[simp] theorem taken_poison (s : State) (p : Nat) (l : List (BitVec 512)) : (s.taken p l).poison = s.poison := rfl
@[simp] theorem taken_tenants (s : State) (p : Nat) (l : List (BitVec 512)) : (s.taken p l).tenants = s.tenants := rfl
@[simp] theorem taken_tiles (s : State) (p : Nat) (l : List (BitVec 512)) : (s.taken p l).tiles = s.tiles := rfl
@[simp] theorem taken_clusters (s : State) (p : Nat) (l : List (BitVec 512)) : (s.taken p l).clusters = s.clusters := rfl
@[simp] theorem taken_dies (s : State) (p : Nat) (l : List (BitVec 512)) : (s.taken p l).dies = s.dies := rfl
@[simp] theorem taken_cores (s : State) (p : Nat) (l : List (BitVec 512)) : (s.taken p l).cores = s.cores := rfl
@[simp] theorem taken_links (s : State) (p : Nat) (l : List (BitVec 512)) : (s.taken p l).links = s.links := rfl
@[simp] theorem taken_eths (s : State) (p : Nat) (l : List (BitVec 512)) : (s.taken p l).eths = s.eths := rfl
@[simp] theorem taken_health (s : State) (p : Nat) (l : List (BitVec 512)) : (s.taken p l).health = s.health := rfl
@[simp] theorem taken_wv (s : State) (p : Nat) (l : List (BitVec 512)) : (s.taken p l).wv = s.wv := rfl
@[simp] theorem taken_graphs (s : State) (p : Nat) (l : List (BitVec 512)) : (s.taken p l).graphs = s.graphs := rfl
@[simp] theorem taken_ready (s : State) (p : Nat) (l : List (BitVec 512)) : (s.taken p l).ready = s.ready := rfl
@[simp] theorem taken_ages (s : State) (p : Nat) (l : List (BitVec 512)) : (s.taken p l).ages = s.ages := rfl
@[simp] theorem taken_waitFrom (s : State) (p : Nat) (l : List (BitVec 512)) : (s.taken p l).waitFrom = s.waitFrom := rfl
@[simp] theorem taken_conts (s : State) (p : Nat) (l : List (BitVec 512)) : (s.taken p l).conts = s.conts := rfl
@[simp] theorem taken_frames (s : State) (p : Nat) (l : List (BitVec 512)) : (s.taken p l).frames = s.frames := rfl
@[simp] theorem taken_replies (s : State) (p : Nat) (l : List (BitVec 512)) : (s.taken p l).replies = s.replies := rfl
@[simp] theorem taken_sockets (s : State) (p : Nat) (l : List (BitVec 512)) : (s.taken p l).sockets = s.sockets := rfl

@[simp] theorem sendFrom_agenda (s : State) (t n : Nat) (k : BitVec 4) (m : FabMsg) : (s.sendFrom t n k m).agenda = s.agenda := rfl
@[simp] theorem sendFrom_toIssue (s : State) (t n : Nat) (k : BitVec 4) (m : FabMsg) : (s.sendFrom t n k m).toIssue = s.toIssue := rfl
@[simp] theorem sendFrom_cur (s : State) (t n : Nat) (k : BitVec 4) (m : FabMsg) : (s.sendFrom t n k m).cur = s.cur := rfl
@[simp] theorem sendFrom_fresh (s : State) (t n : Nat) (k : BitVec 4) (m : FabMsg) : (s.sendFrom t n k m).fresh = s.fresh := rfl
@[simp] theorem sendFrom_cycle (s : State) (t n : Nat) (k : BitVec 4) (m : FabMsg) : (s.sendFrom t n k m).cycle = s.cycle := rfl
@[simp] theorem sendFrom_seq (s : State) (t n : Nat) (k : BitVec 4) (m : FabMsg) : (s.sendFrom t n k m).seq = s.seq := rfl
@[simp] theorem sendFrom_dstate (s : State) (t n : Nat) (k : BitVec 4) (m : FabMsg) : (s.sendFrom t n k m).dstate = s.dstate := rfl
@[simp] theorem sendFrom_lastG3 (s : State) (t n : Nat) (k : BitVec 4) (m : FabMsg) : (s.sendFrom t n k m).lastG3 = s.lastG3 := rfl
@[simp] theorem sendFrom_cap (s : State) (t n : Nat) (k : BitVec 4) (m : FabMsg) : (s.sendFrom t n k m).cap = s.cap := rfl
@[simp] theorem sendFrom_capNext (s : State) (t n : Nat) (k : BitVec 4) (m : FabMsg) : (s.sendFrom t n k m).capNext = s.capNext := rfl
@[simp] theorem sendFrom_lostCyc (s : State) (t n : Nat) (k : BitVec 4) (m : FabMsg) : (s.sendFrom t n k m).lostCyc = s.lostCyc := rfl
@[simp] theorem sendFrom_lostAt (s : State) (t n : Nat) (k : BitVec 4) (m : FabMsg) : (s.sendFrom t n k m).lostAt = s.lostAt := rfl
@[simp] theorem sendFrom_rails (s : State) (t n : Nat) (k : BitVec 4) (m : FabMsg) : (s.sendFrom t n k m).rails = s.rails := rfl
@[simp] theorem sendFrom_held (s : State) (t n : Nat) (k : BitVec 4) (m : FabMsg) : (s.sendFrom t n k m).held = s.held := rfl
@[simp] theorem sendFrom_fuses (s : State) (t n : Nat) (k : BitVec 4) (m : FabMsg) : (s.sendFrom t n k m).fuses = s.fuses := rfl
@[simp] theorem sendFrom_boot (s : State) (t n : Nat) (k : BitVec 4) (m : FabMsg) : (s.sendFrom t n k m).boot = s.boot := rfl
@[simp] theorem sendFrom_kregs (s : State) (t n : Nat) (k : BitVec 4) (m : FabMsg) : (s.sendFrom t n k m).kregs = s.kregs := rfl
@[simp] theorem sendFrom_mem (s : State) (t n : Nat) (k : BitVec 4) (m : FabMsg) : (s.sendFrom t n k m).mem = s.mem := rfl
@[simp] theorem sendFrom_poison (s : State) (t n : Nat) (k : BitVec 4) (m : FabMsg) : (s.sendFrom t n k m).poison = s.poison := rfl
@[simp] theorem sendFrom_tenants (s : State) (t n : Nat) (k : BitVec 4) (m : FabMsg) : (s.sendFrom t n k m).tenants = s.tenants := rfl
@[simp] theorem sendFrom_tiles (s : State) (t n : Nat) (k : BitVec 4) (m : FabMsg) : (s.sendFrom t n k m).tiles = s.tiles := rfl
@[simp] theorem sendFrom_clusters (s : State) (t n : Nat) (k : BitVec 4) (m : FabMsg) : (s.sendFrom t n k m).clusters = s.clusters := rfl
@[simp] theorem sendFrom_dies (s : State) (t n : Nat) (k : BitVec 4) (m : FabMsg) : (s.sendFrom t n k m).dies = s.dies := rfl
@[simp] theorem sendFrom_cores (s : State) (t n : Nat) (k : BitVec 4) (m : FabMsg) : (s.sendFrom t n k m).cores = s.cores := rfl
@[simp] theorem sendFrom_links (s : State) (t n : Nat) (k : BitVec 4) (m : FabMsg) : (s.sendFrom t n k m).links = s.links := rfl
@[simp] theorem sendFrom_eths (s : State) (t n : Nat) (k : BitVec 4) (m : FabMsg) : (s.sendFrom t n k m).eths = s.eths := rfl
@[simp] theorem sendFrom_health (s : State) (t n : Nat) (k : BitVec 4) (m : FabMsg) : (s.sendFrom t n k m).health = s.health := rfl
@[simp] theorem sendFrom_wv (s : State) (t n : Nat) (k : BitVec 4) (m : FabMsg) : (s.sendFrom t n k m).wv = s.wv := rfl
@[simp] theorem sendFrom_graphs (s : State) (t n : Nat) (k : BitVec 4) (m : FabMsg) : (s.sendFrom t n k m).graphs = s.graphs := rfl
@[simp] theorem sendFrom_ready (s : State) (t n : Nat) (k : BitVec 4) (m : FabMsg) : (s.sendFrom t n k m).ready = s.ready := rfl
@[simp] theorem sendFrom_ages (s : State) (t n : Nat) (k : BitVec 4) (m : FabMsg) : (s.sendFrom t n k m).ages = s.ages := rfl
@[simp] theorem sendFrom_waitFrom (s : State) (t n : Nat) (k : BitVec 4) (m : FabMsg) : (s.sendFrom t n k m).waitFrom = s.waitFrom := rfl
@[simp] theorem sendFrom_conts (s : State) (t n : Nat) (k : BitVec 4) (m : FabMsg) : (s.sendFrom t n k m).conts = s.conts := rfl
@[simp] theorem sendFrom_frames (s : State) (t n : Nat) (k : BitVec 4) (m : FabMsg) : (s.sendFrom t n k m).frames = s.frames := rfl
@[simp] theorem sendFrom_replies (s : State) (t n : Nat) (k : BitVec 4) (m : FabMsg) : (s.sendFrom t n k m).replies = s.replies := rfl
@[simp] theorem sendFrom_sockets (s : State) (t n : Nat) (k : BitVec 4) (m : FabMsg) : (s.sendFrom t n k m).sockets = s.sockets := rfl

@[simp] theorem answer_agenda (s : State) (p d : Nat) (k : BitVec 4) (m : FabMsg) (a : Nat) (l : List Byte) : (s.answer p d k m a l).agenda = s.agenda := rfl
@[simp] theorem answer_toIssue (s : State) (p d : Nat) (k : BitVec 4) (m : FabMsg) (a : Nat) (l : List Byte) : (s.answer p d k m a l).toIssue = s.toIssue := rfl
@[simp] theorem answer_cur (s : State) (p d : Nat) (k : BitVec 4) (m : FabMsg) (a : Nat) (l : List Byte) : (s.answer p d k m a l).cur = s.cur := rfl
@[simp] theorem answer_fresh (s : State) (p d : Nat) (k : BitVec 4) (m : FabMsg) (a : Nat) (l : List Byte) : (s.answer p d k m a l).fresh = s.fresh := rfl
@[simp] theorem answer_cycle (s : State) (p d : Nat) (k : BitVec 4) (m : FabMsg) (a : Nat) (l : List Byte) : (s.answer p d k m a l).cycle = s.cycle := rfl
@[simp] theorem answer_seq (s : State) (p d : Nat) (k : BitVec 4) (m : FabMsg) (a : Nat) (l : List Byte) : (s.answer p d k m a l).seq = s.seq := rfl
@[simp] theorem answer_dstate (s : State) (p d : Nat) (k : BitVec 4) (m : FabMsg) (a : Nat) (l : List Byte) : (s.answer p d k m a l).dstate = s.dstate := rfl
@[simp] theorem answer_lastG3 (s : State) (p d : Nat) (k : BitVec 4) (m : FabMsg) (a : Nat) (l : List Byte) : (s.answer p d k m a l).lastG3 = s.lastG3 := rfl
@[simp] theorem answer_cap (s : State) (p d : Nat) (k : BitVec 4) (m : FabMsg) (a : Nat) (l : List Byte) : (s.answer p d k m a l).cap = s.cap := rfl
@[simp] theorem answer_capNext (s : State) (p d : Nat) (k : BitVec 4) (m : FabMsg) (a : Nat) (l : List Byte) : (s.answer p d k m a l).capNext = s.capNext := rfl
@[simp] theorem answer_lostCyc (s : State) (p d : Nat) (k : BitVec 4) (m : FabMsg) (a : Nat) (l : List Byte) : (s.answer p d k m a l).lostCyc = s.lostCyc := rfl
@[simp] theorem answer_lostAt (s : State) (p d : Nat) (k : BitVec 4) (m : FabMsg) (a : Nat) (l : List Byte) : (s.answer p d k m a l).lostAt = s.lostAt := rfl
@[simp] theorem answer_rails (s : State) (p d : Nat) (k : BitVec 4) (m : FabMsg) (a : Nat) (l : List Byte) : (s.answer p d k m a l).rails = s.rails := rfl
@[simp] theorem answer_held (s : State) (p d : Nat) (k : BitVec 4) (m : FabMsg) (a : Nat) (l : List Byte) : (s.answer p d k m a l).held = s.held := rfl
@[simp] theorem answer_fuses (s : State) (p d : Nat) (k : BitVec 4) (m : FabMsg) (a : Nat) (l : List Byte) : (s.answer p d k m a l).fuses = s.fuses := rfl
@[simp] theorem answer_boot (s : State) (p d : Nat) (k : BitVec 4) (m : FabMsg) (a : Nat) (l : List Byte) : (s.answer p d k m a l).boot = s.boot := rfl
@[simp] theorem answer_kregs (s : State) (p d : Nat) (k : BitVec 4) (m : FabMsg) (a : Nat) (l : List Byte) : (s.answer p d k m a l).kregs = s.kregs := rfl
@[simp] theorem answer_mem (s : State) (p d : Nat) (k : BitVec 4) (m : FabMsg) (a : Nat) (l : List Byte) : (s.answer p d k m a l).mem = s.mem := rfl
@[simp] theorem answer_poison (s : State) (p d : Nat) (k : BitVec 4) (m : FabMsg) (a : Nat) (l : List Byte) : (s.answer p d k m a l).poison = s.poison := rfl
@[simp] theorem answer_tenants (s : State) (p d : Nat) (k : BitVec 4) (m : FabMsg) (a : Nat) (l : List Byte) : (s.answer p d k m a l).tenants = s.tenants := rfl
@[simp] theorem answer_tiles (s : State) (p d : Nat) (k : BitVec 4) (m : FabMsg) (a : Nat) (l : List Byte) : (s.answer p d k m a l).tiles = s.tiles := rfl
@[simp] theorem answer_clusters (s : State) (p d : Nat) (k : BitVec 4) (m : FabMsg) (a : Nat) (l : List Byte) : (s.answer p d k m a l).clusters = s.clusters := rfl
@[simp] theorem answer_dies (s : State) (p d : Nat) (k : BitVec 4) (m : FabMsg) (a : Nat) (l : List Byte) : (s.answer p d k m a l).dies = s.dies := rfl
@[simp] theorem answer_cores (s : State) (p d : Nat) (k : BitVec 4) (m : FabMsg) (a : Nat) (l : List Byte) : (s.answer p d k m a l).cores = s.cores := rfl
@[simp] theorem answer_links (s : State) (p d : Nat) (k : BitVec 4) (m : FabMsg) (a : Nat) (l : List Byte) : (s.answer p d k m a l).links = s.links := rfl
@[simp] theorem answer_eths (s : State) (p d : Nat) (k : BitVec 4) (m : FabMsg) (a : Nat) (l : List Byte) : (s.answer p d k m a l).eths = s.eths := rfl
@[simp] theorem answer_health (s : State) (p d : Nat) (k : BitVec 4) (m : FabMsg) (a : Nat) (l : List Byte) : (s.answer p d k m a l).health = s.health := rfl
@[simp] theorem answer_wv (s : State) (p d : Nat) (k : BitVec 4) (m : FabMsg) (a : Nat) (l : List Byte) : (s.answer p d k m a l).wv = s.wv := rfl
@[simp] theorem answer_graphs (s : State) (p d : Nat) (k : BitVec 4) (m : FabMsg) (a : Nat) (l : List Byte) : (s.answer p d k m a l).graphs = s.graphs := rfl
@[simp] theorem answer_ready (s : State) (p d : Nat) (k : BitVec 4) (m : FabMsg) (a : Nat) (l : List Byte) : (s.answer p d k m a l).ready = s.ready := rfl
@[simp] theorem answer_ages (s : State) (p d : Nat) (k : BitVec 4) (m : FabMsg) (a : Nat) (l : List Byte) : (s.answer p d k m a l).ages = s.ages := rfl
@[simp] theorem answer_waitFrom (s : State) (p d : Nat) (k : BitVec 4) (m : FabMsg) (a : Nat) (l : List Byte) : (s.answer p d k m a l).waitFrom = s.waitFrom := rfl
@[simp] theorem answer_conts (s : State) (p d : Nat) (k : BitVec 4) (m : FabMsg) (a : Nat) (l : List Byte) : (s.answer p d k m a l).conts = s.conts := rfl
@[simp] theorem answer_frames (s : State) (p d : Nat) (k : BitVec 4) (m : FabMsg) (a : Nat) (l : List Byte) : (s.answer p d k m a l).frames = s.frames := rfl
@[simp] theorem answer_replies (s : State) (p d : Nat) (k : BitVec 4) (m : FabMsg) (a : Nat) (l : List Byte) : (s.answer p d k m a l).replies = s.replies := rfl
@[simp] theorem answer_sockets (s : State) (p d : Nat) (k : BitVec 4) (m : FabMsg) (a : Nat) (l : List Byte) : (s.answer p d k m a l).sockets = s.sockets := rfl

@[simp] theorem freeBytes_agenda (s : State) (n : Nat) : (s.freeBytes n).2.agenda = s.agenda := rfl
@[simp] theorem freeBytes_toIssue (s : State) (n : Nat) : (s.freeBytes n).2.toIssue = s.toIssue := rfl
@[simp] theorem freeBytes_cur (s : State) (n : Nat) : (s.freeBytes n).2.cur = s.cur := rfl
@[simp] theorem freeBytes_cycle (s : State) (n : Nat) : (s.freeBytes n).2.cycle = s.cycle := rfl
@[simp] theorem freeBytes_seq (s : State) (n : Nat) : (s.freeBytes n).2.seq = s.seq := rfl
@[simp] theorem freeBytes_dstate (s : State) (n : Nat) : (s.freeBytes n).2.dstate = s.dstate := rfl
@[simp] theorem freeBytes_lastG3 (s : State) (n : Nat) : (s.freeBytes n).2.lastG3 = s.lastG3 := rfl
@[simp] theorem freeBytes_cap (s : State) (n : Nat) : (s.freeBytes n).2.cap = s.cap := rfl
@[simp] theorem freeBytes_capNext (s : State) (n : Nat) : (s.freeBytes n).2.capNext = s.capNext := rfl
@[simp] theorem freeBytes_lostCyc (s : State) (n : Nat) : (s.freeBytes n).2.lostCyc = s.lostCyc := rfl
@[simp] theorem freeBytes_lostAt (s : State) (n : Nat) : (s.freeBytes n).2.lostAt = s.lostAt := rfl
@[simp] theorem freeBytes_rails (s : State) (n : Nat) : (s.freeBytes n).2.rails = s.rails := rfl
@[simp] theorem freeBytes_held (s : State) (n : Nat) : (s.freeBytes n).2.held = s.held := rfl
@[simp] theorem freeBytes_fuses (s : State) (n : Nat) : (s.freeBytes n).2.fuses = s.fuses := rfl
@[simp] theorem freeBytes_boot (s : State) (n : Nat) : (s.freeBytes n).2.boot = s.boot := rfl
@[simp] theorem freeBytes_kregs (s : State) (n : Nat) : (s.freeBytes n).2.kregs = s.kregs := rfl
@[simp] theorem freeBytes_mem (s : State) (n : Nat) : (s.freeBytes n).2.mem = s.mem := rfl
@[simp] theorem freeBytes_poison (s : State) (n : Nat) : (s.freeBytes n).2.poison = s.poison := rfl
@[simp] theorem freeBytes_tenants (s : State) (n : Nat) : (s.freeBytes n).2.tenants = s.tenants := rfl
@[simp] theorem freeBytes_tiles (s : State) (n : Nat) : (s.freeBytes n).2.tiles = s.tiles := rfl
@[simp] theorem freeBytes_clusters (s : State) (n : Nat) : (s.freeBytes n).2.clusters = s.clusters := rfl
@[simp] theorem freeBytes_dies (s : State) (n : Nat) : (s.freeBytes n).2.dies = s.dies := rfl
@[simp] theorem freeBytes_cores (s : State) (n : Nat) : (s.freeBytes n).2.cores = s.cores := rfl
@[simp] theorem freeBytes_links (s : State) (n : Nat) : (s.freeBytes n).2.links = s.links := rfl
@[simp] theorem freeBytes_ports (s : State) (n : Nat) : (s.freeBytes n).2.ports = s.ports := rfl
@[simp] theorem freeBytes_eths (s : State) (n : Nat) : (s.freeBytes n).2.eths = s.eths := rfl
@[simp] theorem freeBytes_health (s : State) (n : Nat) : (s.freeBytes n).2.health = s.health := rfl
@[simp] theorem freeBytes_wv (s : State) (n : Nat) : (s.freeBytes n).2.wv = s.wv := rfl
@[simp] theorem freeBytes_graphs (s : State) (n : Nat) : (s.freeBytes n).2.graphs = s.graphs := rfl
@[simp] theorem freeBytes_ready (s : State) (n : Nat) : (s.freeBytes n).2.ready = s.ready := rfl
@[simp] theorem freeBytes_ages (s : State) (n : Nat) : (s.freeBytes n).2.ages = s.ages := rfl
@[simp] theorem freeBytes_waitFrom (s : State) (n : Nat) : (s.freeBytes n).2.waitFrom = s.waitFrom := rfl
@[simp] theorem freeBytes_conts (s : State) (n : Nat) : (s.freeBytes n).2.conts = s.conts := rfl
@[simp] theorem freeBytes_frames (s : State) (n : Nat) : (s.freeBytes n).2.frames = s.frames := rfl
@[simp] theorem freeBytes_replies (s : State) (n : Nat) : (s.freeBytes n).2.replies = s.replies := rfl
@[simp] theorem freeBytes_sockets (s : State) (n : Nat) : (s.freeBytes n).2.sockets = s.sockets := rfl

@[simp] theorem choose_agenda (s : State) (n : Nat) : (s.choose n).2.agenda = s.agenda := rfl
@[simp] theorem choose_toIssue (s : State) (n : Nat) : (s.choose n).2.toIssue = s.toIssue := rfl
@[simp] theorem choose_cur (s : State) (n : Nat) : (s.choose n).2.cur = s.cur := rfl
@[simp] theorem choose_cycle (s : State) (n : Nat) : (s.choose n).2.cycle = s.cycle := rfl
@[simp] theorem choose_seq (s : State) (n : Nat) : (s.choose n).2.seq = s.seq := rfl
@[simp] theorem choose_dstate (s : State) (n : Nat) : (s.choose n).2.dstate = s.dstate := rfl
@[simp] theorem choose_lastG3 (s : State) (n : Nat) : (s.choose n).2.lastG3 = s.lastG3 := rfl
@[simp] theorem choose_cap (s : State) (n : Nat) : (s.choose n).2.cap = s.cap := rfl
@[simp] theorem choose_capNext (s : State) (n : Nat) : (s.choose n).2.capNext = s.capNext := rfl
@[simp] theorem choose_lostCyc (s : State) (n : Nat) : (s.choose n).2.lostCyc = s.lostCyc := rfl
@[simp] theorem choose_lostAt (s : State) (n : Nat) : (s.choose n).2.lostAt = s.lostAt := rfl
@[simp] theorem choose_rails (s : State) (n : Nat) : (s.choose n).2.rails = s.rails := rfl
@[simp] theorem choose_held (s : State) (n : Nat) : (s.choose n).2.held = s.held := rfl
@[simp] theorem choose_fuses (s : State) (n : Nat) : (s.choose n).2.fuses = s.fuses := rfl
@[simp] theorem choose_boot (s : State) (n : Nat) : (s.choose n).2.boot = s.boot := rfl
@[simp] theorem choose_kregs (s : State) (n : Nat) : (s.choose n).2.kregs = s.kregs := rfl
@[simp] theorem choose_mem (s : State) (n : Nat) : (s.choose n).2.mem = s.mem := rfl
@[simp] theorem choose_poison (s : State) (n : Nat) : (s.choose n).2.poison = s.poison := rfl
@[simp] theorem choose_tenants (s : State) (n : Nat) : (s.choose n).2.tenants = s.tenants := rfl
@[simp] theorem choose_tiles (s : State) (n : Nat) : (s.choose n).2.tiles = s.tiles := rfl
@[simp] theorem choose_clusters (s : State) (n : Nat) : (s.choose n).2.clusters = s.clusters := rfl
@[simp] theorem choose_dies (s : State) (n : Nat) : (s.choose n).2.dies = s.dies := rfl
@[simp] theorem choose_cores (s : State) (n : Nat) : (s.choose n).2.cores = s.cores := rfl
@[simp] theorem choose_links (s : State) (n : Nat) : (s.choose n).2.links = s.links := rfl
@[simp] theorem choose_ports (s : State) (n : Nat) : (s.choose n).2.ports = s.ports := rfl
@[simp] theorem choose_eths (s : State) (n : Nat) : (s.choose n).2.eths = s.eths := rfl
@[simp] theorem choose_health (s : State) (n : Nat) : (s.choose n).2.health = s.health := rfl
@[simp] theorem choose_wv (s : State) (n : Nat) : (s.choose n).2.wv = s.wv := rfl
@[simp] theorem choose_graphs (s : State) (n : Nat) : (s.choose n).2.graphs = s.graphs := rfl
@[simp] theorem choose_ready (s : State) (n : Nat) : (s.choose n).2.ready = s.ready := rfl
@[simp] theorem choose_ages (s : State) (n : Nat) : (s.choose n).2.ages = s.ages := rfl
@[simp] theorem choose_waitFrom (s : State) (n : Nat) : (s.choose n).2.waitFrom = s.waitFrom := rfl
@[simp] theorem choose_conts (s : State) (n : Nat) : (s.choose n).2.conts = s.conts := rfl
@[simp] theorem choose_frames (s : State) (n : Nat) : (s.choose n).2.frames = s.frames := rfl
@[simp] theorem choose_replies (s : State) (n : Nat) : (s.choose n).2.replies = s.replies := rfl
@[simp] theorem choose_sockets (s : State) (n : Nat) : (s.choose n).2.sockets = s.sockets := rfl

@[simp] theorem stamp_agenda (s : State) : s.stamp.2.agenda = s.agenda := rfl
@[simp] theorem stamp_toIssue (s : State) : s.stamp.2.toIssue = s.toIssue := rfl
@[simp] theorem stamp_cur (s : State) : s.stamp.2.cur = s.cur := rfl
@[simp] theorem stamp_fresh (s : State) : s.stamp.2.fresh = s.fresh := rfl
@[simp] theorem stamp_cycle (s : State) : s.stamp.2.cycle = s.cycle := rfl
@[simp] theorem stamp_dstate (s : State) : s.stamp.2.dstate = s.dstate := rfl
@[simp] theorem stamp_lastG3 (s : State) : s.stamp.2.lastG3 = s.lastG3 := rfl
@[simp] theorem stamp_cap (s : State) : s.stamp.2.cap = s.cap := rfl
@[simp] theorem stamp_capNext (s : State) : s.stamp.2.capNext = s.capNext := rfl
@[simp] theorem stamp_lostCyc (s : State) : s.stamp.2.lostCyc = s.lostCyc := rfl
@[simp] theorem stamp_lostAt (s : State) : s.stamp.2.lostAt = s.lostAt := rfl
@[simp] theorem stamp_rails (s : State) : s.stamp.2.rails = s.rails := rfl
@[simp] theorem stamp_held (s : State) : s.stamp.2.held = s.held := rfl
@[simp] theorem stamp_fuses (s : State) : s.stamp.2.fuses = s.fuses := rfl
@[simp] theorem stamp_boot (s : State) : s.stamp.2.boot = s.boot := rfl
@[simp] theorem stamp_kregs (s : State) : s.stamp.2.kregs = s.kregs := rfl
@[simp] theorem stamp_mem (s : State) : s.stamp.2.mem = s.mem := rfl
@[simp] theorem stamp_poison (s : State) : s.stamp.2.poison = s.poison := rfl
@[simp] theorem stamp_tenants (s : State) : s.stamp.2.tenants = s.tenants := rfl
@[simp] theorem stamp_tiles (s : State) : s.stamp.2.tiles = s.tiles := rfl
@[simp] theorem stamp_clusters (s : State) : s.stamp.2.clusters = s.clusters := rfl
@[simp] theorem stamp_dies (s : State) : s.stamp.2.dies = s.dies := rfl
@[simp] theorem stamp_cores (s : State) : s.stamp.2.cores = s.cores := rfl
@[simp] theorem stamp_links (s : State) : s.stamp.2.links = s.links := rfl
@[simp] theorem stamp_ports (s : State) : s.stamp.2.ports = s.ports := rfl
@[simp] theorem stamp_eths (s : State) : s.stamp.2.eths = s.eths := rfl
@[simp] theorem stamp_health (s : State) : s.stamp.2.health = s.health := rfl
@[simp] theorem stamp_wv (s : State) : s.stamp.2.wv = s.wv := rfl
@[simp] theorem stamp_graphs (s : State) : s.stamp.2.graphs = s.graphs := rfl
@[simp] theorem stamp_ready (s : State) : s.stamp.2.ready = s.ready := rfl
@[simp] theorem stamp_ages (s : State) : s.stamp.2.ages = s.ages := rfl
@[simp] theorem stamp_waitFrom (s : State) : s.stamp.2.waitFrom = s.waitFrom := rfl
@[simp] theorem stamp_conts (s : State) : s.stamp.2.conts = s.conts := rfl
@[simp] theorem stamp_frames (s : State) : s.stamp.2.frames = s.frames := rfl
@[simp] theorem stamp_replies (s : State) : s.stamp.2.replies = s.replies := rfl
@[simp] theorem stamp_sockets (s : State) : s.stamp.2.sockets = s.sockets := rfl

/-! ## The fields written -/

@[simp] theorem toDState_dstate (s : State) (d : DState) (c : Cause) : (s.toDState d c).dstate = d := by
  unfold State.toDState; exact (foldl_keeps _ (fun s : State => s.dstate) (fun s n => by split <;> simp) _ _).trans rfl
@[simp] theorem g3_lastG3 (s : State) (c : Cause) : (s.g3 c).lastG3 = some (s.lastG3.getD c) := by unfold State.g3; dsimp only; split <;> simp
/-- FAULTED is entered from every state but BRINGUP and FAULTED (R20). -/
theorem g3_dstate (s : State) (c : Cause) :
    (s.g3 c).dstate = (if s.dstate = .bringup ∨ s.dstate = .faulted then s.dstate else .faulted) := by
  unfold State.g3; dsimp only; split <;> simp

/-- A log record touches the producer index and the lost count alone of the kernel registers (R290). -/
theorem klog_kregs (s : State) (kind : Nat) (c : Cause) (info unit tmask lo hi : Nat) :
    ∃ a b, (s.klog kind c info unit tmask lo hi).kregs = { s.kregs with klprod := a, kllost := b } := by
  unfold State.klog; dsimp only; split
  · exact ⟨_, _, rfl⟩
  · exact ⟨_, _, rfl⟩
/-- So does the record of an uncorrectable line. -/
theorem readMet_kregs (s : State) (pa n : Nat) : ∃ a b, (s.readMet pa n).kregs = { s.kregs with klprod := a, kllost := b } := by
  unfold State.readMet State.metIn State.metLine; dsimp only; (repeat' split)
  all_goals first
    | exact ⟨_, _, rfl⟩
    | exact klog_kregs _ _ _ _ _ _ _ _
/-- An event touches the producer index and the lost count of the kernel log alone. -/
theorem event_kregs (s : State) (n kind : Nat) (c : Option Cause) (info node : Nat) (user : W64) :
    ∃ a b, (s.event n kind c info node user).kregs = { s.kregs with klprod := a, kllost := b } := by
  obtain ⟨x, y, e⟩ := readMet_kregs s (s.evconsAt n) 4
  unfold State.event; dsimp only; (repeat' split)
  all_goals first
    | (obtain ⟨a, b, h⟩ := klog_kregs ((s.readMet (s.evconsAt n) 4).modTenant n (fun t => { t with evlost := t.evlost + 1 })) 6 0x6B#7 0 0 (2 ^ n) 0 0
       exact ⟨a, b, by rw [h, modTenant_kregs, e]⟩)
    | exact ⟨x, y, e⟩
/-- So does a change of device state. -/
theorem toDState_kregs (s : State) (d : DState) (c : Cause) : ∃ a b, (s.toDState d c).kregs = { s.kregs with klprod := a, kllost := b } := by
  unfold State.toDState
  refine foldl_inv _ (fun t : State => ∃ a b, t.kregs = { s.kregs with klprod := a, kllost := b }) ?_ _ _ ⟨_, _, rfl⟩
  intro t n ⟨a, b, h⟩
  split
  · obtain ⟨x, y, e⟩ := event_kregs t n 4 (if d = .faulted then some c else none) d.code 0 0
    exact ⟨x, y, by rw [e, h]⟩
  · exact ⟨a, b, h⟩

/-! ## Device memory keeps its canonical form (log entry 2) -/

theorem mwf_msets (g : SMap Byte) (l : List (Nat × Byte)) (h : mwf 0 g = true) : mwf 0 (l.foldl (fun m e => mset 0 m e.1 e.2) g) = true :=
  foldl_inv _ (fun m => mwf 0 m = true) (fun _ _ hm => mwf_mset _ _ _ _ hm) _ _ h
theorem memWrite_wf (s : State) (pa : Nat) (l : List Byte) (h : Memory.wf s.mem = true) : Memory.wf (s.memWrite pa l).mem = true := by
  unfold State.memWrite; dsimp only; split
  · exact mwf_mwrite _ _ _ _ h
  · exact mwf_msets _ _ h
theorem memPut_wf (s : State) (pa n v : Nat) (h : Memory.wf s.mem = true) : Memory.wf (s.memPut pa n v).mem = true := memWrite_wf _ _ _ h
theorem memRegion_wf (s : State) (pa n : Nat) (m : SMap Byte) (h : Memory.wf s.mem = true) : Memory.wf (s.memRegion pa n m).mem = true := by
  unfold State.memRegion; dsimp only; split
  · exact mwf_mregion _ _ _ _ _ h
  · exact mwf_msets _ _ (mwf_mregion _ _ _ _ _ h)
theorem freeRegion_wf (s : State) (pa n : Nat) (h : Memory.wf s.mem = true) : Memory.wf (s.freeRegion pa n).mem = true := memRegion_wf _ _ _ _ h
theorem reset_wf : Memory.wf State.reset.mem = true := rfl
theorem klog_wf (s : State) (kind : Nat) (c : Cause) (info unit tmask lo hi : Nat) (h : Memory.wf s.mem = true) :
    Memory.wf (s.klog kind c info unit tmask lo hi).mem = true := by
  unfold State.klog; dsimp only; split
  · exact h
  · exact memWrite_wf _ _ _ h
theorem readMet_wf (s : State) (pa n : Nat) (h : Memory.wf s.mem = true) : Memory.wf (s.readMet pa n).mem = true := by
  unfold State.readMet State.metIn State.metLine; dsimp only; (repeat' split)
  all_goals first
    | exact h
    | exact klog_wf _ _ _ _ _ _ _ _ h
theorem event_wf (s : State) (n kind : Nat) (c : Option Cause) (info node : Nat) (user : W64) (h : Memory.wf s.mem = true) :
    Memory.wf (s.event n kind c info node user).mem = true := by
  have g := readMet_wf s (s.evconsAt n) 4 h
  unfold State.event; dsimp only; (repeat' split)
  all_goals first
    | exact klog_wf _ _ _ _ _ _ _ _ g
    | exact memWrite_wf _ _ _ g
theorem toDState_wf (s : State) (d : DState) (c : Cause) (h : Memory.wf s.mem = true) : Memory.wf (s.toDState d c).mem = true := by
  unfold State.toDState
  refine foldl_inv _ (fun t : State => Memory.wf t.mem = true) ?_ _ _ h
  intro t n ht
  split
  · exact event_wf _ _ _ _ _ _ _ ht
  · exact ht

/-! ## The issue of a slot (R260, R338) -/

/-- A slot whose guard is false does nothing. -/
theorem issue_off (s : State) (check : Verdict) (f : State → State) : issue s false check f = .next s := rfl
/-- A slot whose bundle's checks have passed, or whose own check passes, has its effect. -/
theorem issue_go (s : State) (check : Verdict) (f : State → State) (h : s.cur.checked = true ∨ check = .ok) : issue s true check f = .next (f s) := by
  rcases h with h | h
  · cases check <;> simp [issue, h]
  · subst h; simp [issue]
/-- A slot whose own check does not pass, before the bundle's checks have, changes nothing but its verdict. -/
theorem issue_refuse (s : State) (check : Verdict) (f : State → State) (h : s.cur.checked = false) (h1 : check ≠ .none) (h2 : check ≠ .ok) :
    issue s true check f = .next (s.refuse check) := by
  cases check <;> simp_all [issue]


end Sys2Proof.Machine
end

