-- ==== Sys2Proof/Laws/Words.lean ====
section
/-! SUPPORT. Each slot operation's decoding, shown by a word put together bit by bit from the spec's encoding tables (R319, R325-R333). -/

namespace Sys2Proof.Laws.Words

/-- Words of the slot CT (R325). -/
theorem ct_0 :
    decodeSlot 0 0x0 0x0 = some (.nop 0x0) ∧
    decodeSlot 0 0x6DBA1 0x0 = some (.br 0xD 0x36D) ∧
    decodeSlot 0 0x8DA02 0x0 = some (.brp 0x0 0x46D) ∧
    decodeSlot 0 0x5BA3 0x0 = some (.jr 0xD 0x2D) ∧
    decodeSlot 0 0x71B44 0x0 = some (.call 0xA 0x38D) ∧
    decodeSlot 0 0x62A5 0x0 = some (.callr 0x5 0x31) ∧
    decodeSlot 0 0x6 0x0 = some (.ret 0x0) ∧
    decodeSlot 0 0x54EC7 0x0 = some (.loop 0x6 0x2A7) ∧
    decodeSlot 0 0x1A8 0x0 = some (.endTask 0xD) ∧
    decodeSlot 0 0x1A9 0x0 = some (.endLoop 0xD) ∧
    decodeSlot 0 0xB4A 0x0 = some (.trap 0xA 0x5) ∧
    decodeSlot 0 0xB62AB 0x0 = some (.waith 0x5 0x11 0x2D) ∧
    decodeSlot 0 0x62AC 0x0 = some (.waitb 0x5 0x31) :=
  ⟨rfl, rfl, rfl, rfl, rfl, rfl, rfl, rfl, rfl, rfl, rfl, rfl, rfl⟩

/-- Words of the slot S0 (R326, R327). -/
theorem s_0 :
    decodeSlot 1 0x278ED01 0x0 = some (.add 0x0 0x2D 0x23 0x27) ∧
    decodeSlot 1 0x69C70D02 0x0 = some (.addi 0xA 0xD 0x1C 0x5C) ∧
    decodeSlot 1 0x278ED03 0x0 = some (.sub 0x0 0x2D 0x23 0x27) ∧
    decodeSlot 1 0x278ED04 0x0 = some (.mul 0x0 0x2D 0x23 0x27) ∧
    decodeSlot 1 0x29C70D05 0x0 = some (.mulh 0xA 0xD 0x1C 0x1C) ∧
    decodeSlot 1 0x14BCF106 0x0 = some (.mulhu 0x5 0x31 0x33 0xB) ∧
    decodeSlot 1 0x278ED07 0x0 = some (.div 0x0 0x2D 0x23 0x27) ∧
    decodeSlot 1 0x29C70D08 0x0 = some (.divu 0xA 0xD 0x1C 0x1C) ∧
    decodeSlot 1 0x278ED09 0x0 = some (.rem 0x0 0x2D 0x23 0x27) ∧
    decodeSlot 1 0x29C70D0A 0x0 = some (.remu 0xA 0xD 0x1C 0x1C) ∧
    decodeSlot 1 0x278ED10 0x0 = some (.and 0x0 0x2D 0x23 0x27) ∧
    decodeSlot 1 0x3786ED11 0x0 = some (.or 0xD 0x2D 0x1B 0x38) ∧
    decodeSlot 1 0x278ED12 0x0 = some (.xor 0x0 0x2D 0x23 0x27) ∧
    decodeSlot 1 0x29C70D13 0x0 = some (.andn 0xA 0xD 0x1C 0x1C) ∧
    decodeSlot 1 0x278ED14 0x0 = some (.shl 0x0 0x2D 0x23 0x27) ∧
    decodeSlot 1 0x278ED15 0x0 = some (.shr 0x0 0x2D 0x23 0x27) ∧
    decodeSlot 1 0x278ED16 0x0 = some (.sar 0x0 0x2D 0x23 0x27) ∧
    decodeSlot 1 0x29C70D17 0x0 = some (.rotr 0xA 0xD 0x1C 0x1C) ∧
    decodeSlot 1 0xF9B8E18 0x0 = some (.shlImm 0x3 0xE 0x2E 0x39) ∧
    decodeSlot 1 0xF9B8E19 0x0 = some (.shrImm 0x3 0xE 0x2E 0x39) ∧
    decodeSlot 1 0xF9B8E1A 0x0 = some (.sarImm 0x3 0xE 0x2E 0x39) ∧
    decodeSlot 1 0x37F9791B 0x0 = some (.rotrImm 0xD 0x39 0x25 0x3F) ∧
    decodeSlot 1 0x8ED1C 0x0 = some (.clz 0x0 0x2D 0x23) ∧
    decodeSlot 1 0x8ED1D 0x0 = some (.ctz 0x0 0x2D 0x23) :=
  ⟨rfl, rfl, rfl, rfl, rfl, rfl, rfl, rfl, rfl, rfl, rfl, rfl, rfl, rfl, rfl, rfl, rfl, rfl, rfl, rfl, rfl, rfl, rfl, rfl⟩

/-- Words of the slot S0 (R326, R327). -/
theorem s_1 :
    decodeSlot 1 0x28070D1E 0x0 = some (.popc 0xA 0xD 0x1C) ∧
    decodeSlot 1 0x278ED20 0x0 = some (.min 0x0 0x2D 0x23 0x27) ∧
    decodeSlot 1 0x278ED21 0x0 = some (.max 0x0 0x2D 0x23 0x27) ∧
    decodeSlot 1 0x29C70D22 0x0 = some (.minu 0xA 0xD 0x1C 0x1C) ∧
    decodeSlot 1 0x29C70D23 0x0 = some (.maxu 0xA 0xD 0x1C 0x1C) ∧
    decodeSlot 1 0x278ED24 0x0 = some (.sel 0x0 0x2D 0x23 0x27) ∧
    decodeSlot 1 0x8ED25 0x0 = some (.mov 0x0 0x2D 0x23) ∧
    decodeSlot 1 0x31726 0x0 = some (.movFromA 0x0 0x17 0xC) ∧
    decodeSlot 1 0xC0B8E27 0x0 = some (.movToA 0x3 0xE 0x2E) ∧
    decodeSlot 1 0x15728 0x0 = some (.movFromQ 0x0 0x17 0x5) ∧
    decodeSlot 1 0x9738ED29 0x134B87E = some (.liw 0x2 0x2D 0x134B87E5CE3) ∧
    decodeSlot 1 0x14BCC130 0x0 = some (.cmpEq 0x5 0x1 0x33 0xB) ∧
    decodeSlot 1 0x14BCC131 0x0 = some (.cmpNe 0x5 0x1 0x33 0xB) ∧
    decodeSlot 1 0x14BCC132 0x0 = some (.cmpLt 0x5 0x1 0x33 0xB) ∧
    decodeSlot 1 0x14BCC133 0x0 = some (.cmpGe 0x5 0x1 0x33 0xB) ∧
    decodeSlot 1 0xF9B8E34 0x0 = some (.cmpLtu 0x3 0xE 0x2E 0x39) ∧
    decodeSlot 1 0xF9B8E35 0x0 = some (.cmpGeu 0x3 0xE 0x2E 0x39) ∧
    decodeSlot 1 0xF9B8E38 0x0 = some (.cmpFeq 0x3 0xE 0x2E 0x39) ∧
    decodeSlot 1 0xF9B8E39 0x0 = some (.cmpFlt 0x3 0xE 0x2E 0x39) ∧
    decodeSlot 1 0xF9B8E3A 0x0 = some (.cmpFle 0x3 0xE 0x2E 0x39) ∧
    decodeSlot 1 0xF9B8E3B 0x0 = some (.cmpFun 0x3 0xE 0x2E 0x39) ∧
    decodeSlot 1 0x29C70D40 0x0 = some (.fadd 0xA 0xD 0x1C 0x1C) ∧
    decodeSlot 1 0x29C70D41 0x0 = some (.fmul 0xA 0xD 0x1C 0x1C) ∧
    decodeSlot 1 0x278ED42 0x0 = some (.fma 0x0 0x2D 0x23 0x27) :=
  ⟨rfl, rfl, rfl, rfl, rfl, rfl, rfl, rfl, rfl, rfl, rfl, rfl, rfl, rfl, rfl, rfl, rfl, rfl, rfl, rfl, rfl, rfl, rfl, rfl⟩

/-- Words of the slot S0 (R326, R327). -/
theorem s_2 :
    decodeSlot 1 0x2937F243 0x0 = some (.fcvtToF32 0xA 0x32 0x1F 0x3 0x1) ∧
    decodeSlot 1 0xDCE0F44 0x0 = some (.fcvtFromF32 0x3 0xF 0x38 0xC 0x1) ∧
    decodeSlot 1 0xF9B8E46 0x0 = some (.minF32 0x3 0xE 0x2E 0x39) ∧
    decodeSlot 1 0xF9B8E47 0x0 = some (.maxF32 0x3 0xE 0x2E 0x39) ∧
    decodeSlot 1 0x28C30D50 0x0 = some (.pand 0xA 0xD 0xC 0xC) ∧
    decodeSlot 1 0x70CD51 0x0 = some (.por 0x0 0xD 0x3 0x7) ∧
    decodeSlot 1 0x28C30D52 0x0 = some (.pxor 0xA 0xD 0xC 0xC) ∧
    decodeSlot 1 0x28030D53 0x0 = some (.pnot 0xA 0xD 0xC) ∧
    decodeSlot 1 0x28054D60 0x0 = some (.rdsr 0xA 0xD 0x15) ∧
    decodeSlot 1 0x28071561 0x0 = some (.wrsr 0xA 0x15 0x1C) :=
  ⟨rfl, rfl, rfl, rfl, rfl, rfl, rfl, rfl, rfl, rfl⟩

/-- Words of the slot AG (R328). -/
theorem ag_0 :
    decodeSlot 3 0x60D30 0x0 = some (.ali 0x6 0xD 0x3) ∧
    decodeSlot 3 0x6DDC1 0x0 = some (.aadd 0x6 0xD 0xD 0xC) ∧
    decodeSlot 3 0x6DDC2 0x0 = some (.amod 0x6 0xD 0xD 0xC) ∧
    decodeSlot 3 0x6DDC3 0x0 = some (.abrv 0x6 0xD 0xD 0xC) ∧
    decodeSlot 3 0x6DDC4 0x0 = some (.acir 0x6 0xD 0xD 0xC) ∧
    decodeSlot 3 0x6105 0x0 = some (.amset 0x6 0x1) :=
  ⟨rfl, rfl, rfl, rfl, rfl, rfl⟩

/-- Words of the slot L0 (R329). -/
theorem l_0 :
    decodeSlot 4 0xC6D39C0 0x0 = some (.ldB 0x0 0xC6D 0x3 0x27) ∧
    decodeSlot 4 0xC6D39C1 0x0 = some (.ldH 0x0 0xC6D 0x3 0x27) ∧
    decodeSlot 4 0xC6D39C2 0x0 = some (.ldW 0x0 0xC6D 0x3 0x27) ∧
    decodeSlot 4 0xC6D39C3 0x0 = some (.ldD 0x0 0xC6D 0x3 0x27) ∧
    decodeSlot 4 0xC6D39C4 0x0 = some (.stB 0x0 0xC6D 0x3 0x27) ∧
    decodeSlot 4 0xC6D39C5 0x0 = some (.stH 0x0 0xC6D 0x3 0x27) ∧
    decodeSlot 4 0xC6D39C6 0x0 = some (.stW 0x0 0xC6D 0x3 0x27) ∧
    decodeSlot 4 0xC6D39C7 0x0 = some (.stD 0x0 0xC6D 0x3 0x27) ∧
    decodeSlot 4 0x35CEEE48 0x0 = some (.vld256 0x3 0x5CE 0xE 0x39) ∧
    decodeSlot 4 0x35CEEE49 0x0 = some (.vld512 0x3 0x5CE 0xE 0x39) ∧
    decodeSlot 4 0xDCB95FCA 0x0 = some (.vld1024 0xD 0xCB9 0x5 0x3F) ∧
    decodeSlot 4 0x35CEEE4C 0x0 = some (.vst256 0x3 0x5CE 0xE 0x39) ∧
    decodeSlot 4 0x35CEEE4D 0x0 = some (.vst512 0x3 0x5CE 0xE 0x39) ∧
    decodeSlot 4 0xDCB95FCE 0x0 = some (.vst1024 0xD 0xCB9 0x5 0x3F) ∧
    decodeSlot 4 0xA38D0710 0x0 = some (.ldsB 0xA 0x38D 0x1C) ∧
    decodeSlot 4 0xA38D0711 0x0 = some (.ldsH 0xA 0x38D 0x1C) ∧
    decodeSlot 4 0xA38D0712 0x0 = some (.ldsW 0xA 0x38D 0x1C) ∧
    decodeSlot 4 0xA38D0713 0x0 = some (.ldsD 0xA 0x38D 0x1C) ∧
    decodeSlot 4 0xA38D0714 0x0 = some (.stsB 0xA 0x38D 0x1C) ∧
    decodeSlot 4 0xA38D0715 0x0 = some (.stsH 0xA 0x38D 0x1C) ∧
    decodeSlot 4 0xA38D0716 0x0 = some (.stsW 0xA 0x38D 0x1C) ∧
    decodeSlot 4 0xA38D0717 0x0 = some (.stsD 0xA 0x38D 0x1C) ∧
    decodeSlot 4 0xA38DC158 0x0 = some (.ldxD 0xA 0x38D 0xC 0x5) ∧
    decodeSlot 4 0xDCB95159 0x0 = some (.ldxV256 0xD 0xCB9 0x5 0x5) :=
  ⟨rfl, rfl, rfl, rfl, rfl, rfl, rfl, rfl, rfl, rfl, rfl, rfl, rfl, rfl, rfl, rfl, rfl, rfl, rfl, rfl, rfl, rfl, rfl, rfl⟩

/-- Words of the slot L0 (R329). -/
theorem l_1 :
    decodeSlot 4 0xDCB9515A 0x0 = some (.ldxV512 0xD 0xCB9 0x5 0x5) ∧
    decodeSlot 4 0xF97C15B 0x0 = some (.ldxV1024 0x0 0xF97 0xC 0x5) ∧
    decodeSlot 4 0xA38DC71C 0x0 = some (.stxD 0xA 0x38D 0xC 0x1C) ∧
    decodeSlot 4 0xDCB95FDD 0x0 = some (.stxV256 0xD 0xCB9 0x5 0x3F) ∧
    decodeSlot 4 0xDCB95FDE 0x0 = some (.stxV512 0xD 0xCB9 0x5 0x3F) ∧
    decodeSlot 4 0xF97C1DF 0x0 = some (.stxV1024 0x0 0xF97 0xC 0x7) ∧
    decodeSlot 4 0xDCB95FE0 0x0 = some (.atmAddW 0xD 0xCB9 0x5 0x3F) ∧
    decodeSlot 4 0xDCB95FE1 0x0 = some (.atmAndW 0xD 0xCB9 0x5 0x3F) ∧
    decodeSlot 4 0x35CEEE62 0x0 = some (.atmOrW 0x3 0x5CE 0xE 0x39) ∧
    decodeSlot 4 0xDCB95FE3 0x0 = some (.atmXorW 0xD 0xCB9 0x5 0x3F) ∧
    decodeSlot 4 0xDCB95FE4 0x0 = some (.atmSwpW 0xD 0xCB9 0x5 0x3F) ∧
    decodeSlot 4 0xDCB95AA5 0x0 = some (.atmCasW 0xD 0xCB9 0x5 0x2A) ∧
    decodeSlot 4 0xDCB95FE6 0x0 = some (.atmMinW 0xD 0xCB9 0x5 0x3F) ∧
    decodeSlot 4 0xDCB95FE7 0x0 = some (.atmMaxW 0xD 0xCB9 0x5 0x3F) ∧
    decodeSlot 4 0x35CEEE68 0x0 = some (.atmAdd 0x3 0x5CE 0xE 0x39) ∧
    decodeSlot 4 0x35CEEE69 0x0 = some (.atmAnd 0x3 0x5CE 0xE 0x39) ∧
    decodeSlot 4 0x5E7132EA 0x0 = some (.atmOr 0x5 0xE71 0x3 0xB) ∧
    decodeSlot 4 0x35CEEE6B 0x0 = some (.atmXor 0x3 0x5CE 0xE 0x39) ∧
    decodeSlot 4 0x35CEEE6C 0x0 = some (.atmSwp 0x3 0x5CE 0xE 0x39) ∧
    decodeSlot 4 0x35CEEAAD 0x0 = some (.atmCas 0x3 0x5CE 0xE 0x2A) ∧
    decodeSlot 4 0x35CEEE6E 0x0 = some (.atmMin 0x3 0x5CE 0xE 0x39) ∧
    decodeSlot 4 0x35CEEE6F 0x0 = some (.atmMax 0x3 0x5CE 0xE 0x39) ∧
    decodeSlot 4 0x587E3BB0 0x0 = some (.atmFmaxF32 0x5 0x87E 0x3 0x2E) ∧
    decodeSlot 4 0x370F8971 0x0 = some (.atmFmaxBf16 0x3 0x70F 0x8 0x25) :=
  ⟨rfl, rfl, rfl, rfl, rfl, rfl, rfl, rfl, rfl, rfl, rfl, rfl, rfl, rfl, rfl, rfl, rfl, rfl, rfl, rfl, rfl, rfl, rfl, rfl⟩

/-- Words of the slot L0 (R329). -/
theorem l_2 :
    decodeSlot 4 0x587E3BB2 0x0 = some (.atmFmaxF16 0x5 0x87E 0x3 0x2E) ∧
    decodeSlot 4 0x35CEEE73 0x0 = some (.atmDec 0x3 0x5CE 0xE 0x39) :=
  ⟨rfl, rfl⟩

/-- Words of the slot V3 (R330, R331). -/
theorem v_0 :
    decodeSlot 9 0xA35C70501 0x0 = some (.vadd 0xA 0xD 0x1C 0x1C 0x1 0x1) ∧
    decodeSlot 9 0xA35C70502 0x0 = some (.vsub 0xA 0xD 0x1C 0x1C 0x1 0x1) ∧
    decodeSlot 9 0xA35C70503 0x0 = some (.vmul 0xA 0xD 0x1C 0x1C 0x1 0x1) ∧
    decodeSlot 9 0xA35C70504 0x0 = some (.vfma 0xA 0xD 0x1C 0x1C 0x1 0x1) ∧
    decodeSlot 9 0xA35C70505 0x0 = some (.vfms 0xA 0xD 0x1C 0x1C 0x1 0x1) ∧
    decodeSlot 9 0xA35C72506 0x0 = some (.vmin 0xA 0xD 0x1C 0x1C 0x9 0x1) ∧
    decodeSlot 9 0xA35C72507 0x0 = some (.vmax 0xA 0xD 0x1C 0x1C 0x9 0x1) ∧
    decodeSlot 9 0xA00D72508 0x0 = some (.vabs 0xA 0xD 0x1C 0x9 0x1) ∧
    decodeSlot 9 0xA00D72509 0x0 = some (.vneg 0xA 0xD 0x1C 0x9 0x1) ∧
    decodeSlot 9 0xA35C4A50A 0x0 = some (.vcmp 0xA 0xD 0x1C 0x1 0x2 0x9 0x1) ∧
    decodeSlot 9 0xA35C7390B 0x0 = some (.vsel 0xA 0xD 0x1C 0x1C 0xE 0x1) ∧
    decodeSlot 9 0x5C732E210 0x0 = some (.viadd 0x5 0x31 0x33 0xB 0x8 0x2) ∧
    decodeSlot 9 0x5C732E211 0x0 = some (.visub 0x5 0x31 0x33 0xB 0x8 0x2) ∧
    decodeSlot 9 0x5C732E212 0x0 = some (.vimul 0x5 0x31 0x33 0xB 0x8 0x2) ∧
    decodeSlot 9 0x5C732EE13 0x0 = some (.vimac 0x5 0x31 0x33 0xB 0xB 0x2) ∧
    decodeSlot 9 0xA00D73514 0x0 = some (.vsat 0xA 0xD 0x1C 0xD 0x1) ∧
    decodeSlot 9 0xA35C72115 0x0 = some (.vshl 0xA 0xD 0x1C 0x1C 0x8 0x1) ∧
    decodeSlot 9 0xA35C72116 0x0 = some (.vshr 0xA 0xD 0x1C 0x1C 0x8 0x1) ∧
    decodeSlot 9 0xA35C72117 0x0 = some (.vsar 0xA 0xD 0x1C 0x1C 0x8 0x1) ∧
    decodeSlot 9 0xA35C73918 0x0 = some (.vand 0xA 0xD 0x1C 0x1C 0xE 0x1) ∧
    decodeSlot 9 0xB639F819 0x0 = some (.vor 0x0 0x2D 0x23 0x27 0xE 0x0) ∧
    decodeSlot 9 0xA35C7391A 0x0 = some (.vxor 0xA 0xD 0x1C 0x1C 0xE 0x1) ∧
    decodeSlot 9 0xA00D7391B 0x0 = some (.vnot 0xA 0xD 0x1C 0xE 0x1) ∧
    decodeSlot 9 0xA75CCA920 0x0 = some (.vcvt 0xA 0x1 0xD 0x1C 0x32 0xA 0x1) :=
  ⟨rfl, rfl, rfl, rfl, rfl, rfl, rfl, rfl, rfl, rfl, rfl, rfl, rfl, rfl, rfl, rfl, rfl, rfl, rfl, rfl, rfl, rfl, rfl, rfl⟩

/-- Words of the slot V3 (R330, R331). -/
theorem v_1 :
    decodeSlot 9 0xA41C71121 0x0 = some (.vqnt 0xA 0x1 0x1C 0x1C 0x4 0x1) ∧
    decodeSlot 9 0x5031CD222 0x0 = some (.vdqnt 0x5 0x31 0x33 0x4 0x2) ∧
    decodeSlot 9 0xA05C73123 0x0 = some (.vimg 0xA 0x1 0x1C 0x1C 0xC 0x1) ∧
    decodeSlot 9 0xA35C70124 0x0 = some (.vlse 0xA 0xD 0x1C 0x1C 0x0 0x1) ∧
    decodeSlot 9 0x5C732C625 0x0 = some (.vrope 0x5 0x31 0x33 0xB 0x1 0x2) ∧
    decodeSlot 9 0x500004226 0x0 = some (.vnanp 0x5 0x1) ∧
    decodeSlot 9 0x5031CE628 0x0 = some (.vrsum 0x5 0x31 0x33 0x9 0x2) ∧
    decodeSlot 9 0x5031CE629 0x0 = some (.vrmax 0x5 0x31 0x33 0x9 0x2) ∧
    decodeSlot 9 0x5031CE62A 0x0 = some (.vrmin 0x5 0x31 0x33 0x9 0x2) ∧
    decodeSlot 9 0x5031CFA2B 0x0 = some (.vbcst 0x5 0x31 0x33 0xE 0x2) ∧
    decodeSlot 9 0xA00D7392C 0x0 = some (.vmov 0xA 0xD 0x1C 0xE 0x1) ∧
    decodeSlot 9 0x5031CC640 0x0 = some (.vexp2 0x5 0x31 0x33 0x1 0x2) ∧
    decodeSlot 9 0x5031CC641 0x0 = some (.vlog2 0x5 0x31 0x33 0x1 0x2) ∧
    decodeSlot 9 0xA00D70542 0x0 = some (.vrcp 0xA 0xD 0x1C 0x1 0x1) ∧
    decodeSlot 9 0xA00D70543 0x0 = some (.vrsq 0xA 0xD 0x1C 0x1 0x1) ∧
    decodeSlot 9 0x5031CC644 0x0 = some (.vsqrt 0x5 0x31 0x33 0x1 0x2) ∧
    decodeSlot 9 0xA00D70545 0x0 = some (.vsin 0xA 0xD 0x1C 0x1 0x1) ∧
    decodeSlot 9 0xA00D70546 0x0 = some (.vcos 0xA 0xD 0x1C 0x1 0x1) ∧
    decodeSlot 9 0x5031CC647 0x0 = some (.vtanh 0x5 0x31 0x33 0x1 0x2) ∧
    decodeSlot 9 0x5C732EE48 0x0 = some (.vperm 0x5 0x31 0x33 0xB 0xB 0x2) ∧
    decodeSlot 9 0xA00D71E49 0x0 = some (.vtrn 0xA 0xD 0x1C 0x7 0x2) ∧
    decodeSlot 9 0x5C732EE4A 0x0 = some (.vshuf 0x5 0x31 0x33 0xB 0xB 0x2) ∧
    decodeSlot 9 0xA35C72D4B 0x0 = some (.vzip 0xA 0xD 0x1C 0x1C 0xB 0x1) ∧
    decodeSlot 9 0x5143B8581 0x0 = some (.vaddStream 0x5 0x5 0x3 0x2E 0x1 0x1) :=
  ⟨rfl, rfl, rfl, rfl, rfl, rfl, rfl, rfl, rfl, rfl, rfl, rfl, rfl, rfl, rfl, rfl, rfl, rfl, rfl, rfl, rfl, rfl, rfl, rfl⟩

/-- Words of the slot V3 (R330, R331). -/
theorem v_2 :
    decodeSlot 9 0x5143B8582 0x0 = some (.vsubStream 0x5 0x5 0x3 0x2E 0x1 0x1) ∧
    decodeSlot 9 0x5143B8583 0x0 = some (.vmulStream 0x5 0x5 0x3 0x2E 0x1 0x1) ∧
    decodeSlot 9 0x5143B8584 0x0 = some (.vfmaStream 0x5 0x5 0x3 0x2E 0x1 0x1) ∧
    decodeSlot 9 0x5143B8585 0x0 = some (.vfmsStream 0x5 0x5 0x3 0x2E 0x1 0x1) ∧
    decodeSlot 9 0x5143BA586 0x0 = some (.vminStream 0x5 0x5 0x3 0x2E 0x9 0x1) ∧
    decodeSlot 9 0x5143BA587 0x0 = some (.vmaxStream 0x5 0x5 0x3 0x2E 0x9 0x1) ∧
    decodeSlot 9 0x50050E588 0x0 = some (.vabsStream 0x5 0x5 0x3 0x9 0x1) ∧
    decodeSlot 9 0x50050E589 0x0 = some (.vnegStream 0x5 0x5 0x3 0x9 0x1) ∧
    decodeSlot 9 0x5143A658A 0x0 = some (.vcmpStream 0x5 0x5 0x3 0x2 0x9 0x9 0x1) ∧
    decodeSlot 9 0x5143BB98B 0x0 = some (.vselStream 0x5 0x5 0x3 0x2E 0xE 0x1) ∧
    decodeSlot 9 0x317896290 0x0 = some (.viaddStream 0x3 0x5 0x38 0x25 0x8 0x2) ∧
    decodeSlot 9 0x317896291 0x0 = some (.visubStream 0x3 0x5 0x38 0x25 0x8 0x2) ∧
    decodeSlot 9 0x317896292 0x0 = some (.vimulStream 0x3 0x5 0x38 0x25 0x8 0x2) ∧
    decodeSlot 9 0x317896E93 0x0 = some (.vimacStream 0x3 0x5 0x38 0x25 0xB 0x2) ∧
    decodeSlot 9 0x50050F594 0x0 = some (.vsatStream 0x5 0x5 0x3 0xD 0x1) ∧
    decodeSlot 9 0x5143BA195 0x0 = some (.vshlStream 0x5 0x5 0x3 0x2E 0x8 0x1) ∧
    decodeSlot 9 0x5143BA196 0x0 = some (.vshrStream 0x5 0x5 0x3 0x2E 0x8 0x1) ∧
    decodeSlot 9 0x5143BA197 0x0 = some (.vsarStream 0x5 0x5 0x3 0x2E 0x8 0x1) ∧
    decodeSlot 9 0x5143BB998 0x0 = some (.vandStream 0x5 0x5 0x3 0x2E 0xE 0x1) ∧
    decodeSlot 9 0xA15FC3899 0x0 = some (.vorStream 0xA 0x5 0x1F 0x30 0xE 0x0) ∧
    decodeSlot 9 0x5143BB99A 0x0 = some (.vxorStream 0x5 0x5 0x3 0x2E 0xE 0x1) ∧
    decodeSlot 9 0x50050F99B 0x0 = some (.vnotStream 0x5 0x5 0x3 0xE 0x1) ∧
    decodeSlot 9 0x5745A69A0 0x0 = some (.vcvtStream 0x5 0x1 0xD 0x5 0x29 0xA 0x1) ∧
    decodeSlot 9 0x5405B91A1 0x0 = some (.vqntStream 0x5 0x1 0x5 0x2E 0x4 0x1) :=
  ⟨rfl, rfl, rfl, rfl, rfl, rfl, rfl, rfl, rfl, rfl, rfl, rfl, rfl, rfl, rfl, rfl, rfl, rfl, rfl, rfl, rfl, rfl, rfl, rfl⟩

/-- Words of the slot V3 (R330, R331). -/
theorem v_3 :
    decodeSlot 9 0x3005E12A2 0x0 = some (.vdqntStream 0x3 0x5 0x38 0x4 0x2) ∧
    decodeSlot 9 0x5045BB1A3 0x0 = some (.vimgStream 0x5 0x1 0x5 0x2E 0xC 0x1) ∧
    decodeSlot 9 0x5143B81A4 0x0 = some (.vlseStream 0x5 0x5 0x3 0x2E 0x0 0x1) ∧
    decodeSlot 9 0x3178946A5 0x0 = some (.vropeStream 0x3 0x5 0x38 0x25 0x1 0x2) ∧
    decodeSlot 9 0x3005E26A8 0x0 = some (.vrsumStream 0x3 0x5 0x38 0x9 0x2) ∧
    decodeSlot 9 0x3005E26A9 0x0 = some (.vrmaxStream 0x3 0x5 0x38 0x9 0x2) ∧
    decodeSlot 9 0x3005E26AA 0x0 = some (.vrminStream 0x3 0x5 0x38 0x9 0x2) ∧
    decodeSlot 9 0x50050F9AC 0x0 = some (.vmovStream 0x5 0x5 0x3 0xE 0x1) ∧
    decodeSlot 9 0x3005E06C0 0x0 = some (.vexp2Stream 0x3 0x5 0x38 0x1 0x2) ∧
    decodeSlot 9 0x3005E06C1 0x0 = some (.vlog2Stream 0x3 0x5 0x38 0x1 0x2) ∧
    decodeSlot 9 0x50050C5C2 0x0 = some (.vrcpStream 0x5 0x5 0x3 0x1 0x1) ∧
    decodeSlot 9 0x50050C5C3 0x0 = some (.vrsqStream 0x5 0x5 0x3 0x1 0x1) ∧
    decodeSlot 9 0x3005E06C4 0x0 = some (.vsqrtStream 0x3 0x5 0x38 0x1 0x2) ∧
    decodeSlot 9 0x50050C5C5 0x0 = some (.vsinStream 0x5 0x5 0x3 0x1 0x1) ∧
    decodeSlot 9 0x50050C5C6 0x0 = some (.vcosStream 0x5 0x5 0x3 0x1 0x1) ∧
    decodeSlot 9 0x3005E06C7 0x0 = some (.vtanhStream 0x3 0x5 0x38 0x1 0x2) ∧
    decodeSlot 9 0x317896EC8 0x0 = some (.vpermStream 0x3 0x5 0x38 0x25 0xB 0x2) ∧
    decodeSlot 9 0x50050DEC9 0x0 = some (.vtrnStream 0x5 0x5 0x3 0x7 0x2) ∧
    decodeSlot 9 0x317896ECA 0x0 = some (.vshufStream 0x3 0x5 0x38 0x25 0xB 0x2) ∧
    decodeSlot 9 0x5143BADCB 0x0 = some (.vzipStream 0x5 0x5 0x3 0x2E 0xB 0x1) :=
  ⟨rfl, rfl, rfl, rfl, rfl, rfl, rfl, rfl, rfl, rfl, rfl, rfl, rfl, rfl, rfl, rfl, rfl, rfl, rfl, rfl⟩

/-- Words of the slot MX (R332). -/
theorem mx_0 :
    decodeSlot 10 0x1A520 0x0 = some (.mcfg 0x1A52) ∧
    decodeSlot 10 0x1 0x0 = some .mldw ∧
    decodeSlot 10 0x2 0x0 = some .mswap ∧
    decodeSlot 10 0x4E6B3 0x0 = some (.mpush 0x1 0x1 0x33 0xB) ∧
    decodeSlot 10 0x6B9C6 0x0 = some (.macw 0x1 0x5 0x1C 0x1C) ∧
    decodeSlot 10 0xB4 0x0 = some (.mshiftZero 0xB) ∧
    decodeSlot 10 0x400B4 0x0 = some (.mshiftBack 0xB) ∧
    decodeSlot 10 0x801C4 0x0 = some (.mshiftFwd 0x1C) ∧
    decodeSlot 10 0x31CE5 0x0 = some (.mdrain 0x6 0xE 0xE) ∧
    decodeSlot 10 0x36337 0x0 = some (.mzero 0x6 0x31 0x13) :=
  ⟨rfl, rfl, rfl, rfl, rfl, rfl, rfl, rfl, rfl, rfl⟩

/-- Words of the slot EN (R333). -/
theorem en_0 :
    decodeSlot 11 0x6B101 0x0 = some (.sqset 0x1A 0x31) ∧
    decodeSlot 11 0x18002 0x0 = some (.sqgo 0x6) ∧
    decodeSlot 11 0x14E03 0x0 = some (.sqbind 0x5 0xE) ∧
    decodeSlot 11 0x1B104 0x0 = some (.accpy 0x6 0x31) ∧
    decodeSlot 11 0x18E10 0x0 = some (.halloc 0x6 0xE) ∧
    decodeSlot 11 0x58011 0x0 = some (.hfree 0x16) ∧
    decodeSlot 11 0x58012 0x0 = some (.hopen 0x16) ∧
    decodeSlot 11 0x58D13 0x0 = some (.hpub 0x16 0xD) ∧
    decodeSlot 11 0x58D14 0x0 = some (.hrel 0x16 0xD) ∧
    decodeSlot 11 0x58D15 0x0 = some (.hset 0x16 0xD) ∧
    decodeSlot 11 0xDB116 0x0 = some (.binit 0x36 0x31) ∧
    decodeSlot 11 0x2717 0x0 = some (.binitRel 0x27) ∧
    decodeSlot 11 0x3618 0x0 = some (.barr 0x36) ∧
    decodeSlot 11 0x19 0x0 = some .drn ∧
    decodeSlot 11 0x18D20 0x0 = some (.fork 0x6 0xD) ∧
    decodeSlot 11 0xD8D21 0x0 = some (.join 0x36 0xD) ∧
    decodeSlot 11 0x1AD22 0x0 = some (.enq 0x6 0x2D) ∧
    decodeSlot 11 0x2A30 0x0 = some (.nibset 0x2A) ∧
    decodeSlot 11 0x2731 0x0 = some (.nibsetSt 0x27) ∧
    decodeSlot 11 0x58D32 0x0 = some (.cbld 0x16 0xD) ∧
    decodeSlot 11 0x58133 0x0 = some (.trdef 0x16 0x1) ∧
    decodeSlot 11 0x5B134 0x0 = some (.trenc 0x16 0x31) ∧
    decodeSlot 11 0x5B135 0x0 = some (.twupd 0x16 0x31) ∧
    decodeSlot 11 0xDAD40 0x0 = some (.xld 0x36 0x2D) :=
  ⟨rfl, rfl, rfl, rfl, rfl, rfl, rfl, rfl, rfl, rfl, rfl, rfl, rfl, rfl, rfl, rfl, rfl, rfl, rfl, rfl, rfl, rfl, rfl, rfl⟩

/-- Words of the slot EN (R333). -/
theorem en_1 :
    decodeSlot 11 0xD8D41 0x0 = some (.xinv 0x36 0xD) ∧
    decodeSlot 11 0x5AD42 0x0 = some (.kvg 0x16 0x2D) ∧
    decodeSlot 11 0x58D43 0x0 = some (.splc 0x16 0xD) ∧
    decodeSlot 11 0x2B44 0x0 = some (.rprset 0x2B) ∧
    decodeSlot 11 0x5AD45 0x0 = some (.rpr 0x16 0x2D) ∧
    decodeSlot 11 0x18E46 0x0 = some (.rprRep 0x6 0xE) ∧
    decodeSlot 11 0xD8D47 0x0 = some (.pxlk 0x36 0xD) ∧
    decodeSlot 11 0xD8D48 0x0 = some (.pxin 0x36 0xD) ∧
    decodeSlot 11 0x18E49 0x0 = some (.pxinRm 0x6 0xE) ∧
    decodeSlot 11 0x5B150 0x0 = some (.wnsel 0x16 0x31) ∧
    decodeSlot 11 0x5B160 0x0 = some (.fsend 0x16 0x31) ∧
    decodeSlot 11 0x64F61 0x0 = some (.frecvHandle 0x19 0xF) ∧
    decodeSlot 11 0x14F62 0x0 = some (.frecvStream 0x5 0xF) ∧
    decodeSlot 11 0xD80F0 0x0 = some (.sysc 0x36) ∧
    decodeSlot 11 0xF1 0x0 = some .eret ∧
    decodeSlot 11 0x36F2 0x0 = some (.tlbi 0x36) ∧
    decodeSlot 11 0xF3 0x0 = some .wfe :=
  ⟨rfl, rfl, rfl, rfl, rfl, rfl, rfl, rfl, rfl, rfl, rfl, rfl, rfl, rfl, rfl, rfl, rfl⟩

end Sys2Proof.Laws.Words
end

