-- ==== Sys2Proof/Tests/Slice0.lean ====
section
/-! SUPPORT. Tests: operands that decode refuses, words of the spec's listings, single operations on small states with results taken from the
spec's tables and worked examples or from hand calculation, and, for each statement, a state and operands that meet its hypotheses. -/

set_option Elab.async false

namespace Sys2Proof.Tests

open Sys2Proof.Machine Sys2Proof.Claims

/-! ## Operands that decode refuses (R319-R323, R335) -/

/-- PRED 0b1000 guards nothing (R320). -/
theorem test_guard_refused : (Instr.nop 8#4).wellFormed = false ∧ (Instr.nop 1#4).wellFormed = true := ⟨rfl, rfl⟩
/-- WID 0b11 is reserved (R319). -/
theorem test_width_refused : (Instr.vnot 0 1 2 0 3#2).wellFormed = false ∧ (Instr.vnot 0 1 2 0 2#2).wellFormed = true := ⟨rfl, rfl⟩
/-- VADD takes .f32, .bf16 and .f16 (R393, R394). -/
theorem test_float_type_refused : (Instr.vadd 0 1 2 3 3#4 0).wellFormed = false ∧ (Instr.vadd 0 1 2 3 2#4 0).wellFormed = true := ⟨rfl, rfl⟩
/-- VIADD takes the integer types 6 to 13 (R393, R396). -/
theorem test_integer_type_refused : (Instr.viadd 0 1 2 3 5#4 0).wellFormed = false ∧ (Instr.viadd 0 1 2 3 14#4 0).wellFormed = false := ⟨rfl, rfl⟩
/-- VMIN takes F and I types only (R393). -/
theorem test_minimum_type_refused : (Instr.vmin 0 1 2 3 4#4 0).wellFormed = false := rfl
/-- VPERM takes elements of 8 bits or more (R393, R412). -/
theorem test_lane_type_refused : (Instr.vperm 0 1 2 3 5#4 0).wellFormed = false := rfl
/-- Type 15 is reserved (R322). -/
theorem test_type_15_refused : (Instr.vmov 0 1 2 15#4 0).wellFormed = false := rfl
/-- VIMAC takes 8-bit and 16-bit integers (R397). -/
theorem test_vimac_type_refused : (Instr.vimac 0 1 2 3 8#4 0).wellFormed = false := rfl
/-- VSAT takes no 8-bit signed type as its source (R398). -/
theorem test_vsat_type_refused : (Instr.vsat 0 1 2 6#4 0).wellFormed = false := rfl
/-- VQNT and VDQNT take .e4m3, .e5m2 and .i8 (R404). -/
theorem test_quantise_type_refused : (Instr.vqnt 0 1 2 3 7#4 0).wellFormed = false := rfl
/-- VIMG has no type 14 (R405). -/
theorem test_vimg_type_refused : (Instr.vimg 0 1 2 3 14#4 0).wellFormed = false := rfl
/-- VLSE is .f32 only (R408). -/
theorem test_vlse_type_refused : (Instr.vlse 0 1 2 3 1#4 0).wellFormed = false := rfl
/-- VCVT's source type is at most 14, its destination type at most 13 (R402). -/
theorem test_vcvt_type_refused : (Instr.vcvt 0 1 15#4 0 2 0#4 0).wellFormed = false ∧ (Instr.vcvt 0 1 0#4 0 2 14#4 0).wellFormed = false := ⟨rfl, rfl⟩
/-- VTRN is 1024 bits wide; the 32-bit form takes even registers (R414). -/
theorem test_vtrn_refused : (Instr.vtrn 0 0 2 1#4 1#2).wellFormed = false ∧ (Instr.vtrn 0 1 2 0#4 2#2).wellFormed = false ∧
    (Instr.vtrn 0 2 4 0#4 2#2).wellFormed = true ∧ (Instr.vtrnStream 0 0 2 0#4 2#2).wellFormed = false := ⟨rfl, rfl, rfl, rfl⟩
/-- FCVT's types (R357). -/
theorem test_fcvt_type_refused : (Instr.fcvtToF32 0 1 2 0#4 0).wellFormed = false ∧ (Instr.fcvtFromF32 0 1 2 5#4 0).wellFormed = false := ⟨rfl, rfl⟩
/-- LIW's EXT 3 is reserved (R355). -/
theorem test_liw_refused : (Instr.liw 3#2 1 0).wellFormed = false := rfl
/-- LOOP's last chain lies 1 to 1023 units on (R342). -/
theorem test_loop_refused : (Instr.loop 1 0).wellFormed = false ∧ (Instr.loop 1 1024).wellFormed = false ∧ (Instr.loop 1 1023).wellFormed = true :=
  ⟨rfl, rfl, rfl⟩
/-- WAITH's conditions are 0 to 3 and 0x20 to 0x3F (R349). -/
theorem test_waith_refused : (Instr.waith 0 1 4#6).wellFormed = false ∧ (Instr.waith 0 1 31#6).wellFormed = false ∧ (Instr.waith 0 1 32#6).wellFormed = true :=
  ⟨rfl, rfl, rfl⟩
/-- R110 lists no register 9 (R359). -/
theorem test_special_register_refused : (Instr.rdsr 0 1 9#6).wellFormed = false ∧ (Instr.wrsr 0 0x19#6 1).wellFormed = false := ⟨rfl, rfl⟩
/-- R446 lists no configuration register 0x0B. -/
theorem test_sqset_refused : (Instr.sqset 0x0B#6 1).wellFormed = false := rfl
/-- ATM.cas takes an even register (R370). -/
theorem test_cas_refused : (Instr.atmCas 0 0 1 3).wellFormed = false ∧ (Instr.atmCasW 0 0 1 5).wellFormed = false := ⟨rfl, rfl⟩
/-- MCFG's reserved codes (R417). -/
theorem test_mcfg_refused : (Instr.mcfg 0x2000#16).wellFormed = false ∧ (Instr.mcfg 4#16).wellFormed = false ∧ (Instr.mcfg 3#16).wellFormed = true :=
  ⟨rfl, rfl, rfl⟩
/-- NIBSET takes an even register pair (R437); RPRSET takes three registers up to g63 (R457). -/
theorem test_register_group_refused : (Instr.nibset 3).wellFormed = false ∧ (Instr.rprset 62).wellFormed = false := ⟨rfl, rfl⟩
/-- q6 and q7 are no destinations (R323). -/
theorem test_stream_destination_refused : (Instr.ldxD 0 0 1 6).wellFormed = false ∧ (Instr.sqbind 6 1).wellFormed = false ∧
    (Instr.frecvStream 7 1).wellFormed = false ∧ (Instr.ldxV1024 0 0 1 5).wellFormed = true := ⟨rfl, rfl, rfl, rfl⟩
/-- Unit numbers beyond R1: tiles, contexts, dies, cores, links, ports, rails and pages. -/
theorem test_units_refused : (Instr.copyAdmission Config.tiles 0).wellFormed = false ∧ (Instr.copyAdmission 0 2).wellFormed = false ∧
    (Instr.thermalTrip Config.dies).wellFormed = false ∧ (Instr.ccCompare Config.cores).wellFormed = false ∧
    (Instr.dramScrub 48).wellFormed = false ∧ (Instr.fabricRetrainFail 48).wellFormed = false ∧ (Instr.powerFault (.leaves 12)).wellFormed = false ∧
    (Instr.weathervaneUpdate 14).wellFormed = false ∧ (Instr.agePeriod 64 0).wellFormed = false ∧ (Instr.agePeriod 0 16).wellFormed = false ∧
    (Instr.hfreeComplete 0 32).wellFormed = false ∧ (Instr.copyComplete 0 8).wellFormed = false ∧ (Instr.fieldTestPass Config.clusters).wellFormed = false :=
  ⟨rfl, rfl, rfl, rfl, rfl, rfl, rfl, rfl, rfl, rfl, rfl, rfl, rfl⟩

/-! ## Words that the spec prints -/

/-- Chapter 12's example fields and chapter 13's: BR -32 units, LOOP and END; ADD; AADD. -/
theorem test_decode_control_scalar_address :
    decodeSlot 0 0xFC001 0 = some (.br 0 0x7E0) ∧ decodeSlot 0 0x01F07 0 = some (.loop 8 15) ∧ decodeSlot 0 0x00008 0 = some (.endTask 0) ∧
    decodeSlot 1 0x00308701 0 = some (.add 0 7 2 3) ∧ decodeSlot 3 0x12221 0 = some (.aadd 1 2 2 2) := ⟨rfl, rfl, rfl, rfl, rfl⟩
/-- Chapter 14's examples: LD.w g5, [a3 + 8]; ST.d of chapter 13's last bundle; HALLOC h3, g12. -/
theorem test_decode_memory :
    decodeSlot 4 0x00023142 0 = some (.ldW 0 2 3 5) ∧ decodeSlot 4 0x00000287 0 = some (.stD 0 0 0 10) ∧
    decodeSlot 11 0x0CC10 0 = some (.halloc 3 12) := ⟨rfl, rfl, rfl⟩
/-- Chapters 12 and 15: VADD.f32, VFMA.f32, VMOV.f32 from q6, VCMP.lt.f32, VCVT.e4m3.f32.sat, VTRN of a 16-bit type, VSIN.f32. -/
theorem test_decode_vector :
    decodeSlot 6 0x29E690101 0 = some (.vadd 2 39 38 36 0 1) ∧ decodeSlot 6 0x028920204 0 = some (.vfma 0 10 9 8 0 2) ∧
    decodeSlot 6 0x00060C2AC 0 = some (.vmovStream 0 6 3 0 2) ∧ decodeSlot 6 0x00818C20A 0 = some (.vcmp 0 2 1 2 3 0 2) ∧
    decodeSlot 6 0x040510E20 0 = some (.vcvt 0 1 0 5 4 3 2) ∧ decodeSlot 9 0x000D32E49 0 = some (.vtrn 0 13 12 11 2) ∧
    decodeSlot 9 0x000614245 0 = some (.vsin 0 6 5 0 2) := ⟨rfl, rfl, rfl, rfl, rfl, rfl, rfl⟩
/-- Chapter 16: MCFG fp8.e4m3.e5m2, run=16, strict; MLDW; MSWAP; MPUSH.acc acc2:8, h5; MACW.ovw acc1:0, h3; MSHIFT.fwd h5; MDRAIN acc2:8, 4; MZERO acc0:0, 32; NIBSET g10;
NIBSET.st g11; CBLD g12, h6; TRDEF 3, h4; TRENC and TWUPD h2, g9. -/
theorem test_decode_matrix :
    decodeSlot 10 0x03F10 0 = some (.mcfg 0x03F1) ∧ decodeSlot 10 0x00001 0 = some .mldw ∧ decodeSlot 10 0x00002 0 = some .mswap ∧
    decodeSlot 10 0x51053 0 = some (.mpush 1 2 8 5) ∧ decodeSlot 10 0x08036 0 = some (.macw 0 1 0 3) ∧ decodeSlot 10 0x80054 0 = some (.mshiftFwd 5) ∧ decodeSlot 10 0x11035 0 = some (.mdrain 2 8 3) ∧
    decodeSlot 10 0x001F7 0 = some (.mzero 0 0 31) ∧ decodeSlot 11 0x00A30 0 = some (.nibset 10) ∧ decodeSlot 11 0x00B31 0 = some (.nibsetSt 11) ∧
    decodeSlot 11 0x18C32 0 = some (.cbld 6 12) ∧ decodeSlot 11 0x10333 0 = some (.trdef 4 3) ∧ decodeSlot 11 0x08934 0 = some (.trenc 2 9) ∧
    decodeSlot 11 0x08935 0 = some (.twupd 2 9) := ⟨rfl, rfl, rfl, rfl, rfl, rfl, rfl, rfl, rfl, rfl, rfl, rfl, rfl, rfl⟩
/-- Chapter 17: SQSET TXCFG, g10; SQGO 0; SQBIND q2, g7; ACCPY g14, 5; WNSEL h3, g9. -/
theorem test_decode_engines :
    decodeSlot 11 0x0CA01 0 = some (.sqset 3 10) ∧ decodeSlot 11 0x00002 0 = some (.sqgo 0) ∧ decodeSlot 11 0x08703 0 = some (.sqbind 2 7) ∧ decodeSlot 11 0x14E04 0 = some (.accpy 5 14) ∧
    decodeSlot 11 0x0C950 0 = some (.wnsel 3 9) := ⟨rfl, rfl, rfl, rfl, rfl⟩

/-! ## Single operations -/

/-- A package whose thread 0 of tile 0 has a bundle in hand and these g registers. -/
def tg (l : List (Nat × W64)) : State :=
  { State.reset with cur := { Cur.init with u := .ctx 0 0 } }.modThread (.ctx 0 0) (fun x => { x with g := l })

/-- The last result pending: destination, value, due cycle, flags. -/
def pended (r : Result) : Option (Dest × Nat × Nat × Nat) :=
  match r with
  | .next s => (s.thread s.cur.u).pend.getLast?.map (fun p => (p.dest, p.value.toNat, p.due, p.flags.toNat))
  | _ => none

/-- What the slot's check comes to. -/
def verdictOf (r : Result) : Option Verdict := match r with | .next s => some s.cur.verdict | _ => none

/-- ADD wraps at 2^64 (R351). -/
theorem test_add_wraps : pended (exec (.add 0 3 1 2) (tg [(1, 0xFFFFFFFFFFFFFFFF), (2, 2)])) = some (.g 3, 1, 2, 0) := by decide +kernel
/-- ADDI's immediate is signed (R351). -/
theorem test_addi_signed : pended (exec (.addi 0 3 1 0xFF) (tg [(1, 5)])) = some (.g 3, 4, 2, 0) := by decide +kernel
/-- SUB takes gb from ga (R351). -/
theorem test_sub_order : pended (exec (.sub 0 3 1 2) (tg [(1, 1), (2, 2)])) = some (.g 3, 0xFFFFFFFFFFFFFFFF, 2, 0) := by decide +kernel
/-- MULH of -1 and 1 is -1; MULHU is 0 (R351). -/
theorem test_mulh_signed : pended (exec (.mulh 0 3 1 2) (tg [(1, 0xFFFFFFFFFFFFFFFF), (2, 1)])) = some (.g 3, 0xFFFFFFFFFFFFFFFF, 4, 0) ∧
    pended (exec (.mulhu 0 3 1 2) (tg [(1, 0xFFFFFFFFFFFFFFFF), (2, 1)])) = some (.g 3, 0, 4, 0) := by decide +kernel
/-- DIV truncates toward zero and REM takes the sign of ga (R352): -7 by 2 is -3, -1 left over. -/
theorem test_div_truncates : pended (exec (.div 0 3 1 2) (tg [(1, -7#64), (2, 2)])) = some (.g 3, (-3#64).toNat, 21, 0) ∧
    pended (exec (.rem 0 3 1 2) (tg [(1, -7#64), (2, 2)])) = some (.g 3, (-1#64).toNat, 21, 0) := by decide +kernel
/-- R352's table with FMASK.TDZ 0. -/
theorem test_div_special : pended (exec (.divu 0 3 1 2) (tg [(1, 7)])) = some (.g 3, 0xFFFFFFFFFFFFFFFF, 21, 0) ∧
    pended (exec (.remu 0 3 1 2) (tg [(1, 7)])) = some (.g 3, 7, 21, 0) ∧
    pended (exec (.div 0 3 1 2) (tg [(1, 0x8000000000000000), (2, -1#64)])) = some (.g 3, 0x8000000000000000, 21, 0) ∧
    pended (exec (.rem 0 3 1 2) (tg [(1, 0x8000000000000000), (2, -1#64)])) = some (.g 3, 0, 21, 0) := by decide +kernel
/-- R352's table with FMASK.TDZ 1: causes 0x16 and 0x17. -/
theorem test_div_traps :
    (let s := fun (b : W64) => (tg [(1, 0x8000000000000000), (2, b)]).modThread (.ctx 0 0) (fun x => { x with fmask := BitVec.allOnes 64 })
     verdictOf (exec (.rem 0 3 1 2) (s 0)) = some (.fault 0x16 0) ∧ verdictOf (exec (.div 0 3 1 2) (s (-1#64))) = some (.fault 0x17 0)) := by decide +kernel
/-- Shift counts use six bits; SAR keeps the sign (R351). -/
theorem test_shifts : pended (exec (.shl 0 3 1 2) (tg [(1, 1), (2, 65)])) = some (.g 3, 2, 2, 0) ∧
    pended (exec (.sarImm 0 3 1 63) (tg [(1, 0x8000000000000000)])) = some (.g 3, 0xFFFFFFFFFFFFFFFF, 2, 0) ∧
    pended (exec (.rotrImm 0 3 1 4) (tg [(1, 0xF)])) = some (.g 3, 0xF000000000000000, 2, 0) := by decide +kernel
/-- CLZ and CTZ of 0 give 64 (R351). -/
theorem test_counts : pended (exec (.clz 0 3 1) (tg [])) = some (.g 3, 64, 2, 0) ∧ pended (exec (.ctz 0 3 1) (tg [])) = some (.g 3, 64, 2, 0) ∧
    pended (exec (.popc 0 3 1) (tg [(1, 0xF0F)])) = some (.g 3, 8, 2, 0) := by decide +kernel
/-- ge is signed and geu is not; a true condition writes 128 ones (R353). -/
theorem test_compare_signed : pended (exec (.cmpGe 0 3 1 2) (tg [(1, -1#64), (2, 1)])) = some (.p 3, 0, 2, 0) ∧
    pended (exec (.cmpGeu 0 3 1 2) (tg [(1, -1#64), (2, 1)])) = some (.p 3, 2 ^ 128 - 1, 2, 0) := by decide +kernel
/-- -0 equals +0; a NaN is unordered (R353). -/
theorem test_compare_float : pended (exec (.cmpFeq 0 3 1 2) (tg [(1, 0x80000000), (2, 0)])) = some (.p 3, 2 ^ 128 - 1, 2, 0) ∧
    pended (exec (.cmpFle 0 3 1 2) (tg [(1, 0x7FC00000), (2, 0)])) = some (.p 3, 0, 2, 0) ∧
    pended (exec (.cmpFun 0 3 1 2) (tg [(1, 0x7FC00000), (2, 0)])) = some (.p 3, 2 ^ 128 - 1, 2, 0) := by decide +kernel
/-- FADD: 1.0 + 2.0 is 3.0, exactly, at latency 4; FMA adds gd: 2.0 * 3.0 + 1.0 is 7.0 (R356). -/
theorem test_float : pended (exec (.fadd 0 3 1 2) (tg [(1, 0x3F800000), (2, 0x40000000)])) = some (.g 3, 0x40400000, 5, 0) ∧
    pended (exec (.fma 0 3 1 2) (tg [(1, 0x40000000), (2, 0x40400000), (3, 0x3F800000)])) = some (.g 3, 0x40E00000, 5, 0) := by decide +kernel
/-- LIW's three forms (R355). -/
theorem test_liw : pended (exec (.liw 0 3 0xFFFFFFFFFFFF) (tg [])) = some (.g 3, 2 ^ 64 - 1, 2, 0) ∧
    pended (exec (.liw 1 3 0xFFFFFFFFFFFF) (tg [])) = some (.g 3, 2 ^ 48 - 1, 2, 0) ∧
    pended (exec (.liw 2 3 1) (tg [])) = some (.g 3, 65536, 2, 0) := by decide +kernel
/-- A false guard has no effect (R338): p1 holds no bit at reset. -/
theorem test_guard_off : exec (.add 1 3 1 2) (tg [(1, 1)]) = .next (tg [(1, 1)]) := rfl
/-- BR goes from its own bundle's offset, and records an untaken branch too (R339, R123). -/
theorem test_branch : (match exec (.br 1 0x7E0) { tg [] with cur := { Cur.init with u := .ctx 0 0, pc := 100 } } with
    | .next s => (s.thread (.ctx 0 0)).branch | _ => none) = some { target := 68, taken := false, left := 3 } := by decide +kernel
/-- A load of a word is zero-extended, and a store of its bytes is little-endian (R365, R4). -/
theorem test_store_bytes : (match exec (.stW 0 2 3 5) (tg [(5, 0x1122334455667788)]) with
    | .next s => (List.range 6).map (fun k => ((s.tile 0).padByte (7 + k)).toNat) | _ => []) = [0, 0x88, 0x77, 0x66, 0x55, 0] := by decide +kernel
/-- A misaligned access and one past the scratchpad (R125). -/
theorem test_access_faults :
    verdictOf (exec (.ldW 0 0 3 5) ((tg []).modThread (.ctx 0 0) (fun x => { x with a := [(3, 2)] }))) = some (.fault 0x24 0) ∧
    verdictOf (exec (.ldB 0 0 3 5) ((tg []).modThread (.ctx 0 0) (fun x => { x with a := [(3, 0x100000)] }))) = some (.fault 0x29 0) := by decide +kernel
/-- A spill store and load (R366). -/
theorem test_spill : (match exec (.stsH 0 6 5) (tg [(5, 0xABCD)]) with
    | .next s => pended (exec (.ldsB 0 7 9) s) | _ => none) = some (.g 9, 0xAB, 2, 0) := by decide +kernel
/-- AMOD of a negative sum is not negative (R360): -8 modulo 64. -/
theorem test_amod : pended (exec (.amod 0xF 1 2 2) ((tg []).modThread (.ctx 0 0) (fun x => { x with am := [(1, BitVec.ofNat 64 (8 <<< 48 + 64 <<< 28))] })))
    = some (.a 2, 56, 2, 0) := by decide +kernel

/-! ## The hypotheses of the statements can be met -/

/-- A package about to issue the one-slot bundle whose field of n bits is w from context 0 of tile 0. -/
noncomputable def issuing (n w : Nat) : State := State.reset.withFetchWord n w

/-- The hypotheses of StepIssuesBundle hold at s, and the slot's own check comes to a verdict as wanted. -/
noncomputable def issuesOne (s : State) (want : Verdict → Bool) : Bool :=
  match s.toIssue with
  | [] => false
  | u :: rest =>
    let r := { s with toIssue := rest }
    match r.chainAt u (r.thread u).pc with
    | .chain c =>
      match chainOps c with
      | [(k, some i)] =>
        let q := (r.take u (r.thread u).pc c).seen u
        (decodeFault (r.seen u) u (r.thread u).pc c (chainOps c)).isNone && !r.blocked u c.present (banksOf (chainOps c)) && (emptyStream q u [(k, i)]).isNone &&
          (compareHold q u [(k, i)]).isNone && !q.turnWaits u &&
          (match exec i (q.atSlot k false) with | .next a => want a.cur.verdict && (match exec i (q.atSlot k true) with | .next _ => true | _ => false) | _ => false)
      | _ => false
    | _ => false

/-- The hypotheses of DecodeFaultCommitsNothing hold at s. -/
noncomputable def decodeFaults (s : State) : Bool :=
  match s.toIssue with
  | [] => false
  | u :: rest =>
    let r := { s with toIssue := rest }
    match r.chainAt u (r.thread u).pc with
    | .chain c => (decodeFault (r.seen u) u (r.thread u).pc c (chainOps c)).isSome && !r.blocked u c.present (banksOf (chainOps c))
    | _ => false

/-- The thread of tg changed. -/
def tx (f : Thread → Thread) : State := (tg []).modThread (.ctx 0 0) f

theorem witness_ScalarIntegerResults : (scalarInt (tg []) (.add 0 1 2 3)).isSome = true ∧ (scalarInt (tg []) (.rdsr 7 1 0)).isSome = true ∧
    (me (tg [])).guard 0 = true := by decide +kernel
theorem witness_CompareResults : (scalarCmp (tg []) (.cmpFeq 0 1 2 3)).isSome = true ∧ (me (tg [])).guard 0 = true := by decide +kernel
theorem witness_DivisionResults : (scalarDiv (tg []) (.div 0 1 2 3)).isSome = true ∧ (me (tg [])).guard 0 = true ∧ (me (tg [])).tdz = false := by decide +kernel
/-- With TDZ set: a divisor of zero, and a signed minimum by -1. -/
theorem witness_DivisionResults_traps :
    (let s := (tg [(2, 0x8000000000000000), (3, -1#64)]).modThread (.ctx 0 0) (fun x => { x with fmask := BitVec.allOnes 64 })
     (scalarDiv s (.div 0 1 2 3)).isSome = true ∧ (me s).guard 0 = true ∧ (me s).tdz = true ∧ s.cur.checked = false ∧ gr s 4 = 0 ∧
     gr s 2 = 0x8000000000000000#64 ∧ gr s 3 = BitVec.allOnes 64) := by decide +kernel
theorem witness_ScalarFloatResults : (scalarFp (tg []) (.fadd 0 1 2 3)).isSome = true ∧ (me (tg [])).guard 0 = true ∧
    flagTrap (me (tg [])) (fAdd f32 (me (tg [])).rm 0 0).2 = .ok := by decide +kernel
theorem witness_PredicatesSelectsAndMoves : (scalarPred (tg []) (.pnot 0 1 2)).isSome = true ∧ (me (tg [])).guard 0 = true ∧
    streamCheck ((tg []).modCtx 0 0 (fun y => { y with q := [(1, { kind := 0, elems := [{ val := 5, width := 64, marks := 0, poison := none }], backlog := [] })] })) 1 = .ok ∧
    swzmOk 0x6543210654321065#64 = true := by decide +kernel
theorem witness_ScalarGuardOff : scalarGuard (tg []) (.add 1 2 3 4) = some 1 ∧ (me (tg [])).guard 1 = false := by decide +kernel
/-- An instruction that is well-formed, which the encoding statement asks of it. -/
theorem witness_EncodeDecode : (Instr.add 0 63 63 63).wellFormed = true ∧ isSlotOp (.add 0 63 63 63) = true := ⟨rfl, rfl⟩
/-- ADD g3, g1, g2 issues; WAITB g10 holds on the word at 0, and faults where g10 has bit 20 set. -/
theorem witness_StepIssuesBundle : issuesOne (issuing 32 0x00208301) (fun v => decide (v = .none ∨ v = .ok)) = true ∧
    issuesOne (issuing 20 0x140C) (fun v => match v with | .held _ => true | _ => false) = true ∧
    issuesOne ((issuing 20 0x140C).modThread (.ctx 0 0) (fun x => { x with g := [(10, 0x100000)] })) (fun v => match v with | .fault _ _ => true | _ => false) = true := by
  decide +kernel
theorem witness_DecodeFaultCommitsNothing : decodeFaults (issuing 20 0x0000D) = true := by decide +kernel
/-- A package whose thread 0 of tile 0 runs code whose units at 0 to 9 are these, the bundle in hand at 0 being one unit long. -/
def coded (l : List (Nat × BitVec 16)) (f : Thread → Thread) : State :=
  (State.modTile { State.reset with cur := { Cur.init with u := .ctx 0 0, next := 1 } } 0
    (fun t => { t with tenant := some 0, c0 := { t.c0 with task := some placedTask } })).modThread (.ctx 0 0) (fun x => f { x with units := l })
theorem witness_BranchAndCallResults : (branchOf (tg []) (.br 1 4)).isSome = true ∧ callOf (tg []) (.call 1 4) = some (false, 4) ∧
    callOf (tg []) (.call 0 4) = some (true, 4) ∧
    (let s := coded [(1, 0xFFFE), (2, 0xFFFE)] id; callOf s (.callr 0 0) = some (true, 0) ∧ s.skipChains s.cur.u 2 s.cur.next = .unit 3) ∧
    (let s := coded [(1, 0xFFFE)] (fun x => { x with walkFault := some (2, 0x20) })
     s.cur.checked = false ∧ (match s.skipChains s.cur.u 2 s.cur.next with | .fault _ _ => true | _ => false) = true) := by decide +kernel
theorem witness_DelaySlotsThenTarget :
    (let x := me (tx (fun x => { x with branch := some { target := 9, taken := true, left := 1 } }))
     x.loop0 = none ∧ x.loop1 = none ∧ x.branch = some { target := 9, taken := true, left := 1 } ∧ Cur.init.jump = none) := by decide +kernel
theorem witness_LoopResults : (me (tg [(1, 3)])).loop0 = none ∧ ((me (tg [(1, 3)])).rg 1).toNat % 2 ^ 32 ≠ 0 ∧
    (me (tx (fun x => { x with loop0 := some { start := 1, stop := 4 } }))).loop0.isSome = true ∧
    (let s := coded [(4, 0xFFFE)] id; s.skipChains s.cur.u 1 4 = .unit 5) ∧
    (let x := me (tx (fun x => { x with loop0 := some { start := 1, stop := 4 }, lc0 := 1 }))
     x.branch = none ∧ x.loop1 = none ∧ x.loop0 = some { start := 1, stop := 4 } ∧ x.lc0.toNat ≤ 1) := by decide +kernel
/-- Handles of each kind in a state that each condition wants. -/
theorem witness_EndAndWaitResults :
    (me (tg [])).guard 0 = true ∧ (me (tg [])).guard 1 = false ∧ (tg []).cur.u = .ctx 0 0 ∧ (me (tg [])).loop1 = none ∧
    (me (tx (fun x => { x with loop1 := some { start := 1, stop := 4 } }))).loop1.isSome = true ∧
    handleMeets { HEntry.init with kind := 1, state := 2 } 2 ∧ handleMeets { HEntry.init with kind := 1 } 3 ∧
    handleMeets { HEntry.init with kind := 2, rows := 4, pcount := 32 } 63 ∧
    ((tg []).ctx 0 0).hqNames 0 = false ∧ (tg []).cur.checked = false ∧
    gr (tg [(1, 0xFFFF8)]) 1 = 0xFFFF8#64 ∧ ((tg []).tile 0).padNat 0xFFFF8 8 / 2 ^ 56 % 2 = 0 ∧ gr (tg [(1, 0xFFFF9)]) 1 = 0xFFFF9#64 := by
  refine ⟨?_, ?_, ?_, ?_, ?_, ?_, ?_, ?_, ?_, ?_, ?_, ?_, ?_⟩ <;> first | decide +kernel | (simp only [handleMeets]; decide +kernel)
theorem witness_ContextStopEntry : (0 : Nat) < 2 ∧ (1 : Nat) < 2 := by decide
theorem witness_TrapReturnRestores : (State.reset.core 0).x.branch = none ∧ (0 : Nat) < 2 ^ 63 := by decide +kernel
theorem witness_TrapAndReturnInstructions : (me (tg [])).guard 0 = true ∧ (me (tg [])).guard 1 = false ∧ (tg []).cur.finished = false ∧
    Cur.init.u = .core 0 := by decide +kernel
theorem witness_StepRunsDeviceEvent : State.reset.toIssue = [] ∧ (Instr.machineCheck .state).wellFormed = true ∧ isSlotOp (.machineCheck .state) = false ∧
    isSlotOp (.nop 0) = true ∧ (Instr.dramScrub 48).wellFormed = false ∧ State.reset.agenda = [] ∧ State.reset.held = false ∧
    stateCommand (.machineCheck .state) = false ∧ stateCommand .devcmdDrain = true ∧ recordsG3 (.thermalTrip 0) = true ∧ recordsG3 (.dramScrub 0) = false := by
  decide +kernel

/-- tg's tile changed. -/
def tt (f : Tile → Tile) : State := (tg []).modTile 0 f
/-- tg's context changed. -/
def ty (f : Ctx → Ctx) : State := (tg []).modCtx 0 0 f
/-- A block handle at 0 of 64 bytes. -/
def block : HEntry := { HEntry.init with kind := 1, size := 64 }
/-- A ring handle at 0 of 4 rows of 64 bytes, one of them held. -/
def ring : HEntry := { HEntry.init with kind := 2, size := 64, rows := 4, pcount := 1 }
/-- Core 0 in kernel mode with a bundle in hand. -/
def tk : State := State.modCore { State.reset with cur := { Cur.init with u := .core 0 } } 0 (fun y => { y with kernel := true })

theorem witness_TlbiAndWfe : (let s := tg [(1, 0x0000000000010000), (2, 1), (3, 0x0200000000010000)]
    (gr s 1).getLsbD 56 = false ∧ (gr s 1).toNat % 2 ^ 16 = 0 ∧ s.tlbiBusy ((gr s 1).toNat / 2 ^ 58) = false ∧ (gr s 2).toNat % 2 ^ 16 ≠ 0 ∧
    (gr s 3).getLsbD 57 = true ∧ (gr s 3).toNat / 2 ^ 16 % 2 ^ 40 ≠ 0 ∧ s.cur.checked = false ∧ s.cur.finished = false) := by decide +kernel
/-- STEP 8, LENGTH 64 and BASE 0x100, the walk that R361 works out. -/
theorem witness_AddressResults : (addressResult (tg []) (.abrv 1 2 3 4)).isSome = true ∧
    (let m := BitVec.ofNat 64 (8 * 2 ^ 48 + 64 * 2 ^ 28 + 0x100 * 2 ^ 8); stepOf m = 8 ∧ lengthOf m = 64 ∧ baseOf m = 0x100) := by decide +kernel
/-- The last aligned word of the scratchpad, one byte past it, a misaligned address, a handle's region and a tagged word. -/
theorem witness_Addressing_plain :
    (let s := tx (fun x => { x with a := [(1, 0xFFFFC), (2, 0x100000), (3, 2)] })
     ((s.thread (.ctx 0 0)).ram 1).getLsbD 7 = false ∧ ((s.thread (.ctx 0 0)).ram 1).toNat % 4 ≠ 3 ∧
     ((s.thread (.ctx 0 0)).ra 1).toNat + 4 = 2 ^ 20 ∧ 2 ^ 20 < ((s.thread (.ctx 0 0)).ra 2).toNat + 1 ∧ ((s.thread (.ctx 0 0)).ra 3).toNat % 4 ≠ 0 ∧
     (s.tile 0).inHandle 0xFFFFC = false ∧ (s.tile 0).tagged 0xFFFFC = false) ∧
    ((tt (fun x => { x with handles := [(0, block)] })).tile 0).inHandle 63 = true ∧
    ((tt (fun x => { x with tags := [4] })).tile 0).tagged 39 = true := by decide +kernel
theorem witness_Addressing_bound :
    (let t := (tt (fun x => { x with handles := [(1, block), (2, ring)] })).tile 0
     (t.handle 0).kind = 0#2 ∧ (t.handle 1).kind = 1#2 ∧ (t.handle 1).size ≤ 64 ∧ 63 < (t.handle 1).size ∧ (t.handle 2).kind = 2#2 ∧
     1 ≤ ((t.handle 2).pcount - (t.handle 2).ccount).toNat) := by decide +kernel
theorem witness_LocalLoadsAndStores :
    (let s := tx (fun x => { x with a := [(3, 2)] })
     unitIsCore s.cur.u = false ∧ (scalarLoad (.ldW 0 1 2 3)).isSome = true ∧ (scalarStore (.stW 0 1 2 3)).isSome = true ∧
     (vectorLoad (.vld1024 0 1 2 3)).isSome = true ∧ (vectorStore (.vst256 0 1 2 3)).isSome = true ∧
     (me s).guard 0 = true ∧ (me s).guard 1 = false ∧ (s.local s.cur.u 2 1 4 false).verdict = .ok ∧ (s.local s.cur.u 2 1 4 true).verdict = .ok ∧
     (s.local s.cur.u 3 0 4 false).verdict = .fault 0x24 0 ∧ laneOn s 0 128 3 127 = true ∧ laneOn s 1 128 3 0 = false ∧
     ((s.local s.cur.u 2 1 4 true).bytes.map (pad s).padKey).Nodup) := by decide +kernel
/-- A load through a register bound to a block that is not full holds. -/
theorem witness_LocalLoadsAndStores_held :
    (let s := (tt (fun x => { x with handles := [(0, block)] })).modThread (.ctx 0 0) (fun x => { x with am := [(1, 0x80)] })
     s.cur.checked = false ∧ (match (s.local s.cur.u 1 0 4 false).verdict with | .held _ => true | _ => false) = true) := by decide +kernel
theorem witness_SwizzleInjective : ∀ j, (mget 6#3 (State.reset.tile 0).swz j).toNat ≠ 7 := by
  intro j; show ((6#3 : BitVec 3)).toNat ≠ 7; decide
theorem witness_SpillResults : (spillLoadOf (.ldsD 0 0xFF8 1)).isSome = true ∧ (spillStoreOf (.stsD 0 0xFFC 1)).isSome = true ∧
    (me (tg [])).guard 0 = true ∧ (me (tg [])).guard 1 = false ∧ (0xFF8#12).toNat % 8 = 0 ∧ (0xFFC#12).toNat % 8 ≠ 0 ∧ (tg []).cur.checked = false := by decide +kernel
/-- Physical address 0 in kernel mode passes; one above the translated space faults. -/
theorem witness_CoreLoadsAndStores :
    unitIsCore tk.cur.u = true ∧ (me tk).guard 0 = true ∧ tk.cur.checked = false ∧
    (match (tk.vaccess tk.cur.u 0xFF00000000000000 4 .read).verdict with | .fault _ _ => true | _ => false) = true ∧
    (match (tk.vaccess tk.cur.u 0xFF00000000000000 4 .write).verdict with | .fault _ _ => true | _ => false) = true := by decide +kernel
/-- A tile address of tile 5 at SCOPE 3, and one that lies beyond SCOPE 0. -/
theorem witness_RemoteAccessesIssue :
    (let s := { tx (fun x => { x with a := [(1, 0x8000000500000000)] }) with cur := { Cur.init with u := .ctx 0 0, scope := 3 } }
     (ldxOf s (.ldxD 0 0 1 2)).isSome = true ∧ (stxOf (.stxV1024 0 0 1 2)).isSome = true ∧ (me s).guard 0 = true ∧ (me s).guard 1 = false ∧
     ((s.target s.cur.u 3 ((me s).ra 1) 8 .read).verdict.both (fullStream s 2)) = .ok ∧
     (s.target s.cur.u 3 ((me s).ra 1) 8 .write).verdict = .ok ∧ laneOn s 0 128 2 127 = true) := by decide +kernel
/-- Core 0 with device memory's first page mapped at 0 for tenant 0. -/
def tm : State := tk.modCore 0 (fun y => { y with tlb := [{ tenant := 0, lg := 16, va := 0, pa := 0, x := true, w := true, rd := true, k := true }] })
theorem witness_CoreLoadsAndStores_passes :
    (let s := tm
     (s.vaccess s.cur.u 8 8 .read).verdict = .ok ∧ (s.vaccess s.cur.u 8 8 .write).verdict = .ok ∧ (s.vaccess s.cur.u 8 8 .write).pa = 8 ∧ (8 : Nat) < windowBase) := by
  decide +kernel
/-- A global address for each check of R363: a zero field set, beyond SCOPE, a port that is down, misaligned, and a device address. -/
theorem witness_RemoteAccessesIssue_checks :
    gaFormOk 0x8000000500100000 = false ∧ gaFormOk 0x8000000500000000 = true ∧ gaTile 0x8000000500000000 = true ∧ 2 < gaScope 0 0x8000030500000000 ∨
    (gaScope 0 0x8000100500000000 = 4 ∧ gaPeer 0x8000100500000000 = 1 ∧ (State.reset.port 0).up = false ∧ (0x8000000500000004#64).toNat % 8 ≠ 0 ∧
      gaTile 0x100 = false ∧ gaFormOk 0x100 = true) := by decide +kernel
theorem witness_Atomics :
    (let s := tx (fun x => { x with a := [(1, 0x8000000500000000)] })
     let r := { s with cur := { Cur.init with u := .ctx 0 0, scope := 3 } }
     (atmOf (.atmCas 0 0 1 2)).isSome = true ∧ (me s).guard 0 = true ∧ (me s).guard 1 = false ∧ s.cur.scope = 0 ∧ (s.local s.cur.u 2 0 8 true).verdict = .ok ∧
     r.cur.scope ≠ 0 ∧ (r.target r.cur.u r.cur.scope ((me r).ra 1) 8 .update).verdict = .ok ∧ (tm.vaccess (.core 0) 8 8 .update).verdict = .ok) := by
  decide +kernel
/-- A tile bound to a valid tenant takes an atomic; one bound to another tenant does not. -/
theorem witness_Atomics_home :
    (let s := ({ State.reset with tenants := [(1, { Tenant.init with valid := true })] }).modTile 5 (fun t => { t with tenant := some 1 })
     s.homeFails 1 (.atm .add 2) 0x8000000500000000 0 8 true = none ∧ s.homeFails 0 (.atm .add 2) 0x8000000500000000 0 8 true = some 0x26) := by decide +kernel
theorem witness_DecrementResults :
    (let s := tx (fun x => { x with a := [(1, 0x8000000500000080), (2, 0x8000000500000040)] })
     let r := { s with cur := { Cur.init with u := .ctx 0 0, scope := 3 } }
     (me s).guard 0 = true ∧ s.cur.scope < 3 ∧ s.cur.checked = false ∧ 3 ≤ r.cur.scope ∧ ((me r).ra 1).toNat % 128 = 0 ∧ ((me r).ra 2).toNat % 128 ≠ 0 ∧
     (r.target r.cur.u r.cur.scope ((me r).ra 1) 8 .update).verdict = .ok ∧ (r.target r.cur.u r.cur.scope ((me r).ra 2) 8 .update).verdict = .ok) := by decide +kernel
/-- Below SCOPE 3: a block of the own tile passes its other checks, one in another tile has the lower cause; a COUNT of 1 whose CONT's line is poisoned. -/
theorem witness_DecrementResults_low :
    (let s := tx (fun x => { x with a := [(1, 0x8000000000000080), (2, 0x8000000500000080)] })
     let r := { State.reset with mem := [(0, 1#8)], poison := [1], kregs := { KRegs.init with memmap := 1 } }
     s.cur.scope < 3 ∧ ((me s).ra 1).toNat % 128 = 0 ∧ (s.target s.cur.u s.cur.scope ((me s).ra 1) 8 .update).verdict = .ok ∧
     (match (s.target s.cur.u s.cur.scope ((me s).ra 2) 8 .update).verdict with | .fault c _ => decide (c.toNat < 0x67) | _ => false) = true ∧
     r.homeRead 0 0 8 = 1 ∧ r.homeFails 0 (.ldx 0) 64 64 64 true = some 0x77) := by decide +kernel
/-- A form's first and last elements on, none on, and an overflow that FMASK traps. -/
theorem witness_ElementwiseResults :
    (let s := tx (fun x => { x with v := [(2, 0x7F7FFFFF)] })
     let i := Instr.vadd 0 2 2 3 0 2
     (∃ f, elementwise s i = some f ∧ 31 < f.n ∧ f.on s 31 = true ∧ ((srcCheck s f.v).both f.pre).andThen (flagTrap (me s) (f.flags s)) = .ok) ∧
     (∃ f, elementwise s (.vadd 1 2 2 3 0 2) = some f ∧ f.on s 0 = false) ∧
     (∃ f, elementwise (s.modThread (.ctx 0 0) (fun x => { x with fmask := BitVec.allOnes 64 })) i = some f ∧ srcCheck s f.v = .ok ∧ f.pre = .ok ∧
       (match flagTrap (me (s.modThread (.ctx 0 0) (fun x => { x with fmask := BitVec.allOnes 64 }))) (f.flags s) with | .fault _ _ => true | _ => false) = true)) := by
  refine ⟨⟨_, rfl, ?_, ?_, ?_⟩, ⟨_, rfl, ?_⟩, ⟨_, rfl, ?_, ?_, ?_⟩⟩ <;> decide +kernel
theorem witness_AcrossLaneResults : ∃ f, acrossLanes (tg []) (.vperm 0 1 2 3 0 2) = some f ∧ f.on (tg []) 0 = true ∧
    ((srcCheck (tg []) f.v).both f.pre).andThen (flagTrap (me (tg [])) (f.flags (tg []))) = .ok := by
  refine ⟨_, rfl, ?_, ?_⟩ <;> decide +kernel
theorem witness_VectorCompareAndSelectResults :
    vcmpOf (.vcmp 0 1 2 3 4 0 2) = some (0, .reg 1, 2, 3, 4, 0, 2) ∧ 8 ≤ tyBits 0 ∧ (me (tg [])).guardAt 0 124 = true ∧ (me (tg [])).guardAt 1 0 = false ∧
    srcCheck (tg []) (.reg 1) = .ok ∧ tyF 0 = true ∧ (vfmt 0).val 0x7FC00000 = .nan ∧
    vselOf (.vsel 1 1 2 3 0 2) = some (1, .reg 1, 2, 3, 0, 2) := by
  refine ⟨rfl, ?_, ?_, ?_, ?_, ?_, ?_, rfl⟩ <;> decide +kernel
theorem witness_ReductionResults : vredOf (.vrsum 0 1 2 8 2) = some (0, 0, .reg 1, 2, 8, 2) := rfl
theorem witness_ReductionResults_inputs : (me (tg [])).guardAt 0 0 = true ∧ (me (tg [])).guardAt 1 0 = false ∧
    tyF 8 = false ∧ ((srcCheck (tg []) (.reg 1)).andThen (flagTrap (me (tg [])) Flags.none)) = .ok := by decide +kernel
theorem witness_NanMaskAndTranspose : (me (tg [])).guardAt 0 0 = true ∧ (∀ e < 32, (me (tg [])).guardAt 1 (4 * e) = false) ∧ tyTrn32 0 = true := by decide +kernel
theorem witness_MatrixAndHandleCommandsQueue :
    (let s := (tt (fun x => { x with handles := [(1, block), (2, ring)] })).modThread (.ctx 0 0) (fun x => { x with g := [(1, 0xFFFF8), (2, 4), (4, 0x8000000000000008)] })
     (∃ op p, matrixCmd s .mldw = some (false, op, p) ∧ p) ∧ (s.tile 0).mq.length < 16 ∧
     (∃ c p, handleCmd s (.hopen 1) = some (c, p) ∧ p) ∧ (∃ c p, handleCmd s (.hpub 2 2) = some (c, p) ∧ p) ∧
     (∃ c p, handleCmd s (.hrel 1 2) = some (c, p) ∧ p) ∧ (∃ c p, handleCmd s (.binit 2 1) = some (c, p) ∧ p) ∧
     (∃ c p, handleCmd s (.binitRel 1) = some (c, p) ∧ p) ∧ (∃ c p, handleCmd s (.barr 4) = some (c, p) ∧ p)) := by
  refine ⟨⟨_, _, rfl, trivial⟩, ?_, ⟨_, _, rfl, ?_⟩, ⟨_, _, rfl, ?_⟩, ⟨_, _, rfl, ?_⟩, ⟨_, _, rfl, ?_⟩, ⟨_, _, rfl, ?_⟩, ⟨_, _, rfl, ?_⟩⟩ <;>
    (first | decide +kernel | (simp only [wordOperand]; decide +kernel))
/-- A queue of sixteen. -/
theorem witness_MatrixAndHandleCommandsQueue_full :
    ((tt (fun x => { x with mq := List.replicate 16 { op := .mldw, ctx := 0, seq := 0 } })).tile 0).mq.length = 16 := by decide +kernel
theorem witness_EngineAndJobCommandsQueue :
    (let s := (tt (fun x => { x with handles := [(1, block)] })).modThread (.ctx 0 0) (fun x => { x with g := [(1, 0xFFFF8), (2, 0x100000)] })
     (∃ q, engineCmd s (.sqset 0 1) = some (q, .ok)) ∧ (∃ q v, engineCmd s (.sqset 6 2) = some (q, v) ∧ v = .fault 0x29 0) ∧ (∃ q, engineCmd s (.xld 1 3) = some (q, .ok)) ∧
     (∃ q, engineCmd s (.splc 1 1) = some (q, .ok)) ∧ wordOperand (gr s 1) 8 ∧ ((pad s).handle 1).kind = 1#2 ∧ ((pad s).handle 2).kind ≠ 1#2 ∧
     s.cur.checked = false ∧ (gr s 2).toNat < 2 ^ 33) := by
  refine ⟨⟨_, rfl⟩, ⟨_, _, rfl, ?_⟩, ⟨_, rfl⟩, ⟨_, rfl⟩, ?_, ?_, ?_, ?_, ?_⟩ <;> (first | decide +kernel | (simp only [wordOperand]; decide +kernel))
/-- A block of 64 bytes at 0 where handle 1 is free; a geometry without a kind; handle 2 allocated. -/
theorem witness_HandleResults :
    (let s := (tt (fun x => { x with handles := [(2, { block with base := 0x80 })] })).modThread (.ctx 0 0) (fun x => { x with g := [(1, BitVec.ofNat 64 (1 + 64 * 2 ^ 28))] })
     ((pad s).handle 1).kind = 0#2 ∧ (pad s).geomBad 1 false (gr s 1) = false ∧ (pad s).geomBad 1 false 0 = true ∧ ((pad s).handle 2).kind ≠ 0#2 ∧
     hsetBusy ((pad s).handle 2) (gr s 1) = false ∧ (pad s).geomBad 2 true (gr s 1) = false ∧ s.cur.checked = false) := by decide +kernel
theorem witness_HandleResults_transitions : block.kind = 1#2 ∧ block.state = 0#2 ∧ block.writers = [] ∧ block.readers = [] ∧ ring.kind = 2#2 ∧
    (ring.pcount - ring.ccount).toNat + 3 ≤ ring.rows ∧ ring.rows < (ring.pcount - ring.ccount).toNat + 4 ∧ 1 ≤ (ring.pcount - ring.ccount).toNat ∧
    (ring.pcount - ring.ccount).toNat < 2 := by decide +kernel
theorem witness_StreamBindResults :
    (let s := tg [(1, 2), (2, 4)]
     (mget Stream.init (s.ctx 0 0).q 1).kind = 0#2 ∧ (gr s 0).toNat = 0 ∧ (gr s 1).toNat < 4 ∧ (pad s).streamBusy 0 1 = false ∧ 4 ≤ (gr s 2).toNat ∧ s.cur.checked = false ∧
     (pad (ty (fun y => { y with q := [(1, { kind := 1, elems := [{ val := 5, width := 64, marks := 0, poison := none }], backlog := [] })] }))).streamBusy 0 1 = true) := by
  decide +kernel
theorem witness_TaskDrainAndStatus :
    (let s := tg [(1, 64), (2, 0x8000000500000080)]
     let r := { s with cur := { Cur.init with u := .ctx 0 0, scope := 3 } }
     recordCheck s (gr s 1) = .ok ∧ (s.ctx 0 0).occupancy < 64 ∧ s.cur.scope < 3 ∧ 3 ≤ r.cur.scope ∧ recordCheck r (gr r 1) = .ok ∧
     (r.target r.cur.u 3 (gr r 2) 128 .update).verdict = .ok ∧ s.cur.checked = false ∧ s.uncovered 0 0 0 = false ∧ (s.ctx 0 0).fail = none ∧
     64 ≤ ((ty (fun y => { y with deque := List.replicate 64 (recOf 0 0 0) })).ctx 0 0).occupancy ∧
     (ty (fun y => { y with hq := [.barr 0 0 0] })).uncovered 0 0 0 = true ∧ gaScope 0 0x8000000000000000 ≤ s.cur.scope ∧
     (pad s).mq = [] ∧ (pad s).nib = none ∧ (pad s).beat = none) := by decide +kernel
theorem witness_TaskDrainAndStatus_enq :
    (let s := tk.modCore 0 (fun y => { y with enqDone := true, enq := some (0, 3) })
     s.cur.u = .core 0 ∧ (s.core 0).enqDone = true ∧ (s.core 0).enq = some (gr s 0, 3)) := by decide +kernel

/-- The public key whose private key is 1. -/
def testKey : BitVec 512 := BitVec.ofNat 512 (pG.1 * 2 ^ 256 + pG.2)
/-- A signature by that key over a digest, the nonce being 1. -/
def testSig (digest : Nat) : List Byte := toBytesBE 32 (pG.1 % pN) ++ toBytesBE 32 ((digest + pG.1) % pN)
/-- An image without a body, VERSION 7, signed by that key. -/
def testImage : List Byte :=
  let head := toBytes 4 imgMagic ++ toBytes 4 0 ++ toBytes 4 7 ++ toBytes 4 0 ++ sha256 [] ++ List.replicate 16 0
  head ++ testSig (ofBytesBE (sha256 (head ++ List.replicate 64 0))) ++ List.replicate 64 0

/-- The image passes: SHA-256 and ECDSA P-256 evaluated by the kernel. -/
theorem test_image_passes : imageReject 1 testKey 0 testImage = none := by decide +kernel

/-- READY, and each state that DRAIN and RESUME are taken in. -/
theorem witness_ResetAndGradeThreeEvents : State.reset.dstate = .bringup ∧ ({ State.reset with dstate := .draining } : State).dstate ≠ .bringup ∧ (2303 : Nat) < 2304 ∧
    State.reset.rails.getLsbD 11 = true ∧ State.reset.held = false ∧ State.reset.rails &&& ~~~BitVec.ofNat 12 (2 ^ 0) ≠ BitVec.ofNat 12 (2 ^ 11) ∧
    State.reset.rails &&& ~~~BitVec.ofNat 12 (2 ^ 0) ≠ 0#12 ∧
    ({ State.reset with rails := 0xC00 } : State).rails &&& ~~~BitVec.ofNat 12 (2 ^ 10) = BitVec.ofNat 12 (2 ^ 11) := by decide +kernel
/-- A context that runs, which an uncorrectable word stops. -/
theorem witness_ResetAndGradeThreeEvents_sram :
    (let s := (tg []).modCtx 0 0 (fun y => { y with task := some placedTask })
     (s.ctx 0 0).offers (s.tile 0).cutting = true) := by decide +kernel
/-- A package in bring-up: its boot state and what flash and fuses hold. -/
def booting (b : Boot) (f : Fuses → Fuses) : State := { State.reset with boot := { BootState.init with boot := b, nextKey := testKey }, fuses := f Fuses.init }
theorem witness_BootEvents_slots :
    (booting .rom (fun f => { f with rootKey := testKey, slotA := testImage })).boot.boot = .rom ∧ Fuses.init.min1 = 0 ∧
    imageReject 1 testKey 8 testImage = some (.version 1) ∧ imageReject 1 testKey 0 [] = some (.magic 1) ∧ imageReject 2 testKey 7 testImage = none := by decide +kernel
theorem witness_BootEvents_stage2 :
    (booting .stage1 id).boot.boot = .stage1 ∧ (booting .trained id).dstate = .bringup ∧ imgNat testImage 0 4 = imgMagic ∧ imgNat Fuses.init.stage2 0 4 ≠ imgMagic := by
  decide +kernel
/-- A root key whose SHA-256 is the fused one, and one whose hash is not. -/
theorem witness_BootEvents_root :
    (let f := fun (h : BitVec 256) => (booting .rom (fun f => { f with rootKey := testKey, rootHash := h, slotA := testImage })).fuses
     let h := BitVec.ofNat 256 (ofBytesBE (sha256 (toBytesBE 64 testKey.toNat)))
     (f h).root = some testKey ∧ (f 0).root = none ∧ imageReject 1 (f h).root (f h).min1 (f h).slotA = none ∧ (imageReject 1 (f 0).root 0 testImage).isSome = true) ∧
    (booting .core0 id).boot.boot = .core0 := by decide +kernel
/-- A management request with an operation and arguments. -/
def request (op : BitVec 8) (a0 a1 : BitVec 32) (body : List Byte) : MgmtReq :=
  { port := 0, src := 1, magic := 0x4357, ver := 1, op := op, tag := 5, arg0 := a0, arg1 := a1, body := body }
/-- The same with the counter 9 and the test key's signature. -/
def signed9 (op : BitVec 8) (a0 : BitVec 32) : MgmtReq :=
  let r := request op a0 0 (toBytes 8 9)
  { r with body := toBytes 8 9 ++ testSig (ofBytesBE (sha256 (r.header ++ toBytes 8 9))) }
theorem witness_ManagementEvents_signed :
    (let s := { State.reset with dstate := .ready, kregs := { KRegs.init with mkey := some testKey } }
     Signed s (signed9 0x10 0) 0x10 ∧ Signed s (signed9 0x12 1200) 0x12 ∧ 1200 ≤ (signed9 0x12 1200).arg0.toNat) := by
  refine ⟨⟨?_, ?_⟩, ⟨?_, ?_⟩, ?_⟩ <;> decide +kernel
theorem witness_ManagementEvents :
    (let c := request 0x03 1024 1024 (List.replicate 1024 0)
     c.isOp 0x03 = true ∧ c.arg0.toNat % 1024 = 0 ∧ c.chunkLen = 1024 ∧ c.body.length = c.chunkLen) ∧
    (booting .waitImage id).boot.boot = .waitImage ∧ (request 0x04 192 0 []).isOp 0x04 = true ∧
    (booting .kernel id).boot.boot = .kernel ∧ (request 0x02 0 0 (List.replicate 16 0)).isOp 0x02 = true ∧
    (let p := request 0x01 12 (BitVec.ofNat 32 (3072 * 2 ^ 16 + 1024)) []
     p.isOp 0x01 = true ∧ p.arg1.toNat / 2 ^ 16 + p.arg1.toNat % 2 ^ 16 = 4096) ∧ (request 0x05 0 0 []).known = false ∧
    ({ State.reset with kregs := { KRegs.init with devcmd := some .drain } } : State).kregs.devcmd = some .drain ∧ State.reset.kregs.devcmd = none := by decide +kernel
/-- Device memory with the test image at 0. -/
def imageInMemory : State :=
  { booting .waitImage id with kregs := { KRegs.init with memmap := 1 }, mem := (testImage.zipIdx.map (fun e => (e.2, e.1))).filter (fun e => decide (e.2 ≠ 0)) }
theorem witness_ManagementEvents_commit : imageReject 2 imageInMemory.boot.nextKey imageInMemory.fuses.min2 (imageInMemory.memRead 0 192) = none ∧
    imageReject 2 imageInMemory.boot.nextKey imageInMemory.fuses.min2 (imageInMemory.memRead 0 0) = some (.magic 2) := by decide +kernel
/-- Every base that START wants set. -/
theorem witness_RegisterEvents :
    (let k := { KRegs.init with stopbase := 0x1000, fpbase := 0x1000, fpcount := 1, klbase := 0x1000, ttbase := 0x8000, crbase := 0x1000, devcmd := some .start, ttsync := some (some 63),
                                winDrain := some (1, 1023) }
     startBlocked k = false ∧ k.devcmd = some .start ∧ k.ttsync = some (some 63) ∧ k.winDrain = some (1, 1023)) ∧ State.reset.boot.readied = false ∧
    onCurve pG.1 pG.2 = true ∧ KRegs.init.ttsync = none ∧ KRegs.init.winDrain = none ∧ (0x17F : Nat) / 8 * 8 ≠ 0x038 ∧ (0x17F : Nat) < 0x180 := by decide +kernel
/-- A context stopped in the placed task. -/
def stopped : State := (tg []).modCtx 0 0 (fun y => { y with task := some placedTask, stop := { y.stop with stopped := true } })
/-- A page table in memory: three levels, the last a leaf for the first gigabyte. -/
def pagesAt0 : State := { State.reset with kregs := { KRegs.init with memmap := 1 }, mem := [(0, 1), (1, 0x10), (0x1000, 1), (0x1001, 0x20), (0x2000, 0x1F)] }
theorem witness_ContextEvents :
    (stopped.ctx 0 0).stop.stopped = true ∧ (stopped.ctx 0 0).ending = false ∧ (stopped.ctx 0 0).task = some placedTask ∧ grade 0x10 ≠ 0 ∧ grade 0x78 = 0 ∧
    (let s := tk.modCore 0 (fun y => { y with ccmp := 0 }); (s.core 0).ccmp.toNat ≤ (s.core 0).x.ccycle ∧ (s.core 0).compared = false) ∧
    (let s := tk.modCore 0 (fun y => { y with irq := [0x6C], running := true, ie := true })
     (s.core 0).irq = [0x6C] ∧ (s.core 0).running = true ∧ (s.core 0).x.branch = none ∧ (s.core 0).ie = true ∧ (s.core 0).x.stallLeft = 0 ∧ (s.core 0).enq = none) := by
  decide +kernel
/-- A stopped context of a tile that is being cut. -/
theorem witness_ContextEvents_cut : (stopped.tile 0).cutting = false ∧ ((stopped.modTile 0 (fun x => { x with cutting := true })).tile 0).cutting = true := by decide +kernel
theorem witness_ContextEvents_walks :
    (let w : Walk := { tenant := 0, va := 0x12340000, waiting := [(.ctx 0 1, .read)] }
     let v : Walk := { tenant := 0, va := 2 ^ 56, waiting := [(.core 0, .read)] }
     let s := pagesAt0.modDie 0 (fun d => { d with walks := [w, v] })
     (s.die 0).walks[0]? = some w ∧ (s.die 0).walks[1]? = some v ∧ s.unitTenant (.ctx 0 1) = w.tenant ∧ s.unitTenant (.core 0) = v.tenant ∧
     (match s.walkEnd w with | .ok e => decide (e.lg = 30) | _ => false) = true ∧ (match s.walkEnd v with | .error _ => true | _ => false) = true) := by decide +kernel
/-- R27's fields of a flit of KIND 1 with SEQ 0xABC, and R28's count of flits: 58 bytes with their header of 8 take two. -/
theorem test_memory_flit : (linkFlit 1 0xABC [0x5A]).toNat % 2 ^ 24 = 0x5A1ABC ∧ linkFlits 50 = 1 ∧ linkFlits 58 = 2 := by decide +kernel
set_option maxRecDepth 100000 in
/-- New flits that an end may put out, one with its expected SEQ and one with another; answers on their way; a NAK that the retry buffer answers. -/
theorem witness_EthernetAndMemoryLinkEvents_flits :
    (let s := State.reset.modLink 47 (fun l => { l with trained := true, chip := { l.chip with retry := [(4095, 0), (0, 0)] } })
     (s.link 47).live = true ∧ ([0, 1, 4].all (fun k => (((s.link 47).at false).sends k (linkFlit k 0 [])).isSome)) = true ∧
     flitGood (linkFlit 0 0 []) = true ∧ flitSeq (linkFlit 0 0 []) = ((s.link 47).at true).rxSeq ∧ flitGood (linkFlit 0 0 [] ^^^ BitVec.ofNat 512 (2 ^ 100)) = false ∧
     ((s.link 47).at true).retry = [(4095, 0)] ++ (0, 0) :: []) ∧
    (let e := fun (k : Nat) => { LinkEnd.init with wire := [linkFlit k 0 []] }
     ((e 2).sends 2 (linkFlit 2 0 [])).isSome = true ∧ ((e 2).sends 2 1).isSome = true ∧ ((e 3).sends 3 (linkFlit 3 0 [])).isSome = true ∧
     ((e 3).sends 3 1).isSome = true ∧ flitGood 1 = false ∧ flitGood (linkFlit 2 0 []) = true ∧ flitSeq (linkFlit 2 0 []) = 0 ∧ flitGood (linkFlit 3 0 []) = true ∧
     ((e 0).sends 0 (linkFlit 0 0 [])).isSome = true) ∧
    (let s := { (State.reset.modLink 0 (fun l => { l with trained := true, retrain := true })).modLink 2 (fun l => { l with trained := true }) with
                kregs := { KRegs.init with memmap := 5 } }
     (s.link 0).retrain = true ∧ (s.link 0).failed = false ∧ (s.link 2).live = true ∧ s.kregs.memmap.getLsbD 2 = true ∧ s.kregs.memmap.getLsbD 1 = false) := by decide +kernel
/-- What a scrub finds is free; one of the three cases holds. -/
theorem witness_EthernetAndMemoryLinkEvents_scrub (s : State) : (s.choose 3).1 = 0 ∨ (s.choose 3).1 = 1 ∨ (s.choose 3).1 = 2 := by
  have h : (s.choose 3).1 < 3 := Nat.mod_lt _ (by decide)
  omega
/-- A window of a valid tenant over the gigabyte that pagesAt0 maps. -/
def windowed : State :=
  ({ pagesAt0 with dstate := .ready, tenants := [(0, { Tenant.init with valid := true })] }).modEth 1
    (fun e => { e with windows := [(1023, { valid := true, perm := 3, tenant := 0, rkey := 77, vbase := 0x4000, length := 0x10000 })] })
theorem witness_EthernetAndMemoryLinkEvents_windows :
    windowed.dstate ≠ .bringup ∧ (windowed.windowFor 1 77 0x13FFF 1 1).isSome = true ∧ windowed.windowFor 1 77 0x13FFF 2 1 = none ∧ (windowed.windowFor 1 77 0x4000 1 0).isSome = true ∧
    windowed.roceFails 0 0x4000 1 true = none ∧ windowed.roceFails 0 0x4000 1 false = none ∧
    (match windowed.vaReadLong .walk 0 0x4000 1 with | .ok _ => true | _ => false) = true ∧
    (match windowed.roceFails 0 0x8000000000 1 true with | some _ => true | none => false) = true := by decide +kernel

theorem witness_IssueEvents :
    (let s := ((tt (fun x => { x with skip := 31 })).modCtx 0 1 (fun y => { y with task := some placedTask })).modCtx 0 0 (fun y => { y with task := some placedTask })
     (s.tile 0).leadCtx = 0 ∧ (∀ c, c < 2 → ((s.tile 0).ctx c).x.stallLeft = 0) ∧ s.capIdle 0 = (false, s) ∧ 31 ≤ (s.tile 0).skip ∧ ((s.tile 0).ctx 1).offers (s.tile 0).cutting = true) ∧
    (let s := tk.modCore 0 (fun y => { y with running := true })
     (s.core 0).running = true ∧ (s.core 0).x.stallLeft = 0 ∧ (s.core 0).x.hold ≠ .wfe) ∧
    (let s := tk.modCore 0 (fun y => { y with running := true, x := { y.x with stallLeft := 1 } })
     0 < (s.core 0).x.stallLeft ∧ s.coreLacking 0 = some 0) := by decide +kernel
/-- Below the cap's top a unit is left idle or not, freely. -/
theorem witness_IssueEvents_cap : (let s : State := { State.reset with cap := 1200 }; (s.capIdle 0).1 = true ∨ (s.capIdle 0).1 = false ∧ ∃ q, s.capIdle 0 = (false, q)) := by
  intro s
  cases h : s.capIdle 0 with
  | mk a b => cases a <;> simp
/-- A context whose first line of code is mapped and not yet here. -/
theorem witness_IssueEvents_fetch :
    (let s := (pagesAt0.modTile 0 (fun t => { t with tenant := some 0, tlb := [{ tenant := 0, lg := 16, va := 0, pa := 0, x := true, w := true, rd := true, k := false }] })).modCtx 0 0
        (fun y => { y with task := some placedTask })
     (s.ctx 0 0).kernel = some placedTask.kernel ∧ s.skipLacking (.ctx 0 0) = none ∧ firstMissing 1 (s.ctx 0 0).x.units (s.ctx 0 0).x.pc = 0 ∧ (s.ctx 0 0).stop.stopped = false ∧ (s.tile 0).cutting = false ∧
     s.xlat (.ctx 0 0) 0 .fetch = .pa 0 ∧ s.memFails 0 64 false = none) := by decide +kernel

/-- A node with no successor. -/
def node0 (st : NState) : GNode :=
  { npa := 0, prio := 0, irq := false, array := false, redund := false, extx := 1, exty := 1, extz := 1, kernel := 0, args := [], succ := [], st := st, cause := 0, next := 1,
    live := 0, ended := 1, readyAt := 0, resume := [], conts := [] }
/-- A graph of one node. -/
def graph1 (st : NState) (killed : Bool) : Graph := { gid := 9, tenant := 0, queue := 3, gpa := 0, user := 0, nodes := [node0 st], fails := [], killed := killed }
theorem witness_SchedulingEvents_graphs :
    (let s := { State.reset with graphs := [graph1 .running false] }
     s.nodeOver 9 0 = true ∧ s.graph 9 = some (graph1 .running false) ∧ s.node 9 0 = some (node0 .running)) ∧
    (let s := { State.reset with graphs := [graph1 .done false] }
     s.graph 9 = some (graph1 .done false) ∧ (graph1 .done false).over = true ∧ ∀ x, x ∈ (graph1 .done false).nodes → x.st ≠ .waiting) ∧
    (graph1 .done true).killed = true ∧ (∀ e, e ∈ (tt (fun x => { x with tenant := some 0 })).tiles → e.2.tenant = some 0 → e.2.killing = false) ∧ mget [] ({ State.reset with ready := [(35, [(9, 0)])] } : State).ready (16 * 2 + 3) ≠ [] := by decide +kernel
/-- A task whose descriptor in memory is one unit of code at 0, with no dictionary. -/
theorem witness_SchedulingEvents_load :
    (let k := { placedTask with loaded := false, kernel := { placedTask.kernel with va := 0x4000 } }
     let s := { (pagesAt0.modCtx 0 0 (fun y => { y with task := some k })) with mem := pagesAt0.mem ++ [(0x4008, 1)] }
     (s.ctx 0 0).task = some k ∧ k.loaded = false ∧
     (match s.vaReadLong .walk k.tenant k.kernel.va.toNat 64 with
      | .ok l =>
        match descOf k.kernel.va (ofBytes l) with
        | some d =>
          match s.vaFetch k.tenant d.dict.toNat (48 * d.dictn) with
          | .ok _ => !({ k with kernel := d, loaded := true } : Task).badRecord
          | .error _ => false
        | none => false
      | .error _ => false) = true) := by decide +kernel
theorem witness_SchedulingEvents_steal :
    (let s := (tg []).modTile 0 (fun t => { t with tenant := some 0, c0 := { t.c0 with task := some placedTask, draws := 1 } })
     let r := s.modTile 1 (fun t => { t with tenant := some 0, c1 := { t.c1 with task := some placedTask } })
     (r.ctx 0 0).task = some placedTask ∧ (r.ctx 0 0).draws = 0 + 1 ∧ 0 < 3 ∧ (r.ctx 0 0).stealing = none ∧ placedTask.redundant = false ∧
     r.victims 0 0 (288 * dieOf 0) 288 ≠ []) ∧
    (let s := (tg []).modTile 0 (fun t => { t with tenant := some 0, c0 := { t.c0 with task := some placedTask, draws := 1, stealing := some 1 } })
     let r := s.modTile 1 (fun t => { t with tenant := some 0, c1 := { t.c1 with task := some placedTask, deque := [recOf 0 0 0] } })
     let q := { r with agenda := [.bundleIssue (.tile 1)] }
     r.thief 1 = some (0, 0) ∧ (r.ctx 0 0).task = some placedTask ∧ (r.tile 1).cutting = false ∧ r.ownerFirst 1 = false ∧
     (r.tile 1).stealFrom 1 0 0 = some (1, recOf 0 0 0) ∧ q.thief 1 = some (0, 0) ∧ q.ownerFirst 1 = true ∧ (q.tile 1).stealFrom 2 0 0 = none ∧
     (s.tile 1).stealFrom 1 0 0 = none ∧ (s.ctx 0 0).draws < 7) := by decide +kernel
/-- An ENQ that the distributor looks at, its descriptor all zero but for the count of nodes. -/
theorem witness_SchedulingEvents_enq :
    (let s := ({ pagesAt0 with tenants := [(0, { Tenant.init with valid := true, qenable := 8 })] }).modCore 0
        (fun y => { y with enq := some (0x3000, 3), ccten := 0x40, x := { y.x with hold := .enq 0x3000 3 } })
     (s.core 0).enq = some (0x3000, 3) ∧ (s.core 0).enqDone = false ∧ (s.core 0).x.hold = .enq 0x3000 3 ∧ s.enqAllowed 0 3 = true ∧
     (match s.readGraph 0 (s.core 0).kernel 0x3000 with | .ok g => g.bad | _ => false) = true ∧ s.queued 0 3 < 64) := by decide +kernel
theorem witness_SchedulingEvents_selection :
    (let s := { State.reset with tenants := [(0, { Tenant.init with valid := true, tileset := 1, share := 1, qenable := 8 })], ready := [(3, [(9, 0)])],
                                 graphs := [{ graph1 .running false with nodes := [{ node0 .running with next := 0 }] }] }
     (match s.heads with | [h] => decide (h.gid = 9) && s.bindable h 0 | _ => false) = true) := by decide +kernel
/-- A remote access of a kind to an address. -/
def access (k : RKind) (a : W64) : Remote :=
  { id := 6, kind := k, addr := a, pa := 0, size := 8, data := 0, data2 := 0, lanes := BitVec.allOnes 128, tscope := 3, due := 0, tenant := 0, gid := 0, node := 0, sent := false,
    done := false, twinOf := none, ended := false, result := { width := 64, val := 0, marks := 0, poison := none } }
theorem witness_RemoteAndHandleEvents :
    (let s := ty (fun y => { y with remote := [access .stx 0x8000000500000000, access .stx 0x8000100500000000] })
     (s.ctx 0 0).remote[0]? = some (access .stx 0x8000000500000000) ∧ s.mayPerform 0 0 (access .stx 0x8000000500000000) = true ∧ gaPeer 0x8000000500000000 = 0 ∧
     s.mayPerform 0 0 (access .stx 0x8000100500000000) = true ∧ gaPeer 0x8000100500000000 ≠ 0 ∧ (s.port 0).failed = false) ∧
    (let s := ty (fun y => { y with remote := [{ access (.ldx 2) 0 with done := true }] })
     (s.ctx 0 0).remote.find? (fun r => r.feeds 2) = some { access (.ldx 2) 0 with done := true } ∧ (s.ctx 0 0).room (s.tile 0).cutting 2 = true) ∧
    (let s := ty (fun y => { y with hq := [.joinDec 0x80 3 0x80] })
     (s.ctx 0 0).hq = [.joinDec 0x80 3 0x80] ∧ s.second 0 0 = false ∧ s.homeWaits 0 0x80 = false) := by decide +kernel
theorem witness_RemoteAndHandleEvents_head :
    (let s := (tt (fun x => { x with handles := [(1, { block with inst := 4 })], freeing := [{ block with inst := 7 }] })).modCtx 0 0 (fun y => { y with hq := [.hopen 4 0] })
     (s.ctx 0 0).hq = [.hopen 4 0] ∧ (s.headStep 0 0).isSome = true ∧ (s.tile 0).unaccepted = [] ∧ (s.tile 0).freeing[0]? = some { block with inst := 7 } ∧
     (s.tile 0).hqNames 7 = false) := by decide +kernel
/-- A tile to be cut that runs the placed task, with one free frame. -/
theorem witness_ReliabilityEvents_cut :
    (let s := { (tt (fun x => { x with tenant := some 0, cutting := true, c0 := { x.c0 with task := some placedTask } })) with kregs := { KRegs.init with fpcount := 1 } }
     (s.tile 0).cutting = true ∧ (s.restoring 0).isNone = true ∧ s.cutBusy 0 = false ∧ s.remotesDone (s.ctx 0 0) = true ∧ s.remotesDone (s.ctx 0 1) = true ∧ (s.ctx 0 0).draws = 0 ∧
     (s.tile 0).tasks ≠ [] ∧ s.freeFrame = some 0 ∧ mget 0 s.conts 0 + (s.tile 0).c0.deque.length + (s.tile 0).c1.deque.length ≤ 4096) ∧
    (let s := { tt (fun x => { x with cutting := true }) with frames := [{ fid := 0, tileNo := 0, gid := 0, node := 0, tile := Tile.init 0 }] }
     (s.restoring 0).isSome = true) ∧
    (let s := tt (fun x => { x with cutting := true, killing := true })
     s.restoring 0 = none ∧ s.cutBusy 0 = false ∧ (s.tile 0).killing = true) := by decide +kernel
/-- A frame that can be written, and one on a link that failed. -/
theorem witness_ReliabilityEvents_frames :
    (let s : State := { State.reset with kregs := { KRegs.init with memmap := 1, fpcount := 1 } }
     s.frameBad (s.frameAt 0) true = false ∧ s.frameBad (s.frameAt 0) false = false ∧
     (s.modLink 0 (fun l => { l with failed := true })).frameBad (s.frameAt 0) true = true) := by decide +kernel
/-- Twins that agree, that differ, and of which one is late. -/
theorem witness_ReliabilityEvents_twins :
    (let k := { placedTask with redundant := true, twin := some (1, 0) }
     let s := fun (h : Hold) => (tt (fun x => { x with c0 := { x.c0 with task := some k, x := { x.c0.x with hold := .twin 7 [1] } } })).modTile 1
       (fun x => { x with c0 := { x.c0 with x := { x.c0.x with hold := h } } })
     (s (.twin 7 [1])).twinOf 0 0 = some (1, 0) ∧ (s (.twin 7 [1])).shown 0 0 = some (7, [1]) ∧ (s (.twin 7 [1])).shown 1 0 = some (7, [1]) ∧
     ((s (.twin 7 [1])).ctx 0 0).x.pc = ((s (.twin 7 [1])).ctx 1 0).x.pc ∧ (s (.twin 7 [2])).shown 1 0 = some (7, [2]) ∧ (s .none).shown 1 0 = none) := by decide +kernel
theorem witness_ReliabilityEvents_tests : (State.reset.tile 0).replays < 63 ∧ State.reset.kregs.testivl ≠ 0 ∧ (∀ n, n < 18 → (State.reset.cluster (18 * 7 + n)).testing = false) ∧
    (State.reset.modCluster 143 (fun k => { k with testing := true })).testRuns 143 = true ∧ (142 + 1) % 18 ≠ 0 := by decide +kernel

/-- A fabric message for tile 5. -/
def message (arg : W64) (data : List Byte) : FabMsg := { tenant := 1, dst := 0x8000000500000000, src := 0, tag := 6, arg := arg, data := data, cand := none }
/-- The same for no tile: a device address. -/
def astray : FabMsg := { message 8 [] with dst := 0x100 }
/-- Tile 5 bound to valid tenant 1, and port 3 trained. -/
def home5 : State := (({ State.reset with tenants := [(1, { Tenant.init with valid := true })] }).modTile 5 (fun t => { t with tenant := some 1 })).modPort 3
  (fun x => { x with up := true })
/-- The flits of a message complete it at port 3 of a state that expects HSEQ 0. -/
def brought (s : State) (k : BitVec 4) (m : FabMsg) : Bool :=
  (s.port 3).live && (m.flits k 0).all (fabFits k) && decide (((s.port 3).takes (m.flits k 0)).2 = some m)
theorem brings_of_brought {s : State} {k : BitVec 4} {m : FabMsg} (h : brought s k m = true) : Brings s 3 k (m.flits k 0) m (s.taken 3 (m.flits k 0)) := by
  simp only [brought, Bool.and_eq_true, decide_eq_true_eq] at h
  exact ⟨⟨h.1.1, h.1.2, h.2⟩, rfl⟩
set_option maxRecDepth 100000 in
/-- R34's fields of a flit of KIND 0x5 from tenant 1 with HSEQ 7 and two flits behind it, and R35's VC 0. -/
theorem test_fabric_flit : (let f := fabFlit 0x5 1 7 2 [0xAB]
    f.toNat % 2 ^ 40 = 0xAB50401C02 ∧ flitGood f = true ∧ flitGood (f ^^^ 1) = false) := by decide +kernel
set_option maxRecDepth 100000 in
/-- A message of three flits, of which a bad CRC discards the second. -/
theorem test_message_cut_short : (let l := (message 0 (List.replicate 57 1)).flits 0x3 0
    l.length = 3 ∧ ((home5.port 3).takes (l.take 1 ++ [nth 0 l 1 ^^^ 1])).2 = none ∧ ((home5.port 3).takes (l.take 1)).1.expected = 1) := by decide +kernel
set_option maxRecDepth 100000 in
theorem witness_FabricRequestEvents :
    ([0x0#4, 0x1#4, 0x4#4, 0x5#4, 0xC#4].all (fun k => brought home5 k (message 8 []) && brought home5 k astray)) = true ∧
    gaTile (message 8 []).dst = true ∧ gaTile astray.dst = false ∧
    (let q := home5.taken 3 ((message 8 []).flits 0x0#4 0)
     q.waits (message 8 []) = false ∧ (q.atHome 1 .stx 0x8000000500000000 0 8 0 0 (BitVec.allOnes 128)).fail = none ∧
     (q.atHome 2 .stx 0x8000000500000000 0 8 0 0 (BitVec.allOnes 128)).fail = some 0x26 ∧
     (q.atHome 1 (.ldx 0) 0x8000000500000000 0 8 0 0 (BitVec.allOnes 128)).fail = none ∧
     (q.atHome 1 .arrival 0x8000000500000000 0 8 0 0 (BitVec.allOnes 128)).fail = some 0x2C ∧
     (q.atHome 1 (.atm .add 0) 0x8000000500000000 0 8 1 0 (BitVec.allOnes 128)).fail = none) ∧
    (home5.unit (.tile 5)).health ≠ .failed ∧ (message 8 []).tenant ∉ (home5.tile 5).lostFor ∧
    home5.bound 5 1 = true ∧ home5.bound 5 2 = false ∧ (home5.tile 5).requests.length < 256 := by decide +kernel
set_option maxRecDepth 100000 in
/-- A tile away in a frame, which a message waits for; flits that complete nothing. -/
theorem witness_FabricRequestEvents_away :
    (let s : State := { home5 with frames := [{ fid := 0, tileNo := 5, gid := 0, node := 0, tile := { Tile.init 5 with tenant := some 1 } }] }
     brought s 0x0 (message 8 []) = true ∧ (s.taken 3 ((message 8 []).flits 0x0 0)).waits (message 8 []) = true) ∧
    (home5.port 3).live = true ∧ [1#512].all (fabFits 0x0) = true ∧ ((home5.port 3).takes [1#512]).2 = none := by decide +kernel
set_option maxRecDepth 100000 in
/-- Bytes of a copy for tile 5 and for one of another tenant; payload for a receive that has met its send; a reference that misses, and one to a block
that a store in device memory holds. -/
theorem witness_FabricRequestEvents_data :
    (let m := message 0 [1, 2]
     let q := home5.taken 3 (m.flits 0x3 0)
     brought home5 0x3 m = true ∧ q.waits m = false ∧ q.homeFails 1 .stx m.dst 0 2 true = none ∧ q.homeFails 2 .stx m.dst 0 2 true = some 0x26) ∧
    (let m := message (BitVec.ofNat 64 (9 * 2 ^ 20)) [1, 2]
     let r : Recv := { id := 9, ctx := 0, block := 0, va := 0, inst := 4, stream := none, tenant := 1, met := some (m.request 3), got := 0, fed := 0, buf := [] }
     let s := home5.modTile 5 (fun t => { t with posted := [r] })
     brought s 0x5 m = true ∧ (s.tile 5).posted.find? (fun r => decide (r.id = m.arg.toNat / 2 ^ 20 % 2 ^ 44)) = some r ∧ r.met ≠ none ∧ s.bound 5 1 = true) ∧
    (let m := message 0 (List.replicate 16 0 ++ [3])
     let s := { home5 with kregs := { home5.kregs with ddbase := 0x1000, memmap := 1 } }.modPort 3 (fun x => { x with store := [(1, 0, 0)] })
     brought home5 0x7 m = true ∧ m.refKind = 0x3#4 ∧ home5.blockOf 3 1 (BitVec.ofNat 128 (ofBytes (m.data.take 16))) = none ∧ s.kregs.ddbase ≠ 0 ∧
     (s.blockOf 3 1 0).isSome = true) := by decide +kernel
/-- An answer for the load of context 0 of tile 0. -/
def reply (arg : W64) (data : List Byte) : FabMsg := { message arg data with dst := 0 }
set_option maxRecDepth 100000 in
theorem witness_FabricAnswerEvents :
    (let s := (ty (fun y => { y with remote := [{ access (.ldx 2) 0x8000100500000000 with sent := true }] })).modPort 3 (fun x => { x with up := true })
     brought s 0x2 (reply 0 [1]) = true ∧ brought s 0xD (reply 0x100 [1]) = true ∧ brought s 0xD (reply 0x28 []) = true ∧ (reply 0 [1]).to = (0, 0, 0) ∧
     (s.ctx 0 0).remote.find? (fun r => decide (r.id = 6) && r.sent && !r.done) = some { access (.ldx 2) 0x8000100500000000 with sent := true } ∧
     s.contRoom 0 0 0 = true ∧ (0x100#64).getLsbD 8 = true ∧ (0x28#64).getLsbD 8 = false) ∧
    (let s := { State.reset with ports := [(0, { Port.init with refs := 2 ^ 24, link := { LinkEnd.init with naks := 16 } })] }
     16 ≤ (s.port 0).link.naks ∧ (s.port 0).failed = false ∧ 2 ^ 24 ≤ (s.port 0).refs ∧ s.tiles = []) ∧
    (let f := sealFlit (14 * 2 ^ 28)
     flitGood f = true ∧ 14 ≤ f.toNat / 2 ^ 28 % 16 ∧ fabHseq f = (home5.port 3).expected) := by decide +kernel
/-- A copy command in its slot with these registers. -/
def copyCmd (regs : SMap W64) (st : Nat) : CopyCmd :=
  { regs := regs, ctx := 0, tenant := 0, gid := 0, node := 0, scope := 4, tscope := 0, st := st, prog := CProg.init, mark := CProg.init, hist := [], out := 0, sent := 0, buf := [],
    held := [], rows := 0, srows := 0, fail := none, wrote := false, asked := false, got := [], srcInst := 0, dstInst := 0, seq := 8, acc := 0, word := [], olds := [], pick := 0 }
set_option maxRecDepth 100000 in
/-- A copy's bytes that come back; a credit; a NAK of a reference; a notice of tenant 1. -/
theorem witness_FabricAnswerEvents_messages :
    (let s := ((tt (fun x => { x with copies := [(3, { copyCmd [] 1 with seq := 6 })] })).modPort 3 (fun x => { x with up := true }))
     brought s 0x2 (reply 0 [1]) = true ∧ (s.ctx 0 0).remote = [] ∧ ((s.tile 0).copyOf 6).isSome = true) ∧
    (let r : SendRun := { id := 6, ctx := 0, block := BitVec.ofNat 256 (64 * 2 ^ 128), inst := 4, tenant := 0, scope := 4, written := false }
     let s := (tt (fun x => { x with sends := [r] })).modPort 3 (fun x => { x with up := true })
     brought s 0x6 (reply 0x28 []) = true ∧ (s.tile 0).sends.find? (fun r => decide (r.id = 6)) = some r ∧
     (((s.tile 0).inst 4).front + fOff r.block) % 4096 + fLen r.block ≤ 4096 ∧ 0 < fLen r.block ∧ fDedup r.block = false) ∧
    (let m := { message 0 [] with dst := 7, src := 9 }
     let s := home5.modPort 3 (fun x => { x with blocks := [(0x3, { message 0 [] with src := 7, dst := 9 })] })
     brought s 0x8 m = true ∧ (s.port 3).block m.dst m.src m.tag m.arg = some (0x3, { message 0 [] with src := 7, dst := 9 })) ∧
    (let m : FabMsg := { tenant := 0, dst := 0, src := 0, tag := 0, arg := 0, data := List.replicate 24 0 ++ [2] ++ List.replicate 31 0, cand := none }
     brought home5 0x9 m = true ∧ msgField m.data 24 8 = 2 ∧ (2 : Nat).testBit 1 = true ∧ (home5.tenant 1).valid = true ∧
     (∀ j, j < 64 → j ≠ 1 → (2 : Nat).testBit j = true → (home5.tenant j).valid = false)) := by decide +kernel
set_option maxRecDepth 100000 in
/-- Hop answers, good and damaged. -/
theorem witness_FabricAnswerEvents_hops : (home5.port 3).live = true ∧ flitGood (fabFlit 0xA 0 5 0 []) = true ∧ fabKind (fabFlit 0xA 0 5 0 []) = 0xA ∧
    fabHseq (fabFlit 0xA 0 5 0 []) = 5 ∧ flitGood (fabFlit 0xB 0 1023 0 []) = true ∧ fabKind (fabFlit 0xB 0 1023 0 []) = 0xB ∧
    fabHseq (fabFlit 0xB 0 1023 0 []) = 1023 ∧ flitGood 1#512 = false := by decide +kernel
/-- A send of 64 bytes from a full block to port 0's tile 5, one to tile 1 of the package, and a receive of its 64 bytes. -/
theorem witness_FabricAnswerEvents_sends :
    (let b := fun (a : Nat) => BitVec.ofNat 256 (a + 64 * 2 ^ 128)
     let s := fun (a : Nat) => (tt (fun x => { x with tenant := some 0, handles := [(1, { block with inst := 4, state := 2 })] })).modCtx 0 0 (fun y => { y with fq := [.fsend (b a) 4 4 8] })
     let r := (({ s 0x8000000100000000 with tenants := [(0, { Tenant.init with valid := true })] }).modTile 1 (fun x => { x with tenant := some 0 }))
     ((s 0x8000100500000000).tile 0).sends = [] ∧ ((s 0x8000100500000000).ctx 0 0).fq = [.fsend (b 0x8000100500000000) 4 4 8] ∧
     ((s 0x8000100500000000).tile 0).cutting = false ∧ (((s 0x8000100500000000).tile 0).inst 4).canRead 1 = true ∧ ((s 0).tile 0).awaits 8 = false ∧
     ((s 0).tile 0).outcome 8 = none ∧ gaPeer (fAddr (b 0x8000100500000000)) = 1 ∧ ((s 0).port 0).failed = false ∧ fLen (b 0) = 64 ∧
     fOff (b 0) + fLen (b 0) ≤ (((s 0).tile 0).inst 4).size ∧ gaPeer (fAddr (b 0x8000000100000000)) = 0 ∧ gaTileNo (fAddr (b 0x8000000100000000)) = 1 ∧
     r.savedFor 1 0 = false ∧ (r.unit (.tile 1)).health ≠ .failed ∧ r.bound 1 0 = true ∧ (r.tile 1).requests.length < 256) ∧
    (let b : BitVec 256 := BitVec.ofNat 256 (64 * 2 ^ 128)
     let s := (tt (fun x => { x with handles := [(1, { block with inst := 4 })] })).modCtx 0 0 (fun y => { y with fq := [.frecvHandle b 0 4 8] })
     (s.tile 0).requests = [] ∧ (s.tile 0).posted = [] ∧ (s.ctx 0 0).fq = [.frecvHandle b 0 4 8] ∧
     (match recvOf 0 0 (.frecvHandle b 0 4 8) with
      | some r => !recvTooLong r ((s.tile 0).inst r.inst) && (s.tile 0).recvAdmits r && decide (r.id = 8)
      | none => false) = true ∧ (s.tile 0).awaits 8 = false ∧ (s.tile 0).outcome 8 = none) := by decide +kernel
theorem witness_ArrayEvents_start :
    (let s := tt (fun x => { x with mq := [{ op := .mcfg 0x0FC0, ctx := 0, seq := 0 }] })
     (s.tile 0).mq = [{ op := .mcfg 0x0FC0, ctx := 0, seq := 0 }] ∧ (s.tile 0).mayStart { op := .mcfg 0x0FC0, ctx := 0, seq := 0 } = true ∧ (s.tile 0).cutting = false ∧
     mxMode 0x0FC0 ≠ 1 ∧ (0x0FC0#16).getLsbD 3 = false ∧ (0x0FC0#16).getLsbD 4 = false ∧ (0x0FC0#16).getLsbD 12 = false ∧ nibBad 0 = false ∧ (0 : Nat) + 64 ≤ 64) := by
  decide +kernel
/-- A load that has its handles, at its first beat and at its last. -/
theorem witness_ArrayEvents_load :
    (let k : NibRun := { cmd := { op := .mldw, ctx := 0, seq := 0 }, k := 63, wpos := 0, mb := 0, smooth := none, table := none, taken := true, out := [] }
     let x := (tt (fun x => { x with nib := some k })).tile 0
     x.nib = some k ∧ k.cmd.op = .mldw ∧ k.taken = true ∧ k.table = none ∧ k.smooth = none ∧ x.beatCause k = none ∧ x.beatCause { k with k := 0 } = none) := by decide +kernel
/-- A load that takes its factors, and one whose beat is ready. -/
theorem witness_ArrayEvents_beats :
    (let k : NibRun := { cmd := { op := .mldw, ctx := 0, seq := 0 }, k := 63, wpos := 0, mb := 0, smooth := none, table := none, taken := true, out := [] }
     let v := { k with taken := false, smooth := some 4 }
     let x := (tt (fun x => { x with nib := some k })).tile 0
     let y := (tt (fun x => { x with nib := some v, handles := [(1, { block with inst := 4, state := 2 })] })).tile 0
     x.beatReady k = true ∧ x.mldwCause = none ∧ y.nib = some v ∧ y.handleAhead v.cmd = false ∧ (y.inst 4).canRead 1 = true ∧
     (tg []).capIdle (dieOf 0) = (false, tg [])) := by decide +kernel
/-- A run with a row to read, and a drain of a row. -/
theorem witness_ArrayEvents_rows :
    (let b : BeatRun := { cmd := { op := .run false false 0 0 4 1, ctx := 0, seq := 0 }, r := 0, taken := true }
     let x := (tt (fun x => { x with beat := some b, handles := [(1, { block with inst := 4, size := 0x10000, state := 2 })] })).tile 0
     x.beat = some b ∧ x.nibHeld = false ∧ b.r + 1 < mxRun x.mxcfg ∧ x.rowPresent 0 4 = true) ∧
    (let b : BeatRun := { cmd := { op := .mdrain 0 0 2, ctx := 0, seq := 0 }, r := 0, taken := false }
     let x := (tt (fun x => { x with beat := some b })).tile 0
     x.beat = some b ∧ b.r + 1 < 2 ∧ x.nibHeld = false ∧ (x.ctx 0).room x.cutting 6 = true ∧ (x.ctx 0).ending = false) := by decide +kernel
/-- A definition of four zeros with W 2, and a table of two zeros to be built from a block into a ring. -/
theorem witness_ArrayEvents_handles :
    (let x := (tt (fun x => { x with handles := [(1, { block with inst := 4, state := 2, size := 0x1000 }), (2, { ring with inst := 5, base := 0x2000, wq := [0] })], pad := [(0, 2)] })).tile 0
     isBlock (x.alloc 4) 0 = true ∧ isRing (x.alloc 5) 0 = true ∧ (x.inst 4).canRead 1 = true ∧ (x.inst 5).canWrite 0 1 = true ∧ x.handleAhead { op := .mldw, ctx := 0, seq := 0 } = false ∧
     x.brush = [] ∧ (readTrDef x (x.inst 4)).isSome = true ∧ ((cbldEntries x 0 (x.inst 4)).bind (fun l => l.mapM (cbldEntry 0))).isSome = true ∧ 2 * entrySize 0 ≤ (x.inst 5).size) := by
  decide +kernel
/-- An SQGO at the head of its queue; an admitted copy; ACCPY behind them. -/
theorem witness_CopyAndKeyValueEvents_copies :
    (let s := ty (fun y => { y with cq := [.sqgo 3 4 8 0 0 0 0] })
     ((s.flushCq 0 0).ctx 0 0).cq = [.sqgo 3 4 8 0 0 0 0] ∧ (∀ e, e ∈ (s.tile 0).copies → e.1 ≠ 3) ∧
     (s.flushCq 0 0).copyCause 0 0 4 ((s.flushCq 0 0).ctx 0 0).staging 0 0 = none) ∧
    (let s := ty (fun y => { y with cq := [.accpy 1 0 4 8 0 0 none] })
     ((s.flushCq 0 0).ctx 0 0).cq = [.accpy 1 0 4 8 0 0 none] ∧ (s.tile 0).cutting = false) := by decide +kernel
theorem witness_CopyAndKeyValueEvents_keys :
    (let s := (tt (fun x => { x with tenant := some 0, tcache := [{ tag := 0x40, tenant := 0, retiring := false, desc := 0, extents := [], holders := [], stamp := 0, waiter := none }] })).modCtx 0 0
        (fun y => { y with kq := [.xld 0x40 8 2] })
     s.kvHead 0 0 false = some (.xld 0x40 8 2) ∧ (∃ e, e ∈ (s.tile 0).tcache ∧ e.valid 0 0x40 = true) ∧ (∀ e, e ∈ (s.tile 0).tcache → e.valid 0 0x80 = false) ∧
     (roomForEntry (s.tile 0).tcache).isSome = true) ∧
    (let s := (tt (fun x => { x with tenant := some 0, tcache := [{ tag := 0x40, tenant := 0, retiring := false, desc := 0, extents := [], holders := [], stamp := 0, waiter := none }] })).modCtx 0 0
        (fun y => { y with kq := [.xinv 0x40 8 3 2 none] })
     s.kvHead 0 0 false = some (.xinv 0x40 8 3 2 none) ∧ tileScope 0 0 ≤ 3 ∧ (∀ f, f ∈ s.frames → ∀ x, x ∈ f.tile.tcache → x.waiter ≠ some 1)) ∧
    (let s := ty (fun y => { y with kq := [.kvg 0x80 4 8 0 0] })
     s.kvHead 0 0 true = some (.kvg 0x80 4 8 0 0) ∧ ((s.tile 0).inst 4).kind = 0#2 ∧ (s.tile 0).tcache = []) := by decide +kernel
/-- A splice whose record handle is full and too small, and one as large as a record. -/
theorem witness_CopyAndKeyValueEvents_splice :
    (let s := fun (n : Nat) => (tt (fun x => { x with handles := [(1, { block with inst := 4, state := 2, size := n })] })).modCtx 0 0 (fun y => { y with kq := [.splc 4 8 2] })
     (s 48).kvHead 0 0 false = some (.splc 4 8 2) ∧ (s 48).walkFree 0 = true ∧ ((s 48).tile 0).awaits 2 = false ∧ ((s 48).tile 0).outcome 2 = none ∧ (((s 48).tile 0).inst 4).canRead 1 = true ∧ (((s 48).tile 0).inst 4).size < 64 ∧ 64 ≤ (((s 64).tile 0).inst 4).size) := by decide +kernel
theorem witness_CopyAndKeyValueEvents_runs :
    (let s := (tt (fun x => { x with copies := [(3, copyCmd [] 0)] })).modCtx 0 0 (fun y => { y with cq := [.admitted 3] })
     let q := s.flushCq 0 0
     (q.ctx 0 0).cq = [.admitted 3] ∧ (q.tile 0).copy 3 = some (copyCmd [] 0) ∧ (q.tile 0).copyReady (copyCmd [] 0) = true ∧ (q.tile 0).awaits 8 = false ∧
     (q.tile 0).outcome 8 = none) ∧
    (let s := windowed.modTile 0 (fun x => { x with tenant := some 0, copies := [(3, copyCmd [] 1)] })
     (s.tile 0).copy 3 = some (copyCmd [] 1) ∧ s.copyGoes 0 (copyCmd [] 1) = true ∧ (copyCmd [] 3).st = 3 ∧
     (match (s.copyRun 0 (copyCmd [] 1) 1).halt with | none => true | _ => false) = true) := by decide +kernel
/-- A gather of one block, and one that is over. -/
def gather (done : Bool) : Gather :=
  { id := 8, ctx := 0, tenant := 0, block := BitVec.ofNat 256 (4 * 2 ^ 96), inst := 4, desc := 0, exts := [], next := 0, held := false, fail := none, done := done, gid := 0, node := 0 }
theorem witness_CopyAndKeyValueEvents_gathers :
    (let s := fun (b : Bool) => tt (fun x => { x with gathers := [gather b] })
     ((s false).tile 0).gathers.find? (fun g => decide (g.ctx = 0) && !g.done) = some (gather false) ∧ (gather false).held = false ∧
     ((s true).tile 0).gathers.find? (fun g => decide (g.ctx = 0) && g.done) = some (gather true) ∧ (gather true).fail ≠ some 0x59#7) := by decide +kernel
/-- A gather of a block whose Seal shows layer 0, of one that shows none, and of no block. -/
theorem witness_CopyAndKeyValueEvents_seals :
    (let e := BitVec.ofNat 128 (0x4000 + 2 ^ 64)
     let g := { gather false with exts := [e], block := 0 }
     let s := fun (l : SMap Byte) => { windowed with mem := windowed.mem ++ l }.modTile 0 (fun x => { x with tenant := some 0, gathers := [g] })
     eLen e = 1 ∧ (s []).walkFree 0 = true ∧ (match (s []).gatherSeals (.tile 0) g with | .ok b => b | .error _ => false) = true ∧
     (match (s [(0x400E, 0xF0), (0x400F, 0x03)]).gatherSeals (.tile 0) g with | .ok b => !b | .error _ => false) = true ∧
     (match (s []).gatherSeals (.tile 0) (gather false) with | .ok _ => false | .error _ => true) = true ∧
     ((s []).gatherRows 0 g g.run).2 = none ∧ g.run.length = 1 ∧ g.n ≤ g.next + max 1 g.run.length) := by decide +kernel
/-- A prefix command whose bucket is empty memory. -/
theorem witness_CopyAndKeyValueEvents_prefix :
    (let s := (windowed.modTile 0 (fun x => { x with tenant := some 0 })).modCtx 0 0 (fun y => { y with kq := [.pfx 0 (BitVec.ofNat 512 0x4000) 0x4100 8 2] })
     (s.ctx 0 0).kq = [.pfx 0 (BitVec.ofNat 512 0x4000) 0x4100 8 2] ∧ (s.kvHead 0 0 true).isSome = true ∧
     s.walkFree 0 = true ∧ (s.tile 0).awaits 2 = false ∧ (s.tile 0).outcome 2 = none ∧
     (match s.vaReadLong (.tile 0) 0 0x4000 256 with | .ok l => (bucketStep 0 0 (numbers 32 8 l)).isSome | _ => false) = true) := by decide +kernel
/-- A Brush job. -/
def job (started : Bool) : BJob :=
  { twupd := false, inst := 4, bw := 8, ctx := 0, tenant := 0, gid := 0, node := 0, seq := 2, started := started, record := 0, defn := { record := 2, table := [0, 0, 0, 0] }, bdone := 0, words := [],
    cost := 0, sat := false, fail := none }
theorem witness_ClusterAndDieEvents_brush :
    (let s := tt (fun x => { x with tenant := some 0, brush := [job true] })
     (s.cluster 0).brushCur = none ∧
     ((List.range 16).map (fun i => 16 * 0 + ((s.cluster 0).brushRR + i) % 16)).find? (fun t => (s.tile t).brushReady) = some 0 ∧ (s.tile 0).brush = [job true] ∧
     (job true).fail = none ∧ (s.tile 0).outcome (job true).seq = none ∧ s.walkFree 0 = true) ∧
    (let s := (tt (fun x => { x with tenant := some 0 })).modCluster 0 (fun k => { k with brushCur := some (0, job true) })
     (s.cluster 0).brushCur = some (0, job true) ∧ (job true).fail ≠ some 0x63#7 ∧ (s.tile 0).tenant = some (job true).tenant ∧
     (job true).nw / tN (job true).defn.record ≤ (job true).bdone) := by decide +kernel
/-- A Winnow job. -/
def wjob : WJob :=
  { id := 8, inst := 4, bw := 8, ctx := 0, tenant := 0, gid := 0, node := 0, started := true, record := 0, srcInst := 0, mskInst := 6, pass := 0, pref := 0, rem := 0, plane := 0,
    total := 0, nancnt := 0, fchunk := 0, parked := false, fail := none }
theorem witness_ClusterAndDieEvents_winnow :
    (let s := tt (fun x => { x with tenant := some 0, winq := [wjob] })
     (s.die 0).winCur = none ∧ (s.tile 0).winHead = some wjob ∧ wjob.started = true ∧
     ((List.range 288).map (fun i => 288 * 0 + ((s.die 0).winRR + i) % 288)).find? (fun t => (s.tile t).winReady) = some 0) ∧
    (let s := (windowed.modTile 0 (fun x => { x with tenant := some 0, handles := [(1, { block with inst := 6 })] })).modDie 0 (fun d => { d with winCur := some (0, wjob) })
     (s.die 0).winCur = some (0, wjob) ∧ s.walkFree 0 = true ∧ s.winLost 0 wjob = false ∧ s.winPage 0 wjob = none ∧
     (match (List.range wjob.nelem).mapM (s.winElem 0 wjob) with | .ok _ => true | _ => false) = true) := by decide +kernel
/-- A repair whose record is full and too small, with a place free on the die. -/
theorem witness_ClusterAndDieEvents_retouch :
    (let s := (tt (fun x => { x with handles := [(1, { block with inst := 4, state := 2, size := 48 })] })).modCtx 0 0 (fun y => { y with kq := [.rpr 4 8 2 0 0 64] })
     s.kvHead 0 0 false = some (.rpr 4 8 2 0 0 64) ∧ (s.freeJobPlace (dieOf 0)).isSome = true ∧ s.walkFree 0 = true ∧ (s.tile 0).awaits 2 = false ∧ (s.tile 0).outcome 2 = none ∧ ((s.tile 0).inst 4).canRead 1 = true ∧ ((s.tile 0).inst 4).size < 64) := by decide +kernel
/-- A job that awaits a report of layer 0's first record, and the report; a job in each state. -/
def rjob (st : RState) : RJob :=
  { tile := 0, tenant := 0, gid := 0, node := 0, record := 0, entry := 0, lc := 0, thr := 0, st := st, tag := 0, desc := 0, exts := [], came := 0, made := [(0, 0, 0)], counted := [], pend := [],
    marks := [], reports := 0 }
theorem witness_ClusterAndDieEvents_reports :
    (let s := ({ ty (fun y => { y with remote := [{ access .report 0 with size := 0 }] }) with graphs := [graph1 .running false] }).modDie 0 (fun d => { d with retouch := [(0, rjob (.check 0))] })
     s.job 0 0 = some (rjob (.check 0)) ∧ (s.ctx 0 0).remote.find? (fun r => decide (r.kind = .report) && !r.done && r.twinOf.isNone) = some { access .report 0 with size := 0 } ∧
     (0, 0, 0) ∈ (rjob (.check 0)).made ∧ (0, 0, 0) ∉ (rjob (.check 0)).counted) ∧
    (State.reset.modDie 0 (fun d => { d with retouch := [(0, rjob .done)] })).job 0 0 = some (rjob .done) := by decide +kernel
/-- Canonical memories: none, and one of two bytes; a step from reset answers a next state. -/
theorem witness_MemoryStaysCanonical : Memory.wf State.reset.mem = true ∧ Memory.wf [(3, 1), (2 ^ 40, 7)] = true ∧ ∃ t, step State.reset = .next t :=
  ⟨by decide +kernel, by decide +kernel, ⟨_, rfl⟩⟩
/-- START runs as a step, with nothing issued before it. -/
theorem witness_FusesOnlyRise : ∃ t, step { State.reset with agenda := [.devcmdStart] } = .next t ∧ State.reset.dstate = .bringup ∧ State.reset.boot.readied = false := ⟨_, rfl, rfl, rfl⟩
theorem witness_DeviceStateTransitions : ∃ t, step { State.reset with agenda := [.reset] } = .next t ∧ ({ State.reset with agenda := [.reset] } : State).toIssue = [] := ⟨_, rfl, rfl⟩
/-- A Winnow job whose result lies beyond the pages: it is parked. -/
theorem witness_ClusterAndDieEvents_park :
    (let j := { wjob with record := BitVec.ofNat 512 (0x8000000000 * 2 ^ 320) }
     let s := (windowed.modTile 0 (fun x => { x with tenant := some 0, handles := [(1, { block with inst := 6 })] })).modDie 0 (fun d => { d with winCur := some (0, j) })
     (s.die 0).winCur = some (0, j) ∧ s.walkFree 0 = true ∧ s.winLost 0 j = false ∧ (s.winPage 0 j).isSome = true ∧ j.fail = none) := by decide +kernel
/-- A unit whose next unit of code cannot be fetched. -/
theorem witness_DecodeFaultCommitsNothing_fetch :
    (let s := { coded [] (fun x => { x with walkFault := some (0, 0x20) }) with toIssue := [.ctx 0 0] }
     s.toIssue = [.ctx 0 0] ∧
     (let r := { s with toIssue := [] }
      match r.chainAt (.ctx 0 0) (r.thread (.ctx 0 0)).pc with | .fault _ _ => true | _ => false) = true) := by decide +kernel
/-- A result for each kind of register, due, behind one that another overwrites, and one not yet due; one result for a special register alone. -/
theorem witness_LandingWritesRegisters :
    (let p := fun (d : Dest) (due : Nat) => ({ dest := d, value := 5, mask := 255, due := due, flags := 1 } : Pend)
     let l := [p (.g 3) 1, p (.g 3) 2, p (.a 1) 2, p (.am 1) 2, p (.v 2) 2, p (.p 1) 2, p (.lc 0) 2, p (.lc 1) 2, p (.sr 0) 2]
     let s := tx (fun x => { x with pend := l ++ [p (.g 4) 3] })
     let r := tx (fun x => { x with pend := [p (.sr 8) 2] })
     (s.thread (.ctx 0 0)).pend.filter (fun p => decide (p.due ≤ 2)) = l ∧ (∀ e ∈ l.drop 2, e.dest ≠ .g 3) ∧ (p (.v 2) 2).mask.getLsbD 7 = true ∧
     (∀ e ∈ l.drop 7, e.dest ≠ .lc 0 ∧ e.dest ≠ .sr 5) ∧ (∀ e ∈ l.drop 8, (∀ n, n ≠ 0 → e.dest ≠ .lc n) ∧ e.dest ≠ .sr 6) ∧ (∀ e ∈ l, e.dest ≠ .g 5) ∧
     (r.thread (.ctx 0 0)).pend.filter (fun p => decide (p.due ≤ 2)) = [p (.sr 8) 2]) := by
  refine ⟨by decide +kernel, by decide +kernel, by decide +kernel, by decide +kernel, ?_, by decide +kernel, by decide +kernel⟩
  intro e h; simp only [List.drop, List.mem_singleton] at h; subst h; simp
/-- NANSTAT written in this cycle and not; a context with a task. -/
theorem witness_LandingWritesRegisters_special : ((tt (fun x => { x with nanAt := 1 })).tile 0).nanAt ≠ (tg []).cycle ∧ ((tg []).tile 0).nanAt = (tg []).cycle ∧
    (stopped.ctx 0 0).task = some placedTask := by decide +kernel
/-- A delay slot inside an inner loop, inside the only loop, and in a bundle whose LOOP has opened the inner level. -/
theorem witness_DelaySlotsThenTarget_loops :
    (let b : Branch := { target := 9, taken := true, left := 2 }
     let o : LoopLevel := { start := 1, stop := 8 }
     let x := me (tx (fun x => { x with branch := some b, loop0 := some o, loop1 := some { start := 2, stop := 4 } }))
     let y := me (tx (fun x => { x with branch := some b, loop0 := some o }))
     x.branch = some b ∧ Cur.init.jump = none ∧ Cur.init.opened ≠ some 1 ∧ (4 : Nat) ≠ Cur.init.pc ∧ x.loop1.isSome = true ∧ y.loop1 = none ∧ o.stop ≠ Cur.init.pc) := by
  decide +kernel
/-- Both levels ending at one chain, each with a count of 1; the outer alone ending there behind an inner one that has just opened. -/
theorem witness_LoopResults_levels :
    (let o : LoopLevel := { start := 1, stop := 4 }
     let x := fun (l : LoopLevel) (n : BitVec 32) => me (tx (fun x => { x with loop0 := some o, loop1 := some l, lc0 := 1, lc1 := n }))
     let c := { Cur.init with pc := 4 }
     (x { start := 2, stop := 4 } 1).branch = none ∧ (x { start := 2, stop := 4 } 1).loop0 = some o ∧ (x { start := 2, stop := 4 } 1).loop1 = some { start := 2, stop := 4 } ∧
     c.opened = none ∧ c.jump = none ∧ o.stop = c.pc ∧ (x o 1).lc1.toNat ≤ 1 ∧ 1 < (x o 2).lc1.toNat ∧ (x o 1).lc0.toNat ≤ 1 ∧
     ({ c with opened := some 1 } : Cur).opened = some 1) := by decide +kernel
/-- A core with delay slots to come. -/
theorem witness_TrapReturnRestores_slots :
    (let s := tk.modCore 0 (fun y => { y with x := { y.x with branch := some { target := 9, taken := false, left := 3 } } })
     (s.core 0).x.branch = some { target := 9, taken := false, left := 3 } ∧ ((tk.modCore 0 (fun y => { y with dslot := 2 })).core 0).dslot ≠ 0#2) := by decide +kernel
/-- Registers bound to handle 0, one with a circular buffer of 64 bytes; a command queued on the handle. -/
theorem witness_Addressing_handle :
    (let s := (tt (fun x => { x with handles := [(0, { block with inst := 4 })] })).modThread (.ctx 0 0) (fun x => { x with am := [(1, 0x80), (2, 0x400000083)], a := [(3, 2)] })
     let r := s.modCtx 0 0 (fun y => { y with hq := [.hopen 4 0] })
     ((s.thread (.ctx 0 0)).ram 1).getLsbD 7 = true ∧ ((s.thread (.ctx 0 0)).ram 2).getLsbD 7 = true ∧ ((s.thread (.ctx 0 0)).ram 2).toNat % 4 = 3 ∧
     ((s.thread (.ctx 0 0)).ram 2).toNat / 2 ^ 28 % 2 ^ 20 ≠ 0 ∧ ((r.tile 0).ctx 0).hqNames ((r.tile 0).handle 0).inst = true ∧
     ((s.tile 0).ctx 0).hqNames ((s.tile 0).handle 0).inst = false ∧
     (match (boundLocal (s.tile 0) 0 0 false [64]).verdict with | .fault _ _ => true | _ => false) = true ∧
     (match (boundLocal (s.tile 0) 0 0 false [0]).verdict with | .held _ => true | _ => false) = true) := by decide +kernel
/-- A home that fails in device memory and one in a tile. -/
theorem witness_Atomics_lines :
    (let r := { State.reset with poison := [1], kregs := { KRegs.init with memmap := 1 } }
     let s := State.reset.modTile 5 (fun t => { t with pad := [(0, 1)] })
     r.homeFails 0 (.atm .add 2) 64 64 8 true = some 0x77 ∧ s.homeRead 0x8000000500000000 0 8 = 1 ∧ s.homeFails 0 (.ldx 0) 0x8000000500000040 64 64 true = some 0x26) := by
  decide +kernel
/-- A block in each state, with a fill begun beside its front, and with a read in flight. -/
theorem witness_HandleResults_states :
    ({ block with state := 2, b := true } : HEntry).writers = [] ∧ ({ block with state := 2, b := true } : HEntry).readers = [] ∧
    ({ block with state := 2, readers := [7] } : HEntry).readers ≠ [] ∧ ({ block with state := 3, readers := [7] } : HEntry).state = 3#2 ∧ block.kind = 1#2 := by decide +kernel
/-- Memory that the translation of tm reaches. -/
theorem witness_CoreLoadsAndStores_memory : (let s := { tm with kregs := { KRegs.init with memmap := 1 } }
    (s.vaccess s.cur.u 8 8 .write).verdict = .ok ∧ (s.vaccess s.cur.u 8 8 .write).pa + 8 ≤ s.capacity) := by decide +kernel
/-- Contexts that a tile's cut finds stopped, and running, and one with a disposition that waits. -/
theorem witness_ContextEvents_dispositions :
    (let s := stopped.modTile 0 (fun x => { x with cutting := true })
     (s.ctx 0 0).stop.stopped = true ∧ (s.ctx 0 0).disp = none ∧ (s.ctx 0 1).stop.stopped = false ∧ ((s.modCtx 0 0 (fun y => { y with disp := some 1 })).ctx 0 0).disp ≠ none) := by
  decide +kernel
/-- A page that a context may read, and one that it may not fetch from. -/
theorem witness_ContextEvents_access :
    (let w : Walk := { tenant := 0, va := 0x12340000, waiting := [(.ctx 0 1, .fetch)] }
     let s : State := { pagesAt0 with mem := [(0, 1), (1, 0x10), (0x1000, 1), (0x1001, 0x20), (0x2000, 0x0F)] }
     (match pagesAt0.walkEnd w with | .ok e => e.allows (pagesAt0.isKernel (.ctx 0 1)) .read | _ => false) = true ∧
     (match s.walkEnd w with | .ok e => !e.allows (s.isKernel (.ctx 0 1)) .fetch | _ => false) = true ∧
     ((tx (fun x => { x with hold := .fetch })).thread (.ctx 0 0)).wants 0x12340000 .fetch = true) := by decide +kernel
/-- A frame that is away, of a tile of good health, of one quarantined, and where it cannot be read. -/
theorem witness_ReliabilityEvents_restore :
    (let f : Frame := { fid := 0, tileNo := 0, gid := 0, node := 0, tile := { Tile.init 0 with c0 := { (Tile.init 0).c0 with task := some placedTask } } }
     let s := { (State.reset.modTile 0 (fun x => { x with cutting := true })) with frames := [f], kregs := { KRegs.init with memmap := 1, fpcount := 1 } }
     let q := s.modUnit (.tile 0) (fun u => { u with health := .quarantined })
     let r := { q with frames := [{ f with tile := { f.tile with c0 := { f.tile.c0 with task := some { placedTask with redundant := false } } } }] }
     s.restoring 0 = some f ∧ s.restoreFits f = true ∧ s.frameBad (s.frameAt 0) false = false ∧ r.frames.all (fun g => !r.restoreFits g) = true ∧
     (s.modLink 0 (fun l => { l with failed := true })).restoreFits f = true ∧ (s.modLink 0 (fun l => { l with failed := true })).frameBad (s.frameAt 0) false = true) := by
  decide +kernel
/-- A BARR ahead of an access to its word; an access behind one to its location; a stream load of a task that has ended; an access of a saved task. -/
theorem witness_RemoteAndHandleEvents_order :
    (let a := 0x8000000500000000
     let s := ty (fun y => { y with hq := [.barr a 3 2], remote := [{ access .stx a with id := 3 }, { access (.ldx 2) 0 with done := true, ended := true }] })
     let f : Frame := { fid := 0, tileNo := 0, gid := 0, node := 0, tile := { Tile.init 0 with c0 := { (Tile.init 0).c0 with remote := [access .stx a] } } }
     (HCmd.barr a 3 2 ∈ (s.ctx 0 0).hq) ∧ (2 : Nat) < (access .stx a).id ∧ Remote.sameLoc { access .stx a with addr := a, size := 8 } (access .stx a) = true ∧
     ({ access .stx a with id := 3 } : Remote).done = false ∧ Remote.sameLoc { access .stx a with id := 3 } (access .stx a) = true ∧
     (s.ctx 0 0).remote.find? (fun r => r.feeds 2) = some { access (.ldx 2) 0 with done := true, ended := true } ∧
     (({ State.reset with frames := [f] } : State).savedAccesses 0 0)[0]? = some (access .stx a) ∧ (({ State.reset with frames := [f] } : State).ctx 0 0).remote = []) := by
  decide +kernel
/-- A handle queue with a BINIT at its head, and an empty one. -/
theorem witness_RemoteAndHandleEvents_turn : (let s := ty (fun y => { y with hq := [.binit 8 1] })
    (s.hqStep 0 0).isSome = true ∧ ((tg []).hqStep 0 0).isNone = true ∧ (s.ctx 0 0).hq = [.binit 8 1]) := by decide +kernel
/-- A port that is full has failed. -/
theorem witness_RemoteAndHandleEvents_port : ((State.reset.modPort 0 (fun x => { x with failed := true })).port 0).failed = true := by decide +kernel
set_option maxRecDepth 100000 in
/-- Answers of the tenant that they are for, and of another; ports that have refused sixteen flits. -/
theorem witness_FabricAnswerEvents_tenants :
    (let r : SendRun := { id := 6, ctx := 0, block := BitVec.ofNat 256 (64 * 2 ^ 128), inst := 4, tenant := 1, scope := 4, written := false }
     let s := fun (tn : Nat) => (((ty (fun y => { y with remote := [{ access (.ldx 2) 0x8000100500000000 with sent := true, tenant := tn }] })).modPort 3 (fun x => { x with up := true })))
     let q := ((tt (fun x => { x with sends := [{ r with tenant := 0 }] })).modPort 3 (fun x => { x with up := true }))
     let m := { message 0 [] with dst := 7, src := 9 }
     let p := home5.modPort 3 (fun x => { x with blocks := [(0x3, { message 0 [] with tenant := 0, src := 7, dst := 9 })] })
     brought (s 1) 0x2 (reply 0 [1]) = true ∧ (s 1).answers (reply 0 [1]) = true ∧ (s 0).answers (reply 0 [1]) = false ∧ brought (s 0) 0xD (reply 0x28 []) = true ∧
     (∀ r, r ∈ ((s 0).ctx 0 0).remote → r.id = 6 → r.tenant ≠ 1) ∧ brought q 0x6 (reply 0x28 []) = true ∧ (∀ r, r ∈ (q.tile 0).sends → r.id = 6 → r.tenant ≠ 1) ∧
     brought p 0x8 m = true ∧ ((p.port 3).block m.dst m.src m.tag m.arg).isSome = true ∧
     16 ≤ ((State.reset.modPort 3 (fun x => { x with refuses := 16 })).port 3).refuses) := by decide +kernel
/-- No send of the other context goes first. -/
theorem witness_FabricAnswerEvents_before : (((tg []).tile 0).ctx 1).sendsBefore 0x8000100500000000 8 = false := by decide +kernel
/-- A load that waits for its handle, one held on its table, and a queue behind each; a swap that may start. -/
theorem witness_ArrayEvents_waits :
    (let m : MCmd := { op := .mswap, ctx := 0, seq := 0 }
     let k : NibRun := { cmd := { op := .mldw, ctx := 0, seq := 0 }, k := 0, wpos := 0, mb := 0, smooth := none, table := none, taken := false, out := [] }
     let x := fun (n : Option NibRun) => (tt (fun x => { x with mq := [m], nib := n, back := { x.back with valid := true } })).tile 0
     (x (some k)).pipeWaits = true ∧ (x (some { k with taken := true, table := some 4 })).nibHeld = true ∧ (x none).mayStart m = true ∧ (x none).ends m.seq none = none ∧
     (x none).back.valid = true ∧ (x none).lingers 0 = false ∧ k.k ≠ 63) := by decide +kernel
/-- A CBLD before it is accepted, with a table to build, with a source too short, with pieces to write, and with none left. -/
theorem witness_ArrayEvents_build :
    (let h := fun (n : Nat) => [(1, { block with inst := 4, state := 2, size := n }), (2, { ring with inst := 5, base := 0x2000, wq := [0] })]
     let k := fun (b : Bool) (n : Nat) (l : List Piece) =>
       ({ cmd := { op := .cbld 0 5 4, ctx := 0, seq := 0 }, k := n, wpos := 0, mb := 0, smooth := none, table := none, taken := b, out := l } : NibRun)
     let x := fun (n : Nat) (k : NibRun) => (tt (fun x => { x with handles := h n, nib := some k })).tile 0
     (x 64 (k false 0 [])).nib = some (k false 0 []) ∧ isBlock ((x 64 (k false 0 [])).alloc 4) 0 = true ∧ isRing ((x 64 (k false 0 [])).alloc 5) 0 = true ∧
     (x 64 (k false 0 [])).handleAhead (k false 0 []).cmd = false ∧ ((x 64 (k false 0 [])).inst 4).canRead 1 = true ∧ ((x 64 (k false 0 [])).inst 5).canWrite 0 1 = true ∧
     (match (cbldEntries (x 64 (k true 0 [])) 0 ((x 64 (k true 0 [])).inst 4)).bind (fun l => l.mapM (cbldEntry 0)) with
      | some l => decide (l.length * entrySize 0 ≤ ((x 64 (k true 0 [])).inst 5).size) | none => false) = true ∧
     (cbldEntries (x 0 (k true 0 [])) 0 ((x 0 (k true 0 [])).inst 4)).bind (fun l => l.mapM (cbldEntry 0)) = none ∧
     (k true 1 [(0x2000, [1])]).out = (0x2000, [1]) :: [] ∧ (k true 1 []).out = [] ∧ (x 64 (k true 1 [])).lingers 0 = false ∧ (x 64 (k true 1 [])).ends 0 none = none) := by
  decide +kernel
/-- A TRDEF before it is accepted, with a definition to load, and with a handle too small for one. -/
theorem witness_ArrayEvents_definition :
    (let k := fun (b : Bool) => ({ cmd := { op := .trdef 3 4, ctx := 0, seq := 0 }, k := 0, wpos := 0, mb := 0, smooth := none, table := none, taken := b, out := [] } : NibRun)
     let x := fun (n : Nat) (b : Bool) => (tt (fun x => { x with handles := [(1, { block with inst := 4, state := 2, size := n })], pad := [(0, 2)], nib := some (k b) })).tile 0
     (x 0x1000 false).nib = some (k false) ∧ isBlock ((x 0x1000 false).alloc 4) 0 = true ∧ ((x 0x1000 false).inst 4).canRead 1 = true ∧
     (∀ j, j ∈ (x 0x1000 false).brush → j.seq < 0 → j.started = true) ∧ (readTrDef (x 0x1000 true) ((x 0x1000 true).inst 4)).isSome = true ∧
     (readTrDef (x 4 true) ((x 4 true).inst 4)).isNone = true ∧ (x 4 true).lingers 0 = false) := by decide +kernel
/-- An ACCPY whose handle is free, too small, and large enough; one that moves its words, and one that has moved them. -/
theorem witness_CopyAndKeyValueEvents_accpy :
    (let s := fun (h : HEntry) (r : Option Nat) => (tt (fun x => { x with handles := [(1, h)] })).modCtx 0 0 (fun y => { y with cq := [.accpy 1 0 4 8 0 0 r] })
     let b : HEntry := { block with inst := 4, wq := [8] }
     let q := fun (h : HEntry) => (s h none).flushCq 0 0
     ((q block).ctx 0 0).cq = [.accpy 1 0 4 8 0 0 none] ∧ ((q block).tile 0).bankBusy 1 8 = false ∧ (((q block).tile 0).inst 4).kind = 0#2 ∧
     (((q b).tile 0).inst 4).kind ≠ 0#2 ∧ (((q b).tile 0).inst 4).size < 32 * accSize 0 ∧ 32 * accSize 0 ≤ (((q { b with size := 128 }).tile 0).inst 4).size ∧
     (((q { b with size := 128 }).tile 0).inst 4).canWrite 8 1 = true ∧ ((s b (some 3)).ctx 0 0).cq = [.accpy 1 0 4 8 0 0 (some 3)] ∧ 3 < 2 * accSize 0 ∧ 2 * accSize 0 ≤ 8 ∧
     ((s b (some 8)).tile 0).lingers 8 = false) := by decide +kernel
/-- A copy command that has only its end left, one that stands behind the copy that proceeds, one that asks another package, and one that meets no page. -/
theorem witness_CopyAndKeyValueEvents_ends :
    (let s := fun (k : CopyCmd) (f : List Follow) => windowed.modTile 0 (fun x => { x with tenant := some 0, copies := [(3, k)], follows := f })
     let o : Over := { err := none, req := none, data := [] }
     let k := copyCmd [] 3
     let g := copyCmd [(1, 0x8000100500000000), (9, 1)] 1
     ((s k []).tile 0).copy 3 = some k ∧ (s k []).outstanding 0 8 = false ∧ ((s k []).tile 0).lingers 8 = false ∧ (s k []).statusWaits 0 k = false ∧
     ((s k [{ ctx := 0, lead := 5, id := some 8, how := some o }]).tile 0).stands (copyCmd [] 1) = true ∧
     ((s k [{ ctx := 0, lead := 5, id := some 8, how := some o }]).tile 0).outcome 8 = some o ∧ ((s k [{ ctx := 0, lead := 5, id := some 8, how := none }]).tile 0).outcome 8 = none ∧
     ((s k []).tile 0).behindStream (copyCmd [] 1) = false ∧ g.asked = false) := by decide +kernel
/-- What is chosen is below its bound, freely; below 2 it is 0 or 1. -/
theorem witness_CopyAndKeyValueEvents_choice (s : State) : (s.choose 2).1 = 0 ∨ (s.choose 2).1 = 1 := by
  have h : (s.choose 2).1 < 2 := Nat.mod_lt _ (by decide)
  omega
/-- A copy that asks another package; one whose source lies beyond the pages, one whose source is poisoned, and one that a step brings to its last byte. -/
theorem witness_CopyAndKeyValueEvents_halts :
    (let s := fun (k : CopyCmd) (l : List Nat) => { windowed with poison := l }.modTile 0 (fun x => { x with tenant := some 0, copies := [(3, k)] })
     let r := fun (k : CopyCmd) (l : List Nat) => ((s k l).countCopy 0 3 k).1.copyRun 0 ((s k l).countCopy 0 3 k).2 1
     (copyCmd [(0, 0x8000100500000000)] 1).remoteReads = true ∧ (s (copyCmd [(0, 0x8000000000)] 1) []).copyGoes 0 (copyCmd [(0, 0x8000000000)] 1) = true ∧
     (match (r (copyCmd [(0, 0x8000000000)] 1) []).halt with | some (.page _ _) => true | _ => false) = true ∧ (s (copyCmd [] 1) [0]).copyGoes 0 (copyCmd [] 1) = true ∧
     (match (r (copyCmd [] 1) [0]).halt with | some (.fail _) => true | _ => false) = true ∧ (r (copyCmd [] 1) []).over = true ∧
     (r (copyCmd [(4, 3)] 1) []).over = false ∧ (match (r (copyCmd [(4, 3)] 1) []).halt with | none => true | _ => false) = true) := by decide +kernel
/-- An entry of the translation cache. -/
def entry (e : TEntry → TEntry) : TEntry :=
  e { tag := 0x40, tenant := 0, retiring := false, desc := 0, extents := [], holders := [], stamp := 0, waiter := none }
/-- A context whose key-value queue holds a command, which has come so far, in a tile of tenant 0 that a window's pages serve. -/
def running (k : KCmd) (id : Nat) (r : Option KRun) (f : Tile → Tile) : State :=
  (windowed.modTile 0 (fun x => f { x with tenant := some 0 })).modCtx 0 0 (fun y => { y with kq := [k], kruns := match r with | some r => [(id, r)] | none => [] })
/-- Memory in which a sequence stands at 0x4100: a layer of one head, one token in the block at 0x4400, whose Seal shows all its layers. -/
def sequence (s : State) : State :=
  { s with mem := s.mem ++ [(0x4101, 0x42), (0x4108, 1), (0x4109, 1), (0x410A, 1), (0x410B, 1), (0x4118, 1), (0x4201, 0x44), (0x4208, 1), (0x440E, 0xE0), (0x440F, 0x03), (0x4701, 0x48)] }
theorem witness_CopyAndKeyValueEvents_load :
    (let s := fun (r : Option KRun) (a : W64) => running (.xld a 8 2) 2 r (fun x => { x with tcache := [entry id] })
     (s none 0x80).kvHead 0 0 false = some (.xld 0x80 8 2) ∧ (roomForEntry ((s none 0x80).tile 0).tcache).isSome = true ∧
     (s (some .taken) 0x40).kvCur 0 0 = some (.xld 0x40 8 2, .taken) ∧ (∃ e, e ∈ ((s none 0x40).tile 0).tcache ∧ e.valid 0 0x40 = true) ∧
     (s (some .taken) 0x80).kvCur 0 0 = some (.xld 0x80 8 2, .taken) ∧ (∀ e, e ∈ ((s none 0x80).tile 0).tcache → e.valid 0 0x80 = false) ∧
     (match (sequence (s none 0x4100)).loadSeq (.tile 0) 0 0x4100 with | .ok _ => true | .error _ => false) = true ∧
     (match (s none 0x8000000000).loadSeq (.tile 0) 0 0x8000000000 with | .ok _ => false | .error e => decide (e ≠ walkBusy)) = true ∧
     (s (some (.puts [] none none)) 0x40).kvCur 0 0 = some (.xld 0x40 8 2, .puts [] none none) ∧ ((s none 0x40).tile 0).lingers 2 = false) := by decide +kernel
/-- An XINV that finds an entry, one that finds none, and one whose entries are freed. -/
theorem witness_CopyAndKeyValueEvents_retire :
    (let s := fun (k : KCmd) => (running k 3 none (fun x => { x with tcache := [entry id] }))
     (s (.xinv 0x40 8 3 3 none)).kvHead 0 0 false = some (.xinv 0x40 8 3 3 none) ∧ ((s (.xinv 0x40 8 3 3 none)).tile 0).tenant.getD 0 = 0 ∧
     (s (.xinv 0x40 8 3 3 none)).tiles.any (fun e => decide (tileScope 0 e.1 ≤ 3) && decide (e.2.tenant = some 0) && e.2.tcache.any (fun k => k.valid 0 0x40)) = true ∧
     (s (.xinv 0x80 8 3 3 none)).tiles.all (fun e => e.2.tcache.all (fun k => !k.valid 0 0x80)) = true ∧ (s (.xinv 0x80 8 3 3 none)).frames = [] ∧
     ((s (.xinv 0x40 8 3 3 (some 1))).ctx 0 0).kq = [.xinv 0x40 8 3 3 (some 1)] ∧ ((s (.xinv 0x40 8 3 3 none)).tile 0).lingers 3 = false ∧
     (s (.xinv 0x40 8 3 3 (some 1))).tiles.all (fun e => e.2.tcache.all (fun k => decide (k.waiter ≠ some 1))) = true) := by decide +kernel
/-- A gather whose sequence is cached and admits it; a graph whose node takes work, and none; rows that can be read and that cannot. -/
theorem witness_CopyAndKeyValueEvents_gathered :
    (let b : BitVec 256 := 0x40
     let h : HEntry := { block with inst := 4, size := 0x10000, wq := [8] }
     let s := fun (b : BitVec 256) (l : List TEntry) => running (.kvg b 4 8 0 0) 8 none (fun x => { x with tcache := l, handles := [(1, h)] })
     let g : Gather := { id := 8, ctx := 0, tenant := 0, block := b, inst := 4, desc := 0, exts := [], next := 0, held := false, fail := none, done := false, gid := 0, node := 0 }
     (s b [entry id]).kvHead 0 0 true = some (.kvg b 4 8 0 0) ∧ (((s b []).tile 0).inst 4).canWrite 8 1 = true ∧
     ((s b [entry id]).tile 0).tcache.find? (fun e => e.valid 0 (BitVec.ofNat 64 (b.toNat % 2 ^ 56))) = some (entry id) ∧ ((s b []).tile 0).tcache = [] ∧
     ({ s b [] with graphs := [graph1 .running false] }).takesWork 9 0 = true ∧ (s b []).takesWork 9 0 = false ∧
     ({ g with desc := BitVec.ofNat 512 (2 ^ 64 + 2 ^ 72 + 2 ^ 80 + 2 ^ 88 + 64 * 2 ^ 192) }).cause ((s b []).tile 0 |>.inst 4) = none ∧ g.n ≤ g.next + max 1 g.run.length) := by decide +kernel
/-- A splice of that sequence into itself behind its token: its record in the scratchpad, the plan made, a part, what comes last, and each that fails where
the pages are gone; pieces that are written, and that are not. -/
theorem witness_CopyAndKeyValueEvents_parts :
    (let h : HEntry := { block with inst := 4, state := 2 }
     let s := fun (r : Option KRun) => sequence (running (.splc 4 8 2) 2 r (fun x =>
       { x with handles := [(1, h)], pad := [(1, 0x41), (9, 0x41), (17, 0x47), (24, 1), (28, 1), (49, 0x49)] }))
     let p : Splice := { record := 0, seq := 0, exts := [], doc := 0, docEx := [], pos := 0, dest := [], new := [], theta := [] }
     let q := { s none with mem := [] }
     (s (some .taken)).kvCur 0 0 = some (.splc 4 8 2, .taken) ∧ (s (some (.splice p 0 0 [(0x4900, [1])]))).kvCur 0 0 = some (.splc 4 8 2, .splice p 0 0 [(0x4900, [1])]) ∧
     (match (s none).splicePlanned (.tile 0) 0 (BitVec.ofNat 512 (((s none).tile 0).padNat 0 64)) with
      | .ok p => decide (p.parts = 3) && (match (s none).splicePart (.tile 0) 0 p 0 with | .ok _ => true | .error _ => false) &&
          (match (s none).spliceLast (.tile 0) 0 p 0 with | .ok _ => true | .error _ => false) &&
          (match q.splicePart (.tile 0) 0 p 0 with | .ok _ => false | .error e => decide (e ≠ walkBusy))
      | .error _ => false) = true ∧
     (match (s none).splicePlanned (.tile 0) 0 0 with | .ok _ => false | .error e => decide (e ≠ walkBusy)) = true ∧
     ((s none).putPieces (.tile 0) 0 1 [(0x4900, [1])]).2 = ([], none) ∧ ((s none).putPieces (.tile 0) 0 1 [(0x8000000000, [1])]).2.2.isSome = true) := by decide +kernel
/-- Prefix commands on a bucket that holds entry 1, and on a full one: entry 1 found, entry 5 not found, put in place, and turned away. -/
theorem witness_CopyAndKeyValueEvents_bucket :
    (let k := fun (op e : Nat) => KCmd.pfx op (BitVec.ofNat 512 (0x4000 + e * 2 ^ 256)) 0x4200 8 2
     let s := fun (op e n : Nat) (r : Option KRun) =>
       (fun s => { s with mem := s.mem ++ [(0x4000, 1)] ++ (List.range n).map (fun i => (0x4017 + 32 * i, 0x80)) } : State → State) (running (k op e) 2 r id)
     let b := fun (op e n : Nat) => match (s op e n none).vaReadLong (.tile 0) 0 0x4000 256 with | .ok l => bucketStep op e (numbers 32 8 l) | .error _ => some (9, none, none, none)
     (s 0 1 1 none).kvHead 0 0 true = some (k 0 1) ∧ ((s 0 1 1 none).ctx 0 0).kvRun (k 0 1) = none ∧ ((s 0 1 1 (some .taken)).ctx 0 0).kvRun (k 0 1) = some .taken ∧
     ((s 0 1 1 (some (.puts [(0x4208, [1])] none none))).ctx 0 0).kvRun (k 0 1) = some (.puts [(0x4208, [1])] none none) ∧
     b 0 1 1 = some (1, some 0, some (1 + 2 ^ 191), none) ∧ b 0 5 1 = some (0, none, none, none) ∧ b 1 5 1 = some (3, some 1, none, some 5) ∧ b 1 5 8 = none ∧
     ((s 1 5 1 none).vaPut (.tile 0) 0 0x4020 (toBytes 32 5)).2 = none) := by decide +kernel
/-- A report at the head of its queue. -/
theorem witness_CopyAndKeyValueEvents_report :
    (let s := running (.rep 0x10 0 2 9 0) 2 none id
     (s.tile 0).cutting = false ∧ (s.ctx 0 0).kvNext = some (.rep 0x10 0 2 9 0) ∧ (s.tile 0).kvHeld 0 = false ∧ s.second 0 0 = false) := by decide +kernel
/-- A gather whose rows lie beyond the pages; one for which its sequence is read. -/
theorem witness_CopyAndKeyValueEvents_rows :
    (let g := { gather false with exts := [BitVec.ofNat 128 (0x3FFFFFC0 + 2 ^ 64)], block := 0, desc := BitVec.ofNat 512 (2 ^ 72 + 2 ^ 80 + 2 ^ 88) }
     let s := windowed.modTile 0 (fun x => { x with tenant := some 0, gathers := [g] })
     (match s.gatherSeals (.tile 0) g with | .ok b => b | .error _ => false) = true ∧ (s.gatherRows 0 g g.run).2.isSome = true ∧ s.gatherFails 0 g ≠ some walkBusy ∧
     g.held = false) := by decide +kernel
/-- A unit of a TRENC job of one block, its last and not; a job of a killed tenant; a unit of a TWUPD. -/
theorem witness_ClusterAndDieEvents_units :
    (let s := windowed.modTile 0 (fun x => { x with tenant := some 0 })
     let j := fun (n : Nat) => { job true with record := BitVec.ofNat 512 (0x4100 + 0x4200 * 2 ^ 192 + 0x4300 * 2 ^ 256 + n * 2 ^ 320) }
     let q := fun (j : BJob) => s.modCluster 0 (fun k => { k with brushCur := some (0, j) })
     let u := fun (j : BJob) => ((q j).brushUnit 0 j).2.1
     (u (j 1)).fail = none ∧ (u (j 1)).bdone = 1 ∧ (u (j 2)).fail = none ∧ (u (j 2)).bdone < (u (j 2)).nw / tN (u (j 2)).defn.record ∧
     (q (j 1)).resultWaits 0 (u (j 1)) = false ∧ ((q (j 1)).cluster 0).brushCur = some (0, j 1) ∧ ({ j 1 with fail := some 0x63 } : BJob).fail = some 0x63#7 ∧
     (u { j 1 with twupd := true }).twupd = true ∧ (u { j 1 with twupd := true }).fail ≠ some walkBusy) := by decide +kernel
/-- A pass of Winnow that leaves digits to find, and one that finds the last. -/
theorem witness_ClusterAndDieEvents_passes :
    (let wjob := { wjob with record := BitVec.ofNat 512 (2 ^ 64 + 0x4300 * 2 ^ 320) }
     let s := (windowed.modTile 0 (fun x => { x with tenant := some 0, handles := [(1, { block with inst := 6 })] })).modDie 0 (fun d => { d with winCur := some (0, wjob) })
     let i := s.modDie 0 (fun x => { x with winCur := none })
     let o := match (List.range wjob.nelem).mapM (s.winElem 0 wjob) with | .ok l => l | .error _ => []
     let r := fun (j : WJob) => i.winCompute 0 j o
     (r wjob).2.1.fail = none ∧ (r wjob).2.1.plane ≠ 0 ∧ ((r wjob).1.putWinStatus 0 (r wjob).2.1 none false).2 = none ∧
     o ≠ [] ∧ (s.die 0).winCur = some (0, wjob) ∧ s.winLost 0 wjob = false ∧ s.winPage 0 wjob = none ∧ wjob.res % 64 = 0 ∧ wjob.started = true ∧ (r { wjob with pass := 1, plane := wjob.r, total := 1 }).2.1.plane = 0 ∧
     (r { wjob with pass := 1, plane := wjob.r, total := 1 }).2.2.isSome = true) := by decide +kernel
/-- A Winnow job that has not started. -/
theorem witness_ClusterAndDieEvents_first :
    (let j := { wjob with started := false }
     let s := (windowed.modTile 0 (fun x => { x with tenant := some 0, winq := [j], handles := [(1, { block with inst := 4, state := 2 })] }))
     (s.die 0).winCur = none ∧ (s.tile 0).winHead = some j ∧ ((List.range 288).map (fun i => 288 * 0 + ((s.die 0).winRR + i) % 288)).find? (fun t => (s.tile t).winReady) = some 0 ∧
     64 ≤ ((s.tile 0).inst j.inst).size) := by decide +kernel
/-- An RPR with a place, its record good and bad; one that has no place left; one at its end. -/
theorem witness_ClusterAndDieEvents_repair :
    (let s := fun (r : Option KRun) (b : Byte) => (fun s => { s with mem := s.mem.map (fun e => if e.1 = 0x440E then (e.1, b) else e) } : State → State)
       ((sequence (running (.rpr 4 8 2 9 0 64) 2 r (fun x => { x with handles := [(1, { block with inst := 4, state := 2 })], pad := [(1, 0x41), (12, 1)] }))).modCtx 0 0
         (fun y => { y with repLc := 1 }))
     let j := (s none 0xF0).jobFrom 0 0 4 9 0 0
     (s none 0xF0).kvHead 0 0 false = some (.rpr 4 8 2 9 0 64) ∧ 64 ≤ (((s none 0xF0).tile 0).inst 4).size ∧ (((s none 0xF0).tile 0).inst 4).canRead 1 = true ∧
     (s none 0xF0).freeJobPlace 0 = some 0 ∧ (s (some (.place 0)) 0xF0).kvCur 0 0 = some (.rpr 4 8 2 9 0 64, .place 0) ∧ (s (some (.place 0)) 0xF0).walkFree 0 = true ∧
     (match (s none 0xF0).jobOf j 64 with | .ok _ => true | .error _ => false) = true ∧ (match (s none 0xE0).jobOf j 64 with | .ok _ => false | .error _ => true) = true ∧
     ((s none 0xF0).modDie 0 (fun d => { d with retouch := (List.range 16).map (fun p => (p, rjob .done)) })).freeJobPlace 0 = none ∧
     (s (some (.puts [] none none)) 0xF0).kvCur 0 0 = some (.rpr 4 8 2 9 0 64, .puts [] none none)) := by decide +kernel
/-- A report that has left its queue, counted and refused; jobs that move on, and one that makes its arrival. -/
theorem witness_ClusterAndDieEvents_moves :
    (let r := { access .report 0 with size := 0 }
     let s := fun (j : RJob) => ({ windowed.modTile 0 (fun x => { x with tenant := some 0 }) with graphs := [graph1 .running false] }.modCtx 0 0 (fun y => { y with remote := [r] })).modDie 0
       (fun d => { d with retouch := [(0, j)] })
     let q := fun (st : RState) => s (rjob st)
     let b := { rjob (.check 0) with counted := [(0, 0, 0)] }
     (((q (.check 0)).kvFlush 0 0).ctx 0 0).remote.find? (fun e => decide (e.kind = .report) && !e.done && e.twinOf.isNone && ((q (.check 0)).kvFlush 0 0).joined 0 0 e) = some r ∧
     ((q (.check 0)).kvFlush 0 0).job (r.addr.toNat / 16 % 8) (r.addr.toNat % 16) = some (rjob (.check 0)) ∧ (rjob (.check 0)).tag = r.addr.toNat ∧ (rjob (.check 0)).tenant = r.tenant ∧
     b.counted = [(0, 0, 0)] ∧ (s b).job 0 0 = some b ∧ (∀ e, e ∈ b.made → e ∈ b.counted) ∧ (s b).walkFree 0 = true ∧
     (match (q .writeback).copyFresh (rjob .writeback) with | (a, none) => (a.markAll (rjob .writeback)).2.isNone | _ => false) = true ∧
     ((q (.recomp 0)).setMark 0 0x4000 0).2 = none ∧
     (q .done).savedFor 0 0 = false ∧ ((q .done).tile 0).tenant = some 0 ∧ ((q .done).unit (.tile 0)).health ≠ .failed) := by decide +kernel
/-- A pass with no candidate, one whose source is poisoned, and one whose status lies on a link that has failed. -/
theorem witness_ClusterAndDieEvents_failures :
    (let w := { wjob with record := BitVec.ofNat 512 (2 ^ 64 + 0x5000 * 2 ^ 320) }
     let s := fun (m : W64) (l : List Nat) =>
       { (windowed.modTile 0 (fun x => { x with tenant := some 0, handles := [(1, { block with inst := 6 })] })).modLink 1 (fun l => { l with failed := true }) with
         mem := [(0, 1), (1, 0x20), (0x2000, 1), (0x2001, 0x40), (0x4000, 0x1F)], kregs := { KRegs.init with memmap := m }, poison := l }
     ((s 3 []).winCompute 0 wjob []).2.1.fail.isSome = true ∧
     (match (List.range w.nelem).mapM ((s 1 [0x200]).winElem 0 { w with record := BitVec.ofNat 512 (0x8000 + 2 ^ 64) }) with
      | .error (.fail _, _) => true | _ => false) = true ∧
     (match (List.range w.nelem).mapM ((s 3 []).winElem 0 w) with | .ok _ => true | _ => false) = true ∧ ((s 3 []).putWinStatus 0 w none false).2.isSome = true) := by decide +kernel

end Sys2Proof.Tests
end

namespace Sys2Proof.Machine

/-! ## Which bundle or device event a step runs (R7, R91) -/

/-- A unit that the merge stage has chosen issues before any device event. -/
theorem step_of_toIssue {s : State} {u : UnitId} {rest : List UnitId} (h : s.toIssue = u :: rest) :
    step s = runUnit { s with toIssue := rest } u := by
  simp only [step, h]

/-- With no unit to issue, the step that the schedule names next is run. -/
theorem step_of_nextStep {s : State} {i : Instr} {rest : List Instr} (h : s.toIssue = []) (hn : nextStep s.agenda = some (i, rest)) :
    step s = if i.wellFormed && !isSlotOp i then (if s.ignores i then .next { s with agenda := rest } else exec i { s with agenda := rest })
      else .fault .noSuchUnit := by
  simp only [step, h, hn]

theorem step_of_idle {s : State} (h : s.toIssue = []) (ha : s.agenda = []) : step s = .next s.nextCycle := by
  simp only [step, h, ha, nextStep]

/-- The oldest entry comes next unless it is a state command with a G3 cause behind it (R22). -/
theorem nextStep_oldest {i : Instr} {rest : List Instr} (h : stateCommand i = false ∨ ∀ g, g ∈ rest → recordsG3 g = false) :
    nextStep (i :: rest) = some (i, rest) := by
  rcases h with h | h
  · simp [nextStep, h]
  · have hf : rest.find? recordsG3 = none := List.find?_eq_none.mpr fun g hg => by simp [h g hg]
    cases hc : stateCommand i <;> simp [nextStep, hc, hf]

/-- The first G3 cause behind a state command overtakes it (R22). -/
theorem nextStep_g3 {i g : Instr} {a b : List Instr} (hi : stateCommand i = true) (ha : ∀ x, x ∈ a → recordsG3 x = false)
    (hg : recordsG3 g = true) : nextStep (i :: (a ++ g :: b)) = some (g, i :: (a ++ b)) := by
  have hf : (a ++ g :: b).find? recordsG3 = some g := by
    rw [List.find?_append, List.find?_eq_none.mpr fun x hx => by simp [ha x hx]]
    simp [hg]
  have hn : g ∉ a := fun hm => by simp [ha g hm] at hg
  simp [nextStep, hi, hf, List.erase_append_right _ hn]

/-- A recorded G3 cause is a device event. -/
theorem isSlotOp_of_recordsG3 {g : Instr} (h : recordsG3 g = true) : isSlotOp g = false := by
  unfold recordsG3 at h
  split at h
  · rfl
  · rfl
  · rfl
  · cases h

theorem ignores_of_awake {s : State} (h : s.held = false) (i : Instr) : s.ignores i = false := by
  unfold State.ignores
  split
  · rfl
  · exact h

theorem ignores_of_held {s : State} {i : Instr} (h : s.held = true) (hi : ∀ e, i ≠ .powerFault e) : s.ignores i = true := by
  unfold State.ignores
  split
  · exact absurd rfl (hi _)
  · exact h

/-! ## A bundle of one operation (R260) -/

/-- A chain that decodes without a fault runs its slots. -/
theorem runUnit_of_chain {s : State} {u : UnitId} {c : Chain} (hc : s.chainAt u (s.thread u).pc = .chain c)
    (hd : decodeFault (s.seen u) u (s.thread u).pc c (chainOps c) = none) :
    runUnit s u = runSlots (s.take u (s.thread u).pc c) ((chainOps c).filterMap (fun o => o.2.map (fun i => (o.1, i))))
      (s.blocked u c.present (banksOf (chainOps c))) := by
  simp only [runUnit, hc, hd]

theorem verdicts_single {s a : State} {k : Nat} {i : Instr} (h : exec i (s.atSlot k false) = .next a) :
    verdicts s [(k, i)] = .next [(k, a.cur.verdict)] := by
  simp only [verdicts, h]

theorem commitAll_single {s t : State} {k : Nat} {i : Instr} (h : exec i (s.atSlot k true) = .next t) :
    commitAll s [(k, i)] = .next t := by
  simp only [commitAll, h]

theorem phase_lt_ten (k : Nat) (i : Instr) : phase k i < 10 := by
  unfold phase
  (repeat' split) <;> decide

/-- An operation alone in its bundle acts once. -/
theorem inOrder_single (k : Nat) (i : Instr) : inOrder [(k, i)] = [(k, i)] := by
  have h := phase_lt_ten k i
  generalize hp : phase k i = p at h
  simp only [inOrder, List.filter_cons, List.filter_nil, hp]
  match p, h with
  | 0, _ | 1, _ | 2, _ | 3, _ | 4, _ | 5, _ | 6, _ | 7, _ | 8, _ | 9, _ => rfl
  | _ + 10, h => omega

/-- What the issue of one operation comes to once its stream holds an element and its check has a verdict. -/
theorem runSlots_single {q a : State} {k : Nat} {i : Instr} (he : emptyStream (q.seen q.cur.u) q.cur.u [(k, i)] = none)
    (hx : exec i ((q.seen q.cur.u).atSlot k false) = .next a) (ht : (q.seen q.cur.u).turnWaits q.cur.u = false) :
    runSlots q [(k, i)] false =
      match firstHold [(k, a.cur.verdict)] with
      | some h => .next (q.waitUnit q.cur.u h)
      | none =>
        match issueFault [(k, a.cur.verdict)] with
        | some f => .next ((q.slotEnds q.cur.u f.cause a.cur.verdict).takeFault q.cur.u q.cur.pc f)
        | none =>
          match compareHold (q.seen q.cur.u) q.cur.u [(k, i)] with
          | some h => .next (q.holdUnit q.cur.u h)
          | none =>
            if q.exhausted q.cur.u then .next (q.takeFault q.cur.u q.cur.pc { cause := 0x70#7, slots := 0, faddr := 0 }) else
            match commitAll (q.seen q.cur.u) [(k, i)] with
            | .next s' => .next (s'.finish.settled q.cur.u)
            | .fault r => .fault r
            | .refused r => .refused r := by
  simp only [runSlots, he, verdicts_single hx, ht, inOrder_single, List.foldl_cons, List.foldl_nil, Bool.false_eq_true, if_false] <;> rfl

end Sys2Proof.Machine

open Sys2Proof Sys2Proof.Machine in
/-- Settles O9: the bundle's one operation comes to a verdict, and each verdict has its own way through the issue of the slots. -/
theorem stepIssuesBundle : Obligations.StepIssuesBundle := by
  unfold Obligations.StepIssuesBundle
  intro s r a u rest c k i hs hr hc hops hd hb q hq he hh ht hx
  have hu : q.cur.u = u := by rw [hq]; rfl
  have hpc : q.cur.pc = (r.thread u).pc := by rw [hq]; rfl
  have hrun : step s = runSlots q [(k, i)] false := by
    rw [step_of_toIssue hs, ← hr, runUnit_of_chain hc hd, hb, ← hq, hops]
    rfl
  subst hu
  rw [runSlots_single he hx ht, hh, hpc] at hrun
  have hok : a.cur.verdict = .none ∨ a.cur.verdict = .ok →
      firstHold [(k, a.cur.verdict)] = none ∧ issueFault [(k, a.cur.verdict)] = none := by
    rintro (h | h) <;> rw [h] <;> exact ⟨rfl, rfl⟩
  refine ⟨fun hv hex t hgo => ?_, fun hv hex => ?_, fun x f hv => ?_, fun h hv => ?_⟩
  · obtain ⟨hh, hf⟩ := hok hv
    simpa only [hh, hf, hex, commitAll_single hgo, Bool.false_eq_true, if_false] using hrun
  · obtain ⟨hh, hf⟩ := hok hv
    simpa only [hh, hf, hex, if_true] using hrun
  · rw [hv] at hrun
    simpa [firstHold, issueFault, combine, State.slotEnds] using hrun
  · rw [hv] at hrun
    exact hrun

open Sys2Proof Sys2Proof.Machine in
/-- Settles O10: nextStep names the event, and a device held in reset ignores all but the supply rails. -/
theorem stepRunsDeviceEvent : Obligations.StepRunsDeviceEvent := by
  unfold Obligations.StepRunsDeviceEvent
  intro s hs
  refine ⟨fun i rest ha hc hw hd => ?_, fun i a g b ha hi hx hg hh hw => ?_, fun i rest ha hc hn => ?_, fun ha => ?_⟩
  · have hstep := step_of_nextStep hs (ha ▸ nextStep_oldest hc)
    simp only [hw, hd, Bool.not_false, Bool.and_self, if_true] at hstep
    refine ⟨fun hh => ?_, fun e he => ?_, fun hh he => ?_⟩
    · simpa [ignores_of_awake hh] using hstep
    · subst he; exact hstep
    · simpa [ignores_of_held hh he] using hstep
  · rw [step_of_nextStep hs (ha ▸ nextStep_g3 hi hx hg)]
    simp [hw, isSlotOp_of_recordsG3 hg, ignores_of_awake hh]
  · rw [step_of_nextStep hs (ha ▸ nextStep_oldest (.inl hc))]
    rcases hn with hn | hn <;> simp [hn]
  · exact ⟨_, step_of_idle hs ha, rfl, rfl, rfl⟩

/-! ## What every operation of the machine keeps

Only two operations write device memory, memWrite and memRegion, and both keep its canonical form; only the commands and causes of R9 to R20 change
the fuses or the device state. Steady says so of one state beside an earlier one, and each operation of the model has its lemma, named after it. -/

namespace Sys2Proof.Machine

/-- Since s₀, memory has stayed canonical, and neither a fuse nor the device state has changed. -/
abbrev Steady (s₀ s : State) : Prop :=
  (Memory.wf s₀.mem = true → Memory.wf s.mem = true) ∧ s.fuses = s₀.fuses ∧ s.dstate = s₀.dstate

/-- Whatever next state the outcome has, it is steady. -/
def SteadyNext (s₀ : State) (r : Result) : Prop := ∀ t, r = .next t → Steady s₀ t

variable {s₀ s : State}

theorem Steady.refl (s : State) : Steady s s := ⟨id, rfl, rfl⟩

theorem Steady.next (h : Steady s₀ s) : SteadyNext s₀ (.next s) := by
  rintro t ⟨⟩
  exact h

theorem Steady.ite {c : Prop} [Decidable c] {a b : State} (ha : Steady s₀ a) (hb : Steady s₀ b) : Steady s₀ (if c then a else b) := by
  split
  · exact ha
  · exact hb

theorem Steady.iteFst {α : Type} {c : Prop} [Decidable c] {a b : State × α} (ha : Steady s₀ a.1) (hb : Steady s₀ b.1) :
    Steady s₀ (if c then a else b).1 := by
  split
  · exact ha
  · exact hb

theorem Steady.foldl {α : Type} {f : State → α → State} {l : List α} (h : Steady s₀ s) (hf : ∀ s a, Steady s₀ s → Steady s₀ (f s a)) :
    Steady s₀ (l.foldl f s) := foldl_inv f (Steady s₀) hf l s h

/-- A fold over a state and a note beside it. -/
theorem Steady.foldlFst {α β : Type} {f : State × β → α → State × β} {l : List α} {b : β} (h : Steady s₀ s)
    (hf : ∀ p a, Steady s₀ p.1 → Steady s₀ (f p a).1) : Steady s₀ (l.foldl f (s, b)).1 :=
  foldl_inv f (fun p => Steady s₀ p.1) hf l (s, b) h

theorem Steady.of_fst {α : Type} {p : State × α} {a : α} (h : Steady s₀ p.1) (e : p = (s, a)) : Steady s₀ s := by
  rw [e] at h
  exact h

theorem Steady.getD {o : Option State} (h : Steady s₀ s) (ho : ∀ t, o = some t → Steady s₀ t) : Steady s₀ (o.getD s) := by
  cases o with
  | none => exact h
  | some t => exact ho t rfl

/-! ### Updates of other fields -/

/-- An update of any fields but memory, the fuses and the device state is steady. Every field is a parameter, so that the record updates of the
model's operations all have this form. -/
theorem Steady.update
    {agenda : List Instr} {toIssue : List UnitId} {cur : Cur} {fresh : Nat} {cycle : Nat} {seq : Nat} {lastG3 : Option Cause}
    {cap : BitVec 12} {capNext : Option (BitVec 12)} {lostCyc : SMap W64} {lostAt : SMap Nat} {rails : BitVec 12} {held : Bool}
    {boot : BootState} {kregs : KRegs} {poison : List Nat} {tenants : SMap Tenant} {tiles : SMap Tile} {clusters : SMap Cluster}
    {dies : SMap Die} {cores : SMap Core} {links : SMap MemLink} {ports : SMap Port} {eths : SMap EthPort} {health : SMap UnitEntry}
    {wv : SMap WvPage} {graphs : List Graph} {ready : SMap (List (Nat × Nat))} {ages : SMap Nat} {waitFrom : SMap Nat} {conts : SMap Nat}
    {frames : List Frame} {replies : List Reply} {sockets : List (Nat × List Byte)}
    (h : Steady s₀ s) : Steady s₀
      { s with
        agenda := agenda, toIssue := toIssue, cur := cur, fresh := fresh, cycle := cycle, seq := seq, lastG3 := lastG3, cap := cap,
        capNext := capNext, lostCyc := lostCyc, lostAt := lostAt, rails := rails, held := held, boot := boot, kregs := kregs,
        poison := poison, tenants := tenants, tiles := tiles, clusters := clusters, dies := dies, cores := cores, links := links,
        ports := ports, eths := eths, health := health, wv := wv, graphs := graphs, ready := ready, ages := ages, waitFrom := waitFrom,
        conts := conts, frames := frames, replies := replies, sockets := sockets } := h

theorem Steady.setTile {t : Nat} {x : Tile} (h : Steady s₀ s) : Steady s₀ (s.setTile t x) := h
theorem Steady.modTile {t : Nat} {f : Tile → Tile} (h : Steady s₀ s) : Steady s₀ (s.modTile t f) := h
theorem Steady.setCtx {t c : Nat} {y : Ctx} (h : Steady s₀ s) : Steady s₀ (s.setCtx t c y) := h
theorem Steady.modCtx {t c : Nat} {f : Ctx → Ctx} (h : Steady s₀ s) : Steady s₀ (s.modCtx t c f) := h
theorem Steady.modCore {k : Nat} {f : Core → Core} (h : Steady s₀ s) : Steady s₀ (s.modCore k f) := h
theorem Steady.modCluster {n : Nat} {f : Cluster → Cluster} (h : Steady s₀ s) : Steady s₀ (s.modCluster n f) := h
theorem Steady.modDie {d : Nat} {f : Die → Die} (h : Steady s₀ s) : Steady s₀ (s.modDie d f) := h
theorem Steady.modUnit {u : UnitName} {f : UnitEntry → UnitEntry} (h : Steady s₀ s) : Steady s₀ (s.modUnit u f) := h
theorem Steady.modPort {n : Nat} {f : Port → Port} (h : Steady s₀ s) : Steady s₀ (s.modPort n f) := h
theorem Steady.modLink {n : Nat} {f : MemLink → MemLink} (h : Steady s₀ s) : Steady s₀ (s.modLink n f) := h
theorem Steady.modEth {n : Nat} {f : EthPort → EthPort} (h : Steady s₀ s) : Steady s₀ (s.modEth n f) := h
theorem Steady.modTenant {n : Nat} {f : Tenant → Tenant} (h : Steady s₀ s) : Steady s₀ (s.modTenant n f) := h
theorem Steady.modGraph {n : Nat} {f : Graph → Graph} (h : Steady s₀ s) : Steady s₀ (s.modGraph n f) := h
theorem Steady.modNode {g n : Nat} {f : GNode → GNode} (h : Steady s₀ s) : Steady s₀ (s.modNode g n f) := h
theorem Steady.modBoot {f : BootState → BootState} (h : Steady s₀ s) : Steady s₀ (s.modBoot f) := h
theorem Steady.modCurTile {f : Tile → Tile} (h : Steady s₀ s) : Steady s₀ (s.modCurTile f) := h
theorem Steady.modCurCtx {f : Ctx → Ctx} (h : Steady s₀ s) : Steady s₀ (s.modCurCtx f) := h
theorem Steady.blame {u : UnitName} {c : Cause} (h : Steady s₀ s) : Steady s₀ (s.blame u c) := h
theorem Steady.interrupt {k : Nat} {c : Cause} (h : Steady s₀ s) : Steady s₀ (s.interrupt k c) := h

/-! ### Device memory -/

theorem Steady.memWrite {pa : Nat} {l : List Byte} (h : Steady s₀ s) : Steady s₀ (s.memWrite pa l) := by
  obtain ⟨h1, h2, h3⟩ := h
  exact ⟨fun hw => memWrite_wf s pa l (h1 hw), h2, h3⟩

theorem Steady.memRegion {pa n : Nat} {m : SMap Byte} (h : Steady s₀ s) : Steady s₀ (s.memRegion pa n m) := by
  obtain ⟨h1, h2, h3⟩ := h
  exact ⟨fun hw => memRegion_wf s pa n m (h1 hw), h2, h3⟩

theorem Steady.memPut {pa n v : Nat} (h : Steady s₀ s) : Steady s₀ (s.memPut pa n v) := h.memWrite
theorem Steady.freeRegion {pa n : Nat} (h : Steady s₀ s) : Steady s₀ (s.freeRegion pa n) := h.memRegion

/-! ### Units, free values and events -/

theorem Steady.modThread {u : UnitId} {f : Thread → Thread} (h : Steady s₀ s) : Steady s₀ (s.modThread u f) := by
  cases u with
  | ctx t c => exact h
  | core k => exact h

theorem Steady.result {u : UnitId} {d : Dest} {v m : VReg} {l : Nat} {g : BitVec 6} (h : Steady s₀ s) : Steady s₀ (s.result u d v m l g) := h.modThread
theorem Steady.result64 {u : UnitId} {d : Dest} {v : W64} {l : Nat} (h : Steady s₀ s) : Steady s₀ (s.result64 u d v l) := h.modThread
theorem Steady.freeBytes {n : Nat} (h : Steady s₀ s) : Steady s₀ (s.freeBytes n).2 := h
theorem Steady.choose {n : Nat} (h : Steady s₀ s) : Steady s₀ (s.choose n).2 := h
theorem Steady.stamp (h : Steady s₀ s) : Steady s₀ s.stamp.2 := h
theorem Steady.counted {t n : Nat} (h : Steady s₀ s) : Steady s₀ (s.counted t n) := h
theorem Steady.loseCycle {d : Nat} (h : Steady s₀ s) : Steady s₀ (s.loseCycle d) := .ite h h

theorem Steady.capIdle {d : Nat} (h : Steady s₀ s) : Steady s₀ (s.capIdle d).2 := by
  unfold State.capIdle
  split
  · exact h
  · dsimp only
    split
    · exact h
    · exact h.choose.loseCycle

theorem Steady.klog {kind info unit tmask lo hi : Nat} {c : Cause} (h : Steady s₀ s) : Steady s₀ (s.klog kind c info unit tmask lo hi) :=
  .ite h h.memWrite

theorem Steady.poisonFound {pa : Nat} (h : Steady s₀ s) : Steady s₀ (s.poisonFound pa) := Steady.klog (s := s.blame _ _) h
theorem Steady.failedAt {c : Cause} {pa : Nat} (h : Steady s₀ s) : Steady s₀ (s.failedAt c pa) := .ite h.poisonFound h
theorem Steady.metLine {l : List Nat} (h : Steady s₀ s) : Steady s₀ (s.metLine l) := .ite h h.choose.poisonFound
theorem Steady.metIn {s' : State} {f : State → Option Cause} (h : Steady s₀ s') : Steady s₀ (s'.metIn s f) := .ite h.metLine h
theorem Steady.readMet {pa n : Nat} (h : Steady s₀ s) : Steady s₀ (s.readMet pa n) := h.metIn
theorem Steady.readMets {α : Type} {f : State → Except Cause α} (h : Steady s₀ s) : Steady s₀ (s.readMets f) := h.metIn

theorem Steady.unitMet {u : UnitId} {c : Cause} {va : Nat} (h : Steady s₀ s) : Steady s₀ (s.unitMet u c va) := by
  refine .ite h ?_
  split
  · exact .ite h h.metIn
  · exact h.metIn

theorem Steady.event {n kind info node : Nat} {c : Option Cause} {user : W64} (h : Steady s₀ s) : Steady s₀ (s.event n kind c info node user) := by
  have hr : Steady s₀ (s.readMet (s.evconsAt n) 4) := h.readMet
  have hl := hr.klog (s := (s.readMet (s.evconsAt n) 4).modTenant n (fun t => { t with evlost := t.evlost + 1 })) (kind := 6) (c := 0x6B#7)
    (info := 0) (unit := 0) (tmask := 2 ^ n) (lo := 0) (hi := 0)
  unfold State.event
  dsimp only
  split
  · exact hl
  · split
    · split
      · exact hl
      · exact hr.memWrite
    · exact hl

/-! ### Landing, walks and exceptions -/

theorem Steady.landSr {u : UnitId} {n : Nat} {v : W64} (h : Steady s₀ s) : Steady s₀ (s.landSr u n v) := by
  refine .ite h.modThread (.ite h.modThread (.ite h.modThread (.ite h.modThread (.ite h.modThread ?_))))
  cases u with
  | ctx t c => exact .ite h (.ite h h)
  | core k => exact .ite h (.ite h (.ite h (.ite h (.ite h (.ite h (.ite h (.ite h (.ite h h))))))))

theorem Steady.landOne {u : UnitId} {p : Pend} (h : Steady s₀ s) : Steady s₀ (s.landOne u p) := by
  unfold State.landOne
  split
  · exact h.landSr
  · exact h.modThread

theorem Steady.land {u : UnitId} {m : Nat} (h : Steady s₀ s) : Steady s₀ (s.land u m) :=
  (h.modThread.foldl fun _ _ h => h.landOne).modThread

theorem Steady.advance {u : UnitId} (h : Steady s₀ s) : Steady s₀ (s.advance u) := h.modThread.land
theorem Steady.seen {u : UnitId} (h : Steady s₀ s) : Steady s₀ (s.seen u) := h.land
theorem Steady.startWalk {u : UnitId} {va : Nat} {a : Acc} (h : Steady s₀ s) : Steady s₀ (s.startWalk u va a) := h

theorem Steady.contextStop {t c : Nat} {i : StopInfo} (h : Steady s₀ s) : Steady s₀ (s.contextStop t c i) :=
  (((Steady.memRegion (s := s.setCtx t c _) h).freeRegion).freeRegion).klog

theorem Steady.coreTrap {k : Nat} {i : StopInfo} (h : Steady s₀ s) : Steady s₀ (s.coreTrap k i) := h

theorem Steady.takeException {u : UnitId} {i : StopInfo} (h : Steady s₀ s) : Steady s₀ (s.takeException u i) := by
  cases u with
  | ctx t c => exact h.contextStop
  | core k => exact h.coreTrap

theorem Steady.dropMark {u : UnitId} {q : Nat} (h : Steady s₀ s) : Steady s₀ (s.dropMark u q) := by
  cases u with
  | ctx t c => exact h
  | core k => exact h

theorem Steady.holdUnit {u : UnitId} {hd : Hold} (h : Steady s₀ s) : Steady s₀ (s.holdUnit u hd) := by
  unfold State.holdUnit
  dsimp only
  split
  · exact h.modThread.startWalk
  · exact h.modThread
  · exact h.modThread

theorem Steady.refuse {v : Verdict} (h : Steady s₀ s) : Steady s₀ (s.refuse v) := by
  have hc : Steady s₀ { s with cur := { s.cur with verdict := v } } := h
  cases v with
  | fault c a => exact hc.unitMet.takeException
  | mark q c a => exact hc.dropMark.takeException
  | held hd => exact hc.holdUnit
  | none => exact hc
  | ok => exact hc

/-- The first half of a bundle's end: its streams are popped. -/
theorem Steady.popped {u : UnitId} {f : Ctx → Ctx} (h : Steady s₀ s) :
    Steady s₀ (match u with | .ctx t k => s.modCtx t k f | .core _ => s) := by
  cases u <;> exact h

theorem Steady.finish (h : Steady s₀ s) : Steady s₀ s.finish := by
  unfold State.finish
  refine .ite h ?_
  have hc : Steady s₀ { s with cur := { s.cur with finished := true } } := h
  exact hc.popped.modThread.advance.popped

/-- The issue of a slot is steady where its effect is: it takes that effect, refuses, or does nothing (R260, R338). -/
theorem Steady.issue {g : Bool} {v : Verdict} {f : State → State} (h : Steady s₀ s) (hf : Steady s₀ s → Steady s₀ (f s)) : SteadyNext s₀ (issue s g v f) := by
  unfold Machine.issue
  split
  · exact h.next
  · split
    · exact (hf h).next
    · split
      · exact (hf h).next
      · exact (hf h).next
      · exact h.refuse.next

end Sys2Proof.Machine

/-! ### Commands, and what becomes of them -/

namespace Sys2Proof.Machine

variable {s₀ s : State}

theorem Steady.doHead {t c : Nat} (h : Steady s₀ s) : Steady s₀ (s.doHead t c) := by
  unfold State.doHead
  split <;> exact h

theorem Steady.paired {id : Nat} (h : Steady s₀ s) : Steady s₀ (s.paired id) := by
  unfold State.paired
  dsimp only
  split
  · exact h
  · split
    · exact h
    · refine .ite h ?_
      split <;> exact h

theorem Steady.tell {t id : Nat} {o : Over} (h : Steady s₀ s) : Steady s₀ (s.tell t id o) := by
  unfold State.tell
  split <;> exact h

theorem Steady.engineDone {t id bw bytes : Nat} {err : Option Cause} (h : Steady s₀ s) : Steady s₀ (s.engineDone t id bw bytes err) :=
  h.tell.modTile.modTile.counted

theorem Steady.vaWrite {wk : Walker} {tn va : Nat} {l : List Byte} (h : Steady s₀ s) : Steady s₀ (s.vaWrite wk tn va l).1 := by
  unfold State.vaWrite
  split
  · split
    · exact h
    · exact .iteFst h h.memWrite
  · exact h
  · exact h

theorem Steady.vaWriteLong {wk : Walker} {tn va : Nat} {l : List Byte} (h : Steady s₀ s) : Steady s₀ (s.vaWriteLong wk tn va l).1 :=
  h.foldlFst fun p a h => by
    split
    · exact h
    · exact h.vaWrite

theorem Steady.vaPut {wk : Walker} {tn va : Nat} {l : List Byte} (h : Steady s₀ s) : Steady s₀ (s.vaPut wk tn va l).1 := h.vaWriteLong.metIn

theorem Steady.vaWrites {wk : Walker} {tn : Nat} {l : List Piece} (h : Steady s₀ s) : Steady s₀ (s.vaWrites wk tn l).1 :=
  h.foldlFst fun p a h => by
    split
    · exact h
    · exact h.vaPut

theorem Steady.putPieces {wk : Walker} {tn n : Nat} {l : List Piece} (h : Steady s₀ s) : Steady s₀ (s.putPieces wk tn n l).1 := by
  induction n generalizing s l with
  | zero => exact h
  | succ n ih =>
    cases l with
    | nil => exact h
    | cons p l =>
      simp only [State.putPieces]
      split
      · exact ih h.vaPut
      · exact .iteFst h h.vaPut

theorem Steady.putWords {l : List Piece} (h : Steady s₀ s) : Steady s₀ (s.putWords l) := h.foldl fun _ _ h => h.memWrite

theorem Steady.copyOver {t chunks : Nat} {k : CopyCmd} {cause : Option Cause} (h : Steady s₀ s) : Steady s₀ (s.copyOver t k chunks cause) :=
  Steady.engineDone (.iteFst h h.vaPut)

theorem Steady.abortCq {t c gid n : Nat} {l : List CCmd} {r : SMap W64} (h : Steady s₀ s) : Steady s₀ (s.abortCq t c gid n l r) := by
  induction l generalizing s r with
  | nil => exact h
  | cons k l ih =>
    cases k with
    | clear => exact ih h
    | sqset => exact ih h
    | admitted => exact ih h
    | sqgo => exact ih (.ite h.copyOver h)
    | accpy => exact ih (.ite h.engineDone h)

theorem Steady.abortAll {t : Nat} {c : Cause} {l : List Due} (h : Steady s₀ s) : Steady s₀ (s.abortAll t c l) := h.foldl fun _ _ h => h.engineDone

theorem Steady.dropMatrix {t : Nat} {l : List MCmd} (h : Steady s₀ s) : Steady s₀ (s.dropMatrix t l) :=
  (h.foldl fun _ _ h => .ite h.tell h).abortAll.modTile

theorem Steady.putWinStatus {t : Nat} {j : WJob} {res : Option (Nat × Nat × Nat)} {done : Bool} (h : Steady s₀ s) :
    Steady s₀ (s.putWinStatus t j res done).1 := .iteFst h h.freeBytes.vaPut

theorem Steady.winDone {t : Nat} {j : WJob} {res : Option (Nat × Nat × Nat)} (h : Steady s₀ s) : Steady s₀ (s.winDone t j res) :=
  Steady.engineDone (.iteFst h.putWinStatus h)

theorem Steady.markRunning {t : Nat} {w : WJob → Bool} {b : BJob → Bool} {c : Cause} (h : Steady s₀ s) : Steady s₀ (s.markRunning t w b c) := h
theorem Steady.abortQueues {t c : Nat} (h : Steady s₀ s) : Steady s₀ (s.abortQueues t c) := h.dropMatrix.modTile.modTile.modCtx

theorem Steady.abortNode {t gid n : Nat} (h : Steady s₀ s) : Steady s₀ (s.abortNode t gid n) :=
  (((h.abortCq.abortCq.foldl fun _ _ h => h.copyOver).abortAll.foldl fun _ _ h => h.winDone).markRunning.modTile.modTile).foldl fun _ _ h => .ite h.abortQueues h

theorem Steady.abortFrame {gid n : Nat} {f : Frame} (h : Steady s₀ s) : Steady s₀ (s.abortFrame gid n f) :=
  h.setTile.abortNode.setTile.update

theorem Steady.abortRepairs {gid n : Nat} (h : Steady s₀ s) : Steady s₀ (s.abortRepairs gid n) :=
  h.foldl fun _ _ h => .ite (h.foldl fun _ _ h => h.vaPut) (h.foldl fun _ _ h => h.vaPut).modDie

theorem Steady.killCtx {t c : Nat} (h : Steady s₀ s) : Steady s₀ (s.killCtx t c) :=
  (h.markRunning.foldl fun _ _ h => h.putWords).modTile.modTile.modCtx
theorem Steady.killTile {t : Nat} (h : Steady s₀ s) : Steady s₀ (s.killTile t) := h.killCtx.killCtx.modTile

/-! ### Nodes, graphs and tasks -/

theorem Steady.putNstat {gid n : Nat} (h : Steady s₀ s) : Steady s₀ (s.putNstat gid n) := by
  unfold State.putNstat
  split
  · exact h.memWrite
  · exact h

theorem Steady.nodeState {gid n : Nat} {st : NState} (h : Steady s₀ s) : Steady s₀ (s.nodeState gid n st) := h.modNode.putNstat
theorem Steady.putGstat {g : Graph} {st : Nat} {c : Cause} (h : Steady s₀ s) : Steady s₀ (s.putGstat g st c) := h.memWrite
theorem Steady.restartWait {k : Nat} (h : Steady s₀ s) : Steady s₀ (s.restartWait k) := h
theorem Steady.setReady {k : Nat} {l : List (Nat × Nat)} (h : Steady s₀ s) : Steady s₀ (s.setReady k l) := .ite h h

theorem Steady.makeReady {gid n : Nat} (h : Steady s₀ s) : Steady s₀ (s.makeReady gid n) := by
  unfold State.makeReady
  split
  · exact h
  · exact h.modNode.nodeState.setReady

theorem Steady.reenter {gid n : Nat} (h : Steady s₀ s) : Steady s₀ (s.reenter gid n) := by
  unfold State.reenter
  split
  · exact h
  · exact .ite h h.setReady

theorem Steady.toFront {gid n : Nat} (h : Steady s₀ s) : Steady s₀ (s.toFront gid n) := by
  unfold State.toFront
  split
  · exact h
  · exact h.setReady.restartWait

theorem Steady.offList {gid n : Nat} (h : Steady s₀ s) : Steady s₀ (s.offList gid n) := by
  unfold State.offList
  split
  · exact h
  · exact h.setReady

theorem Steady.freeCtx {t c : Nat} (h : Steady s₀ s) : Steady s₀ (s.freeCtx t c) := h
theorem Steady.adopt {t : Nat} {l : List (Nat × Remote)} (h : Steady s₀ s) : Steady s₀ (s.adopt t l) := h.foldl fun _ _ h => h

theorem Steady.nodeFail {gid n : Nat} {c : Cause} (h : Steady s₀ s) : Steady s₀ (s.nodeFail gid n c) := by
  unfold State.nodeFail
  split
  · refine .ite h ?_
    exact ((h.modNode.putNstat.modGraph.event.foldl fun _ _ h => h.abortFrame).foldl fun _ _ h => h.adopt).update.abortRepairs.offList.update.foldl fun _ _ h =>
      h.abortNode.foldl fun _ _ h => .ite h.freeCtx.modCtx h
  · exact h

theorem Steady.startRec {t c : Nat} {k : Task} {r : TaskRec} (h : Steady s₀ s) : Steady s₀ (s.startRec t c k r) := .ite h.nodeFail h

theorem Steady.taskEnd {t c : Nat} (h : Steady s₀ s) : Steady s₀ (s.taskEnd t c) := by
  unfold State.taskEnd
  dsimp only
  split
  · exact h
  · refine .ite h ?_
    split
    · exact h.nodeFail
    · split
      · exact Steady.startRec (.modCtx (.ite h.modCtx.modNode.putNstat h.modCtx))
      · exact .ite (.freeCtx (.ite h.modCtx.modNode.putNstat h.modCtx)) (.modCtx (.ite h.modCtx.modNode.putNstat h.modCtx))

theorem Steady.relaid {tn : Nat} (h : Steady s₀ s) : Steady s₀ (s.relaid tn) := h.freeRegion

theorem Steady.toPool {tn : Nat} {r : TaskRec} (h : Steady s₀ s) : Steady s₀ (s.toPool tn r) := h.modNode.update.relaid.reenter
theorem Steady.pushCont {t c tn : Nat} {r : TaskRec} (h : Steady s₀ s) : Steady s₀ (s.pushCont t c tn r) := .ite h.modNode.modCtx h.modNode.toPool

theorem Steady.unlistIdle {gid n : Nat} (h : Steady s₀ s) : Steady s₀ (s.unlistIdle gid n) := by
  unfold State.unlistIdle
  split
  · exact .ite h h.offList
  · exact h

end Sys2Proof.Machine

/-! ### Kernel registers, tenants and dispositions -/

namespace Sys2Proof.Machine

variable {s₀ s : State}

theorem Steady.regWrite {off : Nat} {v : W64} (h : Steady s₀ s) : Steady s₀ (s.regWrite off v) :=
  .ite h (.ite h (.ite h (.ite h (.ite h (.ite h (.ite h (.ite h (.ite h (.ite h (.ite h (.ite h (.ite h (.ite h (.ite h h))))))))))))))

theorem Steady.devcmdWrite {v : W64} (h : Steady s₀ s) : Steady s₀ (s.devcmdWrite v) := .ite h h
theorem Steady.capsetWrite {v : W64} (h : Steady s₀ s) : Steady s₀ (s.capsetWrite v) := .ite h h
theorem Steady.kill {n : Nat} (h : Steady s₀ s) : Steady s₀ (s.kill n) := Steady.update (h.foldl fun _ _ h => .ite h.killTile h)

theorem Steady.loadTenant {n : Nat} (h : Steady s₀ s) : Steady s₀ (s.loadTenant n) :=
  .ite (Steady.kill (.ite h.readMet.update.update h.readMet.update)) (.ite h.readMet.update.update h.readMet.update)

theorem Steady.ttsyncWrite {v : W64} (h : Steady s₀ s) : Steady s₀ (s.ttsyncWrite v) := .ite h h
theorem Steady.winsyncWrite {v : W64} (h : Steady s₀ s) : Steady s₀ (s.winsyncWrite v) := .ite h (.ite h.readMet.modEth.update h.readMet.modEth)
theorem Steady.resumeCtx {t c : Nat} (h : Steady s₀ s) : Steady s₀ (s.resumeCtx t c) := .ite h h.setCtx.modTile.taskEnd

theorem Steady.abandonCtx {t c : Nat} {cause : Cause} (h : Steady s₀ s) : Steady s₀ (s.abandonCtx t c cause) := by
  refine .ite h ?_
  dsimp only
  split
  · exact h
  · exact .ite h.setCtx.modCtx.taskEnd h.setCtx.nodeFail

theorem Steady.dispose {t : Nat} {v : W64} (h : Steady s₀ s) : Steady s₀ (s.dispose t v) := .ite h.resumeCtx (.ite h.abandonCtx h)
theorem Steady.ctxdispWrite {t : Nat} {v : W64} (h : Steady s₀ s) : Steady s₀ (s.ctxdispWrite t v) := .ite h.dispose (.ite h h)
theorem Steady.wvUpdate {p : Nat} (h : Steady s₀ s) : Steady s₀ (s.wvUpdate p) := h
theorem Steady.wvTenant {n : Nat} (h : Steady s₀ s) : Steady s₀ (s.wvTenant n) := .ite h.wvUpdate.modTenant.interrupt h.wvUpdate

theorem Steady.kernelStore {off : Nat} {v : W64} (h : Steady s₀ s) : Steady s₀ (s.kernelStore off v) :=
  .ite h.ttsyncWrite (.ite h.winsyncWrite (.ite h.devcmdWrite (.ite h.capsetWrite
    (.ite (.ite (.update (.ite (.ite h h) h)) (.ite (.ite h h) h)) h.regWrite))))

theorem Steady.windowStore {p n v : Nat} (h : Steady s₀ s) : Steady s₀ (s.windowStore p n v) :=
  .ite (.ite h (.ite h.ctxdispWrite h)) (.ite h.kernelStore h)

theorem Steady.coreWrite {pa n v : Nat} (h : Steady s₀ s) : Steady s₀ (s.coreWrite pa n v) := .ite h.windowStore h.memPut

/-! ### Accesses at their homes -/

theorem Steady.homeWrite {a : W64} {pa size v : Nat} {lanes : PReg} (h : Steady s₀ s) : Steady s₀ (s.homeWrite a pa size v lanes) :=
  .ite h (.ite h.memWrite (h.foldl fun _ _ h => h.memWrite))

theorem Steady.decAt {tn pa : Nat} {a : W64} (h : Steady s₀ s) : Steady s₀ (s.decAt tn a pa).st := by
  unfold State.decAt
  dsimp only
  split
  · exact .ite h h.failedAt
  · exact h.homeWrite

theorem Steady.atHome {tn pa size data data2 : Nat} {k : RKind} {a : W64} {lanes : PReg} (h : Steady s₀ s) :
    Steady s₀ (s.atHome tn k a pa size data data2 lanes).st := by
  unfold State.atHome
  split
  · exact .ite h h.failedAt
  · split
    · exact h
    · exact h.homeWrite
    · exact h.homeWrite
    · exact h.decAt
    · exact h.decAt
    · exact h.homeWrite
    · exact h
    · exact h

theorem Steady.brought {m : FabMsg} {k : RKind} {size data data2 : Nat} {lanes : PReg} (h : Steady s₀ s) :
    Steady s₀ (s.brought m k size data data2 lanes).st := by
  unfold State.brought
  split
  · exact h.atHome
  · exact h

/-! ### Remote accesses -/

theorem Steady.addRemoteAs {id t c pa size tscope : Nat} {k : RKind} {a data2 : W64} {data : VReg} {lanes : PReg} (h : Steady s₀ s) :
    Steady s₀ (s.addRemoteAs id t c k a pa size tscope data data2 lanes) := h

theorem Steady.addRemote {t c pa size tscope : Nat} {k : RKind} {a data2 : W64} {data : VReg} {lanes : PReg} (h : Steady s₀ s) :
    Steady s₀ (s.addRemote t c k a pa size tscope data data2 lanes) := h

theorem Steady.pushRemote {pa size tscope : Nat} {k : RKind} {a data2 : W64} {data : VReg} {lanes : PReg} (h : Steady s₀ s) :
    Steady s₀ (s.pushRemote k a pa size tscope data data2 lanes) := h

theorem Steady.release {t c tn : Nat} {r : TaskRec} (h : Steady s₀ s) : Steady s₀ (s.release t c tn r) :=
  .ite h (.ite (h.pushCont.foldl fun _ _ h => h.modCtx) h.pushCont)

theorem Steady.settle {t c val : Nat} {r : Remote} {fail : Option Cause} (h : Steady s₀ s) : Steady s₀ (s.settle t c r val fail) :=
  (h.foldl fun _ _ h => h.foldl fun _ _ h => h.modCtx).modCtx

theorem Steady.taskEnds {t c : Nat} (h : Steady s₀ s) : Steady s₀ (s.taskEnds t c) := h.foldl fun _ _ h => h.taskEnd

/-- What the CONT of an access releases. -/
theorem Steady.released {t c tn gid n : Nat} {cont : Option Nat} (h : Steady s₀ s) :
    Steady s₀ (match cont with | some b => s.release t c tn (recOf gid n b) | none => s) := by
  cases cont with
  | none => exact h
  | some b => exact h.release

theorem Steady.afterAccess {t c : Nat} {r : Remote} {fail : Option Cause} {cont : Option Nat} (h : Steady s₀ s) :
    Steady s₀ (s.afterAccess t c r fail cont) := by
  have hr : Steady s₀ _ := h.released (t := t) (c := c) (tn := r.tenant) (gid := r.gid) (n := r.node) (cont := cont)
  cases fail with
  | some x => exact .ite hr.nodeFail hr.taskEnds
  | none =>
    refine Steady.taskEnds ?_
    cases r.kind
    case joinDec => exact (hr.foldl fun _ _ h => h.modCtx).counted
    case report => exact hr.counted
    all_goals exact hr

theorem Steady.sendFrom {t n : Nat} {k : BitVec 4} {m : FabMsg} (h : Steady s₀ s) : Steady s₀ (s.sendFrom t n k m) := h

theorem Steady.performOwn {t c : Nat} {r : Remote} (h : Steady s₀ s) : Steady s₀ (s.performOwn t c r) :=
  .ite h (.ite (.ite h.settle.afterAccess h.sendFrom.modCtx) (.ite h h.atHome.settle.afterAccess))

theorem Steady.settleHeld {val : Nat} {r : Remote} {fail : Option Cause} (h : Steady s₀ s) : Steady s₀ (s.settleHeld r val fail) := h

/-- The record that a saved access releases goes to its node's pool. -/
theorem Steady.pooled {tn gid n : Nat} {f : GNode → GNode} {cont : Option Nat} (h : Steady s₀ s) :
    Steady s₀ (match cont with
      | some b => if s.takesWork gid n then (s.modNode gid n f).toPool tn (recOf gid n b) else s
      | none => s) := by
  cases cont with
  | none => exact h
  | some b => exact .ite h.modNode.toPool h

theorem Steady.performHeld {t : Nat} {r : Remote} (h : Steady s₀ s) : Steady s₀ (s.performHeld t r) := by
  refine .ite h (.ite h ?_)
  dsimp only
  split
  · exact .ite (.nodeFail (.ite h.atHome.settleHeld.pooled.counted h.atHome.settleHeld.pooled))
      (.ite h.atHome.settleHeld.pooled.counted h.atHome.settleHeld.pooled)
  · exact .ite h.atHome.settleHeld.pooled.counted h.atHome.settleHeld.pooled

theorem Steady.perform {t c i : Nat} (h : Steady s₀ s) : Steady s₀ (s.perform t c i) := by
  unfold State.perform
  split
  · exact h.performOwn
  · split
    · exact h.performHeld
    · exact h

theorem Steady.ldxReturn {t c q : Nat} (h : Steady s₀ s) : Steady s₀ (s.ldxReturn t c q) := by
  unfold State.ldxReturn
  split
  · exact h
  · exact .ite h h.modCtx.taskEnd

theorem Steady.arrive {t c tscope id : Nat} {a : W64} (h : Steady s₀ s) : Steady s₀ (s.arrive t c a tscope id) := by
  refine .ite (.ite h (.ite ?_ h)) h.addRemoteAs
  split
  · exact h.nodeFail
  · exact h

theorem Steady.forked {t c : Nat} {r : TaskRec} (h : Steady s₀ s) : Steady s₀ (s.forked t c r) := .ite h h

/-! ### The handle queue -/

theorem Steady.hqStep {t c : Nat} {s' : State} (h : Steady s₀ s) (e : s.hqStep t c = some s') : Steady s₀ s' := by
  unfold State.hqStep at e
  dsimp only at e
  split at e
  · cases e; exact h
  · cases e; exact h
  · split at e
    · cases e
    · cases e; exact h.modCtx.counted.arrive
  · cases e; exact h.modCtx.counted.forked
  · split at e
    · cases e; exact h
    · cases e; exact h.modCtx.addRemote
  · cases e

theorem Steady.hqRun {n t c : Nat} (h : Steady s₀ s) : Steady s₀ (State.hqRun n s t c) := by
  induction n generalizing s with
  | zero => exact h
  | succ n ih =>
    unfold State.hqRun
    split
    next e => exact ih (h.hqStep e)
    · exact h

theorem Steady.hqDrain {t c : Nat} (h : Steady s₀ s) : Steady s₀ (s.hqDrain t c) := h.hqRun
theorem Steady.hqTurn {t c : Nat} (h : Steady s₀ s) : Steady s₀ (s.hqTurn t c) := .ite h (.ite h.choose.hqDrain h.choose)

theorem Steady.joinDecrement {t c : Nat} (h : Steady s₀ s) : Steady s₀ (s.joinDecrement t c) := by
  unfold State.joinDecrement
  split
  · exact .ite h h.addRemote.perform
  · exact h

theorem Steady.headRun {t c : Nat} (h : Steady s₀ s) : Steady s₀ (s.headRun t c) := by
  unfold State.headRun
  split
  · exact .ite h h.doHead.hqDrain
  · exact h

end Sys2Proof.Machine

/-! ### The matrix queue, the array and the Nib -/

namespace Sys2Proof.Machine

variable {s₀ s : State}

theorem Steady.stopEngine {t c eq : Nat} {cause : Cause} {a : W64} (h : Steady s₀ s) : Steady s₀ (s.stopEngine t c cause eq a) :=
  .ite h h.takeException

theorem Steady.matrixFail {t : Nat} {m : MCmd} {c : Cause} (h : Steady s₀ s) : Steady s₀ (s.matrixFail t m c) :=
  h.dropMatrix.tell.modTile.stopEngine

theorem Steady.matrixEnd {t : Nat} {m : MCmd} (h : Steady s₀ s) : Steady s₀ (s.matrixEnd t m) := h.tell.modTile.counted

theorem Steady.matrixDone {t : Nat} {m : MCmd} (h : Steady s₀ s) : Steady s₀ (s.matrixDone t m) := by
  unfold State.matrixDone
  split
  · exact h.matrixFail
  · exact h.matrixEnd

theorem Steady.startMatrix {t : Nat} {m : MCmd} (h : Steady s₀ s) : Steady s₀ (s.startMatrix t m) := by
  unfold State.startMatrix
  dsimp only
  split
  · exact .ite h.matrixFail h.modTile.matrixDone
  · exact .ite h.matrixFail h.modTile.matrixDone
  · split
    · exact h.modTile.matrixFail
    · exact h
  · exact h
  · exact h
  · exact .ite h.modTile.matrixDone h.matrixFail
  · split
    · exact h.matrixFail
    · exact h
  · exact .ite h.modTile.matrixDone (.ite h.matrixFail h)
  · exact .ite h.matrixFail (.ite h.matrixFail h)
  · exact .ite h.matrixFail h.modTile.matrixDone

theorem Steady.nibBeat {t : Nat} (h : Steady s₀ s) : Steady s₀ (s.nibBeat t) := by
  unfold State.nibBeat
  dsimp only
  split
  · exact h
  · refine .ite h (.ite ?_ ?_)
    · split
      · exact .ite h h
      · exact h
    · split
      · exact h.matrixFail
      · exact .ite h (.ite h.setTile.matrixDone h)

theorem Steady.runEnd {t : Nat} {b : BeatRun} {swap : Bool} (h : Steady s₀ s) : Steady s₀ (s.runEnd t b swap) :=
  .ite h (.ite h.modTile.matrixDone (.ite h (.ite h.modTile.matrixDone h.modTile.matrixFail)))

theorem Steady.arrayBeat {t : Nat} (h : Steady s₀ s) : Steady s₀ (s.arrayBeat t) := by
  unfold State.arrayBeat
  dsimp only
  split
  · exact h
  · split
    · refine .ite h (.ite h.runEnd ?_)
      split
      · exact h
      · exact .ite h (.ite h.setTile.runEnd h)
    · exact .ite h h.modTile.matrixDone
    · exact h

theorem Steady.drainPush {t : Nat} (h : Steady s₀ s) : Steady s₀ (s.drainPush t) := by
  unfold State.drainPush
  dsimp only
  split
  · exact h
  · split
    · exact .ite h (.ite h.modTile.modCtx.matrixDone h)
    · exact h

theorem Steady.cbldFail {t : Nat} {m : MCmd} {cmd : W64} (h : Steady s₀ s) : Steady s₀ (s.cbldFail t m cmd) := h.modTile.engineDone.matrixFail

theorem Steady.cbldBuild {t : Nat} (h : Steady s₀ s) : Steady s₀ (s.cbldBuild t) := by
  unfold State.cbldBuild
  dsimp only
  split
  · exact h
  · split
    · refine .ite (.ite h.cbldFail (.ite h h)) (.ite ?_ ?_)
      · split
        · exact h.cbldFail
        · exact h
      · split
        · exact h
        · refine .ite h ?_
          split
          · exact h.setTile.engineDone.matrixFail
          · exact h.setTile.engineDone
    · exact h

theorem Steady.trdefExecute {t : Nat} (h : Steady s₀ s) : Steady s₀ (s.trdefExecute t) := by
  unfold State.trdefExecute
  dsimp only
  split
  · exact h
  · split
    · refine .ite (.ite h.matrixFail (.ite h h)) (.ite h ?_)
      split
      · exact h.matrixFail
      · exact h.modTile.matrixDone
    · exact h

/-! ### The copy sequencer -/

theorem Steady.sendBlock {t n : Nat} {k : BitVec 4} {m : FabMsg} (h : Steady s₀ s) : Steady s₀ (s.sendBlock t n k m) := .ite h (.ite h h)

theorem Steady.copyEnd {t slot chunks : Nat} {k : CopyCmd} {cause : Option Cause} (h : Steady s₀ s) : Steady s₀ (s.copyEnd t slot k chunks cause) :=
  h.modTile.copyOver.taskEnd

theorem Steady.flushCq {t c : Nat} (h : Steady s₀ s) : Steady s₀ (s.flushCq t c) := h

theorem Steady.copyAdmit {t c : Nat} (h : Steady s₀ s) : Steady s₀ (s.copyAdmit t c) := by
  have hf : Steady s₀ (s.flushCq t c) := h.flushCq
  unfold State.copyAdmit
  dsimp only
  split
  · refine .ite hf ?_
    split
    · exact .ite hf hf.modCtx.copyEnd
    · exact hf
  · exact hf

theorem Steady.accpyStep {t c bank inst id gid node : Nat} {cmd : W64} {run : Option Nat} (h : Steady s₀ s) :
    Steady s₀ (s.accpyStep t c bank cmd inst id gid node run) := by
  unfold State.accpyStep
  dsimp only
  split
  · exact .ite h (.ite h.modCtx.engineDone (.ite h.modCtx.engineDone (.ite h h)))
  · exact .ite (.ite h h.setTile.modCtx.engineDone) h

theorem Steady.copyAfter {t slot : Nat} {k : CopyCmd} {o : Over} (h : Steady s₀ s) : Steady s₀ (s.copyAfter t slot k o) := h.modTile.engineDone.taskEnd

theorem Steady.copyAccept {t c : Nat} (h : Steady s₀ s) : Steady s₀ (s.copyAccept t c) := by
  have hf : Steady s₀ (s.flushCq t c) := h.flushCq
  unfold State.copyAccept
  dsimp only
  split
  · exact h.accpyStep
  · refine .ite h ?_
    split
    · split
      · exact hf
      · exact .ite hf hf
    · exact hf.accpyStep
    · exact hf

theorem Steady.askReads {t : Nat} {k : CopyCmd} (h : Steady s₀ s) : Steady s₀ (s.askReads t k) := h.foldl fun _ _ h => .ite h.sendFrom h

/-! A run of a copy carries the state in its field s. -/

theorem Steady.iteRun {c : Prop} [Decidable c] {a b : CRun} (ha : Steady s₀ a.s) (hb : Steady s₀ b.s) : Steady s₀ (if c then a else b).s := by
  split
  · exact ha
  · exact hb

/-- A fold over a copy's run. -/
theorem Steady.foldlRun {α : Type} {f : CRun → α → CRun} {l : List α} {r : CRun} (h : Steady s₀ r.s)
    (hf : ∀ (r : CRun) a, Steady s₀ r.s → Steady s₀ (f r a).s) : Steady s₀ (l.foldl f r).s :=
  foldl_inv f (fun r => Steady s₀ r.s) hf l r h

section
variable {r : CRun} {t : Nat}

theorem Steady.hold {p : Nat} {l : List Byte} (h : Steady s₀ r.s) : Steady s₀ (r.hold p l).s := .iteRun h.memWrite h

theorem Steady.overlap {p : Nat} {l : List Byte} (h : Steady s₀ r.s) : Steady s₀ (r.overlap t p l).1.s := by
  unfold CRun.overlap
  dsimp only
  split <;> exact h

theorem Steady.putLine {va : Nat} {l : List Byte} (h : Steady s₀ r.s) : Steady s₀ (r.putLine t va l).s := by
  refine .iteRun h ?_
  split
  · refine .iteRun h ?_
    split
    · exact h.overlap.memWrite
    · exact .iteRun h.hold h
  · exact h
  · exact h

theorem Steady.put {a : W64} {l : List Byte} (h : Steady s₀ r.s) : Steady s₀ (r.put t a l).s := by
  refine .iteRun h (.iteRun h (.iteRun (h.foldlRun fun _ _ h => h.putLine) (.iteRun (.iteRun h h.sendBlock) (.iteRun h ?_))))
  split
  · exact h
  · exact h.homeWrite

theorem Steady.store {row : Nat} {a : W64} {l : List Byte} (h : Steady s₀ r.s) : Steady s₀ (r.store t row a l).s :=
  .iteRun h (.iteRun (.iteRun h h) (.iteRun (.iteRun h h) h.put))

theorem Steady.flushPieces {n : Nat} (h : Steady s₀ r.s) : Steady s₀ (flushPieces t n r).s := by
  induction n generalizing r with
  | zero => exact h
  | succ n ih => exact .iteRun h (.iteRun (.iteRun h (h.foldlRun fun _ _ h => h.store)) (ih (Steady.iteRun h (h.foldlRun fun _ _ h => h.store))))

theorem Steady.pushElems {n : Nat} (h : Steady s₀ r.s) : Steady s₀ (pushElems t n r).s := by
  induction n generalizing r with
  | zero => exact h
  | succ n ih => exact .iteRun h (.iteRun h (ih h.modCtx))

theorem Steady.flushLines {n : Nat} {all : Bool} (h : Steady s₀ r.s) : Steady s₀ (flushLines t all n r).s := by
  induction n generalizing r with
  | zero => exact h
  | succ n ih => exact .iteRun h (.iteRun h.store (ih h.store))

theorem Steady.flush (h : Steady s₀ r.s) : Steady s₀ (r.flush t).s := .iteRun h (.iteRun h.pushElems (.iteRun h.flushLines h.flushPieces))

theorem Steady.deliver {u : CUnit} (h : Steady s₀ r.s) : Steady s₀ (r.deliver t u).s := by
  have hs : Steady s₀ (match u.scale with
      | some (a, b) => if r.k.out < r.k.sent then r else r.put t a [b]
      | none => r).s := by
    split
    · exact .iteRun h h.put
    · exact h
  exact .iteRun hs hs

theorem Steady.chosen (h : Steady s₀ r.s) : Steady s₀ r.chosen.s := .iteRun h h

theorem Steady.copyLoop {n : Nat} (h : Steady s₀ r.s) : Steady s₀ (copyLoop t n r).s := by
  induction n generalizing r with
  | zero => exact h
  | succ n ih =>
    refine .iteRun h ?_
    dsimp only
    split
    · exact h.chosen
    · exact .iteRun h.chosen.deliver (ih (Steady.flush (r := { r.chosen.deliver t _ with k := _ }) h.chosen.deliver))

theorem Steady.copyTail (h : Steady s₀ r.s) : Steady s₀ (copyTail t r).s := .iteRun h (.iteRun (.iteRun h h) (.iteRun h.flushLines h))

theorem Steady.copyRun {n : Nat} {k : CopyCmd} (h : Steady s₀ s) : Steady s₀ (s.copyRun t k n).s :=
  Steady.copyTail (Steady.copyLoop (r := { CRun.flush { s := s, k := k, halt := none } t with k := _ })
    (Steady.flush (r := { s := s, k := k, halt := none }) h))

end

theorem Steady.countCopy {t slot : Nat} {k : CopyCmd} (h : Steady s₀ s) : Steady s₀ (s.countCopy t slot k).1 := h

theorem Steady.copyFinish {t slot : Nat} {k : CopyCmd} (h : Steady s₀ s) : Steady s₀ (s.copyFinish t slot k) := by
  refine .ite h.countCopy.choose ?_
  split
  · exact h.countCopy.choose.copyEnd
  · exact h.countCopy.choose.copyEnd

theorem Steady.putCopy {t slot : Nat} {k : CopyCmd} (h : Steady s₀ s) : Steady s₀ (s.putCopy t slot k) := h

theorem Steady.copyComplete {t slot : Nat} (h : Steady s₀ s) : Steady s₀ (s.copyComplete t slot) := by
  unfold State.copyComplete
  split
  · exact h
  · refine .ite ?_ (.ite h.copyFinish (.ite h.askReads.modTile (.ite h h.countCopy.choose.copyRun.metIn.putCopy)))
    split
    · exact h.copyAfter
    · exact h

theorem Steady.copyPark {t slot : Nat} (h : Steady s₀ s) : Steady s₀ (s.copyPark t slot) := by
  unfold State.copyPark
  split
  · exact h
  · refine .ite h ?_
    dsimp only
    split
    · exact h.countCopy.copyRun.putCopy.stopEngine
    · exact h

end Sys2Proof.Machine

/-! ### Winnow and Brush -/

namespace Sys2Proof.Machine

variable {s₀ s : State}

theorem Steady.winAccept {d : Nat} (h : Steady s₀ s) : Steady s₀ (s.winAccept d) := by
  refine .ite h ?_
  split
  · exact h
  · split
    · exact h
    · exact .ite h.modDie.modTile.modDie (.ite h.modDie.modTile.winDone (.ite h.modDie.modTile.winDone
        (.ite h.modDie.modTile.winDone h.modDie.modTile.modTile.modDie)))

theorem Steady.putMask {t : Nat} {j : WJob} {l : List Bool} (h : Steady s₀ s) : Steady s₀ (s.putMask t j l) := h

theorem Steady.digitPass {j : WJob} {l : List (Nat × Nat)} {cand : List Bool} (h : Steady s₀ s) : Steady s₀ (s.digitPass j l cand).1 := by
  unfold State.digitPass
  dsimp only
  split <;> exact h

theorem Steady.winResult {j : WJob} {cand : List Bool} (h : Steady s₀ s) : Steady s₀ (s.winResult j cand).1 := by
  unfold State.winResult
  dsimp only
  split <;> exact h

theorem Steady.winCompute {t : Nat} {j : WJob} {l : List (Nat × Nat)} (h : Steady s₀ s) : Steady s₀ (s.winCompute t j l).1 :=
  .iteFst h.putMask (.iteFst h.digitPass.putMask.winResult h.digitPass.putMask)

theorem Steady.winPassEnd {d : Nat} (h : Steady s₀ s) : Steady s₀ (s.winPassEnd d) := by
  unfold State.winPassEnd
  dsimp only
  split
  · exact h
  · refine .ite h.modDie (.ite h ?_)
    split
    · exact .ite h.modDie.metIn h.modDie.metIn.winDone
    · exact h
    · refine .ite h.modDie.winCompute.putWinStatus (.ite h.modDie.winCompute.winDone ?_)
      split
      next e => exact (h.modDie.winCompute.putWinStatus.of_fst e).modTile
      next e => exact (h.modDie.winCompute.putWinStatus.of_fst e).winDone

theorem Steady.winPark {d : Nat} (h : Steady s₀ s) : Steady s₀ (s.winPark d) := by
  unfold State.winPark
  dsimp only
  split
  · exact h
  · refine .ite h ?_
    split
    · exact h
    · exact .ite h (.ite h.modDie.winDone h.modDie.putWinStatus.modTile.stopEngine)

theorem Steady.brushDone {t mask : Nat} {j : BJob} {met : Bool} (h : Steady s₀ s) : Steady s₀ (s.brushDone t j met mask) :=
  Steady.engineDone (.iteFst h.putWords.vaPut h.putWords)

theorem Steady.brushAccept {k : Nat} (h : Steady s₀ s) : Steady s₀ (s.brushAccept k) := by
  refine .ite h ?_
  split
  · exact h
  · split
    · exact h
    · refine .ite h ?_
      dsimp only
      split
      · exact h.modCluster.modTile.engineDone
      · exact .ite h.modCluster.modTile.brushDone h

theorem Steady.encodeBlock {cl : Nat} {j : BJob} (h : Steady s₀ s) : Steady s₀ (s.encodeBlock cl j).1 := by
  unfold State.encodeBlock
  dsimp only
  split
  · exact h
  · split
    · exact h
    · split <;> exact h

/-- The words of a region are written until one fails. -/
theorem Steady.writeWords {wk : Walker} {tn : Nat} {l : List Piece} (h : Steady s₀ s) :
    Steady s₀ (l.foldl (fun (a : State × Option Cause) p =>
      match a.2 with
      | some _ => a
      | none => a.1.vaWriteLong wk tn (p.1 % 2 ^ 64) p.2) (s, none)).1 :=
  h.foldlFst fun p a h => by
    split
    · exact h
    · exact h.vaWriteLong

theorem Steady.updateRegion {cl : Nat} {j : BJob} (h : Steady s₀ s) : Steady s₀ (s.updateRegion cl j).1 := by
  unfold State.updateRegion
  lift_lets
  extract_lets
  split
  · exact h
  · lift_lets
    extract_lets
    split
    · exact h
    · lift_lets
      extract_lets
      split
      · exact h
      · lift_lets
        extract_lets
        split
        · exact h.writeWords
        · exact h.writeWords

theorem Steady.tlbFill {n tn va : Nat} {a : Acc} (h : Steady s₀ s) : Steady s₀ (s.tlbFill n tn va a) := by
  refine .ite h ?_
  split
  · exact .ite h h
  · exact h

theorem Steady.brushTouch {cl : Nat} {j : BJob} (h : Steady s₀ s) : Steady s₀ (s.brushTouch cl j) := h.foldl fun _ _ h => h.tlbFill

theorem Steady.brushUnit {k : Nat} {j : BJob} (h : Steady s₀ s) : Steady s₀ (s.brushUnit k j).1 := .iteFst h.updateRegion (.iteFst h h.encodeBlock)

theorem Steady.brushComplete {k : Nat} (h : Steady s₀ s) : Steady s₀ (s.brushComplete k) := by
  unfold State.brushComplete
  split
  · exact h
  · exact .ite h (.ite (.ite h.brushUnit.metIn.modCluster.brushTouch h.brushUnit.metIn.modCluster.brushTouch.putWords)
      (.ite h.brushUnit.metIn.modCluster.brushTouch.brushDone h.brushUnit.metIn.modCluster.brushTouch.modTile))

/-! ### The key-value unit -/

theorem Steady.kvSet {t c id : Nat} {r : KRun} (h : Steady s₀ s) : Steady s₀ (s.kvSet t c id r) := h
theorem Steady.kvEnd {t c id : Nat} {e : Option Cause} (h : Steady s₀ s) : Steady s₀ (s.kvEnd t c id e) := h

theorem Steady.addReport {t c id gid node : Nat} {tag word : W64} (h : Steady s₀ s) : Steady s₀ (s.addReport t c tag word id gid node) :=
  h.addRemoteAs.modCtx

theorem Steady.kvStep {t c : Nat} {s' : State} (h : Steady s₀ s) (e : s.kvStep t c = some s') : Steady s₀ s' := by
  unfold State.kvStep at e
  dsimp only at e
  split at e
  · cases e
  · generalize ((s.tile t).ctx c).kvNext = next at e
    rcases next with _ | k
    · cases e
    · cases k
      case rprset =>
        dsimp only at e
        split at e <;> cases e
        exact h
      case clear =>
        dsimp only at e
        split at e <;> cases e
        exact h
      case rep =>
        dsimp only at e
        split at e <;> cases e
        exact h.addReport
      all_goals cases e

theorem Steady.kvSteps {n t c : Nat} (h : Steady s₀ s) : Steady s₀ (State.kvSteps n s t c) := by
  induction n generalizing s with
  | zero => exact h
  | succ n ih =>
    unfold State.kvSteps
    split
    next e => exact ih (h.kvStep e)
    · exact h

theorem Steady.kvFlush {t c : Nat} (h : Steady s₀ s) : Steady s₀ (s.kvFlush t c) := h.kvSteps
theorem Steady.popKq {t c id : Nat} (h : Steady s₀ s) : Steady s₀ (s.popKq t c id) := h.modCtx.kvFlush
theorem Steady.kvDone {t c id bw : Nat} {e : Option Cause} (h : Steady s₀ s) : Steady s₀ (s.kvDone t c id bw e) := h.engineDone.popKq

theorem Steady.xldRead {t c id : Nat} {tag : W64} (h : Steady s₀ s) : Steady s₀ (s.xldRead t c tag id) := by
  refine .ite h ?_
  split
  · exact h
  · split
    · exact .ite h h.readMets.kvEnd
    · exact h

theorem Steady.xldExecute {t c : Nat} (h : Steady s₀ s) : Steady s₀ (s.xldExecute t c) := by
  unfold State.xldExecute
  dsimp only
  split
  · exact .ite h h.kvDone
  · exact h.xldRead
  · exact .ite h h
  · exact h

theorem Steady.xinvStep {t c : Nat} (h : Steady s₀ s) : Steady s₀ (s.xinvStep t c) := by
  unfold State.xinvStep
  dsimp only
  split
  · exact .ite h (.ite h h.stamp.update.kvDone)
  · exact h

theorem Steady.xinvComplete {t c : Nat} (h : Steady s₀ s) : Steady s₀ (s.xinvComplete t c) := by
  unfold State.xinvComplete
  split
  · exact .ite h h.kvDone
  · exact h

theorem Steady.gatherAccept {t c : Nat} (h : Steady s₀ s) : Steady s₀ (s.gatherAccept t c) := by
  unfold State.gatherAccept
  dsimp only
  split
  · refine .ite h ?_
    split
    · exact h.modTile.popKq
    · split
      · exact h.modTile.popKq
      · exact h.stamp.modTile.modTile.popKq
  · exact h

theorem Steady.gatherRows {t : Nat} {g : Gather} {l : List (Nat × Nat × Nat)} (h : Steady s₀ s) : Steady s₀ (s.gatherRows t g l).1 :=
  h.foldlFst fun p a h => by
    split
    · exact h
    · split <;> exact h

theorem Steady.gatherBlock {t c : Nat} (h : Steady s₀ s) : Steady s₀ (s.gatherBlock t c) := by
  unfold State.gatherBlock
  dsimp only
  split
  · exact h
  next g _ =>
    have hm : Steady s₀ (s.modTile t (fun x => x.modInst g.inst HEntry.settle)) := h
    refine .ite hm ?_
    split
    · exact hm.metIn.modTile
    · exact .ite hm hm
    · split
      next e => exact (hm.gatherRows.of_fst e).metIn.modTile
      next e => exact .kvFlush (.ite (hm.gatherRows.of_fst e).modTile (hm.gatherRows.of_fst e).modTile)

theorem Steady.gatherComplete {t c : Nat} (h : Steady s₀ s) : Steady s₀ (s.gatherComplete t c) := by
  unfold State.gatherComplete
  split
  · exact h
  · exact h.modTile.engineDone.kvFlush

theorem Steady.spliceFails {t c id res : Nat} {e : Cause} (h : Steady s₀ s) : Steady s₀ (s.spliceFails t c id res e) := .ite h h

theorem Steady.spliceStops {α : Type} {t c id res : Nat} {e : Cause} {f : State → Except Cause α} (h : Steady s₀ s) :
    Steady s₀ (s.spliceStops t c id res e f) := .ite h h.readMets.spliceFails

theorem Steady.spliceExecute {t c : Nat} (h : Steady s₀ s) : Steady s₀ (s.spliceExecute t c) := by
  unfold State.spliceExecute
  dsimp only
  split
  · refine .ite h ?_
    split
    · exact h.kvDone
    · exact .ite h.kvDone h
  · split
    · refine .ite ?_ ?_
      · split
        · exact h.spliceStops
        · exact h
      · split
        · exact h.spliceStops
        · exact h
    · split
      · exact h.choose.putPieces.spliceFails
      · exact h.choose.putPieces.kvSet
    · exact h.kvDone
    · exact .ite h.putPieces.kvEnd h.putPieces
    · split
      · exact h.putPieces.spliceFails
      · exact h.putPieces.kvEnd
      · exact h.putPieces.kvSet
    · split
      · exact .ite h h.modTile.spliceStops
      · exact h
  · exact h

/-- A step of a lookup or an insertion writes its entry, takes the one it names, or chooses one. -/
theorem Steady.bucketWritten {wk : Walker} {tn va : Nat} {wr idx : Option Nat} (h : Steady s₀ s) :
    Steady s₀ (match wr with
      | some e => s.vaPut wk tn va (toBytes 32 e)
      | none => (match idx with | some _ => s | none => (s.choose 8).2, none)).1 := by
  cases wr with
  | some e => exact h.vaPut
  | none => cases idx <;> exact h

theorem Steady.prefixBucket {t c op id : Nat} {b : BitVec 512} {va : W64} (h : Steady s₀ s) : Steady s₀ (s.prefixBucket t c op b va id) := by
  unfold State.prefixBucket
  dsimp only
  split
  · exact .ite h h.readMets.kvEnd
  · split
    · exact h
    · split
      · exact .ite h h.bucketWritten.kvEnd
      · exact h.bucketWritten.kvSet

theorem Steady.prefixGo {t c : Nat} {k : KCmd} (h : Steady s₀ s) : Steady s₀ (s.prefixGo t c k) := by
  unfold State.prefixGo
  dsimp only
  split
  · refine .ite h ?_
    split
    · exact h.kvDone
    · exact h
  · exact h.kvDone
  · split
    · exact h.putPieces.kvEnd
    · exact h.putPieces.kvSet
  · exact h.prefixBucket
  · exact h

theorem Steady.prefixStep {t c : Nat} (h : Steady s₀ s) : Steady s₀ (s.prefixStep t c) := by
  refine .ite h ?_
  split
  · exact h.choose.prefixGo
  · exact h

/-! ### Retouch -/

theorem Steady.putMarks {j : RJob} (h : Steady s₀ s) : Steady s₀ (s.putMarks j).1 := by
  unfold State.putMarks
  dsimp only
  split
  · exact h.readMets
  · exact h.vaPut

theorem Steady.setMark {tn blk v : Nat} (h : Steady s₀ s) : Steady s₀ (s.setMark tn blk v).1 := by
  unfold State.setMark
  split
  · exact h.readMets
  · exact h.vaPut

theorem Steady.putJob {d p : Nat} {j : RJob} (h : Steady s₀ s) : Steady s₀ (s.putJob d p j) := h
theorem Steady.freePlace {d p : Nat} (h : Steady s₀ s) : Steady s₀ (s.freePlace d p) := h

theorem Steady.passRecords {d p : Nat} (h : Steady s₀ s) : Steady s₀ (s.passRecords d p) := by
  unfold State.passRecords
  split
  · exact h
  · exact .ite h h.putJob.modNode.update.relaid.reenter

theorem Steady.jobLive {j : RJob} {n : Nat} (h : Steady s₀ s) : Steady s₀ (s.jobLive j n) := h
theorem Steady.jobFail {d p : Nat} {j : RJob} {c : Cause} (h : Steady s₀ s) : Steady s₀ (s.jobFail d p j c) :=
  h.vaPut.modNode.update.jobLive.freePlace.unlistIdle

theorem Steady.jobArrive {d p : Nat} {j : RJob} (h : Steady s₀ s) : Steady s₀ (s.jobArrive d p j) := .ite (.ite h h) (.ite h h)

theorem Steady.jobEnter {d p : Nat} {j : RJob} (h : Steady s₀ s) : Steady s₀ (s.jobEnter d p j) := by
  unfold State.jobEnter
  dsimp only
  split
  next e => exact (h.vaPut.of_fst e).jobFail
  next e => exact .ite (h.vaPut.of_fst e).jobLive.jobArrive (h.vaPut.of_fst e).putJob.passRecords

theorem Steady.jobChecked {d p l : Nat} {j : RJob} (h : Steady s₀ s) : Steady s₀ (s.jobChecked d p j l) := by
  unfold State.jobChecked
  dsimp only
  split
  · exact h.readMets.jobFail
  · split
    next e => exact (h.putMarks.of_fst e).jobFail
    next e => exact (h.putMarks.of_fst e).jobEnter

theorem Steady.jobReported {d p y : Nat} {j : RJob} (h : Steady s₀ s) : Steady s₀ (s.jobReported d p j y) := by
  unfold State.jobReported
  split
  · split
    next e => exact (h.setMark.of_fst e).jobFail
    next e => exact (h.setMark.of_fst e).putJob
  · exact h

theorem Steady.repairReport {t c : Nat} (h : Steady s₀ s) : Steady s₀ (s.repairReport t c) := by
  unfold State.repairReport
  dsimp only
  split
  · exact h.kvFlush
  · split
    · exact h.kvFlush.settle.afterAccess
    · exact .ite h.kvFlush.settle.afterAccess h.kvFlush.settle.afterAccess.jobReported

theorem Steady.copyFresh {j : RJob} (h : Steady s₀ s) : Steady s₀ (s.copyFresh j).1 := by
  unfold State.copyFresh
  split
  · exact h.readMets
  · exact h.vaWrites

theorem Steady.markAll {j : RJob} (h : Steady s₀ s) : Steady s₀ (s.markAll j).1 :=
  h.foldlFst fun p a h => by
    split
    · exact h
    · exact h.setMark

theorem Steady.retouchWriteback {d p : Nat} (h : Steady s₀ s) : Steady s₀ (s.retouchWriteback d p) := by
  unfold State.retouchWriteback
  split
  · exact h
  · split
    · exact h.jobArrive
    · refine .ite h ?_
      split
      next e => exact (h.copyFresh.of_fst e).jobFail
      next e =>
        have hc := h.copyFresh.of_fst e
        split
        next e => exact (hc.markAll.of_fst e).jobFail
        next e => exact (hc.markAll.of_fst e).jobEnter
    · exact .ite (.ite h.jobChecked h) h.passRecords
    · exact .ite (.ite h h.jobEnter) h.passRecords

theorem Steady.retouchAccept {t c : Nat} (h : Steady s₀ s) : Steady s₀ (s.retouchAccept t c) := by
  unfold State.retouchAccept
  dsimp only
  split
  · refine .ite h ?_
    split
    · exact h.kvDone
    · exact h
    · exact .ite h.kvDone h
  · refine .ite h ?_
    split
    · exact h.modTile.readMets.kvEnd
    · exact h.modTile.kvEnd.modDie.modNode.jobEnter
  · exact h.kvDone
  · exact h

end Sys2Proof.Machine

/-! ### The fabric unit -/

namespace Sys2Proof.Machine

variable {s₀ s : State}

theorem Steady.cutQuarantined (h : Steady s₀ s) : Steady s₀ s.cutQuarantined := .ite h (h.foldl fun _ _ h => h.modTile)

theorem Steady.newHealth {u : UnitName} {n tmask : Nat} {hl : Health} {c : Cause} (h : Steady s₀ s) : Steady s₀ (s.newHealth u n hl c tmask) :=
  h.modUnit.klog.cutQuarantined

theorem Steady.linkDown {u : UnitName} {n : Nat} (h : Steady s₀ s) : Steady s₀ (s.linkDown u n) := h.newHealth.klog

theorem Steady.sendDone {t id : Nat} {err : Option Cause} (h : Steady s₀ s) : Steady s₀ (s.sendDone t id err) := by
  unfold State.sendDone
  split
  · exact h
  · exact h.modTile.engineDone

theorem Steady.answer {port d arg : Nat} {k : BitVec 4} {m : FabMsg} {data : List Byte} (h : Steady s₀ s) : Steady s₀ (s.answer port d k m arg data) := h

theorem Steady.replySend {d n : Nat} {q : SendReq} {err : Option Cause} (h : Steady s₀ s) : Steady s₀ (s.replySend d q err n) := by
  refine .ite ?_ h.answer
  split
  · exact h.sendDone
  · exact h

theorem Steady.recvDone {d rlen : Nat} {r : Recv} {q : SendReq} {err : Option Cause} (h : Steady s₀ s) : Steady s₀ (s.recvDone d r q rlen err) := by
  have hw : Steady s₀ (match (s.tile d).outcome r.id with
      | some o => (s, o.err)
      | none => s.vaPut (if s.recvWaits d r then .walk else .tile d) r.tenant ((r.va.toNat + 24) % 2 ^ 64) (toBytes 8 (recvResult rlen q))).1 := by
    split
    · exact h
    · exact h.vaPut
  exact hw.modTile.tell.engineDone

theorem Steady.recvOver {d : Nat} {r : Recv} {q : SendReq} (h : Steady s₀ s) : Steady s₀ (s.recvOver d r q) := .ite h.recvDone.sendDone h.recvDone

theorem Steady.recvGo {d : Nat} {r : Recv} (h : Steady s₀ s) : Steady s₀ (s.recvGo d r) := by
  unfold State.recvGo
  split
  · exact h
  · refine .ite h ?_
    split
    · exact .ite h h.recvOver
    · exact .ite h (.ite h.setCtx.modTile.recvOver.taskEnd h)

theorem Steady.recvBytes {d off : Nat} {r : Recv} {l : List Byte} (h : Steady s₀ s) : Steady s₀ (s.recvBytes d r off l) := h.setTile.recvGo

theorem Steady.meet {d : Nat} {q : SendReq} {r : Recv} (h : Steady s₀ s) : Steady s₀ (s.meet d q r) := by
  refine .ite h.modTile.recvDone.replySend (.ite h.modTile.modTile.replySend ?_)
  split
  · exact h.modTile.modTile.replySend.recvBytes
  · exact h.modTile.modTile.replySend

theorem Steady.matchAll {n d : Nat} (h : Steady s₀ s) : Steady s₀ (State.matchAll n s d) := by
  induction n generalizing s with
  | zero => exact h
  | succ n ih =>
    unfold State.matchAll
    split
    · exact ih h.meet
    · exact h

theorem Steady.matchTile {d : Nat} (h : Steady s₀ s) : Steady s₀ (s.matchTile d) := h.matchAll
theorem Steady.staleRequests {d : Nat} (h : Steady s₀ s) : Steady s₀ (s.staleRequests d) := h.foldl fun _ _ h => h.modTile.replySend

theorem Steady.deliver' {t : Nat} {r : SendRun} (h : Steady s₀ s) : Steady s₀ (s.deliver t r) :=
  .ite h (.ite h.sendDone (.ite h.sendDone (.ite h h.modTile.matchTile)))

theorem Steady.deliverAll {t : Nat} (h : Steady s₀ s) : Steady s₀ (s.deliverAll t) := h.foldl fun _ _ h => .ite h.deliver' h

theorem Steady.sendAccept {t c : Nat} (h : Steady s₀ s) : Steady s₀ (s.sendAccept t c) := by
  unfold State.sendAccept
  dsimp only
  split
  · refine .ite h.deliverAll ?_
    split
    · exact h.deliverAll.modCtx.engineDone
    · exact .ite h.deliverAll.modCtx.engineDone (.ite h.deliverAll.modCtx.modTile.deliver' (.ite h.deliverAll.modCtx.modTile.sendDone
        h.deliverAll.modCtx.modTile.sendFrom))
  · exact h.deliverAll

theorem Steady.recvAfter {t : Nat} {r : Recv} {o : Over} {post : Tile → Tile} (h : Steady s₀ s) : Steady s₀ (s.recvAfter t r o post) := by
  unfold State.recvAfter
  split
  · exact h.engineDone
  · exact .ite h.modTile.modTile.recvDone h.modTile.modTile.recvBytes

/-- Receives that a send has met go on. -/
theorem Steady.recvsGo {t : Nat} {l : List Recv} (h : Steady s₀ s) : Steady s₀ (l.foldl (fun (s : State) (r : Recv) =>
    match (s.tile t).posted.find? (fun p => decide (p.id = r.id)) with | some r => s.recvGo t r | none => s) s) :=
  h.foldl fun _ _ h => by
    split
    · exact h.recvGo
    · exact h

theorem Steady.recvPost {t c : Nat} (h : Steady s₀ s) : Steady s₀ (s.recvPost t c) := by
  unfold State.recvPost
  extract_lets s₁ s₂ x
  have hs : Steady s₀ s₂ := h.staleRequests.recvsGo
  split
  · exact hs
  · split
    · exact hs
    · refine .ite hs (.ite hs.modCtx.engineDone (.ite hs (.ite hs ?_)))
      split
      · exact hs.modCtx.modTile.matchTile
      · exact hs.modCtx.recvAfter

/-! ### What a port takes in -/

theorem Steady.taken {port : Nat} {l : List (BitVec 512)} (h : Steady s₀ s) : Steady s₀ (s.taken port l) := h

theorem Steady.arrives {port : Nat} {k : BitVec 4} {l : List (BitVec 512)} {act : State → FabMsg → Option State} (h : Steady s₀ s)
    (ha : ∀ {s m t}, Steady s₀ s → act s m = some t → Steady s₀ t) : Steady s₀ (s.arrives port k l act) := by
  refine .ite h ?_
  split
  · exact h.taken
  · exact .getD h fun t e => ha h.taken e

theorem Steady.wrote {port : Nat} {m : FabMsg} {fail : Option Cause} (h : Steady s₀ s) : Steady s₀ (s.wrote port m fail) := by
  cases fail <;> exact h

/-- A request that a port takes in where it need not wait. -/
theorem Steady.of_guarded {b : Bool} {t t' : State} (h : Steady s₀ t) (e : (if b then none else some t) = some t') : Steady s₀ t' := by
  split at e <;> cases e
  exact h

theorem Steady.storeIn {port : Nat} {m : FabMsg} {t : State} (h : Steady s₀ s) (e : s.storeIn port m = some t) : Steady s₀ t :=
  h.brought.wrote.of_guarded e

theorem Steady.arrivalIn {port : Nat} {m : FabMsg} {t : State} (h : Steady s₀ s) (e : s.arrivalIn port m = some t) : Steady s₀ t :=
  h.brought.wrote.of_guarded e

theorem Steady.loadIn {port : Nat} {m : FabMsg} {t : State} (h : Steady s₀ s) (e : s.loadIn port m = some t) : Steady s₀ t := by
  refine Steady.of_guarded ?_ e
  split
  · exact h.brought.answer
  · exact h.brought.answer

theorem Steady.loadReturn {m : FabMsg} (h : Steady s₀ s) : Steady s₀ (s.loadReturn m) := by
  refine .ite h ?_
  dsimp only
  split
  · exact h.settle.afterAccess
  · split
    · exact h
    · exact .ite h.sendDone h

theorem Steady.storeBlock {port : Nat} {m : FabMsg} (h : Steady s₀ s) : Steady s₀ (s.storeBlock port m) := .ite h h.memWrite.modPort

theorem Steady.copyArrives {port : Nat} {m : FabMsg} (h : Steady s₀ s) : Steady s₀ (s.copyArrives port m).2 := by
  unfold State.copyArrives
  split
  · exact h.wrote
  · exact h.homeWrite

theorem Steady.copyIn {port : Nat} {m : FabMsg} {t : State} (h : Steady s₀ s) (e : s.copyIn port m = some t) : Steady s₀ t :=
  Steady.of_guarded (.ite h.copyArrives.storeBlock h.copyArrives) e

theorem Steady.sendArrives {port : Nat} {m : FabMsg} (h : Steady s₀ s) : Steady s₀ (s.sendArrives port m).2 := by
  unfold State.sendArrives
  split
  · split
    · exact h.recvBytes
    · exact h.wrote
  · exact h.wrote

theorem Steady.sendIn {port : Nat} {m : FabMsg} {t : State} (h : Steady s₀ s) (e : s.sendIn port m = some t) : Steady s₀ t := by
  unfold State.sendIn at e
  dsimp only at e
  split at e
  · cases e
  · split at e
    · cases e
      exact .ite h.sendArrives.storeBlock h.sendArrives
    · split at e
      · cases e
        exact h.replySend
      · split at e
        · cases e
        · cases e
          exact h.modTile.matchTile

theorem Steady.creditIn {port : Nat} {m : FabMsg} (h : Steady s₀ s) : Steady s₀ (s.creditIn port m) := by
  unfold State.creditIn
  dsimp only
  split
  · exact h
  · exact .ite h.sendDone (h.foldl fun _ _ h => .ite h.sendBlock h.sendFrom)

theorem Steady.atomicIn {port : Nat} {m : FabMsg} {t : State} (h : Steady s₀ s) (e : s.atomicIn port m = some t) : Steady s₀ t := by
  refine Steady.of_guarded ?_ e
  split
  · exact h.brought.answer
  · exact h.brought.answer

theorem Steady.atomicReturn {m : FabMsg} {t : State} (h : Steady s₀ s) (e : s.atomicReturn m = some t) : Steady s₀ t := by
  unfold State.atomicReturn at e
  dsimp only at e
  split at e
  · cases e
    exact h
  · exact h.settle.afterAccess.of_guarded e

theorem Steady.reference {port : Nat} {m : FabMsg} {t : State} (h : Steady s₀ s) (e : s.reference port m = some t) : Steady s₀ t := by
  unfold State.reference at e
  split at e
  · cases e
  · dsimp only at e
    split at e
    · cases e
      exact h.modPort.modPort.sendFrom
    · cases e
      split
      · exact h.modPort.modPort.copyArrives
      · exact h.modPort.modPort.sendArrives

theorem Steady.dedupNak {port : Nat} {m : FabMsg} (h : Steady s₀ s) : Steady s₀ (s.dedupNak port m) := by
  unfold State.dedupNak
  split
  · exact h
  · exact .ite h h.modPort.sendFrom.klog

theorem Steady.bytesWritten {t c id : Nat} (h : Steady s₀ s) : Steady s₀ (s.bytesWritten t c id) := by
  unfold State.bytesWritten
  split
  · exact h
  · exact .ite h h.modTile.sendDone

theorem Steady.acked {port : Nat} {e : BitVec 4 × FabMsg} (h : Steady s₀ s) : Steady s₀ (s.acked port e) := by
  refine .ite ?_ (.ite ?_ (.ite ?_ h))
  · split
    · exact h.settle.afterAccess
    · exact h
  · refine Steady.bytesWritten ?_
    dsimp only
    split <;> exact h
  · split
    · exact h
    · exact h.modPort.bytesWritten

theorem Steady.hopIn {port : Nat} {k : BitVec 4} {f : BitVec 512} {act : State → BitVec 10 → State} (h : Steady s₀ s)
    (ha : ∀ n, Steady s₀ (act s n)) : Steady s₀ (s.hopIn port k f act) := .ite h (.ite h (ha _))

theorem Steady.hopAck {port : Nat} {n : BitVec 10} (h : Steady s₀ s) : Steady s₀ (State.hopAck port s n) := h.modPort.foldl fun _ _ h => h.acked
theorem Steady.trainPort {port : Nat} {peer : W64} (h : Steady s₀ s) : Steady s₀ (s.trainPort port peer) := h

/-- What a failed port held of one tile's receives ends. -/
theorem Steady.receivesEnd {t port : Nat} {l : List Recv} (h : Steady s₀ s) : Steady s₀ (l.foldl (fun (s : State) (r : Recv) => match r.met with
    | some q => if q.peer = port + 1 ∧ r.got < q.len then s.recvDone t r q 0 (some 0x75#7) else s
    | none => s) s) :=
  h.foldl fun _ _ h => by
    split
    · exact .ite h.recvDone h
    · exact h

theorem Steady.cutPort {port : Nat} (h : Steady s₀ s) : Steady s₀ (s.cutPort port) :=
  h.modPort.foldl fun _ _ h =>
    ((h.foldl fun _ _ h => h.foldl fun _ _ h => h.settle.afterAccess).modTile.foldl fun _ _ h => h.sendDone).modTile.receivesEnd

theorem Steady.noticeIn {port : Nat} {m : FabMsg} (h : Steady s₀ s) : Steady s₀ (s.noticeIn port m) := h.klog.foldl fun _ _ h => .ite h.event h

end Sys2Proof.Machine

/-! ### Graphs, the scheduler and preemption -/

namespace Sys2Proof.Machine

variable {s₀ s : State}

theorem Steady.refuseGraph {tn : Nat} {i : GraphIn} {c : Cause} (h : Steady s₀ s) : Steady s₀ (s.refuseGraph tn i c) := h.memWrite.event

theorem Steady.acceptGraph {tn q : Nat} {i : GraphIn} (h : Steady s₀ s) : Steady s₀ (s.acceptGraph tn q i) :=
  h.stamp.memWrite.update.foldl fun _ _ h => .ite h.makeReady h

theorem Steady.enqStep {k : Nat} (h : Steady s₀ s) : Steady s₀ (s.enqStep k) := by
  unfold State.enqStep
  dsimp only
  split
  · exact h
  · split
    · exact h
    · split
      · exact h
      · exact .ite h.modCore.refuseGraph (.ite h.modCore.refuseGraph (.ite h.modCore.refuseGraph h.modCore.acceptGraph))

theorem Steady.bindTile {t tn : Nat} (h : Steady s₀ s) : Steady s₀ (s.bindTile t tn) := .modCluster (.ite h h)

theorem Steady.startOn {u : Nat × Nat} {twin : Option (Nat × Nat)} {hd : Head} {eff seq : Nat} {xyz : BitVec 16 × BitVec 16 × BitVec 16}
    {r : Option TaskRec} (h : Steady s₀ s) : Steady s₀ (s.startOn u twin hd eff seq xyz r) := .ite h.bindTile.nodeFail h.bindTile.modCtx

theorem Steady.startAll {l : List (Nat × Nat)} {hd : Head} {eff : Nat} {xyz : BitVec 16 × BitVec 16 × BitVec 16} {r : Option TaskRec}
    (h : Steady s₀ s) : Steady s₀ (s.startAll l hd eff xyz r) := by
  unfold State.startAll
  split
  · exact h.startOn.startOn
  · exact h.startOn
  · exact h

theorem Steady.nowRuns {gid n : Nat} (h : Steady s₀ s) : Steady s₀ (s.nowRuns gid n) := by
  unfold State.nowRuns
  split
  · exact .ite h.nodeState h
  · exact h

theorem Steady.bindOne {d eff : Nat} {hd : Head} {t : State} (h : Steady s₀ s) (e : s.bindOne d hd eff = some t) : Steady s₀ t := by
  unfold State.bindOne at e
  dsimp only at e
  split at e
  · cases e
  · split at e
    · cases e
    · split at e
      · cases e
        exact h.update.modTile.foldl fun _ _ h => h.unlistIdle
      · split at e
        · cases e
        · split at e
          · cases e
            exact h.choose.modNode.startAll.update.relaid
          · split at e
            · cases e
            · cases e
              exact h.modNode.startAll.nowRuns

theorem Steady.bindMany {n d eff : Nat} {hd : Head} (h : Steady s₀ s) : Steady s₀ (State.bindMany n s d hd eff) := by
  induction n generalizing s with
  | zero => exact h
  | succ n ih =>
    unfold State.bindMany
    split
    next e => exact ih (h.bindOne e)
    · exact h

theorem Steady.bind {d eff : Nat} {hd : Head} (h : Steady s₀ s) : Steady s₀ (s.bind d hd eff) := h.bindMany.update.restartWait.unlistIdle

theorem Steady.preempt {d : Nat} {a : State × Nat} {hd : Head} (h : Steady s₀ a.1) : Steady s₀ (State.preempt d a hd).1 := h.foldl fun _ _ h => h

theorem Steady.round {d : Nat} (h : Steady s₀ s) : Steady s₀ (s.round d) := by
  refine Steady.foldlFst (.ite h ?_) fun _ _ h => h.preempt
  dsimp only
  split
  · exact h
  · exact h.modDie.bind

theorem Steady.loadKernel {t c : Nat} (h : Steady s₀ s) : Steady s₀ (s.loadKernel t c) := by
  unfold State.loadKernel
  split
  · exact h
  · refine .ite h ?_
    split
    · exact h.readMets.nodeFail
    · exact .ite h.nodeFail h

theorem Steady.draw {t c made : Nat} {l : List Nat} (h : Steady s₀ s) : Steady s₀ (s.draw t c l made) := h

theorem Steady.stealRequest {t c : Nat} (h : Steady s₀ s) : Steady s₀ (s.stealRequest t c) := by
  unfold State.stealRequest
  dsimp only
  split
  · exact h
  · exact .ite h (.ite h.draw (.ite h.draw h.freeCtx))

theorem Steady.stealAnswer {v : Nat} (h : Steady s₀ s) : Steady s₀ (s.stealAnswer v) := by
  unfold State.stealAnswer
  split
  · exact h
  · split
    · exact h
    · split
      · exact h.modCtx.modCtx.startRec
      · exact .ite h (.ite h.modCtx.freeCtx h.modCtx)

theorem Steady.predDone {gid j : Nat} (h : Steady s₀ s) : Steady s₀ (s.predDone gid j) := by
  unfold State.predDone
  split
  · exact h
  · exact .ite h.readMet.memPut.makeReady h.readMet.memPut

theorem Steady.nodeDone {gid n : Nat} (h : Steady s₀ s) : Steady s₀ (s.nodeDone gid n) := by
  refine .ite h ?_
  split
  · exact Steady.foldl (.ite h.nodeState.event h.nodeState) fun _ _ h => h.predDone
  · exact h

theorem Steady.writeFrame {base : Nat} {x : Tile} (h : Steady s₀ s) : Steady s₀ (s.writeFrame base x) :=
  h.memRegion.freeRegion.memRegion.foldl fun _ _ h => h.memRegion.freeRegion.freeRegion

theorem Steady.failTasks {x : Tile} {c : Cause} (h : Steady s₀ s) : Steady s₀ (s.failTasks x c) := h.foldl fun _ _ h => h.nodeFail
theorem Steady.passDeques {t : Nat} {x : Tile} (h : Steady s₀ s) : Steady s₀ (s.passDeques t x) := h.foldl fun _ _ h => h.toPool
theorem Steady.entered {f : Frame} (h : Steady s₀ s) : Steady s₀ (s.entered f) := h.foldl fun _ _ h => h.modNode.toFront

theorem Steady.saveTile {t n : Nat} {x : Tile} (h : Steady s₀ s) : Steady s₀ (s.saveTile t n x) := h.writeFrame.passDeques.update.entered.setTile
theorem Steady.kvFlushBoth {t : Nat} (h : Steady s₀ s) : Steady s₀ (s.kvFlushBoth t) := h.kvFlush.kvFlush
theorem Steady.uncut {t : Nat} (h : Steady s₀ s) : Steady s₀ (s.uncut t) := h.modTile.kvFlushBoth

theorem Steady.tileCut {t : Nat} (h : Steady s₀ s) : Steady s₀ (s.tileCut t) := by
  refine .ite h (.ite h (.ite h ?_))
  have hf : Steady s₀ ([0, 1].foldl (fun (s : State) (c : Nat) => if (s.ctx t c).draws ≠ 0 then s.freeCtx t c else s) s) :=
    h.foldl fun _ _ h => .ite h.freeCtx h
  refine .ite hf.uncut ?_
  split
  · exact hf
  · exact .ite hf (.ite hf.failTasks.uncut hf.saveTile)

theorem Steady.performId {t c id : Nat} (h : Steady s₀ s) : Steady s₀ (s.performId t c id) := by
  unfold State.performId
  dsimp only
  split
  · exact h.perform
  · exact h

theorem Steady.applyHeld {x : Held} (h : Steady s₀ s) : Steady s₀ (s.applyHeld x) := by
  cases x with
  | access t c id => exact h.performId
  | arrival d p =>
    simp only [State.applyHeld]
    split
    · exact h.jobArrive
    · exact h

theorem Steady.heldApplied {t tn : Nat} (h : Steady s₀ s) : Steady s₀ (s.heldApplied t tn) := h.foldl fun _ _ h => h.applyHeld

theorem Steady.reloadDict {t c : Nat} (h : Steady s₀ s) : Steady s₀ (s.reloadDict t c) := by
  unfold State.reloadDict
  split
  · exact h
  · refine .ite h ?_
    split
    · exact h.readMets.nodeFail
    · exact h

theorem Steady.applyDisp {t c : Nat} (h : Steady s₀ s) : Steady s₀ (s.applyDisp t c) := by
  unfold State.applyDisp
  split
  · exact h.modCtx.dispose
  · exact h

theorem Steady.dropFrame {n : Nat} (h : Steady s₀ s) : Steady s₀ (s.dropFrame n) := h

theorem Steady.restoreTile {t : Nat} {f : Frame} (h : Steady s₀ s) : Steady s₀ (s.restoreTile t f) :=
  (h.dropFrame.setTile.modCluster.foldl fun _ _ h => h.nowRuns).reloadDict.reloadDict.kvFlushBoth.heldApplied.applyDisp.applyDisp

theorem Steady.unreachable {t tn : Nat} (h : Steady s₀ s) : Steady s₀ (s.unreachable t tn) := h.modTile.foldl fun _ _ h => h.applyHeld

theorem Steady.tileRestore {t : Nat} (h : Steady s₀ s) : Steady s₀ (s.tileRestore t) := by
  unfold State.tileRestore
  split
  · exact .ite h.entered.uncut (.ite h.metIn.failTasks.dropFrame.uncut h.restoreTile)
  · split
    · exact h
    · exact (h.foldl fun _ _ h => h.nodeFail).unreachable

/-! ### Ends of what runs, twins and field tests -/

theorem Steady.endBegun {t c : Nat} {x : Cause} (h : Steady s₀ s) : Steady s₀ (s.endBegun t c x) := by
  refine Steady.foldl ?_ fun _ k h => ?_
  · split
    · exact h.modCtx.engineDone
    · exact h
  · cases k
    case xld => exact h.kvDone
    case xinv => exact h.kvDone
    case splc => exact h.kvDone
    case pfx => exact h.kvDone
    all_goals exact h

theorem Steady.endRunning {t : Nat} {c : Cause} (h : Steady s₀ s) : Steady s₀ (s.endRunning t c) := by
  refine Steady.foldl (.endBegun (.endBegun (.foldl (.foldl (.modTile (.modTile (.abortAll (.foldl (.foldl h ?_) ?_)))) ?_) ?_))) ?_
  · exact fun _ _ h => h.copyEnd
  · exact fun _ _ h => .ite h.tell h
  · exact fun _ _ h => h.modTile
  · exact fun _ _ h => h.sendDone
  · intro _ _ h
    split
    · exact h.recvDone
    · exact h

theorem Steady.exhaust {t : Nat} (h : Steady s₀ s) : Steady s₀ (s.exhaust t) := .ite h.modTile.endRunning.blame h.modTile.endRunning.newHealth
theorem Steady.mismatch {t c : Nat} {v : Nat × Nat} (h : Steady s₀ s) : Steady s₀ (s.mismatch t c v) := h.stopEngine.stopEngine

theorem Steady.compare {t c : Nat} (h : Steady s₀ s) : Steady s₀ (s.compare t c) := by
  unfold State.compare
  split
  · exact h
  · exact .ite h (.ite h h.mismatch)

theorem Steady.beginTest {n : Nat} (h : Steady s₀ s) : Steady s₀ (s.beginTest n) := h.modCluster.foldl fun _ _ h => h
theorem Steady.endTest {n : Nat} (h : Steady s₀ s) : Steady s₀ (s.endTest n) := .ite h h.modCluster.beginTest
theorem Steady.clearExports {n : Nat} (h : Steady s₀ s) : Steady s₀ (s.clearExports n) := h

theorem Steady.testPass {n : Nat} (h : Steady s₀ s) : Steady s₀ (s.testPass n) :=
  .ite h (.endTest (h.modCluster.clearExports.foldl fun _ _ h => .ite h h.modUnit.klog))

theorem Steady.notice {n port : Nat} {x : Export} (h : Steady s₀ s) : Steady s₀ (s.notice n port x) := h

theorem Steady.testFail {n : Nat} (h : Steady s₀ s) : Steady s₀ (s.testFail n) := by
  refine .ite h (.endTest ?_)
  split
  case' h_2 => refine .klog ?_
  all_goals
    refine .clearExports (.foldl (.klog (.foldl h fun _ _ h => ?_)) fun _ _ h => h.notice)
    split
    · exact h
    · exact h.blame
    · exact h.newHealth

/-! ### Boot, links and management -/

theorem Steady.railApplied {n : Nat} (h : Steady s₀ s) : Steady s₀ (s.railApplied n) := .ite h h
theorem Steady.sramBad {t c : Nat} (h : Steady s₀ s) : Steady s₀ (s.sramBad t c) := .ite (.ite h.blame.takeException h.blame) h.blame.endRunning

theorem Steady.stage1Verify (h : Steady s₀ s) : Steady s₀ s.stage1Verify := by
  refine .ite h ?_
  split
  · exact h
  · split <;> exact h

theorem Steady.trainLink {trained : BitVec 48} {good : Bool} {i : Nat} (h : Steady s₀ s) : Steady s₀ (s.trainLink trained good i) := h

theorem Steady.trainLinks {trained : BitVec 48} (h : Steady s₀ s) : Steady s₀ (s.trainLinks trained) :=
  .ite h (.update (h.foldl fun _ _ h => h.trainLink))

theorem Steady.startCore {k : Nat} (h : Steady s₀ s) : Steady s₀ (s.startCore k) := h
theorem Steady.runCores (h : Steady s₀ s) : Steady s₀ s.runCores := h.modBoot.foldl fun _ _ h => h.startCore

theorem Steady.stage2Verify (h : Steady s₀ s) : Steady s₀ s.stage2Verify := by
  refine .ite h.runCores (.ite h (.ite h ?_))
  split <;> exact h

theorem Steady.reply {r : MgmtReq} {status : BitVec 16} {body : List Byte} (h : Steady s₀ s) : Steady s₀ (s.reply r status body) := h

theorem Steady.imageChunk {r : MgmtReq} (h : Steady s₀ s) : Steady s₀ (s.imageChunk r) :=
  .ite h (.ite h (.ite h h.memWrite.reply))

theorem Steady.imageCommit {r : MgmtReq} (h : Steady s₀ s) : Steady s₀ (s.imageCommit r) := by
  refine .ite h (.ite h (.ite h ?_))
  dsimp only
  split <;> exact h

theorem Steady.quote {r : MgmtReq} (h : Steady s₀ s) : Steady s₀ (s.quote r) := .ite h (.ite h (.ite h h))
theorem Steady.readPage {r : MgmtReq} (h : Steady s₀ s) : Steady s₀ (s.readPage r) := .ite h (.ite h (.ite h (.ite h h)))

theorem Steady.signedCommand {r : MgmtReq} {op : BitVec 8} {allowed : Bool} {status : BitVec 16} {effect : State → State} (h : Steady s₀ s)
    (he : ∀ s, Steady s₀ s → Steady s₀ (effect s)) : Steady s₀ (s.signedCommand r op allowed status effect) :=
  .ite h (.ite h (.ite h (.reply (he _ h))))

/-! ### The Ethernet ports and the memory links -/

theorem Steady.roceNak {port : Nat} (h : Steady s₀ s) : Steady s₀ (s.roceNak port) := h
theorem Steady.roceAnswer {port : Nat} {body : List Byte} (h : Steady s₀ s) : Steady s₀ (s.roceAnswer port body) := h
theorem Steady.roceIn {port : Nat} {act : State → State} (h : Steady s₀ s) (ha : Steady s₀ (act s)) : Steady s₀ (s.roceIn port act) := .ite h ha

theorem Steady.roceRefuse {port tn va len : Nat} {write : Bool} {c : Cause} (h : Steady s₀ s) : Steady s₀ (s.roceRefuse port tn va len write c) :=
  .ite h.roceNak.metIn.event h.roceNak.metIn

theorem Steady.flitIn {link kind : Nat} {chip : Bool} {f : BitVec 512} {act : LinkEnd → LinkEnd} (h : Steady s₀ s) :
    Steady s₀ (s.flitIn link chip kind f act) := by
  refine .ite h ?_
  split <;> exact h

theorem Steady.corrected {u : UnitName} {n tmask : Nat} {c : Cause} (h : Steady s₀ s) : Steady s₀ (s.corrected u n c tmask) := h.modUnit.klog
theorem Steady.lineLost {link : Nat} (h : Steady s₀ s) : Steady s₀ (s.lineLost link) := .ite h.choose.update h.choose

/-! ### Translation walks, the two merges and the cores' cycles, and the fetch of code -/

theorem Steady.walkFailed {u : UnitId} {va : Nat} {a : Acc} {c : Cause} (h : Steady s₀ s) : Steady s₀ (s.walkFailed u va a c) := .ite h.modThread h

theorem Steady.install {u : UnitId} {x : TlbE} (h : Steady s₀ s) : Steady s₀ (s.install u x) := by
  cases u <;> exact h

theorem Steady.walked {w : Walk} {r : Except Cause TlbE} {u : UnitId} {a : Acc} (h : Steady s₀ s) : Steady s₀ (s.walked w r u a) := by
  cases r with
  | error c => exact h.walkFailed
  | ok e => exact .ite h.modThread.install h.walkFailed

theorem Steady.stallCycle {u : UnitId} (h : Steady s₀ s) : Steady s₀ (s.stallCycle u) := h.modThread.advance
theorem Steady.mergeIssue {t : Nat} (h : Steady s₀ s) : Steady s₀ (s.mergeIssue t) := .update (h.modTile.foldl fun _ _ h => h.stallCycle)
theorem Steady.mergeCycle {t : Nat} (h : Steady s₀ s) : Steady s₀ (s.mergeCycle t) := .ite h.capIdle h.capIdle.mergeIssue
theorem Steady.coreCycle {k : Nat} (h : Steady s₀ s) : Steady s₀ (s.coreCycle k) := .ite h (.ite h.stallCycle (.ite h h))
theorem Steady.fetchFails {t c va : Nat} {f : Cause} (h : Steady s₀ s) : Steady s₀ (s.fetchFails t c va f) := .ite h h

theorem Steady.fetchLine {t c : Nat} (h : Steady s₀ s) : Steady s₀ (s.fetchLine t c) := by
  unfold State.fetchLine
  dsimp only
  split
  · exact h
  · refine .ite h ?_
    split
    · exact .ite h.startWalk h
    · exact h.fetchFails
    · split
      · exact h.fetchFails
      · exact h

theorem Steady.fetchPage {k : Nat} (h : Steady s₀ s) : Steady s₀ (s.fetchPage k) := by
  unfold State.fetchPage
  split
  · exact h.startWalk
  · exact h

/-! ### Updates that the slots' operations make -/

theorem Steady.trapReturn {k : Nat} (h : Steady s₀ s) : Steady s₀ (s.trapReturn k) := h
theorem Steady.tlbiAll {v : W64} (h : Steady s₀ s) : Steady s₀ (s.tlbiAll v) := h
theorem Steady.pushHq {c : HCmd} (h : Steady s₀ s) : Steady s₀ (s.pushHq c) := h
theorem Steady.pushCq {c : CCmd} (h : Steady s₀ s) : Steady s₀ (s.pushCq c) := h
theorem Steady.pushKq {k : KCmd} (h : Steady s₀ s) : Steady s₀ (s.pushKq k) := h
theorem Steady.pushFq {k : FCmd} (h : Steady s₀ s) : Steady s₀ (s.pushFq k) := h
theorem Steady.popAtEnd {q : Nat} (h : Steady s₀ s) : Steady s₀ (s.popAtEnd q) := h

theorem Steady.popSrc {v : VSrc} (h : Steady s₀ s) : Steady s₀ (s.popSrc v) := by
  unfold State.popSrc
  split
  · exact h.popAtEnd
  · exact h

theorem Steady.pushMatrix {op : MOp} {l : List (Nat × Bool)} (h : Steady s₀ s) : Steady s₀ (s.pushMatrix op l) := h.stamp.modCurTile.paired
theorem Steady.trapAfter {c : Cause} {n : Nat} {a : W64} (h : Steady s₀ s) : Steady s₀ (s.trapAfter c n a) := .ite h h.finish.takeException

end Sys2Proof.Machine

/-! ### What a slot's operation does when it issues

The operations of one shape share one lemma. -/

namespace Sys2Proof.Machine

variable {s₀ s : State}

/-! #### Scalar operations, AG operations and branches -/

theorem Steady.scalarOp {p : BitVec 4} {d : BitVec 6} {lat : Nat} {v : Thread → W64} (h : Steady s₀ s) :
    SteadyNext s₀ (scalarOp p d lat v s) := h.issue fun h => h.result64

theorem Steady.scalarFloat {p : BitVec 4} {d : BitVec 6} {v : Thread → Nat × Flags} (h : Steady s₀ s) : SteadyNext s₀ (scalarFloat p d v s) :=
  h.issue fun h => h.result

theorem Steady.predOp {p pd : BitVec 4} {v : Thread → PReg} (h : Steady s₀ s) : SteadyNext s₀ (predOp p pd v s) := h.issue fun h => h.result
theorem Steady.compareOp {p pd : BitVec 4} {a b : BitVec 6} {c : W64 → W64 → Bool} (h : Steady s₀ s) :
    SteadyNext s₀ (compareOp p pd a b c s) := h.predOp

theorem Steady.divOp {p : BitVec 4} {d a b : BitVec 6} {sgn : Bool} {v : W64 → W64 → W64} (h : Steady s₀ s) :
    SteadyNext s₀ (divOp p d a b sgn v s) := h.issue fun h => h.result64

theorem Steady.agOp {ad src am : BitVec 4} {f : W64 → W64 → W64} (h : Steady s₀ s) : SteadyNext s₀ (agOp ad src am f s) := h.issue fun h => h.result64
theorem Steady.branchOp {taken : Bool} {t : Nat} (h : Steady s₀ s) : SteadyNext s₀ (branchOp taken t s) := h.modThread.next

theorem Steady.callOp {taken : Bool} {t : Nat} (h : Steady s₀ s) : SteadyNext s₀ (callOp taken t s) := by
  unfold Machine.callOp
  split
  · exact h.branchOp
  · exact h.issue fun h => h.result64.modThread

theorem Steady.execLoop {n : BitVec 4} {off : BitVec 11} (h : Steady s₀ s) : SteadyNext s₀ (execLoop n off s) :=
  h.issue fun h => .ite h (Steady.modThread (.result (.update h)))

theorem Steady.execEndTask {p : BitVec 4} (h : Steady s₀ s) : SteadyNext s₀ (execEndTask p s) := h.issue fun h => h.popped

theorem Steady.execEret (h : Steady s₀ s) : SteadyNext s₀ (execEret s) := h.issue fun h => by
  refine .ite h ?_
  dsimp only
  split
  · exact h.finish.trapReturn
  · exact h.finish

theorem Steady.execWfe (h : Steady s₀ s) : SteadyNext s₀ (execWfe s) := h.issue fun h => .ite h h.finish.holdUnit

theorem Steady.execEnq {q : BitVec 4} {g : BitVec 6} (h : Steady s₀ s) : SteadyNext s₀ (execEnq q g s) := by
  unfold Machine.execEnq
  split
  · exact h.next
  · exact h.issue fun h => h

/-! #### Loads, stores and atomic operations -/

theorem Steady.loadOp {n : Nat} {p m : BitVec 4} {off : BitVec 12} {r : BitVec 6} (h : Steady s₀ s) : SteadyNext s₀ (loadOp n p off m r s) := by
  unfold Machine.loadOp
  split
  · exact h.issue fun h => h.result64
  · exact h.issue fun h => h.result64

theorem Steady.storeOp {n : Nat} {p m : BitVec 4} {off : BitVec 12} {r : BitVec 6} (h : Steady s₀ s) : SteadyNext s₀ (storeOp n p off m r s) := by
  unfold Machine.storeOp
  split
  · exact h.issue fun h => h.coreWrite
  · exact h.issue fun h => h.modTile

theorem Steady.tileVload {n : Nat} {p m : BitVec 4} {off : BitVec 12} {r : BitVec 6} (h : Steady s₀ s) : SteadyNext s₀ (tileVload n p off m r s) := by
  unfold Machine.tileVload
  extract_lets
  exact h.issue fun h => h.result

theorem Steady.tileVstore {n : Nat} {p m : BitVec 4} {off : BitVec 12} {r : BitVec 6} (h : Steady s₀ s) : SteadyNext s₀ (tileVstore n p off m r s) := by
  unfold Machine.tileVstore
  extract_lets
  exact h.issue fun h => h.modTile

theorem Steady.spillLoad {n : Nat} {p : BitVec 4} {off : BitVec 12} {r : BitVec 6} (h : Steady s₀ s) : SteadyNext s₀ (spillLoad n p off r s) :=
  h.issue fun h => h.result64

theorem Steady.spillStore {n : Nat} {p : BitVec 4} {off : BitVec 12} {r : BitVec 6} (h : Steady s₀ s) : SteadyNext s₀ (spillStore n p off r s) :=
  h.issue fun h => h.modCtx

theorem Steady.ldxOp {n : Nat} {g : Bool} {lanes : Thread → PReg} {off : BitVec 12} {m : BitVec 4} {q : BitVec 3} (h : Steady s₀ s) :
    SteadyNext s₀ (ldxOp n g lanes off m q s) := h.issue fun h => h.pushRemote

theorem Steady.stxOp {n : Nat} {p m : BitVec 4} {off : BitVec 12} {r : BitVec 6} (h : Steady s₀ s) : SteadyNext s₀ (stxOp n p off m r s) :=
  h.issue fun h => h.pushRemote

theorem Steady.atmLocal {op : AtmOp} {n : Nat} {off : BitVec 12} {m : BitVec 4} {r : BitVec 6} (h : Steady s₀ s) :
    Steady s₀ (atmLocal op n off m r s) := h.modCurTile.result64

theorem Steady.atmCore {op : AtmOp} {n : Nat} {off : BitVec 12} {m : BitVec 4} {r : BitVec 6} (h : Steady s₀ s) :
    Steady s₀ (atmCore op n off m r s) := h.coreWrite.result64

theorem Steady.atmRemote {op : AtmOp} {n : Nat} {off : BitVec 12} {m : BitVec 4} {r : BitVec 6} (h : Steady s₀ s) :
    Steady s₀ (atmRemote op n off m r s) := h.pushRemote

theorem Steady.atmOp {op : AtmOp} {n : Nat} {p m : BitVec 4} {off : BitVec 12} {r : BitVec 6} (h : Steady s₀ s) :
    SteadyNext s₀ (atmOp op n p off m r s) := h.issue fun h => .ite h.atmCore (.ite h.atmLocal h.atmRemote)

/-! #### Vector operations -/

theorem Steady.vecIssue {p : BitVec 4} {d : Part} {v : VSrc} {lat : Nat} {pre : State → Verdict} {out : State → VOut} (h : Steady s₀ s) :
    SteadyNext s₀ (vecIssue p d v lat pre out s) := by
  unfold Machine.vecIssue
  extract_lets
  exact h.issue fun h => h.result.popSrc

theorem Steady.vec1 {p ty : BitVec 4} {v : VSrc} {vd : BitVec 6} {w : BitVec 2} {lat : Nat} {f : Thread → Nat → Nat × Flags} (h : Steady s₀ s) :
    SteadyNext s₀ (vec1 p v vd ty w lat f s) := by
  unfold Machine.vec1
  extract_lets
  exact h.vecIssue

theorem Steady.vec2 {p ty : BitVec 4} {v : VSrc} {va vd : BitVec 6} {w : BitVec 2} {lat : Nat} {f : Thread → Nat → Nat → Nat × Flags}
    (h : Steady s₀ s) : SteadyNext s₀ (vec2 p v va vd ty w lat f s) := by
  unfold Machine.vec2
  extract_lets
  exact h.vecIssue

theorem Steady.vec3 {p ty : BitVec 4} {v : VSrc} {va vd : BitVec 6} {w : BitVec 2} {lat : Nat} {f : Thread → Nat → Nat → Nat → Nat × Flags}
    (h : Steady s₀ s) : SteadyNext s₀ (vec3 p v va vd ty w lat f s) := by
  unfold Machine.vec3
  extract_lets
  exact h.vecIssue

theorem Steady.vecSpecial {n : Nat} {p ty : BitVec 4} {v : VSrc} {vd : BitVec 6} {w : BitVec 2} (h : Steady s₀ s) :
    SteadyNext s₀ (vecSpecial n p v vd ty w s) := h.vec1

theorem Steady.vecCmp {p pd ty : BitVec 4} {v : VSrc} {va : BitVec 6} {cc w : BitVec 2} (h : Steady s₀ s) :
    SteadyNext s₀ (vecCmp p v va cc pd ty w s) := by
  unfold Machine.vecCmp
  extract_lets
  exact h.issue fun h => h.result.popSrc

theorem Steady.vecSel {p ty : BitVec 4} {v : VSrc} {va vd : BitVec 6} {w : BitVec 2} (h : Steady s₀ s) : SteadyNext s₀ (vecSel p v va vd ty w s) := by
  unfold Machine.vecSel
  extract_lets
  exact h.issue fun h => h.result.popSrc

theorem Steady.vecMac {p ty : BitVec 4} {v : VSrc} {va vd : BitVec 6} {w : BitVec 2} (h : Steady s₀ s) : SteadyNext s₀ (vecMac p v va vd ty w s) := by
  unfold Machine.vecMac
  extract_lets
  exact h.vecIssue

theorem Steady.vecCvt {p src ty : BitVec 4} {sat : BitVec 1} {v : VSrc} {vd : BitVec 6} {w : BitVec 2} (h : Steady s₀ s) :
    SteadyNext s₀ (vecCvt p sat src v vd ty w s) := by
  unfold Machine.vecCvt
  extract_lets
  exact h.vecIssue

theorem Steady.vecQnt {p ty : BitVec 4} {sat : BitVec 1} {v : VSrc} {vd : BitVec 6} {w : BitVec 2} (h : Steady s₀ s) :
    SteadyNext s₀ (vecQnt p sat v vd ty w s) := h.vecIssue

theorem Steady.vecDqnt {p ty : BitVec 4} {v : VSrc} {vd : BitVec 6} {w : BitVec 2} (h : Steady s₀ s) : SteadyNext s₀ (vecDqnt p v vd ty w s) := h.vecIssue
theorem Steady.vecLse {p : BitVec 4} {v : VSrc} {va vd : BitVec 6} {w : BitVec 2} (h : Steady s₀ s) : SteadyNext s₀ (vecLse p v va vd w s) := h.vecIssue

theorem Steady.vecRope {p ty : BitVec 4} {v : VSrc} {va vd : BitVec 6} {w : BitVec 2} (h : Steady s₀ s) : SteadyNext s₀ (vecRope p v va vd ty w s) := by
  unfold Machine.vecRope
  extract_lets
  exact h.vecIssue

theorem Steady.vecRed {n : Nat} {p ty : BitVec 4} {v : VSrc} {vd : BitVec 6} {w : BitVec 2} (h : Steady s₀ s) :
    SteadyNext s₀ (vecRed n p v vd ty w s) := by
  unfold Machine.vecRed
  extract_lets
  exact h.issue fun h => .ite h.result.popSrc h.result

theorem Steady.vecPerm {p ty : BitVec 4} {v : VSrc} {va vd : BitVec 6} {w : BitVec 2} (h : Steady s₀ s) : SteadyNext s₀ (vecPerm p v va vd ty w s) := by
  unfold Machine.vecPerm
  extract_lets
  exact h.vecIssue

theorem Steady.vecZip {high : Bool} {p ty : BitVec 4} {v : VSrc} {va vd : BitVec 6} {w : BitVec 2} (h : Steady s₀ s) :
    SteadyNext s₀ (vecZip high p v va vd ty w s) := by
  unfold Machine.vecZip
  extract_lets
  exact h.vecIssue

theorem Steady.vecTrn16 {p : BitVec 4} {v : VSrc} {vd : BitVec 6} {w : BitVec 2} (h : Steady s₀ s) : SteadyNext s₀ (vecTrn16 p v vd w s) := h.vecIssue
theorem Steady.vecTrn32 {p : BitVec 4} {va vd : BitVec 6} (h : Steady s₀ s) : SteadyNext s₀ (vecTrn32 p va vd s) := by
  unfold Machine.vecTrn32
  extract_lets
  exact h.issue fun h => h.result.result

theorem Steady.execVtrn {p ty : BitVec 4} {va vd : BitVec 6} {w : BitVec 2} (h : Steady s₀ s) : SteadyNext s₀ (execVtrn p va vd ty w s) := by
  unfold Machine.execVtrn
  split
  · exact h.vecTrn32
  · exact h.vecTrn16

/-! #### Commands to the engines and to the queues -/

theorem Steady.matrixOp {op : State → MOp} {names : State → List (Nat × Bool)} (h : Steady s₀ s) : SteadyNext s₀ (matrixOp op names s) :=
  h.issue fun h => h.pushMatrix

theorem Steady.brushOp {upd : Bool} {hd : BitVec 5} {g : BitVec 6} (h : Steady s₀ s) : SteadyNext s₀ (brushOp upd hd g s) :=
  h.issue fun h => h.stamp.modCurTile.paired

theorem Steady.prefixOp {n : Nat} {gb g : BitVec 6} (h : Steady s₀ s) : SteadyNext s₀ (prefixOp n gb g s) := by
  unfold Machine.prefixOp
  extract_lets
  exact h.issue fun h => h.stamp.pushKq.paired

theorem Steady.execFork {pd : BitVec 4} {g : BitVec 6} (h : Steady s₀ s) : SteadyNext s₀ (execFork pd g s) :=
  h.issue fun h => .ite h.result.pushHq h.result

theorem Steady.execSqbind {q : BitVec 3} {g : BitVec 6} (h : Steady s₀ s) : SteadyNext s₀ (execSqbind q g s) := by
  unfold Machine.execSqbind
  extract_lets
  exact h.issue fun h => h.modCurCtx.counted

theorem Steady.execKvg {hd : BitVec 5} {g : BitVec 6} (h : Steady s₀ s) : SteadyNext s₀ (execKvg hd g s) := by
  unfold Machine.execKvg
  extract_lets
  exact h.issue fun h => h.stamp.modCurTile.pushKq.paired

theorem Steady.execRprset {g : BitVec 6} (h : Steady s₀ s) : SteadyNext s₀ (execRprset g s) := by
  unfold Machine.execRprset
  extract_lets
  exact h.issue fun h => h.pushKq

theorem Steady.execTlbi {g : BitVec 6} (h : Steady s₀ s) : SteadyNext s₀ (execTlbi g s) := by
  unfold Machine.execTlbi
  extract_lets
  exact h.issue fun h => h.tlbiAll

theorem Steady.execWnsel {hd : BitVec 5} {g : BitVec 6} (h : Steady s₀ s) : SteadyNext s₀ (execWnsel hd g s) :=
  h.issue fun h => h.stamp.choose.modCurTile.paired

end Sys2Proof.Machine

/-! ### What a device event does as a step -/

namespace Sys2Proof.Machine

variable {s₀ s : State}

theorem Steady.execSetcap {r : MgmtReq} (h : Steady s₀ s) : SteadyNext s₀ (execSetcap r s) := by
  refine Steady.next (h.signedCommand fun _ h => ?_)
  split <;> exact h

theorem Steady.execRoceWrite {port : Nat} {k : BitVec 32} {va : BitVec 64} {l : List Byte} (h : Steady s₀ s) :
    SteadyNext s₀ (execRoceWrite port k va l s) := by
  refine (h.roceIn ?_).next
  split
  · exact h.roceNak
  · split
    · exact h.roceRefuse
    · exact h.vaWriteLong.roceAnswer

theorem Steady.execRoceRead {port n : Nat} {k : BitVec 32} {va : BitVec 64} (h : Steady s₀ s) : SteadyNext s₀ (execRoceRead port k va n s) := by
  refine (h.roceIn ?_).next
  split
  · exact h.roceNak
  · split
    · exact h.roceRefuse
    · split
      · exact h.roceAnswer
      · exact h.roceRefuse

theorem Steady.execCapEffective (h : Steady s₀ s) : SteadyNext s₀ (execCapEffective s) := by
  refine Steady.next ?_
  split <;> exact h

theorem Steady.execMkctlInstall (h : Steady s₀ s) : SteadyNext s₀ (execMkctlInstall s) := by
  refine Steady.next ?_
  dsimp only
  split <;> exact h

theorem Steady.execMkctlRemove (h : Steady s₀ s) : SteadyNext s₀ (execMkctlRemove s) := Steady.next (Steady.update h)

theorem Steady.execSocketDatagram {k : Nat} {l : List Byte} (h : Steady s₀ s) : SteadyNext s₀ (execSocketDatagram k l s) :=
  Steady.next (Steady.interrupt (Steady.update h))

theorem Steady.execAgePeriod {tn q : Nat} (h : Steady s₀ s) : SteadyNext s₀ (execAgePeriod tn q s) := Steady.next (.ite h (.update h))

theorem Steady.execTenantTableReload (h : Steady s₀ s) : SteadyNext s₀ (execTenantTableReload s) := by
  refine Steady.next ?_
  split
  · exact h
  · exact .update (h.foldl fun _ _ h => h.loadTenant)

theorem Steady.execWindowDeregisterComplete (h : Steady s₀ s) : SteadyNext s₀ (execWindowDeregisterComplete s) := by
  refine Steady.next ?_
  split <;> exact h

theorem Steady.execInterruptTaken {k : Nat} (h : Steady s₀ s) : SteadyNext s₀ (execInterruptTaken k s) := by
  refine Steady.next ?_
  dsimp only
  split
  · exact h
  · exact .ite h.modCore.coreTrap h

theorem Steady.execWeathervaneUpdate {p : Nat} (h : Steady s₀ s) : SteadyNext s₀ (execWeathervaneUpdate p s) :=
  (Steady.ite h.wvUpdate (h.foldl fun _ _ h => h.wvTenant)).next

theorem Steady.execMemlinkNak {link : Nat} {m : Bool} {f : BitVec 512} (h : Steady s₀ s) : SteadyNext s₀ (execMemlinkNak link m f s) :=
  (Steady.ite (.ite h h.flitIn.modLink) h.flitIn).next

theorem Steady.execMemlinkRetrain {link : Nat} {ok : Bool} (h : Steady s₀ s) : SteadyNext s₀ (execMemlinkRetrain link ok s) :=
  (Steady.ite h h.modLink.klog).next

theorem Steady.execMemlinkRetrainTimeout {link : Nat} (h : Steady s₀ s) : SteadyNext s₀ (execMemlinkRetrainTimeout link s) :=
  (Steady.ite h h.modLink.linkDown).next

theorem Steady.execDramScrub {link : Nat} (h : Steady s₀ s) : SteadyNext s₀ (execDramScrub link s) :=
  (Steady.ite h (.ite h.choose (.ite h.choose.corrected h.choose.lineLost))).next

/-- A message that never waits for room. -/
theorem Steady.arrivesAlways {port : Nat} {k : BitVec 4} {l : List (BitVec 512)} {act : State → FabMsg → State} (h : Steady s₀ s)
    (ha : ∀ {s m}, Steady s₀ s → Steady s₀ (act s m)) : Steady s₀ (s.arrives port k l fun s m => some (act s m)) :=
  h.arrives fun h e => by
    cases e
    exact ha h

theorem Steady.execFabricRetrain {port : Nat} {peer : BitVec 64} (h : Steady s₀ s) : SteadyNext s₀ (execFabricRetrain port peer s) :=
  (Steady.ite h h.trainPort.klog).next

theorem Steady.execFabricRetrainFail {port : Nat} (h : Steady s₀ s) : SteadyNext s₀ (execFabricRetrainFail port s) :=
  (Steady.ite h h.modPort.linkDown.cutPort).next

theorem Steady.execBundleIssue {x : Site} (h : Steady s₀ s) : SteadyNext s₀ (execBundleIssue x s) := by
  cases x with
  | tile t => exact h.mergeCycle.next
  | core k => exact h.coreCycle.next

theorem Steady.execCodeFetch {u : UnitId} (h : Steady s₀ s) : SteadyNext s₀ (execCodeFetch u s) := by
  cases u with
  | ctx t c => exact h.fetchLine.next
  | core k => exact h.fetchPage.next

theorem Steady.execHopenExecute {t c : Nat} (h : Steady s₀ s) : SteadyNext s₀ (execHopenExecute t c s) := by
  refine Steady.next ?_
  split
  · exact h.headRun
  · exact h.hqTurn

theorem Steady.execHpubExecute {t c : Nat} (h : Steady s₀ s) : SteadyNext s₀ (execHpubExecute t c s) := by
  refine Steady.next ?_
  split
  · exact h.headRun
  · exact h

theorem Steady.execHrelExecute {t c : Nat} (h : Steady s₀ s) : SteadyNext s₀ (execHrelExecute t c s) := by
  refine Steady.next ?_
  split
  · exact h.headRun
  · exact h

theorem Steady.execHfreeComplete {t k : Nat} (h : Steady s₀ s) : SteadyNext s₀ (execHfreeComplete t k s) := by
  refine Steady.next ?_
  split
  · exact .ite h.modTile.counted h
  · exact h

theorem Steady.execMatrixCommandStart {t : Nat} (h : Steady s₀ s) : SteadyNext s₀ (execMatrixCommandStart t s) := by
  refine Steady.next ?_
  split
  · exact h
  · exact .ite h.modTile.startMatrix h

theorem Steady.execArrayBeat {t : Nat} (h : Steady s₀ s) : SteadyNext s₀ (execArrayBeat t s) := (Steady.ite h.capIdle h.capIdle.arrayBeat).next

theorem Steady.execDrainRowPush {t : Nat} (h : Steady s₀ s) : SteadyNext s₀ (execDrainRowPush t s) := by
  refine Steady.next ?_
  dsimp only
  split
  · exact h.drainPush.taskEnd
  · exact h.drainPush

theorem Steady.execTimingReplay {t : Nat} {again : Bool} (h : Steady s₀ s) : SteadyNext s₀ (execTimingReplay t again s) :=
  (Steady.ite h.modTile.modUnit.klog.exhaust h.modTile.modUnit.klog).next

theorem Steady.execRedundantTimeout {t c : Nat} (h : Steady s₀ s) : SteadyNext s₀ (execRedundantTimeout t c s) := by
  refine Steady.next ?_
  split
  · exact h
  · exact .ite h.mismatch h

theorem Steady.execFieldTestStart {d : Nat} (h : Steady s₀ s) : SteadyNext s₀ (execFieldTestStart d s) := (Steady.ite h h.beginTest).next

theorem Steady.execPageWalkComplete {d n : Nat} (h : Steady s₀ s) : SteadyNext s₀ (execPageWalkComplete d n s) := by
  refine Steady.next ?_
  split
  · exact h
  · exact h.metIn.modDie.foldl fun _ _ h => h.walked

end Sys2Proof.Machine

/-! ### What an instruction does as a step -/

namespace Sys2Proof.Machine

variable {s₀ s t : State}

/-- The instruction may change the device state or a fuse: a reset, a G3 cause, a state command, or the end of a graph, which may be the last one
while the device drains (R9 to R20). -/
def entersState : Instr → Bool
  | .reset | .powerFault _ | .thermalTrip _ | .machineCheck _ | .selfCheckFail | .mgmtDrain _ | .mgmtResume _ | .devcmdStart | .devcmdDrain
  | .devcmdResume | .graphComplete _ | .graphKillComplete _ => true
  | _ => false

theorem Steady.exec {i : Instr} (h : Steady s₀ s) (hi : entersState i = false) : SteadyNext s₀ (exec i s) := by
  unfold Machine.exec
  cases i with
  | reset | powerFault | thermalTrip | machineCheck | selfCheckFail | mgmtDrain | mgmtResume | devcmdStart | devcmdDrain | devcmdResume | graphComplete
  | graphKillComplete => cases hi
  | stage1Verify => exact h.stage1Verify.next
  | memoryLinkTraining => exact h.trainLinks.next
  | stage2Verify => exact h.stage2Verify.next
  | imageChunk => exact h.imageChunk.next
  | imageCommit => exact h.imageCommit.next
  | measurementExtend => exact (Steady.ite h.modBoot h).next
  | quote => exact h.quote.next
  | readPage => exact h.readPage.next
  | setcap => exact h.execSetcap
  | mgmtUnknownOperation => exact (Steady.ite h h.reply).next
  | datagramDiscard => exact (Steady.ite h h.modEth).next
  | socketDatagram => exact h.execSocketDatagram
  | mkctlRemove => exact h.execMkctlRemove
  | nop => exact h.next
  | roceWrite => exact h.execRoceWrite
  | roceRead => exact h.execRoceRead
  | capset => exact h.capsetWrite.next
  | capEffective => exact h.execCapEffective
  | mkctlInstall => exact h.execMkctlInstall
  | ttsync => exact h.ttsyncWrite.next
  | tenantTableReload => exact h.execTenantTableReload
  | winsync => exact h.winsyncWrite.next
  | windowDeregisterComplete => exact h.execWindowDeregisterComplete
  | ctxdispResume | ctxdispAbandon => exact h.ctxdispWrite.next
  | nanstatClear | replayWindowEnd => exact h.modTile.next
  | registerWrite => exact h.regWrite.next
  | ccCompare => exact (Steady.ite h.modCore h).next
  | interruptTaken => exact h.execInterruptTaken
  | weathervaneUpdate => exact h.execWeathervaneUpdate
  | memlinkRequest | memlinkData | memlinkIdle | memlinkAck => exact h.flitIn.next
  | memlinkNak => exact h.execMemlinkNak
  | memlinkRetrain => exact h.execMemlinkRetrain
  | memlinkRetrainTimeout => exact h.execMemlinkRetrainTimeout
  | dramScrub => exact h.execDramScrub
  | remoteStore => exact (h.arrives fun h e => h.storeIn e).next
  | remoteLoadRequest => exact (h.arrives fun h e => h.loadIn e).next
  | remoteLoadReturn => exact (h.arrivesAlways fun h => h.loadReturn).next
  | copyData => exact (h.arrives fun h e => h.copyIn e).next
  | barrierArrival => exact (h.arrives fun h e => h.arrivalIn e).next
  | send => exact (h.arrives fun h e => h.sendIn e).next
  | receiveCredit => exact (h.arrivesAlways fun h => h.creditIn).next
  | deduplicationReference => exact (h.arrives fun h e => h.reference e).next
  | deduplicationNak => exact (h.arrivesAlways fun h => h.dedupNak).next
  | retractionNotice => exact (h.arrivesAlways fun h => h.noticeIn).next
  | hopAck => exact (h.hopIn fun _ => h.hopAck).next
  | hopNak => exact (h.hopIn fun _ => h.modPort).next
  | atomicRequest => exact (h.arrives fun h e => h.atomicIn e).next
  | atomicReturn => exact (h.arrives fun h e => h.atomicReturn e).next
  | fabricReservedKind => exact (Steady.ite h.modPort h).next
  | fabricRetrain => exact h.execFabricRetrain
  | fabricRetrainFail => exact h.execFabricRetrainFail
  | sessionKeyAgreement => exact (Steady.ite h h.modPort).next
  | enqAcceptance => exact h.enqStep.next
  | selectionRound => exact h.round.next
  | agePeriod => exact h.execAgePeriod
  | kernelDescriptorLoad => exact h.loadKernel.next
  | tileCut => exact h.tileCut.next
  | tileRestore => exact h.tileRestore.next
  | stealRequest => exact h.taskEnd.stealRequest.next
  | stealAnswer => exact h.stealAnswer.next
  | nodeDone => exact h.nodeDone.next
  | joinDecrement => exact h.joinDecrement.next
  | bundleIssue => exact h.execBundleIssue
  | codeFetch => exact h.execCodeFetch
  | resultLanding => exact h.land.next
  | hopenExecute => exact h.execHopenExecute
  | hpubExecute => exact h.execHpubExecute
  | hrelExecute => exact h.execHrelExecute
  | hfreeComplete => exact h.execHfreeComplete
  | copyAdmission => exact h.copyAdmit.next
  | copyAccept => exact h.copyAccept.next
  | copyPark => exact h.copyPark.next
  | copyComplete => exact h.copyComplete.next
  | remoteAccessPerform => exact h.perform.next
  | ldxReturn => exact h.ldxReturn.next
  | matrixCommandStart => exact h.execMatrixCommandStart
  | nibBeat => exact h.nibBeat.next
  | arrayBeat => exact h.execArrayBeat
  | drainRowPush => exact h.execDrainRowPush
  | cbldBuild => exact h.cbldBuild.next
  | trdefExecute => exact h.trdefExecute.next
  | brushUnitAccept => exact h.brushAccept.next
  | brushUnitComplete => exact h.brushComplete.next
  | xldExecute => exact h.xldExecute.next
  | xinvStep => exact h.xinvStep.next
  | xinvComplete => exact h.xinvComplete.next
  | gatherAccept => exact h.gatherAccept.next
  | gatherBlock => exact h.gatherBlock.next
  | gatherComplete => exact h.gatherComplete.next
  | spliceExecute => exact h.spliceExecute.next
  | retouchJobAccept => exact h.retouchAccept.next
  | repairReport => exact h.repairReport.next
  | retouchWriteback => exact h.retouchWriteback.next
  | prefixBucketStep => exact h.prefixStep.next
  | winnowPassAccept => exact h.winAccept.next
  | winnowPassEnd => exact h.winPassEnd.next
  | winnowPark => exact h.winPark.next
  | fsendAccept => exact h.sendAccept.next
  | frecvPost => exact h.recvPost.next
  | timingReplay => exact h.execTimingReplay
  | redundantCompare => exact h.compare.next
  | redundantTimeout => exact h.execRedundantTimeout
  | fieldTestStart => exact h.execFieldTestStart
  | fieldTestPass => exact h.testPass.next
  | fieldTestFail => exact h.testFail.next
  | br | brp | jr | ret => exact h.branchOp
  | call | callr => exact h.callOp
  | loop => exact h.execLoop
  | endTask => exact h.execEndTask
  | endLoop => exact h.issue fun h => h.modThread
  | trap | sysc => exact h.issue fun h => h.trapAfter
  | waith | waitb | drn => exact h.issue fun h => h
  | add | addi | sub | mul | mulh | mulhu | and | or | xor | andn | shl | shr | sar | rotr | shlImm | shrImm | sarImm | rotrImm | clz | ctz | popc
  | min | max | minu | maxu | mov | movFromA =>
    exact h.scalarOp
  | div | divu | rem | remu => exact h.divOp
  | sel | movToA | liw | rdsr | wrsr | ali | amset => exact h.issue fun h => h.result64
  | movFromQ => exact h.issue fun h => h.result64.popAtEnd
  | cmpEq | cmpNe | cmpLt | cmpGe | cmpLtu | cmpGeu | cmpFeq | cmpFlt | cmpFle | cmpFun => exact h.compareOp
  | fadd | fmul | fma | fcvtToF32 | fcvtFromF32 | minF32 | maxF32 => exact h.scalarFloat
  | pand | por | pxor | pnot => exact h.predOp
  | aadd | amod | abrv | acir => exact h.agOp
  | ldB | ldH | ldW | ldD => exact h.loadOp
  | stB | stH | stW | stD => exact h.storeOp
  | vld256 | vld512 | vld1024 => exact h.tileVload
  | vst256 | vst512 | vst1024 => exact h.tileVstore
  | ldsB | ldsH | ldsW | ldsD => exact h.spillLoad
  | stsB | stsH | stsW | stsD => exact h.spillStore
  | ldxD | ldxV256 | ldxV512 | ldxV1024 => exact h.ldxOp
  | stxD => exact h.issue fun h => h.pushRemote
  | stxV256 | stxV512 | stxV1024 => exact h.stxOp
  | atmAddW | atmAndW | atmOrW | atmXorW | atmSwpW | atmCasW | atmMinW | atmMaxW | atmAdd | atmAnd | atmOr | atmXor | atmSwp | atmCas | atmMin
  | atmMax | atmFmaxF32 | atmFmaxBf16 | atmFmaxF16 =>
    exact h.atmOp
  | atmDec => exact h.issue fun h => h.atmRemote
  | vadd | vsub | vmul | vmin | vmax | viadd | visub | vimul | vshl | vshr | vsar | vand | vor | vxor | vaddStream | vsubStream | vmulStream
  | vminStream | vmaxStream | viaddStream | visubStream | vimulStream | vshlStream | vshrStream | vsarStream | vandStream | vorStream | vxorStream =>
    exact h.vec2
  | vfma | vfms | vfmaStream | vfmsStream => exact h.vec3
  | vabs | vneg | vsat | vnot | vimg | vmov | vabsStream | vnegStream | vsatStream | vnotStream | vimgStream | vmovStream => exact h.vec1
  | vcmp | vcmpStream => exact h.vecCmp
  | vsel | vselStream => exact h.vecSel
  | vimac | vimacStream => exact h.vecMac
  | vcvt | vcvtStream => exact h.vecCvt
  | vqnt | vqntStream => exact h.vecQnt
  | vdqnt | vdqntStream => exact h.vecDqnt
  | vlse | vlseStream => exact h.vecLse
  | vrope | vropeStream => exact h.vecRope
  | vnanp => exact h.issue fun h => h.result
  | vrsum | vrmax | vrmin | vrsumStream | vrmaxStream | vrminStream => exact h.vecRed
  | vbcst => exact h.vecIssue
  | vexp2 | vlog2 | vrcp | vrsq | vsqrt | vsin | vcos | vtanh | vexp2Stream | vlog2Stream | vrcpStream | vrsqStream | vsqrtStream | vsinStream
  | vcosStream | vtanhStream =>
    exact h.vecSpecial
  | vperm | vpermStream => exact h.vecPerm
  | vtrn => exact h.execVtrn
  | vshuf | vzip | vshufStream | vzipStream => exact h.vecZip
  | vtrnStream => exact h.vecTrn16
  | mcfg | mldw | mswap | mpush | macw | mshiftZero | mshiftBack | mshiftFwd | mdrain | mzero => exact h.matrixOp
  | sqset => exact h.issue fun h => h.pushCq
  | sqgo | accpy => exact h.issue fun h => h.stamp.modCurTile.pushCq.paired
  | sqbind => exact h.execSqbind
  | halloc | hset => exact h.issue fun h => h.modCurTile.counted
  | hfree => exact h.issue fun h => h.modCurTile
  | hopen | hpub | hrel | barr => exact h.issue fun h => h.stamp.pushHq
  | binit | binitRel => exact h.issue fun h => h.pushHq
  | fork => exact h.execFork
  | join => exact h.issue fun h => h.pushHq.modCurCtx
  | enq => exact h.execEnq
  | nibset | trdef | cbld => exact h.issue fun h => h.pushMatrix
  | nibsetSt => exact h.issue fun h => h.result64.modCurTile.counted
  | trenc | twupd => exact h.brushOp
  | xld | xinv => exact h.issue fun h => h.stamp.pushKq.paired
  | kvg => exact h.execKvg
  | splc | rpr => exact h.issue fun h => h.stamp.modCurTile.pushKq.paired
  | rprset => exact h.execRprset
  | rprRep => exact h.issue fun h => h.stamp.pushKq
  | pxlk | pxin | pxinRm => exact h.prefixOp
  | wnsel => exact h.execWnsel
  | fsend | frecvHandle => exact h.issue fun h => h.stamp.modCurTile.pushFq.paired
  | frecvStream => exact h.issue fun h => h.stamp.pushFq.paired
  | eret => exact h.execEret
  | tlbi => exact h.execTlbi
  | wfe => exact h.execWfe
  | sahethLinkPortTraining => exact h.trainPort.next
  | pageWalkComplete => exact h.execPageWalkComplete

end Sys2Proof.Machine

/-! ### Memory through what enters a device state -/

namespace Sys2Proof.Machine

variable {s t : State}

/-- What is steady keeps memory canonical. -/
theorem Steady.wf (h : Steady s t) (hw : Memory.wf s.mem = true) : Memory.wf t.mem = true := h.1 hw

theorem wf_ite {c : Prop} [Decidable c] {a b : State} (ha : Memory.wf a.mem = true) (hb : Memory.wf b.mem = true) :
    Memory.wf (if c then a else b).mem = true := by
  split
  · exact ha
  · exact hb

theorem g3_wf {c : Cause} (h : Memory.wf s.mem = true) : Memory.wf (s.g3 c).mem = true :=
  wf_ite h ((Steady.refl _).cutQuarantined.wf (toDState_wf _ _ _ h))

theorem railRemoved_wf {n : Nat} (h : Memory.wf s.mem = true) : Memory.wf (s.railRemoved n).mem = true := wf_ite h (wf_ite h (g3_wf h))
theorem drain_wf (h : Memory.wf s.mem = true) : Memory.wf s.drain.mem = true := toDState_wf _ _ _ h
theorem devAnswer_wf {b : Bool} (h : Memory.wf s.mem = true) : Memory.wf (s.devAnswer b).mem = true := h

theorem started_wf (h : Memory.wf s.mem = true) : Memory.wf s.started.mem = true := by
  unfold State.started
  exact toDState_wf _ _ _ (wf_ite (c := s.boot.readied = true) h h)

theorem devcmdRun_wf (h : Memory.wf s.mem = true) : Memory.wf s.devcmdRun.mem = true := by
  unfold State.devcmdRun
  split
  · exact h
  · exact wf_ite (devAnswer_wf (started_wf h)) h
  · exact wf_ite (devAnswer_wf (drain_wf h)) h
  · exact wf_ite (devAnswer_wf (toDState_wf _ _ _ h)) h

theorem signedCommand_wf {r : MgmtReq} {op : BitVec 8} {ok : Bool} {st : BitVec 16} {f : State → State} (h : Memory.wf s.mem = true)
    (hf : ∀ s, Memory.wf s.mem = true → Memory.wf (f s).mem = true) : Memory.wf (s.signedCommand r op ok st f).mem = true :=
  wf_ite h (wf_ite h (wf_ite h (hf _ h)))

theorem afterDevcmd_wf {i : Instr} {f : State → State} (h : Memory.wf s.mem = true) (hf : Memory.wf (f s).mem = true) :
    Memory.wf (s.afterDevcmd i f).mem = true := wf_ite hf (devcmdRun_wf h)

theorem graphGone_wf {g : Graph} (h : Memory.wf s.mem = true) : Memory.wf (s.graphGone g).mem = true :=
  have hr := (Steady.refl s).setReady.wf h
  wf_ite (toDState_wf _ _ _ hr) hr

theorem graphComplete_wf {gid : Nat} (h : Memory.wf s.mem = true) : Memory.wf (s.graphComplete gid).mem = true := by
  unfold State.graphComplete
  split
  · exact h
  · exact wf_ite h (graphGone_wf (((Steady.refl s).foldl fun _ _ h => .ite h.nodeState h).putGstat.event.wf h))

theorem graphKillComplete_wf {gid : Nat} (h : Memory.wf s.mem = true) : Memory.wf (s.graphKillComplete gid).mem = true := by
  unfold State.graphKillComplete
  split
  · exact h
  · exact wf_ite h (graphGone_wf ((Steady.refl s).putGstat.event.wf h))

theorem execPowerFault_wf {e : RailEvent} (h : Memory.wf s.mem = true) (ht : execPowerFault e s = .next t) : Memory.wf t.mem = true := by
  cases ht
  cases e with
  | leaves n => exact wf_ite (g3_wf h) h
  | removed n => exact railRemoved_wf h
  | applied n => exact (Steady.refl s).railApplied.wf h

theorem execMachineCheck_wf {e : Check} (h : Memory.wf s.mem = true) (ht : execMachineCheck e s = .next t) : Memory.wf t.mem = true := by
  cases ht
  cases e with
  | state => exact g3_wf h
  | sramCorrected n => exact (Steady.refl s).modUnit.klog.wf h
  | sramUncorrectable n c => exact (Steady.refl s).sramBad.wf h

/-- Whatever an instruction does, memory stays canonical. -/
theorem exec_wf {i : Instr} (h : Memory.wf s.mem = true) (ht : exec i s = .next t) : Memory.wf t.mem = true := by
  cases hi : entersState i with
  | false => exact ((Steady.refl s).exec hi t ht).wf h
  | true =>
    unfold Machine.exec at ht
    cases i with
    | powerFault e => exact execPowerFault_wf h ht
    | machineCheck e => exact execMachineCheck_wf h ht
    | reset => cases ht; exact h
    | thermalTrip => cases ht; exact g3_wf h
    | selfCheckFail => cases ht; exact wf_ite (toDState_wf _ _ _ h) h
    | mgmtDrain => cases ht; exact afterDevcmd_wf h (signedCommand_wf h fun _ => drain_wf)
    | mgmtResume => cases ht; exact afterDevcmd_wf h (signedCommand_wf h fun _ => toDState_wf _ _ _)
    | devcmdStart | devcmdDrain | devcmdResume => cases ht; exact wf_ite (devcmdRun_wf h) h
    | graphComplete => cases ht; exact graphComplete_wf h
    | graphKillComplete => cases ht; exact graphKillComplete_wf h
    | _ => cases hi

/-! ### What a step keeps

A predicate that steady updates keep and that every instruction keeps, every step keeps: a bundle's checks, faults, holds and end are steady, and its
slots are instructions. -/

section
variable {s₀ : State}

theorem Steady.atSlot {k : Nat} {b : Bool} (h : Steady s₀ s) : Steady s₀ (s.atSlot k b) := h
theorem Steady.take {u : UnitId} {pc : Nat} {c : Chain} (h : Steady s₀ s) : Steady s₀ (s.take u pc c) := h
theorem Steady.nextCycle (h : Steady s₀ s) : Steady s₀ s.nextCycle := h
theorem Steady.takeFault {u : UnitId} {pc : Nat} {f : BFault} (h : Steady s₀ s) : Steady s₀ (s.takeFault u pc f) := h.takeException
theorem Steady.waitUnit {u : UnitId} {hd : Hold} (h : Steady s₀ s) : Steady s₀ (s.waitUnit u hd) := .ite h.holdUnit.modThread h.holdUnit

theorem Steady.mergeLoss {u : UnitId} (h : Steady s₀ s) : Steady s₀ (s.mergeLoss u) := by
  cases u with
  | ctx t c => exact .ite h h.modTile
  | core k => exact h

theorem Steady.issued {u : UnitId} (h : Steady s₀ s) : Steady s₀ (s.issued u) := by
  cases u with
  | ctx t c => exact .ite h h.modTile
  | core k => exact h

theorem Steady.settled {u : UnitId} (h : Steady s₀ s) : Steady s₀ (s.settled u) := by
  cases u with
  | ctx t c => exact h.issued.hqTurn.kvFlush.taskEnd
  | core k => exact h

theorem Steady.slotEnds {u : UnitId} {c : Cause} {v : Verdict} (h : Steady s₀ s) : Steady s₀ (s.slotEnds u c v) := by
  unfold State.slotEnds
  split
  · exact h.dropMark
  · exact .ite h.unitMet h
  · exact h

end

section
variable {P : State → Prop} (hs : ∀ {s t}, Steady s t → P s → P t) (he : ∀ {i s t}, P s → exec i s = .next t → P t)
include hs he

theorem commitAll_keeps {ops : List (Nat × Instr)} (h : P s) (ht : commitAll s ops = .next t) : P t := by
  induction ops generalizing s with
  | nil =>
    cases ht
    exact h
  | cons o ops ih =>
    simp only [commitAll] at ht
    split at ht
    next e => exact ih (he (hs (Steady.refl s).atSlot h) e) ht
    · cases ht
    · cases ht

theorem runSlots_keeps {ops : List (Nat × Instr)} {b : Bool} (h : P s) (ht : runSlots s ops b = .next t) : P t := by
  have hr := Steady.refl s
  unfold runSlots at ht
  dsimp only at ht
  split at ht
  · cases ht
    exact hs hr.waitUnit h
  split at ht
  · cases ht
  · cases ht
  split at ht
  · cases ht
    exact hs hr.waitUnit h
  split at ht
  · cases ht
    exact h
  split at ht
  · cases ht
    exact hs hr.mergeLoss h
  split at ht
  · cases ht
    exact hs (hr.foldl fun _ _ h => h.slotEnds).takeFault h
  split at ht
  · cases ht
    exact hs hr.holdUnit h
  split at ht
  · cases ht
    exact hs hr.takeFault h
  split at ht
  next e =>
    cases ht
    exact hs (Steady.refl _).finish.settled (commitAll_keeps hs he (hs hr.seen h) e)
  · cases ht
  · cases ht

theorem runUnit_keeps {u : UnitId} (h : P s) (ht : runUnit s u = .next t) : P t := by
  have hr := Steady.refl s
  unfold runUnit at ht
  dsimp only at ht
  split at ht
  · cases ht
    exact hs hr.waitUnit h
  · cases ht
    exact hs hr.unitMet.takeFault h
  split at ht
  · cases ht
    exact hs (.ite hr.mergeLoss hr.takeFault) h
  · exact runSlots_keeps hs he (hs hr.take h) ht

theorem step_keeps (h : P s) (ht : step s = .next t) : P t := by
  have hr := Steady.refl s
  unfold step at ht
  split at ht
  · exact runUnit_keeps hs he (hs (Steady.update hr) h) ht
  split at ht
  · split at ht
    · split at ht
      · cases ht
        exact hs (Steady.update hr) h
      · exact he (hs (Steady.update hr) h) ht
    · cases ht
  · cases ht
    exact hs hr.nextCycle h

end

end Sys2Proof.Machine

open Sys2Proof Sys2Proof.Machine in
/-- Settles O57: only memWrite and memRegion write device memory, and both keep its form; every step is made of updates that go through them. -/
theorem memoryStaysCanonical : Obligations.MemoryStaysCanonical := by
  unfold Obligations.MemoryStaysCanonical
  exact fun s t h ht => step_keeps (P := fun s => Memory.wf s.mem = true) Steady.wf exec_wf h ht

namespace Sys2Proof.Machine

/-! ## A bundle that faults before any slot acts (R31, R260) -/

/-- A chain whose decode faults, and which no merge blocks, takes the fault (R260). -/
theorem runUnit_of_decodeFault {s : State} {u : UnitId} {c : Chain} {f : BFault} (hc : s.chainAt u (s.thread u).pc = .chain c)
    (hd : decodeFault (s.seen u) u (s.thread u).pc c (chainOps c) = some f) (hb : s.blocked u c.present (banksOf (chainOps c)) = false) :
    runUnit s u = .next (s.takeFault u (s.thread u).pc f) := by
  simp only [runUnit, hc, hd, hb, Bool.false_eq_true, if_false]

/-- A fetch that fails takes the fault, once an uncorrectable line that it has met is recorded (R31). -/
theorem runUnit_of_fetchFault {s : State} {u : UnitId} {c : Cause} {a : Nat} (hc : s.chainAt u (s.thread u).pc = .fault c a) :
    runUnit s u = .next ((s.unitMet u c a).takeFault u (s.thread u).pc { cause := c, slots := 0, faddr := BitVec.ofNat 64 a }) := by
  simp only [runUnit, hc]

end Sys2Proof.Machine

open Sys2Proof Sys2Proof.Machine in
/-- Settles O11: a fault of the fetch or of the decode is taken before any slot acts. -/
theorem decodeFaultCommitsNothing : Obligations.DecodeFaultCommitsNothing := by
  unfold Obligations.DecodeFaultCommitsNothing
  intro s r u rest hs hr
  have hstep : step s = runUnit r u := hr ▸ step_of_toIssue hs
  refine ⟨fun c f hc hd hb => ?_, fun c a q hc hq => ?_⟩
  · exact hstep.trans (runUnit_of_decodeFault hc hd hb)
  · subst hq
    exact hstep.trans (runUnit_of_fetchFault hc)

namespace Sys2Proof.Machine

open Sys2Proof.Claims

/-- A field as arithmetic on the number. -/
theorem fld_eq {n : Nat} (x : BitVec n) (lo len : Nat) : fld x lo len = x.toNat / 2 ^ lo % 2 ^ len := by
  rw [fld, bits, Nat.shiftRight_eq_div_pow]

section

variable {s q : State} {port : Nat} {k : BitVec 4} {fl : List (BitVec 512)} {m : FabMsg}

/-! ## What a port takes in (R34-R37) -/

/-- A message that flits complete acts on the state with them taken in, or stays at its sending port (R37, R274). -/
theorem arrives_of_brings (h : Brings s port k fl m q) (act : State → FabMsg → Option State) :
    s.arrives port k fl act = (act q m).getD s := by
  obtain ⟨⟨hlive, hfit, hm⟩, rfl⟩ := h
  simp only [State.arrives, hlive, hfit, hm, Bool.not_true, Bool.or_self, Bool.false_eq_true, if_false]

/-- Flits that complete no message are taken in, and do nothing else (R34). -/
theorem arrives_of_partial (hlive : (s.port port).live = true) (hfit : fl.all (fabFits k) = true) (hm : ((s.port port).takes fl).2 = none)
    (act : State → FabMsg → Option State) : s.arrives port k fl act = s.taken port fl := by
  simp only [State.arrives, hlive, hfit, hm, Bool.not_true, Bool.or_self, Bool.false_eq_true, if_false]

/-- Taking flits in changes the link of a port and its count of NAKs, and nothing else of it. -/
theorem takes_eq (fl : List (BitVec 512)) : ∀ x : Port, ∃ l r, (x.takes fl).1 = { x with link := l, refuses := r } := by
  induction fl with
  | nil => exact fun x => ⟨x.link, x.refuses, rfl⟩
  | cons f fl ih =>
    intro x
    unfold Port.takes
    dsimp only
    split
    · split
      · exact ⟨_, _, rfl⟩
      · exact ih _
    · exact ⟨_, _, rfl⟩

/-- A port that has taken flits in differs in its link and its count of NAKs alone. -/
theorem port_of_brings (h : Brings s port k fl m q) : ∃ l r, q.port port = { s.port port with link := l, refuses := r } := by
  obtain ⟨_, rfl⟩ := h
  rw [State.taken, port_modPort]
  exact takes_eq fl _

/-! What the units and the tenants of a state are does not depend on the flits a port has taken in. -/

@[simp] theorem tile_taken (s : State) (p : Nat) (l : List (BitVec 512)) (t : Nat) : (s.taken p l).tile t = s.tile t := rfl
@[simp] theorem ctx_taken (s : State) (p : Nat) (l : List (BitVec 512)) (t c : Nat) : (s.taken p l).ctx t c = s.ctx t c := rfl
@[simp] theorem unit_taken (s : State) (p : Nat) (l : List (BitVec 512)) (u : UnitName) : (s.taken p l).unit u = s.unit u := rfl
@[simp] theorem tenant_taken (s : State) (p : Nat) (l : List (BitVec 512)) (n : Nat) : (s.taken p l).tenant n = s.tenant n := rfl
@[simp] theorem bound_taken (s : State) (p : Nat) (l : List (BitVec 512)) (t tn : Nat) : (s.taken p l).bound t tn = s.bound t tn := rfl

/-! ## What the target makes of an access (R35, R38) -/

theorem brought_of_tile {rk : RKind} {size data data2 : Nat} {lanes : PReg} (h : gaTile m.dst = true) :
    q.brought m rk size data data2 lanes = q.atHome m.tenant rk m.dst 0 size data data2 lanes := by
  rw [State.brought, if_pos h]

theorem brought_of_other {rk : RKind} {size data data2 : Nat} {lanes : PReg} (h : gaTile m.dst = false) :
    q.brought m rk size data data2 lanes = { st := q, val := 0, fail := some 0x26#7, cont := none } := by
  rw [State.brought, if_neg (by simp [h])]

end

/-- Each request waits at its sending port while its tile is away (R274). -/
theorem request_arrives {s : State} {port : Nat} {fl : List (BitVec 512)} {i : Instr} {k : BitVec 4}
    (h : (i = .remoteStore port fl ∧ k = 0x0#4) ∨ (i = .remoteLoadRequest port fl ∧ k = 0x1#4) ∨ (i = .copyData port fl ∧ k = 0x3#4) ∨
        (i = .barrierArrival port fl ∧ k = 0x4#4) ∨ (i = .send port fl ∧ k = 0x5#4) ∨ (i = .deduplicationReference port fl ∧ k = 0x7#4) ∨
        (i = .atomicRequest port fl ∧ k = 0xC#4)) :
    ∃ act : State → FabMsg → Option State, exec i s = .next (s.arrives port k fl act) ∧ ∀ q m, q.waits m = true → act q m = none := by
  rcases h with ⟨rfl, rfl⟩ | ⟨rfl, rfl⟩ | ⟨rfl, rfl⟩ | ⟨rfl, rfl⟩ | ⟨rfl, rfl⟩ | ⟨rfl, rfl⟩ | ⟨rfl, rfl⟩
  · exact ⟨State.storeIn port, rfl, fun q m h => if_pos h⟩
  · exact ⟨State.loadIn port, rfl, fun q m h => if_pos h⟩
  · exact ⟨State.copyIn port, rfl, fun q m h => if_pos h⟩
  · exact ⟨State.arrivalIn port, rfl, fun q m h => if_pos h⟩
  · exact ⟨State.sendIn port, rfl, fun q m h => if_pos h⟩
  · exact ⟨State.reference port, rfl, fun q m h => if_pos h⟩
  · exact ⟨State.atomicIn port, rfl, fun q m h => if_pos h⟩

section

variable {s q : State} {port : Nat} {k : BitVec 4} {fl : List (BitVec 512)} {m : FabMsg}

/-- A write that has performed says nothing; one that failed sends its cause (log entry 19). -/
theorem wrote_cases {r : Result} {h : HomeR} (hr : r = .next (h.st.wrote port m h.fail)) :
    (h.fail = none → r = .next h.st) ∧ (∀ c, h.fail = some c → r = .next (h.st.answer port m.tile 0x2#4 m (c.toNat + 512) [])) := by
  refine ⟨fun hf => ?_, fun c hf => ?_⟩ <;> rw [hr, hf] <;> rfl

/-- A remote store performs at its home, or its cause returns (R35, R364). -/
theorem remoteStore_of_brings (hb : Brings s port 0x0#4 fl m q) (hw : q.waits m = false) {h : HomeR}
    (hh : q.brought m .stx (m.arg.toNat % 256) (ofBytes (m.data.take 128)) 0 m.lanes = h) :
    exec (.remoteStore port fl) s = .next (h.st.wrote port m h.fail) := by
  refine congrArg _ ((arrives_of_brings hb _).trans ?_)
  have h0 : fld m.arg 0 8 = m.arg.toNat % 256 := by simp [fld_eq]
  simp only [State.storeIn, hw, h0, hh, Bool.false_eq_true, if_false, Option.getD_some]

/-- A barrier arrival performs at its home, or its cause returns (R144). -/
theorem barrierArrival_of_brings (hb : Brings s port 0x4#4 fl m q) (hw : q.waits m = false) {h : HomeR}
    (hh : q.brought m .arrival 8 0 0 (BitVec.allOnes 128) = h) :
    exec (.barrierArrival port fl) s = .next (h.st.wrote port m h.fail) := by
  refine congrArg _ ((arrives_of_brings hb _).trans ?_)
  simp only [State.arrivalIn, hw, hh, Bool.false_eq_true, if_false, Option.getD_some]

/-- A load is answered with its bytes, or with its cause (R35). -/
theorem remoteLoadRequest_of_brings (hb : Brings s port 0x1#4 fl m q) (hw : q.waits m = false) {h : HomeR}
    (hh : q.brought m (.ldx 0) m.arg.toNat 0 0 m.lanes = h) :
    (h.fail = none → exec (.remoteLoadRequest port fl) s = .next (h.st.answer port m.tile 0x2#4 m 0 (toBytes m.arg.toNat h.val))) ∧
    (∀ c, h.fail = some c → exec (.remoteLoadRequest port fl) s = .next (h.st.answer port m.tile 0x2#4 m c.toNat [])) := by
  have hx : exec (.remoteLoadRequest port fl) s = .next ((State.loadIn port q m).getD s) := congrArg _ (arrives_of_brings hb _)
  simp only [State.loadIn, hw, hh, Bool.false_eq_true, if_false, Option.getD_some] at hx
  exact ⟨fun hf => by simpa only [hf] using hx, fun c hf => by simpa only [hf] using hx⟩

/-- An atomic is answered with the old value and the CONT that it released, or with its cause (R35, R364). -/
theorem atomicRequest_of_brings (hb : Brings s port 0xC#4 fl m q) (hw : q.waits m = false) {h : HomeR}
    (hh : q.brought m (.atm (atmOfCode (m.arg.toNat / 256 % 256)) 0) (m.arg.toNat % 256) (ofBytes (m.data.take 128))
      (ofBytes ((m.data.drop 128).take 8)) (BitVec.allOnes 128) = h) :
    (h.fail = none → h.cont = none → exec (.atomicRequest port fl) s = .next (h.st.answer port m.tile 0xD#4 m 0 (toBytes 8 h.val))) ∧
    (∀ b, h.fail = none → h.cont = some b →
      exec (.atomicRequest port fl) s = .next (h.st.answer port m.tile 0xD#4 m 256 (toBytes 8 h.val ++ toBytes 64 b))) ∧
    (∀ c, h.fail = some c → exec (.atomicRequest port fl) s = .next (h.st.answer port m.tile 0xD#4 m c.toNat [])) := by
  have hx : exec (.atomicRequest port fl) s = .next ((State.atomicIn port q m).getD s) := congrArg _ (arrives_of_brings hb _)
  have h0 : fld m.arg 0 8 = m.arg.toNat % 256 := by simp [fld_eq]
  have h8 : fld m.arg 8 8 = m.arg.toNat / 256 % 256 := by simp [fld_eq]
  simp only [State.atomicIn, hw, h0, h8, hh, Bool.false_eq_true, if_false, Option.getD_some] at hx
  refine ⟨fun hf hc => ?_, fun b hf hc => ?_, fun c hf => ?_⟩
  · simpa [hf, hc] using hx
  · simpa [hf, hc] using hx
  · simpa only [hf] using hx

/-! ## Blocks and payload (R40, R462) -/

/-- A full candidate block is the newest of the port's store (R40). -/
theorem storeBlock_head {h : BitVec 128} (hd : q.kregs.ddbase ≠ 0) (hl : m.data.length = 4096) (hh : h = blockTag (q.port port).key m.data)
    (hc : m.cand = some h) : ((q.storeBlock port m).port port).store.head? = some (m.tenant, h, (q.port port).place m.tenant h) := by
  subst hh
  rw [State.storeBlock, if_neg (not_or.mpr ⟨hd, by simp [hl, hc]⟩), port_modPort]
  rfl

/-- Bytes that are no full candidate block enter no store (R40). -/
theorem storeBlock_other (h : q.kregs.ddbase = 0 ∨ m.data.length ≠ 4096 ∨ m.cand ≠ some (blockTag (q.port port).key m.data)) :
    q.storeBlock port m = q := if_pos h

/-- Copy bytes for a tile are accepted and written where their home takes them (R38). -/
theorem copyArrives_of_tile (hg : gaTile m.dst = true) (hf : q.homeFails m.tenant .stx m.dst 0 m.data.length true = none) :
    q.copyArrives port m = (true, q.homeWrite m.dst 0 m.data.length (ofBytes m.data) (BitVec.allOnes 128)) := by
  simp only [State.copyArrives, hg, hf, if_true]

theorem copyArrives_failed {c : Cause} (h : (if gaTile m.dst then q.homeFails m.tenant .stx m.dst 0 m.data.length true else some 0x26#7) = some c) :
    q.copyArrives port m = (false, q.answer port m.tile 0x2#4 m (c.toNat + 512) []) := by
  simp only [State.copyArrives, h]
  rfl

/-- Copy bytes are written, and a block that the port accepted is stored (R35, R40). -/
theorem copyData_of_brings (hb : Brings s port 0x3#4 fl m q) (hw : q.waits m = false) {w : Bool × State} (ha : q.copyArrives port m = w) :
    exec (.copyData port fl) s = .next (if w.1 then w.2.storeBlock port m else w.2) := by
  refine congrArg _ ((arrives_of_brings hb _).trans ?_)
  simp only [State.copyIn, hw, ha, Bool.false_eq_true, if_false, Option.getD_some]

/-- A write at a tile leaves every port as it was. -/
theorem port_homeWrite_of_tile {a : W64} {pa n v : Nat} {lanes : PReg} (hg : gaTile a = true) (p : Nat) :
    (q.homeWrite a pa n v lanes).port p = q.port p := by
  rw [State.homeWrite, if_pos hg]
  rfl

theorem kregs_homeWrite_of_tile {a : W64} {pa n v : Nat} {lanes : PReg} (hg : gaTile a = true) :
    (q.homeWrite a pa n v lanes).kregs = q.kregs := by
  rw [State.homeWrite, if_pos hg]
  rfl

/-- Copy bytes that a tile accepts are written; the port stores a full block whose H is that of its bytes, and no others (R40). -/
theorem copyData_accepted (hb : Brings s port 0x3#4 fl m q) (hw : q.waits m = false) (hg : gaTile m.dst = true)
    (hf : q.homeFails m.tenant .stx m.dst 0 m.data.length true = none) :
    (s.kregs.ddbase = 0 ∨ m.data.length ≠ 4096 ∨ m.cand ≠ some (blockTag (s.port port).key m.data) → exec (.copyData port fl) s =
      .next (q.homeWrite m.dst 0 m.data.length (ofBytes m.data) (BitVec.allOnes 128))) ∧
    (∀ h, s.kregs.ddbase ≠ 0 → m.data.length = 4096 → h = blockTag (s.port port).key m.data → m.cand = some h → ∃ t, exec (.copyData port fl) s = .next t ∧
      t = (q.homeWrite m.dst 0 m.data.length (ofBytes m.data) (BitVec.allOnes 128)).storeBlock port m ∧
      (t.port port).store.head? = some (m.tenant, h, (s.port port).place m.tenant h)) := by
  have hx := copyData_of_brings hb hw (copyArrives_of_tile (port := port) hg hf)
  have hk : q.kregs = s.kregs := by rw [hb.2, taken_kregs]
  obtain ⟨l, r, hq⟩ := port_of_brings hb
  have hwp := port_homeWrite_of_tile (q := q) (pa := 0) (n := m.data.length) (v := ofBytes m.data) (lanes := BitVec.allOnes 128) hg port
  have hwk := kregs_homeWrite_of_tile (q := q) (pa := 0) (n := m.data.length) (v := ofBytes m.data) (lanes := BitVec.allOnes 128) hg
  generalize q.homeWrite m.dst 0 m.data.length (ofBytes m.data) (BitVec.allOnes 128) = w at hx hwp hwk ⊢
  rw [hq] at hwp
  rw [if_pos rfl] at hx
  refine ⟨fun h => ?_, fun h hd hn hh hc => ⟨_, hx, rfl, ?_⟩⟩
  · rw [hx, storeBlock_other]
    rwa [hwp, hwk, hk]
  · rw [storeBlock_head (h := h) (by rwa [hwk, hk]) hn (by rw [hwp, hh]) hc, hwp]
    rfl

/-- Payload for a receive that has met its request is written, and a block that the port accepted is stored (R462). -/
theorem send_payload_of_brings {r : Recv} (hb : Brings s port 0x5#4 fl m q) (hw : q.waits m = false) (hd : m.data ≠ [])
    (hr : (q.tile m.tile).posted.find? (fun r => decide (r.id = m.arg.toNat / 2 ^ 20 % 2 ^ 44)) = some r) (hm : r.met ≠ none)
    (ht : r.tenant = m.tenant) (hbd : q.bound m.tile m.tenant = true) :
    exec (.send port fl) s = .next ((q.recvBytes m.tile r (m.arg.toNat % 2 ^ 20) m.data).storeBlock port m) := by
  refine congrArg _ ((arrives_of_brings hb _).trans ?_)
  have ha : q.sendArrives port m = (true, q.recvBytes m.tile r (m.arg.toNat % 2 ^ 20) m.data) := by
    have h0 : fld m.arg 0 20 = m.arg.toNat % 2 ^ 20 := by simp [fld_eq]
    simp only [State.sendArrives, fld_eq m.arg 20, hr, h0, Option.isSome_iff_ne_none.mpr hm, ht, hbd, decide_true, Bool.and_self, if_true]
  simp only [State.sendIn, hw, hd, ha, Bool.false_eq_true, if_false, if_true, ne_eq, not_false_eq_true, Option.getD_some]

/-- A request for a tile bound to its tenant is held for its match (R462). -/
theorem send_request_of_brings (hb : Brings s port 0x5#4 fl m q) (hw : q.waits m = false) (hd : m.data = [])
    (hh : (q.unit (.tile m.tile)).health ≠ .failed) (hl : m.tenant ∉ (q.tile m.tile).lostFor) (hg : gaTile m.dst = true)
    (hbd : q.bound m.tile m.tenant = true) (hn : (q.tile m.tile).requests.length < 256) :
    exec (.send port fl) s =
      .next ((q.modTile m.tile (fun x => { x with requests := x.requests ++ [m.request port] })).matchTile m.tile) := by
  refine congrArg _ ((arrives_of_brings hb _).trans ?_)
  simp [State.sendIn, hw, hd, hh, hl, hg, hbd, Nat.not_le.mpr hn]

/-- A request for no tile, or for a tile that is not its tenant's, fails with REMOTE_TENANT (R38, R463). -/
theorem send_stranger_of_brings (hb : Brings s port 0x5#4 fl m q) (hw : q.waits m = false) (hd : m.data = [])
    (hh : (q.unit (.tile m.tile)).health ≠ .failed) (hl : m.tenant ∉ (q.tile m.tile).lostFor)
    (hg : gaTile m.dst = false ∨ q.bound m.tile m.tenant = false) :
    exec (.send port fl) s = .next (q.replySend m.tile (m.request port) (some 0x26#7) 0) := by
  refine congrArg _ ((arrives_of_brings hb _).trans ?_)
  rcases hg with hg | hg <;> simp [State.sendIn, hw, hd, hh, hl, hg]

/-- A reference counts toward the next session key, and is served from the store or answered with a NAK (R40, R41). -/
theorem reference_of_brings {a : State} (hb : Brings s port 0x7#4 fl m q) (hw : q.waits m = false)
    (ha : a = q.modPort port (fun x => { x with refs := x.refs + 1 })) :
    (a.blockOf port m.tenant (BitVec.ofNat 128 (ofBytes (m.data.take 16))) = none → exec (.deduplicationReference port fl) s =
        .next ((a.modPort port (fun x => { x with refused := x.refused + 1 })).sendFrom m.tile port 0x8#4
          { tenant := m.tenant, dst := m.src, src := m.dst, tag := m.tag, arg := m.arg, data := m.data, cand := none })) ∧
      (∀ e l b, a.blockOf port m.tenant (BitVec.ofNat 128 (ofBytes (m.data.take 16))) = some (e, l) →
        b = a.modPort port (fun x => { x with store := e :: x.store.filter (fun f => decide (f ≠ e)) }) → exec (.deduplicationReference port fl) s =
          .next (if m.refKind = 0x3#4 then b.copyArrives port { m with data := l } else b.sendArrives port { m with data := l }).2) := by
  have hx : exec (.deduplicationReference port fl) s = .next ((State.reference port q m).getD s) := congrArg _ (arrives_of_brings hb _)
  simp only [State.reference, hw, ← ha, Bool.false_eq_true, if_false] at hx
  refine ⟨fun hn => ?_, fun e l b hs hb => ?_⟩
  · simpa only [hn, Option.getD_some] using hx
  · subst hb
    simpa only [hs, Option.getD_some] using hx

end

end Sys2Proof.Machine

open Sys2Proof Sys2Proof.Machine in
/-- Settles O52: a message that its flits complete acts at its home on the state with the flits taken in, unless its tile is away. -/
theorem fabricRequestEvents : Obligations.FabricRequestEvents := by
  unfold Obligations.FabricRequestEvents
  intro s q port fl m
  refine ⟨fun i k hi => ?_, fun hb hw => ?_, fun hb hw => ?_, fun hb hw => ?_, fun hb hw => ?_, fun hb hw => ?_, fun hb hw => ?_, fun a hb hw ha => ?_⟩
  · obtain ⟨act, hx, ha⟩ := request_arrives hi
    exact ⟨fun hb hw => by rw [hx, arrives_of_brings hb, ha q m hw, Option.getD_none], fun hl hf hm => by rw [hx, arrives_of_partial hl hf hm]⟩
  · exact ⟨fun h hg hh => wrote_cases (remoteStore_of_brings hb hw ((brought_of_tile hg).trans hh.symm)),
      fun hg => (wrote_cases (remoteStore_of_brings hb hw (brought_of_other hg))).2 0x26#7 rfl⟩
  · exact ⟨fun h hg hh => wrote_cases (barrierArrival_of_brings hb hw ((brought_of_tile hg).trans hh.symm)),
      fun hg => (wrote_cases (barrierArrival_of_brings hb hw (brought_of_other hg))).2 0x26#7 rfl⟩
  · exact ⟨fun h hg hh => remoteLoadRequest_of_brings hb hw ((brought_of_tile hg).trans hh.symm),
      fun hg => (remoteLoadRequest_of_brings hb hw (brought_of_other hg)).2 0x26#7 rfl⟩
  · exact ⟨fun h hg hh => atomicRequest_of_brings hb hw ((brought_of_tile hg).trans hh.symm),
      fun hg => (atomicRequest_of_brings hb hw (brought_of_other hg)).2.2 0x26#7 rfl⟩
  · refine ⟨fun hg hf => copyData_accepted hb hw hg hf, fun c hg hf => ?_, fun hg => ?_⟩
    · exact copyData_of_brings hb hw (copyArrives_failed (by rw [if_pos hg, hf]))
    · exact copyData_of_brings hb hw (copyArrives_failed (c := 0x26#7) (by rw [if_neg (by simp [hg])]))
  · have hq := hb.2
    refine ⟨fun hd hh hl hg hbd hn => ?_, fun hd hh hl hg => ?_, fun r hd hr hm ht hbd => ?_⟩
    · exact send_request_of_brings hb hw hd (by rwa [hq, unit_taken]) (by rwa [hq, tile_taken]) hg (by rwa [hq, bound_taken]) (by rwa [hq, tile_taken])
    · exact send_stranger_of_brings hb hw hd (by rwa [hq, unit_taken]) (by rwa [hq, tile_taken]) (by rwa [hq, bound_taken])
    · exact send_payload_of_brings hb hw hd (by rwa [hq, tile_taken]) hm ht (by rwa [hq, bound_taken])
  · exact reference_of_brings hb hw ha

namespace Sys2Proof.Machine

open Sys2Proof.Claims

/-- The first element with a property that has a narrower one too is the first with the narrower one. -/
theorem find?_of_narrower {α : Type} {l : List α} {p p' : α → Bool} {a : α} (h : l.find? p = some a) (ha : p' a = true)
    (hp : ∀ x, p' x = true → p x = true) : l.find? p' = some a := by
  obtain ⟨-, as, bs, hl, has⟩ := List.find?_eq_some_iff_append.mp h
  refine List.find?_eq_some_iff_append.mpr ⟨ha, as, bs, hl, fun x hx => ?_⟩
  have hnot : p x = false := by simpa using has x hx
  cases hx' : p' x with
  | false => rfl
  | true => exact absurd (hp x hx') (by simp [hnot])

section

variable {s q : State} {port : Nat} {k : BitVec 4} {fl : List (BitVec 512)} {m : FabMsg}

@[simp] theorem answers_taken (s : State) (p : Nat) (l : List (BitVec 512)) (m : FabMsg) : (s.taken p l).answers m = s.answers m := rfl
@[simp] theorem contRoom_taken (s : State) (p : Nat) (l : List (BitVec 512)) (t c tn : Nat) : (s.taken p l).contRoom t c tn = s.contRoom t c tn := rfl

/-- The cause that an answer carries, if any. -/
def answerFail (m : FabMsg) : Option Cause :=
  if BitVec.ofNat 7 (m.arg.toNat % 128) = 0#7 then none else some (BitVec.ofNat 7 (m.arg.toNat % 128))

theorem fld_cause (m : FabMsg) : fld m.arg 0 7 = m.arg.toNat % 128 := by simp [fld_eq]

/-- A message that never waits acts on the state with its flits taken in. -/
theorem arrives_always (h : Brings s port k fl m q) (act : State → FabMsg → State) :
    s.arrives port k fl (fun s m => some (act s m)) = act q m := arrives_of_brings h _

/-! ## Answers that reach what they name (R35, R38) -/

/-- An answer to a load reaches the access that it names. -/
theorem loadReturn_of_access {r : Remote} (ha : q.answers m = true)
    (hr : (q.ctx m.to.1 m.to.2.1).remote.find? (fun r => decide (r.id = m.tag.toNat) && r.sent && !r.done) = some r) :
    q.loadReturn m = (q.settle m.to.1 m.to.2.1 r (ofBytes m.data) (answerFail m)).afterAccess m.to.1 m.to.2.1 r (answerFail m) none := by
  simp only [State.loadReturn, ha, hr, fld_cause, Bool.not_true, Bool.false_eq_true, if_false]
  rfl

theorem loadReturn_of_copy {slot : Nat} {k : CopyCmd} (ha : q.answers m = true)
    (hr : (q.ctx m.to.1 m.to.2.1).remote.find? (fun r => decide (r.id = m.tag.toNat) && r.sent && !r.done) = none)
    (hk : (q.tile m.to.1).copyOf m.tag.toNat = some (slot, k)) (hw : m.arg.getLsbD 9 = false) :
    q.loadReturn m = q.modTile m.to.1 (fun x => x.setCopy slot
      { k with got := mput k.got m.to.2.2 (ofBytes m.data, BitVec.ofNat 7 (m.arg.toNat % 128)) }) := by
  simp only [State.loadReturn, ha, hr, hk, hw, fld_cause, Bool.not_true, Bool.false_eq_true, if_false]

theorem loadReturn_of_stranger (ha : q.answers m = false) : q.loadReturn m = q := by
  simp only [State.loadReturn, ha, Bool.not_false, if_true]

/-- An answer that names an access of another TENANT is none for it (R38). -/
theorem answers_of_stranger {r : Remote} (hr : r ∈ (s.ctx m.to.1 m.to.2.1).remote) (hid : r.id = m.tag.toNat) (ht : r.tenant ≠ m.tenant) :
    s.answers m = false := by
  have h : (s.ctx m.to.1 m.to.2.1).remote.all (fun r => decide (r.id ≠ m.tag.toNat ∨ r.tenant = m.tenant)) = false :=
    List.all_eq_false.mpr ⟨r, hr, by simp [hid, ht]⟩
  simp only [State.answers, h, Bool.false_and]

theorem remoteLoadReturn_of_brings (hb : Brings s port 0x2#4 fl m q) : exec (.remoteLoadReturn port fl) s = .next (q.loadReturn m) :=
  congrArg _ (arrives_always hb (State.loadReturn))

/-- The access that an atomic's answer names has its TENANT. -/
theorem atomicReturn_of_access {r : Remote}
    (hr : (q.ctx m.to.1 m.to.2.1).remote.find? (fun r => decide (r.id = m.tag.toNat) && r.sent && !r.done) = some r) (ht : r.tenant = m.tenant) :
    q.atomicReturn m =
      if m.arg.getLsbD 8 && !q.contRoom m.to.1 m.to.2.1 r.tenant then none
      else some ((q.settle m.to.1 m.to.2.1 r (ofBytes (m.data.take 8)) (answerFail m)).afterAccess m.to.1 m.to.2.1 r (answerFail m)
        (if m.arg.getLsbD 8 then some (ofBytes (m.data.drop 8)) else none)) := by
  have hr' : (q.ctx m.to.1 m.to.2.1).remote.find? (fun r => decide (r.id = m.tag.toNat ∧ r.tenant = m.tenant) && r.sent && !r.done) = some r := by
    have hp := List.find?_some hr
    simp only [Bool.and_eq_true, decide_eq_true_eq] at hp
    obtain ⟨⟨hid, hsent⟩, hdone⟩ := hp
    refine find?_of_narrower hr ?_ fun x hx => ?_
    · simp [hid, ht, hsent, hdone]
    · simp only [Bool.and_eq_true, decide_eq_true_eq] at hx ⊢
      obtain ⟨⟨⟨hid, -⟩, hsent⟩, hdone⟩ := hx
      exact ⟨⟨hid, hsent⟩, hdone⟩
  simp only [State.atomicReturn, hr', fld_cause]
  cases m.arg.getLsbD 8 <;> rfl

theorem atomicReturn_of_brings (hb : Brings s port 0xD#4 fl m q) : exec (.atomicReturn port fl) s = .next ((q.atomicReturn m).getD s) :=
  congrArg _ (arrives_of_brings hb _)

/-- An atomic's answer that names no access of its TENANT is discarded (R38). -/
theorem atomicReturn_of_stranger (h : ∀ r, r ∈ (q.ctx m.to.1 m.to.2.1).remote → r.id = m.tag.toNat → r.tenant ≠ m.tenant) :
    q.atomicReturn m = some q := by
  have hr : (q.ctx m.to.1 m.to.2.1).remote.find? (fun r => decide (r.id = m.tag.toNat ∧ r.tenant = m.tenant) && r.sent && !r.done) = none :=
    List.find?_eq_none.mpr fun r hm => by
      simp only [Bool.and_eq_true, decide_eq_true_eq]
      rintro ⟨⟨⟨hid, ht⟩, -⟩, -⟩
      exact h r hm hid ht
  simp only [State.atomicReturn, hr]

theorem receiveCredit_of_brings (hb : Brings s port 0x6#4 fl m q) : exec (.receiveCredit port fl) s = .next (q.creditIn port m) :=
  congrArg _ (arrives_always hb (fun s m => s.creditIn port m))

/-- A credit that names no send of its TENANT is discarded (R38). -/
theorem creditIn_of_stranger (h : ∀ r, r ∈ (q.tile m.to.1).sends → r.id = m.tag.toNat → r.tenant ≠ m.tenant) : q.creditIn port m = q := by
  have hr : (q.tile m.to.1).sends.find? (fun r => decide (r.id = m.tag.toNat ∧ r.tenant = m.tenant)) = none :=
    List.find?_eq_none.mpr fun r hm => by
      rw [decide_eq_true_eq]
      rintro ⟨hid, ht⟩
      exact h r hm hid ht
  simp only [State.creditIn, hr]

/-- A credit that carries a cause fails its send (R463). -/
theorem creditIn_of_cause {r : SendRun}
    (hr : (q.tile m.to.1).sends.find? (fun r => decide (r.id = m.tag.toNat ∧ r.tenant = m.tenant)) = some r)
    (hc : BitVec.ofNat 7 (m.arg.toNat % 128) ≠ 0#7) :
    q.creditIn port m = q.sendDone m.to.1 r.id (some (BitVec.ofNat 7 (m.arg.toNat % 128))) := by
  simp only [State.creditIn, hr, fld_cause, ne_eq, hc, not_false_eq_true, if_true]

/-- A payload that crosses no multiple of 4096 is one piece (R464). -/
theorem blockCuts_single {base n : Nat} (f : Nat) (h0 : 0 < n) (h : base % 4096 + n ≤ 4096) : blockCuts (f + 2) base 0 n = [(0, n)] := by
  have hk : min (n - 0) (4096 - (base + 0) % 4096) = n := by rw [Nat.add_zero, Nat.sub_zero]; omega
  unfold blockCuts
  dsimp only
  rw [if_neg (by omega), hk, Nat.zero_add]
  unfold blockCuts
  rw [if_pos (Nat.le_refl n)]

/-- The data of a small send without DEDUP follow a credit as one message (R462). -/
theorem creditIn_of_credit {r : SendRun} {base : Nat}
    (hr : (q.tile m.to.1).sends.find? (fun r => decide (r.id = m.tag.toNat ∧ r.tenant = m.tenant)) = some r)
    (hc : m.arg.toNat % 128 = 0) (hbase : base = ((q.tile m.to.1).inst r.inst).front + fOff r.block) (hfit : base % 4096 + fLen r.block ≤ 4096)
    (h0 : 0 < fLen r.block) (hd : fDedup r.block = false) :
    q.creditIn port m = q.sendFrom m.to.1 port 0x5#4
      { tenant := r.tenant, dst := fAddr r.block, src := BitVec.ofNat 64 (2 * m.to.1 + r.ctx), tag := BitVec.ofNat 64 r.id,
        arg := BitVec.ofNat 64 (2 ^ 20 * (m.arg.toNat / 256 % 2 ^ 44)), data := (q.tile m.to.1).padRead base (fLen r.block), cand := none } := by
  have hn : fld m.arg 8 44 = m.arg.toNat / 256 % 2 ^ 44 := fld_eq _ _ _
  simp only [State.creditIn, hr, fld_cause, hc, hn, ← hbase, blockCuts_single _ h0 hfit, hd, ne_eq, not_true_eq_false, if_false, List.foldl_cons, List.foldl_nil,
    Bool.false_and, Bool.false_eq_true, Nat.zero_add, Nat.add_zero]

/-! ## What goes out (R36, R37) -/

theorem pump_out (l : List (BitVec 4 × FabMsg)) : ∀ x : Port, (Port.pump l x).out = x.out := by
  induction l with
  | nil => exact fun x => rfl
  | cons e l ih =>
    intro x
    unfold Port.pump
    dsimp only
    split
    · rfl
    · exact ih _

/-- A message goes behind those sent before it on its port (R37). -/
theorem sendFrom_out (s : State) (t n : Nat) (k : BitVec 4) (m : FabMsg) : ((s.sendFrom t n k m).port n).out = (s.port n).out ++ [(k, m)] := by
  rw [State.sendFrom, port_modPort]
  exact pump_out _ _

theorem tile_sendFrom (s : State) (t n : Nat) (k : BitVec 4) (m : FabMsg) (d : Nat) : (s.sendFrom t n k m).tile d = s.tile d := rfl
theorem ctx_sendFrom (s : State) (t n : Nat) (k : BitVec 4) (m : FabMsg) (d c : Nat) : (s.sendFrom t n k m).ctx d c = s.ctx d c := rfl

theorem out_of_brings (h : Brings s port k fl m q) : (q.port port).out = (s.port port).out := by
  obtain ⟨l, r, hq⟩ := port_of_brings h
  rw [hq]

/-! ## A block whose reference missed (R40) -/

theorem block_of_brings (h : Brings s port k fl m q) (a b c d : W64) : (q.port port).block a b c d = (s.port port).block a b c d := by
  obtain ⟨l, r, hq⟩ := port_of_brings h
  rw [hq]
  rfl

theorem deduplicationNak_of_brings (hb : Brings s port 0x8#4 fl m q) : exec (.deduplicationNak port fl) s = .next (q.dedupNak port m) :=
  congrArg _ (arrives_always hb (fun s m => s.dedupNak port m))

theorem dedupNak_of_stranger {e : BitVec 4 × FabMsg} (he : (q.port port).block m.dst m.src m.tag m.arg = some e) (ht : e.2.tenant ≠ m.tenant) :
    q.dedupNak port m = q := by
  simp only [State.dedupNak, he, ne_eq, ht, not_false_eq_true, if_true]

theorem dedupNak_of_block {e : BitVec 4 × FabMsg} (he : (q.port port).block m.dst m.src m.tag m.arg = some e) (ht : e.2.tenant = m.tenant) :
    q.dedupNak port m = (((q.modPort port (fun x => { x with blocks := x.blocks.filter (fun b => decide (b ≠ e)) })).sendFrom e.2.from.1 port e.1
      e.2).klog 6 0x3C#7 0 port (2 ^ e.2.tenant) 0 0) := by
  simp only [State.dedupNak, he, ht, ne_eq, not_true_eq_false, if_false]

end

/-! ## Retraction notices (R42, R286) -/

theorem bit_eq_testBit (x i : Nat) : bit x i = x.testBit i :=
  (congrArg (fun n => decide (n % 2 = 1)) (Nat.shiftRight_eq_div_pow x i)).trans Nat.testBit_eq_decide_div_mod_eq.symm

theorem valid_modTenant (s : State) (n j : Nat) {f : Tenant → Tenant} (hf : ∀ t, (f t).valid = t.valid) :
    ((s.modTenant n f).tenant j).valid = (s.tenant j).valid := by
  by_cases h : n = j
  · rw [h, tenant_modTenant, hf]
  · exact congrArg Tenant.valid (mget_mput_ne _ _ _ _ _ h)

theorem tenant_klog (s : State) (kind : Nat) (c : Cause) (info unit tmask lo hi n : Nat) : (s.klog kind c info unit tmask lo hi).tenant n = s.tenant n := by
  rw [State.tenant, klog_tenants]
  rfl

theorem tenant_readMet (s : State) (pa n j : Nat) : (s.readMet pa n).tenant j = s.tenant j := by
  rw [State.tenant, readMet_tenants]
  rfl

/-- An event makes no tenant VALID, and none invalid. -/
theorem valid_event (s : State) (n kind : Nat) (c : Option Cause) (info node : Nat) (user : W64) (j : Nat) :
    ((s.event n kind c info node user).tenant j).valid = (s.tenant j).valid := by
  have hlost : ∀ t : State, (((t.modTenant n (fun t => { t with evlost := t.evlost + 1 })).klog 6 0x6B#7 0 0 (2 ^ n) 0 0).tenant j).valid = (t.tenant j).valid :=
    fun t => (congrArg Tenant.valid (tenant_klog _ _ _ _ _ _ _ _ _)).trans (valid_modTenant _ _ _ fun _ => rfl)
  have hmet := congrArg Tenant.valid (tenant_readMet s (s.evconsAt n) 4 j)
  unfold State.event
  dsimp only
  split
  · exact (hlost _).trans hmet
  split
  · split
    · exact (hlost _).trans hmet
    · refine Eq.trans (valid_modTenant _ _ _ ?_) hmet
      exact fun _ => rfl
  · exact (hlost _).trans hmet

/-- The VALID tenants among some numbers that a mask names are told of a retraction (R42). -/
def State.tellRetraction (s : State) (tmask : Nat) (l : List Nat) : State :=
  l.foldl (fun (s : State) (n : Nat) => if bit tmask n && (s.tenant n).valid then s.event n 5 (some 0x76#7) 0 0 0 else s) s

theorem tellRetraction_none {tmask : Nat} (l : List Nat) {s : State} (h : ∀ n, n ∈ l → tmask.testBit n = true → (s.tenant n).valid = false) :
    s.tellRetraction tmask l = s := by
  induction l with
  | nil => rfl
  | cons n l ih =>
    have hn : (bit tmask n && (s.tenant n).valid) = false := by
      rw [bit_eq_testBit]
      cases hb : tmask.testBit n with
      | false => rfl
      | true => exact h n List.mem_cons_self hb
    rw [State.tellRetraction, List.foldl_cons, hn, if_neg Bool.false_ne_true]
    exact ih fun j hj => h j (List.mem_cons_of_mem n hj)

/-- The one VALID tenant that a mask names among some different numbers gets one event. -/
theorem tellRetraction_one {tmask n : Nat} {l : List Nat} {s : State} (hl : l.Nodup) (hn : n ∈ l) (hb : tmask.testBit n = true)
    (hv : (s.tenant n).valid = true) (h : ∀ j, j ∈ l → j ≠ n → tmask.testBit j = true → (s.tenant j).valid = false) :
    s.tellRetraction tmask l = s.event n 5 (some 0x76#7) 0 0 0 := by
  obtain ⟨as, bs, rfl⟩ := List.append_of_mem hn
  obtain ⟨-, hnd, hdis⟩ := List.nodup_append.mp hl
  have has : s.tellRetraction tmask as = s := tellRetraction_none as fun j hj hbj =>
    h j (List.mem_append_left _ hj) (hdis j hj n List.mem_cons_self) hbj
  have hbs : (s.event n 5 (some 0x76#7) 0 0 0).tellRetraction tmask bs = s.event n 5 (some 0x76#7) 0 0 0 := tellRetraction_none bs fun j hj hbj => by
    rw [valid_event]
    exact h j (List.mem_append_right _ (List.mem_cons_of_mem n hj)) (fun he => (List.nodup_cons.mp hnd).1 (he ▸ hj)) hbj
  rw [State.tellRetraction, List.foldl_append, List.foldl_cons]
  rw [State.tellRetraction] at has
  rw [has, bit_eq_testBit, hb, hv, Bool.and_self, if_pos rfl]
  exact hbs

theorem noticeIn_eq (s : State) (port : Nat) (m : FabMsg) :
    s.noticeIn port m = (s.klog 5 0x76#7 0 (port + 256 * msgField m.data 0 1) (msgField m.data 24 8) (msgField m.data 8 8)
      (msgField m.data 16 8)).tellRetraction (msgField m.data 24 8) (List.range 64) := rfl

theorem retractionNotice_of_brings {s q : State} {port : Nat} {fl : List (BitVec 512)} {m : FabMsg} (hb : Brings s port 0x9#4 fl m q) :
    exec (.retractionNotice port fl) s = .next (q.noticeIn port m) := congrArg _ (arrives_always hb (fun s m => s.noticeIn port m))

/-! ## Hop answers, reserved kinds, training and keys (R35, R36, R41) -/

section

variable {s : State} {port : Nat} {f : BitVec 512}

/-- A good hop answer of its kind acts at a live port. -/
theorem hopIn_of_good {k : BitVec 4} (hl : (s.port port).live = true) (hg : flitGood f = true) (hk : fabKind f = k) (act : State → BitVec 10 → State) :
    s.hopIn port k f act = act s (fabHseq f) := by
  simp only [State.hopIn, hl, hg, hk, Bool.not_true, ne_eq, not_true_eq_false, decide_false, Bool.and_false, Bool.or_self, Bool.false_eq_true, if_false]

/-- A damaged hop answer is discarded with a NAK (R36). -/
theorem hopIn_of_bad (k : BitVec 4) (hl : (s.port port).live = true) (hg : flitGood f = false) (act : State → BitVec 10 → State) :
    s.hopIn port k f act = s.modPort port (fun x => x.answers false x.expected) := by
  simp only [State.hopIn, hl, hg, Bool.not_true, Bool.false_and, Bool.or_self, Bool.false_eq_true, if_false, Bool.not_false, if_true]

theorem reserved_kind (h : 14 ≤ f.toNat / 2 ^ 28 % 16) : 0xE ≤ (fabKind f).toNat := by
  have hf : fld f 28 4 = f.toNat / 2 ^ 28 % 16 := fld_eq _ _ _
  rw [fabKind, hf, BitVec.toNat_ofNat]
  omega

theorem reserved_dropped (x : Port) (f : BitVec 512) : (x.reserved f).dropped = x.dropped + 1 := by
  unfold Port.reserved
  dsimp only
  split <;> rfl

/-- A flit of a reserved KIND that is not the one expected leaves the link as it was. -/
theorem reserved_link {x : Port} {f : BitVec 512} (h : fabHseq f ≠ x.expected) : (x.reserved f).link = x.link := by
  unfold Port.reserved
  dsimp only
  rw [if_neg (show ¬ fabHseq f = Port.expected { x with dropped := x.dropped + 1 } from h)]

theorem port_klog (s : State) (kind : Nat) (c : Cause) (info unit tmask lo hi n : Nat) : (s.klog kind c info unit tmask lo hi).port n = s.port n := by
  rw [State.port, klog_ports]
  rfl

/-- A port that has not FAILED trains: it is up, its peer is known, its counts of NAKs are zero, and it has a new key (R36, R41). -/
theorem port_trainPort (peer : W64) (h : (s.port port).failed = false) :
    (s.trainPort port peer).port port = { (s.port port).newKey port with
      up := true, peer := (peer &&& 0x003FFFFFFFFFFFFF#64) ||| 0x8000000000000000#64, refuses := 0, link := { (s.port port).link with naks := 0 } } := by
  rw [State.trainPort, port_modPort, h, if_neg Bool.false_ne_true]

theorem retrains_of_naks {x : Port} (hf : x.failed = false) (hn : 16 ≤ x.link.naks ∨ 16 ≤ x.refuses) : x.retrains = true := by
  rcases hn with hn | hn <;> simp [Port.retrains, hf, hn]

/-- Both trainings leave the port as training does: the record of a success is the kernel log's alone (R36, R292). -/
theorem port_trained {i : Instr} {peer : W64} (hf : (s.port port).failed = false)
    (hi : i = .sahethLinkPortTraining port peer ∨ (i = .fabricRetrain port peer ∧ (16 ≤ (s.port port).link.naks ∨ 16 ≤ (s.port port).refuses))) :
    ∃ t, exec i s = .next t ∧ t.port port = (s.trainPort port peer).port port := by
  rcases hi with rfl | ⟨rfl, hn⟩
  · exact ⟨_, rfl, rfl⟩
  · have hr := retrains_of_naks hf hn
    have hx : exec (.fabricRetrain port peer) s =
      .next (if !(s.port port).retrains then s else (s.trainPort port peer).klog 6 0x7A#7 0 port 0 0 0) := rfl
    refine ⟨(s.trainPort port peer).klog 6 0x7A#7 0 port 0 0 0, ?_, port_klog _ _ _ _ _ _ _ _ _⟩
    rw [hx, hr, Bool.not_true, if_neg Bool.false_ne_true]

theorem fabricRetrainFail_of_naks (hf : (s.port port).failed = false) (hn : 16 ≤ (s.port port).link.naks ∨ 16 ≤ (s.port port).refuses) :
    exec (.fabricRetrainFail port) s =
      .next (((s.modPort port (fun x => { x with failed := true, up := false })).linkDown (.port port) port).cutPort port) := by
  refine congrArg _ (if_neg ?_)
  rw [retrains_of_naks hf hn]
  exact Bool.false_ne_true

theorem takes_refused {x : Port} (fl : List (BitVec 512)) (h : flitGood f = false ∨ fabHseq f ≠ x.expected) :
    (x.takes (f :: fl)).1.refuses = x.refuses + 1 ∧ (x.takes (f :: fl)).2 = none := by
  have hg : ¬ (flitGood f && decide (fabHseq f = x.expected)) = true := by
    rcases h with h | h <;> simp [h]
  unfold Port.takes
  dsimp only
  rw [if_neg hg]
  exact ⟨rfl, rfl⟩

end

/-! ## The failure of a port (R29, R36) -/

section

variable {s : State}

/-- In a device without tiles no tile is cut. -/
theorem cutQuarantined_of_no_tiles (h : s.tiles = []) : s.cutQuarantined = s := by
  unfold State.cutQuarantined
  rw [h]
  exact ite_self s

theorem unit_modUnit (s : State) (u : UnitName) (f : UnitEntry → UnitEntry) : (s.modUnit u f).unit u = f (s.unit u) := mget_mput_same _ _ _ _

theorem unit_klog (s : State) (kind : Nat) (c : Cause) (info unit tmask lo hi : Nat) (u : UnitName) :
    (s.klog kind c info unit tmask lo hi).unit u = s.unit u := by
  rw [State.unit, klog_health]
  rfl

/-- The failure of a port in a device without tiles. -/
theorem linkDown_of_no_tiles (h : s.tiles = []) (u : UnitName) (n : Nat) :
    ((s.linkDown u n).unit u).health = .failed ∧ ((s.linkDown u n).unit u).last = some 0x75#7 ∧ (s.linkDown u n).tiles = [] ∧
      (s.linkDown u n).ports = s.ports := by
  have ht : ((s.modUnit u (fun e => { e with health := .failed, last := some 0x75#7 })).klog 2 0x7C#7 Health.failed.code n 0 0 0).tiles = [] := by
    rw [klog_tiles, modUnit_tiles, h]
  rw [State.linkDown, State.newHealth, cutQuarantined_of_no_tiles ht, unit_klog, unit_klog, unit_modUnit, klog_tiles, ht, klog_ports, klog_ports]
  exact ⟨rfl, rfl, rfl, rfl⟩

theorem cutPort_of_no_tiles (h : s.tiles = []) (port : Nat) :
    s.cutPort port = s.modPort port (fun x => { x with out := [], blocks := [], link := { x.link with retry := [], wire := [], body := [] } }) := by
  unfold State.cutPort
  dsimp only
  rw [modPort_tiles, h]
  rfl

theorem unit_modPort (s : State) (n : Nat) (f : Port → Port) (u : UnitName) : (s.modPort n f).unit u = s.unit u := rfl

/-- A port that goes down in a device without tiles keeps no message, and its unit is FAILED with LINK_DOWN (R36). -/
theorem cut_linkDown_of_no_tiles (h : s.tiles = []) (port : Nat) {t : State} (ht : t = (s.linkDown (.port port) port).cutPort port) :
    (t.port port).failed = (s.port port).failed ∧ (t.port port).up = (s.port port).up ∧ (t.port port).out = [] ∧
      (t.unit (.port port)).health = .failed ∧ (t.unit (.port port)).last = some 0x75#7 := by
  obtain ⟨hh, hl, htl, hp⟩ := linkDown_of_no_tiles h (.port port) port
  have hport : (s.linkDown (.port port) port).port port = s.port port := by
    rw [State.port, hp]
    rfl
  rw [ht, cutPort_of_no_tiles htl, port_modPort, unit_modPort, hport, hh, hl]
  exact ⟨rfl, rfl, rfl, rfl, rfl⟩

end

/-! ## Sends and receives of a tile (R461, R462) -/

section

variable {s : State} {t c : Nat}

/-- A tile without sends offers none again. -/
theorem deliverAll_of_no_sends (h : (s.tile t).sends = []) : s.deliverAll t = s := by
  simp only [State.deliverAll, h, List.filter_nil, List.foldl_nil]

/-- The send that an FSEND starts. -/
def sendRun (s : State) (t c : Nat) (b : BitVec 256) (inst scope id : Nat) : SendRun :=
  { id := id, ctx := c, block := b, inst := inst, tenant := (s.tile t).tenant.getD 0, scope := scope, written := false }

/-- The tile with a send started: it reads its source, and is among the sends (R461). -/
def Tile.sendStarted (r : SendRun) (x : Tile) : Tile := { (x.modInst r.inst (fun h => h.startRead r.id 1)) with sends := x.sends ++ [r] }

/-- The state with the FSEND at the head of the queue accepted, its request still to leave (R461). -/
def State.sendStarted (s : State) (t c : Nat) (rest : List FCmd) (r : SendRun) : State :=
  (s.modCtx t c (fun y => { y with fq := rest })).modTile t (Tile.sendStarted r)

/-- An FSEND that may be accepted and whose block its source holds starts; its request leaves by its port, or goes to its tile (R461). -/
theorem fsendAccept_started {b : BitVec 256} {inst scope id : Nat} {rest : List FCmd} (h0 : (s.tile t).sends = [])
    (hq : (s.ctx t c).fq = .fsend b inst scope id :: rest) (hcut : (s.tile t).cutting = false) (hread : ((s.tile t).inst inst).canRead 1 = true)
    (haw : (s.tile t).awaits id = false) (hout : (s.tile t).outcome id = none) (hb : ((s.tile t).ctx (1 - c)).sendsBefore (fAddr b) id = false)
    (hsize : fOff b + fLen b ≤ ((s.tile t).inst inst).size) {r : SendRun} (hr : r = sendRun s t c b inst scope id) {a : State}
    (ha : a = s.sendStarted t c rest r) :
    exec (.fsendAccept t c) s =
      .next (if gaPeer (fAddr b) = 0 then a.deliver t r
        else if (a.port (gaPeer (fAddr b) - 1)).failed then a.sendDone t id (some 0x75#7)
        else a.sendFrom t (gaPeer (fAddr b) - 1) 0x5#4
          { tenant := r.tenant, dst := fAddr b, src := BitVec.ofNat 64 (2 * t + c), tag := BitVec.ofNat 64 id,
            arg := BitVec.ofNat 64 (fLen b + 2 ^ 32 * (fTag b).toNat), data := [], cand := none }) := by
  have hq' : ((s.tile t).ctx c).fq = .fsend b inst scope id :: rest := hq
  subst hr ha
  refine congrArg _ (show s.sendAccept t c = _ from ?_)
  unfold State.sendAccept
  rw [deliverAll_of_no_sends h0]
  simp only [hq', hcut, hread, haw, hout, hb, Nat.not_lt.mpr hsize, Bool.not_true, Bool.or_self, Bool.false_eq_true, if_false]
  rfl

/-- What a change of a tile keeps of it, it keeps of every tile. -/
theorem tile_modTile_keeps {α : Type} {g : Tile → α} {f : Tile → Tile} (hf : ∀ x, g (f x) = g x) (s : State) (t d : Nat) :
    g ((s.modTile t f).tile d) = g (s.tile d) := by
  by_cases h : t = d
  · rw [← h, tile_modTile, hf]
  · rw [tile_modTile_ne _ _ _ _ h]

theorem requests_setCtx (x : Tile) (c : Nat) (y : Ctx) : (x.setCtx c y).requests = x.requests := by unfold Tile.setCtx; split <;> rfl
theorem sends_setCtx (x : Tile) (c : Nat) (y : Ctx) : (x.setCtx c y).sends = x.sends := by unfold Tile.setCtx; split <;> rfl
theorem posted_setCtx (x : Tile) (c : Nat) (y : Ctx) : (x.setCtx c y).posted = x.posted := by unfold Tile.setCtx; split <;> rfl
theorem tenant_setCtx (x : Tile) (c : Nat) (y : Ctx) : (x.setCtx c y).tenant = x.tenant := by unfold Tile.setCtx; split <;> rfl

theorem tile_modCtx (s : State) (t c : Nat) (f : Ctx → Ctx) : (s.modCtx t c f).tile t = (s.tile t).setCtx c (f (s.ctx t c)) := tile_setTile _ _ _

/-- A change of a context keeps what no change of a context of a tile changes. -/
theorem tile_modCtx_keeps {α : Type} {g : Tile → α} (hg : ∀ x c y, g (Tile.setCtx x c y) = g x) (s : State) (t c d : Nat) (f : Ctx → Ctx) :
    g ((s.modCtx t c f).tile d) = g (s.tile d) := tile_modTile_keeps (fun x => hg x c (f (s.ctx t c))) s t d

/-- A change of a tile that leaves its contexts as they are leaves every context. -/
theorem ctx_modTile_of {f : Tile → Tile} (h : ∀ x, (f x).ctx c = x.ctx c) (s : State) (t : Nat) : (s.modTile t f).ctx t c = s.ctx t c := by
  rw [State.ctx, tile_modTile, h]
  rfl

variable {rest : List FCmd} {r : SendRun}

theorem sendStarted_fq : ((s.sendStarted t c rest r).ctx t c).fq = rest := by
  have h : ∀ x : Tile, (x.sendStarted r).ctx c = x.ctx c := fun _ => rfl
  rw [State.sendStarted, ctx_modTile_of h, ctx_modCtx]

theorem sendStarted_sends : ((s.sendStarted t c rest r).tile t).sends = (s.tile t).sends ++ [r] := by
  rw [State.sendStarted, tile_modTile, tile_modCtx]
  exact congrArg (· ++ [r]) (sends_setCtx _ _ _)

theorem port_sendStarted (p : Nat) : (s.sendStarted t c rest r).port p = s.port p := rfl

theorem savedFor_sendStarted (d tn : Nat) : (s.sendStarted t c rest r).savedFor d tn = s.savedFor d tn := rfl
theorem unit_sendStarted (u : UnitName) : (s.sendStarted t c rest r).unit u = s.unit u := rfl

theorem sendStarted_requests (d : Nat) : ((s.sendStarted t c rest r).tile d).requests = (s.tile d).requests :=
  (tile_modTile_keeps (g := Tile.requests) (f := Tile.sendStarted r) (fun _ => rfl) _ _ _).trans (tile_modCtx_keeps requests_setCtx _ _ _ _ _)

theorem sendStarted_tenant (d : Nat) : ((s.sendStarted t c rest r).tile d).tenant = (s.tile d).tenant :=
  (tile_modTile_keeps (g := Tile.tenant) (f := Tile.sendStarted r) (fun _ => rfl) _ _ _).trans (tile_modCtx_keeps tenant_setCtx _ _ _ _ _)

theorem sendStarted_bound (d tn : Nat) : (s.sendStarted t c rest r).bound d tn = s.bound d tn := by
  rw [State.bound, sendStarted_tenant]
  rfl

/-- A request for a tile that is in place, bound to the tenant and has room is held there for its match (R462). -/
theorem deliver_of_room {d : Nat} (hd : d = gaTileNo (fAddr r.block)) (hs : s.savedFor d r.tenant = false) (hh : (s.unit (.tile d)).health ≠ .failed)
    (hb : s.bound d r.tenant = true) (hn : (s.tile d).requests.length < 256) :
    s.deliver t r = (s.modTile d (fun x => { x with requests := x.requests ++ [r.request t] })).matchTile d := by
  subst hd
  simp only [State.deliver, hs, hh, hb, Nat.not_le.mpr hn, Bool.not_true, Bool.false_eq_true, if_false]

/-- A tile without requests matches none (R462). -/
theorem matchTile_of_no_requests (h : (s.tile t).requests = []) : s.matchTile t = s := by
  simp only [State.matchTile, h, State.matchAll, Tile.firstMatch, List.findSome?_nil]

theorem staleRequests_of_no_requests (h : (s.tile t).requests = []) : s.staleRequests t = s := by
  simp only [State.staleRequests, h, List.filter_nil, List.foldl_nil]

/-- The tile with a receive posted, which writes its destination unless that is a stream (R461). -/
def Tile.recvPosted (r : Recv) (x : Tile) : Tile :=
  let x := if r.stream.isSome then x else x.modInst r.inst (fun h => h.startWrite r.id (recvRows r h))
  { x with posted := x.posted ++ [r] }

theorem recvPosted_keeps (r : Recv) (x : Tile) : (x.recvPosted r).posted = x.posted ++ [r] ∧ (x.recvPosted r).requests = x.requests ∧
    (x.recvPosted r).c0 = x.c0 ∧ (x.recvPosted r).c1 = x.c1 := by
  unfold Tile.recvPosted
  dsimp only
  split <;> exact ⟨rfl, rfl, rfl, rfl⟩

/-- The state with the receive at the head of the queue posted (R461). -/
def State.recvPosted (s : State) (t c : Nat) (rest : List FCmd) (r : Recv) : State :=
  (s.modCtx t c (fun y => { y with fq := rest })).modTile t (Tile.recvPosted r)

/-- A receive that its destination admits is posted; a tile without requests has none that it fits (R461, R462). -/
theorem recvPost_posted {m : FCmd} {r : Recv} (h0 : (s.tile t).requests = []) (hp : (s.tile t).posted = []) (hq : (s.ctx t c).fq = m :: rest)
    (hr : recvOf c ((s.tile t).tenant.getD 0) m = some r) (hcut : (s.tile t).cutting = false) (hl : recvTooLong r ((s.tile t).inst r.inst) = false)
    (had : (s.tile t).recvAdmits r = true) (haw : (s.tile t).awaits r.id = false) (hout : (s.tile t).outcome r.id = none) :
    s.recvPost t c = (s.recvPosted t c rest r).matchTile t := by
  have hq' : ((s.tile t).ctx c).fq = m :: rest := hq
  unfold State.recvPost
  rw [staleRequests_of_no_requests h0]
  simp only [hp, List.filter_nil, List.foldl_nil, hq', hr, hcut, hl, had, haw, hout, Bool.not_true, Bool.false_eq_true, if_false]
  rfl

theorem recvPosted_requests {r : Recv} (d : Nat) : ((s.recvPosted t c rest r).tile d).requests = (s.tile d).requests := by
  refine (tile_modTile_keeps (g := Tile.requests) (fun x => ?_) _ _ _).trans (tile_modCtx_keeps requests_setCtx _ _ _ _ _)
  obtain ⟨-, h, -, -⟩ := recvPosted_keeps r x
  exact h

theorem recvPosted_posted {r : Recv} : ((s.recvPosted t c rest r).tile t).posted = (s.tile t).posted ++ [r] := by
  rw [State.recvPosted, tile_modTile, (recvPosted_keeps r _).1, tile_modCtx, posted_setCtx]

theorem recvPosted_fq {r : Recv} : ((s.recvPosted t c rest r).ctx t c).fq = rest := by
  have h : ∀ x : Tile, (x.recvPosted r).ctx c = x.ctx c := fun x => by
    obtain ⟨-, -, h0, h1⟩ := recvPosted_keeps r x
    rw [Tile.ctx, Tile.ctx, h0, h1]
  rw [State.recvPosted, ctx_modTile_of h, ctx_modCtx]

end

end Sys2Proof.Machine

open Sys2Proof Sys2Proof.Machine in
/-- Settles O53: an answer acts on what it names where the TENANTs agree; hop answers, training, keys and failure act on their port, and a tile that has no
send, request or receive yet takes the one at the head of its queue. -/
theorem fabricAnswerEvents : Obligations.FabricAnswerEvents := by
  unfold Obligations.FabricAnswerEvents
  intro s port
  refine ⟨?loads, ?strangers, ?stranger_access, ?copies, ?refused_credit, ?credit, ?nak, ?notice, ?hopAck, ?hopNak, ?damaged, ?reserved, ?training, ?key,
    ?refusal, ?failure, ?fsend, ?frecv⟩
  case loads =>
    intro fl q m n c r code hn hc hc2 hr hcode ht fail hfail
    have hfail : fail = answerFail m := by rw [hfail, hcode]; rfl
    subst hn hc hfail
    refine ⟨fun hb ha => ?_, fun hb hl => ?_, fun hb hl hroom => ?_, fun hb hl hroom => ?_⟩
    · rw [remoteLoadReturn_of_brings hb, loadReturn_of_access (by rwa [hb.2, answers_taken]) (by rwa [hb.2, ctx_taken])]
    all_goals
      rw [atomicReturn_of_brings hb, atomicReturn_of_access (by rwa [hb.2, ctx_taken]) ht, hb.2, contRoom_taken]
    · rw [hl]; rfl
    · rw [hl, hroom]; rfl
    · rw [hl, hroom]; rfl
  case strangers =>
    intro fl q m
    refine ⟨fun hb ha => ?_, fun hb h => ?_, fun hb h => ?_, fun e hb he ht => ?_⟩
    · rw [remoteLoadReturn_of_brings hb, loadReturn_of_stranger (by rwa [hb.2, answers_taken])]
    · rw [atomicReturn_of_brings hb, atomicReturn_of_stranger (by rwa [hb.2, ctx_taken]), Option.getD_some]
    · rw [receiveCredit_of_brings hb, creditIn_of_stranger (by rwa [hb.2, tile_taken])]
    · rw [deduplicationNak_of_brings hb, dedupNak_of_stranger (by rwa [block_of_brings hb]) ht]
  case stranger_access =>
    intro fl q m r hb hm hid ht
    exact answers_of_stranger hm hid ht
  case copies =>
    intro fl q m n c slot k code hb hn hc hr hk ha hw hcode
    subst hn hc hcode
    rw [remoteLoadReturn_of_brings hb, loadReturn_of_copy (by rwa [hb.2, answers_taken]) (by rwa [hb.2, ctx_taken]) (by rwa [hb.2, tile_taken]) hw]
  case refused_credit =>
    intro fl q m r code hb hr hcode hne
    subst hcode
    rw [receiveCredit_of_brings hb, creditIn_of_cause (by rwa [hb.2, tile_taken]) hne]
  case credit =>
    intro fl q m r base hb hr hc hbase hfit h0 hd
    have hq : q.tile m.to.1 = s.tile m.to.1 := by rw [hb.2, tile_taken]
    refine ⟨_, receiveCredit_of_brings hb, ?_⟩
    rw [creditIn_of_credit (by rwa [hq]) hc (by rwa [hq]) hfit h0 hd, sendFrom_out, out_of_brings hb, hq]
  case nak =>
    intro fl q m e hb he ht
    rw [deduplicationNak_of_brings hb, dedupNak_of_block (by rwa [block_of_brings hb]) ht]
  case notice =>
    intro fl q m cluster lo hi tmask hb hcl hlo hhi htm
    subst hcl hlo hhi htm
    rw [retractionNotice_of_brings hb, noticeIn_eq]
    have hten : ∀ j, ((q.klog 5 0x76#7 0 (port + 256 * msgField m.data 0 1) (msgField m.data 24 8) (msgField m.data 8 8)
        (msgField m.data 16 8)).tenant j) = s.tenant j := fun j => by rw [tenant_klog, hb.2, tenant_taken]
    refine ⟨fun h => ?_, fun n hn hbit hv h => ?_⟩
    · rw [tellRetraction_none _ fun n hn hbit => by rw [hten]; exact h n (List.mem_range.mp hn) hbit]
    · rw [tellRetraction_one List.nodup_range (List.mem_range.mpr hn) hbit (by rwa [hten]) fun j hj hne hbj => by
        rw [hten]; exact h j (List.mem_range.mp hj) hne hbj]
  case hopAck =>
    intro f n hl hg hk hn
    subst hn
    exact congrArg _ (hopIn_of_good hl hg hk _)
  case hopNak =>
    intro f n hl hg hk hn
    subst hn
    refine ⟨s.modPort port (fun x => { x with link := x.link.nak ((fabHseq f).setWidth 12) }), congrArg _ (hopIn_of_good hl hg hk _), ?_⟩
    rw [port_modPort]
    exact ⟨rfl, rfl, rfl, rfl, rfl⟩
  case damaged => exact fun f hl hg => ⟨congrArg _ (hopIn_of_bad _ hl hg _), congrArg _ (hopIn_of_bad _ hl hg _)⟩
  case reserved =>
    intro f hg hk
    refine ⟨s.modPort port (fun x => x.reserved f), ?_, ?_, rfl, fun h => ?_⟩
    · exact congrArg _ (if_pos (by rw [hg, decide_eq_true (reserved_kind hk)]; rfl))
    · rw [port_modPort, reserved_dropped]
    · rw [port_modPort, reserved_link h]
  case training =>
    intro i peer hi hf
    obtain ⟨t, hx, ht⟩ := port_trained hf hi
    refine ⟨t, hx, ?_⟩
    rw [ht, port_trainPort peer hf]
    exact ⟨rfl, rfl, rfl, rfl, rfl, rfl, rfl, rfl⟩
  case key =>
    intro hn
    refine ⟨s.modPort port (fun x => x.newKey port), congrArg _ (if_neg (Nat.not_lt.mpr hn)), ?_⟩
    rw [port_modPort]
    exact ⟨rfl, rfl, rfl, rfl⟩
  case refusal => exact fun x f l h => takes_refused l h
  case failure =>
    intro hf hn
    refine ⟨_, fabricRetrainFail_of_naks hf hn, rfl, fun ht => ?_⟩
    obtain ⟨hfailed, hup, hrest⟩ := cut_linkDown_of_no_tiles (s := s.modPort port (fun x => { x with failed := true, up := false })) ht port rfl
    rw [port_modPort] at hfailed hup
    exact ⟨hfailed, hup, hrest⟩
  case fsend =>
    intro n c b inst scope id rest hc h0 hq hcut hread haw hout hbf hsize
    have hx := fun {r} (hr : r = sendRun s n c b inst scope id) {a} (ha : a = s.sendStarted n c rest r) =>
      fsendAccept_started h0 hq hcut hread haw hout hbf hsize hr ha
    refine ⟨fun hp hfail => ?_, fun d r a hp hd hs hh hb hn hr ha => ?_⟩
    · have hx := hx rfl rfl
      rw [if_neg hp, port_sendStarted, hfail, if_neg Bool.false_ne_true] at hx
      refine ⟨_, hx, ?_, ⟨sendRun s n c b inst scope id, ?_, rfl, rfl, rfl⟩, ?_⟩
      · rw [ctx_sendFrom, sendStarted_fq]
      · rw [tile_sendFrom, sendStarted_sends, h0, List.nil_append]
      · rw [sendFrom_out, port_sendStarted, sendRun]
    · have ha : a = s.sendStarted n c rest r := by rw [ha, hr]; rfl
      have htn : r.tenant = (s.tile n).tenant.getD 0 := by rw [hr]
      rw [hx hr ha, if_pos hp, deliver_of_room (r := r) (d := d)]
      · rw [hd, hr]
      · rw [ha, savedFor_sendStarted, htn, hs]
      · rwa [ha, unit_sendStarted]
      · rw [ha, sendStarted_bound, htn, hb]
      · rwa [ha, sendStarted_requests]
  case frecv =>
    intro n c m r rest hc h0 hp hq hr hcut hl had haw hout
    refine ⟨s.recvPosted n c rest r, ?_, recvPosted_fq, by rw [recvPosted_posted, hp, List.nil_append], rfl⟩
    refine congrArg _ ((recvPost_posted h0 hp hq hr hcut hl had haw hout).trans (matchTile_of_no_requests ?_))
    rw [recvPosted_requests, h0]

namespace Sys2Proof.Machine

section

variable {s : State}

/-! ## What each event of the distributor and the scheduler is -/

theorem exec_enqAcceptance (s : State) (k : Nat) : exec (.enqAcceptance k) s = .next (s.enqStep k) := rfl
theorem exec_selectionRound (s : State) (d : Nat) : exec (.selectionRound d) s = .next (s.round d) := rfl
theorem exec_kernelDescriptorLoad (s : State) (n c : Nat) : exec (.kernelDescriptorLoad n c) s = .next (s.loadKernel n c) := rfl
theorem exec_stealRequest (s : State) (n c : Nat) : exec (.stealRequest n c) s = .next ((s.taskEnd n c).stealRequest n c) := rfl
theorem exec_stealAnswer (s : State) (v : Nat) : exec (.stealAnswer v) s = .next (s.stealAnswer v) := rfl
theorem exec_nodeDone (s : State) (gid n : Nat) : exec (.nodeDone gid n) s = .next (s.nodeDone gid n) := rfl
theorem exec_graphComplete (s : State) (gid : Nat) : exec (.graphComplete gid) s = .next (s.graphComplete gid) := rfl
theorem exec_graphKillComplete (s : State) (gid : Nat) : exec (.graphKillComplete gid) s = .next (s.graphKillComplete gid) := rfl

/-! ## The acceptance of a graph (R58, R386) -/

/-- The distributor judges an ENQ that it may take and whose graph it reads: the state of the device, the room of the queue, the graph (R58). -/
theorem enqStep_of_read {k q : Nat} {va : W64} {g : GraphIn} (he : (s.core k).enq = some (va, q)) (hd : (s.core k).enqDone = false)
    (hh : (s.core k).x.hold = .enq va q) (ha : s.enqAllowed k q = true)
    (hr : s.readGraph ((s.core k).ccten.toNat % 64) (s.core k).kernel va.toNat = .ok g) :
    s.enqStep k =
      if s.dstate ≠ .ready then (s.modCore k (fun x => { x with enqDone := true })).refuseGraph ((s.core k).ccten.toNat % 64) g 0x64#7
      else if 64 ≤ s.queued ((s.core k).ccten.toNat % 64) q then
        (s.modCore k (fun x => { x with enqDone := true })).refuseGraph ((s.core k).ccten.toNat % 64) g 0x61#7
      else if g.bad then (s.modCore k (fun x => { x with enqDone := true })).refuseGraph ((s.core k).ccten.toNat % 64) g 0x65#7
      else (s.modCore k (fun x => { x with enqDone := true })).acceptGraph ((s.core k).ccten.toNat % 64) q g := by
  have hgo : ¬((s.core k).enqDone = true ∨ (s.core k).x.hold ≠ .enq va q ∨ s.enqAllowed k q = false) := by simp [hd, hh, ha]
  simp only [State.enqStep, he, hr, if_neg hgo]
  rfl

/-! ## Selection with one head (R82) -/

/-- upto lo n lists the n numbers from lo. -/
theorem mem_upto {i : Nat} : ∀ {n lo : Nat}, i ∈ upto lo n ↔ lo ≤ i ∧ i < lo + n
  | 0, lo => by simp [upto]
  | n + 1, lo => by rw [upto, List.mem_cons, mem_upto]; omega

/-- A tenant has 16 queues. -/
theorem queue_lt_of_mem_heads {h : Head} (hm : h ∈ s.heads) : h.queue < 16 := by
  obtain ⟨k, -, hk⟩ := List.mem_filterMap.mp hm
  split at hk
  · cases hk
  · split at hk
    · cases hk
    · obtain ⟨x, -, hx⟩ := Option.bind_eq_some_iff.mp hk
      split at hx
      · cases hx; exact Nat.mod_lt k (by decide)
      · cases hx

/-- A turn through all 16 queues comes to the queue of the one head, wherever it starts. -/
theorem nextQueue_singleton {h : Head} (last : Nat) (hq : h.queue < 16) : nextQueue last [h] = some h := by
  cases hn : nextQueue last [h] with
  | none =>
    have hi : (h.queue + 31 - last % 16) % 16 + 1 ∈ upto 1 16 := mem_upto.mpr (by omega)
    have hturn : h.queue = (last + ((h.queue + 31 - last % 16) % 16 + 1)) % 16 := by omega
    have hmiss := List.findSome?_eq_none_iff.mp hn _ hi
    exact absurd (decide_eq_true hturn) (List.find?_eq_none.mp hmiss h (List.mem_singleton_self h))
  | some g =>
    obtain ⟨i, -, hg⟩ := List.exists_of_findSome?_eq_some hn
    rw [List.mem_singleton.mp (List.mem_of_find?_eq_some hg)]

/-- A round with one head, which has a place, charges its tenant, binds it and pre-empts nothing (R82, R103). -/
theorem round_of_one_head {d : Nat} {h : Head} (hs : s.heads = [h]) (hb : s.bindable h d = true) : ∃ credit lastq,
    s.round d = (s.modDie d (fun x => { x with credit := credit, lastq := lastq })).bind d h (s.eff h) := by
  have hq : h.queue < 16 := queue_lt_of_mem_heads (by rw [hs]; exact List.mem_singleton_self h)
  have hstarved : [h].filter (fun h => s.starved h d) = [] := by simp [State.starved, hb]
  have hbind : [h].filter (fun h => s.bindable h d) = [h] := by simp [hb]
  have htop : maxOf [s.level h] = s.level h := Nat.zero_max _
  have hlevel : [h].filter (fun g => decide (s.level g = s.level h)) = [h] := by simp
  have htenant : [h].filter (fun g => decide (g.tenant = h.tenant)) = [h] := by simp
  have hts : [h.tenant].eraseDups = [h.tenant] := rfl
  refine ⟨creditsAfter s (s.die d).credit (s.level h) h.tenant [h.tenant],
    mput (s.die d).lastq (64 * s.level h + h.tenant) h.queue, ?_⟩
  simp [State.round, hs, hstarved, hbind, htop, hlevel, hts, htenant, nextQueue_singleton _ hq, bestTenant, State.modDie]

/-! ## The descriptor of a kernel (R87, R133) -/

theorem kernelAt_of_read {tn : Nat} {va : W64} {l img : List Byte} {d : KDesc} (hl : s.vaReadLong .walk tn va.toNat 64 = .ok l)
    (hd : descOf va (ofBytes l) = some d) (hi : s.vaFetch tn d.dict.toNat (48 * d.dictn) = .ok img) : s.kernelAt tn va = .ok (d, img) := by
  simp only [State.kernelAt, hl, hd, hi]

/-- A descriptor read, of a record that does not break R94, is the context's, which starts at its task's entry. -/
theorem loadKernel_of_read {n c : Nat} {k : Task} {d : KDesc} {img : List Byte} (hk : (s.ctx n c).task = some k) (hl : k.loaded = false)
    (ha : s.kernelAt k.tenant k.kernel.va = .ok (d, img)) (hr : ({ k with kernel := d, loaded := true } : Task).badRecord = false) :
    s.loadKernel n c = (s.modTile n (fun x => x.putDict d img)).modCtx n c
      (fun y => { y with task := some { k with kernel := d, loaded := true }, x := { y.x with pc := k.entry.getD d.entry } }) := by
  simp only [State.loadKernel, hk, hl, ha, hr, Bool.false_eq_true, if_false]

/-! ## Stealing (R99-R102) -/

/-- A context that has begun to steal has no task left to end. -/
theorem taskEnd_of_drawing {n c : Nat} (h : (s.ctx n c).draws ≠ 0) : s.taskEnd n c = s := by
  cases hk : (s.ctx n c).task with
  | none => simp only [State.taskEnd, hk]
  | some k => simp [State.taskEnd, hk, h]

/-- One of the first three draws is among the tiles of the thief's die, where it has candidates. -/
theorem stealRequest_near {n c m : Nat} {k : Task} (hk : (s.ctx n c).task = some k) (hd : (s.ctx n c).draws = m + 1)
    (hs : (s.ctx n c).stealing = none) (hr : k.redundant = false) (hm : m < 3) (hnear : s.victims n k.tenant (288 * dieOf n) 288 ≠ []) :
    s.stealRequest n c = s.draw n c (s.victims n k.tenant (288 * dieOf n) 288) m := by
  simp [State.stealRequest, hk, hd, hs, hr, hm, hnear]

section

variable {v n c : Nat} {k : Task} (ht : s.thief v = some (n, c)) (hk : (s.ctx n c).task = some k) (hcut : (s.tile v).cutting = false)

include ht hk hcut

/-- The next thief starts the record that its victim gives. -/
theorem stealAnswer_of_record {vc : Nat} {r : TaskRec} (hf : (s.tile v).stealFrom (if s.ownerFirst v then 2 else 1) k.gid k.node = some (vc, r)) :
    s.stealAnswer v = ((s.modCtx v vc (fun y => { y with deque := y.deque.dropLast })).modCtx n c
      (fun y => { y with stealing := none, draws := 0 })).startRec n c k r := by
  simp only [State.stealAnswer, ht, hk, hcut, hf, Bool.false_eq_true, if_false]

/-- Its request waits while the victim's contexts have still to issue in the cycle (R101). -/
theorem stealAnswer_of_ownerFirst (ho : s.ownerFirst v = true) (hf : (s.tile v).stealFrom 2 k.gid k.node = none) : s.stealAnswer v = s := by
  simp only [State.stealAnswer, ht, hk, hcut, ho, hf, Bool.false_eq_true, if_true, if_false]

/-- A victim with no record sends the thief to its next draw, where it has one left. -/
theorem stealAnswer_of_no_record (ho : s.ownerFirst v = false) (hf : (s.tile v).stealFrom 1 k.gid k.node = none) (hd : (s.ctx n c).draws < 7) :
    s.stealAnswer v = s.modCtx n c (fun y => { y with stealing := none }) := by
  simp only [State.stealAnswer, ht, hk, hcut, ho, hf, ctx_modCtx, Nat.not_le.mpr hd, Bool.false_eq_true, if_false]

end

/-! ## Completion (R60-R62) -/

theorem nodeDone_of_over {gid n : Nat} {g : Graph} {x : GNode} (ho : s.nodeOver gid n = true) (hg : s.graph gid = some g) (hx : s.node gid n = some x) :
    s.nodeDone gid n = x.succ.foldl (fun s j => s.predDone gid j)
      (if x.irq then (s.nodeState gid n .done).event g.tenant 1 none 0 n g.user else s.nodeState gid n .done) := by
  simp only [State.nodeDone, ho, hg, hx, Bool.not_true, Bool.false_eq_true, if_false]

/-- A graph with no node that waits has none to skip. -/
theorem skip_none {gid : Nat} : ∀ {l : List (Nat × GNode)}, (∀ e, e ∈ l → e.2.st ≠ .waiting) →
    l.foldl (fun s e => if e.2.st = .waiting then s.nodeState gid e.1 .skipped else s) s = s
  | [], _ => rfl
  | e :: l, h => by
    rw [List.foldl_cons, if_neg (h e List.mem_cons_self)]
    exact skip_none fun f hf => h f (List.mem_cons_of_mem e hf)

theorem graphComplete_of_over {gid : Nat} {g : Graph} (hg : s.graph gid = some g) (hk : g.killed = false) (ho : g.over = true)
    (hw : ∀ x, x ∈ g.nodes → x.st ≠ .waiting) :
    s.graphComplete gid = ((s.putGstat g (if g.fails = [] then 2 else 3) (worstCause g.nodes g.fails)).event g.tenant 3
      (if g.fails = [] then none else some (worstCause g.nodes g.fails)) 0 0 g.user).graphGone g := by
  have hskip := skip_none (s := s) (gid := gid) (l := (List.range g.nodes.length).zip g.nodes) fun e he => hw e.2 (List.of_mem_zip he).2
  simp only [State.graphComplete, hg, hk, ho, hskip, Bool.not_true, Bool.or_self, Bool.false_eq_true, if_false, List.isEmpty_iff]

/-- A killed graph leaves once no tile of its tenant is still to be cut. -/
theorem graphKillComplete_of_cut {gid : Nat} {g : Graph} (hg : s.graph gid = some g) (hk : g.killed = true)
    (hcut : ∀ e, e ∈ s.tiles → e.2.tenant = some g.tenant → e.2.killing = false) :
    s.graphKillComplete gid = ((s.putGstat g 5 0x63#7).event g.tenant 3 (some 0x63#7) 0 0 g.user).graphGone g := by
  have hnone : s.tiles.any (fun e => decide (e.2.tenant = some g.tenant) && e.2.killing) = false :=
    List.any_eq_false.mpr fun e he => by simpa using hcut e he
  simp only [State.graphKillComplete, hg, hk, hnone, Bool.not_true, Bool.or_self, Bool.false_eq_true, if_false]

end

end Sys2Proof.Machine

open Sys2Proof Sys2Proof.Machine in
/-- Settles O49: each step of the distributor and the scheduler, taken where its conditions hold, is the branch of its meaning that they choose; the one
head's queue is met in a turn through 16 queues, and a complete graph without waiting nodes has none to skip. -/
theorem schedulingEvents : Obligations.SchedulingEvents := by
  unfold Obligations.SchedulingEvents
  intro s
  refine ⟨?enq, ?age, ?selection, ?load, ?request, ?answer, ?node, ?graph, ?kill⟩
  case enq =>
    intro k va q tn g a he hd hh ha htn hr hmark
    subst htn hmark
    rw [exec_enqAcceptance, enqStep_of_read he hd hh ha hr]
    refine ⟨fun hdev => ?_, fun hdev hfull => ?_, fun hdev hroom hbad => ?_, fun hdev hroom hgood => ?_⟩
    · rw [if_pos hdev]
    · rw [if_neg (not_not_intro hdev), if_pos hfull]
    · rw [if_neg (not_not_intro hdev), if_neg (Nat.not_le.mpr hroom), if_pos hbad]
    · rw [if_neg (not_not_intro hdev), if_neg (Nat.not_le.mpr hroom), if_neg (by simp [hgood])]
  case age => exact fun tn q hne => congrArg _ (if_neg (mt List.isEmpty_iff.mp hne))
  case selection =>
    intro d h hs hb
    obtain ⟨credit, lastq, hround⟩ := round_of_one_head hs hb
    exact ⟨credit, lastq, by rw [exec_selectionRound, hround]⟩
  case load =>
    intro n c k l d img e hc hk hl hread hd hi he hr
    subst he
    refine ⟨_, exec_kernelDescriptorLoad s n c, ?_⟩
    rw [loadKernel_of_read hk hl (kernelAt_of_read hread hd hi) hr, ctx_modCtx]
    exact ⟨rfl, rfl, rfl⟩
  case request =>
    intro n c k m hc hk hd hs hr near hnear hm hne
    subst hnear
    refine ⟨_, exec_stealRequest s n c, ?_⟩
    rw [taskEnd_of_drawing (by omega), stealRequest_near hk hd hs hr hm hne, State.draw, ctx_modCtx]
    exact ⟨rfl, rfl, rfl, rfl⟩
  case answer =>
    intro v n c k ht hc hk hcut
    rw [exec_stealAnswer]
    exact ⟨fun vc r hf => by rw [stealAnswer_of_record ht hk hcut hf], fun ho hf => by rw [stealAnswer_of_ownerFirst ht hk hcut ho hf],
      fun ho hf hd => by rw [stealAnswer_of_no_record ht hk hcut ho hf hd]⟩
  case node => exact fun gid n g x ho hg hx => by rw [exec_nodeDone, nodeDone_of_over ho hg hx]
  case graph => exact fun gid g hg hk ho hw => by rw [exec_graphComplete, graphComplete_of_over hg hk ho hw]
  case kill => exact fun gid g hg hk hcut => by rw [exec_graphKillComplete, graphKillComplete_of_cut hg hk hcut]

namespace Sys2Proof.Machine

section

variable {s : State}

/-! ## What each event of the accesses and the handle queue is -/

theorem exec_remoteAccessPerform (s : State) (n c idx : Nat) : exec (.remoteAccessPerform n c idx) s = .next (s.perform n c idx) := rfl
theorem exec_ldxReturn (s : State) (n c q : Nat) : exec (.ldxReturn n c q) s = .next (s.ldxReturn n c q) := rfl
theorem exec_joinDecrement (s : State) (n c : Nat) : exec (.joinDecrement n c) s = .next (s.joinDecrement n c) := rfl

/-! ## An access that may perform (R364, R468) -/

section

variable {n c idx : Nat} {r : Remote}

theorem perform_own (hr : (s.ctx n c).remote[idx]? = some r) : s.perform n c idx = s.performOwn n c r := by
  simp only [State.perform, hr]

/-- Behind a context's own accesses stand those of its saved tasks (R274). -/
theorem perform_held (hn : (s.ctx n c).remote[idx]? = none) (hr : (s.savedAccesses n c)[idx - (s.ctx n c).remote.length]? = some r) :
    s.perform n c idx = s.performHeld n r := by
  simp only [State.perform, hn, hr]

section

variable (hk : r.kind ≠ .report) (hm : s.mayPerform n c r = true)

include hk hm

/-- At home an access performs, unless its CONT finds no room (R98, R364). -/
theorem performOwn_home (hg : gaTile r.addr = false ∨ gaPeer r.addr = 0) {h : HomeR}
    (hh : h = s.atHome r.tenant r.kind r.addr r.pa r.size r.data.toNat r.data2.toNat r.lanes) (hroom : h.cont = none ∨ s.contRoom n c r.tenant = true) :
    s.performOwn n c r = (h.st.settle n c r h.val h.fail).afterAccess n c r h.fail h.cont := by
  have hhere : (gaTile r.addr && decide (gaPeer r.addr ≠ 0)) = false := by rcases hg with hg | hg <;> simp [hg]
  have hgo : (h.cont.isSome && !s.contRoom n c r.tenant) = false := by rcases hroom with hroom | hroom <;> simp [hroom]
  subst hh
  simp only [State.performOwn, hk, hm, hhere, hgo, Bool.true_eq_false, Bool.false_eq_true, or_self, if_false]

section

variable (hg : gaTile r.addr = true) (hp : gaPeer r.addr ≠ 0)

include hg hp

theorem performOwn_sent (hf : (s.port (gaPeer r.addr - 1)).failed = false) :
    s.performOwn n c r = (s.sendFrom n (gaPeer r.addr - 1) r.kind.message (r.msg n c)).modCtx n c (fun y =>
      { y with remote := y.remote.map (fun x => if x.id = r.id then { x with sent := true } else x) }) := by
  simp [State.performOwn, hk, hm, hg, hp, hf]

theorem performOwn_failed (hf : (s.port (gaPeer r.addr - 1)).failed = true) :
    s.performOwn n c r = (s.settle n c r 0 (some 0x75#7)).afterAccess n c r (some 0x75#7) none := by
  simp [State.performOwn, hk, hm, hg, hp, hf]

end

end

/-- An access that leaves is marked as sent, under its number. -/
theorem sent_of_marked {l : List Remote} {id : Nat} {x : Remote} (hx : x ∈ l.map (fun e => if e.id = id then { e with sent := true } else e))
    (hid : x.id = id) : x.sent = true := by
  obtain ⟨e, -, rfl⟩ := List.mem_map.mp hx
  by_cases he : e.id = id
  · rw [if_pos he]
  · rw [if_neg he] at hid
    exact absurd hid he

/-- An access waits for an earlier one of its context to its location (R369). -/
theorem mayPerform_of_earlier (h : (s.ctx n c).earlier r.id r = true) : s.mayPerform n c r = false := by
  simp [State.mayPerform, h]

theorem earlier_of_access {y : Ctx} {e : Remote} (he : e ∈ y.remote) (hid : e.id < r.id) (hd : e.done = false) (hl : e.sameLoc r = true) :
    y.earlier r.id r = true := by
  refine Bool.or_eq_true_iff.mpr (.inl (List.any_eq_true.mpr ⟨e, he, ?_⟩))
  simp [hid, hd, hl]

/-- A BARR that waits in the handle queue is such an access (R468). -/
theorem earlier_of_barr {y : Ctx} {a : W64} {k id : Nat} (hb : HCmd.barr a k id ∈ y.hq) (hid : id < r.id)
    (hl : Remote.sameLoc { r with addr := a, size := 8 } r = true) : y.earlier r.id r = true := by
  refine Bool.or_eq_true_iff.mpr (.inr (List.any_eq_true.mpr ⟨_, hb, ?_⟩))
  simp [hid, hl]

end

/-! ## The return of a stream load (R367) -/

section

variable {n c q : Nat} {r : Remote} (hr : (s.ctx n c).remote.find? (fun r => r.feeds q) = some r) (hd : r.done = true)

include hr hd

theorem ldxReturn_of_room (he : r.ended = false) (hroom : (s.ctx n c).room (s.tile n).cutting q = true) :
    s.ldxReturn n c q = (s.modCtx n c (fun y => { y.feed q r.result with remote := y.remote.filter (fun x => decide (x.id ≠ r.id)) })).taskEnd n c := by
  simp only [State.ldxReturn, hr, hd, he, hroom, Bool.not_true, Bool.not_false, Bool.and_false, Bool.or_self, Bool.false_eq_true, if_false]

/-- The element of a task that has ended is discarded (R346). -/
theorem ldxReturn_of_ended (he : r.ended = true) :
    s.ldxReturn n c q = (s.modCtx n c (fun y => { y with remote := y.remote.filter (fun x => decide (x.id ≠ r.id)) })).taskEnd n c := by
  simp only [State.ldxReturn, hr, hd, he, Bool.not_true, Bool.false_and, Bool.or_self, Bool.false_eq_true, if_false, if_true]

end

/-! ## The handle queue (R376-R379, R385) -/

section

variable {n c : Nat}

theorem hqTurn_of_waiting (h : s.hqStep n c = none) : s.hqTurn n c = s := by
  simp only [State.hqTurn, h, Option.isNone_none, if_true]

/-- A head that may execute does so in this turn or in a later one (log entry 40). -/
theorem hqTurn_of_ready (h : s.hqStep n c ≠ none) :
    s.hqTurn n c = if (s.choose 2).1 = 0 then (s.choose 2).2.hqDrain n c else (s.choose 2).2 := by
  simp only [State.hqTurn, mt Option.isNone_iff_eq_none.mp h, Bool.false_eq_true, if_false]

theorem hqStep_binit {a : Nat} {v : W64} {rest : List HCmd} (h : (s.ctx n c).hq = .binit a v :: rest) :
    s.hqStep n c = some (((s.modTile n (fun x => x.binit a v)).modCtx n c (fun y => { y with hq := y.hq.drop 1 })).counted n 1) := by
  simp only [State.hqStep, h]

/-- A BINIT of value 0 in bits 47 to 0 flips the phase bit of its word. -/
theorem binit_eq (x : Tile) (a : Nat) (v : W64) :
    x.binit a v = (x.setTag a true).padWrite a (toBytes 8 (if v.toNat % 2 ^ 48 = 0 then v ^^^ (1#64 <<< 56) else v).toNat) := by
  have hf : fld v 0 48 = v.toNat % 2 ^ 48 := by simp [fld, bits]
  simp only [Tile.binit, hf]

/-- The decrement of a JOIN is issued once no CONT write and no decrement of its context is outstanding (R385). -/
theorem joinDecrement_of_performed {a : W64} {sc pa : Nat} {rest : List HCmd} (h : (s.ctx n c).hq = .joinDec a sc pa :: rest)
    (hr : ∀ x, x ∈ (s.ctx n c).remote → x.kind ≠ .cont ∧ x.kind ≠ .joinDec) (h2 : s.second n c = false)
    (hw : s.homeWaits ((s.tile n).tenant.getD 0) a = false) {m : State} (hm : m = s.addRemote n c .joinDec a pa 8 sc 0 0 (BitVec.allOnes 128)) :
    s.joinDecrement n c = m.perform n c ((m.ctx n c).remote.length - 1) := by
  have hnone : (s.ctx n c).remote.any (fun x => decide (x.kind = .cont) || decide (x.kind = .joinDec)) = false :=
    List.any_eq_false.mpr fun x hx => by simp [hr x hx]
  subst hm
  simp only [State.joinDecrement, h, hnone, h2, hw, Bool.or_self, Bool.false_eq_true, if_false]

/-- The head executes where its handle allows and no earlier matrix command that is not accepted names it (R377, R420). -/
theorem headRun_of_allowed {m : HCmd} {rest : List HCmd} {hs : Nat × HEntry} (hq : (s.ctx n c).hq = m :: rest) (hh : s.headStep n c = some hs)
    (hfree : ∀ x, x ∈ (s.tile n).unaccepted → (s.tile n).names x hs.1 = false ∨ headSeq (m :: rest) ≤ x.seq) :
    s.headRun n c = (s.doHead n c).hqDrain n c := by
  have hnone : (s.tile n).unaccepted.any (fun x => (s.tile n).names x hs.1 && decide (x.seq < headSeq (s.ctx n c).hq)) = false :=
    List.any_eq_false.mpr fun x hx => by
      rw [hq]
      rcases hfree x hx with hn | hn
      · simp [hn]
      · simp [Nat.not_lt.mpr hn]
  simp only [State.headRun, hh, hnone, Bool.false_eq_true, if_false]

theorem hopenExecute_of_head {i k : Nat} {rest : List HCmd} (h : (s.ctx n c).hq = .hopen i k :: rest) :
    exec (.hopenExecute n c) s = .next (s.headRun n c) := by
  change execHopenExecute n c s = _
  simp only [execHopenExecute, h]

theorem hpubExecute_of_head {i v k : Nat} {rest : List HCmd} (h : (s.ctx n c).hq = .hpub i v k :: rest) :
    exec (.hpubExecute n c) s = .next (s.headRun n c) := by
  change execHpubExecute n c s = _
  simp only [execHpubExecute, h]

theorem hrelExecute_of_head {i v k : Nat} {rest : List HCmd} (h : (s.ctx n c).hq = .hrel i v k :: rest) :
    exec (.hrelExecute n c) s = .next (s.headRun n c) := by
  change execHrelExecute n c s = _
  simp only [execHrelExecute, h]

/-- A freed handle that no command names leaves its tile. -/
theorem hfreeComplete_of_idle {k : Nat} {h : HEntry} (hf : (s.tile n).freeing[k]? = some h) (hc : h.cmds = [])
    (hn : (s.tile n).hqNames h.inst = false) :
    exec (.hfreeComplete n k) s = .next ((s.modTile n (fun x => { x with freeing := dropNth x.freeing k })).counted n 1) := by
  change execHfreeComplete n k s = _
  simp only [execHfreeComplete, hf, hc, hn, List.isEmpty_nil, Bool.not_false, Bool.and_self, if_true]

end

theorem tile_counted (s : State) (t n u : Nat) : (s.counted t n).tile u = s.tile u := rfl

end

end Sys2Proof.Machine

open Sys2Proof Sys2Proof.Machine in
/-- Settles O50: an access that may perform takes one of the three ways of performOwn, one of a saved task that of performHeld; each command at the
head of the handle queue, and each load that returns, meets the branch of its meaning that its conditions choose. -/
theorem remoteAndHandleEvents : Obligations.RemoteAndHandleEvents := by
  unfold Obligations.RemoteAndHandleEvents
  intro s
  refine ⟨?home, ?sent, ?failed, ?returned, ?discarded, ?held, ?earlier, ?barr, ?turn, ?binit, ?join, ?head, ?freed⟩
  case home =>
    intro n c idx r h hc hr hk hm hg hh hroom
    rw [exec_remoteAccessPerform, perform_own hr, performOwn_home hk hm hg hh hroom]
  case sent =>
    intro n c idx r hc hr hk hm hg hp hf
    refine ⟨_, exec_remoteAccessPerform s n c idx, ?_⟩
    rw [perform_own hr, performOwn_sent hk hm hg hp hf, ctx_modCtx]
    exact ⟨sendFrom_out s n _ _ _, rfl, fun x hx hid => sent_of_marked hx hid⟩
  case failed =>
    intro n c idx r hc hr hk hm hg hp hf
    rw [exec_remoteAccessPerform, perform_own hr, performOwn_failed hk hm hg hp hf]
  case returned => exact fun n c q r hc hr hd he hroom => by rw [exec_ldxReturn, ldxReturn_of_room hr hd he hroom]
  case discarded => exact fun n c q r hc hr hd he => by rw [exec_ldxReturn, ldxReturn_of_ended hr hd he]
  case held => exact fun n c idx r hn hr => by rw [exec_remoteAccessPerform, perform_held hn hr]
  case earlier => exact fun n c r e he hid hd hl => mayPerform_of_earlier (earlier_of_access he hid hd hl)
  case barr => exact fun n c a k id r hb hid hl => mayPerform_of_earlier (earlier_of_barr hb hid hl)
  case turn => exact fun n c => ⟨hqTurn_of_waiting, fun h => ⟨_, _, rfl, hqTurn_of_ready h⟩⟩
  case binit =>
    intro n c a v rest h
    simp only [hqStep_binit h, binit_eq]
  case join =>
    intro n c a sc pa rest m hc h hr h2 hw hm
    rw [exec_joinDecrement, joinDecrement_of_performed h hr h2 hw hm]
  case head =>
    intro i n c m rest hs hi hq hh hfree
    rw [← headRun_of_allowed hq hh hfree]
    rcases hi with ⟨rfl, a, b, rfl⟩ | ⟨rfl, a, b, d, rfl⟩ | ⟨rfl, a, b, d, rfl⟩
    · exact hopenExecute_of_head hq
    · exact hpubExecute_of_head hq
    · exact hrelExecute_of_head hq
  case freed =>
    intro n k h hf hc hn
    refine ⟨_, hfreeComplete_of_idle hf hc hn, ?_, rfl, fun m hm => ?_⟩
    · rw [tile_counted, tile_modTile]
    · rw [tile_counted, tile_modTile_ne _ _ _ _ (Ne.symm hm)]

namespace Sys2Proof.Machine

/-! ## No operation but a cut takes a frame (R104, R272)

Only saveTile adds a frame to the pool; every other operation drops frames or changes what they hold. FrameFree says so of one frame, and each operation
that a restore leads to has its lemma, named after it. -/

/-- No saved tile is in frame k of the pool. -/
def FrameFree (k : Nat) (s : State) : Prop := ∀ g, g ∈ s.frames → g.fid ≠ k

section

variable {k : Nat} {s t : State}

theorem FrameFree.of_frames (h : FrameFree k s) (e : t.frames = s.frames) : FrameFree k t := by
  rw [FrameFree, e]
  exact h

/-- A change of what frames hold takes none. -/
theorem FrameFree.map {f : Frame → Frame} (h : FrameFree k s) (hf : ∀ g, (f g).fid = g.fid) (e : t.frames = s.frames.map f) : FrameFree k t := by
  intro g hg
  rw [e] at hg
  obtain ⟨g', hg', rfl⟩ := List.mem_map.mp hg
  rw [hf]
  exact h g' hg'

theorem FrameFree.filterMap {f : Frame → Option Frame} (h : FrameFree k s) (hf : ∀ g g', f g = some g' → g'.fid = g.fid)
    (e : t.frames = s.frames.filterMap f) : FrameFree k t := by
  intro g' hg'
  rw [e] at hg'
  obtain ⟨g, hg, hgg⟩ := List.mem_filterMap.mp hg'
  rw [hf g g' hgg]
  exact h g hg

theorem frameFree_dropFrame (k : Nat) (s : State) : FrameFree k (s.dropFrame k) := fun _ hg => of_decide_eq_true (List.mem_filter.mp hg).2

theorem FrameFree.ite {c : Prop} [Decidable c] {a b : State} (ha : FrameFree k a) (hb : FrameFree k b) : FrameFree k (if c then a else b) := by
  split
  · exact ha
  · exact hb

theorem FrameFree.iteFst {α : Type} {c : Prop} [Decidable c] {a b : State × α} (ha : FrameFree k a.1) (hb : FrameFree k b.1) :
    FrameFree k (if c then a else b).1 := by
  split
  · exact ha
  · exact hb

theorem FrameFree.foldl {α : Type} {f : State → α → State} {l : List α} (h : FrameFree k s) (hf : ∀ s a, FrameFree k s → FrameFree k (f s a)) :
    FrameFree k (l.foldl f s) := foldl_inv f (FrameFree k) hf l s h

/-! ### Updates of other fields, logs, and writes through a page table -/

theorem FrameFree.setTile {u : Nat} {x : Tile} (h : FrameFree k s) : FrameFree k (s.setTile u x) := h
theorem FrameFree.modTile {u : Nat} {f : Tile → Tile} (h : FrameFree k s) : FrameFree k (s.modTile u f) := h
theorem FrameFree.modCtx {u c : Nat} {f : Ctx → Ctx} (h : FrameFree k s) : FrameFree k (s.modCtx u c f) := h
theorem FrameFree.modNode {gid n : Nat} {f : GNode → GNode} (h : FrameFree k s) : FrameFree k (s.modNode gid n f) := h
theorem FrameFree.modCluster {n : Nat} {f : Cluster → Cluster} (h : FrameFree k s) : FrameFree k (s.modCluster n f) := h
theorem FrameFree.counted {u n : Nat} (h : FrameFree k s) : FrameFree k (s.counted u n) := h
theorem FrameFree.failedAt {c : Cause} {pa : Nat} (h : FrameFree k s) : FrameFree k (s.failedAt c pa) := h.of_frames (failedAt_frames s c pa)
theorem FrameFree.metIn {s' : State} {f : State → Option Cause} (h : FrameFree k s') : FrameFree k (s'.metIn s f) :=
  .ite (h.of_frames (metLine_frames _ _)) h
theorem FrameFree.readMets {α : Type} {f : State → Except Cause α} (h : FrameFree k s) : FrameFree k (s.readMets f) := h.metIn

theorem FrameFree.vaWrite {wk : Walker} {tn va : Nat} {l : List Byte} (h : FrameFree k s) : FrameFree k (s.vaWrite wk tn va l).1 := by
  unfold State.vaWrite
  split
  · split
    · exact h
    · exact .iteFst h h
  · exact h
  · exact h

theorem FrameFree.vaWriteLong {wk : Walker} {tn va : Nat} {l : List Byte} (h : FrameFree k s) : FrameFree k (s.vaWriteLong wk tn va l).1 := by
  refine foldl_inv _ (fun r : State × Option Cause => FrameFree k r.1) (fun r p hr => ?_) _ (s, none) h
  split
  · exact hr
  · exact hr.vaWrite

theorem FrameFree.vaPut {wk : Walker} {tn va : Nat} {l : List Byte} (h : FrameFree k s) : FrameFree k (s.vaPut wk tn va l).1 := h.vaWriteLong.metIn

/-! ### Commands that end -/

theorem FrameFree.tell {u id : Nat} {o : Over} (h : FrameFree k s) : FrameFree k (s.tell u id o) := by
  unfold State.tell
  split
  · exact h
  · refine h.map (fun g => ?_) rfl
    split <;> rfl

theorem FrameFree.engineDone {u id bw bytes : Nat} {err : Option Cause} (h : FrameFree k s) : FrameFree k (s.engineDone u id bw bytes err) :=
  h.tell.modTile.modTile.counted

theorem FrameFree.copyOver {u chunks : Nat} {m : CopyCmd} {c : Option Cause} (h : FrameFree k s) : FrameFree k (s.copyOver u m chunks c) :=
  FrameFree.engineDone (.iteFst h h.vaPut)

theorem FrameFree.abortCq {u c gid n : Nat} {l : List CCmd} {r : SMap W64} (h : FrameFree k s) : FrameFree k (State.abortCq u c gid n l r s) := by
  induction l generalizing s r with
  | nil => exact h
  | cons m l ih =>
    cases m with
    | clear => exact ih h
    | sqset => exact ih h
    | admitted => exact ih h
    | sqgo => exact ih (.ite h.copyOver h)
    | accpy => exact ih (.ite h.engineDone h)

theorem FrameFree.abortAll {u : Nat} {c : Cause} {l : List Due} (h : FrameFree k s) : FrameFree k (s.abortAll u c l) := h.foldl fun _ _ h => h.engineDone

theorem FrameFree.dropMatrix {u : Nat} {l : List MCmd} (h : FrameFree k s) : FrameFree k (s.dropMatrix u l) :=
  (h.foldl fun _ _ h => .ite h.tell h).abortAll

theorem FrameFree.putWinStatus {u : Nat} {j : WJob} {res : Option (Nat × Nat × Nat)} {done : Bool} (h : FrameFree k s) :
    FrameFree k (s.putWinStatus u j res done).1 := by
  have hb : FrameFree k (s.freeBytes 64).2 := h
  exact .iteFst h hb.vaPut

theorem FrameFree.winDone {u : Nat} {j : WJob} {res : Option (Nat × Nat × Nat)} (h : FrameFree k s) : FrameFree k (s.winDone u j res) :=
  FrameFree.engineDone (.iteFst h.putWinStatus h)

theorem FrameFree.abortQueues {u c : Nat} (h : FrameFree k s) : FrameFree k (s.abortQueues u c) := h.dropMatrix.modTile.modTile.modCtx

theorem FrameFree.markRunning {u : Nat} {w : WJob → Bool} {b : BJob → Bool} {c : Cause} (h : FrameFree k s) : FrameFree k (s.markRunning u w b c) := h

theorem FrameFree.abortNode {u gid n : Nat} (h : FrameFree k s) : FrameFree k (s.abortNode u gid n) :=
  (((h.abortCq.abortCq.foldl fun _ _ h => h.copyOver).abortAll.foldl fun _ _ h => h.winDone).markRunning.modTile.modTile).foldl
    fun _ _ h => .ite h.abortQueues h

/-! ### The failure of a node and the end of a task (R61, R89) -/

theorem FrameFree.abortFrame {gid n : Nat} {f : Frame} (h : FrameFree k s) : FrameFree k (s.abortFrame gid n f) := by
  have ha : FrameFree k ((s.setTile f.tileNo f.tile).abortNode f.tileNo gid n) := FrameFree.abortNode (s := s.setTile f.tileNo f.tile) h
  refine ha.map (fun g => ?_) rfl
  split <;> rfl

theorem FrameFree.abortRepairs {gid n : Nat} (h : FrameFree k s) : FrameFree k (s.abortRepairs gid n) :=
  h.foldl fun _ _ h => .ite (h.foldl fun _ _ h => h.vaPut) (h.foldl fun _ _ h => h.vaPut)

theorem Frame.without_fid {gid n : Nat} {f g : Frame} (h : Frame.without gid n f = some g) : g.fid = f.fid := by
  simp only [Frame.without, Option.ite_none_left_eq_some, Option.some.injEq] at h
  obtain ⟨-, rfl⟩ := h
  rfl

theorem FrameFree.freeCtx {u c : Nat} (h : FrameFree k s) : FrameFree k (s.freeCtx u c) := h
theorem FrameFree.adopt {u : Nat} {l : List (Nat × Remote)} (h : FrameFree k s) : FrameFree k (s.adopt u l) := h.foldl fun _ _ h => h.modCtx

theorem FrameFree.nodeFail {gid n : Nat} {c : Cause} (h : FrameFree k s) : FrameFree k (s.nodeFail gid n c) := by
  unfold State.nodeFail
  split
  next g x _ _ =>
    refine .ite h ?_
    extract_lets failed logged graph told aborted adopted dropped off bare
    have htold : FrameFree k told := h.of_frames (by simp [told, graph, logged, failed])
    have hadopted : FrameFree k adopted := (htold.foldl fun _ _ h => h.abortFrame).foldl fun _ _ h => h.adopt
    have hdropped : FrameFree k dropped := hadopted.filterMap (fun _ _ => Frame.without_fid) rfl
    have hoff : FrameFree k off := hdropped.abortRepairs.of_frames (offList_frames _ gid n)
    -- Opaque from here on: comparing the records field by field would unfold all of off.
    clear_value off
    have hbare : FrameFree k bare := hoff
    exact hbare.foldl fun _ _ h => h.abortNode.foldl fun _ _ h => .ite h.freeCtx.modCtx h
  · exact h

theorem FrameFree.startRec {u c : Nat} {m : Task} {r : TaskRec} (h : FrameFree k s) : FrameFree k (s.startRec u c m r) := .ite h.nodeFail h

theorem FrameFree.taskEnd {u c : Nat} (h : FrameFree k s) : FrameFree k (s.taskEnd u c) := by
  unfold State.taskEnd
  dsimp only
  split
  · exact h
  next m _ =>
    refine .ite h ?_
    split
    · exact h.nodeFail
    · have hparted : FrameFree k (if m.counts u c = true then
          ((s.modCtx u c Ctx.parted).modNode m.gid m.node (fun x => { x with live := x.live - 1, ended := x.ended + 1 })).putNstat m.gid m.node
          else s.modCtx u c Ctx.parted) := .ite (h.of_frames (by simp)) h
      split
      · exact hparted.modCtx.startRec
      · exact .ite hparted.freeCtx hparted.modCtx

/-! ### Accesses that perform (R364, R468) -/

theorem FrameFree.toPool {tn : Nat} {r : TaskRec} (h : FrameFree k s) : FrameFree k (s.toPool tn r) := h.of_frames (reenter_frames _ _ _)
theorem FrameFree.pushCont {u c tn : Nat} {r : TaskRec} (h : FrameFree k s) : FrameFree k (s.pushCont u c tn r) := .ite h h.modNode.toPool

theorem FrameFree.release {u c tn : Nat} {r : TaskRec} (h : FrameFree k s) : FrameFree k (s.release u c tn r) :=
  .ite h (.ite (h.pushCont.foldl fun _ _ h => h.modCtx) h.pushCont)

theorem FrameFree.homeWrite {a : W64} {pa size v : Nat} {lanes : PReg} (h : FrameFree k s) : FrameFree k (s.homeWrite a pa size v lanes) :=
  .ite h (.ite h (h.foldl fun _ _ h => h))

theorem FrameFree.decAt {tn pa : Nat} {a : W64} (h : FrameFree k s) : FrameFree k (s.decAt tn a pa).st := by
  unfold State.decAt
  dsimp only
  split
  · exact .ite h h.failedAt
  · exact h.homeWrite

theorem FrameFree.atHome {tn pa size data data2 : Nat} {m : RKind} {a : W64} {lanes : PReg} (h : FrameFree k s) :
    FrameFree k (s.atHome tn m a pa size data data2 lanes).st := by
  unfold State.atHome
  split
  · exact .ite h h.failedAt
  · split
    · exact h
    · exact h.homeWrite
    · exact h.homeWrite
    · exact h.decAt
    · exact h.decAt
    · exact h.homeWrite
    · exact h
    · exact h

theorem FrameFree.settle {u c val : Nat} {r : Remote} {fail : Option Cause} (h : FrameFree k s) : FrameFree k (s.settle u c r val fail) :=
  (h.foldl fun _ _ h => h.foldl fun _ _ h => h.modCtx).modCtx

theorem FrameFree.taskEnds {u c : Nat} (h : FrameFree k s) : FrameFree k (s.taskEnds u c) := h.foldl fun _ _ h => h.taskEnd

theorem FrameFree.afterAccess {u c : Nat} {r : Remote} {fail : Option Cause} {cont : Option Nat} (h : FrameFree k s) :
    FrameFree k (s.afterAccess u c r fail cont) := by
  have hr : FrameFree k (match cont with | some b => s.release u c r.tenant (recOf r.gid r.node b) | none => s) := by
    cases cont with
    | none => exact h
    | some b => exact h.release
  cases fail with
  | some x => exact .ite hr.nodeFail hr.taskEnds
  | none =>
    refine FrameFree.taskEnds ?_
    cases r.kind
    case joinDec => exact (hr.foldl fun _ _ h => h.modCtx).counted
    case report => exact hr.counted
    all_goals exact hr

theorem FrameFree.performOwn {u c : Nat} {r : Remote} (h : FrameFree k s) : FrameFree k (s.performOwn u c r) :=
  .ite h (.ite (.ite h.settle.afterAccess h) (.ite h h.atHome.settle.afterAccess))

theorem FrameFree.settleHeld {val : Nat} {r : Remote} {fail : Option Cause} (h : FrameFree k s) : FrameFree k (s.settleHeld r val fail) :=
  h.map (f := fun f => { f with tile := { f.tile with c0 := f.tile.c0.settleHeld r val fail, c1 := f.tile.c1.settleHeld r val fail } }) (fun _ => rfl) rfl

/-- The record that a saved access releases goes to its node's pool. -/
theorem FrameFree.pooled {tn gid n : Nat} {f : GNode → GNode} {cont : Option Nat} (h : FrameFree k s) :
    FrameFree k (match cont with
      | some b => if s.takesWork gid n then (s.modNode gid n f).toPool tn (recOf gid n b) else s
      | none => s) := by
  cases cont with
  | none => exact h
  | some b => exact .ite h.modNode.toPool h

theorem FrameFree.performHeld {u : Nat} {r : Remote} (h : FrameFree k s) : FrameFree k (s.performHeld u r) := by
  refine .ite h (.ite h ?_)
  dsimp only
  split
  · exact .ite (.nodeFail (.ite h.atHome.settleHeld.pooled.counted h.atHome.settleHeld.pooled))
      (.ite h.atHome.settleHeld.pooled.counted h.atHome.settleHeld.pooled)
  · exact .ite h.atHome.settleHeld.pooled.counted h.atHome.settleHeld.pooled

theorem FrameFree.perform {u c i : Nat} (h : FrameFree k s) : FrameFree k (s.perform u c i) := by
  unfold State.perform
  split
  · exact h.performOwn
  · split
    · exact h.performHeld
    · exact h

/-! ### What a restore brings about (R219, R234, R274, R275) -/

theorem FrameFree.addReport {u c id gid n : Nat} {tag word : W64} (h : FrameFree k s) : FrameFree k (s.addReport u c tag word id gid n) :=
  h.modCtx.modCtx

theorem FrameFree.kvStep {u c : Nat} (h : FrameFree k s) (e : s.kvStep u c = some t) : FrameFree k t := by
  unfold State.kvStep at e
  dsimp only at e
  split at e
  · cases e
  · generalize ((s.tile u).ctx c).kvNext = next at e
    rcases next with _ | m
    · cases e
    · cases m
      case rprset =>
        dsimp only at e
        split at e <;> cases e
        exact h.modCtx.counted
      case clear =>
        dsimp only at e
        split at e <;> cases e
        exact h.modCtx
      case rep =>
        dsimp only at e
        split at e <;> cases e
        exact h.addReport
      all_goals cases e

theorem FrameFree.kvSteps {n u c : Nat} (h : FrameFree k s) : FrameFree k (State.kvSteps n s u c) := by
  induction n generalizing s with
  | zero => exact h
  | succ n ih =>
    unfold State.kvSteps
    split
    next e => exact ih (h.kvStep e)
    · exact h

theorem FrameFree.kvFlushBoth {u : Nat} (h : FrameFree k s) : FrameFree k (s.kvFlushBoth u) := h.kvSteps.kvSteps

theorem FrameFree.nowRuns {gid n : Nat} (h : FrameFree k s) : FrameFree k (s.nowRuns gid n) := by
  unfold State.nowRuns
  split
  · exact .ite (h.of_frames (nodeState_frames s gid n .running)) h
  · exact h

theorem FrameFree.reloadDict {u c : Nat} (h : FrameFree k s) : FrameFree k (s.reloadDict u c) := by
  unfold State.reloadDict
  split
  · exact h
  · refine .ite h ?_
    split
    · exact h.readMets.nodeFail
    · exact h

theorem FrameFree.jobArrive {d p : Nat} {j : RJob} (h : FrameFree k s) : FrameFree k (s.jobArrive d p j) := .ite (.ite h h) (.ite h h)

theorem FrameFree.applyHeld {x : Held} (h : FrameFree k s) : FrameFree k (s.applyHeld x) := by
  cases x with
  | access u c id =>
    simp only [State.applyHeld, State.performId]
    split
    · exact h.perform
    · exact h
  | arrival d p =>
    simp only [State.applyHeld]
    split
    · exact h.jobArrive
    · exact h

theorem FrameFree.heldApplied {u tn : Nat} (h : FrameFree k s) : FrameFree k (s.heldApplied u tn) := h.foldl fun _ _ h => h.applyHeld

theorem FrameFree.resumeCtx {u c : Nat} (h : FrameFree k s) : FrameFree k (s.resumeCtx u c) := by
  refine .ite h (FrameFree.taskEnd ?_)
  exact h

theorem FrameFree.abandonCtx {u c : Nat} {cause : Cause} (h : FrameFree k s) : FrameFree k (s.abandonCtx u c cause) := by
  have hset : FrameFree k (s.setCtx u c { s.ctx u c with stop := { (s.ctx u c).stop with stopped := false } }) := h
  refine .ite h ?_
  dsimp only
  split
  · exact hset
  · exact .ite hset.modCtx.taskEnd hset.nodeFail

theorem FrameFree.applyDisp {u c : Nat} (h : FrameFree k s) : FrameFree k (s.applyDisp u c) := by
  unfold State.applyDisp
  split
  · exact .ite h.modCtx.resumeCtx (.ite h.modCtx.abandonCtx h)
  · exact h

/-- A frame that is restored leaves the pool, and nothing that the restore brings about takes it again (R274). -/
theorem frameFree_restoreTile (s : State) (n : Nat) (f : Frame) : FrameFree f.fid (s.restoreTile n f) :=
  ((frameFree_dropFrame f.fid s).setTile.modCluster.foldl fun _ _ h => h.nowRuns).reloadDict.reloadDict.kvFlushBoth.heldApplied.applyDisp.applyDisp

end

end Sys2Proof.Machine

namespace Sys2Proof.Machine

/-! ## What a frame's bytes read back as (R273, R274) -/

section

variable {β : Type} [DecidableEq β] {d : β}

/-- The values of f from lo on, n of them, those that read as an unlisted one does left out. -/
def listed (d : β) (f : Nat → β) (lo n : Nat) : SMap β := ((upto lo n).map (fun i => (i, f i))).filter (fun e => decide (e.2 ≠ d))

theorem listed_succ (f : Nat → β) (lo n : Nat) :
    listed d f lo (n + 1) = if f lo = d then listed d f (lo + 1) n else (lo, f lo) :: listed d f (lo + 1) n := by
  by_cases h : f lo = d <;> simp [listed, upto, h]

theorem mget_listed_below {f : Nat → β} {i : Nat} : ∀ {n lo : Nat}, i < lo → mget d (listed d f lo n) i = d
  | 0, _, _ => rfl
  | n + 1, lo, h => by
    rw [listed_succ]
    split
    · exact mget_listed_below (by omega)
    · rw [mget, if_neg (by omega)]
      exact mget_listed_below (by omega)

theorem mget_listed {f : Nat → β} {i : Nat} : ∀ {n lo : Nat}, lo ≤ i → i < lo + n → mget d (listed d f lo n) i = f i
  | 0, _, h, h' => absurd h' (by omega)
  | n + 1, lo, h, h' => by
    rw [listed_succ]
    by_cases hi : i = lo
    · subst hi
      split
      next hd => rw [mget_listed_below (by omega), hd]
      next => rw [mget, if_pos rfl]
    · split
      · exact mget_listed (by omega) (by omega)
      · rw [mget, if_neg hi]
        exact mget_listed (by omega) (by omega)

omit [DecidableEq β] in
theorem mget_mslice {m : SMap β} {base size i : Nat} (h : i < size) : mget d (mslice m base size) i = mget d m (base + i) := by
  induction m with
  | nil => rfl
  | cons e l ih =>
    have hcons : mslice (e :: l) base size =
        if (decide (base ≤ e.1) && decide (e.1 < base + size)) = true then (e.1 - base, e.2) :: mslice l base size else mslice l base size := by
      unfold mslice
      rw [List.filter_cons]
      split <;> rfl
    rw [hcons, mget.eq_def d (e :: l)]
    dsimp only
    split
    next hin =>
      simp only [Bool.and_eq_true, decide_eq_true_eq] at hin
      have hkey : (i = e.1 - base) = (base + i = e.1) := propext (by omega)
      simp only [mget, ih, hkey]
    next hout =>
      simp only [Bool.and_eq_true, decide_eq_true_eq] at hout
      rw [ih, if_neg (by omega)]

end

section

variable {s : State}

/-- Memory without a failed link and without poison reads as it is listed. -/
theorem memByte_of_sound {a : Nat} (h : s.sound = true) (ha : a < s.capacity) : s.memByte a = mget 0 s.mem a := by
  simp only [State.sound, Bool.and_eq_true, Bool.not_eq_true'] at h
  obtain ⟨hp, hl⟩ := h
  have hlost : s.lost a = false := by rw [State.lost, hl, Bool.false_and]
  simp [State.memByte, ha, hlost, List.isEmpty_iff.mp hp]

theorem mget_memSlice {pa n i : Nat} (h : i < n) : mget 0 (s.memSlice pa n) i = s.memByte (pa + i) := by
  unfold State.memSlice
  split
  next hs =>
    simp only [Bool.and_eq_true, decide_eq_true_eq] at hs
    rw [mget_mslice h, memByte_of_sound hs.1 (by omega)]
  next => exact mget_listed (f := fun i => s.memByte (pa + i)) (Nat.zero_le i) (by omega)

theorem unpackRegs_eq_listed (s : State) (w pa b : Nat) : ∀ n lo : Nat,
    s.unpackRegs w pa b n lo = listed 0 (fun i => BitVec.ofNat w (s.memNat (pa + b * i) b)) lo n
  | 0, _ => rfl
  | n + 1, lo => by
    rw [listed_succ, ← unpackRegs_eq_listed s w pa b n (lo + 1)]
    rfl

/-- A register part reads its 63 g registers back (R266). -/
theorem reloadPart_rg (y : Ctx) {pa i : Nat} (h0 : 0 < i) (h : i < 64) :
    (s.reloadPart pa y).x.rg i = BitVec.ofNat 64 (s.memNat (pa + 0x1000 + 8 * i) 8) := by
  have hg : (s.reloadPart pa y).x.g = s.unpackRegs 64 (pa + 0x1000) 8 63 1 := by simp only [State.reloadPart]
  rw [Thread.rg, if_neg (by omega), hg, unpackRegs_eq_listed, mget_listed (by omega) (by omega)]

/-- A register part holds registers and spill memory alone (R266). -/
theorem reloadPart_eq (s : State) (pa : Nat) (y : Ctx) : ∃ x spill, s.reloadPart pa y = { y with x := x, spill := spill } := ⟨_, _, rfl⟩

theorem reloadPart_task (s : State) (pa : Nat) (y : Ctx) : (s.reloadPart pa y).task = y.task := by
  obtain ⟨x, spill, h⟩ := reloadPart_eq s pa y
  rw [h]

theorem reloadPart_deque (s : State) (pa : Nat) (y : Ctx) : (s.reloadPart pa y).deque = y.deque := by
  obtain ⟨x, spill, h⟩ := reloadPart_eq s pa y
  rw [h]

theorem readFrame_c0 (s : State) (a : Nat) (x : Tile) : (s.readFrame a x).c0 = s.reloadPart (a + 0x200000) x.c0 := rfl
theorem readFrame_c1 (s : State) (a : Nat) (x : Tile) : (s.readFrame a x).c1 = s.reloadPart (a + 0x500000) x.c1 := rfl

theorem readFrame_tasks (s : State) (a : Nat) (x : Tile) : (s.readFrame a x).tasks = x.tasks := by
  simp only [Tile.tasks, List.filterMap_cons, readFrame_c0, readFrame_c1, reloadPart_task]

/-! ## The cut of a tile (R104, R105, R106, R273) -/

theorem exec_tileCut (s : State) (n : Nat) : exec (.tileCut n) s = .next (s.tileCut n) := rfl

section

variable {n : Nat} (hcut : (s.tile n).cutting = true) (hr : s.restoring n = none) (hb : s.cutBusy n = false)

include hcut hr hb

theorem tileCut_of_killing (hk : (s.tile n).killing = true) : s.tileCut n = s.modTile n (fun x => x.vacated n) := by
  simp only [State.tileCut, hcut, hr, hb, hk, Bool.not_true, Option.isSome_none, Bool.or_self, Bool.false_eq_true, if_false, if_true]

/-- A tile whose accesses have performed and whose contexts do not steal is saved, where its frame can be written. -/
theorem tileCut_of_performed {k : Nat} (hk : (s.tile n).killing = false) (h0 : s.remotesDone (s.ctx n 0) = true) (h1 : s.remotesDone (s.ctx n 1) = true)
    (hd0 : (s.ctx n 0).draws = 0) (hd1 : (s.ctx n 1).draws = 0) (ht : (s.tile n).tasks ≠ []) (hf : s.freeFrame = some k)
    (hroom : mget 0 s.conts ((s.tile n).tenant.getD 0) + ((s.tile n).passed n).length ≤ 4096) :
    s.tileCut n = if s.frameBad (s.frameAt k) true = true then (s.failTasks (s.tile n) 0x6A#7).uncut n else s.saveTile n k (s.tile n) := by
  have hsteal : [0, 1].foldl (fun (s : State) (c : Nat) => if (s.ctx n c).draws ≠ 0 then s.freeCtx n c else s) s = s := by
    simp only [List.foldl_cons, List.foldl_nil, hd0, hd1, ne_eq, not_true_eq_false, if_false]
  have htasks : (s.tile n).tasks.isEmpty = false := by rwa [Bool.eq_false_iff, ne_eq, List.isEmpty_iff]
  simp only [State.tileCut, hcut, hr, hb, hk, h0, h1, hsteal, htasks, hf, hroom, Bool.not_true, Option.isSome_none, Bool.or_self, Bool.false_eq_true,
    not_true_eq_false, if_false]

end

theorem writeFrame_tiles (s : State) (base : Nat) (x : Tile) : (s.writeFrame base x).tiles = s.tiles :=
  (foldl_keeps _ (fun s : State => s.tiles) (fun s e => by simp) _ _).trans (by simp)

theorem passDeques_tiles (s : State) (n : Nat) (x : Tile) : (s.passDeques n x).tiles = s.tiles :=
  foldl_keeps _ (fun s : State => s.tiles) (fun s r => by simp [State.toPool, State.relaid]) _ _

theorem entered_tiles (s : State) (f : Frame) : (s.entered f).tiles = s.tiles := foldl_keeps _ (fun s : State => s.tiles) (fun s k => by simp) _ _
theorem entered_frames (s : State) (f : Frame) : (s.entered f).frames = s.frames := foldl_keeps _ (fun s : State => s.frames) (fun s k => by simp) _ _

/-- The saved tile is in its frame, with its tasks, scratchpad and accumulators. -/
theorem mem_frames_saveTile (s : State) (n k : Nat) (x : Tile) : ∃ f, f ∈ (s.saveTile n k x).frames ∧ f.fid = k ∧ f.tileNo = n ∧
    f.tile.tasks = x.tasks ∧ f.tile.pad = x.pad ∧ f.tile.acc = x.acc := by
  rw [State.saveTile, setTile_frames, entered_frames]
  exact ⟨_, List.mem_append_right _ (List.mem_singleton_self _), rfl, rfl, rfl, rfl, rfl⟩

theorem tile_saveTile (s : State) (n k : Nat) (x : Tile) : (s.saveTile n k x).tile n = x.emptied n := tile_setTile _ _ _

/-- A cut leaves every other tile. -/
theorem tile_saveTile_ne {n m : Nat} (h : m ≠ n) (k : Nat) (x : Tile) : (s.saveTile n k x).tile m = s.tile m := by
  rw [State.saveTile, tile_setTile_ne _ _ _ _ (Ne.symm h), State.tile, entered_tiles]
  change mget _ ((s.writeFrame (s.frameAt k) x).passDeques n x).tiles m = _
  rw [passDeques_tiles, writeFrame_tiles]
  rfl

/-! ## The restore of a tile (R21, R274, R281) -/

theorem exec_tileRestore (s : State) (n : Nat) : exec (.tileRestore n) s = .next (s.tileRestore n) := rfl

section

variable {n : Nat} {f : Frame} (hr : s.restoring n = some f)

include hr

theorem tileRestore_of_unfit (hf : s.restoreFits f = false) : s.tileRestore n = (s.entered f).uncut n := by
  simp only [State.tileRestore, hr, hf, Bool.not_false, if_true]

theorem tileRestore_of_readable (hf : s.restoreFits f = true) (hb : s.frameBad (s.frameAt f.fid) false = false) :
    s.tileRestore n = s.restoreTile n f := by
  simp only [State.tileRestore, hr, hf, hb, Bool.not_true, Bool.false_eq_true, if_false]

theorem tileRestore_of_unreadable (hf : s.restoreFits f = true) (hb : s.frameBad (s.frameAt f.fid) false = true) :
    s.tileRestore n = (((s.metIn s (fun s => s.frameFails (s.frameAt f.fid) false)).failTasks f.tile 0x6A#7).dropFrame f.fid).uncut n := by
  simp only [State.tileRestore, hr, hf, hb, Bool.not_true, Bool.false_eq_true, if_false, if_true]

end

theorem metIn_tiles (s' s : State) (f : State → Option Cause) : (s'.metIn s f).tiles = s'.tiles := by
  unfold State.metIn
  split
  · exact metLine_tiles _ _
  · rfl

theorem metIn_graphs (s' s : State) (f : State → Option Cause) : (s'.metIn s f).graphs = s'.graphs := by
  unfold State.metIn
  split
  · exact metLine_graphs _ _
  · rfl

/-! ## Timing replay (R276) -/

theorem tile_modUnit (s : State) (u : UnitName) (f : UnitEntry → UnitEntry) (n : Nat) : (s.modUnit u f).tile n = s.tile n := rfl
theorem tile_klog (s : State) (kind : Nat) (c : Cause) (info unit tmask lo hi n : Nat) : (s.klog kind c info unit tmask lo hi).tile n = s.tile n := by
  rw [State.tile, klog_tiles]
  rfl
theorem unit_modTile (s : State) (n : Nat) (f : Tile → Tile) (u : UnitName) : (s.modTile n f).unit u = s.unit u := rfl

/-- A replay below the 64th of its window is counted, blamed on its tile and logged. -/
theorem timingReplay_of_few {n : Nat} (h : (s.tile n).replays < 63) : exec (.timingReplay n false) s =
    .next (((s.modTile n (fun x => { x with replays := (s.tile n).replays + 1 })).modUnit (.tile n)
      (fun e => { e with count := e.count + 1, last := some 0x7B#7 })).klog 6 0x7B#7 0 n (s.tileMask n) 0 0) := by
  have hmask : ((s.modTile n (fun x => { x with replays := (s.tile n).replays + 1 })).modUnit (.tile n)
      (fun e => { e with count := e.count + 1, last := some 0x7B#7 })).tileMask n = s.tileMask n := by
    simp only [State.tileMask, tile_modUnit, tile_modTile]
  have hfew : ¬(false || decide (64 ≤ (s.tile n).replays + 1)) = true := by simp; omega
  rw [← hmask]
  exact congrArg _ (if_neg hfew)

/-! ## Paired execution (R279, R280) -/

theorem exec_redundantCompare (s : State) (n c : Nat) : exec (.redundantCompare n c) s = .next (s.compare n c) := rfl

theorem mismatch_of_shown {n c : Nat} {e : Nat × List Nat} (he : s.shown n c = some e) (v : Nat × Nat) :
    s.mismatch n c v = (s.stopEngine n c 0x72#7 e.1 0).stopEngine v.1 v.2 0x72#7 e.1 0 := by
  simp only [State.mismatch, he, Option.map_some, Option.getD_some]

section

variable {n c : Nat} {v : Nat × Nat} {e : Nat × List Nat} (hv : s.twinOf n c = some v) (he : s.shown n c = some e)

include hv he

/-- Twins that show the comparator the same go on. -/
theorem compare_of_equal (hf : s.shown v.1 v.2 = some e) : s.compare n c =
    (s.modCtx n c (fun y => { y with x := { y.x with hold := .agreed } })).modCtx v.1 v.2 (fun y => { y with x := { y.x with hold := .agreed } }) := by
  simp only [State.compare, hv, he, hf, Option.isNone_some, Bool.or_self, Bool.false_eq_true, if_false, if_true]

theorem compare_of_differ {f : Nat × List Nat} (hf : s.shown v.1 v.2 = some f) (hne : e ≠ f) :
    s.compare n c = (s.stopEngine n c 0x72#7 e.1 0).stopEngine v.1 v.2 0x72#7 e.1 0 := by
  have hne' : some e ≠ some f := mt Option.some.inj hne
  rw [← mismatch_of_shown he v]
  simp only [State.compare, hv, he, hf, hne', Option.isNone_some, Bool.or_self, Bool.false_eq_true, if_false]

/-- A twin that has not come to the commit point is late. -/
theorem redundantTimeout_of_late (hf : s.shown v.1 v.2 = none) :
    exec (.redundantTimeout n c) s = .next ((s.stopEngine n c 0x72#7 e.1 0).stopEngine v.1 v.2 0x72#7 e.1 0) := by
  rw [← mismatch_of_shown he v]
  change execRedundantTimeout n c s = _
  simp only [execRedundantTimeout, hv, he, hf, Option.isSome_some, Option.isNone_none, Bool.and_self, if_true]

end

/-- A context is left by a change of another one, by number or by tile. -/
theorem ctx_modCtx_apart {n c m d : Nat} (hc : c < 2) (hd : d < 2) (h : (m, d) ≠ (n, c)) (f : Ctx → Ctx) : (s.modCtx m d f).ctx n c = s.ctx n c := by
  by_cases hm : m = n
  · subst hm
    refine ctx_modCtx_other _ _ _ _ _ fun heq => h ?_
    have : d = 0 ↔ c = 0 := by rw [heq]
    rw [show d = c by omega]
  · exact ctx_modCtx_ne _ _ _ _ _ _ hm

/-! ## The in-field test (R281, R284, R285) -/

theorem nodup_upto : ∀ n lo : Nat, (upto lo n).Nodup
  | 0, _ => List.nodup_nil
  | n + 1, lo => List.nodup_cons.mpr ⟨fun h => absurd (mem_upto.mp h).1 (by omega), nodup_upto n (lo + 1)⟩

theorem mem_clusterTiles {n i : Nat} (h : i < 16) : 16 * n + i ∈ clusterTiles n := mem_upto.mpr (by omega)

section

variable {α : Type} {g : State → Nat → State} {read : State → Nat → α} {h : α → α}

/-- A walk through units, each step of which leaves the readings of the others, leaves those that it does not come to. -/
theorem read_foldl_of_notMem (hne : ∀ s u v, u ≠ v → read (g s u) v = read s v) {u : Nat} : ∀ {l : List Nat} (s : State), u ∉ l →
    read (l.foldl g s) u = read s u
  | [], _, _ => rfl
  | v :: l, s, hu => by
    obtain ⟨hv, hl⟩ := not_or.mp (mt List.mem_cons.mpr hu)
    rw [List.foldl_cons, read_foldl_of_notMem hne _ hl, hne _ _ _ (Ne.symm hv)]

/-- Of each unit that it comes to it makes what one step makes. -/
theorem read_foldl_of_mem (hself : ∀ s u, read (g s u) u = h (read s u)) (hne : ∀ s u v, u ≠ v → read (g s u) v = read s v) {u : Nat} {l : List Nat}
    (s : State) (hl : l.Nodup) (hu : u ∈ l) : read (l.foldl g s) u = h (read s u) := by
  induction l generalizing s with
  | nil => cases hu
  | cons v l ih =>
    obtain ⟨hv, hl⟩ := List.nodup_cons.mp hl
    rw [List.foldl_cons]
    by_cases huv : v = u
    · subst huv
      rw [read_foldl_of_notMem hne _ hv, hself]
    · rw [ih _ hl ((List.mem_cons.mp hu).resolve_left (Ne.symm huv)), hne _ _ _ huv]

end

theorem cluster_modCluster_ne (s : State) (n m : Nat) (f : Cluster → Cluster) (h : n ≠ m) : (s.modCluster n f).cluster m = s.cluster m :=
  mget_mput_ne _ _ _ _ _ h

theorem unit_modUnit_ne (s : State) {u v : Nat} (f : UnitEntry → UnitEntry) (h : u ≠ v) : (s.modUnit (.tile u) f).unit (.tile v) = s.unit (.tile v) :=
  mget_mput_ne _ _ _ _ _ h

theorem cluster_modUnit (s : State) (u : UnitName) (f : UnitEntry → UnitEntry) (n : Nat) : (s.modUnit u f).cluster n = s.cluster n := rfl
theorem cluster_clearExports (s : State) (n m : Nat) : (s.clearExports n).cluster m = s.cluster m := rfl
theorem cluster_klog (s : State) (kind : Nat) (c : Cause) (info unit tmask lo hi n : Nat) : (s.klog kind c info unit tmask lo hi).cluster n = s.cluster n := by
  rw [State.cluster, klog_clusters]
  rfl

/-! ### A cluster goes under test -/

theorem beginTest_clusters (s : State) (n : Nat) : (s.beginTest n).clusters = (s.modCluster n (fun k => { k with testing := true })).clusters := by
  unfold State.beginTest
  exact foldl_keeps _ (fun s : State => s.clusters) (fun s t => modTile_clusters s t _) _ _

theorem beginTest_health (s : State) (n : Nat) : (s.beginTest n).health = s.health := by
  unfold State.beginTest
  exact (foldl_keeps _ (fun s : State => s.health) (fun s t => modTile_health s t _) _ _).trans (modCluster_health s n _)

theorem beginTest_testing (s : State) (n : Nat) : ((s.beginTest n).cluster n).testing = true := by
  rw [State.cluster, beginTest_clusters]
  exact congrArg Cluster.testing (cluster_modCluster s n _)

theorem beginTest_cluster_ne (s : State) {n m : Nat} (h : n ≠ m) : (s.beginTest n).cluster m = s.cluster m := by
  rw [State.cluster, beginTest_clusters]
  exact cluster_modCluster_ne s n m _ h

/-- Its tiles with work are cut. -/
theorem beginTest_cutting (s : State) (n : Nat) {i : Nat} (h : i < 16) : ((s.beginTest n).tile (16 * n + i)).cutting =
    ((s.tile (16 * n + i)).cutting || !(s.tile (16 * n + i)).tasks.isEmpty) := by
  have htile : (s.beginTest n).tile (16 * n + i) = (fun x : Tile => if x.tasks.isEmpty then x else { x with cutting := true }) (s.tile (16 * n + i)) :=
    read_foldl_of_mem (read := State.tile) (fun s u => tile_modTile s u _) (fun s u v => tile_modTile_ne s u v _) _ (nodup_upto 16 (16 * n))
      (mem_clusterTiles h)
  rw [htile]
  dsimp only
  split
  next he => simp [he]
  next he => simp [he]

theorem fieldTestStart_of_idle {d : Nat} (ht : s.kregs.testivl ≠ 0) (hidle : ∀ n, n < 18 → (s.cluster (18 * d + n)).testing = false) :
    exec (.fieldTestStart d) s = .next (s.beginTest (18 * d)) := by
  change execFieldTestStart d s = _
  rw [execFieldTestStart, if_neg]
  rintro (h0 | hany)
  · exact ht h0
  · obtain ⟨m, hm, htest⟩ := List.any_eq_true.mp hany
    obtain ⟨hlo, hhi⟩ := mem_upto.mp hm
    have hm' := hidle (m - 18 * d) (by omega)
    rw [Nat.add_sub_cancel' hlo, htest] at hm'
    cases hm'

/-! ### The end of a test -/

theorem endTest_cluster (s : State) (n : Nat) : (s.endTest n).cluster n = { s.cluster n with testing := false } := by
  unfold State.endTest
  dsimp only
  split
  · exact cluster_modCluster s n _
  · exact (beginTest_cluster_ne _ (Nat.succ_ne_self n)).trans (cluster_modCluster s n _)

theorem endTest_next (s : State) {n : Nat} (h : (n + 1) % 18 ≠ 0) : ((s.endTest n).cluster (n + 1)).testing = true := by
  unfold State.endTest
  dsimp only
  rw [if_neg h]
  exact beginTest_testing _ _

theorem endTest_unit (s : State) (n : Nat) (u : UnitName) : (s.endTest n).unit u = s.unit u := by
  have hh : (s.endTest n).health = s.health := by
    unfold State.endTest
    dsimp only
    split
    · rfl
    · exact beginTest_health _ _
  rw [State.unit, hh]
  rfl

/-- The health of a tile whose test has failed: QUARANTINED, but for one that is FAILED (R285). -/
def failedTest (h : Health) : Health := if h = .failed then .failed else .quarantined

/-- A passed test makes the cluster's tiles OK and clears its TSEEN (R284). -/
theorem testPass_of_runs {n : Nat} (h : s.testRuns n = true) : ∃ q : State, s.testPass n = q.endTest n ∧ (q.cluster n).tseen = 0 ∧
    ∀ i, i < 16 → (q.unit (.tile (16 * n + i))).health = .ok := by
  refine ⟨_, by simp only [State.testPass, h, Bool.not_true, Bool.false_eq_true, if_false]; rfl, ?_, fun i hi => ?_⟩
  · rw [foldl_keeps _ (fun s : State => s.cluster n) fun s u => by split <;> simp only [cluster_klog, cluster_modUnit], cluster_clearExports,
      cluster_modCluster]
  · refine read_foldl_of_mem (read := fun s u => (s.unit (.tile u)).health) (h := fun _ => .ok) (fun s u => ?_) (fun s u v huv => ?_) _
      (nodup_upto 16 (16 * n)) (mem_clusterTiles hi)
    · split
      next hok => exact hok
      next => rw [unit_klog, unit_modUnit]
    · split
      · rfl
      · rw [unit_klog, unit_modUnit_ne _ _ huv]

theorem unit_newHealth (s : State) (u : UnitName) (n : Nat) (h : Health) (c : Cause) (m : Nat) (v : UnitName) :
    (s.newHealth u n h c m).unit v = (s.modUnit u (fun e => { e with health := h, last := some c })).unit v := by
  rw [State.newHealth, State.unit, cutQuarantined_health, klog_health]
  rfl

theorem unit_clearExports (s : State) (n : Nat) (u : UnitName) : (s.clearExports n).unit u = s.unit u := rfl

theorem unit_notices (s : State) (n : Nat) (l : List (Nat × Export)) (u : UnitName) :
    (l.foldl (fun s e => s.notice n e.1 e.2) s).unit u = s.unit u := foldl_keeps _ (fun s : State => s.unit u) (fun s e => by rfl) _ _

/-- What a failed test makes of one tile (R285). -/
def State.failTile (s : State) (u : Nat) : State :=
  if (s.unit (.tile u)).health = .failed then s
  else if (s.unit (.tile u)).health = .quarantined then s.blame (.tile u) 0x73#7
  else s.newHealth (.tile u) u .quarantined 0x73#7 0

theorem failTile_eq : (fun (s : State) (u : Nat) => match (s.unit (.tile u)).health with
    | .failed => s
    | .quarantined => s.blame (.tile u) 0x73#7
    | _ => s.newHealth (.tile u) u .quarantined 0x73#7 0) = State.failTile := by
  funext s u
  unfold State.failTile
  cases (s.unit (.tile u)).health <;> rfl

theorem failTile_health (s : State) (u : Nat) : ((s.failTile u).unit (.tile u)).health = failedTest (s.unit (.tile u)).health := by
  unfold State.failTile failedTest
  split
  next hf => exact hf
  next hf =>
    split
    next hq => rw [State.blame, unit_modUnit, hq]
    next => rw [unit_newHealth, unit_modUnit]

theorem failTile_unit_ne (s : State) {u v : Nat} (h : u ≠ v) : (s.failTile u).unit (.tile v) = s.unit (.tile v) := by
  unfold State.failTile
  split
  · rfl
  · split
    · exact unit_modUnit_ne s _ h
    · rw [unit_newHealth, unit_modUnit_ne _ _ h]

/-- A failed test quarantines the cluster's tiles, and then logs and tells the ports (R285). -/
theorem testFail_of_runs {n : Nat} (h : s.testRuns n = true) : ∃ q : State, s.testFail n = q.endTest n ∧
    ∀ i, i < 16 → (q.unit (.tile (16 * n + i))).health = failedTest (s.unit (.tile (16 * n + i))).health := by
  have hfold : ∀ i, i < 16 → (((clusterTiles n).foldl State.failTile s).unit (.tile (16 * n + i))).health =
      failedTest (s.unit (.tile (16 * n + i))).health := fun i hi =>
    read_foldl_of_mem (read := fun s u => (s.unit (.tile u)).health) failTile_health (fun s u v huv => congrArg _ (failTile_unit_ne s huv)) s
      (nodup_upto 16 (16 * n)) (mem_clusterTiles hi)
  simp only [State.testFail, h, Bool.not_true, Bool.false_eq_true, if_false]
  refine ⟨_, rfl, fun i hi => ?_⟩
  have hwalk := congrArg (fun f => (((clusterTiles n).foldl f s).unit (.tile (16 * n + i))).health) failTile_eq
  rw [← hfold i hi]
  split
  · rw [unit_clearExports, unit_notices, unit_klog]
    exact hwalk
  · rw [unit_klog, unit_clearExports, unit_notices, unit_klog]
    exact hwalk

end

end Sys2Proof.Machine

open Sys2Proof Sys2Proof.Machine in
/-- Settles O51: each event of the cut, the restore, the replay, the comparator and the in-field test takes the branch of its meaning that its conditions
choose; that a restored frame has left the pool is that no operation but a cut takes one, and a test meets each tile of its cluster once. -/
theorem reliabilityEvents : Obligations.ReliabilityEvents := by
  unfold Obligations.ReliabilityEvents
  intro s
  refine ⟨?killed, ?cut, ?restored, ?unfit, ?unreadable, ?bytes, ?replay, ?window, ?agree, ?differ, ?late, ?start, ?pass, ?fail⟩
  case killed => exact fun n hcut hr hb hk => by rw [exec_tileCut, tileCut_of_killing hcut hr hb hk]
  case cut =>
    intro n k x hx hcut hk hr hb h0 h1 hd0 hd1 ht hf hroom
    subst hx
    rw [exec_tileCut, tileCut_of_performed hcut hr hb hk h0 h1 hd0 hd1 ht hf hroom]
    refine ⟨fun hgood => ⟨s.saveTile n k (s.tile n), by rw [hgood, if_neg Bool.false_ne_true], ?_⟩, fun hbad => by rw [if_pos hbad]⟩
    rw [tile_saveTile]
    exact ⟨rfl, rfl, rfl, rfl, mem_frames_saveTile s n k _, fun m hm => tile_saveTile_ne hm k _⟩
  case restored =>
    exact fun n f hr hf hb => ⟨by rw [exec_tileRestore, tileRestore_of_readable hr hf hb], frameFree_restoreTile s n f⟩
  case unfit => exact fun n f hr hf => by rw [exec_tileRestore, tileRestore_of_unfit hr hf]
  case unreadable =>
    intro n f hr hf hb
    exact ⟨_, metIn_tiles _ _ _, metIn_graphs _ _ _, by rw [exec_tileRestore, tileRestore_of_unreadable hr hf hb]⟩
  case bytes =>
    intro f x a ha hx
    subst hx
    rw [readFrame_c0, readFrame_c1]
    exact ⟨readFrame_tasks s a f.tile, reloadPart_deque .., reloadPart_deque .., fun i hi => mget_memSlice hi,
      fun i h0 hi => ⟨reloadPart_rg _ h0 hi, reloadPart_rg _ h0 hi⟩⟩
  case replay =>
    intro n h
    refine ⟨_, timingReplay_of_few h, ?_⟩
    rw [tile_klog, tile_modUnit, tile_modTile, unit_klog, unit_modUnit, unit_modTile]
    exact ⟨rfl, rfl, rfl, rfl⟩
  case window =>
    refine fun n => ⟨s.modTile n (fun x => { x with replays := 0 }), rfl, ?_, rfl⟩
    rw [tile_modTile]
  case agree =>
    intro n c v e hc hc' hv he hf hne
    refine ⟨_, by rw [exec_redundantCompare, compare_of_equal hv he hf], ?_, ?_, rfl⟩
    · rw [ctx_modCtx_apart hc hc' hne, ctx_modCtx]
    · rw [ctx_modCtx]
  case differ => exact fun n c v e f hc hv he hf hne => by rw [exec_redundantCompare, compare_of_differ hv he hf hne]
  case late => exact fun n c v e hc hv he hf => redundantTimeout_of_late hv he hf
  case start =>
    exact fun d ht hidle => ⟨_, fieldTestStart_of_idle ht hidle, beginTest_testing _ _, fun i hi => beginTest_cutting _ _ hi⟩
  case pass =>
    intro n h
    obtain ⟨q, hq, hseen, hok⟩ := testPass_of_runs h
    refine ⟨q.endTest n, congrArg _ hq, ?_, ?_, fun i hi => ?_, endTest_next q⟩
    · rw [endTest_cluster]
    · rw [endTest_cluster, hseen]
    · rw [endTest_unit, hok i hi]
  case fail =>
    intro n h
    obtain ⟨q, hq, hfail⟩ := testFail_of_runs h
    refine ⟨q.endTest n, congrArg _ hq, ?_, fun i hi => ?_, endTest_next q⟩
    · rw [endTest_cluster]
    · rw [endTest_unit, hfail i hi]
      rfl

/-! ## A Winnow job whose twin has failed (R258, R279) -/

namespace Sys2Proof.Machine

section

variable {s : State} {d n : Nat} {j : WJob} {e : Cause}

theorem tell_dies (s : State) (t id : Nat) (o : Over) : (s.tell t id o).dies = s.dies := by
  unfold State.tell
  split <;> rfl

theorem engineDone_dies (s : State) (t id bw bytes : Nat) (err : Option Cause) : (s.engineDone t id bw bytes err).dies = s.dies := by
  simp only [State.engineDone, State.barrierDone, State.complete, State.counted, modCluster_dies, modTile_dies, tell_dies]

/-- A job whose record was not read writes no status, so its end leaves every die (R257). -/
theorem winDone_dies_of_unread (h : j.started = false) (s : State) (n : Nat) (res : Option (Nat × Nat × Nat)) : (s.winDone n j res).dies = s.dies := by
  simp only [State.winDone, h, Bool.false_and, Bool.false_eq_true, if_false, engineDone_dies]

/-- The copy of a pair that stood behind a failed one ends with that one's cause before its record is read: its completion is the other's (R279). -/
theorem winAccept_of_twin_failed (hfree : (s.die d).winCur = none)
    (hnext : ((List.range 288).map (fun i => 288 * d + ((s.die d).winRR + i) % 288)).find? (fun t => (s.tile t).winReady) = some n)
    (hhead : (s.tile n).winHead = some j) (hnew : j.started = false) (htwin : (s.tile n).ends j.id none = some e) :
    s.winAccept d = ((s.modDie d (fun x => { x with winRR := (n - 288 * d + 1) % 288 })).modTile n (fun x => x.winDrop j.id)).winDone n
      { j with fail := some e } none := by
  have htile : ∀ f : Die → Die, (s.modDie d f).tile n = s.tile n := fun _ => rfl
  simp [State.winAccept, hfree, hnext, hhead, hnew, htile, htwin]

/-- So Winnow stays free where such a job is the first that can run. -/
theorem winCur_winAccept_of_twin_failed (hfree : (s.die d).winCur = none)
    (hnext : ((List.range 288).map (fun i => 288 * d + ((s.die d).winRR + i) % 288)).find? (fun t => (s.tile t).winReady) = some n)
    (hhead : (s.tile n).winHead = some j) (hnew : j.started = false) (htwin : (s.tile n).ends j.id none = some e) :
    ((s.winAccept d).die d).winCur = none := by
  rw [winAccept_of_twin_failed hfree hnext hhead hnew htwin, State.die, winDone_dies_of_unread (j := { j with fail := some e }) hnew, modTile_dies]
  exact (congrArg Die.winCur (die_modDie s d _)).trans hfree

/-- A WNSEL of context 1, the second copy of a pair, whose record stands in its handle 1. -/
def twinJob : WJob :=
  { id := 9, inst := 4, bw := 8, ctx := 1, tenant := 0, gid := 0, node := 0, started := false, record := 0, srcInst := 0, mskInst := 0, pass := 0, pref := 0,
    rem := 0, plane := 0, total := 0, nancnt := 0, fchunk := 0, parked := false, fail := none }

/-- The job at the head of tile 0's queue: its record handle is FULL and the record names one element and a mask of room enough, handle 0. The copy that
proceeded, number 8, has ended with cause 0x5E, nothing to choose from (R256). -/
def twinFailed : State :=
  State.reset.modTile 0 (fun x => { x with
    tenant := some 0, winq := [twinJob], pad := [(8, 1)],
    handles := [(0, { HEntry.init with inst := 6, kind := 1, base := 128, size := 64 }), (1, { HEntry.init with inst := 4, kind := 1, size := 64, state := 2 })],
    follows := [{ ctx := 1, lead := 8, id := some 9, how := some { err := some 0x5E, req := none, data := [] } }] })

theorem twinFailed_next :
    ((List.range 288).map (fun i => 288 * 0 + ((twinFailed.die 0).winRR + i) % 288)).find? (fun t => (twinFailed.tile t).winReady) = some 0 := by
  decide +kernel

theorem twinFailed_record_good : 64 ≤ ((twinFailed.tile 0).inst twinJob.inst).size ∧
    ((twinFailed.tile 0).winLoad twinJob).bad ((twinFailed.tile 0).inst ((twinFailed.tile 0).winLoad twinJob).srcInst)
      ((twinFailed.tile 0).inst ((twinFailed.tile 0).winLoad twinJob).mskInst) = false := by
  decide +kernel

end

end Sys2Proof.Machine

open Sys2Proof Sys2Proof.Machine in
/-- Refutes O56: the clause of WINNOW_PASS_ACCEPT for a job that has not started asks for a FULL record handle and a good record, and not that the copy
which proceeded for the job has not failed. In twinFailed it has, so the job ends with that copy's cause (R279) and Winnow stays free, where the clause
has the job running. -/
theorem not_clusterAndDieEvents : ¬ Obligations.ClusterAndDieEvents := by
  unfold Obligations.ClusterAndDieEvents
  intro h
  obtain ⟨-, -, -, hwinnow, -⟩ := h twinFailed
  obtain ⟨hsize, hgood⟩ := twinFailed_record_good
  obtain ⟨t, ht, hrun, -, -⟩ := (hwinnow 0 0 twinJob rfl twinFailed_next rfl).2 _ rfl hsize rfl hgood
  have hfree : ((twinFailed.winAccept 0).die 0).winCur = none := winCur_winAccept_of_twin_failed rfl twinFailed_next rfl rfl rfl
  obtain rfl : twinFailed.winAccept 0 = t := Host.Outcome.next.inj ht
  rw [hfree] at hrun
  cases hrun

/-! ## The copy engine and the key-value engine (R215-R252, R445-R458, R470) -/

namespace Sys2Proof.Machine

section

variable {s : State} {n c : Nat}

/-! ### Fields, maps and contexts -/

/-- A field that begins at bit 0. -/
theorem fld_low {w : Nat} (x : BitVec w) (len : Nat) : fld x 0 len = x.toNat % 2 ^ len := by rw [fld_eq, Nat.pow_zero, Nat.div_one]

/-- What a map reads as where it was written. -/
theorem mfind_mput_same {β : Type} (m : SMap β) (i : Nat) (x : β) : mfind (mput m i x) i = some x := by
  unfold mput
  induction m with
  | nil => simp [merase, minsert, mfind]
  | cons e t ih =>
    simp only [merase]
    split
    · exact ih
    next hne =>
      simp only [minsert]
      split
      · simp [mfind]
      · simpa [mfind, Ne.symm hne] using ih

/-- What a change of every entry keeps of it, it keeps of what every key reads as. -/
theorem mget_map_keeps {β γ : Type} {g : β → γ} {f : Nat → β → β} (hf : ∀ i x, g (f i x) = g x) (d : β) (m : SMap β) (i : Nat) :
    g (mget d (m.map (fun e => (e.1, f e.1 e.2))) i) = g (mget d m i) := by
  induction m with
  | nil => rfl
  | cons e t ih =>
    simp only [List.map_cons, mget]
    split
    · exact hf _ _
    · exact ih

/-- Changes of a context that agree on it as it stands are one. -/
theorem modCtx_congr {f g : Ctx → Ctx} (h : f (s.ctx n c) = g (s.ctx n c)) : s.modCtx n c f = s.modCtx n c g := congrArg (s.setCtx n c) h

section

variable {m : CCmd} {rest : List CCmd} (h : (s.ctx n c).cq = m :: rest)

include h

theorem modCtx_cq_drop : s.modCtx n c (fun y => { y with cq := y.cq.drop 1 }) = s.modCtx n c (fun y => { y with cq := rest }) :=
  modCtx_congr (by rw [h]; rfl)

theorem modCtx_cq_replace (k : CCmd) :
    s.modCtx n c (fun y => { y with cq := k :: y.cq.drop 1 }) = s.modCtx n c (fun y => { y with cq := k :: rest }) := modCtx_congr (by rw [h]; rfl)

end

theorem copies_setCtx (x : Tile) (c : Nat) (y : Ctx) : (x.setCtx c y).copies = x.copies := by unfold Tile.setCtx; split <;> rfl
theorem pad_setCtx (x : Tile) (c : Nat) (y : Ctx) : (x.setCtx c y).pad = x.pad := by unfold Tile.setCtx; split <;> rfl
theorem acc_setCtx (x : Tile) (c : Nat) (y : Ctx) : (x.setCtx c y).acc = x.acc := by unfold Tile.setCtx; split <;> rfl
theorem rowst_setCtx (x : Tile) (c : Nat) (y : Ctx) : (x.setCtx c y).rowst = x.rowst := by unfold Tile.setCtx; split <;> rfl
theorem copy_setCtx (x : Tile) (c : Nat) (y : Ctx) (slot : Nat) : (x.setCtx c y).copy slot = x.copy slot := by rw [Tile.copy, copies_setCtx, Tile.copy]
theorem copy_setCopy (x : Tile) (slot : Nat) (k : CopyCmd) : (x.setCopy slot k).copy slot = some k := mfind_mput_same _ _ _

/-- The direction of an ACCPY is the lowest bit of its word. -/
theorem decide_even (cmd : W64) : decide (cmd.toNat % 2 = 0) = decide (fld cmd 0 1 = 0) := by rw [fld_low, Nat.pow_succ, Nat.pow_zero, Nat.one_mul]

/-! ### What each event is -/

theorem exec_copyAdmission (s : State) (n c : Nat) : exec (.copyAdmission n c) s = .next (s.copyAdmit n c) := rfl
theorem exec_copyAccept (s : State) (n c : Nat) : exec (.copyAccept n c) s = .next (s.copyAccept n c) := rfl
theorem exec_copyComplete (s : State) (n slot : Nat) : exec (.copyComplete n slot) s = .next (s.copyComplete n slot) := rfl
theorem exec_copyPark (s : State) (n slot : Nat) : exec (.copyPark n slot) s = .next (s.copyPark n slot) := rfl
theorem exec_xldExecute (s : State) (n c : Nat) : exec (.xldExecute n c) s = .next (s.xldExecute n c) := rfl
theorem exec_xinvStep (s : State) (n c : Nat) : exec (.xinvStep n c) s = .next (s.xinvStep n c) := rfl
theorem exec_xinvComplete (s : State) (n c : Nat) : exec (.xinvComplete n c) s = .next (s.xinvComplete n c) := rfl
theorem exec_gatherAccept (s : State) (n c : Nat) : exec (.gatherAccept n c) s = .next (s.gatherAccept n c) := rfl
theorem exec_gatherBlock (s : State) (n c : Nat) : exec (.gatherBlock n c) s = .next (s.gatherBlock n c) := rfl
theorem exec_gatherComplete (s : State) (n c : Nat) : exec (.gatherComplete n c) s = .next (s.gatherComplete n c) := rfl
theorem exec_spliceExecute (s : State) (n c : Nat) : exec (.spliceExecute n c) s = .next (s.spliceExecute n c) := rfl
theorem exec_prefixBucketStep (s : State) (n c : Nat) : exec (.prefixBucketStep n c) s = .next (s.prefixStep n c) := rfl

/-! ### The admission of a copy (R445, R447, R450) -/

/-- Its queue's SQSETs and task starts change only the context's queue and its staging file. -/
theorem tile_flushCq (s : State) (n c : Nat) : (s.flushCq n c).tile n = (s.tile n).setCtx c (s.ctx n c).flushCq :=
  (tile_counted _ _ _ _).trans (tile_modCtx _ _ _ _)

theorem flushCq_pad : ((s.flushCq n c).tile n).pad = (s.tile n).pad := by rw [tile_flushCq, pad_setCtx]
theorem flushCq_acc : ((s.flushCq n c).tile n).acc = (s.tile n).acc := by rw [tile_flushCq, acc_setCtx]

/-- Behind an ACCPY that runs no SQSET executes. -/
theorem flushCq_of_running {bank inst id gid node u : Nat} {cmd : W64} {rest : List CCmd}
    (h : (s.ctx n c).cq = .accpy bank cmd inst id gid node (some u) :: rest) :
    ((s.flushCq n c).ctx n c).cq = .accpy bank cmd inst id gid node (some u) :: rest := by
  rw [show (s.flushCq n c).ctx n c = (s.ctx n c).flushCq from ctx_modCtx s n c Ctx.flushCq, Ctx.flushCq, h]
  rfl

section

variable {q : State} {slot scope id gid node si di : Nat} {rest : List CCmd}
  (hq : s.flushCq n c = q) (hcq : (q.ctx n c).cq = .sqgo slot scope id gid node si di :: rest) (hfree : ∀ e, e ∈ (q.tile n).copies → e.1 ≠ slot)

include hq hcq hfree

theorem copyAdmit_of_sound (hc : q.copyCause n c scope (q.ctx n c).staging si di = none) :
    s.copyAdmit n c = (q.modTile n (fun x => x.setCopy slot (sqgoCmd (q.tile n) n c (q.ctx n c).staging scope id gid node si di))).modCtx n c
      (fun y => { y with cq := .admitted slot :: rest }) := by
  have hnone : (q.tile n).copies.any (fun e => decide (e.1 = slot)) = false := List.any_eq_false.mpr fun e he => by simp [hfree e he]
  simp only [State.copyAdmit, hq, hcq, hnone, hc, Bool.false_eq_true, if_false]
  rfl

theorem copyAdmit_of_refused {e : Cause} (hc : q.copyCause n c scope (q.ctx n c).staging si di = some e) (hl : (q.tile n).lingers id = false) :
    s.copyAdmit n c = (q.modCtx n c (fun y => { y with cq := rest })).copyEnd n slot
      (sqgoCmd (q.tile n) n c (q.ctx n c).staging scope id gid node si di) 0 (some e) := by
  have hnone : (q.tile n).copies.any (fun e => decide (e.1 = slot)) = false := List.any_eq_false.mpr fun e he => by simp [hfree e he]
  simp only [State.copyAdmit, hq, hcq, hnone, hc, hl, Bool.false_eq_true, if_false]

end

/-! ### Acceptance (R450, R454) -/

section

variable {bank inst id gid node u : Nat} {cmd : W64} {rest : List CCmd}

/-- An ACCPY that has been accepted goes on whatever stands behind it, in a tile that is being cut too. -/
theorem copyAccept_of_running (h : (s.ctx n c).cq = .accpy bank cmd inst id gid node (some u) :: rest) :
    s.copyAccept n c = s.accpyStep n c bank cmd inst id gid node (some u) := by
  simp only [State.copyAccept, h]

section

variable {q : State} (hq : s.flushCq n c = q) (hcut : (s.tile n).cutting = false)

include hq hcut

theorem copyAccept_of_admitted {slot : Nat} {k : CopyCmd} (hcq : (q.ctx n c).cq = .admitted slot :: rest) (hk : (q.tile n).copy slot = some k)
    (hr : (q.tile n).copyReady k = true) :
    s.copyAccept n c = (q.stamp.2.modTile n (fun x => x.copyStart slot q.stamp.1 k)).modCtx n c (fun y => { y with cq := rest }) := by
  unfold State.copyAccept
  split
  next h =>
    subst hq
    rw [flushCq_of_running h] at hcq
    cases hcq
  · simp only [hcut, hq, hcq, hk, hr, Bool.false_eq_true, if_false, if_true]

theorem copyAccept_of_accpy (hcq : (q.ctx n c).cq = .accpy bank cmd inst id gid node none :: rest) :
    s.copyAccept n c = q.accpyStep n c bank cmd inst id gid node none := by
  unfold State.copyAccept
  split
  next h =>
    subst hq
    rw [flushCq_of_running h] at hcq
    cases hcq
  · simp only [hcut, hq, hcq, Bool.false_eq_true, if_false]

end

end

/-! ### The steps of an ACCPY (R454, R466, R470) -/

theorem ctx_setTile_modInst (s : State) (n c inst : Nat) (f : HEntry → HEntry) : (s.setTile n ((s.tile n).modInst inst f)).ctx n c = s.ctx n c := by
  rw [State.ctx, tile_setTile]
  rfl

theorem ctx_padWrite (c : Nat) : ∀ (l : List Byte) (x : Tile) (a : Nat), (x.padWrite a l).ctx c = x.ctx c
  | [], _, _ => rfl
  | _ :: l, _, _ => ctx_padWrite c l _ _

theorem ctx_accpyWord (x : Tile) (bank : Nat) (cmd : W64) (a u c : Nat) : (x.accpyWord bank cmd a u).ctx c = x.ctx c := by
  unfold Tile.accpyWord
  dsimp only
  split
  · exact ctx_padWrite c _ _ _
  · split <;> rfl

section

variable {bank inst id gid node y z : Nat} {cmd : W64} {rest : List CCmd} {h : HEntry} {wr : Bool}
  (hh : h = (s.tile n).inst inst) (hy : y = fld cmd 8 6 + 1) (hz : z = accSize (fld cmd 39 4)) (hw : wr = decide (fld cmd 0 1 = 0))

section

variable {need units : Nat} (hcq : (s.ctx n c).cq = .accpy bank cmd inst id gid node none :: rest) (hb : (s.tile n).bankBusy bank id = false)
  (hneed : need = if h.kind = 2#2 then 32 * z else fld cmd 44 20 + y * (32 * z)) (hunits : units = if h.kind = 2#2 then y else 1)

include hh hcq hb

theorem accpyStep_of_freed (hk : h.kind = 0#2) : s.accpyStep n c bank cmd inst id gid node none =
    (s.modCtx n c (fun x => { x with cq := rest })).engineDone n id (fld cmd 19 20) (accBytes cmd) (some 0x27#7) := by
  subst hh
  simp only [State.accpyStep, hb, hk, modCtx_cq_drop hcq, Bool.false_eq_true, if_false, if_true]

include hy hz hneed

theorem accpyStep_of_small (hk : h.kind ≠ 0#2) (hsize : h.size < need) : s.accpyStep n c bank cmd inst id gid node none =
    (s.modCtx n c (fun x => { x with cq := rest })).engineDone n id (fld cmd 19 20) (accBytes cmd) (some 0x29#7) := by
  subst hh hy hz hneed
  simp only [State.accpyStep, hb, hk, modCtx_cq_drop hcq, decide_eq_true_eq, hsize, Bool.false_eq_true, if_false, if_true]

include hw hunits

theorem accpyStep_of_admitted (hk : h.kind ≠ 0#2) (hsize : need ≤ h.size) (ha : (if wr then h.canWrite id units else h.canRead units) = true) :
    s.accpyStep n c bank cmd inst id gid node none =
      (s.setTile n ((s.tile n).modInst inst (fun h => if wr then h.startWrite id y else h.startRead id y))).modCtx n c
      (fun x => { x with cq := .accpy bank cmd inst id gid node (some 0) :: rest }) := by
  have hroom := Nat.not_lt.mpr hsize
  rw [← modCtx_cq_replace ((congrArg Ctx.cq (ctx_setTile_modInst _ _ _ _ _)).trans hcq)]
  subst hh hy hz hw hneed hunits
  simp only [State.accpyStep, hb, hk, decide_eq_true_eq, hroom, Bool.false_eq_true, if_false, Bool.not_eq_true'] at ha ⊢
  simp only [ha, Bool.true_eq_false, if_false]

end

section

variable {u : Nat} {x : Tile}
  (hx : x = (s.tile n).modInst inst (fun e => if h.kind = 2#2 ∧ 0 < u ∧ u % (2 * z) = 0 then (if wr then e.wroteRow id else e.readRow id) else e))
  (hcq : (s.ctx n c).cq = .accpy bank cmd inst id gid node (some u) :: rest)

include hh hy hz hw hx hcq

theorem accpyStep_of_word (hu : u < y * (2 * z)) : s.accpyStep n c bank cmd inst id gid node (some u) =
    (s.setTile n (x.accpyWord bank cmd (if h.kind = 2#2 then (if wr then (x.inst inst).wbase id else (x.inst inst).rbase id)
      else (if wr then (x.inst inst).back else (x.inst inst).front) + fld cmd 44 20 + u / (2 * z) * (32 * z)) u)).modCtx n c
      (fun e => { e with cq := .accpy bank cmd inst id gid node (some (u + 1)) :: rest }) := by
  have hmore := Nat.not_le.mpr hu
  have hctx : ∀ a, ((s.setTile n (x.accpyWord bank cmd a u)).ctx n c).cq = .accpy bank cmd inst id gid node (some u) :: rest := fun a => by
    rw [State.ctx, tile_setTile, ctx_accpyWord, hx]
    exact hcq
  rw [← modCtx_cq_replace (hctx _)]
  subst hh hy hz hw hx
  simp only [State.accpyStep, Bool.and_eq_true, decide_eq_true_eq, hmore, if_false]

theorem accpyStep_of_moved (hu : y * (2 * z) ≤ u) (hl : x.lingers id = false) : s.accpyStep n c bank cmd inst id gid node (some u) =
    ((s.setTile n x).modCtx n c (fun e => { e with cq := rest })).engineDone n id (fld cmd 19 20) (accBytes cmd) none := by
  have hctx : ((s.setTile n x).ctx n c).cq = .accpy bank cmd inst id gid node (some u) :: rest := by rw [hx, ctx_setTile_modInst, hcq]
  rw [← modCtx_cq_drop hctx]
  subst hh hy hz hw hx
  simp only [decide_eq_true_eq] at hl
  simp only [State.accpyStep, Bool.and_eq_true, decide_eq_true_eq, hu, hl, Bool.false_eq_true, if_false, if_true]

end

end

/-! ### The run, the park and the end of a copy (R252, R451, R452) -/

section

variable {slot : Nat} {k : CopyCmd} (hk : (s.tile n).copy slot = some k)

include hk

section

variable (hst : k.st = 1)

include hst

section

variable (hs : (s.tile n).stands k = true)

include hs

theorem copyComplete_of_outcome {o : Over} (ho : (s.tile n).outcome k.seq = some o) : s.copyComplete n slot = s.copyAfter n slot k o := by
  simp only [State.copyComplete, hk, hst, hs, ho, decide_true, Bool.and_self, if_true]

theorem copyComplete_of_standing (ho : (s.tile n).outcome k.seq = none) : s.copyComplete n slot = s := by
  simp only [State.copyComplete, hk, hst, hs, ho, decide_true, Bool.and_self, if_true]

end

variable (hs : (s.tile n).stands k = false)

include hs

theorem copyComplete_of_failed (hf : k.fail.isSome = true) : s.copyComplete n slot = s.copyFinish n slot { k with st := 3 } := by
  simp only [State.copyComplete, hk, hst, hs, hf, Bool.false_and, Bool.false_eq_true, if_false, and_self, or_true, if_true]

theorem copyComplete_of_unasked (hf : k.fail = none) (hb : (s.tile n).behindStream k = false) (hr : k.remoteReads = true) (ha : k.asked = false) :
    s.copyComplete n slot = (s.askReads n k).modTile n (fun x => x.setCopy slot { k with asked := true }) := by
  simp [State.copyComplete, hk, hst, hs, hf, hb, hr, ha]

end

theorem copyComplete_of_emitted (hst : k.st = 3) : s.copyComplete n slot = s.copyFinish n slot k := by
  have hover : ({ k with st := 3 } : CopyCmd) = k := by rw [← hst]
  simp [State.copyComplete, hk, hst, hover]

section

variable (hg : s.copyGoes n k = true)

include hg

theorem copyComplete_of_goes {w : State × CopyCmd} {ch : Nat × State} {r : CRun} (hw : w = s.countCopy n slot k) (hch : ch = w.1.choose (cElems k.regs + 1))
    (hr : r = ch.2.copyRun n w.2 (ch.1 + 1)) :
    s.copyComplete n slot = (r.s.metIn ch.2 (fun a => (a.copyRun n w.2 (ch.1 + 1)).cause)).putCopy n slot r.left := by
  have hgo := hg
  simp only [State.copyGoes, Bool.and_eq_true, decide_eq_true_eq, Bool.not_eq_true', Option.isNone_iff_eq_none] at hg
  obtain ⟨⟨⟨⟨hst, hf⟩, hb⟩, ha⟩, hs⟩ := hg
  subst hw hch hr
  simp [State.copyComplete, hk, hst, hs, hf, hb, ha, hgo]

theorem copyPark_of_page {w : State × CopyCmd} {r : CRun} {e : Cause} {va : W64} (hw : w = s.countCopy n slot k) (hr : r = w.1.copyRun n w.2 1)
    (hh : r.halt = some (.page e va)) : s.copyPark n slot = (r.s.putCopy n slot r.k.park).stopEngine n k.ctx e 1 va := by
  subst hw hr
  simp only [State.copyPark, hk, hg, hh, Bool.not_true, Bool.false_eq_true, if_false]

end

end

section

variable {slot : Nat} {k : CopyCmd} {w : State × CopyCmd} {ch : Nat × State} (hw : w = s.countCopy n slot k) (hch : ch = w.1.choose 2) (h0 : ch.1 = 0)
  (ho : s.outstanding (2 * n + w.2.ctx) w.2.seq = false) (hl : (s.tile n).lingers w.2.seq = false) (hs : s.statusWaits n w.2 = false)

include hw hch h0 ho hl hs

theorem copyFinish_of_emitted (hf : w.2.fail = none) :
    s.copyFinish n slot k = ch.2.copyEnd n slot w.2 ((w.2.sent + 4095) / 4096) (w.2.prog.err.map Prod.snd) := by
  subst hw hch
  simp [State.copyFinish, h0, ho, hl, hs, hf]

theorem copyFinish_of_failed {e : Cause} (hf : w.2.fail = some e) :
    s.copyFinish n slot k = ch.2.copyEnd n slot w.2 (w.2.sent / 4096) (some (if w.2.wrote then 0x3E#7 else e)) := by
  subst hw hch
  simp [State.copyFinish, h0, ho, hl, hs, hf]

end

section

variable {r : CRun}

theorem cause_of_fail {e : Cause} (h : r.halt = some (.fail e)) : r.cause = some e := by rw [CRun.cause, h]

theorem cause_of_not_fail (h : ∀ e, r.halt ≠ some (.fail e)) : r.cause = none := by
  unfold CRun.cause
  split
  next e he => exact absurd he (h e)
  · rfl

theorem left_of_fail {e : Cause} (h : r.halt = some (.fail e)) : r.left = { r.k with st := 3, fail := some e } := by
  simp [CRun.left, cause_of_fail h]

theorem left_of_over (h : ∀ e, r.halt ≠ some (.fail e)) (ho : r.over = true) : r.left = { r.k with st := 3, fail := none } := by
  simp [CRun.left, cause_of_not_fail h, ho]

theorem left_of_more (h : ∀ e, r.halt ≠ some (.fail e)) (ho : r.over = false) : r.left = r.k := by
  simp [CRun.left, cause_of_not_fail h, ho]

end

/-! ### The queue of the key-value engine (R219) -/

/-- A command that may be accepted has not been. -/
theorem kvCur_of_kvHead {o : Bool} {k : KCmd} (h : s.kvHead n c o = some k) : s.kvCur n c = none := by
  unfold State.kvHead at h
  dsimp only at h
  split at h
  · cases h
  · split at h
    next m hm =>
      split at h
      · cases h
      next hs =>
        have hrun : ((s.ctx n c).kvRun m) = none := by
          simp only [Ctx.stepped, Bool.or_eq_true, not_or] at hs
          exact Option.not_isSome_iff_eq_none.mp hs.2
        simp only [State.kvCur, State.ctx, hm] at hrun ⊢
        rw [hrun]
        rfl
    · cases h

/-! ### XLD (R150, R215) -/

theorem any_valid_of_forall {l : List TEntry} {tn : Nat} {tag : W64} (h : ∀ e, e ∈ l → e.valid tn tag = false) : l.any (fun e => e.valid tn tag) = false :=
  List.any_eq_false.mpr fun e he => by simp [h e he]

/-- The entry that an XLD of number k installs. -/
def loadedEntry (tag : W64) (tn : Nat) (d : BitVec 512) (es : List (BitVec 128)) (k : Nat) : TEntry :=
  { tag := tag, tenant := tn, retiring := false, desc := d, extents := es, holders := [], stamp := k, waiter := none }

section

variable {tag : W64} {bw id tn : Nat} (htn : tn = (s.tile n).tenant.getD 0)

theorem xldExecute_of_over {l : List Piece} {r : Option Piece} {e : Option Cause} (h : s.kvCur n c = some (.xld tag bw id, .puts l r e))
    (hl : (s.tile n).lingers id = false) : s.xldExecute n c = s.kvDone n c id bw e := by
  simp only [State.xldExecute, h, hl, Bool.false_eq_true, if_false]

theorem xldExecute_of_taken (h : s.kvCur n c = some (.xld tag bw id, .taken)) : s.xldExecute n c = s.xldRead n c tag id := by
  simp only [State.xldExecute, h]

include htn

theorem xldExecute_of_head (h : s.kvHead n c false = some (.xld tag bw id))
    (hroom : (∃ e, e ∈ (s.tile n).tcache ∧ e.valid tn tag = true) ∨ (roomForEntry (s.tile n).tcache).isSome = true) :
    s.xldExecute n c = s.kvSet n c id .taken := by
  have hgo : ((s.tile n).tcache.any (fun e => e.valid tn tag) || (roomForEntry (s.tile n).tcache).isSome) = true :=
    Bool.or_eq_true_iff.mpr (hroom.imp_left List.any_eq_true.mpr)
  subst htn
  simp only [State.xldExecute, kvCur_of_kvHead h, h, hgo, if_true]

theorem xldRead_of_valid (hv : ∃ e, e ∈ (s.tile n).tcache ∧ e.valid tn tag = true) :
    s.xldRead n c tag id = (s.stamp.2.modTile n (fun x => x.touch tn tag s.stamp.1)).kvEnd n c id none := by
  have hany := List.any_eq_true.mpr hv
  subst htn
  simp only [State.xldRead, hany, if_true]

section

variable {l : List TEntry} (hv : ∀ e, e ∈ (s.tile n).tcache → e.valid tn tag = false) (hr : roomForEntry (s.tile n).tcache = some l)

include hv hr

theorem xldRead_of_loaded {d : BitVec 512} {es : List (BitVec 128)} (h : s.loadSeq (.tile n) tn tag.toNat = .ok (d, es)) :
    s.xldRead n c tag id = (s.stamp.2.modTile n (fun x => { x with tcache := l ++ [loadedEntry tag tn d es s.seq] })).kvEnd n c id none := by
  have hany := any_valid_of_forall hv
  subst htn
  simp only [State.xldRead, hany, hr, h, Bool.false_eq_true, if_false]
  rfl

theorem xldRead_of_error {e : Cause} (h : s.loadSeq (.tile n) tn tag.toNat = .error e) (he : e ≠ walkBusy) :
    s.xldRead n c tag id = (s.readMets (fun s => s.loadSeq (.tile n) tn tag.toNat)).kvEnd n c id (some e) := by
  have hany := any_valid_of_forall hv
  subst htn
  simp only [State.xldRead, hany, hr, h, he, Bool.false_eq_true, if_false]

/-- A read that a walk holds up is made again (R149). -/
theorem xldRead_of_walk (h : s.loadSeq (.tile n) tn tag.toNat = .error walkBusy) : s.xldRead n c tag id = s := by
  have hany := any_valid_of_forall hv
  subst htn
  simp only [State.xldRead, hany, hr, h, Bool.false_eq_true, if_false, if_true]

end

end

/-! ### XINV (R220) -/

/-- What an XINV of tile n changes of tile u: where the tile is the tenant's and within the scope, the entries of the tag retire. -/
def retireNear (n tn scope k : Nat) (tag : W64) (u : Nat) (x : Tile) : Tile :=
  if decide (tileScope n u ≤ scope) && decide (x.tenant = some tn) then { x with tcache := retire tn tag k x.tcache } else x

/-- Tile u is the tenant's, within the scope of an XINV of tile n, and has a VALID entry of its tag. -/
def retires (n tn scope : Nat) (tag : W64) (u : Nat) (x : Tile) : Bool :=
  decide (tileScope n u ≤ scope) && decide (x.tenant = some tn) && x.tcache.any (fun k => k.valid tn tag)

/-- The step of an XINV on every tile, saved ones included. -/
def State.retired (s : State) (n scope : Nat) (tag : W64) : State :=
  { s.stamp.2 with
    tiles := s.tiles.map (fun e => (e.1, retireNear n ((s.tile n).tenant.getD 0) scope s.seq tag e.1 e.2)),
    frames := s.frames.map (fun f =>
      if decide (tileScope n f.tileNo ≤ scope) && decide (f.tile.tenant = some ((s.tile n).tenant.getD 0)) then
        { f with tile := { f.tile with tcache := retire ((s.tile n).tenant.getD 0) tag s.seq f.tile.tcache } }
      else f) }

theorem retired_mem (s : State) (n scope : Nat) (tag : W64) : (s.retired n scope tag).mem = s.mem := rfl

/-- Whether a command waits for its twin's does not depend on the cache. -/
theorem lingers_retired (s : State) (n scope id : Nat) (tag : W64) : ((s.retired n scope tag).tile n).lingers id = (s.tile n).lingers id :=
  mget_map_keeps (g := fun x : Tile => x.lingers id) (f := retireNear n _ scope s.seq tag) (fun _ _ => by unfold retireNear; split <;> rfl) _ _ _

section

variable {tag : W64} {bw scope id : Nat}

section

variable (h : s.kvHead n c false = some (.xinv tag bw scope id none))

include h

theorem xinvStep_of_hit (hhit : ∃ e, e ∈ s.tiles ∧ retires n ((s.tile n).tenant.getD 0) scope tag e.1 e.2 = true) :
    s.xinvStep n c = (s.retired n scope tag).modCtx n c (fun y => { y with kq := .xinv tag bw scope id (some s.seq) :: y.kq.drop 1 }) := by
  have hany := List.any_eq_true.mpr hhit
  simp only [retires] at hany
  simp only [State.xinvStep, h, hany, Bool.true_or, if_true]
  rfl

theorem xinvStep_of_miss (hl : (s.tile n).lingers id = false) (ht : ∀ e, e ∈ s.tiles → retires n ((s.tile n).tenant.getD 0) scope tag e.1 e.2 = false)
    (hf : ∀ f, f ∈ s.frames → retires n ((s.tile n).tenant.getD 0) scope tag f.tileNo f.tile = false) :
    s.xinvStep n c = (s.retired n scope tag).kvDone n c id bw none := by
  have htiles : s.tiles.any (fun e => retires n ((s.tile n).tenant.getD 0) scope tag e.1 e.2) = false := List.any_eq_false.mpr fun e he => by simp [ht e he]
  have hframes : s.frames.any (fun f => retires n ((s.tile n).tenant.getD 0) scope tag f.tileNo f.tile) = false :=
    List.any_eq_false.mpr fun f he => by simp [hf f he]
  have hstay : ((s.retired n scope tag).tile n).lingers id ≠ true := by simp [lingers_retired, hl]
  simp only [retires] at htiles hframes
  simp only [State.xinvStep, h, htiles, hframes, Bool.or_self, Bool.false_eq_true, if_false]
  exact if_neg hstay

end

theorem retires_of_valid {tn u : Nat} {x : Tile} (hs : tileScope n u ≤ scope) (ht : x.tenant = some tn) (hk : ∃ k, k ∈ x.tcache ∧ k.valid tn tag = true) :
    retires n tn scope tag u x = true := by
  simp [retires, hs, ht, List.any_eq_true.mpr hk]

theorem not_retires_of_forall {tn u : Nat} {x : Tile}
    (h : tileScope n u ≤ scope → x.tenant = some tn → ∀ k, k ∈ x.tcache → k.valid tn tag = false) : retires n tn scope tag u x = false := by
  unfold retires
  by_cases hs : tileScope n u ≤ scope
  · by_cases ht : x.tenant = some tn
    · rw [any_valid_of_forall (h hs ht), Bool.and_false]
    · simp [ht]
  · simp [hs]

theorem xinvComplete_of_freed {k : Nat} {rest : List KCmd} (h : (s.ctx n c).kq = .xinv tag bw scope id (some k) :: rest)
    (hl : (s.tile n).lingers id = false) (ht : ∀ e, e ∈ s.tiles → ∀ x, x ∈ e.2.tcache → x.waiter ≠ some k)
    (hf : ∀ f, f ∈ s.frames → ∀ x, x ∈ f.tile.tcache → x.waiter ≠ some k) : s.xinvComplete n c = s.kvDone n c id bw none := by
  have hnone : ∀ x : Tile, (∀ e, e ∈ x.tcache → e.waiter ≠ some k) → x.tcache.any (fun e => decide (e.waiter = some k)) = false :=
    fun x hx => List.any_eq_false.mpr fun e he => by simp [hx e he]
  have htiles : s.tiles.any (fun e => e.2.tcache.any (fun e => decide (e.waiter = some k))) = false :=
    List.any_eq_false.mpr fun e he => by simp [hnone e.2 (ht e he)]
  have hframes : s.frames.any (fun f => f.tile.tcache.any (fun e => decide (e.waiter = some k))) = false :=
    List.any_eq_false.mpr fun f he => by simp [hnone f.tile (hf f he)]
  simp only [State.xinvComplete, h, hl, htiles, hframes, Bool.or_self, Bool.false_eq_true, if_false]

end

/-! ### Gathers (R216-R218, R456) -/

section

variable {b : BitVec 256} {inst id gid node tn rows : Nat} {g : Gather}
  (h : s.kvHead n c true = some (.kvg b inst id gid node)) (htn : tn = (s.tile n).tenant.getD 0)
  (hg : g =
    { id := id, ctx := c, tenant := tn, block := b, inst := inst, desc := 0, exts := [], next := 0, held := false, fail := none, done := false,
      gid := gid, node := node })
  (hrows : rows = if ((s.tile n).inst inst).kind = 2#2 then g.k * g.n else 1)

include h htn hg hrows

/-- A gather whose sequence has no VALID entry fails at once (R216). -/
theorem gatherAccept_of_untranslated (hfit : ((s.tile n).inst inst).kind = 0#2 ∨ ((s.tile n).inst inst).canWrite id rows = true)
    (hv : ∀ e, e ∈ (s.tile n).tcache → e.valid tn (BitVec.ofNat 64 (fld b 0 56)) = false) :
    s.gatherAccept n c = (s.modTile n (fun x => { x with gathers := x.gathers ++ [{ g with fail := some 0x59#7, done := true }] })).popKq n c id := by
  have hnone : (s.tile n).tcache.find? (fun e => e.valid tn (BitVec.ofNat 64 (fld b 0 56))) = none :=
    List.find?_eq_none.mpr fun e he => by simp [hv e he]
  subst htn hg hrows
  rcases hfit with hfit | hfit <;>
    simp only [State.gatherAccept, h, hnone, hfit, decide_true, Bool.true_or, Bool.or_true, Bool.not_true, Bool.false_eq_true, if_false]

/-- A gather that is translated and whose destination can take it holds both, and stands behind the others (R216). -/
theorem gatherAccept_of_translated {e : TEntry} (hfit : ((s.tile n).inst inst).canWrite id rows = true)
    (he : (s.tile n).tcache.find? (fun e => e.valid tn (BitVec.ofNat 64 (fld b 0 56))) = some e)
    (hc : ({ g with desc := e.desc, exts := e.extents } : Gather).cause ((s.tile n).inst inst) = none) :
    ∃ a : State, s.gatherAccept n c = a.popKq n c id ∧ (a.tile n).gathers = (s.tile n).gathers ++ [{ g with desc := e.desc, exts := e.extents }] := by
  subst htn hg hrows
  refine ⟨_, by simp only [State.gatherAccept, h, he, hc, hfit, Bool.or_true, Bool.not_true, Bool.false_eq_true, if_false]; rfl, ?_⟩
  rw [tile_modTile, tile_modTile]
  rfl

end

/-- Neither a cut nor a walk holds a gather up (R106, R149). -/
theorem gather_unheld {g : Gather} {q : State} (hcut : g.held = false ∨ (q.tile n).cutting = false) (hw : q.gatherFails n g ≠ some walkBusy) :
    (g.held && (q.tile n).cutting || decide (q.gatherFails n g = some walkBusy)) = false := by
  rcases hcut with h | h <;> simp [h, hw]

section

variable {g : Gather} {q : State} (hf : (s.tile n).gathers.find? (fun g => decide (g.ctx = c) && !g.done) = some g)
  (hq : q = s.modTile n (fun x => x.modInst g.inst HEntry.settle))
  (hgo : (g.held && (q.tile n).cutting || decide (q.gatherFails n g = some walkBusy)) = false)

include hf hq hgo

section

variable (hs : q.gatherSeals (.tile n) g = .ok false)

include hs

theorem gatherBlock_of_unsealed (ht : q.takesWork g.gid g.node = true) : s.gatherBlock n c = q.modTile n (fun x => x.setGather { g with held := true }) := by
  subst hq
  simp only [State.gatherBlock, hf, hgo, hs, ht, Bool.false_eq_true, if_false, if_true]

theorem gatherBlock_of_discarded (ht : q.takesWork g.gid g.node = false) : s.gatherBlock n c =
    q.modTile n (fun x => { (x.discardCmd g.id).endHold g.id with gathers := x.gathers.filter (fun o => decide (o.id ≠ g.id)) }) := by
  subst hq
  simp only [State.gatherBlock, hf, hgo, hs, ht, Bool.false_eq_true, if_false]

end

theorem gatherBlock_of_badSeal {e : Cause} (hs : q.gatherSeals (.tile n) g = .error e) : s.gatherBlock n c =
    (q.metIn q (fun s => s.gatherFails n g)).modTile n (fun x => (x.setGather { g with fail := some e, held := false, done := true }).endHold g.id) := by
  subst hq
  simp only [State.gatherBlock, hf, hgo, hs, Bool.false_eq_true, if_false]

section

variable (hs : q.gatherSeals (.tile n) g = .ok true) {r : State}

include hs

theorem gatherBlock_of_badRow {e : Cause} (hr : q.gatherRows n g g.run = (r, some e)) : s.gatherBlock n c =
    (r.metIn q (fun s => s.gatherFails n g)).modTile n (fun x => (x.setGather { g with fail := some e, held := false, done := true }).endHold g.id) := by
  subst hq
  simp only [State.gatherBlock, hf, hgo, hs, hr, Bool.false_eq_true, if_false]

variable (hr : q.gatherRows n g g.run = (r, none)) {a : Gather} (ha : a = { g with next := g.next + max 1 g.run.length, held := false })

include hr ha

theorem gatherBlock_of_more (hm : a.next < g.n) : s.gatherBlock n c = (r.modTile n (fun x => x.setGather a)).kvFlush n c := by
  have hmore : ¬a.n ≤ a.next := by rw [ha] at hm ⊢; exact Nat.not_le.mpr hm
  subst hq ha
  simp only [State.gatherBlock, hf, hgo, hs, hr, hmore, Bool.false_eq_true, if_false]

theorem gatherBlock_of_last (hm : g.n ≤ a.next) :
    s.gatherBlock n c = (r.modTile n (fun x => (x.setGather { a with done := true }).endHold g.id)).kvFlush n c := by
  have hlast : a.n ≤ a.next := by rw [ha] at hm ⊢; exact hm
  subst hq ha
  simp only [State.gatherBlock, hf, hgo, hs, hr, hlast, Bool.false_eq_true, if_false, if_true]

end

end

theorem gatherComplete_of_done {g : Gather}
    (hf : (s.tile n).gathers.find? (fun g => decide (g.ctx = c) && g.done && !(s.tile n).lingers g.id) = some g) : s.gatherComplete n c =
      ((s.modTile n (fun x => { x with gathers := x.gathers.filter (fun o => decide (o.id ≠ g.id)) })).engineDone n g.id (fld g.block 160 20)
        (if g.fail = some 0x59#7 then (s.tile n).padNat (fld g.block 160 20) 4 else g.bytes) g.fail).kvFlush n c := by
  simp only [State.gatherComplete, hf]

/-! ### Splices (R221-R225, R455) -/

section

variable {inst bw id : Nat}

section

variable (h : s.kvHead n c false = some (.splc inst bw id)) (hr : ((s.tile n).inst inst).canRead 1 = true) (ha : (s.tile n).awaits id = false)

include h hr ha

theorem spliceExecute_of_outcome {o : Over} (ho : (s.tile n).outcome id = some o) : s.spliceExecute n c = s.kvDone n c id bw o.err := by
  simp only [State.spliceExecute, kvCur_of_kvHead h, h, hr, ha, ho, Bool.not_true, Bool.or_self, Bool.false_eq_true, if_false]

theorem spliceExecute_of_small (ho : (s.tile n).outcome id = none) (hz : ((s.tile n).inst inst).size < 64) :
    s.spliceExecute n c = s.kvDone n c id bw (some 0x55#7) := by
  simp only [State.spliceExecute, kvCur_of_kvHead h, h, hr, ha, ho, hz, Bool.not_true, Bool.or_self, Bool.false_eq_true, if_false, if_true]

theorem spliceExecute_of_head (ho : (s.tile n).outcome id = none) (hz : 64 ≤ ((s.tile n).inst inst).size) :
    s.spliceExecute n c = (s.modTile n (fun x => x.modInst inst (fun h => h.startRead id 1))).kvSet n c id .taken := by
  simp only [State.spliceExecute, kvCur_of_kvHead h, h, hr, ha, ho, Nat.not_lt.mpr hz, Bool.not_true, Bool.or_self, Bool.false_eq_true, if_false]

end

variable {run : KRun} {tn : Nat} (h : s.kvCur n c = some (.splc inst bw id, run)) (htn : tn = (s.tile n).tenant.getD 0)

include h

theorem spliceExecute_of_over {e : Option Cause} (hrun : run = .puts [] none e) : s.spliceExecute n c = s.kvDone n c id bw e := by
  subst hrun
  simp only [State.spliceExecute, h]

include htn

section

variable {r : BitVec 512} {q : State} (hrun : run = .taken) (hr : r = BitVec.ofNat 512 ((s.tile n).padNat ((s.tile n).inst inst).front 64))
  (hq : q = s.modTile n (fun x => x.modInst inst (fun h => h.endRead id)))

include hrun hr

theorem spliceExecute_of_walk (hp : s.splicePlanned (.tile n) tn r = .error walkBusy) : s.spliceExecute n c = s := by
  subst htn hr hrun
  simp only [State.spliceExecute, h, hp, if_true]

include hq

theorem spliceExecute_of_planned {p : Splice} (hp : s.splicePlanned (.tile n) tn r = .ok p) :
    s.spliceExecute n c = q.kvSet n c id (.splice p 0 0 []) := by
  subst htn hr hq hrun
  simp only [State.spliceExecute, h, hp]

theorem spliceExecute_of_unplanned {e : Cause} (hp : s.splicePlanned (.tile n) tn r = .error e) (he : e ≠ walkBusy) :
    s.spliceExecute n c = (q.readMets (fun s => s.splicePlanned (.tile n) tn r)).spliceFails n c id (fld r 384 64) e := by
  subst htn hr hq hrun
  simp only [State.spliceExecute, h, hp, he, if_false, State.spliceStops]

end

section

variable {p : Splice} {u sat : Nat} (hrun : run = .splice p u sat [])

include hrun

theorem spliceExecute_of_part {w : List Piece × Nat} (hu : u < p.parts) (hw : s.splicePart (.tile n) tn p u = .ok w) :
    s.spliceExecute n c = s.kvSet n c id (.splice p (u + 1) (sat + w.2) w.1) := by
  subst htn hrun
  simp only [State.spliceExecute, h, hu, hw, if_true]

theorem spliceExecute_of_badPart {e : Cause} (hu : u < p.parts) (hw : s.splicePart (.tile n) tn p u = .error e) (he : e ≠ walkBusy) :
    s.spliceExecute n c = (s.readMets (fun s => s.splicePart (.tile n) tn p u)).spliceFails n c id (fld p.record 384 64) e := by
  subst htn hrun
  simp only [State.spliceExecute, h, hu, hw, he, if_true, if_false, State.spliceStops]

theorem spliceExecute_of_last {w : List Piece × Piece} (hu : p.parts ≤ u) (hw : s.spliceLast (.tile n) tn p sat = .ok w) :
    s.spliceExecute n c = s.kvSet n c id (.puts w.1 (some w.2) none) := by
  subst htn hrun
  simp only [State.spliceExecute, h, Nat.not_lt.mpr hu, hw, if_false]

end

section

variable {p : Splice} {u sat : Nat} {a : Piece} {l : List Piece} {ch : Nat × State} {w : State × List Piece × Option Cause}
  (hrun : run = .splice p u sat (a :: l)) (hch : ch = s.choose (l.length + 1)) (hw : w = ch.2.putPieces (.tile n) tn (ch.1 + 1) (a :: l))

include hrun hch hw

theorem spliceExecute_of_written (hn : w.2.2 = none) : s.spliceExecute n c = w.1.kvSet n c id (.splice p u sat w.2.1) := by
  subst htn hch hw hrun
  simp only [State.spliceExecute, h, List.length_cons, hn]

theorem spliceExecute_of_unwritten {e : Cause} (hn : w.2.2 = some e) : s.spliceExecute n c = w.1.spliceFails n c id (fld p.record 384 64) e := by
  subst htn hch hw hrun
  simp only [State.spliceExecute, h, List.length_cons, hn]

end

section

variable {a : Piece} {l : List Piece} {res : Option Piece} {e : Option Cause} {w : State × List Piece × Option Cause}
  (hrun : run = .puts (a :: l) res e) (hw : w = s.putPieces (.tile n) tn 1 (a :: l))

include hrun hw

theorem spliceExecute_of_put (hn : w.2.2 = none) : s.spliceExecute n c = w.1.kvSet n c id (.puts w.2.1 res e) := by
  subst htn hw hrun
  simp only [State.spliceExecute, h, hn]

theorem spliceExecute_of_unput {f : Cause} {r : Piece} (hn : w.2.2 = some f) (hres : res = some r) :
    s.spliceExecute n c = w.1.spliceFails n c id r.1 f := by
  subst htn hw hrun hres
  simp only [State.spliceExecute, h, hn]

theorem spliceExecute_of_unput_result {f : Cause} (hn : w.2.2 = some f) (hres : res = none) :
    s.spliceExecute n c = w.1.kvEnd n c id (some (e.getD f)) := by
  subst htn hw hrun hres
  simp only [State.spliceExecute, h, hn]
  cases e <;> rfl

end

theorem spliceExecute_of_result {res : Piece} {w : State × List Piece × Option Cause} (hrun : run = .puts [] (some res) none)
    (hw : w = s.putPieces (.tile n) tn 1 [res]) (hl : w.2.1 = []) : s.spliceExecute n c = w.1.kvEnd n c id w.2.2 := by
  subst htn hw hrun
  simp only [State.spliceExecute, h, hl, List.isEmpty_nil, if_true]

end

/-! ### Prefix commands (R235-R237, R458) -/

theorem pxBucket_eq (b : BitVec 512) : pxBucket b = b.toNat % 2 ^ 56 + 256 * (b.toNat / 2 ^ 256 % 2 ^ (b.toNat / 2 ^ 56 % 32)) := by
  rw [pxBucket, fld_low, fld_eq b 256, fld_eq b 56, show 2 ^ 5 = 32 from rfl]

section

variable {op bw id : Nat} {b : BitVec 512} {va : W64} {y : Option KRun} (hy : y = (s.ctx n c).kvRun (.pfx op b va bw id))

include hy

theorem prefixGo_of_new (hn : y = none) (ha : (s.tile n).awaits id = false) (ho : (s.tile n).outcome id = none) :
    s.prefixGo n c (.pfx op b va bw id) = s.kvSet n c id .taken := by
  rw [hy] at hn
  simp only [State.prefixGo, hn, ha, ho, Bool.false_eq_true, if_false]

theorem prefixGo_of_taken (ht : y = some .taken) : s.prefixGo n c (.pfx op b va bw id) = s.prefixBucket n c op b va id := by
  rw [hy] at ht
  simp only [State.prefixGo, ht]

theorem prefixGo_of_over {r : Option Piece} {e : Option Cause} (ho : y = some (.puts [] r e)) :
    s.prefixGo n c (.pfx op b va bw id) = s.kvDone n c id bw e := by
  rw [hy] at ho
  simp only [State.prefixGo, ho]

section

variable {a : Piece} {l : List Piece} {r : Option Piece} {e : Option Cause} {w : State × List Piece × Option Cause}
  (hp : y = some (.puts (a :: l) r e)) (hw : w = s.putPieces (.tile n) ((s.tile n).tenant.getD 0) 1 (a :: l))

include hp hw

theorem prefixGo_of_put (hn : w.2.2 = none) : s.prefixGo n c (.pfx op b va bw id) = w.1.kvSet n c id (.puts w.2.1 r e) := by
  rw [hy] at hp
  subst hw
  simp only [State.prefixGo, hp, hn]

theorem prefixGo_of_unput {f : Cause} (hn : w.2.2 = some f) : s.prefixGo n c (.pfx op b va bw id) = w.1.kvEnd n c id (some f) := by
  rw [hy] at hp
  subst hw
  simp only [State.prefixGo, hp, hn]

end

end

section

variable {op id : Nat} {b : BitVec 512} {va : W64} {l : List Byte} {res : Nat}
  (hl : s.vaReadLong (.tile n) ((s.tile n).tenant.getD 0) (pxBucket b) 256 = .ok l)

include hl

theorem prefixBucket_of_full (h : bucketStep op (fld b 256 256) (numbers 32 8 l) = none) :
    s.prefixBucket n c op b va id = s.kvEnd n c id (some 0x54#7) := by
  simp only [State.prefixBucket, hl, h]

theorem prefixBucket_of_found {i e : Nat} (h : bucketStep op (fld b 256 256) (numbers 32 8 l) = some (res, some i, some e, none)) :
    s.prefixBucket n c op b va id = s.kvSet n c id (.puts [(va.toNat + 8, toBytes 8 (res + 2 ^ 8 * i)), (va.toNat + 32, toBytes 32 e)] none none) := by
  simp only [State.prefixBucket, hl, h]
  rfl

/-- The index in the result of a command that finds no entry is free (R236). -/
theorem prefixBucket_of_absent {ch : Nat × State} (h : bucketStep op (fld b 256 256) (numbers 32 8 l) = some (res, none, none, none))
    (hch : ch = s.choose 8) :
    s.prefixBucket n c op b va id = ch.2.kvSet n c id (.puts [(va.toNat + 8, toBytes 8 (res + 2 ^ 8 * ch.1))] none none) := by
  subst hch
  simp only [State.prefixBucket, hl, h]
  rfl

theorem prefixBucket_of_written {i e : Nat} {q : State} (h : bucketStep op (fld b 256 256) (numbers 32 8 l) = some (res, some i, none, some e))
    (hq : s.vaPut (.tile n) ((s.tile n).tenant.getD 0) (pxBucket b + 32 * i) (toBytes 32 e) = (q, none)) :
    s.prefixBucket n c op b va id = q.kvSet n c id (.puts [(va.toNat + 8, toBytes 8 (res + 2 ^ 8 * i))] none none) := by
  simp only [State.prefixBucket, hl, h, Option.getD_some, hq]
  rfl

end

/-- The prefix commands of a context that may take a step: those that run, and the next one that may be accepted (R219). -/
def State.prefixReady (s : State) (n c : Nat) : List KCmd :=
  (s.ctx n c).kq.filter (fun k => match k with
    | .pfx op _ _ _ _ => ((s.ctx n c).kvRun k).isSome || decide (s.kvHead n c (decide (op = 0)) = some k)
    | _ => false)

theorem prefixStep_of_chosen {ch : Nat × State} {k : KCmd} (hne : s.prefixReady n c ≠ []) (hch : ch = s.choose (s.prefixReady n c).length)
    (hk : (s.prefixReady n c)[ch.1]? = some k) : s.prefixStep n c = ch.2.prefixGo n c k := by
  have hsome : (s.prefixReady n c).isEmpty = false := List.isEmpty_eq_false_iff.mpr hne
  have hstep : s.prefixStep n c = if (s.prefixReady n c).isEmpty then s else
      match (s.prefixReady n c)[(s.choose (s.prefixReady n c).length).1]? with
      | some k => (s.choose (s.prefixReady n c).length).2.prefixGo n c k
      | none => s := rfl
  subst hch
  simp only [hstep, hsome, hk, Bool.false_eq_true, if_false]

/-! ### Reports (R333, R457) -/

section

variable {tag w : W64} {id gid node : Nat}

theorem kvStep_of_report (hcut : (s.tile n).cutting = false) (hk : (s.ctx n c).kvNext = some (.rep tag w id gid node)) (hh : (s.tile n).kvHeld c = false)
    (h2 : s.second n c = false) : s.kvStep n c = some (s.addReport n c tag w id gid node) := by
  have hnext : ((s.tile n).ctx c).kvNext = some (.rep tag w id gid node) := hk
  simp only [State.kvStep, hcut, hnext, hh, h2, Bool.false_and, Bool.or_self, Bool.false_eq_true, if_false]

theorem kq_addReport : ((s.addReport n c tag w id gid node).ctx n c).kq = (s.ctx n c).kq.filter (fun k => decide (k.num ≠ some id)) := by
  rw [State.addReport, ctx_modCtx, State.addRemoteAs, ctx_modCtx]

/-- A report becomes the last remote access of its context, of its own task's node (R457). -/
theorem remote_addReport : ∃ r, r ∈ ((s.addReport n c tag w id gid node).ctx n c).remote ∧ r.id = id ∧ r.kind = .report ∧ r.addr = tag ∧
    r.data = w.setWidth 1024 ∧ r.tscope = 3 ∧ r.gid = gid ∧ r.node = node ∧ r.done = false := by
  rw [State.addReport, ctx_modCtx, State.addRemoteAs, ctx_modCtx]
  refine ⟨_, List.mem_map_of_mem (List.mem_append_right _ (List.mem_singleton_self _)), ?_⟩
  rw [if_pos rfl]
  exact ⟨rfl, rfl, rfl, rfl, rfl, rfl, rfl, rfl⟩

theorem addReport_mem : (s.addReport n c tag w id gid node).mem = s.mem := rfl

end

end

end Sys2Proof.Machine

open Sys2Proof Sys2Proof.Machine in
/-- Settles O55: each event of the copy engine and of the key-value engine takes, where its conditions hold, the branch of its meaning that they choose. A
command that may be accepted does not run, no SQSET executes behind an ACCPY that runs, and the step of an XINV leaves what its own end waits for. -/
theorem copyAndKeyValueEvents : Obligations.CopyAndKeyValueEvents := by
  unfold Obligations.CopyAndKeyValueEvents
  intro s n c _
  refine ⟨?admission, ?admitted, ?accpy, ?words, ?copy, ?xld, ?xinvHit, ?xinvMiss, ?xinvFreed, ?gather, ?block, ?gathered, ?splice, ?spliceRuns,
    ?prefixChosen, ?prefixGoes, ?report⟩
  case admission =>
    intro q slot scope id gid node si di rest k hq hcq hfree hk
    subst hk
    rw [exec_copyAdmission]
    refine ⟨fun hc => ⟨_, sqgoCmd (q.tile n) n c (q.ctx n c).staging scope id gid node si di, congrArg _ (copyAdmit_of_sound hq.symm hcq hfree hc),
      ?_, ?_, rfl, rfl, rfl, rfl, ?_⟩, fun e hc hl => ?_⟩
    · rw [ctx_modCtx]
    · rw [tile_modCtx, copy_setCtx, tile_modTile, copy_setCopy]
    · rw [hq]
      rfl
    · rw [copyAdmit_of_refused hq.symm hcq hfree hc hl]
  case admitted =>
    intro q slot rest k hq hcq hcut hk hr
    rw [exec_copyAccept]
    refine ⟨_, { k with st := 1, acc := q.stamp.1 }, congrArg _ (copyAccept_of_admitted hq.symm hcut hcq hk hr), ?_, ?_, rfl, rfl, ?_⟩
    · rw [ctx_modCtx]
    · rw [tile_modCtx, copy_setCtx, tile_modTile, Tile.copyStart, copy_setCopy]
    · rw [hq]
      rfl
  case accpy =>
    intro q bank cmd inst id gid node rest h y z need wr units hq hcq hcut hb hh hy hz hneed hw hunits
    rw [← fld_eq] at hy hz hneed
    rw [exec_copyAccept, copyAccept_of_accpy hq.symm hcut hcq, ← fld_eq]
    replace hw := hw.trans (decide_even cmd)
    refine ⟨fun hk => ?_, fun hk hsize => ?_,
      fun hk hsize ha => ⟨_, congrArg _ (accpyStep_of_admitted hh hy hz hw hcq hb hneed hunits hk hsize ha), ?_, ?_, ?_⟩⟩
    · rw [accpyStep_of_freed hh hcq hb hk]
    · rw [accpyStep_of_small hh hy hz hcq hb hneed hk hsize]
    · rw [ctx_modCtx]
    · rw [tile_modCtx, pad_setCtx, tile_setTile, ← flushCq_pad, ← hq]
      rfl
    · rw [tile_modCtx, acc_setCtx, tile_setTile, ← flushCq_acc, ← hq]
      rfl
  case words =>
    intro bank cmd inst id gid node rest h y z u x wr hcq hh hy hz hw hx
    rw [← fld_eq] at hy hz
    replace hw := hw.trans (decide_even cmd)
    rw [exec_copyAccept, copyAccept_of_running hcq, ← fld_eq, ← fld_eq]
    refine ⟨fun hu => ⟨_, _, congrArg _ (accpyStep_of_word hh hy hz hw hx hcq hu), ?_, rfl, ?_, ?_, ?_⟩, fun hu hl => ?_⟩
    · rw [ctx_modCtx]
    · rw [tile_modCtx, pad_setCtx, tile_setTile]
    · rw [tile_modCtx, acc_setCtx, tile_setTile]
    · rw [tile_modCtx, rowst_setCtx, tile_setTile]
    · rw [accpyStep_of_moved hh hy hz hw hx hcq hu hl]
  case copy =>
    intro slot k hk
    rw [exec_copyComplete, exec_copyPark]
    refine ⟨fun hst hs => ⟨fun o ho => by rw [copyComplete_of_outcome hk hst hs ho], fun ho => by rw [copyComplete_of_standing hk hst hs ho]⟩,
      fun hst => by rw [copyComplete_of_emitted hk hst], fun hst hs hf => by rw [copyComplete_of_failed hk hst hs hf],
      fun w ch hw hch h0 ho hl hs => ⟨copyFinish_of_emitted hw hch h0 ho hl hs, fun e => copyFinish_of_failed hw hch h0 ho hl hs⟩,
      fun hst hs hf hb hr ha => by rw [copyComplete_of_unasked hk hst hs hf hb hr ha],
      fun w ch r hg hw hch hr => ⟨by rw [copyComplete_of_goes hk hg hw hch hr], fun e => left_of_fail, left_of_over, left_of_more⟩,
      fun w r e va hg hw hr hh => ⟨by rw [copyPark_of_page hk hg hw hr hh], r.k.park, ?_, rfl, rfl, rfl⟩⟩
    rw [State.putCopy, tile_modTile, copy_setCopy]
  case xld =>
    intro tag bw id tn htn
    rw [exec_xldExecute]
    refine ⟨fun h hroom => by rw [xldExecute_of_head htn h hroom],
      fun h hv => ⟨_, congrArg _ ((xldExecute_of_taken h).trans (xldRead_of_valid htn hv)), rfl, ?_⟩,
      fun l h hv hr => ?_, fun l r e h hl => by rw [xldExecute_of_over h hl]⟩
    · rw [tile_modTile, Tile.touch]
      exact List.length_map _
    · rw [xldExecute_of_taken h]
      refine ⟨fun d es hd => ⟨_, loadedEntry tag tn d es s.seq, congrArg _ (xldRead_of_loaded htn hv hr hd), ?_, rfl, rfl, rfl, rfl, rfl⟩,
        fun e he hne => by rw [xldRead_of_error htn hv hr he hne], fun he => by rw [xldRead_of_walk htn hv hr he]⟩
      rw [tile_modTile]
  case xinvHit =>
    intro tag bw scope id h ⟨e, he, hs, ht, hk⟩
    rw [exec_xinvStep]
    refine ⟨_, s.seq, ((s.retired n scope tag).ctx n c).kq.drop 1, congrArg _ (xinvStep_of_hit h ⟨e, he, retires_of_valid hs ht hk⟩), ?_, rfl⟩
    rw [ctx_modCtx]
  case xinvMiss =>
    intro tag bw scope id h hl ht hf
    refine ⟨s.retired n scope tag, ?_, rfl⟩
    rw [exec_xinvStep, xinvStep_of_miss h hl (fun e he => not_retires_of_forall (ht e he)) (fun f hm => not_retires_of_forall (hf f hm))]
  case xinvFreed => exact fun tag bw scope id k rest h hl ht hf => by rw [exec_xinvComplete, xinvComplete_of_freed h hl ht hf]
  case gather =>
    intro b inst id gid node tn g h htn hg
    rw [exec_gatherAccept, ← fld_low]
    refine ⟨fun hfit hv => ⟨{ g with fail := some 0x59#7, done := true }, _, congrArg _ (gatherAccept_of_untranslated h htn hg rfl hfit hv),
      ?_, ?_, rfl, rfl⟩, fun e y hfit he hy hc => ?_⟩
    · rw [tile_modTile]
    · rw [hg]
    · subst hy
      obtain ⟨a, ha, hgs⟩ := gatherAccept_of_translated h htn hg rfl hfit he hc
      exact ⟨a, congrArg _ ha, hgs⟩
  case block =>
    intro g q hf hq hcut hw
    have hgo := gather_unheld hcut hw
    rw [exec_gatherBlock]
    refine ⟨fun hs ht => by rw [gatherBlock_of_unsealed hf hq hgo hs ht], fun hs ht => ⟨_, congrArg _ (gatherBlock_of_discarded hf hq hgo hs ht), ?_, ?_⟩,
      fun e hs => by rw [gatherBlock_of_badSeal hf hq hgo hs], fun r e hs hr => by rw [gatherBlock_of_badRow hf hq hgo hs hr],
      fun r a hs hr ha => ⟨fun hm => by rw [gatherBlock_of_more hf hq hgo hs hr ha hm], fun hm => by rw [gatherBlock_of_last hf hq hgo hs hr ha hm]⟩⟩
    · rw [tile_modTile, hq, tile_modTile]
      rfl
    · rw [hq]
      rfl
  case gathered => exact fun g hf => by rw [exec_gatherComplete, gatherComplete_of_done hf, fld_eq]
  case splice =>
    intro inst bw id h hr ha
    rw [exec_spliceExecute]
    exact ⟨fun o ho => by rw [spliceExecute_of_outcome h hr ha ho], fun ho hz => by rw [spliceExecute_of_small h hr ha ho hz],
      fun ho hz => by rw [spliceExecute_of_head h hr ha ho hz]⟩
  case spliceRuns =>
    intro inst bw id run tn h htn
    simp only [exec_spliceExecute, ← fld_eq]
    refine ⟨fun r q hrun hr hq => ⟨fun p hp => ?_, fun e hp he => ?_, fun hp => ?_⟩, fun p u sat w hrun hu hw => ?_, fun p u sat e hrun hu hw he => ?_,
      fun p u sat a l ch w hrun hch hw => ⟨fun hn => ?_, fun e hn => ?_⟩, fun p u sat w hrun hu hw => ?_,
      fun a l res e w hrun hw => ⟨fun hn => ?_, fun f r hn hres => ?_, fun f hn hres => ?_⟩, fun res w hrun hw hl => ?_, fun e hrun => ?_⟩
    · rw [spliceExecute_of_planned h htn hrun hr hq hp]
    · rw [spliceExecute_of_unplanned h htn hrun hr hq hp he]
    · rw [spliceExecute_of_walk h htn hrun hr hp]
    · rw [spliceExecute_of_part h htn hrun hu hw]
    · rw [spliceExecute_of_badPart h htn hrun hu hw he]
    · rw [spliceExecute_of_written h htn hrun hch hw hn]
    · rw [spliceExecute_of_unwritten h htn hrun hch hw hn]
    · rw [spliceExecute_of_last h htn hrun hu hw]
    · rw [spliceExecute_of_put h htn hrun hw hn]
    · rw [spliceExecute_of_unput h htn hrun hw hn hres]
    · rw [spliceExecute_of_unput_result h htn hrun hw hn hres]
    · rw [spliceExecute_of_result h htn hrun hw hl]
    · rw [spliceExecute_of_over h hrun]
  case prefixChosen =>
    intro l ch k hl hne hch hk
    obtain rfl : l = s.prefixReady n c := hl
    rw [exec_prefixBucketStep, prefixStep_of_chosen hne hch hk]
  case prefixGoes =>
    intro op b va bw id k y hk hy
    subst hk
    refine ⟨prefixGo_of_new hy, fun l ht hl => ?_, fun a l r e w hp hw => ⟨prefixGo_of_put hy hp hw, fun f => prefixGo_of_unput hy hp hw⟩,
      fun r e => prefixGo_of_over hy⟩
    rw [← pxBucket_eq] at hl
    rw [prefixGo_of_taken hy ht, ← fld_eq b 256 256]
    refine ⟨prefixBucket_of_full hl, fun res i e => prefixBucket_of_found hl, fun res ch h hch => prefixBucket_of_absent hl h hch, fun res i e q h hq => ?_⟩
    rw [← pxBucket_eq] at hq
    exact prefixBucket_of_written hl h hq
  case report =>
    intro tag w id gid node hcut hk hh h2
    exact ⟨_, kvStep_of_report hcut hk hh h2, kq_addReport, remote_addReport, addReport_mem⟩

namespace Sys2Proof.Machine

/-! ## Taking an exception and returning from one (R262, R267, R270, R271) -/

section

variable {x : Thread} {b : Branch}

theorem Thread.dslot_of_none (h : x.branch = none) : x.dslot = 0 := by rw [Thread.dslot, h]
theorem Thread.btgt_of_none (h : x.branch = none) : x.btgt = 0 := by rw [Thread.btgt, h]
theorem Thread.falls_of_none (h : x.branch = none) : x.falls = false := by rw [Thread.falls, h]
theorem Thread.dslot_of_branch (h : x.branch = some b) : x.dslot = b.left := by rw [Thread.dslot, h]
theorem Thread.btgt_of_taken (h : x.branch = some b) (ht : b.taken = true) : x.btgt = b.target := by simp only [Thread.btgt, h, ht, if_true]
theorem Thread.falls_of_branch (h : x.branch = some b) : x.falls = !b.taken := by rw [Thread.falls, h]

/-- Where the delay slots of a thread go: to the target of a branch that was taken, and else to where they fall through (R339). -/
theorem Thread.slotTarget_of_branch (h : x.branch = some b) (n : Nat) : (if x.falls then n else x.btgt) = if b.taken then b.target else n := by
  rw [Thread.falls_of_branch h]
  cases ht : b.taken
  case false => rfl
  case true => simpa using Thread.btgt_of_taken h ht

/-- A code unit's byte address read back as a code unit (log entry 13). -/
theorem toNat_byteAddress_half {n : Nat} (h : n < 2 ^ 63) : (BitVec.ofNat 64 (2 * n)).toNat / 2 = n := by
  rw [BitVec.toNat_ofNat, Nat.mod_eq_of_lt (by omega), Nat.mul_div_cancel_left n (by decide)]

end

section

variable {s : State} {k : Nat} {i : StopInfo}

/-- Entering a trap and returning at once leaves no delay slot where none was pending. -/
theorem branch_trapReturn_coreTrap_of_none (h : (s.core k).x.branch = none) : (((s.coreTrap k i).trapReturn k).core k).x.branch = none := by
  rw [State.trapReturn, core_modCore, State.coreTrap, core_modCore]
  exact if_pos (congrArg (BitVec.ofNat 2) (Thread.dslot_of_none h))

/-- Delay slots that were pending at the trap are to come again after the return (R271, log entry 24). -/
theorem branch_trapReturn_coreTrap_of_branch {b : Branch} (h : (s.core k).x.branch = some b) (h0 : 0 < b.left) (h4 : b.left < 4)
    (hi : i.through < 2 ^ 63) (hb : b.target < 2 ^ 63) :
    (((s.coreTrap k i).trapReturn k).core k).x.branch =
      some { target := if b.taken then b.target else i.through, taken := b.taken, left := b.left } := by
  have hleft : (BitVec.ofNat 2 b.left).toNat = b.left := by rw [BitVec.toNat_ofNat, Nat.mod_eq_of_lt (by omega)]
  have hne : BitVec.ofNat 2 b.left ≠ 0#2 := fun he => by
    rw [he] at hleft
    exact absurd hleft (Nat.ne_of_lt h0)
  have hto : (if b.taken then b.target else i.through) < 2 ^ 63 := by split <;> assumption
  rw [State.trapReturn, core_modCore, State.coreTrap, core_modCore]
  dsimp only
  rw [Thread.dslot_of_branch h, if_neg hne, Thread.slotTarget_of_branch h, toNat_byteAddress_half hto, Thread.falls_of_branch h, hleft, Bool.not_not]

/-- The pc that a trap saves is the pc that its return resumes at. -/
theorem pc_trapReturn_coreTrap (h : i.pc < 2 ^ 63) : (((s.coreTrap k i).trapReturn k).core k).x.pc = i.pc := by
  rw [State.trapReturn, core_modCore, State.coreTrap, core_modCore]
  exact toNat_byteAddress_half h

end

/-! ### The stop of a context (R262, R267) -/

section

variable (s : State) (n c : Nat) (i : StopInfo)

/-- The stop record of a context that stops (R267). -/
def State.stopRecord : StopRec :=
  { area := BitVec.ofNat 46 (s.stopArea n c), faddr := i.faddr, pc := BitVec.ofNat 32 i.pc, slotmask := BitVec.ofNat 12 i.slots,
    grade := BitVec.ofNat 2 (grade i.cause), dslot := BitVec.ofNat 2 (s.ctx n c).x.dslot, engine := i.engine.isSome,
    eq := BitVec.ofNat 3 (i.engine.getD 0), stopped := true, cause := i.cause }

/-- A context as its stop leaves it. -/
def State.stopped (y : Ctx) : Ctx :=
  { y with stop := s.stopRecord n c i, x := { y.x with pc := i.pc, hold := .none, walkFault := none, units := [] } }

/-- The state once a stop has written its record and its stop area (R262, R266). -/
def State.stopSaved : State :=
  (((s.modCtx n c (s.stopped n c i)).memRegion (s.stopArea n c) 0x20000 (s.stopped n c i (s.ctx n c)).part).freeRegion
    (s.stopArea n c + 0x4000) 0x10000).freeRegion (s.stopArea n c + 0x15000) 0xB000

theorem tile_stopSaved (m : Nat) : (s.stopSaved n c i).tile m = (s.modCtx n c (s.stopped n c i)).tile m := by
  simp only [State.tile, State.stopSaved, freeRegion_tiles, memRegion_tiles]

theorem tenant_stopSaved (j : Nat) : (s.stopSaved n c i).tenant j = s.tenant j := by
  simp only [State.tenant, State.stopSaved, freeRegion_tenants, memRegion_tenants, modCtx_tenants]

theorem tile_tenant_stopSaved : ((s.stopSaved n c i).tile n).tenant = (s.tile n).tenant := by rw [tile_stopSaved, tile_modCtx, tenant_setCtx]

/-- The kernel log and the interrupt of the tenant's core follow the stop area (R262). -/
theorem contextStop_eq : s.contextStop n c i =
    ((s.stopSaved n c i).klog 1 i.cause c n (2 ^ (s.tile n).tenant.getD 0) 0 0).interrupt (s.tenant ((s.tile n).tenant.getD 0)).irqcore 0x6C#7 := by
  rw [← tile_tenant_stopSaved s n c i, ← tenant_stopSaved s n c i, ← tenant_klog (s.stopSaved n c i)]
  rfl

/-- Of the tiles, a stop changes the one context. -/
theorem tile_contextStop (m : Nat) : (s.contextStop n c i).tile m = (s.modCtx n c (s.stopped n c i)).tile m := by
  rw [contextStop_eq, ← tile_stopSaved]
  exact tile_klog _ 1 i.cause c n _ 0 0 m

theorem ctx_contextStop (m d : Nat) : (s.contextStop n c i).ctx m d = (s.modCtx n c (s.stopped n c i)).ctx m d :=
  congrArg (fun x => Tile.ctx x d) (tile_contextStop s n c i m)

/-- An interrupt of a core is pending there (R270). -/
theorem mem_irq_interrupt (j : Nat) (e : Cause) : e ∈ ((s.interrupt j e).core j).irq := by
  rw [State.interrupt, core_modCore, Core.interrupt]
  split
  next h => exact h
  next => exact List.mem_append_right _ List.mem_cons_self

end

end Sys2Proof.Machine

open Sys2Proof Sys2Proof.Machine in
/-- Settles O18: the trap is one change of its core, whose saved delay slots follow the branch that they belong to. -/
theorem coreTrapEntry : Obligations.CoreTrapEntry := by
  unfold Obligations.CoreTrapEntry
  intro s k i
  refine ⟨_, s.core k, _, rfl, rfl, (core_modCore s k _).symm, rfl, rfl, rfl, fun h => ?_, fun b h ht => ?_, fun b h ht => ?_, rfl, rfl, rfl, rfl, rfl, rfl,
    rfl, rfl, rfl, rfl, rfl, rfl, rfl, fun j hj => core_modCore_ne s k j _ hj.symm, rfl, rfl, rfl⟩
  all_goals dsimp only
  · rw [Thread.dslot_of_none h, Thread.falls_of_none h, Thread.btgt_of_none h]
    exact ⟨rfl, rfl⟩
  all_goals
    rw [Thread.slotTarget_of_branch h, Thread.falls_of_branch h, Thread.dslot_of_branch h, ht]
    exact ⟨rfl, rfl, rfl⟩

open Sys2Proof Sys2Proof.Machine in
/-- Settles O19: a stop writes its record into one context, and the stop area, the kernel log and the interrupt lie outside the tiles. -/
theorem contextStopEntry : Obligations.ContextStopEntry := by
  unfold Obligations.ContextStopEntry
  intro s n c i hc
  refine ⟨_, s.ctx n c, _, rfl, rfl, ((ctx_contextStop s n c i n c).trans (ctx_modCtx s n c _)).symm, rfl, rfl, rfl, rfl, rfl, rfl, rfl, rfl, rfl, rfl, rfl,
    rfl, rfl, rfl, rfl, rfl, rfl, rfl, rfl, fun d hd hne => ?_, fun m hm => ?_, ?_⟩
  · exact (ctx_contextStop s n c i n d).trans (ctx_modCtx_other s n c d _ (by simp only [ne_eq, eq_iff_iff]; omega))
  · exact (tile_contextStop s n c i m).trans (tile_setTile_ne s n m _ hm.symm)
  · have hstop : s.takeException (.ctx n c) i = _ := contextStop_eq s n c i
    rw [hstop]
    exact mem_irq_interrupt _ _ _

open Sys2Proof Sys2Proof.Machine in
/-- Settles O20: the return reads back what the entry saved, twice a code unit below 2^63 being its byte address. -/
theorem trapReturnRestores : Obligations.TrapReturnRestores := by
  unfold Obligations.TrapReturnRestores
  refine ⟨fun s k => ?_, fun s k i hb hpc => ?_, fun s k i b hb h0 h4 hpc hi ht => ?_⟩
  · exact ⟨_, s.core k, _, rfl, rfl, (core_modCore s k _).symm, rfl, rfl, rfl, fun h => if_pos h, fun h => if_neg h, rfl, rfl, rfl, rfl, rfl, rfl,
      fun j hj => core_modCore_ne s k j _ hj.symm, rfl, rfl⟩
  · refine ⟨_, rfl, ?_, ?_, pc_trapReturn_coreTrap hpc, branch_trapReturn_coreTrap_of_none hb, ?_, ?_⟩
    all_goals rw [State.trapReturn, core_modCore, State.coreTrap, core_modCore]
  · exact ⟨_, rfl, pc_trapReturn_coreTrap hpc, branch_trapReturn_coreTrap_of_branch hb h0 h4 hi ht⟩

namespace Sys2Proof.Machine

open Sys2Proof.Claims

/-! ## Division and remainder (R352) -/

section

variable (x y : W64)

theorem ofInt_tdiv : BitVec.ofInt 64 (x.toInt.tdiv y.toInt) = x.sdiv y := by
  apply BitVec.eq_of_toInt_eq
  rw [BitVec.toInt_ofInt, BitVec.toInt_sdiv]

theorem ofInt_tmod : BitVec.ofInt 64 (x.toInt.tmod y.toInt) = x.srem y := by
  rw [← BitVec.toInt_srem, BitVec.ofInt_toInt]

theorem ofNat_udiv : BitVec.ofNat 64 (x.toNat / y.toNat) = x / y := BitVec.udiv_def.symm

theorem ofNat_umod : BitVec.ofNat 64 (x.toNat % y.toNat) = x % y := BitVec.umod_def.symm

end

section

variable {x : Thread} {sgn : Bool} {a b : BitVec 6}

theorem divCheck_of_untrapped (h : x.tdz = false) : divCheck x sgn a b = .ok := by
  simp only [divCheck, h, Bool.not_false, if_true]

theorem divCheck_of_zero (ht : x.tdz = true) (hb : x.rg b.toNat = 0) : divCheck x sgn a b = .fault 0x16#7 0 := by
  simp only [divCheck, ht, hb, Bool.not_true, Bool.false_eq_true, if_false, if_true]

theorem divCheck_of_overflow (ht : x.tdz = true) (hs : sgn = true) (ha : x.rg a.toNat = 0x8000000000000000#64)
    (hb : x.rg b.toNat = BitVec.allOnes 64) : divCheck x sgn a b = .fault 0x17#7 0 := by
  simp [divCheck, ht, hs, ha, hb]

theorem divCheck_of_defined (hb : x.rg b.toNat ≠ 0)
    (ho : ¬ (sgn = true ∧ x.rg a.toNat = 0x8000000000000000#64 ∧ x.rg b.toNat = BitVec.allOnes 64)) : divCheck x sgn a b = .ok := by
  cases ht : x.tdz
  case false => exact divCheck_of_untrapped ht
  case true =>
    simp only [divCheck, ht, Bool.not_true, Bool.false_eq_true, if_false, if_neg hb]
    exact if_neg (by simpa only [Bool.and_eq_true, decide_eq_true_eq, and_assoc] using ho)

end

section

variable {s : State} {i : Instr} {p : BitVec 4} {d a b : BitVec 6} {sgn : Bool} {v : W64}

/-- Of a slot's effect only what it makes of the state in hand counts. -/
theorem issue_congr {f g : State → State} (h : f s = g s) (b : Bool) (c : Verdict) : issue s b c f = issue s b c g := by
  simp only [issue, h]

theorem divOp_eq {f : W64 → W64 → W64} (hv : f (gr s a) (gr s b) = v) : divOp p d a b sgn f s =
    issue s ((me s).guard p) (divCheck (me s) sgn a b) (fun s => s.result64 s.cur.u (.g d.toNat) v 20) := by
  subst hv
  exact issue_congr rfl _ _

theorem exec_div : exec (.div p d a b) s = execDiv p d a b s := rfl
theorem exec_divu : exec (.divu p d a b) s = execDivu p d a b s := rfl
theorem exec_rem : exec (.rem p d a b) s = execRem p d a b s := rfl
theorem exec_remu : exec (.remu p d a b) s = execRemu p d a b s := rfl

/-- A division of the table is one slot that acts under its guard and makes the check of TDZ. -/
theorem exec_scalarDiv (h : scalarDiv s i = some (p, d, a, b, sgn, v)) :
    exec i s = issue s ((me s).guard p) (divCheck (me s) sgn a b) (fun s => s.result64 s.cur.u (.g d.toNat) v 20) := by
  unfold scalarDiv at h
  split at h
  case h_1 => cases h; exact exec_div.trans (divOp_eq (by rw [ofInt_tdiv]))
  case h_2 => cases h; exact exec_divu.trans (divOp_eq (by rw [ofNat_udiv]))
  case h_3 => cases h; exact exec_rem.trans (divOp_eq (by rw [ofInt_tmod]))
  case h_4 => cases h; exact exec_remu.trans (divOp_eq (by rw [ofNat_umod]))
  case h_5 => cases h

/-- A slot's fault of any cause but that of an uncorrectable line is the exception that its unit takes (R260). -/
theorem refuse_fault (s : State) {c : Cause} (hc : c ≠ 0x77#7) (f : W64) :
    s.refuse (.fault c f) = ({ s with cur := { s.cur with verdict := .fault c f } }).takeException s.cur.u
      { cause := c, slots := 2 ^ s.cur.slot, faddr := f, pc := s.cur.pc, engine := none } := by
  simp only [State.refuse, State.unitMet, if_pos hc]

end

end Sys2Proof.Machine

open Sys2Proof Sys2Proof.Machine Sys2Proof.Claims in
/-- Settles O3: a division is one slot with the check of TDZ, which faults in the two cases alone. -/
theorem divisionResults : Obligations.DivisionResults := by
  unfold Obligations.DivisionResults
  refine ⟨fun s i p d a b sgn v hi hp hgo => ?_, fun s i p d a b sgn v hi hp hc ht => ⟨fun hb => ?_, fun hs ha hb => ?_, fun c hcause => ?_⟩⟩
  · have hclear : s.cur.checked = true ∨ divCheck (me s) sgn a b = .ok :=
      hgo.imp id (·.elim divCheck_of_untrapped (fun ⟨hb, ho⟩ => divCheck_of_defined hb ho))
    rw [exec_scalarDiv hi, hp, issue_go s _ _ hclear]
  · rw [exec_scalarDiv hi, hp, divCheck_of_zero ht hb, issue_refuse s _ _ hc Verdict.noConfusion Verdict.noConfusion]
  · rw [exec_scalarDiv hi, hp, divCheck_of_overflow ht hs ha hb, issue_refuse s _ _ hc Verdict.noConfusion Verdict.noConfusion]
  · exact refuse_fault s (by rcases hcause with rfl | rfl <;> decide) 0

namespace Sys2Proof.Machine

open Sys2Proof.Claims

/-! ## A store whose bytes lie on two links (R32, R33) -/

/-- A byte behind a link that failed reads as none that was stored there (R33). -/
theorem memByte_of_lost {s : State} {a : Nat} (h : s.lost a = true) : s.memByte a = Config.beyondCapacity a := by
  simp only [State.memByte, h, Bool.not_true, Bool.and_false, Bool.false_and, Bool.false_eq_true, if_false]

/-- Core 0 with an entry that maps address 0 at physical address 4092, off the page boundary, and all ones or zero in g1. Of the interleave's two links
the second, which holds the bytes from 4096 on, has failed. -/
def splitStore (ones : Bool) : State :=
  { State.reset with
    cur := { Cur.init with u := .core 0 }, kregs := { KRegs.init with memmap := 3 }, links := [(1, { MemLink.init with failed := true })],
    cores := [(0, { Core.init with
      x := { Thread.init with g := [(1, if ones then BitVec.allOnes 64 else 0)] },
      tlb := [{ tenant := 0, lg := 16, va := 0, pa := 4092, x := false, w := true, rd := true, k := true }] })] }

theorem guard_splitStore : ∀ b, (me (splitStore b)).guard 0 = true := by decide +kernel

/-- The check of an 8-byte store looks at the link of the first byte, which has not failed. -/
theorem vaccess_splitStore : ∀ b, (splitStore b).vaccess (splitStore b).cur.u
    ((me (splitStore b)).ra (0#4).toNat + BitVec.ofInt 64 ((0#12).toInt * ((8 : Nat) : Int))) 8 .write = { verdict := .ok, tscope := 3, pa := 4092 } := by
  decide +kernel

theorem lost_splitStore : ∀ b, (splitStore b).lost 4096 = true := by decide +kernel

theorem capacity_splitStore : ∀ b, 4092 + 8 ≤ (splitStore b).capacity := by decide +kernel

/-- Byte 4 of the store's register. -/
theorem byte_splitStore : ∀ b, BitVec.ofNat 8 ((gr (splitStore b) 1).toNat / 256 ^ 4) = if b then 0xFF#8 else 0#8 := by decide +kernel

end Sys2Proof.Machine

open Sys2Proof Sys2Proof.Machine Sys2Proof.Claims in
/-- Refutes O28: the clause of the bytes that a store leaves asks for a check that passes and for room below the capacity, and not that the physical
address be aligned, which a translation entry of an arbitrary state need not give it. In splitStore an 8-byte store at 4092 passes by the link of its
first byte, and its bytes from 4096 on lie behind a link that failed (R33): what is read at 4096 is the same whatever was stored. -/
theorem not_coreLoadsAndStores : ¬ Obligations.CoreLoadsAndStores := by
  unfold Obligations.CoreLoadsAndStores
  intro h
  have hbyte : ∀ b : Bool, Config.beyondCapacity 4096 = if b then 0xFF#8 else 0#8 := fun b => by
    obtain ⟨-, hstore, -⟩ := h (splitStore b) rfl
    obtain ⟨-, hmem, -⟩ := hstore (.stD 0 0 0 1) 8 0 0 0 1 _ rfl (guard_splitStore b) (vaccess_splitStore b).symm
    obtain ⟨t, -, ht, -, hin⟩ := hmem rfl (by decide)
    have hlost : t.lost 4096 = true := by
      rw [ht]
      exact lost_splitStore b
    calc Config.beyondCapacity 4096
      _ = t.memByte 4096 := (memByte_of_lost hlost).symm
      _ = _ := (hin 4 (by decide) (capacity_splitStore b)).trans (byte_splitStore b)
  exact absurd ((hbyte false).symm.trans (hbyte true)) (by decide)

namespace Sys2Proof.Machine

open Sys2Proof.Claims

/-! ## Verdicts of one slot taken together (R260) -/

section

variable {c d : Cause} {f g : W64}

@[simp] theorem faultIf_true (c : Cause) : faultIf true c = .fault c 0 := rfl
@[simp] theorem faultIf_false (c : Cause) : faultIf false c = .ok := rfl
@[simp] theorem Verdict.ok_both (v : Verdict) : Verdict.ok.both v = v := by cases v <;> rfl
@[simp] theorem Verdict.fault_both_ok (c : Cause) (f : W64) : (Verdict.fault c f).both .ok = .fault c f := rfl

/-- Of two faults the lower cause stands. -/
theorem Verdict.fault_both_fault_of_lt (h : d.toNat < c.toNat) : (Verdict.fault c f).both (.fault d g) = .fault d g := if_pos h

end

/-! ## ATM.dec (R364, R372) -/

section

variable {s : State} {p : BitVec 4} {off : BitVec 12} {m : BitVec 4} {r : BitVec 6}

/-- A remote access of the context in hand stands behind its earlier ones, under the next command number. -/
theorem pushRemote_adds (s : State) (k : RKind) (a : W64) (size : Nat) (x : Target) (data : VReg) (data2 : W64) (lanes : PReg) :
    Adds s (s.pushRemote k a x.pa size x.tscope data data2 lanes) k a size x data data2 lanes :=
  ⟨_, rfl, rfl, rfl, rfl, rfl, rfl, rfl, rfl, rfl, rfl, rfl, rfl, rfl⟩

/-- What an ATM.dec at address a checks: its scope, the alignment of a join block, and those of its target. -/
def decCheck (s : State) (a : W64) : Verdict :=
  (faultIf (decide (s.cur.scope < 3)) 0x67#7).both
    ((faultIf (decide (a.toNat % 128 ≠ 0)) 0x24#7).both (s.target s.cur.u s.cur.scope a 8 .update).verdict)

theorem exec_atmDec : exec (.atmDec p off m r) s =
    issue s ((me s).guard p) (decCheck s ((me s).ra m.toNat + BitVec.ofInt 64 (off.toInt * 8))) (atmRemote .dec 8 off m r) := rfl

variable {a : W64}

theorem decCheck_of_aligned_low (hs : s.cur.scope < 3) (ha : a.toNat % 128 = 0) :
    decCheck s a = (Verdict.fault 0x67#7 0).both (s.target s.cur.u s.cur.scope a 8 .update).verdict := by
  simp [decCheck, hs, ha]

theorem decCheck_of_aligned (hs : 3 ≤ s.cur.scope) (ha : a.toNat % 128 = 0) :
    decCheck s a = (s.target s.cur.u s.cur.scope a 8 .update).verdict := by
  simp [decCheck, Nat.not_lt.mpr hs, ha]

theorem decCheck_of_misaligned (hs : 3 ≤ s.cur.scope) (ha : a.toNat % 128 ≠ 0) :
    decCheck s a = (Verdict.fault 0x24#7 0).both (s.target s.cur.u s.cur.scope a 8 .update).verdict := by
  simp [decCheck, Nat.not_lt.mpr hs, ha]

theorem failedAt_of_ne {c : Cause} (h : c ≠ 0x77#7) (pa : Nat) : s.failedAt c pa = s := if_neg h

variable {tn pa : Nat}

/-- A decrement from 1 whose CONT cannot be read has no effect (R364). -/
theorem decAt_of_unread {c : Cause} (h1 : s.homeRead a pa 8 = 1) (hf : s.homeFails tn (.ldx 0) (a + 64) (pa + 64) 64 true = some c) :
    s.decAt tn a pa = { st := if gaTile a then s else s.failedAt c (pa + 64), val := 0, fail := some c, cont := none } := by
  simp only [State.decAt, h1, if_true, hf]

/-- A decrement that is not one from 1, or whose CONT can be read, counts down and releases the CONT at 1 (R372). -/
theorem decAt_of_read (hf : s.homeRead a pa 8 = 1 → s.homeFails tn (.ldx 0) (a + 64) (pa + 64) 64 true = none) :
    s.decAt tn a pa =
      { st := s.homeWrite a pa 8 ((s.homeRead a pa 8 + (2 ^ 64 - 1)) % 2 ^ 64) (BitVec.allOnes 128), val := s.homeRead a pa 8, fail := none,
        cont := if s.homeRead a pa 8 = 1 then some (s.homeRead (a + 64) (pa + 64) 64) else none } := by
  have hnone : (if s.homeRead a pa 8 = 1 then s.homeFails tn (.ldx 0) (a + 64) (pa + 64) 64 true else none) = none := by
    split
    next h => exact hf h
    next => rfl
  simp only [State.decAt, hnone, AtmOp.combine]

end

end Sys2Proof.Machine

open Sys2Proof Sys2Proof.Machine Sys2Proof.Claims in
/-- Settles O31: the lowest of ATM.dec's three checks stands, and a decrement has its effect where its CONT is not needed or can be read. -/
theorem decrementResults : Obligations.DecrementResults := by
  unfold Obligations.DecrementResults
  intro s p off m r a ha
  subst ha
  refine ⟨fun hp => ?off, fun x hp hc hs hal hx hok => ?scope, fun x c f hp hc hs hal hx hv hlt => ?lower, fun x hp hc hs hal hx hok => ?misaligned,
    fun x hp hs hal hx hclear => ?adds, fun tn g pa h c hh h1 hf => ?unread, fun tn g pa h hh hf => ?read⟩
  case off => rw [exec_atmDec, hp, issue_off]
  case scope =>
    subst hx
    rw [exec_atmDec, hp, decCheck_of_aligned_low hs hal, hok]
    exact issue_refuse s _ _ hc Verdict.noConfusion Verdict.noConfusion
  case lower =>
    subst hx
    rw [exec_atmDec, hp, decCheck_of_aligned_low hs hal, hv, Verdict.fault_both_fault_of_lt hlt]
    exact issue_refuse s _ _ hc Verdict.noConfusion Verdict.noConfusion
  case misaligned =>
    subst hx
    rw [exec_atmDec, hp, decCheck_of_misaligned hs hal, hok]
    exact issue_refuse s _ _ hc Verdict.noConfusion Verdict.noConfusion
  case adds =>
    subst hx
    rw [exec_atmDec, hp, decCheck_of_aligned hs hal, issue_go s _ _ hclear]
    exact ⟨_, rfl, pushRemote_adds s _ _ _ _ _ _ _⟩
  case unread =>
    subst hh
    rw [decAt_of_unread h1 hf]
    exact ⟨rfl, rfl, fun hg => if_pos hg, fun hg => if_neg (by simp [hg]), fun hne => by simp only [failedAt_of_ne hne, ite_self]⟩
  case read =>
    subst hh
    rw [decAt_of_read hf]
    exact ⟨rfl, rfl, rfl, rfl⟩

namespace Sys2Proof.Machine

open Sys2Proof.Claims

/-! ## FORK, JOIN, ENQ, DRN and NIBSET.st (R382-R386, R438) -/

section

variable {s : State}

theorem exec_fork (pd : BitVec 4) (g : BitVec 6) : exec (.fork pd g) s = issue s true (recordCheck s (gr s g)) (fun s =>
    let room := decide (s.curCtx.occupancy < 64)
    let s' := s.result s.cur.u (.p pd.toNat) (if room then BitVec.allOnes 1024 else 0) (BitVec.allOnes 1024) 1 0
    if room then s'.pushHq (.fork (s.recordAt (s.g g))) else s') := rfl

/-- The checks of a JOIN: its scope, those of its block's address and of its record. -/
def joinCheck (s : State) (v w : W64) : Verdict :=
  ((faultIf (decide (s.cur.scope < 3)) 0x67#7).both (s.target s.cur.u s.cur.scope w 128 .update).verdict).both (recordCheck s v)

/-- A JOIN's effect: its continuation queued, and the task to end with its bundle (R385). -/
def State.joinEffect (s : State) (m : HCmd) : State := (s.pushHq m).modCurCtx (fun y => { y with ending := true })

/-- The continuation of a JOIN of block w: the record that v names. -/
def contOf (s : State) (v w : W64) : HCmd :=
  let x := s.target s.cur.u s.cur.scope w 128 .update
  .joinCont w x.tscope x.pa (BitVec.ofNat 512 (s.recordBytes v))

theorem exec_join (a b : BitVec 6) : exec (.join a b) s =
    issue s true (joinCheck s (gr s a) (gr s b)) (fun s => s.joinEffect (contOf s (gr s a) (gr s b))) := rfl

theorem exec_drn : exec .drn s = issue s true (drnCheck s) id := rfl

theorem exec_nibsetSt (g : BitVec 6) : exec (.nibsetSt g) s = issue s true (if (pad s).matrixIdle then .ok else .held .nibStatus) (fun s =>
    ((s.result64 s.cur.u (.g g.toNat) (pad s).nibst 1).modCurTile (fun x => { x with nibst := 0 })).counted (unitTile s.cur.u) 1) := rfl

theorem exec_enq_of_core {k : Nat} (hu : s.cur.u = .core k) (q : BitVec 4) (g : BitVec 6) : exec (.enq q g) s =
    issue s true (enqCheck s k (gr s g) q.toNat) (fun s => s.modCore k (fun x => { x with enq := none, enqDone := false })) := by
  show execEnq q g s = _
  simp only [execEnq, hu]
  rfl

theorem recordBytes_eq (v : W64) : s.recordBytes v = (pad s).padNat (v.toNat % 2 ^ 20) 64 := by
  rw [State.recordBytes, fld_low]
  rfl

theorem recordAt_eq (v : W64) : s.recordAt v = recordOf s v := by
  rw [State.recordAt, recordBytes_eq]
  rfl

/-- A change of a context that keeps its thread keeps every thread. -/
theorem thread_modCtx_of_x {f : Ctx → Ctx} (hf : ∀ y, (f y).x = y.x) (t c : Nat) (u : UnitId) : (s.modCtx t c f).thread u = s.thread u := by
  cases u with
  | core k => rfl
  | ctx n d =>
    by_cases hn : t = n
    case neg => rw [State.thread, ctx_modCtx_ne s t c n d f hn]; rfl
    case pos =>
      subst hn
      by_cases hd : (c = 0) = (d = 0)
      case neg => rw [State.thread, ctx_modCtx_other s t c d f hd]; rfl
      case pos =>
        have hsame : ∀ q : State, q.ctx t d = q.ctx t c := fun q => by simp only [State.ctx, Tile.ctx, hd]
        rw [State.thread, State.thread, hsame, hsame s, ctx_modCtx, hf]

theorem ctx_joinEffect (m : HCmd) : (s.joinEffect m).ctx (unitTile s.cur.u) (unitCtx s.cur.u) =
    { s.ctx (unitTile s.cur.u) (unitCtx s.cur.u) with hq := (s.ctx (unitTile s.cur.u) (unitCtx s.cur.u)).hq ++ [m], ending := true } := by
  simp only [State.joinEffect, State.pushHq, State.modCurCtx, modCtx_cur, ctx_modCtx]

theorem thread_joinEffect (m : HCmd) (u : UnitId) : (s.joinEffect m).thread u = s.thread u := by
  rw [State.joinEffect, State.modCurCtx, thread_modCtx_of_x, State.pushHq, State.modCurCtx, thread_modCtx_of_x]
  all_goals exact fun _ => rfl

theorem pad_joinEffect (m : HCmd) (n : Nat) : ((s.joinEffect m).tile n).pad = (s.tile n).pad := by
  rw [State.joinEffect, State.modCurCtx, tile_modCtx_keeps pad_setCtx, State.pushHq, State.modCurCtx, tile_modCtx_keeps pad_setCtx]

theorem joinCheck_of_low {v w : W64} (hs : s.cur.scope < 3) (hr : recordCheck s v = .ok) :
    joinCheck s v w = ((Verdict.fault 0x67#7 0).both (s.target s.cur.u s.cur.scope w 128 .update).verdict).both .ok := by
  simp only [joinCheck, hs, decide_true, faultIf_true, hr]

theorem joinCheck_of_passes {v w : W64} (hs : 3 ≤ s.cur.scope) (hx : (s.target s.cur.u s.cur.scope w 128 .update).verdict = .ok)
    (hr : recordCheck s v = .ok) : joinCheck s v w = .ok := by
  simp [joinCheck, Nat.not_lt.mpr hs, hx, hr]

/-! ### DRN on a tile (R382, R383) -/

variable {t c : Nat}

theorem drnCheck_of_core {k : Nat} (hu : s.cur.u = .core k) : drnCheck s = .ok := by simp only [drnCheck, hu]

theorem drnCheck_of_clear (hu : s.cur.u = .ctx t c) (hw : s.uncovered t c s.cur.scope = false) (hf : (s.ctx t c).fail = none) :
    drnCheck s = .ok := by
  simp only [drnCheck, hu, hw, hf, Bool.false_eq_true, if_false]

theorem drnCheck_of_outstanding (hu : s.cur.u = .ctx t c) (hw : s.uncovered t c s.cur.scope = true) : drnCheck s = .held .drn := by
  simp only [drnCheck, hu, hw, if_true]

theorem drnCheck_of_failure {x : Cause} {a : W64} (hu : s.cur.u = .ctx t c) (hw : s.uncovered t c s.cur.scope = false)
    (hf : (s.ctx t c).fail = some (x, a)) (ha : gaScope t a ≤ s.cur.scope) : drnCheck s = .mark 8 x a := by
  simp only [drnCheck, hu, hw, hf, ha, Bool.false_eq_true, if_false, if_true]

theorem enqCheck_of_done {k q : Nat} {va : W64} (hd : (s.core k).enqDone = true) (he : (s.core k).enq = some (va, q)) : enqCheck s k va q = .ok := by
  simp only [enqCheck]
  exact if_pos ⟨hd, he⟩

theorem matrixIdle_of_empty {x : Tile} (hq : x.mq = []) (hn : x.nib = none) (hb : x.beat = none) : x.matrixIdle = true := by
  simp only [Tile.matrixIdle, hq, hn, hb, List.isEmpty_nil, Option.isNone_none, Bool.and_self]

end

end Sys2Proof.Machine

open Sys2Proof Sys2Proof.Machine Sys2Proof.Claims in
/-- Settles O41: each operation is one slot, and each clause names the verdict of its check. -/
theorem taskDrainAndStatus : Obligations.TaskDrainAndStatus := by
  unfold Obligations.TaskDrainAndStatus
  refine ⟨fun s n k hn hk => ?_, fun s => ⟨fun k hu => ?drnCore, fun t c hu =>
    ⟨fun hw hf => ?drnClear, fun hc hw => ?drnHolds, fun x a hc hw hf ha => ?drnFails⟩, fun g hq hn hb => ?status⟩⟩
  case drnCore => exact exec_drn.trans (issue_go s _ _ (.inr (drnCheck_of_core hu)))
  case drnClear => exact exec_drn.trans (issue_go s _ _ (.inr (drnCheck_of_clear hu hw hf)))
  case drnHolds =>
    rw [exec_drn, drnCheck_of_outstanding hu hw]
    exact issue_refuse s _ _ hc Verdict.noConfusion Verdict.noConfusion
  case drnFails =>
    rw [exec_drn, drnCheck_of_failure hu hw hf ha]
    exact issue_refuse s _ _ hc Verdict.noConfusion Verdict.noConfusion
  case status =>
    rw [exec_nibsetSt, if_pos (matrixIdle_of_empty hq hn hb), issue_go s _ _ (.inr rfl), State.modCurTile, result64_cur]
  subst hn hk
  refine ⟨fun pd g hr ho => ?fork, fun pd g hr ho => ?forkFull, fun a b x hs hx hok hr => ?join,
    fun a b x hc hs hx hr => ⟨fun hok => ?joinScope, fun c f hv hlt => ?joinLower⟩, fun q g c hu hd he => ?enq⟩
  case fork =>
    rw [exec_fork, issue_go s _ _ (.inr hr)]
    simp only [State.curCtx, ho, decide_true, if_true, recordAt_eq, State.pushHq, State.modCurCtx, result_cur]
    rfl
  case forkFull =>
    rw [exec_fork, issue_go s _ _ (.inr hr)]
    simp only [State.curCtx, Nat.not_lt.mpr ho, decide_false, Bool.false_eq_true, if_false]
  case join =>
    subst hx
    rw [exec_join, issue_go s _ _ (.inr (joinCheck_of_passes hs hok hr))]
    refine ⟨_, rfl, ?_, ?_, thread_joinEffect _, rfl, pad_joinEffect _ _⟩
    · rw [ctx_joinEffect, contOf, recordBytes_eq]
    · rw [ctx_joinEffect]
  case joinScope =>
    subst hx
    rw [exec_join, joinCheck_of_low hs hr, hok]
    exact issue_refuse s _ _ hc Verdict.noConfusion Verdict.noConfusion
  case joinLower =>
    subst hx
    rw [exec_join, joinCheck_of_low hs hr, hv, Verdict.fault_both_fault_of_lt hlt]
    exact issue_refuse s _ _ hc Verdict.noConfusion Verdict.noConfusion
  case enq =>
    rw [exec_enq_of_core hu]
    exact issue_go s _ _ (.inr (enqCheck_of_done hd he))


/-! ## The encoding (R319, R325-R333) -/

namespace Sys2Proof.Laws.Roundtrip

/-- The case split over Instr: each constructor has its own lemma, which reads its word's fields back from their places. -/
theorem decode_encode (i : Instr) : Statement i :=
  i.casesOn
    -- Device events, which have no encoding
    reset powerFault thermalTrip machineCheck selfCheckFail stage1Verify memoryLinkTraining stage2Verify imageChunk imageCommit measurementExtend
    quote readPage mgmtDrain mgmtResume setcap mgmtUnknownOperation datagramDiscard socketDatagram roceWrite roceRead devcmdStart devcmdDrain
    devcmdResume capset capEffective mkctlInstall mkctlRemove ttsync tenantTableReload winsync windowDeregisterComplete ctxdispResume ctxdispAbandon
    nanstatClear registerWrite ccCompare interruptTaken weathervaneUpdate memlinkRequest memlinkData memlinkAck memlinkNak memlinkIdle
    memlinkRetrain memlinkRetrainTimeout dramScrub remoteStore remoteLoadRequest remoteLoadReturn copyData barrierArrival send receiveCredit
    deduplicationReference deduplicationNak retractionNotice hopAck hopNak atomicRequest atomicReturn fabricReservedKind fabricRetrain
    fabricRetrainFail sessionKeyAgreement enqAcceptance selectionRound agePeriod kernelDescriptorLoad tileCut tileRestore stealRequest stealAnswer
    nodeDone graphComplete graphKillComplete joinDecrement bundleIssue codeFetch resultLanding hopenExecute hpubExecute hrelExecute hfreeComplete
    copyAdmission copyAccept copyPark copyComplete remoteAccessPerform ldxReturn matrixCommandStart nibBeat arrayBeat drainRowPush cbldBuild
    trdefExecute brushUnitAccept brushUnitComplete xldExecute xinvStep xinvComplete gatherAccept gatherBlock gatherComplete spliceExecute
    retouchJobAccept repairReport retouchWriteback prefixBucketStep winnowPassAccept winnowPassEnd winnowPark fsendAccept frecvPost timingReplay
    replayWindowEnd redundantCompare redundantTimeout fieldTestStart fieldTestPass fieldTestFail
    -- CT (R325)
    nop br brp jr call callr ret loop endTask endLoop trap waith waitb
    -- S (R326, R327)
    add addi sub mul mulh mulhu div divu rem remu and or xor andn shl shr sar rotr shlImm shrImm sarImm rotrImm clz ctz popc min max minu maxu sel
    mov movFromA movToA movFromQ liw cmpEq cmpNe cmpLt cmpGe cmpLtu cmpGeu cmpFeq cmpFlt cmpFle cmpFun fadd fmul fma fcvtToF32 fcvtFromF32 minF32
    maxF32 pand por pxor pnot rdsr wrsr
    -- AG (R328)
    ali aadd amod abrv acir amset
    -- L (R329)
    ldB ldH ldW ldD stB stH stW stD vld256 vld512 vld1024 vst256 vst512 vst1024 ldsB ldsH ldsW ldsD stsB stsH stsW stsD ldxD ldxV256 ldxV512
    ldxV1024 stxD stxV256 stxV512 stxV1024 atmAddW atmAndW atmOrW atmXorW atmSwpW atmCasW atmMinW atmMaxW atmAdd atmAnd atmOr atmXor atmSwp atmCas
    atmMin atmMax atmFmaxF32 atmFmaxBf16 atmFmaxF16 atmDec
    -- V, register form (R330)
    vadd vsub vmul vfma vfms vmin vmax vabs vneg vcmp vsel viadd visub vimul vimac vsat vshl vshr vsar vand vor vxor vnot vcvt vqnt vdqnt vimg vlse
    vrope vnanp vrsum vrmax vrmin vbcst vmov vexp2 vlog2 vrcp vrsq vsqrt vsin vcos vtanh vperm vtrn vshuf vzip
    -- V, stream form (R331)
    vaddStream vsubStream vmulStream vfmaStream vfmsStream vminStream vmaxStream vabsStream vnegStream vcmpStream vselStream viaddStream visubStream
    vimulStream vimacStream vsatStream vshlStream vshrStream vsarStream vandStream vorStream vxorStream vnotStream vcvtStream vqntStream vdqntStream
    vimgStream vlseStream vropeStream vrsumStream vrmaxStream vrminStream vmovStream vexp2Stream vlog2Stream vrcpStream vrsqStream vsqrtStream
    vsinStream vcosStream vtanhStream vpermStream vtrnStream vshufStream vzipStream
    -- MX (R332)
    mcfg mldw mswap mpush macw mshiftZero mshiftBack mshiftFwd mdrain mzero
    -- EN (R333)
    sqset sqgo sqbind accpy halloc hfree hopen hpub hrel hset binit binitRel barr drn fork join enq nibset nibsetSt cbld trdef trenc twupd xld xinv
    kvg splc rprset rpr rprRep pxlk pxin pxinRm wnsel fsend frecvHandle frecvStream sysc eret tlbi wfe
    -- Device events
    sahethLinkPortTraining pageWalkComplete

end Sys2Proof.Laws.Roundtrip

/-- Settles O7, by the case split over the instructions. -/
theorem encodeDecode : Obligations.EncodeDecode := by
  unfold Obligations.EncodeDecode
  exact Sys2Proof.Laws.Roundtrip.decode_encode

namespace Sys2Proof

section

variable {k w hi : Nat}

/-- R335: a code that the slot's opcode map leaves reserved. -/
theorem decodeSlot_of_rawSlot_none (hr : rawSlot k w hi = none) : decodeSlot k w hi = none := by
  simp only [decodeSlot, hr]

/-- R335: an operation with an operand that its entry does not accept. -/
theorem decodeSlot_of_not_wellFormed {i : Instr} (hr : rawSlot k w hi = some i) (hw : i.wellFormed = false) : decodeSlot k w hi = none := by
  simp only [decodeSlot, hr, hw, Bool.and_false, Bool.false_eq_true, if_false]

/-- R325: the CT slot's codes end at 0x0C. -/
theorem rawCT_eq_none (h : 13 ≤ w % 32) : rawCT w = none := by
  unfold rawCT
  split
  case h_14 => rfl
  all_goals omega

/-- R328: the AG slot's codes end at 5. -/
theorem rawAG_eq_none (h : 6 ≤ w % 16) : rawAG w = none := by
  unfold rawAG
  split
  case h_7 => rfl
  all_goals omega

/-- R332: the MX slot's codes end at 7. -/
theorem rawMX_eq_none (h : 8 ≤ w % 16) : rawMX w = none := by
  unfold rawMX
  split
  case h_9 => rfl
  all_goals omega

end

end Sys2Proof

open Sys2Proof in
/-- Settles O8: the listings' chains are evaluated, a code beyond its slot's map names no operation, and WID 0b11 (R319) and the guard (!p0) (R320)
make the operation named ill-formed. -/
theorem listingWordsDecode : Obligations.ListingWordsDecode := by
  unfold Obligations.ListingWordsDecode
  refine ⟨?listings, ?reservedCT, ?reservedAG, ?reservedMX, ?wid2, ?wid3, ?guardS, ?guardCT⟩
  case listings => exact ⟨rfl, rfl, rfl, rfl, rfl, rfl, rfl, rfl, rfl, rfl, rfl, rfl⟩
  case reservedCT => exact fun _ _ h => decodeSlot_of_rawSlot_none (rawCT_eq_none h)
  case reservedAG => exact fun _ _ h => decodeSlot_of_rawSlot_none (rawAG_eq_none h)
  case reservedMX => exact fun _ _ h => decodeSlot_of_rawSlot_none (rawMX_eq_none h)
  case wid2 => rfl
  case wid3 => exact decodeSlot_of_not_wellFormed (i := .vadd 0 0 0 0 0 3) rfl rfl
  case guardS => exact decodeSlot_of_not_wellFormed (i := .add 8 0 0 0) rfl rfl
  case guardCT => exact decodeSlot_of_not_wellFormed (i := .br 8 0) rfl rfl

namespace Sys2Proof.Machine

open Sys2Proof.Claims

/-! ## The scalar slots (R351-R359) -/

/-! ### What each integer operation, compare, float operation and predicate operation of the tables means -/

section

variable {s : State} {p pd : BitVec 4} {d a b n : BitVec 6}

theorem exec_add : exec (.add p d a b) s = execAdd p d a b s := rfl
theorem exec_addi {imm : BitVec 8} : exec (.addi p d a imm) s = execAddi p d a imm s := rfl
theorem exec_sub : exec (.sub p d a b) s = execSub p d a b s := rfl
theorem exec_mul : exec (.mul p d a b) s = execMul p d a b s := rfl
theorem exec_mulh : exec (.mulh p d a b) s = execMulh p d a b s := rfl
theorem exec_mulhu : exec (.mulhu p d a b) s = execMulhu p d a b s := rfl
theorem exec_and : exec (.and p d a b) s = execAnd p d a b s := rfl
theorem exec_or : exec (.or p d a b) s = execOr p d a b s := rfl
theorem exec_xor : exec (.xor p d a b) s = execXor p d a b s := rfl
theorem exec_andn : exec (.andn p d a b) s = execAndn p d a b s := rfl
theorem exec_shl : exec (.shl p d a b) s = execShl p d a b s := rfl
theorem exec_shr : exec (.shr p d a b) s = execShr p d a b s := rfl
theorem exec_sar : exec (.sar p d a b) s = execSar p d a b s := rfl
theorem exec_rotr : exec (.rotr p d a b) s = execRotr p d a b s := rfl
theorem exec_shlImm : exec (.shlImm p d a n) s = execShlImm p d a n s := rfl
theorem exec_shrImm : exec (.shrImm p d a n) s = execShrImm p d a n s := rfl
theorem exec_sarImm : exec (.sarImm p d a n) s = execSarImm p d a n s := rfl
theorem exec_rotrImm : exec (.rotrImm p d a n) s = execRotrImm p d a n s := rfl
theorem exec_clz : exec (.clz p d a) s = execClz p d a s := rfl
theorem exec_ctz : exec (.ctz p d a) s = execCtz p d a s := rfl
theorem exec_popc : exec (.popc p d a) s = execPopc p d a s := rfl
theorem exec_min : exec (.min p d a b) s = execMin p d a b s := rfl
theorem exec_max : exec (.max p d a b) s = execMax p d a b s := rfl
theorem exec_minu : exec (.minu p d a b) s = execMinu p d a b s := rfl
theorem exec_maxu : exec (.maxu p d a b) s = execMaxu p d a b s := rfl
theorem exec_mov : exec (.mov p d a) s = execMov p d a s := rfl
theorem exec_movFromA {an : BitVec 4} : exec (.movFromA p d an) s = execMovFromA p d an s := rfl

theorem exec_cmpEq : exec (.cmpEq p pd a b) s = execCmpEq p pd a b s := rfl
theorem exec_cmpNe : exec (.cmpNe p pd a b) s = execCmpNe p pd a b s := rfl
theorem exec_cmpLt : exec (.cmpLt p pd a b) s = execCmpLt p pd a b s := rfl
theorem exec_cmpGe : exec (.cmpGe p pd a b) s = execCmpGe p pd a b s := rfl
theorem exec_cmpLtu : exec (.cmpLtu p pd a b) s = execCmpLtu p pd a b s := rfl
theorem exec_cmpGeu : exec (.cmpGeu p pd a b) s = execCmpGeu p pd a b s := rfl
theorem exec_cmpFeq : exec (.cmpFeq p pd a b) s = execCmpFeq p pd a b s := rfl
theorem exec_cmpFlt : exec (.cmpFlt p pd a b) s = execCmpFlt p pd a b s := rfl
theorem exec_cmpFle : exec (.cmpFle p pd a b) s = execCmpFle p pd a b s := rfl
theorem exec_cmpFun : exec (.cmpFun p pd a b) s = execCmpFun p pd a b s := rfl

theorem exec_fadd : exec (.fadd p d a b) s = execFadd p d a b s := rfl
theorem exec_fmul : exec (.fmul p d a b) s = execFmul p d a b s := rfl
theorem exec_fma : exec (.fma p d a b) s = execFma p d a b s := rfl
theorem exec_minF32 : exec (.minF32 p d a b) s = execMinF32 p d a b s := rfl
theorem exec_maxF32 : exec (.maxF32 p d a b) s = execMaxF32 p d a b s := rfl

variable {ty : BitVec 4} {sat : BitVec 1}

theorem exec_fcvtToF32 : exec (.fcvtToF32 p d a ty sat) s = execFcvtToF32 p d a ty sat s := rfl
theorem exec_fcvtFromF32 : exec (.fcvtFromF32 p d a ty sat) s = execFcvtFromF32 p d a ty sat s := rfl

end

section

variable {s : State} {p d a b : BitVec 4}

theorem exec_pand : exec (.pand p d a b) s = execPand p d a b s := rfl
theorem exec_por : exec (.por p d a b) s = execPor p d a b s := rfl
theorem exec_pxor : exec (.pxor p d a b) s = execPxor p d a b s := rfl
theorem exec_pnot : exec (.pnot p d a) s = execPnot p d a s := rfl

end

/-! ### The slot of each table -/

section

variable {s : State} {i : Instr} {p pd : BitVec 4} {d : BitVec 6}

/-- An operation of the shape scalarOp is one slot that delivers the value its function has of the thread in hand. -/
theorem exec_of_scalarOp {f : Thread → W64} {v : W64} {lat : Nat} (hi : exec i s = scalarOp p d lat f s) (hv : f (me s) = v) :
    exec i s = issue s ((me s).guard p) .ok (fun s => s.result64 s.cur.u (.g d.toNat) v lat) := by
  subst hv
  exact hi.trans (issue_congr rfl _ _)

theorem exec_of_predOp {f : Thread → PReg} {v : PReg} (hi : exec i s = predOp p pd f s) (hv : f (me s) = v) :
    exec i s = issue s ((me s).guard p) .ok (fun s => s.result s.cur.u (.p pd.toNat) (v.setWidth 1024) (BitVec.allOnes 1024) 1 0) := by
  subst hv
  exact hi.trans (issue_congr rfl _ _)

theorem exec_of_scalarFloat {f : Thread → Nat × Flags} {r : Nat × Flags} (hi : exec i s = scalarFloat p d f s) (hr : f (me s) = r) :
    exec i s = issue s ((me s).guard p) (flagTrap (me s) r.2) (fun s =>
      s.result s.cur.u (.g d.toNat) (BitVec.ofNat 1024 r.1) (BitVec.allOnes 1024) 4 r.2.toBits) := by
  subst hr
  exact hi.trans (issue_congr rfl _ _)

/-- A shift count, gb[5:0]. -/
theorem fld_count (x : W64) : fld x 0 6 = x.toNat % 64 := fld_low x 6

theorem exec_rdsr {sr : BitVec 6} : exec (.rdsr p d sr) s =
    issue s ((me s).guard p) .ok (fun s => s.result64 s.cur.u (.g d.toNat) (s.readSr s.cur.u sr.toNat) 1) := rfl

/-- R351, R354, R359: an integer operation of the table is one slot that acts under its guard and checks nothing. -/
theorem exec_scalarInt {r : BitVec 4 × BitVec 6 × W64 × Nat} (h : scalarInt s i = some r) :
    exec i s = issue s ((me s).guard r.1) .ok (fun s => s.result64 s.cur.u (.g r.2.1.toNat) r.2.2.1 r.2.2.2) := by
  unfold scalarInt at h
  split at h
  case h_1 => cases h; exact exec_of_scalarOp exec_add rfl
  case h_2 => cases h; exact exec_of_scalarOp exec_addi rfl
  case h_3 => cases h; exact exec_of_scalarOp exec_sub rfl
  case h_4 => cases h; exact exec_of_scalarOp exec_mul rfl
  case h_5 => cases h; exact exec_of_scalarOp exec_mulh rfl
  case h_6 => cases h; exact exec_of_scalarOp exec_mulhu rfl
  case h_7 => cases h; exact exec_of_scalarOp exec_and rfl
  case h_8 => cases h; exact exec_of_scalarOp exec_or rfl
  case h_9 => cases h; exact exec_of_scalarOp exec_xor rfl
  case h_10 => cases h; exact exec_of_scalarOp exec_andn rfl
  case h_11 => cases h; exact exec_of_scalarOp exec_shl (by rw [fld_count]; rfl)
  case h_12 => cases h; exact exec_of_scalarOp exec_shr (by rw [fld_count]; rfl)
  case h_13 => cases h; exact exec_of_scalarOp exec_sar (by rw [fld_count]; rfl)
  case h_14 => cases h; exact exec_of_scalarOp exec_rotr (by rw [fld_count]; rfl)
  case h_15 => cases h; exact exec_of_scalarOp exec_shlImm rfl
  case h_16 => cases h; exact exec_of_scalarOp exec_shrImm rfl
  case h_17 => cases h; exact exec_of_scalarOp exec_sarImm rfl
  case h_18 => cases h; exact exec_of_scalarOp exec_rotrImm rfl
  case h_19 => cases h; exact exec_of_scalarOp exec_clz rfl
  case h_20 => cases h; exact exec_of_scalarOp exec_ctz rfl
  case h_21 => cases h; exact exec_of_scalarOp exec_popc rfl
  case h_22 => cases h; exact exec_of_scalarOp exec_min (ite_congr decide_eq_true_eq (fun _ => rfl) (fun _ => rfl))
  case h_23 => cases h; exact exec_of_scalarOp exec_max (ite_congr decide_eq_true_eq (fun _ => rfl) (fun _ => rfl))
  case h_24 => cases h; exact exec_of_scalarOp exec_minu (ite_congr decide_eq_true_eq (fun _ => rfl) (fun _ => rfl))
  case h_25 => cases h; exact exec_of_scalarOp exec_maxu (ite_congr decide_eq_true_eq (fun _ => rfl) (fun _ => rfl))
  case h_26 => cases h; exact exec_of_scalarOp exec_mov rfl
  case h_27 => cases h; exact exec_of_scalarOp exec_movFromA rfl
  case h_28 =>
    cases h
    refine exec_rdsr.trans (issue_congr ?_ _ _)
    rfl
  case h_29 => cases h

/-- A compare of the shape compareOp delivers 128 bits of what its condition has of the two registers. -/
theorem exec_of_compareOp {a b : BitVec 6} {c : W64 → W64 → Bool} {o : Bool} (hi : exec i s = compareOp p pd a b c s)
    (hc : c (gr s a) (gr s b) = o) :
    exec i s = issue s ((me s).guard p) .ok (fun s =>
      s.result s.cur.u (.p pd.toNat) (BitVec.setWidth 1024 (if o then BitVec.allOnes 128 else 0#128)) (BitVec.allOnes 1024) 1 0) := by
  subst hc
  exact exec_of_predOp hi rfl

/-- A float relation on the low 32 bits of two registers. -/
theorem f32Rel_eq (r : FV → FV → Bool) (x y : W64) : f32Rel r x y = r (f32.val (x.toNat % 2 ^ 32)) (f32.val (y.toNat % 2 ^ 32)) := by
  rw [f32Rel, fld_low, fld_low]

/-- R353: a compare of the table is one slot that acts under its guard and checks nothing. -/
theorem exec_scalarCmp {r : BitVec 4 × BitVec 4 × Bool} (h : scalarCmp s i = some r) :
    exec i s = issue s ((me s).guard r.1) .ok (fun s =>
      s.result s.cur.u (.p r.2.1.toNat) (BitVec.setWidth 1024 (if r.2.2 then BitVec.allOnes 128 else 0#128)) (BitVec.allOnes 1024) 1 0) := by
  unfold scalarCmp at h
  split at h
  case h_1 => cases h; exact exec_of_compareOp exec_cmpEq rfl
  case h_2 => cases h; exact exec_of_compareOp exec_cmpNe rfl
  case h_3 => cases h; exact exec_of_compareOp exec_cmpLt rfl
  case h_4 => cases h; exact exec_of_compareOp exec_cmpGe rfl
  case h_5 => cases h; exact exec_of_compareOp exec_cmpLtu rfl
  case h_6 => cases h; exact exec_of_compareOp exec_cmpGeu rfl
  case h_7 => cases h; exact exec_of_compareOp exec_cmpFeq (f32Rel_eq _ _ _)
  case h_8 => cases h; exact exec_of_compareOp exec_cmpFlt (f32Rel_eq _ _ _)
  case h_9 => cases h; exact exec_of_compareOp exec_cmpFle (f32Rel_eq _ _ _)
  case h_10 => cases h; exact exec_of_compareOp exec_cmpFun (f32Rel_eq _ _ _)
  case h_11 => cases h

/-- The low 32 bits of a g register as arithmetic on the register. -/
theorem fg_eq (s : State) (n : BitVec 6) : (me s).fg n = (gr s n).toNat % 2 ^ 32 := fld_low _ _

/-- R356, R357: a float operation of the table is one slot that acts under its guard and checks its own flags against the mask. -/
theorem exec_scalarFp {r : BitVec 4 × BitVec 6 × Nat × Flags} (h : scalarFp s i = some r) :
    exec i s = issue s ((me s).guard r.1) (flagTrap (me s) r.2.2.2) (fun s =>
      s.result s.cur.u (.g r.2.1.toNat) (BitVec.ofNat 1024 r.2.2.1) (BitVec.allOnes 1024) 4 r.2.2.2.toBits) := by
  unfold scalarFp at h
  split at h
  case h_1 => cases h; exact exec_of_scalarFloat exec_fadd (by simp only [fg_eq])
  case h_2 => cases h; exact exec_of_scalarFloat exec_fmul (by simp only [fg_eq])
  case h_3 => cases h; exact exec_of_scalarFloat exec_fma (by simp only [fg_eq])
  case h_4 => cases h; exact exec_of_scalarFloat exec_fcvtToF32 (by simp only [fld_low, gr])
  case h_5 => cases h; exact exec_of_scalarFloat exec_fcvtFromF32 (by simp only [fg_eq])
  case h_6 => cases h; exact exec_of_scalarFloat exec_minF32 (by simp only [fg_eq])
  case h_7 => cases h; exact exec_of_scalarFloat exec_maxF32 (by simp only [fg_eq])
  case h_8 => cases h

/-- R358: a predicate operation of the table is one slot that acts under its guard and checks nothing. -/
theorem exec_scalarPred {r : BitVec 4 × BitVec 4 × PReg} (h : scalarPred s i = some r) :
    exec i s = issue s ((me s).guard r.1) .ok (fun s => s.result s.cur.u (.p r.2.1.toNat) (r.2.2.setWidth 1024) (BitVec.allOnes 1024) 1 0) := by
  unfold scalarPred at h
  split at h
  case h_1 => cases h; exact exec_of_predOp exec_pand rfl
  case h_2 => cases h; exact exec_of_predOp exec_por rfl
  case h_3 => cases h; exact exec_of_predOp exec_pxor rfl
  case h_4 => cases h; exact exec_of_predOp exec_pnot rfl
  case h_5 => cases h

end

/-! ### Float relations of special values (R353) -/

theorem FV.eq_nan_left (x : FV) : FV.eq .nan x = false := rfl
theorem FV.eq_nan_right (x : FV) : FV.eq x .nan = false := by cases x <;> rfl
theorem FV.lt_nan_left (x : FV) : FV.lt .nan x = false := rfl
theorem FV.lt_nan_right (x : FV) : FV.lt x .nan = false := by cases x <;> rfl

/-! ### Selects and moves (R354, R355, R359) -/

section

variable {s : State} {p : BitVec 4} {d a b : BitVec 6}

theorem exec_sel : exec (.sel p d a b) s = issue s true .ok (fun s =>
    s.result64 s.cur.u (.g d.toNat) (if (me s).guard p then gr s a else gr s b) 1) := rfl

theorem exec_liw {ext : BitVec 2} {imm : BitVec 48} : exec (.liw ext d imm) s = issue s true .ok (fun s => s.result64 s.cur.u (.g d.toNat)
    (if ext = 0#2 then imm.signExtend 64 else if ext = 1#2 then imm.setWidth 64 else imm.setWidth 64 <<< 16) 1) := rfl

theorem exec_movToA {an : BitVec 4} : exec (.movToA p an a) s =
    issue s ((me s).guard p) .ok (fun s => s.result64 s.cur.u (.a an.toNat) (gr s a) 1) := rfl

theorem exec_movFromQ {q : BitVec 3} : exec (.movFromQ p d q) s = issue s ((me s).guard p) (streamCheck s q.toNat) (fun s =>
    (s.result64 s.cur.u (.g d.toNat) (BitVec.ofNat 64 (s.headValue q.toNat 64)) 1).popAtEnd q.toNat) := rfl

/-- The check of a WRSR: on a tile no SWZM register takes an entry 7 (R126). -/
def wrsrCheck (s : State) (sr : BitVec 6) (v : W64) : Verdict :=
  reservedIf (!unitIsCore s.cur.u && decide (0x0C ≤ sr.toNat ∧ sr.toNat ≤ 0x0F) && !swzmOk v)

theorem exec_wrsr {sr : BitVec 6} : exec (.wrsr p sr a) s =
    issue s ((me s).guard p) (wrsrCheck s sr (gr s a)) (fun s => s.result64 s.cur.u (.sr sr.toNat) (gr s a) 1) := rfl

theorem wrsrCheck_of_core {sr : BitVec 6} {v : W64} (h : unitIsCore s.cur.u = true) : wrsrCheck s sr v = .ok := by
  simp [wrsrCheck, reservedIf, h]

theorem wrsrCheck_of_not_swzm {sr : BitVec 6} {v : W64} (h : sr.toNat < 0x0C ∨ 0x0F < sr.toNat) : wrsrCheck s sr v = .ok := by
  have hout : ¬ (0x0C ≤ sr.toNat ∧ sr.toNat ≤ 0x0F) := by omega
  simp [wrsrCheck, reservedIf, hout]

theorem wrsrCheck_of_swzmOk {sr : BitVec 6} {v : W64} (h : swzmOk v = true) : wrsrCheck s sr v = .ok := by
  simp [wrsrCheck, reservedIf, h]

/-! ### A guard that is false (R338) -/

/-- Every operation of the tables, and every guarded move, does nothing where its guard is false. -/
theorem exec_scalarGuard_off {i : Instr} (h : scalarGuard s i = some p) (hp : (me s).guard p = false) : exec i s = .next s := by
  unfold scalarGuard at h
  cases hI : scalarInt s i
  case some r =>
    simp only [hI] at h
    cases h
    rw [exec_scalarInt hI, hp, issue_off]
  cases hC : scalarCmp s i
  case some r =>
    simp only [hI, hC] at h
    cases h
    rw [exec_scalarCmp hC, hp, issue_off]
  cases hD : scalarDiv s i
  case some r =>
    simp only [hI, hC, hD] at h
    cases h
    rw [exec_scalarDiv hD, hp, issue_off]
  cases hF : scalarFp s i
  case some r =>
    simp only [hI, hC, hD, hF] at h
    cases h
    rw [exec_scalarFp hF, hp, issue_off]
  cases hP : scalarPred s i
  case some r =>
    simp only [hI, hC, hD, hF, hP] at h
    cases h
    rw [exec_scalarPred hP, hp, issue_off]
  simp only [hI, hC, hD, hF, hP] at h
  split at h
  case h_1 => cases h; rw [exec_movToA, hp, issue_off]
  case h_2 => cases h; rw [exec_movFromQ, hp, issue_off]
  case h_3 => cases h; rw [exec_wrsr, hp, issue_off]
  case h_4 => cases h

end

end Sys2Proof.Machine

open Sys2Proof Sys2Proof.Machine Sys2Proof.Claims in
/-- Settles O1: an integer operation of the table is one slot that checks nothing. -/
theorem scalarIntegerResults : Obligations.ScalarIntegerResults := by
  unfold Obligations.ScalarIntegerResults
  intro s i p d v lat hi hp
  rw [exec_scalarInt hi, hp, issue_go s _ _ (.inr rfl)]

open Sys2Proof Sys2Proof.Machine Sys2Proof.Claims in
/-- Settles O2: a compare of the table is one slot that checks nothing, and the float relations of the zeros and of a NaN are as R353 has them. -/
theorem compareResults : Obligations.CompareResults := by
  unfold Obligations.CompareResults
  refine ⟨fun s i p pd b hi hp => ?compare, rfl, rfl, rfl,
    fun x => ⟨FV.eq_nan_left x, FV.eq_nan_right x, FV.lt_nan_left x, FV.lt_nan_right x⟩⟩
  case compare => rw [exec_scalarCmp hi, hp, issue_go s _ _ (.inr rfl)]

open Sys2Proof Sys2Proof.Machine Sys2Proof.Claims in
/-- Settles O4: a float operation of the table is one slot whose only check is that of its own flags. -/
theorem scalarFloatResults : Obligations.ScalarFloatResults := by
  unfold Obligations.ScalarFloatResults
  intro s i p d r hi hp hclear
  rw [exec_scalarFp hi, hp, issue_go s _ _ hclear]

open Sys2Proof Sys2Proof.Machine Sys2Proof.Claims in
/-- Settles O5: each is one slot, of which WRSR and MOV from a stream alone have a check, and SEL and LIW no guard. -/
theorem predicatesSelectsAndMoves : Obligations.PredicatesSelectsAndMoves := by
  unfold Obligations.PredicatesSelectsAndMoves
  refine ⟨fun s i p d v hi hp => ?pred, fun s => ⟨fun p d a b => ?sel, fun d imm => ?liw0, fun d imm => ?liw1, fun d imm => ?liw2,
    fun p an a hp => ?movToA, fun p sr a hp hgo => ?wrsr, fun p d q hp hclear => ?movFromQ⟩⟩
  case pred => rw [exec_scalarPred hi, hp, issue_go s _ _ (.inr rfl)]
  case sel => exact exec_sel.trans (issue_go s _ _ (.inr rfl))
  case liw0 | liw1 | liw2 => exact exec_liw.trans (issue_go s _ _ (.inr rfl))
  case movToA => rw [exec_movToA, hp, issue_go s _ _ (.inr rfl)]
  case wrsr =>
    have hclear : s.cur.checked = true ∨ wrsrCheck s sr (gr s a) = .ok := by
      rcases hgo with hc | hcore | hlow | hhigh | hswz
      · exact .inl hc
      · exact .inr (wrsrCheck_of_core hcore)
      · exact .inr (wrsrCheck_of_not_swzm (.inl hlow))
      · exact .inr (wrsrCheck_of_not_swzm (.inr hhigh))
      · exact .inr (wrsrCheck_of_swzmOk hswz)
    rw [exec_wrsr, hp, issue_go s _ _ hclear]
  case movFromQ => rw [exec_movFromQ, hp, issue_go s _ _ hclear]

open Sys2Proof Sys2Proof.Machine Sys2Proof.Claims in
/-- Settles O6: every operation of the scalar tables is one slot under its guard. -/
theorem scalarGuardOff : Obligations.ScalarGuardOff := by
  unfold Obligations.ScalarGuardOff
  exact fun s i p hi hp => exec_scalarGuard_off hi hp

namespace Sys2Proof.Machine

open Sys2Proof.Claims

/-! ## The control slot: NOP, END and the waits (R345-R350, R471) -/

section

variable {s : State} {p : BitVec 4}

theorem exec_nop : exec (.nop p) s = .next s := rfl

theorem exec_endTask : exec (.endTask p) s = issue s ((me s).guard p) .ok (fun q =>
    match q.cur.u with
    | .ctx t c => q.modCtx t c (fun y => { y with ending := true })
    | .core _ => q) := rfl

theorem exec_endTask_of_ctx {t c : Nat} (hu : s.cur.u = .ctx t c) :
    exec (.endTask p) s = issue s ((me s).guard p) .ok (fun q => q.modCtx t c (fun y => { y with ending := true })) := by
  refine exec_endTask.trans (issue_congr ?_ _ _)
  simp only [hu]

theorem exec_endLoop : exec (.endLoop p) s =
    issue s ((me s).guard p) .ok (fun q => q.modThread q.cur.u (fun x => x.leaveLoop q.cur.pc)) := rfl

/-- Of a change of a thread only what it makes of that thread counts. -/
theorem modThread_congr {u : UnitId} {f g : Thread → Thread} (h : f (s.thread u) = g (s.thread u)) : s.modThread u f = s.modThread u g :=
  congrArg (s.setThread u) h

/-! ### The levels that END.loop leaves (R345) -/

variable {x : Thread} {l : LoopLevel}

theorem leaveLoop_of_loop1 (h : x.loop1 = some l) (pc : Nat) : x.leaveLoop pc =
    { x with loop1 := none, branch := if l.stop = pc then some { target := 0, taken := false, left := 3 } else x.branch } := by
  have hin : x.innermost none = some (1, l) := by
    cases h0 : x.loop0 <;> simp [Thread.innermost, h, h0]
  by_cases hend : l.stop = pc <;> simp [Thread.leaveLoop, hin, hend]

theorem leaveLoop_of_loop0 (h1 : x.loop1 = none) (h0 : x.loop0 = some l) (pc : Nat) : x.leaveLoop pc =
    { x with loop0 := none, branch := if l.stop = pc then some { target := 0, taken := false, left := 3 } else x.branch } := by
  have hin : x.innermost none = some (0, l) := by simp [Thread.innermost, h1, h0]
  by_cases hend : l.stop = pc <;> simp [Thread.leaveLoop, hin, hend]

theorem leaveLoop_of_none (h1 : x.loop1 = none) (h0 : x.loop0 = none) (pc : Nat) : x.leaveLoop pc = x := by
  simp only [Thread.leaveLoop, Thread.innermost, h1, h0]

/-! ### WAITH (R349) -/

theorem exec_waith {h : BitVec 5} {cond : BitVec 6} : exec (.waith p h cond) s = issue s ((me s).guard p) (waithCheck s h cond) (fun q => q) := rfl

/-- A condition that the handle meets passes once no command of the context on it is queued (R471). -/
theorem waithCheck_of_meets {h : BitVec 5} {cond : BitVec 6} (hm : handleMeets ((s.tile (unitTile s.cur.u)).handle h.toNat) cond.toNat)
    (hq : (s.ctx (unitTile s.cur.u) (unitCtx s.cur.u)).hqNames ((s.tile (unitTile s.cur.u)).handle h.toNat).inst = false) :
    waithCheck s h cond = .ok := by
  rcases hm with ⟨hc, hk, hs⟩ | ⟨hc, hk, hs⟩ | ⟨hc, hk, hs, hb⟩ | ⟨hc, hr, hw, hwr, hrr⟩ | ⟨hlo, -, hk, hn⟩
  · simp [waithCheck, hc, hk, hs, hq]
  · simp [waithCheck, hc, hk, hs, hq]
  · simp [waithCheck, hc, hk, hs, hb, hq]
  · simp [waithCheck, hc, hr, hw, hwr, hrr, hq]
  · have h3 : cond.toNat ≠ 3 := by omega
    have hge : ¬ cond.toNat < 3 := by omega
    have hn' : cond.toNat - 0x1F ≤ _ := hn
    simp [waithCheck, h3, hge, hk, hn', hq]

/-- A condition of a block on a ring, or of a ring on a block, faults. -/
theorem waithCheck_of_other_kind {h : BitVec 5} {cond : BitVec 6}
    (hk : cond.toNat < 3 ∧ ((s.tile (unitTile s.cur.u)).handle h.toNat).kind ≠ 1#2 ∨
      32 ≤ cond.toNat ∧ ((s.tile (unitTile s.cur.u)).handle h.toNat).kind ≠ 2#2) : waithCheck s h cond = .fault 0x27#7 0 := by
  rcases hk with ⟨hc, hk⟩ | ⟨hc, hk⟩
  · have h3 : cond.toNat ≠ 3 := by omega
    simp [waithCheck, h3, hc, hk]
  · have h3 : cond.toNat ≠ 3 := by omega
    have hge : ¬ cond.toNat < 3 := by omega
    simp [waithCheck, h3, hge, hk]

/-! ### WAITB (R350) -/

theorem exec_waitb {g : BitVec 6} : exec (.waitb p g) s = issue s ((me s).guard p) (waitbCheck s g) (fun q => q) := rfl

/-- The scratchpad address of the barrier word that a register names. -/
def waitbAddr (v : W64) : Nat := v.toNat / 8 % 2 ^ 17 * 8

/-- The phase of the barrier word at a (R350). -/
def phaseAt (s : State) (a : Nat) : Bool := decide ((s.tile (unitTile s.cur.u)).padNat a 8 / 2 ^ 56 % 2 = 1)

/-- Commands of the context on the word at a are still queued (R471). -/
def wordQueued (s : State) (a : Nat) : Bool := (s.ctx (unitTile s.cur.u) (unitCtx s.cur.u)).hq.any (HCmd.onWord (unitTile s.cur.u) a)

/-- WAITB's check in the words of R350. -/
theorem waitbCheck_eq (s : State) (g : BitVec 6) : waitbCheck s g =
    ((faultIf (decide ((gr s g).toNat / 2 % 4 ≠ 0)) 0x24#7).both (faultIf (decide (2 ^ 20 ≤ (gr s g).toNat)) 0x29#7)).andThen
      (if phaseAt s (waitbAddr (gr s g)) = (gr s g).getLsbD 0 ∨ wordQueued s (waitbAddr (gr s g)) = true then .held .waitb else .ok) := by
  have hhigh : (fld (gr s g) 20 44 ≠ 0) = (2 ^ 20 ≤ (gr s g).toNat) := by
    have hlt := (gr s g).isLt
    rw [fld_eq, eq_iff_iff]
    omega
  have hlow : fld (gr s g) 1 2 = (gr s g).toNat / 2 % 4 := fld_eq _ 1 2
  have haddr : fld (gr s g) 3 17 * 8 = waitbAddr (gr s g) := congrArg (· * 8) (fld_eq _ 3 17)
  have hphase : ∀ a, bit ((s.tile (unitTile s.cur.u)).padNat a 8) 56 = phaseAt s a := fun a => by
    rw [bit, bits, Nat.shiftRight_eq_div_pow]
    rfl
  have hunfold : waitbCheck s g = ((faultIf (decide (fld (gr s g) 1 2 ≠ 0)) 0x24#7).both (faultIf (decide (fld (gr s g) 20 44 ≠ 0)) 0x29#7)).andThen
      (if bit ((s.tile (unitTile s.cur.u)).padNat (fld (gr s g) 3 17 * 8) 8) 56 = (gr s g).getLsbD 0 ∨
        wordQueued s (fld (gr s g) 3 17 * 8) = true then .held .waitb else .ok) := rfl
  simp only [hunfold, hphase, haddr, hlow, hhigh]

variable {g : BitVec 6}

theorem waitbCheck_of_misaligned (h : (gr s g).toNat / 2 % 4 ≠ 0) : waitbCheck s g = .fault 0x24#7 0 := by
  rw [waitbCheck_eq, decide_eq_true h, faultIf_true]
  cases decide (2 ^ 20 ≤ (gr s g).toNat) <;> rfl

theorem waitbCheck_of_out_of_range (h : (gr s g).toNat / 2 % 4 = 0) (hr : 2 ^ 20 ≤ (gr s g).toNat) : waitbCheck s g = .fault 0x29#7 0 := by
  rw [waitbCheck_eq, decide_eq_true hr, decide_eq_false (not_not_intro h)]
  rfl

/-- A word that may be looked at: the wait is all that is left of the check. -/
theorem waitbCheck_of_word (h : (gr s g).toNat / 2 % 4 = 0) (hr : (gr s g).toNat < 2 ^ 20) : waitbCheck s g =
    if phaseAt s (waitbAddr (gr s g)) = (gr s g).getLsbD 0 ∨ wordQueued s (waitbAddr (gr s g)) = true then .held .waitb else .ok := by
  rw [waitbCheck_eq, decide_eq_false (Nat.not_le.mpr hr), decide_eq_false (not_not_intro h)]
  rfl

end

end Sys2Proof.Machine

open Sys2Proof Sys2Proof.Machine Sys2Proof.Claims in
/-- Settles O17: each is one slot under its guard; END.loop leaves the innermost level, and the checks of the waits come to one verdict in each clause. -/
theorem endAndWaitResults : Obligations.EndAndWaitResults := by
  unfold Obligations.EndAndWaitResults
  refine ⟨fun s p => ⟨exec_nop, fun hp => ⟨?endOff, ?loopOff⟩, fun t c hp hu => ?endTask, fun l hp h1 => ?level1, fun l hp h1 h0 => ?level0,
    fun hp h1 h0 => ?noLevel⟩, fun s p => ⟨fun h cond e he => ?waith, fun g v a hv ha => ?waitb⟩⟩
  case endOff => rw [exec_endTask, hp, issue_off]
  case loopOff => rw [exec_endLoop, hp, issue_off]
  case endTask => rw [exec_endTask_of_ctx hu, hp, issue_go s _ _ (.inr rfl)]
  case level1 =>
    rw [exec_endLoop, hp, issue_go s _ _ (.inr rfl)]
    exact congrArg _ (modThread_congr (leaveLoop_of_loop1 h1 _))
  case level0 =>
    rw [exec_endLoop, hp, issue_go s _ _ (.inr rfl)]
    exact congrArg _ (modThread_congr (leaveLoop_of_loop0 h1 h0 _))
  case noLevel =>
    rw [exec_endLoop, hp, issue_go s _ _ (.inr rfl)]
    exact ⟨_, rfl, (thread_modThread s s.cur.u _).trans (leaveLoop_of_none h1 h0 _)⟩
  case waith =>
    subst he
    refine ⟨fun hp => ?_, fun hp hm hq => ?_, fun hp hc hk => ?_⟩
    · rw [exec_waith, hp, issue_off]
    · rw [exec_waith, hp, issue_go s _ _ (.inr (waithCheck_of_meets hm hq))]
    · rw [exec_waith, hp, waithCheck_of_other_kind hk]
      exact issue_refuse s _ _ hc Verdict.noConfusion Verdict.noConfusion
  case waitb =>
    subst hv ha
    refine ⟨fun hp => ?off, fun hp hr hal hph hq => ?passes, fun hp hc hal => ?misaligned, fun hp hc hal hr => ?range, fun hp hc hr hal hph => ?holds⟩
    case off => rw [exec_waitb, hp, issue_off]
    case passes =>
      have hopen : ¬ (phaseAt s (waitbAddr (gr s g)) = (gr s g).getLsbD 0 ∨ wordQueued s (waitbAddr (gr s g)) = true) :=
        not_or_intro hph (Bool.eq_false_iff.mp hq)
      rw [exec_waitb, hp, issue_go s _ _ (.inr ((waitbCheck_of_word hal hr).trans (if_neg hopen)))]
    case misaligned =>
      rw [exec_waitb, hp, waitbCheck_of_misaligned hal]
      exact issue_refuse s _ _ hc Verdict.noConfusion Verdict.noConfusion
    case range =>
      rw [exec_waitb, hp, waitbCheck_of_out_of_range hal hr]
      exact issue_refuse s _ _ hc Verdict.noConfusion Verdict.noConfusion
    case holds =>
      rw [exec_waitb, hp, waitbCheck_of_word hal hr, if_pos (.inl hph)]
      exact issue_refuse s _ _ hc Verdict.noConfusion Verdict.noConfusion

namespace Sys2Proof.Machine

open Sys2Proof.Claims

/-! ## TRAP, SYSC and ERET (R347, R387, R388) -/

section

variable {s : State}

theorem exec_trap {p : BitVec 4} {n : BitVec 3} :
    exec (.trap p n) s = issue s ((me s).guard p) .ok (fun q => q.trapAfter (0x18#7 + n.setWidth 7) 1 0) := rfl

theorem exec_sysc {n : BitVec 6} : exec (.sysc n) s = issue s true .ok (fun q => q.trapAfter 0x69#7 0 (n.setWidth 64)) := rfl

theorem exec_eret : exec .eret s = execEret s := rfl

/-- A bundle that has not ended ends, and the exception names the bundle after it. -/
theorem trapAfter_of_running (h : s.cur.finished = false) (c : Cause) (slots : Nat) (faddr : W64) : s.trapAfter c slots faddr =
    s.finish.takeException s.cur.u { cause := c, slots := slots, faddr := faddr, pc := (s.finish.thread s.cur.u).pc, engine := none,
                                     through := s.finish.throughAt s.cur.u (s.finish.thread s.cur.u).pc } := by
  simp only [State.trapAfter, h, Bool.false_eq_true, if_false]

theorem trapAfter_of_finished (h : s.cur.finished = true) (c : Cause) (slots : Nat) (faddr : W64) : s.trapAfter c slots faddr = s := by
  simp only [State.trapAfter, h, if_true]

theorem exec_eret_of_running {k : Nat} (hu : s.cur.u = .core k) (h : s.cur.finished = false) : exec .eret s = .next (s.finish.trapReturn k) := by
  rw [exec_eret, execEret, issue_go s _ _ (.inr rfl)]
  simp only [hu, h, Bool.false_eq_true, if_false]

theorem exec_eret_of_finished (h : s.cur.finished = true) : exec .eret s = .next s := by
  rw [exec_eret, execEret, issue_go s _ _ (.inr rfl)]
  simp only [h, if_true]

end

end Sys2Proof.Machine

open Sys2Proof Sys2Proof.Machine Sys2Proof.Claims in
/-- Settles O21: each is one slot that checks nothing, and its effect looks first whether the bundle has already ended. -/
theorem trapAndReturnInstructions : Obligations.TrapAndReturnInstructions := by
  unfold Obligations.TrapAndReturnInstructions
  refine fun s => ⟨fun p n hp hf => ?trap, fun p n hp => ?trapOff, fun n hf => ?sysc, fun k hu hf => exec_eret_of_running hu hf,
    fun p n m hf => ⟨?trapEnded, ?syscEnded, exec_eret_of_finished hf⟩⟩
  case trap => rw [exec_trap, hp, issue_go s _ _ (.inr rfl), trapAfter_of_running hf]
  case trapOff => rw [exec_trap, hp, issue_off]
  case sysc => rw [exec_sysc, issue_go s _ _ (.inr rfl), trapAfter_of_running hf]
  case trapEnded =>
    cases hp : (me s).guard p
    case false => rw [exec_trap, hp, issue_off]
    case true => rw [exec_trap, hp, issue_go s _ _ (.inr rfl), trapAfter_of_finished hf]
  case syscEnded => rw [exec_sysc, issue_go s _ _ (.inr rfl), trapAfter_of_finished hf]

namespace Sys2Proof.Machine

open Sys2Proof.Claims

/-! ## The address slot (R360, R361) -/

section

variable {s : State} {i : Instr} {k am src ad gs : BitVec 4}

theorem exec_ali : exec (.ali k gs ad) s = issue s true .ok (fun q => q.result64 q.cur.u (.a ad.toNat) ((me q).rg gs.toNat + k.signExtend 64) 1) := rfl
theorem exec_amset : exec (.amset am gs) s = issue s true .ok (fun q => q.result64 q.cur.u (.am am.toNat) ((me q).rg gs.toNat) 1) := rfl
theorem exec_aadd : exec (.aadd k am src ad) s = execAadd k am src ad s := rfl
theorem exec_amod : exec (.amod k am src ad) s = execAmod k am src ad s := rfl
theorem exec_abrv : exec (.abrv k am src ad) s = execAbrv k am src ad s := rfl
theorem exec_acir : exec (.acir k am src ad) s = execAcir k am src ad s := rfl

/-- An update of the shape agOp never faults, and delivers the value its function has of the two registers. -/
theorem exec_of_agOp {f : W64 → W64 → W64} {v : W64} (hi : exec i s = agOp ad src am f s)
    (hv : f ((me s).ra src.toNat) ((me s).ram am.toNat) = v) : exec i s = .next (s.result64 s.cur.u (.a ad.toNat) v 1) := by
  subst hv
  exact hi.trans (issue_go s _ _ (.inr rfl))

/-- Two's complement reading of a bit vector. -/
theorem signed_toNat (x : BitVec 16) : signed 16 x.toNat = x.toInt := by
  have hx := x.isLt
  rw [BitVec.toInt_eq_toNat_cond, signed, Nat.mod_eq_of_lt hx]
  split <;> split <;> omega

theorem amStep_eq (m : W64) : amStep m = stepOf m := signed_toNat (m.extractLsb' 48 16)

theorem amLength_eq (m : W64) : amLength m = lengthOf m := fld_eq m 28 20

theorem amBase_eq (m : W64) : amBase m = baseOf m := fld_eq m 8 20

theorem agDelta_eq (k : BitVec 4) (m : W64) : agDelta k m = deltaOf k m := by rw [agDelta, amStep_eq, deltaOf]

/-- The floor residue is 0 where the length is (R360). -/
theorem ofNat_floorMod (x : Int) (n : Nat) : BitVec.ofNat 64 (floorMod x n) = if n = 0 then 0 else BitVec.ofNat 64 (x % (n : Int)).toNat := by
  rw [floorMod]
  split <;> rfl

theorem ofNat_add_floorMod (b : Nat) (x : Int) (n : Nat) :
    BitVec.ofNat 64 (b + floorMod x n) = if n = 0 then BitVec.ofNat 64 b else BitVec.ofNat 64 (b + (x % (n : Int)).toNat) := by
  rw [floorMod]
  split <;> rfl

/-- R360: what an operation of the address table delivers. -/
theorem exec_addressResult {r : Dest × W64} (h : addressResult s i = some r) : exec i s = .next (s.result64 s.cur.u r.1 r.2 1) := by
  unfold addressResult at h
  split at h
  case h_1 => cases h; exact exec_ali.trans (issue_go s _ _ (.inr rfl))
  case h_2 => cases h; exact exec_of_agOp exec_aadd (by rw [agDelta_eq])
  case h_3 =>
    cases h
    refine exec_of_agOp exec_amod ?_
    rw [ofNat_floorMod, agDelta_eq, amLength_eq]
  case h_4 => cases h; exact exec_of_agOp exec_abrv rfl
  case h_5 =>
    cases h
    refine exec_of_agOp exec_acir ?_
    rw [ofNat_add_floorMod, agDelta_eq, amLength_eq, amBase_eq]
  case h_6 => cases h; exact exec_amset.trans (issue_go s _ _ (.inr rfl))
  case h_7 => cases h

/-- A bit-reversed update depends on the three fields of the address mode register alone. -/
theorem brv_congr {m m' : W64} (hs : stepOf m = stepOf m') (hl : lengthOf m = lengthOf m') (hb : baseOf m = baseOf m') (x : W64) (j : Int) :
    brv x m j = brv x m' j := by
  simp only [brv, amStep_eq, amLength_eq, amBase_eq, hs, hl, hb]

/-- The address mode register of the walk that R361 works out: BASE 0x100, LENGTH 64 and STEP 8. -/
def walkMode : W64 := BitVec.ofNat 64 (8 <<< 48 + 64 <<< 28 + 0x100 <<< 8)

end

end Sys2Proof.Machine

open Sys2Proof Sys2Proof.Machine Sys2Proof.Claims in
/-- Settles O23: each AG operation is one slot with no guard and no check, and the walk is evaluated for one register that has the three fields. -/
theorem addressResults : Obligations.AddressResults := by
  unfold Obligations.AddressResults
  refine ⟨fun s i d v hi => exec_addressResult hi, fun m hs hl hb => ?walk⟩
  case walk =>
    simp only [brv_congr (m' := walkMode) hs hl hb]
    decide +kernel

namespace Sys2Proof.Machine

open Sys2Proof.Claims

/-! ## Vector elements (R391-R393) -/

/-! ### Numbers cut into elements and joined from them -/

section

variable {z : Nat}

theorem el_zero (x : Nat) : el z x 0 = x % 2 ^ z := by rw [el, Nat.mul_zero, Nat.pow_zero, Nat.div_one]

theorem el_succ (x e : Nat) : el z x (e + 1) = el z (x / 2 ^ z) e := by
  rw [el, el, Nat.div_div_eq_div_mul, ← Nat.pow_add, Nat.mul_succ, Nat.add_comm]

/-- The elements of a number, in their order. -/
theorem splitElems_eq (z : Nat) : ∀ n x, splitElems z n x = (List.range n).map (el z x)
  | 0, _ => rfl
  | n + 1, x => by
    rw [splitElems, splitElems_eq z n, List.range_succ_eq_map, List.map_cons, List.map_map, el_zero]
    exact congrArg _ (List.map_congr_left fun e _ => (el_succ x e).symm)

theorem velems_eq (wid : BitVec 2) (z x : Nat) : velems wid z x = (List.range (widBits wid / z)).map (el z x) := splitElems_eq z _ x

/-- Bit j of joined elements is bit j mod z of element j / z. -/
theorem testBit_joinElems (hz : 0 < z) : ∀ (l : List Nat) (j : Nat), (joinElems z l).testBit j = (l.getD (j / z) 0).testBit (j % z)
  | [], j => by simp [joinElems]
  | x :: t, j => by
    rw [joinElems, Nat.add_comm, Nat.testBit_two_pow_mul_add _ (Nat.mod_lt _ (Nat.two_pow_pos z))]
    split
    next h => rw [Nat.testBit_mod_two_pow, Nat.div_eq_of_lt h, Nat.mod_eq_of_lt h]; simp [h]
    next h =>
      have hj : j = (j - z) + z := by omega
      rw [testBit_joinElems hz t, hj, Nat.add_div_right _ hz, Nat.add_mod_right, Nat.add_sub_cancel]
      rfl

theorem testBit_el (x e i : Nat) : (el z x e).testBit i = (decide (i < z) && x.testBit (z * e + i)) := by
  rw [el, Nat.testBit_mod_two_pow, Nat.testBit_div_two_pow, Nat.add_comm]

theorem el_joinElems (hz : 0 < z) (l : List Nat) (e : Nat) : el z (joinElems z l) e = l.getD e 0 % 2 ^ z := by
  apply Nat.eq_of_testBit_eq
  intro i
  rw [testBit_el, Nat.testBit_mod_two_pow]
  by_cases hi : i < z
  · rw [testBit_joinElems hz, Nat.mul_add_div hz, Nat.mul_add_mod, Nat.div_eq_of_lt hi, Nat.mod_eq_of_lt hi, Nat.add_zero]
  · simp [hi]

/-- The mask of active elements is those elements joined, each all ones where active, at the first bit. -/
theorem maskOf_eq (z : Nat) : ∀ (l : List Bool) (o : Nat), maskOf o z l = 2 ^ o * joinElems z (l.map fun b => if b then 2 ^ z - 1 else 0)
  | [], o => rfl
  | b :: t, o => by
    have hlt : 2 ^ z - 1 < 2 ^ z := Nat.sub_lt (Nat.two_pow_pos z) Nat.one_pos
    rw [maskOf, maskOf_eq z t, List.map_cons, joinElems, Nat.mul_add, ← Nat.mul_assoc, ← Nat.pow_add]
    cases b
    · simp
    · simp [onesAt, Nat.shiftLeft_eq, Nat.mod_eq_of_lt hlt, Nat.mul_comm]

theorem testBit_ones_ite {b : Bool} {i : Nat} (hi : i < z) : (if b then 2 ^ z - 1 else 0).testBit i = b := by
  cases b
  · simp
  · simp [Nat.testBit_two_pow_sub_one, hi]

/-- Bit j of a mask: the activity of the element that it belongs to. -/
theorem testBit_maskOf (hz : 0 < z) (o : Nat) (l : List Bool) (j : Nat) :
    (maskOf o z l).testBit j = (decide (o ≤ j ∧ j < o + l.length * z) && l.getD ((j - o) / z) false) := by
  rw [maskOf_eq, Nat.testBit_two_pow_mul, testBit_joinElems hz]
  by_cases ho : o ≤ j
  case neg => simp [ho]
  case pos =>
    have hlt : (j - o) / z < l.length ↔ j < o + l.length * z := by rw [Nat.div_lt_iff_lt_mul hz]; omega
    by_cases hl : (j - o) / z < l.length
    · rw [List.getD_eq_getElem _ _ (by simpa using hl), List.getD_eq_getElem _ _ hl, List.getElem_map, testBit_ones_ite (Nat.mod_lt _ hz)]
      simp [ho, hlt.mp hl]
    · rw [List.getD_eq_default _ _ (by simpa using hl), List.getD_eq_default _ _ (by simpa using hl)]
      simp

theorem any_map_range_of_on {n e : Nat} {g : Nat → Bool} (he : e < n) (h : g e = true) : ((List.range n).map g).any id = true :=
  List.any_eq_true.mpr ⟨true, List.mem_map.mpr ⟨e, List.mem_range.mpr he, h⟩, rfl⟩

theorem any_map_range_of_off {n : Nat} {g : Nat → Bool} (h : ∀ e < n, g e = false) : ((List.range n).map g).any id = false := by
  rw [List.any_eq_false]
  intro b hb
  obtain ⟨e, he, rfl⟩ := List.mem_map.mp hb
  simp [h e (List.mem_range.mp he)]

end

/-! ### Register parts -/

section

variable (wid : BitVec 2) (f : BitVec 6)

theorem partOf_w : (partOf wid f).w = widBits wid := by
  unfold partOf widBits
  split
  · rfl
  · split <;> rfl

/-- A part ends within its register. -/
theorem partOf_fits : (partOf wid f).off + widBits wid ≤ 1024 := by
  have hf := f.isLt
  unfold partOf widBits
  split
  · simp only; omega
  · split <;> simp only <;> omega

theorem nth_eq_getD {α : Type} (d : α) : ∀ (l : List α) (i : Nat), nth d l i = l.getD i d
  | [], _ => rfl
  | _ :: _, 0 => rfl
  | _ :: t, i + 1 => nth_eq_getD d t i

theorem tyBits_pos (t : Nat) : 0 < tyBits t := by
  rw [tyBits, nth_eq_getD]
  by_cases h : t < 15
  case pos => exact (by decide : ∀ k < 15, 0 < [32, 16, 16, 8, 8, 4, 8, 16, 32, 64, 8, 16, 32, 64, 2].getD k 32) t h
  case neg => rw [List.getD_eq_default _ _ (Nat.not_lt.mp h)]; decide

/-- Of a value placed at a part, the elements that fit in the register read back. -/
theorem el_atPart {z n x e : Nat} (d : Part) (h : d.off + n * z ≤ 1024) (he : e < n) : el z ((atPart d x).toNat / 2 ^ d.off) e = el z x e := by
  have hfit : z * e + z ≤ 1024 - d.off := by
    have hle : (e + 1) * z ≤ n * z := Nat.mul_le_mul_right z he
    have hmul : (e + 1) * z = z * e + z := by ring
    omega
  apply Nat.eq_of_testBit_eq
  intro i
  rw [testBit_el, testBit_el]
  by_cases hi : i < z
  · have hlt : z * e + i + d.off < 1024 := by omega
    rw [Nat.testBit_div_two_pow, BitVec.testBit_toNat, atPart, BitVec.getLsbD_ofNat, Nat.testBit_mul_two_pow]
    simp [hi, hlt]
  · simp [hi]

end

/-! ### What a vector operation of a form does (R392, R393) -/

section

variable {s : State} {i : Instr} {f : VForm}

/-- The active elements of a form, as Booleans. -/
def formActs (s : State) (f : VForm) : List Bool := (List.range f.n).map (f.on s)

/-- The elements of a form, each with its flags. -/
def formElems (f : VForm) : List (Nat × Flags) := (List.range f.n).map f.elem

theorem activeList_eq_formActs : (me s).activeList f.p (partOf f.wid f.vd) f.z f.n = formActs s f := rfl

theorem activeFlags_eq_flags : activeFlags (formActs s f) (formElems f) = f.flags s := by
  rw [formActs, formElems, VForm.flags]
  induction List.range f.n with
  | nil => rfl
  | cons e t ih => rw [List.map_cons, List.map_cons, activeFlags, ih, List.foldr_cons]

/-- The issue of a form. -/
def formIssue (s : State) (f : VForm) : Result :=
  issue s ((formActs s f).any id) (((srcCheck s f.v).both f.pre).andThen (flagTrap (me s) (f.flags s))) (fun s' =>
    (s'.result s'.cur.u (.v (partOf f.wid f.vd).reg) (atPart (partOf f.wid f.vd) (joinElems f.z ((formElems f).map Prod.fst)))
      (BitVec.ofNat 1024 (maskOf (partOf f.wid f.vd).off f.z (formActs s f))) f.lat (f.flags s).toBits).popSrc f.v)

/-- An operation whose outcome is a form's elements issues as the form. -/
theorem vecIssue_eq_formIssue {pre : State → Verdict} {out : State → VOut} (hp : pre s = f.pre) (ho : out s = { z := f.z, elems := formElems f }) :
    vecIssue f.p (partOf f.wid f.vd) f.v f.lat pre out s = formIssue s f := by
  have hn : (formElems f).length = f.n := by rw [formElems, List.length_map, List.length_range]
  rw [vecIssue, formIssue]
  simp only [ho, hn, hp, show s.thread s.cur.u = me s from rfl, activeList_eq_formActs, activeFlags_eq_flags]
  refine issue_congr ?_ _ _
  simp only [ho, hn, show s.thread s.cur.u = me s from rfl, activeList_eq_formActs, activeFlags_eq_flags]

/-- R392, R393: an operation that issues as its form does what the form says. -/
theorem does_of_formIssue (hz : 0 < f.z) (hw : f.n * f.z ≤ widBits f.wid) (hi : exec i s = formIssue s f) : f.Does s i := by
  have hfit : (partOf f.wid f.vd).off + f.n * f.z ≤ 1024 := (Nat.add_le_add_left hw _).trans (partOf_fits _ _)
  refine ⟨fun hoff => ?off, fun e he hon hclear => ?acts, fun c a hon hc hsrc hpre hflag => ?traps⟩
  case off => rw [hi, formIssue, show (formActs s f).any id = false from any_map_range_of_off hoff, issue_off]
  case acts =>
    rw [hi, formIssue, show (formActs s f).any id = true from any_map_range_of_on he hon, issue_go s _ _ hclear]
    refine ⟨_, _, rfl, fun e he _ => ?val, fun j hj => ?mask⟩
    case val =>
      rw [el_atPart _ hfit he, el_joinElems hz, List.getD_eq_getElem _ _ (by simpa [formElems] using he)]
      simp [formElems]
    case mask =>
      rw [BitVec.getLsbD_ofNat, testBit_maskOf hz]
      by_cases hin : (partOf f.wid f.vd).off ≤ j ∧ j < (partOf f.wid f.vd).off + f.n * f.z
      · have hlt : (j - (partOf f.wid f.vd).off) / f.z < f.n := by rw [Nat.div_lt_iff_lt_mul hz]; omega
        simp [formActs, hj, hin, hlt]
      · simp [formActs, hin]
  case traps =>
    obtain ⟨e, he, hone⟩ := hon
    rw [hi, formIssue, show (formActs s f).any id = true from any_map_range_of_on he hone, hsrc, hpre, hflag]
    exact issue_refuse s _ _ hc Verdict.noConfusion Verdict.noConfusion

variable {p ty : BitVec 4} {v : VSrc} {va vd : BitVec 6} {wid : BitVec 2} {lat : Nat}

theorem vec1_eq {g : Thread → Nat → Nat × Flags} : vec1 p v vd ty wid lat g s = formIssue s (form1 s p v vd ty wid lat (g (me s))) := by
  unfold vec1
  refine vecIssue_eq_formIssue (f := form1 s p v vd ty wid lat (g (me s))) rfl ?_
  simp only [velems_eq, List.map_map]
  rfl

theorem vec2_eq {g : Thread → Nat → Nat → Nat × Flags} :
    vec2 p v va vd ty wid lat g s = formIssue s (form2 s p v va vd ty wid lat (g (me s))) := by
  unfold vec2
  refine vecIssue_eq_formIssue (f := form2 s p v va vd ty wid lat (g (me s))) rfl ?_
  simp only [velems_eq, List.zipWith_map, List.zipWith_self]
  rfl

theorem vec3_eq {g : Thread → Nat → Nat → Nat → Nat × Flags} :
    vec3 p v va vd ty wid lat g s = formIssue s (form3 s p v va vd ty wid lat (g (me s))) := by
  unfold vec3
  refine vecIssue_eq_formIssue (f := form3 s p v va vd ty wid lat (g (me s))) rfl ?_
  simp only [velems_eq, List.zip, List.zipWith_map, List.zipWith_self]
  rfl

theorem count_fits (ty : BitVec 4) (wid : BitVec 2) : count ty wid * tyBits ty.toNat ≤ widBits wid := Nat.div_mul_le_self _ _

theorem does_form1 {g : Thread → Nat → Nat × Flags} {h : Nat → Nat × Flags} (hi : exec i s = vec1 p v vd ty wid lat g s) (hg : g (me s) = h) :
    (form1 s p v vd ty wid lat h).Does s i :=
  does_of_formIssue (tyBits_pos ty.toNat) (count_fits ty wid) (hi.trans (hg ▸ vec1_eq))

theorem does_special {n : Nat} (hi : exec i s = vecSpecial n p v vd ty wid s) :
    (form1 s p v vd ty wid 12 (elemSpecial ty (me s).rm n)).Does s i :=
  does_form1 (g := fun x => elemSpecial ty x.rm n) hi rfl

theorem does_form2 {g : Thread → Nat → Nat → Nat × Flags} {h : Nat → Nat → Nat × Flags} (hi : exec i s = vec2 p v va vd ty wid lat g s)
    (hg : g (me s) = h) : (form2 s p v va vd ty wid lat h).Does s i :=
  does_of_formIssue (tyBits_pos ty.toNat) (count_fits ty wid) (hi.trans (hg ▸ vec2_eq))

theorem does_form3 {g : Thread → Nat → Nat → Nat → Nat × Flags} {h : Nat → Nat → Nat → Nat × Flags}
    (hi : exec i s = vec3 p v va vd ty wid lat g s) (hg : g (me s) = h) : (form3 s p v va vd ty wid lat h).Does s i :=
  does_of_formIssue (tyBits_pos ty.toNat) (count_fits ty wid) (hi.trans (hg ▸ vec3_eq))

end

end Sys2Proof.Machine
namespace Sys2Proof.Machine

open Sys2Proof.Claims

/-! ### What each elementwise operation means (R394-R398, R405, R407, R411) -/

section

variable {s : State} {p ty : BitVec 4} {q : BitVec 3} {va vb vd : BitVec 6} {wid : BitVec 2} {inv : BitVec 1}

theorem exec_vadd : exec (.vadd p vb va vd ty wid) s = execVadd p vb va vd ty wid s := rfl
theorem exec_vaddStream : exec (.vaddStream p q va vd ty wid) s = execVaddStream p q va vd ty wid s := rfl
theorem exec_vsub : exec (.vsub p vb va vd ty wid) s = execVsub p vb va vd ty wid s := rfl
theorem exec_vsubStream : exec (.vsubStream p q va vd ty wid) s = execVsubStream p q va vd ty wid s := rfl
theorem exec_vmul : exec (.vmul p vb va vd ty wid) s = execVmul p vb va vd ty wid s := rfl
theorem exec_vmulStream : exec (.vmulStream p q va vd ty wid) s = execVmulStream p q va vd ty wid s := rfl
theorem exec_vmin : exec (.vmin p vb va vd ty wid) s = execVmin p vb va vd ty wid s := rfl
theorem exec_vminStream : exec (.vminStream p q va vd ty wid) s = execVminStream p q va vd ty wid s := rfl
theorem exec_vmax : exec (.vmax p vb va vd ty wid) s = execVmax p vb va vd ty wid s := rfl
theorem exec_vmaxStream : exec (.vmaxStream p q va vd ty wid) s = execVmaxStream p q va vd ty wid s := rfl
theorem exec_viadd : exec (.viadd p vb va vd ty wid) s = execViadd p vb va vd ty wid s := rfl
theorem exec_viaddStream : exec (.viaddStream p q va vd ty wid) s = execViaddStream p q va vd ty wid s := rfl
theorem exec_visub : exec (.visub p vb va vd ty wid) s = execVisub p vb va vd ty wid s := rfl
theorem exec_visubStream : exec (.visubStream p q va vd ty wid) s = execVisubStream p q va vd ty wid s := rfl
theorem exec_vimul : exec (.vimul p vb va vd ty wid) s = execVimul p vb va vd ty wid s := rfl
theorem exec_vimulStream : exec (.vimulStream p q va vd ty wid) s = execVimulStream p q va vd ty wid s := rfl
theorem exec_vshl : exec (.vshl p vb va vd ty wid) s = execVshl p vb va vd ty wid s := rfl
theorem exec_vshlStream : exec (.vshlStream p q va vd ty wid) s = execVshlStream p q va vd ty wid s := rfl
theorem exec_vshr : exec (.vshr p vb va vd ty wid) s = execVshr p vb va vd ty wid s := rfl
theorem exec_vshrStream : exec (.vshrStream p q va vd ty wid) s = execVshrStream p q va vd ty wid s := rfl
theorem exec_vsar : exec (.vsar p vb va vd ty wid) s = execVsar p vb va vd ty wid s := rfl
theorem exec_vsarStream : exec (.vsarStream p q va vd ty wid) s = execVsarStream p q va vd ty wid s := rfl
theorem exec_vand : exec (.vand p vb va vd ty wid) s = execVand p vb va vd ty wid s := rfl
theorem exec_vandStream : exec (.vandStream p q va vd ty wid) s = execVandStream p q va vd ty wid s := rfl
theorem exec_vor : exec (.vor p vb va vd ty wid) s = execVor p vb va vd ty wid s := rfl
theorem exec_vorStream : exec (.vorStream p q va vd ty wid) s = execVorStream p q va vd ty wid s := rfl
theorem exec_vxor : exec (.vxor p vb va vd ty wid) s = execVxor p vb va vd ty wid s := rfl
theorem exec_vxorStream : exec (.vxorStream p q va vd ty wid) s = execVxorStream p q va vd ty wid s := rfl
theorem exec_vfma : exec (.vfma p vb va vd ty wid) s = execVfma p vb va vd ty wid s := rfl
theorem exec_vfmaStream : exec (.vfmaStream p q va vd ty wid) s = execVfmaStream p q va vd ty wid s := rfl
theorem exec_vfms : exec (.vfms p vb va vd ty wid) s = execVfms p vb va vd ty wid s := rfl
theorem exec_vfmsStream : exec (.vfmsStream p q va vd ty wid) s = execVfmsStream p q va vd ty wid s := rfl
theorem exec_vabs : exec (.vabs p va vd ty wid) s = execVabs p va vd ty wid s := rfl
theorem exec_vabsStream : exec (.vabsStream p q vd ty wid) s = execVabsStream p q vd ty wid s := rfl
theorem exec_vneg : exec (.vneg p va vd ty wid) s = execVneg p va vd ty wid s := rfl
theorem exec_vnegStream : exec (.vnegStream p q vd ty wid) s = execVnegStream p q vd ty wid s := rfl
theorem exec_vsat : exec (.vsat p va vd ty wid) s = execVsat p va vd ty wid s := rfl
theorem exec_vsatStream : exec (.vsatStream p q vd ty wid) s = execVsatStream p q vd ty wid s := rfl
theorem exec_vnot : exec (.vnot p va vd ty wid) s = execVnot p va vd ty wid s := rfl
theorem exec_vnotStream : exec (.vnotStream p q vd ty wid) s = execVnotStream p q vd ty wid s := rfl
theorem exec_vmov : exec (.vmov p va vd ty wid) s = execVmov p va vd ty wid s := rfl
theorem exec_vmovStream : exec (.vmovStream p q vd ty wid) s = execVmovStream p q vd ty wid s := rfl
theorem exec_vexp2 : exec (.vexp2 p va vd ty wid) s = execVexp2 p va vd ty wid s := rfl
theorem exec_vexp2Stream : exec (.vexp2Stream p q vd ty wid) s = execVexp2Stream p q vd ty wid s := rfl
theorem exec_vlog2 : exec (.vlog2 p va vd ty wid) s = execVlog2 p va vd ty wid s := rfl
theorem exec_vlog2Stream : exec (.vlog2Stream p q vd ty wid) s = execVlog2Stream p q vd ty wid s := rfl
theorem exec_vrcp : exec (.vrcp p va vd ty wid) s = execVrcp p va vd ty wid s := rfl
theorem exec_vrcpStream : exec (.vrcpStream p q vd ty wid) s = execVrcpStream p q vd ty wid s := rfl
theorem exec_vrsq : exec (.vrsq p va vd ty wid) s = execVrsq p va vd ty wid s := rfl
theorem exec_vrsqStream : exec (.vrsqStream p q vd ty wid) s = execVrsqStream p q vd ty wid s := rfl
theorem exec_vsqrt : exec (.vsqrt p va vd ty wid) s = execVsqrt p va vd ty wid s := rfl
theorem exec_vsqrtStream : exec (.vsqrtStream p q vd ty wid) s = execVsqrtStream p q vd ty wid s := rfl
theorem exec_vsin : exec (.vsin p va vd ty wid) s = execVsin p va vd ty wid s := rfl
theorem exec_vsinStream : exec (.vsinStream p q vd ty wid) s = execVsinStream p q vd ty wid s := rfl
theorem exec_vcos : exec (.vcos p va vd ty wid) s = execVcos p va vd ty wid s := rfl
theorem exec_vcosStream : exec (.vcosStream p q vd ty wid) s = execVcosStream p q vd ty wid s := rfl
theorem exec_vtanh : exec (.vtanh p va vd ty wid) s = execVtanh p va vd ty wid s := rfl
theorem exec_vtanhStream : exec (.vtanhStream p q vd ty wid) s = execVtanhStream p q vd ty wid s := rfl
theorem exec_vimg : exec (.vimg p inv va vd ty wid) s = execVimg p inv va vd ty wid s := rfl
theorem exec_vimgStream : exec (.vimgStream p inv q vd ty wid) s = execVimgStream p inv q vd ty wid s := rfl

end

/-- R394-R398, R405, R407, R411: every operation of the table does what its form says. -/
theorem does_elementwise {s : State} {i : Instr} {f : VForm} (h : elementwise s i = some f) : f.Does s i := by
  unfold elementwise at h
  split at h
  case h_1 => cases h; exact does_form2 exec_vadd rfl
  case h_2 => cases h; exact does_form2 exec_vaddStream rfl
  case h_3 => cases h; exact does_form2 exec_vsub rfl
  case h_4 => cases h; exact does_form2 exec_vsubStream rfl
  case h_5 => cases h; exact does_form2 exec_vmul rfl
  case h_6 => cases h; exact does_form2 exec_vmulStream rfl
  case h_7 => cases h; exact does_form2 exec_vmin rfl
  case h_8 => cases h; exact does_form2 exec_vminStream rfl
  case h_9 => cases h; exact does_form2 exec_vmax rfl
  case h_10 => cases h; exact does_form2 exec_vmaxStream rfl
  case h_11 => cases h; exact does_form2 exec_viadd rfl
  case h_12 => cases h; exact does_form2 exec_viaddStream rfl
  case h_13 => cases h; exact does_form2 exec_visub rfl
  case h_14 => cases h; exact does_form2 exec_visubStream rfl
  case h_15 => cases h; exact does_form2 exec_vimul rfl
  case h_16 => cases h; exact does_form2 exec_vimulStream rfl
  case h_17 => cases h; exact does_form2 exec_vshl rfl
  case h_18 => cases h; exact does_form2 exec_vshlStream rfl
  case h_19 => cases h; exact does_form2 exec_vshr rfl
  case h_20 => cases h; exact does_form2 exec_vshrStream rfl
  case h_21 => cases h; exact does_form2 exec_vsar rfl
  case h_22 => cases h; exact does_form2 exec_vsarStream rfl
  case h_23 => cases h; exact does_form2 exec_vand rfl
  case h_24 => cases h; exact does_form2 exec_vandStream rfl
  case h_25 => cases h; exact does_form2 exec_vor rfl
  case h_26 => cases h; exact does_form2 exec_vorStream rfl
  case h_27 => cases h; exact does_form2 exec_vxor rfl
  case h_28 => cases h; exact does_form2 exec_vxorStream rfl
  case h_29 => cases h; exact does_form3 exec_vfma rfl
  case h_30 => cases h; exact does_form3 exec_vfmaStream rfl
  case h_31 => cases h; exact does_form3 exec_vfms rfl
  case h_32 => cases h; exact does_form3 exec_vfmsStream rfl
  case h_33 => cases h; exact does_form1 exec_vabs rfl
  case h_34 => cases h; exact does_form1 exec_vabsStream rfl
  case h_35 => cases h; exact does_form1 exec_vneg rfl
  case h_36 => cases h; exact does_form1 exec_vnegStream rfl
  case h_37 => cases h; exact does_form1 exec_vsat rfl
  case h_38 => cases h; exact does_form1 exec_vsatStream rfl
  case h_39 => cases h; exact does_form1 exec_vnot rfl
  case h_40 => cases h; exact does_form1 exec_vnotStream rfl
  case h_41 => cases h; exact does_form1 exec_vmov rfl
  case h_42 => cases h; exact does_form1 exec_vmovStream rfl
  case h_43 => cases h; exact does_special exec_vexp2
  case h_44 => cases h; exact does_special exec_vexp2Stream
  case h_45 => cases h; exact does_special exec_vlog2
  case h_46 => cases h; exact does_special exec_vlog2Stream
  case h_47 => cases h; exact does_special exec_vrcp
  case h_48 => cases h; exact does_special exec_vrcpStream
  case h_49 => cases h; exact does_special exec_vrsq
  case h_50 => cases h; exact does_special exec_vrsqStream
  case h_51 => cases h; exact does_special exec_vsqrt
  case h_52 => cases h; exact does_special exec_vsqrtStream
  case h_53 => cases h; exact does_special exec_vsin
  case h_54 => cases h; exact does_special exec_vsinStream
  case h_55 => cases h; exact does_special exec_vcos
  case h_56 => cases h; exact does_special exec_vcosStream
  case h_57 => cases h; exact does_special exec_vtanh
  case h_58 => cases h; exact does_special exec_vtanhStream
  case h_59 => cases h; exact does_form1 exec_vimg rfl
  case h_60 => cases h; exact does_form1 exec_vimgStream rfl
  case h_61 => cases h

end Sys2Proof.Machine

open Sys2Proof Sys2Proof.Machine Sys2Proof.Claims in
/-- Settles O32: each operation's meaning is the issue of its form, whose elements are those of its sources taken one by one. -/
theorem elementwiseResults : Obligations.ElementwiseResults := by
  unfold Obligations.ElementwiseResults
  exact fun _ _ _ => does_elementwise

namespace Sys2Proof.Machine

open Sys2Proof.Claims

/-! ## Operations across lanes (R397, R401-R404, R407-R409, R412-R414) -/

/-! ### Lists given place by place -/

section

variable {α β γ : Type} {m n k : Nat}

theorem getD_map_range (g : Nat → α) (d : α) (i : Nat) : ((List.range n).map g).getD i d = if i < n then g i else d := by
  split
  next h => rw [List.getD_eq_getElem _ _ (by simpa using h), List.getElem_map, List.getElem_range]
  next h => exact List.getD_eq_default _ _ (by simpa using h)

theorem drop_map_range (g : Nat → α) (a : Nat) : ((List.range n).map g).drop a = (List.range (n - a)).map (fun j => g (a + j)) :=
  List.ext_getElem (by simp) fun i _ _ => by simp

theorem take_map_range (g : Nat → α) (h : k ≤ n) : ((List.range n).map g).take k = (List.range k).map g := by
  rw [← List.map_take, List.take_range, Nat.min_eq_left h]

/-- A list beside one given place by place is itself read place by place. -/
theorem zipWith_map_range_of_length {l : List α} (hl : l.length = n) (d : α) (f : α → β → γ) (g : Nat → β) :
    List.zipWith f l ((List.range n).map g) = (List.range n).map (fun e => f (l.getD e d) (g e)) :=
  List.ext_getElem (by simp [hl]) fun i hi _ => by
    have h : i < l.length := by simp only [List.length_zipWith, lt_min_iff] at hi; exact hi.1
    simp [h]

theorem map_range_two_mul (g : Nat → α) : (List.range (2 * (m + 1))).map g = g 0 :: g 1 :: (List.range (2 * m)).map (fun e => g (e + 2)) := by
  rw [Nat.mul_succ, List.range_succ_eq_map, List.range_succ_eq_map]
  simp [Function.comp_def]

theorem groups_eq (k : Nat) : ∀ (n : Nat) (l : List Nat), groups k n l = (List.range n).map (fun e => (l.drop (e * k)).take k)
  | 0, _ => rfl
  | n + 1, l => by
    rw [groups, groups_eq k n, List.range_succ_eq_map, List.map_cons, List.map_map, Nat.zero_mul, List.drop_zero]
    refine congrArg _ (List.map_congr_left fun e _ => ?_)
    rw [Function.comp, List.drop_drop, Nat.succ_mul, Nat.add_comm]

theorem groups_map_range (g : Nat → Nat) (h : n * k ≤ m) :
    groups k n ((List.range m).map g) = (List.range n).map (fun e => (List.range k).map (fun j => g (e * k + j))) := by
  rw [groups_eq]
  refine List.map_congr_left fun e he => ?_
  have hle : (e + 1) * k ≤ n * k := Nat.mul_le_mul_right k (List.mem_range.mp he)
  rw [Nat.succ_mul] at hle
  rw [drop_map_range, take_map_range _ (by omega)]

theorem interleave_map_range : ∀ (m : Nat) (a b : Nat → Nat), interleave ((List.range m).map a) ((List.range m).map b) =
    (List.range (2 * m)).map (fun e => quiet (if e % 2 = 0 then a (e / 2) else b (e / 2)))
  | 0, _, _ => rfl
  | m + 1, a, b => by
    rw [map_range_two_mul, List.range_succ_eq_map, List.map_cons, List.map_cons, List.map_map, List.map_map, interleave, interleave_map_range m]
    simp [Nat.add_mod_right]

/-- One element of VROPE: c and t stand at the even place of its pair, x and y at its two (R409). -/
def ropePair (f : Fmt) (rm : RM) (c t x : Nat → Nat) (e : Nat) : Nat × Flags :=
  let j := e / 2 * 2
  let r := if e % 2 = 0 then fvMul2Add rm (f.val (x j)) (f.val (c j)) (f.val (x (j + 1))).neg (f.val (t j))
    else fvMul2Add rm (f.val (x j)) (f.val (t j)) (f.val (x (j + 1))) (f.val (c j))
  let v := f.deliver rm false r.1
  (v.1, v.2.or { nv := r.2 })

theorem ropePair_add_two (f : Fmt) (rm : RM) (c t x : Nat → Nat) (e : Nat) :
    ropePair f rm c t x (e + 2) = ropePair f rm (fun e => c (e + 2)) (fun e => t (e + 2)) (fun e => x (e + 2)) e := by
  have hj : (e + 2) / 2 * 2 = e / 2 * 2 + 2 := by omega
  simp only [ropePair, hj, Nat.add_mod_right, Nat.add_right_comm _ 2 1]

theorem ropePairs_map_range (f : Fmt) (rm : RM) : ∀ (m : Nat) (c t x : Nat → Nat),
    ropePairs f rm ((List.range (2 * m)).map c) ((List.range (2 * m)).map t) ((List.range (2 * m)).map x) =
      (List.range (2 * m)).map (ropePair f rm c t x)
  | 0, _, _, _ => rfl
  | m + 1, c, t, x => by
    simp only [map_range_two_mul, ropePairs, ropePairs_map_range f rm m, ropePair_add_two]
    rfl

theorem transpose8_map_range (g : Nat → Nat) : transpose8 ((List.range 64).map g) = (List.range 64).map (fun i => g (8 * (i % 8) + i / 8)) := by
  refine List.map_congr_left fun i hi => ?_
  have hi := List.mem_range.mp hi
  rw [nth_eq_getD, getD_map_range, if_pos (by omega)]

end

/-! ### Sizes -/

section

variable (ty : BitVec 4) (wid : BitVec 2)

theorem tyBits_dvd (t : Nat) : tyBits t ∣ 64 := by
  rw [tyBits, nth_eq_getD]
  by_cases h : t < 15
  case pos => exact (by decide : ∀ k < 15, [32, 16, 16, 8, 8, 4, 8, 16, 32, 64, 8, 16, 32, 64, 2].getD k 32 ∣ 64) t h
  case neg => rw [List.getD_eq_default _ _ (Nat.not_lt.mp h)]; decide

theorem dvd_widBits : 256 ∣ widBits wid := by
  unfold widBits
  split
  · decide
  · split <;> decide

/-- A part holds an even number of elements. -/
theorem two_mul_half_count : 2 * (count ty wid / 2) = count ty wid := by
  refine Nat.mul_div_cancel' (Nat.dvd_div_of_mul_dvd ?_)
  exact (Nat.mul_dvd_mul_right (tyBits_dvd ty.toNat) 2).trans ((by decide : 64 * 2 ∣ 256).trans (dvd_widBits wid))

theorem lanes_fit : widBits wid / 32 * 32 ≤ widBits wid := Nat.div_mul_le_self _ _

end

/-! ### The form of each operation -/

section

variable {s : State} {i : Instr} {p ty src : BitVec 4} {sat : BitVec 1} {v : VSrc} {va vd g : BitVec 6} {wid : BitVec 2}

theorem does_of_vecIssue {f : VForm} {pre : State → Verdict} {out : State → VOut} (hz : 0 < f.z) (hw : f.n * f.z ≤ widBits f.wid)
    (hi : exec i s = vecIssue f.p (partOf f.wid f.vd) f.v f.lat pre out s) (hp : pre s = f.pre) (ho : out s = { z := f.z, elems := formElems f }) :
    f.Does s i :=
  does_of_formIssue hz hw (hi.trans (vecIssue_eq_formIssue hp ho))

theorem does_cvt (hi : exec i s = vecCvt p sat src v vd ty wid s) : VForm.Does s i
    { p := p, v := v, vd := vd, wid := wid, z := tyBits ty.toNat, n := widBits wid / max (tyBits src.toNat) (tyBits ty.toNat), lat := 4, pre := .ok,
      elem := fun e => convElem src.toNat ty.toNat (me s).rm (sat = 1#1) (el (tyBits src.toNat) (vsrc s wid v) e) } := by
  have hfit : widBits wid / max (tyBits src.toNat) (tyBits ty.toNat) * tyBits ty.toNat ≤ widBits wid :=
    (Nat.mul_le_mul_left _ (le_max_right _ _)).trans (Nat.div_mul_le_self _ _)
  unfold vecCvt at hi
  refine does_of_vecIssue (tyBits_pos ty.toNat) hfit hi rfl ?_
  simp only [splitElems_eq, List.map_map]
  rfl

theorem does_mac (hi : exec i s = vecMac p v va vd ty wid s) : VForm.Does s i
    { p := p, v := v, vd := vd, wid := wid, z := 32, n := widBits wid / 32, lat := 2, pre := .ok,
      elem := fun e => elemMac ty ((List.range (32 / tyBits ty.toNat)).map (fun j => el (tyBits ty.toNat) (vp s wid va) (e * (32 / tyBits ty.toNat) + j)))
        ((List.range (32 / tyBits ty.toNat)).map (fun j => el (tyBits ty.toNat) (vsrc s wid v) (e * (32 / tyBits ty.toNat) + j)))
        (el 32 (vp s wid vd) e) } := by
  have hgroups : widBits wid / 32 * (32 / tyBits ty.toNat) ≤ widBits wid / tyBits ty.toNat := by
    rw [Nat.le_div_iff_mul_le (tyBits_pos _), Nat.mul_assoc]
    exact (Nat.mul_le_mul_left _ (Nat.div_mul_le_self _ _)).trans (lanes_fit wid)
  unfold vecMac at hi
  refine does_of_vecIssue (Nat.zero_lt_succ 31) (lanes_fit wid) hi rfl ?_
  simp only [velems_eq, groups_map_range _ hgroups, List.zip, List.zipWith_map, List.zipWith_self]
  rfl

theorem length_factors : (factors s wid).length = widBits wid / 32 := by rw [factors, splitElems_eq, List.length_map, List.length_range]

theorem does_qnt (hi : exec i s = vecQnt p sat v vd ty wid s) : VForm.Does s i
    { p := p, v := v, vd := vd, wid := wid, z := 8, n := widBits wid / 32, lat := 4, pre := (factorLocal s wid).verdict,
      elem := fun e => quantise ty.toNat (me s).rm (sat = 1#1) (tileScale s) ((factors s wid).getD e 0) (el 32 (vsrc s wid v) e) } := by
  unfold vecQnt at hi
  refine does_of_vecIssue (Nat.zero_lt_succ 7) ((Nat.mul_le_mul_left _ (by decide : 8 ≤ 32)).trans (lanes_fit wid)) hi rfl ?_
  simp only [velems_eq, zipWith_map_range_of_length length_factors 0]
  rfl

theorem does_dqnt (hi : exec i s = vecDqnt p v vd ty wid s) : VForm.Does s i
    { p := p, v := v, vd := vd, wid := wid, z := 32, n := widBits wid / 32, lat := 4, pre := (factorLocal s wid).verdict,
      elem := fun e => dequantise ty.toNat (me s).rm (tileScale s) ((factors s wid).getD e 0) (el 8 (vsrc s wid v) e) } := by
  unfold vecDqnt at hi
  refine does_of_vecIssue (Nat.zero_lt_succ 31) (lanes_fit wid) hi rfl ?_
  simp only [splitElems_eq, zipWith_map_range_of_length length_factors 0]
  rfl

theorem does_lse (hi : exec i s = vecLse p v va vd wid s) : VForm.Does s i
    { p := p, v := v, vd := vd, wid := wid, z := 32, n := widBits wid / 32, lat := 4, pre := .ok,
      elem := fun e => lseLane (me s).rm (el 32 (vsrc s wid v) 0) (el 32 (vsrc s wid v) 1) (el 32 (vp s wid va) e) (el 32 (vp s wid vd) e) } := by
  unfold vecLse at hi
  refine does_of_vecIssue (Nat.zero_lt_succ 31) (lanes_fit wid) hi rfl ?_
  simp only [velems_eq, List.zipWith_map, List.zipWith_self, el_zero]
  rfl

theorem does_rope (hi : exec i s = vecRope p v va vd ty wid s) : VForm.Does s i
    { p := p, v := v, vd := vd, wid := wid, z := tyBits ty.toNat, n := count ty wid, lat := 4, pre := .ok,
      elem := fun e => ropeElem s ty (vp s wid va) (vsrc s wid v) (vp s wid vd) e } := by
  unfold vecRope at hi
  refine does_of_vecIssue (tyBits_pos ty.toNat) (count_fits ty wid) hi rfl ?_
  simp only [velems_eq, formElems]
  change VOut.mk _ (ropePairs _ _ ((List.range (count ty wid)).map _) ((List.range (count ty wid)).map _) ((List.range (count ty wid)).map _)) = _
  rw [← two_mul_half_count, ropePairs_map_range]
  rfl

theorem does_perm (hi : exec i s = vecPerm p v va vd ty wid s) : VForm.Does s i
    { p := p, v := v, vd := vd, wid := wid, z := tyBits ty.toNat, n := count ty wid, lat := 3, pre := .ok,
      elem := fun e => quiet (if el (tyBits ty.toNat) (vsrc s wid v) e < count ty wid then
        el (tyBits ty.toNat) (vp s wid va) (el (tyBits ty.toNat) (vsrc s wid v) e) else 0) } := by
  unfold vecPerm at hi
  refine does_of_vecIssue (tyBits_pos ty.toNat) (count_fits ty wid) hi rfl ?_
  simp only [velems_eq, List.map_map, nth_eq_getD, Function.comp_def, getD_map_range]
  rfl

/-- The halves that VZIP and VSHUF interleave. -/
theorem interleave_halves (A B : Nat) (off : Nat) :
    interleave ((List.range (count ty wid / 2)).map (fun j => el (tyBits ty.toNat) A (off + j)))
      ((List.range (count ty wid / 2)).map (fun j => el (tyBits ty.toNat) B (off + j))) =
    (List.range (count ty wid)).map (fun e => quiet (el (tyBits ty.toNat) (if e % 2 = 0 then A else B) (off + e / 2))) := by
  rw [interleave_map_range, two_mul_half_count]
  refine List.map_congr_left fun e _ => ?_
  split <;> rfl

theorem does_zip (hi : exec i s = vecZip false p v va vd ty wid s) : VForm.Does s i
    { p := p, v := v, vd := vd, wid := wid, z := tyBits ty.toNat, n := count ty wid, lat := 3, pre := .ok,
      elem := fun e => quiet (el (tyBits ty.toNat) (if e % 2 = 0 then vp s wid va else vsrc s wid v) (e / 2)) } := by
  have h := interleave_halves (ty := ty) (wid := wid) (vp s wid va) (vsrc s wid v) 0
  simp only [Nat.zero_add] at h
  unfold vecZip at hi
  refine does_of_vecIssue (tyBits_pos ty.toNat) (count_fits ty wid) hi rfl ?_
  simp only [velems_eq, Bool.false_eq_true, if_false, take_map_range _ (Nat.div_le_self _ 2)]
  exact congrArg _ h

theorem does_shuf (hi : exec i s = vecZip true p v va vd ty wid s) : VForm.Does s i
    { p := p, v := v, vd := vd, wid := wid, z := tyBits ty.toNat, n := count ty wid, lat := 3, pre := .ok,
      elem := fun e => quiet (el (tyBits ty.toNat) (if e % 2 = 0 then vp s wid va else vsrc s wid v) (count ty wid / 2 + e / 2)) } := by
  have hhalf : widBits wid / tyBits ty.toNat - widBits wid / tyBits ty.toNat / 2 = widBits wid / tyBits ty.toNat / 2 := by
    have := two_mul_half_count ty wid
    rw [count] at this
    omega
  unfold vecZip at hi
  refine does_of_vecIssue (tyBits_pos ty.toNat) (count_fits ty wid) hi rfl ?_
  simp only [velems_eq, if_true, drop_map_range, hhalf]
  exact congrArg _ (interleave_halves (ty := ty) (wid := wid) (vp s wid va) (vsrc s wid v) (count ty wid / 2))

theorem does_trn16 (hi : exec i s = vecTrn16 p v vd 2#2 s) : VForm.Does s i
    { p := p, v := v, vd := vd, wid := 2#2, z := 16, n := 64, lat := 3, pre := .ok,
      elem := fun e => quiet (el 16 (vsrc s 2#2 v) (8 * (e % 8) + e / 8)) } := by
  unfold vecTrn16 at hi
  refine does_of_vecIssue (Nat.zero_lt_succ 15) (by decide : 64 * 16 ≤ widBits 2#2) hi rfl ?_
  have h := transpose8_map_range (el 16 (vsrc s 2#2 v))
  rw [velems_eq]
  exact congrArg (VOut.mk 16) ((congrArg (List.map quiet) h).trans List.map_map)

theorem does_bcst (hi : exec i s = execVbcst p g vd ty wid s) : VForm.Does s i
    { p := p, v := .reg vd, vd := vd, wid := wid, z := tyBits ty.toNat, n := count ty wid, lat := 2, pre := .ok,
      elem := fun _ => quiet ((gr s g).toNat % 2 ^ tyBits ty.toNat) } := by
  unfold execVbcst at hi
  refine does_of_vecIssue (tyBits_pos ty.toNat) (count_fits ty wid) hi rfl ?_
  simp only [formElems, List.map_const', List.length_range, fld_low]
  rfl

end

section

variable {s : State} {p ty src : BitVec 4} {q : BitVec 3} {va vb vd g : BitVec 6} {wid : BitVec 2} {sat : BitVec 1}

theorem exec_vcvt : exec (.vcvt p sat src vb vd ty wid) s = execVcvt p sat src vb vd ty wid s := rfl
theorem exec_vcvtStream : exec (.vcvtStream p sat src q vd ty wid) s = execVcvtStream p sat src q vd ty wid s := rfl
theorem exec_vimac : exec (.vimac p vb va vd ty wid) s = execVimac p vb va vd ty wid s := rfl
theorem exec_vimacStream : exec (.vimacStream p q va vd ty wid) s = execVimacStream p q va vd ty wid s := rfl
theorem exec_vqnt : exec (.vqnt p sat vb vd ty wid) s = execVqnt p sat vb vd ty wid s := rfl
theorem exec_vqntStream : exec (.vqntStream p sat q vd ty wid) s = execVqntStream p sat q vd ty wid s := rfl
theorem exec_vdqnt : exec (.vdqnt p vb vd ty wid) s = execVdqnt p vb vd ty wid s := rfl
theorem exec_vdqntStream : exec (.vdqntStream p q vd ty wid) s = execVdqntStream p q vd ty wid s := rfl
theorem exec_vlse : exec (.vlse p vb va vd ty wid) s = execVlse p vb va vd ty wid s := rfl
theorem exec_vlseStream : exec (.vlseStream p q va vd ty wid) s = execVlseStream p q va vd ty wid s := rfl
theorem exec_vrope : exec (.vrope p vb va vd ty wid) s = execVrope p vb va vd ty wid s := rfl
theorem exec_vropeStream : exec (.vropeStream p q va vd ty wid) s = execVropeStream p q va vd ty wid s := rfl
theorem exec_vperm : exec (.vperm p vb va vd ty wid) s = execVperm p vb va vd ty wid s := rfl
theorem exec_vpermStream : exec (.vpermStream p q va vd ty wid) s = execVpermStream p q va vd ty wid s := rfl
theorem exec_vzip : exec (.vzip p vb va vd ty wid) s = execVzip p vb va vd ty wid s := rfl
theorem exec_vzipStream : exec (.vzipStream p q va vd ty wid) s = execVzipStream p q va vd ty wid s := rfl
theorem exec_vshuf : exec (.vshuf p vb va vd ty wid) s = execVshuf p vb va vd ty wid s := rfl
theorem exec_vshufStream : exec (.vshufStream p q va vd ty wid) s = execVshufStream p q va vd ty wid s := rfl
theorem exec_vtrnStream : exec (.vtrnStream p q vd ty wid) s = execVtrnStream p q vd ty wid s := rfl
theorem exec_vtrn : exec (.vtrn p va vd ty wid) s = execVtrn p va vd ty wid s := rfl
theorem exec_vbcst : exec (.vbcst p g vd ty wid) s = execVbcst p g vd ty wid s := rfl

end

/-- R392, R393, R397, R401-R404, R407-R409, R412-R414: every operation of the table does what its form says. -/
theorem does_acrossLanes {s : State} {i : Instr} {f : VForm} (h : acrossLanes s i = some f) : f.Does s i := by
  unfold acrossLanes at h
  split at h
  case h_1 => cases h; exact does_cvt exec_vcvt
  case h_2 => cases h; exact does_cvt exec_vcvtStream
  case h_3 => cases h; exact does_mac exec_vimac
  case h_4 => cases h; exact does_mac exec_vimacStream
  case h_5 => cases h; exact does_qnt exec_vqnt
  case h_6 => cases h; exact does_qnt exec_vqntStream
  case h_7 => cases h; exact does_dqnt exec_vdqnt
  case h_8 => cases h; exact does_dqnt exec_vdqntStream
  case h_9 => cases h; exact does_lse exec_vlse
  case h_10 => cases h; exact does_lse exec_vlseStream
  case h_11 => cases h; exact does_rope exec_vrope
  case h_12 => cases h; exact does_rope exec_vropeStream
  case h_13 => cases h; exact does_perm exec_vperm
  case h_14 => cases h; exact does_perm exec_vpermStream
  case h_15 => cases h; exact does_zip exec_vzip
  case h_16 => cases h; exact does_zip exec_vzipStream
  case h_17 => cases h; exact does_shuf exec_vshuf
  case h_18 => cases h; exact does_shuf exec_vshufStream
  case h_19 =>
    split at h
    next hw => cases h; cases hw; exact does_trn16 exec_vtrnStream
    next => cases h
  case h_20 =>
    split at h
    next hw =>
      cases h
      obtain ⟨rfl, hty⟩ := hw
      exact does_trn16 (exec_vtrn.trans (if_neg (Bool.eq_false_iff.mp hty)))
    next => cases h
  case h_21 => cases h; exact does_bcst exec_vbcst
  case h_22 => cases h

end Sys2Proof.Machine

open Sys2Proof Sys2Proof.Machine Sys2Proof.Claims in
/-- Settles O33: each operation's meaning is the issue of its form; the lists that it splits, pairs or permutes are read place by place. -/
theorem acrossLaneResults : Obligations.AcrossLaneResults := by
  unfold Obligations.AcrossLaneResults
  exact fun _ _ _ => does_acrossLanes

namespace Sys2Proof.Machine

open Sys2Proof.Claims

/-! ## Comparisons, selections, reductions and the 32-bit transpose (R399, R400, R406, R410, R414) -/

/-- Bit j of the mask of n elements given place by place. -/
theorem testBit_maskOf_range {z : Nat} (hz : 0 < z) (o n : Nat) (g : Nat → Bool) (j : Nat) :
    (maskOf o z ((List.range n).map g)).testBit j = (decide (o ≤ j ∧ j < o + n * z) && g ((j - o) / z)) := by
  rw [testBit_maskOf hz, List.length_map, List.length_range, getD_map_range]
  by_cases h : o ≤ j ∧ j < o + n * z
  · rw [if_pos (by rw [Nat.div_lt_iff_lt_mul hz]; omega)]
  · simp [h]

/-- A mask held in a register. -/
theorem getLsbD_maskOf_range {z : Nat} (hz : 0 < z) (o n : Nat) (g : Nat → Bool) {j : Nat} (hj : j < 1024) :
    (BitVec.ofNat 1024 (maskOf o z ((List.range n).map g))).getLsbD j = (decide (o ≤ j ∧ j < o + n * z) && g ((j - o) / z)) := by
  rw [BitVec.getLsbD_ofNat, testBit_maskOf_range hz]
  simp [hj]

/-- Bit j of element e of a mask: the activity of e. -/
theorem getLsbD_maskOf_elem {z : Nat} {o n : Nat} {g : Nat → Bool} {e j : Nat} (hfit : o + n * z ≤ 1024) (he : e < n) (hj : j < z) :
    (BitVec.ofNat 1024 (maskOf o z ((List.range n).map g))).getLsbD (o + e * z + j) = g e := by
  have hz : 0 < z := Nat.zero_lt_of_lt hj
  have hle : (e + 1) * z ≤ n * z := Nat.mul_le_mul_right z he
  rw [Nat.succ_mul] at hle
  have hdiv : (o + e * z + j - o) / z = e := by
    rw [Nat.add_assoc, Nat.add_sub_cancel_left, Nat.mul_comm, Nat.mul_add_div hz, Nat.div_eq_of_lt hj, Nat.add_zero]
  rw [getLsbD_maskOf_range hz _ _ _ (by omega), hdiv, decide_eq_true (by omega), Bool.true_and]

section

variable {s : State} {p ty pd : BitVec 4} {v : VSrc} {va vb vd : BitVec 6} {wid cc : BitVec 2} {q : BitVec 3}

/-! ### VCMP -/

theorem exec_vcmp : exec (.vcmp p vb va cc pd ty wid) s = execVcmp p vb va cc pd ty wid s := rfl
theorem exec_vcmpStream : exec (.vcmpStream p q va cc pd ty wid) s = execVcmpStream p q va cc pd ty wid s := rfl

theorem exec_of_vcmpOf {i : Instr} (h : vcmpOf i = some (p, v, va, cc, pd, ty, wid)) : exec i s = vecCmp p v va cc pd ty wid s := by
  unfold vcmpOf at h
  split at h
  case h_1 => cases h; exact exec_vcmp
  case h_2 => cases h; exact exec_vcmpStream
  case h_3 => cases h

theorem eight_dvd_tyBits {t : Nat} (h : 8 ≤ tyBits t) : 8 ∣ tyBits t :=
  (by decide : ∀ k < 65, k ∣ 64 → 8 ≤ k → 8 ∣ k) _ (Nat.lt_succ_of_le (Nat.le_of_dvd (Nat.zero_lt_succ 63) (tyBits_dvd t))) (tyBits_dvd t) h

/-- Elements of whole bytes lie at whole bytes. -/
theorem byte_of_elem {z : Nat} (h : 8 ∣ z) (o e : Nat) : (o + e * z) / 8 = o / 8 + e * (z / 8) := by
  obtain ⟨m, rfl⟩ := h
  rw [Nat.mul_left_comm, Nat.add_mul_div_left _ _ (Nat.zero_lt_succ 7), Nat.mul_div_cancel_left _ (Nat.zero_lt_succ 7)]

/-- The bytes of a part's elements lie within the predicate register. -/
theorem bytes_fit {t : Nat} (h8 : 8 ∣ tyBits t) (wid : BitVec 2) (va : BitVec 6) :
    (partOf wid va).off / 8 + widBits wid / tyBits t * (tyBits t / 8) ≤ 1024 := by
  have hfit := partOf_fits wid va
  have hle : widBits wid / tyBits t * tyBits t ≤ widBits wid := Nat.div_mul_le_self _ _
  rw [← byte_of_elem h8]
  omega

/-- What a compare writes (R399). -/
def cmpBits (s : State) (v : VSrc) (va : BitVec 6) (cc : BitVec 2) (ty : BitVec 4) (wid : BitVec 2) : VReg :=
  BitVec.ofNat 1024 (maskOf ((partOf wid va).off / 8) (tyBits ty.toNat / 8) ((List.range (count ty wid)).map fun e =>
    elemCmp ty cc (el (tyBits ty.toNat) (vp s wid va) e) (el (tyBits ty.toNat) (vsrc s wid v) e)))

/-- The issue of a compare, its active elements given by their bytes. -/
theorem vecCmp_eq {on : Nat → Bool} (hz : 8 ≤ tyBits ty.toNat) (hon : ∀ e, on e = (me s).guardAt p ((partOf wid va).off / 8 + e * (tyBits ty.toNat / 8))) :
    vecCmp p v va cc pd ty wid s = issue s (((List.range (count ty wid)).map on).any id) (srcCheck s v) (fun _ =>
      (s.result s.cur.u (.p pd.toNat) (cmpBits s v va cc ty wid)
        (BitVec.ofNat 1024 (maskOf ((partOf wid va).off / 8) (tyBits ty.toNat / 8) ((List.range (count ty wid)).map on))) (latFI ty) 0).popSrc v) := by
  have hact : (me s).activeList p (partOf wid va) (tyBits ty.toNat) ((partOf wid va).w / tyBits ty.toNat) = (List.range (count ty wid)).map on := by
    rw [Thread.activeList, partOf_w]
    refine List.map_congr_left fun e _ => ?_
    rw [hon, Thread.active, byte_of_elem (eight_dvd_tyBits hz)]
  unfold vecCmp
  simp only [show s.thread s.cur.u = me s from rfl, hact]
  refine issue_congr ?_ _ _
  simp only [show s.thread s.cur.u = me s from rfl, hact, velems_eq, List.zipWith_map, List.zipWith_self]
  rfl

/-- A NaN makes every condition but ne false (R399). -/
theorem elemCmp_nan {a b : Nat} (hf : tyF ty = true) (h : (vfmt ty).val a = .nan ∨ (vfmt ty).val b = .nan) :
    elemCmp ty cc a b = decide (cc = 1#2) := by
  have heq : FV.eq ((vfmt ty).val a) ((vfmt ty).val b) = false := by
    rcases h with h | h <;> rw [h]
    · rfl
    · cases (vfmt ty).val a <;> rfl
  have hlt : FV.lt ((vfmt ty).val a) ((vfmt ty).val b) = false := by
    rcases h with h | h <;> rw [h]
    · rfl
    · cases (vfmt ty).val a <;> rfl
  rw [elemCmp, if_pos hf, heq, hlt]
  by_cases h1 : cc = 1#2 <;> simp [h1]

/-! ### VSEL -/

theorem exec_vsel : exec (.vsel p vb va vd ty wid) s = execVsel p vb va vd ty wid s := rfl
theorem exec_vselStream : exec (.vselStream p q va vd ty wid) s = execVselStream p q va vd ty wid s := rfl

theorem exec_of_vselOf {i : Instr} (h : vselOf i = some (p, v, va, vd, ty, wid)) : exec i s = vecSel p v va vd ty wid s := by
  unfold vselOf at h
  split at h
  case h_1 => cases h; exact exec_vsel
  case h_2 => cases h; exact exec_vselStream
  case h_3 => cases h

/-- A result for the whole of a part is its value with every bit of the part. -/
theorem result_wholePart (x lat : Nat) (f : Flags) :
    s.result s.cur.u (.v (partOf wid vd).reg) (atPart (partOf wid vd) x) (BitVec.ofNat 1024 (onesAt (partOf wid vd).off (partOf wid vd).w)) lat f.toBits =
      wholePart s wid vd x lat f := by
  rw [wholePart, atPart, onesAt, Nat.shiftLeft_eq, partOf_w]

/-- The elements that VSEL picks (R400). -/
def selElem (s : State) (p : BitVec 4) (v : VSrc) (va vd : BitVec 6) (ty : BitVec 4) (wid : BitVec 2) (e : Nat) : Nat :=
  if (me s).guardAt p (((partOf wid vd).off + e * tyBits ty.toNat) / 8) then el (tyBits ty.toNat) (vp s wid va) e
  else el (tyBits ty.toNat) (vsrc s wid v) e

theorem vecSel_eq : vecSel p v va vd ty wid s = issue s true (srcCheck s v) (fun _ =>
    (wholePart s wid vd (joinElems (tyBits ty.toNat) ((List.range (count ty wid)).map (selElem s p v va vd ty wid))) 2 Flags.none).popSrc v) := by
  unfold vecSel
  refine issue_congr ?_ _ _
  simp only [← result_wholePart, velems_eq, Thread.activeList, partOf_w, List.zip, List.zipWith_map, List.zipWith_self]
  rfl

theorem el_mod (z x e : Nat) : el z x e % 2 ^ z = el z x e := by rw [el, Nat.mod_mod]

theorem el_joinElems_range {z : Nat} (hz : 0 < z) {n e : Nat} (g : Nat → Nat) (he : e < n) :
    el z (joinElems z ((List.range n).map g)) e = g e % 2 ^ z := by
  rw [el_joinElems hz, getD_map_range, if_pos he]

theorem selElem_mod (e : Nat) : selElem s p v va vd ty wid e % 2 ^ tyBits ty.toNat = selElem s p v va vd ty wid e := by
  rw [selElem]
  split <;> exact el_mod _ _ _

end

end Sys2Proof.Machine

open Sys2Proof Sys2Proof.Machine Sys2Proof.Claims in
/-- Settles O34: the compare's outcome is a mask by the bytes of its elements, the selection a part joined from the picked elements. -/
theorem vectorCompareAndSelectResults : Obligations.VectorCompareAndSelectResults := by
  unfold Obligations.VectorCompareAndSelectResults
  refine ⟨fun s i p v va cc pd ty wid z o on hi hz h8 ho hon => ?_, fun s i p v va vd ty wid z hi hz hclear => ?_⟩
  · subst hz ho
    rw [exec_of_vcmpOf hi, vecCmp_eq h8 hon]
    refine ⟨fun hoff => ?_, fun e he hone hclear => ?_, fun a b => elemCmp_nan⟩
    · rw [any_map_range_of_off hoff, issue_off]
    · have h8z : 0 < tyBits ty.toNat / 8 := Nat.div_pos h8 (Nat.zero_lt_succ 7)
      rw [any_map_range_of_on he hone, issue_go s _ _ hclear]
      exact ⟨_, _, rfl, fun j hj => getLsbD_maskOf_range h8z _ _ _ hj, fun e j he hj _ => getLsbD_maskOf_elem (bytes_fit (eight_dvd_tyBits h8) wid va) he hj⟩
  · subst hz
    rw [exec_of_vselOf hi, vecSel_eq, issue_go s _ _ hclear]
    exact ⟨_, rfl, fun e he => (el_joinElems_range (tyBits_pos _) _ he).trans (selElem_mod e)⟩

namespace Sys2Proof.Machine

open Sys2Proof.Claims

/-! ### Reductions (R406) -/

section

variable {s : State} {p ty : BitVec 4} {v : VSrc} {va vd : BitVec 6} {wid : BitVec 2} {q : BitVec 3} {k : Nat}

theorem exec_vrsum : exec (.vrsum p va vd ty wid) s = execVrsum p va vd ty wid s := rfl
theorem exec_vrsumStream : exec (.vrsumStream p q vd ty wid) s = execVrsumStream p q vd ty wid s := rfl
theorem exec_vrmax : exec (.vrmax p va vd ty wid) s = execVrmax p va vd ty wid s := rfl
theorem exec_vrmaxStream : exec (.vrmaxStream p q vd ty wid) s = execVrmaxStream p q vd ty wid s := rfl
theorem exec_vrmin : exec (.vrmin p va vd ty wid) s = execVrmin p va vd ty wid s := rfl
theorem exec_vrminStream : exec (.vrminStream p q vd ty wid) s = execVrminStream p q vd ty wid s := rfl

theorem exec_of_vredOf {i : Instr} (h : vredOf i = some (k, p, v, vd, ty, wid)) : exec i s = vecRed k p v vd ty wid s := by
  unfold vredOf at h
  split at h
  case h_1 => cases h; exact exec_vrsum
  case h_2 => cases h; exact exec_vrsumStream
  case h_3 => cases h; exact exec_vrmax
  case h_4 => cases h; exact exec_vrmaxStream
  case h_5 => cases h; exact exec_vrmin
  case h_6 => cases h; exact exec_vrminStream
  case h_7 => cases h

/-- The inputs that a reduction's guard selects. -/
def redActs (s : State) (p : BitVec 4) (vd : BitVec 6) (ty : BitVec 4) (wid : BitVec 2) : List Bool :=
  (List.range (count ty wid)).map (fun e => (me s).guardAt p (((partOf wid vd).off + e * tyBits ty.toNat) / 8))

/-- The inputs of a reduction. -/
def redElems (s : State) (v : VSrc) (ty : BitVec 4) (wid : BitVec 2) : List Nat :=
  (List.range (count ty wid)).map (fun e => el (tyBits ty.toNat) (vsrc s wid v) e)

theorem activeList_eq_redActs : (me s).activeList p (partOf wid vd) (tyBits ty.toNat) ((partOf wid vd).w / tyBits ty.toNat) = redActs s p vd ty wid := by
  rw [Thread.activeList, partOf_w]
  rfl

theorem velems_eq_redElems : velems wid (tyBits ty.toNat) (vsrc s wid v) = redElems s v ty wid := velems_eq _ _ _

/-- The issue of a reduction. -/
theorem vecRed_eq {r : Nat × Flags} (hr : r = reduce ty (me s).rm k (redActs s p vd ty wid) (redElems s v ty wid)) : vecRed k p v vd ty wid s =
    issue s true ((if (redActs s p vd ty wid).any id then srcCheck s v else .ok).andThen (flagTrap (me s) r.2)) (fun _ =>
      if (redActs s p vd ty wid).any id then (wholePart s wid vd r.1 (latFI ty) r.2).popSrc v else wholePart s wid vd r.1 (latFI ty) r.2) := by
  subst hr
  unfold vecRed
  simp only [show s.thread s.cur.u = me s from rfl, activeList_eq_redActs, velems_eq_redElems]
  refine issue_congr ?_ _ _
  simp only [show s.thread s.cur.u = me s from rfl, activeList_eq_redActs, result_wholePart]

/-- An integer sum is the sum of the selected inputs, wrapped (R406). -/
theorem reduce_int_sum {rm : RM} {n : Nat} (g : Nat → Bool) (h : Nat → Nat) (hf : tyF ty = false) :
    reduce ty rm 0 ((List.range n).map g) ((List.range n).map h) =
      (wrap 64 ((List.range n).foldl (fun a e => a + if ((List.range n).map g).getD e false then intOf ty.toNat (h e) else 0) 0), Flags.none) := by
  have hsum : (List.range n).foldl (fun a e => a + if ((List.range n).map g).getD e false then intOf ty.toNat (h e) else 0) 0 =
      (List.range n).foldl (fun a e => a + if g e then intOf ty.toNat (h e) else 0) 0 :=
    List.foldl_ext _ _ _ fun a e he => by rw [getD_map_range, if_pos (List.mem_range.mp he)]
  rw [reduce, if_pos rfl, hf, if_neg Bool.false_ne_true, hsum, List.zipWith_map, List.zipWith_self, List.foldl_map]
  rfl

end

/-! ### VNANP and the 32-bit VTRN (R410, R414) -/

section

variable {s : State} {p pd ty : BitVec 4} {va vd : BitVec 6} {wid : BitVec 2}

theorem exec_vnanp : exec (.vnanp p pd) s = execVnanp p pd s := rfl

/-- The words of a register that a guard selects. -/
def wordActs (s : State) (p : BitVec 4) : List Bool := (List.range 32).map (fun e => (me s).guardAt p (4 * e))

theorem activeList_eq_wordActs {d : Part} (h : d.off = 0) : (me s).activeList p d 32 32 = wordActs s p := by
  refine List.map_congr_left fun e _ => ?_
  rw [Thread.active, h, Nat.zero_add, show e * 32 = 8 * (4 * e) by omega, Nat.mul_div_cancel_left _ (Nat.zero_lt_succ 7)]

theorem activeList_register (f : BitVec 6) : (me s).activeList p (partOf 2#2 f) 32 32 = wordActs s p := activeList_eq_wordActs rfl

theorem execVnanp_eq : execVnanp p pd s = issue s ((wordActs s p).any id) .ok (fun _ =>
    s.result s.cur.u (.p pd.toNat) (BitVec.ofNat 1024 (maskOf 0 4 ((List.range 32).map (lastNanRow s).getLsbD)))
      (BitVec.ofNat 1024 (maskOf 0 4 (wordActs s p))) 2 0) := by
  unfold execVnanp
  simp only [show s.thread s.cur.u = me s from rfl, activeList_eq_wordActs]
  refine issue_congr ?_ _ _
  simp only [show s.thread s.cur.u = me s from rfl, activeList_eq_wordActs]

/-- Word e of the register pair that a 32-bit VTRN reads. -/
def pairWord (s : State) (va : BitVec 6) (e : Nat) : Nat :=
  if e < 32 then el 32 ((me s).rv va.toNat).toNat e else el 32 ((me s).rv (va.toNat + 1)).toNat (e - 32)

/-- Word e of the transposed pair. -/
def trnWord (s : State) (va : BitVec 6) (e : Nat) : Nat := pairWord s va (8 * (e % 8) + e / 8)

theorem pairWord_lt (e : Nat) : pairWord s va e % 2 ^ 32 = pairWord s va e := by
  rw [pairWord]
  split <;> exact el_mod _ _ _

theorem pairWords_eq : splitElems 32 32 ((me s).rv va.toNat).toNat ++ splitElems 32 32 ((me s).rv (va.toNat + 1)).toNat =
    (List.range 64).map (pairWord s va) := by
  rw [splitElems_eq, splitElems_eq, show 64 = 32 + 32 from rfl, List.range_add, List.map_append, List.map_map]
  refine congrArg₂ _ (List.map_congr_left fun e he => ?_) (List.map_congr_left fun e _ => ?_)
  · exact (if_pos (List.mem_range.mp he)).symm
  · simp [pairWord]

/-- One register of 32 words. -/
def wordsReg (g : Nat → Nat) : VReg := BitVec.ofNat 1024 (joinElems 32 ((List.range 32).map g))

theorem el_wordsReg {g : Nat → Nat} {e : Nat} (he : e < 32) : el 32 (wordsReg g).toNat e = g e % 2 ^ 32 := by
  have h := el_atPart (z := 32) (n := 32) (x := joinElems 32 ((List.range 32).map g)) { reg := 0, off := 0, w := 1024 } (by decide) he
  rw [← el_joinElems_range (Nat.zero_lt_succ 31) g he, ← h, atPart, Nat.pow_zero, Nat.mul_one, Nat.div_one, wordsReg]

theorem exec_vtrn32 (h : tyTrn32 ty = true) : exec (.vtrn p va vd ty wid) s = issue s ((wordActs s p).any id) .ok (fun _ =>
    (s.result s.cur.u (.v vd.toNat) (wordsReg (trnWord s va)) (BitVec.ofNat 1024 (maskOf 0 32 (wordActs s p))) 3 0).result s.cur.u (.v (vd.toNat + 1))
      (wordsReg (fun e => trnWord s va (32 + e))) (BitVec.ofNat 1024 (maskOf 0 32 (wordActs s p))) 3 0) := by
  rw [exec_vtrn, execVtrn, if_pos h]
  unfold vecTrn32
  simp only [show s.thread s.cur.u = me s from rfl, activeList_register]
  refine issue_congr ?_ _ _
  simp only [show s.thread s.cur.u = me s from rfl, activeList_register, pairWords_eq, transpose8_map_range, drop_map_range,
    take_map_range _ (by decide : 32 ≤ 64), result_cur]
  rfl

end

end Sys2Proof.Machine

open Sys2Proof Sys2Proof.Machine Sys2Proof.Claims in
/-- Settles O35: the issue of a reduction, by whether its guard selects an input. -/
theorem reductionResults : Obligations.ReductionResults := by
  unfold Obligations.ReductionResults
  intro s i k p v vd ty wid act r hi hact hr
  have hany : act.any id = true ↔ true ∈ act := by simp
  subst hact
  rw [exec_of_vredOf hi, vecRed_eq hr]
  refine ⟨fun hin hclear => ?_, fun hout hclear => ?_, fun hf hk => ?_⟩
  · have h : (redActs s p vd ty wid).any id = true := hany.mpr hin
    rw [h]
    exact issue_go s _ _ hclear
  · have h : (redActs s p vd ty wid).any id = false := Bool.eq_false_iff.mpr (hout ∘ hany.mp)
    rw [h]
    exact issue_go s _ _ hclear
  · subst hk
    exact hr.trans (reduce_int_sum _ _ hf)

open Sys2Proof Sys2Proof.Machine Sys2Proof.Claims in
/-- Settles O36: the words of a mask and of a transposed pair, place by place. -/
theorem nanMaskAndTranspose : Obligations.NanMaskAndTranspose := by
  unfold Obligations.NanMaskAndTranspose
  refine fun s => ⟨fun p pd hoff => ?_, fun p pd e he hon => ?_, fun p va vd ty wid hty hoff => ?_, fun p va vd ty wid e hty he hon => ?_⟩
  · rw [exec_vnanp, execVnanp_eq, wordActs, any_map_range_of_off hoff, issue_off]
  · rw [exec_vnanp, execVnanp_eq, wordActs, any_map_range_of_on he hon, issue_go s _ _ (.inr rfl)]
    refine ⟨_, _, rfl, fun j hj => ?_, fun j hj => ?_⟩
    · rw [getLsbD_maskOf_range (Nat.zero_lt_succ 3) _ _ _ (by omega)]
      simp [hj]
    · rw [getLsbD_maskOf_range (Nat.zero_lt_succ 3) _ _ _ hj]
      simp
  · rw [exec_vtrn32 hty, wordActs, any_map_range_of_off hoff, issue_off]
  · rw [exec_vtrn32 hty, wordActs, any_map_range_of_on he hon, issue_go s _ _ (.inr rfl)]
    refine ⟨_, _, _, rfl, fun j hj => ?_, fun r c hr hc src dst hsrc hdst => ?_⟩
    · rw [getLsbD_maskOf_range (Nat.zero_lt_succ 31) _ _ _ hj]
      simp [hj]
    · have hword : trnWord s va (8 * r + c) = src := by
        rw [hsrc, trnWord, show 8 * ((8 * r + c) % 8) + (8 * r + c) / 8 = 8 * c + r by omega]
        rfl
      rw [hdst]
      split
      · rw [el_wordsReg ‹_›, trnWord, pairWord_lt, ← trnWord, hword]
      · rw [el_wordsReg (by omega), trnWord, pairWord_lt, ← trnWord, show 32 + (8 * r + c - 32) = 8 * r + c by omega, hword]

namespace Sys2Proof.Machine

open Sys2Proof.Claims

/-! ## TLBI and WFE (R389, R390) -/

/-- A change of every entry that leaves the default as it is shows wherever the map is read. -/
theorem mget_map_apply {β : Type} {f : β → β} {d : β} (hd : f d = d) (m : SMap β) (i : Nat) :
    mget d (m.map (fun e => (e.1, f e.2))) i = f (mget d m i) := by
  induction m with
  | nil => exact hd.symm
  | cons e t ih =>
    rw [List.map_cons, mget, mget, ih]
    split <;> rfl

/-- The field that ends at bit 64 is the quotient. -/
theorem fld_top (x : W64) {lo len : Nat} (h : lo + len = 64) : fld x lo len = x.toNat / 2 ^ lo := by
  have hlt : x.toNat < 2 ^ lo * 2 ^ len := by rw [← Nat.pow_add, h]; exact x.isLt
  rw [fld_eq, Nat.mod_eq_of_lt (Nat.div_lt_of_lt_mul hlt)]

section

variable {s : State} {v : W64}

theorem tile_tlbiAll (k : Nat) : ((s.tlbiAll v).tile k).tlb = (s.tile k).tlb.filter (fun e => !tlbiHits v e) :=
  congrArg Tile.tlb (mget_map_apply (f := fun x : Tile => { x with tlb := x.tlb.filter (fun e => !tlbiHits v e) }) (d := Tile.init k) rfl s.tiles k)

theorem cluster_tlbiAll (k : Nat) : ((s.tlbiAll v).cluster k).tlb = (s.cluster k).tlb.filter (fun e => !tlbiHits v e) :=
  congrArg Cluster.tlb (mget_map_apply (f := fun x : Cluster => { x with tlb := x.tlb.filter (fun e => !tlbiHits v e) }) (d := Cluster.init) rfl s.clusters k)

theorem core_tlbiAll (k : Nat) : ((s.tlbiAll v).core k).tlb = (s.core k).tlb.filter (fun e => !tlbiHits v e) :=
  congrArg Core.tlb (mget_map_apply (f := fun x : Core => { x with tlb := x.tlb.filter (fun e => !tlbiHits v e) }) (d := Core.init) rfl s.cores k)

/-- What stays is what was there and is not named. -/
theorem mem_kept {l : List TlbE} (e : TlbE) : e ∈ l.filter (fun e => !tlbiHits v e) ↔ e ∈ l ∧ tlbiHits v e = false := by
  rw [List.mem_filter, Bool.not_eq_true']

/-- The tenant of TLBI's operand. -/
theorem tlbi_tenant : fld v 58 6 = v.toNat / 2 ^ 58 := fld_top v rfl

theorem tlbiCheck_ok (h56 : v.getLsbD 56 = false) (hlow : v.toNat % 2 ^ 16 = 0) (hall : v.getLsbD 57 = true → v.toNat / 2 ^ 16 % 2 ^ 40 = 0) :
    tlbiCheck v = .ok := by
  have h : (v.getLsbD 56 || decide (fld v 0 16 ≠ 0) || (v.getLsbD 57 && decide (fld v 16 40 ≠ 0))) = false := by
    rw [fld_low, fld_eq, h56, hlow]
    cases h57 : v.getLsbD 57
    · rfl
    · rw [hall h57]
      rfl
  rw [tlbiCheck, h]
  rfl

theorem tlbiCheck_fault (h : v.getLsbD 56 = true ∨ v.toNat % 2 ^ 16 ≠ 0 ∨ (v.getLsbD 57 = true ∧ v.toNat / 2 ^ 16 % 2 ^ 40 ≠ 0)) :
    tlbiCheck v = .fault 0x06#7 0 := by
  have h : (v.getLsbD 56 || decide (fld v 0 16 ≠ 0) || (v.getLsbD 57 && decide (fld v 16 40 ≠ 0))) = true := by
    rw [fld_low, fld_eq]
    simpa [or_assoc] using h
  rw [tlbiCheck, h]
  rfl

theorem exec_tlbi {g : BitVec 6} : exec (.tlbi g) s = issue s true
    ((tlbiCheck (gr s g)).andThen (if s.tlbiBusy (fld (gr s g) 58 6) then .held .tlbi else .ok)) (fun s' => s'.tlbiAll (gr s g)) := rfl

theorem exec_wfe : exec .wfe s = execWfe s := rfl

end

end Sys2Proof.Machine

open Sys2Proof Sys2Proof.Machine Sys2Proof.Claims in
/-- Settles O22: every holder of translations keeps those of its entries that TLBI does not name. -/
theorem tlbiAndWfe : Obligations.TlbiAndWfe := by
  unfold Obligations.TlbiAndWfe
  refine fun s => ⟨fun g v hv h56 hlow hall hbusy => ?_, fun g v hv hc hbad => ?_, fun hf => ?_⟩
  · subst hv
    have hcheck : (tlbiCheck (gr s g)).andThen (if s.tlbiBusy (fld (gr s g) 58 6) then .held .tlbi else .ok) = .ok := by
      rw [tlbiCheck_ok h56 hlow hall, tlbi_tenant, hbusy]
      rfl
    rw [exec_tlbi, issue_go s _ _ (.inr hcheck)]
    exact ⟨_, rfl, fun k e => by rw [tile_tlbiAll, mem_kept], fun k e => by rw [cluster_tlbiAll, mem_kept],
      fun k e => by rw [core_tlbiAll, mem_kept], rfl, rfl⟩
  · subst hv
    rw [exec_tlbi, tlbiCheck_fault hbad]
    exact issue_refuse s _ _ hc Verdict.noConfusion Verdict.noConfusion
  · rw [exec_wfe, execWfe, issue_go s _ _ (.inr rfl), hf]
    rfl

namespace Sys2Proof.Machine

open Sys2Proof.Claims

/-! ## Spill loads and stores (R366) -/

@[simp] theorem length_toBytes : ∀ n x, (toBytes n x).length = n
  | 0, _ => rfl
  | n + 1, x => congrArg (· + 1) (length_toBytes n (x / 256))

/-- Byte k of a number. -/
theorem getElem_toBytes : ∀ n x k (h : k < (toBytes n x).length), (toBytes n x)[k] = BitVec.ofNat 8 (x / 256 ^ k)
  | 0, _, _, h => absurd h (Nat.not_lt_zero _)
  | n + 1, x, 0, _ => by simp [toBytes]
  | n + 1, x, k + 1, h => by
    change (toBytes n (x / 256))[k]'(Nat.lt_of_succ_lt_succ h) = _
    rw [getElem_toBytes n (x / 256) k (Nat.lt_of_succ_lt_succ h), Nat.div_div_eq_div_mul, Nat.pow_succ']

theorem mread_eq {β : Type} (d : β) (m : SMap β) : ∀ n i, mread d m i n = (List.range n).map (fun k => mget d m (i + k))
  | 0, _ => rfl
  | n + 1, i => by
    rw [mread, mread_eq d m n, List.range_succ_eq_map, List.map_cons, List.map_map]
    exact congrArg _ (List.map_congr_left fun k _ => congrArg _ (by omega))

section

variable {s : State} {p : BitVec 4} {off : BitVec 12} {r : BitVec 6} {n : Nat} {i : Instr}

theorem exec_ldsB : exec (.ldsB p off r) s = spillLoad 1 p off r s := rfl
theorem exec_ldsH : exec (.ldsH p off r) s = spillLoad 2 p off r s := rfl
theorem exec_ldsW : exec (.ldsW p off r) s = spillLoad 4 p off r s := rfl
theorem exec_ldsD : exec (.ldsD p off r) s = spillLoad 8 p off r s := rfl
theorem exec_stsB : exec (.stsB p off r) s = spillStore 1 p off r s := rfl
theorem exec_stsH : exec (.stsH p off r) s = spillStore 2 p off r s := rfl
theorem exec_stsW : exec (.stsW p off r) s = spillStore 4 p off r s := rfl
theorem exec_stsD : exec (.stsD p off r) s = spillStore 8 p off r s := rfl

/-- A spill access is of a size that divides the spill memory's. -/
theorem exec_of_spillLoadOf (h : spillLoadOf i = some (n, p, off, r)) : exec i s = spillLoad n p off r s ∧ n ∣ 8 := by
  unfold spillLoadOf at h
  split at h
  case h_1 => cases h; exact ⟨exec_ldsB, by decide⟩
  case h_2 => cases h; exact ⟨exec_ldsH, by decide⟩
  case h_3 => cases h; exact ⟨exec_ldsW, by decide⟩
  case h_4 => cases h; exact ⟨exec_ldsD, by decide⟩
  case h_5 => cases h

theorem exec_of_spillStoreOf (h : spillStoreOf i = some (n, p, off, r)) : exec i s = spillStore n p off r s ∧ n ∣ 8 := by
  unfold spillStoreOf at h
  split at h
  case h_1 => cases h; exact ⟨exec_stsB, by decide⟩
  case h_2 => cases h; exact ⟨exec_stsH, by decide⟩
  case h_3 => cases h; exact ⟨exec_stsW, by decide⟩
  case h_4 => cases h; exact ⟨exec_stsD, by decide⟩
  case h_5 => cases h

/-- An aligned offset leaves room for its access. -/
theorem spill_fits (hn : n ∣ 8) (ha : off.toNat % n = 0) : off.toNat + n ≤ Config.spillSize := by
  obtain ⟨a, ha⟩ := Nat.dvd_of_mod_eq_zero ha
  obtain ⟨b, hb⟩ : n ∣ Config.spillSize := hn.trans (by decide)
  have hlt := off.isLt
  have hab : n * a < n * b := by rw [← ha, ← hb]; exact hlt
  rw [ha, hb, ← Nat.mul_succ]
  exact Nat.mul_le_mul_left n (Nat.lt_of_mul_lt_mul_left hab)

theorem spillCheck_of_aligned (hn : n ∣ 8) (ha : off.toNat % n = 0) : spillCheck off n = .ok := by
  simp [spillCheck, ha, Nat.not_lt.mpr (spill_fits hn ha)]

theorem spillCheck_of_misaligned (ha : off.toNat % n ≠ 0) : spillCheck off n = .fault 0x24#7 0 := by
  rw [spillCheck, decide_eq_true ha]
  cases decide (Config.spillSize < off.toNat + n)
  · rfl
  · rfl

theorem spillLoad_eq : spillLoad n p off r s = issue s ((me s).guard p) (spillCheck off n) (fun s' =>
    s'.result64 s'.cur.u (.g r.toNat) (BitVec.ofNat 64 (ofBytes (mread 0 s'.curCtx.spill off.toNat n))) 1) := rfl

theorem spillStore_eq : spillStore n p off r s = issue s ((me s).guard p) (spillCheck off n) (fun s' =>
    s'.modCtx (unitTile s'.cur.u) (unitCtx s'.cur.u) (fun y =>
      { y with spill := mwrite 0 y.spill off.toNat (toBytes n ((me s').rg r.toNat).toNat) })) := rfl

end

end Sys2Proof.Machine

open Sys2Proof Sys2Proof.Machine Sys2Proof.Claims in
/-- Settles O27: the spill memory is read and written byte by byte; an aligned access fits in it. -/
theorem spillResults : Obligations.SpillResults := by
  unfold Obligations.SpillResults
  rintro s y rfl
  refine ⟨fun i n p off r hi => ?_, fun i n p off r hi => ?_⟩
  · obtain ⟨hexec, hn⟩ := exec_of_spillLoadOf (s := s) hi
    rw [hexec, spillLoad_eq]
    refine ⟨fun hp => ?_, fun hp ha => ?_, fun hp hc ha => ?_⟩
    · rw [hp, issue_off]
    · rw [hp, issue_go s _ _ (.inr (spillCheck_of_aligned hn ha)), mread_eq]
      rfl
    · rw [hp, spillCheck_of_misaligned ha, issue_refuse s _ _ hc Verdict.noConfusion Verdict.noConfusion]
  · obtain ⟨hexec, hn⟩ := exec_of_spillStoreOf (s := s) hi
    rw [hexec, spillStore_eq]
    refine ⟨fun hp => ?_, fun hp ha => ?_, fun hp hc ha => ?_⟩
    · rw [hp, issue_off]
    · rw [hp, issue_go s _ _ (.inr (spillCheck_of_aligned hn ha))]
      refine ⟨_, rfl, fun b hb => ?_, fun k hk => ?_⟩
      · exact mget_mwrite_out _ _ _ _ _ (by rwa [length_toBytes])
      · rw [mget_mwrite_in _ _ _ _ _ (by rwa [length_toBytes]), getElem_toBytes]
        rfl
    · rw [hp, spillCheck_of_misaligned ha, issue_refuse s _ _ hc Verdict.noConfusion Verdict.noConfusion]

namespace Sys2Proof.Machine

open Sys2Proof.Claims

/-! ## LDX and STX (R363, R367, R368) -/

section

variable {s : State} {i : Instr} {n : Nat} {p : BitVec 4} {off : BitVec 12} {m : BitVec 4} {r : BitVec 6} {q : BitVec 3} {g : Bool} {lanes : PReg}

theorem exec_ldxD : exec (.ldxD p off m q) s = ldxOp 8 ((me s).guard p) (fun _ => BitVec.allOnes 128) off m q s := rfl
theorem exec_ldxV256 : exec (.ldxV256 p off m q) s = ldxOp 32 true (Thread.laneMask p) off m q s := rfl
theorem exec_ldxV512 : exec (.ldxV512 p off m q) s = ldxOp 64 true (Thread.laneMask p) off m q s := rfl
theorem exec_ldxV1024 : exec (.ldxV1024 p off m q) s = ldxOp 128 true (Thread.laneMask p) off m q s := rfl
theorem exec_stxV256 : exec (.stxV256 p off m r) s = stxOp 32 p off m r s := rfl
theorem exec_stxV512 : exec (.stxV512 p off m r) s = stxOp 64 p off m r s := rfl
theorem exec_stxV1024 : exec (.stxV1024 p off m r) s = stxOp 128 p off m r s := rfl

theorem exec_stxD : exec (.stxD p off m r) s = issue s ((me s).guard p) (s.gTarget m off 8 .write).verdict (fun s' =>
    s'.pushRemote .stx ((me s').lAddr m off 8) (s'.gTarget m off 8 .write).pa 8 (s'.gTarget m off 8 .write).tscope ((gr s' r).setWidth 1024) 0
      (BitVec.allOnes 128)) := rfl

/-- An LDX is one of its sizes, with its lanes as the thread in hand gives them. -/
theorem exec_of_ldxOf (h : ldxOf s i = some (n, g, lanes, off, m, q)) : ∃ l : Thread → PReg, l (me s) = lanes ∧ exec i s = ldxOp n g l off m q s := by
  unfold ldxOf at h
  split at h
  case h_1 => cases h; exact ⟨_, rfl, exec_ldxD⟩
  case h_2 => cases h; exact ⟨_, rfl, exec_ldxV256⟩
  case h_3 => cases h; exact ⟨_, rfl, exec_ldxV512⟩
  case h_4 => cases h; exact ⟨_, rfl, exec_ldxV1024⟩
  case h_5 => cases h

theorem exec_of_stxOf (h : stxOf i = some (n, p, off, m, r)) : exec i s = stxOp n p off m r s ∧ (n = 32 ∨ n = 64 ∨ n = 128) := by
  unfold stxOf at h
  split at h
  case h_1 => cases h; exact ⟨exec_stxV256, by decide⟩
  case h_2 => cases h; exact ⟨exec_stxV512, by decide⟩
  case h_3 => cases h; exact ⟨exec_stxV1024, by decide⟩
  case h_4 => cases h

theorem ldxOp_eq (l : Thread → PReg) : ldxOp n g l off m q s = issue s g ((s.gTarget m off n .read).verdict.both (fullStream s q.toNat)) (fun s' =>
    s'.pushRemote (.ldx q.toNat) ((me s').lAddr m off n) (s'.gTarget m off n .read).pa n (s'.gTarget m off n .read).tscope 0 0 (l (me s'))) := rfl

theorem stxOp_eq : stxOp n p off m r s = issue s (decide (storeLanes (me s) p n r ≠ 0)) (s.gTarget m off n .write).verdict (fun s' =>
    s'.pushRemote .stx ((me s').lAddr m off n) (s'.gTarget m off n .write).pa n (s'.gTarget m off n .write).tscope
      (BitVec.ofNat 1024 ((me s').part (lPart n r))) 0 (storeLanes (me s') p n r)) := rfl

/-- The part of a vector access, by its first byte (R319). -/
theorem lPart_eq (hn : n = 32 ∨ n = 64 ∨ n = 128) (r : BitVec 6) : lPart n r = { reg := partReg n r, off := 8 * partByte n r, w := 8 * n } := by
  rcases hn with rfl | rfl | rfl
  · simp [lPart, partOf, partReg, partByte]; omega
  · simp [lPart, partOf, partReg, partByte]; omega
  · simp [lPart, partOf, partReg, partByte]

theorem laneList_eq (hn : n = 32 ∨ n = 64 ∨ n = 128) : laneList (me s) p (lPart n r) n = (List.range n).map (laneOn s p n r) := by
  rw [laneList, lPart_eq hn, Nat.mul_div_cancel_left _ (Nat.zero_lt_succ 7)]
  rfl

/-- Lane k of a vector store. -/
theorem getLsbD_storeLanes (hn : n = 32 ∨ n = 64 ∨ n = 128) {k : Nat} (hk : k < 128) :
    (storeLanes (me s) p n r).getLsbD k = (decide (k < n) && laneOn s p n r k) := by
  rw [storeLanes, laneList_eq hn, BitVec.getLsbD_ofNat, testBit_maskOf_range Nat.one_pos]
  simp [hk]

theorem storeLanes_eq_zero (hn : n = 32 ∨ n = 64 ∨ n = 128) (hoff : ∀ k < n, laneOn s p n r k = false) : storeLanes (me s) p n r = 0 := by
  refine BitVec.eq_of_getLsbD_eq fun k hk => ?_
  rw [getLsbD_storeLanes hn hk]
  by_cases h : k < n <;> simp [h, hoff]

theorem storeLanes_ne_zero (hn : n = 32 ∨ n = 64 ∨ n = 128) {k : Nat} (hk : k < n) (hon : laneOn s p n r k = true) : storeLanes (me s) p n r ≠ 0 := by
  intro h
  have hk' : k < 128 := by omega
  have hbit := getLsbD_storeLanes (s := s) (p := p) (r := r) hn hk'
  rw [h, hon] at hbit
  simp [hk] at hbit

/-- The register part that a vector store sends, as bytes. -/
theorem part_lPart (hn : n = 32 ∨ n = 64 ∨ n = 128) :
    (me s).part (lPart n r) = ((me s).rv (partReg n r)).toNat / 256 ^ partByte n r % 256 ^ n := by
  rw [Thread.part, lPart_eq hn, fld_eq, Nat.pow_mul, Nat.pow_mul]

end

/-! ### The checks of a global address (R363) -/

section

variable {s : State} {u : UnitId} {scope : Nat} {a : W64} {size : Nat} {acc : Acc}

/-- The checks of a global address before its translation. -/
def formChecks (s : State) (u : UnitId) (scope : Nat) (a : W64) (size : Nat) : Verdict :=
  (s.gaChecks (unitTile u) scope a).andThen (faultIf (decide (a.toNat % size ≠ 0)) 0x24#7)

/-- A fault of the checks before the translation is what the target comes to. -/
theorem target_of_fault {c : Cause} {f : W64} (h : formChecks s u scope a size = .fault c f) : (s.target u scope a size acc).verdict = .fault c f := by
  simp only [State.target]
  rw [show (s.gaChecks (unitTile u) scope a).andThen (faultIf (decide (a.toNat % size ≠ 0)) 0x24#7) = .fault c f from h]
  split
  next => rfl
  next => split <;> rfl

/-- A tile address needs no translation. -/
theorem target_of_tile (ht : gaTile a = true) : (s.target u scope a size acc).verdict = formChecks s u scope a size := by
  simp only [State.target, ht, if_true]
  rfl

variable (s u scope a) in
/-- The checks of form, scope and peer that pass. -/
theorem gaChecks_ok (hf : gaFormOk a = true) (hs : gaScope (unitTile u) a ≤ scope)
    (hp : gaTile a = true → gaPeer a ≠ 0 → (s.port (gaPeer a - 1)).up = true) : s.gaChecks (unitTile u) scope a = .ok := by
  have hpeer : (gaTile a && decide (gaPeer a ≠ 0) && !(s.port (gaPeer a - 1)).up) = false := by
    by_cases ht : gaTile a = true
    · by_cases h0 : gaPeer a = 0
      · simp [h0]
      · simp [hp ht h0]
    · simp [ht]
  rw [State.gaChecks, hf, decide_eq_false (Nat.not_lt.mpr hs), hpeer]
  rfl

theorem formChecks_of_form (hf : gaFormOk a = false) : formChecks s u scope a size = .fault 0x2C#7 0 := by
  rw [formChecks, State.gaChecks, hf]
  rfl

theorem formChecks_of_scope (hf : gaFormOk a = true) (hs : scope < gaScope (unitTile u) a) : formChecks s u scope a size = .fault 0x2D#7 0 := by
  rw [formChecks, State.gaChecks, hf, decide_eq_true hs]
  rfl

theorem formChecks_of_peer (hf : gaFormOk a = true) (hs : gaScope (unitTile u) a ≤ scope) (ht : gaTile a = true) (h0 : gaPeer a ≠ 0)
    (hp : (s.port (gaPeer a - 1)).up = false) : formChecks s u scope a size = .fault 0x3A#7 0 := by
  rw [formChecks, State.gaChecks, hf, decide_eq_false (Nat.not_lt.mpr hs), ht, decide_eq_true h0, hp]
  rfl

theorem formChecks_of_passed (h : s.gaChecks (unitTile u) scope a = .ok) :
    formChecks s u scope a size = faultIf (decide (a.toNat % size ≠ 0)) 0x24#7 := by
  rw [formChecks, h]
  rfl

/-- The zero fields and the ranges of a tile address's legal form (R362). -/
theorem gaFormOk_tile (ht : gaTile a = true) (hf : gaFormOk a = true) :
    gaPeer a ≤ 48 ∧ gaTileNo a < 2304 ∧ a.toNat / 2 ^ 52 % 2 ^ 11 = 0 ∧ a.toNat / 2 ^ 20 % 2 ^ 12 = 0 := by
  rw [gaFormOk, ht, if_pos rfl] at hf
  simp only [Bool.and_eq_true, decide_eq_true_eq, fld_eq] at hf
  obtain ⟨⟨⟨h52, h20⟩, hpeer⟩, htile⟩ := hf
  exact ⟨hpeer, htile, h52, h20⟩

theorem gaFormOk_device (ht : gaTile a = false) (hf : gaFormOk a = true) : a.toNat / 2 ^ 56 % 2 ^ 7 = 0 := by
  rw [gaFormOk, ht, if_neg Bool.false_ne_true, decide_eq_true_eq, fld_eq] at hf
  exact hf

end

end Sys2Proof.Machine

open Sys2Proof Sys2Proof.Machine Sys2Proof.Claims in
/-- Settles O29: each access issues as one more of its context's; the checks of its address are read off in their order. -/
theorem remoteAccessesIssue : Obligations.RemoteAccessesIssue := by
  unfold Obligations.RemoteAccessesIssue
  refine ⟨fun s => ⟨?ldx, ?stxD, ?stx⟩, fun s u scope a size acc v hv => ?checks⟩
  case ldx =>
    rintro i n g lanes off m q a x hi rfl rfl
    obtain ⟨l, hl, hexec⟩ := exec_of_ldxOf hi
    subst hl
    rw [hexec, ldxOp_eq]
    refine ⟨fun hg => ?_, fun hg (hclear : Clear s ((s.gTarget m off n .read).verdict.both (fullStream s q.toNat))) => ?_⟩
    · rw [hg, issue_off]
    · rw [hg, issue_go s _ _ hclear]
      exact ⟨_, rfl, pushRemote_adds ..⟩
  case stxD =>
    rintro p off m r a x rfl rfl
    rw [exec_stxD]
    refine ⟨fun hg => ?_, fun hg (hclear : Clear s (s.gTarget m off 8 .write).verdict) => ?_⟩
    · rw [hg, issue_off]
    · rw [hg, issue_go s _ _ hclear]
      exact ⟨_, rfl, pushRemote_adds ..⟩
  case stx =>
    rintro i n p off m r a x hi rfl rfl
    obtain ⟨hexec, hn⟩ := exec_of_stxOf (s := s) hi
    rw [hexec, stxOp_eq]
    refine ⟨fun hoff => ?_, fun k hk hon (hclear : Clear s (s.gTarget m off n .write).verdict) => ?_⟩
    · rw [decide_eq_false (not_not.mpr (storeLanes_eq_zero hn hoff)), issue_off]
    · rw [decide_eq_true (storeLanes_ne_zero hn hk hon), issue_go s _ _ hclear, part_lPart hn]
      exact ⟨_, _, rfl, pushRemote_adds .., fun k hk => getLsbD_storeLanes hn hk⟩
  case checks =>
    subst hv
    refine ⟨fun hf => target_of_fault (formChecks_of_form hf), fun hf hs => target_of_fault (formChecks_of_scope hf hs),
      fun hf hs ht h0 hp => target_of_fault (formChecks_of_peer hf hs ht h0 hp), fun hf hs hp => ?_, gaFormOk_tile, gaFormOk_device⟩
    have hpass := formChecks_of_passed (size := size) (gaChecks_ok s u scope a hf hs hp)
    refine ⟨fun ha => target_of_fault ?_, fun ha ht => ?_⟩
    · rw [hpass, decide_eq_true ha]
      rfl
    · rw [target_of_tile ht, hpass, decide_eq_false (not_not.mpr ha)]
      rfl

namespace Sys2Proof.Machine

open Sys2Proof.Claims

/-! ## Atomics (R362, R364, R370, R371) -/

section

variable {s : State} {i : Instr} {op : AtmOp} {n : Nat} {p : BitVec 4} {off : BitVec 12} {m : BitVec 4} {r : BitVec 6} {f : Nat → Nat → Nat → Nat}

theorem exec_atmAddW : exec (.atmAddW p off m r) s = atmOp .add 4 p off m r s := rfl
theorem exec_atmAndW : exec (.atmAndW p off m r) s = atmOp .and 4 p off m r s := rfl
theorem exec_atmOrW : exec (.atmOrW p off m r) s = atmOp .or 4 p off m r s := rfl
theorem exec_atmXorW : exec (.atmXorW p off m r) s = atmOp .xor 4 p off m r s := rfl
theorem exec_atmSwpW : exec (.atmSwpW p off m r) s = atmOp .swp 4 p off m r s := rfl
theorem exec_atmCasW : exec (.atmCasW p off m r) s = atmOp .cas 4 p off m r s := rfl
theorem exec_atmMinW : exec (.atmMinW p off m r) s = atmOp .min 4 p off m r s := rfl
theorem exec_atmMaxW : exec (.atmMaxW p off m r) s = atmOp .max 4 p off m r s := rfl
theorem exec_atmAdd : exec (.atmAdd p off m r) s = atmOp .add 8 p off m r s := rfl
theorem exec_atmAnd : exec (.atmAnd p off m r) s = atmOp .and 8 p off m r s := rfl
theorem exec_atmOr : exec (.atmOr p off m r) s = atmOp .or 8 p off m r s := rfl
theorem exec_atmXor : exec (.atmXor p off m r) s = atmOp .xor 8 p off m r s := rfl
theorem exec_atmSwp : exec (.atmSwp p off m r) s = atmOp .swp 8 p off m r s := rfl
theorem exec_atmCas : exec (.atmCas p off m r) s = atmOp .cas 8 p off m r s := rfl
theorem exec_atmMin : exec (.atmMin p off m r) s = atmOp .min 8 p off m r s := rfl
theorem exec_atmMax : exec (.atmMax p off m r) s = atmOp .max 8 p off m r s := rfl
theorem exec_atmFmaxF32 : exec (.atmFmaxF32 p off m r) s = atmOp .fmaxF32 4 p off m r s := rfl
theorem exec_atmFmaxBf16 : exec (.atmFmaxBf16 p off m r) s = atmOp .fmaxBf16 2 p off m r s := rfl
theorem exec_atmFmaxF16 : exec (.atmFmaxF16 p off m r) s = atmOp .fmaxF16 2 p off m r s := rfl

/-- An atomic of the table is its operation at its size, which combines its operands as the table says. -/
structure IsAtm (i : Instr) (op : AtmOp) (n : Nat) (p : BitVec 4) (off : BitVec 12) (m : BitVec 4) (r : BitVec 6) (f : Nat → Nat → Nat → Nat) : Prop where
  exec_eq : ∀ s, exec i s = atmOp op n p off m r s
  combine_eq : ∀ old v w, op.combine (8 * n) old v w = f old v w
  ne_dec : op ≠ .dec
  size : n = 2 ∨ n = 4 ∨ n = 8

theorem isAtm_of_atmOf (h : atmOf i = some (op, n, p, off, m, r, f)) : IsAtm i op n p off m r f := by
  unfold atmOf at h
  split at h
  case h_1 => cases h; exact ⟨fun _ => exec_atmAddW, fun _ _ _ => rfl, AtmOp.noConfusion, by decide⟩
  case h_2 => cases h; exact ⟨fun _ => exec_atmAndW, fun _ _ _ => rfl, AtmOp.noConfusion, by decide⟩
  case h_3 => cases h; exact ⟨fun _ => exec_atmOrW, fun _ _ _ => rfl, AtmOp.noConfusion, by decide⟩
  case h_4 => cases h; exact ⟨fun _ => exec_atmXorW, fun _ _ _ => rfl, AtmOp.noConfusion, by decide⟩
  case h_5 => cases h; exact ⟨fun _ => exec_atmSwpW, fun _ _ _ => rfl, AtmOp.noConfusion, by decide⟩
  case h_6 => cases h; exact ⟨fun _ => exec_atmCasW, fun _ _ _ => rfl, AtmOp.noConfusion, by decide⟩
  case h_7 => cases h; exact ⟨fun _ => exec_atmMinW, fun _ _ _ => rfl, AtmOp.noConfusion, by decide⟩
  case h_8 => cases h; exact ⟨fun _ => exec_atmMaxW, fun _ _ _ => rfl, AtmOp.noConfusion, by decide⟩
  case h_9 => cases h; exact ⟨fun _ => exec_atmAdd, fun _ _ _ => rfl, AtmOp.noConfusion, by decide⟩
  case h_10 => cases h; exact ⟨fun _ => exec_atmAnd, fun _ _ _ => rfl, AtmOp.noConfusion, by decide⟩
  case h_11 => cases h; exact ⟨fun _ => exec_atmOr, fun _ _ _ => rfl, AtmOp.noConfusion, by decide⟩
  case h_12 => cases h; exact ⟨fun _ => exec_atmXor, fun _ _ _ => rfl, AtmOp.noConfusion, by decide⟩
  case h_13 => cases h; exact ⟨fun _ => exec_atmSwp, fun _ _ _ => rfl, AtmOp.noConfusion, by decide⟩
  case h_14 => cases h; exact ⟨fun _ => exec_atmCas, fun _ _ _ => rfl, AtmOp.noConfusion, by decide⟩
  case h_15 => cases h; exact ⟨fun _ => exec_atmMin, fun _ _ _ => rfl, AtmOp.noConfusion, by decide⟩
  case h_16 => cases h; exact ⟨fun _ => exec_atmMax, fun _ _ _ => rfl, AtmOp.noConfusion, by decide⟩
  case h_17 => cases h; exact ⟨fun _ => exec_atmFmaxF32, fun _ _ _ => rfl, AtmOp.noConfusion, by decide⟩
  case h_18 => cases h; exact ⟨fun _ => exec_atmFmaxBf16, fun _ _ _ => rfl, AtmOp.noConfusion, by decide⟩
  case h_19 => cases h; exact ⟨fun _ => exec_atmFmaxF16, fun _ _ _ => rfl, AtmOp.noConfusion, by decide⟩
  case h_20 => cases h

theorem atmOp_eq : atmOp op n p off m r s = issue s ((me s).guard p) (atmCheck n off m s) (fun s' =>
    if unitIsCore s'.cur.u then atmCore op n off m r s' else if s'.cur.scope = 0 then atmLocal op n off m r s' else atmRemote op n off m r s') := rfl

theorem atmCheck_core (hu : unitIsCore s.cur.u = true) : atmCheck n off m s = (s.vaccess s.cur.u ((me s).lAddr m off n) n .update).verdict := if_pos hu

theorem atmCheck_local (hu : unitIsCore s.cur.u = false) (hs : s.cur.scope = 0) : atmCheck n off m s = (s.local s.cur.u m off n true).verdict :=
  (if_neg (Bool.eq_false_iff.mp hu)).trans (if_pos hs)

theorem atmCheck_remote (hu : unitIsCore s.cur.u = false) (hs : s.cur.scope ≠ 0) : atmCheck n off m s = (s.gTarget m off n .update).verdict :=
  (if_neg (Bool.eq_false_iff.mp hu)).trans (if_neg hs)

theorem atmOp_core (hp : (me s).guard p = true) (hu : unitIsCore s.cur.u = true)
    (hc : Clear s (s.vaccess s.cur.u ((me s).lAddr m off n) n .update).verdict) : atmOp op n p off m r s = .next (atmCore op n off m r s) := by
  rw [atmOp_eq, hp, atmCheck_core hu, issue_go s _ _ hc, if_pos hu]

theorem atmOp_local (hp : (me s).guard p = true) (hu : unitIsCore s.cur.u = false) (hs : s.cur.scope = 0)
    (hc : Clear s (s.local s.cur.u m off n true).verdict) : atmOp op n p off m r s = .next (atmLocal op n off m r s) := by
  rw [atmOp_eq, hp, atmCheck_local hu hs, issue_go s _ _ hc, if_neg (Bool.eq_false_iff.mp hu), if_pos hs]

theorem atmOp_remote (hp : (me s).guard p = true) (hu : unitIsCore s.cur.u = false) (hs : s.cur.scope ≠ 0)
    (hc : Clear s (s.gTarget m off n .update).verdict) : atmOp op n p off m r s = .next (atmRemote op n off m r s) := by
  rw [atmOp_eq, hp, atmCheck_remote hu hs, issue_go s _ _ hc, if_neg (Bool.eq_false_iff.mp hu), if_neg hs]

/-! ### At its home -/

theorem fullLanes_allOnes (hn : n = 2 ∨ n = 4 ∨ n = 8) : fullLanes n (BitVec.allOnes 128) = true := by
  rcases hn with rfl | rfl | rfl <;> decide

variable {tn pa data data2 : Nat} {a : W64} {k : RKind} {lanes : PReg}

/-- An access that its home refuses has no effect there but the record of an uncorrectable line (R31, R364). -/
theorem atHome_of_fails {c : Cause} (h : s.homeFails tn k a pa n (fullLanes n lanes) = some c) : s.atHome tn k a pa n data data2 lanes =
    { st := if gaTile a then s else s.failedAt c pa, val := 0, fail := some c, cont := none } := by
  unfold State.atHome
  rw [h]

/-- An atomic that its home takes writes its new value and returns the old in one step (R370). -/
theorem atHome_atm (hop : op ≠ .dec) {q : Nat} (h : s.homeFails tn (.atm op q) a pa n (fullLanes n lanes) = none) :
    s.atHome tn (.atm op q) a pa n data data2 lanes =
      { st := s.homeWrite a pa n (op.combine (8 * n) (s.homeRead a pa n) (data % 2 ^ (8 * n)) (data2 % 2 ^ (8 * n))) lanes,
        val := s.homeRead a pa n, fail := none, cont := none } := by
  unfold State.atHome
  rw [h]
  cases op
  case dec => exact absurd rfl hop
  all_goals rfl

end

end Sys2Proof.Machine

open Sys2Proof Sys2Proof.Machine Sys2Proof.Claims in
/-- Settles O30: an atomic acts by the unit and the scope it issues at, and at its home by whether its target's checks pass. -/
theorem atomics : Obligations.Atomics := by
  unfold Obligations.Atomics
  refine ⟨?issues, ?home⟩
  case issues =>
    rintro s i op n p off m r f a v w hi rfl rfl rfl
    have hatm := isAtm_of_atmOf hi
    rw [hatm.exec_eq]
    refine ⟨fun hg => ?off, ?loc, ?remote, ?core⟩
    case off => rw [atmOp_eq, hg, issue_off]
    case loc =>
      rintro x old hg hu hs rfl hclear rfl
      rw [atmOp_local hg hu hs hclear, ← hatm.combine_eq]
      rfl
    case remote =>
      rintro x hg hu hs rfl hclear
      rw [atmOp_remote hg hu hs hclear]
      exact ⟨_, rfl, pushRemote_adds ..⟩
    case core =>
      rintro x hg hu rfl hclear
      rw [atmOp_core hg hu hclear, ← hatm.combine_eq]
      rfl
  case home =>
    rintro s i op n p off m r f tn a pa v w hi h rfl
    have hatm := isAtm_of_atmOf hi
    refine ⟨fun hpass => ?_, fun c hfail => ?_⟩
    · rw [← fullLanes_allOnes hatm.size] at hpass
      rw [atHome_atm hatm.ne_dec hpass, hatm.combine_eq]
      exact ⟨rfl, rfl, rfl⟩
    · rw [← fullLanes_allOnes hatm.size] at hfail
      rw [atHome_of_fails hfail]
      refine ⟨rfl, rfl, fun ht => if_pos ht, fun ht => if_neg (Bool.eq_false_iff.mp ht), fun hc => ?_⟩
      dsimp only
      split
      · rfl
      · exact failedAt_of_ne hc pa

namespace Sys2Proof.Machine

open Sys2Proof.Claims

/-! ## SQBIND (R453) -/

section

variable {s : State} {q : BitVec 3} {g : BitVec 6}

/-- The stream that SQBIND names. -/
def boundStream (s : State) (q : BitVec 3) : Stream := mget Stream.init (s.ctx (unitTile s.cur.u) (unitCtx s.cur.u)).q q.toNat

/-- What an SQBIND checks: its operand, and the stream where its kind is to change. -/
def bindCheck (s : State) (q : BitVec 3) (v : W64) : Verdict :=
  (reservedIf (decide (fld v 2 62 ≠ 0))).both
    (faultIf (!decide (BitVec.ofNat 2 v.toNat = (boundStream s q).kind) && (pad s).streamBusy (unitCtx s.cur.u) q.toNat) 0x38#7)

theorem exec_sqbind : exec (.sqbind q g) s = issue s true (bindCheck s q (gr s g)) (fun s' =>
    (s'.modCtx (unitTile s'.cur.u) (unitCtx s'.cur.u) (fun y => if decide (BitVec.ofNat 2 (gr s g).toNat = (boundStream s q).kind) then y
      else y.setStream q.toNat { y.stream q.toNat with kind := BitVec.ofNat 2 (gr s g).toNat })).counted (unitTile s'.cur.u) 1) := rfl

theorem ctx_counted (t n u c : Nat) : (s.counted t n).ctx u c = s.ctx u c := rfl

theorem thread_counted (t n : Nat) (u : UnitId) : (s.counted t n).thread u = s.thread u := rfl

variable {v : W64}

theorem reserved_of_small (h : v.toNat < 4) : fld v 2 62 = 0 := by
  rw [fld_eq]
  omega

theorem reserved_of_large (h : 4 ≤ v.toNat) : fld v 2 62 ≠ 0 := by
  rw [fld_eq]
  have := v.isLt
  omega

/-- A small operand names the kind that it is the number of. -/
theorem kind_eq_iff (h : v.toNat < 4) (k : BitVec 2) : BitVec.ofNat 2 v.toNat = k ↔ v.toNat = k.toNat := by
  rw [← BitVec.toNat_inj, BitVec.toNat_ofNat, Nat.mod_eq_of_lt h]

theorem bindCheck_of_same (h : v.toNat = (boundStream s q).kind.toNat) : bindCheck s q v = .ok := by
  have hlt : v.toNat < 4 := h ▸ (boundStream s q).kind.isLt
  rw [bindCheck, decide_eq_false (not_not.mpr (reserved_of_small hlt)), decide_eq_true ((kind_eq_iff hlt _).mpr h)]
  rfl

theorem bindCheck_of_small (hlt : v.toNat < 4) (h : v.toNat ≠ (boundStream s q).kind.toNat) :
    bindCheck s q v = faultIf ((pad s).streamBusy (unitCtx s.cur.u) q.toNat) 0x38#7 := by
  rw [bindCheck, decide_eq_false (not_not.mpr (reserved_of_small hlt)), decide_eq_false (mt (kind_eq_iff hlt _).mp h), reservedIf, faultIf_false,
    Verdict.ok_both]
  rfl

theorem bindCheck_of_large (h : 4 ≤ v.toNat) : bindCheck s q v = .fault 0x06#7 0 := by
  rw [bindCheck, reservedIf, decide_eq_true (reserved_of_large h), faultIf_true]
  generalize (!decide (BitVec.ofNat 2 v.toNat = (boundStream s q).kind) && (pad s).streamBusy (unitCtx s.cur.u) q.toNat) = b
  cases b <;> rfl

end

end Sys2Proof.Machine

open Sys2Proof Sys2Proof.Machine Sys2Proof.Claims in
/-- Settles O40: the operand is compared with the stream's kind as a number below 4. -/
theorem streamBindResults : Obligations.StreamBindResults := by
  unfold Obligations.StreamBindResults
  rintro s q g n k x rfl rfl rfl
  rw [exec_sqbind]
  refine ⟨fun hsame => ?same, fun hlt hne hidle => ?other, fun hc hlt hne hbusy => ?busy, fun hc hlarge => ?reserved⟩
  case same =>
    have hk : decide (BitVec.ofNat 2 (gr s g).toNat = (boundStream s q).kind) = true :=
      decide_eq_true ((kind_eq_iff (hsame ▸ (boundStream s q).kind.isLt) _).mpr hsame)
    rw [issue_go s _ _ (.inr (bindCheck_of_same hsame)), hk]
    exact ⟨_, rfl, rfl⟩
  case other =>
    have hk : decide (BitVec.ofNat 2 (gr s g).toNat = (boundStream s q).kind) = false := decide_eq_false (mt (kind_eq_iff hlt _).mp hne)
    have hcheck : bindCheck s q (gr s g) = .ok := by rw [bindCheck_of_small hlt hne, hidle, faultIf_false]
    rw [issue_go s _ _ (.inr hcheck), hk]
    refine ⟨_, rfl, ?kind, fun j hj => ?others, congrArg Cluster.cseq (cluster_modCluster ..),
      fun u => ?threads, rfl⟩
    case kind =>
      rw [ctx_counted, ctx_modCtx]
      exact mget_mput_same ..
    case others =>
      rw [ctx_counted, ctx_modCtx]
      exact mget_mput_ne _ _ _ _ _ hj.symm
    case threads =>
      rw [thread_counted]
      refine thread_modCtx_of_x (fun _ => ?_) _ _ _
      rfl
  case busy =>
    rw [bindCheck_of_small hlt hne, hbusy, faultIf_true, issue_refuse s _ _ hc Verdict.noConfusion Verdict.noConfusion]
  case reserved => rw [bindCheck_of_large hlarge, issue_refuse s _ _ hc Verdict.noConfusion Verdict.noConfusion]

namespace Sys2Proof.Machine

open Sys2Proof.Claims

/-! ## The issue of an engine command (R279, R378, R417, R442, R445) -/

/-! ### What it leaves of a tile and of a context -/

/-- Of tile x, y has the scratchpad, the tags, the accumulators, the weights and the contexts. -/
structure TileLeft (x y : Tile) : Prop where
  pad : y.pad = x.pad
  tags : y.tags = x.tags
  acc : y.acc = x.acc
  front : y.front = x.front
  ctx : ∀ c, y.ctx c = x.ctx c

theorem TileLeft.refl (x : Tile) : TileLeft x x := ⟨rfl, rfl, rfl, rfl, fun _ => rfl⟩

theorem TileLeft.trans {x y z : Tile} (h : TileLeft x y) (h' : TileLeft y z) : TileLeft x z :=
  ⟨h'.pad.trans h.pad, h'.tags.trans h.tags, h'.acc.trans h.acc, h'.front.trans h.front, fun c => (h'.ctx c).trans (h.ctx c)⟩

/-- A command that names a handle changes handles only. -/
theorem tileLeft_nameCmd (x : Tile) (n id : Nat) (writer : Bool) : TileLeft x (x.nameCmd n id writer) := ⟨rfl, rfl, rfl, rfl, fun _ => rfl⟩

theorem tileLeft_nameCmds (id : Nat) : ∀ (l : List (Nat × Bool)) (x : Tile), TileLeft x (l.foldl (fun x e => x.nameCmd e.1 id e.2) x)
  | [], x => .refl x
  | e :: t, x => (tileLeft_nameCmd x e.1 id e.2).trans (tileLeft_nameCmds id t _)

theorem mq_nameCmds (id : Nat) : ∀ (l : List (Nat × Bool)) (x : Tile), (l.foldl (fun x e => x.nameCmd e.1 id e.2) x).mq = x.mq
  | [], _ => rfl
  | _ :: t, _ => mq_nameCmds id t _

/-- Of context y, z has the thread, the streams, the deque, the remote accesses and the task. -/
structure CtxLeft (y z : Ctx) : Prop where
  x : z.x = y.x
  q : z.q = y.q
  deque : z.deque = y.deque
  remote : z.remote = y.remote
  task : z.task = y.task

theorem CtxLeft.refl (y : Ctx) : CtxLeft y y := ⟨rfl, rfl, rfl, rfl, rfl⟩

theorem CtxLeft.trans {u y z : Ctx} (h : CtxLeft u y) (h' : CtxLeft y z) : CtxLeft u z :=
  ⟨h'.x.trans h.x, h'.q.trans h.q, h'.deque.trans h.deque, h'.remote.trans h.remote, h'.task.trans h.task⟩

/-- A change of one context of a tile that leaves it leaves every context of the tile. -/
theorem ctxLeft_setCtx {x : Tile} {c : Nat} {y : Ctx} (h : CtxLeft (x.ctx c) y) (d : Nat) : CtxLeft (x.ctx d) ((x.setCtx c y).ctx d) := by
  unfold Tile.setCtx Tile.ctx at *
  by_cases hc : c = 0 <;> by_cases hd : d = 0 <;> simp only [hc, hd, if_true, if_false] at h ⊢
  · exact h
  · exact .refl _
  · exact .refl _
  · exact h

/-! ### What it leaves of the state -/

/-- t differs from s by steps of an issue: in its own tile, as TileLeft and CtxLeft say, and in what no statement of the frame names. -/
structure Issues (s t : State) : Prop where
  mem : t.mem = s.mem
  cores : t.cores = s.cores
  cur : t.cur = s.cur
  others : ∀ m, m ≠ unitTile s.cur.u → t.tile m = s.tile m
  pad : (t.tile (unitTile s.cur.u)).pad = (s.tile (unitTile s.cur.u)).pad
  tags : (t.tile (unitTile s.cur.u)).tags = (s.tile (unitTile s.cur.u)).tags
  acc : (t.tile (unitTile s.cur.u)).acc = (s.tile (unitTile s.cur.u)).acc
  front : (t.tile (unitTile s.cur.u)).front = (s.tile (unitTile s.cur.u)).front
  ctx : ∀ c, CtxLeft (s.ctx (unitTile s.cur.u) c) (t.ctx (unitTile s.cur.u) c)

section

variable {s t t' : State}

theorem Issues.refl (s : State) : Issues s s := ⟨rfl, rfl, rfl, fun _ _ => rfl, rfl, rfl, rfl, rfl, fun _ => .refl _⟩

theorem Issues.stamp (h : Issues s t) : Issues s t.stamp.2 := ⟨h.mem, h.cores, h.cur, h.others, h.pad, h.tags, h.acc, h.front, h.ctx⟩

theorem Issues.choose (n : Nat) (h : Issues s t) : Issues s (t.choose n).2 := ⟨h.mem, h.cores, h.cur, h.others, h.pad, h.tags, h.acc, h.front, h.ctx⟩

theorem Issues.modCurTile {f : Tile → Tile} (hf : ∀ x, TileLeft x (f x)) (h : Issues s t) : Issues s (t.modCurTile f) := by
  rw [State.modCurTile, h.cur]
  have hown := hf (t.tile (unitTile s.cur.u))
  refine ⟨h.mem, h.cores, h.cur, fun m hm => (tile_modTile_ne _ _ _ _ hm.symm).trans (h.others m hm), ?_, ?_, ?_, ?_, fun c => ?_⟩
  · rw [tile_modTile, hown.pad, h.pad]
  · rw [tile_modTile, hown.tags, h.tags]
  · rw [tile_modTile, hown.acc, h.acc]
  · rw [tile_modTile, hown.front, h.front]
  · rw [ctx_modTile_of (fun x => (hf x).ctx c)]
    exact h.ctx c

theorem Issues.modCurCtx {f : Ctx → Ctx} (hf : ∀ y, CtxLeft y (f y)) (h : Issues s t) : Issues s (t.modCurCtx f) := by
  rw [State.modCurCtx, h.cur]
  refine ⟨h.mem, h.cores, h.cur, fun m hm => (tile_setTile_ne _ _ _ _ hm.symm).trans (h.others m hm), ?_, ?_, ?_, ?_, fun c => ?_⟩
  · exact (tile_modCtx_keeps (g := Tile.pad) (fun x c y => by unfold Tile.setCtx; split <;> rfl) ..).trans h.pad
  · exact (tile_modCtx_keeps (g := Tile.tags) (fun x c y => by unfold Tile.setCtx; split <;> rfl) ..).trans h.tags
  · exact (tile_modCtx_keeps (g := Tile.acc) (fun x c y => by unfold Tile.setCtx; split <;> rfl) ..).trans h.acc
  · exact (tile_modCtx_keeps (g := Tile.front) (fun x c y => by unfold Tile.setCtx; split <;> rfl) ..).trans h.front
  · refine (h.ctx c).trans ?_
    rw [State.ctx, State.ctx, tile_modCtx]
    exact ctxLeft_setCtx (hf _) c

/-! ### A command of a redundant pair (R279) -/

/-- t differs from s by the note of a command: what its own tile leads and follows, and what the other copy's tile follows. -/
structure Noted (s t : State) : Prop where
  rest : t = { s with tiles := t.tiles }
  own : ∃ l f, t.tile (unitTile s.cur.u) = { s.tile (unitTile s.cur.u) with leads := l, follows := f }
  others : ∀ m, m ≠ unitTile s.cur.u → t.tile m = { s.tile m with follows := (t.tile m).follows }
  single : (s.ctx (unitTile s.cur.u) (unitCtx s.cur.u)).task.bind Task.twin = none → ∀ m, m ≠ unitTile s.cur.u → t.tile m = s.tile m

theorem Noted.refl (s : State) : Noted s s := ⟨rfl, ⟨_, _, rfl⟩, fun _ _ => rfl, fun _ _ _ => rfl⟩

/-- A note of the own tile. -/
theorem noted_own {f : Tile → Tile} (hf : ∀ x, ∃ l g, f x = { x with leads := l, follows := g }) : Noted s (s.modTile (unitTile s.cur.u) f) := by
  refine ⟨rfl, ?_, fun m hm => ?_, fun _ m hm => tile_modTile_ne _ _ _ _ hm.symm⟩
  · rw [tile_modTile]
    exact hf _
  · rw [tile_modTile_ne _ _ _ _ hm.symm]

/-- A note of the other copy's tile besides, which only a task with a twin makes. -/
theorem Noted.twin (h : Noted s t) {v : Nat × Nat} (hv : (s.ctx (unitTile s.cur.u) (unitCtx s.cur.u)).task.bind Task.twin = some v)
    (g : List Follow → List Follow) : Noted s (t.modTile v.1 (fun x => { x with follows := g x.follows })) := by
  refine ⟨?_, ?_, fun m hm => ?_, fun hnone => absurd (hv.symm.trans hnone) (Option.some_ne_none v)⟩
  · have hrest := h.rest
    rw [hrest]
    rfl
  · obtain ⟨l, f, hown⟩ := h.own
    by_cases hn : v.1 = unitTile s.cur.u
    · rw [hn, tile_modTile, hown]
      exact ⟨_, _, rfl⟩
    · rw [tile_modTile_ne _ _ _ _ hn, hown]
      exact ⟨_, _, rfl⟩
  · by_cases hn : v.1 = m
    · rw [hn, tile_modTile, h.others m hm]
    · rw [tile_modTile_ne _ _ _ _ hn]
      exact h.others m hm

theorem noted_paired (s : State) (id : Nat) : Noted s (s.paired id) := by
  unfold State.paired
  dsimp only
  split
  next => exact .refl s
  next k hk =>
    have hbind : (s.ctx (unitTile s.cur.u) (unitCtx s.cur.u)).task.bind Task.twin = k.twin := by
      rw [show (s.ctx (unitTile s.cur.u) (unitCtx s.cur.u)).task = some k from hk]
      rfl
    split
    next => exact .refl s
    next v hv =>
      split
      next => exact (noted_own fun x => ⟨_, _, rfl⟩).twin (hbind.trans hv) (fun l => l ++ [{ ctx := v.2, lead := id, id := none, how := none }])
      next =>
        split
        next => exact .refl s
        next => exact noted_own fun x => ⟨_, _, rfl⟩

/-! ### The frame -/

/-- A note leaves every context. -/
theorem Noted.ctx (h : Noted s t) (m c : Nat) : t.ctx m c = s.ctx m c := by
  by_cases hm : m = unitTile s.cur.u
  · obtain ⟨l, f, hown⟩ := h.own
    rw [State.ctx, hm, hown]
    rfl
  · rw [State.ctx, h.others m hm]
    rfl

theorem thread_of_ctx (hcores : t.cores = s.cores) (hctx : ∀ m c, (t.ctx m c).x = (s.ctx m c).x) (u : UnitId) : t.thread u = s.thread u := by
  cases u with
  | ctx m c => exact hctx m c
  | core k => rw [State.thread, State.core, hcores]; rfl

theorem Issues.thread (h : Issues s t) (m c : Nat) : (t.ctx m c).x = (s.ctx m c).x := by
  by_cases hm : m = unitTile s.cur.u
  · rw [hm]
    exact (h.ctx c).x
  · rw [State.ctx, h.others m hm]
    rfl

/-- What an issue and the note of its command leave is the frame of the statements. -/
theorem Issues.frame (h : Issues s t) (hn : Noted t t') : QueueFrame s t' := by
  have hctx := hn.ctx
  obtain ⟨hrest, ⟨l, f, hown⟩, hothers, hsingle⟩ := hn
  rw [h.cur] at hown hothers hsingle
  refine ⟨?_, ?_, fun m hm => ?_, fun hnone m hm => ?_, fun u => ?_, ?_, ?_, ?_, ?_, fun k => ?_⟩
  · rw [hrest]; exact h.mem
  · rw [hrest]; exact h.cores
  · rw [← h.others m hm]; exact hothers m hm
  · rw [← h.others m hm]
    exact hsingle ((congrArg (fun o => o.bind Task.twin) (h.ctx _).task).trans hnone) m hm
  · exact thread_of_ctx (by rw [hrest]; exact h.cores) (fun m c => by rw [hctx, h.thread]) u
  · rw [hown]; exact h.pad
  · rw [hown]; exact h.tags
  · rw [hown]; exact h.acc
  · rw [hown]; exact h.front
  · rw [hctx]; exact ⟨(h.ctx k).q, (h.ctx k).deque, (h.ctx k).remote⟩

theorem Issues.frame_paired (h : Issues s t) (id : Nat) : QueueFrame s (t.paired id) := h.frame (noted_paired t id)

theorem Issues.frame_self (h : Issues s t) : QueueFrame s t := h.frame (.refl t)

/-! ### The queues -/

/-- The context with the command at the end of its queue; a matrix command's is the tile's. -/
def enqueue : Queued → Ctx → Ctx
  | .mq _, y => y
  | .hq c, y => { y with hq := y.hq ++ [c] }
  | .cq c, y => { y with cq := y.cq ++ [c] }
  | .kq c, y => { y with kq := y.kq ++ [c] }
  | .fq c, y => { y with fq := y.fq ++ [c] }

theorem ctxLeft_enqueue (c : Queued) (y : Ctx) : CtxLeft y (enqueue c y) := by cases c <;> exact ⟨rfl, rfl, rfl, rfl, rfl⟩

/-- A command stands in its queue where the own tile's matrix queue and the own context are the earlier ones with it behind. -/
theorem in_of {c : Queued} (hmq : (t.tile (unitTile s.cur.u)).mq = (s.tile (unitTile s.cur.u)).mq ++
      (match c with | .mq op => [{ op := op, ctx := unitCtx s.cur.u, seq := s.seq }] | _ => []))
    (hctx : t.ctx (unitTile s.cur.u) (unitCtx s.cur.u) = (enqueue c) (s.ctx (unitTile s.cur.u) (unitCtx s.cur.u))) : c.In s t := by
  refine ⟨hmq, ?_, ?_, ?_, ?_⟩ <;> rw [hctx] <;> cases c <;> simp [enqueue]

theorem in_noted {c : Queued} (h : c.In s t) (hcur : t.cur = s.cur) (hn : Noted t t') : c.In s t' := by
  have hctx := hn.ctx
  obtain ⟨l, f, hown⟩ := hn.own
  rw [hcur] at hown
  obtain ⟨hmq, hqs⟩ := h
  refine ⟨?_, ?_⟩
  · rw [hown]; exact hmq
  · rw [hctx]; exact hqs

/-- t is s ready to take a command of a context's queue: the own matrix queue and the own context stand as they were. -/
structure Readies (s t : State) : Prop extends Issues s t where
  mq : (t.tile (unitTile s.cur.u)).mq = (s.tile (unitTile s.cur.u)).mq
  own : t.ctx (unitTile s.cur.u) (unitCtx s.cur.u) = s.ctx (unitTile s.cur.u) (unitCtx s.cur.u)

theorem Readies.refl (s : State) : Readies s s := ⟨.refl s, rfl, rfl⟩

theorem Readies.stamp (h : Readies s t) : Readies s t.stamp.2 := ⟨h.toIssues.stamp, h.mq, h.own⟩

theorem Readies.modCurTile {f : Tile → Tile} (hf : ∀ x, TileLeft x (f x)) (hmq : ∀ x, (f x).mq = x.mq) (h : Readies s t) : Readies s (t.modCurTile f) := by
  refine ⟨h.toIssues.modCurTile hf, ?_, ?_⟩
  · rw [State.modCurTile, h.cur, tile_modTile, hmq, h.mq]
  · rw [State.modCurTile, h.cur, ctx_modTile_of (fun x => (hf x).ctx _), h.own]

theorem Readies.nameCmd (n id : Nat) (writer : Bool) (h : Readies s t) : Readies s (t.modCurTile (fun x => x.nameCmd n id writer)) :=
  h.modCurTile (fun x => tileLeft_nameCmd x n id writer) fun _ => rfl

/-- A command of a context's queue that is put at its end stands there, and nothing else is done. -/
theorem Readies.queued {c : Queued} (hc : ∀ op, c ≠ .mq op) (h : Readies s t) :
    c.In s (t.modCurCtx (enqueue c)) ∧ Issues s (t.modCurCtx (enqueue c)) := by
  refine ⟨in_of ?_ ?_, h.toIssues.modCurCtx (ctxLeft_enqueue c)⟩
  · rw [State.modCurCtx, h.cur, tile_modCtx_keeps (g := Tile.mq) (fun x c y => by unfold Tile.setCtx; split <;> rfl), h.mq]
    cases c
    case mq op => exact absurd rfl (hc op)
    all_goals exact (List.append_nil _).symm
  · rw [State.modCurCtx, h.cur, ctx_modCtx, h.own]

end

end Sys2Proof.Machine

namespace Sys2Proof.Machine

open Sys2Proof.Claims

/-! ## Matrix and handle commands (R377-R381, R417, R422-R441) -/

section

variable {s : State} {i : Instr} {en : Bool} {op : MOp} {legal : Prop}

/-! ### Matrix commands -/

/-- A matrix command that is put in the tile's queue: it names its handles and stands behind the others. -/
def queueMatrix (s : State) (op : MOp) (names : List (Nat × Bool)) (x : Tile) : Tile :=
  let x := names.foldl (fun (x : Tile) e => x.nameCmd e.1 s.seq e.2) x
  { x with mq := x.mq ++ [{ op := op, ctx := unitCtx s.cur.u, seq := s.seq }] }

theorem tileLeft_queueMatrix (names : List (Nat × Bool)) (x : Tile) : TileLeft x (queueMatrix s op names x) :=
  (tileLeft_nameCmds s.seq names x).trans ⟨rfl, rfl, rfl, rfl, fun _ => rfl⟩

theorem pushMatrix_eq (names : List (Nat × Bool)) :
    s.pushMatrix op names = (s.stamp.2.modCurTile (queueMatrix s op names)).paired s.seq := rfl

/-- A matrix command stands behind the others, and nothing else is done but to count it and to name its handles. -/
theorem pushMatrix_queued (s : State) (op : MOp) (names : List (Nat × Bool)) :
    (Queued.mq op).In s (s.pushMatrix op names) ∧ QueueFrame s (s.pushMatrix op names) ∧ (s.pushMatrix op names).seq = s.seq + 1 := by
  have hissues : Issues s (s.stamp.2.modCurTile (queueMatrix s op names)) := (Issues.refl s).stamp.modCurTile (tileLeft_queueMatrix names)
  have hin : (Queued.mq op).In s (s.stamp.2.modCurTile (queueMatrix s op names)) := by
    refine in_of ?_ (ctx_modTile_of (fun x => (tileLeft_queueMatrix names x).ctx _) _ _)
    rw [State.modCurTile, stamp_cur, tile_modTile, queueMatrix]
    exact congrArg (· ++ _) (mq_nameCmds _ _ _)
  rw [pushMatrix_eq]
  refine ⟨in_noted hin hissues.cur (noted_paired _ _), hissues.frame_paired _, ?_⟩
  rw [(noted_paired _ _).rest]
  rfl

/-- The instruction issues as a matrix command: beside room in the queue it asks for what is legal. -/
structure IssuesMatrix (s : State) (i : Instr) (en : Bool) (op : MOp) (legal : Prop) : Prop where
  queues : ∃ v f names, (legal → v = .ok) ∧ exec i s = issue s true (Verdict.andThen v (queueRoom s en)) f ∧ f s = s.pushMatrix op names

theorem issuesMatrix_op {op : State → MOp} {names : State → List (Nat × Bool)} (hi : exec i s = matrixOp op names s) :
    IssuesMatrix s i false (op s) True :=
  ⟨.ok, fun s' => s'.pushMatrix (op s') (names s'), names s, fun _ => rfl, hi, rfl⟩

theorem queueRoom_ok (h : (pad s).mq.length + (if en && s.cur.slots.testBit 10 then 1 else 0) < 16) : queueRoom s en = .ok := if_pos h

theorem queueRoom_full (h : 16 ≤ (pad s).mq.length + (if en && s.cur.slots.testBit 10 then 1 else 0)) : queueRoom s en = .held .matrixQueue :=
  if_neg (Nat.not_lt.mpr h)

section

variable {acc : BitVec 1} {b : BitVec 3} {r : BitVec 6} {h n : BitVec 5} {imm : BitVec 16} {g : BitVec 6} {slot : BitVec 3}

theorem exec_mcfg : exec (.mcfg imm) s = execMcfg imm s := rfl
theorem exec_mpush : exec (.mpush acc b r h) s = execMpush acc b r h s := rfl
theorem exec_macw : exec (.macw acc b r h) s = execMacw acc b r h s := rfl
theorem exec_mshiftZero : exec (.mshiftZero h) s = execMshiftZero h s := rfl
theorem exec_mshiftBack : exec (.mshiftBack h) s = execMshiftBack h s := rfl
theorem exec_mshiftFwd : exec (.mshiftFwd h) s = execMshiftFwd h s := rfl
theorem exec_mdrain : exec (.mdrain b r n) s = execMdrain b r n s := rfl
theorem exec_mzero : exec (.mzero b r n) s = execMzero b r n s := rfl
theorem exec_mldw : exec .mldw s = execMldw s := rfl
theorem exec_mswap : exec .mswap s = execMswap s := rfl

theorem exec_nibset : exec (.nibset g) s = issue s true ((reservedIf (nibReserved (nibWord s g))).andThen (queueRoom s true))
    (fun s' => s'.pushMatrix (.nibset (nibWord s' g)) []) := rfl

theorem exec_cbld : exec (.cbld h g) s = issue s true ((cbldCheck (gr s g)).andThen (queueRoom s true)) (fun s' =>
    s'.pushMatrix (.cbld (gr s' g) (inst s' h) ((pad s').handle (fld (gr s' g) 0 5)).inst)
      [(inst s' h, true), (((pad s').handle (fld (gr s' g) 0 5)).inst, false)]) := rfl

theorem exec_trdef : exec (.trdef h slot) s = issue s true (queueRoom s true) (fun s' =>
    s'.pushMatrix (.trdef slot.toNat (inst s' h)) [(inst s' h, false)]) := rfl

end

theorem issuesMatrix_of_matrixCmd (hi : matrixCmd s i = some (en, op, legal)) : IssuesMatrix s i en op legal := by
  cases i
  case mcfg _ => cases hi; exact issuesMatrix_op exec_mcfg
  case mldw => cases hi; exact issuesMatrix_op exec_mldw
  case mswap => cases hi; exact issuesMatrix_op exec_mswap
  case mpush _ _ _ _ => cases hi; exact issuesMatrix_op exec_mpush
  case macw _ _ _ _ => cases hi; exact issuesMatrix_op exec_macw
  case mshiftZero _ => cases hi; exact issuesMatrix_op exec_mshiftZero
  case mshiftBack _ => cases hi; exact issuesMatrix_op exec_mshiftBack
  case mshiftFwd _ => cases hi; exact issuesMatrix_op exec_mshiftFwd
  case mdrain _ _ _ => cases hi; exact issuesMatrix_op exec_mdrain
  case mzero _ _ _ => cases hi; exact issuesMatrix_op exec_mzero
  case nibset _ =>
    cases hi
    refine ⟨_, _, _, fun hl => ?_, exec_nibset, rfl⟩
    rw [hl]
    rfl
  case cbld h g =>
    cases hi
    refine ⟨_, _, [(inst s h, true), (((pad s).handle (fld (gr s g) 0 5)).inst, false)], id, exec_cbld, ?_⟩
    rw [fld_low]
    rfl
  case trdef _ _ => cases hi; exact ⟨.ok, _, _, fun _ => rfl, exec_trdef, rfl⟩
  all_goals cases hi

/-! ### Handle commands -/

variable {c : HCmd} {v : Verdict}

/-- The instruction issues as a command of a context's queue, whose checks are v; a command of a redundant pair is noted besides. -/
structure IssuesQueued (s : State) (i : Instr) (q : Queued) (v : Verdict) : Prop where
  queues : ∃ f, exec i s = issue s true v f ∧ q.In s (f s) ∧ QueueFrame s (f s)

theorem issuesQueued_of {q : Queued} {f : State → State} {t : State} (hi : exec i s = issue s true v f) (hq : ∀ op, q ≠ .mq op) (ht : Readies s t)
    (hf : f s = t.modCurCtx (enqueue q)) : IssuesQueued s i q v := by
  obtain ⟨hin, hissues⟩ := ht.queued hq
  refine ⟨f, hi, ?_, ?_⟩
  · rw [hf]; exact hin
  · rw [hf]; exact hissues.frame_self

theorem issuesQueued_of_paired {q : Queued} {f : State → State} {t : State} {id : Nat} (hi : exec i s = issue s true v f) (hq : ∀ op, q ≠ .mq op)
    (ht : Readies s t) (hf : f s = (t.modCurCtx (enqueue q)).paired id) : IssuesQueued s i q v := by
  obtain ⟨hin, hissues⟩ := ht.queued hq
  refine ⟨f, hi, ?_, ?_⟩
  · rw [hf]; exact in_noted hin hissues.cur (noted_paired _ _)
  · rw [hf]; exact hissues.frame_paired _

theorem spOperand_ok {w : W64} {n : Nat} (h : wordOperand w n) : spOperand w n = .ok := by
  obtain ⟨hlt, ha⟩ := h
  have hfld : fld w 20 44 = 0 := by rw [fld_eq, Nat.div_eq_of_lt hlt, Nat.zero_mod]
  simp [spOperand, ha, hfld]

/-- The address that a word operand names is the operand. -/
theorem fld_of_wordOperand {w : W64} {n : Nat} (h : wordOperand w n) : fld w 0 20 = w.toNat := by rw [fld_low, Nat.mod_eq_of_lt h.1]

theorem ringCount_ok {e : HEntry} {w : W64} (h : e.kind = 1#2 ∨ (e.kind = 2#2 ∧ 0 < w.toNat ∧ w.toNat ≤ e.rows)) : ringCount e w = .ok := by
  rcases h with h | ⟨h, hpos, hle⟩
  · simp [ringCount, h]
  · simp [ringCount, h, Nat.ne_of_gt hpos, Nat.not_lt.mpr hle]

theorem binitBad_false {w : W64} (h57 : w.toNat / 2 ^ 57 = 0) (h48 : w.toNat / 2 ^ 48 % 2 ^ 8 = 0) : binitBad w = false := by
  rw [binitBad, fld_eq, fld_eq, h57, h48]
  rfl

theorem barrCheck_ok {a : W64} (ht : gaTile a = true) (hf : gaFormOk a = true) (hs : gaScope (unitTile s.cur.u) a ≤ s.cur.scope)
    (hp : gaPeer a = 0 ∨ (s.port (gaPeer a - 1)).up = true) (ha : a.toNat % 8 = 0) : barrCheck s a = .ok := by
  rw [barrCheck, ht, gaChecks_ok s s.cur.u s.cur.scope a hf hs (fun _ h0 => hp.resolve_left h0), ha]
  rfl

section

variable {h : BitVec 5} {g ga gv : BitVec 6}

theorem exec_hopen : exec (.hopen h) s = issue s true (faultIf (decide (((pad s).handle h.toNat).kind ≠ 1#2)) 0x27#7) (fun s' =>
    s'.stamp.2.pushHq (.hopen (inst s' h) s'.seq)) := rfl

theorem exec_hpub : exec (.hpub h g) s = issue s true (ringCount ((pad s).handle h.toNat) (gr s g)) (fun s' =>
    s'.stamp.2.pushHq (.hpub (inst s' h) (gr s' g).toNat s'.seq)) := rfl

theorem exec_hrel : exec (.hrel h g) s = issue s true (ringCount ((pad s).handle h.toNat) (gr s g)) (fun s' =>
    s'.stamp.2.pushHq (.hrel (inst s' h) (gr s' g).toNat s'.seq)) := rfl

theorem exec_binit : exec (.binit gv ga) s = issue s true
    (((spOperand (gr s ga) 8).both (faultIf ((pad s).inHandle (fld (gr s ga) 0 20)) 0x27#7)).both (reservedIf (binitBad (gr s gv))))
    (fun s' => s'.pushHq (.binit (fld (gr s' ga) 0 20) (gr s' gv))) := rfl

theorem exec_binitRel : exec (.binitRel g) s = issue s true (spOperand (gr s g) 8) (fun s' => s'.pushHq (.binitRel (fld (gr s' g) 0 20))) := rfl

theorem exec_barr : exec (.barr g) s = issue s true (barrCheck s (gr s g)) (fun s' =>
    s'.stamp.2.pushHq (.barr (gr s' g) (gaScope (unitTile s'.cur.u) (gr s' g)) s'.seq)) := rfl

end

theorem issuesQueued_of_handleCmd (hi : handleCmd s i = some (c, legal)) (hl : legal) : IssuesQueued s i (.hq c) .ok := by
  have hq : ∀ op, Queued.hq c ≠ .mq op := fun _ => Queued.noConfusion
  unfold handleCmd at hi
  split at hi
  case h_1 h =>
    cases hi
    have hv : faultIf (decide (((pad s).handle h.toNat).kind ≠ 1#2)) 0x27#7 = .ok := by rw [decide_eq_false (not_not.mpr hl)]; rfl
    exact issuesQueued_of (hv ▸ exec_hopen) hq (Readies.refl s).stamp rfl
  case h_2 => cases hi; exact issuesQueued_of (ringCount_ok hl ▸ exec_hpub) hq (Readies.refl s).stamp rfl
  case h_3 => cases hi; exact issuesQueued_of (ringCount_ok hl ▸ exec_hrel) hq (Readies.refl s).stamp rfl
  case h_4 gv ga =>
    cases hi
    obtain ⟨hw, hh, h57, h48⟩ := hl
    have hv : ((spOperand (gr s ga) 8).both (faultIf ((pad s).inHandle (fld (gr s ga) 0 20)) 0x27#7)).both (reservedIf (binitBad (gr s gv))) = .ok := by
      rw [spOperand_ok hw, fld_of_wordOperand hw, hh, binitBad_false h57 h48]
      rfl
    refine issuesQueued_of (hv ▸ exec_binit) hq (Readies.refl s) ?_
    rw [fld_of_wordOperand hw]
    rfl
  case h_5 =>
    cases hi
    refine issuesQueued_of (spOperand_ok hl ▸ exec_binitRel) hq (Readies.refl s) ?_
    rw [fld_of_wordOperand hl]
    rfl
  case h_6 =>
    cases hi
    obtain ⟨ht, hf, hs, hp, ha⟩ := hl
    exact issuesQueued_of (barrCheck_ok ht hf hs hp ha ▸ exec_barr) hq (Readies.refl s).stamp rfl
  case h_7 => cases hi

end

end Sys2Proof.Machine

open Sys2Proof Sys2Proof.Machine Sys2Proof.Claims in
/-- Settles O37: a command's issue counts it, names its handles and puts it behind its queue; the pair's note touches only what tiles lead and follow. -/
theorem matrixAndHandleCommandsQueue : Obligations.MatrixAndHandleCommandsQueue := by
  unfold Obligations.MatrixAndHandleCommandsQueue
  refine ⟨fun s i en op legal n hi hn => ?_, fun s i c legal hi hl => ?_⟩
  · obtain ⟨v, f, names, hv, hexec, hf⟩ := (issuesMatrix_of_matrixCmd hi).queues
    subst hn
    rw [hexec]
    refine ⟨fun h => ?_, fun hc hl hfull => ?_⟩
    · have hclear : Clear s (Verdict.andThen v (queueRoom s en)) := h.imp id fun ⟨hl, hroom⟩ => by
        rw [hv hl, queueRoom_ok hroom]
        rfl
      rw [issue_go s _ _ hclear, hf]
      exact ⟨_, rfl, pushMatrix_queued s op names⟩
    · rw [hv hl, queueRoom_full hfull]
      exact issue_refuse s _ _ hc Verdict.noConfusion Verdict.noConfusion
  · obtain ⟨f, hexec, hin, hframe⟩ := (issuesQueued_of_handleCmd hi hl).queues
    rw [hexec, issue_go s _ _ (.inr rfl)]
    exact ⟨_, rfl, hin, hframe⟩

namespace Sys2Proof.Machine

open Sys2Proof.Claims

/-! ## Engine commands, jobs and reports (R442, R445-R460) -/

theorem cq_ne_mq (c : CCmd) : ∀ op, Queued.cq c ≠ .mq op := fun _ => Queued.noConfusion
theorem kq_ne_mq (c : KCmd) : ∀ op, Queued.kq c ≠ .mq op := fun _ => Queued.noConfusion
theorem fq_ne_mq (c : FCmd) : ∀ op, Queued.fq c ≠ .mq op := fun _ => Queued.noConfusion

/-- The low bits of a register as a word of their number. -/
theorem ofNat_fld_low (x : W64) (n : Nat) : BitVec.ofNat n (fld x 0 n) = x.setWidth n := by
  refine BitVec.eq_of_toNat_eq ?_
  rw [fld_low, BitVec.toNat_ofNat, Nat.mod_mod, BitVec.toNat_setWidth]

section

variable {s : State} {i : Instr} {q : Queued} {v : Verdict} {h : BitVec 5} {g gb gx ga r : BitVec 6} {slot b3 sq : BitVec 3}

theorem exec_sqset : exec (.sqset r g) s = execSqset r g s := rfl
theorem exec_sqgo : exec (.sqgo slot) s = execSqgo slot s := rfl
theorem exec_accpy : exec (.accpy b3 g) s = execAccpy b3 g s := rfl
theorem exec_xld : exec (.xld gb g) s = execXld gb g s := rfl
theorem exec_xinv : exec (.xinv gb g) s = execXinv gb g s := rfl
theorem exec_splc : exec (.splc h g) s = execSplc h g s := rfl
theorem exec_rpr : exec (.rpr h g) s = execRpr h g s := rfl
theorem exec_rprRep : exec (.rprRep gx ga) s = execRprRep gx ga s := rfl
theorem exec_fsend : exec (.fsend h g) s = execFsend h g s := rfl
theorem exec_frecvHandle : exec (.frecvHandle h g) s = execFrecvHandle h g s := rfl
theorem exec_frecvStream : exec (.frecvStream sq g) s = execFrecvStream sq g s := rfl
theorem exec_trenc : exec (.trenc h g) s = brushOp false h g s := rfl
theorem exec_twupd : exec (.twupd h g) s = brushOp true h g s := rfl
theorem exec_wnsel : exec (.wnsel h g) s = execWnsel h g s := rfl

theorem exec_rprset : exec (.rprset g) s = issue s true
    (reservedIf (decide (fld (gr s g) 32 32 ≠ 0) || decide (fld (gr s (g + 1)) 6 58 ≠ 0) || decide (fld (gr s (g + 2)) 32 32 ≠ 0))) (fun s' =>
      s'.pushKq (.rprset (BitVec.ofNat 32 (fld (gr s' g) 0 32)) (BitVec.ofNat 6 (fld (gr s' (g + 1)) 0 6)) (BitVec.ofNat 32 (fld (gr s' (g + 2)) 0 32)))) :=
  rfl

theorem exec_kvg : exec (.kvg h g) s = issue s true ((s.cmdBlock g 32).1.verdict.andThen
    ((reservedIf (gatherReserved (BitVec.ofNat 256 (s.cmdBlock g 32).2))).both
      (spOperand (BitVec.ofNat 64 (fld (BitVec.ofNat 256 (s.cmdBlock g 32).2) 160 20)) 8))) (fun s' =>
    ((s'.stamp.2.modCurTile (fun x => x.nameCmd (s'.instOf h) s'.seq true)).pushKq
      (.kvg (BitVec.ofNat 256 (s'.cmdBlock g 32).2) (s'.instOf h) s'.seq s'.curNode.1 s'.curNode.2)).paired s'.seq) := rfl

theorem prefixOp_eq (op : Nat) : prefixOp op gb g s = issue s true ((spOperand (gr s gb) 8).both
    ((s.cmdBlock g 64).1.verdict.andThen (reservedIf (prefixReserved op (BitVec.ofNat 512 (s.cmdBlock g 64).2))))) (fun s' =>
    (s'.stamp.2.pushKq (.pfx op (BitVec.ofNat 512 (s'.cmdBlock g 64).2) (gr s' g) (fld (gr s' gb) 0 20) s'.seq)).paired s'.seq) := rfl

theorem exec_pxlk : exec (.pxlk gb g) s = prefixOp 0 gb g s := rfl
theorem exec_pxin : exec (.pxin gb g) s = prefixOp 1 gb g s := rfl
theorem exec_pxinRm : exec (.pxinRm gb g) s = prefixOp 2 gb g s := rfl

/-- SQGO and its copy's two handles. -/
theorem readies_sqgo (src dst : Nat) :
    Readies s (s.stamp.2.modCurTile (fun x => (x.nameCmd src s.seq false).nameCmd dst s.seq true)) :=
  (Readies.refl s).stamp.modCurTile (fun x => (tileLeft_nameCmd x src s.seq false).trans (tileLeft_nameCmd _ dst s.seq true)) fun _ => rfl

theorem issuesQueued_of_engineCmd (hi : engineCmd s i = some (q, v)) : IssuesQueued s i q v := by
  have hs : Readies s s.stamp.2 := (Readies.refl s).stamp
  cases i
  case sqset => cases hi; exact issuesQueued_of exec_sqset (cq_ne_mq _) (Readies.refl s) rfl
  case sqgo => cases hi; exact issuesQueued_of_paired exec_sqgo (cq_ne_mq _) (readies_sqgo _ _) rfl
  case accpy b g =>
    cases hi
    have hinst : (gr s g).toNat / 2 ^ 14 % 32 = fld (gr s g) 14 5 := (fld_eq (gr s g) 14 5).symm
    rw [hinst]
    exact issuesQueued_of_paired exec_accpy (cq_ne_mq _) (hs.nameCmd _ _ _) rfl
  case xld => cases hi; exact issuesQueued_of_paired exec_xld (kq_ne_mq _) hs rfl
  case xinv => cases hi; exact issuesQueued_of_paired exec_xinv (kq_ne_mq _) hs rfl
  case kvg => cases hi; exact issuesQueued_of_paired exec_kvg (kq_ne_mq _) (hs.nameCmd _ _ _) rfl
  case splc => cases hi; exact issuesQueued_of_paired exec_splc (kq_ne_mq _) (hs.nameCmd _ _ _) rfl
  case rpr => cases hi; exact issuesQueued_of_paired exec_rpr (kq_ne_mq _) (hs.nameCmd _ _ _) rfl
  case rprRep =>
    cases hi
    rw [← fld_top _ (by decide : 33 + 31 = 64)]
    exact issuesQueued_of exec_rprRep (kq_ne_mq _) hs rfl
  case rprset =>
    cases hi
    rw [← fld_top _ (by decide : 32 + 32 = 64), ← fld_top _ (by decide : 6 + 58 = 64), ← fld_top _ (by decide : 32 + 32 = 64)]
    refine issuesQueued_of exec_rprset (kq_ne_mq _) (Readies.refl s) ?_
    rw [ofNat_fld_low, ofNat_fld_low, ofNat_fld_low]
    rfl
  case pxlk => cases hi; exact issuesQueued_of_paired (exec_pxlk.trans (prefixOp_eq 0)) (kq_ne_mq _) hs rfl
  case pxin => cases hi; exact issuesQueued_of_paired (exec_pxin.trans (prefixOp_eq 1)) (kq_ne_mq _) hs rfl
  case pxinRm => cases hi; exact issuesQueued_of_paired (exec_pxinRm.trans (prefixOp_eq 2)) (kq_ne_mq _) hs rfl
  case fsend => cases hi; exact issuesQueued_of_paired exec_fsend (fq_ne_mq _) (hs.nameCmd _ _ _) rfl
  case frecvHandle => cases hi; exact issuesQueued_of_paired exec_frecvHandle (fq_ne_mq _) (hs.nameCmd _ _ _) rfl
  case frecvStream => cases hi; exact issuesQueued_of_paired exec_frecvStream (fq_ne_mq _) hs rfl
  all_goals cases hi

/-! ### Jobs of the tile's Brush and Winnow queues (R442, R459) -/

theorem recordOp_ok (hw : wordOperand (gr s g) 8) (hk : ((pad s).handle h.toNat).kind = 1#2) : recordOp h g s = .ok := by
  have hk : (s.curTile.handle h.toNat).kind = 1#2 := hk
  rw [recordOp, show s.g g = gr s g from rfl, spOperand_ok hw, hk]
  rfl

theorem recordOp_fault (hw : wordOperand (gr s g) 8) (hk : ((pad s).handle h.toNat).kind ≠ 1#2) : recordOp h g s = .fault 0x27#7 0 := by
  have hk : (s.curTile.handle h.toNat).kind ≠ 1#2 := hk
  rw [recordOp, show s.g g = gr s g from rfl, spOperand_ok hw, decide_eq_true hk]
  rfl

/-- The job that TRENC or TWUPD puts in the Brush queue. -/
def brushJob (s : State) (twupd : Bool) (h : BitVec 5) (g : BitVec 6) : BJob :=
  { twupd := twupd, inst := inst s h, bw := fld (gr s g) 0 20, ctx := unitCtx s.cur.u, tenant := s.unitTenant s.cur.u, gid := s.curNode.1,
    node := s.curNode.2, seq := s.seq, started := false, record := 0, defn := { record := 0, table := [] }, bdone := 0, words := [], cost := 0,
    sat := false, fail := none }

/-- The job that WNSEL puts in the Winnow queue. -/
def winnowJob (s : State) (h : BitVec 5) (g : BitVec 6) : WJob :=
  { id := s.seq, inst := inst s h, bw := fld (gr s g) 0 20, ctx := unitCtx s.cur.u, tenant := s.unitTenant s.cur.u, gid := s.curNode.1,
    node := s.curNode.2, started := false, record := 0, srcInst := 0, mskInst := 0, pass := 0, pref := 0, rem := 0, plane := 0, total := 0,
    nancnt := 0, fchunk := (s.stamp.2.choose (2 ^ 32)).1, parked := false, fail := none }

/-- The tile with a job behind its Brush queue. -/
def queueBrush (j : BJob) (x : Tile) : Tile := { x.nameCmd j.inst j.seq false with brush := x.brush ++ [j] }

/-- The tile with a job behind its Winnow queue. -/
def queueWinnow (j : WJob) (x : Tile) : Tile := { x.nameCmd j.inst j.id false with winq := x.winq ++ [j] }

theorem brushOp_eq (twupd : Bool) : brushOp twupd h g s = issue s true (recordOp h g s) (fun s' =>
    (s'.stamp.2.modCurTile (queueBrush (brushJob s' twupd h g))).paired s'.seq) := rfl

theorem execWnsel_eq : execWnsel h g s = issue s true (recordOp h g s) (fun s' =>
    ((s'.stamp.2.choose (2 ^ 32)).2.modCurTile (queueWinnow (winnowJob s' h g))).paired s'.seq) := rfl

/-- The note of a command keeps of the own tile what neither its leads nor its follows are. -/
theorem own_paired {α : Type} {p : Tile → α} (hp : ∀ x l f, p { x with leads := l, follows := f } = p x) (s : State) (id : Nat) :
    p ((s.paired id).tile (unitTile s.cur.u)) = p (s.tile (unitTile s.cur.u)) := by
  obtain ⟨l, f, hown⟩ := (noted_paired s id).own
  rw [hown, hp]

theorem brushOp_queues (twupd : Bool) (hw : wordOperand (gr s g) 8) (hk : ((pad s).handle h.toNat).kind = 1#2) :
    ∃ t j, brushOp twupd h g s = .next t ∧ (t.tile (unitTile s.cur.u)).brush = (pad s).brush ++ [j] ∧ j.twupd = twupd ∧ j.inst = inst s h ∧
      j.bw = (gr s g).toNat ∧ j.seq = s.seq ∧ j.started = false ∧ QueueFrame s t := by
  have hissues : Issues s (s.stamp.2.modCurTile (queueBrush (brushJob s twupd h g))) :=
    (Issues.refl s).stamp.modCurTile fun _ => ⟨rfl, rfl, rfl, rfl, fun _ => rfl⟩
  rw [brushOp_eq, issue_go s _ _ (.inr (recordOp_ok hw hk))]
  refine ⟨_, brushJob s twupd h g, rfl, ?_, rfl, rfl, fld_of_wordOperand hw, rfl, rfl, hissues.frame_paired _⟩
  refine (own_paired (p := Tile.brush) (fun _ _ _ => rfl) (s.stamp.2.modCurTile (queueBrush (brushJob s twupd h g))) s.seq).trans ?_
  exact congrArg Tile.brush (tile_modTile _ _ _)

theorem wnsel_queues (hw : wordOperand (gr s g) 8) (hk : ((pad s).handle h.toNat).kind = 1#2) :
    ∃ t j, exec (.wnsel h g) s = .next t ∧ (t.tile (unitTile s.cur.u)).winq = (pad s).winq ++ [j] ∧ j.inst = inst s h ∧ j.bw = (gr s g).toNat ∧
      j.id = s.seq ∧ j.started = false ∧ QueueFrame s t := by
  have hissues : Issues s ((s.stamp.2.choose (2 ^ 32)).2.modCurTile (queueWinnow (winnowJob s h g))) :=
    ((Issues.refl s).stamp.choose _).modCurTile fun _ => ⟨rfl, rfl, rfl, rfl, fun _ => rfl⟩
  rw [exec_wnsel, execWnsel_eq, issue_go s _ _ (.inr (recordOp_ok hw hk))]
  refine ⟨_, winnowJob s h g, rfl, ?_, rfl, fld_of_wordOperand hw, rfl, rfl, hissues.frame_paired _⟩
  refine (own_paired (p := Tile.winq) (fun _ _ _ => rfl) ((s.stamp.2.choose (2 ^ 32)).2.modCurTile (queueWinnow (winnowJob s h g))) s.seq).trans ?_
  exact congrArg Tile.winq (tile_modTile _ _ _)

end

end Sys2Proof.Machine

open Sys2Proof Sys2Proof.Machine Sys2Proof.Claims in
/-- Settles O38: each command issues with the checks of the table and stands behind its queue, each job behind its tile's. -/
theorem engineAndJobCommandsQueue : Obligations.EngineAndJobCommandsQueue := by
  unfold Obligations.EngineAndJobCommandsQueue
  refine ⟨fun s i q v hi => ?_, fun s => ⟨fun h g hw hk => ?_, fun h g hc hk hw => ?_⟩⟩
  · obtain ⟨f, hexec, hin, hframe⟩ := (issuesQueued_of_engineCmd hi).queues
    rw [hexec]
    refine ⟨fun hclear => ?_, fun c a hc hv => ?_⟩
    · rw [issue_go s _ _ hclear]
      exact ⟨_, rfl, hin, hframe⟩
    · rw [hv]
      exact issue_refuse s _ _ hc Verdict.noConfusion Verdict.noConfusion
  · rw [exec_trenc, exec_twupd]
    exact ⟨brushOp_queues false hw hk, brushOp_queues true hw hk, wnsel_queues hw hk⟩
  · rw [exec_trenc, exec_twupd, exec_wnsel, brushOp_eq, brushOp_eq, execWnsel_eq, recordOp_fault hw hk]
    have hrefuse := fun f => issue_refuse s (.fault 0x27#7 0) f hc Verdict.noConfusion Verdict.noConfusion
    exact ⟨hrefuse _, hrefuse _, hrefuse _⟩

namespace Sys2Proof.Machine

/-! ## The device state and the fuses along a step (R9-R22, R55, R74) -/

variable {s t : State}

/-! ### The slots of a bundle hold no device event -/

section

variable {w hi : Nat} {i : Instr}

theorem entersState_rawCT (h : rawCT w = some i) : entersState i = false := by
  unfold rawCT at h
  split at h <;> cases h <;> rfl

theorem entersState_rawS (h : rawS w hi = some i) : entersState i = false := by
  unfold rawS at h
  split at h <;> cases h <;> rfl

theorem entersState_rawAG (h : rawAG w = some i) : entersState i = false := by
  unfold rawAG at h
  split at h <;> cases h <;> rfl

theorem entersState_rawL (h : rawL w = some i) : entersState i = false := by
  unfold rawL at h
  split at h <;> cases h <;> rfl

theorem entersState_rawV (h : rawV w = some i) : entersState i = false := by
  unfold rawV at h
  split at h <;> cases h <;> rfl

/-- The three forms of MSHIFT share one opcode. -/
theorem entersState_rawMX (h : rawMX w = some i) : entersState i = false := by
  unfold rawMX at h
  split at h <;> cases h
  case h_6 => split; rfl; split <;> rfl
  all_goals rfl

theorem entersState_rawEN (h : rawEN w = some i) : entersState i = false := by
  unfold rawEN at h
  split at h <;> cases h <;> rfl

theorem entersState_rawSlot {k : Nat} (h : rawSlot k w hi = some i) : entersState i = false := by
  unfold rawSlot at h
  split at h
  · exact entersState_rawCT h
  split at h
  · exact entersState_rawS h
  split at h
  · split at h
    · cases h
    · exact entersState_rawS h
  split at h
  · exact entersState_rawAG h
  split at h
  · exact entersState_rawL h
  split at h
  · split at h
    · cases h
    · exact entersState_rawV h
  split at h
  · exact entersState_rawV h
  split at h
  · exact entersState_rawMX h
  · exact entersState_rawEN h

end

/-- Operations none of which may change the device state or a fuse. -/
def Quiet (ops : List (Nat × Instr)) : Prop := ∀ o ∈ ops, entersState o.2 = false

/-- The operations of a chain are slot operations (R315, R325-R333). -/
theorem quiet_chainOps (c : Chain) : Quiet ((chainOps c).filterMap fun o => o.2.map fun i => (o.1, i)) := by
  intro o ho
  obtain ⟨⟨k, x⟩, hx, hmap⟩ := List.mem_filterMap.mp ho
  obtain ⟨i, rfl, rfl⟩ := Option.map_eq_some_iff.mp hmap
  obtain ⟨n, -, hn⟩ := List.mem_filterMap.mp hx
  split at hn
  · cases hn' : rawSlot n (nth 0 c.words n) (nth 0 c.words 2) with
    | none => simp [hn'] at hn
    | some j =>
      simp only [hn', Option.some.injEq, Prod.mk.injEq] at hn
      obtain ⟨-, rfl⟩ := hn
      exact entersState_rawSlot hn'
  · cases hn

theorem Quiet.inOrder {ops : List (Nat × Instr)} (h : Quiet ops) : Quiet (inOrder ops) := by
  intro o ho
  obtain ⟨n, -, hm⟩ := List.mem_flatMap.mp ho
  exact h o (List.mem_of_mem_filter hm)

/-! ### A bundle is steady -/

section

variable {s₀ : State}

theorem Steady.trans {a b c : State} (h : Steady a b) (h' : Steady b c) : Steady a c :=
  ⟨h'.1 ∘ h.1, h'.2.1.trans h.2.1, h'.2.2.trans h.2.2⟩

theorem Steady.commitAll {ops : List (Nat × Instr)} (h : Steady s₀ s) (hq : Quiet ops) : SteadyNext s₀ (commitAll s ops) := by
  induction ops generalizing s with
  | nil => exact h.next
  | cons o ops ih =>
    intro t ht
    simp only [Machine.commitAll] at ht
    split at ht
    next e => exact ih (h.atSlot.exec (hq o List.mem_cons_self) _ e) (fun p hp => hq p (List.mem_cons_of_mem _ hp)) t ht
    · cases ht
    · cases ht

theorem Steady.runSlots {ops : List (Nat × Instr)} {b : Bool} (h : Steady s₀ s) (hq : Quiet ops) : SteadyNext s₀ (runSlots s ops b) := by
  intro t ht
  unfold Machine.runSlots at ht
  dsimp only at ht
  split at ht
  · exact h.waitUnit.next t ht
  split at ht
  · cases ht
  · cases ht
  split at ht
  · exact h.waitUnit.next t ht
  split at ht
  · exact h.next t ht
  split at ht
  · exact h.mergeLoss.next t ht
  split at ht
  · exact Steady.next (h.foldl fun _ _ h => h.slotEnds).takeFault t ht
  split at ht
  · exact h.holdUnit.next t ht
  split at ht
  · exact h.takeFault.next t ht
  split at ht
  next e => exact (h.seen.commitAll hq.inOrder _ e).finish.settled.next t ht
  · cases ht
  · cases ht

/-- Whatever bundle a unit runs, memory stays canonical and neither a fuse nor the device state changes. -/
theorem Steady.runUnit {u : UnitId} (h : Steady s₀ s) : SteadyNext s₀ (runUnit s u) := by
  intro t ht
  unfold Machine.runUnit at ht
  dsimp only at ht
  split at ht
  · exact h.waitUnit.next t ht
  · exact h.unitMet.takeFault.next t ht
  split at ht
  · exact Steady.next (.ite h.mergeLoss h.takeFault) t ht
  · exact h.take.runSlots (quiet_chainOps _) t ht

end

/-- A step is steady, or it runs a device event that may enter a device state (R7, R20). -/
theorem step_steady_or_enters (ht : step s = .next t) : Steady s t ∨ s.toIssue = [] ∧ ∃ i rest,
    nextStep s.agenda = some (i, rest) ∧ entersState i = true ∧ exec i { s with agenda := rest } = .next t := by
  have hr := Steady.refl s
  unfold step at ht
  split at ht
  · exact .inl ((Steady.update hr).runUnit t ht)
  next hissue =>
    split at ht
    next i rest hnext =>
      split at ht
      · split at ht
        · exact .inl ((Steady.update hr).next t ht)
        · cases hi : entersState i with
          | false => exact .inl ((Steady.update hr).exec hi t ht)
          | true => exact .inr ⟨hissue, i, rest, hnext, hi, ht⟩
      · cases ht
    · exact .inl (hr.nextCycle.next t ht)

/-! ### What the events that enter a device state do to it and to the fuses -/

/-- Neither the device state nor a fuse has changed. -/
abbrev StateKept (s t : State) : Prop := t.dstate = s.dstate ∧ t.fuses = s.fuses

/-- The fuses stand, and the device state goes from one of some to another (R20). -/
abbrev Goes (l : List (DState × DState)) (s t : State) : Prop := (s.dstate, t.dstate) ∈ l ∧ t.fuses = s.fuses

/-- READY is entered from BRINGUP as R16 and R288 have it: the first time after a reset the fuses rise. -/
abbrev Starts (s t : State) : Prop := s.dstate = .bringup ∧ t.dstate = .ready ∧
  t.fuses = if s.boot.readied = false then
      { s.fuses with min1 := if s.fuses.min1 < s.boot.ver1 then s.boot.ver1 else s.fuses.min1,
                     min2 := if s.fuses.min2 < s.boot.ver2 then s.boot.ver2 else s.fuses.min2 }
    else s.fuses

/-- The device is back in BRINGUP, its fuses as they were (R10, R20). -/
abbrev Restarts (s t : State) : Prop := t.dstate = .bringup ∧ t.fuses = s.fuses

/-- The changes of device state by G3 causes, drains and resumes (R20, R22, R76, R77). -/
def tableOfStates : List (DState × DState) :=
  [(.bringup, .faulted), (.ready, .draining), (.ready, .drained), (.draining, .drained), (.draining, .ready),
    (.drained, .ready), (.ready, .faulted), (.draining, .faulted), (.drained, .faulted)]

/-- What an event may do to the device state and the fuses, but for a reset. -/
def Moves (s t : State) : Prop := StateKept s t ∨ Goes tableOfStates s t ∨ Starts s t

theorem Moves.refl (s : State) : Moves s s := .inl ⟨rfl, rfl⟩

theorem moves_of_steady (h : Steady s t) : Moves s t := .inl ⟨h.2.2, h.2.1⟩

theorem Moves.ite {c : Prop} [Decidable c] {a b : State} (ha : c → Moves s a) (hb : ¬ c → Moves s b) : Moves s (if c then a else b) := by
  split
  next h => exact ha h
  next h => exact hb h

theorem moves_toDState {d : DState} {c : Cause} (h : Steady s t) (hd : (s.dstate, d) ∈ tableOfStates) : Moves s (t.toDState d c) :=
  .inr (.inl ⟨by rwa [toDState_dstate], (toDState_fuses t d c).trans h.2.1⟩)

/-- What is steady after a move leaves the move as it is. -/
theorem Moves.steady {a b : State} (h : Moves s a) (h' : Steady a b) : Moves s b := by
  obtain ⟨-, hf, hd⟩ := h'
  unfold Moves StateKept Goes Starts at *
  rwa [hf, hd]

/-- A move from a state of the same device state, fuses and boot state. -/
theorem Moves.of_kept {a b : State} (h : Moves a b) (hd : a.dstate = s.dstate) (hf : a.fuses = s.fuses) (hb : a.boot = s.boot) : Moves s b := by
  unfold Moves StateKept Goes Starts at *
  rwa [hd, hf, hb] at h

theorem steady_cutQuarantined (s : State) : Steady s s.cutQuarantined := (Steady.refl s).cutQuarantined

/-- A G3 cause takes READY, DRAINING and DRAINED to FAULTED (R20). -/
theorem moves_g3 {c : Cause} : Moves s (s.g3 c) := by
  refine Moves.ite (fun _ => .inl ⟨rfl, rfl⟩) fun h => (moves_toDState (Steady.update (.refl s)) ?_).steady
    (steady_cutQuarantined _)
  cases hd : s.dstate <;> simp_all [tableOfStates]

theorem moves_drain (h : s.dstate = .ready) : Moves s s.drain := by
  unfold State.drain
  split
  · exact moves_toDState (.refl s) (by rw [h]; decide)
  · exact moves_toDState (.refl s) (by rw [h]; decide)

theorem moves_resume (h : s.dstate = .draining ∨ s.dstate = .drained) : Moves s (s.toDState .ready 0) := by
  rcases h with h | h <;> exact moves_toDState (.refl s) (by rw [h]; decide)

theorem starts_started (h : s.dstate = .bringup) : Starts s s.started := by
  unfold State.started
  refine ⟨h, toDState_dstate _ _ _, (toDState_fuses _ _ _).trans ?_⟩
  cases hr : s.boot.readied <;> rfl

theorem steady_devAnswer (s : State) (b : Bool) : Steady s (s.devAnswer b) := ⟨id, rfl, rfl⟩

/-- The command that waits in DEVCMD is taken or refused (R55, R76, R77, R288). -/
theorem moves_devcmdRun : Moves s s.devcmdRun := by
  unfold State.devcmdRun
  split
  · exact Moves.refl s
  · exact .ite (fun h => Moves.steady (.inr (.inr (starts_started h.1))) (steady_devAnswer _ _)) fun _ => moves_of_steady (steady_devAnswer _ _)
  · exact .ite (fun h => (moves_drain h).steady (steady_devAnswer _ _)) fun _ => moves_of_steady (steady_devAnswer _ _)
  · exact .ite (fun h => (moves_resume h).steady (steady_devAnswer _ _)) fun _ => moves_of_steady (steady_devAnswer _ _)

/-- A signed command that is not accepted moves nothing (R75). -/
theorem moves_signedCommand {r : MgmtReq} {op : BitVec 8} {ok : Bool} {st : BitVec 16} {f : State → State}
    (hf : ok = true → ∀ k, Moves s (f { s with kregs := k })) : Moves s (s.signedCommand r op ok st f) := by
  refine Moves.ite (fun _ => .refl s) fun _ => .ite (fun _ => .refl s) fun hok => .ite (fun _ => .refl s) fun _ => ?_
  exact hf (by simpa using hok) _

theorem moves_afterDevcmd {i : Instr} {f : State → State} (hf : Moves s (f s)) : Moves s (s.afterDevcmd i f) :=
  .ite (fun _ => hf) fun _ => moves_devcmdRun.steady ⟨id, rfl, rfl⟩

/-- The end of a graph leaves the device DRAINED where it was the last and the device drains (R76). -/
theorem moves_graphGone {g : Graph} (h : Steady s t) : Moves s (t.graphGone g) := by
  have hgone : Steady s { t.setReady (queueKey g.tenant g.queue) ((mget [] t.ready (queueKey g.tenant g.queue)).filter fun x => decide (x.1 ≠ g.gid)) with
      graphs := t.graphs.filter fun x => decide (x.gid ≠ g.gid) } := h.setReady
  refine .ite (fun hd => moves_toDState hgone ?_) fun _ => moves_of_steady hgone
  rw [← hgone.2.2, hd.1]
  decide

theorem moves_graphComplete {gid : Nat} : Moves s (s.graphComplete gid) := by
  unfold State.graphComplete
  split
  · exact .refl s
  · exact .ite (fun _ => .refl s) fun _ => moves_graphGone ((Steady.refl s).foldl fun _ _ h => .ite h.nodeState h).putGstat.event

theorem moves_graphKillComplete {gid : Nat} : Moves s (s.graphKillComplete gid) := by
  unfold State.graphKillComplete
  split
  · exact .refl s
  · exact .ite (fun _ => .refl s) fun _ => moves_graphGone (Steady.refl s).putGstat.event

/-- A rail that goes while others are up is a G3 cause; the last but VDD_AUX holds the device in reset (R9, R10). -/
theorem railRemoved_moves (n : Nat) : Moves s (s.railRemoved n) ∨ Restarts s (s.railRemoved n) ∧ (s.railRemoved n).held = true := by
  unfold State.railRemoved
  dsimp only
  split
  · exact .inl (.refl s)
  split
  · exact .inr ⟨⟨rfl, rfl⟩, rfl⟩
  · exact .inl (moves_g3.of_kept rfl rfl rfl)

theorem execPowerFault_moves {e : RailEvent} (ht : execPowerFault e s = .next t) :
    Moves s t ∨ Restarts s t ∧ ∃ k, e = .removed k ∧ t.held = true := by
  cases ht
  cases e with
  | leaves n => exact .inl (.ite (fun _ => moves_g3) fun _ => .refl s)
  | removed n => exact (railRemoved_moves n).imp id fun ⟨hr, hh⟩ => ⟨hr, n, rfl, hh⟩
  | applied n => exact .inl (moves_of_steady (Steady.refl s).railApplied)

theorem execMachineCheck_moves {e : Check} (ht : execMachineCheck e s = .next t) : Moves s t := by
  cases ht
  cases e with
  | state => exact moves_g3
  | sramCorrected n => exact moves_of_steady (Steady.refl s).modUnit.klog
  | sramUncorrectable n c => exact moves_of_steady (Steady.refl s).sramBad

/-- What an event that may enter a device state does: a move of R20's table, or a reset (R10, R20). -/
theorem exec_moves {i : Instr} (hi : entersState i = true) (ht : exec i s = .next t) :
    Moves s t ∨ Restarts s t ∧ (i = .reset ∨ ∃ k, i = .powerFault (.removed k) ∧ t.held = true) := by
  unfold Machine.exec at ht
  cases i with
  | reset => cases ht; exact .inr ⟨⟨rfl, rfl⟩, .inl rfl⟩
  | powerFault e =>
    exact (execPowerFault_moves ht).imp id fun ⟨hr, k, he, hh⟩ => ⟨hr, .inr ⟨k, congrArg _ he, hh⟩⟩
  | machineCheck e => exact .inl (execMachineCheck_moves ht)
  | thermalTrip => cases ht; exact .inl moves_g3
  | selfCheckFail =>
    cases ht
    exact .inl (.ite (fun h => moves_toDState (.refl s) (by rw [h]; decide)) fun _ => .refl s)
  | mgmtDrain =>
    cases ht
    exact .inl (moves_afterDevcmd (moves_signedCommand fun h k => moves_drain (s := { s with kregs := k }) (of_decide_eq_true h)))
  | mgmtResume =>
    cases ht
    exact .inl (moves_afterDevcmd (moves_signedCommand fun h k => moves_resume (s := { s with kregs := k }) (of_decide_eq_true h)))
  | devcmdStart | devcmdDrain | devcmdResume => cases ht; exact .inl (.ite (fun _ => moves_devcmdRun) fun _ => .refl s)
  | graphComplete => cases ht; exact .inl moves_graphComplete
  | graphKillComplete => cases ht; exact .inl moves_graphKillComplete
  | _ => cases hi

/-- Every step makes a move of R20's table, or resets the device (R10, R16, R20). -/
theorem step_moves (ht : step s = .next t) : Moves s t ∨ Restarts s t ∧ s.toIssue = [] ∧ ∃ i rest,
    nextStep s.agenda = some (i, rest) ∧ (i = .reset ∨ ∃ k, i = .powerFault (.removed k) ∧ t.held = true) := by
  rcases step_steady_or_enters ht with h | ⟨hissue, i, rest, hnext, hi, hexec⟩
  · exact .inl (moves_of_steady h)
  · exact (exec_moves hi hexec).imp id fun ⟨hr, hcause⟩ => ⟨hr, hissue, i, rest, hnext, hcause⟩

end Sys2Proof.Machine

open Sys2Proof Sys2Proof.Machine in
/-- Settles O58: of the moves that a step can make only the one from BRINGUP to READY raises a fuse. -/
theorem fusesOnlyRise : Obligations.FusesOnlyRise := by
  unfold Obligations.FusesOnlyRise
  intro s t ht
  have hkeep (hne : s.dstate = .bringup → t.dstate ≠ .ready) : ¬ (s.dstate = .bringup ∧ t.dstate = .ready ∧ s.boot.readied = false) :=
    fun ⟨hb, hr, _⟩ => hne hb hr
  rcases step_moves ht with (⟨hd, hf⟩ | ⟨hd, hf⟩ | ⟨hb, hr, hf⟩) | ⟨⟨hd, hf⟩, -⟩
  · rw [if_neg (hkeep fun hb => by rw [hd, hb]; decide), hf]
  · rw [if_neg (hkeep fun hb hr => absurd hd (by rw [hb, hr]; decide)), hf]
  · simp only [hb, hr, true_and, hf]
  · rw [if_neg (hkeep fun _ => by rw [hd]; decide), hf]

open Sys2Proof Sys2Proof.Machine in
/-- Settles O59: a step keeps the device state, moves by R20's table, or resets the device. -/
theorem deviceStateTransitions : Obligations.DeviceStateTransitions := by
  unfold Obligations.DeviceStateTransitions
  intro s t ht
  rcases step_moves ht with (⟨hd, -⟩ | ⟨hd, -⟩ | ⟨hb, hr, -⟩) | ⟨⟨hd, -⟩, hissue, hcause⟩
  · exact .inl hd
  · exact .inr (.inr (List.mem_cons_of_mem _ hd))
  · rw [hb, hr]
    exact .inr (.inr List.mem_cons_self)
  · exact .inr (.inl ⟨hd, hissue, hcause⟩)

open Sys2Proof Sys2Proof.Machine in
/-- Settles O60: each value stands in the reset state. -/
theorem resetState : Obligations.ResetState := by
  unfold Obligations.ResetState
  exact ⟨rfl, rfl, rfl, rfl, rfl, rfl, rfl, rfl, fun _ => rfl, rfl, fun _ => rfl, rfl⟩

namespace Sys2Proof.Machine

/-! ## A result (R109, R119, R120) -/

section

variable (s : State) (d : Dest) (v mask : VReg) (lat : Nat) (f : BitVec 6)

/-- The thread of a context changes with nothing else of the context (R109). -/
theorem modThread_ctx (t c : Nat) (g : Thread → Thread) : s.modThread (.ctx t c) g = s.modCtx t c (fun y => { y with x := g y.x }) := rfl

theorem modThread_core (k : Nat) (g : Thread → Thread) : s.modThread (.core k) g = s.modCore k (fun y => { y with x := g y.x }) := rfl

/-- Of two contexts of a tile a change of one leaves the other. -/
theorem ctx_modCtx_twin {t c c' : Nat} (hc : c < 2) (hc' : c' < 2) (h : c' ≠ c) (g : Ctx → Ctx) : (s.modCtx t c g).ctx t c' = s.ctx t c' :=
  ctx_modCtx_other s t c c' g (by rw [ne_eq, eq_iff_iff]; omega)

/-- A tile differs in its contexts alone after a change of one. -/
theorem tile_modCtx_contexts (t c : Nat) (g : Ctx → Ctx) : ∃ y0 y1, (s.modCtx t c g).tile t = { s.tile t with c0 := y0, c1 := y1 } := by
  rw [tile_modCtx]
  unfold Tile.setCtx
  split
  · exact ⟨_, (s.tile t).c1, rfl⟩
  · exact ⟨(s.tile t).c0, _, rfl⟩

end

end Sys2Proof.Machine

open Sys2Proof Sys2Proof.Machine in
/-- Settles O12: a result is one entry more in the pending list of its own thread. -/
theorem resultOnlyPends : Obligations.ResultOnlyPends := by
  unfold Obligations.ResultOnlyPends
  intro s d v mask lat f
  refine ⟨fun t c hc => ⟨_, rfl, ?own, fun c' hc' hne => ctx_modCtx_twin s hc hc' hne _⟩, fun k => ⟨_, rfl, ?core⟩, fun u => rfl,
    fun t c => ⟨⟨_, rfl⟩, fun n hn => ?tiles, tile_modCtx_contexts s t c _⟩, fun k => ⟨⟨_, rfl⟩, fun n hn => core_modCore_ne _ _ _ _ hn.symm⟩⟩
  case own => exact ctx_modCtx s t c _
  case core => exact core_modCore s k _
  case tiles => exact tile_setTile_ne _ _ _ _ hn.symm

namespace Sys2Proof.Machine

open Sys2Proof.Claims

/-! ## Branches and calls (R123, R339) -/

section

variable {s : State} {p : BitVec 4} {off : BitVec 11} {g : BitVec 6} {i : Instr} {b : Bool} {t : Nat}

theorem exec_br : exec (.br p off) s = branchOp ((me s).guard p) (branchTarget s off) s := rfl
theorem exec_brp : exec (.brp p off) s = branchOp (decide ((me s).rp (p.toNat % 8) ≠ 0) != p.getLsbD 3) (branchTarget s off) s := rfl
theorem exec_jr : exec (.jr p g) s = branchOp ((me s).guard p) (gr s g).toNat s := rfl
theorem exec_ret : exec (.ret p) s = branchOp ((me s).guard p) ((me s).rg 63).toNat s := rfl
theorem exec_call : exec (.call p off) s = callOp ((me s).guard p) (branchTarget s off) s := rfl
theorem exec_callr : exec (.callr p g) s = callOp ((me s).guard p) (gr s g).toNat s := rfl

theorem branchOp_eq : branchOp b t s = .next (branched s b t) := rfl

/-- A branch that writes no register records its outcome and target. -/
theorem exec_of_branchOf (h : branchOf s i = some (b, t)) : exec i s = .next (branched s b t) := by
  unfold branchOf at h
  split at h
  case h_1 => cases h; exact exec_br
  case h_2 => cases h; exact exec_brp
  case h_3 => cases h; exact exec_jr
  case h_4 => cases h; exact exec_ret
  case h_5 => cases h

theorem exec_of_callOf (h : callOf s i = some (b, t)) : exec i s = callOp b t s := by
  unfold callOf at h
  split at h
  case h_1 => cases h; exact exec_call
  case h_2 => cases h; exact exec_callr
  case h_3 => cases h

theorem callOp_of_false : callOp false t s = .next (branched s false t) := rfl

/-- A call whose guard is true issues with the check of its two delay-slot chains. -/
theorem callOp_of_true : callOp true t s = issue s true (callCheck s) (fun q =>
    branched (q.result64 q.cur.u (.g 63) (BitVec.ofNat 64 (returnOffset q)) 1) true t) := by
  have hcur : (s.result64 s.cur.u (.g 63) (BitVec.ofNat 64 (returnOffset s)) 1).cur = s.cur := result64_cur _ _ _ _ _
  simp only [callOp, Bool.not_true, Bool.false_eq_true, if_false]
  refine issue_congr ?_ _ _
  simp only [branched, hcur]
  rfl

theorem callCheck_of_unit {n : Nat} (h : s.skipChains s.cur.u 2 s.cur.next = .unit n) : callCheck s = .ok := by simp only [callCheck, h]

theorem callCheck_of_fault {c : Cause} {f : Nat} (h : s.skipChains s.cur.u 2 s.cur.next = .fault c f) :
    callCheck s = .fault c (BitVec.ofNat 64 f) := by simp only [callCheck, h]

theorem returnOffset_of_unit {n : Nat} (h : s.skipChains s.cur.u 2 s.cur.next = .unit n) : returnOffset s = n := by simp only [returnOffset, h]

end

end Sys2Proof.Machine

open Sys2Proof Sys2Proof.Machine Sys2Proof.Claims in
/-- Settles O14: a branch is one record in its thread; a call issues with the check of the chains of its delay slots. -/
theorem branchAndCallResults : Obligations.BranchAndCallResults := by
  unfold Obligations.BranchAndCallResults
  refine ⟨fun s i b t hi => exec_of_branchOf hi, fun s i b t hi => ?_⟩
  rw [exec_of_callOf hi]
  refine ⟨fun hb => ?untaken, fun n hb hn => ?taken, fun c f hb hc hf => ?faults⟩
  case untaken => rw [hb, callOp_of_false]
  case taken => rw [hb, callOp_of_true, issue_go s _ _ (.inr (callCheck_of_unit hn)), returnOffset_of_unit hn]
  case faults =>
    rw [hb, callOp_of_true, callCheck_of_fault hf]
    exact issue_refuse s _ _ hc Verdict.noConfusion Verdict.noConfusion

namespace Sys2Proof.Machine

/-! ## The flow of a thread at the end of a bundle (R123, R343-R345) -/

section

variable {x : Thread} {c : Cur}

/-- A level that the chain closes counts down: its counter less one is pending, and two delay slots follow (R123, R343). -/
def Thread.closes (x : Thread) (k : Nat) : Thread :=
  { x.pendAt (.lc k) (BitVec.ofNat 1024 ((if k = 1 then x.lc1 else x.lc0).toNat - 1)) (BitVec.allOnes 1024) 1 0 with
    branch := some { target := 0, taken := false, left := 2 } }

/-- The thread with level k inactive. -/
def Thread.dropLevel (x : Thread) (k : Nat) : Thread := if k = 1 then { x with loop1 := none } else { x with loop0 := none }

variable {pc n k : Nat} {opened j : Option Nat} {l : LoopLevel}

/-- Where the chain is not the END of the innermost level it ends no loop. -/
theorem loopEnd_of_elsewhere (h : ∀ k l, x.innermost opened = some (k, l) → l.stop ≠ pc) : x.loopEnd pc opened n j = (x, j) := by
  cases n with
  | zero => rfl
  | succ n =>
    unfold Thread.loopEnd
    split
    · rfl
    next k l hin => rw [if_pos (h k l hin)]

/-- A count that is not used up goes back to START. -/
theorem loopEnd_of_back (hin : x.innermost opened = some (k, l)) (hpc : l.stop = pc) (hv : 1 < (if k = 1 then x.lc1 else x.lc0).toNat) :
    x.loopEnd pc opened (n + 1) j = (x.closes k, some l.start) := by
  have hne : ¬ l.stop ≠ pc := not_not_intro hpc
  have hback : (if k = 1 then x.lc1 else x.lc0).toNat - 1 ≠ 0 := by omega
  rw [Thread.loopEnd, hin]
  simp only [if_neg hne, if_pos hback]
  rfl

/-- A level whose count is used up ends, and the next outer one acts on the same chain. -/
theorem loopEnd_of_done (hin : x.innermost opened = some (k, l)) (hpc : l.stop = pc) (hv : (if k = 1 then x.lc1 else x.lc0).toNat ≤ 1) :
    x.loopEnd pc opened (n + 1) j = ((x.closes k).dropLevel k).loopEnd pc opened n j := by
  have hne : ¬ l.stop ≠ pc := not_not_intro hpc
  have hdone : ¬ (if k = 1 then x.lc1 else x.lc0).toNat - 1 ≠ 0 := by omega
  rw [Thread.loopEnd, hin]
  simp only [if_neg hne, if_neg hdone]
  rfl

theorem delay_of_none (h : x.branch = none) : x.delay = (x, none) := by simp only [Thread.delay, h]

theorem delay_of_last {b : Branch} (h : x.branch = some b) (hl : b.left ≤ 1) :
    x.delay = ({ x with branch := none }, if b.taken then some b.target else none) := by simp only [Thread.delay, h, hl, if_true]

theorem delay_of_more {b : Branch} (h : x.branch = some b) (hl : 1 < b.left) :
    x.delay = ({ x with branch := some { b with left := b.left - 1 } }, none) := by simp only [Thread.delay, h, Nat.not_le.mpr hl, if_false]

/-- What follows once the delay slots and the loop ends of a chain are known. -/
theorem flow_of {y z : Thread} {d j : Option Nat} (hd : x.delay = (y, d)) (hl : y.loopEnd c.pc c.opened 2 none = (z, j)) :
    x.flow c = { z with pc := (j.or (d.or c.jump)).getD c.next, stallLeft := c.stall, hold := .none, walkFault := none } := by
  unfold Thread.flow
  simp only [hd, hl]
  cases j <;> cases d <;> cases c.jump <;> rfl

theorem innermost_congr {y : Thread} (h1 : y.loop1 = x.loop1) (h0 : y.loop0 = x.loop0) (o : Option Nat) : y.innermost o = x.innermost o := by
  simp only [Thread.innermost, h1, h0]

/-- The innermost level, its number and whether the bundle's own LOOP is left out (R342, R343). -/
theorem innermost_cases (h : x.innermost opened = some (k, l)) : x.loop1 = some l ∧ opened ≠ some 1 ∨
    x.loop0 = some l ∧ (x.loop1 = none ∧ opened ≠ some 0 ∨ x.loop1.isSome = true ∧ opened = some 1) := by
  unfold Thread.innermost at h
  split at h
  next h1 h0 =>
    split at h
    next ho => cases h; exact .inr ⟨h0, .inr ⟨by rw [h1]; rfl, ho⟩⟩
    next ho => cases h; exact .inl ⟨h1, ho⟩
  next h1 h0 =>
    split at h
    · cases h
    next ho => cases h; exact .inl ⟨h1, ho⟩
  next h1 h0 =>
    split at h
    · cases h
    next ho => cases h; exact .inr ⟨h0, .inl ⟨h1, ho⟩⟩
  · cases h

end

end Sys2Proof.Machine

open Sys2Proof Sys2Proof.Machine in
/-- Settles O15: where the chain ends no level, the flow is that of the delay slots alone. -/
theorem delaySlotsThenTarget : Obligations.DelaySlotsThenTarget := by
  unfold Obligations.DelaySlotsThenTarget
  intro x c b h1 h0 hb hj
  have helse : ∀ (o : Option Branch), { x with branch := o }.loopEnd c.pc c.opened 2 none = ({ x with branch := o }, none) := fun o =>
    loopEnd_of_elsewhere fun k l hin => (innermost_cases hin).elim (fun ⟨hl, ho⟩ => h1 l hl ho) fun ⟨hl, ho⟩ => h0 l hl ho
  by_cases hl : b.left ≤ 1
  case pos =>
    rw [flow_of (delay_of_last hb hl) (helse _), hj]
    refine ⟨rfl, rfl, rfl, rfl, rfl, fun hgt => absurd hgt (Nat.not_lt.mpr hl), fun _ ht => ?taken, fun _ ht => ?untaken⟩
    case taken => rw [ht]; exact ⟨rfl, rfl⟩
    case untaken => rw [ht]; exact ⟨rfl, rfl⟩
  case neg =>
    rw [flow_of (delay_of_more hb (Nat.not_le.mp hl)) (helse _), hj]
    exact ⟨rfl, rfl, rfl, rfl, rfl, fun _ => ⟨rfl, rfl⟩, fun h => absurd h hl, fun h => absurd h hl⟩

namespace Sys2Proof.Machine

open Sys2Proof.Claims

/-! ## LOOP and the ends of loops (R342, R343, R345) -/

section

variable {s : State} {n : BitVec 4} {off : BitVec 11} {k : Nat}

theorem exec_loop : exec (.loop n off) s = execLoop n off s := rfl

theorem loopCount_eq (s : State) (n : BitVec 4) : loopCount s n = ((me s).rg n.toNat).toNat % 2 ^ 32 := by
  rw [loopCount, fld_eq, Nat.pow_zero, Nat.div_one]
  rfl

theorem loopCheck_of_count (h : loopCount s n ≠ 0) : loopCheck s n off = .ok := by simp only [loopCheck, h, ne_eq, not_false_eq_true, if_true]

theorem loopCheck_of_skip (h : loopSkip s off = .unit k) : loopCheck s n off = .ok := by
  simp only [loopCheck, h]
  split <;> rfl

/-- A LOOP of a nonzero count opens level k: its counter's count is pending, and the level runs from the next chain to the one at OFF (R342). -/
def loopOpened (s : State) (n : BitVec 4) (off : BitVec 11) (k : Nat) : State :=
  ({ s with cur := { s.cur with opened := some k } }.result s.cur.u (.lc k) (BitVec.ofNat 1024 (loopCount s n)) (BitVec.allOnes 1024) 1 0).modThread s.cur.u
    fun x => if k = 1 then { x with loop1 := some { start := s.cur.next, stop := branchTarget s off } }
      else { x with loop0 := some { start := s.cur.next, stop := branchTarget s off } }

/-- The level that a LOOP takes is the first inactive one. -/
theorem execLoop_of_count (h : loopCount s n ≠ 0) : execLoop n off s = .next (loopOpened s n off (if (me s).loop0.isSome then 1 else 0)) := by
  rw [execLoop, issue_go s _ _ (.inr (loopCheck_of_count h))]
  simp only [h, if_false]
  rfl

/-- A LOOP of count zero goes on at the chain after the one at OFF. -/
theorem execLoop_of_zero (h : loopCount s n = 0) (hk : loopSkip s off = .unit k) :
    execLoop n off s = .next { s with cur := { s.cur with jump := some k } } := by
  rw [execLoop, issue_go s _ _ (.inr (loopCheck_of_skip hk))]
  simp only [h, if_true, hk]

variable {x : Thread} {c : Cur} {l o : LoopLevel} {opened : Option Nat}

theorem innermost_zero (h0 : x.loop0 = some l) (h : x.loop1 = none ∧ opened = none ∨ opened = some 1) : x.innermost opened = some (0, l) := by
  rcases h with ⟨h1, rfl⟩ | rfl
  · simp [Thread.innermost, h1, h0]
  · cases h1 : x.loop1 <;> simp [Thread.innermost, h1, h0]

theorem innermost_one (h1 : x.loop1 = some l) (h0 : x.loop0 = some o) : x.innermost none = some (1, l) := by
  simp [Thread.innermost, h1, h0]

/-- With level 0 alone to act, and inactive now, nothing more ends. -/
theorem innermost_none (h0 : x.loop0 = none) (h : x.loop1 = none ∧ opened = none ∨ opened = some 1) : x.innermost opened = none := by
  rcases h with ⟨h1, rfl⟩ | rfl
  · simp [Thread.innermost, h1, h0]
  · cases h1 : x.loop1 <;> simp [Thread.innermost, h1, h0]

/-- Level 0 acts on its own END, whatever count of levels is left to look at: back to START, or it ends (R343). -/
theorem loopEnd_zero {m : Nat} {j : Option Nat} (h0 : x.loop0 = some l) (h : x.loop1 = none ∧ opened = none ∨ opened = some 1) :
    x.loopEnd l.stop opened (m + 1) j =
      if 1 < x.lc0.toNat then (x.closes 0, some l.start) else ((x.closes 0).dropLevel 0, j) := by
  have hin := innermost_zero h0 h
  split
  next hv => exact loopEnd_of_back hin rfl hv
  next hv =>
    rw [loopEnd_of_done hin rfl (Nat.not_lt.mp hv)]
    refine loopEnd_of_elsewhere fun k l hk => ?_
    have hnone : ((x.closes 0).dropLevel 0).innermost opened = none := innermost_none rfl h
    rw [hnone] at hk
    cases hk

end

end Sys2Proof.Machine

open Sys2Proof Sys2Proof.Machine Sys2Proof.Claims in
/-- Settles O16: LOOP opens the first inactive level; each level that acts on the chain is one turn of loopEnd. -/
theorem loopResults : Obligations.LoopResults := by
  unfold Obligations.LoopResults
  refine ⟨?_, ?_, ?_⟩
  · rintro s n off cnt stop rfl rfl
    rw [← loopCount_eq]
    refine ⟨fun hc h0 => ?level0, fun hc h0 => ?level1, fun k hc hk => ?skip⟩
    case level0 => rw [exec_loop, execLoop_of_count hc, h0]; rfl
    case level1 => rw [exec_loop, execLoop_of_count hc, if_pos h0]; rfl
    case skip => exact execLoop_of_zero hc hk
  · intro x c l hb h0 hin hpc hj
    have hend := loopEnd_zero (m := 1) (j := none) h0 hin
    rw [hpc] at hend
    by_cases hv : 1 < x.lc0.toNat
    · rw [if_pos hv] at hend
      rw [flow_of (delay_of_none hb) hend]
      exact ⟨rfl, rfl, fun _ => ⟨rfl, h0⟩, fun hle => absurd hv (Nat.not_lt.mpr hle)⟩
    · rw [if_neg hv] at hend
      rw [flow_of (delay_of_none hb) hend, hj]
      exact ⟨rfl, rfl, fun hgt => absurd hgt hv, fun _ => ⟨rfl, rfl⟩⟩
  · rintro x c o l p1 p0 hb h0 h1 ho hj rfl rfl
    refine ⟨fun hpc => ?inner, fun hpc y hy => ?left⟩
    case inner =>
      have hin : x.innermost c.opened = some (1, l) := by rw [ho]; exact innermost_one h1 h0
      by_cases hv : 1 < x.lc1.toNat
      case pos =>
        rw [flow_of (delay_of_none hb) (loopEnd_of_back hin hpc hv)]
        have hgt := Nat.not_le.mpr hv
        exact ⟨rfl, fun _ => ⟨rfl, rfl, h1, h0⟩, fun h => absurd h hgt, fun h => absurd h hgt, fun h => absurd h hgt⟩
      case neg =>
        have hend := loopEnd_of_done (n := 1) (j := none) hin hpc (Nat.not_lt.mp hv)
        have hout : ((x.closes 1).dropLevel 1).loop0 = some o := h0
        by_cases hopc : o.stop = c.pc
        case neg =>
          have helse : ((x.closes 1).dropLevel 1).loopEnd c.pc c.opened 1 none = ((x.closes 1).dropLevel 1, none) := by
            refine loopEnd_of_elsewhere fun k m hk => ?_
            rw [innermost_zero hout (.inl ⟨rfl, ho⟩)] at hk
            cases hk
            exact hopc
          rw [flow_of (delay_of_none hb) (hend.trans helse), hj]
          exact ⟨rfl, fun h => absurd h hv, fun _ _ => ⟨rfl, rfl, rfl, h0⟩, fun _ h => absurd h hopc, fun _ h => absurd h hopc⟩
        case pos =>
          have houter := loopEnd_zero (m := 0) (j := none) hout (.inl ⟨rfl, ho⟩)
          rw [hopc] at houter
          by_cases hv0 : 1 < x.lc0.toNat
          · rw [if_pos (show 1 < ((x.closes 1).dropLevel 1).lc0.toNat from hv0)] at houter
            rw [flow_of (delay_of_none hb) (hend.trans houter)]
            exact ⟨rfl, fun h => absurd h hv, fun _ h => absurd hopc h, fun _ _ _ => ⟨List.append_assoc _ _ _, rfl, rfl, h0⟩,
              fun _ _ h => absurd hv0 (Nat.not_lt.mpr h)⟩
          · rw [if_neg (show ¬ 1 < ((x.closes 1).dropLevel 1).lc0.toNat from hv0)] at houter
            rw [flow_of (delay_of_none hb) (hend.trans houter), hj]
            exact ⟨rfl, fun h => absurd h hv, fun _ h => absurd hopc h, fun _ _ h => absurd h hv0,
              fun _ _ _ => ⟨List.append_assoc _ _ _, rfl, rfl, rfl⟩⟩
    case left =>
      subst hy
      rw [leaveLoop_of_loop1 h1]
      obtain ⟨br, hdelay⟩ : ∃ br, Thread.delay { x with loop1 := none, branch := if l.stop = c.pc then some { target := 0, taken := false, left := 3 } else x.branch } =
          ({ x with loop1 := none, branch := br }, none) := by
        by_cases hl : l.stop = c.pc
        · rw [if_pos hl]; exact ⟨_, rfl⟩
        · rw [if_neg hl, hb]; exact ⟨_, rfl⟩
      have houter := loopEnd_zero (x := { x with loop1 := none, branch := br }) (m := 1) (j := none) h0 (.inl ⟨rfl, ho⟩)
      rw [hpc] at houter
      by_cases hv : 1 < x.lc0.toNat
      · rw [if_pos (show 1 < (Thread.lc0 { x with loop1 := none, branch := br }).toNat from hv)] at houter
        rw [flow_of hdelay houter]
        exact ⟨rfl, rfl, rfl, rfl, fun _ => ⟨rfl, h0⟩, fun h => absurd hv (Nat.not_lt.mpr h)⟩
      · rw [if_neg (show ¬ 1 < (Thread.lc0 { x with loop1 := none, branch := br }).toNat from hv)] at houter
        rw [flow_of hdelay houter, hj]
        exact ⟨rfl, rfl, rfl, rfl, fun h => absurd h hv, fun _ => ⟨rfl, rfl⟩⟩

namespace Sys2Proof.Machine

/-! ## The bank map (R126, R129) -/

section

variable {x : Tile} {a b sw : Nat}

/-- The group of banks, of 16 * 2^sw bytes, that the swizzle gives an address within its row (R126). -/
def bankGroup (sw a : Nat) : Nat := (a % 1024 / (16 * 2 ^ sw)) ^^^ (a / 1024 % (1024 / (16 * 2 ^ sw)))

theorem bankGroup_lt (h : sw < 6) (a : Nat) : bankGroup sw a < 1024 / (16 * 2 ^ sw) := by
  have hpow : 1024 / (16 * 2 ^ sw) = 2 ^ (6 - sw) := by interval_cases sw <;> rfl
  have hlow : a % 1024 / (16 * 2 ^ sw) < 2 ^ (6 - sw) := by interval_cases sw <;> omega
  rw [bankGroup, hpow]
  exact Nat.xor_lt_two_pow hlow (Nat.mod_lt _ (Nat.two_pow_pos _))

/-- SWZ 6 leaves an address where it is. -/
theorem padKey_of_six (h : (mget 6#3 x.swz (a / 16384)).toNat = 6) : x.padKey a = a := by
  simp only [Tile.padKey, Tile.bank, h, if_true]
  omega

/-- A lower SWZ moves the groups of a row among themselves. -/
theorem padKey_of_group (h : (mget 6#3 x.swz (a / 16384)).toNat = sw) (hlt : sw < 6) :
    x.padKey a = a / 1024 * 1024 + (bankGroup sw a * (16 * 2 ^ sw) + a % (16 * 2 ^ sw)) := by
  have hbank : x.bank a = (bankGroup sw a * (16 * 2 ^ sw) + a % (16 * 2 ^ sw)) / 16 := by
    simp only [Tile.bank, h, Nat.ne_of_lt hlt, if_false]
    rfl
  rw [Tile.padKey, hbank]
  generalize bankGroup sw a = q
  interval_cases sw <;> omega

/-- An address stays in its row. -/
theorem padKey_row (hsw : (mget 6#3 x.swz (a / 16384)).toNat < 7) : x.padKey a / 1024 = a / 1024 := by
  rcases Nat.lt_succ_iff_lt_or_eq.mp hsw with h | h
  · have hq := bankGroup_lt h a
    rw [padKey_of_group rfl h]
    generalize (mget 6#3 x.swz (a / 16384)).toNat = sw at *
    generalize bankGroup sw a = q at *
    interval_cases sw <;> omega
  · rw [padKey_of_six h]

/-- Of one row, two addresses with one group and one place in it are one: the row number shifts every group alike. -/
theorem eq_of_bankGroup (h : sw < 6) (hrow : a / 1024 = b / 1024) (hg : bankGroup sw a = bankGroup sw b)
    (hin : a % (16 * 2 ^ sw) = b % (16 * 2 ^ sw)) : a = b := by
  have hgroup : a % 1024 / (16 * 2 ^ sw) = b % 1024 / (16 * 2 ^ sw) := by
    rw [bankGroup, bankGroup, hrow] at hg
    exact Nat.xor_left_injective hg
  interval_cases sw <;> omega

theorem padKey_injective (hs : ∀ j, (mget 6#3 x.swz j).toNat ≠ 7) (h : x.padKey a = x.padKey b) : a = b := by
  have hlt j : (mget 6#3 x.swz j).toNat < 7 := by have := hs j; have := (mget 6#3 x.swz j).isLt; omega
  have hrow : a / 1024 = b / 1024 := by rw [← padKey_row (hlt _), h, padKey_row (hlt _)]
  have hregion : b / 16384 = a / 16384 := by omega
  rcases Nat.lt_succ_iff_lt_or_eq.mp (hlt (a / 16384)) with hsw | hsw
  · rw [padKey_of_group rfl hsw, padKey_of_group (a := b) (congrArg (fun j => (mget 6#3 x.swz j).toNat) hregion) hsw, hrow] at h
    have ha := bankGroup_lt hsw a
    have hb := bankGroup_lt hsw b
    refine eq_of_bankGroup hsw hrow ?_ ?_
    all_goals
      generalize (mget 6#3 x.swz (a / 16384)).toNat = sw at *
      generalize bankGroup sw a = p, bankGroup sw b = q at *
      interval_cases sw <;> omega
  · rwa [padKey_of_six hsw, padKey_of_six (a := b) (hregion ▸ hsw)] at h

end

end Sys2Proof.Machine

open Sys2Proof Sys2Proof.Machine in
/-- Settles O26: the row stays, and within it the groups of banks are permuted. -/
theorem swizzleInjective : Obligations.SwizzleInjective := by
  unfold Obligations.SwizzleInjective
  exact fun x hs a b h => padKey_injective hs h

namespace Sys2Proof.Machine

open Sys2Proof.Claims

/-! ## Loads and stores in the own scratchpad (R128, R365) -/

/-! ### Bytes put into the scratchpad -/

section

variable {x : Tile} {l : List (Nat × Byte)} {b : Nat}

/-- Bytes put into a tile change its scratchpad alone. -/
theorem padSet_eq : ∀ (l : List (Nat × Byte)) (x : Tile), x.padSet l = { x with pad := (x.padSet l).pad }
  | [], _ => rfl
  | e :: l, x => by
    change (x.padPut e.1 e.2).padSet l = { x with pad := ((x.padPut e.1 e.2).padSet l).pad }
    rw [padSet_eq l]
    rfl

theorem padByte_padPut_same {a : Nat} {v : Byte} (h : x.padKey a = x.padKey b) : (x.padPut a v).padByte b = v := by
  change mget 0 (mset 0 x.pad (x.padKey a) v) (x.padKey b) = v
  rw [h, mget_mset_same]

theorem padByte_padPut_ne {a : Nat} {v : Byte} (h : x.padKey a ≠ x.padKey b) : (x.padPut a v).padByte b = x.padByte b :=
  mget_mset_ne _ _ _ _ _ h

/-- A byte held at none of the places written stays. -/
theorem padByte_padSet_out (h : ∀ e ∈ l, x.padKey e.1 ≠ x.padKey b) : (x.padSet l).padByte b = x.padByte b := by
  induction l generalizing x with
  | nil => rfl
  | cons e l ih =>
    have hrest : ∀ f ∈ l, (x.padPut e.1 e.2).padKey f.1 ≠ (x.padPut e.1 e.2).padKey b := fun f hf => h f (List.mem_cons_of_mem _ hf)
    exact (ih hrest).trans (padByte_padPut_ne (h e List.mem_cons_self))

/-- Of bytes held at places of their own, each stands. -/
theorem padByte_padSet_in {e : Nat × Byte} (hn : (l.map fun e => x.padKey e.1).Nodup) (he : e ∈ l) : (x.padSet l).padByte e.1 = e.2 := by
  induction l generalizing x with
  | nil => cases he
  | cons f l ih =>
    rw [List.map_cons, List.nodup_cons] at hn
    obtain ⟨hf, hl⟩ := hn
    rcases List.mem_cons.mp he with rfl | he
    · have hout : ∀ g ∈ l, (x.padPut e.1 e.2).padKey g.1 ≠ (x.padPut e.1 e.2).padKey e.1 := fun g hg hk =>
        hf (List.mem_map.mpr ⟨g, hg, hk⟩)
      exact (padByte_padSet_out hout).trans (padByte_padPut_same rfl)
    · exact ih hl he

/-! ### The bytes of the lanes guarded on -/

theorem keepLanes_sublist : ∀ (bs : List Bool) (es : List (Nat × Byte)), (keepLanes bs es).Sublist es
  | [], _ => List.nil_sublist _
  | _ :: _, [] => List.nil_sublist _
  | true :: bs, e :: es => (keepLanes_sublist bs es).cons_cons e
  | false :: bs, e :: es => (keepLanes_sublist bs es).cons e

/-- A byte is kept where its lane is on. -/
theorem mem_keepLanes {e : Nat × Byte} : ∀ {bs : List Bool} {es : List (Nat × Byte)},
    e ∈ keepLanes bs es ↔ ∃ k : Nat, bs[k]? = some true ∧ es[k]? = some e
  | [], _ => by simp [keepLanes]
  | _ :: _, [] => by simp [keepLanes]
  | b :: bs, f :: es => by
    have hkeep : keepLanes (b :: bs) (f :: es) = if b then f :: keepLanes bs es else keepLanes bs es := rfl
    have hex : (∃ k : Nat, (b :: bs)[k]? = some true ∧ (f :: es)[k]? = some e) ↔ b = true ∧ f = e ∨ e ∈ keepLanes bs es := by
      rw [mem_keepLanes]
      constructor
      · rintro ⟨_ | k, hb, he⟩
        · exact .inl (by simpa using And.intro hb he)
        · exact .inr ⟨k, by simpa using hb, by simpa using he⟩
      · rintro (⟨rfl, rfl⟩ | ⟨k, hb, he⟩)
        · exact ⟨0, rfl, rfl⟩
        · exact ⟨k + 1, by simpa using hb, by simpa using he⟩
    rw [hkeep, hex]
    cases b <;> simp [eq_comm]

end

/-! ### What each load and store is -/

section

variable {s : State} {i : Instr} {n : Nat} {p m : BitVec 4} {off : BitVec 12} {r : BitVec 6}

theorem loadOp_of_tile (hu : unitIsCore s.cur.u = false) : loadOp n p off m r s = tileLoad n p off m r s := by
  simp only [loadOp, hu, Bool.false_eq_true, if_false]

theorem storeOp_of_tile (hu : unitIsCore s.cur.u = false) : storeOp n p off m r s = tileStore n p off m r s := by
  simp only [storeOp, hu, Bool.false_eq_true, if_false]

theorem exec_of_scalarLoad (hu : unitIsCore s.cur.u = false) (h : scalarLoad i = some (n, p, off, m, r)) : exec i s = tileLoad n p off m r s := by
  rw [← loadOp_of_tile hu]
  unfold scalarLoad at h
  split at h
  case h_1 => cases h; rfl
  case h_2 => cases h; rfl
  case h_3 => cases h; rfl
  case h_4 => cases h; rfl
  case h_5 => cases h

theorem exec_of_scalarStore (hu : unitIsCore s.cur.u = false) (h : scalarStore i = some (n, p, off, m, r)) :
    exec i s = tileStore n p off m r s := by
  rw [← storeOp_of_tile hu]
  unfold scalarStore at h
  split at h
  case h_1 => cases h; rfl
  case h_2 => cases h; rfl
  case h_3 => cases h; rfl
  case h_4 => cases h; rfl
  case h_5 => cases h

theorem exec_of_vectorLoad (h : vectorLoad i = some (n, p, off, m, r)) : exec i s = tileVload n p off m r s ∧ (n = 32 ∨ n = 64 ∨ n = 128) := by
  unfold vectorLoad at h
  split at h
  case h_1 => cases h; exact ⟨rfl, .inl rfl⟩
  case h_2 => cases h; exact ⟨rfl, .inr (.inl rfl)⟩
  case h_3 => cases h; exact ⟨rfl, .inr (.inr rfl)⟩
  case h_4 => cases h

theorem exec_of_vectorStore (h : vectorStore i = some (n, p, off, m, r)) : exec i s = tileVstore n p off m r s ∧ (n = 32 ∨ n = 64 ∨ n = 128) := by
  unfold vectorStore at h
  split at h
  case h_1 => cases h; exact ⟨rfl, .inl rfl⟩
  case h_2 => cases h; exact ⟨rfl, .inr (.inl rfl)⟩
  case h_3 => cases h; exact ⟨rfl, .inr (.inr rfl)⟩
  case h_4 => cases h

/-- An access has as many bytes as its size. -/
theorem length_local_bytes (u : UnitId) (store : Bool) : (s.local u m off n store).bytes.length = n := by
  have hbytes : ∀ (t : Tile) (c k : Nat) (l : List Nat), (boundLocal t c k store l).bytes.length = l.length := fun t c k l => by
    unfold boundLocal
    dsimp only
    split
    · rfl
    split
    · rfl
    split
    · exact List.length_map _
    · exact List.length_map _
  unfold State.local
  dsimp only
  split
  · rw [hbytes, List.length_map, List.length_range]
  · rw [plainLocal, List.length_map, List.length_range]

theorem tileLoad_eq : tileLoad n p off m r s = issue s ((me s).guard p) (s.local s.cur.u m off n false).verdict (fun q =>
    q.result64 q.cur.u (.g r.toNat)
      (BitVec.ofNat 64 (ofBytes ((q.local q.cur.u m off n false).bytes.map (pad q).padByte))) 4) := rfl

theorem tileVload_eq (hn : n = 32 ∨ n = 64 ∨ n = 128) : tileVload n p off m r s =
    issue s (((List.range n).map (laneOn s p n r)).any id) (s.local s.cur.u m off n false).verdict (fun q =>
      q.result q.cur.u (.v (partReg n r))
        (BitVec.ofNat 1024 (ofBytes ((q.local q.cur.u m off n false).bytes.map (pad q).padByte) * 2 ^ (8 * partByte n r)))
        (BitVec.ofNat 1024 (maskOf (8 * partByte n r) 8 ((List.range n).map (laneOn q p n r)))) 4 0) := by
  rw [← laneList_eq hn, tileVload]
  refine issue_congr ?_ _ _
  rw [← laneList_eq hn, lPart_eq hn]
  rfl

/-- The bytes that a scalar store puts, with their addresses. -/
def scalarBytes (s : State) (n : Nat) (m : BitVec 4) (off : BitVec 12) (r : BitVec 6) : List (Nat × Byte) :=
  (s.local s.cur.u m off n true).bytes.zip (toBytes n (gr s r).toNat)

/-- The bytes of the whole part that a vector store names, with their addresses. -/
def partBytes (s : State) (n : Nat) (m : BitVec 4) (off : BitVec 12) (r : BitVec 6) : List (Nat × Byte) :=
  (s.local s.cur.u m off n true).bytes.zip (toBytes n ((me s).part (lPart n r)))

theorem tileStore_eq : tileStore n p off m r s = issue s ((me s).guard p) (s.local s.cur.u m off n true).verdict (fun q =>
    q.modTile (unitTile q.cur.u) (fun t => t.padSet (scalarBytes q n m off r))) := rfl

theorem tileVstore_eq (hn : n = 32 ∨ n = 64 ∨ n = 128) : tileVstore n p off m r s =
    issue s (((List.range n).map (laneOn s p n r)).any id) (s.local s.cur.u m off n true).verdict (fun q =>
      q.modTile (unitTile q.cur.u) (fun t => t.padSet (keepLanes ((List.range n).map (laneOn q p n r)) (partBytes q n m off r)))) := by
  rw [← laneList_eq hn, tileVstore]
  refine issue_congr ?_ _ _
  rw [← laneList_eq hn]
  rfl

/-- Byte k of the part is byte k of its register from the part's first on. -/
theorem getElem_partBytes (hn : n = 32 ∨ n = 64 ∨ n = 128) {k : Nat} (hk : k < n) : (partBytes s n m off r)[k]? =
    some ((s.local s.cur.u m off n true).bytes.getD k 0, BitVec.ofNat 8 (((me s).rv (partReg n r)).toNat / 256 ^ (partByte n r + k))) := by
  have hlen : k < (s.local s.cur.u m off n true).bytes.length := by rwa [length_local_bytes]
  have hbyte : BitVec.ofNat 8 ((me s).part (lPart n r) / 256 ^ k) = BitVec.ofNat 8 (((me s).rv (partReg n r)).toNat / 256 ^ (partByte n r + k)) := by
    apply BitVec.eq_of_toNat_eq
    have hpow : ∀ j, 256 ^ j = 2 ^ (8 * j) := fun j => by rw [Nat.pow_mul]
    have hsplit : 8 * n = 8 * k + 8 * (n - k) := by omega
    have hmod : 2 ^ 8 ∣ 2 ^ (8 * (n - k)) := Nat.pow_dvd_pow 2 (by omega)
    rw [BitVec.toNat_ofNat, BitVec.toNat_ofNat, Thread.part, fld_eq, lPart_eq hn]
    dsimp only
    rw [hpow, hpow, hsplit, Nat.pow_add, Nat.mod_mul_right_div_self, Nat.mod_mod_of_dvd _ hmod, Nat.div_div_eq_div_mul, ← Nat.pow_add, ← Nat.mul_add]
  rw [partBytes, List.getElem?_zip_eq_some.mpr]
  refine ⟨?_, ?_⟩
  · rw [List.getD_eq_getElem _ _ hlen]
    exact List.getElem?_eq_getElem hlen
  · rw [List.getElem?_eq_getElem (by rwa [length_toBytes]), getElem_toBytes, hbyte]

theorem getElem_scalarBytes {k : Nat} (hk : k < n) : (scalarBytes s n m off r)[k]? =
    some ((s.local s.cur.u m off n true).bytes.getD k 0, BitVec.ofNat 8 ((gr s r).toNat / 256 ^ k)) := by
  have hlen : k < (s.local s.cur.u m off n true).bytes.length := by rwa [length_local_bytes]
  rw [scalarBytes, List.getElem?_zip_eq_some.mpr]
  refine ⟨?_, ?_⟩
  · rw [List.getD_eq_getElem _ _ hlen]
    exact List.getElem?_eq_getElem hlen
  · rw [List.getElem?_eq_getElem (by rwa [length_toBytes]), getElem_toBytes]

theorem length_bytes_le (x : Nat) : (s.local s.cur.u m off n true).bytes.length ≤ (toBytes n x).length := by
  rw [length_local_bytes, length_toBytes]

theorem onlyPad_padSet (k : Nat) (s : State) (l : List (Nat × Byte)) : OnlyPad k s (s.modTile k fun t => t.padSet l) := by
  rw [OnlyPad, tile_modTile]
  exact congrArg (s.setTile k) (padSet_eq l (s.tile k))

/-- Bytes put at the places of a list, each its own, keep places of their own where some are left out. -/
theorem nodup_places {x : Tile} {a : List Nat} {v : List Byte} {l : List (Nat × Byte)} (hn : (a.map x.padKey).Nodup)
    (hlen : a.length ≤ v.length) (hl : l.Sublist (a.zip v)) :
    (l.map fun e => x.padKey e.1).Nodup := by
  have hsub : (l.map Prod.fst).Sublist a := List.map_fst_zip hlen ▸ hl.map Prod.fst
  have hmap : l.map (fun e => x.padKey e.1) = (l.map Prod.fst).map x.padKey := by rw [List.map_map]; rfl
  rw [hmap]
  exact hn.sublist (hsub.map _)

end

end Sys2Proof.Machine

open Sys2Proof Sys2Proof.Machine Sys2Proof.Claims in
/-- Settles O25: a load is one result of the bytes at the access's places; a store puts the bytes of its active lanes there, and a byte elsewhere stays. -/
theorem localLoadsAndStores : Obligations.LocalLoadsAndStores := by
  unfold Obligations.LocalLoadsAndStores
  refine ⟨fun s hu => ⟨fun i n p off m r hi => ?scalarLoad, fun i n p off m r hi => ?vectorLoad⟩,
    fun s hu => ⟨fun i n p off m r l hi hl => ?scalarStore, fun i n p off m r l hi hl => ?vectorStore⟩⟩
  case scalarLoad =>
    rw [exec_of_scalarLoad hu hi, tileLoad_eq]
    refine ⟨fun hp => ?_, fun hp hc => ?_, fun c f hp hc hv => ?_, fun h hp hc hv => ?_⟩
    · rw [hp, issue_off]
    · rw [hp, issue_go s _ _ hc]
    · rw [hp, hv, issue_refuse s _ _ hc Verdict.noConfusion Verdict.noConfusion]
    · rw [hp, hv, issue_refuse s _ _ hc Verdict.noConfusion Verdict.noConfusion]
  case vectorLoad =>
    obtain ⟨hexec, hn⟩ := exec_of_vectorLoad (s := s) hi
    rw [hexec, tileVload_eq hn]
    refine ⟨fun hoff => ?_, fun k hk hon hc => ?_⟩
    · rw [any_map_range_of_off hoff, issue_off]
    · rw [any_map_range_of_on hk hon, issue_go s _ _ hc]
      refine ⟨_, rfl, fun j hj => ?_⟩
      rw [BitVec.getLsbD_ofNat, testBit_maskOf (by decide), List.length_map, List.length_range]
      by_cases hin : 8 * partByte n r ≤ j ∧ j < 8 * (partByte n r + n)
      · have hlt : (j - 8 * partByte n r) / 8 < n := by omega
        have hin' : 8 * partByte n r ≤ j ∧ j < 8 * partByte n r + n * 8 := by omega
        simp [hj, hin, hin', hlt]
      · have hin' : ¬ (8 * partByte n r ≤ j ∧ j < 8 * partByte n r + n * 8) := by omega
        rw [decide_eq_false hin, decide_eq_false hin']
        simp
  case scalarStore =>
    subst hl
    rw [exec_of_scalarStore hu hi, tileStore_eq]
    refine ⟨fun hp => ?_, fun hp hc => ?_⟩
    · rw [hp, issue_off]
    · rw [hp, issue_go s _ _ hc]
      refine ⟨_, rfl, ?_, fun b hb => ?_, fun hnd k hk => ?_⟩
      · exact onlyPad_padSet _ _ _
      · rw [tile_modTile]
        exact padByte_padSet_out fun e he => hb e.1 (List.of_mem_zip he).1
      · rw [tile_modTile]
        exact padByte_padSet_in (e := (_, _)) (nodup_places hnd (length_bytes_le _) (.refl _)) (List.mem_of_getElem? (getElem_scalarBytes hk))
  case vectorStore =>
    subst hl
    obtain ⟨hexec, hn⟩ := exec_of_vectorStore (s := s) hi
    rw [hexec, tileVstore_eq hn]
    refine ⟨fun hoff => ?_, fun k₀ hk₀ hon₀ hc => ?_⟩
    · rw [any_map_range_of_off hoff, issue_off]
    · rw [any_map_range_of_on hk₀ hon₀, issue_go s _ _ hc]
      refine ⟨_, rfl, ?_, fun b hb => ?_, fun hnd k hk hon => ?_⟩
      · exact onlyPad_padSet _ _ _
      · rw [tile_modTile]
        refine padByte_padSet_out fun e he => ?_
        obtain ⟨k, hlane, hbyte⟩ := mem_keepLanes.mp he
        obtain ⟨j, hj, hon⟩ := Option.map_eq_some_iff.mp (List.getElem?_map ▸ hlane)
        obtain ⟨hk, rfl⟩ := List.getElem?_eq_some_iff.mp hj
        rw [List.length_range] at hk
        rw [List.getElem_range] at hon
        rw [getElem_partBytes hn hk] at hbyte
        cases hbyte
        exact hb k hk hon
      · rw [tile_modTile]
        have hlane : ((List.range n).map (laneOn s p n r))[k]? = some true := by simp [hk, hon]
        exact padByte_padSet_in (e := (_, _)) (nodup_places hnd (length_bytes_le _) (keepLanes_sublist _ _)) (mem_keepLanes.mpr ⟨k, hlane, getElem_partBytes hn hk⟩)

namespace Sys2Proof.Machine

open Sys2Proof.Claims

/-! ## Results that land (R109, R111, R120) -/

/-! ### What one result does to its thread -/

section

variable {s : State} {u : UnitId} {x : Thread} {p : Pend} {n : Nat}

/-- A WRSR that lands in a thread: the special registers that a thread holds itself (R110, R359). -/
def Thread.putSr (x : Thread) (n : Nat) (v : W64) : Thread :=
  if n = 0 then { x with fpcsr := v &&& 0x3F03#64 }
  else if n = 1 then { x with check := v.getLsbD 0 }
  else if n = 2 then { x with fmask := v &&& 0x7F#64 }
  else if n = 5 then { x with lc0 := v.setWidth 32 }
  else if n = 6 then { x with lc1 := v.setWidth 32 }
  else x

/-- A result that lands in a thread, its flags apart. -/
def Thread.takes (x : Thread) (p : Pend) : Thread :=
  match p.dest with
  | .sr n => x.putSr n (p.value.setWidth 64)
  | d => x.put d p.value p.mask

theorem thread_modTile_of_ctx {f : Tile → Tile} (h : ∀ y c, (f y).ctx c = y.ctx c) (t : Nat) : (s.modTile t f).thread u = s.thread u := by
  cases u with
  | core k => rfl
  | ctx n c => exact congrArg Ctx.x (tile_modTile_keeps (g := fun y => y.ctx c) (fun y => h y c) s t n)

/-- A change of a core that keeps its thread keeps every thread. -/
theorem thread_modCore_of_x {f : Core → Core} (h : ∀ y, (f y).x = y.x) (k : Nat) : (s.modCore k f).thread u = s.thread u := by
  cases u with
  | ctx n c => rfl
  | core j =>
    by_cases hk : k = j
    · rw [State.thread, ← hk, core_modCore, h]
      rfl
    · rw [State.thread, core_modCore_ne _ _ _ _ hk]
      rfl

/-- The special registers of a thread itself: FPCSR, CTXCTL, FMASK and the loop counters (R110). -/
def inThread (n : Nat) : Prop := n = 0 ∨ n = 1 ∨ n = 2 ∨ n = 5 ∨ n = 6

theorem landSr_of_inThread (h : inThread n) (v : W64) : s.landSr u n v = s.modThread u fun x => x.putSr n v := by
  rcases h with rfl | rfl | rfl | rfl | rfl <;> rfl

theorem putSr_of_elsewhere (h : ¬ inThread n) (v : W64) : x.putSr n v = x := by
  simp only [inThread, not_or] at h
  simp [Thread.putSr, h]

/-- The special registers of a context's tile. -/
theorem landSr_of_ctx {t c : Nat} (h : ¬ inThread n) (v : W64) : s.landSr (.ctx t c) n v =
    if n = 8 then s.modTile t (fun x => x.nanClear s.cycle v)
    else if 0x0C ≤ n ∧ n ≤ 0x0F then s.modTile t (fun x => x.setSwzm (n - 0x0C) v) else s := by
  simp only [inThread, not_or] at h
  simp [State.landSr, h]

/-- The special registers of a core; IPISEND names another (R269). -/
theorem landSr_of_core {k : Nat} (h : ¬ inThread n) (v : W64) : s.landSr (.core k) n v =
    if n = 0x10 then s.modCore k (fun y => { y with tvec := v &&& ~~~1#64 })
    else if n = 0x11 then s.modCore k (fun y => { y with tepc := v })
    else if n = 0x12 then s.modCore k (fun y => { y with tcause := v &&& 0x1FFFFF#64 })
    else if n = 0x13 then s.modCore k (fun y => { y with tfaddr := v })
    else if n = 0x14 then s.modCore k (fun y =>
      { y with dslot := BitVec.ofNat 2 (fld v 3 2), pie := v.getLsbD 2, ie := v.getLsbD 1, pmode := v.getLsbD 0 })
    else if n = 0x15 then s.modCore (fld v 0 5) (fun y => y.interrupt 0x6E#7)
    else if n = 0x16 then s.modCore k (fun y => { y with ccmp := v, compared := false })
    else if n = 0x17 then s.modCore k (fun y => { y with tbtgt := v, falls := false })
    else if n = 0x18 then s.modCore k (fun y => { y with ccten := v.setWidth 7 }) else s := by
  simp only [inThread, not_or] at h
  simp [State.landSr, h]

theorem interrupt_x (y : Core) (c : Cause) : (y.interrupt c).x = y.x := by unfold Core.interrupt; split <;> rfl

/-- Of the special registers that lie outside the thread none is seen in it. -/
theorem thread_landSr (n : Nat) (v : W64) : (s.landSr u n v).thread u = (s.thread u).putSr n v := by
  by_cases h : inThread n
  case pos => rw [landSr_of_inThread h, thread_modThread]
  case neg =>
    rw [putSr_of_elsewhere h]
    cases u with
    | ctx t c =>
      rw [landSr_of_ctx h]
      split
      · exact thread_modTile_of_ctx (f := fun x => x.nanClear s.cycle v) (fun _ _ => rfl) t
      split
      · exact thread_modTile_of_ctx (f := fun x => x.setSwzm (n - 0x0C) v) (fun _ _ => rfl) t
      · rfl
    | core k =>
      have hkeep : ∀ (j : Nat) (f : Core → Core), (∀ y, (f y).x = y.x) → (s.modCore j f).thread (.core k) = s.thread (.core k) :=
        fun j f hf => thread_modCore_of_x hf j
      rw [landSr_of_core h]
      (repeat' split)
      case isFalse.isFalse.isFalse.isFalse.isFalse.isTrue => exact hkeep _ _ fun y => interrupt_x y _
      case isFalse.isFalse.isFalse.isFalse.isFalse.isFalse.isFalse.isFalse.isFalse => rfl
      all_goals exact hkeep _ _ fun _ => rfl

theorem takes_of_sr {k : Nat} (h : p.dest = .sr k) : x.takes p = x.putSr k (p.value.setWidth 64) := by simp only [Thread.takes, h]

theorem takes_of_not_sr (h : ∀ k, p.dest ≠ .sr k) : x.takes p = x.put p.dest p.value p.mask := by
  unfold Thread.takes
  split
  next k hk => exact absurd hk (h k)
  · rfl

theorem thread_landOne (p : Pend) : (s.landOne u p).thread u = (s.thread u).takes p := by
  unfold State.landOne
  split
  next k hk => rw [thread_landSr, takes_of_sr hk]
  next hk => rw [thread_modThread, takes_of_not_sr hk]

/-- The thread once its due results have landed. -/
theorem thread_land (m : Nat) : (s.land u m).thread u = (landed m (s.thread u).pend).foldl (fun x p => x.raise p.flags)
    ((landed m (s.thread u).pend).foldl Thread.takes
      { s.thread u with pend := (s.thread u).pend.filter (fun p => !decide (p.due ≤ m)) }) := by
  have hfold : ∀ (l : List Pend) (q : State), (l.foldl (fun q p => q.landOne u p) q).thread u = l.foldl Thread.takes (q.thread u) := fun l => by
    induction l with
    | nil => exact fun q => rfl
    | cons p l ih =>
      intro q
      rw [List.foldl_cons, List.foldl_cons, ih, thread_landOne]
  rw [State.land, thread_modThread, hfold, thread_modThread]

end

/-! ### What a list of results leaves in one register -/

section

variable {α : Type} {R : Thread → α} {x : Thread} {l l' : List Pend} {p : Pend}

/-- What no result of the list touches stays. -/
theorem foldl_takes_keeps (h : ∀ e ∈ l, ∀ y : Thread, R (y.takes e) = R y) : R (l.foldl Thread.takes x) = R x := by
  induction l generalizing x with
  | nil => rfl
  | cons e l ih => exact (ih fun f hf => h f (List.mem_cons_of_mem _ hf)).trans (h e List.mem_cons_self x)

/-- The last to land wins (R120). -/
theorem foldl_takes_last {v : α} (hp : ∀ y : Thread, R (y.takes p) = v) (h : ∀ e ∈ l', ∀ y : Thread, R (y.takes e) = R y) :
    R ((l ++ p :: l').foldl Thread.takes x) = v := by
  rw [List.foldl_append, List.foldl_cons, foldl_takes_keeps h, hp]

/-- Flags touch FPCSR alone. -/
theorem foldl_raise_keeps (h : ∀ (y : Thread) f, R (y.raise f) = R y) (l : List Pend) (x : Thread) :
    R (l.foldl (fun x p => x.raise p.flags) x) = R x := by
  induction l generalizing x with
  | nil => rfl
  | cons e l ih => exact (ih _).trans (h x e.flags)

/-- The flags of all results are ORed into FPCSR (R111). -/
theorem fpcsr_foldl_raise (l : List Pend) (x : Thread) : (l.foldl (fun x p => x.raise p.flags) x).fpcsr = x.fpcsr ||| flagsOf l := by
  have hacc : ∀ (l : List Pend) (a b : W64), l.foldl (fun (a : W64) (p : Pend) => a ||| (p.flags.setWidth 64 <<< 8)) (a ||| b) =
      a ||| l.foldl (fun (a : W64) (p : Pend) => a ||| (p.flags.setWidth 64 <<< 8)) b := fun l => by
    induction l with
    | nil => exact fun _ _ => rfl
    | cons e l ih => exact fun a b => by rw [List.foldl_cons, List.foldl_cons, BitVec.or_assoc, ih]
  have hfold : ∀ (l : List Pend) (x : Thread), (l.foldl (fun x p => x.raise p.flags) x).fpcsr =
      l.foldl (fun (a : W64) (p : Pend) => a ||| (p.flags.setWidth 64 <<< 8)) x.fpcsr := fun l => by
    induction l with
    | nil => exact fun _ => rfl
    | cons e l ih => exact fun x => ih _
  rw [hfold, flagsOf, ← hacc, BitVec.or_zero]

end

/-! ### What one result does to one register -/

section

variable {x : Thread} {p : Pend} {n : Nat}

/-- A WRSR writes no register of the files (R110). -/
theorem putSr_files (x : Thread) (n : Nat) (v : W64) : (x.putSr n v).g = x.g ∧ (x.putSr n v).a = x.a ∧ (x.putSr n v).am = x.am ∧
    (x.putSr n v).v = x.v ∧ (x.putSr n v).p = x.p ∧ (x.putSr n v).pend = x.pend := by
  unfold Thread.putSr
  (repeat' split) <;> exact ⟨rfl, rfl, rfl, rfl, rfl, rfl⟩

theorem putSr_lc0 (x : Thread) (v : W64) (h : n ≠ 5) : (x.putSr n v).lc0 = x.lc0 := by
  simp only [Thread.putSr, h, if_false]
  (repeat' split) <;> rfl

theorem putSr_lc1 (x : Thread) (v : W64) (h : n ≠ 6) : (x.putSr n v).lc1 = x.lc1 := by
  simp only [Thread.putSr, h, if_false]
  (repeat' split) <;> rfl

theorem putSr_fpcsr (x : Thread) (v : W64) (h : n ≠ 0) : (x.putSr n v).fpcsr = x.fpcsr := by
  simp only [Thread.putSr, h, if_false]
  (repeat' split) <;> rfl

/-- What no WRSR changes, a result changes as a put of its register does. -/
theorem takes_eq_put {α : Type} {R : Thread → α} (h : ∀ (y : Thread) k v, R (y.putSr k v) = R y) (y : Thread) (p : Pend) :
    R (y.takes p) = R (y.put p.dest p.value p.mask) := by
  unfold Thread.takes
  split
  next k hk => rw [h, hk]; rfl
  · rfl

variable (x : Thread) (d : Dest) (v m : VReg) (n : Nat)

theorem rg_put : (x.put d v m).rg n = if n ≠ 0 ∧ d = .g n then v.setWidth 64 else x.rg n := by
  cases d with
  | g k =>
    by_cases hk : k = n
    · by_cases hn : n = 0 <;> simp [Thread.put, Thread.rg, hk, hn]
    · rw [if_neg fun h => hk (Dest.g.inj h.2)]
      by_cases hz : k = 0 <;> simp [Thread.put, Thread.rg, hz, mget_mset_ne _ _ _ _ _ hk]
  | p k | lc k => unfold Thread.put; dsimp only; split <;> simp [Thread.rg]
  | a | am | v | sr => simp [Thread.put, Thread.rg]

theorem ra_put : (x.put d v m).ra n = if d = .a n then v.setWidth 64 else x.ra n := by
  cases d with
  | a k => by_cases hk : k = n <;> simp [Thread.put, Thread.ra, hk, mget_mset_ne]
  | g k | p k | lc k => unfold Thread.put; dsimp only; split <;> simp [Thread.ra]
  | am | v | sr => simp [Thread.put, Thread.ra]

theorem ram_put : (x.put d v m).ram n = if d = .am n then v.setWidth 64 else x.ram n := by
  cases d with
  | am k => by_cases hk : k = n <;> simp [Thread.put, Thread.ram, hk, mget_mset_ne]
  | g k | p k | lc k => unfold Thread.put; dsimp only; split <;> simp [Thread.ram]
  | a | v | sr => simp [Thread.put, Thread.ram]

theorem rv_put : (x.put d v m).rv n = if d = .v n then (x.rv n &&& ~~~m) ||| (v &&& m) else x.rv n := by
  cases d with
  | v k => by_cases hk : k = n <;> simp [Thread.put, Thread.rv, hk, mget_mset_ne]
  | g k | p k | lc k => unfold Thread.put; dsimp only; split <;> simp [Thread.rv]
  | a | am | sr => simp [Thread.put, Thread.rv]

theorem rp_put : (x.put d v m).rp n =
    if n ≠ 0 ∧ d = .p n then (x.rp n &&& ~~~(m.setWidth 128)) ||| (v.setWidth 128 &&& m.setWidth 128) else x.rp n := by
  cases d with
  | p k =>
    by_cases hk : k = n
    · by_cases hn : n = 0 <;> simp [Thread.put, Thread.rp, hk, hn]
    · rw [if_neg fun h => hk (Dest.p.inj h.2)]
      by_cases hz : k = 0 <;> simp [Thread.put, Thread.rp, hz, mget_mset_ne _ _ _ _ _ hk]
  | g k | lc k => unfold Thread.put; dsimp only; split <;> simp [Thread.rp]
  | a | am | v | sr => simp [Thread.put, Thread.rp]

theorem lc0_put : (x.put d v m).lc0 = if d = .lc 0 then v.setWidth 32 else x.lc0 := by
  cases d with
  | lc k => by_cases hk : k = 0 <;> simp [Thread.put, hk]
  | g k | p k => unfold Thread.put; dsimp only; split <;> simp
  | a | am | v | sr => simp [Thread.put]

theorem lc1_put (h : ∀ k, k ≠ 0 → d ≠ .lc k) : (x.put d v m).lc1 = x.lc1 := by
  cases d with
  | lc k =>
    have hk : k = 0 := Decidable.byContradiction fun hk => h k hk rfl
    simp [Thread.put, hk]
  | g k | p k => unfold Thread.put; dsimp only; split <;> rfl
  | a | am | v | sr => rfl

theorem fpcsr_put : (x.put d v m).fpcsr = x.fpcsr := by
  cases d with
  | g k | p k | lc k => unfold Thread.put; dsimp only; split <;> rfl
  | a | am | v | sr => rfl

theorem pend_put : (x.put d v m).pend = x.pend := by
  cases d with
  | g k | p k | lc k => unfold Thread.put; dsimp only; split <;> rfl
  | a | am | v | sr => rfl

variable {x n} {p : Pend}

theorem rg_takes : (x.takes p).rg n = if n ≠ 0 ∧ p.dest = .g n then p.value.setWidth 64 else x.rg n :=
  (takes_eq_put (R := fun y => y.rg n) (fun y k v => by simp only [Thread.rg, putSr_files]) x p).trans (rg_put ..)

theorem ra_takes : (x.takes p).ra n = if p.dest = .a n then p.value.setWidth 64 else x.ra n :=
  (takes_eq_put (R := fun y => y.ra n) (fun y k v => by simp only [Thread.ra, putSr_files]) x p).trans (ra_put ..)

theorem ram_takes : (x.takes p).ram n = if p.dest = .am n then p.value.setWidth 64 else x.ram n :=
  (takes_eq_put (R := fun y => y.ram n) (fun y k v => by simp only [Thread.ram, putSr_files]) x p).trans (ram_put ..)

theorem rv_takes : (x.takes p).rv n = if p.dest = .v n then (x.rv n &&& ~~~p.mask) ||| (p.value &&& p.mask) else x.rv n :=
  (takes_eq_put (R := fun y => y.rv n) (fun y k v => by simp only [Thread.rv, putSr_files]) x p).trans (rv_put ..)

theorem rp_takes : (x.takes p).rp n = if n ≠ 0 ∧ p.dest = .p n then
    (x.rp n &&& ~~~(p.mask.setWidth 128)) ||| (p.value.setWidth 128 &&& p.mask.setWidth 128) else x.rp n :=
  (takes_eq_put (R := fun y => y.rp n) (fun y k v => by simp only [Thread.rp, putSr_files]) x p).trans (rp_put ..)

theorem pend_takes : (x.takes p).pend = x.pend :=
  (takes_eq_put (R := Thread.pend) (fun y k v => by simp only [putSr_files]) x p).trans (pend_put ..)

/-- A bit of a vector register is the result's where its mask has it. -/
theorem rv_bit_takes_same {i : Nat} (h : p.dest = .v n) (hm : p.mask.getLsbD i = true) : ((x.takes p).rv n).getLsbD i = p.value.getLsbD i := by
  have hi : i < 1024 := BitVec.lt_of_getLsbD hm
  rw [BitVec.getLsbD_eq_getElem hi] at hm
  simp [rv_takes, h, hm, hi]

theorem rv_bit_takes_keeps {i : Nat} (h : p.dest = .v n → p.mask.getLsbD i = false) : ((x.takes p).rv n).getLsbD i = (x.rv n).getLsbD i := by
  rw [rv_takes]
  split
  next hd =>
    by_cases hi : i < 1024
    · have hm := h hd
      rw [BitVec.getLsbD_eq_getElem hi] at hm
      simp [hm, hi]
    · rw [BitVec.getLsbD_of_ge _ _ (Nat.not_lt.mp hi), BitVec.getLsbD_of_ge _ _ (Nat.not_lt.mp hi)]
  · rfl

theorem rp_bit_takes_same {i : Nat} (hn : n ≠ 0) (hi : i < 128) (h : p.dest = .p n) (hm : p.mask.getLsbD i = true) :
    ((x.takes p).rp n).getLsbD i = p.value.getLsbD i := by
  simp [rp_takes, hn, h, hm, hi]

theorem rp_bit_takes_keeps {i : Nat} (h : p.dest = .p n → p.mask.getLsbD i = false) : ((x.takes p).rp n).getLsbD i = (x.rp n).getLsbD i := by
  rw [rp_takes]
  split
  next hd =>
    by_cases hi : i < 128
    · simp [h hd.2, hi]
    · rw [BitVec.getLsbD_of_ge _ _ (Nat.not_lt.mp hi), BitVec.getLsbD_of_ge _ _ (Nat.not_lt.mp hi)]
  · rfl

theorem lc0_takes_same (h : p.dest = .lc 0) : (x.takes p).lc0 = p.value.setWidth 32 := by
  rw [takes_of_not_sr fun k => by rw [h]; exact Dest.noConfusion, lc0_put, if_pos h]

theorem lc0_takes_keeps (h : p.dest ≠ .lc 0 ∧ p.dest ≠ .sr 5) : (x.takes p).lc0 = x.lc0 := by
  by_cases hs : ∃ k, p.dest = .sr k
  · obtain ⟨k, hk⟩ := hs
    rw [takes_of_sr hk, putSr_lc0 _ _ fun h5 => h.2 (h5 ▸ hk)]
  · rw [takes_of_not_sr (not_exists.mp hs), lc0_put, if_neg h.1]

theorem lc1_takes_same (h : p.dest = .lc 1) : (x.takes p).lc1 = p.value.setWidth 32 := by
  rw [takes_of_not_sr fun k => by rw [h]; exact Dest.noConfusion, h]
  rfl

theorem lc1_takes_keeps (h : (∀ k, k ≠ 0 → p.dest ≠ .lc k) ∧ p.dest ≠ .sr 6) : (x.takes p).lc1 = x.lc1 := by
  by_cases hs : ∃ k, p.dest = .sr k
  · obtain ⟨k, hk⟩ := hs
    rw [takes_of_sr hk, putSr_lc1 _ _ fun h6 => h.2 (h6 ▸ hk)]
  · rw [takes_of_not_sr (not_exists.mp hs), lc1_put _ _ _ _ h.1]

theorem fpcsr_takes_same (h : p.dest = .sr 0) : (x.takes p).fpcsr = p.value.setWidth 64 &&& 0x3F03#64 := by
  rw [takes_of_sr h]
  rfl

theorem fpcsr_takes_keeps (h : p.dest ≠ .sr 0) : (x.takes p).fpcsr = x.fpcsr := by
  by_cases hs : ∃ k, p.dest = .sr k
  · obtain ⟨k, hk⟩ := hs
    rw [takes_of_sr hk, putSr_fpcsr _ _ fun h0 => h (h0 ▸ hk)]
  · rw [takes_of_not_sr (not_exists.mp hs), fpcsr_put]

end

/-! ### What a landing leaves in one register -/

section

variable {α : Type} {R : Thread → α} {s : State} {u : UnitId} {m : Nat} {l l' : List Pend} {p : Pend}

/-- A register that is neither FPCSR nor the pending list sees the due results alone. -/
theorem reader_land (hr : ∀ (y : Thread) f, R (y.raise f) = R y) : R ((s.land u m).thread u) =
    R ((landed m (s.thread u).pend).foldl Thread.takes { s.thread u with pend := (s.thread u).pend.filter (fun p => !decide (p.due ≤ m)) }) := by
  rw [thread_land, foldl_raise_keeps hr]

theorem reader_land_keeps (hr : ∀ (y : Thread) f, R (y.raise f) = R y) (hp : ∀ (y : Thread) q, R { y with pend := q } = R y)
    (h : ∀ e ∈ landed m (s.thread u).pend, ∀ y : Thread, R (y.takes e) = R y) : R ((s.land u m).thread u) = R (s.thread u) := by
  rw [reader_land hr, foldl_takes_keeps h, hp]

theorem reader_land_last {v : α} (hr : ∀ (y : Thread) f, R (y.raise f) = R y) (hd : landed m (s.thread u).pend = l ++ p :: l')
    (hp : ∀ y : Thread, R (y.takes p) = v) (h : ∀ e ∈ l', ∀ y : Thread, R (y.takes e) = R y) : R ((s.land u m).thread u) = v := by
  rw [reader_land hr, hd, foldl_takes_last hp h]

theorem fpcsr_land : ((s.land u m).thread u).fpcsr = ((landed m (s.thread u).pend).foldl Thread.takes
    { s.thread u with pend := (s.thread u).pend.filter (fun p => !decide (p.due ≤ m)) }).fpcsr ||| flagsOf (landed m (s.thread u).pend) := by
  rw [thread_land, fpcsr_foldl_raise]

theorem filter_not_due (m : Nat) (l : List Pend) : l.filter (fun p => !decide (p.due ≤ m)) = l.filter (fun p => decide (m < p.due)) :=
  List.filter_congr fun p _ => by rw [Bool.eq_iff_iff]; simp

theorem pend_land : ((s.land u m).thread u).pend = (s.thread u).pend.filter (fun p => decide (m < p.due)) := by
  rw [reader_land (R := Thread.pend) fun _ _ => rfl, foldl_takes_keeps (R := Thread.pend) fun _ _ _ => pend_takes]
  exact filter_not_due m _

/-- One WRSR alone is written as RDSR's register says, its flags after it. -/
theorem land_of_single_sr {n : Nat} (hd : landed m (s.thread u).pend = [p]) (hn : p.dest = .sr n) : s.land u m =
    ((s.modThread u (fun x => { x with pend := x.pend.filter (fun p => decide (m < p.due)) })).landSr u n (p.value.setWidth 64)).modThread u
      (fun x => { x with fpcsr := x.fpcsr ||| (p.flags.setWidth 64 <<< 8) }) := by
  simp only [State.land, hd, filter_not_due, List.foldl_cons, List.foldl_nil, State.landOne, hn]
  rfl

end

end Sys2Proof.Machine

namespace Sys2Proof.Machine

open Sys2Proof.Claims

/-! ### The special registers (R110, R126, R173, R269, R359) -/

section

variable {s : State} {x : Tile} {u : UnitId} {n t c k : Nat} {v : W64}

/-- A sum of digits below 16, each at its own place of four bits. -/
def hexSum (f : Nat → Nat) (n : Nat) : Nat := (List.range n).foldl (fun a k => a + f k * 16 ^ k) 0

theorem hexSum_succ (f : Nat → Nat) (n : Nat) : hexSum f (n + 1) = hexSum f n + f n * 16 ^ n := by
  rw [hexSum, hexSum, List.range_succ, List.foldl_append]
  rfl

theorem hexSum_lt {f : Nat → Nat} (h : ∀ k, f k < 16) : ∀ n, hexSum f n < 16 ^ n
  | 0 => Nat.one_pos
  | n + 1 => by
    have hle : f n * 16 ^ n ≤ 15 * 16 ^ n := Nat.mul_le_mul_right _ (Nat.le_of_lt_succ (h n))
    have hlt := hexSum_lt h n
    rw [hexSum_succ, Nat.pow_succ]
    omega

/-- Each digit reads back. -/
theorem hexSum_digit {f : Nat → Nat} (h : ∀ k, f k < 16) {k : Nat} : ∀ n, k < n → hexSum f n / 16 ^ k % 16 = f k
  | n + 1, hk => by
    rw [hexSum_succ]
    rcases Nat.lt_succ_iff_lt_or_eq.mp hk with hk | rfl
    · have hpow : f n * 16 ^ n = 16 ^ k * (16 * (f n * 16 ^ (n - k - 1))) := by
        have hn : 16 ^ k * (16 * 16 ^ (n - k - 1)) = 16 ^ n := by
          rw [← Nat.pow_succ', ← Nat.pow_add]
          congr 1
          omega
        rw [← hn]
        ring
      rw [hpow, Nat.add_mul_div_left _ _ (Nat.pow_pos (by decide)), Nat.add_mul_mod_self_left, hexSum_digit h n hk]
    · rw [Nat.add_mul_div_right _ _ (Nat.pow_pos (by decide)), Nat.div_eq_of_lt (hexSum_lt h k), Nat.zero_add, Nat.mod_eq_of_lt (h k)]

/-- SWZM register j holds the swizzles of its sixteen regions (R115, R126). -/
theorem swzm_digit (x : Tile) (j : Nat) (hk : k < 16) : (x.swzm j).toNat / 16 ^ k % 16 = (mget 6#3 x.swz (16 * j + k)).toNat := by
  have hd : ∀ i, (mget 6#3 x.swz (16 * j + i)).toNat < 16 := fun i => Nat.lt_of_lt_of_le (BitVec.isLt _) (by decide)
  have hsum : x.swzm j = BitVec.ofNat 64 (hexSum (fun i => (mget 6#3 x.swz (16 * j + i)).toNat) 16) := rfl
  have hlt : hexSum (fun i => (mget 6#3 x.swz (16 * j + i)).toNat) 16 < 2 ^ 64 := hexSum_lt hd 16
  rw [hsum, BitVec.toNat_ofNat, Nat.mod_eq_of_lt hlt, hexSum_digit hd 16 hk]

/-- Values written at keys that rise from one. -/
theorem mget_foldl_mset {β : Type} [DecidableEq β] (d : β) (f : Nat → β) (o : Nat) (m : SMap β) (i : Nat) : ∀ n,
    mget d ((List.range n).foldl (fun m k => mset d m (o + k) (f k)) m) i = if o ≤ i ∧ i < o + n then f (i - o) else mget d m i
  | 0 => by simp
  | n + 1 => by
    rw [List.range_succ, List.foldl_append, List.foldl_cons, List.foldl_nil]
    by_cases hi : o + n = i
    · subst hi
      simp
    · rw [mget_mset_ne _ _ _ _ _ hi, mget_foldl_mset d f o m i n]
      by_cases hin : o ≤ i ∧ i < o + n
      · rw [if_pos hin, if_pos ⟨hin.1, by omega⟩]
      · rw [if_neg hin, if_neg (by omega)]

theorem setSwzm_swz (x : Tile) (j : Nat) (v : W64) (i : Nat) : mget 6#3 (x.setSwzm j v).swz i =
    if 16 * j ≤ i ∧ i < 16 * j + 16 then BitVec.ofNat 3 (fld v (4 * (i - 16 * j)) 3) else mget 6#3 x.swz i :=
  mget_foldl_mset 6#3 (fun k => BitVec.ofNat 3 (fld v (4 * k) 3)) (16 * j) x.swz i 16

theorem ofNat_fld {w lo : Nat} (v : BitVec w) (len : Nat) : BitVec.ofNat len (fld v lo len) = BitVec.ofNat len (v.toNat / 2 ^ lo) := by
  apply BitVec.eq_of_toNat_eq
  rw [BitVec.toNat_ofNat, BitVec.toNat_ofNat, fld_eq, Nat.mod_mod]

/-- Of a tile only what is made of it counts. -/
theorem modTile_congr {f g : Tile → Tile} (h : f (s.tile t) = g (s.tile t)) : s.modTile t f = s.modTile t g := congrArg (s.setTile t) h

theorem modCore_congr {f g : Core → Core} (h : f (s.core k) = g (s.core k)) : s.modCore k f = s.modCore k g := congrArg (s.setCore k) h

theorem ctxctl_of_task {y : Ctx} {a : Task} (h : y.task = some a) :
    y.ctxctl = BitVec.ofNat 64 (16 * a.bprio.toNat + 4 * a.redundant.toNat + 2 * a.array.toNat + y.x.check.toNat) := by
  simp only [Ctx.ctxctl, h]

theorem readSr_swzm (c : Nat) {j : Nat} (hj : j < 4) : s.readSr (.ctx t c) (0x0C + j) = (s.tile t).swzm j := by
  interval_cases j <;> rfl

theorem landSr_readOnly (h : n = 3 ∨ n = 4 ∨ n = 7) : s.landSr u n v = s := by
  cases u <;> rcases h with rfl | rfl | rfl <;> rfl

theorem landSr_nanstat : s.landSr (.ctx t c) 8 v = s.modTile t (fun x => x.nanClear s.cycle v) := rfl

theorem landSr_swzm {j : Nat} (hj : j < 4) : s.landSr (.ctx t c) (0x0C + j) v = s.modTile t (fun x => x.setSwzm j v) := by
  interval_cases j <;> rfl

theorem core_landSr {f : Core → Core} (h : s.landSr (.core k) n v = s.modCore k f) : (s.landSr (.core k) n v).core k = f (s.core k) := by
  rw [h, core_modCore]

/-- TSTATE's five bits. -/
theorem tstate_bits {y : Core} (v : W64) (hd : y.dslot = BitVec.ofNat 2 (v.toNat / 8)) (hp : y.pie = v.getLsbD 2) (hi : y.ie = v.getLsbD 1)
    (hm : y.pmode = v.getLsbD 0) : y.tstate = v &&& 0x1F#64 := by
  have hbit : ∀ i, (v.getLsbD i).toNat = v.toNat / 2 ^ i % 2 := fun i => by
    rw [← BitVec.testBit_toNat, Nat.testBit_eq_decide_div_mod_eq]
    have := Nat.mod_two_eq_zero_or_one (v.toNat / 2 ^ i)
    rcases this with h | h <;> simp [h]
  have hmask : v.toNat &&& 31 = v.toNat % 2 ^ 5 := Nat.and_two_pow_sub_one_eq_mod v.toNat 5
  have hlt := v.isLt
  apply BitVec.eq_of_toNat_eq
  rw [Core.tstate, hd, hp, hi, hm, hbit, hbit, hbit, BitVec.toNat_and, BitVec.toNat_ofNat, BitVec.toNat_ofNat]
  change _ = v.toNat &&& 31
  rw [hmask]
  omega

/-- A WRSR of TSTATE (R359). -/
def Core.setTstate (v : W64) (y : Core) : Core :=
  { y with dslot := BitVec.ofNat 2 (v.toNat / 8), pie := v.getLsbD 2, ie := v.getLsbD 1, pmode := v.getLsbD 0 }

theorem landSr_tstate : s.landSr (.core k) 0x14 v = s.modCore k (Core.setTstate v) := by
  have hslot : BitVec.ofNat 2 (fld v 3 2) = BitVec.ofNat 2 (v.toNat / 8) := ofNat_fld v 2
  unfold Core.setTstate
  rw [← hslot]
  rfl

theorem interrupt_eq (y : Core) (a : Cause) : y.interrupt a = { y with irq := (y.interrupt a).irq } := by
  unfold Core.interrupt
  split <;> rfl

theorem ccten_eq (v : W64) : (v.setWidth 7).setWidth 64 = v &&& 0x7F#64 := by
  apply BitVec.eq_of_toNat_eq
  rw [BitVec.toNat_setWidth, BitVec.toNat_setWidth, BitVec.toNat_and]
  change _ = v.toNat &&& 127
  rw [Nat.and_two_pow_sub_one_eq_mod v.toNat 7]
  omega

end

end Sys2Proof.Machine

open Sys2Proof Sys2Proof.Machine Sys2Proof.Claims in
/-- Settles O13: each register is written by its own results alone, so that the last of a list to write it stands; the special registers read and take what
their definitions say. -/
theorem landingWritesRegisters : Obligations.LandingWritesRegisters := by
  unfold Obligations.LandingWritesRegisters
  refine ⟨?lands, ?reads, ?writes⟩
  case lands =>
    rintro s t u m due hdue rfl
    have hdue' : landed m (s.thread u).pend = due := hdue.symm
    refine ⟨pend_land, fun l p l' hl => ⟨fun n hn hp h => ?_, fun n hp h => ?_, fun n hp h => ?_, fun n i hp hm h => ?_, fun n i hn hi hp hm h => ?_,
        fun hp h => ?_, fun hp h => ?_, fun hp h => ?_⟩,
      fun n h => ?_, fun n h => ?_, fun n h => ?_, fun n i h => ?_, fun n i h => ?_, fun h => ?_, fun h => ?_, fun h => ?_, rfl, rfl, fun p n hp hn => ?_⟩
    · exact reader_land_last (R := fun y => y.rg n) (fun _ _ => rfl) (hdue'.trans hl) (fun y => by rw [rg_takes, if_pos ⟨hn, hp⟩])
        fun e he y => by rw [rg_takes, if_neg fun hd => h e he hd.2]
    · exact reader_land_last (R := fun y => y.ra n) (fun _ _ => rfl) (hdue'.trans hl) (fun y => by rw [ra_takes, if_pos hp])
        fun e he y => by rw [ra_takes, if_neg (h e he)]
    · exact reader_land_last (R := fun y => y.ram n) (fun _ _ => rfl) (hdue'.trans hl) (fun y => by rw [ram_takes, if_pos hp])
        fun e he y => by rw [ram_takes, if_neg (h e he)]
    · exact reader_land_last (R := fun y => (y.rv n).getLsbD i) (fun _ _ => rfl) (hdue'.trans hl) (fun y => rv_bit_takes_same hp hm)
        fun e he y => rv_bit_takes_keeps (h e he)
    · exact reader_land_last (R := fun y => (y.rp n).getLsbD i) (fun _ _ => rfl) (hdue'.trans hl) (fun y => rp_bit_takes_same hn hi hp hm)
        fun e he y => rp_bit_takes_keeps (h e he)
    · exact reader_land_last (R := Thread.lc0) (fun _ _ => rfl) (hdue'.trans hl) (fun y => lc0_takes_same hp) fun e he y => lc0_takes_keeps (h e he)
    · exact reader_land_last (R := Thread.lc1) (fun _ _ => rfl) (hdue'.trans hl) (fun y => lc1_takes_same hp) fun e he y => lc1_takes_keeps (h e he)
    · rw [fpcsr_land, hdue', hl, foldl_takes_last (R := Thread.fpcsr) (fun y => fpcsr_takes_same hp) fun e he y => fpcsr_takes_keeps (h e he)]
    · exact reader_land_keeps (R := fun y => y.rg n) (fun _ _ => rfl) (fun _ _ => rfl)
        fun e he y => by rw [rg_takes, if_neg fun hd => h e (hdue' ▸ he) hd.2]
    · exact reader_land_keeps (R := fun y => y.ra n) (fun _ _ => rfl) (fun _ _ => rfl) fun e he y => by rw [ra_takes, if_neg (h e (hdue' ▸ he))]
    · exact reader_land_keeps (R := fun y => y.ram n) (fun _ _ => rfl) (fun _ _ => rfl) fun e he y => by rw [ram_takes, if_neg (h e (hdue' ▸ he))]
    · exact reader_land_keeps (R := fun y => (y.rv n).getLsbD i) (fun _ _ => rfl) (fun _ _ => rfl)
        fun e he y => rv_bit_takes_keeps (h e (hdue' ▸ he))
    · exact reader_land_keeps (R := fun y => (y.rp n).getLsbD i) (fun _ _ => rfl) (fun _ _ => rfl)
        fun e he y => rp_bit_takes_keeps (h e (hdue' ▸ he))
    · exact reader_land_keeps (R := Thread.lc0) (fun _ _ => rfl) (fun _ _ => rfl) fun e he y => lc0_takes_keeps (h e (hdue' ▸ he))
    · exact reader_land_keeps (R := Thread.lc1) (fun _ _ => rfl) (fun _ _ => rfl) fun e he y => lc1_takes_keeps (h e (hdue' ▸ he))
    · rw [fpcsr_land, hdue', foldl_takes_keeps (R := Thread.fpcsr) fun e he y => fpcsr_takes_keeps (h e he)]
    · exact land_of_single_sr (hdue'.trans hp) hn
  case reads =>
    rintro s u x rfl
    refine ⟨rfl, rfl, rfl, rfl, rfl, ?_, ?_, ?_⟩
    · cases u <;> rfl
    · rintro t c rfl
      exact ⟨fun k hk => ctxctl_of_task hk, rfl, rfl, rfl, fun j k hj hk => by rw [readSr_swzm c hj, swzm_digit _ _ hk]⟩
    · rintro k y rfl rfl
      exact ⟨rfl, rfl, rfl, rfl, rfl, rfl, rfl, rfl⟩
  case writes =>
    intro s u v
    refine ⟨fun n hn => landSr_readOnly hn, rfl, rfl, rfl, rfl, rfl, ?ofCtx, ?ofCore⟩
    case ofCtx =>
      rintro t c rfl
      refine ⟨fun hne => ?_, fun heq => ?_, fun j hj => ⟨((s.tile t).setSwzm j v).swz, ?_, fun k hk => ?_, fun i hi => ?_⟩⟩
      · rw [landSr_nanstat]
        exact modTile_congr (by simp only [Tile.nanClear, if_neg hne])
      · rw [landSr_nanstat]
        exact modTile_congr (by simp only [Tile.nanClear, if_pos heq])
      · rw [landSr_swzm hj]
        exact modTile_congr rfl
      · have hpow : 16 ^ k = 2 ^ (4 * k) := by rw [Nat.pow_mul]
        rw [setSwzm_swz, if_pos (by omega), ofNat_fld, Nat.add_sub_cancel_left, hpow]
      · rw [setSwzm_swz, if_neg (by omega)]
    case ofCore =>
      rintro k rfl
      have hto : fld v 0 5 = v.toNat % 32 := by
        rw [fld_eq, Nat.pow_zero, Nat.div_one]
        rfl
      have hipi : s.landSr (.core k) 0x15 v = s.modCore (v.toNat % 32) (fun y => y.interrupt 0x6E#7) := by rw [← hto]; rfl
      refine ⟨rfl, rfl, rfl, rfl, ⟨s.core k, rfl, ?_⟩, ?_, ?_, ⟨((s.core (v.toNat % 32)).interrupt 0x6E#7).irq, ?_⟩, ?_, ?_, ?_⟩
      · rw [landSr_tstate]
        exact modCore_congr rfl
      · have hbits : (s.landSr (.core k) 0x14 v).core k = Core.setTstate v (s.core k) := core_landSr landSr_tstate
        exact (congrArg Core.tstate hbits).trans (tstate_bits v rfl rfl rfl rfl)
      · rw [hipi]
        exact mem_irq_interrupt s (v.toNat % 32) 0x6E#7
      · rw [hipi]
        exact modCore_congr (interrupt_eq _ _)
      · exact congrArg Core.ccmp (core_landSr (s := s) (n := 0x16) (f := fun y => { y with ccmp := v, compared := false }) rfl)
      · exact congrArg Core.tbtgt (core_landSr (s := s) (n := 0x17) (f := fun y => { y with tbtgt := v, falls := false }) rfl)
      · have hccten : (s.landSr (.core k) 0x18 v).core k = { s.core k with ccten := v.setWidth 7 } :=
          core_landSr (f := fun y => { y with ccten := v.setWidth 7 }) rfl
        exact (congrArg (fun y => (Core.ccten y).setWidth 64) hccten).trans (ccten_eq v)

namespace Sys2Proof.Machine

open Sys2Proof.Claims

/-! ## Handles (R139-R141, R374-R377) -/

/-! ### HALLOC, HSET and HFREE at issue -/

section

variable {s t : State} {v : W64} {b c : Bool} {e f : Cause} {h : BitVec 5} {g : BitVec 6} {k : Nat}

theorem Issues.counted (h : Issues s t) (m n : Nat) : Issues s (t.counted m n) :=
  ⟨h.mem, h.cores, h.cur, h.others, h.pad, h.tags, h.acc, h.front, h.ctx⟩

theorem cseq_counted (m n : Nat) : ((s.counted m n).cluster (clusterOf m)).cseq = (s.cluster (clusterOf m)).cseq + BitVec.ofNat 64 n := by
  rw [State.counted, cluster_modCluster]

/-- Of two checks the first that fails is the verdict, where its cause is the lower. -/
theorem both_faultIf_of_first (hlt : e.toNat ≤ f.toNat) : (faultIf true e).both (faultIf c f) = .fault e 0 := by
  cases c
  · rfl
  · exact if_neg (Nat.not_lt.mpr hlt)

theorem both_faultIf_of_none : (faultIf false e).both (faultIf false f) = .ok := rfl

@[simp] theorem handle_setHandle_same (x : Tile) (k : Nat) (y : HEntry) : (x.setHandle k y).handle k = y := mget_mput_same ..

theorem handle_setHandle_ne (x : Tile) (y : HEntry) {j k : Nat} (h : k ≠ j) : (x.setHandle j y).handle k = x.handle k :=
  mget_mput_ne _ _ _ _ _ h.symm

/-- A change of the own tile's handles is a part of an issue. -/
theorem issues_handles {f : Tile → Tile} (hf : ∀ x, TileLeft x (f x)) : Issues s (s.modCurTile f) := (Issues.refl s).modCurTile hf

/-- HALLOC's change of its tile (R374). -/
def allocHandle (k : Nat) (v : W64) (x : Tile) : Tile := { x.setHandle k (geomEntry v x.nextId) with nextId := x.nextId + 1 }
/-- HSET's change of its tile (R375). -/
def resetHandle (k : Nat) (v : W64) (x : Tile) : Tile := x.setHandle k (geomEntry v (x.handle k).inst)
/-- HFREE's change of its tile (R376). -/
def freeHandle (k : Nat) (x : Tile) : Tile := { x.setHandle k HEntry.init with freeing := x.freeing ++ [x.handle k] }

theorem exec_halloc : exec (.halloc h g) s = issue s true ((faultIf (decide (((pad s).handle h.toNat).kind ≠ 0#2)) 0x27#7).both
    (faultIf ((pad s).geomBad h.toNat false (gr s g)) 0x2E#7))
    (fun s => (s.modCurTile (allocHandle h.toNat (s.g g))).counted (unitTile s.cur.u) 1) := rfl

theorem exec_hset : exec (.hset h g) s = issue s true ((faultIf (hsetBusy ((pad s).handle h.toNat) (gr s g)) 0x27#7).both
    (faultIf ((pad s).geomBad h.toNat true (gr s g)) 0x2E#7))
    (fun s => (s.modCurTile (resetHandle h.toNat (s.g g))).counted (unitTile s.cur.u) 1) := rfl

theorem exec_hfree : exec (.hfree h) s = issue s true (faultIf (decide (((pad s).handle h.toNat).kind = 0#2)) 0x27#7)
    (fun s => s.modCurTile (freeHandle h.toNat)) := rfl

theorem tile_modCurTile (f : Tile → Tile) : (s.modCurTile f).tile (unitTile s.cur.u) = f (pad s) := tile_modTile ..

theorem tile_modCurTile_counted (f : Tile → Tile) (m n : Nat) : ((s.modCurTile f).counted m n).tile (unitTile s.cur.u) = f (pad s) := tile_modTile ..

/-- A command that changes a handle at issue and completes there counts once in its cluster (R282). -/
theorem cseq_modCurTile_counted (f : Tile → Tile) :
    (((s.modCurTile f).counted (unitTile s.cur.u) 1).cluster (unitTile s.cur.u / 16)).cseq = (s.cluster (unitTile s.cur.u / 16)).cseq + 1 :=
  cseq_counted _ 1

end

/-! ### The steps of a handle -/

section

variable {h : HEntry} {n c : Nat}

theorem hpub_of_ring (hk : h.kind = 2#2) :
    h.hpub n = if h.held + n ≤ h.rows then some { h with pcount := h.pcount + BitVec.ofNat 32 n } else none := if_pos hk

theorem hpub_of_block (hk : h.kind = 1#2) : h.hpub n = if (h.state = 1#2 ∨ (h.b = true ∧ h.readers = [])) ∧ h.state ≠ 0#2 ∧ h.writers = [] then
    some { h with state := 2#2, b := false, sel := !h.sel, ctxW := [] } else none := if_neg (by rw [hk]; decide)

/-- A block FREE, one with a writer, and one neither FILLING nor to be filled again, have nothing to publish. -/
theorem hpub_eq_none (hk : h.kind = 1#2) (hno : h.state = 0#2 ∨ h.writers ≠ [] ∨ (h.state ≠ 1#2 ∧ (h.b = false ∨ h.readers ≠ []))) :
    h.hpub n = none := by
  rw [hpub_of_block hk, if_neg]
  rintro ⟨hfill, hstate, hwriters⟩
  rcases hno with h0 | hw | ⟨h1, hb | hr⟩
  · exact hstate h0
  · exact hw hwriters
  · rcases hfill with hf | ⟨hb', -⟩
    · exact h1 hf
    · exact Bool.noConfusion (hb.symm.trans hb')
  · rcases hfill with hf | ⟨-, hr'⟩
    · exact h1 hf
    · exact hr hr'

theorem hrel_of_ring (hk : h.kind = 2#2) :
    h.hrel n = if n ≤ h.held then some { h with ccount := h.ccount + BitVec.ofNat 32 n } else none := if_pos hk

theorem hrel_of_block (hk : h.kind = 1#2) : h.hrel n = if h.state = 2#2 then
    some (if h.readers = [] then (if h.b then { h with state := 1#2, b := false } else { h with state := 0#2 }) else { h with state := 3#2 })
    else none := if_neg (by rw [hk]; decide)

theorem startFill_of_free (hs : h.state = 0#2) : h.startFill = { h with state := 1#2 } := if_pos hs

theorem startFill_of_filling (hs : h.state = 1#2) : h.startFill = h :=
  (if_neg (by rw [hs]; decide)).trans (if_neg (by rw [hs]; decide))

theorem startFill_of_full (hs : h.state = 2#2) : h.startFill = { h with b := true } := (if_neg (by rw [hs]; decide)).trans (if_pos hs)

theorem hopen_of_block (hk : h.kind = 1#2) (hs : h.state ≠ 3#2) :
    h.hopen c = some { h.startFill with ctxW := if c ∈ h.ctxW then h.ctxW else h.ctxW ++ [c] } := if_pos ⟨hk, hs⟩

end

end Sys2Proof.Machine

open Sys2Proof Sys2Proof.Machine Sys2Proof.Claims in
/-- Settles O39: a handle command at issue is one change of its tile's handle table; each step of a handle is a branch of its definition. -/
theorem handleResults : Obligations.HandleResults := by
  unfold Obligations.HandleResults
  refine ⟨?issue, ?steps⟩
  case issue =>
    rintro s h g n rfl
    refine ⟨fun hfree hgeom => ?_, fun hc hkind => ?_, fun hc hfree hgeom => ?_, fun hidle hgeom => ?_, fun hkind => ?_, fun hc hfree => ?_⟩
    · rw [exec_halloc, hgeom, hfree, decide_eq_false (not_not.mpr rfl), both_faultIf_of_none, issue_go s _ _ (.inr rfl)]
      refine ⟨_, rfl, ?_, ?_, cseq_modCurTile_counted _, fun k hk => ?_, ((issues_handles fun x => ?_).counted _ _).frame_self⟩
      · rw [tile_modCurTile_counted]; exact handle_setHandle_same ..
      · rw [tile_modCurTile_counted]; rfl
      · rw [tile_modCurTile_counted]; exact handle_setHandle_ne _ _ hk
      · exact ⟨rfl, rfl, rfl, rfl, fun _ => rfl⟩
    · rw [exec_halloc, decide_eq_true hkind, both_faultIf_of_first (by decide), issue_refuse s _ _ hc Verdict.noConfusion Verdict.noConfusion]
    · rw [exec_halloc, hgeom, hfree]
      exact issue_refuse s _ _ hc Verdict.noConfusion Verdict.noConfusion
    · rw [exec_hset, hgeom, hidle, both_faultIf_of_none, issue_go s _ _ (.inr rfl)]
      refine ⟨_, rfl, ?_, cseq_modCurTile_counted _, fun k hk => ?_, ((issues_handles fun x => ?_).counted _ _).frame_self⟩
      · rw [tile_modCurTile_counted]; exact handle_setHandle_same ..
      · rw [tile_modCurTile_counted]; exact handle_setHandle_ne _ _ hk
      · exact ⟨rfl, rfl, rfl, rfl, fun _ => rfl⟩
    · rw [exec_hfree, decide_eq_false hkind, faultIf_false, issue_go s _ _ (.inr rfl)]
      refine ⟨_, rfl, ?_, ?_, fun k hk => ?_, (issues_handles fun x => ?_).frame_self⟩
      · rw [tile_modCurTile]; exact handle_setHandle_same ..
      · rw [tile_modCurTile]; rfl
      · rw [tile_modCurTile]; exact handle_setHandle_ne _ _ hk
      · exact ⟨rfl, rfl, rfl, rfl, fun _ => rfl⟩
    · rw [exec_hfree, hfree]
      exact issue_refuse s _ _ hc Verdict.noConfusion Verdict.noConfusion
  case steps =>
    intro h n c
    refine ⟨fun hk hs hw => ?_, fun hk hs => hpub_eq_none hk (.inl hs), fun hk hw => hpub_eq_none hk (.inr (.inl hw)), fun hk hn => ?_, fun hk hn => ?_,
      fun hk hs hr hb => ?_, fun hk hs hr hb => ?_, fun hk hs => ?_, fun hk hn => ?_, fun hk hn => ?_, fun hk hs => ?_, ?_, fun hk hs hb hw hr => ?_,
      fun hk hs hno => hpub_eq_none hk (.inr (.inr ⟨by rw [hs]; decide, hno⟩)),
      fun hk hs hr => hpub_eq_none hk (.inr (.inr ⟨by rw [hs]; decide, .inr hr⟩)), fun hk hs hr => ?_⟩
    · rw [hpub_of_block hk, if_pos ⟨.inl hs, by rw [hs]; decide, hw⟩]
    · rw [hpub_of_ring hk]; exact if_pos hn
    · rw [hpub_of_ring hk]; exact if_neg (Nat.not_le.mpr hn)
    · rw [hrel_of_block hk, if_pos hs, if_pos hr, hb]; rfl
    · rw [hrel_of_block hk, if_pos hs, if_pos hr, hb]; rfl
    · rw [hrel_of_block hk, if_neg hs]
    · rw [hrel_of_ring hk]; exact if_pos hn
    · rw [hrel_of_ring hk]; exact if_neg (Nat.not_le.mpr hn)
    · exact if_neg fun hopen => hopen.2 hs
    · rintro w rfl hk
      refine ⟨fun hs => ?_, fun hs => ?_, fun hs => ?_⟩
      · rw [hopen_of_block hk (by rw [hs]; decide), startFill_of_free hs]
      · rw [hopen_of_block hk (by rw [hs]; decide), startFill_of_filling hs]
      · rw [hopen_of_block hk (by rw [hs]; decide), startFill_of_full hs]
    · rw [hpub_of_block hk, if_pos ⟨.inr ⟨hb, hr⟩, by rw [hs]; decide, hw⟩]
    · rw [hrel_of_block hk, if_pos hs, if_neg hr]

namespace Sys2Proof.Machine

/-! ## Reset, G3 causes and checks (R9, R10, R20, R43) -/

section

variable {s : State} {c : Cause} {n k : Nat} {i : StopInfo}

/-- What a filter of keys lets through is found as before. -/
theorem mget_filter_keys {β : Type} (d : β) {f : Nat → Bool} {j : Nat} (hj : f j = true) :
    ∀ m : SMap β, mget d (m.filter (fun e => f e.1)) j = mget d m j
  | [] => rfl
  | (i, x) :: m => by
    by_cases hi : f i = true
    · rw [List.filter_cons_of_pos (p := fun e : Nat × β => f e.1) (a := (i, x)) hi, mget, mget, mget_filter_keys d hj m]
    · have hne : i ≠ j := fun h => hi (h ▸ hj)
      rw [List.filter_cons_of_neg (p := fun e : Nat × β => f e.1) hi, mget, if_neg (Ne.symm hne), mget_filter_keys d hj m]

/-- A reset leaves the modules where they are fitted, and nothing else of a link. -/
theorem link_resetDevice (s : State) (n : Nat) : s.resetDevice.link n = { MemLink.init with module := (s.link n).module } :=
  mget_map_apply (f := MemLink.fitted) rfl s.links n

/-- A reset keeps the entries of the tiles (R278). -/
theorem unit_tile_resetDevice (s : State) (h : n < 2304) : s.resetDevice.unit (.tile n) = s.unit (.tile n) := by
  have hkey : decide (n < 4096) = true := decide_eq_true (Nat.lt_trans h (by decide))
  exact mget_filter_keys UnitEntry.init (f := fun i => decide (i < 4096)) hkey s.health

/-- From READY, DRAINING and DRAINED a G3 cause leads to FAULTED (R20). -/
theorem g3_faults (h : s.dstate = .ready ∨ s.dstate = .draining ∨ s.dstate = .drained) : (s.g3 c).dstate = .faulted := by
  rw [g3_dstate, if_neg]
  rcases h with h | h | h <;> rw [h] <;> decide

/-- In BRINGUP and in FAULTED a G3 cause is only kept (R20). -/
theorem g3_of_bringup_or_faulted (h : s.dstate = .bringup ∨ s.dstate = .faulted) : s.g3 c = { s with lastG3 := (s.g3 c).lastG3 } := by
  rw [g3_lastG3]
  exact if_pos h

/-- The events that raise a G3 cause. -/
theorem exec_leaves (hn : s.rails.getLsbD n = true) (hh : s.held = false) : exec (.powerFault (.leaves n)) s = .next (s.g3 0x7D#7) := by
  change Host.Outcome.next (if s.rails.getLsbD n && !s.held then s.g3 0x7D#7 else s) = _
  rw [hn, hh]
  rfl

/-- A rail that goes and is not the last but VDD_AUX is one that has left its window. -/
theorem railRemoved_of_left (hn : n < 11) (h : s.rails &&& ~~~BitVec.ofNat 12 (2 ^ n) ≠ BitVec.ofNat 12 (2 ^ 11))
    (h0 : s.rails &&& ~~~BitVec.ofNat 12 (2 ^ n) ≠ 0#12) :
    s.railRemoved n = State.g3 { s with rails := s.rails &&& ~~~BitVec.ofNat 12 (2 ^ n) } 0x7D#7 :=
  (if_neg fun e => Nat.ne_of_lt hn e.1).trans (if_neg fun e => e.elim h h0)

/-- With VDD_AUX alone left the device is held in reset (R10). -/
theorem railRemoved_of_aux (hn : n < 11) (h : s.rails &&& ~~~BitVec.ofNat 12 (2 ^ n) = BitVec.ofNat 12 (2 ^ 11)) :
    s.railRemoved n = { s.resetDevice with rails := s.rails &&& ~~~BitVec.ofNat 12 (2 ^ n), held := true } :=
  (if_neg fun e => Nat.ne_of_lt hn e.1).trans (if_pos (.inl h))

theorem railApplied_of_aux (h : n = 11 ∨ s.rails.getLsbD 11 = true) : s.railApplied n =
    { s with rails := s.rails ||| BitVec.ofNat 12 (2 ^ n), held := s.held && decide (s.rails ||| BitVec.ofNat 12 (2 ^ n) ≠ 0xFFF#12) } :=
  if_neg fun e => h.elim e.1 fun h => Bool.noConfusion (e.2.symm.trans h)

/-- A stop records nothing against a unit. -/
theorem unit_contextStop (s : State) (n k : Nat) (i : StopInfo) (u : UnitName) : (s.contextStop n k i).unit u = s.unit u := by
  have hint : ∀ (q : State) j e, (q.interrupt j e).unit u = q.unit u := fun _ _ _ => rfl
  rw [contextStop_eq, hint, unit_klog]
  simp only [State.unit, State.stopSaved, freeRegion_health, memRegion_health]
  rfl

/-- A word that cannot be corrected stops the context that read it (R43). -/
theorem sramBad_of_offers (hk : k < 2) (h : (s.ctx n k).offers (s.tile n).cutting = true) : s.sramBad n k =
    (s.blame (.tile n) 0x71#7).contextStop n k { cause := 0x71#7, slots := 0, faddr := 0, pc := (s.ctx n k).x.pc, engine := none } :=
  (if_pos hk).trans (if_pos h)

end

end Sys2Proof.Machine

open Sys2Proof Sys2Proof.Machine in
/-- Settles O42: a G3 cause is kept and leads to FAULTED but from BRINGUP and FAULTED; the rest are branches of the events' definitions. -/
theorem resetAndGradeThreeEvents : Obligations.ResetAndGradeThreeEvents := by
  unfold Obligations.ResetAndGradeThreeEvents
  refine ⟨fun s => ?reset, ⟨?causes, ?check, ?noCheck⟩, ?rails, ?sram⟩
  case reset =>
    exact ⟨s.resetDevice, rfl, rfl, rfl, rfl, rfl, rfl, rfl, rfl, rfl, rfl, rfl, rfl, rfl, rfl, rfl, rfl, rfl, rfl, link_resetDevice s,
      fun n hn => congrArg UnitEntry.health (unit_tile_resetDevice s hn)⟩
  case causes =>
    intro s i c hcause
    have hg3 : exec i s = .next (s.g3 c) := by
      rcases hcause with ⟨⟨n, rfl, hn, hh⟩, rfl⟩ | ⟨⟨d, rfl⟩, rfl⟩ | ⟨rfl, rfl⟩
      · exact exec_leaves hn hh
      · rfl
      · rfl
    exact ⟨s.g3 c, hg3, g3_lastG3 s c, g3_fuses s c, g3_faults, g3_of_bringup_or_faulted⟩
  case check => exact fun s hs => ⟨_, congrArg Host.Outcome.next (if_pos hs), toDState_dstate ..⟩
  case noCheck => exact fun s hs => congrArg Host.Outcome.next (if_neg hs)
  case rails =>
    rintro s n left up rfl rfl
    refine ⟨fun hn haux => ?_, fun hn haux h0 => ?_, fun h => congrArg Host.Outcome.next (railApplied_of_aux h)⟩
    · exact ⟨_, congrArg Host.Outcome.next (railRemoved_of_aux hn haux), rfl, rfl, rfl, rfl, rfl, rfl, rfl⟩
    · have hgone := railRemoved_of_left hn haux h0
      obtain ⟨q, hq⟩ : ∃ q : State, q = { s with rails := s.rails &&& ~~~BitVec.ofNat 12 (2 ^ n) } := ⟨_, rfl⟩
      have hdstate : q.dstate = s.dstate := by rw [hq]
      rw [← hq] at hgone
      refine ⟨q.g3 0x7D#7, congrArg Host.Outcome.next hgone, ?_, ?_, ?_, fun h => g3_faults (hdstate.symm ▸ h)⟩
      · rw [g3_rails, hq]
      · rw [g3_held, hq]
      · rw [g3_lastG3, hq]
  case sram =>
    refine fun s n k => ⟨?corrected, fun hk hoffers => ?uncorrectable⟩
    case corrected =>
      have hunit : ((s.modUnit (.tile n) (fun e => { e with count := e.count + 1, last := some 0x78#7 })).klog 6 0x78#7 0 n (s.tileMask n) 0 0).unit
          (.tile n) = { s.unit (.tile n) with count := (s.unit (.tile n)).count + 1, last := some 0x78#7 } := by rw [unit_klog, unit_modUnit]
      have hhealth := congrArg UnitEntry.health hunit
      exact ⟨_, rfl, congrArg UnitEntry.count hunit, congrArg UnitEntry.last hunit, hhealth, klog_tiles ..⟩
    case uncorrectable =>
      refine ⟨_, congrArg Host.Outcome.next (sramBad_of_offers hk hoffers), ?_, ?_, ?_⟩
      · rw [ctx_contextStop, ctx_modCtx]; rfl
      · rw [ctx_contextStop, ctx_modCtx]; rfl
      · rw [unit_contextStop, State.blame, unit_modUnit]

namespace Sys2Proof.Machine

/-! ## The boot chain (R13-R17, R19, R32) -/

section

variable {s : State} {a b : Reject} {trained : BitVec 48} {i k : Nat}

/-- What one step of a fold brings about and no step undoes stands at the end. -/
theorem foldl_of_mem {α β : Type} {f : α → β → α} {I P : α → Prop} {b : β} (hI : ∀ a b, I a → I (f a b)) (hP : ∀ a b, P a → P (f a b))
    (hb : ∀ a, I a → P (f a b)) : ∀ (l : List β) (a : α), b ∈ l → I a → P (l.foldl f a)
  | c :: l, a, hmem, ha => by
    rcases List.mem_cons.mp hmem with rfl | hl
    · exact foldl_inv f P hP l _ (hb a ha)
    · exact foldl_of_mem hI hP hb l _ hl (hI a c ha)

/-! ### Stage 1 -/

theorem stage1Verify_of_rom (hd : s.dstate = .bringup) (hb : s.boot.boot = .rom) : s.stage1Verify =
    match imageReject 1 s.fuses.root s.fuses.min1 s.fuses.slotA with
    | none => s.modBoot (runStage1 s.fuses.slotA)
    | some a =>
      match imageReject 1 s.fuses.root s.fuses.min1 s.fuses.slotB with
      | none => s.modBoot (fun b => runStage1 s.fuses.slotB { b with rejects := b.rejects ++ [a] })
      | some b => s.modBoot (fun x => { x with boot := .stuck, rejects := x.rejects ++ [a, b] }) :=
  if_neg fun h => h.elim (fun h => h hd) fun h => h hb

/-! ### Training -/

/-- Link i has been trained: it is in the interleave, or FAILED, and its module is as in s (R32). -/
def LinkTrained (s : State) (trained : BitVec 48) (good : Bool) (i : Nat) (t : State) : Prop :=
  (t.link i).trained = trained.getLsbD i ∧ (t.link i).failed = !good ∧ (t.link i).module = (s.link i).module

/-- A link after the training of link k. -/
theorem link_trainLink (s : State) (trained : BitVec 48) (good : Bool) (k i : Nat) : (s.trainLink trained good k).link i =
    if k = i then { s.link i with trained := trained.getLsbD i, failed := !good } else s.link i := by
  change (s.modLink k (fun x => { x with trained := trained.getLsbD k, failed := !good })).link i = _
  split
  next h => subst h; exact link_modLink ..
  next h => exact link_modLink_ne _ _ _ _ h

theorem module_trainLink (s : State) (trained : BitVec 48) (good : Bool) (k i : Nat) :
    ((s.trainLink trained good k).link i).module = (s.link i).module := by
  rw [link_trainLink]
  split <;> rfl

/-- Training the links in turn trains each (R32). -/
theorem linkTrained_foldl (s : State) (trained : BitVec 48) (map : W64) (hi : i < 48) : LinkTrained s trained (map.getLsbD i) i
    ((List.range 48).foldl (fun (s : State) (i : Nat) => s.trainLink trained (map.getLsbD i) i) s) := by
  have hkeeps : ∀ (t : State) k, LinkTrained s trained (map.getLsbD i) i t → LinkTrained s trained (map.getLsbD i) i (t.trainLink trained (map.getLsbD k) k) := by
    rintro t k ⟨htrained, hfailed, hmodule⟩
    refine ⟨?_, ?_, (module_trainLink ..).trans hmodule⟩ <;> rw [link_trainLink] <;> split
    · rfl
    · exact htrained
    · next h => rw [h]
    · exact hfailed
  refine foldl_of_mem (I := fun t => (t.link i).module = (s.link i).module) (fun t k h => (module_trainLink ..).trans h) hkeeps (fun t h => ?_) _ s
    (List.mem_range.mpr hi) rfl
  rw [LinkTrained, module_trainLink, link_trainLink, if_pos rfl]
  exact ⟨rfl, rfl, h⟩

theorem mem_trainLink (s : State) (trained : BitVec 48) (good : Bool) (k : Nat) : (s.trainLink trained good k).mem = s.mem := rfl

theorem mem_foldl_trainLink (s : State) (trained : BitVec 48) (map : W64) :
    ((List.range 48).foldl (fun (s : State) (i : Nat) => s.trainLink trained (map.getLsbD i) i) s).mem = s.mem :=
  foldl_keeps (fun (s : State) (i : Nat) => s.trainLink trained (map.getLsbD i) i) State.mem (fun t k => mem_trainLink t trained (map.getLsbD k) k) _ s

theorem trainLinks_of_stage1 (hd : s.dstate = .bringup) (hb : s.boot.boot = .stage1) : ∃ q,
    q = (List.range 48).foldl (fun (q : State) (i : Nat) => q.trainLink trained ((s.memmapFor trained (s.commonSize trained)).getLsbD i) i) s ∧
    s.trainLinks trained = { q with kregs := { q.kregs with memmap := s.memmapFor trained (s.commonSize trained) }, boot := { q.boot with boot := .trained } } :=
  ⟨_, rfl, if_neg fun h => h.elim (fun h => h hd) fun h => h hb⟩

/-! ### Stage 2 -/

theorem stage2Verify_of_trained (hd : s.dstate = .bringup) (hb : s.boot.boot = .trained) : s.stage2Verify =
    if imgNat s.fuses.stage2 0 4 ≠ imgMagic then s.modBoot (fun b => { b with boot := .waitImage })
    else
      match imageReject 2 (some s.boot.nextKey) s.fuses.min2 s.fuses.stage2 with
      | none => s.runStage2 s.fuses.stage2
      | some r => s.modBoot (fun b => { b with boot := .waitImage, rejects := b.rejects ++ [r] }) :=
  (if_neg (by rw [hb]; decide)).trans (if_neg fun h => h.elim (fun h => h hd) fun h => h hb)

theorem stage2Verify_of_core0 (hb : s.boot.boot = .core0) : s.stage2Verify = s.runCores := if_pos hb

/-- A core as it starts in the kernel at pc. -/
def Core.inKernel (pc : Nat) (x : Core) : Core := { x with running := true, kernel := true, x := { x.x with pc := pc } }

/-- Where the next core starts. -/
def State.startPc (s : State) : Nat := (Config.freeWord s.fresh).toNat / 2

theorem core_startCore (s : State) (k i : Nat) : (s.startCore k).core i = (s.modCore k (Core.inKernel s.startPc)).core i := rfl

theorem boot_startCore (s : State) (k : Nat) : (s.startCore k).boot = s.boot := rfl

theorem dstate_startCore (s : State) (k : Nat) : (s.startCore k).dstate = s.dstate := rfl

theorem core_startCore_same (s : State) (k : Nat) : ((s.startCore k).core k).running = true ∧ ((s.startCore k).core k).kernel = true := by
  rw [core_startCore, core_modCore]
  exact ⟨rfl, rfl⟩

theorem core_startCore_ne (s : State) (h : k ≠ i) : (s.startCore k).core i = s.core i := (core_startCore s k i).trans (core_modCore_ne _ _ _ _ h)

/-- A core that runs in the kernel still does once another, or it itself, has been started. -/
theorem startCore_keeps_running (s : State) (h : (s.core i).running = true ∧ (s.core i).kernel = true) :
    ((s.startCore k).core i).running = true ∧ ((s.startCore k).core i).kernel = true := by
  by_cases hk : k = i
  · subst hk
    exact core_startCore_same s k
  · rw [core_startCore_ne s hk]
    exact h

/-- The state in which the other cores start. -/
def State.kernelBoot (s : State) : State := s.modBoot (fun b => { b with boot := .kernel })

theorem runCores_eq (s : State) : s.runCores = (upto 1 31).foldl State.startCore s.kernelBoot := rfl

theorem boot_runCores (s : State) : s.runCores.boot = { s.boot with boot := .kernel } := by
  rw [runCores_eq, foldl_keeps State.startCore State.boot boot_startCore]
  rfl

theorem dstate_runCores (s : State) : s.runCores.dstate = s.dstate := by
  rw [runCores_eq, foldl_keeps State.startCore State.dstate dstate_startCore]
  rfl

/-- Every core but core 0 starts (R13). -/
theorem running_runCores (s : State) (h0 : 0 < k) (hk : k < 32) : (s.runCores.core k).running = true ∧ (s.runCores.core k).kernel = true := by
  have hmem : k ∈ upto 1 31 := mem_upto.mpr ⟨h0, hk⟩
  rw [runCores_eq]
  exact foldl_of_mem (f := State.startCore) (I := fun _ => True) (P := fun t => (t.core k).running = true ∧ (t.core k).kernel = true) (fun _ _ _ => trivial)
    (fun t j => startCore_keeps_running t) (fun t _ => core_startCore_same t k) _ _ hmem trivial

theorem core0_runCores (s : State) : s.runCores.core 0 = s.core 0 := by
  rw [runCores_eq, read_foldl_of_notMem (read := State.core) (fun s u v h => core_startCore_ne s h) _ fun h => absurd (mem_upto.mp h).1 (by decide)]
  rfl

/-- The state in which core 0 starts, with the image that runs there. -/
def State.coreBoot (s : State) (l : List Byte) : State :=
  s.modBoot (fun b => { b with boot := .core0, ver2 := imgVersion l, m := measure b.m (imgBytes l 16 32) (imgVersion l) })

theorem runStage2_eq (s : State) (l : List Byte) : s.runStage2 l = (s.coreBoot l).startCore 0 := rfl

end

end Sys2Proof.Machine

open Sys2Proof Sys2Proof.Machine in
/-- Settles O43: each stage is one branch of its verification; training is a fold whose every step trains one link. -/
theorem bootEvents : Obligations.BootEvents := by
  unfold Obligations.BootEvents
  intro s hd
  refine ⟨?slotA, ?slotB, ?stuck, fun trained hb => ?training, ?flash, fun hb => ?cores, fun hb hmagic => ?noImage, fun r hb hmagic hr => ?rejected⟩
  case slotA =>
    rintro l hb ha rfl
    exact congrArg Host.Outcome.next ((stage1Verify_of_rom hd hb).trans (by rw [ha]; rfl))
  case slotB =>
    rintro l a hb ha hb' rfl
    exact congrArg Host.Outcome.next ((stage1Verify_of_rom hd hb).trans (by rw [ha, hb']; rfl))
  case stuck =>
    intro a b hb ha hb'
    exact congrArg Host.Outcome.next ((stage1Verify_of_rom hd hb).trans (by rw [ha, hb']; rfl))
  case training =>
    obtain ⟨q, hq, ht⟩ := trainLinks_of_stage1 (trained := trained) hd hb
    refine ⟨_, congrArg Host.Outcome.next ht, rfl, rfl, ?mem, fun i hi => ?links⟩
    case mem =>
      change q.mem = s.mem
      rw [hq]
      exact mem_foldl_trainLink s trained _
    case links =>
      have htrained := linkTrained_foldl s trained (s.memmapFor trained (s.commonSize trained)) hi
      rw [← hq] at htrained
      exact htrained
  case flash =>
    rintro l hb rfl hmagic hok
    have hrun : s.stage2Verify = s.runStage2 s.fuses.stage2 := by rw [stage2Verify_of_trained hd hb, if_neg (not_not.mpr hmagic), hok]
    obtain ⟨hrunning, hkernel⟩ := core_startCore_same (s.coreBoot s.fuses.stage2) 0
    have hboot := boot_startCore (s.coreBoot s.fuses.stage2) 0
    rw [runStage2_eq] at hrun
    exact ⟨_, congrArg Host.Outcome.next hrun, congrArg BootState.boot hboot, congrArg BootState.ver2 hboot, congrArg BootState.m hboot,
      (dstate_startCore _ 0).trans hd, hrunning, hkernel, fun k hk => core_startCore_ne _ hk.symm⟩
  case cores =>
    exact ⟨_, congrArg Host.Outcome.next (stage2Verify_of_core0 hb), boot_runCores s, (dstate_runCores s).trans hd,
      core0_runCores s, fun k h0 hk => running_runCores s h0 hk⟩
  case noImage => exact congrArg Host.Outcome.next ((stage2Verify_of_trained hd hb).trans (if_pos hmagic))
  case rejected =>
    exact congrArg Host.Outcome.next ((stage2Verify_of_trained hd hb).trans ((if_neg (not_not.mpr hmagic)).trans (by rw [hr]; rfl)))

namespace Sys2Proof.Machine

open Sys2Proof.Claims

/-! ## The management protocol (R17, R19, R73-R77) -/

section

variable {s : State} {r : MgmtReq} {op : BitVec 8} {status : BitVec 16} {allowed : Bool} {effect : State → State}

theorem answered_reply (s : State) (r : MgmtReq) (status : BitVec 16) (body : List Byte) : Answered (s.reply r status body) r status body := ⟨_, rfl⟩

theorem not_isOp_eq_false (h : r.isOp op = true) : ¬(!r.isOp op) = true := by
  rw [h]
  exact Bool.noConfusion

/-! ### Images -/

theorem not_waitsImage_eq_false (hd : s.dstate = .bringup) (hb : s.boot.boot = .waitImage) : ¬(!s.waitsImage) = true := by
  rw [State.waitsImage, hd, hb]
  decide

theorem imageChunk_of_ok (hop : r.isOp 0x03#8 = true) (hd : s.dstate = .bringup) (hb : s.boot.boot = .waitImage) (hoff : r.arg0.toNat % 1024 = 0)
    (h0 : 0 < r.chunkLen) (hlen : r.chunkLen ≤ 1024) (hbody : r.body.length = r.chunkLen) :
    s.imageChunk r = (s.memWrite r.arg0.toNat r.body).reply r stOk [] := by
  have hok : ¬(r.arg0.toNat % 1024 ≠ 0 ∨ r.chunkLen = 0 ∨ 1024 < r.chunkLen ∨ r.body.length ≠ r.chunkLen) := by omega
  exact (if_neg (not_isOp_eq_false hop)).trans ((if_neg (not_waitsImage_eq_false hd hb)).trans (if_neg hok))

theorem imageCommit_of_staged (hop : r.isOp 0x04#8 = true) (hd : s.dstate = .bringup) (hb : s.boot.boot = .waitImage) (hsize : r.arg0.toNat ≤ 2 ^ 30) :
    s.imageCommit r = match imageReject 2 (some s.boot.nextKey) s.fuses.min2 (s.memRead 0 r.arg0.toNat) with
      | none => (s.runStage2 (s.memRead 0 r.arg0.toNat)).reply r stOk []
      | some x => ((s.choose 5).2.modBoot (fun b => { b with rejects := b.rejects ++ [x] })).reply r (BitVec.ofNat 16 (s.choose 5).1) [] :=
  (if_neg (not_isOp_eq_false hop)).trans ((if_neg (not_waitsImage_eq_false hd hb)).trans (if_neg (Nat.not_lt.mpr hsize)))

theorem boot_reply (s : State) (r : MgmtReq) (status : BitVec 16) (body : List Byte) : (s.reply r status body).boot = s.boot := rfl

theorem kregs_reply (s : State) (r : MgmtReq) (status : BitVec 16) (body : List Byte) : (s.reply r status body).kregs = s.kregs := rfl

theorem dstate_reply (s : State) (r : MgmtReq) (status : BitVec 16) (body : List Byte) : (s.reply r status body).dstate = s.dstate := rfl

/-! ### Quotes and pages -/

theorem quote_of_nonce (hop : r.isOp 0x02#8 = true) (hd : s.dstate ≠ .bringup) (hbody : r.body.length = 16) :
    s.quote r = (s.modBoot (fun b => { b with quotes := s.boot.quotes + 1 })).reply r stOk
      (toBytesBE 32 s.boot.m.toNat ++ toBytes 8 (s.boot.quotes + 1).toNat ++
        toBytesBE 64 (Config.identitySign (s.quoteDigest r.body (s.boot.quotes + 1))).toNat) :=
  (if_neg (not_isOp_eq_false hop)).trans ((if_neg hd).trans (if_neg (not_not.mpr hbody)))

theorem fld_high (v : BitVec 32) : fld v 16 16 = v.toNat / 2 ^ 16 := by
  rw [fld_eq]
  have := v.isLt
  omega

theorem readPage_of_range {p off len : Nat} (hp : p = r.arg0.toNat) (hoff : off = r.arg1.toNat / 2 ^ 16) (hlen : len = r.arg1.toNat % 2 ^ 16)
    (hop : r.isOp 0x01#8 = true) (hd : s.dstate ≠ .bringup ∨ p < 2) (h8 : 8 ≤ len) (h1024 : len ≤ 1024) (hmod : len % 8 = 0) (h13 : p < 13)
    (hend : off + len ≤ 4096) : s.readPage r = s.reply r stOk ((upto off len).map (s.wvRead p)) := by
  rw [← fld_high] at hoff
  rw [← fld_low] at hlen
  subst hp hoff hlen
  have hshape : ¬(fld r.arg1 0 16 < 8 ∨ 1024 < fld r.arg1 0 16 ∨ fld r.arg1 0 16 % 8 ≠ 0) := by omega
  have hrange : ¬(13 ≤ r.arg0.toNat ∨ 4096 < fld r.arg1 16 16 + fld r.arg1 0 16) := by omega
  have hstate : ¬(s.dstate = .bringup ∧ 2 ≤ r.arg0.toNat) := fun h => hd.elim (fun hd => hd h.1) fun hp => Nat.not_lt.mpr h.2 hp
  exact (if_neg (not_isOp_eq_false hop)).trans ((if_neg hstate).trans ((if_neg hshape).trans (if_neg hrange)))

/-! ### Signed commands -/

/-- The state with the counter of a signed command taken (R75). -/
def State.countered (s : State) (r : MgmtReq) : State := { s with kregs := { s.kregs with mkctr := r.counter } }

/-- A signed command that is accepted takes its counter, has its effect and is answered (R74, R75). -/
theorem signedCommand_of_signed (h : Signed s r op) (hallowed : allowed = true) : s.signedCommand r op allowed status effect =
    (effect (s.countered r)).reply r status [] := by
  obtain ⟨hop, hauth⟩ := h
  rw [State.signedCommand, hop, hallowed, hauth]
  rfl

theorem afterDevcmd_of_none {i : Instr} {act : State → State} (h : s.kregs.devcmd = none) : s.afterDevcmd i act = act s := if_pos (by rw [h]; rfl)

theorem afterDevcmd_of_some {i : Instr} {act : State → State} {d : DevCmd} (h : s.kregs.devcmd = some d) :
    s.afterDevcmd i act = { s.devcmdRun with agenda := i :: s.agenda } := if_neg (by rw [h]; exact Bool.noConfusion)

/-- A change of device state leaves the command counter. -/
theorem mkctr_toDState (s : State) (d : DState) (c : Cause) : (s.toDState d c).kregs.mkctr = s.kregs.mkctr := by
  obtain ⟨a, b, h⟩ := toDState_kregs s d c
  rw [h]

theorem mkctr_drain (s : State) : s.drain.kregs.mkctr = s.kregs.mkctr := by
  rw [State.drain, mkctr_toDState]

theorem devcmd_devAnswer (s : State) (applied : Bool) : (s.devAnswer applied).kregs.devcmd = none := rfl

/-- The state command that waits is gone once it has been run, applied or refused (R55). -/
theorem devcmd_devcmdRun (s : State) : s.devcmdRun.kregs.devcmd = none := by
  unfold State.devcmdRun
  split
  next h => exact h
  all_goals split <;> exact devcmd_devAnswer ..

theorem drain_dstate (s : State) : s.drain.dstate = if s.graphs = [] then .drained else .draining := by
  rw [State.drain, toDState_dstate]
  cases s.graphs <;> rfl

theorem capOk_iff (w : Nat) : capOk w = true ↔ 1200 ≤ w ∧ w ≤ 3600 ∧ w % 10 = 0 := by
  simp only [capOk, Bool.and_eq_true, decide_eq_true_eq, and_assoc]

end

end Sys2Proof.Machine

open Sys2Proof Sys2Proof.Machine Sys2Proof.Claims in
/-- Settles O44: each operation that is allowed is one branch of its definition, ended by its reply; a signed one takes its counter besides. -/
theorem managementEvents : Obligations.ManagementEvents := by
  unfold Obligations.ManagementEvents
  intro s r
  refine ⟨fun hop hd hb hoff h0 hlen hbody => ?chunk, ?commit, fun hash version hb => ?extend, ?quote, ?page, fun d hd => ?waits, fun hsigned hnone hd => ?drain,
    fun hsigned hnone hd => ?resume, fun hsigned hd => ?setcap, fun hknown => ?unknown⟩
  case chunk =>
    have hchunk := imageChunk_of_ok hop hd hb hoff h0 hlen hbody
    refine ⟨_, congrArg Host.Outcome.next hchunk, answered_reply .., rfl, ?_⟩
    rw [boot_reply, memWrite_boot]
  case commit =>
    rintro l hop hd hb hsize rfl
    have hcommit := imageCommit_of_staged hop hd hb hsize
    refine ⟨fun hok => ?passes, fun x hx => ?fails⟩
    case passes =>
      rw [hok] at hcommit
      have hboot := boot_startCore (s.coreBoot (s.memRead 0 r.arg0.toNat)) 0
      exact ⟨_, congrArg Host.Outcome.next hcommit, answered_reply .., congrArg BootState.boot hboot, congrArg BootState.m hboot⟩
    case fails =>
      rw [hx] at hcommit
      exact ⟨_, _, congrArg Host.Outcome.next hcommit, answered_reply .., rfl, rfl⟩
  case extend => exact congrArg Host.Outcome.next (if_pos hb)
  case quote =>
    rintro n hop hd hbody rfl
    exact ⟨_, congrArg Host.Outcome.next (quote_of_nonce hop hd hbody), rfl, answered_reply ..⟩
  case page =>
    intro p off len hp hoff hlen hop hd h8 h1024 hmod h13 hend
    exact ⟨_, congrArg Host.Outcome.next (readPage_of_range hp hoff hlen hop hd h8 h1024 hmod h13 hend), answered_reply .., rfl⟩
  case waits =>
    exact ⟨congrArg Host.Outcome.next (afterDevcmd_of_some hd), congrArg Host.Outcome.next (afterDevcmd_of_some hd), devcmd_devcmdRun s⟩
  case drain =>
    refine ⟨_, congrArg Host.Outcome.next ((afterDevcmd_of_none hnone).trans (signedCommand_of_signed hsigned (decide_eq_true hd))), answered_reply .., ?_, ?_⟩
    · rw [kregs_reply, mkctr_drain]; rfl
    · rw [dstate_reply, drain_dstate]; rfl
  case resume =>
    refine ⟨_, congrArg Host.Outcome.next ((afterDevcmd_of_none hnone).trans (signedCommand_of_signed hsigned (decide_eq_true hd))), answered_reply .., ?_, ?_⟩
    · rw [kregs_reply, mkctr_toDState]; rfl
    · rw [dstate_reply, toDState_dstate]
  case setcap =>
    have hrun := signedCommand_of_signed (status := if capOk r.arg0.toNat then stOk else stRange)
      (effect := fun s => if capOk r.arg0.toNat then { s with capNext := some (BitVec.ofNat 12 r.arg0.toNat) } else s) hsigned (decide_eq_true hd)
    refine ⟨_, congrArg Host.Outcome.next hrun, ?counter, ?outcome⟩
    case counter => split <;> rfl
    case outcome =>
      by_cases hok : capOk r.arg0.toNat = true
      case pos =>
        rw [if_pos ((capOk_iff _).mp hok), if_pos hok, if_pos hok]
        exact ⟨answered_reply .., rfl⟩
      case neg =>
        rw [if_neg (mt (capOk_iff _).mpr hok), if_neg hok, if_neg hok]
        exact ⟨answered_reply .., rfl⟩
  case unknown => exact ⟨_, congrArg Host.Outcome.next (if_neg (by rw [hknown]; exact Bool.noConfusion)), answered_reply .., rfl⟩

namespace Sys2Proof.Machine

/-! ## Registers and their commands (R16, R50-R55, R68, R76, R173, R288) -/

section

variable {s : State} {n k p : Nat} {v : W64}

/-! ### State commands -/

theorem startBlocked_run (hcmd : s.kregs.devcmd = some .start) (hd : s.dstate = .bringup) (hfree : startBlocked s.kregs = false) :
    s.devcmdRun = s.started.devAnswer true := by
  rw [State.devcmdRun, hcmd]
  exact if_pos ⟨hd, hfree⟩

theorem drain_run (hcmd : s.kregs.devcmd = some .drain) (hd : s.dstate = .ready) : s.devcmdRun = s.drain.devAnswer true := by
  rw [State.devcmdRun, hcmd]
  exact if_pos hd

theorem resume_run (hcmd : s.kregs.devcmd = some .resume) (hd : s.dstate = .draining ∨ s.dstate = .drained) :
    s.devcmdRun = (s.toDState .ready 0).devAnswer true := by
  rw [State.devcmdRun, hcmd]
  exact if_pos hd

theorem devAnswer_keeps (s : State) (b : Bool) : (s.devAnswer b).dstate = s.dstate ∧ (s.devAnswer b).fuses = s.fuses ∧ (s.devAnswer b).boot = s.boot ∧
    (s.devAnswer b).kregs.devcmd = none ∧ (s.devAnswer b).kregs.devres = if b then 1 else 2 := ⟨rfl, rfl, rfl, rfl, rfl⟩

/-- The fuses once READY has been entered for the first time after a reset (R16). -/
def State.raisedFuses (s : State) : Fuses :=
  { s.fuses with
    min1 := if s.fuses.min1 < s.boot.ver1 then s.boot.ver1 else s.fuses.min1
    min2 := if s.fuses.min2 < s.boot.ver2 then s.boot.ver2 else s.fuses.min2 }

theorem started_fuses (h : s.boot.readied = false) : s.started.fuses = s.raisedFuses := by
  unfold State.started
  rw [toDState_fuses, h]
  rfl

theorem started_boot (s : State) : s.started.boot = { s.boot with readied := true } := by
  unfold State.started
  rw [toDState_boot]
  dsimp only
  split <;> rfl

theorem started_dstate (s : State) : s.started.dstate = .ready := by
  unfold State.started
  rw [toDState_dstate]

theorem toNat_ite_lt {w : Nat} (a b : BitVec w) : (if a < b then b else a).toNat = max a.toNat b.toNat := by
  split
  next h => exact (Nat.max_eq_right (Nat.le_of_lt h)).symm
  next h => exact (Nat.max_eq_left (Nat.not_lt.mp h)).symm

/-! ### The registers -/

theorem capsetWrite_eq {w : Nat} (hw : w = v.toNat % 2 ^ 12) : s.capsetWrite v = if 1200 ≤ w ∧ w ≤ 3600 ∧ w % 10 = 0
    then { s with capNext := some (BitVec.ofNat 12 w), kregs := { s.kregs with capRef := false } }
    else { s with kregs := { s.kregs with capRef := true } } := by
  rw [← fld_low] at hw
  subst hw
  unfold State.capsetWrite
  by_cases h : capOk (fld v 0 12) = true
  · rw [if_pos h, if_pos ((capOk_iff _).mp h)]
  · rw [if_neg h, if_neg (mt (capOk_iff _).mpr h)]

/-- A register that is taken in BRINGUP alone keeps its value elsewhere (R50). -/
theorem regWrite_of_ready {off : Nat} (hd : s.dstate ≠ .bringup) (hcons : off ≠ 0x038) (hivl : off ≠ 0x048) (hkey : off < 0x180 ∨ 0x1C0 ≤ off) :
    s.regWrite off v = s := by
  have hx : ¬(0x180 ≤ off ∧ off < 0x1A0) := by omega
  have hy : ¬(0x1A0 ≤ off ∧ off < 0x1C0) := by omega
  unfold State.regWrite
  rw [if_neg hcons, if_neg hivl, if_neg hx, if_neg hy, if_pos (by rw [decide_eq_false hd]; rfl)]

theorem regWrite_ttbase : s.regWrite 0x100 v = if s.dstate = .bringup then
    { s with kregs := { s.kregs with ttbase := BitVec.ofNat 64 (v.toNat / 2 ^ 15 % 2 ^ 31 * 2 ^ 15) } } else s := by
  have hkeep : keepBits v 15 31 = BitVec.ofNat 64 (v.toNat / 2 ^ 15 % 2 ^ 31 * 2 ^ 15) := by rw [keepBits, fld_eq]
  by_cases hd : s.dstate = .bringup
  · rw [if_pos hd, ← hkeep]
    unfold State.regWrite
    rw [decide_eq_true hd]
    rfl
  · rw [if_neg hd, regWrite_of_ready hd (by decide) (by decide) (.inl (by decide))]

/-! ### The tenant table -/

theorem killCtx_tenants (s : State) (t c : Nat) : (s.killCtx t c).tenants = s.tenants := by
  have hput : ∀ (q : State) (l : List Piece), (q.putWords l).tenants = q.tenants := fun q l =>
    foldl_keeps _ State.tenants (fun q (e : Nat × List Byte) => memWrite_tenants q e.1 e.2) _ _
  unfold State.killCtx
  simp only [modCtx_tenants, modTile_tenants]
  exact (foldl_keeps _ State.tenants (fun q (j : BJob) => hput q j.words) _ _).trans rfl

theorem killCtx_kregs (s : State) (t c : Nat) : (s.killCtx t c).kregs = s.kregs := by
  have hput : ∀ (q : State) (l : List Piece), (q.putWords l).kregs = q.kregs := fun q l =>
    foldl_keeps _ State.kregs (fun q (e : Nat × List Byte) => memWrite_kregs q e.1 e.2) _ _
  unfold State.killCtx
  simp only [modCtx_kregs, modTile_kregs]
  exact (foldl_keeps _ State.kregs (fun q (j : BJob) => hput q j.words) _ _).trans rfl

theorem killTile_tenants (s : State) (t : Nat) : (s.killTile t).tenants = s.tenants := by
  rw [State.killTile, modTile_tenants, killCtx_tenants, killCtx_tenants]

theorem killTile_kregs (s : State) (t : Nat) : (s.killTile t).kregs = s.kregs := by
  rw [State.killTile, modTile_kregs, killCtx_kregs, killCtx_kregs]

/-- The kill of a tenant leaves the table and the kernel registers. -/
theorem kill_tenants (s : State) (n : Nat) : (s.kill n).tenants = s.tenants :=
  foldl_keeps _ State.tenants (fun q (e : Nat × Tile) => by split; exacts [killTile_tenants q e.1, rfl]) s.tiles s

theorem kill_kregs (s : State) (n : Nat) : (s.kill n).kregs = s.kregs :=
  foldl_keeps _ State.kregs (fun q (e : Nat × Tile) => by split; exacts [killTile_kregs q e.1, rfl]) s.tiles s

/-- The entry of tenant n is bad (R52). -/
def State.entryBad (s : State) (n : Nat) : Bool := (s.ttEntry n).valid && s.ttBad n

/-- The entry of tenant n as a reload leaves it (R52). -/
def State.loadedEntry (s : State) (n : Nat) : Tenant := { s.ttEntry n with valid := (s.ttEntry n).valid && !s.entryBad n }

/-- The table has been read and entry n has been taken from it. -/
def State.entryLoaded (s : State) (n : Nat) : State :=
  let q := s.readMet (s.kregs.ttbase.toNat + 512 * n) 512
  { q with tenants := mput q.tenants n (s.loadedEntry n), kregs := { q.kregs with badEntry := q.kregs.badEntry || s.entryBad n } }

/-- A newly VALID tenant has no credit and no tile (R52). -/
def State.emptied (s : State) (n : Nat) : State :=
  { s with
    dies := s.dies.map (fun d => (d.1, { d.2 with credit := d.2.credit.filter (fun c => decide (c.1 % 64 ≠ n)) })),
    tiles := s.tiles.map (fun (e : Nat × Tile) => (e.1, if e.2.tenant = some n ∧ e.2.killing = false then { e.2 with tenant := none } else e.2)) }

/-- What neither the kill of a tenant nor the emptying of a new one changes, a reload leaves as the entry taken from the table does. -/
theorem loadTenant_keeps {α : Type} {g : State → α} (hkill : ∀ q : State, g (q.kill n) = g q) (hempty : ∀ q : State, g (q.emptied n) = g q)
    (s : State) : g (s.loadTenant n) = g (s.entryLoaded n) := by
  have heq : s.loadTenant n =
      (let q := if (s.loadedEntry n).valid && !(s.tenant n).valid then (s.entryLoaded n).emptied n else s.entryLoaded n
       if (s.tenant n).valid && !(s.loadedEntry n).valid then q.kill n else q) := rfl
  have hnew : g (if (s.loadedEntry n).valid && !(s.tenant n).valid then (s.entryLoaded n).emptied n else s.entryLoaded n) = g (s.entryLoaded n) := by
    split
    · exact hempty _
    · rfl
  rw [heq]
  dsimp only
  split
  · exact (hkill _).trans hnew
  · exact hnew

theorem tenants_loadTenant (s : State) (n : Nat) : (s.loadTenant n).tenants = mput s.tenants n (s.loadedEntry n) := by
  rw [loadTenant_keeps (g := State.tenants) (fun q => kill_tenants q n) (fun _ => rfl), State.entryLoaded]
  exact congrArg (fun m => mput m n (s.loadedEntry n)) (readMet_tenants ..)

theorem badEntry_loadTenant (s : State) (n : Nat) : (s.loadTenant n).kregs.badEntry = (s.kregs.badEntry || s.entryBad n) := by
  obtain ⟨a, b, hread⟩ := readMet_kregs s (s.kregs.ttbase.toNat + 512 * n) 512
  have hbad : (s.readMet (s.kregs.ttbase.toNat + 512 * n) 512).kregs.badEntry = s.kregs.badEntry := by rw [hread]
  rw [loadTenant_keeps (g := fun q => q.kregs.badEntry) (fun q => congrArg KRegs.badEntry (kill_kregs q n)) (fun _ => rfl), ← hbad]
  rfl

theorem loadedEntry_eq (s : State) (n : Nat) : s.loadedEntry n = { s.ttEntry n with valid := (s.ttEntry n).valid && !s.ttBad n } := by
  have hvalid : ((s.ttEntry n).valid && !s.entryBad n) = ((s.ttEntry n).valid && !s.ttBad n) := by
    unfold State.entryBad
    cases (s.ttEntry n).valid <;> rfl
  rw [State.loadedEntry, hvalid]

/-! ### Windows -/

/-- WINSYNC's port and entry (R53). -/
theorem winsyncWrite_of_idle {port i : Nat} (h : s.kregs.winDrain = none) (hport : port = v.toNat / 2 ^ 16 % 2) (hi : i = v.toNat % 2 ^ 10) :
    mget Window.init ((s.winsyncWrite v).eth port).windows i = s.windowEntry port i ∧ (s.winsyncWrite v).kregs.winDrain =
      (if (mget Window.init (s.eth port).windows i).valid = true ∧ (s.windowEntry port i).valid = false then some (port, i) else none) := by
  have hfport : fld v 16 1 = port := by rw [hport, fld_eq]; rfl
  have hfi : fld v 0 10 = i := by rw [hi, fld_low]
  obtain ⟨a, b, hread⟩ := readMet_kregs s (s.windowAt port i) 32
  have hdrain : (s.readMet (s.windowAt port i) 32).kregs.winDrain = none := by rw [hread]; exact h
  have hwin : mget Window.init (((s.readMet (s.windowAt port i) 32).modEth port
      (fun e => { e with windows := mput e.windows i (s.windowEntry port i) })).eth port).windows i = s.windowEntry port i := by
    rw [State.eth, State.modEth, mget_mput_same]
    exact mget_mput_same ..
  unfold State.winsyncWrite
  rw [h, hfport, hfi]
  dsimp only
  by_cases htaken : (mget Window.init (s.eth port).windows i).valid = true ∧ (s.windowEntry port i).valid = false
  · rw [if_pos htaken, htaken.1, htaken.2]
    exact ⟨hwin, rfl⟩
  · have hkept : ((mget Window.init (s.eth port).windows i).valid && !(s.windowEntry port i).valid) = false := by
      rw [Bool.eq_false_iff]
      simpa using htaken
    rw [if_neg htaken, hkept]
    exact ⟨hwin, hdrain⟩

/-! ### The status pages -/

/-- The updates of a page. -/
def State.updates (s : State) (p : Nat) : Nat := (mget WvPage.init s.wv p).updates

theorem updates_wvUpdate (s : State) (p q : Nat) : (s.wvUpdate p).updates q = if p = q then s.updates p + 1 else s.updates q := by
  unfold State.updates State.wvUpdate
  split
  next h => rw [← h, mget_mput_same]
  next h => rw [mget_mput_ne _ _ _ _ _ h]

/-- The update of a tenant's page 13: the page, the tenant's flag, and the interrupt where the flag was up. -/
theorem wvTenant_eq (s : State) (n : Nat) : s.wvTenant n = if (s.tenant n).signal then
    ((s.wvUpdate (13 + n)).modTenant n (fun t => { t with signal := false })).interrupt (s.tenant n).irqcore 0x6C#7 else s.wvUpdate (13 + n) := rfl

theorem updates_wvTenant (s : State) (n q : Nat) : (s.wvTenant n).updates q = if 13 + n = q then s.updates (13 + n) + 1 else s.updates q := by
  rw [← updates_wvUpdate, wvTenant_eq]
  split <;> rfl

theorem mem_wvTenant (s : State) (n : Nat) : (s.wvTenant n).mem = s.mem := by
  rw [wvTenant_eq]
  split <;> rfl

theorem tenant_wvUpdate (s : State) (p k : Nat) : (s.wvUpdate p).tenant k = s.tenant k := rfl

theorem tenant_interrupt (s : State) (j : Nat) (c : Cause) (k : Nat) : (s.interrupt j c).tenant k = s.tenant k := rfl

theorem tenant_wvTenant_same (s : State) (n : Nat) : (s.wvTenant n).tenant n = { s.tenant n with signal := false } := by
  rw [wvTenant_eq]
  split
  next => rw [tenant_interrupt, tenant_modTenant, tenant_wvUpdate]
  next h =>
    rw [tenant_wvUpdate, ← Bool.eq_false_iff.mpr h]

theorem tenant_wvTenant_ne (s : State) (h : n ≠ k) : (s.wvTenant n).tenant k = s.tenant k := by
  rw [wvTenant_eq]
  split
  · exact mget_mput_ne _ _ _ _ _ h
  · rfl

/-- An interrupt that is pending stays so when another comes. -/
theorem mem_irq_core_interrupt {x : Core} {c e : Cause} (h : e ∈ x.irq) : e ∈ (x.interrupt c).irq := by
  unfold Core.interrupt
  split
  · exact h
  · exact List.mem_append_left _ h

theorem mem_irq_of_interrupt {j i : Nat} {c e : Cause} (h : e ∈ (s.core i).irq) : e ∈ ((s.interrupt j c).core i).irq := by
  unfold State.interrupt
  by_cases hj : j = i
  · subst hj
    rw [core_modCore]
    exact mem_irq_core_interrupt h
  · rw [core_modCore_ne _ _ _ _ hj]
    exact h

theorem mem_irq_wvTenant {i : Nat} {e : Cause} (h : e ∈ (s.core i).irq) (n : Nat) : e ∈ ((s.wvTenant n).core i).irq := by
  rw [wvTenant_eq]
  split
  · exact mem_irq_of_interrupt h
  · exact h

/-- The records that a page's update shows interrupt the tenant's core (R64). -/
theorem wvTenant_interrupts (h : (s.tenant n).signal = true) : 0x6C#7 ∈ ((s.wvTenant n).core (s.tenant n).irqcore).irq := by
  rw [wvTenant_eq, if_pos h]
  exact mem_irq_interrupt _ _ _

/-- What page 13 of tenant n and the tenant itself come to where every tenant's page is updated once. -/
theorem foldl_wvTenant (s : State) {l : List Nat} (hl : l.Nodup) (hn : n ∈ l) :
    (l.foldl State.wvTenant s).updates (13 + n) = s.updates (13 + n) + 1 ∧ ((l.foldl State.wvTenant s).tenant n).signal = false ∧
      ((s.tenant n).signal = true → 0x6C#7 ∈ ((l.foldl State.wvTenant s).core (s.tenant n).irqcore).irq) := by
  refine ⟨?_, ?_, fun hs => ?_⟩
  · exact read_foldl_of_mem (read := fun q m => q.updates (13 + m)) (h := (· + 1)) (fun q m => by rw [updates_wvTenant, if_pos rfl])
      (fun q m k hmk => by rw [updates_wvTenant, if_neg (by omega)]) s hl hn
  · have htenant := read_foldl_of_mem (read := State.tenant) (h := fun t => { t with signal := false }) tenant_wvTenant_same
      (fun q m k hmk => tenant_wvTenant_ne q hmk) s hl hn
    rw [htenant]
  · exact foldl_of_mem (f := State.wvTenant) (I := fun q => q.tenant n = s.tenant n ∨ 0x6C#7 ∈ (q.core (s.tenant n).irqcore).irq)
      (P := fun q => 0x6C#7 ∈ (q.core (s.tenant n).irqcore).irq)
      (fun q m h => by
        by_cases hm : m = n
        · subst hm
          rcases h with h | h
          · exact .inr (h ▸ wvTenant_interrupts (h ▸ hs))
          · exact .inr (mem_irq_wvTenant h m)
        · rcases h with h | h
          · exact .inl ((tenant_wvTenant_ne q hm).trans h)
          · exact .inr (mem_irq_wvTenant h m))
      (fun q m h => mem_irq_wvTenant h m)
      (fun q h => h.elim (fun h => h ▸ wvTenant_interrupts (h ▸ hs)) fun h => mem_irq_wvTenant h n) l s hn (.inl rfl)

end

end Sys2Proof.Machine


open Sys2Proof Sys2Proof.Machine in
/-- Settles O45: each command and each register is a branch of its definition; the update of page 13 comes to every tenant's page once. -/
theorem registerEvents : Obligations.RegisterEvents := by
  unfold Obligations.RegisterEvents
  intro s
  refine ⟨fun hcmd hd hfree => ?start, fun hcmd hd => ?drain, fun hcmd hd => ?resume, fun v w hw => congrArg Host.Outcome.next (capsetWrite_eq hw),
    fun c hc => ?cap, fun hcurve => congrArg Host.Outcome.next (if_pos hcurve), rfl, fun v => rfl, fun v => congrArg Host.Outcome.next regWrite_ttbase,
    fun off v hd hcons hivl hkey => congrArg Host.Outcome.next (regWrite_of_ready hd hcons hivl (by omega)), fun v hidle => ?ttsync, fun n hn hlt => ?reload,
    fun v port i hidle hport hi => ?winsync, fun w hw => ?deregister, fun n mask => ?nanstat, fun p hp => ?page, ?tenantPages⟩
  case start =>
    have hrun : exec .devcmdStart s = .next (s.started.devAnswer true) :=
      congrArg Host.Outcome.next ((if_pos hcmd).trans (startBlocked_run hcmd hd hfree))
    obtain ⟨hdstate, hfuses, hboot, hnone, hres⟩ := devAnswer_keeps s.started true
    refine ⟨_, hrun, hdstate.trans (started_dstate s), hnone, hres, ?_, fun hfirst => ?_⟩
    · rw [hboot, started_boot]
    · rw [hfuses, started_fuses hfirst]
      exact ⟨toNat_ite_lt .., toNat_ite_lt ..⟩
  case drain =>
    have hrun : exec .devcmdDrain s = .next (s.drain.devAnswer true) := congrArg Host.Outcome.next ((if_pos hcmd).trans (drain_run hcmd hd))
    obtain ⟨hdstate, -, -, hnone, hres⟩ := devAnswer_keeps s.drain true
    exact ⟨_, hrun, hnone, hres, hdstate.trans (drain_dstate s)⟩
  case resume =>
    have hrun : exec .devcmdResume s = .next ((s.toDState .ready 0).devAnswer true) :=
      congrArg Host.Outcome.next ((if_pos hcmd).trans (resume_run hcmd hd))
    obtain ⟨hdstate, -, -, hnone, hres⟩ := devAnswer_keeps (s.toDState .ready 0) true
    exact ⟨_, hrun, hnone, hres, hdstate.trans (toDState_dstate ..)⟩
  case cap =>
    change Host.Outcome.next (match s.capNext with | some c => { s with cap := c, capNext := none } | none => s) = _
    rw [hc]
  case ttsync =>
    have hset : s.ttsyncWrite v = { s with kregs := { s.kregs with ttsync := some (if v.getLsbD 6 then none else some (fld v 0 6)), badEntry := false } } :=
      if_neg (by rw [hidle]; exact Bool.noConfusion)
    rw [fld_low] at hset
    exact congrArg Host.Outcome.next hset
  case reload =>
    have hrun : exec .tenantTableReload s = .next { s.loadTenant n with kregs := { (s.loadTenant n).kregs with ttsync := none } } := by
      change execTenantTableReload s = _
      rw [execTenantTableReload, hn]
      rfl
    have htenant : ∀ k, State.tenant { s.loadTenant n with kregs := { (s.loadTenant n).kregs with ttsync := none } } k =
        mget Tenant.init (mput s.tenants n (s.loadedEntry n)) k := fun k => congrArg (fun m => mget Tenant.init m k) (tenants_loadTenant s n)
    refine ⟨_, hrun, rfl, ?_, badEntry_loadTenant s n, fun k hk => ?_⟩
    · rw [htenant, mget_mput_same, loadedEntry_eq]
    · exact (htenant k).trans (mget_mput_ne _ _ _ _ _ hk.symm)
  case winsync => exact ⟨_, rfl, winsyncWrite_of_idle hidle hport hi⟩
  case deregister =>
    change execWindowDeregisterComplete s = _
    rw [execWindowDeregisterComplete, hw]
  case nanstat =>
    refine ⟨_, rfl, ?_⟩
    rw [tile_modTile]
    rfl
  case page =>
    refine ⟨s.wvUpdate p, congrArg Host.Outcome.next (if_pos hp), rfl, ?_⟩
    exact (updates_wvUpdate s p p).trans (if_pos rfl)
  case tenantPages =>
    exact ⟨(List.range 64).foldl State.wvTenant s, congrArg Host.Outcome.next (if_neg (by decide)), foldl_keeps State.wvTenant State.mem mem_wvTenant _ s,
      fun n hn => foldl_wvTenant s List.nodup_range (List.mem_range.mpr hn)⟩

namespace Sys2Proof.Machine

/-! ## Dispositions, interrupts and ends of page walks (R148, R149, R263, R268-R270) -/

section

variable {s : State} {n c k : Nat} {v : W64} {cause : BitVec 7}

/-! ### CTXDISP -/

/-- CTXDISP's fields in the value that a RESUME writes (R268). -/
theorem fld_resume (hc : c < 2) : fld (BitVec.ofNat 64 (1 + 4 * c)) 0 2 = 1 ∧ fld (BitVec.ofNat 64 (1 + 4 * c)) 2 1 = c := by
  interval_cases c <;> decide

/-- CTXDISP's fields in the value that an ABANDON writes (R268). -/
theorem fld_abandon (hc : c < 2) (cause : BitVec 7) : fld (BitVec.ofNat 64 (2 + 4 * c + 256 * cause.toNat)) 0 2 = 2 ∧
    fld (BitVec.ofNat 64 (2 + 4 * c + 256 * cause.toNat)) 2 1 = c ∧
    BitVec.ofNat 7 (fld (BitVec.ofNat 64 (2 + 4 * c + 256 * cause.toNat)) 8 7) = cause := by
  have hlt := cause.isLt
  have hval : (BitVec.ofNat 64 (2 + 4 * c + 256 * cause.toNat)).toNat = 2 + 4 * c + 256 * cause.toNat := by
    rw [BitVec.toNat_ofNat, Nat.mod_eq_of_lt (by omega)]
  rw [fld_eq, fld_eq, fld_eq, hval]
  refine ⟨by omega, by omega, BitVec.eq_of_toNat_eq ?_⟩
  rw [BitVec.toNat_ofNat]
  omega

theorem ctxdispWrite_of_cut (hcut : (s.tile n).cutting = true) (hop : fld v 0 2 = 1 ∨ fld v 0 2 = 2) (hctx : fld v 2 1 = c) : s.ctxdispWrite n v =
    if (s.ctx n c).stop.stopped = true ∧ (s.ctx n c).disp = none then s.modCtx n c (fun y => { y with disp := some v }) else s := by
  rw [State.ctxdispWrite, hcut, hctx]
  dsimp only [Bool.not_true]
  rw [if_neg Bool.noConfusion]
  by_cases h : (s.ctx n c).stop.stopped = true ∧ (s.ctx n c).disp = none
  · rw [if_pos h, if_pos ⟨hop, h⟩]
  · rw [if_neg h, if_neg fun h' => h h'.2]

theorem ctxdispWrite_of_uncut (hcut : (s.tile n).cutting = false) : s.ctxdispWrite n v = s.dispose n v := by
  rw [State.ctxdispWrite, hcut]
  rfl

theorem dispose_of_resume (hop : fld v 0 2 = 1) (hctx : fld v 2 1 = c) : s.dispose n v = s.resumeCtx n c := (if_pos hop).trans (by rw [hctx])

theorem dispose_of_abandon (hop : fld v 0 2 = 2) (hctx : fld v 2 1 = c) (hcause : BitVec.ofNat 7 (fld v 8 7) = cause) :
    s.dispose n v = s.abandonCtx n c cause := (if_neg (by rw [hop]; decide)).trans ((if_pos hop).trans (by rw [hctx, hcause]))

/-- A resumed context as its stop area gives it (R263, R266). -/
def State.reloaded (s : State) (n c : Nat) : Ctx :=
  s.reloadPart (s.ctx n c).stop.area.toNat { s.ctx n c with stop := { (s.ctx n c).stop with stopped := false } }

/-- A context that does not end stays as it is. -/
theorem taskEnd_of_going (h : (s.ctx n c).ending = false) : s.taskEnd n c = s := by
  unfold State.taskEnd
  dsimp only
  split
  · rfl
  · exact if_pos (by rw [h]; rfl)

/-- The parked commands of a context restart (R252, R258). -/
def Tile.restarted (c : Nat) (x : Tile) : Tile :=
  { x with
    copies := x.copies.map (fun k => (k.1, if k.2.ctx = c ∧ k.2.st = 2 then { k.2 with st := 1 } else k.2)),
    winq := x.winq.map (fun j => if j.ctx = c then { j with parked := false } else j) }

theorem ctx_restarted (s : State) (n c : Nat) (y : Ctx) : ((s.setCtx n c y).modTile n (Tile.restarted c)).ctx n c = y := by
  have hkeep : ∀ x : Tile, (x.restarted c).ctx c = x.ctx c := fun _ => rfl
  rw [ctx_modTile_of hkeep, ctx_setCtx]

theorem resumeCtx_of_stopped (hstop : (s.ctx n c).stop.stopped = true) :
    s.resumeCtx n c = ((s.setCtx n c (s.reloaded n c)).modTile n (Tile.restarted c)).taskEnd n c :=
  if_neg (by rw [hstop]; exact Bool.noConfusion)

theorem stopped_reloaded (s : State) (n c : Nat) : (s.reloaded n c).stop.stopped = false := by
  obtain ⟨x, spill, h⟩ := reloadPart_eq s (s.ctx n c).stop.area.toNat { s.ctx n c with stop := { (s.ctx n c).stop with stopped := false } }
  rw [State.reloaded, h]

theorem pc_reloadPart (s : State) (pa : Nat) (y : Ctx) : (s.reloadPart pa y).x.pc = y.x.pc := by simp only [State.reloadPart]

theorem lc0_reloadPart (s : State) (pa : Nat) (y : Ctx) : (s.reloadPart pa y).x.lc0 = BitVec.ofNat 32 (s.memNat (pa + 0x1400) 4) := by
  simp only [State.reloadPart]

theorem ending_reloaded (s : State) (n c : Nat) : (s.reloaded n c).ending = (s.ctx n c).ending := by
  obtain ⟨x, spill, h⟩ := reloadPart_eq s (s.ctx n c).stop.area.toNat { s.ctx n c with stop := { (s.ctx n c).stop with stopped := false } }
  rw [State.reloaded, h]

theorem ctx_resumeCtx (hstop : (s.ctx n c).stop.stopped = true) (hend : (s.ctx n c).ending = false) :
    (s.resumeCtx n c).ctx n c = s.reloaded n c := by
  rw [resumeCtx_of_stopped hstop, taskEnd_of_going, ctx_restarted]
  rw [ctx_restarted, ending_reloaded, hend]

/-- The context with its stop over (R263). -/
def State.unstopped (s : State) (n c : Nat) : State := s.modCtx n c (fun y => { y with stop := { y.stop with stopped := false } })

/-- A context as its task ends by a cause of grade G0 (R61). -/
def Ctx.endsTask (y : Ctx) : Ctx := { y with ending := true, x := { y.x with pend := [], branch := none } }

theorem abandonCtx_of_stopped {t : Task} (hstop : (s.ctx n c).stop.stopped = true) (htask : (s.ctx n c).task = some t) : s.abandonCtx n c cause =
    if grade cause = 0 then ((s.unstopped n c).modCtx n c Ctx.endsTask).taskEnd n c else (s.unstopped n c).nodeFail t.gid t.node cause := by
  have hmatch : s.abandonCtx n c cause = (match (s.ctx n c).task with
      | none => s.unstopped n c
      | some k => if grade cause = 0 then ((s.unstopped n c).modCtx n c Ctx.endsTask).taskEnd n c else (s.unstopped n c).nodeFail k.gid k.node cause) :=
    if_neg (by rw [hstop]; exact Bool.noConfusion)
  rw [hmatch, htask]

/-! ### Interrupts -/

theorem ccCompare_of_reached (hcount : (s.core k).ccmp.toNat ≤ (s.core k).x.ccycle) (hnew : (s.core k).compared = false) :
    exec (.ccCompare k) s = .next (s.modCore k (fun x => { x.interrupt 0x6F#7 with compared := true })) :=
  congrArg Host.Outcome.next (if_pos ⟨hcount, hnew⟩)

theorem mem_irq_core_interrupt_same (x : Core) (e : Cause) : e ∈ (x.interrupt e).irq := by
  unfold Core.interrupt
  split
  next h => exact h
  next => exact List.mem_append_right _ List.mem_cons_self

theorem interruptTaken_of_ready {e : Cause} {rest : List Cause} (hirq : (s.core k).irq = e :: rest) (hrun : (s.core k).running = true)
    (hbranch : (s.core k).x.branch = none) (hopen : (s.core k).kernel = false ∨ (s.core k).ie = true) (hstall : (s.core k).x.stallLeft = 0)
    (henq : (s.core k).enq = none) : exec (.interruptTaken k) s =
      .next ((s.modCore k (fun x => { x with irq := rest })).coreTrap k { cause := e, slots := 0, faddr := 0, pc := (s.core k).x.pc, engine := none }) := by
  have hmode : (!(s.core k).kernel || (s.core k).ie) = true := by rcases hopen with h | h <;> simp [h]
  change execInterruptTaken k s = _
  unfold execInterruptTaken
  dsimp only
  rw [hirq, hrun, hbranch, hmode, hstall, henq]
  rfl

end

/-! ### Ends of page walks -/

section

variable {s : State} {w : Walk} {u : UnitId} {a : Acc} {e : TlbE} {c : Cause} {d n : Nat} {f : State → Option Cause}

/-- The record of an uncorrectable line leaves what the kernel log and the units do not hold. -/
theorem metIn_keeps {α : Type} {g : State → α} (h : ∀ (q : State) l, g (q.metLine l) = g q) (s' : State) : g (s'.metIn s f) = g s' := by
  unfold State.metIn
  split
  · exact h _ _
  · rfl

theorem tlbOf_congr {t : State} (htile : ∀ m, (t.tile m).tlb = (s.tile m).tlb) (hcluster : ∀ m, t.cluster m = s.cluster m)
    (hcore : ∀ m, (t.core m).tlb = (s.core m).tlb) (u : UnitId) : t.tlbOf u = s.tlbOf u := by
  cases u with
  | ctx m j => rw [State.tlbOf, htile, hcluster]; rfl
  | core j => exact hcore j

/-- A change of a thread leaves every TLB. -/
theorem tlbOf_modThread (g : Thread → Thread) (v : UnitId) : (s.modThread u g).tlbOf v = s.tlbOf v := by
  cases u with
  | ctx m j =>
    refine tlbOf_congr (s := s) (t := s.modThread (.ctx m j) g) (fun i => ?_) (fun _ => rfl) (fun _ => rfl) v
    exact tile_modCtx_keeps (g := Tile.tlb) (fun x j y => by unfold Tile.setCtx; split <;> rfl) s m j i _
  | core j =>
    refine tlbOf_congr (s := s) (t := s.modThread (.core j) g) (fun _ => rfl) (fun _ => rfl) (fun i => ?_) v
    by_cases hj : j = i
    · subst hj
      have hcore := core_modCore s j fun y => { y with x := g (s.core j).x }
      exact (congrArg Core.tlb hcore).trans rfl
    · exact congrArg Core.tlb (core_modCore_ne _ _ _ _ hj)

/-- The entry put last is there. -/
theorem mem_tlbPut {m : Nat} (hm : 0 < m) (l : List TlbE) (e : TlbE) : e ∈ tlbPut m l e := by
  unfold tlbPut
  dsimp only
  rw [List.drop_append_of_le_length (by rw [List.length_append, List.length_singleton]; omega)]
  exact List.mem_append_right _ List.mem_cons_self

theorem mem_tlbOf_install (s : State) (u : UnitId) (e : TlbE) : e ∈ (s.install u e).tlbOf u := by
  cases u with
  | ctx m j =>
    refine List.mem_append_left _ ?_
    change e ∈ ((s.modTile m (fun x => { x with tlb := tlbPut 64 x.tlb e })).tile m).tlb
    rw [tile_modTile]
    exact mem_tlbPut (by decide) _ _
  | core j =>
    change e ∈ ((s.modCore j (fun x => { x with tlb := tlbPut 64 x.tlb e })).core j).tlb
    rw [core_modCore]
    exact mem_tlbPut (by decide) _ _

theorem thread_install (s : State) (u v : UnitId) (e : TlbE) : (s.install u e).thread v = s.thread v := by
  cases u with
  | ctx m j => exact thread_modTile_of_ctx (s := s) (f := fun x => { x with tlb := tlbPut 64 x.tlb e }) (fun _ _ => rfl) m
  | core j => exact thread_modCore_of_x (f := fun x => { x with tlb := tlbPut 64 x.tlb e }) (fun _ => rfl) j

theorem dies_install (s : State) (u : UnitId) (e : TlbE) : (s.install u e).dies = s.dies := by cases u <;> rfl

theorem dies_walkFailed (s : State) (u : UnitId) (va : Nat) (a : Acc) (c : Cause) : (s.walkFailed u va a c).dies = s.dies := by
  unfold State.walkFailed
  split
  · exact modThread_dies ..
  · rfl

theorem tlbOf_walkFailed (s : State) (u : UnitId) (va : Nat) (a : Acc) (c : Cause) : (s.walkFailed u va a c).tlbOf u = s.tlbOf u := by
  unfold State.walkFailed
  split
  · exact tlbOf_modThread ..
  · rfl

theorem walkFault_walkFailed (s : State) (u : UnitId) (va : Nat) (a : Acc) (c : Cause) : ((s.walkFailed u va a c).thread u).walkFault =
    if (s.thread u).wants va a then some (va, c) else (s.thread u).walkFault := by
  unfold State.walkFailed
  split
  · rw [thread_modThread]
  · rfl

theorem walked_of_allowed (h : e.allows (s.isKernel u) a = true) :
    s.walked w (.ok e) u a = (s.modThread u (fun x => { x with walkFault := none })).install u e := if_pos h

/-- A walk that fails, and one whose entry does not allow the access, is recorded with its thread (R148). -/
theorem walked_of_failed {r : Except Cause TlbE} (h : r = .error c ∨ (∃ e, r = .ok e ∧ e.allows (s.isKernel u) a = false ∧ c = a.denied)) :
    s.walked w r u a = s.walkFailed u w.va a c := by
  rcases h with rfl | ⟨e, rfl, hno, rfl⟩
  · rfl
  · exact if_neg (by rw [hno]; exact Bool.noConfusion)

/-- Why a walk fails, where it does. -/
def walkFailure (w : Walk) (s : State) : Option Cause := match s.walkEnd w with | .error c => some c | .ok _ => none

/-- The walk is taken from its unit; the uncorrectable line that it met is recorded (R31, R149). -/
def State.walkTaken (s : State) (d n : Nat) (w : Walk) : State :=
  (s.metIn s (walkFailure w)).modDie d (fun d => { d with walks := d.walks.eraseIdx n })

theorem tiles_walkTaken : (s.walkTaken d n w).tiles = s.tiles := metIn_keeps metLine_tiles s

theorem cores_walkTaken : (s.walkTaken d n w).cores = s.cores := metIn_keeps metLine_cores s

theorem clusters_walkTaken : (s.walkTaken d n w).clusters = s.clusters := metIn_keeps metLine_clusters s

theorem walks_walkTaken : ((s.walkTaken d n w).die d).walks = (s.die d).walks.eraseIdx n := by
  have hdies := metIn_keeps (s := s) (f := walkFailure w) metLine_dies s
  rw [State.walkTaken, die_modDie, State.die, hdies]
  rfl

theorem thread_walkTaken : (s.walkTaken d n w).thread u = s.thread u := by
  cases u with
  | ctx m j => rw [State.thread, State.ctx, State.tile, tiles_walkTaken]; rfl
  | core j => rw [State.thread, State.core, cores_walkTaken]; rfl

theorem tlbOf_walkTaken : (s.walkTaken d n w).tlbOf u = s.tlbOf u := by
  refine tlbOf_congr (fun m => ?_) (fun m => ?_) (fun m => ?_) u
  · rw [State.tile, tiles_walkTaken]; rfl
  · rw [State.cluster, clusters_walkTaken]; rfl
  · rw [State.core, cores_walkTaken]; rfl

theorem isKernel_walkTaken : (s.walkTaken d n w).isKernel u = s.isKernel u := by
  cases u with
  | ctx m j => rfl
  | core j => rw [State.isKernel, State.core, cores_walkTaken]; rfl

theorem exec_pageWalkComplete (hw : (s.die d).walks[n]? = some w) : exec (.pageWalkComplete d n) s =
    .next ((w.waiting.filter (fun u => decide ((s.metIn s (walkFailure w)).unitTenant u.1 = w.tenant))).foldl
      (fun (q : State) (u : UnitId × Acc) => q.walked w (s.walkEnd w) u.1 u.2) (s.walkTaken d n w)) := by
  change execPageWalkComplete d n s = _
  unfold execPageWalkComplete
  rw [hw]
  rfl

/-- A walk that one unit of its tenant waits for ends for that unit. -/
theorem pageWalkComplete_of_one (hw : (s.die d).walks[n]? = some w) (hwait : w.waiting = [(u, a)]) (htenant : s.unitTenant u = w.tenant) :
    exec (.pageWalkComplete d n) s = .next ((s.walkTaken d n w).walked w (s.walkEnd w) u a) := by
  have htenant' : (s.metIn s (walkFailure w)).unitTenant u = w.tenant := by
    cases u with
    | ctx m j => rw [← htenant, State.unitTenant, State.tile, metIn_keeps metLine_tiles]; rfl
    | core j => rw [← htenant, State.unitTenant, State.core, metIn_keeps metLine_cores]; rfl
  rw [exec_pageWalkComplete hw, hwait]
  dsimp only [List.filter]
  rw [decide_eq_true htenant']
  rfl

end

end Sys2Proof.Machine

open Sys2Proof Sys2Proof.Machine in
/-- Settles O46: a disposition is one of four branches of CTXDISP; a page walk that one unit waits for ends in its entry or in its failure. -/
theorem contextEvents : Obligations.ContextEvents := by
  unfold Obligations.ContextEvents
  intro s
  refine ⟨fun n c cause hc hcut hstop hdisp => ?later, fun n c cause hc hcut hno => ?ignored, fun n c hc hcut hstop hend => ?resume,
    fun n c cause k hc hcut hstop htask hg => ?fails, fun n c cause k hc hcut hstop htask hg => ?ends, fun k hcount hnew => ?compare,
    fun k c rest hirq hrun hbranch hopen hstall henq => interruptTaken_of_ready hirq hrun hbranch hopen hstall henq, fun k data => ?socket,
    fun d n w u a e hw hwait htenant _ hend hallows => ?walked, fun d n w u a r c hw hwait htenant _ hr hfail => ?failed⟩
  case later =>
    obtain ⟨hop, hctx⟩ := fld_resume hc
    obtain ⟨hop', hctx', -⟩ := fld_abandon hc cause
    exact ⟨congrArg Host.Outcome.next ((ctxdispWrite_of_cut hcut (.inl hop) hctx).trans (if_pos ⟨hstop, hdisp⟩)),
      congrArg Host.Outcome.next ((ctxdispWrite_of_cut hcut (.inr hop') hctx').trans (if_pos ⟨hstop, hdisp⟩))⟩
  case ignored =>
    obtain ⟨hop, hctx⟩ := fld_resume hc
    obtain ⟨hop', hctx', -⟩ := fld_abandon hc cause
    have hnot : ¬((s.ctx n c).stop.stopped = true ∧ (s.ctx n c).disp = none) := fun h =>
      hno.elim (fun hs => Bool.noConfusion (hs.symm.trans h.1)) fun hd => hd h.2
    exact ⟨congrArg Host.Outcome.next ((ctxdispWrite_of_cut hcut (.inl hop) hctx).trans (if_neg hnot)),
      congrArg Host.Outcome.next ((ctxdispWrite_of_cut hcut (.inr hop') hctx').trans (if_neg hnot))⟩
  case resume =>
    obtain ⟨hop, hctx⟩ := fld_resume hc
    have hrun := (ctxdispWrite_of_uncut (v := BitVec.ofNat 64 (1 + 4 * c)) hcut).trans (dispose_of_resume hop hctx)
    refine ⟨_, congrArg Host.Outcome.next hrun, ?_⟩
    rw [ctx_resumeCtx hstop hend]
    exact ⟨stopped_reloaded .., pc_reloadPart .., reloadPart_task .., lc0_reloadPart .., fun i hi h0 => reloadPart_rg _ h0 hi⟩
  case fails =>
    obtain ⟨hop, hctx, hcause⟩ := fld_abandon hc cause
    exact congrArg Host.Outcome.next ((ctxdispWrite_of_uncut hcut).trans ((dispose_of_abandon hop hctx hcause).trans
      ((abandonCtx_of_stopped hstop htask).trans (if_neg hg))))
  case ends =>
    obtain ⟨hop, hctx, hcause⟩ := fld_abandon hc cause
    have hrun := (ctxdispWrite_of_uncut (v := BitVec.ofNat 64 (2 + 4 * c + 256 * cause.toNat)) hcut).trans ((dispose_of_abandon hop hctx hcause).trans
      ((abandonCtx_of_stopped hstop htask).trans (if_pos hg)))
    refine ⟨(s.unstopped n c).modCtx n c Ctx.endsTask, _, congrArg Host.Outcome.next hrun, rfl, ?_⟩
    rw [ctx_modCtx, State.unstopped, ctx_modCtx]
    exact ⟨rfl, rfl, rfl, rfl, htask⟩
  case compare =>
    refine ⟨_, ccCompare_of_reached hcount hnew, ?_⟩
    rw [core_modCore]
    exact ⟨mem_irq_core_interrupt_same _ _, rfl, interrupt_x _ _⟩
  case socket =>
    refine ⟨_, rfl, rfl, mem_irq_interrupt _ _ _, ?_⟩
    exact (congrArg Core.x (core_modCore _ k _)).trans (interrupt_x _ _)
  case walked =>
    have hrun := pageWalkComplete_of_one hw hwait htenant
    have hallows' : e.allows ((s.walkTaken d n w).isKernel u) a = true := by rw [isKernel_walkTaken]; exact hallows
    rw [hend, walked_of_allowed hallows'] at hrun
    refine ⟨_, hrun, ?_, mem_tlbOf_install .., ?_⟩
    · rw [State.die, dies_install, modThread_dies]
      exact walks_walkTaken
    · rw [thread_install, thread_modThread]
  case failed =>
    have hfail' : r = .error c ∨ (∃ e, r = .ok e ∧ e.allows ((s.walkTaken d n w).isKernel u) a = false ∧ c = a.denied) := by
      rw [isKernel_walkTaken]
      exact hfail
    have hrun := pageWalkComplete_of_one hw hwait htenant
    rw [← hr, walked_of_failed hfail'] at hrun
    refine ⟨_, hrun, ?_, ?_, ?_⟩
    · rw [State.die, dies_walkFailed]
      exact walks_walkTaken
    · rw [tlbOf_walkFailed, tlbOf_walkTaken]
    · rw [walkFault_walkFailed, thread_walkTaken]

namespace Sys2Proof.Machine

/-! ## RoCEv2 accesses and memory links (R23-R33, R65, R507) -/

section

variable {s : State} {port len perm : Nat} {rkey : BitVec 32} {va : W64} {data : List Byte} {w : Window} {c : Cause}

/-! ### Ethernet -/

/-- The port after a change of it. -/
theorem eth_modEth (s : State) (n : Nat) (f : EthPort → EthPort) : (s.modEth n f).eth n = f (s.eth n) := mget_mput_same _ _ _ _

theorem windowFor_some (h : s.windowFor port rkey va len perm = some w) : w.valid = true ∧ w.rkey = rkey ∧ w.perm.getLsbD perm = true ∧
    (s.tenant w.tenant).valid = true ∧ w.vbase.toNat ≤ va.toNat ∧ va.toNat + len ≤ w.vbase.toNat + w.length.toNat := by
  obtain ⟨e, hfind, rfl⟩ := Option.map_eq_some_iff.mp h
  have hall := List.find?_some hfind
  simp only [Bool.and_eq_true, decide_eq_true_eq] at hall
  obtain ⟨⟨⟨⟨⟨hvalid, hkey⟩, hperm⟩, htenant⟩, hbase⟩, hend⟩ := hall
  exact ⟨hvalid, hkey, hperm, htenant, hbase, hend⟩

theorem roceIn_of_bringup {act : State → State} (hd : s.dstate = .bringup) :
    s.roceIn port act = s.modEth port (fun e => { e with discards := e.discards + 1 }) := if_pos hd

theorem roceIn_of_ready {act : State → State} (hd : s.dstate ≠ .bringup) : s.roceIn port act = act s := if_neg hd

theorem refusals_roceNak (s : State) (port : Nat) : ((s.roceNak port).eth port).refusals = (s.eth port).refusals + 1 :=
  congrArg EthPort.refusals (eth_modEth s port fun e => { e with refusals := e.refusals + 1 })

theorem mem_roceNak (s : State) (port : Nat) : (s.roceNak port).mem = s.mem := rfl

theorem roceWrite_of_none (hd : s.dstate ≠ .bringup) (hw : s.windowFor port rkey va data.length 1 = none) :
    exec (.roceWrite port rkey va data) s = .next (s.roceNak port) := by
  refine congrArg Host.Outcome.next ((roceIn_of_ready hd).trans ?_)
  rw [hw]

theorem roceRead_of_none (hd : s.dstate ≠ .bringup) (hw : s.windowFor port rkey va len 0 = none) :
    exec (.roceRead port rkey va len) s = .next (s.roceNak port) := by
  refine congrArg Host.Outcome.next ((roceIn_of_ready hd).trans ?_)
  rw [hw]

theorem roceWrite_of_admitted (hd : s.dstate ≠ .bringup) (hw : s.windowFor port rkey va data.length 1 = some w)
    (hok : s.roceFails w.tenant va.toNat data.length true = none) :
    exec (.roceWrite port rkey va data) s = .next ((s.vaWriteLong .walk w.tenant va.toNat data).1.roceAnswer port []) := by
  refine congrArg Host.Outcome.next ((roceIn_of_ready hd).trans ?_)
  rw [hw]
  dsimp only
  rw [hok]

theorem roceRead_of_admitted {l : List Byte} (hd : s.dstate ≠ .bringup) (hw : s.windowFor port rkey va len 0 = some w)
    (hok : s.roceFails w.tenant va.toNat len false = none) (hl : s.vaReadLong .walk w.tenant va.toNat len = .ok l) :
    exec (.roceRead port rkey va len) s = .next (s.roceAnswer port l) := by
  refine congrArg Host.Outcome.next ((roceIn_of_ready hd).trans ?_)
  rw [hw]
  dsimp only
  rw [hok]
  dsimp only
  rw [hl]

theorem roceWrite_of_refused (hd : s.dstate ≠ .bringup) (hw : s.windowFor port rkey va data.length 1 = some w)
    (hfail : s.roceFails w.tenant va.toNat data.length true = some c) :
    exec (.roceWrite port rkey va data) s = .next (s.roceRefuse port w.tenant va.toNat data.length true c) := by
  refine congrArg Host.Outcome.next ((roceIn_of_ready hd).trans ?_)
  rw [hw]
  dsimp only
  rw [hfail]

/-- A refused access is counted (R25). -/
theorem refusals_roceRefuse (s : State) (port tn va len : Nat) (write : Bool) (c : Cause) :
    ((s.roceRefuse port tn va len write c).eth port).refusals = (s.eth port).refusals + 1 := by
  have heths : (s.roceRefuse port tn va len write c).eths = (s.roceNak port).eths := by
    unfold State.roceRefuse
    dsimp only
    split
    · rw [event_eths, metIn_keeps metLine_eths]
    · rw [metIn_keeps metLine_eths]
  rw [State.eth, heths]
  exact refusals_roceNak s port

/-- One that is refused for another reason than a page that is not present or a line that has failed leaves memory as it was. -/
theorem mem_roceRefuse {tn va' : Nat} {write : Bool} (hfail : s.roceFails tn va' len write = some c) (hpage : c ≠ 0x22#7) (hline : c ≠ 0x77#7) :
    (s.roceRefuse port tn va' len write c).mem = s.mem := by
  have hmet : (s.roceNak port).metIn s (fun s => s.roceFails tn va' len write) = s.roceNak port :=
    if_neg fun h => hline (Option.some.inj (hfail.symm.trans h.1))
  unfold State.roceRefuse
  dsimp only
  rw [if_neg hpage, hmet, mem_roceNak]

end

/-! ### Flits -/

section

variable {s : State} {n kind : Nat} {chip : Bool} {f : BitVec 512} {e : LinkEnd} {act : LinkEnd → LinkEnd}

theorem at_modAt (x : MemLink) (chip : Bool) (g : LinkEnd → LinkEnd) : (x.modAt chip g).at chip = g (x.at chip) := by cases chip <;> rfl

theorem at_modAt_other (x : MemLink) (chip : Bool) (g : LinkEnd → LinkEnd) : (x.modAt chip g).at (!chip) = x.at (!chip) := by cases chip <;> rfl

theorem at_modAt_not (x : MemLink) (chip : Bool) (g : LinkEnd → LinkEnd) : (x.modAt (!chip) g).at chip = x.at chip := by cases chip <;> rfl

theorem counted_modAt (x : MemLink) (chip : Bool) (g : LinkEnd → LinkEnd) : (x.modAt chip g).counted = x.counted := by cases chip <;> rfl

theorem at_naked (x : MemLink) (chip b : Bool) : (x.naked chip).at b = x.at b := by cases b <;> rfl

/-- The two ends of a link after a flit: the one that had put it out and the one that takes it. -/
def MemLink.passed (x : MemLink) (chip : Bool) (e : LinkEnd) (act : LinkEnd → LinkEnd) : MemLink := (x.modAt (!chip) (fun _ => e)).modAt chip act

theorem at_passed (x : MemLink) (chip : Bool) (e : LinkEnd) (act : LinkEnd → LinkEnd) : (x.passed chip e act).at chip = act (x.at chip) := by
  rw [MemLink.passed, at_modAt, at_modAt_not]

theorem at_passed_other (x : MemLink) (chip : Bool) (e : LinkEnd) (act : LinkEnd → LinkEnd) : (x.passed chip e act).at (!chip) = e := by
  rw [MemLink.passed, at_modAt_other, at_modAt]

theorem counted_passed (x : MemLink) (chip : Bool) (e : LinkEnd) (act : LinkEnd → LinkEnd) : (x.passed chip e act).counted = x.counted := by
  rw [MemLink.passed, counted_modAt, counted_modAt]

theorem flitIn_of_live (hlive : (s.link n).live = true) (hsend : ((s.link n).at (!chip)).sends kind f = some e) :
    s.flitIn n chip kind f act = s.modLink n (fun x => x.passed chip e act) := by
  unfold State.flitIn
  dsimp only
  rw [hlive, hsend]
  rfl

/-- A flit that the other end has put out changes the link: it is no longer on its way. -/
theorem sends_ne {y : LinkEnd} (hk : 2 ≤ kind ∧ kind ≠ 4) (h : y.sends kind f = some e) : e ≠ y := by
  rintro rfl
  unfold LinkEnd.sends at h
  split at h
  next g l hwire =>
    split at h
    · have hlen := congrArg (fun e => e.wire.length) (Option.some.inj h)
      simp only [hwire, List.length_cons] at hlen
      omega
    · exact absurd h.symm (Option.some_ne_none e)
  next =>
    rw [if_neg (by omega)] at h
    exact absurd h.symm (Option.some_ne_none e)

/-! ### What one end does with a flit -/

/-- BODY bytes that are taken in change no number and no flit of the end. -/
theorem gather_keeps (e : LinkEnd) (f : BitVec 512) : (e.gather f).rxSeq = e.rxSeq ∧ (e.gather f).wire = e.wire := by
  unfold LinkEnd.gather
  dsimp only
  split <;> exact ⟨rfl, rfl⟩

/-- A good flit in its turn is taken and acknowledged (R29). -/
theorem receive_of_next (hgood : flitGood f = true) (hseq : flitSeq f = e.rxSeq) :
    (e.receive f).rxSeq = e.rxSeq + 1 ∧ (e.receive f).wire = e.wire ++ [linkFlit 2 (flitSeq f) []] := by
  have hkeeps : (if flitKind f ≤ 1 then e.gather f else e).rxSeq = e.rxSeq ∧ (if flitKind f ≤ 1 then e.gather f else e).wire = e.wire := by
    split
    · exact gather_keeps e f
    · exact ⟨rfl, rfl⟩
  have htake : (flitGood f && decide (flitSeq f = e.rxSeq)) = true := by rw [hgood, decide_eq_true hseq]; rfl
  unfold LinkEnd.receive
  rw [if_pos htake]
  exact ⟨congrArg (· + 1) hkeeps.1, congrArg (· ++ _) hkeeps.2⟩

/-- A damaged flit, and one out of turn, is answered with a NAK of the expected SEQ (R29). -/
theorem receive_of_bad (h : flitGood f = false ∨ flitSeq f ≠ e.rxSeq) : e.receive f = e.refuse := by
  have hno : (flitGood f && decide (flitSeq f = e.rxSeq)) = false := by
    rcases h with h | h
    · rw [h, Bool.false_and]
    · rw [decide_eq_false h, Bool.and_false]
  unfold LinkEnd.receive
  rw [hno]
  exact if_neg Bool.noConfusion

/-- An acknowledgement frees the retry buffer through its SEQ, and a row of NAKs is over (R29). -/
theorem release_of_split {m : BitVec 12} {a b : List (BitVec 12 × BitVec 512)} {g : BitVec 12 × BitVec 512} (hretry : e.retry = a ++ g :: b)
    (hg : g.1 = m) (ha : ∀ r, r ∈ a → r.1 ≠ m) : (e.release m).retry = b ∧ (e.release m).naks = 0 := by
  have hany : e.retry.any (fun x => decide (x.1 = m)) = true := by
    rw [hretry, List.any_append, List.any_cons, decide_eq_true hg, Bool.true_or, Bool.or_true]
  have hthrough : (e.through m).length = a.length + 1 := by
    have hkeep : ∀ x ∈ a, decide (x.1 ≠ m) = true := fun x hx => decide_eq_true (ha x hx)
    rw [LinkEnd.through, if_pos hany, hretry, List.takeWhile_append_of_pos hkeep, List.dropWhile_append_of_pos hkeep,
      List.takeWhile_cons_of_neg (by simp [hg]), List.dropWhile_cons_of_neg (by simp [hg])]
    simp
  unfold LinkEnd.release
  dsimp only
  rw [hthrough, hretry, if_neg (Nat.succ_ne_zero _)]
  refine ⟨?_, rfl⟩
  rw [List.append_cons, List.drop_left' (by simp)]

/-- A NAK is counted with those in a row for its SEQ, and its sender replays from there (R29). -/
theorem nak_eq (e : LinkEnd) (m : BitVec 12) : (e.nak m).naks = (if e.nakSeq = m then e.naks + 1 else 1) ∧ (e.nak m).nakSeq = m ∧
    (e.nak m).wire = e.wire ++ (e.retry.dropWhile (fun r => decide (r.1 ≠ m))).map Prod.snd ∧ (e.nak m).retry = e.retry := ⟨rfl, rfl, rfl, rfl⟩

/-- A flit with a bad CRC is discarded with a NAK (R29). -/
theorem refuse_eq (e : LinkEnd) : e.refuse.rxSeq = e.rxSeq ∧ e.refuse.wire = e.wire ++ [linkFlit 3 e.rxSeq []] ∧ e.refuse.retry = e.retry := ⟨rfl, rfl, rfl⟩

/-- A good NAK comes to one end of a link. -/
theorem memlinkNak_of_good (hlive : (s.link n).live = true) (hsend : ((s.link n).at (!chip)).sends 3 f = some e) (hgood : flitGood f = true) :
    exec (.memlinkNak n chip f) s =
      .next ((s.modLink n (fun x => x.passed chip e (fun e => e.nak (flitSeq f)))).modLink n (fun x => x.naked chip)) := by
  have hne : (s.modLink n (fun x => x.passed chip e (fun e => e.nak (flitSeq f)))).link n ≠ s.link n := by
    intro h
    rw [link_modLink] at h
    exact sends_ne (by decide) hsend ((at_passed_other _ chip e _).symm.trans (congrArg (fun x => x.at (!chip)) h))
  change execMemlinkNak n chip f s = _
  unfold execMemlinkNak
  rw [hgood, flitIn_of_live hlive hsend]
  dsimp only
  rw [if_pos rfl, if_neg hne]

/-! ### Retraining and scrubbing -/

theorem memlinkRetrain_of_retrain (hr : (s.link n).retrain = true) (hf : (s.link n).failed = false) : exec (.memlinkRetrain n true) s =
    .next ((s.modLink n (fun x => { x with retrain := false, host := x.host.retrained, chip := x.chip.retrained })).klog 6 0x7A#7 0 n 0 0 0) :=
  congrArg Host.Outcome.next (if_neg (by rw [hr, hf]; decide))

theorem memlinkRetrainTimeout_of_retrain (hr : (s.link n).retrain = true) (hf : (s.link n).failed = false) : exec (.memlinkRetrainTimeout n) s =
    .next ((s.modLink n (fun x => { x with failed := true, retrain := false })).linkDown (.link n) n) :=
  congrArg Host.Outcome.next (if_neg (by rw [hr, hf]; decide))

theorem link_klog (s : State) (kind : Nat) (c : Cause) (info unit tmask lo hi n : Nat) : (s.klog kind c info unit tmask lo hi).link n = s.link n := by
  rw [State.link, klog_links]
  rfl

/-- A unit that fails is so in its entry, with LINK_DOWN as its cause (R29, R69). -/
theorem unit_linkDown (s : State) (u : UnitName) (n : Nat) :
    (s.linkDown u n).unit u = { s.unit u with health := .failed, last := some 0x75#7 } := by
  rw [State.linkDown, unit_klog, State.newHealth, State.unit, cutQuarantined_health]
  exact (unit_klog _ _ _ _ _ _ _ _ u).trans (unit_modUnit s u _)

theorem link_linkDown (s : State) (u : UnitName) (n m : Nat) : (s.linkDown u n).link m = s.link m := by
  rw [State.linkDown, link_klog, State.newHealth, State.link, cutQuarantined_links]
  exact link_klog _ _ _ _ _ _ _ _ m

/-- A write of less than a line writes no line whole. -/
theorem linesWhole_of_short {pa k : Nat} (h : k < 64) : linesWhole pa k = [] := by
  have hnone : (pa + k) / 64 - (pa + 63) / 64 = 0 := by omega
  unfold linesWhole
  dsimp only
  rw [hnone]
  rfl

theorem mem_poison_memWrite {pa x : Nat} {l : List Byte} (hl : l.length < 64) (h : x ∈ s.poison) : x ∈ (s.memWrite pa l).poison := by
  have hshort : linesWhole pa (min l.length (s.capacity - pa)) = [] := linesWhole_of_short (Nat.lt_of_le_of_lt (Nat.min_le_left _ _) hl)
  unfold State.memWrite
  dsimp only
  split
  · exact h
  · rw [State.poisonLeft, hshort]
    exact List.mem_filter.mpr ⟨h, by simp⟩

/-- A record of the kernel log removes no poison. -/
theorem mem_poison_klog {x : Nat} (kind : Nat) (c : Cause) (info unit tmask lo hi : Nat) (h : x ∈ s.poison) :
    x ∈ (s.klog kind c info unit tmask lo hi).poison := by
  unfold State.klog
  dsimp only
  split
  · exact h
  · exact mem_poison_memWrite (by simp [length_toBytes]) h

/-- What a scrub of a live link in the interleave does: which of the three is free (R30). -/
theorem dramScrub_of_live (hlive : (s.link n).live = true) (hmap : s.kregs.memmap.getLsbD n = true) : exec (.dramScrub n) s = .next
    (if (s.choose 3).1 = 0 then (s.choose 3).2 else if (s.choose 3).1 = 1 then (s.choose 3).2.corrected (.link n) n 0x79#7 0 else (s.choose 3).2.lineLost n) :=
  congrArg Host.Outcome.next (if_neg (by rw [hlive, hmap]; decide))

theorem dramScrub_of_idle (h : (s.link n).live = false ∨ s.kregs.memmap.getLsbD n = false) : exec (.dramScrub n) s = .next s := by
  refine congrArg Host.Outcome.next (if_pos ?_)
  rcases h with h | h <;> simp [h]

/-- A line that is lost lies in the link's module; no other line changes (R30). -/
theorem lineLost_eq (s : State) (n : Nat) : (s.lineLost n).mem = s.mem ∧ (∀ l, l ∈ s.poison → l ∈ (s.lineLost n).poison) ∧
    ∀ l, l ∈ (s.lineLost n).poison → l ∈ s.poison ∨ s.linkOf (64 * l) = n := by
  unfold State.lineLost
  dsimp only
  split
  next h =>
    refine ⟨rfl, fun l hl => List.mem_cons_of_mem _ hl, fun l hl => ?_⟩
    rcases List.mem_cons.mp hl with rfl | hl
    · exact .inr h.1
    · exact .inl hl
  next => exact ⟨rfl, fun l hl => hl, fun l hl => .inl hl⟩

end

end Sys2Proof.Machine

open Sys2Proof Sys2Proof.Machine in
/-- Settles O47: a flit changes the end that takes it and is no longer at the end that put it out; an access is refused, or done whole. -/
theorem ethernetAndMemoryLinkEvents : Obligations.EthernetAndMemoryLinkEvents := by
  unfold Obligations.EthernetAndMemoryLinkEvents
  refine ⟨fun s => ⟨fun port d hd => ?discard, fun port rkey va data len i hi hd => ?bringup, fun port rkey va data hd hw => ?writeNone,
    fun port rkey va len hd hw => ?readNone, fun port rkey va data w hd hw hok => roceWrite_of_admitted hd hw hok,
    fun port rkey va len w l hd hw hok hl => roceRead_of_admitted hd hw hok hl, fun port rkey va data w c hd hw hfail => ?refused,
    fun port rkey va len perm w hw => windowFor_some hw⟩, ?flits, fun s n chip => ⟨fun hr hf => ?retrain, fun hr hf => ?timeout, ?scrub,
    fun h => dramScrub_of_idle h⟩⟩
  case discard =>
    have hnot : ¬(d = .managementInBringup ∧ s.dstate ≠ .bringup) := fun h => hd.elim (fun hne => hne h.1) fun hb => h.2 hb
    exact ⟨_, congrArg Host.Outcome.next (if_neg hnot), congrArg EthPort.discards (eth_modEth ..), rfl⟩
  case bringup =>
    have hin : exec i s = .next (s.modEth port (fun e => { e with discards := e.discards + 1 })) := by
      rcases hi with rfl | rfl
      · exact congrArg Host.Outcome.next (roceIn_of_bringup hd)
      · exact congrArg Host.Outcome.next (roceIn_of_bringup hd)
    exact ⟨_, hin, congrArg EthPort.discards (eth_modEth ..), rfl⟩
  case writeNone => exact ⟨_, roceWrite_of_none hd hw, refusals_roceNak s port, mem_roceNak s port⟩
  case readNone => exact ⟨_, roceRead_of_none hd hw, refusals_roceNak s port, mem_roceNak s port⟩
  case refused => exact ⟨_, roceWrite_of_refused hd hw hfail, refusals_roceRefuse .., fun hpage hline => mem_roceRefuse hfail hpage hline⟩
  case flits =>
    rintro s n chip f x y e rfl rfl
    have hrest : ∀ (g : MemLink → MemLink) m, m ≠ n → (s.modLink n g).link m = s.link m := fun g m hm => link_modLink_ne _ _ _ _ hm.symm
    refine ⟨fun i k hi hlive hsend => ?taken, fun a g b hlive hsend hgood hretry hg ha => ?acked, fun hlive hsend hgood => ?naked, fun hlive hsend hbad => ?bad⟩
    case taken =>
      have hrun : exec i s = .next (s.modLink n (fun x => x.passed chip e (fun e => e.receive f))) := by
        rcases hi with ⟨rfl, rfl⟩ | ⟨rfl, rfl⟩ | ⟨rfl, rfl⟩
        · exact congrArg Host.Outcome.next (flitIn_of_live hlive hsend)
        · exact congrArg Host.Outcome.next (flitIn_of_live hlive hsend)
        · exact congrArg Host.Outcome.next (flitIn_of_live hlive hsend)
      refine ⟨fun hgood hseq => ⟨_, hrun, ?_⟩, fun hbad => ⟨_, hrun, ?_⟩⟩
      · rw [link_modLink, at_passed, at_passed_other]
        obtain ⟨hrx, hwire⟩ := receive_of_next hgood hseq
        exact ⟨hrx, hwire, rfl, hrest _⟩
      · rw [link_modLink, at_passed, at_passed_other, receive_of_bad hbad]
        exact ⟨rfl, rfl, rfl, hrest _⟩
    case acked =>
      have hact : (fun e : LinkEnd => if flitGood f then e.release (flitSeq f) else e.refuse) = fun e => e.release (flitSeq f) := by rw [hgood]; rfl
      have hrun : exec (.memlinkAck n chip f) s = .next (s.modLink n (fun x => x.passed chip e (fun e => e.release (flitSeq f)))) := by
        rw [← hact]
        exact congrArg Host.Outcome.next (flitIn_of_live hlive hsend)
      refine ⟨_, hrun, ?_⟩
      rw [link_modLink, at_passed, at_passed_other]
      obtain ⟨hleft, hnaks⟩ := release_of_split hretry hg ha
      exact ⟨hleft, hnaks, rfl⟩
    case naked =>
      refine ⟨_, memlinkNak_of_good hlive hsend hgood, ?_⟩
      rw [link_modLink, link_modLink, at_naked, at_passed]
      obtain ⟨hnaks, hseq, hwire, hretry⟩ := nak_eq ((s.link n).at chip) (flitSeq f)
      refine ⟨hnaks, hseq, hwire, hretry, ?_, ?_⟩
      · exact congrArg (· + 1) (counted_passed ..)
      · exact congrArg (fun e : LinkEnd => decide (8 ≤ e.naks)) (at_passed ..)
    case bad =>
      have hact : (fun e : LinkEnd => if flitGood f then e.release (flitSeq f) else e.refuse) = LinkEnd.refuse := by rw [hbad]; rfl
      have hack : ((s.link n).at (!chip)).sends 2 f = some e → exec (.memlinkAck n chip f) s = .next (s.modLink n (fun x => x.passed chip e LinkEnd.refuse)) := by
        intro h
        rw [← hact]
        exact congrArg Host.Outcome.next (flitIn_of_live hlive h)
      have hnak : ((s.link n).at (!chip)).sends 3 f = some e → exec (.memlinkNak n chip f) s = .next (s.modLink n (fun x => x.passed chip e LinkEnd.refuse)) :=
        fun h => congrArg Host.Outcome.next ((if_neg (by rw [hbad]; exact Bool.noConfusion)).trans (flitIn_of_live hlive h))
      refine ⟨_, hack, hnak, ?_⟩
      rw [link_modLink, at_passed]
      exact ⟨rfl, rfl⟩
  case retrain =>
    refine ⟨_, memlinkRetrain_of_retrain hr hf, ?_⟩
    rw [link_klog, link_modLink]
    exact ⟨rfl, by cases chip <;> rfl, hf⟩
  case timeout =>
    refine ⟨_, memlinkRetrainTimeout_of_retrain hr hf, ?_⟩
    rw [link_linkDown, link_modLink, unit_linkDown]
    exact ⟨rfl, rfl, rfl, rfl⟩
  case scrub =>
    rintro c rfl hlive hmap
    have hscrub := dramScrub_of_live hlive hmap
    refine ⟨fun h0 => ?none, fun h1 => ?corrected, fun h2 => ?lost⟩
    case none => rw [hscrub, if_pos h0]
    case corrected =>
      rw [if_neg (by rw [h1]; decide), if_pos h1] at hscrub
      have hunit : ((s.choose 3).2.corrected (.link n) n 0x79#7 0).unit (.link n) =
          { s.unit (.link n) with count := (s.unit (.link n)).count + 1, last := some 0x79#7 } := by
        rw [State.corrected, unit_klog, unit_modUnit]
        rfl
      exact ⟨_, hscrub, congrArg UnitEntry.count hunit, congrArg UnitEntry.last hunit, fun l hl => mem_poison_klog _ _ _ _ _ _ _ hl⟩
    case lost =>
      rw [if_neg (by rw [h2]; decide), if_neg (by rw [h2]; decide)] at hscrub
      exact ⟨_, hscrub, lineLost_eq (s.choose 3).2 n⟩

namespace Sys2Proof.Machine

/-! ## Merge, stall cycles, code fetch and landing (R90-R92, R117, R120, R311) -/

section

variable {s q : State} {n c d k m : Nat} {u : UnitId}

/-! ### The power cap (R12) -/

/-- A cycle that is not idle leaves all but the free choices. -/
theorem capIdle_false (h : s.capIdle d = (false, q)) : q = { s with fresh := q.fresh } := by
  unfold State.capIdle at h
  dsimp only at h
  split at h
  · rw [← (Prod.mk.inj h).2]
  split at h
  · rw [← (Prod.mk.inj h).2]
    rfl
  · exact absurd (Prod.mk.inj h).1 (by decide)

theorem capIdle_true (h : (s.capIdle d).1 = true) : (s.capIdle d).2 = (s.choose 2).2.loseCycle d := by
  unfold State.capIdle at h ⊢
  dsimp only at h ⊢
  split at h
  · exact Bool.noConfusion h
  split at h
  · exact Bool.noConfusion h
  next hcap hfree => rw [if_neg hcap, if_neg hfree]

/-- An idle cycle counts once for its die. -/
theorem lostCyc_loseCycle (s : State) (d : Nat) : (s.loseCycle d).tiles = s.tiles ∧ (s.loseCycle d).toIssue = s.toIssue ∧
    mget 0 (s.loseCycle d).lostCyc d = mget 0 s.lostCyc d + (if mget 0 s.lostAt d = s.cycle + 1 then 0 else 1) := by
  unfold State.loseCycle
  split
  · exact ⟨rfl, rfl, (BitVec.add_zero _).symm⟩
  · exact ⟨rfl, rfl, mget_mput_same ..⟩

/-! ### The merge stage -/

theorem mergeCycle_of_idle (h : (s.capIdle (dieOf n)).1 = true) : s.mergeCycle n = (s.choose 2).2.loseCycle (dieOf n) :=
  (if_pos h).trans (capIdle_true h)

theorem mergeCycle_of_busy (h : s.capIdle (dieOf n) = (false, q)) : s.mergeCycle n = q.mergeIssue n := by
  unfold State.mergeCycle
  rw [h]
  rfl

/-- A context without a stall cycle left counts none. -/
theorem stalls_of_none {y : Ctx} (h : y.x.stallLeft = 0) (cutting : Bool) : y.stalls cutting = false := by
  rw [Ctx.stalls, h]
  rfl

/-- Who issues in a cycle without stall cycles (R91, R92). -/
theorem mergeIssue_of_unstalled (h : ∀ c, c < 2 → ((s.tile n).ctx c).x.stallLeft = 0) : s.mergeIssue n =
    { s.modTile n (fun x => { x with exhausts := exhaustsNext x.exhausts }) with
      cur := { Cur.init with solo := (s.tile n).order.2, lead := (s.tile n).leadCtx },
      toIssue := s.toIssue ++ (s.tile n).order.1.map (UnitId.ctx n) } := by
  have hnone : [0, 1].filter (fun c => ((s.tile n).ctx c).stalls (s.tile n).cutting) = [] := by
    rw [List.filter_cons_of_neg (by rw [stalls_of_none (h 0 (by decide))]; exact Bool.noConfusion),
      List.filter_cons_of_neg (by rw [stalls_of_none (h 1 (by decide))]; exact Bool.noConfusion), List.filter_nil]
  unfold State.mergeIssue
  dsimp only
  rw [hnone]
  rfl

theorem order_eq {x : Tile} {a b : Nat} (ha : a = x.leadCtx) (hb : b = 1 - a) :
    x.order.1 = (if 31 ≤ x.skip ∧ (x.ctx b).offers x.cutting = true then [b, a] else [a, b]).filter (fun c => (x.ctx c).offers x.cutting) ∧
      x.order.2 = decide (31 ≤ x.skip ∧ (x.ctx b).offers x.cutting = true) := by
  subst hb ha
  unfold Tile.order
  dsimp only
  split
  next h => exact ⟨rfl, (decide_eq_true h).symm⟩
  next h => exact ⟨rfl, (decide_eq_false h).symm⟩

theorem eq_with_exhausts {x y : Tile} {e : Nat} (h : x = { y with exhausts := e }) : x = { y with exhausts := x.exhausts } := by rw [h]

/-! ### Control cores -/

theorem coreCycle_of_running (hrun : (s.core k).running = true) : s.coreCycle k =
    if 0 < (s.core k).x.stallLeft then s.stallCycle (.core k)
    else if (s.core k).x.hold = .wfe ∧ (s.core k).irq = [] then s
    else { s with cur := Cur.init, toIssue := s.toIssue ++ [.core k] } := if_neg (by rw [hrun]; exact Bool.noConfusion)

/-! ### What a result does not touch -/

theorem putSr_pc_ccycle (x : Thread) (n : Nat) (v : W64) : (x.putSr n v).pc = x.pc ∧ (x.putSr n v).ccycle = x.ccycle ∧
    (x.putSr n v).stallLeft = x.stallLeft := by
  unfold Thread.putSr
  (repeat' split) <;> exact ⟨rfl, rfl, rfl⟩

theorem put_pc_ccycle (x : Thread) (e : Dest) (v m : VReg) : (x.put e v m).pc = x.pc ∧ (x.put e v m).ccycle = x.ccycle ∧
    (x.put e v m).stallLeft = x.stallLeft := by
  cases e with
  | g k | p k | lc k => unfold Thread.put; dsimp only; split <;> exact ⟨rfl, rfl, rfl⟩
  | a | am | v | sr => exact ⟨rfl, rfl, rfl⟩

/-- A landing moves neither the pc nor the cycle counts. -/
theorem pc_ccycle_land (s : State) (u : UnitId) (m : Nat) : ((s.land u m).thread u).pc = (s.thread u).pc ∧
    ((s.land u m).thread u).ccycle = (s.thread u).ccycle ∧ ((s.land u m).thread u).stallLeft = (s.thread u).stallLeft := by
  refine ⟨?_, ?_, ?_⟩
  · refine reader_land_keeps (R := Thread.pc) (fun _ _ => rfl) (fun _ _ => rfl) fun e _ y => ?_
    exact (takes_eq_put (R := Thread.pc) (fun y k v => (putSr_pc_ccycle y k v).1) y e).trans (put_pc_ccycle ..).1
  · refine reader_land_keeps (R := Thread.ccycle) (fun _ _ => rfl) (fun _ _ => rfl) fun e _ y => ?_
    exact (takes_eq_put (R := Thread.ccycle) (fun y k v => (putSr_pc_ccycle y k v).2.1) y e).trans (put_pc_ccycle ..).2.1
  · refine reader_land_keeps (R := Thread.stallLeft) (fun _ _ => rfl) (fun _ _ => rfl) fun e _ y => ?_
    exact (takes_eq_put (R := Thread.stallLeft) (fun y k v => (putSr_pc_ccycle y k v).2.2) y e).trans (put_pc_ccycle ..).2.2

theorem toIssue_landSr (s : State) (u : UnitId) (n : Nat) (v : W64) : (s.landSr u n v).toIssue = s.toIssue := by
  by_cases h : inThread n
  · rw [landSr_of_inThread h, modThread_toIssue]
  cases u with
  | ctx t c =>
    rw [landSr_of_ctx h]
    (repeat' split) <;> rfl
  | core k =>
    rw [landSr_of_core h]
    (repeat' split) <;> rfl

theorem toIssue_landOne (s : State) (u : UnitId) (p : Pend) : (s.landOne u p).toIssue = s.toIssue := by
  unfold State.landOne
  split
  · exact toIssue_landSr ..
  · exact modThread_toIssue ..

theorem toIssue_land (s : State) (u : UnitId) (m : Nat) : (s.land u m).toIssue = s.toIssue := by
  rw [State.land, modThread_toIssue, foldl_keeps (fun q p => State.landOne q u p) State.toIssue fun q p => toIssue_landOne q u p, modThread_toIssue]

/-- One stall cycle of a unit (R117). -/
theorem stallCycle_eq (s : State) (u : UnitId) : (s.stallCycle u).toIssue = s.toIssue ∧
    ((s.stallCycle u).thread u).stallLeft = (s.thread u).stallLeft - 1 ∧ ((s.stallCycle u).thread u).ccycle = (s.thread u).ccycle + 1 := by
  unfold State.stallCycle State.advance
  dsimp only
  obtain ⟨-, hccycle, hstall⟩ := pc_ccycle_land ((s.modThread u (fun x => { x with stallLeft := x.stallLeft - 1 })).modThread u
    (fun x => { x with ccycle := ((s.modThread u (fun x => { x with stallLeft := x.stallLeft - 1 })).thread u).ccycle + 1 })) u
    (((s.modThread u (fun x => { x with stallLeft := x.stallLeft - 1 })).thread u).ccycle + 1)
  rw [toIssue_land, hccycle, hstall, modThread_toIssue, modThread_toIssue, thread_modThread, thread_modThread]
  exact ⟨rfl, rfl, rfl⟩

/-! ### Code lines -/

/-- A unit of a line that has been put where it belongs (R311). -/
theorem mget_lineUnits (s : State) (p o : Nat) (x : SMap (BitVec 16)) {j : Nat} : ∀ n, j < n →
    mget 0 (s.lineUnits p o n x) (o + j) = BitVec.ofNat 16 (s.memNat (p + 2 * j) 2)
  | n + 1, hj => by
    unfold State.lineUnits
    rw [List.range_succ, List.foldl_append, List.foldl_cons, List.foldl_nil]
    by_cases hn : n = j
    · subst hn
      exact mget_mput_same ..
    · rw [mget_mput_ne _ _ _ _ _ (by omega)]
      exact mget_lineUnits s p o x n (by omega)

/-- The line of the first unit that a context lacks has come (R311, R342). -/
theorem fetchLine_of_readable {t : KDesc} {i line o p : Nat} (hk : (s.ctx n c).kernel = some t)
    (hi : i = (s.skipLacking (.ctx n c)).getD (firstMissing ((s.ctx n c).x.units.length + 1) (s.ctx n c).x.units (s.ctx n c).x.pc)) (hlen : i < t.codelen)
    (hstop : (s.ctx n c).stop.stopped = false) (hcut : (s.tile n).cutting = false) (hline : line = max ((t.code.toNat + 2 * i) / 64 * 64) t.code.toNat)
    (ho : o = (line - t.code.toNat) / 2) (hp : s.xlat (.ctx n c) (t.code.toNat + 2 * i) .fetch = .pa p)
    (hread : s.memFails (p - (t.code.toNat + 2 * i - line)) 64 false = none) : s.fetchLine n c = s.modCtx n c (fun y => { y with x := { y.x with
      units := s.lineUnits (p - (t.code.toNat + 2 * i - line)) o (min (32 - line % 64 / 2) (t.codelen - o)) y.x.units } }) := by
  subst ho hline hi
  have hgo : ¬(t.codelen ≤ (s.skipLacking (.ctx n c)).getD (firstMissing ((s.ctx n c).x.units.length + 1) (s.ctx n c).x.units (s.ctx n c).x.pc) ∨
      (s.ctx n c).stop.stopped = true ∨ (s.tile n).cutting = true) := by
    rw [hstop, hcut]
    simp only [Bool.false_eq_true, or_false]
    omega
  unfold State.fetchLine
  dsimp only
  rw [hk]
  dsimp only
  rw [if_neg hgo, hp]
  dsimp only
  rw [hread]

end

end Sys2Proof.Machine

open Sys2Proof Sys2Proof.Machine in
/-- Settles O48: each case of the merge stage, of a core's cycle and of a fetch is a branch of its definition; a landing touches registers and pending
results alone. -/
theorem issueEvents : Obligations.IssueEvents := by
  unfold Obligations.IssueEvents
  intro s
  refine ⟨fun n a b q ha hb hstall hcap => ?merge, fun d hcap => if_pos hcap, fun n d hd hidle => ?idle, fun k hrun hstall hwfe => ?core,
    fun k hrun hstall => ?stall, fun n c k i line o p hc hk hi hlen hstop hcut hline ho hp hread => ?line, fun k i hi => ?page, fun u _ => ?landing⟩
  case merge =>
    obtain ⟨f, rfl⟩ : ∃ f, q = { s with fresh := f } := ⟨_, capIdle_false hcap⟩
    obtain ⟨hlist, hsolo⟩ := order_eq ha hb
    refine ⟨_, congrArg Host.Outcome.next ((mergeCycle_of_busy hcap).trans (mergeIssue_of_unstalled hstall)), rfl, ha.symm, ?own, fun m hm => ?other, ?list,
      hsolo⟩
    case own => exact eq_with_exhausts (tile_modTile s n fun x => { x with exhausts := exhaustsNext x.exhausts })
    case other => exact tile_modTile_ne s n m (fun x => { x with exhausts := exhaustsNext x.exhausts }) hm.symm
    case list => exact congrArg (fun l => s.toIssue ++ List.map (UnitId.ctx n) l) hlist
  case idle =>
    subst hd
    obtain ⟨htiles, hissue, hlost⟩ := lostCyc_loseCycle (s.choose 2).2 (dieOf n)
    exact ⟨_, congrArg Host.Outcome.next (mergeCycle_of_idle hidle), htiles, hissue, hlost⟩
  case core =>
    have hno : ¬((s.core k).x.hold = .wfe ∧ (s.core k).irq = []) := fun h => hwfe.elim (fun hw => hw h.1) fun hq => hq h.2
    exact congrArg Host.Outcome.next ((coreCycle_of_running hrun).trans ((if_neg (by omega)).trans (if_neg hno)))
  case stall => exact ⟨_, congrArg Host.Outcome.next ((coreCycle_of_running hrun).trans (if_pos hstall)), stallCycle_eq s (.core k)⟩
  case line =>
    refine ⟨_, congrArg Host.Outcome.next (fetchLine_of_readable hk hi hlen hstop hcut hline ho hp hread), rfl, ?_, fun j hj => ?_⟩
    · rw [ctx_modCtx]
    · rw [ctx_modCtx]
      exact mget_lineUnits s _ o _ _ hj
  case page =>
    change Host.Outcome.next (s.fetchPage k) = _
    rw [State.fetchPage, hi]
  case landing =>
    obtain ⟨hpc, hccycle, -⟩ := pc_ccycle_land s u (s.thread u).ccycle
    exact ⟨_, rfl, pend_land.trans (filter_not_due _ _).symm, hpc, hccycle⟩

namespace Sys2Proof.Machine

/-! ## The array, the Nib and the builders of tables (R179-R192, R417-R441) -/

/-! ### What the end of a command leaves of its tile -/

/-- Of tile x, y has the scratchpad, the registers, the queue, the pipes and the contents of the array. -/
structure ArrayLeft (x y : Tile) : Prop where
  pad : y.pad = x.pad
  mxcfg : y.mxcfg = x.mxcfg
  nibcfg : y.nibcfg = x.nibcfg
  nibFresh : y.nibFresh = x.nibFresh
  trdefs : y.trdefs = x.trdefs
  mq : y.mq = x.mq
  nib : y.nib = x.nib
  beat : y.beat = x.beat
  front : y.front = x.front
  back : y.back = x.back
  acc : y.acc = x.acc
  rowst : y.rowst = x.rowst

theorem ArrayLeft.refl (x : Tile) : ArrayLeft x x := ⟨rfl, rfl, rfl, rfl, rfl, rfl, rfl, rfl, rfl, rfl, rfl, rfl⟩

theorem ArrayLeft.trans {x y z : Tile} (h : ArrayLeft x y) (h' : ArrayLeft y z) : ArrayLeft x z :=
  ⟨h'.pad.trans h.pad, h'.mxcfg.trans h.mxcfg, h'.nibcfg.trans h.nibcfg, h'.nibFresh.trans h.nibFresh, h'.trdefs.trans h.trdefs, h'.mq.trans h.mq,
    h'.nib.trans h.nib, h'.beat.trans h.beat, h'.front.trans h.front, h'.back.trans h.back, h'.acc.trans h.acc, h'.rowst.trans h.rowst⟩

/-- Handles, and what a pair notes of its commands, are no part of the array. -/
theorem arrayLeft_mapHandles (x : Tile) (f : HEntry → HEntry) : ArrayLeft x (x.mapHandles f) := ⟨rfl, rfl, rfl, rfl, rfl, rfl, rfl, rfl, rfl, rfl, rfl, rfl⟩

theorem arrayLeft_modInst (x : Tile) (i : Nat) (f : HEntry → HEntry) : ArrayLeft x (x.modInst i f) := arrayLeft_mapHandles x _

theorem arrayLeft_released (x : Tile) (id : Nat) : ArrayLeft x (x.released id) := ⟨rfl, rfl, rfl, rfl, rfl, rfl, rfl, rfl, rfl, rfl, rfl, rfl⟩

section

variable {s q : State} {x : Tile} {n : Nat} {m : MCmd}

theorem arrayLeft_modTile {f : Tile → Tile} (hf : ∀ x, ArrayLeft x (f x)) (s : State) (t n : Nat) : ArrayLeft (s.tile n) ((s.modTile t f).tile n) := by
  by_cases h : t = n
  · subst h
    rw [tile_modTile]
    exact hf _
  · rw [tile_modTile_ne _ _ _ _ h]
    exact .refl _

theorem arrayLeft_tell (s : State) (t id : Nat) (o : Over) (n : Nat) : ArrayLeft (s.tile n) ((s.tell t id o).tile n) := by
  unfold State.tell
  split
  · exact .refl _
  next u _ =>
    refine (arrayLeft_modTile (f := fun x => { x with leads := merase x.leads id }) (fun x => ?_) s t n).trans
      (arrayLeft_modTile (f := fun x => x.heard id o) (fun x => ?_) _ u n)
    · exact ⟨rfl, rfl, rfl, rfl, rfl, rfl, rfl, rfl, rfl, rfl, rfl, rfl⟩
    · exact ⟨rfl, rfl, rfl, rfl, rfl, rfl, rfl, rfl, rfl, rfl, rfl, rfl⟩

/-- A command that completes leaves its handles, and nothing of the array (R282). -/
theorem arrayLeft_matrixEnd (s : State) (n : Nat) (m : MCmd) : ArrayLeft (s.tile n) ((s.matrixEnd n m).tile n) := by
  unfold State.matrixEnd
  rw [tile_counted]
  exact (arrayLeft_tell s n m.seq _ n).trans (arrayLeft_modTile (fun x => arrayLeft_released x m.seq) _ n n)

theorem ends_congr {y : Tile} (h : y.follows = x.follows) (id : Nat) (e : Option Cause) : y.ends id e = x.ends id e := by
  simp only [Tile.ends, Tile.outcome, Tile.follow, h]

theorem lingers_congr {y : Tile} (h : y.follows = x.follows) (hcut : y.cutting = x.cutting) (id : Nat) : y.lingers id = x.lingers id := by
  simp only [Tile.lingers, Tile.awaits, Tile.follow, h, hcut]

/-- A command whose twin has not failed completes once its work is done (R279). -/
theorem arrayLeft_matrixDone (hends : x.ends m.seq none = none) (hfollows : (q.tile n).follows = x.follows) :
    ArrayLeft (q.tile n) ((q.matrixDone n m).tile n) := by
  unfold State.matrixDone
  rw [ends_congr hfollows, hends]
  exact arrayLeft_matrixEnd q n m

end

/-! ### The start of a command (R417, R422-R431) -/

section

variable {s : State} {n : Nat} {m : MCmd} {rest : List MCmd} {v : BitVec 16} {c : BitVec 128} {b w k : Nat}

/-- The command at the head has left the queue. -/
def State.mqPopped (s : State) (n : Nat) (rest : List MCmd) : State := s.modTile n (fun x => { x with mq := rest })

theorem tile_mqPopped (s : State) (n : Nat) (rest : List MCmd) : (s.mqPopped n rest).tile n = { s.tile n with mq := rest } := tile_modTile ..

theorem matrixCommandStart_of_waiting (hq : (s.tile n).mq = m :: rest) (h : (s.tile n).pipeWaits = true ∨ (s.tile n).nibHeld = true) :
    exec (.matrixCommandStart n) s = .next s := by
  have hno : (s.tile n).mayStart m = false := by
    rcases h with h | h
    · rw [Tile.mayStart, h, Bool.not_true, Bool.and_false, Bool.false_and]
    · rw [Tile.mayStart, h, Bool.not_true, Bool.and_false, Bool.false_and, Bool.false_and]
  change execMatrixCommandStart n s = _
  unfold execMatrixCommandStart
  rw [hq]
  dsimp only
  rw [hno]
  rfl

theorem matrixCommandStart_of_head (hq : (s.tile n).mq = m :: rest) (hmay : (s.tile n).mayStart m = true) (hcut : (s.tile n).cutting = false) :
    exec (.matrixCommandStart n) s = .next ((s.mqPopped n rest).startMatrix n m) := by
  change execMatrixCommandStart n s = _
  unfold execMatrixCommandStart
  rw [hq]
  dsimp only
  rw [hmay, hcut]
  rfl

/-- A command that has its whole effect on its tile as it starts, and completes there. -/
theorem arrayLeft_atOnce {f : Tile → Tile} (hends : (s.tile n).ends m.seq none = none) (hf : ∀ x, (f x).follows = x.follows) :
    ArrayLeft (f { s.tile n with mq := rest }) ((((s.mqPopped n rest).modTile n f).matrixDone n m).tile n) := by
  have htile : ((s.mqPopped n rest).modTile n f).tile n = f { s.tile n with mq := rest } := by rw [tile_modTile, tile_mqPopped]
  rw [← htile]
  exact arrayLeft_matrixDone hends (by rw [htile, hf])

theorem startMatrix_mcfg (hop : m.op = .mcfg v) (h1 : mxMode v ≠ 1 → v.getLsbD 3 = false ∧ v.getLsbD 4 = false) (h2 : mxMode v ≠ 2 → v.getLsbD 12 = false) :
    s.startMatrix n m = (s.modTile n (fun x => { x with mxcfg := v })).matrixDone n m := by
  have hlegal : ((decide (mxMode v ≠ 1) && (v.getLsbD 3 || v.getLsbD 4)) || (decide (mxMode v ≠ 2) && v.getLsbD 12)) = false := by
    have hfirst : (decide (mxMode v ≠ 1) && (v.getLsbD 3 || v.getLsbD 4)) = false := by
      by_cases h : mxMode v = 1
      · simp [h]
      · obtain ⟨h3, h4⟩ := h1 h
        rw [h3, h4, Bool.or_self, Bool.and_false]
    have hsecond : (decide (mxMode v ≠ 2) && v.getLsbD 12) = false := by
      by_cases h : mxMode v = 2
      · simp [h]
      · rw [h2 h, Bool.and_false]
    rw [hfirst, hsecond, Bool.or_self]
  unfold State.startMatrix
  rw [hop]
  dsimp only
  rw [hlegal]
  rfl

theorem startMatrix_nibset (hop : m.op = .nibset c) (hok : nibBad c = false) :
    s.startMatrix n m = (s.modTile n (fun x => { x with nibcfg := c, nibFresh := true })).matrixDone n m := by
  unfold State.startMatrix
  rw [hop]
  dsimp only
  rw [hok]
  rfl

theorem startMatrix_mswap (hop : m.op = .mswap) (hvalid : (s.tile n).back.valid = true) :
    s.startMatrix n m = (s.modTile n Tile.swapPlanes).matrixDone n m := by
  unfold State.startMatrix
  rw [hop]
  dsimp only
  rw [hvalid]
  rfl

theorem startMatrix_mzero (hop : m.op = .mzero b w k) (hfit : w + k ≤ 64) :
    s.startMatrix n m = (s.modTile n (fun x => x.zeroRows b w k)).matrixDone n m := by
  unfold State.startMatrix
  rw [hop]
  exact if_neg (Nat.not_lt.mpr hfit)

/-! ### Zeroed rows (R431) -/

/-- One row of MZERO. -/
def Tile.zeroRow (b : Nat) (x : Tile) (r : Nat) : Tile :=
  { x with acc := (List.range 32).foldl (fun a j => mset 0#32 a (accKey b r j) 0) x.acc, rowst := mset 0#4 x.rowst (64 * b + r) 8#4 }

theorem zeroRows_eq (x : Tile) (b w k : Nat) : x.zeroRows b w k = (upto w k).foldl (Tile.zeroRow b) x := rfl

/-- Row r is valid and its words are zero. -/
def RowZero (b r : Nat) (x : Tile) : Prop := mget 0#4 x.rowst (64 * b + r) = 8#4 ∧ ∀ j, j < 32 → mget 0#32 x.acc (accKey b r j) = 0

/-- Words written zero leave a zero word zero. -/
theorem mget_zeroed_keeps {i : Nat} (l : List Nat) (b r : Nat) (a : SMap (BitVec 32)) (h : mget 0#32 a i = 0) :
    mget 0#32 (l.foldl (fun a j => mset 0#32 a (accKey b r j) 0) a) i = 0 := by
  refine foldl_inv _ (fun a => mget 0#32 a i = 0) (fun a j h => ?_) l a h
  by_cases hj : accKey b r j = i
  · rw [← hj, mget_mset_same]
  · rw [mget_mset_ne _ _ _ _ _ hj]
    exact h

/-- Words written zero are zero. -/
theorem mget_zeroed {j : Nat} (hj : j < 32) (b r : Nat) (a : SMap (BitVec 32)) :
    mget 0#32 ((List.range 32).foldl (fun a j => mset 0#32 a (accKey b r j) 0) a) (accKey b r j) = 0 :=
  foldl_of_mem (f := fun a j => mset 0#32 a (accKey b r j) 0) (I := fun _ => True) (P := fun a => mget 0#32 a (accKey b r j) = 0) (fun _ _ _ => trivial)
    (fun a i h => mget_zeroed_keeps [i] b r a h) (fun _ _ => mget_mset_same ..) (List.range 32) a (List.mem_range.mpr hj) trivial

theorem zeroRow_rowst (b : Nat) (x : Tile) (r : Nat) : (x.zeroRow b r).rowst = mset 0#4 x.rowst (64 * b + r) 8#4 := by
  simp only [Tile.zeroRow]

theorem zeroRow_acc (b : Nat) (x : Tile) (r : Nat) :
    (x.zeroRow b r).acc = (List.range 32).foldl (fun a j => mset 0#32 a (accKey b r j) 0) x.acc := by
  simp only [Tile.zeroRow]

theorem rowZero_zeroRow (b r : Nat) (x : Tile) : RowZero b r (x.zeroRow b r) := by
  rw [RowZero, zeroRow_rowst, zeroRow_acc]
  exact ⟨mget_mset_same .., fun j hj => mget_zeroed hj b r x.acc⟩

theorem zeroRow_keeps_rowZero {r : Nat} (x : Tile) (r' : Nat) (h : RowZero b r x) : RowZero b r (x.zeroRow b r') := by
  obtain ⟨hrow, hacc⟩ := h
  rw [RowZero, zeroRow_rowst, zeroRow_acc]
  refine ⟨?_, fun j hj => mget_zeroed_keeps _ b r' x.acc (hacc j hj)⟩
  by_cases hr : 64 * b + r' = 64 * b + r
  · rw [hr, mget_mset_same]
  · rw [mget_mset_ne _ _ _ _ _ hr, hrow]

theorem rowZero_zeroRows (x : Tile) {r : Nat} (hw : w ≤ r) (hr : r < w + k) : RowZero b r (x.zeroRows b w k) := by
  rw [zeroRows_eq]
  exact foldl_of_mem (f := Tile.zeroRow b) (I := fun _ => True) (P := RowZero b r) (fun _ _ _ => trivial) zeroRow_keeps_rowZero
    (fun x _ => rowZero_zeroRow b r x) _ x (mem_upto.mpr ⟨hw, hr⟩) trivial

theorem zeroRow_mq (b : Nat) (x : Tile) (r : Nat) : (x.zeroRow b r).mq = x.mq := by simp only [Tile.zeroRow]

theorem zeroRow_follows (b : Nat) (x : Tile) (r : Nat) : (x.zeroRow b r).follows = x.follows := by simp only [Tile.zeroRow]

theorem zeroRows_mq (x : Tile) (b w k : Nat) : (x.zeroRows b w k).mq = x.mq := foldl_keeps (Tile.zeroRow b) Tile.mq (zeroRow_mq b) (upto w k) x

theorem zeroRows_follows (x : Tile) (b w k : Nat) : (x.zeroRows b w k).follows = x.follows :=
  foldl_keeps (Tile.zeroRow b) Tile.follows (zeroRow_follows b) (upto w k) x

/-! ### A load (R424) -/

theorem mldwCause_mq (x : Tile) (rest : List MCmd) : ({ x with mq := rest } : Tile).mldwCause = x.mldwCause := rfl

/-- The handles that a load is to read (R186, R190). -/
def Tile.loadHandles (x : Tile) : Option Nat × Option Nat :=
  (if x.nibcfg.getLsbD 25 then some (x.handle (fld x.nibcfg 26 5)).inst else none, if nMode x.nibcfg = 1 then some (x.handle (fld x.nibcfg 20 5)).inst else none)

/-- A load as it enters the Nib pipe. -/
def Tile.loadRun (x : Tile) (m : MCmd) : NibRun :=
  { cmd := m, k := 0, wpos := nWpos x.nibcfg, mb := nWpos x.nibcfg / 128, smooth := x.loadHandles.1, table := x.loadHandles.2,
    taken := x.loadHandles.1.isNone, out := [] }

/-- A tile whose handles name a load. -/
def Tile.loadNamed (x : Tile) (id : Nat) (l : List Nat) : Tile :=
  l.foldl (fun (x : Tile) i => if id ∈ (x.inst i).cmds then x else x.nameCmd i id false) x

theorem arrayLeft_loadNamed (x : Tile) (id : Nat) (l : List Nat) : ArrayLeft x (x.loadNamed id l) := by
  unfold Tile.loadNamed
  refine foldl_inv _ (fun y => ArrayLeft x y) (fun y i h => ?_) _ x (.refl x)
  split
  · exact h
  · exact h.trans (arrayLeft_modInst ..)

/-- BVALID is cleared. -/
def Tile.backInvalid (x : Tile) : Tile := { x with back := { x.back with valid := false } }

/-- A load that passes its checks enters the Nib pipe. -/
theorem startMatrix_mldw (hop : m.op = .mldw) (hok : (s.tile n).mldwCause = none) : s.startMatrix n m =
    (s.modTile n Tile.backInvalid).modTile n (fun x =>
      { x.loadNamed m.seq ((s.tile n).loadHandles.1.toList ++ (s.tile n).loadHandles.2.toList) with nib := some ((s.tile n).loadRun m) }) := by
  unfold State.startMatrix
  rw [hop]
  dsimp only
  rw [hok]
  rfl

end

end Sys2Proof.Machine

namespace Sys2Proof.Machine

/-! ### The beats of a load (R179, R186, R191, R424) -/

section

variable {s : State} {n : Nat} {k : NibRun} {x y : Tile}

/-- A load takes its factors, or needs none. -/
theorem nibBeat_of_untaken (hnib : (s.tile n).nib = some k) (hop : k.cmd.op = .mldw) (htaken : k.taken = false)
    (hready : k.smooth = none ∨ ∃ i, k.smooth = some i ∧ (s.tile n).handleAhead k.cmd = false ∧ ((s.tile n).inst i).canRead 1 = true) :
    ∃ f : Tile → Tile, s.nibBeat n = s.modTile n (fun x => { f x with nib := some { k with taken := true } }) ∧ ∀ x, ArrayLeft x (f x) := by
  unfold State.nibBeat
  dsimp only
  rw [hnib]
  dsimp only
  rw [if_neg (not_not.mpr hop), htaken, Bool.not_false, if_pos rfl]
  rcases hready with hnone | ⟨i, hsome, hahead, hread⟩
  · rw [hnone]
    exact ⟨id, rfl, .refl⟩
  · rw [hsome]
    dsimp only
    rw [hahead, hread]
    exact ⟨fun x => x.modInst i (fun h => h.startRead k.cmd.seq 1), rfl, fun x => arrayLeft_modInst x i _⟩

/-- The tile once a K-row of the back plane has been written. -/
def Tile.writeRow (x : Tile) (k : NibRun) : Tile := (List.range 32).foldl (fun x j => Tile.writePe x k j) x

/-- A beat that may be made writes its K-row. -/
theorem nibBeat_of_ready (hnib : (s.tile n).nib = some k) (hop : k.cmd.op = .mldw) (htaken : k.taken = true) (hcause : (s.tile n).beatCause k = none)
    (hready : (s.tile n).beatReady k = true) (hlast : k.k = 63 → (s.tile n).lingers k.cmd.seq = false) : s.nibBeat n =
      if k.k = 63 then (s.setTile n (((s.tile n).writeRow k).advanceTables k).1.loadEnd).matrixDone n k.cmd
      else s.setTile n { (((s.tile n).writeRow k).advanceTables k).1 with nib := some { (((s.tile n).writeRow k).advanceTables k).2 with k := k.k + 1 } } := by
  have hgo : (!(s.tile n).beatReady k || (decide (k.k = 63) && (s.tile n).lingers k.cmd.seq)) = false := by
    rw [hready, Bool.not_true, Bool.false_or]
    by_cases h : k.k = 63
    · rw [hlast h, Bool.and_false]
    · rw [decide_eq_false h, Bool.false_and]
  unfold State.nibBeat
  dsimp only
  rw [hnib]
  dsimp only
  rw [if_neg (not_not.mpr hop), htaken, Bool.not_true, if_neg Bool.noConfusion, hcause]
  dsimp only
  rw [hgo, if_neg Bool.noConfusion]
  rfl

/-- What the writing of a PE changes: its place of the back plane and NIBST. -/
theorem writePe_eq (x : Tile) (k : NibRun) (j : Nat) : ∃ e c st, x.writePe k j = { x with back := { x.back with elems := e, scales := c }, nibst := st } :=
  ⟨_, _, _, rfl⟩

theorem writePe_keeps (x : Tile) (k : NibRun) (j : Nat) : (x.writePe k j).front = x.front ∧ (x.writePe k j).mxcfg = x.mxcfg ∧
    (x.writePe k j).follows = x.follows := by
  obtain ⟨e, c, st, h⟩ := writePe_eq x k j
  rw [h]
  exact ⟨rfl, rfl, rfl⟩

theorem writeRow_keeps (x : Tile) (k : NibRun) : (x.writeRow k).front = x.front ∧ (x.writeRow k).mxcfg = x.mxcfg ∧ (x.writeRow k).follows = x.follows := by
  refine ⟨?_, ?_, ?_⟩
  · exact foldl_keeps (fun x j => Tile.writePe x k j) Tile.front (fun x j => (writePe_keeps x k j).1) (List.range 32) x
  · exact foldl_keeps (fun x j => Tile.writePe x k j) Tile.mxcfg (fun x j => (writePe_keeps x k j).2.1) (List.range 32) x
  · exact foldl_keeps (fun x j => Tile.writePe x k j) Tile.follows (fun x j => (writePe_keeps x k j).2.2) (List.range 32) x

/-- The blocks that leave a ring change handles alone (R190). -/
theorem advanceTables_keeps (x : Tile) (k : NibRun) : ArrayLeft x (x.advanceTables k).1 ∧ (x.advanceTables k).1.follows = x.follows := by
  unfold Tile.advanceTables
  split
  · exact ⟨.refl x, rfl⟩
  · dsimp only
    exact ⟨arrayLeft_modInst .., rfl⟩

theorem loadEnd_eq (x : Tile) : x.loadEnd.nib = none ∧ x.loadEnd.back.valid = true ∧ x.loadEnd.back.amode = BitVec.ofNat 3 (mxMode x.mxcfg) ∧
    x.loadEnd.follows = x.follows := ⟨rfl, rfl, rfl, rfl⟩

end

/-! ### The beats of a run (R418, R427) -/

section

variable {s q : State} {n : Nat} {b : BeatRun} {x : Tile} {swap acc : Bool} {bank w inst h : Nat} {row : List Byte}

theorem tile_of_capIdle {d : Nat} (hcap : s.capIdle d = (false, q)) (n : Nat) : q.tile n = s.tile n := by
  rw [State.tile, capIdle_false hcap]
  rfl

theorem arrayBeat_of_idle (hidle : (s.capIdle (dieOf n)).1 = true) : exec (.arrayBeat n) s = .next ((s.choose 2).2.loseCycle (dieOf n)) :=
  congrArg Host.Outcome.next ((if_pos hidle).trans (capIdle_true hidle))

theorem mem_loseCycle (s : State) (d : Nat) : (s.loseCycle d).mem = s.mem := by
  unfold State.loseCycle
  split <;> rfl

theorem exec_arrayBeat_of_busy (hcap : s.capIdle (dieOf n) = (false, q)) : exec (.arrayBeat n) s = .next (q.arrayBeat n) := by
  change execArrayBeat n s = _
  unfold execArrayBeat
  rw [hcap]
  rfl

/-- The tile once a beat has read a row into an accumulator row. -/
def Tile.beaten (x : Tile) (b : BeatRun) (acc : Bool) (bank w inst : Nat) (row : List Byte) : Tile :=
  { (x.beatInto row acc bank (w + b.r)).modInst inst (fun e => if e.kind = 2#2 then e.readRow b.cmd.seq else e) with
    beat := some { b with r := b.r + 1, taken := true } }

theorem beaten_eq (x : Tile) (b : BeatRun) (acc : Bool) (bank w inst : Nat) (row : List Byte) :
    (x.beaten b acc bank w inst row).beat = some { b with r := b.r + 1, taken := true } ∧
    (x.beaten b acc bank w inst row).acc = (x.beatInto row acc bank (w + b.r)).acc ∧
    (x.beaten b acc bank w inst row).rowst = (x.beatInto row acc bank (w + b.r)).rowst := ⟨rfl, rfl, rfl⟩

/-- A beat writes accumulators and row tags alone (R168-R170). -/
theorem beatInto_keeps (x : Tile) (row : List Byte) (acc : Bool) (bank r : Nat) : ∃ a t, x.beatInto row acc bank r = { x with acc := a, rowst := t } :=
  ⟨_, _, rfl⟩

theorem beaten_keeps (x : Tile) (b : BeatRun) (acc : Bool) (bank w inst : Nat) (row : List Byte) :
    (x.beaten b acc bank w inst row).pad = x.pad ∧ (x.beaten b acc bank w inst row).mxcfg = x.mxcfg ∧
    (x.beaten b acc bank w inst row).follows = x.follows ∧ (x.beaten b acc bank w inst row).cutting = x.cutting := by
  obtain ⟨a, t, h⟩ := beatInto_keeps x row acc bank (w + b.r)
  unfold Tile.beaten
  rw [h]
  exact ⟨rfl, rfl, rfl, rfl⟩

/-- A run that has its handle and its row reads it (R427). -/
theorem arrayBeat_of_present (hx : q.tile n = x) (hbeat : x.beat = some b) (hop : b.cmd.op = .run swap acc bank w inst h) (hheld : x.nibHeld = false)
    (htaken : b.taken = true) (hmore : b.r < mxRun x.mxcfg) (hpresent : x.rowPresent b.cmd.seq inst = true)
    (hrow : row = x.padRead (x.runRow b.cmd.seq inst h b.r) (rowSize (mxMode x.mxcfg) (mxAsc x.mxcfg))) : q.arrayBeat n =
      if mxRun x.mxcfg ≤ b.r + 1 then (q.setTile n (x.beaten b acc bank w inst row)).runEnd n { b with r := b.r + 1, taken := true } swap
      else q.setTile n (x.beaten b acc bank w inst row) := by
  subst hrow
  unfold State.arrayBeat
  dsimp only
  rw [hx, hbeat]
  dsimp only
  rw [hop]
  dsimp only
  rw [hheld, if_neg Bool.noConfusion, if_neg (Nat.not_le.mpr hmore), htaken, if_pos rfl]
  dsimp only
  rw [hpresent, Bool.not_true, if_neg Bool.noConfusion]
  rfl

/-- The last row of a run that swaps no planes ends it. -/
theorem runEnd_of_last (hlinger : (q.tile n).lingers b.cmd.seq = false) :
    q.runEnd n b false = (q.modTile n (fun x => { x with beat := none })).matrixDone n b.cmd :=
  (if_neg (by rw [hlinger]; exact Bool.noConfusion)).trans (if_pos rfl)

end

end Sys2Proof.Machine

namespace Sys2Proof.Machine

/-! ### A drained row (R173, R430) -/

section

variable {s : State} {n : Nat} {b : BeatRun} {bank w k : Nat} {x : Tile}

/-- The row that a drain pushes next. -/
def Tile.drainRow (x : Tile) (b : BeatRun) (bank w : Nat) : VReg :=
  BitVec.ofNat 1024 (joinElems 32 ((List.range 32).map (fun j => (mget 0#32 x.acc (accKey bank (w + b.r) j)).toNat)))

/-- The element that a drain pushes for row v. -/
def Tile.drainElem (x : Tile) (b : BeatRun) (bank w : Nat) (v : VReg) : Elem :=
  { width := 1024, val := v, marks := BitVec.ofNat 3 (mget 0#4 x.rowst (64 * bank + (w + b.r))).toNat, poison := none }

/-- The tile once row v, not the last one, has been drained. -/
def Tile.drained (x : Tile) (b : BeatRun) (v : VReg) (cycle : Nat) : Tile :=
  { x with nanstat := BitVec.ofNat 64 (setBits x.nanstat.toNat (x.drains % 64) 1 (if nanMask v = 0 then 0 else 1)), nanAt := cycle,
           nanSet := BitVec.ofNat 64 (2 ^ (x.drains % 64)) ||| (if x.nanAt = cycle then x.nanSet else 0), drains := x.drains + 1,
           beat := some { b with r := b.r + 1 } }

theorem ending_feed (y : Ctx) (q : Nat) (e : Elem) : (y.feed q e).ending = y.ending := by
  unfold Ctx.feed
  split <;> rfl

/-- A drain that has room pushes its row and goes on. -/
theorem drainPush_of_more (hx : s.tile n = x) (hbeat : x.beat = some b) (hop : b.cmd.op = .mdrain bank w k) (hmore : b.r + 1 < k)
    (hheld : x.nibHeld = false) (hroom : (x.ctx b.cmd.ctx).room x.cutting 6 = true) : s.drainPush n =
      (s.setTile n (x.drained b (x.drainRow b bank w) s.cycle)).modCtx n b.cmd.ctx (fun y => y.feed 6 (x.drainElem b bank w (x.drainRow b bank w))) := by
  subst hx
  unfold State.drainPush
  dsimp only
  rw [hbeat]
  dsimp only
  rw [hop]
  dsimp only
  rw [hheld, hroom, decide_eq_false (Nat.not_le.mpr hmore)]
  simp only [if_neg (Nat.not_le.mpr hmore)]
  rfl

/-- A task that goes on after a row of its drain is not ended by it. -/
theorem drainRowPush_of_more (hx : s.tile n = x) (hbeat : x.beat = some b) (hop : b.cmd.op = .mdrain bank w k) (hmore : b.r + 1 < k)
    (hheld : x.nibHeld = false) (hroom : (x.ctx b.cmd.ctx).room x.cutting 6 = true) (hend : (x.ctx b.cmd.ctx).ending = false) :
    exec (.drainRowPush n) s = .next ((s.setTile n (x.drained b (x.drainRow b bank w) s.cycle)).modCtx n b.cmd.ctx
      (fun y => y.feed 6 (x.drainElem b bank w (x.drainRow b bank w)))) := by
  change execDrainRowPush n s = _
  unfold execDrainRowPush
  dsimp only
  rw [drainPush_of_more hx hbeat hop hmore hheld hroom, hx, hbeat]
  refine congrArg Host.Outcome.next (taskEnd_of_going ?_)
  rw [ctx_modCtx, ending_feed, State.ctx, tile_setTile]
  exact hend

end

/-! ### A table that is built (R440, R470) -/

section

variable {s : State} {n inst src : Nat} {k : NibRun} {cmd : W64} {x : Tile} {l : List Nat} {p : Piece} {ps : List Piece}

/-- The tile once a CBLD has been accepted. -/
def Tile.cbldTaken (x : Tile) (k : NibRun) (inst src : Nat) : Tile :=
  { (x.modInst src (fun h => h.startRead k.cmd.seq 1)).modInst inst (fun h => h.startWrite k.cmd.seq 1) with nib := some { k with taken := true } }

theorem cbldBuild_of_untaken (hx : s.tile n = x) (hnib : x.nib = some k) (hop : k.cmd.op = .cbld cmd inst src) (htaken : k.taken = false)
    (hblock : isBlock (x.alloc src) 0 = true) (hring : isRing (x.alloc inst) 0 = true) (hahead : x.handleAhead k.cmd = false)
    (hread : (x.inst src).canRead 1 = true) (hwrite : (x.inst inst).canWrite k.cmd.seq 1 = true) :
    s.cbldBuild n = s.setTile n (x.cbldTaken k inst src) := by
  subst hx
  unfold State.cbldBuild
  dsimp only
  rw [hnib]
  dsimp only
  rw [hop]
  dsimp only
  rw [htaken, Bool.not_false, if_pos rfl, hblock, hring, hahead, hread, hwrite]
  rfl

/-- The table that a CBLD makes where its row has room for it. -/
theorem cbldRow_of_fits {src row : HEntry} (hl : (cbldEntries x cmd src).bind (fun l => l.mapM (cbldEntry cmd)) = some l)
    (hfit : l.length * entrySize (fld cmd 14 2) ≤ row.size) : cbldRow x cmd src row = some (l.flatMap (toBytes (entrySize (fld cmd 14 2)))) := by
  unfold cbldRow
  rw [hl]
  exact if_neg (Nat.not_lt.mpr hfit)

theorem cbldRow_of_bad {src row : HEntry} (hl : (cbldEntries x cmd src).bind (fun l => l.mapM (cbldEntry cmd)) = none) :
    cbldRow x cmd src row = none := by
  unfold cbldRow
  rw [hl]

/-- An accepted CBLD makes its row, or fails. -/
theorem cbldBuild_of_accepted (hx : s.tile n = x) (hnib : x.nib = some k) (hop : k.cmd.op = .cbld cmd inst src) (htaken : k.taken = true) (hk : k.k = 0) :
    s.cbldBuild n = (cbldRow x cmd (x.inst src) (x.inst inst)).elim (s.cbldFail n k.cmd cmd) (fun a =>
      s.setTile n { x with nib := some { k with k := 1, out := wordPieces (a.length / 16 + 2) ((x.inst inst).wbase k.cmd.seq) a } }) := by
  subst hx
  unfold State.cbldBuild
  dsimp only
  rw [hnib]
  dsimp only
  rw [hop]
  dsimp only
  rw [htaken, Bool.not_true, if_neg Bool.noConfusion, if_pos hk]
  cases cbldRow (s.tile n) cmd ((s.tile n).inst src) ((s.tile n).inst inst) with
  | none => rfl
  | some a => rfl

theorem cbldBuild_of_piece (hx : s.tile n = x) (hnib : x.nib = some k) (hop : k.cmd.op = .cbld cmd inst src) (htaken : k.taken = true) (hk : k.k ≠ 0)
    (hout : k.out = p :: ps) : s.cbldBuild n = s.setTile n { x.padWrite p.1 p.2 with nib := some { k with out := ps } } := by
  subst hx
  unfold State.cbldBuild
  dsimp only
  rw [hnib]
  dsimp only
  rw [hop]
  dsimp only
  rw [htaken, Bool.not_true, if_neg Bool.noConfusion, if_neg hk, hout]

theorem cbldBuild_of_built (hx : s.tile n = x) (hnib : x.nib = some k) (hop : k.cmd.op = .cbld cmd inst src) (htaken : k.taken = true) (hk : k.k ≠ 0)
    (hout : k.out = []) (hlinger : x.lingers k.cmd.seq = false) (hends : x.ends k.cmd.seq none = none) :
    s.cbldBuild n = (s.setTile n { x with nib := none }).engineDone n k.cmd.seq (fld cmd 36 20) (cbldBytes cmd) none := by
  subst hx
  unfold State.cbldBuild
  dsimp only
  rw [hnib]
  dsimp only
  rw [hop]
  dsimp only
  rw [htaken, Bool.not_true, if_neg Bool.noConfusion, if_neg hk, hout]
  dsimp only
  rw [hlinger, if_neg Bool.noConfusion, hends]

end

/-! ### A trellis definition (R192, R441) -/

section

variable {s : State} {n slot inst : Nat} {k : NibRun} {x : Tile}

/-- The Brush has accepted every earlier job. -/
theorem brush_any_unstarted {l : List BJob} {id : Nat} (h : ∀ j, j ∈ l → j.seq < id → j.started = true) :
    l.any (fun j => decide (j.seq < id) && !j.started) = false := by
  refine List.any_eq_false.mpr fun j hj => ?_
  by_cases hlt : j.seq < id
  · rw [h j hj hlt, Bool.not_true, Bool.and_false]
    exact Bool.noConfusion
  · rw [decide_eq_false hlt, Bool.false_and]
    exact Bool.noConfusion

/-- The tile once a TRDEF has been accepted. -/
def Tile.trdefTaken (x : Tile) (k : NibRun) (inst : Nat) : Tile :=
  { x.modInst inst (fun h => h.startRead k.cmd.seq 1) with nib := some { k with taken := true } }

theorem trdefExecute_of_untaken (hx : s.tile n = x) (hnib : x.nib = some k) (hop : k.cmd.op = .trdef slot inst) (htaken : k.taken = false)
    (hblock : isBlock (x.alloc inst) 0 = true) (hahead : x.handleAhead k.cmd = false) (hread : (x.inst inst).canRead 1 = true)
    (hbrush : ∀ j, j ∈ x.brush → j.seq < k.cmd.seq → j.started = true) : s.trdefExecute n = s.setTile n (x.trdefTaken k inst) := by
  subst hx
  unfold State.trdefExecute
  dsimp only
  rw [hnib]
  dsimp only
  rw [hop]
  dsimp only
  rw [htaken, Bool.not_false, if_pos rfl, hblock, hahead, hread, brush_any_unstarted hbrush]
  rfl

/-- A slot that takes its definition, the Nib free. -/
def Tile.trdefined (slot : Nat) (d : TrDef) (x : Tile) : Tile := { x with trdefs := mput x.trdefs slot d, nib := none }

/-- An accepted TRDEF loads its slot, or fails. -/
theorem trdefExecute_of_accepted (hx : s.tile n = x) (hnib : x.nib = some k) (hop : k.cmd.op = .trdef slot inst) (htaken : k.taken = true)
    (hlinger : x.lingers k.cmd.seq = false) : s.trdefExecute n = (readTrDef x (x.inst inst)).elim (s.matrixFail n k.cmd 0x43#7)
      (fun d => (s.modTile n (Tile.trdefined slot d)).matrixDone n k.cmd) := by
  subst hx
  unfold State.trdefExecute
  dsimp only
  rw [hnib]
  dsimp only
  rw [hop]
  dsimp only
  rw [htaken, Bool.not_true, if_neg Bool.noConfusion, hlinger, if_neg Bool.noConfusion]
  cases readTrDef (s.tile n) ((s.tile n).inst inst) with
  | none => rfl
  | some d => rfl

end

end Sys2Proof.Machine

namespace Sys2Proof.Machine

/-! ### What each event of the array leaves (R417-R441) -/

section

variable {s q : State} {n : Nat} {m : MCmd} {rest : List MCmd} {k : NibRun} {b : BeatRun} {bank w inst h : Nat} {row : List Byte} {x : Tile} {acc : Bool}

/-- The register that MCFG sets (R422). -/
def Tile.mxcfgSet (v : BitVec 16) (x : Tile) : Tile := { x with mxcfg := v }

/-- The register that NIBSET sets (R437). -/
def Tile.nibcfgSet (v : BitVec 128) (x : Tile) : Tile := { x with nibcfg := v, nibFresh := true }

/-- A legal MCFG sets its register and completes. -/
theorem started_mcfg {v : BitVec 16} (hop : m.op = .mcfg v) (hends : (s.tile n).ends m.seq none = none)
    (h1 : mxMode v ≠ 1 → v.getLsbD 3 = false ∧ v.getLsbD 4 = false) (h2 : mxMode v ≠ 2 → v.getLsbD 12 = false) :
    ArrayLeft (Tile.mxcfgSet v { s.tile n with mq := rest }) (((s.mqPopped n rest).startMatrix n m).tile n) := by
  rw [startMatrix_mcfg hop h1 h2]
  exact arrayLeft_atOnce (f := Tile.mxcfgSet v) hends fun _ => rfl

theorem started_nibset {v : BitVec 128} (hop : m.op = .nibset v) (hends : (s.tile n).ends m.seq none = none) (hok : nibBad v = false) :
    ArrayLeft (Tile.nibcfgSet v { s.tile n with mq := rest }) (((s.mqPopped n rest).startMatrix n m).tile n) := by
  rw [startMatrix_nibset hop hok]
  exact arrayLeft_atOnce (f := Tile.nibcfgSet v) hends fun _ => rfl

theorem started_mswap (hop : m.op = .mswap) (hends : (s.tile n).ends m.seq none = none) (hvalid : (s.tile n).back.valid = true) :
    ArrayLeft (Tile.swapPlanes { s.tile n with mq := rest }) (((s.mqPopped n rest).startMatrix n m).tile n) := by
  rw [startMatrix_mswap hop (by rw [tile_mqPopped]; exact hvalid)]
  exact arrayLeft_atOnce (f := Tile.swapPlanes) hends fun _ => rfl

theorem started_mzero {b w k : Nat} (hop : m.op = .mzero b w k) (hends : (s.tile n).ends m.seq none = none) (hfit : w + k ≤ 64) :
    ArrayLeft (Tile.zeroRows { s.tile n with mq := rest } b w k) (((s.mqPopped n rest).startMatrix n m).tile n) := by
  rw [startMatrix_mzero hop hfit]
  exact arrayLeft_atOnce (f := fun x => x.zeroRows b w k) hends fun x => zeroRows_follows x b w k

/-- A load that starts clears BVALID and enters the Nib pipe. -/
theorem started_mldw (hop : m.op = .mldw) (hok : (s.tile n).mldwCause = none) : ∃ y : Tile, ArrayLeft (Tile.backInvalid { s.tile n with mq := rest }) y ∧
    ((s.mqPopped n rest).startMatrix n m).tile n = { y with nib := some ((s.tile n).loadRun m) } := by
  rw [startMatrix_mldw hop (by rw [tile_mqPopped, mldwCause_mq]; exact hok), tile_modTile, tile_modTile, tile_mqPopped]
  exact ⟨_, arrayLeft_loadNamed _ _ _, rfl⟩

/-- The last beat of a load sets the cursor and BVALID, and the load completes (R424). -/
theorem arrayLeft_loadEnd (hends : (s.tile n).ends k.cmd.seq none = none) :
    ArrayLeft (((s.tile n).writeRow k).advanceTables k).1.loadEnd
      (((s.setTile n (((s.tile n).writeRow k).advanceTables k).1.loadEnd).matrixDone n k.cmd).tile n) := by
  obtain ⟨_, _, hrow⟩ := writeRow_keeps (s.tile n) k
  obtain ⟨_, hadvance⟩ := advanceTables_keeps ((s.tile n).writeRow k) k
  obtain ⟨_, _, _, hend⟩ := loadEnd_eq (((s.tile n).writeRow k).advanceTables k).1
  have hleft := arrayLeft_matrixDone (q := s.setTile n (((s.tile n).writeRow k).advanceTables k).1.loadEnd) hends
    (by rw [tile_setTile, hend, hadvance, hrow])
  rwa [tile_setTile] at hleft

/-- The last row of a run is read, and the run completes (R427). -/
theorem arrayLeft_beaten_last {r : BeatRun} (hr : r.cmd = b.cmd) (hlinger : x.lingers b.cmd.seq = false) (hends : x.ends b.cmd.seq none = none) :
    ArrayLeft { x.beaten b acc bank w inst row with beat := none } (((q.setTile n (x.beaten b acc bank w inst row)).runEnd n r false).tile n) := by
  obtain ⟨_, _, hfollows, hcut⟩ := beaten_keeps x b acc bank w inst row
  have htile : ((q.setTile n (x.beaten b acc bank w inst row)).modTile n (fun x => { x with beat := none })).tile n =
      { x.beaten b acc bank w inst row with beat := none } := by rw [tile_modTile, tile_setTile]
  rw [runEnd_of_last (by rw [tile_setTile, hr, lingers_congr hfollows hcut, hlinger]), hr, ← htile]
  exact arrayLeft_matrixDone hends (by rw [htile]; exact hfollows)

/-- A TRDEF that has loaded its slot completes. -/
theorem arrayLeft_trdefined {slot : Nat} {d : TrDef} (hends : (s.tile n).ends m.seq none = none) :
    ArrayLeft ((s.tile n).trdefined slot d) (((s.modTile n (Tile.trdefined slot d)).matrixDone n m).tile n) := by
  have hleft := arrayLeft_matrixDone (q := s.modTile n (Tile.trdefined slot d)) hends (by rw [tile_modTile]; rfl)
  rwa [tile_modTile] at hleft

/-- A tile whose context has taken an element has the rest as it was. -/
theorem arrayLeft_modCtx (s : State) (n c : Nat) (f : Ctx → Ctx) : ArrayLeft (s.tile n) ((s.modCtx n c f).tile n) ∧
    ((s.modCtx n c f).tile n).drains = (s.tile n).drains ∧ ((s.modCtx n c f).tile n).nanstat = (s.tile n).nanstat := by
  obtain ⟨y0, y1, h⟩ := tile_modCtx_contexts s n c f
  rw [h]
  exact ⟨⟨rfl, rfl, rfl, rfl, rfl, rfl, rfl, rfl, rfl, rfl, rfl, rfl⟩, rfl, rfl⟩

end

end Sys2Proof.Machine

open Sys2Proof Sys2Proof.Machine in
/-- Settles O54: each command, beat and build of the array and the Nib, by what it leaves of its tile. -/
theorem arrayEvents : Obligations.ArrayEvents := by
  unfold Obligations.ArrayEvents
  intro s n
  refine ⟨fun m rest hq hwait => matrixCommandStart_of_waiting hq hwait, fun m rest hq hmay hcut => ?start, ?take, ?beat, ?array, ?idle, ?drain, ?cbld, ?trdef⟩
  case start =>
    have hstart := matrixCommandStart_of_head hq hmay hcut
    refine ⟨hstart, fun v hop hends h1 h2 => ?mcfg, fun v hop hends hok => ?nibset, fun hop hok => ?mldw, fun hop hends hvalid => ?mswap,
      fun b w k hop hends hfit => ?mzero⟩
    case mcfg =>
      have hleft := started_mcfg (rest := rest) hop hends h1 h2
      exact ⟨_, hstart, hleft.mxcfg, hleft.mq, hleft.acc⟩
    case nibset =>
      have hleft := started_nibset (rest := rest) hop hends hok
      exact ⟨_, hstart, hleft.nibcfg, hleft.nibFresh, hleft.mq⟩
    case mldw =>
      obtain ⟨y, hleft, htile⟩ := started_mldw (rest := rest) hop hok
      refine ⟨_, (s.tile n).loadRun m, hstart, ?_⟩
      rw [htile]
      exact ⟨congrArg Plane.valid hleft.back, rfl, rfl, rfl, hleft.front, hleft.mq⟩
    case mswap =>
      have hleft := started_mswap (rest := rest) hop hends hvalid
      exact ⟨_, hstart, hleft.front, hleft.back, hleft.mq, hleft.acc⟩
    case mzero =>
      have hleft := started_mzero (rest := rest) hop hends hfit
      refine ⟨_, hstart, hleft.mq.trans (zeroRows_mq _ b w k), fun r hw hr => ?_⟩
      rw [hleft.rowst, hleft.acc]
      exact rowZero_zeroRows _ hw hr
  case take =>
    rintro k c hnib hop htaken hready rfl
    obtain ⟨f, hbeat, hleft⟩ := nibBeat_of_untaken hnib hop htaken hready
    refine ⟨_, congrArg Host.Outcome.next hbeat, ?_⟩
    rw [tile_modTile]
    exact ⟨rfl, (hleft _).back⟩
  case beat =>
    rintro k y hnib hop htaken hcause hready rfl
    refine ⟨fun hk => ?_, fun hk hlinger hends => ?_⟩
    · refine ⟨_, congrArg Host.Outcome.next ((nibBeat_of_ready hnib hop htaken hcause hready fun h => absurd h hk).trans (if_neg hk)), ?_⟩
      obtain ⟨hleft, _⟩ := advanceTables_keeps ((s.tile n).writeRow k) k
      obtain ⟨hfront, _, _⟩ := writeRow_keeps (s.tile n) k
      rw [tile_setTile]
      exact ⟨rfl, hleft.front.trans hfront, congrArg Plane.elems hleft.back, congrArg Plane.scales hleft.back⟩
    · refine ⟨_, congrArg Host.Outcome.next ((nibBeat_of_ready hnib hop htaken hcause hready fun _ => hlinger).trans (if_pos hk)), ?_⟩
      have hleft := arrayLeft_loadEnd (k := k) hends
      obtain ⟨hnone, hvalid, hmode, _⟩ := loadEnd_eq (((s.tile n).writeRow k).advanceTables k).1
      obtain ⟨hadvance, _⟩ := advanceTables_keeps ((s.tile n).writeRow k) k
      obtain ⟨_, hcfg, _⟩ := writeRow_keeps (s.tile n) k
      rw [hleft.nib, hleft.back, hmode, hadvance.mxcfg, hcfg]
      exact ⟨hnone, hvalid, rfl⟩
  case array =>
    intro b swap acc bank w inst h row x q hx hbeat hop hheld htaken hcap hpresent hrow
    have hexec := exec_arrayBeat_of_busy hcap
    obtain ⟨hrun, hacc, hrowst⟩ := beaten_eq x b acc bank w inst row
    obtain ⟨hpad, _, _, _⟩ := beaten_keeps x b acc bank w inst row
    have hbeats (hmore : b.r < mxRun x.mxcfg) := arrayBeat_of_present ((tile_of_capIdle hcap n).trans hx.symm) hbeat hop hheld htaken hmore hpresent hrow
    refine ⟨fun hmore => ?_, fun hlast hswap hlinger hends => ?_⟩
    · refine ⟨_, hexec.trans (congrArg Host.Outcome.next ((hbeats (Nat.lt_of_succ_lt hmore)).trans (if_neg (Nat.not_le.mpr hmore)))), ?_⟩
      rw [tile_setTile]
      exact ⟨hrun, hacc, hrowst, hpad⟩
    · subst hswap
      have hleft := arrayLeft_beaten_last (q := q) (n := n) (b := b) (acc := acc) (bank := bank) (w := w) (inst := inst) (row := row)
        (r := { b with r := b.r + 1, taken := true }) rfl hlinger hends
      exact ⟨_, hexec.trans (congrArg Host.Outcome.next ((hbeats (Nat.lt_of_succ_le hlast.le)).trans (if_pos hlast.ge))), hleft.beat, hleft.acc.trans hacc,
        hleft.rowst.trans hrowst, hleft.pad.trans hpad⟩
  case idle =>
    intro hidle
    obtain ⟨htiles, _, _⟩ := lostCyc_loseCycle (s.choose 2).2 (dieOf n)
    exact ⟨_, arrayBeat_of_idle hidle, htiles, mem_loseCycle (s.choose 2).2 (dieOf n)⟩
  case drain =>
    rintro b bank w k e x hx hbeat hop hmore hheld hroom hend rfl
    obtain ⟨hleft, hdrains, hnan⟩ := arrayLeft_modCtx (s.setTile n (x.drained b (x.drainRow b bank w) s.cycle)) n b.cmd.ctx
      (fun y => y.feed 6 (x.drainElem b bank w (x.drainRow b bank w)))
    refine ⟨_, drainRowPush_of_more hx.symm hbeat hop hmore hheld hroom hend, hleft.beat.trans ?beat, hdrains.trans ?drains, hleft.acc.trans ?acc,
      hnan.trans ?nan, ?ctx⟩
    case beat => rw [tile_setTile]; rfl
    case drains => rw [tile_setTile]; rfl
    case acc => rw [tile_setTile]; rfl
    case nan => rw [tile_setTile]; rfl
    case ctx =>
      rw [ctx_modCtx, State.ctx, tile_setTile]
      rfl
  case cbld =>
    intro k cmd inst src x hx hnib hop
    refine ⟨fun htaken hblock hring hahead hread hwrite => ?untaken, fun l a htaken hk hl hfit ha => ?read, fun htaken hk hl => ?bad,
      fun p l htaken hk hout => ?piece, fun htaken hk hout hlinger hends => ?built⟩
    case untaken =>
      refine ⟨_, congrArg Host.Outcome.next (cbldBuild_of_untaken hx.symm hnib hop htaken hblock hring hahead hread hwrite), ?_, ?_, rfl⟩
      · rw [tile_setTile]; rfl
      · rw [tile_setTile]; rfl
    case read =>
      have hsize : fld cmd 14 2 = cmd.toNat / 2 ^ 14 % 4 := fld_eq cmd 14 2
      rw [← hsize] at hfit ha
      subst ha
      refine congrArg Host.Outcome.next ((cbldBuild_of_accepted hx.symm hnib hop htaken hk).trans ?_)
      rw [cbldRow_of_fits hl hfit]
      rfl
    case bad =>
      refine congrArg Host.Outcome.next ((cbldBuild_of_accepted hx.symm hnib hop htaken hk).trans ?_)
      rw [cbldRow_of_bad hl]
      rfl
    case piece => exact congrArg Host.Outcome.next (cbldBuild_of_piece hx.symm hnib hop htaken hk hout)
    case built =>
      rw [← fld_eq cmd 36 20]
      exact congrArg Host.Outcome.next (cbldBuild_of_built hx.symm hnib hop htaken hk hout hlinger hends)
  case trdef =>
    intro k slot inst x hx hnib hop
    refine ⟨fun htaken hblock hahead hread hbrush => ?untaken, fun d htaken hlinger hends hread => ?read, fun htaken hlinger hread => ?bad⟩
    case untaken =>
      refine ⟨_, congrArg Host.Outcome.next (trdefExecute_of_untaken hx.symm hnib hop htaken hblock hahead hread hbrush), ?_, ?_⟩
      · rw [tile_setTile]; rfl
      · rw [tile_setTile]; rfl
    case read =>
      have hexec := (trdefExecute_of_accepted hx.symm hnib hop htaken hlinger).trans (congrArg (fun o => Option.elim o _ _) hread)
      refine ⟨_, congrArg Host.Outcome.next hexec, ?_⟩
      have hleft := arrayLeft_trdefined (slot := slot) (d := d) (hx ▸ hends)
      exact ⟨(congrArg (fun l => mfind l slot) hleft.trdefs).trans (mfind_mput_same ..), hleft.nib⟩
    case bad =>
      have hexec := (trdefExecute_of_accepted hx.symm hnib hop htaken hlinger).trans (congrArg (fun o => Option.elim o _ _) hread)
      exact congrArg Host.Outcome.next hexec
